-- ==== Sys2Proof/Word.lean ====
section
/-!
DEFINITION. The 32-bit word of registers, windows, spine values and quires, and the byte.
-/

namespace Sys2Proof

/-- One 32-bit word: a register, a spine value (S28T4) or a quarter of a quire (R29, R477). -/
abbrev Word := BitVec 32

/-- One byte of a signature, a frame or a record. -/
abbrev Byte := BitVec 8

/-- The native 128-bit word (R34). -/
abbrev Quire := BitVec 128

end Sys2Proof
end

