-- ==== Sys2Proof/Syntax.lean ====
section
/-!
DEFINITION. The commands the block takes and the operands they carry. An operand of an event is what the outside world
or a clock gives the part in that event: a converter's value, a burst as received, a pin.
-/

namespace Sys2Proof

/-- The four origins of a register access, in their order of service (R485). -/
inductive Origin where
  | hpb | qspi | i2ct | mc
  deriving DecidableEq, Repr

/-- The number of an origin, as the fresh marks count them. -/
def Origin.num : Origin → Nat
  | .hpb => 0
  | .qspi => 1
  | .i2ct => 2
  | .mc => 3


/-- A frame at an S/PDIF receiver (R209): its length in core cycles, whether its preambles are correct, whether it starts a block, and time
slots 4 to 31 of its two subframes, slot 4 in bit 0. -/
structure SpdifIn where
  period : Nat
  preambles : Bool
  first : Bool
  a : BitVec 28
  b : BitVec 28
  deriving DecidableEq, Repr

/-- Sense words of a speaker channel for a tick (R349): mean voltage and load current, peak current, temperature code. -/
structure SenseIn where
  volt : BitVec 32
  curr : BitVec 32
  peak : Nat
  temp : BitVec 8
  deriving DecidableEq, Repr

/-- What the boost measures in a tick (R384): means of PVIN and PVDD in mV and of the input current in mA, temperature code,
mean currents of the four phases, whether the input limit acted, the channels of the backstop clip. -/
structure BoostIn where
  pvin : Nat
  pvdd : Nat
  iin : Nat
  temp : BitVec 8
  phases : BitVec 32
  limit : Bool
  sag : BitVec 8
  deriving DecidableEq, Repr

/-- A frame as an Ethernet port receives it whole (R423-R425, R433): the core cycle in which it ends and the core cycles since its
start delimiter; its bytes from the destination address to the end of the payload, without FCS; whether it is a verify (1) or
respond (2) mPacket; whether the FCS is right, the reassembly keeps the rules, the words of the FIFO were good, and the entry of the
bridge table read for it was good. -/
structure EthIn where
  cyc : Fin 5120
  since : Nat
  bytes : List Byte
  mp : Fin 3
  fcsOk : Bool
  mergeOk : Bool
  fifoOk : Bool
  tableOk : Bool
  deriving DecidableEq, Repr

/-- A burst as a stitch-link receiver takes it (R19, R20): its quires, the catchword that closed it, the receiver's cycle, and how
many core cycles the receiving die's frame boundary is off (R72). -/
structure BurstIn where
  quires : List (BitVec 128)
  cw : BitVec 128
  cyc : Fin 5120
  phase : Nat
  deriving DecidableEq, Repr

/-- What the hardware finds in a tick, as its end brings it to the fault manager and the blocks: spine sources whose producers missed
it (R49); uncorrectable slots of the next tick, as lane and sinks, and corrected ones (R248); damaged and corrected crosspoints
(R254); damaged playout words, as receive channels (R460); quires of the pools found by engines or scrubbers, as pool (0 cell,
1 effect, 2 delay), quire and whether it is beyond repair (R37, R38); buffer words of the converters, as channel, place
from the oldest and whether beyond repair (R236); words of input delay lines, as decimator or 48 + control channel, age and whether
beyond repair (R145); entries of the queue tables, as owner queue, and whether both copies are bad (R413);
counts that slipped, as kind (0 crossing, 1 serial port, 2 S/PDIF receiver, 3 Zinkor stream, 4 stamps, 5 free list) and unit (R529); the levels of
PDM_D0 to PDM_D7 at the 16 rising and the 16 falling edges of their clocks, first edge in bit 0, none for an open line (R203, R206);
the smallest slack of the delay monitors (R98); the sense words of the speakers and what the boost measured; the codes of the
jack-sense converter (R315), and the outputs and CV channels that the converter die found in current limit (R304, R338). -/
structure TickIn where
  missed : List Nat
  slots : List (Nat × List Nat)
  slotsFixed : Nat
  crosspoints : List Nat
  crosspointsFixed : Nat
  playout : List Nat
  quires : List (Nat × Nat × Bool)
  buffers : List (Nat × Nat × Bool)
  history : List (Nat × Nat × Bool)
  tables : List (Nat × Bool)
  counts : List (Nat × Nat)
  pdm : List (Nat × Nat)
  slack : Option Nat
  sense : List SenseIn
  boost : Option BoostIn
  jacks : List Nat
  outLimited : List Nat
  cvLimited : List Nat
  deriving DecidableEq, Repr

/-- A moment at one of `n` ports: the core cycle of the event, and the port. -/
structure PortAt (n : Nat) where
  cyc : Fin 5120
  p : Fin n
  deriving DecidableEq, Repr

/-- A collision at the 10BASE-T1S port (R439): its core cycle, and whether it came after the first 64 bytes. -/
structure CollisionIn where
  cyc : Fin 5120
  late : Bool
  deriving DecidableEq, Repr

/-- How a conversion is asked for (R165, R170): the code of its reference, and left-aligned or not. -/
structure ConvForm where
  ref : Fin 4
  left : Bool
  deriving DecidableEq, Repr

/-- The rails of R85. -/
inductive Rail where
  | vcore | vser | vddio | vdda | vah | pvin
  deriving DecidableEq, Repr

/-- What the part takes at the release of a power-on reset: whether VDDIO stands above 1.45 V (R86), and the factory OTP items
without a VALID word, each with the index of the page of the block that uses it (R554). -/
structure PorIn where
  io18 : Bool
  trims : List (Nat × Nat)
  deriving DecidableEq, Repr

/-- The commands of the block: one constructor per row of the table of operations and events; those with operands
come first, each group in the order of the table. -/
inductive Instr where
  /-- R44. The tick count rises by 1 at core cycle 0, and every tick-bound block starts its work for the new tick. -/
  | tickBoundary (w : TickIn)
  /-- R18. In window D a die sends the data burst of the tick, closed by its catchword, on each stitch link direction. -/
  | dataBurstSend (d : Fin 4) (frame : List (BitVec 128))
  /-- R24. In window C a die sends its control burst, re-issuing undelivered command and result quires at its head. -/
  | controlBurstSend (d : Fin 4) (cyc : Fin 5120)
  /-- R20. A receiver takes a burst whole, checks its CRC, BSN and tick, and accepts it or declares it lost. -/
  | stitchBurstReceive (d : Fin 4) (b : BurstIn)
  /-- R20. No catchword closes the expected window by 64 cycles after its end, so the burst is declared lost and a retry requested. -/
  | burstWindowTimeout (d : Fin 4) (w : Fin 4)
  /-- R21. A sender receives a retry request carrying a BSN and schedules the replay of that burst. -/
  | retryRequest (d : Fin 4) (bsn : Fin 4294967296)
  /-- R21. In window B of the same tick or window A of the next, the sender sends a requested burst again from its retry buffer. -/
  | burstReplay (d : Fin 4) (a : Bool)
  /-- R22. At cycle 2,048 the receiving die takes the contents of the previous tick's bursts. -/
  | takePoint (cyc : Fin 5120)
  /-- R25. The partner die answers the training sequence offered at a tick boundary and lane training begins. -/
  | linkTrainingAnswer (l : Fin 2)
  /-- R25. Training of the lanes completes and the core die starts sending the die its live configuration. -/
  | lanesTrained (l : Fin 2)
  /-- R516. The complete live configuration is in place on a retrained die, LSTATE becomes up and its outputs may return. -/
  | liveConfigTransferDone (l : Fin 2)
  /-- R530. In window G a credit ordered set is checked against commands issued and applied; a failure is LINK_CONSERVE. -/
  | creditSetReceive (d : Fin 4) (seq : Nat) (ok : Bool)
  /-- R575. RESET_N held low past the glitch filter puts the whole part in its reset state. -/
  | resetAssert (stage : Fin 5)
  /-- R68. RESET_N rises with the POR rails up, OTP is read, memories are cleared and PLL_C starts its lock to IOSC. -/
  | resetRelease (por : PorIn)
  /-- R39. A die loses its supply and its pins take the unpowered states within 1 µs. -/
  | dieSupplyLoss (die : Fin 3) (stage : Fin 5)
  /-- R68. PLL_C locks to IOSC and TICK 0 begins in PRELOCK. -/
  | pllcLock (band : Fin 64) (after : Nat)
  /-- R70. An 8-tick edge-count window of the selected source ends and is judged good or failed towards qualification. -/
  | refQualWindow (nref : Bool) (edges : Nat) (xtalLow : Bool)
  /-- R73. The selected audio source is lost and the part enters holdover on IOSC. -/
  | refLoss (xtalLow : Bool)
  /-- R66. A band search of PLL_M, PLL_P or PLL_N ends and the PLL declares lock or LOCK_FAIL. -/
  | pllLock (pll : Fin 3) (ok : Bool) (band : Fin 64)
  /-- R74. A write of a new REF_SEL starts a hitless change through holdover, qualification and slew. -/
  | refSelChange (sel : Fin 2)
  /-- R75. PLL_M, PLL_P or PLL_N unlocks, its outputs are made safe and an automatic relock starts. -/
  | pllUnlock (pll : Fin 3)
  /-- R81. At a tick with TICK[9:0] = 0 the media-clock servo takes a phase sample and updates the steer word within its bounds. -/
  | servoSample (cyc : Fin 5120) (err : Int)
  /-- R90. A rail comparator crosses below its threshold and the part takes that rail's action within 1 tick. -/
  | railUndervoltage (rail : Rail) (cold : Bool) (stage : Fin 5)
  /-- R90. A rail has stayed above its release threshold for 10 ms and its functions restart. -/
  | railRecover (rail : Rail) (por : PorIn)
  /-- R91. PVIN crosses the PVIN_FULL thresholds and speaker and boost derating starts or ends. -/
  | pvinFullChange (full : Bool)
  /-- R92. VDDIO crosses the power-fail thresholds and non-volatile writes are blocked or allowed again. -/
  | pfVioChange (low : Bool)
  /-- R96. A write of PS_REQ requests a power state, held if a move is under way. -/
  | powerStateRequest (req : Fin 4)
  /-- R100. An AVSBus transaction completes or fails; failures are retried and after three AVS_FAIL is set. -/
  | avsTransactionDone (ok complete : Bool) (mv ma : Nat)
  /-- R101. A write of a VCORE bound or headband is clamped and, if moved past VSET, sent at once as the new target. -/
  | vcoreBoundWrite (o : Origin) (k : Fin 4) (data : Word)
  /-- R107. A timed step of the mode-change sequence ends and the next step starts. -/
  | ainModeStepDone (n : Fin 32)
  /-- R109. A bias output in current limit for 1 ms is turned off and MICB_OC is logged. -/
  | micbOc (k : Fin 8)
  /-- R112. At modulator cycle 12 of the next frame the converter die evaluates each modulator's self-checks into its status word. -/
  | modulatorStatus (words : List (Fin 64 × BitVec 16))
  /-- R114. Path L has stayed below the return level for HOLD ms and the L→H crossfade starts. -/
  | mergeReturn (n : Fin 32)
  /-- R117. At the end of a 64-tick block the match loop updates the gain and delay offsets and its state. -/
  | matchBlock (n : Fin 32) (cyc : Fin 5120) (gainErr delayErr : Int)
  /-- R125. A write of RESTORE starts a 1,024-tick background test of the path or channel taken out. -/
  | ainRestore (n : Fin 32)
  /-- R527. A 1,024-tick restore test ends and the unit is readmitted on a pass or kept out and logged again. -/
  | guardRestoreTestEnd (unit : Fin 64) (idx : Fin 64) (pass : Bool) (failed : List Nat)
  /-- R131. A control input sample missing 4 ticks after its expected tick is replaced by the previous one and SRC_STALL is logged. -/
  | controlSampleLate (c : Fin 32)
  /-- R148. DECIDE_T passes with the comparator still UNDECIDED and AMBIG is posted once. -/
  | comparatorAmbig (c : Fin 32) (k : Fin 2)
  /-- R150. A peak span of PEAK_WIN output values ends and PEAK is posted with the largest value. -/
  | peakCapture (c : Fin 32)
  /-- R149. A FORCE code of 1 sets a comparator LOW and FORCED without an event. -/
  | comparatorForceLow (c : Fin 32) (k : Fin 2)
  /-- R149. A FORCE code of 2 sets a comparator HIGH and FORCED without an event. -/
  | comparatorForceHigh (c : Fin 32) (k : Fin 2)
  /-- R149. A FORCE code of 3 returns a comparator to UNDECIDED and restarts DECIDE_T. -/
  | comparatorRelease (c : Fin 32) (k : Fin 2)
  /-- R140. A write to a coefficient bank is applied, or ignored and counted as BANK_WR if the bank is live or frozen. -/
  | fchBankWrite (control : Bool) (ch : Fin 48) (bank : Fin 2) (data : Word)
  /-- R141. A bank or set swap crossfade reaches its end and the outgoing bank is released. -/
  | swapCrossfadeEnd (kind : Fin 4) (idx : Fin 1024)
  /-- R142. A control-channel swap reaches its switch point and the new bank goes live. -/
  | controlSwapSwitch (c : Fin 32)
  /-- R145. A residue mismatch on an FCH MAC holds one value and the guard MAC takes over, or the engine goes FAULTED. -/
  | fchResidue (mac : Fin 9) (src : Fin 80)
  /-- R158. A supervisory converter converts the entry, guard, urgent or rotation channel of one slot. -/
  | svcConversion (conv : Fin 2) (slot : Fin 21) (code : Int)
  /-- R171. In slot 0 both converters sample the check node and the converter die forms a verdict by cycle 240. -/
  | checkSlot (a b : Fin 65536)
  /-- R169. A write of GO asks for one urgent conversion, accepted for the next slot or dropped. -/
  | urgentRequest (rank : Fin 3) (cyc : Fin 5120) (conv : Fin 2) (ch : Fin 128) (form : ConvForm)
  /-- R163. A reference's settling time passes and its OK flag sets. -/
  | referenceSettled (ref : Fin 4)
  /-- R190. The 16-tick sense interval ends and the port drives its clocks, qualifies as follower or goes CONTEND. -/
  | sapSenseEnd (p : Fin 16) (edges : Bool)
  /-- R187. A follower port completes a frame, judges it good or bad and counts it towards qualification. -/
  | sapFrame (p : Fin 16) (bits period : Nat) (line : List Bool)
  /-- R189. No FS edge arrives for 2 nominal frame periods and clock loss is declared. -/
  | sapClockLoss (p : Fin 16)
  /-- R195. The partner's FS calls for a transmit frame, which is sent live or, on an empty buffer, held and faded. -/
  | sapTxFrameRequest (p : Fin 16)
  /-- R194. A fade-out of F values ends and the port sends silence until recentre. -/
  | sapFadeEnd (p : Fin 16) (tx : Bool)
  /-- R194. A ramp-in ends and the port returns to RUN. -/
  | sapRampEnd (p : Fin 16) (tx : Bool)
  /-- R200. A write of RESTART in FAULTED or DEGRADED starts the port afresh. -/
  | sapRestart (p : Fin 16)
  /-- R207. A newly enabled microphone's WAKE time ends and its decimator starts and ramps in. -/
  | pdmWakeEnd (k : Fin 16)
  /-- R208. 4,096 identical bits on one microphone declare it stuck and ramp its channel out. -/
  | pdmStuck (k : Fin 16)
  /-- R208. A RESTART bit restarts a stuck microphone from its start sequence. -/
  | pdmRestart (k : Fin 16)
  /-- R210. A receiver takes an S/PDIF frame, checks parity and non-audio content and advances its state. -/
  | spdifFrame (n : Fin 4) (f : SpdifIn)
  /-- R210. No valid preamble for 8 frame periods, or 16 off-rate frames, logs SPDI_LOSS and returns the receiver to SEARCH. -/
  | spdifClockLoss (n : Fin 4) (off : Bool)
  /-- R210. A write of RESTART in FADE, SILENT or CONSERVE returns the receiver to SEARCH. -/
  | spdifRestart (n : Fin 4)
  /-- R227. Every 64 ticks a converter group updates its ratio estimate and its ACQUIRE or LOCKED state. -/
  | ratioUpdate (group : Fin 36) (ratio : Fin 8388608) (err : Int)
  /-- R236. A residue mismatch in a converter engine holds one value and the guard MAC takes over. -/
  | srcResidue (int : Bool) (mac : Fin 9) (chan : Fin 1024) (id : Fin 8192)
  /-- R253. A host write to the crosspoint window applies to the next mixer read of that crosspoint and ends any glide on it. -/
  | crosspointWrite (cyc : Fin 5120) (lane : Fin 384) (bus : Fin 192) (data : Word)
  /-- R255. A write of GO starts a glide at once or arms it for the next press. -/
  | glideGo (cyc : Fin 5120) (n : Fin 256)
  /-- R256. A write of STOP ends an active or armed glide and keeps the gain last applied. -/
  | glideStop (cyc : Fin 5120) (n : Fin 256)
  /-- R255. A glide applies its final step and GLIDE_DONE is raised. -/
  | glideDone (n : Fin 256)
  /-- R257. A write of MUTE = 1 ramps a bus to 0 with T_FAD. -/
  | busMute (cyc : Fin 5120) (b : Fin 192)
  /-- R257. A write of MUTE = 0 ramps a bus back to 1. -/
  | busUnmute (cyc : Fin 5120) (b : Fin 192)
  /-- R258. A residue mismatch on a mixer MAC withholds the affected buses for one tick and the guard MAC takes over, or the mixer goes FAULTED. -/
  | mixResidue (mac : Fin 17) (cyc : Fin 5120)
  /-- R278. A write of a tap's D starts a glide of the base delay over GLIDE ticks. -/
  | tapDelayWrite (cyc : Fin 5120) (t : Fin 256) (d : Fin 1073741824)
  /-- R278. A tap's delay glide reaches its new value. -/
  | tapGlideEnd (t : Fin 256)
  /-- R283. A write of PREP marks granules pending for preparation, or sets ERR. -/
  | convPrep (first : Fin 128) (n : Fin 256)
  /-- R283. A granule finishes preparation after 32 ticks and is marked ready. -/
  | granuleReady (g : Fin 128)
  /-- R287. A write to the effect-pool window is stored, or ignored and counted as BANK_WR when its bank is live or frozen. -/
  | effectPoolWrite (cyc : Fin 5120) (word : Fin 524288) (data : Word)
  /-- R288. A residue mismatch on an effects unit withholds its nodes for one tick and the guard takes over, or the engine goes FAULTED. -/
  | fxResidue (eng : Fin 6) (unit : Fin 9) (cyc : Fin 5120)
  /-- R289. A residue mismatch in the partition unit discards the block job and marks its outputs T_SUB. -/
  | partitionResidue (c : Fin 32) (n : Fin 1024) (unit : Fin 2)
  /-- R290. A RESTORE bit tests or restarts one effects engine. -/
  | fxRestore (e : Fin 6)
  /-- R301. A DAC core check fails and the converter die diverts that core and gives the survivor full weight. -/
  | dacCoreFail (core : Fin 40)
  /-- R302. A DIFF event without a core check is logged and handled by DIS_ACT. -/
  | coreDisagree (o : Fin 20)
  /-- R303. Both cores or the output stage fail and the mute switch closes with no ramp. -/
  | outputStageFail (o : Fin 20)
  /-- R304. A line or headphone output in current limit for 10 ms ramps out and goes FAULTED. -/
  | outputIlimTrip (o : Fin 20)
  /-- R310. The DC estimate exceeds HB_DC for 100 ms and the output trips to FAULTED. -/
  | outputDcTrip (o : Fin 20)
  /-- R312. A write of MUTE = 1 ramps a line or headphone output to 0. -/
  | outputMute (o : Fin 20)
  /-- R312. A write of MUTE = 0 ramps the output back once no higher rule holds it. -/
  | outputUnmute (o : Fin 20)
  /-- R305. A write of RESTORE starts the 1,024-tick test of a core or a FAULTED output. -/
  | outputRestore (o : Fin 20)
  /-- R299. At tick s + 32 the new preset or level applies and the output ramps back in. -/
  | outputPresetSwitch (o : Fin 20)
  /-- R319. DECIDE passes with the jack still UNDECIDED and AMBIG is posted once. -/
  | jackAmbig (j : Fin 12)
  /-- R320. A FORCE code of 1 sets the jack REMOVED and FORCED. -/
  | jackForceRemoved (cyc : Fin 5120) (j : Fin 12)
  /-- R320. A FORCE code of 2 sets the jack INSERTED and FORCED. -/
  | jackForceInserted (cyc : Fin 5120) (j : Fin 12)
  /-- R320. A FORCE code of 3 returns the jack to UNDECIDED and restarts DECIDE. -/
  | jackForceRelease (cyc : Fin 5120) (j : Fin 12)
  /-- R325. The plug wait ends and the jack weight ramps up. -/
  | plugWaitEnd (o : Fin 28)
  /-- R325. A timed step of an output's power-up ramp ends and the next one starts. -/
  | powerUpRampStep (o : Fin 20)
  /-- R325. A timed step of an output's power-down ramp ends and the next one starts. -/
  | powerDownRampStep (o : Fin 20)
  /-- R336. A write of ARM latches START and PERIOD and arms a CV timer. -/
  | timerArm (k : Fin 4)
  /-- R336. A write of STOP ends a CV timer. -/
  | timerStop (k : Fin 4)
  /-- R336. A CV timer fires and each bound queue-mode channel takes its next code word. -/
  | timerFire (k : Fin 4)
  /-- R341. A CV buffer in current limit for 10 ms goes to code 0 and FAULTED. -/
  | cvIlimTrip (n : Fin 16)
  /-- R341. A write of RESTORE runs a 1,024-tick test at code 0 on a FAULTED channel. -/
  | cvRestore (n : Fin 16)
  /-- R351. A speaker channel's WAIT conditions hold and it begins its pre-check. -/
  | spkStart (n : Fin 8)
  /-- R352. The 1 ms pre-check ends and the channel passes to identification or the shutdown path. -/
  | spkPrecheckDone (n : Fin 8) (finding : Fin 5) (term : Bool)
  /-- R353. The 34 ms identification ends and the load is classified. -/
  | spkIdentDone (n : Fin 8) (rdc : Nat)
  /-- R351. The common-mode ramp and pop ramp finish and the channel enters RUN. -/
  | spkStartDone (n : Fin 8)
  /-- R358. Eight consecutive limited carrier cycles turn every switch of the channel off and classify the short. -/
  | spkShutdown (n : Fin 8) (kind : Fin 4) (term : Bool)
  /-- R359. The 250 ms retry wait ends and the channel re-runs its pre-check and start at −20 dB. -/
  | spkRetry (n : Fin 8)
  /-- R359. After 10 s of RUN without a shutdown RETRIES returns to 0. -/
  | spkRetryCountReset (n : Fin 8)
  /-- R360. A write of CLEAR restarts a LATCHED channel with RETRIES = 0. -/
  | spkClear (n : Fin 8)
  /-- R354. Every 64 ticks the load model moves towards the voice-coil resistance estimate within its bounds. -/
  | loadModelUpdate (n : Fin 8) (est : Nat) (quiet : Bool)
  /-- R363. A channel temperature crosses the derating or shutdown threshold and the channel derates or turns off. -/
  | spkThermal (n : Fin 8) (code : Fin 256)
  /-- R363. After 1 s below T_D − 10 °C a thermally shut channel restarts. -/
  | spkThermalReturn (n : Fin 8)
  /-- R366. Sense voltage off its prediction for 8 carrier cycles opens the loop as the guard. -/
  | spkSenseFail (n : Fin 8)
  /-- R367. A switch fails its gate-driver check and the channel shuts down to CSTATE 10. -/
  | spkStageFail (n : Fin 8)
  /-- R369. The DC estimate exceeds HB_DC for 50 ms and the channel ramps off. -/
  | spkDcTrip (n : Fin 8)
  /-- R356. A write of MUTE = 1 ramps the channel's mute weight to 0. -/
  | spkMute (n : Fin 8)
  /-- R356. A write of MUTE = 0 ramps the mute weight back once jack and pop weights are 1. -/
  | spkUnmute (n : Fin 8)
  /-- R370. A write of RESTORE runs pre-check, identification and a 1,024-tick closed-loop test. -/
  | spkRestore (n : Fin 8)
  /-- R388. A boost phase fails its checks and turns off while the others carry the load. -/
  | boostPhaseFail (k : Fin 4)
  /-- R389. A rail over-voltage, short or lack of phases takes the boost to FAULTED. -/
  | boostRailFault (kind : Fin 3)
  /-- R390. The boost temperature crosses a derating or held-bypass threshold. -/
  | boostThermal (code : Fin 256)
  /-- R400. A producer requests a cell for its queue, granted from the reserve or the shared part or found full. -/
  | cellRequest (q : Fin 4096) (rank kind unit : Nat) (words : List Word)
  /-- R403. A producer closes its signature and it is linked at the tail of its queue. -/
  | signatureClose (q : Fin 4096) (rank kind unit : Nat) (drop : Nat)
  /-- R407. A consumer reads the next quire of its head signature and frees or holds finished cells. -/
  | queueRead (q : Fin 4096) (ecc : Fin 3)
  /-- R417. A write to WDATA appends a word to the port's open signature within credit or is discarded. -/
  | windowWrite (port : Fin 64) (data : Word)
  /-- R417. A write to WP_END closes the port's signature with DROP or writes an empty one. -/
  | windowClose (port : Fin 64) (drop : Fin 4)
  /-- R417. A write of ABORT discards the port's open signature. -/
  | windowAbort (port : Fin 64)
  /-- R418. A read of RDATA takes the next word of the head signature from the prefetch buffer. -/
  | windowRead (port : Fin 64) (o : Origin) (ecc : Fin 3)
  /-- R418. A write of SKIP passes the rest of the head signature. -/
  | windowSkip (port : Fin 64)
  /-- R423. A port receives a frame whole, stamps and checks it, applies the tag rules and forwards or delivers it locally. -/
  | ethFrameReceive (p : Fin 5) (w : EthIn)
  /-- R425. A frame copy that has waited RX_WAIT for cells is discarded. -/
  | rxWaitExpire (here : PortAt 5) (q : Fin 4096) (express : Bool)
  /-- R442. A learn event held 256 cycles is applied in stamp order, creating, refreshing or moving an entry. -/
  | learnEventApply (cyc : Fin 5120)
  /-- R432. A port picks the next eligible frame by strict priority, checks its deadline and starts it. -/
  | egressFrameStart (cyc : Fin 5120) (p : Fin 5)
  /-- R433. An express frame ends the current preemptable fragment and starts. -/
  | expressPreempt (here : PortAt 4) (sent : Nat)
  /-- R433. HOLD_T before a scheduled express frame the port asserts hold. -/
  | preemptHold (here : PortAt 4)
  /-- R433. VERIFY_T passes and the port sends a verify mPacket or, after three, declares VERIFY_FAIL. -/
  | verifyTimer (p : Fin 4)
  /-- R421. A port's link comes up. -/
  | ethLinkUp (p : Fin 4) (speed : Fin 3) (half : Bool)
  /-- R437. A port's link goes down, LINK_DOWN is logged and its dynamic table entries are removed. -/
  | ethLinkDown (p : Fin 4)
  /-- R438. A collision on T1S0 sends a jam and draws a back-off, or discards the frame after 16 attempts. -/
  | t1sCollision (c : CollisionIn)
  /-- R438. A T1S0 back-off ends and the frame is retried after deferral. -/
  | t1sBackoffEnd (cyc : Fin 5120)
  /-- R444. An ADD_STATIC command stores a static entry for TBL_MAC on PORT. -/
  | tableAddStatic (port : Fin 8)
  /-- R444. A FLUSH_PORT command removes every dynamic entry of PORT. -/
  | tableFlushPort (port : Fin 8)
  /-- R457. At cycle TXOFS the assembled frame is linked as its scheduled start. -/
  | zklFrameLink (n : Fin 64)
  /-- R460. ZKL reads a received frame in the tick after it is linked and judges it GOOD, BAD, DUP, LATE, EARLY or NOMATCH. -/
  | zklFrameJudge (xlate : Bool)
  /-- R466. A write of CVT_CYC starts the conversion of a stamp to gPTP time and calendar. -/
  | timeConvert (cyc : Fin 8192)
  /-- R485. A write to a register with no row of its own enters the request path and is applied under its access type. -/
  | registerWrite (o : Origin) (cyc : Fin 5120) (addr : Fin 16777216) (data : Word)
  /-- R492. A read of a result register returns one whole result and clears FRESH for that origin. -/
  | resultRegisterRead (o : Origin) (addr : Fin 16777216)
  /-- R491. A read of a latched group's first word latches the other words for that origin. -/
  | latchedGroupRead (o : Origin) (addr : Fin 16777216)
  /-- R490. A write of CNT_CLR clears every counter and SAT flag of the page. -/
  | counterClear (o : Origin) (page : Fin 290)
  /-- R497. A write of INT_TEST sets TEST in PG_INT_STAT. -/
  | interruptTest (page : Fin 290)
  /-- R488. A write of 1 to a W1C bit clears the pending event unless hardware sets it in the same cycle. -/
  | w1cClear (addr : Fin 16777216) (bits again : Word)
  /-- R494. The one write of 1 to PG_LOCK makes the page's LK fields read-only until reset. -/
  | pageLock (o : Origin) (page : Fin 290)
  /-- R502. A write of H2M_LEN sends the host's message to the management controller. -/
  | mboxSend (len : Fin 128)
  /-- R502. The management controller posts a message for the host and M2H is raised. -/
  | mboxPost (words : List Word)
  /-- R506. A COLLATE command collates the image without applying it. -/
  | collate (o : Origin)
  /-- R507. A PRESS command latches the target and starts collation followed by the press. -/
  | press (o : Origin)
  /-- R514. At cycle 2,048 of tick s − 7 the core die sends COMMIT or ABORT. -/
  | pressCommitPoint (seq : Nat) (cyc : Fin 5120)
  /-- R517. A block with a frame boundary of its own makes the pressed image live at that boundary. -/
  | deferredApply (unit : Fin 82)
  /-- R535. A write of FN_ACK acknowledges every pending fault class. -/
  | faultAck (o : Origin)
  /-- R534. A write of LOG_CLR empties the log RAM and clears FIRST and LAST. -/
  | logClear (o : Origin)
  /-- R537. A write of ISO_SET isolates the outputs named by its bits. -/
  | isolateSet (o : Origin) (w : Fin 3) (bits : Word)
  /-- R539. A write of ISO_CLR releases the outputs whose cause no longer persists. -/
  | isolateClear (o : Origin) (w : Fin 3) (bits : Word)
  /-- R539. An automatic isolation ends on its own once the link or PLL has recovered within RET_MAX. -/
  | isolationAutoReturn (trigger : Fin 6)
  /-- R543. The one write of 1 to LOCKALL locks every page that holds LK fields. -/
  | lockAll (o : Origin)
  /-- R546. A write of KICK by the management controller restarts the 192-tick count. -/
  | watchdogKick (o : Origin)
  /-- R548. A write of MC_HOLD holds the controller in reset or releases a held one. -/
  | mcHold (o : Origin) (hold : Bool)
  /-- R548. A write of MC_RUN releases a halted or held controller and clears MC_HOLD. -/
  | mcRun (o : Origin)
  /-- R549. MGMT_VIEW has differed from STATE for more than 2 ticks and VIEW_MISMATCH is set and logged. -/
  | viewMismatch (page : Fin 290)
  /-- R556. A write of PROG starts programming a customer OTP item or gives a refusal result. -/
  | otpProgram (o : Origin)
  /-- R556. An OTP word programming completes and reads VALID or INVALID. -/
  | otpProgramDone (lost : BitVec 40)
  /-- R561. A MOUNT command reads the journal, builds the index and completes any supersede left undone. -/
  | journalMount (o : Origin)
  /-- R563. A READ command copies the current record's body into queue JRQ. -/
  | journalRead (o : Origin) (t item : Fin 256)
  /-- R560. A WRITE command writes a new record from JWQ in the four-step order. -/
  | journalWrite (o : Origin) (t item : Fin 256)
  /-- R563. A DELETE command supersedes every valid record of the pair. -/
  | journalDelete (o : Origin) (t item : Fin 256)
  /-- R557. A flash program or erase passes its bound and ends with FLASH_ERR. -/
  | flashTimeout (stage : Fin 4)
  /-- R564. The boot ROM starts at controller reset release and tries the journal images. -/
  | bootStart (jedec : BitVec 24)
  /-- R566. A write of NVM_HLOAD_DATA appends one body word of the host load. -/
  | hloadData (data : Word)
  /-- R568. A write of GO starts one I2C controller transaction or gives BUSY. -/
  | i2cTransaction (k : Fin 4) (addr : Fin 128) (rlen wlen : Fin 64) (held : Bool)
  /-- R568. An I2C transaction ends with its result and byte count. -/
  | i2cTransactionDone (k : Fin 4) (nack : Fin 3) (nbyte : Fin 64) (rx : List Byte)
  /-- R568. The controller loses arbitration, releases the lines and gives ARB_LOST. -/
  | i2cArbLost (k : Fin 4) (nbyte : Fin 64) (mid sda : Bool)
  /-- R568. A held SCL or busy bus lasts TOUT ms and the transaction gives TIMEOUT. -/
  | i2cTimeout (k : Fin 4) (nbyte : Fin 64) (mid sda : Bool)
  /-- R569. A write of BUS_CLEAR runs the bus-clear procedure. -/
  | i2cBusClear (k : Fin 4) (sda : Bool)
  /-- R569. Setting EN runs the bus-clear procedure before the controller is idle. -/
  | i2cEnable (k : Fin 4) (sda : Bool)
  /-- R570. An enabled edge on a GPIO input sets its EVT bit. -/
  | gpioEdge (n : Fin 32) (rise : Bool)
  /-- R570. A write to GPIO_SET sets the OUT bits written as 1. -/
  | gpioSet (bits : Word)
  /-- R570. A write to GPIO_CLR clears the OUT bits written as 1. -/
  | gpioClr (bits : Word)
  /-- R600. The SAMPLE/PRELOAD instruction captures the boundary cells without disturbing operation. -/
  | jtagSamplePreload (cells preload : List Bool)
  /-- R600. The EXTEST instruction drives the boundary cells and puts analog, speaker and network outputs in reset state. -/
  | jtagExtest (cells : List Bool)
  /-- R357. A half-bridge current reaches HB_ILIM in a carrier cycle, ends its on-time for that cycle and the cycle counts in ILIM_CNT. -/
  | limitedCycle (n : Fin 8) (cyc : Fin 5120)
  /-- R433. A port finishes sending a frame, counts TX_OK, and releases a hold or resumes a held preemptable frame. -/
  | egressFrameEnd (cyc : Fin 5120) (p : Fin 5)
  /-- R569. The bus-clear procedure ends with SDA high and a STOP (CLEARED), or in STUCK, and its result is written. -/
  | i2cBusClearDone (k : Fin 4) (freed : Bool)
  /-- R568. Another controller's STOP frees the bus, and a GO that was waiting for it starts its transaction. -/
  | i2cOtherStop (k : Fin 4)
  /-- R37. A quire corrected on read is written back in the next idle cycle of its bank. -/
  | eccWriteBack
  /-- R69. A start-up band search of PLL_C fails and is repeated; after 64 failures PLLC_FAIL is latched. -/
  | pllcSearchFail
  /-- R71. IOSC reaches 1 ppm of the qualified source and the multiplexer begins waiting for a close edge pair. -/
  | ioscSlewDone
  /-- R71. An edge pair under 1 ns apart is found, REFD switches to the source, PRELOCK clears and PLL_M and PLL_P start. -/
  | refSwitch
  /-- R76. PLL_C unlocks, every output is isolated and every sample carries T_SUB until RESET_N. -/
  | pllcUnlock
  /-- R75. A write of RELOCK_M starts a relock of PLL_M after LOCK_FAIL. -/
  | relockM
  /-- R75. A write of RELOCK_P starts a relock of PLL_P after LOCK_FAIL. -/
  | relockP
  /-- R75. A write of RELOCK_N starts a relock of PLL_N unless it is already locking. -/
  | relockN
  /-- R91. PVIN rises above 27.5 V and the speaker stage and boost stop as for undervoltage. -/
  | pvinOvervoltage
  /-- R95. One step between RUN, QUIET and STANDBY finishes and the part moves on towards the latest request. -/
  | powerStateStepDone
  /-- R98. At each PERIOD × 16 ticks the core voltage loop judges the margin and raises, lowers or holds its target. -/
  | vloopSample
  /-- R145. A write of RESTORE in FCH_GUARD_CTRL starts the test of the failed MAC or of a FAULTED engine. -/
  | fchRestore
  /-- R164. VREFX leaves its window, EXT_OK clears and EXT entries deliver held values. -/
  | vrefxLoss
  /-- R175. A write of RESTORE starts a 1,024-tick check test of the converter or comparison taken out. -/
  | svcRestore
  /-- R249. A write of RESTORE sends test quires on the lane that is out for 1,024 ticks. -/
  | spnRestore
  /-- R259. A write of RESTORE tests the MAC carried by the guard or restarts a FAULTED mixer. -/
  | mixRestore
  /-- R341. VREF_CV leaves its window and every enabled channel goes to code 0. -/
  | cvVrefFail
  /-- R341. VREF_CV has been back in its window for 10 ms and the channels return through the slew limit. -/
  | cvVrefRecover
  /-- R338. The 16-tick hold after a REF_SEL change ends and the channels return from 0 V. -/
  | cvRefHoldEnd
  /-- R371. In L4808 mode a tick-clock error mutes every speaker channel within 1 tick. -/
  | clockMute
  /-- R371. The clock conditions have held for 128 ticks and the channels return through the retry weight. -/
  | clockMuteRelease
  /-- R379. Each 651 ns control cycle forms the rail target and advances the rail model. -/
  | boostControlCycle
  /-- R381. Target and rail have stayed low for 64 ticks and the boost enters bypass. -/
  | boostBypassEntry
  /-- R385. Input current has stayed low for 64 ticks and one phase is shed. -/
  | phaseShed
  /-- R387. The boost's start conditions hold and it enters PRECHARGE. -/
  | boostStart
  /-- R387. The 2 ms precharge ends and the boost tracks in bypass or boost with the page READY. -/
  | boostPrechargeDone
  /-- R390. After 1 s below 105 °C the boost resumes tracking. -/
  | boostThermalReturn
  /-- R391. A write of RESTORE runs a failed phase or the boost in bypass for 1,024 ticks. -/
  | boostRestore
  /-- R406. A freed shared cell is granted to the first waiting request and its handshake completes. -/
  | cellGrant
  /-- R409. A FLUSH command frees every linked closed signature of the selected queue and removes its bookmark. -/
  | queueFlush
  /-- R409. A BM_SET command places the bookmark at a signature boundary. -/
  | bookmarkSet
  /-- R409. A BM_REWIND command returns the read point to the bookmark and offers the signatures again as REPLAYED. -/
  | bookmarkRewind
  /-- R409. A BM_RELEASE command frees the cells read since the bookmark and moves it on. -/
  | bookmarkRelease
  /-- R409. A BM_CLEAR command releases and then removes the bookmark. -/
  | bookmarkClear
  /-- R414. The sweep ends, the new free list replaces the old and SWEEP_DONE is raised. -/
  | qmgSweepDone
  /-- R440. Carrier on T1S0 for 20 ms declares the bus jabbered. -/
  | t1sJabber
  /-- R440. The T1S0 bus has been silent for 1 ms and the port is no longer jabbered. -/
  | t1sJabberEnd
  /-- R443. Once per second the ageing scan removes dynamic entries older than AGE. -/
  | bridgeAgeingScan
  /-- R444. A LOOKUP command reports the bridge entry of TBL_MAC. -/
  | tableLookup
  /-- R444. A DELETE command removes the entry of TBL_MAC. -/
  | tableDelete
  /-- R444. A FLUSH_ALL command removes every dynamic entry. -/
  | tableFlushAll
  /-- R451. A write of COMMIT schedules the new time map for the next TICK[9:0] = 0 boundary. -/
  | timeCommit
  /-- R451. A committed map applies at its boundary and GPTP_RDY sets. -/
  | timeMapApply
  /-- R452. A map reaches 2 s without a new commit, GPTP_RDY clears and GPTP_STALE is logged. -/
  | gptpStale
  /-- R453. At a TICK[9:0] = 0 boundary TIME converts the boundary to a domain tick, phase error and DOFS. -/
  | domainTickUpdate
  /-- R466. The conversion result lands in TIME_CVT_ST within 8 core cycles. -/
  | timeConvertResult
  /-- R467. Every 192,000 ticks the calendar advances one second, or stops at its end. -/
  | calendarSecond
  /-- R470. At LEAP_AT UTC_OFS becomes LEAP_OFS and the day's last second is inserted or skipped. -/
  | leapSecond
  /-- R480. An HPB strobe with RD_N and WE_N both low is ignored and counted. -/
  | hpbStrobeConflict
  /-- R482. A QSPI transaction with an unknown command drives nothing and is counted. -/
  | qsBadcmd
  /-- R482. A QSPI write word cut short by QS_CS_N is discarded and counted. -/
  | qsPart
  /-- R484. An I2C target write ended before four bytes of a word discards that word and is counted. -/
  | i2ctPart
  /-- R502. The management controller takes the host message, H2M_FULL clears and H2M_DONE is raised. -/
  | mboxTake
  /-- R502. A write of M2H_ACK clears M2H_FULL. -/
  | mboxAck
  /-- R506. A WITHDRAW command stops a collation or armed press before the commit point. -/
  | withdraw
  /-- R505. A REVERT command copies every live value into its shadow. -/
  | revert
  /-- R509. Collation ends with a verdict written to PRESS_RES and the pages. -/
  | collationDone
  /-- R514. At tick s − 16 the core die sends ANNOUNCE with the image CRCs to both dies. -/
  | pressAnnounce
  /-- R517. At tick s every die and block makes its part of the image live. -/
  | pressApply
  /-- R531. The fault manager copies differ, the part is isolated, FAULT_N falls and FLT_SELF is written. -/
  | fltLockstepMismatch
  /-- R534. A finished log record is written to LOGQ as a signature once its cell is granted. -/
  | logRecordSend
  /-- R546. 192 ticks pass without a kick and the watchdog resets the management controller. -/
  | watchdogExpire
  /-- R546. The 16-tick watchdog reset ends and the controller boots. -/
  | mcResetRelease
  /-- R563. A journal command completes and its RESULT is written to NVM_JRES. -/
  | journalOpDone
  /-- R563. JWQ holds no byte for 1 s during a write, which ends SHORT with the record torn. -/
  | journalWriteShort
  /-- R565. Reading and verifying a boot image completes and it starts or the next is tried. -/
  | bootImageCheck
  /-- R566. A write of START begins a host load of a boot image. -/
  | hloadStart
  /-- R566. A write of GO checks the host-loaded image and starts it if accepted. -/
  | hloadGo
  /-- R600. The BYPASS instruction selects the one-bit bypass register. -/
  | jtagBypass
  /-- R600. The IDCODE instruction shifts out 0x1963_2B5B. -/
  | jtagIdcode
  /-- R600. The CLAMP instruction holds the boundary outputs and puts analog, speaker and network outputs in reset state. -/
  | jtagClamp
  /-- R600. The HIGHZ instruction floats the boundary outputs and puts analog, speaker and network outputs in reset state. -/
  | jtagHighz
  /-- R91. PVIN has stayed below 26.8 V for 10 ms after an overvoltage and the speaker stage and boost restart. -/
  | pvinOvRecover
  /-- R78. NREF fails the edge test of R70 at 25 MHz, NREF_OK clears and NREF_LOSS is logged. -/
  | nrefLoss
  /-- R502. The restarted management controller sets MC_RDY and MC_READY is raised. -/
  | mcReady
  deriving DecidableEq, Repr

end Sys2Proof
end

