-- ==== Sys2Proof/Decode.lean ====
section
/-!
DEFINITION. Decoding of command words. The table of operations and events gives no row any bits, so no word spells a command.
-/

namespace Sys2Proof

/-- The command that the low `nbits` bits of `w` spell by the bits the table gives its rows; the table gives none. -/
def decodeTableWord (_nbits _w : Nat) : Option Instr := none

end Sys2Proof
end

