-- ==== Sys2Proof/Machine/Operands.lean ====
section
/-!
DEFINITION. How the operands of commands and registers are read and formed: bit fields, two's complement numbers, clamps
and the rounding of R30. The block has no addressing modes; an operand of a command is its value.
-/

namespace Sys2Proof

/-- The bits `hi` down to `lo` of a word, as a number. -/
def Word.bits (w : Word) (hi lo : Nat) : Nat := (w.toNat >>> lo) % 2 ^ (hi + 1 - lo)

/-- A mask of ones at bits `hi` down to `lo`. -/
def Word.mask (hi lo : Nat) : Word := BitVec.ofNat 32 ((2 ^ (hi + 1 - lo) - 1) <<< lo)

/-- `w` with its bits `hi` down to `lo` replaced by the low bits of `v`. -/
def Word.put (w : Word) (hi lo v : Nat) : Word :=
  (w &&& ~~~ Word.mask hi lo) ||| (BitVec.ofNat 32 (v <<< lo) &&& Word.mask hi lo)

/-- The number of `n` bits read as two's complement. -/
def signed (n v : Nat) : Int :=
  let m := v % 2 ^ n
  if 2 * m < 2 ^ n then (m : Int) else (m : Int) - 2 ^ n

/-- The low `n` bits of an integer, as two's complement writes them. -/
def unsigned (n : Nat) (v : Int) : Nat := (v % (2 ^ n : Int)).toNat

/-- The nearest value to `v` in the range `lo` to `hi`; `lo` where the range is empty. -/
def clampInt (lo hi v : Int) : Int := max lo (min hi v)

/-- The nearest value to `v` in the range `lo` to `hi`; `lo` where the range is empty. -/
def clampNat (lo hi v : Nat) : Nat := max lo (min hi v)

/-- Quotient rounded up. -/
def ceilDiv (a b : Nat) : Nat := (a + b - 1) / b

/-- A number divided by `2 ^ n`, rounded to the nearest, ties to even (R30). -/
def roundEven (v : Int) (n : Nat) : Int :=
  let d : Int := 2 ^ n
  let q := v / d
  let r := v % d
  if 2 * r < d then q else if 2 * r > d then q + 1 else if q % 2 = 0 then q else q + 1

end Sys2Proof
end

