-- ==== Sys2Proof/Machine/Regs.lean ====
section
/-!
DEFINITION. What a register row and a field are: access types (R488), the instances of a row, the word after reset.
-/

namespace Sys2Proof.Machine

/-- The access types of R488. -/
inductive Acc where
  | rw | ro | w1c | wo | st | lk | otw
  deriving DecidableEq, Repr

/-- One field of a register row: its bits, its access type and its reset value. -/
structure RegFld where
  hi : Nat
  lo : Nat
  acc : Acc
  reset : Nat
  deriving DecidableEq, Repr

/-- One register of the spec's tables: its name, the address of its first instance, the spacing and count of its
instances (outer first) and its fields. -/
structure RegRow where
  name : String
  base : Nat
  dims : List (Nat × Nat)
  flds : List RegFld
  deriving DecidableEq, Repr

/-- A field at an address: the bits `hi` down to `lo` of the register word there. -/
structure Fld where
  addr : Nat
  hi : Nat
  lo : Nat
  deriving DecidableEq, Repr

/-- Width of a field in bits. -/
def Fld.width (f : Fld) : Nat := f.hi + 1 - f.lo

/-- Whether an offset from the first instance is that of an instance with the given spacings and counts. -/
def inDims : List (Nat × Nat) → Nat → Bool
  | [], r => r == 0
  | (st, n) :: t, r => if r / st < n then inDims t (r % st) else false

/-- Whether the row has an instance at byte address `a`. -/
def RegRow.holds (r : RegRow) (a : Nat) : Bool := decide (r.base ≤ a) && inDims r.dims (a - r.base)

/-- The word of a row after reset. -/
def RegRow.resetWord (r : RegRow) : Word := r.flds.foldl (fun w f => w.put f.hi f.lo f.reset) 0

/-- The bits of a row whose access type satisfies `p`. -/
def RegRow.mask (r : RegRow) (p : Acc → Bool) : Word :=
  r.flds.foldl (fun w f => if p f.acc then w ||| Word.mask f.hi f.lo else w) 0

end Sys2Proof.Machine
end

