-- ==== Sys2Proof/Machine/Fields.lean ====
section
/-!
DEFINITION. Addresses of the registers (`Adr`) and their fields (`F`) under the names of the spec. A register with several instances takes its instance number; a register of two dimensions takes both.
-/

namespace Sys2Proof.Machine

namespace Adr

/-- CLK_STATUS (R84). -/
def CLK_STATUS : Nat := 0x004040

/-- CLK_REF_CFG (R84). -/
def CLK_REF_CFG : Nat := 0x004044

/-- CLK_TICK_LO (R84). -/
def CLK_TICK_LO : Nat := 0x004048

/-- CLK_TICK_HI (R84). -/
def CLK_TICK_HI : Nat := 0x00404C

/-- CLK_CYC (R84). -/
def CLK_CYC : Nat := 0x004050

/-- CLK_PLL_CFG (R84). -/
def CLK_PLL_CFG (i : Nat) : Nat := 0x004060 + 0x4 * i

/-- CLK_PLL_STAT (R84). -/
def CLK_PLL_STAT (i : Nat) : Nat := 0x004070 + 0x4 * i

/-- CLK_RELOCK (R84). -/
def CLK_RELOCK : Nat := 0x004080

/-- CLK_SERVO_CFG (R84). -/
def CLK_SERVO_CFG : Nat := 0x004090

/-- CLK_STEER_FLOOR (R84). -/
def CLK_STEER_FLOOR : Nat := 0x004094

/-- CLK_STEER_CEIL (R84). -/
def CLK_STEER_CEIL : Nat := 0x004098

/-- CLK_STEER (R84). -/
def CLK_STEER : Nat := 0x00409C

/-- CLK_SERVO_ERR (R84). -/
def CLK_SERVO_ERR : Nat := 0x0040A0

/-- CLK_SERVO_STAT (R84). -/
def CLK_SERVO_STAT : Nat := 0x0040A4

/-- CLK_FDIV (R84). -/
def CLK_FDIV (i : Nat) : Nat := 0x0040C0 + 0x4 * i

/-- PWR_STATUS (R104). -/
def PWR_STATUS : Nat := 0x003040

/-- PWR_STATE_REQ (R104). -/
def PWR_STATE_REQ : Nat := 0x003044

/-- PWR_RST_CAUSE (R104). -/
def PWR_RST_CAUSE : Nat := 0x003048

/-- PWR_EVT_CNT (R104). -/
def PWR_EVT_CNT : Nat := 0x00304C

/-- PWR_HB_VMIN (R104). -/
def PWR_HB_VMIN : Nat := 0x003060

/-- PWR_HB_VMAX (R104). -/
def PWR_HB_VMAX : Nat := 0x003064

/-- PWR_VCORE_FLOOR (R104). -/
def PWR_VCORE_FLOOR : Nat := 0x003068

/-- PWR_VCORE_CEIL (R104). -/
def PWR_VCORE_CEIL : Nat := 0x00306C

/-- PWR_VLOOP_CFG (R104). -/
def PWR_VLOOP_CFG : Nat := 0x003070

/-- PWR_MARGIN_CFG (R104). -/
def PWR_MARGIN_CFG : Nat := 0x003074

/-- PWR_VLOOP_STAT (R104). -/
def PWR_VLOOP_STAT : Nat := 0x003078

/-- PWR_MARGIN (R104). -/
def PWR_MARGIN : Nat := 0x00307C

/-- PWR_VCORE_MEAS (R104). -/
def PWR_VCORE_MEAS : Nat := 0x003080

/-- PWR_ICORE_MEAS (R104). -/
def PWR_ICORE_MEAS : Nat := 0x003084

/-- AIN_CFG (R128). -/
def AIN_CFG (i : Nat) : Nat := 0x010040 + 0x1000 * i

/-- AIN_MERGE (R128). -/
def AIN_MERGE (i : Nat) : Nat := 0x010044 + 0x1000 * i

/-- AIN_MATCH_CFG (R128). -/
def AIN_MATCH_CFG (i : Nat) : Nat := 0x010048 + 0x1000 * i

/-- AIN_MATCH_GFLOOR (R128). -/
def AIN_MATCH_GFLOOR (i : Nat) : Nat := 0x01004C + 0x1000 * i

/-- AIN_MATCH_GCEIL (R128). -/
def AIN_MATCH_GCEIL (i : Nat) : Nat := 0x010050 + 0x1000 * i

/-- AIN_MATCH_DFLOOR (R128). -/
def AIN_MATCH_DFLOOR (i : Nat) : Nat := 0x010054 + 0x1000 * i

/-- AIN_MATCH_DCEIL (R128). -/
def AIN_MATCH_DCEIL (i : Nat) : Nat := 0x010058 + 0x1000 * i

/-- AIN_MATCH_OFS (R128). -/
def AIN_MATCH_OFS (i j : Nat) : Nat := 0x01005C + 0x1000 * i + 0x4 * j

/-- AIN_MATCH_STAT (R128). -/
def AIN_MATCH_STAT (i : Nat) : Nat := 0x010068 + 0x1000 * i

/-- AIN_MATCH_GAIN (R128). -/
def AIN_MATCH_GAIN (i : Nat) : Nat := 0x01006C + 0x1000 * i

/-- AIN_MATCH_DLY (R128). -/
def AIN_MATCH_DLY (i : Nat) : Nat := 0x010070 + 0x1000 * i

/-- AIN_STATUS (R128). -/
def AIN_STATUS (i : Nat) : Nat := 0x010074 + 0x1000 * i

/-- AIN_CNT (R128). -/
def AIN_CNT (i : Nat) : Nat := 0x010078 + 0x1000 * i

/-- AIN_GUARD_CNT (R128). -/
def AIN_GUARD_CNT (i : Nat) : Nat := 0x01007C + 0x1000 * i

/-- AIN_GUARD_CTRL (R128). -/
def AIN_GUARD_CTRL (i : Nat) : Nat := 0x010080 + 0x1000 * i

/-- AIN_MICB_CFG (R128). -/
def AIN_MICB_CFG (i : Nat) : Nat := 0x010084 + 0x1000 * i

/-- AIN_MICB_STAT (R128). -/
def AIN_MICB_STAT (i : Nat) : Nat := 0x010088 + 0x1000 * i

/-- FCH_ACFG (R157). -/
def FCH_ACFG (i : Nat) : Nat := 0x030100 + 0x1000 * (i / 6) + 0x100 * (i % 6)

/-- FCH_ABANK (R157). -/
def FCH_ABANK (i j : Nat) : Nat := 0x030104 + 0x1000 * (i / 6) + 0x100 * (i % 6) + 0x4 * j

/-- FCH_ASTAT (R157). -/
def FCH_ASTAT (i : Nat) : Nat := 0x03010C + 0x1000 * (i / 6) + 0x100 * (i % 6)

/-- FCH_ACNT (R157). -/
def FCH_ACNT (i : Nat) : Nat := 0x030110 + 0x1000 * (i / 6) + 0x100 * (i % 6)

/-- FCH_CCFG (R157). -/
def FCH_CCFG (i : Nat) : Nat := 0x038100 + 0x1000 * (i / 8) + 0x100 * (i % 8)

/-- FCH_CBANK (R157). -/
def FCH_CBANK (i j : Nat) : Nat := 0x038104 + 0x1000 * (i / 8) + 0x100 * (i % 8) + 0x4 * j

/-- FCH_THR (R157). -/
def FCH_THR (i j : Nat) : Nat := 0x03810C + 0x1000 * (i / 8) + 0x100 * (i % 8) + 0x4 * j

/-- FCH_TCFG (R157). -/
def FCH_TCFG (i : Nat) : Nat := 0x038114 + 0x1000 * (i / 8) + 0x100 * (i % 8)

/-- FCH_TCTRL (R157). -/
def FCH_TCTRL (i : Nat) : Nat := 0x038118 + 0x1000 * (i / 8) + 0x100 * (i % 8)

/-- FCH_CVAL (R157). -/
def FCH_CVAL (i : Nat) : Nat := 0x03811C + 0x1000 * (i / 8) + 0x100 * (i % 8)

/-- FCH_CSTAT (R157). -/
def FCH_CSTAT (i : Nat) : Nat := 0x038120 + 0x1000 * (i / 8) + 0x100 * (i % 8)

/-- FCH_CCNT (R157). -/
def FCH_CCNT (i : Nat) : Nat := 0x038124 + 0x1000 * (i / 8) + 0x100 * (i % 8)

/-- FCH_EVQ (R157). -/
def FCH_EVQ : Nat := 0x03C040

/-- FCH_EVCNT (R157). -/
def FCH_EVCNT : Nat := 0x03C044

/-- FCH_LOAD (R157). -/
def FCH_LOAD : Nat := 0x03C048

/-- FCH_ERR (R157). -/
def FCH_ERR : Nat := 0x03C04C

/-- FCH_GUARD (R157). -/
def FCH_GUARD : Nat := 0x03C050

/-- FCH_GUARD_CTRL (R157). -/
def FCH_GUARD_CTRL : Nat := 0x03C054

/-- SVC_SEQ_LEN (R179). -/
def SVC_SEQ_LEN : Nat := 0x040040

/-- SVC_CHECK_CFG (R179). -/
def SVC_CHECK_CFG : Nat := 0x040044

/-- SVC_STAT (R179). -/
def SVC_STAT : Nat := 0x040048

/-- SVC_CHECK_EXP (R179). -/
def SVC_CHECK_EXP : Nat := 0x040054

/-- SVC_URG_REQ (R179). -/
def SVC_URG_REQ : Nat := 0x040058

/-- SVC_URG_CNT (R179). -/
def SVC_URG_CNT : Nat := 0x040060

/-- SVC_CHK_CNT (R179). -/
def SVC_CHK_CNT : Nat := 0x040064

/-- SVC_SLOTS (R179). -/
def SVC_SLOTS : Nat := 0x040068

/-- SVC_GUARD_CTRL (R179). -/
def SVC_GUARD_CTRL : Nat := 0x04006C

/-- SV_ENT (R179). -/
def SV_ENT (i j : Nat) : Nat := 0x040100 + 0x100 * i + 0x4 * j

/-- SAP_CFG (R202). -/
def SAP_CFG (i : Nat) : Nat := 0x050040 + 0x1000 * i

/-- SAP_RX_MASK (R202). -/
def SAP_RX_MASK (i : Nat) : Nat := 0x050044 + 0x1000 * i

/-- SAP_TX_MASK (R202). -/
def SAP_TX_MASK (i : Nat) : Nat := 0x050048 + 0x1000 * i

/-- SAP_TXCFG (R202). -/
def SAP_TXCFG (i : Nat) : Nat := 0x05004C + 0x1000 * i

/-- SAP_XRUN_CFG (R202). -/
def SAP_XRUN_CFG (i : Nat) : Nat := 0x050050 + 0x1000 * i

/-- SAP_STAT (R202). -/
def SAP_STAT (i : Nat) : Nat := 0x050054 + 0x1000 * i

/-- SAP_RATE (R202). -/
def SAP_RATE (i : Nat) : Nat := 0x050058 + 0x1000 * i

/-- SAP_CNT_RX (R202). -/
def SAP_CNT_RX (i : Nat) : Nat := 0x05005C + 0x1000 * i

/-- SAP_CNT_TX (R202). -/
def SAP_CNT_TX (i : Nat) : Nat := 0x050060 + 0x1000 * i

/-- SAP_CNT_ERR (R202). -/
def SAP_CNT_ERR (i : Nat) : Nat := 0x050064 + 0x1000 * i

/-- SAP_CTRL (R202). -/
def SAP_CTRL (i : Nat) : Nat := 0x050068 + 0x1000 * i

/-- PDM_CFG (R221). -/
def PDM_CFG : Nat := 0x060040

/-- PDM_STAT (R221). -/
def PDM_STAT : Nat := 0x060044

/-- PDM_CNT (R221). -/
def PDM_CNT : Nat := 0x060048

/-- PDM_CTRL (R221). -/
def PDM_CTRL : Nat := 0x06004C

/-- SPDI_CFG (R221). -/
def SPDI_CFG (i : Nat) : Nat := 0x061040 + 0x1000 * i

/-- SPDI_STAT (R221). -/
def SPDI_STAT (i : Nat) : Nat := 0x061044 + 0x1000 * i

/-- SPDI_BLK (R221). -/
def SPDI_BLK (i : Nat) : Nat := 0x061048 + 0x1000 * i

/-- SPDI_CS (R221). -/
def SPDI_CS (i j k : Nat) : Nat := 0x061050 + 0x1000 * i + 0x18 * j + 0x4 * k

/-- SPDI_UCFG (R221). -/
def SPDI_UCFG (i : Nat) : Nat := 0x061080 + 0x1000 * i

/-- SPDI_RATE (R221). -/
def SPDI_RATE (i : Nat) : Nat := 0x061084 + 0x1000 * i

/-- SPDI_CNT1 (R221). -/
def SPDI_CNT1 (i : Nat) : Nat := 0x061088 + 0x1000 * i

/-- SPDI_CNT2 (R221). -/
def SPDI_CNT2 (i : Nat) : Nat := 0x06108C + 0x1000 * i

/-- SPDI_CTRL (R221). -/
def SPDI_CTRL (i : Nat) : Nat := 0x061090 + 0x1000 * i

/-- SPDO_CFG (R221). -/
def SPDO_CFG : Nat := 0x065040

/-- SPDO_CS (R221). -/
def SPDO_CS (i j : Nat) : Nat := 0x065060 + 0x20 * i + 0x4 * j

/-- SRC_CFG (R238). -/
def SRC_CFG : Nat := 0x070040

/-- SRC_LOAD (R238). -/
def SRC_LOAD : Nat := 0x070044

/-- SRC_CYC (R238). -/
def SRC_CYC : Nat := 0x070048

/-- SRC_PROBE (R238). -/
def SRC_PROBE : Nat := 0x07004C

/-- SRC_RATIO (R238). -/
def SRC_RATIO : Nat := 0x070050

/-- SRC_CNT1 (R238). -/
def SRC_CNT1 : Nat := 0x070054

/-- SRC_CNT2 (R238). -/
def SRC_CNT2 : Nat := 0x070058

/-- SRC_QS (R238). -/
def SRC_QS (i : Nat) : Nat := 0x070080 + 0x4 * i

/-- SRC_ACH (R238). -/
def SRC_ACH (i : Nat) : Nat := 0x070100 + 0x4 * i

/-- SRC_QST (R238). -/
def SRC_QST (i : Nat) : Nat := 0x070600 + 0x4 * i

/-- SPN_ROUTE (R261). -/
def SPN_ROUTE (i : Nat) : Nat := 0x081800 + 0x1000 * (i / 512) + 0x4 * (i % 512)

/-- SPN_LOAD (R261). -/
def SPN_LOAD (i : Nat) : Nat := 0x080040 + 0x4 * i

/-- SPN_SCHED (R261). -/
def SPN_SCHED : Nat := 0x080050

/-- SPN_STAT (R261). -/
def SPN_STAT : Nat := 0x080054

/-- SPN_CNT (R261). -/
def SPN_CNT : Nat := 0x080058

/-- SPN_MISS (R261). -/
def SPN_MISS : Nat := 0x08005C

/-- SPN_GUARD_CTRL (R261). -/
def SPN_GUARD_CTRL : Nat := 0x080060

/-- SPN_TAP_CFG (R261). -/
def SPN_TAP_CFG (i : Nat) : Nat := 0x080100 + 0x4 * i

/-- SPN_TAP_RES (R261). -/
def SPN_TAP_RES (i : Nat) : Nat := 0x080180 + 0x4 * i

/-- MIX_STAT (R262). -/
def MIX_STAT : Nat := 0x090040

/-- MIX_CNT (R262). -/
def MIX_CNT : Nat := 0x090044

/-- MIX_XPE (R262). -/
def MIX_XPE : Nat := 0x090048

/-- MIX_GLSTAT (R262). -/
def MIX_GLSTAT : Nat := 0x09004C

/-- MIX_GUARD_CTRL (R262). -/
def MIX_GUARD_CTRL : Nat := 0x090050

/-- MIX_BUS (R262). -/
def MIX_BUS (i : Nat) : Nat := 0x091100 + 0x4 * i

/-- MIX_BSTAT (R262). -/
def MIX_BSTAT (i : Nat) : Nat := 0x091400 + 0x4 * i

/-- MIX_GL_XP (R262). -/
def MIX_GL_XP (i : Nat) : Nat := 0x092100 + 0x1000 * (i / 128) + 0x10 * (i % 128)

/-- MIX_GL_TGT (R262). -/
def MIX_GL_TGT (i : Nat) : Nat := 0x092104 + 0x1000 * (i / 128) + 0x10 * (i % 128)

/-- MIX_GL_TIME (R262). -/
def MIX_GL_TIME (i : Nat) : Nat := 0x092108 + 0x1000 * (i / 128) + 0x10 * (i % 128)

/-- MIX_GL_CTRL (R262). -/
def MIX_GL_CTRL (i : Nat) : Nat := 0x09210C + 0x1000 * (i / 128) + 0x10 * (i % 128)

/-- FX_WIN (R293). -/
def FX_WIN : Nat := 0x0A0040

/-- FX_STAT (R293). -/
def FX_STAT : Nat := 0x0A0044

/-- FX_LOAD0 (R293). -/
def FX_LOAD0 : Nat := 0x0A0048

/-- FX_LOAD1 (R293). -/
def FX_LOAD1 : Nat := 0x0A004C

/-- FX_LOAD2 (R293). -/
def FX_LOAD2 : Nat := 0x0A0050

/-- FX_LOAD3 (R293). -/
def FX_LOAD3 : Nat := 0x0A0054

/-- FX_CNT (R293). -/
def FX_CNT : Nat := 0x0A0058

/-- FX_CNT2 (R293). -/
def FX_CNT2 : Nat := 0x0A005C

/-- FX_GUARD (R293). -/
def FX_GUARD : Nat := 0x0A0060

/-- FX_GUARD_CTRL (R293). -/
def FX_GUARD_CTRL : Nat := 0x0A0064

/-- FX_PROBE (R293). -/
def FX_PROBE : Nat := 0x0A0068

/-- FX_PROBE_RES (R293). -/
def FX_PROBE_RES : Nat := 0x0A006C

/-- BQ_CFG (R293). -/
def BQ_CFG (i : Nat) : Nat := 0x0A1100 + 0x10 * i

/-- BQ_BANK (R293). -/
def BQ_BANK (i j : Nat) : Nat := 0x0A1104 + 0x10 * i + 0x4 * j

/-- BQ_STAT (R293). -/
def BQ_STAT (i : Nat) : Nat := 0x0A110C + 0x10 * i

/-- DYN_CFG (R293). -/
def DYN_CFG (i : Nat) : Nat := 0x0A2100 + 0x1000 * (i / 64) + 0x20 * (i % 64)

/-- DYN_THR (R293). -/
def DYN_THR (i : Nat) : Nat := 0x0A2104 + 0x1000 * (i / 64) + 0x20 * (i % 64)

/-- DYN_TIME (R293). -/
def DYN_TIME (i : Nat) : Nat := 0x0A2108 + 0x1000 * (i / 64) + 0x20 * (i % 64)

/-- DYN_GAIN (R293). -/
def DYN_GAIN (i : Nat) : Nat := 0x0A210C + 0x1000 * (i / 64) + 0x20 * (i % 64)

/-- DYN_GR (R293). -/
def DYN_GR (i : Nat) : Nat := 0x0A2110 + 0x1000 * (i / 64) + 0x20 * (i % 64)

/-- DL_CFG (R293). -/
def DL_CFG (i : Nat) : Nat := 0x0A4100 + 0x8 * i

/-- DL_DLY (R293). -/
def DL_DLY (i : Nat) : Nat := 0x0A4104 + 0x8 * i

/-- TAP_CFG (R293). -/
def TAP_CFG (i : Nat) : Nat := 0x0A5100 + 0x1000 * (i / 128) + 0x10 * (i % 128)

/-- TAP_D (R293). -/
def TAP_D (i : Nat) : Nat := 0x0A5104 + 0x1000 * (i / 128) + 0x10 * (i % 128)

/-- TAP_MOD (R293). -/
def TAP_MOD (i : Nat) : Nat := 0x0A5108 + 0x1000 * (i / 128) + 0x10 * (i % 128)

/-- TAP_STAT (R293). -/
def TAP_STAT (i : Nat) : Nat := 0x0A510C + 0x1000 * (i / 128) + 0x10 * (i % 128)

/-- CV_PREP (R293). -/
def CV_PREP : Nat := 0x0A7040

/-- CV_PSTAT (R293). -/
def CV_PSTAT : Nat := 0x0A7044

/-- CV_RDY (R293). -/
def CV_RDY (i : Nat) : Nat := 0x0A7048 + 0x4 * i

/-- CV_CFG_FX (R293). -/
def CV_CFG_FX (i : Nat) : Nat := 0x0A7100 + 0x20 * i

/-- CV_SET (R293). -/
def CV_SET (i j : Nat) : Nat := 0x0A7104 + 0x20 * i + 0x8 * j

/-- CV_GAIN (R293). -/
def CV_GAIN (i j : Nat) : Nat := 0x0A7108 + 0x20 * i + 0x8 * j

/-- CV_STAT_FX (R293). -/
def CV_STAT_FX (i : Nat) : Nat := 0x0A7114 + 0x20 * i

/-- SH_CFG (R293). -/
def SH_CFG (i : Nat) : Nat := 0x0A8100 + 0x10 * i

/-- SH_GAIN (R293). -/
def SH_GAIN (i : Nat) : Nat := 0x0A8104 + 0x10 * i

/-- LFO_CFG (R293). -/
def LFO_CFG (i : Nat) : Nat := 0x0A8500 + 0x10 * i

/-- LFO_PH (R293). -/
def LFO_PH (i : Nat) : Nat := 0x0A8504 + 0x10 * i

/-- OUT_SUMMARY (R315). -/
def OUT_SUMMARY : Nat := 0x0B0040

/-- OUT_CFG (R315). -/
def OUT_CFG (i : Nat) : Nat := 0x0B0100 + 0x40 * i

/-- OUT_CTRL (R315). -/
def OUT_CTRL (i : Nat) : Nat := 0x0B0104 + 0x40 * i

/-- OUT_HB (R315). -/
def OUT_HB (i : Nat) : Nat := 0x0B0108 + 0x40 * i

/-- OUT_RB_CFG (R315). -/
def OUT_RB_CFG (i : Nat) : Nat := 0x0B010C + 0x40 * i

/-- OUT_STAT (R315). -/
def OUT_STAT (i : Nat) : Nat := 0x0B0110 + 0x40 * i

/-- OUT_DCV (R315). -/
def OUT_DCV (i : Nat) : Nat := 0x0B0114 + 0x40 * i

/-- OUT_RBE (R315). -/
def OUT_RBE (i : Nat) : Nat := 0x0B0118 + 0x40 * i

/-- OUT_CNT1 (R315). -/
def OUT_CNT1 (i : Nat) : Nat := 0x0B011C + 0x40 * i

/-- OUT_CNT2 (R315). -/
def OUT_CNT2 (i : Nat) : Nat := 0x0B0120 + 0x40 * i

/-- JACK_EVQ (R329). -/
def JACK_EVQ : Nat := 0x0C0040

/-- JACK_POP_CFG (R329). -/
def JACK_POP_CFG : Nat := 0x0C0044

/-- JACK_CNT (R329). -/
def JACK_CNT : Nat := 0x0C0048

/-- JK_CFG (R329). -/
def JK_CFG (i : Nat) : Nat := 0x0C0100 + 0x20 * i

/-- JK_THR (R329). -/
def JK_THR (i : Nat) : Nat := 0x0C0104 + 0x20 * i

/-- JK_STAT (R329). -/
def JK_STAT (i : Nat) : Nat := 0x0C0108 + 0x20 * i

/-- JK_LVL (R329). -/
def JK_LVL (i : Nat) : Nat := 0x0C010C + 0x20 * i

/-- JK_CTRL (R329). -/
def JK_CTRL (i : Nat) : Nat := 0x0C0110 + 0x20 * i

/-- JK_CNT (R329). -/
def JK_CNT (i : Nat) : Nat := 0x0C0114 + 0x20 * i

/-- JACK_BIND (R329). -/
def JACK_BIND (i : Nat) : Nat := 0x0C0400 + 0x4 * i

/-- CV_REF (R343). -/
def CV_REF : Nat := 0x0D0040

/-- CV_SUMMARY (R343). -/
def CV_SUMMARY : Nat := 0x0D0044

/-- TMR_START_LO (R343). -/
def TMR_START_LO (i : Nat) : Nat := 0x0D0080 + 0x10 * i

/-- TMR_START_HI (R343). -/
def TMR_START_HI (i : Nat) : Nat := 0x0D0084 + 0x10 * i

/-- TMR_PERIOD (R343). -/
def TMR_PERIOD (i : Nat) : Nat := 0x0D0088 + 0x10 * i

/-- TMR_CTRL (R343). -/
def TMR_CTRL (i : Nat) : Nat := 0x0D008C + 0x10 * i

/-- CV_CFG (R343). -/
def CV_CFG (i : Nat) : Nat := 0x0D0100 + 0x40 * i

/-- CV_CTRL (R343). -/
def CV_CTRL (i : Nat) : Nat := 0x0D0104 + 0x40 * i

/-- CV_HB (R343). -/
def CV_HB (i : Nat) : Nat := 0x0D0108 + 0x40 * i

/-- CV_HB_SLEW (R343). -/
def CV_HB_SLEW (i : Nat) : Nat := 0x0D010C + 0x40 * i

/-- CV_RB_CFG (R343). -/
def CV_RB_CFG (i : Nat) : Nat := 0x0D0110 + 0x40 * i

/-- CV_STAT (R343). -/
def CV_STAT (i : Nat) : Nat := 0x0D0114 + 0x40 * i

/-- CV_VOUT (R343). -/
def CV_VOUT (i : Nat) : Nat := 0x0D0118 + 0x40 * i

/-- CV_RBE (R343). -/
def CV_RBE (i : Nat) : Nat := 0x0D011C + 0x40 * i

/-- CV_CNT1 (R343). -/
def CV_CNT1 (i : Nat) : Nat := 0x0D0120 + 0x40 * i

/-- CV_CNT2 (R343). -/
def CV_CNT2 (i : Nat) : Nat := 0x0D0124 + 0x40 * i

/-- SPK_CFG (R375). -/
def SPK_CFG (i : Nat) : Nat := 0x0E0040 + 0x1000 * i

/-- SPK_CTRL (R375). -/
def SPK_CTRL (i : Nat) : Nat := 0x0E0044 + 0x1000 * i

/-- SPK_HB_P (R375). -/
def SPK_HB_P (i : Nat) : Nat := 0x0E0048 + 0x1000 * i

/-- SPK_HB_I (R375). -/
def SPK_HB_I (i : Nat) : Nat := 0x0E004C + 0x1000 * i

/-- SPK_HB_T (R375). -/
def SPK_HB_T (i : Nat) : Nat := 0x0E0050 + 0x1000 * i

/-- SPK_ZB (R375). -/
def SPK_ZB (i : Nat) : Nat := 0x0E0054 + 0x1000 * i

/-- SPK_RB_CFG (R375). -/
def SPK_RB_CFG (i : Nat) : Nat := 0x0E0058 + 0x1000 * i

/-- SPK_STAT (R375). -/
def SPK_STAT (i : Nat) : Nat := 0x0E005C + 0x1000 * i

/-- SPK_Z (R375). -/
def SPK_Z (i : Nat) : Nat := 0x0E0060 + 0x1000 * i

/-- SPK_PWR (R375). -/
def SPK_PWR (i : Nat) : Nat := 0x0E0064 + 0x1000 * i

/-- SPK_TEMP (R375). -/
def SPK_TEMP (i : Nat) : Nat := 0x0E0068 + 0x1000 * i

/-- SPK_RBE (R375). -/
def SPK_RBE (i : Nat) : Nat := 0x0E006C + 0x1000 * i

/-- SPK_CNT1 (R375). -/
def SPK_CNT1 (i : Nat) : Nat := 0x0E0070 + 0x1000 * i

/-- SPK_CNT2 (R375). -/
def SPK_CNT2 (i : Nat) : Nat := 0x0E0074 + 0x1000 * i

/-- BST_CFG (R396). -/
def BST_CFG : Nat := 0x0F0040

/-- BST_TRACK (R396). -/
def BST_TRACK : Nat := 0x0F0044

/-- BST_BOUND (R396). -/
def BST_BOUND : Nat := 0x0F0048

/-- BST_HB (R396). -/
def BST_HB : Nat := 0x0F004C

/-- BST_RB_CFG (R396). -/
def BST_RB_CFG : Nat := 0x0F0050

/-- BST_STAT (R396). -/
def BST_STAT : Nat := 0x0F0054

/-- BST_PVDD (R396). -/
def BST_PVDD : Nat := 0x0F0058

/-- BST_IIN (R396). -/
def BST_IIN : Nat := 0x0F005C

/-- BST_TEMP (R396). -/
def BST_TEMP : Nat := 0x0F0060

/-- BST_RBE (R396). -/
def BST_RBE : Nat := 0x0F0064

/-- BST_CNT1 (R396). -/
def BST_CNT1 : Nat := 0x0F0068

/-- BST_CNT2 (R396). -/
def BST_CNT2 : Nat := 0x0F006C

/-- BST_CLIPMAP (R396). -/
def BST_CLIPMAP : Nat := 0x0F0070

/-- BST_CTRL (R396). -/
def BST_CTRL : Nat := 0x0F0074

/-- QMG_POOL (R420). -/
def QMG_POOL : Nat := 0x100040

/-- QMG_SHARED (R420). -/
def QMG_SHARED : Nat := 0x100044

/-- QMG_SHFREE (R420). -/
def QMG_SHFREE : Nat := 0x100048

/-- QMG_LOAD (R420). -/
def QMG_LOAD : Nat := 0x10004C

/-- QMG_HOSTX (R420). -/
def QMG_HOSTX : Nat := 0x100050

/-- QMG_CNT1 (R420). -/
def QMG_CNT1 : Nat := 0x100054

/-- QMG_CNT2 (R420). -/
def QMG_CNT2 : Nat := 0x100058

/-- QMG_CNT3 (R420). -/
def QMG_CNT3 : Nat := 0x10005C

/-- QMG_STAT (R420). -/
def QMG_STAT : Nat := 0x100060

/-- QMG_QSEL (R420). -/
def QMG_QSEL : Nat := 0x100064

/-- QMG_QCFG (R420). -/
def QMG_QCFG (i : Nat) : Nat := 0x1000000 + 0x20 * i

/-- QMG_QWM (R420). -/
def QMG_QWM (i : Nat) : Nat := 0x1000004 + 0x20 * i

/-- QMG_QCT (R420). -/
def QMG_QCT (i : Nat) : Nat := 0x1000008 + 0x20 * i

/-- QMG_QSTAT (R420). -/
def QMG_QSTAT (i : Nat) : Nat := 0x100000C + 0x20 * i

/-- QMG_QSIG (R420). -/
def QMG_QSIG (i : Nat) : Nat := 0x1000010 + 0x20 * i

/-- QMG_QBM (R420). -/
def QMG_QBM (i : Nat) : Nat := 0x1000014 + 0x20 * i

/-- QMG_QCNT (R420). -/
def QMG_QCNT (i : Nat) : Nat := 0x1000018 + 0x20 * i

/-- QMG_QCMD (R420). -/
def QMG_QCMD : Nat := 0x100084

/-- WP_CFG (R420). -/
def WP_CFG (i : Nat) : Nat := 0x102100 + 0x4 * i

/-- WP_END (R420). -/
def WP_END (i : Nat) : Nat := 0x800C00 + 0x1000 * i

/-- WP_WSTAT (R420). -/
def WP_WSTAT (i : Nat) : Nat := 0x800C04 + 0x1000 * i

/-- WP_RSTAT (R420). -/
def WP_RSTAT (i : Nat) : Nat := 0x800C08 + 0x1000 * i

/-- WP_RCTRL (R420). -/
def WP_RCTRL (i : Nat) : Nat := 0x800C0C + 0x1000 * i

/-- WP_CNT (R420). -/
def WP_CNT (i : Nat) : Nat := 0x800C10 + 0x1000 * i

/-- NET_MAC_LO (R448). -/
def NET_MAC_LO : Nat := 0x110040

/-- NET_MAC_HI (R448). -/
def NET_MAC_HI : Nat := 0x110044

/-- NET_CLASS (R448). -/
def NET_CLASS : Nat := 0x110048

/-- NET_BR_CFG (R448). -/
def NET_BR_CFG : Nat := 0x11004C

/-- NET_FLOOD (R448). -/
def NET_FLOOD : Nat := 0x110050

/-- NET_BR_STAT (R448). -/
def NET_BR_STAT : Nat := 0x110054

/-- NET_BR_CNT1 (R448). -/
def NET_BR_CNT1 : Nat := 0x110058

/-- NET_BR_CNT2 (R448). -/
def NET_BR_CNT2 : Nat := 0x11005C

/-- NET_TBL_CMD (R448). -/
def NET_TBL_CMD : Nat := 0x110060

/-- NET_TBL_MAC_LO (R448). -/
def NET_TBL_MAC_LO : Nat := 0x110064

/-- NET_TBL_MAC_HI (R448). -/
def NET_TBL_MAC_HI : Nat := 0x110068

/-- NET_TBL_RES (R448). -/
def NET_TBL_RES : Nat := 0x11006C

/-- PORT_CFG (R448). -/
def PORT_CFG (i : Nat) : Nat := 0x111040 + 0x1000 * i

/-- PORT_TAG (R448). -/
def PORT_TAG (i : Nat) : Nat := 0x111044 + 0x1000 * i

/-- PORT_PREEMPT (R448). -/
def PORT_PREEMPT (i : Nat) : Nat := 0x111048 + 0x1000 * i

/-- PORT_STAT (R448). -/
def PORT_STAT (i : Nat) : Nat := 0x111050 + 0x1000 * i

/-- PORT_RXQ (R448). -/
def PORT_RXQ (i : Nat) : Nat := 0x111054 + 0x1000 * i

/-- PORT_EQ (R448). -/
def PORT_EQ (i j : Nat) : Nat := 0x111060 + 0x1000 * i + 0x4 * j

/-- PORT_SHAPE (R448). -/
def PORT_SHAPE (i j : Nat) : Nat := 0x111080 + 0x1000 * i + 0x4 * j

/-- PORT_CNT0 (R448). -/
def PORT_CNT0 (i : Nat) : Nat := 0x1110A0 + 0x1000 * i

/-- PORT_CNT1 (R448). -/
def PORT_CNT1 (i : Nat) : Nat := 0x1110A4 + 0x1000 * i

/-- PORT_CNT2 (R448). -/
def PORT_CNT2 (i : Nat) : Nat := 0x1110A8 + 0x1000 * i

/-- PORT_CNT3 (R448). -/
def PORT_CNT3 (i : Nat) : Nat := 0x1110AC + 0x1000 * i

/-- PORT_CNT4 (R448). -/
def PORT_CNT4 (i : Nat) : Nat := 0x1110B0 + 0x1000 * i

/-- PORT_CNT5 (R448). -/
def PORT_CNT5 (i : Nat) : Nat := 0x1110B4 + 0x1000 * i

/-- PORT_CNT6 (R448). -/
def PORT_CNT6 (i : Nat) : Nat := 0x1110B8 + 0x1000 * i

/-- PORT_CNT7 (R448). -/
def PORT_CNT7 (i : Nat) : Nat := 0x1110BC + 0x1000 * i

/-- ZKL_NODE (R475). -/
def ZKL_NODE : Nat := 0x120040

/-- ZKL_ETYPE (R475). -/
def ZKL_ETYPE : Nat := 0x120044

/-- ZKL_RXQ (R475). -/
def ZKL_RXQ : Nat := 0x120048

/-- ZKL_CNT (R475). -/
def ZKL_CNT : Nat := 0x12004C

/-- TX_CFG (R475). -/
def TX_CFG (i : Nat) : Nat := 0x120100 + 0x20 * i

/-- TX_TIME (R475). -/
def TX_TIME (i : Nat) : Nat := 0x120104 + 0x20 * i

/-- TX_DA_LO (R475). -/
def TX_DA_LO (i : Nat) : Nat := 0x120108 + 0x20 * i

/-- TX_DA_HI (R475). -/
def TX_DA_HI (i : Nat) : Nat := 0x12010C + 0x20 * i

/-- TX_CTRL (R475). -/
def TX_CTRL (i : Nat) : Nat := 0x120110 + 0x20 * i

/-- TX_CNT (R475). -/
def TX_CNT (i : Nat) : Nat := 0x120114 + 0x20 * i

/-- TX_STAT (R475). -/
def TX_STAT (i : Nat) : Nat := 0x120118 + 0x20 * i

/-- TX_TSTATE (R475). -/
def TX_TSTATE (i : Nat) : Nat := 0x12011C + 0x20 * i

/-- RX_CFG (R475). -/
def RX_CFG (i : Nat) : Nat := 0x121100 + 0x20 * i

/-- RX_ID (R475). -/
def RX_ID (i : Nat) : Nat := 0x121104 + 0x20 * i

/-- RX_CTL (R475). -/
def RX_CTL (i : Nat) : Nat := 0x121108 + 0x20 * i

/-- RX_STAT (R475). -/
def RX_STAT (i : Nat) : Nat := 0x12110C + 0x20 * i

/-- RX_CNT1 (R475). -/
def RX_CNT1 (i : Nat) : Nat := 0x121110 + 0x20 * i

/-- RX_CNT2 (R475). -/
def RX_CNT2 (i : Nat) : Nat := 0x121114 + 0x20 * i

/-- RX_CNT3 (R475). -/
def RX_CNT3 (i : Nat) : Nat := 0x121118 + 0x20 * i

/-- TIME_STAT (R476). -/
def TIME_STAT : Nat := 0x005040

/-- TIME_MAP_TICK (R476). -/
def TIME_MAP_TICK (i : Nat) : Nat := 0x005044 + 0x4 * i

/-- TIME_MAP_SEC_LO (R476). -/
def TIME_MAP_SEC_LO : Nat := 0x00504C

/-- TIME_MAP_SEC_HI (R476). -/
def TIME_MAP_SEC_HI : Nat := 0x005050

/-- TIME_MAP_NS (R476). -/
def TIME_MAP_NS : Nat := 0x005054

/-- TIME_MAP_RATE (R476). -/
def TIME_MAP_RATE : Nat := 0x005058

/-- TIME_MAP_CTRL (R476). -/
def TIME_MAP_CTRL : Nat := 0x00505C

/-- TIME_NOW_SEC_LO (R476). -/
def TIME_NOW_SEC_LO : Nat := 0x005060

/-- TIME_NOW_SEC_HI (R476). -/
def TIME_NOW_SEC_HI : Nat := 0x005064

/-- TIME_NOW_NS (R476). -/
def TIME_NOW_NS : Nat := 0x005068

/-- TIME_DOFS (R476). -/
def TIME_DOFS (i : Nat) : Nat := 0x00506C + 0x4 * i

/-- TIME_PHASE (R476). -/
def TIME_PHASE : Nat := 0x005074

/-- TIME_TS_CFG (R476). -/
def TIME_TS_CFG : Nat := 0x005078

/-- TIME_TS_CNT (R476). -/
def TIME_TS_CNT : Nat := 0x00507C

/-- TIME_CVT_TICK (R476). -/
def TIME_CVT_TICK (i : Nat) : Nat := 0x005080 + 0x4 * i

/-- TIME_CVT_CYC (R476). -/
def TIME_CVT_CYC : Nat := 0x005088

/-- TIME_CVT_ST (R476). -/
def TIME_CVT_ST : Nat := 0x00508C

/-- TIME_CVT_SEC_LO (R476). -/
def TIME_CVT_SEC_LO : Nat := 0x005090

/-- TIME_CVT_SEC_HI (R476). -/
def TIME_CVT_SEC_HI : Nat := 0x005094

/-- TIME_CVT_NS (R476). -/
def TIME_CVT_NS : Nat := 0x005098

/-- TIME_CVT_DATE (R476). -/
def TIME_CVT_DATE : Nat := 0x00509C

/-- TIME_CVT_TIME (R476). -/
def TIME_CVT_TIME : Nat := 0x0050A0

/-- TIME_UTC (R476). -/
def TIME_UTC : Nat := 0x0050B0

/-- TIME_LEAP_OFS (R476). -/
def TIME_LEAP_OFS : Nat := 0x0050B4

/-- TIME_LEAP_AT_LO (R476). -/
def TIME_LEAP_AT_LO : Nat := 0x0050B8

/-- TIME_LEAP_AT_HI (R476). -/
def TIME_LEAP_AT_HI : Nat := 0x0050BC

/-- TIME_CAL_CFG (R476). -/
def TIME_CAL_CFG : Nat := 0x0050C0

/-- TIME_CAL_SET_DATE (R476). -/
def TIME_CAL_SET_DATE : Nat := 0x0050C4

/-- TIME_CAL_SET_TIME (R476). -/
def TIME_CAL_SET_TIME : Nat := 0x0050C8

/-- TIME_CAL_DATE (R476). -/
def TIME_CAL_DATE : Nat := 0x0050D0

/-- TIME_CAL_TIME (R476). -/
def TIME_CAL_TIME : Nat := 0x0050D4

/-- HOST_PIN (R499). -/
def HOST_PIN : Nat := 0x006040

/-- HOST_I2CT (R499). -/
def HOST_I2CT : Nat := 0x006044

/-- HOST_ERR (R499). -/
def HOST_ERR : Nat := 0x006048

/-- HOST_ERR2 (R499). -/
def HOST_ERR2 : Nat := 0x00604C

/-- HOST_INT_SUM (R499). -/
def HOST_INT_SUM (i j : Nat) : Nat := 0x006100 + 0x40 * i + 0x4 * j

/-- ID_PART (R500). -/
def ID_PART : Nat := 0x000040

/-- ID_STEP (R500). -/
def ID_STEP : Nat := 0x000044

/-- ID_GRADE (R500). -/
def ID_GRADE : Nat := 0x000048

/-- ID_SERIAL_LO (R500). -/
def ID_SERIAL_LO : Nat := 0x00004C

/-- ID_SERIAL_HI (R500). -/
def ID_SERIAL_HI : Nat := 0x000050

/-- ID_SCRATCH (R500). -/
def ID_SCRATCH : Nat := 0x000054

/-- MBOX_STAT (R501). -/
def MBOX_STAT : Nat := 0x009040

/-- MBOX_H2M_LEN (R501). -/
def MBOX_H2M_LEN : Nat := 0x009044

/-- MBOX_M2H_LEN (R501). -/
def MBOX_M2H_LEN : Nat := 0x009048

/-- MBOX_M2H_ACK (R501). -/
def MBOX_M2H_ACK : Nat := 0x00904C

/-- MBOX_CNT (R501). -/
def MBOX_CNT : Nat := 0x009050

/-- H2M_DATA (R501). -/
def H2M_DATA (i : Nat) : Nat := 0x009100 + 0x4 * i

/-- M2H_DATA (R501). -/
def M2H_DATA (i : Nat) : Nat := 0x009200 + 0x4 * i

/-- PRESS_CMD (R521). -/
def PRESS_CMD : Nat := 0x001040

/-- PRESS_TGT_LO (R521). -/
def PRESS_TGT_LO : Nat := 0x001044

/-- PRESS_TGT_HI (R521). -/
def PRESS_TGT_HI : Nat := 0x001048

/-- PRESS_CFG (R521). -/
def PRESS_CFG : Nat := 0x00104C

/-- PRESS_STAT (R521). -/
def PRESS_STAT : Nat := 0x001050

/-- PRESS_RES (R521). -/
def PRESS_RES : Nat := 0x001054

/-- PRESS_FAIL (R521). -/
def PRESS_FAIL : Nat := 0x001058

/-- PRESS_BUD (R521). -/
def PRESS_BUD : Nat := 0x00105C

/-- PRESS_BUD_VAL (R521). -/
def PRESS_BUD_VAL : Nat := 0x001060

/-- PRESS_BUD_LIM (R521). -/
def PRESS_BUD_LIM : Nat := 0x001064

/-- PRESS_S_LO (R521). -/
def PRESS_S_LO : Nat := 0x001068

/-- PRESS_S_HI (R521). -/
def PRESS_S_HI : Nat := 0x00106C

/-- PRESS_CNT (R521). -/
def PRESS_CNT : Nat := 0x001070

/-- PRESS_CNT2 (R521). -/
def PRESS_CNT2 : Nat := 0x001074

/-- FLT_STAT (R551). -/
def FLT_STAT : Nat := 0x002040

/-- FLT_FN_CFG (R551). -/
def FLT_FN_CFG : Nat := 0x002044

/-- FLT_FN_ACK (R551). -/
def FLT_FN_ACK : Nat := 0x002048

/-- FLT_PEND (R551). -/
def FLT_PEND : Nat := 0x00204C

/-- FLT_LOG_CFG (R551). -/
def FLT_LOG_CFG : Nat := 0x002050

/-- FLT_LOG_STAT (R551). -/
def FLT_LOG_STAT : Nat := 0x002054

/-- FLT_LOG_CNT (R551). -/
def FLT_LOG_CNT : Nat := 0x002058

/-- FLT_LOG_CLR (R551). -/
def FLT_LOG_CLR : Nat := 0x00205C

/-- FLT_FIRST (R551). -/
def FLT_FIRST (i : Nat) : Nat := 0x002060 + 0x4 * i

/-- FLT_LAST (R551). -/
def FLT_LAST (i : Nat) : Nat := 0x002070 + 0x4 * i

/-- FLT_ISO (R551). -/
def FLT_ISO (i : Nat) : Nat := 0x002080 + 0x4 * i

/-- FLT_ISO_SET (R551). -/
def FLT_ISO_SET (i : Nat) : Nat := 0x002090 + 0x4 * i

/-- FLT_ISO_CLR (R551). -/
def FLT_ISO_CLR (i : Nat) : Nat := 0x0020A0 + 0x4 * i

/-- FLT_ISO_CFG (R551). -/
def FLT_ISO_CFG : Nat := 0x0020AC

/-- FLT_ISO_PROBE (R551). -/
def FLT_ISO_PROBE : Nat := 0x0020B0

/-- FLT_ISO_WHY (R551). -/
def FLT_ISO_WHY : Nat := 0x0020B4

/-- FLT_ISO_CNT (R551). -/
def FLT_ISO_CNT : Nat := 0x0020B8

/-- FLT_DEP_SEL (R551). -/
def FLT_DEP_SEL : Nat := 0x0020C0

/-- FLT_DEP (R551). -/
def FLT_DEP : Nat := 0x0020C4

/-- FLT_LINK_A (R551). -/
def FLT_LINK_A (i : Nat) : Nat := 0x002100 + 0x8 * i

/-- FLT_LINK_B (R551). -/
def FLT_LINK_B (i : Nat) : Nat := 0x002104 + 0x8 * i

/-- FLT_MC_CTRL (R551). -/
def FLT_MC_CTRL : Nat := 0x002140

/-- FLT_MC_STAT (R551). -/
def FLT_MC_STAT : Nat := 0x002144

/-- FLT_WDOG (R551). -/
def FLT_WDOG : Nat := 0x002148

/-- FLT_VIEW_CFG (R551). -/
def FLT_VIEW_CFG : Nat := 0x002150

/-- FLT_VIEW_FIRST (R551). -/
def FLT_VIEW_FIRST : Nat := 0x002154

/-- FLT_TEMP_CFG (R551). -/
def FLT_TEMP_CFG : Nat := 0x002160

/-- FLT_TEMP (R551). -/
def FLT_TEMP : Nat := 0x002164

/-- FLT_LOCKALL (R551). -/
def FLT_LOCKALL : Nat := 0x002170

/-- NVM_STAT (R573). -/
def NVM_STAT : Nat := 0x008040

/-- NVM_JCMD (R573). -/
def NVM_JCMD : Nat := 0x008044

/-- NVM_JLEN (R573). -/
def NVM_JLEN : Nat := 0x008048

/-- NVM_JQ (R573). -/
def NVM_JQ : Nat := 0x00804C

/-- NVM_JRES (R573). -/
def NVM_JRES : Nat := 0x008050

/-- NVM_JSEQ (R573). -/
def NVM_JSEQ : Nat := 0x008054

/-- NVM_JGEOM (R573). -/
def NVM_JGEOM : Nat := 0x008058

/-- NVM_JFREE (R573). -/
def NVM_JFREE : Nat := 0x00805C

/-- NVM_CNT1 (R573). -/
def NVM_CNT1 : Nat := 0x008060

/-- NVM_CNT2 (R573). -/
def NVM_CNT2 : Nat := 0x008064

/-- NVM_OTP_SEL (R573). -/
def NVM_OTP_SEL : Nat := 0x008080

/-- NVM_OTP_DATA (R573). -/
def NVM_OTP_DATA : Nat := 0x008084

/-- NVM_OTP_CMD (R573). -/
def NVM_OTP_CMD : Nat := 0x008088

/-- NVM_OTP_VAL (R573). -/
def NVM_OTP_VAL : Nat := 0x00808C

/-- NVM_OTP_RES (R573). -/
def NVM_OTP_RES : Nat := 0x008090

/-- NVM_OTP_ISTAT (R573). -/
def NVM_OTP_ISTAT : Nat := 0x008094

/-- NVM_BOOT_STAT (R573). -/
def NVM_BOOT_STAT : Nat := 0x0080A0

/-- NVM_BOOT_VER (R573). -/
def NVM_BOOT_VER : Nat := 0x0080A4

/-- NVM_HLOAD_CTRL (R573). -/
def NVM_HLOAD_CTRL : Nat := 0x0080A8

/-- NVM_HLOAD_DATA (R573). -/
def NVM_HLOAD_DATA : Nat := 0x0080AC

/-- NVM_HLOAD_CNT (R573). -/
def NVM_HLOAD_CNT : Nat := 0x0080B0

/-- NVM_FL_CFG (R573). -/
def NVM_FL_CFG : Nat := 0x0080B4

/-- GPIO_IN (R574). -/
def GPIO_IN : Nat := 0x007040

/-- GPIO_OUT (R574). -/
def GPIO_OUT : Nat := 0x007044

/-- GPIO_SET (R574). -/
def GPIO_SET : Nat := 0x007048

/-- GPIO_CLR (R574). -/
def GPIO_CLR : Nat := 0x00704C

/-- GPIO_DIR (R574). -/
def GPIO_DIR : Nat := 0x007050

/-- GPIO_PU (R574). -/
def GPIO_PU : Nat := 0x007054

/-- GPIO_PD (R574). -/
def GPIO_PD : Nat := 0x007058

/-- GPIO_RISE (R574). -/
def GPIO_RISE : Nat := 0x00705C

/-- GPIO_FALL (R574). -/
def GPIO_FALL : Nat := 0x007060

/-- GPIO_EVT (R574). -/
def GPIO_EVT : Nat := 0x007064

/-- FC_SEL (R574). -/
def FC_SEL (i : Nat) : Nat := 0x007080 + 0x4 * i

/-- FC_STAT (R574). -/
def FC_STAT : Nat := 0x0070A0

/-- I2C_CFG (R574). -/
def I2C_CFG (i : Nat) : Nat := 0x007100 + 0x80 * i

/-- I2C_XFER (R574). -/
def I2C_XFER (i : Nat) : Nat := 0x007104 + 0x80 * i

/-- I2C_TX (R574). -/
def I2C_TX (i j : Nat) : Nat := 0x007108 + 0x80 * i + 0x4 * j

/-- I2C_RX (R574). -/
def I2C_RX (i j : Nat) : Nat := 0x007128 + 0x80 * i + 0x4 * j

/-- I2C_RES (R574). -/
def I2C_RES (i : Nat) : Nat := 0x007148 + 0x80 * i

/-- I2C_STAT (R574). -/
def I2C_STAT (i : Nat) : Nat := 0x00714C + 0x80 * i

/-- I2C_CNT (R574). -/
def I2C_CNT (i : Nat) : Nat := 0x007150 + 0x80 * i

/-- SVC_CHECK_RES (R165). -/
def SVC_CHECK_RES (i : Nat) : Nat := 0x04004C + 0x4 * i

/-- SVC_URG_RES (R165). -/
def SVC_URG_RES : Nat := 0x04005C

/-- SV_RES (R165). -/
def SV_RES (i j : Nat) : Nat := 0x040300 + 0x100 * i + 0x4 * j

/-- ROT_RES (R165). -/
def ROT_RES (i : Nat) : Nat := 0x040500 + 0x4 * i

/-- NET_HASH (R448). -/
def NET_HASH (i j : Nat) : Nat := 0x116100 + 0x200 * i + 0x4 * j

end Adr

namespace F


/-! Fields of CLK. -/

def CLK_STATUS_NREF_OK : Fld := ⟨Adr.CLK_STATUS, 11, 11⟩
def CLK_STATUS_PLLN_LOCK : Fld := ⟨Adr.CLK_STATUS, 10, 10⟩
def CLK_STATUS_PLLP_LOCK : Fld := ⟨Adr.CLK_STATUS, 9, 9⟩
def CLK_STATUS_PLLM_LOCK : Fld := ⟨Adr.CLK_STATUS, 8, 8⟩
def CLK_STATUS_PLLC_LOCK : Fld := ⟨Adr.CLK_STATUS, 7, 7⟩
def CLK_STATUS_HOLDOVER : Fld := ⟨Adr.CLK_STATUS, 6, 6⟩
def CLK_STATUS_SLEWING : Fld := ⟨Adr.CLK_STATUS, 5, 5⟩
def CLK_STATUS_PRELOCK : Fld := ⟨Adr.CLK_STATUS, 4, 4⟩
def CLK_STATUS_REF_OK : Fld := ⟨Adr.CLK_STATUS, 3, 3⟩
def CLK_STATUS_XTAL_OK : Fld := ⟨Adr.CLK_STATUS, 2, 2⟩
def CLK_STATUS_REF_ACT : Fld := ⟨Adr.CLK_STATUS, 1, 0⟩
def CLK_REF_CFG_SLEW_RATE : Fld := ⟨Adr.CLK_REF_CFG, 19, 8⟩
def CLK_REF_CFG_XTAL_DRIVE : Fld := ⟨Adr.CLK_REF_CFG, 5, 4⟩
def CLK_REF_CFG_REF_SEL : Fld := ⟨Adr.CLK_REF_CFG, 0, 0⟩
def CLK_TICK_LO_TICK_LO : Fld := ⟨Adr.CLK_TICK_LO, 31, 0⟩
def CLK_TICK_HI_TICK_HI : Fld := ⟨Adr.CLK_TICK_HI, 31, 0⟩
def CLK_CYC_CYC : Fld := ⟨Adr.CLK_CYC, 12, 0⟩
def CLK_PLL_CFG_BAND_CEIL (i : Nat) : Fld := ⟨Adr.CLK_PLL_CFG i, 13, 8⟩
def CLK_PLL_CFG_BAND_FLOOR (i : Nat) : Fld := ⟨Adr.CLK_PLL_CFG i, 7, 2⟩
def CLK_PLL_CFG_REF_MUL (i : Nat) : Fld := ⟨Adr.CLK_PLL_CFG i, 1, 0⟩
def CLK_PLL_STAT_UNLOCK_SAT (i : Nat) : Fld := ⟨Adr.CLK_PLL_STAT i, 31, 31⟩
def CLK_PLL_STAT_UNLOCK_CNT (i : Nat) : Fld := ⟨Adr.CLK_PLL_STAT i, 30, 16⟩
def CLK_PLL_STAT_LOCK_FAIL (i : Nat) : Fld := ⟨Adr.CLK_PLL_STAT i, 12, 12⟩
def CLK_PLL_STAT_PINNED (i : Nat) : Fld := ⟨Adr.CLK_PLL_STAT i, 11, 11⟩
def CLK_PLL_STAT_AT_CEIL (i : Nat) : Fld := ⟨Adr.CLK_PLL_STAT i, 10, 10⟩
def CLK_PLL_STAT_AT_FLOOR (i : Nat) : Fld := ⟨Adr.CLK_PLL_STAT i, 9, 9⟩
def CLK_PLL_STAT_LOCK (i : Nat) : Fld := ⟨Adr.CLK_PLL_STAT i, 8, 8⟩
def CLK_PLL_STAT_BAND (i : Nat) : Fld := ⟨Adr.CLK_PLL_STAT i, 5, 0⟩
def CLK_RELOCK_RELOCK_N : Fld := ⟨Adr.CLK_RELOCK, 2, 2⟩
def CLK_RELOCK_RELOCK_P : Fld := ⟨Adr.CLK_RELOCK, 1, 1⟩
def CLK_RELOCK_RELOCK_M : Fld := ⟨Adr.CLK_RELOCK, 0, 0⟩
def CLK_SERVO_CFG_STEER_SLEW : Fld := ⟨Adr.CLK_SERVO_CFG, 31, 16⟩
def CLK_SERVO_CFG_SERVO_PORT : Fld := ⟨Adr.CLK_SERVO_CFG, 11, 8⟩
def CLK_SERVO_CFG_BW : Fld := ⟨Adr.CLK_SERVO_CFG, 5, 4⟩
def CLK_SERVO_CFG_SERVO_SRC : Fld := ⟨Adr.CLK_SERVO_CFG, 3, 1⟩
def CLK_SERVO_CFG_SERVO_EN : Fld := ⟨Adr.CLK_SERVO_CFG, 0, 0⟩
def CLK_STEER_FLOOR_STEER_FLOOR : Fld := ⟨Adr.CLK_STEER_FLOOR, 23, 0⟩
def CLK_STEER_CEIL_STEER_CEIL : Fld := ⟨Adr.CLK_STEER_CEIL, 23, 0⟩
def CLK_STEER_STEER : Fld := ⟨Adr.CLK_STEER, 23, 0⟩
def CLK_SERVO_ERR_FRESH : Fld := ⟨Adr.CLK_SERVO_ERR, 31, 31⟩
def CLK_SERVO_ERR_SEQ : Fld := ⟨Adr.CLK_SERVO_ERR, 30, 23⟩
def CLK_SERVO_ERR_ERR : Fld := ⟨Adr.CLK_SERVO_ERR, 22, 0⟩
def CLK_SERVO_STAT_HOLD : Fld := ⟨Adr.CLK_SERVO_STAT, 4, 4⟩
def CLK_SERVO_STAT_PINNED : Fld := ⟨Adr.CLK_SERVO_STAT, 3, 3⟩
def CLK_SERVO_STAT_AT_CEIL : Fld := ⟨Adr.CLK_SERVO_STAT, 2, 2⟩
def CLK_SERVO_STAT_AT_FLOOR : Fld := ⟨Adr.CLK_SERVO_STAT, 1, 1⟩
def CLK_SERVO_STAT_LOCKED : Fld := ⟨Adr.CLK_SERVO_STAT, 0, 0⟩
def CLK_FDIV_D_INT (i : Nat) : Fld := ⟨Adr.CLK_FDIV i, 31, 16⟩
def CLK_FDIV_D_FRAC (i : Nat) : Fld := ⟨Adr.CLK_FDIV i, 15, 0⟩

/-! Fields of PWR. -/

def PWR_STATUS_PS_ACT : Fld := ⟨Adr.PWR_STATUS, 13, 12⟩
def PWR_STATUS_PS_BUSY : Fld := ⟨Adr.PWR_STATUS, 11, 11⟩
def PWR_STATUS_IO_LEVEL : Fld := ⟨Adr.PWR_STATUS, 10, 10⟩
def PWR_STATUS_PF_VIO : Fld := ⟨Adr.PWR_STATUS, 9, 9⟩
def PWR_STATUS_PVIN_FULL : Fld := ⟨Adr.PWR_STATUS, 8, 8⟩
def PWR_STATUS_PVIN_OK : Fld := ⟨Adr.PWR_STATUS, 5, 5⟩
def PWR_STATUS_VAH_OK : Fld := ⟨Adr.PWR_STATUS, 4, 4⟩
def PWR_STATUS_VDDA_OK : Fld := ⟨Adr.PWR_STATUS, 3, 3⟩
def PWR_STATUS_VDDIO_OK : Fld := ⟨Adr.PWR_STATUS, 2, 2⟩
def PWR_STATUS_VSER_OK : Fld := ⟨Adr.PWR_STATUS, 1, 1⟩
def PWR_STATUS_VCORE_OK : Fld := ⟨Adr.PWR_STATUS, 0, 0⟩
def PWR_STATE_REQ_PS_REQ : Fld := ⟨Adr.PWR_STATE_REQ, 1, 0⟩
def PWR_RST_CAUSE_PLLC_FAIL : Fld := ⟨Adr.PWR_RST_CAUSE, 5, 5⟩
def PWR_RST_CAUSE_VDDA_UV : Fld := ⟨Adr.PWR_RST_CAUSE, 4, 4⟩
def PWR_RST_CAUSE_VDDIO_UV : Fld := ⟨Adr.PWR_RST_CAUSE, 3, 3⟩
def PWR_RST_CAUSE_VCORE_UV : Fld := ⟨Adr.PWR_RST_CAUSE, 2, 2⟩
def PWR_RST_CAUSE_PIN : Fld := ⟨Adr.PWR_RST_CAUSE, 1, 1⟩
def PWR_RST_CAUSE_POR : Fld := ⟨Adr.PWR_RST_CAUSE, 0, 0⟩
def PWR_EVT_CNT_PVIN_OV_SAT : Fld := ⟨Adr.PWR_EVT_CNT, 31, 31⟩
def PWR_EVT_CNT_PVIN_OV_CNT : Fld := ⟨Adr.PWR_EVT_CNT, 30, 24⟩
def PWR_EVT_CNT_PVIN_UV_SAT : Fld := ⟨Adr.PWR_EVT_CNT, 23, 23⟩
def PWR_EVT_CNT_PVIN_UV_CNT : Fld := ⟨Adr.PWR_EVT_CNT, 22, 16⟩
def PWR_EVT_CNT_VAH_UV_SAT : Fld := ⟨Adr.PWR_EVT_CNT, 15, 15⟩
def PWR_EVT_CNT_VAH_UV_CNT : Fld := ⟨Adr.PWR_EVT_CNT, 14, 8⟩
def PWR_EVT_CNT_VSER_UV_SAT : Fld := ⟨Adr.PWR_EVT_CNT, 7, 7⟩
def PWR_EVT_CNT_VSER_UV_CNT : Fld := ⟨Adr.PWR_EVT_CNT, 6, 0⟩
def PWR_HB_VMIN_HB_VMIN : Fld := ⟨Adr.PWR_HB_VMIN, 11, 0⟩
def PWR_HB_VMAX_HB_VMAX : Fld := ⟨Adr.PWR_HB_VMAX, 11, 0⟩
def PWR_VCORE_FLOOR_VCORE_FLOOR : Fld := ⟨Adr.PWR_VCORE_FLOOR, 11, 0⟩
def PWR_VCORE_CEIL_VCORE_CEIL : Fld := ⟨Adr.PWR_VCORE_CEIL, 11, 0⟩
def PWR_VLOOP_CFG_AVS_DIV : Fld := ⟨Adr.PWR_VLOOP_CFG, 31, 24⟩
def PWR_VLOOP_CFG_PERIOD : Fld := ⟨Adr.PWR_VLOOP_CFG, 23, 16⟩
def PWR_VLOOP_CFG_DOWN_N : Fld := ⟨Adr.PWR_VLOOP_CFG, 15, 11⟩
def PWR_VLOOP_CFG_STEP : Fld := ⟨Adr.PWR_VLOOP_CFG, 10, 8⟩
def PWR_VLOOP_CFG_RAIL : Fld := ⟨Adr.PWR_VLOOP_CFG, 7, 4⟩
def PWR_VLOOP_CFG_LOOP_EN : Fld := ⟨Adr.PWR_VLOOP_CFG, 0, 0⟩
def PWR_MARGIN_CFG_MARGIN_EMERG : Fld := ⟨Adr.PWR_MARGIN_CFG, 15, 8⟩
def PWR_MARGIN_CFG_MARGIN_TGT : Fld := ⟨Adr.PWR_MARGIN_CFG, 7, 0⟩
def PWR_VLOOP_STAT_EMERG_SAT : Fld := ⟨Adr.PWR_VLOOP_STAT, 31, 31⟩
def PWR_VLOOP_STAT_EMERG_CNT : Fld := ⟨Adr.PWR_VLOOP_STAT, 30, 24⟩
def PWR_VLOOP_STAT_AVS_FAIL : Fld := ⟨Adr.PWR_VLOOP_STAT, 19, 19⟩
def PWR_VLOOP_STAT_HOLD : Fld := ⟨Adr.PWR_VLOOP_STAT, 18, 18⟩
def PWR_VLOOP_STAT_PINNED : Fld := ⟨Adr.PWR_VLOOP_STAT, 17, 17⟩
def PWR_VLOOP_STAT_AT_CEIL : Fld := ⟨Adr.PWR_VLOOP_STAT, 16, 16⟩
def PWR_VLOOP_STAT_AT_FLOOR : Fld := ⟨Adr.PWR_VLOOP_STAT, 15, 15⟩
def PWR_VLOOP_STAT_VSET : Fld := ⟨Adr.PWR_VLOOP_STAT, 11, 0⟩
def PWR_MARGIN_FRESH : Fld := ⟨Adr.PWR_MARGIN, 31, 31⟩
def PWR_MARGIN_SEQ : Fld := ⟨Adr.PWR_MARGIN, 30, 23⟩
def PWR_MARGIN_M : Fld := ⟨Adr.PWR_MARGIN, 22, 0⟩
def PWR_VCORE_MEAS_FRESH : Fld := ⟨Adr.PWR_VCORE_MEAS, 31, 31⟩
def PWR_VCORE_MEAS_SEQ : Fld := ⟨Adr.PWR_VCORE_MEAS, 30, 23⟩
def PWR_VCORE_MEAS_VMEAS : Fld := ⟨Adr.PWR_VCORE_MEAS, 22, 0⟩
def PWR_ICORE_MEAS_FRESH : Fld := ⟨Adr.PWR_ICORE_MEAS, 31, 31⟩
def PWR_ICORE_MEAS_SEQ : Fld := ⟨Adr.PWR_ICORE_MEAS, 30, 23⟩
def PWR_ICORE_MEAS_IMEAS : Fld := ⟨Adr.PWR_ICORE_MEAS, 22, 0⟩

/-! Fields of AIN. -/

def AIN_CFG_GLIDE (i : Nat) : Fld := ⟨Adr.AIN_CFG i, 23, 16⟩
def AIN_CFG_PGA (i : Nat) : Fld := ⟨Adr.AIN_CFG i, 13, 8⟩
def AIN_CFG_INVERT (i : Nat) : Fld := ⟨Adr.AIN_CFG i, 7, 7⟩
def AIN_CFG_PATH_FORCE (i : Nat) : Fld := ⟨Adr.AIN_CFG i, 5, 4⟩
def AIN_CFG_MODE (i : Nat) : Fld := ⟨Adr.AIN_CFG i, 1, 0⟩
def AIN_MERGE_XFADE (i : Nat) : Fld := ⟨Adr.AIN_MERGE i, 27, 24⟩
def AIN_MERGE_HOLD (i : Nat) : Fld := ⟨Adr.AIN_MERGE i, 23, 16⟩
def AIN_MERGE_HYST (i : Nat) : Fld := ⟨Adr.AIN_MERGE i, 11, 8⟩
def AIN_MERGE_XOVER (i : Nat) : Fld := ⟨Adr.AIN_MERGE i, 7, 0⟩
def AIN_MATCH_CFG_DIS_LIM (i : Nat) : Fld := ⟨Adr.AIN_MATCH_CFG i, 15, 8⟩
def AIN_MATCH_CFG_DIS_ACT (i : Nat) : Fld := ⟨Adr.AIN_MATCH_CFG i, 5, 5⟩
def AIN_MATCH_CFG_TRUST (i : Nat) : Fld := ⟨Adr.AIN_MATCH_CFG i, 4, 4⟩
def AIN_MATCH_CFG_TRACK_BW (i : Nat) : Fld := ⟨Adr.AIN_MATCH_CFG i, 3, 2⟩
def AIN_MATCH_CFG_MATCH_EN (i : Nat) : Fld := ⟨Adr.AIN_MATCH_CFG i, 0, 0⟩
def AIN_MATCH_GFLOOR_GFLOOR (i : Nat) : Fld := ⟨Adr.AIN_MATCH_GFLOOR i, 15, 0⟩
def AIN_MATCH_GCEIL_GCEIL (i : Nat) : Fld := ⟨Adr.AIN_MATCH_GCEIL i, 15, 0⟩
def AIN_MATCH_DFLOOR_DFLOOR (i : Nat) : Fld := ⟨Adr.AIN_MATCH_DFLOOR i, 15, 0⟩
def AIN_MATCH_DCEIL_DCEIL (i : Nat) : Fld := ⟨Adr.AIN_MATCH_DCEIL i, 15, 0⟩
def AIN_MATCH_OFS_DOFS (i j : Nat) : Fld := ⟨Adr.AIN_MATCH_OFS i j, 31, 16⟩
def AIN_MATCH_OFS_GOFS (i j : Nat) : Fld := ⟨Adr.AIN_MATCH_OFS i j, 15, 0⟩
def AIN_MATCH_STAT_IDLE (i : Nat) : Fld := ⟨Adr.AIN_MATCH_STAT i, 11, 11⟩
def AIN_MATCH_STAT_PINNED_D (i : Nat) : Fld := ⟨Adr.AIN_MATCH_STAT i, 10, 10⟩
def AIN_MATCH_STAT_AT_CEIL_D (i : Nat) : Fld := ⟨Adr.AIN_MATCH_STAT i, 9, 9⟩
def AIN_MATCH_STAT_AT_FLOOR_D (i : Nat) : Fld := ⟨Adr.AIN_MATCH_STAT i, 8, 8⟩
def AIN_MATCH_STAT_PINNED_G (i : Nat) : Fld := ⟨Adr.AIN_MATCH_STAT i, 7, 7⟩
def AIN_MATCH_STAT_AT_CEIL_G (i : Nat) : Fld := ⟨Adr.AIN_MATCH_STAT i, 6, 6⟩
def AIN_MATCH_STAT_AT_FLOOR_G (i : Nat) : Fld := ⟨Adr.AIN_MATCH_STAT i, 5, 5⟩
def AIN_MATCH_STAT_STATE (i : Nat) : Fld := ⟨Adr.AIN_MATCH_STAT i, 1, 0⟩
def AIN_MATCH_GAIN_FRESH (i : Nat) : Fld := ⟨Adr.AIN_MATCH_GAIN i, 31, 31⟩
def AIN_MATCH_GAIN_SEQ (i : Nat) : Fld := ⟨Adr.AIN_MATCH_GAIN i, 30, 23⟩
def AIN_MATCH_GAIN_GTRIM (i : Nat) : Fld := ⟨Adr.AIN_MATCH_GAIN i, 15, 0⟩
def AIN_MATCH_DLY_FRESH (i : Nat) : Fld := ⟨Adr.AIN_MATCH_DLY i, 31, 31⟩
def AIN_MATCH_DLY_SEQ (i : Nat) : Fld := ⟨Adr.AIN_MATCH_DLY i, 30, 23⟩
def AIN_MATCH_DLY_DTRIM (i : Nat) : Fld := ⟨Adr.AIN_MATCH_DLY i, 15, 0⟩
def AIN_STATUS_OVL (i : Nat) : Fld := ⟨Adr.AIN_STATUS i, 6, 6⟩
def AIN_STATUS_GUARD (i : Nat) : Fld := ⟨Adr.AIN_STATUS i, 5, 4⟩
def AIN_STATUS_PATH (i : Nat) : Fld := ⟨Adr.AIN_STATUS i, 1, 0⟩
def AIN_CNT_CLIP_SAT (i : Nat) : Fld := ⟨Adr.AIN_CNT i, 31, 31⟩
def AIN_CNT_CLIP_CNT (i : Nat) : Fld := ⟨Adr.AIN_CNT i, 30, 16⟩
def AIN_CNT_XOVR_SAT (i : Nat) : Fld := ⟨Adr.AIN_CNT i, 15, 15⟩
def AIN_CNT_XOVR_CNT (i : Nat) : Fld := ⟨Adr.AIN_CNT i, 14, 0⟩
def AIN_GUARD_CNT_DIS_SAT (i : Nat) : Fld := ⟨Adr.AIN_GUARD_CNT i, 31, 31⟩
def AIN_GUARD_CNT_DIS_CNT (i : Nat) : Fld := ⟨Adr.AIN_GUARD_CNT i, 30, 24⟩
def AIN_GUARD_CNT_MODF_SAT (i : Nat) : Fld := ⟨Adr.AIN_GUARD_CNT i, 23, 23⟩
def AIN_GUARD_CNT_MODF_CNT (i : Nat) : Fld := ⟨Adr.AIN_GUARD_CNT i, 22, 16⟩
def AIN_GUARD_CNT_BR_SAT (i : Nat) : Fld := ⟨Adr.AIN_GUARD_CNT i, 15, 15⟩
def AIN_GUARD_CNT_BRIDGE_CNT (i : Nat) : Fld := ⟨Adr.AIN_GUARD_CNT i, 14, 0⟩
def AIN_GUARD_CTRL_RESTORE (i : Nat) : Fld := ⟨Adr.AIN_GUARD_CTRL i, 0, 0⟩
def AIN_MICB_CFG_MICB_V (i : Nat) : Fld := ⟨Adr.AIN_MICB_CFG i, 5, 4⟩
def AIN_MICB_CFG_MICB_EN (i : Nat) : Fld := ⟨Adr.AIN_MICB_CFG i, 0, 0⟩
def AIN_MICB_STAT_FRESH (i : Nat) : Fld := ⟨Adr.AIN_MICB_STAT i, 31, 31⟩
def AIN_MICB_STAT_SEQ (i : Nat) : Fld := ⟨Adr.AIN_MICB_STAT i, 30, 23⟩
def AIN_MICB_STAT_MICB_OC (i : Nat) : Fld := ⟨Adr.AIN_MICB_STAT i, 16, 16⟩
def AIN_MICB_STAT_MICB_I (i : Nat) : Fld := ⟨Adr.AIN_MICB_STAT i, 15, 0⟩

/-! Fields of FCH. -/

def FCH_ACFG_SWAP_XF (i : Nat) : Fld := ⟨Adr.FCH_ACFG i, 15, 8⟩
def FCH_ACFG_HPF (i : Nat) : Fld := ⟨Adr.FCH_ACFG i, 5, 4⟩
def FCH_ACFG_ACT_BANK (i : Nat) : Fld := ⟨Adr.FCH_ACFG i, 0, 0⟩
def FCH_ABANK_PRESET (i j : Nat) : Fld := ⟨Adr.FCH_ABANK i j, 17, 16⟩
def FCH_ABANK_FGAIN (i j : Nat) : Fld := ⟨Adr.FCH_ABANK i j, 15, 0⟩
def FCH_ASTAT_DLY (i : Nat) : Fld := ⟨Adr.FCH_ASTAT i, 27, 16⟩
def FCH_ASTAT_FROZEN (i : Nat) : Fld := ⟨Adr.FCH_ASTAT i, 4, 4⟩
def FCH_ASTAT_XFADE (i : Nat) : Fld := ⟨Adr.FCH_ASTAT i, 3, 3⟩
def FCH_ASTAT_UNS (i : Nat) : Fld := ⟨Adr.FCH_ASTAT i, 2, 2⟩
def FCH_ASTAT_LIVE_BANK (i : Nat) : Fld := ⟨Adr.FCH_ASTAT i, 0, 0⟩
def FCH_ACNT_BW_SAT (i : Nat) : Fld := ⟨Adr.FCH_ACNT i, 31, 31⟩
def FCH_ACNT_BANK_WR_CNT (i : Nat) : Fld := ⟨Adr.FCH_ACNT i, 30, 16⟩
def FCH_ACNT_SW_SAT (i : Nat) : Fld := ⟨Adr.FCH_ACNT i, 15, 15⟩
def FCH_ACNT_SWAP_CNT (i : Nat) : Fld := ⟨Adr.FCH_ACNT i, 14, 0⟩
def FCH_CCFG_SRC_CONV (i : Nat) : Fld := ⟨Adr.FCH_CCFG i, 13, 12⟩
def FCH_CCFG_SRC_ENTRY (i : Nat) : Fld := ⟨Adr.FCH_CCFG i, 11, 6⟩
def FCH_CCFG_ACT_BANK (i : Nat) : Fld := ⟨Adr.FCH_CCFG i, 0, 0⟩
def FCH_CBANK_MED (i j : Nat) : Fld := ⟨Adr.FCH_CBANK i j, 3, 2⟩
def FCH_CBANK_PRESET (i j : Nat) : Fld := ⟨Adr.FCH_CBANK i j, 1, 0⟩
def FCH_THR_LEVEL (i j : Nat) : Fld := ⟨Adr.FCH_THR i j, 31, 16⟩
def FCH_THR_HYST (i j : Nat) : Fld := ⟨Adr.FCH_THR i j, 15, 4⟩
def FCH_THR_EVT (i j : Nat) : Fld := ⟨Adr.FCH_THR i j, 2, 1⟩
def FCH_THR_EN (i j : Nat) : Fld := ⟨Adr.FCH_THR i j, 0, 0⟩
def FCH_TCFG_DELTA (i : Nat) : Fld := ⟨Adr.FCH_TCFG i, 31, 24⟩
def FCH_TCFG_PEAK_WIN (i : Nat) : Fld := ⟨Adr.FCH_TCFG i, 23, 16⟩
def FCH_TCFG_DECIDE_T (i : Nat) : Fld := ⟨Adr.FCH_TCFG i, 15, 0⟩
def FCH_TCTRL_FORCE1 (i : Nat) : Fld := ⟨Adr.FCH_TCTRL i, 3, 2⟩
def FCH_TCTRL_FORCE0 (i : Nat) : Fld := ⟨Adr.FCH_TCTRL i, 1, 0⟩
def FCH_CVAL_FRESH (i : Nat) : Fld := ⟨Adr.FCH_CVAL i, 31, 31⟩
def FCH_CVAL_SEQ (i : Nat) : Fld := ⟨Adr.FCH_CVAL i, 30, 23⟩
def FCH_CVAL_VALUE (i : Nat) : Fld := ⟨Adr.FCH_CVAL i, 22, 4⟩
def FCH_CVAL_TAG (i : Nat) : Fld := ⟨Adr.FCH_CVAL i, 3, 0⟩
def FCH_CSTAT_FROZEN (i : Nat) : Fld := ⟨Adr.FCH_CSTAT i, 15, 15⟩
def FCH_CSTAT_UNS (i : Nat) : Fld := ⟨Adr.FCH_CSTAT i, 14, 14⟩
def FCH_CSTAT_STALL (i : Nat) : Fld := ⟨Adr.FCH_CSTAT i, 13, 13⟩
def FCH_CSTAT_LIVE_BANK (i : Nat) : Fld := ⟨Adr.FCH_CSTAT i, 12, 12⟩
def FCH_CSTAT_FORCED1 (i : Nat) : Fld := ⟨Adr.FCH_CSTAT i, 9, 9⟩
def FCH_CSTAT_AMBIG1 (i : Nat) : Fld := ⟨Adr.FCH_CSTAT i, 8, 8⟩
def FCH_CSTAT_STATE1 (i : Nat) : Fld := ⟨Adr.FCH_CSTAT i, 7, 6⟩
def FCH_CSTAT_FORCED0 (i : Nat) : Fld := ⟨Adr.FCH_CSTAT i, 5, 5⟩
def FCH_CSTAT_AMBIG0 (i : Nat) : Fld := ⟨Adr.FCH_CSTAT i, 4, 4⟩
def FCH_CSTAT_STATE0 (i : Nat) : Fld := ⟨Adr.FCH_CSTAT i, 3, 2⟩
def FCH_CCNT_EV_SAT (i : Nat) : Fld := ⟨Adr.FCH_CCNT i, 31, 31⟩
def FCH_CCNT_EV_CNT (i : Nat) : Fld := ⟨Adr.FCH_CCNT i, 30, 16⟩
def FCH_CCNT_SP_SAT (i : Nat) : Fld := ⟨Adr.FCH_CCNT i, 15, 15⟩
def FCH_CCNT_SPIKE_CNT (i : Nat) : Fld := ⟨Adr.FCH_CCNT i, 14, 8⟩
def FCH_CCNT_ST_SAT (i : Nat) : Fld := ⟨Adr.FCH_CCNT i, 7, 7⟩
def FCH_CCNT_STALL_CNT (i : Nat) : Fld := ⟨Adr.FCH_CCNT i, 6, 0⟩
def FCH_EVQ_EVQ_EN : Fld := ⟨Adr.FCH_EVQ, 31, 31⟩
def FCH_EVQ_QID : Fld := ⟨Adr.FCH_EVQ, 11, 0⟩
def FCH_EVCNT_EV_SAT : Fld := ⟨Adr.FCH_EVCNT, 31, 31⟩
def FCH_EVCNT_EV_CNT : Fld := ⟨Adr.FCH_EVCNT, 30, 16⟩
def FCH_EVCNT_OV_SAT : Fld := ⟨Adr.FCH_EVCNT, 15, 15⟩
def FCH_EVCNT_OVERRUN : Fld := ⟨Adr.FCH_EVCNT, 14, 0⟩
def FCH_LOAD_LOAD_AIN : Fld := ⟨Adr.FCH_LOAD, 31, 16⟩
def FCH_LOAD_LOAD_ALL : Fld := ⟨Adr.FCH_LOAD, 15, 0⟩
def FCH_ERR_RES_SAT : Fld := ⟨Adr.FCH_ERR, 31, 31⟩
def FCH_ERR_RES_CNT : Fld := ⟨Adr.FCH_ERR, 30, 16⟩
def FCH_ERR_ECC_SAT : Fld := ⟨Adr.FCH_ERR, 15, 15⟩
def FCH_ERR_ECC_CNT : Fld := ⟨Adr.FCH_ERR, 14, 0⟩
def FCH_GUARD_FAULTED : Fld := ⟨Adr.FCH_GUARD, 5, 5⟩
def FCH_GUARD_GUARD_ACT : Fld := ⟨Adr.FCH_GUARD, 4, 4⟩
def FCH_GUARD_GUARD_MAC : Fld := ⟨Adr.FCH_GUARD, 3, 0⟩
def FCH_GUARD_CTRL_RESTORE : Fld := ⟨Adr.FCH_GUARD_CTRL, 0, 0⟩

/-! Fields of SVC. -/

def SVC_SEQ_LEN_SVB_LEN : Fld := ⟨Adr.SVC_SEQ_LEN, 14, 8⟩
def SVC_SEQ_LEN_SVA_LEN : Fld := ⟨Adr.SVC_SEQ_LEN, 6, 0⟩
def SVC_CHECK_CFG_PLAUS_LIM : Fld := ⟨Adr.SVC_CHECK_CFG, 7, 0⟩
def SVC_STAT_SVB_STATE : Fld := ⟨Adr.SVC_STAT, 11, 10⟩
def SVC_STAT_SVA_STATE : Fld := ⟨Adr.SVC_STAT, 9, 8⟩
def SVC_STAT_SUP_OK : Fld := ⟨Adr.SVC_STAT, 7, 7⟩
def SVC_STAT_EXT_OK : Fld := ⟨Adr.SVC_STAT, 6, 6⟩
def SVC_STAT_INT_B_OK : Fld := ⟨Adr.SVC_STAT, 5, 5⟩
def SVC_STAT_INT_A_OK : Fld := ⟨Adr.SVC_STAT, 4, 4⟩
def SVC_STAT_CHECK_SUSP : Fld := ⟨Adr.SVC_STAT, 3, 3⟩
def SVC_STAT_GUARD : Fld := ⟨Adr.SVC_STAT, 1, 0⟩
def SVC_CHECK_EXP_LEVEL : Fld := ⟨Adr.SVC_CHECK_EXP, 18, 16⟩
def SVC_CHECK_EXP_EXP : Fld := ⟨Adr.SVC_CHECK_EXP, 15, 0⟩
def SVC_URG_REQ_GO : Fld := ⟨Adr.SVC_URG_REQ, 31, 31⟩
def SVC_URG_REQ_REF : Fld := ⟨Adr.SVC_URG_REQ, 10, 9⟩
def SVC_URG_REQ_ALIGN : Fld := ⟨Adr.SVC_URG_REQ, 8, 8⟩
def SVC_URG_REQ_CONV : Fld := ⟨Adr.SVC_URG_REQ, 7, 7⟩
def SVC_URG_REQ_CH : Fld := ⟨Adr.SVC_URG_REQ, 6, 0⟩
def SVC_URG_CNT_DROP_SAT : Fld := ⟨Adr.SVC_URG_CNT, 31, 31⟩
def SVC_URG_CNT_URG_DROP : Fld := ⟨Adr.SVC_URG_CNT, 30, 16⟩
def SVC_URG_CNT_DONE_SAT : Fld := ⟨Adr.SVC_URG_CNT, 15, 15⟩
def SVC_URG_CNT_URG_DONE : Fld := ⟨Adr.SVC_URG_CNT, 14, 0⟩
def SVC_CHK_CNT_MIS_SAT : Fld := ⟨Adr.SVC_CHK_CNT, 31, 31⟩
def SVC_CHK_CNT_CHECK_MIS : Fld := ⟨Adr.SVC_CHK_CNT, 30, 16⟩
def SVC_CHK_CNT_GF_SAT : Fld := ⟨Adr.SVC_CHK_CNT, 15, 15⟩
def SVC_CHK_CNT_GUARD_FAIL_CNT : Fld := ⟨Adr.SVC_CHK_CNT, 14, 8⟩
def SVC_CHK_CNT_OVR_SAT : Fld := ⟨Adr.SVC_CHK_CNT, 7, 7⟩
def SVC_CHK_CNT_OVR_CNT : Fld := ⟨Adr.SVC_CHK_CNT, 6, 0⟩
def SVC_SLOTS_ROT_MIN_B : Fld := ⟨Adr.SVC_SLOTS, 31, 24⟩
def SVC_SLOTS_ROT_B : Fld := ⟨Adr.SVC_SLOTS, 23, 16⟩
def SVC_SLOTS_ROT_MIN_A : Fld := ⟨Adr.SVC_SLOTS, 15, 8⟩
def SVC_SLOTS_ROT_A : Fld := ⟨Adr.SVC_SLOTS, 7, 0⟩
def SVC_GUARD_CTRL_RESTORE : Fld := ⟨Adr.SVC_GUARD_CTRL, 0, 0⟩
def SV_ENT_GSLOT (i j : Nat) : Fld := ⟨Adr.SV_ENT i j, 22, 16⟩
def SV_ENT_GUARD (i j : Nat) : Fld := ⟨Adr.SV_ENT i j, 15, 15⟩
def SV_ENT_DIV (i j : Nat) : Fld := ⟨Adr.SV_ENT i j, 14, 12⟩
def SV_ENT_ALIGN (i j : Nat) : Fld := ⟨Adr.SV_ENT i j, 11, 11⟩
def SV_ENT_REF (i j : Nat) : Fld := ⟨Adr.SV_ENT i j, 10, 9⟩
def SV_ENT_CH (i j : Nat) : Fld := ⟨Adr.SV_ENT i j, 6, 0⟩

/-! Fields of SAP. -/

def SAP_CFG_PRATE (i : Nat) : Fld := ⟨Adr.SAP_CFG i, 26, 24⟩
def SAP_CFG_MODE (i : Nat) : Fld := ⟨Adr.SAP_CFG i, 23, 22⟩
def SAP_CFG_SLOTS (i : Nat) : Fld := ⟨Adr.SAP_CFG i, 21, 16⟩
def SAP_CFG_SWIDTH (i : Nat) : Fld := ⟨Adr.SAP_CFG i, 15, 14⟩
def SAP_CFG_WLEN (i : Nat) : Fld := ⟨Adr.SAP_CFG i, 13, 12⟩
def SAP_CFG_FMT (i : Nat) : Fld := ⟨Adr.SAP_CFG i, 11, 10⟩
def SAP_CFG_FS_DLY (i : Nat) : Fld := ⟨Adr.SAP_CFG i, 9, 9⟩
def SAP_CFG_FS_PULSE (i : Nat) : Fld := ⟨Adr.SAP_CFG i, 8, 8⟩
def SAP_CFG_FS_INV (i : Nat) : Fld := ⟨Adr.SAP_CFG i, 7, 7⟩
def SAP_CFG_BCLK_INV (i : Nat) : Fld := ⟨Adr.SAP_CFG i, 6, 6⟩
def SAP_RX_MASK_RX_MASK (i : Nat) : Fld := ⟨Adr.SAP_RX_MASK i, 31, 0⟩
def SAP_TX_MASK_TX_MASK (i : Nat) : Fld := ⟨Adr.SAP_TX_MASK i, 31, 0⟩
def SAP_TXCFG_TAG_OUT (i : Nat) : Fld := ⟨Adr.SAP_TXCFG i, 7, 7⟩
def SAP_TXCFG_KEEP (i : Nat) : Fld := ⟨Adr.SAP_TXCFG i, 6, 6⟩
def SAP_TXCFG_TX_IDLE (i : Nat) : Fld := ⟨Adr.SAP_TXCFG i, 5, 4⟩
def SAP_XRUN_CFG_FADE (i : Nat) : Fld := ⟨Adr.SAP_XRUN_CFG i, 7, 0⟩
def SAP_STAT_TX_EVT (i : Nat) : Fld := ⟨Adr.SAP_STAT i, 9, 9⟩
def SAP_STAT_RX_EVT (i : Nat) : Fld := ⟨Adr.SAP_STAT i, 8, 8⟩
def SAP_STAT_MODE_ACT (i : Nat) : Fld := ⟨Adr.SAP_STAT i, 7, 6⟩
def SAP_STAT_PSTATE (i : Nat) : Fld := ⟨Adr.SAP_STAT i, 3, 0⟩
def SAP_RATE_FRESH (i : Nat) : Fld := ⟨Adr.SAP_RATE i, 31, 31⟩
def SAP_RATE_SEQ (i : Nat) : Fld := ⟨Adr.SAP_RATE i, 30, 23⟩
def SAP_RATE_FRATE (i : Nat) : Fld := ⟨Adr.SAP_RATE i, 22, 0⟩
def SAP_CNT_RX_RU_SAT (i : Nat) : Fld := ⟨Adr.SAP_CNT_RX i, 31, 31⟩
def SAP_CNT_RX_RX_UNDER (i : Nat) : Fld := ⟨Adr.SAP_CNT_RX i, 30, 16⟩
def SAP_CNT_RX_RO_SAT (i : Nat) : Fld := ⟨Adr.SAP_CNT_RX i, 15, 15⟩
def SAP_CNT_RX_RX_OVER (i : Nat) : Fld := ⟨Adr.SAP_CNT_RX i, 14, 0⟩
def SAP_CNT_TX_TU_SAT (i : Nat) : Fld := ⟨Adr.SAP_CNT_TX i, 31, 31⟩
def SAP_CNT_TX_TX_UNDER (i : Nat) : Fld := ⟨Adr.SAP_CNT_TX i, 30, 16⟩
def SAP_CNT_TX_TO_SAT (i : Nat) : Fld := ⟨Adr.SAP_CNT_TX i, 15, 15⟩
def SAP_CNT_TX_TX_OVER (i : Nat) : Fld := ⟨Adr.SAP_CNT_TX i, 14, 0⟩
def SAP_CNT_ERR_FE_SAT (i : Nat) : Fld := ⟨Adr.SAP_CNT_ERR i, 31, 31⟩
def SAP_CNT_ERR_FS_ERR (i : Nat) : Fld := ⟨Adr.SAP_CNT_ERR i, 30, 16⟩
def SAP_CNT_ERR_CL_SAT (i : Nat) : Fld := ⟨Adr.SAP_CNT_ERR i, 15, 15⟩
def SAP_CNT_ERR_CLK_LOSS (i : Nat) : Fld := ⟨Adr.SAP_CNT_ERR i, 14, 8⟩
def SAP_CNT_ERR_CT_SAT (i : Nat) : Fld := ⟨Adr.SAP_CNT_ERR i, 7, 7⟩
def SAP_CNT_ERR_CONTEND_CNT (i : Nat) : Fld := ⟨Adr.SAP_CNT_ERR i, 6, 0⟩
def SAP_CTRL_RESTART (i : Nat) : Fld := ⟨Adr.SAP_CTRL i, 0, 0⟩

/-! Fields of PDM. -/

def PDM_CFG_WAKE : Fld := ⟨Adr.PDM_CFG, 31, 24⟩
def PDM_CFG_CLKSEL : Fld := ⟨Adr.PDM_CFG, 23, 16⟩
def PDM_CFG_MIC_EN : Fld := ⟨Adr.PDM_CFG, 15, 0⟩
def PDM_STAT_STUCK : Fld := ⟨Adr.PDM_STAT, 31, 16⟩
def PDM_STAT_LIVE : Fld := ⟨Adr.PDM_STAT, 15, 0⟩
def PDM_CNT_SK_SAT : Fld := ⟨Adr.PDM_CNT, 31, 31⟩
def PDM_CNT_STUCK_CNT : Fld := ⟨Adr.PDM_CNT, 30, 16⟩
def PDM_CTRL_RESTART : Fld := ⟨Adr.PDM_CTRL, 15, 0⟩
def SPDI_CFG_FADE (i : Nat) : Fld := ⟨Adr.SPDI_CFG i, 23, 16⟩
def SPDI_CFG_NA_REL (i : Nat) : Fld := ⟨Adr.SPDI_CFG i, 15, 8⟩
def SPDI_CFG_EN (i : Nat) : Fld := ⟨Adr.SPDI_CFG i, 0, 0⟩
def SPDI_STAT_PRO (i : Nat) : Fld := ⟨Adr.SPDI_STAT i, 11, 11⟩
def SPDI_STAT_NA (i : Nat) : Fld := ⟨Adr.SPDI_STAT i, 10, 10⟩
def SPDI_STAT_NA_BIT (i : Nat) : Fld := ⟨Adr.SPDI_STAT i, 9, 9⟩
def SPDI_STAT_RATE (i : Nat) : Fld := ⟨Adr.SPDI_STAT i, 7, 4⟩
def SPDI_STAT_PSTATE (i : Nat) : Fld := ⟨Adr.SPDI_STAT i, 3, 0⟩
def SPDI_BLK_FRESH (i : Nat) : Fld := ⟨Adr.SPDI_BLK i, 31, 31⟩
def SPDI_BLK_SEQ (i : Nat) : Fld := ⟨Adr.SPDI_BLK i, 30, 23⟩
def SPDI_BLK_CS_CHG (i : Nat) : Fld := ⟨Adr.SPDI_BLK i, 1, 1⟩
def SPDI_BLK_NA_BIT (i : Nat) : Fld := ⟨Adr.SPDI_BLK i, 0, 0⟩
def SPDI_CS_CS (i j k : Nat) : Fld := ⟨Adr.SPDI_CS i j k, 31, 0⟩
def SPDI_UCFG_UQ_EN (i : Nat) : Fld := ⟨Adr.SPDI_UCFG i, 31, 31⟩
def SPDI_UCFG_UQID (i : Nat) : Fld := ⟨Adr.SPDI_UCFG i, 11, 0⟩
def SPDI_RATE_FRESH (i : Nat) : Fld := ⟨Adr.SPDI_RATE i, 31, 31⟩
def SPDI_RATE_SEQ (i : Nat) : Fld := ⟨Adr.SPDI_RATE i, 30, 23⟩
def SPDI_RATE_FRATE (i : Nat) : Fld := ⟨Adr.SPDI_RATE i, 22, 0⟩
def SPDI_CNT1_PE_SAT (i : Nat) : Fld := ⟨Adr.SPDI_CNT1 i, 31, 31⟩
def SPDI_CNT1_PAR_ERR (i : Nat) : Fld := ⟨Adr.SPDI_CNT1 i, 30, 16⟩
def SPDI_CNT1_V_SAT (i : Nat) : Fld := ⟨Adr.SPDI_CNT1 i, 15, 15⟩
def SPDI_CNT1_VALID_CNT (i : Nat) : Fld := ⟨Adr.SPDI_CNT1 i, 14, 0⟩
def SPDI_CNT2_NA_SAT (i : Nat) : Fld := ⟨Adr.SPDI_CNT2 i, 31, 31⟩
def SPDI_CNT2_NA_CNT (i : Nat) : Fld := ⟨Adr.SPDI_CNT2 i, 30, 16⟩
def SPDI_CNT2_LS_SAT (i : Nat) : Fld := ⟨Adr.SPDI_CNT2 i, 15, 15⟩
def SPDI_CNT2_LOSS_CNT (i : Nat) : Fld := ⟨Adr.SPDI_CNT2 i, 14, 8⟩
def SPDI_CNT2_UO_SAT (i : Nat) : Fld := ⟨Adr.SPDI_CNT2 i, 7, 7⟩
def SPDI_CNT2_U_OVR (i : Nat) : Fld := ⟨Adr.SPDI_CNT2 i, 6, 0⟩
def SPDI_CTRL_RESTART (i : Nat) : Fld := ⟨Adr.SPDI_CTRL i, 0, 0⟩
def SPDO_CFG_TAG_OUT : Fld := ⟨Adr.SPDO_CFG, 19, 16⟩
def SPDO_CFG_TXRATE : Fld := ⟨Adr.SPDO_CFG, 10, 8⟩
def SPDO_CFG_EN : Fld := ⟨Adr.SPDO_CFG, 3, 0⟩
def SPDO_CS_CS (i j : Nat) : Fld := ⟨Adr.SPDO_CS i j, 31, 0⟩

/-! Fields of SRC. -/

def SRC_CFG_TRACK_BW : Fld := ⟨Adr.SRC_CFG, 1, 0⟩
def SRC_LOAD_ASYNC_USED : Fld := ⟨Adr.SRC_LOAD, 24, 16⟩
def SRC_LOAD_INT_USED : Fld := ⟨Adr.SRC_LOAD, 10, 0⟩
def SRC_CYC_ASYNC_CYC : Fld := ⟨Adr.SRC_CYC, 28, 16⟩
def SRC_CYC_INT_CYC : Fld := ⟨Adr.SRC_CYC, 12, 0⟩
def SRC_PROBE_PCH : Fld := ⟨Adr.SRC_PROBE, 8, 0⟩
def SRC_RATIO_FRESH : Fld := ⟨Adr.SRC_RATIO, 31, 31⟩
def SRC_RATIO_SEQ : Fld := ⟨Adr.SRC_RATIO, 30, 23⟩
def SRC_RATIO_RATIO : Fld := ⟨Adr.SRC_RATIO, 22, 0⟩
def SRC_CNT1_RES_SAT : Fld := ⟨Adr.SRC_CNT1, 31, 31⟩
def SRC_CNT1_RES_CNT : Fld := ⟨Adr.SRC_CNT1, 30, 16⟩
def SRC_CNT1_ECC_SAT : Fld := ⟨Adr.SRC_CNT1, 15, 15⟩
def SRC_CNT1_ECC_CNT : Fld := ⟨Adr.SRC_CNT1, 14, 0⟩
def SRC_CNT2_UL_SAT : Fld := ⟨Adr.SRC_CNT2, 31, 31⟩
def SRC_CNT2_UNLOCK_CNT : Fld := ⟨Adr.SRC_CNT2, 30, 16⟩
def SRC_CNT2_CS_SAT : Fld := ⟨Adr.SRC_CNT2, 15, 15⟩
def SRC_CNT2_CONS_CNT : Fld := ⟨Adr.SRC_CNT2, 14, 0⟩
def SRC_QS_FADE (i : Nat) : Fld := ⟨Adr.SRC_QS i, 31, 28⟩
def SRC_QS_DIR (i : Nat) : Fld := ⟨Adr.SRC_QS i, 23, 23⟩
def SRC_QS_RATE (i : Nat) : Fld := ⟨Adr.SRC_QS i, 22, 20⟩
def SRC_QS_CHANS (i : Nat) : Fld := ⟨Adr.SRC_QS i, 19, 16⟩
def SRC_QS_QID (i : Nat) : Fld := ⟨Adr.SRC_QS i, 11, 0⟩
def SRC_ACH_LSTATE (i : Nat) : Fld := ⟨Adr.SRC_ACH i, 31, 30⟩
def SRC_ACH_DIR (i : Nat) : Fld := ⟨Adr.SRC_ACH i, 29, 29⟩
def SRC_ACH_PINNED (i : Nat) : Fld := ⟨Adr.SRC_ACH i, 28, 28⟩
def SRC_ACH_KIND (i : Nat) : Fld := ⟨Adr.SRC_ACH i, 27, 24⟩
def SRC_ACH_UNIT (i : Nat) : Fld := ⟨Adr.SRC_ACH i, 23, 16⟩
def SRC_ACH_SLOT (i : Nat) : Fld := ⟨Adr.SRC_ACH i, 15, 11⟩
def SRC_ACH_FILL (i : Nat) : Fld := ⟨Adr.SRC_ACH i, 10, 0⟩
def SRC_QST_QU_SAT (i : Nat) : Fld := ⟨Adr.SRC_QST i, 31, 31⟩
def SRC_QST_QS_UNDER (i : Nat) : Fld := ⟨Adr.SRC_QST i, 30, 16⟩
def SRC_QST_QO_SAT (i : Nat) : Fld := ⟨Adr.SRC_QST i, 15, 15⟩
def SRC_QST_QS_OVR (i : Nat) : Fld := ⟨Adr.SRC_QST i, 14, 0⟩

/-! Fields of SPN. -/

def SPN_ROUTE_SAME_TICK (i : Nat) : Fld := ⟨Adr.SPN_ROUTE i, 31, 31⟩
def SPN_ROUTE_SRC (i : Nat) : Fld := ⟨Adr.SPN_ROUTE i, 11, 0⟩
def SPN_LOAD_SLOTS (i : Nat) : Fld := ⟨Adr.SPN_LOAD i, 12, 0⟩
def SPN_SCHED_MIX_START : Fld := ⟨Adr.SPN_SCHED, 28, 16⟩
def SPN_SCHED_CHAIN_END : Fld := ⟨Adr.SPN_SCHED, 12, 0⟩
def SPN_STAT_LANE_OUT : Fld := ⟨Adr.SPN_STAT, 3, 0⟩
def SPN_CNT_ECC_SAT : Fld := ⟨Adr.SPN_CNT, 31, 31⟩
def SPN_CNT_ECC_CNT : Fld := ⟨Adr.SPN_CNT, 30, 16⟩
def SPN_CNT_UE_SAT : Fld := ⟨Adr.SPN_CNT, 15, 15⟩
def SPN_CNT_UE_CNT : Fld := ⟨Adr.SPN_CNT, 14, 0⟩
def SPN_MISS_MISS_SAT : Fld := ⟨Adr.SPN_MISS, 31, 31⟩
def SPN_MISS_MISS_CNT : Fld := ⟨Adr.SPN_MISS, 30, 16⟩
def SPN_MISS_LAST_MISS : Fld := ⟨Adr.SPN_MISS, 11, 0⟩
def SPN_GUARD_CTRL_RESTORE : Fld := ⟨Adr.SPN_GUARD_CTRL, 0, 0⟩
def SPN_TAP_CFG_MODE (i : Nat) : Fld := ⟨Adr.SPN_TAP_CFG i, 15, 15⟩
def SPN_TAP_CFG_SRC (i : Nat) : Fld := ⟨Adr.SPN_TAP_CFG i, 11, 0⟩
def SPN_TAP_RES_FRESH (i : Nat) : Fld := ⟨Adr.SPN_TAP_RES i, 31, 31⟩
def SPN_TAP_RES_SEQ (i : Nat) : Fld := ⟨Adr.SPN_TAP_RES i, 30, 23⟩
def SPN_TAP_RES_VALUE (i : Nat) : Fld := ⟨Adr.SPN_TAP_RES i, 22, 4⟩
def SPN_TAP_RES_TAG (i : Nat) : Fld := ⟨Adr.SPN_TAP_RES i, 3, 0⟩

/-! Fields of MIX. -/

def MIX_STAT_CYC : Fld := ⟨Adr.MIX_STAT, 28, 16⟩
def MIX_STAT_NBUS : Fld := ⟨Adr.MIX_STAT, 15, 8⟩
def MIX_STAT_GUARD_ACT : Fld := ⟨Adr.MIX_STAT, 5, 5⟩
def MIX_STAT_GUARD_MAC : Fld := ⟨Adr.MIX_STAT, 3, 0⟩
def MIX_CNT_RES_SAT : Fld := ⟨Adr.MIX_CNT, 31, 31⟩
def MIX_CNT_RES_CNT : Fld := ⟨Adr.MIX_CNT, 30, 16⟩
def MIX_CNT_ECC_SAT : Fld := ⟨Adr.MIX_CNT, 15, 15⟩
def MIX_CNT_ECC_CNT : Fld := ⟨Adr.MIX_CNT, 14, 0⟩
def MIX_XPE_FRESH : Fld := ⟨Adr.MIX_XPE, 31, 31⟩
def MIX_XPE_SEQ : Fld := ⟨Adr.MIX_XPE, 30, 23⟩
def MIX_XPE_LANE : Fld := ⟨Adr.MIX_XPE, 16, 8⟩
def MIX_XPE_BUS : Fld := ⟨Adr.MIX_XPE, 7, 0⟩
def MIX_GLSTAT_AB_SAT : Fld := ⟨Adr.MIX_GLSTAT, 31, 31⟩
def MIX_GLSTAT_ABORT_CNT : Fld := ⟨Adr.MIX_GLSTAT, 30, 16⟩
def MIX_GLSTAT_ACTIVE : Fld := ⟨Adr.MIX_GLSTAT, 8, 0⟩
def MIX_GUARD_CTRL_RESTORE : Fld := ⟨Adr.MIX_GUARD_CTRL, 0, 0⟩
def MIX_BUS_RAMP (i : Nat) : Fld := ⟨Adr.MIX_BUS i, 15, 8⟩
def MIX_BUS_MUTE (i : Nat) : Fld := ⟨Adr.MIX_BUS i, 1, 1⟩
def MIX_BUS_EN (i : Nat) : Fld := ⟨Adr.MIX_BUS i, 0, 0⟩
def MIX_BSTAT_CL_SAT (i : Nat) : Fld := ⟨Adr.MIX_BSTAT i, 31, 31⟩
def MIX_BSTAT_CLIP_CNT (i : Nat) : Fld := ⟨Adr.MIX_BSTAT i, 30, 16⟩
def MIX_BSTAT_MSTATE (i : Nat) : Fld := ⟨Adr.MIX_BSTAT i, 1, 0⟩
def MIX_GL_XP_LANE (i : Nat) : Fld := ⟨Adr.MIX_GL_XP i, 24, 16⟩
def MIX_GL_XP_BUS (i : Nat) : Fld := ⟨Adr.MIX_GL_XP i, 7, 0⟩
def MIX_GL_TGT_TARGET (i : Nat) : Fld := ⟨Adr.MIX_GL_TGT i, 31, 0⟩
def MIX_GL_TIME_STAGED (i : Nat) : Fld := ⟨Adr.MIX_GL_TIME i, 31, 31⟩
def MIX_GL_TIME_TIME (i : Nat) : Fld := ⟨Adr.MIX_GL_TIME i, 15, 0⟩
def MIX_GL_CTRL_REMAIN (i : Nat) : Fld := ⟨Adr.MIX_GL_CTRL i, 31, 16⟩
def MIX_GL_CTRL_ACTIVE (i : Nat) : Fld := ⟨Adr.MIX_GL_CTRL i, 15, 15⟩
def MIX_GL_CTRL_ARMED (i : Nat) : Fld := ⟨Adr.MIX_GL_CTRL i, 14, 14⟩
def MIX_GL_CTRL_ERR (i : Nat) : Fld := ⟨Adr.MIX_GL_CTRL i, 13, 13⟩
def MIX_GL_CTRL_STOP (i : Nat) : Fld := ⟨Adr.MIX_GL_CTRL i, 1, 1⟩
def MIX_GL_CTRL_GO (i : Nat) : Fld := ⟨Adr.MIX_GL_CTRL i, 0, 0⟩

/-! Fields of FX. -/

def FX_WIN_BANK : Fld := ⟨Adr.FX_WIN, 2, 0⟩
def FX_STAT_WARN_NODE : Fld := ⟨Adr.FX_STAT, 27, 16⟩
def FX_STAT_WARN_LEN : Fld := ⟨Adr.FX_STAT, 0, 0⟩
def FX_LOAD0_BQ1_END : Fld := ⟨Adr.FX_LOAD0, 28, 16⟩
def FX_LOAD0_BQ0_END : Fld := ⟨Adr.FX_LOAD0, 12, 0⟩
def FX_LOAD1_DLY_END : Fld := ⟨Adr.FX_LOAD1, 28, 16⟩
def FX_LOAD1_DYN_END : Fld := ⟨Adr.FX_LOAD1, 12, 0⟩
def FX_LOAD2_SH_END : Fld := ⟨Adr.FX_LOAD2, 28, 16⟩
def FX_LOAD2_CVH_END : Fld := ⟨Adr.FX_LOAD2, 12, 0⟩
def FX_LOAD3_PART_CYC : Fld := ⟨Adr.FX_LOAD3, 28, 16⟩
def FX_LOAD3_HIST_USED : Fld := ⟨Adr.FX_LOAD3, 15, 8⟩
def FX_LOAD3_GRAN_USED : Fld := ⟨Adr.FX_LOAD3, 7, 0⟩
def FX_CNT_RES_SAT : Fld := ⟨Adr.FX_CNT, 31, 31⟩
def FX_CNT_RES_CNT : Fld := ⟨Adr.FX_CNT, 30, 16⟩
def FX_CNT_ECC_SAT : Fld := ⟨Adr.FX_CNT, 15, 15⟩
def FX_CNT_ECC_CNT : Fld := ⟨Adr.FX_CNT, 14, 0⟩
def FX_CNT2_BW_SAT : Fld := ⟨Adr.FX_CNT2, 31, 31⟩
def FX_CNT2_BANK_WR_CNT : Fld := ⟨Adr.FX_CNT2, 30, 16⟩
def FX_CNT2_CL_SAT : Fld := ⟨Adr.FX_CNT2, 15, 15⟩
def FX_CNT2_CLAMP_CNT : Fld := ⟨Adr.FX_CNT2, 14, 0⟩
def FX_GUARD_SH_FAULTED : Fld := ⟨Adr.FX_GUARD, 29, 29⟩
def FX_GUARD_SH_ACT : Fld := ⟨Adr.FX_GUARD, 28, 28⟩
def FX_GUARD_SH_UNIT : Fld := ⟨Adr.FX_GUARD, 27, 25⟩
def FX_GUARD_CVP_FAULTED : Fld := ⟨Adr.FX_GUARD, 24, 24⟩
def FX_GUARD_CVP_ACT : Fld := ⟨Adr.FX_GUARD, 23, 23⟩
def FX_GUARD_CVP_UNIT : Fld := ⟨Adr.FX_GUARD, 22, 20⟩
def FX_GUARD_CVH_FAULTED : Fld := ⟨Adr.FX_GUARD, 19, 19⟩
def FX_GUARD_CVH_ACT : Fld := ⟨Adr.FX_GUARD, 18, 18⟩
def FX_GUARD_CVH_UNIT : Fld := ⟨Adr.FX_GUARD, 17, 15⟩
def FX_GUARD_DLY_FAULTED : Fld := ⟨Adr.FX_GUARD, 14, 14⟩
def FX_GUARD_DLY_ACT : Fld := ⟨Adr.FX_GUARD, 13, 13⟩
def FX_GUARD_DLY_UNIT : Fld := ⟨Adr.FX_GUARD, 12, 10⟩
def FX_GUARD_DYN_FAULTED : Fld := ⟨Adr.FX_GUARD, 9, 9⟩
def FX_GUARD_DYN_ACT : Fld := ⟨Adr.FX_GUARD, 8, 8⟩
def FX_GUARD_DYN_UNIT : Fld := ⟨Adr.FX_GUARD, 7, 5⟩
def FX_GUARD_BQ_FAULTED : Fld := ⟨Adr.FX_GUARD, 4, 4⟩
def FX_GUARD_BQ_ACT : Fld := ⟨Adr.FX_GUARD, 3, 3⟩
def FX_GUARD_BQ_UNIT : Fld := ⟨Adr.FX_GUARD, 2, 0⟩
def FX_GUARD_CTRL_RESTORE : Fld := ⟨Adr.FX_GUARD_CTRL, 5, 0⟩
def FX_PROBE_NODE : Fld := ⟨Adr.FX_PROBE, 11, 0⟩
def FX_PROBE_RES_START : Fld := ⟨Adr.FX_PROBE_RES, 28, 16⟩
def FX_PROBE_RES_FIN : Fld := ⟨Adr.FX_PROBE_RES, 12, 0⟩
def BQ_CFG_XF (i : Nat) : Fld := ⟨Adr.BQ_CFG i, 15, 8⟩
def BQ_CFG_ACT_BANK (i : Nat) : Fld := ⟨Adr.BQ_CFG i, 0, 0⟩
def BQ_BANK_FIRST (i j : Nat) : Fld := ⟨Adr.BQ_BANK i j, 26, 16⟩
def BQ_BANK_NSEC (i j : Nat) : Fld := ⟨Adr.BQ_BANK i j, 7, 0⟩
def BQ_STAT_CL_SAT (i : Nat) : Fld := ⟨Adr.BQ_STAT i, 31, 31⟩
def BQ_STAT_CLIP_CNT (i : Nat) : Fld := ⟨Adr.BQ_STAT i, 30, 16⟩
def BQ_STAT_XFADE (i : Nat) : Fld := ⟨Adr.BQ_STAT i, 3, 3⟩
def BQ_STAT_FROZEN (i : Nat) : Fld := ⟨Adr.BQ_STAT i, 2, 2⟩
def BQ_STAT_LIVE_BANK (i : Nat) : Fld := ⟨Adr.BQ_STAT i, 0, 0⟩
def DYN_CFG_LA (i : Nat) : Fld := ⟨Adr.DYN_CFG i, 30, 24⟩
def DYN_CFG_KEY (i : Nat) : Fld := ⟨Adr.DYN_CFG i, 23, 16⟩
def DYN_CFG_LINK (i : Nat) : Fld := ⟨Adr.DYN_CFG i, 15, 8⟩
def DYN_CFG_DET (i : Nat) : Fld := ⟨Adr.DYN_CFG i, 5, 5⟩
def DYN_CFG_MODE (i : Nat) : Fld := ⟨Adr.DYN_CFG i, 2, 0⟩
def DYN_THR_RATIO (i : Nat) : Fld := ⟨Adr.DYN_THR i, 31, 20⟩
def DYN_THR_KNEE (i : Nat) : Fld := ⟨Adr.DYN_THR i, 19, 16⟩
def DYN_THR_THRESH (i : Nat) : Fld := ⟨Adr.DYN_THR i, 15, 0⟩
def DYN_TIME_RELEASE (i : Nat) : Fld := ⟨Adr.DYN_TIME i, 31, 16⟩
def DYN_TIME_ATTACK (i : Nat) : Fld := ⟨Adr.DYN_TIME i, 15, 0⟩
def DYN_GAIN_MAKEUP (i : Nat) : Fld := ⟨Adr.DYN_GAIN i, 15, 0⟩
def DYN_GR_FRESH (i : Nat) : Fld := ⟨Adr.DYN_GR i, 31, 31⟩
def DYN_GR_SEQ (i : Nat) : Fld := ⟨Adr.DYN_GR i, 30, 23⟩
def DYN_GR_GR (i : Nat) : Fld := ⟨Adr.DYN_GR i, 15, 0⟩
def DL_CFG_EN (i : Nat) : Fld := ⟨Adr.DL_CFG i, 31, 31⟩
def DL_CFG_LEN (i : Nat) : Fld := ⟨Adr.DL_CFG i, 29, 16⟩
def DL_CFG_BASE (i : Nat) : Fld := ⟨Adr.DL_CFG i, 12, 0⟩
def DL_DLY_DLY (i : Nat) : Fld := ⟨Adr.DL_DLY i, 21, 0⟩
def TAP_CFG_EN (i : Nat) : Fld := ⟨Adr.TAP_CFG i, 31, 31⟩
def TAP_CFG_MSRC (i : Nat) : Fld := ⟨Adr.TAP_CFG i, 14, 8⟩
def TAP_CFG_LINE (i : Nat) : Fld := ⟨Adr.TAP_CFG i, 6, 0⟩
def TAP_D_D (i : Nat) : Fld := ⟨Adr.TAP_D i, 29, 0⟩
def TAP_MOD_DEPTH (i : Nat) : Fld := ⟨Adr.TAP_MOD i, 31, 16⟩
def TAP_MOD_GLIDE (i : Nat) : Fld := ⟨Adr.TAP_MOD i, 15, 0⟩
def TAP_STAT_DEFF (i : Nat) : Fld := ⟨Adr.TAP_STAT i, 29, 0⟩
def CV_PREP_GO : Fld := ⟨Adr.CV_PREP, 31, 31⟩
def CV_PREP_NGRAN : Fld := ⟨Adr.CV_PREP, 15, 8⟩
def CV_PREP_GFIRST : Fld := ⟨Adr.CV_PREP, 6, 0⟩
def CV_PSTAT_ERR : Fld := ⟨Adr.CV_PSTAT, 31, 31⟩
def CV_PSTAT_PEND : Fld := ⟨Adr.CV_PSTAT, 23, 16⟩
def CV_PSTAT_BUSY : Fld := ⟨Adr.CV_PSTAT, 15, 15⟩
def CV_PSTAT_CUR : Fld := ⟨Adr.CV_PSTAT, 6, 0⟩
def CV_RDY_RDY (i : Nat) : Fld := ⟨Adr.CV_RDY i, 31, 0⟩
def CV_CFG_FX_HIST (i : Nat) : Fld := ⟨Adr.CV_CFG_FX i, 23, 16⟩
def CV_CFG_FX_XF (i : Nat) : Fld := ⟨Adr.CV_CFG_FX i, 15, 8⟩
def CV_CFG_FX_ACT (i : Nat) : Fld := ⟨Adr.CV_CFG_FX i, 0, 0⟩
def CV_SET_GFIRST (i j : Nat) : Fld := ⟨Adr.CV_SET i j, 26, 20⟩
def CV_SET_LEN (i j : Nat) : Fld := ⟨Adr.CV_SET i j, 19, 0⟩
def CV_GAIN_GAIN (i j : Nat) : Fld := ⟨Adr.CV_GAIN i j, 31, 0⟩
def CV_STAT_FX_XFADE (i : Nat) : Fld := ⟨Adr.CV_STAT_FX i, 3, 3⟩
def CV_STAT_FX_FROZEN (i : Nat) : Fld := ⟨Adr.CV_STAT_FX i, 2, 2⟩
def CV_STAT_FX_LIVE (i : Nat) : Fld := ⟨Adr.CV_STAT_FX i, 0, 0⟩
def SH_CFG_XF (i : Nat) : Fld := ⟨Adr.SH_CFG i, 15, 8⟩
def SH_CFG_ACT_BANK (i : Nat) : Fld := ⟨Adr.SH_CFG i, 1, 1⟩
def SH_CFG_EN (i : Nat) : Fld := ⟨Adr.SH_CFG i, 0, 0⟩
def SH_GAIN_DRIVE (i : Nat) : Fld := ⟨Adr.SH_GAIN i, 31, 16⟩
def SH_GAIN_OUT (i : Nat) : Fld := ⟨Adr.SH_GAIN i, 15, 0⟩
def LFO_CFG_SHAPE (i : Nat) : Fld := ⟨Adr.LFO_CFG i, 25, 24⟩
def LFO_CFG_RATE (i : Nat) : Fld := ⟨Adr.LFO_CFG i, 23, 0⟩
def LFO_PH_SYNC (i : Nat) : Fld := ⟨Adr.LFO_PH i, 31, 31⟩
def LFO_PH_PHASE (i : Nat) : Fld := ⟨Adr.LFO_PH i, 15, 0⟩

/-! Fields of OUT. -/

def OUT_SUMMARY_NOT_READY : Fld := ⟨Adr.OUT_SUMMARY, 19, 0⟩
def OUT_CFG_RB_ACT (i : Nat) : Fld := ⟨Adr.OUT_CFG i, 15, 15⟩
def OUT_CFG_DIS_ACT (i : Nat) : Fld := ⟨Adr.OUT_CFG i, 14, 14⟩
def OUT_CFG_CORE_FORCE (i : Nat) : Fld := ⟨Adr.OUT_CFG i, 13, 12⟩
def OUT_CFG_LEVEL (i : Nat) : Fld := ⟨Adr.OUT_CFG i, 9, 8⟩
def OUT_CFG_PRESET (i : Nat) : Fld := ⟨Adr.OUT_CFG i, 4, 4⟩
def OUT_CFG_EN (i : Nat) : Fld := ⟨Adr.OUT_CFG i, 0, 0⟩
def OUT_CTRL_RAMP (i : Nat) : Fld := ⟨Adr.OUT_CTRL i, 15, 8⟩
def OUT_CTRL_RESTORE (i : Nat) : Fld := ⟨Adr.OUT_CTRL i, 1, 1⟩
def OUT_CTRL_MUTE (i : Nat) : Fld := ⟨Adr.OUT_CTRL i, 0, 0⟩
def OUT_HB_HB_DC (i : Nat) : Fld := ⟨Adr.OUT_HB i, 31, 24⟩
def OUT_HB_HB_LEVEL (i : Nat) : Fld := ⟨Adr.OUT_HB i, 17, 16⟩
def OUT_HB_HB_PEAK (i : Nat) : Fld := ⟨Adr.OUT_HB i, 7, 0⟩
def OUT_RB_CFG_RB_LIM (i : Nat) : Fld := ⟨Adr.OUT_RB_CFG i, 15, 8⟩
def OUT_RB_CFG_RB_N (i : Nat) : Fld := ⟨Adr.OUT_RB_CFG i, 3, 0⟩
def OUT_STAT_ILIM (i : Nat) : Fld := ⟨Adr.OUT_STAT i, 11, 11⟩
def OUT_STAT_DC_TRIP (i : Nat) : Fld := ⟨Adr.OUT_STAT i, 10, 10⟩
def OUT_STAT_RB_BAD (i : Nat) : Fld := ⟨Adr.OUT_STAT i, 9, 9⟩
def OUT_STAT_MSTATE (i : Nat) : Fld := ⟨Adr.OUT_STAT i, 7, 6⟩
def OUT_STAT_GUARD (i : Nat) : Fld := ⟨Adr.OUT_STAT i, 5, 4⟩
def OUT_STAT_OSTATE (i : Nat) : Fld := ⟨Adr.OUT_STAT i, 2, 0⟩
def OUT_DCV_FRESH (i : Nat) : Fld := ⟨Adr.OUT_DCV i, 31, 31⟩
def OUT_DCV_SEQ (i : Nat) : Fld := ⟨Adr.OUT_DCV i, 30, 23⟩
def OUT_DCV_DCV (i : Nat) : Fld := ⟨Adr.OUT_DCV i, 22, 0⟩
def OUT_RBE_FRESH (i : Nat) : Fld := ⟨Adr.OUT_RBE i, 31, 31⟩
def OUT_RBE_SEQ (i : Nat) : Fld := ⟨Adr.OUT_RBE i, 30, 23⟩
def OUT_RBE_RBE (i : Nat) : Fld := ⟨Adr.OUT_RBE i, 22, 0⟩
def OUT_CNT1_HC_SAT (i : Nat) : Fld := ⟨Adr.OUT_CNT1 i, 31, 31⟩
def OUT_CNT1_HB_CLIP_CNT (i : Nat) : Fld := ⟨Adr.OUT_CNT1 i, 30, 16⟩
def OUT_CNT1_RM_SAT (i : Nat) : Fld := ⟨Adr.OUT_CNT1 i, 15, 15⟩
def OUT_CNT1_RB_MIS_CNT (i : Nat) : Fld := ⟨Adr.OUT_CNT1 i, 14, 0⟩
def OUT_CNT2_IL_SAT (i : Nat) : Fld := ⟨Adr.OUT_CNT2 i, 31, 31⟩
def OUT_CNT2_ILIM_CNT (i : Nat) : Fld := ⟨Adr.OUT_CNT2 i, 30, 16⟩
def OUT_CNT2_CF_SAT (i : Nat) : Fld := ⟨Adr.OUT_CNT2 i, 15, 15⟩
def OUT_CNT2_CORE_F_CNT (i : Nat) : Fld := ⟨Adr.OUT_CNT2 i, 14, 8⟩
def OUT_CNT2_DS_SAT (i : Nat) : Fld := ⟨Adr.OUT_CNT2 i, 7, 7⟩
def OUT_CNT2_DIS_CNT (i : Nat) : Fld := ⟨Adr.OUT_CNT2 i, 6, 0⟩

/-! Fields of JACK. -/

def JACK_EVQ_EVQ_EN : Fld := ⟨Adr.JACK_EVQ, 31, 31⟩
def JACK_EVQ_QID : Fld := ⟨Adr.JACK_EVQ, 11, 0⟩
def JACK_POP_CFG_PLUG_RAMP : Fld := ⟨Adr.JACK_POP_CFG, 31, 24⟩
def JACK_POP_CFG_UNPLUG_RAMP : Fld := ⟨Adr.JACK_POP_CFG, 23, 16⟩
def JACK_POP_CFG_PU_RAMP : Fld := ⟨Adr.JACK_POP_CFG, 15, 12⟩
def JACK_POP_CFG_PD_RAMP : Fld := ⟨Adr.JACK_POP_CFG, 11, 8⟩
def JACK_POP_CFG_BIAS_T : Fld := ⟨Adr.JACK_POP_CFG, 7, 4⟩
def JACK_POP_CFG_PLUG_WAIT : Fld := ⟨Adr.JACK_POP_CFG, 3, 0⟩
def JACK_CNT_EV_SAT : Fld := ⟨Adr.JACK_CNT, 31, 31⟩
def JACK_CNT_EV_CNT : Fld := ⟨Adr.JACK_CNT, 30, 16⟩
def JACK_CNT_OV_SAT : Fld := ⟨Adr.JACK_CNT, 15, 15⟩
def JACK_CNT_OVERRUN : Fld := ⟨Adr.JACK_CNT, 14, 0⟩
def JK_CFG_DECIDE (i : Nat) : Fld := ⟨Adr.JK_CFG i, 31, 16⟩
def JK_CFG_DEB (i : Nat) : Fld := ⟨Adr.JK_CFG i, 15, 8⟩
def JK_CFG_PREMUTE (i : Nat) : Fld := ⟨Adr.JK_CFG i, 3, 3⟩
def JK_CFG_PU_EN (i : Nat) : Fld := ⟨Adr.JK_CFG i, 2, 2⟩
def JK_CFG_POL (i : Nat) : Fld := ⟨Adr.JK_CFG i, 1, 1⟩
def JK_CFG_EN (i : Nat) : Fld := ⟨Adr.JK_CFG i, 0, 0⟩
def JK_THR_THR_CEIL (i : Nat) : Fld := ⟨Adr.JK_THR i, 31, 24⟩
def JK_THR_THR_FLOOR (i : Nat) : Fld := ⟨Adr.JK_THR i, 23, 16⟩
def JK_THR_THR_INIT (i : Nat) : Fld := ⟨Adr.JK_THR i, 15, 8⟩
def JK_THR_HYST (i : Nat) : Fld := ⟨Adr.JK_THR i, 7, 0⟩
def JK_STAT_THR (i : Nat) : Fld := ⟨Adr.JK_STAT i, 31, 24⟩
def JK_STAT_M_IN (i : Nat) : Fld := ⟨Adr.JK_STAT i, 23, 16⟩
def JK_STAT_M_OUT (i : Nat) : Fld := ⟨Adr.JK_STAT i, 15, 8⟩
def JK_STAT_NARROW (i : Nat) : Fld := ⟨Adr.JK_STAT i, 7, 7⟩
def JK_STAT_PINNED (i : Nat) : Fld := ⟨Adr.JK_STAT i, 6, 6⟩
def JK_STAT_AT_CEIL (i : Nat) : Fld := ⟨Adr.JK_STAT i, 5, 5⟩
def JK_STAT_AT_FLOOR (i : Nat) : Fld := ⟨Adr.JK_STAT i, 4, 4⟩
def JK_STAT_FORCED (i : Nat) : Fld := ⟨Adr.JK_STAT i, 3, 3⟩
def JK_STAT_AMBIG (i : Nat) : Fld := ⟨Adr.JK_STAT i, 2, 2⟩
def JK_STAT_STATE (i : Nat) : Fld := ⟨Adr.JK_STAT i, 1, 0⟩
def JK_LVL_FRESH (i : Nat) : Fld := ⟨Adr.JK_LVL i, 31, 31⟩
def JK_LVL_SEQ (i : Nat) : Fld := ⟨Adr.JK_LVL i, 30, 23⟩
def JK_LVL_LEVEL (i : Nat) : Fld := ⟨Adr.JK_LVL i, 7, 0⟩
def JK_CTRL_FORCE (i : Nat) : Fld := ⟨Adr.JK_CTRL i, 1, 0⟩
def JK_CNT_IN_SAT (i : Nat) : Fld := ⟨Adr.JK_CNT i, 31, 31⟩
def JK_CNT_INSERT_CNT (i : Nat) : Fld := ⟨Adr.JK_CNT i, 30, 16⟩
def JK_CNT_RM_SAT (i : Nat) : Fld := ⟨Adr.JK_CNT i, 15, 15⟩
def JK_CNT_REMOVE_CNT (i : Nat) : Fld := ⟨Adr.JK_CNT i, 14, 0⟩
def JACK_BIND_BIND_EN (i : Nat) : Fld := ⟨Adr.JACK_BIND i, 8, 8⟩
def JACK_BIND_WHEN (i : Nat) : Fld := ⟨Adr.JACK_BIND i, 4, 4⟩
def JACK_BIND_JACK (i : Nat) : Fld := ⟨Adr.JACK_BIND i, 3, 0⟩

/-! Fields of CV. -/

def CV_REF_REF_SEL : Fld := ⟨Adr.CV_REF, 0, 0⟩
def CV_SUMMARY_REF_OK : Fld := ⟨Adr.CV_SUMMARY, 16, 16⟩
def CV_SUMMARY_NOT_READY : Fld := ⟨Adr.CV_SUMMARY, 15, 0⟩
def TMR_START_LO_START_LO (i : Nat) : Fld := ⟨Adr.TMR_START_LO i, 31, 0⟩
def TMR_START_HI_START_HI (i : Nat) : Fld := ⟨Adr.TMR_START_HI i, 31, 0⟩
def TMR_PERIOD_PERIOD (i : Nat) : Fld := ⟨Adr.TMR_PERIOD i, 23, 0⟩
def TMR_CTRL_LT_SAT (i : Nat) : Fld := ⟨Adr.TMR_CTRL i, 31, 31⟩
def TMR_CTRL_LATE_CNT (i : Nat) : Fld := ⟨Adr.TMR_CTRL i, 30, 24⟩
def TMR_CTRL_RUNNING (i : Nat) : Fld := ⟨Adr.TMR_CTRL i, 9, 9⟩
def TMR_CTRL_ARMED (i : Nat) : Fld := ⟨Adr.TMR_CTRL i, 8, 8⟩
def TMR_CTRL_STOP (i : Nat) : Fld := ⟨Adr.TMR_CTRL i, 1, 1⟩
def TMR_CTRL_ARM (i : Nat) : Fld := ⟨Adr.TMR_CTRL i, 0, 0⟩
def CV_CFG_RB_ACT (i : Nat) : Fld := ⟨Adr.CV_CFG i, 31, 31⟩
def CV_CFG_QID (i : Nat) : Fld := ⟨Adr.CV_CFG i, 27, 16⟩
def CV_CFG_TIMER (i : Nat) : Fld := ⟨Adr.CV_CFG i, 13, 12⟩
def CV_CFG_SRC (i : Nat) : Fld := ⟨Adr.CV_CFG i, 8, 8⟩
def CV_CFG_GAIN (i : Nat) : Fld := ⟨Adr.CV_CFG i, 4, 4⟩
def CV_CFG_EN (i : Nat) : Fld := ⟨Adr.CV_CFG i, 0, 0⟩
def CV_CTRL_RESTORE (i : Nat) : Fld := ⟨Adr.CV_CTRL i, 1, 1⟩
def CV_CTRL_HOLD (i : Nat) : Fld := ⟨Adr.CV_CTRL i, 0, 0⟩
def CV_HB_HB_VMAX (i : Nat) : Fld := ⟨Adr.CV_HB i, 31, 16⟩
def CV_HB_HB_VMIN (i : Nat) : Fld := ⟨Adr.CV_HB i, 15, 0⟩
def CV_HB_SLEW_HB_SLEW (i : Nat) : Fld := ⟨Adr.CV_HB_SLEW i, 15, 0⟩
def CV_RB_CFG_RB_LIM (i : Nat) : Fld := ⟨Adr.CV_RB_CFG i, 15, 8⟩
def CV_RB_CFG_RB_N (i : Nat) : Fld := ⟨Adr.CV_RB_CFG i, 3, 0⟩
def CV_STAT_ILIM (i : Nat) : Fld := ⟨Adr.CV_STAT i, 9, 9⟩
def CV_STAT_RB_BAD (i : Nat) : Fld := ⟨Adr.CV_STAT i, 8, 8⟩
def CV_STAT_UNDER (i : Nat) : Fld := ⟨Adr.CV_STAT i, 7, 7⟩
def CV_STAT_HELD (i : Nat) : Fld := ⟨Adr.CV_STAT i, 6, 6⟩
def CV_STAT_CLAMP (i : Nat) : Fld := ⟨Adr.CV_STAT i, 5, 5⟩
def CV_STAT_SLEWING (i : Nat) : Fld := ⟨Adr.CV_STAT i, 4, 4⟩
def CV_STAT_OSTATE (i : Nat) : Fld := ⟨Adr.CV_STAT i, 2, 0⟩
def CV_VOUT_FRESH (i : Nat) : Fld := ⟨Adr.CV_VOUT i, 31, 31⟩
def CV_VOUT_SEQ (i : Nat) : Fld := ⟨Adr.CV_VOUT i, 30, 23⟩
def CV_VOUT_VOUT (i : Nat) : Fld := ⟨Adr.CV_VOUT i, 22, 0⟩
def CV_RBE_FRESH (i : Nat) : Fld := ⟨Adr.CV_RBE i, 31, 31⟩
def CV_RBE_SEQ (i : Nat) : Fld := ⟨Adr.CV_RBE i, 30, 23⟩
def CV_RBE_RBE (i : Nat) : Fld := ⟨Adr.CV_RBE i, 22, 0⟩
def CV_CNT1_HC_SAT (i : Nat) : Fld := ⟨Adr.CV_CNT1 i, 31, 31⟩
def CV_CNT1_HB_CLIP_CNT (i : Nat) : Fld := ⟨Adr.CV_CNT1 i, 30, 16⟩
def CV_CNT1_RM_SAT (i : Nat) : Fld := ⟨Adr.CV_CNT1 i, 15, 15⟩
def CV_CNT1_RB_MIS_CNT (i : Nat) : Fld := ⟨Adr.CV_CNT1 i, 14, 0⟩
def CV_CNT2_UN_SAT (i : Nat) : Fld := ⟨Adr.CV_CNT2 i, 31, 31⟩
def CV_CNT2_UNDERRUN (i : Nat) : Fld := ⟨Adr.CV_CNT2 i, 30, 16⟩
def CV_CNT2_FR_SAT (i : Nat) : Fld := ⟨Adr.CV_CNT2 i, 15, 15⟩
def CV_CNT2_FRAG_CNT (i : Nat) : Fld := ⟨Adr.CV_CNT2 i, 14, 0⟩

/-! Fields of SPK. -/

def SPK_CFG_VFS (i : Nat) : Fld := ⟨Adr.SPK_CFG i, 24, 16⟩
def SPK_CFG_LID (i : Nat) : Fld := ⟨Adr.SPK_CFG i, 11, 10⟩
def SPK_CFG_CLKMUTE (i : Nat) : Fld := ⟨Adr.SPK_CFG i, 9, 9⟩
def SPK_CFG_INVERT (i : Nat) : Fld := ⟨Adr.SPK_CFG i, 8, 8⟩
def SPK_CFG_PAR (i : Nat) : Fld := ⟨Adr.SPK_CFG i, 1, 1⟩
def SPK_CFG_EN (i : Nat) : Fld := ⟨Adr.SPK_CFG i, 0, 0⟩
def SPK_CTRL_RAMP (i : Nat) : Fld := ⟨Adr.SPK_CTRL i, 15, 8⟩
def SPK_CTRL_RESTORE (i : Nat) : Fld := ⟨Adr.SPK_CTRL i, 3, 3⟩
def SPK_CTRL_CLEAR (i : Nat) : Fld := ⟨Adr.SPK_CTRL i, 2, 2⟩
def SPK_CTRL_MUTE (i : Nat) : Fld := ⟨Adr.SPK_CTRL i, 0, 0⟩
def SPK_HB_P_HB_PBURST (i : Nat) : Fld := ⟨Adr.SPK_HB_P i, 31, 16⟩
def SPK_HB_P_HB_PCONT (i : Nat) : Fld := ⟨Adr.SPK_HB_P i, 15, 0⟩
def SPK_HB_I_HB_DC (i : Nat) : Fld := ⟨Adr.SPK_HB_I i, 31, 24⟩
def SPK_HB_I_HB_TBURST (i : Nat) : Fld := ⟨Adr.SPK_HB_I i, 23, 16⟩
def SPK_HB_I_HB_RETRY (i : Nat) : Fld := ⟨Adr.SPK_HB_I i, 10, 8⟩
def SPK_HB_I_HB_ILIM (i : Nat) : Fld := ⟨Adr.SPK_HB_I i, 7, 0⟩
def SPK_HB_T_HB_TCOIL (i : Nat) : Fld := ⟨Adr.SPK_HB_T i, 15, 8⟩
def SPK_HB_T_HB_TDERATE (i : Nat) : Fld := ⟨Adr.SPK_HB_T i, 7, 0⟩
def SPK_ZB_ZCEIL (i : Nat) : Fld := ⟨Adr.SPK_ZB i, 31, 16⟩
def SPK_ZB_ZFLOOR (i : Nat) : Fld := ⟨Adr.SPK_ZB i, 15, 0⟩
def SPK_RB_CFG_RB_ACT (i : Nat) : Fld := ⟨Adr.SPK_RB_CFG i, 15, 15⟩
def SPK_RB_CFG_RB_LIM (i : Nat) : Fld := ⟨Adr.SPK_RB_CFG i, 14, 8⟩
def SPK_RB_CFG_RB_N (i : Nat) : Fld := ⟨Adr.SPK_RB_CFG i, 3, 0⟩
def SPK_STAT_CSTATE (i : Nat) : Fld := ⟨Adr.SPK_STAT i, 27, 24⟩
def SPK_STAT_RETRIES (i : Nat) : Fld := ⟨Adr.SPK_STAT i, 22, 20⟩
def SPK_STAT_SHORT (i : Nat) : Fld := ⟨Adr.SPK_STAT i, 19, 18⟩
def SPK_STAT_TERM (i : Nat) : Fld := ⟨Adr.SPK_STAT i, 17, 17⟩
def SPK_STAT_OPENLOOP (i : Nat) : Fld := ⟨Adr.SPK_STAT i, 16, 16⟩
def SPK_STAT_PLIM (i : Nat) : Fld := ⟨Adr.SPK_STAT i, 15, 15⟩
def SPK_STAT_TDERATE (i : Nat) : Fld := ⟨Adr.SPK_STAT i, 14, 14⟩
def SPK_STAT_CDERATE (i : Nat) : Fld := ⟨Adr.SPK_STAT i, 13, 13⟩
def SPK_STAT_PVIN_DERATE (i : Nat) : Fld := ⟨Adr.SPK_STAT i, 12, 12⟩
def SPK_STAT_RB_BAD (i : Nat) : Fld := ⟨Adr.SPK_STAT i, 11, 11⟩
def SPK_STAT_DC_TRIP (i : Nat) : Fld := ⟨Adr.SPK_STAT i, 10, 10⟩
def SPK_STAT_PINNED (i : Nat) : Fld := ⟨Adr.SPK_STAT i, 9, 9⟩
def SPK_STAT_AT_CEIL (i : Nat) : Fld := ⟨Adr.SPK_STAT i, 8, 8⟩
def SPK_STAT_AT_FLOOR (i : Nat) : Fld := ⟨Adr.SPK_STAT i, 7, 7⟩
def SPK_STAT_MSTATE (i : Nat) : Fld := ⟨Adr.SPK_STAT i, 5, 4⟩
def SPK_Z_FRESH (i : Nat) : Fld := ⟨Adr.SPK_Z i, 31, 31⟩
def SPK_Z_SEQ (i : Nat) : Fld := ⟨Adr.SPK_Z i, 30, 23⟩
def SPK_Z_Z (i : Nat) : Fld := ⟨Adr.SPK_Z i, 22, 0⟩
def SPK_PWR_FRESH (i : Nat) : Fld := ⟨Adr.SPK_PWR i, 31, 31⟩
def SPK_PWR_SEQ (i : Nat) : Fld := ⟨Adr.SPK_PWR i, 30, 23⟩
def SPK_PWR_P_L (i : Nat) : Fld := ⟨Adr.SPK_PWR i, 22, 0⟩
def SPK_TEMP_FRESH (i : Nat) : Fld := ⟨Adr.SPK_TEMP i, 31, 31⟩
def SPK_TEMP_SEQ (i : Nat) : Fld := ⟨Adr.SPK_TEMP i, 30, 23⟩
def SPK_TEMP_DT_COIL (i : Nat) : Fld := ⟨Adr.SPK_TEMP i, 15, 8⟩
def SPK_TEMP_TJ (i : Nat) : Fld := ⟨Adr.SPK_TEMP i, 7, 0⟩
def SPK_RBE_FRESH (i : Nat) : Fld := ⟨Adr.SPK_RBE i, 31, 31⟩
def SPK_RBE_SEQ (i : Nat) : Fld := ⟨Adr.SPK_RBE i, 30, 23⟩
def SPK_RBE_RBE (i : Nat) : Fld := ⟨Adr.SPK_RBE i, 22, 0⟩
def SPK_CNT1_IL_SAT (i : Nat) : Fld := ⟨Adr.SPK_CNT1 i, 31, 31⟩
def SPK_CNT1_ILIM_CNT (i : Nat) : Fld := ⟨Adr.SPK_CNT1 i, 30, 16⟩
def SPK_CNT1_SH_SAT (i : Nat) : Fld := ⟨Adr.SPK_CNT1 i, 15, 15⟩
def SPK_CNT1_SHUT_CNT (i : Nat) : Fld := ⟨Adr.SPK_CNT1 i, 14, 0⟩
def SPK_CNT2_PL_SAT (i : Nat) : Fld := ⟨Adr.SPK_CNT2 i, 31, 31⟩
def SPK_CNT2_PLIM_CNT (i : Nat) : Fld := ⟨Adr.SPK_CNT2 i, 30, 16⟩
def SPK_CNT2_RM_SAT (i : Nat) : Fld := ⟨Adr.SPK_CNT2 i, 15, 15⟩
def SPK_CNT2_RB_MIS_CNT (i : Nat) : Fld := ⟨Adr.SPK_CNT2 i, 14, 0⟩

/-! Fields of BST. -/

def BST_CFG_LA : Fld := ⟨Adr.BST_CFG, 22, 16⟩
def BST_CFG_ENV_MASK : Fld := ⟨Adr.BST_CFG, 15, 8⟩
def BST_CFG_SHED : Fld := ⟨Adr.BST_CFG, 2, 2⟩
def BST_CFG_EN : Fld := ⟨Adr.BST_CFG, 0, 0⟩
def BST_TRACK_SLEW_DN : Fld := ⟨Adr.BST_TRACK, 23, 16⟩
def BST_TRACK_SLEW_UP : Fld := ⟨Adr.BST_TRACK, 11, 8⟩
def BST_TRACK_HEADROOM : Fld := ⟨Adr.BST_TRACK, 7, 0⟩
def BST_BOUND_CEIL : Fld := ⟨Adr.BST_BOUND, 24, 16⟩
def BST_BOUND_FLOOR : Fld := ⟨Adr.BST_BOUND, 8, 0⟩
def BST_HB_HB_IIN : Fld := ⟨Adr.BST_HB, 31, 24⟩
def BST_HB_HB_HEADROOM : Fld := ⟨Adr.BST_HB, 23, 16⟩
def BST_HB_HB_VMAX : Fld := ⟨Adr.BST_HB, 8, 0⟩
def BST_RB_CFG_RB_ACT : Fld := ⟨Adr.BST_RB_CFG, 15, 15⟩
def BST_RB_CFG_RB_LIM : Fld := ⟨Adr.BST_RB_CFG, 14, 8⟩
def BST_RB_CFG_RB_N : Fld := ⟨Adr.BST_RB_CFG, 3, 0⟩
def BST_STAT_RB_BAD : Fld := ⟨Adr.BST_STAT, 17, 17⟩
def BST_STAT_TDERATE : Fld := ⟨Adr.BST_STAT, 16, 16⟩
def BST_STAT_IIN_LIM : Fld := ⟨Adr.BST_STAT, 15, 15⟩
def BST_STAT_AT_FLOOR : Fld := ⟨Adr.BST_STAT, 14, 14⟩
def BST_STAT_AT_CEIL : Fld := ⟨Adr.BST_STAT, 13, 13⟩
def BST_STAT_PINNED : Fld := ⟨Adr.BST_STAT, 12, 12⟩
def BST_STAT_PH_OUT : Fld := ⟨Adr.BST_STAT, 11, 8⟩
def BST_STAT_PH_ACTIVE : Fld := ⟨Adr.BST_STAT, 7, 4⟩
def BST_STAT_BSTATE : Fld := ⟨Adr.BST_STAT, 3, 0⟩
def BST_PVDD_FRESH : Fld := ⟨Adr.BST_PVDD, 31, 31⟩
def BST_PVDD_SEQ : Fld := ⟨Adr.BST_PVDD, 30, 23⟩
def BST_PVDD_PVDD : Fld := ⟨Adr.BST_PVDD, 22, 0⟩
def BST_IIN_FRESH : Fld := ⟨Adr.BST_IIN, 31, 31⟩
def BST_IIN_SEQ : Fld := ⟨Adr.BST_IIN, 30, 23⟩
def BST_IIN_IIN : Fld := ⟨Adr.BST_IIN, 22, 0⟩
def BST_TEMP_FRESH : Fld := ⟨Adr.BST_TEMP, 31, 31⟩
def BST_TEMP_SEQ : Fld := ⟨Adr.BST_TEMP, 30, 23⟩
def BST_TEMP_TJ : Fld := ⟨Adr.BST_TEMP, 7, 0⟩
def BST_RBE_FRESH : Fld := ⟨Adr.BST_RBE, 31, 31⟩
def BST_RBE_SEQ : Fld := ⟨Adr.BST_RBE, 30, 23⟩
def BST_RBE_RBE : Fld := ⟨Adr.BST_RBE, 22, 0⟩
def BST_CNT1_CL_SAT : Fld := ⟨Adr.BST_CNT1, 31, 31⟩
def BST_CNT1_CLIP_CNT : Fld := ⟨Adr.BST_CNT1, 30, 16⟩
def BST_CNT1_SG_SAT : Fld := ⟨Adr.BST_CNT1, 15, 15⟩
def BST_CNT1_SAG_CNT : Fld := ⟨Adr.BST_CNT1, 14, 0⟩
def BST_CNT2_IL_SAT : Fld := ⟨Adr.BST_CNT2, 31, 31⟩
def BST_CNT2_IIN_CNT : Fld := ⟨Adr.BST_CNT2, 30, 16⟩
def BST_CNT2_RM_SAT : Fld := ⟨Adr.BST_CNT2, 15, 15⟩
def BST_CNT2_RB_MIS_CNT : Fld := ⟨Adr.BST_CNT2, 14, 0⟩
def BST_CLIPMAP_CLIPMAP : Fld := ⟨Adr.BST_CLIPMAP, 7, 0⟩
def BST_CTRL_RESTORE : Fld := ⟨Adr.BST_CTRL, 0, 0⟩

/-! Fields of QMG. -/

def QMG_POOL_FREE : Fld := ⟨Adr.QMG_POOL, 16, 0⟩
def QMG_SHARED_SHARED : Fld := ⟨Adr.QMG_SHARED, 16, 0⟩
def QMG_SHFREE_SH_FREE : Fld := ⟨Adr.QMG_SHFREE, 16, 0⟩
def QMG_LOAD_ACC : Fld := ⟨Adr.QMG_LOAD, 13, 0⟩
def QMG_HOSTX_HOSTX : Fld := ⟨Adr.QMG_HOSTX, 16, 0⟩
def QMG_CNT1_EC_SAT : Fld := ⟨Adr.QMG_CNT1, 31, 31⟩
def QMG_CNT1_ECC_CNT : Fld := ⟨Adr.QMG_CNT1, 30, 16⟩
def QMG_CNT1_UE_SAT : Fld := ⟨Adr.QMG_CNT1, 15, 15⟩
def QMG_CNT1_UE_CNT : Fld := ⟨Adr.QMG_CNT1, 14, 0⟩
def QMG_CNT2_OV_SAT : Fld := ⟨Adr.QMG_CNT2, 31, 31⟩
def QMG_CNT2_OVR_CNT : Fld := ⟨Adr.QMG_CNT2, 30, 16⟩
def QMG_CNT2_WT_SAT : Fld := ⟨Adr.QMG_CNT2, 15, 15⟩
def QMG_CNT2_WAIT_CNT : Fld := ⟨Adr.QMG_CNT2, 14, 0⟩
def QMG_CNT3_CS_SAT : Fld := ⟨Adr.QMG_CNT3, 31, 31⟩
def QMG_CNT3_CONS_CNT : Fld := ⟨Adr.QMG_CNT3, 30, 16⟩
def QMG_CNT3_RC_SAT : Fld := ⟨Adr.QMG_CNT3, 15, 15⟩
def QMG_CNT3_RECLAIM_CNT : Fld := ⟨Adr.QMG_CNT3, 14, 0⟩
def QMG_STAT_CMD_ERR : Fld := ⟨Adr.QMG_STAT, 1, 1⟩
def QMG_STAT_SWEEP : Fld := ⟨Adr.QMG_STAT, 0, 0⟩
def QMG_QSEL_QID : Fld := ⟨Adr.QMG_QSEL, 11, 0⟩

/-! Fields of QBANK. -/

def QMG_QCFG_EN (i : Nat) : Fld := ⟨Adr.QMG_QCFG i, 31, 31⟩
def QMG_QCFG_RES (i : Nat) : Fld := ⟨Adr.QMG_QCFG i, 24, 17⟩
def QMG_QCFG_MAXC (i : Nat) : Fld := ⟨Adr.QMG_QCFG i, 16, 0⟩
def QMG_QWM_HWM (i : Nat) : Fld := ⟨Adr.QMG_QWM i, 31, 16⟩
def QMG_QWM_LWM (i : Nat) : Fld := ⟨Adr.QMG_QWM i, 15, 0⟩
def QMG_QCT_CT (i : Nat) : Fld := ⟨Adr.QMG_QCT i, 15, 0⟩
def QMG_QSTAT_XOFF (i : Nat) : Fld := ⟨Adr.QMG_QSTAT i, 31, 31⟩
def QMG_QSTAT_BM (i : Nat) : Fld := ⟨Adr.QMG_QSTAT i, 30, 30⟩
def QMG_QSTAT_CCLASS (i : Nat) : Fld := ⟨Adr.QMG_QSTAT i, 29, 28⟩
def QMG_QSTAT_FLUSHED (i : Nat) : Fld := ⟨Adr.QMG_QSTAT i, 27, 27⟩
def QMG_QSTAT_FULL (i : Nat) : Fld := ⟨Adr.QMG_QSTAT i, 26, 26⟩
def QMG_QSTAT_OCC (i : Nat) : Fld := ⟨Adr.QMG_QSTAT i, 16, 0⟩
def QMG_QSIG_SIGS (i : Nat) : Fld := ⟨Adr.QMG_QSIG i, 16, 0⟩
def QMG_QBM_BM_CELLS (i : Nat) : Fld := ⟨Adr.QMG_QBM i, 16, 0⟩
def QMG_QCNT_OV_SAT (i : Nat) : Fld := ⟨Adr.QMG_QCNT i, 31, 31⟩
def QMG_QCNT_OVERRUN (i : Nat) : Fld := ⟨Adr.QMG_QCNT i, 30, 16⟩
def QMG_QCNT_DS_SAT (i : Nat) : Fld := ⟨Adr.QMG_QCNT i, 15, 15⟩
def QMG_QCNT_DISC (i : Nat) : Fld := ⟨Adr.QMG_QCNT i, 14, 0⟩

/-! Fields of QMG. -/

def QMG_QCMD_CMD : Fld := ⟨Adr.QMG_QCMD, 2, 0⟩
def WP_CFG_WEN (i : Nat) : Fld := ⟨Adr.WP_CFG i, 31, 31⟩
def WP_CFG_WQID (i : Nat) : Fld := ⟨Adr.WP_CFG i, 27, 16⟩
def WP_CFG_REN (i : Nat) : Fld := ⟨Adr.WP_CFG i, 15, 15⟩
def WP_CFG_RQID (i : Nat) : Fld := ⟨Adr.WP_CFG i, 11, 0⟩

/-! Fields of WIN. -/

def WP_END_ABORT (i : Nat) : Fld := ⟨Adr.WP_END i, 31, 31⟩
def WP_END_DROP (i : Nat) : Fld := ⟨Adr.WP_END i, 1, 0⟩
def WP_WSTAT_OPEN (i : Nat) : Fld := ⟨Adr.WP_WSTAT i, 31, 31⟩
def WP_WSTAT_OPEN_W (i : Nat) : Fld := ⟨Adr.WP_WSTAT i, 30, 16⟩
def WP_WSTAT_CREDIT (i : Nat) : Fld := ⟨Adr.WP_WSTAT i, 14, 0⟩
def WP_RSTAT_ERR (i : Nat) : Fld := ⟨Adr.WP_RSTAT i, 31, 31⟩
def WP_RSTAT_TRUNC (i : Nat) : Fld := ⟨Adr.WP_RSTAT i, 30, 30⟩
def WP_RSTAT_REPLAYED (i : Nat) : Fld := ⟨Adr.WP_RSTAT i, 29, 29⟩
def WP_RSTAT_OPEN (i : Nat) : Fld := ⟨Adr.WP_RSTAT i, 28, 28⟩
def WP_RSTAT_HEAD (i : Nat) : Fld := ⟨Adr.WP_RSTAT i, 27, 27⟩
def WP_RSTAT_LEFT (i : Nat) : Fld := ⟨Adr.WP_RSTAT i, 15, 0⟩
def WP_RCTRL_SKIP (i : Nat) : Fld := ⟨Adr.WP_RCTRL i, 0, 0⟩
def WP_CNT_UR_SAT (i : Nat) : Fld := ⟨Adr.WP_CNT i, 31, 31⟩
def WP_CNT_UNDERREAD (i : Nat) : Fld := ⟨Adr.WP_CNT i, 30, 16⟩
def WP_CNT_OW_SAT (i : Nat) : Fld := ⟨Adr.WP_CNT i, 15, 15⟩
def WP_CNT_OVERWRITE (i : Nat) : Fld := ⟨Adr.WP_CNT i, 14, 0⟩

/-! Fields of NET. -/

def NET_MAC_LO_MAC_LO : Fld := ⟨Adr.NET_MAC_LO, 31, 0⟩
def NET_MAC_HI_MAC_HI : Fld := ⟨Adr.NET_MAC_HI, 15, 0⟩
def NET_CLASS_EXP_MASK : Fld := ⟨Adr.NET_CLASS, 31, 24⟩
def NET_CLASS_PCP_MAP : Fld := ⟨Adr.NET_CLASS, 23, 0⟩
def NET_BR_CFG_AGE : Fld := ⟨Adr.NET_BR_CFG, 31, 16⟩
def NET_BR_CFG_MOVE_HOLD : Fld := ⟨Adr.NET_BR_CFG, 15, 8⟩
def NET_BR_CFG_LEARN_EN : Fld := ⟨Adr.NET_BR_CFG, 0, 0⟩
def NET_FLOOD_MC_FLOOD : Fld := ⟨Adr.NET_FLOOD, 12, 8⟩
def NET_FLOOD_UC_FLOOD : Fld := ⟨Adr.NET_FLOOD, 4, 0⟩
def NET_BR_STAT_ENTRIES : Fld := ⟨Adr.NET_BR_STAT, 14, 0⟩
def NET_BR_CNT1_CT_SAT : Fld := ⟨Adr.NET_BR_CNT1, 31, 31⟩
def NET_BR_CNT1_CONTESTED : Fld := ⟨Adr.NET_BR_CNT1, 30, 16⟩
def NET_BR_CNT1_MV_SAT : Fld := ⟨Adr.NET_BR_CNT1, 15, 15⟩
def NET_BR_CNT1_MOVES : Fld := ⟨Adr.NET_BR_CNT1, 14, 0⟩
def NET_BR_CNT2_LF_SAT : Fld := ⟨Adr.NET_BR_CNT2, 31, 31⟩
def NET_BR_CNT2_LEARN_FULL : Fld := ⟨Adr.NET_BR_CNT2, 30, 16⟩
def NET_BR_CNT2_LD_SAT : Fld := ⟨Adr.NET_BR_CNT2, 15, 15⟩
def NET_BR_CNT2_LEARN_DROP : Fld := ⟨Adr.NET_BR_CNT2, 14, 0⟩
def NET_TBL_CMD_PORT : Fld := ⟨Adr.NET_TBL_CMD, 10, 8⟩
def NET_TBL_CMD_CMD : Fld := ⟨Adr.NET_TBL_CMD, 2, 0⟩
def NET_TBL_MAC_LO_TBL_MAC_LO : Fld := ⟨Adr.NET_TBL_MAC_LO, 31, 0⟩
def NET_TBL_MAC_HI_TBL_MAC_HI : Fld := ⟨Adr.NET_TBL_MAC_HI, 15, 0⟩
def NET_TBL_RES_FRESH : Fld := ⟨Adr.NET_TBL_RES, 31, 31⟩
def NET_TBL_RES_SEQ : Fld := ⟨Adr.NET_TBL_RES, 30, 23⟩
def NET_TBL_RES_HIT : Fld := ⟨Adr.NET_TBL_RES, 22, 22⟩
def NET_TBL_RES_STATIC : Fld := ⟨Adr.NET_TBL_RES, 21, 21⟩
def NET_TBL_RES_PORT : Fld := ⟨Adr.NET_TBL_RES, 20, 18⟩
def NET_TBL_RES_ERR : Fld := ⟨Adr.NET_TBL_RES, 17, 17⟩
def NET_TBL_RES_AGE_S : Fld := ⟨Adr.NET_TBL_RES, 15, 0⟩
def PORT_CFG_FWD (i : Nat) : Fld := ⟨Adr.PORT_CFG i, 31, 30⟩
def PORT_CFG_MAX_LEN (i : Nat) : Fld := ⟨Adr.PORT_CFG i, 29, 16⟩
def PORT_CFG_RX_WAIT (i : Nat) : Fld := ⟨Adr.PORT_CFG i, 15, 8⟩
def PORT_CFG_BCAST_EN (i : Nat) : Fld := ⟨Adr.PORT_CFG i, 5, 5⟩
def PORT_CFG_MODE (i : Nat) : Fld := ⟨Adr.PORT_CFG i, 1, 0⟩
def PORT_TAG_ACCEPT (i : Nat) : Fld := ⟨Adr.PORT_TAG i, 31, 30⟩
def PORT_TAG_UNTAG (i : Nat) : Fld := ⟨Adr.PORT_TAG i, 29, 29⟩
def PORT_TAG_DEF_PCP (i : Nat) : Fld := ⟨Adr.PORT_TAG i, 15, 13⟩
def PORT_TAG_PVID (i : Nat) : Fld := ⟨Adr.PORT_TAG i, 11, 0⟩
def PORT_PREEMPT_PRE_EN (i : Nat) : Fld := ⟨Adr.PORT_PREEMPT i, 31, 31⟩
def PORT_PREEMPT_VERIFY (i : Nat) : Fld := ⟨Adr.PORT_PREEMPT i, 30, 30⟩
def PORT_PREEMPT_ADD_FRAG (i : Nat) : Fld := ⟨Adr.PORT_PREEMPT i, 29, 28⟩
def PORT_PREEMPT_VERIFY_T (i : Nat) : Fld := ⟨Adr.PORT_PREEMPT i, 15, 8⟩
def PORT_PREEMPT_HOLD_T (i : Nat) : Fld := ⟨Adr.PORT_PREEMPT i, 7, 0⟩
def PORT_STAT_LINK (i : Nat) : Fld := ⟨Adr.PORT_STAT i, 31, 31⟩
def PORT_STAT_SPEED (i : Nat) : Fld := ⟨Adr.PORT_STAT i, 30, 29⟩
def PORT_STAT_PRE_ACT (i : Nat) : Fld := ⟨Adr.PORT_STAT i, 28, 28⟩
def PORT_STAT_VSTATE (i : Nat) : Fld := ⟨Adr.PORT_STAT i, 27, 26⟩
def PORT_STAT_HOLD (i : Nat) : Fld := ⟨Adr.PORT_STAT i, 25, 25⟩
def PORT_STAT_JABBER (i : Nat) : Fld := ⟨Adr.PORT_STAT i, 24, 24⟩
def PORT_STAT_DUPLEX_ERR (i : Nat) : Fld := ⟨Adr.PORT_STAT i, 23, 23⟩
def PORT_RXQ_LOCAL_EN (i : Nat) : Fld := ⟨Adr.PORT_RXQ i, 31, 31⟩
def PORT_RXQ_RXQ (i : Nat) : Fld := ⟨Adr.PORT_RXQ i, 11, 0⟩
def PORT_EQ_DEADLINE (i j : Nat) : Fld := ⟨Adr.PORT_EQ i j, 31, 16⟩
def PORT_EQ_EN (i j : Nat) : Fld := ⟨Adr.PORT_EQ i j, 15, 15⟩
def PORT_EQ_QID (i j : Nat) : Fld := ⟨Adr.PORT_EQ i j, 11, 0⟩
def PORT_SHAPE_RATE (i j : Nat) : Fld := ⟨Adr.PORT_SHAPE i j, 31, 16⟩
def PORT_SHAPE_BURST (i j : Nat) : Fld := ⟨Adr.PORT_SHAPE i j, 15, 0⟩
def PORT_CNT0_RX_OK_SAT (i : Nat) : Fld := ⟨Adr.PORT_CNT0 i, 31, 31⟩
def PORT_CNT0_RX_OK (i : Nat) : Fld := ⟨Adr.PORT_CNT0 i, 30, 16⟩
def PORT_CNT0_RX_FCS_SAT (i : Nat) : Fld := ⟨Adr.PORT_CNT0 i, 15, 15⟩
def PORT_CNT0_RX_FCS (i : Nat) : Fld := ⟨Adr.PORT_CNT0 i, 14, 0⟩
def PORT_CNT1_RX_OVERSIZE_SAT (i : Nat) : Fld := ⟨Adr.PORT_CNT1 i, 31, 31⟩
def PORT_CNT1_RX_OVERSIZE (i : Nat) : Fld := ⟨Adr.PORT_CNT1 i, 30, 16⟩
def PORT_CNT1_RX_RUNT_SAT (i : Nat) : Fld := ⟨Adr.PORT_CNT1 i, 15, 15⟩
def PORT_CNT1_RX_RUNT (i : Nat) : Fld := ⟨Adr.PORT_CNT1 i, 14, 0⟩
def PORT_CNT2_RX_FIFO_DROP_SAT (i : Nat) : Fld := ⟨Adr.PORT_CNT2 i, 31, 31⟩
def PORT_CNT2_RX_FIFO_DROP (i : Nat) : Fld := ⟨Adr.PORT_CNT2 i, 30, 16⟩
def PORT_CNT2_RX_WAIT_DROP_SAT (i : Nat) : Fld := ⟨Adr.PORT_CNT2 i, 15, 15⟩
def PORT_CNT2_RX_WAIT_DROP (i : Nat) : Fld := ⟨Adr.PORT_CNT2 i, 14, 0⟩
def PORT_CNT3_RX_FILT_SAT (i : Nat) : Fld := ⟨Adr.PORT_CNT3 i, 31, 31⟩
def PORT_CNT3_RX_FILT (i : Nat) : Fld := ⟨Adr.PORT_CNT3 i, 30, 16⟩
def PORT_CNT3_MERGE_ERR_SAT (i : Nat) : Fld := ⟨Adr.PORT_CNT3 i, 15, 15⟩
def PORT_CNT3_MERGE_ERR (i : Nat) : Fld := ⟨Adr.PORT_CNT3 i, 14, 0⟩
def PORT_CNT4_TX_OK_SAT (i : Nat) : Fld := ⟨Adr.PORT_CNT4 i, 31, 31⟩
def PORT_CNT4_TX_OK (i : Nat) : Fld := ⟨Adr.PORT_CNT4 i, 30, 16⟩
def PORT_CNT4_TX_STOMP_SAT (i : Nat) : Fld := ⟨Adr.PORT_CNT4 i, 15, 15⟩
def PORT_CNT4_TX_STOMP (i : Nat) : Fld := ⟨Adr.PORT_CNT4 i, 14, 0⟩
def PORT_CNT5_TX_LATE_SAT (i : Nat) : Fld := ⟨Adr.PORT_CNT5 i, 31, 31⟩
def PORT_CNT5_TX_LATE (i : Nat) : Fld := ⟨Adr.PORT_CNT5 i, 30, 16⟩
def PORT_CNT5_TX_DOWN_DROP_SAT (i : Nat) : Fld := ⟨Adr.PORT_CNT5 i, 15, 15⟩
def PORT_CNT5_TX_DOWN_DROP (i : Nat) : Fld := ⟨Adr.PORT_CNT5 i, 14, 0⟩
def PORT_CNT6_COLL_SAT (i : Nat) : Fld := ⟨Adr.PORT_CNT6 i, 31, 31⟩
def PORT_CNT6_COLL (i : Nat) : Fld := ⟨Adr.PORT_CNT6 i, 30, 16⟩
def PORT_CNT6_LATE_COLL_SAT (i : Nat) : Fld := ⟨Adr.PORT_CNT6 i, 15, 15⟩
def PORT_CNT6_LATE_COLL (i : Nat) : Fld := ⟨Adr.PORT_CNT6 i, 14, 0⟩
def PORT_CNT7_EXCESS_SAT (i : Nat) : Fld := ⟨Adr.PORT_CNT7 i, 31, 31⟩
def PORT_CNT7_EXCESS (i : Nat) : Fld := ⟨Adr.PORT_CNT7 i, 30, 16⟩
def PORT_CNT7_TRUNC_DROP_SAT (i : Nat) : Fld := ⟨Adr.PORT_CNT7 i, 15, 15⟩
def PORT_CNT7_TRUNC_DROP (i : Nat) : Fld := ⟨Adr.PORT_CNT7 i, 14, 0⟩

/-! Fields of ZKL. -/

def ZKL_NODE_DOMAIN : Fld := ⟨Adr.ZKL_NODE, 23, 16⟩
def ZKL_NODE_NODE_ID : Fld := ⟨Adr.ZKL_NODE, 13, 0⟩
def ZKL_ETYPE_ETYPE : Fld := ⟨Adr.ZKL_ETYPE, 15, 0⟩
def ZKL_RXQ_EN : Fld := ⟨Adr.ZKL_RXQ, 31, 31⟩
def ZKL_RXQ_RXQ : Fld := ⟨Adr.ZKL_RXQ, 11, 0⟩
def ZKL_CNT_NM_SAT : Fld := ⟨Adr.ZKL_CNT, 31, 31⟩
def ZKL_CNT_NOMATCH : Fld := ⟨Adr.ZKL_CNT, 30, 16⟩
def ZKL_CNT_CL_SAT : Fld := ⟨Adr.ZKL_CNT, 15, 15⟩
def ZKL_CNT_CLASH_CNT : Fld := ⟨Adr.ZKL_CNT, 14, 8⟩
def ZKL_CNT_OW_SAT : Fld := ⟨Adr.ZKL_CNT, 7, 7⟩
def ZKL_CNT_OWN_CNT : Fld := ⟨Adr.ZKL_CNT, 6, 0⟩
def TX_CFG_EN (i : Nat) : Fld := ⟨Adr.TX_CFG i, 31, 31⟩
def TX_CFG_KIND (i : Nat) : Fld := ⟨Adr.TX_CFG i, 30, 30⟩
def TX_CFG_GATH (i : Nat) : Fld := ⟨Adr.TX_CFG i, 29, 28⟩
def TX_CFG_PCP (i : Nat) : Fld := ⟨Adr.TX_CFG i, 27, 25⟩
def TX_CFG_PORTS (i : Nat) : Fld := ⟨Adr.TX_CFG i, 19, 16⟩
def TX_CFG_CHANS (i : Nat) : Fld := ⟨Adr.TX_CFG i, 14, 8⟩
def TX_CFG_CHFIRST (i : Nat) : Fld := ⟨Adr.TX_CFG i, 7, 0⟩
def TX_TIME_P (i : Nat) : Fld := ⟨Adr.TX_TIME i, 31, 16⟩
def TX_TIME_TXOFS (i : Nat) : Fld := ⟨Adr.TX_TIME i, 12, 0⟩
def TX_DA_LO_DA_LO (i : Nat) : Fld := ⟨Adr.TX_DA_LO i, 31, 0⟩
def TX_DA_HI_VID (i : Nat) : Fld := ⟨Adr.TX_DA_HI i, 27, 16⟩
def TX_DA_HI_DA_HI (i : Nat) : Fld := ⟨Adr.TX_DA_HI i, 15, 0⟩
def TX_CTRL_XLATE (i : Nat) : Fld := ⟨Adr.TX_CTRL i, 31, 31⟩
def TX_CTRL_QSRC (i : Nat) : Fld := ⟨Adr.TX_CTRL i, 11, 0⟩
def TX_CNT_FR_SAT (i : Nat) : Fld := ⟨Adr.TX_CNT i, 31, 31⟩
def TX_CNT_FRAMES (i : Nat) : Fld := ⟨Adr.TX_CNT i, 30, 16⟩
def TX_CNT_OV_SAT (i : Nat) : Fld := ⟨Adr.TX_CNT i, 15, 15⟩
def TX_CNT_TX_OVR (i : Nat) : Fld := ⟨Adr.TX_CNT i, 14, 8⟩
def TX_CNT_CB_SAT (i : Nat) : Fld := ⟨Adr.TX_CNT i, 7, 7⟩
def TX_CNT_CTRL_BIG (i : Nat) : Fld := ⟨Adr.TX_CNT i, 6, 0⟩
def TX_STAT_SEQ (i : Nat) : Fld := ⟨Adr.TX_STAT i, 31, 0⟩
def TX_TSTATE_TSTATE (i : Nat) : Fld := ⟨Adr.TX_TSTATE i, 1, 0⟩
def RX_CFG_EN (i : Nat) : Fld := ⟨Adr.RX_CFG i, 31, 31⟩
def RX_CFG_KIND (i : Nat) : Fld := ⟨Adr.RX_CFG i, 30, 30⟩
def RX_CFG_GATH (i : Nat) : Fld := ⟨Adr.RX_CFG i, 29, 28⟩
def RX_CFG_HOPB (i : Nat) : Fld := ⟨Adr.RX_CFG i, 23, 16⟩
def RX_CFG_CHANS (i : Nat) : Fld := ⟨Adr.RX_CFG i, 14, 8⟩
def RX_CFG_CHFIRST (i : Nat) : Fld := ⟨Adr.RX_CFG i, 7, 0⟩
def RX_ID_SRC_NODE (i : Nat) : Fld := ⟨Adr.RX_ID i, 29, 16⟩
def RX_ID_STREAM (i : Nat) : Fld := ⟨Adr.RX_ID i, 7, 0⟩
def RX_CTL_RQID (i : Nat) : Fld := ⟨Adr.RX_CTL i, 27, 16⟩
def RX_CTL_FADE (i : Nat) : Fld := ⟨Adr.RX_CTL i, 15, 8⟩
def RX_STAT_P (i : Nat) : Fld := ⟨Adr.RX_STAT i, 31, 16⟩
def RX_STAT_RSTATE (i : Nat) : Fld := ⟨Adr.RX_STAT i, 2, 0⟩
def RX_CNT1_GD_SAT (i : Nat) : Fld := ⟨Adr.RX_CNT1 i, 31, 31⟩
def RX_CNT1_GOOD (i : Nat) : Fld := ⟨Adr.RX_CNT1 i, 30, 16⟩
def RX_CNT1_LS_SAT (i : Nat) : Fld := ⟨Adr.RX_CNT1 i, 15, 15⟩
def RX_CNT1_LOST (i : Nat) : Fld := ⟨Adr.RX_CNT1 i, 14, 0⟩
def RX_CNT2_LT_SAT (i : Nat) : Fld := ⟨Adr.RX_CNT2 i, 31, 31⟩
def RX_CNT2_LATE (i : Nat) : Fld := ⟨Adr.RX_CNT2 i, 30, 16⟩
def RX_CNT2_BD_SAT (i : Nat) : Fld := ⟨Adr.RX_CNT2 i, 15, 15⟩
def RX_CNT2_BAD (i : Nat) : Fld := ⟨Adr.RX_CNT2 i, 14, 0⟩
def RX_CNT3_DP_SAT (i : Nat) : Fld := ⟨Adr.RX_CNT3 i, 31, 31⟩
def RX_CNT3_DUP (i : Nat) : Fld := ⟨Adr.RX_CNT3 i, 30, 16⟩
def RX_CNT3_EA_SAT (i : Nat) : Fld := ⟨Adr.RX_CNT3 i, 15, 15⟩
def RX_CNT3_EARLY (i : Nat) : Fld := ⟨Adr.RX_CNT3 i, 14, 8⟩
def RX_CNT3_PL_SAT (i : Nat) : Fld := ⟨Adr.RX_CNT3 i, 7, 7⟩
def RX_CNT3_P_LOW (i : Nat) : Fld := ⟨Adr.RX_CNT3 i, 6, 0⟩

/-! Fields of TIME. -/

def TIME_STAT_LEAP_PEND : Fld := ⟨Adr.TIME_STAT, 6, 6⟩
def TIME_STAT_CAL_OUT : Fld := ⟨Adr.TIME_STAT, 5, 5⟩
def TIME_STAT_CAL_END : Fld := ⟨Adr.TIME_STAT, 4, 4⟩
def TIME_STAT_DOFS_OK : Fld := ⟨Adr.TIME_STAT, 3, 3⟩
def TIME_STAT_DOFS_SET : Fld := ⟨Adr.TIME_STAT, 2, 2⟩
def TIME_STAT_STALE : Fld := ⟨Adr.TIME_STAT, 1, 1⟩
def TIME_STAT_GPTP_RDY : Fld := ⟨Adr.TIME_STAT, 0, 0⟩
def TIME_MAP_TICK_TICK_A (i : Nat) : Fld := ⟨Adr.TIME_MAP_TICK i, 31, 0⟩
def TIME_MAP_SEC_LO_SEC_A_LO : Fld := ⟨Adr.TIME_MAP_SEC_LO, 31, 0⟩
def TIME_MAP_SEC_HI_SEC_A_HI : Fld := ⟨Adr.TIME_MAP_SEC_HI, 15, 0⟩
def TIME_MAP_NS_NS_A : Fld := ⟨Adr.TIME_MAP_NS, 29, 0⟩
def TIME_MAP_RATE_RATE : Fld := ⟨Adr.TIME_MAP_RATE, 31, 0⟩
def TIME_MAP_CTRL_COMMIT : Fld := ⟨Adr.TIME_MAP_CTRL, 0, 0⟩
def TIME_NOW_SEC_LO_NOW_SEC_LO : Fld := ⟨Adr.TIME_NOW_SEC_LO, 31, 0⟩
def TIME_NOW_SEC_HI_NOW_SEC_HI : Fld := ⟨Adr.TIME_NOW_SEC_HI, 15, 0⟩
def TIME_NOW_NS_NOW_NS : Fld := ⟨Adr.TIME_NOW_NS, 29, 0⟩
def TIME_DOFS_DOFS (i : Nat) : Fld := ⟨Adr.TIME_DOFS i, 31, 0⟩
def TIME_PHASE_FRESH : Fld := ⟨Adr.TIME_PHASE, 31, 31⟩
def TIME_PHASE_SEQ : Fld := ⟨Adr.TIME_PHASE, 30, 23⟩
def TIME_PHASE_PHASE_ERR : Fld := ⟨Adr.TIME_PHASE, 22, 0⟩
def TIME_TS_CFG_TS_QID : Fld := ⟨Adr.TIME_TS_CFG, 11, 0⟩
def TIME_TS_CNT_TO_SAT : Fld := ⟨Adr.TIME_TS_CNT, 31, 31⟩
def TIME_TS_CNT_TS_OVR : Fld := ⟨Adr.TIME_TS_CNT, 30, 16⟩
def TIME_CVT_TICK_CVT_TICK (i : Nat) : Fld := ⟨Adr.TIME_CVT_TICK i, 31, 0⟩
def TIME_CVT_CYC_CVT_CYC : Fld := ⟨Adr.TIME_CVT_CYC, 12, 0⟩
def TIME_CVT_ST_FRESH : Fld := ⟨Adr.TIME_CVT_ST, 31, 31⟩
def TIME_CVT_ST_SEQ : Fld := ⟨Adr.TIME_CVT_ST, 30, 23⟩
def TIME_CVT_ST_NOMAP : Fld := ⟨Adr.TIME_CVT_ST, 3, 3⟩
def TIME_CVT_ST_OLD : Fld := ⟨Adr.TIME_CVT_ST, 2, 2⟩
def TIME_CVT_ST_RANGE : Fld := ⟨Adr.TIME_CVT_ST, 1, 1⟩
def TIME_CVT_SEC_LO_CVT_SEC_LO : Fld := ⟨Adr.TIME_CVT_SEC_LO, 31, 0⟩
def TIME_CVT_SEC_HI_CVT_SEC_HI : Fld := ⟨Adr.TIME_CVT_SEC_HI, 15, 0⟩
def TIME_CVT_NS_CVT_NS : Fld := ⟨Adr.TIME_CVT_NS, 29, 0⟩
def TIME_CVT_DATE_YEAR : Fld := ⟨Adr.TIME_CVT_DATE, 31, 16⟩
def TIME_CVT_DATE_MONTH : Fld := ⟨Adr.TIME_CVT_DATE, 15, 8⟩
def TIME_CVT_DATE_DAY : Fld := ⟨Adr.TIME_CVT_DATE, 7, 0⟩
def TIME_CVT_TIME_WDAY : Fld := ⟨Adr.TIME_CVT_TIME, 26, 24⟩
def TIME_CVT_TIME_HOUR : Fld := ⟨Adr.TIME_CVT_TIME, 23, 16⟩
def TIME_CVT_TIME_MIN : Fld := ⟨Adr.TIME_CVT_TIME, 15, 8⟩
def TIME_CVT_TIME_SEC : Fld := ⟨Adr.TIME_CVT_TIME, 7, 0⟩
def TIME_UTC_UTC_OFS : Fld := ⟨Adr.TIME_UTC, 15, 0⟩
def TIME_LEAP_OFS_LEAP_OFS : Fld := ⟨Adr.TIME_LEAP_OFS, 15, 0⟩
def TIME_LEAP_AT_LO_LEAP_AT_LO : Fld := ⟨Adr.TIME_LEAP_AT_LO, 31, 0⟩
def TIME_LEAP_AT_HI_LEAP_AT_HI : Fld := ⟨Adr.TIME_LEAP_AT_HI, 15, 0⟩
def TIME_CAL_CFG_SET : Fld := ⟨Adr.TIME_CAL_CFG, 1, 1⟩
def TIME_CAL_CFG_CAL_SRC : Fld := ⟨Adr.TIME_CAL_CFG, 0, 0⟩
def TIME_CAL_SET_DATE_YEAR : Fld := ⟨Adr.TIME_CAL_SET_DATE, 31, 16⟩
def TIME_CAL_SET_DATE_MONTH : Fld := ⟨Adr.TIME_CAL_SET_DATE, 15, 8⟩
def TIME_CAL_SET_DATE_DAY : Fld := ⟨Adr.TIME_CAL_SET_DATE, 7, 0⟩
def TIME_CAL_SET_TIME_HOUR : Fld := ⟨Adr.TIME_CAL_SET_TIME, 23, 16⟩
def TIME_CAL_SET_TIME_MIN : Fld := ⟨Adr.TIME_CAL_SET_TIME, 15, 8⟩
def TIME_CAL_SET_TIME_SEC : Fld := ⟨Adr.TIME_CAL_SET_TIME, 7, 0⟩
def TIME_CAL_DATE_YEAR : Fld := ⟨Adr.TIME_CAL_DATE, 31, 16⟩
def TIME_CAL_DATE_MONTH : Fld := ⟨Adr.TIME_CAL_DATE, 15, 8⟩
def TIME_CAL_DATE_DAY : Fld := ⟨Adr.TIME_CAL_DATE, 7, 0⟩
def TIME_CAL_TIME_WDAY : Fld := ⟨Adr.TIME_CAL_TIME, 26, 24⟩
def TIME_CAL_TIME_HOUR : Fld := ⟨Adr.TIME_CAL_TIME, 23, 16⟩
def TIME_CAL_TIME_MIN : Fld := ⟨Adr.TIME_CAL_TIME, 15, 8⟩
def TIME_CAL_TIME_SEC : Fld := ⟨Adr.TIME_CAL_TIME, 7, 0⟩

/-! Fields of HOST. -/

def HOST_PIN_PIN_ACT : Fld := ⟨Adr.HOST_PIN, 3, 0⟩
def HOST_I2CT_I2CT_ADDR : Fld := ⟨Adr.HOST_I2CT, 6, 0⟩
def HOST_ERR_HE_SAT : Fld := ⟨Adr.HOST_ERR, 31, 31⟩
def HOST_ERR_HPB_ERR : Fld := ⟨Adr.HOST_ERR, 30, 16⟩
def HOST_ERR_QB_SAT : Fld := ⟨Adr.HOST_ERR, 15, 15⟩
def HOST_ERR_QS_BADCMD : Fld := ⟨Adr.HOST_ERR, 14, 0⟩
def HOST_ERR2_QP_SAT : Fld := ⟨Adr.HOST_ERR2, 31, 31⟩
def HOST_ERR2_QS_PART : Fld := ⟨Adr.HOST_ERR2, 30, 16⟩
def HOST_ERR2_IP_SAT : Fld := ⟨Adr.HOST_ERR2, 15, 15⟩
def HOST_ERR2_I2CT_PART : Fld := ⟨Adr.HOST_ERR2, 14, 0⟩
def HOST_INT_SUM_SUM (i j : Nat) : Fld := ⟨Adr.HOST_INT_SUM i j, 31, 0⟩

/-! Fields of ID. -/

def ID_PART_PART : Fld := ⟨Adr.ID_PART, 31, 0⟩
def ID_STEP_MAJOR : Fld := ⟨Adr.ID_STEP, 7, 4⟩
def ID_STEP_MINOR : Fld := ⟨Adr.ID_STEP, 3, 0⟩
def ID_GRADE_GRADE : Fld := ⟨Adr.ID_GRADE, 0, 0⟩
def ID_SERIAL_LO_SERIAL_LO : Fld := ⟨Adr.ID_SERIAL_LO, 31, 0⟩
def ID_SERIAL_HI_SERIAL_HI : Fld := ⟨Adr.ID_SERIAL_HI, 31, 0⟩
def ID_SCRATCH_SCRATCH : Fld := ⟨Adr.ID_SCRATCH, 31, 0⟩

/-! Fields of MBOX. -/

def MBOX_STAT_MC_RDY : Fld := ⟨Adr.MBOX_STAT, 2, 2⟩
def MBOX_STAT_M2H_FULL : Fld := ⟨Adr.MBOX_STAT, 1, 1⟩
def MBOX_STAT_H2M_FULL : Fld := ⟨Adr.MBOX_STAT, 0, 0⟩
def MBOX_H2M_LEN_H2M_LEN : Fld := ⟨Adr.MBOX_H2M_LEN, 6, 0⟩
def MBOX_M2H_LEN_M2H_LEN : Fld := ⟨Adr.MBOX_M2H_LEN, 6, 0⟩
def MBOX_M2H_ACK_M2H_ACK : Fld := ⟨Adr.MBOX_M2H_ACK, 0, 0⟩
def MBOX_CNT_OV_SAT : Fld := ⟨Adr.MBOX_CNT, 31, 31⟩
def MBOX_CNT_MB_OVR : Fld := ⟨Adr.MBOX_CNT, 30, 16⟩
def MBOX_CNT_LS_SAT : Fld := ⟨Adr.MBOX_CNT, 15, 15⟩
def MBOX_CNT_MB_LOST : Fld := ⟨Adr.MBOX_CNT, 14, 0⟩
def H2M_DATA_WORD (i : Nat) : Fld := ⟨Adr.H2M_DATA i, 31, 0⟩
def M2H_DATA_WORD (i : Nat) : Fld := ⟨Adr.M2H_DATA i, 31, 0⟩

/-! Fields of PRESS. -/

def PRESS_CMD_CMD : Fld := ⟨Adr.PRESS_CMD, 2, 0⟩
def PRESS_TGT_LO_TGT_LO : Fld := ⟨Adr.PRESS_TGT_LO, 31, 0⟩
def PRESS_TGT_HI_TGT_HI : Fld := ⟨Adr.PRESS_TGT_HI, 31, 0⟩
def PRESS_CFG_MC_PRESS : Fld := ⟨Adr.PRESS_CFG, 0, 0⟩
def PRESS_STAT_CTIME : Fld := ⟨Adr.PRESS_STAT, 23, 16⟩
def PRESS_STAT_DIE_SKIP : Fld := ⟨Adr.PRESS_STAT, 13, 12⟩
def PRESS_STAT_CMD_ERR : Fld := ⟨Adr.PRESS_STAT, 11, 11⟩
def PRESS_STAT_PSTATE : Fld := ⟨Adr.PRESS_STAT, 2, 0⟩
def PRESS_RES_FRESH : Fld := ⟨Adr.PRESS_RES, 31, 31⟩
def PRESS_RES_SEQ : Fld := ⟨Adr.PRESS_RES, 30, 23⟩
def PRESS_RES_APPLIED : Fld := ⟨Adr.PRESS_RES, 22, 22⟩
def PRESS_RES_WITHDRAWN : Fld := ⟨Adr.PRESS_RES, 21, 21⟩
def PRESS_RES_VMASK : Fld := ⟨Adr.PRESS_RES, 20, 12⟩
def PRESS_RES_VERDICT : Fld := ⟨Adr.PRESS_RES, 3, 0⟩
def PRESS_FAIL_PAGE : Fld := ⟨Adr.PRESS_FAIL, 27, 16⟩
def PRESS_FAIL_OFS : Fld := ⟨Adr.PRESS_FAIL, 11, 0⟩
def PRESS_BUD_XF : Fld := ⟨Adr.PRESS_BUD, 5, 5⟩
def PRESS_BUD_BUD_ID : Fld := ⟨Adr.PRESS_BUD, 4, 0⟩
def PRESS_BUD_VAL_BUD_VAL : Fld := ⟨Adr.PRESS_BUD_VAL, 16, 0⟩
def PRESS_BUD_LIM_BUD_LIM : Fld := ⟨Adr.PRESS_BUD_LIM, 16, 0⟩
def PRESS_S_LO_S_LO : Fld := ⟨Adr.PRESS_S_LO, 31, 0⟩
def PRESS_S_HI_S_HI : Fld := ⟨Adr.PRESS_S_HI, 31, 0⟩
def PRESS_CNT_PR_SAT : Fld := ⟨Adr.PRESS_CNT, 31, 31⟩
def PRESS_CNT_PRESS_CNT : Fld := ⟨Adr.PRESS_CNT, 30, 16⟩
def PRESS_CNT_RF_SAT : Fld := ⟨Adr.PRESS_CNT, 15, 15⟩
def PRESS_CNT_REFUSE_CNT : Fld := ⟨Adr.PRESS_CNT, 14, 0⟩
def PRESS_CNT2_NK_SAT : Fld := ⟨Adr.PRESS_CNT2, 31, 31⟩
def PRESS_CNT2_NACK_CNT : Fld := ⟨Adr.PRESS_CNT2, 30, 16⟩
def PRESS_CNT2_CE_SAT : Fld := ⟨Adr.PRESS_CNT2, 15, 15⟩
def PRESS_CNT2_CMDERR_CNT : Fld := ⟨Adr.PRESS_CNT2, 14, 0⟩

/-! Fields of FLT. -/

def FLT_STAT_MC_STATE : Fld := ⟨Adr.FLT_STAT, 19, 16⟩
def FLT_STAT_VIEW_PAGES : Fld := ⟨Adr.FLT_STAT, 15, 8⟩
def FLT_STAT_DIE_HOT : Fld := ⟨Adr.FLT_STAT, 3, 3⟩
def FLT_STAT_PARTWIDE : Fld := ⟨Adr.FLT_STAT, 2, 2⟩
def FLT_STAT_SELF : Fld := ⟨Adr.FLT_STAT, 1, 1⟩
def FLT_STAT_FN : Fld := ⟨Adr.FLT_STAT, 0, 0⟩
def FLT_FN_CFG_FN_FAULTED : Fld := ⟨Adr.FLT_FN_CFG, 11, 11⟩
def FLT_FN_CFG_FN_CLASS : Fld := ⟨Adr.FLT_FN_CFG, 10, 1⟩
def FLT_FN_CFG_FN_ISO : Fld := ⟨Adr.FLT_FN_CFG, 0, 0⟩
def FLT_FN_ACK_ACK : Fld := ⟨Adr.FLT_FN_ACK, 0, 0⟩
def FLT_PEND_PEND : Fld := ⟨Adr.FLT_PEND, 10, 1⟩
def FLT_LOG_CFG_LOGQ_EN : Fld := ⟨Adr.FLT_LOG_CFG, 31, 31⟩
def FLT_LOG_CFG_LOGQ : Fld := ⟨Adr.FLT_LOG_CFG, 11, 0⟩
def FLT_LOG_STAT_UNSENT : Fld := ⟨Adr.FLT_LOG_STAT, 23, 16⟩
def FLT_LOG_STAT_VALID : Fld := ⟨Adr.FLT_LOG_STAT, 7, 7⟩
def FLT_LOG_STAT_HEAD : Fld := ⟨Adr.FLT_LOG_STAT, 6, 0⟩
def FLT_LOG_CNT_LG_SAT : Fld := ⟨Adr.FLT_LOG_CNT, 31, 31⟩
def FLT_LOG_CNT_LOG_CNT : Fld := ⟨Adr.FLT_LOG_CNT, 30, 16⟩
def FLT_LOG_CNT_LL_SAT : Fld := ⟨Adr.FLT_LOG_CNT, 15, 15⟩
def FLT_LOG_CNT_LOG_LOST : Fld := ⟨Adr.FLT_LOG_CNT, 14, 0⟩
def FLT_LOG_CLR_CLR : Fld := ⟨Adr.FLT_LOG_CLR, 0, 0⟩
def FLT_FIRST_REC (i : Nat) : Fld := ⟨Adr.FLT_FIRST i, 31, 0⟩
def FLT_LAST_REC (i : Nat) : Fld := ⟨Adr.FLT_LAST i, 31, 0⟩
def FLT_ISO_ISO (i : Nat) : Fld := ⟨Adr.FLT_ISO i, 31, 0⟩
def FLT_ISO_SET_SET (i : Nat) : Fld := ⟨Adr.FLT_ISO_SET i, 31, 0⟩
def FLT_ISO_CLR_CLR (i : Nat) : Fld := ⟨Adr.FLT_ISO_CLR i, 31, 0⟩
def FLT_ISO_CFG_RET_MAX : Fld := ⟨Adr.FLT_ISO_CFG, 7, 4⟩
def FLT_ISO_CFG_AUTO_RET : Fld := ⟨Adr.FLT_ISO_CFG, 0, 0⟩
def FLT_ISO_PROBE_WORD : Fld := ⟨Adr.FLT_ISO_PROBE, 9, 8⟩
def FLT_ISO_PROBE_BIT : Fld := ⟨Adr.FLT_ISO_PROBE, 4, 0⟩
def FLT_ISO_WHY_CODE : Fld := ⟨Adr.FLT_ISO_WHY, 31, 16⟩
def FLT_ISO_WHY_AUTO : Fld := ⟨Adr.FLT_ISO_WHY, 1, 1⟩
def FLT_ISO_WHY_HOST : Fld := ⟨Adr.FLT_ISO_WHY, 0, 0⟩
def FLT_ISO_CNT_IS_SAT : Fld := ⟨Adr.FLT_ISO_CNT, 31, 31⟩
def FLT_ISO_CNT_ISO_CNT : Fld := ⟨Adr.FLT_ISO_CNT, 30, 16⟩
def FLT_ISO_CNT_IE_SAT : Fld := ⟨Adr.FLT_ISO_CNT, 15, 15⟩
def FLT_ISO_CNT_ISO_ERR : Fld := ⟨Adr.FLT_ISO_CNT, 14, 0⟩
def FLT_DEP_SEL_SINK : Fld := ⟨Adr.FLT_DEP_SEL, 11, 0⟩
def FLT_DEP_DEP : Fld := ⟨Adr.FLT_DEP, 11, 0⟩
def FLT_LINK_A_RP_SAT (i : Nat) : Fld := ⟨Adr.FLT_LINK_A i, 31, 31⟩
def FLT_LINK_A_LINK_REPLAY (i : Nat) : Fld := ⟨Adr.FLT_LINK_A i, 30, 16⟩
def FLT_LINK_A_SB_SAT (i : Nat) : Fld := ⟨Adr.FLT_LINK_A i, 15, 15⟩
def FLT_LINK_A_LINK_SUBST (i : Nat) : Fld := ⟨Adr.FLT_LINK_A i, 14, 0⟩
def FLT_LINK_B_LT_SAT (i : Nat) : Fld := ⟨Adr.FLT_LINK_B i, 31, 31⟩
def FLT_LINK_B_LINK_LATE (i : Nat) : Fld := ⟨Adr.FLT_LINK_B i, 30, 16⟩
def FLT_LINK_B_DN_SAT (i : Nat) : Fld := ⟨Adr.FLT_LINK_B i, 15, 15⟩
def FLT_LINK_B_DOWN_CNT (i : Nat) : Fld := ⟨Adr.FLT_LINK_B i, 14, 8⟩
def FLT_LINK_B_LSTATE (i : Nat) : Fld := ⟨Adr.FLT_LINK_B i, 1, 0⟩
def FLT_MC_CTRL_WD_MAX : Fld := ⟨Adr.FLT_MC_CTRL, 11, 8⟩
def FLT_MC_CTRL_MC_RUN : Fld := ⟨Adr.FLT_MC_CTRL, 1, 1⟩
def FLT_MC_CTRL_MC_HOLD : Fld := ⟨Adr.FLT_MC_CTRL, 0, 0⟩
def FLT_MC_STAT_WD_SAT : Fld := ⟨Adr.FLT_MC_STAT, 31, 31⟩
def FLT_MC_STAT_WD_CNT : Fld := ⟨Adr.FLT_MC_STAT, 30, 16⟩
def FLT_WDOG_KICK : Fld := ⟨Adr.FLT_WDOG, 0, 0⟩
def FLT_VIEW_CFG_VIEW_EN : Fld := ⟨Adr.FLT_VIEW_CFG, 0, 0⟩
def FLT_VIEW_FIRST_PAGE : Fld := ⟨Adr.FLT_VIEW_FIRST, 11, 0⟩
def FLT_TEMP_CFG_DIE_TWARN : Fld := ⟨Adr.FLT_TEMP_CFG, 7, 0⟩
def FLT_TEMP_T_PWR : Fld := ⟨Adr.FLT_TEMP, 23, 16⟩
def FLT_TEMP_T_CONV : Fld := ⟨Adr.FLT_TEMP, 15, 8⟩
def FLT_TEMP_T_CORE : Fld := ⟨Adr.FLT_TEMP, 7, 0⟩
def FLT_LOCKALL_LOCKALL : Fld := ⟨Adr.FLT_LOCKALL, 0, 0⟩

/-! Fields of NVM. -/

def NVM_STAT_JGEOM_ERR : Fld := ⟨Adr.NVM_STAT, 7, 7⟩
def NVM_STAT_BUSY : Fld := ⟨Adr.NVM_STAT, 6, 6⟩
def NVM_STAT_PF_BLOCK : Fld := ⟨Adr.NVM_STAT, 5, 5⟩
def NVM_STAT_JNL_RDY : Fld := ⟨Adr.NVM_STAT, 4, 4⟩
def NVM_STAT_FL_PRESENT : Fld := ⟨Adr.NVM_STAT, 3, 3⟩
def NVM_STAT_OPSTEP : Fld := ⟨Adr.NVM_STAT, 2, 0⟩
def NVM_JCMD_ID : Fld := ⟨Adr.NVM_JCMD, 23, 16⟩
def NVM_JCMD_TYPE : Fld := ⟨Adr.NVM_JCMD, 15, 8⟩
def NVM_JCMD_CMD : Fld := ⟨Adr.NVM_JCMD, 2, 0⟩
def NVM_JLEN_LEN : Fld := ⟨Adr.NVM_JLEN, 23, 0⟩
def NVM_JQ_JWQ : Fld := ⟨Adr.NVM_JQ, 27, 16⟩
def NVM_JQ_JRQ : Fld := ⟨Adr.NVM_JQ, 11, 0⟩
def NVM_JRES_FRESH : Fld := ⟨Adr.NVM_JRES, 31, 31⟩
def NVM_JRES_SEQ : Fld := ⟨Adr.NVM_JRES, 30, 23⟩
def NVM_JRES_RESULT : Fld := ⟨Adr.NVM_JRES, 2, 0⟩
def NVM_JSEQ_JSEQ : Fld := ⟨Adr.NVM_JSEQ, 31, 0⟩
def NVM_JGEOM_SECTORS : Fld := ⟨Adr.NVM_JGEOM, 28, 16⟩
def NVM_JGEOM_BASE : Fld := ⟨Adr.NVM_JGEOM, 11, 0⟩
def NVM_JFREE_FREE : Fld := ⟨Adr.NVM_JFREE, 12, 0⟩
def NVM_CNT1_PF_SAT : Fld := ⟨Adr.NVM_CNT1, 31, 31⟩
def NVM_CNT1_PF_REFUSE : Fld := ⟨Adr.NVM_CNT1, 30, 16⟩
def NVM_CNT1_TN_SAT : Fld := ⟨Adr.NVM_CNT1, 15, 15⟩
def NVM_CNT1_TORN_CNT : Fld := ⟨Adr.NVM_CNT1, 14, 0⟩
def NVM_CNT2_CB_SAT : Fld := ⟨Adr.NVM_CNT2, 31, 31⟩
def NVM_CNT2_CRC_BAD : Fld := ⟨Adr.NVM_CNT2, 30, 16⟩
def NVM_CNT2_RL_SAT : Fld := ⟨Adr.NVM_CNT2, 15, 15⟩
def NVM_CNT2_RELOC_CNT : Fld := ⟨Adr.NVM_CNT2, 14, 0⟩
def NVM_OTP_SEL_ITEM : Fld := ⟨Adr.NVM_OTP_SEL, 5, 0⟩
def NVM_OTP_DATA_DATA : Fld := ⟨Adr.NVM_OTP_DATA, 31, 0⟩
def NVM_OTP_CMD_PROG : Fld := ⟨Adr.NVM_OTP_CMD, 0, 0⟩
def NVM_OTP_VAL_VAL : Fld := ⟨Adr.NVM_OTP_VAL, 31, 0⟩
def NVM_OTP_RES_FRESH : Fld := ⟨Adr.NVM_OTP_RES, 31, 31⟩
def NVM_OTP_RES_SEQ : Fld := ⟨Adr.NVM_OTP_RES, 30, 23⟩
def NVM_OTP_RES_RESULT : Fld := ⟨Adr.NVM_OTP_RES, 2, 0⟩
def NVM_OTP_ISTAT_LEFT : Fld := ⟨Adr.NVM_OTP_ISTAT, 4, 2⟩
def NVM_OTP_ISTAT_ISTATE : Fld := ⟨Adr.NVM_OTP_ISTAT, 1, 0⟩
def NVM_BOOT_STAT_RESULT : Fld := ⟨Adr.NVM_BOOT_STAT, 10, 8⟩
def NVM_BOOT_STAT_SRC : Fld := ⟨Adr.NVM_BOOT_STAT, 7, 6⟩
def NVM_BOOT_STAT_SLOT : Fld := ⟨Adr.NVM_BOOT_STAT, 5, 5⟩
def NVM_BOOT_STAT_SIGNED : Fld := ⟨Adr.NVM_BOOT_STAT, 4, 4⟩
def NVM_BOOT_STAT_KEY : Fld := ⟨Adr.NVM_BOOT_STAT, 3, 2⟩
def NVM_BOOT_STAT_WAIT_HOST : Fld := ⟨Adr.NVM_BOOT_STAT, 1, 1⟩
def NVM_BOOT_VER_VERSION : Fld := ⟨Adr.NVM_BOOT_VER, 31, 0⟩
def NVM_HLOAD_CTRL_GO : Fld := ⟨Adr.NVM_HLOAD_CTRL, 1, 1⟩
def NVM_HLOAD_CTRL_START : Fld := ⟨Adr.NVM_HLOAD_CTRL, 0, 0⟩
def NVM_HLOAD_DATA_HDATA : Fld := ⟨Adr.NVM_HLOAD_DATA, 31, 0⟩
def NVM_HLOAD_CNT_HLOAD_CNT : Fld := ⟨Adr.NVM_HLOAD_CNT, 17, 0⟩
def NVM_FL_CFG_HOST_BOOT : Fld := ⟨Adr.NVM_FL_CFG, 8, 8⟩
def NVM_FL_CFG_FL_DIV : Fld := ⟨Adr.NVM_FL_CFG, 7, 0⟩

/-! Fields of PERI. -/

def GPIO_IN_IN : Fld := ⟨Adr.GPIO_IN, 31, 0⟩
def GPIO_OUT_OUT : Fld := ⟨Adr.GPIO_OUT, 31, 0⟩
def GPIO_SET_SET : Fld := ⟨Adr.GPIO_SET, 31, 0⟩
def GPIO_CLR_CLR : Fld := ⟨Adr.GPIO_CLR, 31, 0⟩
def GPIO_DIR_DIR : Fld := ⟨Adr.GPIO_DIR, 31, 0⟩
def GPIO_PU_PU : Fld := ⟨Adr.GPIO_PU, 31, 0⟩
def GPIO_PD_PD : Fld := ⟨Adr.GPIO_PD, 31, 0⟩
def GPIO_RISE_RISE : Fld := ⟨Adr.GPIO_RISE, 31, 0⟩
def GPIO_FALL_FALL : Fld := ⟨Adr.GPIO_FALL, 31, 0⟩
def GPIO_EVT_EVT : Fld := ⟨Adr.GPIO_EVT, 31, 0⟩
def FC_SEL_HOSTGO (i : Nat) : Fld := ⟨Adr.FC_SEL i, 31, 31⟩
def FC_SEL_SRC (i : Nat) : Fld := ⟨Adr.FC_SEL i, 17, 16⟩
def FC_SEL_QID (i : Nat) : Fld := ⟨Adr.FC_SEL i, 11, 0⟩
def FC_STAT_GO : Fld := ⟨Adr.FC_STAT, 7, 0⟩
def I2C_CFG_TOUT (i : Nat) : Fld := ⟨Adr.I2C_CFG i, 31, 24⟩
def I2C_CFG_SPEED (i : Nat) : Fld := ⟨Adr.I2C_CFG i, 9, 8⟩
def I2C_CFG_EN (i : Nat) : Fld := ⟨Adr.I2C_CFG i, 0, 0⟩
def I2C_XFER_GO (i : Nat) : Fld := ⟨Adr.I2C_XFER i, 31, 31⟩
def I2C_XFER_BUS_CLEAR (i : Nat) : Fld := ⟨Adr.I2C_XFER i, 30, 30⟩
def I2C_XFER_ADDR (i : Nat) : Fld := ⟨Adr.I2C_XFER i, 22, 16⟩
def I2C_XFER_RLEN (i : Nat) : Fld := ⟨Adr.I2C_XFER i, 13, 8⟩
def I2C_XFER_WLEN (i : Nat) : Fld := ⟨Adr.I2C_XFER i, 5, 0⟩
def I2C_TX_TX (i j : Nat) : Fld := ⟨Adr.I2C_TX i j, 31, 0⟩
def I2C_RX_RX (i j : Nat) : Fld := ⟨Adr.I2C_RX i j, 31, 0⟩
def I2C_RES_FRESH (i : Nat) : Fld := ⟨Adr.I2C_RES i, 31, 31⟩
def I2C_RES_SEQ (i : Nat) : Fld := ⟨Adr.I2C_RES i, 30, 23⟩
def I2C_RES_NBYTE (i : Nat) : Fld := ⟨Adr.I2C_RES i, 13, 8⟩
def I2C_RES_RESULT (i : Nat) : Fld := ⟨Adr.I2C_RES i, 2, 0⟩
def I2C_STAT_STATE (i : Nat) : Fld := ⟨Adr.I2C_STAT i, 1, 0⟩
def I2C_CNT_ER_SAT (i : Nat) : Fld := ⟨Adr.I2C_CNT i, 31, 31⟩
def I2C_CNT_ERR_CNT (i : Nat) : Fld := ⟨Adr.I2C_CNT i, 30, 16⟩
def I2C_CNT_CL_SAT (i : Nat) : Fld := ⟨Adr.I2C_CNT i, 15, 15⟩
def I2C_CNT_CLR_CNT (i : Nat) : Fld := ⟨Adr.I2C_CNT i, 14, 0⟩

/-! Fields of SVC. -/

def SVC_CHECK_RES_FRESH (i : Nat) : Fld := ⟨Adr.SVC_CHECK_RES i, 31, 31⟩
def SVC_CHECK_RES_SEQ (i : Nat) : Fld := ⟨Adr.SVC_CHECK_RES i, 30, 23⟩
def SVC_CHECK_RES_SUB (i : Nat) : Fld := ⟨Adr.SVC_CHECK_RES i, 22, 22⟩
def SVC_CHECK_RES_UNS (i : Nat) : Fld := ⟨Adr.SVC_CHECK_RES i, 21, 21⟩
def SVC_CHECK_RES_CLP (i : Nat) : Fld := ⟨Adr.SVC_CHECK_RES i, 20, 20⟩
def SVC_CHECK_RES_VALUE (i : Nat) : Fld := ⟨Adr.SVC_CHECK_RES i, 19, 0⟩
def SVC_URG_RES_FRESH : Fld := ⟨Adr.SVC_URG_RES, 31, 31⟩
def SVC_URG_RES_SEQ : Fld := ⟨Adr.SVC_URG_RES, 30, 23⟩
def SVC_URG_RES_SUB : Fld := ⟨Adr.SVC_URG_RES, 22, 22⟩
def SVC_URG_RES_UNS : Fld := ⟨Adr.SVC_URG_RES, 21, 21⟩
def SVC_URG_RES_CLP : Fld := ⟨Adr.SVC_URG_RES, 20, 20⟩
def SVC_URG_RES_VALUE : Fld := ⟨Adr.SVC_URG_RES, 19, 0⟩
def SV_RES_FRESH (i j : Nat) : Fld := ⟨Adr.SV_RES i j, 31, 31⟩
def SV_RES_SEQ (i j : Nat) : Fld := ⟨Adr.SV_RES i j, 30, 23⟩
def SV_RES_SUB (i j : Nat) : Fld := ⟨Adr.SV_RES i j, 22, 22⟩
def SV_RES_UNS (i j : Nat) : Fld := ⟨Adr.SV_RES i j, 21, 21⟩
def SV_RES_CLP (i j : Nat) : Fld := ⟨Adr.SV_RES i j, 20, 20⟩
def SV_RES_VALUE (i j : Nat) : Fld := ⟨Adr.SV_RES i j, 19, 0⟩
def ROT_RES_FRESH (i : Nat) : Fld := ⟨Adr.ROT_RES i, 31, 31⟩
def ROT_RES_SEQ (i : Nat) : Fld := ⟨Adr.ROT_RES i, 30, 23⟩
def ROT_RES_SUB (i : Nat) : Fld := ⟨Adr.ROT_RES i, 22, 22⟩
def ROT_RES_UNS (i : Nat) : Fld := ⟨Adr.ROT_RES i, 21, 21⟩
def ROT_RES_CLP (i : Nat) : Fld := ⟨Adr.ROT_RES i, 20, 20⟩
def ROT_RES_VALUE (i : Nat) : Fld := ⟨Adr.ROT_RES i, 19, 0⟩

/-! Fields of NET. -/

def NET_HASH_WORD (i j : Nat) : Fld := ⟨Adr.NET_HASH i j, 31, 0⟩

end F

end Sys2Proof.Machine
end

