-- ==== Sys2Proof/Machine/Flags.lean ====
section
/-!
DEFINITION. Samples and their tag bits (R29-R32): the flags the spec gives every value on the spine.
-/

namespace Sys2Proof.Machine

/-- A quotient rounded to the nearest integer, ties to even (R30); `d` > 0. -/
def roundRat (n d : Int) : Int :=
  let q := n.fdiv d
  let r := n.fmod d
  if 2 * r < d then q else if d < 2 * r then q + 1 else if q % 2 = 0 then q else q + 1

/-- The two's-complement value of a sample, in units of 2^-27 (R29). -/
def sval (w : Word) : Int := signed 28 (w.bits 31 4)

/-- The tag of a sample (R29). -/
def stag (w : Word) : Nat := w.bits 3 0

/-- Tag bits (R32). -/
def tUNS : Nat := 8
def tSUB : Nat := 4
def tCLP : Nat := 2
def tFAD : Nat := 1

/-- A sample from a value in units of 2^-27 and a tag: saturation sets T_CLP (R30). -/
def sample (v : Int) (tag : Nat) : Word :=
  let c := clampInt (-(2 ^ 27)) (2 ^ 27 - 1) v
  let t := if c = v then tag else tag ||| tCLP
  BitVec.ofNat 32 (unsigned 28 c * 16 + t % 16)

/-- A sample with tag bits added. -/
def addTag (w : Word) (t : Nat) : Word := w ||| BitVec.ofNat 32 (t % 16)

/-- A sample of value 0 with a tag. -/
def zeroTag (t : Nat) : Word := BitVec.ofNat 32 (t % 16)

/-- A sample weighted by a weight in units of 2^-27, rounded under R30; the tag stays. -/
def weigh (wt : Nat) (w : Word) : Word := sample (roundEven (sval w * wt) 27) (stag w)

end Sys2Proof.Machine
end

