-- ==== Sys2Proof/Config.lean ====
section
/-!
DEFINITION. The values the spec leaves open, as constants with no body: nothing in Lean can evaluate them or prove a
value of them, so a claim about them holds whatever they are (log entries 1 to 3).
-/

namespace Sys2Proof.Config

/-- A free word, selected by the counter `State.free`: the result of a computation whose coefficients or rounding the
spec does not state (log entry 1). DESIGN CHOICE -/
opaque freeWord : Nat → Word

/-- Interior weight of a raised cosine, position `p` of `n`, in units of 2^-27; only used for `0 < p < n` (the spec gives
the shape, not the rounding of its weights; log entry 2). DESIGN CHOICE -/
opaque rcos : Nat → Nat → Nat

/-- The result, in units of 2^-27, of an operation on real numbers that the spec names without stating its precision:
the first argument names the operation, the list holds its operands (log entry 3). DESIGN CHOICE -/
opaque real : String → List Int → Int

/-- Whether an Ed25519 signature verifies (RFC 8032, which the spec cites and does not restate): public key, signed bytes,
signature (log entry 5). DESIGN CHOICE -/
opaque ed25519 : List Byte → List Byte → List Byte → Bool

end Sys2Proof.Config
end

