-- ==== Sys2Proof/Machine/RegTable.lean ====
section
/-!
DEFINITION. The register table, row by row from the register tables of the spec: name, address of the first instance, spacing and count of the instances, and each field with its bits, its access type (R488) and its reset value. Reserved bits are not listed: they read 0 and ignore writes (R489). Fields whose reset value the spec gives as OTP are computed at the read and list 0 here.
-/

namespace Sys2Proof.Machine

/-- Registers of ID. -/
def rowsID : List RegRow :=
  [⟨"ID_PART", 0x000040, [], [⟨31, 0, .ro, 0x9632⟩]⟩,
   ⟨"ID_STEP", 0x000044, [], [⟨7, 4, .ro, 1⟩, ⟨3, 0, .ro, 0⟩]⟩,
   ⟨"ID_GRADE", 0x000048, [], [⟨0, 0, .ro, 0⟩]⟩,
   ⟨"ID_SERIAL_LO", 0x00004C, [], [⟨31, 0, .ro, 0⟩]⟩,
   ⟨"ID_SERIAL_HI", 0x000050, [], [⟨31, 0, .ro, 0⟩]⟩,
   ⟨"ID_SCRATCH", 0x000054, [], [⟨31, 0, .rw, 0⟩]⟩]

/-- Registers of PRESS. -/
def rowsPRESS : List RegRow :=
  [⟨"PRESS_CMD", 0x001040, [], [⟨2, 0, .wo, 0⟩]⟩,
   ⟨"PRESS_TGT_LO", 0x001044, [], [⟨31, 0, .rw, 0⟩]⟩,
   ⟨"PRESS_TGT_HI", 0x001048, [], [⟨31, 0, .rw, 0⟩]⟩,
   ⟨"PRESS_CFG", 0x00104C, [], [⟨0, 0, .lk, 1⟩]⟩,
   ⟨"PRESS_STAT", 0x001050, [], [⟨23, 16, .ro, 0⟩, ⟨13, 12, .ro, 0⟩, ⟨11, 11, .ro, 0⟩, ⟨2, 0, .ro, 0⟩]⟩,
   ⟨"PRESS_RES", 0x001054, [], [⟨31, 31, .ro, 0⟩, ⟨30, 23, .ro, 0⟩, ⟨22, 22, .ro, 0⟩, ⟨21, 21, .ro, 0⟩, ⟨20, 12, .ro, 0⟩, ⟨3, 0, .ro, 0⟩]⟩,
   ⟨"PRESS_FAIL", 0x001058, [], [⟨27, 16, .ro, 0⟩, ⟨11, 0, .ro, 0⟩]⟩,
   ⟨"PRESS_BUD", 0x00105C, [], [⟨5, 5, .ro, 0⟩, ⟨4, 0, .ro, 0⟩]⟩,
   ⟨"PRESS_BUD_VAL", 0x001060, [], [⟨16, 0, .ro, 0⟩]⟩,
   ⟨"PRESS_BUD_LIM", 0x001064, [], [⟨16, 0, .ro, 0⟩]⟩,
   ⟨"PRESS_S_LO", 0x001068, [], [⟨31, 0, .ro, 0⟩]⟩,
   ⟨"PRESS_S_HI", 0x00106C, [], [⟨31, 0, .ro, 0⟩]⟩,
   ⟨"PRESS_CNT", 0x001070, [], [⟨31, 31, .ro, 0⟩, ⟨30, 16, .ro, 0⟩, ⟨15, 15, .ro, 0⟩, ⟨14, 0, .ro, 0⟩]⟩,
   ⟨"PRESS_CNT2", 0x001074, [], [⟨31, 31, .ro, 0⟩, ⟨30, 16, .ro, 0⟩, ⟨15, 15, .ro, 0⟩, ⟨14, 0, .ro, 0⟩]⟩]

/-- Registers of FLT. -/
def rowsFLT : List RegRow :=
  [⟨"FLT_STAT", 0x002040, [], [⟨19, 16, .ro, 0⟩, ⟨15, 8, .ro, 0⟩, ⟨3, 3, .ro, 0⟩, ⟨2, 2, .ro, 0⟩, ⟨1, 1, .ro, 0⟩, ⟨0, 0, .ro, 0⟩]⟩,
   ⟨"FLT_FN_CFG", 0x002044, [], [⟨11, 11, .rw, 1⟩, ⟨10, 1, .rw, 0⟩, ⟨0, 0, .rw, 1⟩]⟩,
   ⟨"FLT_FN_ACK", 0x002048, [], [⟨0, 0, .wo, 0⟩]⟩,
   ⟨"FLT_PEND", 0x00204C, [], [⟨10, 1, .ro, 0⟩]⟩,
   ⟨"FLT_LOG_CFG", 0x002050, [], [⟨31, 31, .rw, 0⟩, ⟨11, 0, .rw, 0⟩]⟩,
   ⟨"FLT_LOG_STAT", 0x002054, [], [⟨23, 16, .ro, 0⟩, ⟨7, 7, .ro, 0⟩, ⟨6, 0, .ro, 0⟩]⟩,
   ⟨"FLT_LOG_CNT", 0x002058, [], [⟨31, 31, .ro, 0⟩, ⟨30, 16, .ro, 0⟩, ⟨15, 15, .ro, 0⟩, ⟨14, 0, .ro, 0⟩]⟩,
   ⟨"FLT_LOG_CLR", 0x00205C, [], [⟨0, 0, .wo, 0⟩]⟩,
   ⟨"FLT_FIRST", 0x002060, [(0x4, 4)], [⟨31, 0, .ro, 0⟩]⟩,
   ⟨"FLT_LAST", 0x002070, [(0x4, 4)], [⟨31, 0, .ro, 0⟩]⟩,
   ⟨"FLT_ISO", 0x002080, [(0x4, 3)], [⟨31, 0, .ro, 0⟩]⟩,
   ⟨"FLT_ISO_SET", 0x002090, [(0x4, 3)], [⟨31, 0, .wo, 0⟩]⟩,
   ⟨"FLT_ISO_CLR", 0x0020A0, [(0x4, 3)], [⟨31, 0, .wo, 0⟩]⟩,
   ⟨"FLT_ISO_CFG", 0x0020AC, [], [⟨7, 4, .lk, 3⟩, ⟨0, 0, .lk, 1⟩]⟩,
   ⟨"FLT_ISO_PROBE", 0x0020B0, [], [⟨9, 8, .rw, 0⟩, ⟨4, 0, .rw, 0⟩]⟩,
   ⟨"FLT_ISO_WHY", 0x0020B4, [], [⟨31, 16, .ro, 0⟩, ⟨1, 1, .ro, 0⟩, ⟨0, 0, .ro, 0⟩]⟩,
   ⟨"FLT_ISO_CNT", 0x0020B8, [], [⟨31, 31, .ro, 0⟩, ⟨30, 16, .ro, 0⟩, ⟨15, 15, .ro, 0⟩, ⟨14, 0, .ro, 0⟩]⟩,
   ⟨"FLT_DEP_SEL", 0x0020C0, [], [⟨11, 0, .rw, 0⟩]⟩,
   ⟨"FLT_DEP", 0x0020C4, [], [⟨11, 0, .ro, 0⟩]⟩,
   ⟨"FLT_LINK_A", 0x002100, [(0x8, 4)], [⟨31, 31, .ro, 0⟩, ⟨30, 16, .ro, 0⟩, ⟨15, 15, .ro, 0⟩, ⟨14, 0, .ro, 0⟩]⟩,
   ⟨"FLT_LINK_B", 0x002104, [(0x8, 4)], [⟨31, 31, .ro, 0⟩, ⟨30, 16, .ro, 0⟩, ⟨15, 15, .ro, 0⟩, ⟨14, 8, .ro, 0⟩, ⟨1, 0, .ro, 0⟩]⟩,
   ⟨"FLT_MC_CTRL", 0x002140, [], [⟨11, 8, .lk, 4⟩, ⟨1, 1, .wo, 0⟩, ⟨0, 0, .rw, 0⟩]⟩,
   ⟨"FLT_MC_STAT", 0x002144, [], [⟨31, 31, .ro, 0⟩, ⟨30, 16, .ro, 0⟩]⟩,
   ⟨"FLT_WDOG", 0x002148, [], [⟨0, 0, .wo, 0⟩]⟩,
   ⟨"FLT_VIEW_CFG", 0x002150, [], [⟨0, 0, .rw, 0⟩]⟩,
   ⟨"FLT_VIEW_FIRST", 0x002154, [], [⟨11, 0, .ro, 0⟩]⟩,
   ⟨"FLT_TEMP_CFG", 0x002160, [], [⟨7, 0, .lk, 0x73⟩]⟩,
   ⟨"FLT_TEMP", 0x002164, [], [⟨23, 16, .ro, 0⟩, ⟨15, 8, .ro, 0⟩, ⟨7, 0, .ro, 0⟩]⟩,
   ⟨"FLT_LOCKALL", 0x002170, [], [⟨0, 0, .otw, 0⟩]⟩]

/-- Registers of PWR. -/
def rowsPWR : List RegRow :=
  [⟨"PWR_STATUS", 0x003040, [], [⟨13, 12, .ro, 2⟩, ⟨11, 11, .ro, 0⟩, ⟨10, 10, .ro, 0⟩, ⟨9, 9, .ro, 0⟩, ⟨8, 8, .ro, 0⟩, ⟨5, 5, .ro, 0⟩, ⟨4, 4, .ro, 0⟩, ⟨3, 3, .ro, 1⟩, ⟨2, 2, .ro, 1⟩, ⟨1, 1, .ro, 1⟩, ⟨0, 0, .ro, 1⟩]⟩,
   ⟨"PWR_STATE_REQ", 0x003044, [], [⟨1, 0, .rw, 2⟩]⟩,
   ⟨"PWR_RST_CAUSE", 0x003048, [], [⟨5, 5, .w1c, 0⟩, ⟨4, 4, .w1c, 0⟩, ⟨3, 3, .w1c, 0⟩, ⟨2, 2, .w1c, 0⟩, ⟨1, 1, .w1c, 0⟩, ⟨0, 0, .w1c, 1⟩]⟩,
   ⟨"PWR_EVT_CNT", 0x00304C, [], [⟨31, 31, .ro, 0⟩, ⟨30, 24, .ro, 0⟩, ⟨23, 23, .ro, 0⟩, ⟨22, 16, .ro, 0⟩, ⟨15, 15, .ro, 0⟩, ⟨14, 8, .ro, 0⟩, ⟨7, 7, .ro, 0⟩, ⟨6, 0, .ro, 0⟩]⟩,
   ⟨"PWR_HB_VMIN", 0x003060, [], [⟨11, 0, .lk, 0x2BC⟩]⟩,
   ⟨"PWR_HB_VMAX", 0x003064, [], [⟨11, 0, .lk, 0x384⟩]⟩,
   ⟨"PWR_VCORE_FLOOR", 0x003068, [], [⟨11, 0, .rw, 0x2BC⟩]⟩,
   ⟨"PWR_VCORE_CEIL", 0x00306C, [], [⟨11, 0, .rw, 0x384⟩]⟩,
   ⟨"PWR_VLOOP_CFG", 0x003070, [], [⟨31, 24, .rw, 0x30⟩, ⟨23, 16, .rw, 0x10⟩, ⟨15, 11, .rw, 0x10⟩, ⟨10, 8, .rw, 1⟩, ⟨7, 4, .rw, 0⟩, ⟨0, 0, .rw, 0⟩]⟩,
   ⟨"PWR_MARGIN_CFG", 0x003074, [], [⟨15, 8, .rw, 3⟩, ⟨7, 0, .rw, 8⟩]⟩,
   ⟨"PWR_VLOOP_STAT", 0x003078, [], [⟨31, 31, .ro, 0⟩, ⟨30, 24, .ro, 0⟩, ⟨19, 19, .ro, 0⟩, ⟨18, 18, .ro, 0⟩, ⟨17, 17, .ro, 0⟩, ⟨16, 16, .ro, 0⟩, ⟨15, 15, .ro, 0⟩, ⟨11, 0, .ro, 0⟩]⟩,
   ⟨"PWR_MARGIN", 0x00307C, [], [⟨31, 31, .ro, 0⟩, ⟨30, 23, .ro, 0⟩, ⟨22, 0, .ro, 0⟩]⟩,
   ⟨"PWR_VCORE_MEAS", 0x003080, [], [⟨31, 31, .ro, 0⟩, ⟨30, 23, .ro, 0⟩, ⟨22, 0, .ro, 0⟩]⟩,
   ⟨"PWR_ICORE_MEAS", 0x003084, [], [⟨31, 31, .ro, 0⟩, ⟨30, 23, .ro, 0⟩, ⟨22, 0, .ro, 0⟩]⟩]

/-- Registers of CLK. -/
def rowsCLK : List RegRow :=
  [⟨"CLK_STATUS", 0x004040, [], [⟨11, 11, .ro, 0⟩, ⟨10, 10, .ro, 0⟩, ⟨9, 9, .ro, 0⟩, ⟨8, 8, .ro, 0⟩, ⟨7, 7, .ro, 0⟩, ⟨6, 6, .ro, 0⟩, ⟨5, 5, .ro, 0⟩, ⟨4, 4, .ro, 1⟩, ⟨3, 3, .ro, 0⟩, ⟨2, 2, .ro, 0⟩, ⟨1, 0, .ro, 2⟩]⟩,
   ⟨"CLK_REF_CFG", 0x004044, [], [⟨19, 8, .rw, 0x3E8⟩, ⟨5, 4, .rw, 1⟩, ⟨0, 0, .rw, 0⟩]⟩,
   ⟨"CLK_TICK_LO", 0x004048, [], [⟨31, 0, .ro, 0⟩]⟩,
   ⟨"CLK_TICK_HI", 0x00404C, [], [⟨31, 0, .ro, 0⟩]⟩,
   ⟨"CLK_CYC", 0x004050, [], [⟨12, 0, .ro, 0⟩]⟩,
   ⟨"CLK_PLL_CFG", 0x004060, [(0x4, 4)], [⟨13, 8, .rw, 0x3F⟩, ⟨7, 2, .rw, 0⟩, ⟨1, 0, .st, 0⟩]⟩,
   ⟨"CLK_PLL_STAT", 0x004070, [(0x4, 4)], [⟨31, 31, .ro, 0⟩, ⟨30, 16, .ro, 0⟩, ⟨12, 12, .ro, 0⟩, ⟨11, 11, .ro, 0⟩, ⟨10, 10, .ro, 0⟩, ⟨9, 9, .ro, 0⟩, ⟨8, 8, .ro, 0⟩, ⟨5, 0, .ro, 0⟩]⟩,
   ⟨"CLK_RELOCK", 0x004080, [], [⟨2, 2, .wo, 0⟩, ⟨1, 1, .wo, 0⟩, ⟨0, 0, .wo, 0⟩]⟩,
   ⟨"CLK_SERVO_CFG", 0x004090, [], [⟨31, 16, .st, 0x100⟩, ⟨11, 8, .st, 0⟩, ⟨5, 4, .st, 1⟩, ⟨3, 1, .st, 0⟩, ⟨0, 0, .st, 0⟩]⟩,
   ⟨"CLK_STEER_FLOOR", 0x004094, [], [⟨23, 0, .rw, 0⟩]⟩,
   ⟨"CLK_STEER_CEIL", 0x004098, [], [⟨23, 0, .rw, 0xFFFFFF⟩]⟩,
   ⟨"CLK_STEER", 0x00409C, [], [⟨23, 0, .ro, 0x800000⟩]⟩,
   ⟨"CLK_SERVO_ERR", 0x0040A0, [], [⟨31, 31, .ro, 0⟩, ⟨30, 23, .ro, 0⟩, ⟨22, 0, .ro, 0⟩]⟩,
   ⟨"CLK_SERVO_STAT", 0x0040A4, [], [⟨4, 4, .ro, 0⟩, ⟨3, 3, .ro, 0⟩, ⟨2, 2, .ro, 0⟩, ⟨1, 1, .ro, 0⟩, ⟨0, 0, .ro, 0⟩]⟩,
   ⟨"CLK_FDIV", 0x0040C0, [(0x4, 19)], [⟨31, 16, .st, 0⟩, ⟨15, 0, .st, 0⟩]⟩]

/-- Registers of TIME. -/
def rowsTIME : List RegRow :=
  [⟨"TIME_STAT", 0x005040, [], [⟨6, 6, .ro, 0⟩, ⟨5, 5, .ro, 0⟩, ⟨4, 4, .ro, 0⟩, ⟨3, 3, .ro, 0⟩, ⟨2, 2, .ro, 0⟩, ⟨1, 1, .ro, 0⟩, ⟨0, 0, .ro, 0⟩]⟩,
   ⟨"TIME_MAP_TICK", 0x005044, [(0x4, 2)], [⟨31, 0, .rw, 0⟩]⟩,
   ⟨"TIME_MAP_SEC_LO", 0x00504C, [], [⟨31, 0, .rw, 0⟩]⟩,
   ⟨"TIME_MAP_SEC_HI", 0x005050, [], [⟨15, 0, .rw, 0⟩]⟩,
   ⟨"TIME_MAP_NS", 0x005054, [], [⟨29, 0, .rw, 0⟩]⟩,
   ⟨"TIME_MAP_RATE", 0x005058, [], [⟨31, 0, .rw, 0⟩]⟩,
   ⟨"TIME_MAP_CTRL", 0x00505C, [], [⟨0, 0, .wo, 0⟩]⟩,
   ⟨"TIME_NOW_SEC_LO", 0x005060, [], [⟨31, 0, .ro, 0⟩]⟩,
   ⟨"TIME_NOW_SEC_HI", 0x005064, [], [⟨15, 0, .ro, 0⟩]⟩,
   ⟨"TIME_NOW_NS", 0x005068, [], [⟨29, 0, .ro, 0⟩]⟩,
   ⟨"TIME_DOFS", 0x00506C, [(0x4, 2)], [⟨31, 0, .ro, 0⟩]⟩,
   ⟨"TIME_PHASE", 0x005074, [], [⟨31, 31, .ro, 0⟩, ⟨30, 23, .ro, 0⟩, ⟨22, 0, .ro, 0⟩]⟩,
   ⟨"TIME_TS_CFG", 0x005078, [], [⟨11, 0, .rw, 0⟩]⟩,
   ⟨"TIME_TS_CNT", 0x00507C, [], [⟨31, 31, .ro, 0⟩, ⟨30, 16, .ro, 0⟩]⟩,
   ⟨"TIME_CVT_TICK", 0x005080, [(0x4, 2)], [⟨31, 0, .rw, 0⟩]⟩,
   ⟨"TIME_CVT_CYC", 0x005088, [], [⟨12, 0, .wo, 0⟩]⟩,
   ⟨"TIME_CVT_ST", 0x00508C, [], [⟨31, 31, .ro, 0⟩, ⟨30, 23, .ro, 0⟩, ⟨3, 3, .ro, 0⟩, ⟨2, 2, .ro, 0⟩, ⟨1, 1, .ro, 0⟩]⟩,
   ⟨"TIME_CVT_SEC_LO", 0x005090, [], [⟨31, 0, .ro, 0⟩]⟩,
   ⟨"TIME_CVT_SEC_HI", 0x005094, [], [⟨15, 0, .ro, 0⟩]⟩,
   ⟨"TIME_CVT_NS", 0x005098, [], [⟨29, 0, .ro, 0⟩]⟩,
   ⟨"TIME_CVT_DATE", 0x00509C, [], [⟨31, 16, .ro, 0⟩, ⟨15, 8, .ro, 0⟩, ⟨7, 0, .ro, 0⟩]⟩,
   ⟨"TIME_CVT_TIME", 0x0050A0, [], [⟨26, 24, .ro, 0⟩, ⟨23, 16, .ro, 0⟩, ⟨15, 8, .ro, 0⟩, ⟨7, 0, .ro, 0⟩]⟩,
   ⟨"TIME_UTC", 0x0050B0, [], [⟨15, 0, .ro, 0x25⟩]⟩,
   ⟨"TIME_LEAP_OFS", 0x0050B4, [], [⟨15, 0, .st, 0x25⟩]⟩,
   ⟨"TIME_LEAP_AT_LO", 0x0050B8, [], [⟨31, 0, .st, 0⟩]⟩,
   ⟨"TIME_LEAP_AT_HI", 0x0050BC, [], [⟨15, 0, .st, 0⟩]⟩,
   ⟨"TIME_CAL_CFG", 0x0050C0, [], [⟨1, 1, .st, 0⟩, ⟨0, 0, .st, 0⟩]⟩,
   ⟨"TIME_CAL_SET_DATE", 0x0050C4, [], [⟨31, 16, .st, 0x7D0⟩, ⟨15, 8, .st, 1⟩, ⟨7, 0, .st, 1⟩]⟩,
   ⟨"TIME_CAL_SET_TIME", 0x0050C8, [], [⟨23, 16, .st, 0⟩, ⟨15, 8, .st, 0⟩, ⟨7, 0, .st, 0⟩]⟩,
   ⟨"TIME_CAL_DATE", 0x0050D0, [], [⟨31, 16, .ro, 0x7D0⟩, ⟨15, 8, .ro, 1⟩, ⟨7, 0, .ro, 1⟩]⟩,
   ⟨"TIME_CAL_TIME", 0x0050D4, [], [⟨26, 24, .ro, 6⟩, ⟨23, 16, .ro, 0⟩, ⟨15, 8, .ro, 0⟩, ⟨7, 0, .ro, 0⟩]⟩]

/-- Registers of HOST. -/
def rowsHOST : List RegRow :=
  [⟨"HOST_PIN", 0x006040, [], [⟨3, 0, .ro, 0⟩]⟩,
   ⟨"HOST_I2CT", 0x006044, [], [⟨6, 0, .rw, 0x4C⟩]⟩,
   ⟨"HOST_ERR", 0x006048, [], [⟨31, 31, .ro, 0⟩, ⟨30, 16, .ro, 0⟩, ⟨15, 15, .ro, 0⟩, ⟨14, 0, .ro, 0⟩]⟩,
   ⟨"HOST_ERR2", 0x00604C, [], [⟨31, 31, .ro, 0⟩, ⟨30, 16, .ro, 0⟩, ⟨15, 15, .ro, 0⟩, ⟨14, 0, .ro, 0⟩]⟩,
   ⟨"HOST_INT_SUM", 0x006100, [(0x40, 4), (0x4, 10)], [⟨31, 0, .ro, 0⟩]⟩]

/-- Registers of PERI. -/
def rowsPERI : List RegRow :=
  [⟨"GPIO_IN", 0x007040, [], [⟨31, 0, .ro, 0⟩]⟩,
   ⟨"GPIO_OUT", 0x007044, [], [⟨31, 0, .rw, 0⟩]⟩,
   ⟨"GPIO_SET", 0x007048, [], [⟨31, 0, .wo, 0⟩]⟩,
   ⟨"GPIO_CLR", 0x00704C, [], [⟨31, 0, .wo, 0⟩]⟩,
   ⟨"GPIO_DIR", 0x007050, [], [⟨31, 0, .rw, 0⟩]⟩,
   ⟨"GPIO_PU", 0x007054, [], [⟨31, 0, .rw, 0⟩]⟩,
   ⟨"GPIO_PD", 0x007058, [], [⟨31, 0, .rw, 0⟩]⟩,
   ⟨"GPIO_RISE", 0x00705C, [], [⟨31, 0, .rw, 0⟩]⟩,
   ⟨"GPIO_FALL", 0x007060, [], [⟨31, 0, .rw, 0⟩]⟩,
   ⟨"GPIO_EVT", 0x007064, [], [⟨31, 0, .w1c, 0⟩]⟩,
   ⟨"FC_SEL", 0x007080, [(0x4, 8)], [⟨31, 31, .rw, 0⟩, ⟨17, 16, .rw, 0⟩, ⟨11, 0, .rw, 0⟩]⟩,
   ⟨"FC_STAT", 0x0070A0, [], [⟨7, 0, .ro, 0⟩]⟩,
   ⟨"I2C_CFG", 0x007100, [(0x80, 4)], [⟨31, 24, .rw, 0x19⟩, ⟨9, 8, .rw, 0⟩, ⟨0, 0, .rw, 0⟩]⟩,
   ⟨"I2C_XFER", 0x007104, [(0x80, 4)], [⟨31, 31, .wo, 0⟩, ⟨30, 30, .wo, 0⟩, ⟨22, 16, .wo, 0⟩, ⟨13, 8, .wo, 0⟩, ⟨5, 0, .wo, 0⟩]⟩,
   ⟨"I2C_TX", 0x007108, [(0x80, 4), (0x4, 8)], [⟨31, 0, .rw, 0⟩]⟩,
   ⟨"I2C_RX", 0x007128, [(0x80, 4), (0x4, 8)], [⟨31, 0, .ro, 0⟩]⟩,
   ⟨"I2C_RES", 0x007148, [(0x80, 4)], [⟨31, 31, .ro, 0⟩, ⟨30, 23, .ro, 0⟩, ⟨13, 8, .ro, 0⟩, ⟨2, 0, .ro, 0⟩]⟩,
   ⟨"I2C_STAT", 0x00714C, [(0x80, 4)], [⟨1, 0, .ro, 0⟩]⟩,
   ⟨"I2C_CNT", 0x007150, [(0x80, 4)], [⟨31, 31, .ro, 0⟩, ⟨30, 16, .ro, 0⟩, ⟨15, 15, .ro, 0⟩, ⟨14, 0, .ro, 0⟩]⟩]

/-- Registers of NVM. -/
def rowsNVM : List RegRow :=
  [⟨"NVM_STAT", 0x008040, [], [⟨7, 7, .ro, 0⟩, ⟨6, 6, .ro, 0⟩, ⟨5, 5, .ro, 0⟩, ⟨4, 4, .ro, 0⟩, ⟨3, 3, .ro, 0⟩, ⟨2, 0, .ro, 0⟩]⟩,
   ⟨"NVM_JCMD", 0x008044, [], [⟨23, 16, .wo, 0⟩, ⟨15, 8, .wo, 0⟩, ⟨2, 0, .wo, 0⟩]⟩,
   ⟨"NVM_JLEN", 0x008048, [], [⟨23, 0, .rw, 0⟩]⟩,
   ⟨"NVM_JQ", 0x00804C, [], [⟨27, 16, .rw, 0⟩, ⟨11, 0, .rw, 0⟩]⟩,
   ⟨"NVM_JRES", 0x008050, [], [⟨31, 31, .ro, 0⟩, ⟨30, 23, .ro, 0⟩, ⟨2, 0, .ro, 0⟩]⟩,
   ⟨"NVM_JSEQ", 0x008054, [], [⟨31, 0, .ro, 0⟩]⟩,
   ⟨"NVM_JGEOM", 0x008058, [], [⟨28, 16, .ro, 0⟩, ⟨11, 0, .ro, 0⟩]⟩,
   ⟨"NVM_JFREE", 0x00805C, [], [⟨12, 0, .ro, 0⟩]⟩,
   ⟨"NVM_CNT1", 0x008060, [], [⟨31, 31, .ro, 0⟩, ⟨30, 16, .ro, 0⟩, ⟨15, 15, .ro, 0⟩, ⟨14, 0, .ro, 0⟩]⟩,
   ⟨"NVM_CNT2", 0x008064, [], [⟨31, 31, .ro, 0⟩, ⟨30, 16, .ro, 0⟩, ⟨15, 15, .ro, 0⟩, ⟨14, 0, .ro, 0⟩]⟩,
   ⟨"NVM_OTP_SEL", 0x008080, [], [⟨5, 0, .rw, 0⟩]⟩,
   ⟨"NVM_OTP_DATA", 0x008084, [], [⟨31, 0, .rw, 0⟩]⟩,
   ⟨"NVM_OTP_CMD", 0x008088, [], [⟨0, 0, .wo, 0⟩]⟩,
   ⟨"NVM_OTP_VAL", 0x00808C, [], [⟨31, 0, .ro, 0⟩]⟩,
   ⟨"NVM_OTP_RES", 0x008090, [], [⟨31, 31, .ro, 0⟩, ⟨30, 23, .ro, 0⟩, ⟨2, 0, .ro, 0⟩]⟩,
   ⟨"NVM_OTP_ISTAT", 0x008094, [], [⟨4, 2, .ro, 0⟩, ⟨1, 0, .ro, 0⟩]⟩,
   ⟨"NVM_BOOT_STAT", 0x0080A0, [], [⟨10, 8, .ro, 0⟩, ⟨7, 6, .ro, 0⟩, ⟨5, 5, .ro, 0⟩, ⟨4, 4, .ro, 0⟩, ⟨3, 2, .ro, 0⟩, ⟨1, 1, .ro, 0⟩]⟩,
   ⟨"NVM_BOOT_VER", 0x0080A4, [], [⟨31, 0, .ro, 0⟩]⟩,
   ⟨"NVM_HLOAD_CTRL", 0x0080A8, [], [⟨1, 1, .wo, 0⟩, ⟨0, 0, .wo, 0⟩]⟩,
   ⟨"NVM_HLOAD_DATA", 0x0080AC, [], [⟨31, 0, .wo, 0⟩]⟩,
   ⟨"NVM_HLOAD_CNT", 0x0080B0, [], [⟨17, 0, .ro, 0⟩]⟩,
   ⟨"NVM_FL_CFG", 0x0080B4, [], [⟨8, 8, .rw, 0⟩, ⟨7, 0, .rw, 0x28⟩]⟩]

/-- Registers of MBOX. -/
def rowsMBOX : List RegRow :=
  [⟨"MBOX_STAT", 0x009040, [], [⟨2, 2, .ro, 0⟩, ⟨1, 1, .ro, 0⟩, ⟨0, 0, .ro, 0⟩]⟩,
   ⟨"MBOX_H2M_LEN", 0x009044, [], [⟨6, 0, .wo, 0⟩]⟩,
   ⟨"MBOX_M2H_LEN", 0x009048, [], [⟨6, 0, .ro, 0⟩]⟩,
   ⟨"MBOX_M2H_ACK", 0x00904C, [], [⟨0, 0, .wo, 0⟩]⟩,
   ⟨"MBOX_CNT", 0x009050, [], [⟨31, 31, .ro, 0⟩, ⟨30, 16, .ro, 0⟩, ⟨15, 15, .ro, 0⟩, ⟨14, 0, .ro, 0⟩]⟩,
   ⟨"H2M_DATA", 0x009100, [(0x4, 64)], [⟨31, 0, .rw, 0⟩]⟩,
   ⟨"M2H_DATA", 0x009200, [(0x4, 64)], [⟨31, 0, .ro, 0⟩]⟩]

/-- Registers of AIN. -/
def rowsAIN : List RegRow :=
  [⟨"AIN_CFG", 0x010040, [(0x1000, 32)], [⟨23, 16, .st, 8⟩, ⟨13, 8, .st, 0⟩, ⟨7, 7, .st, 0⟩, ⟨5, 4, .st, 0⟩, ⟨1, 0, .st, 0⟩]⟩,
   ⟨"AIN_MERGE", 0x010044, [(0x1000, 32)], [⟨27, 24, .st, 8⟩, ⟨23, 16, .st, 0x14⟩, ⟨11, 8, .st, 6⟩, ⟨7, 0, .st, 0x20⟩]⟩,
   ⟨"AIN_MATCH_CFG", 0x010048, [(0x1000, 32)], [⟨15, 8, .rw, 0x28⟩, ⟨5, 5, .rw, 0⟩, ⟨4, 4, .rw, 0⟩, ⟨3, 2, .rw, 1⟩, ⟨0, 0, .rw, 1⟩]⟩,
   ⟨"AIN_MATCH_GFLOOR", 0x01004C, [(0x1000, 32)], [⟨15, 0, .rw, 0xD8F0⟩]⟩,
   ⟨"AIN_MATCH_GCEIL", 0x010050, [(0x1000, 32)], [⟨15, 0, .rw, 0x2710⟩]⟩,
   ⟨"AIN_MATCH_DFLOOR", 0x010054, [(0x1000, 32)], [⟨15, 0, .rw, 0xF830⟩]⟩,
   ⟨"AIN_MATCH_DCEIL", 0x010058, [(0x1000, 32)], [⟨15, 0, .rw, 0x7D0⟩]⟩,
   ⟨"AIN_MATCH_OFS", 0x01005C, [(0x1000, 32), (0x4, 3)], [⟨31, 16, .rw, 0⟩, ⟨15, 0, .rw, 0⟩]⟩,
   ⟨"AIN_MATCH_STAT", 0x010068, [(0x1000, 32)], [⟨11, 11, .ro, 0⟩, ⟨10, 10, .ro, 0⟩, ⟨9, 9, .ro, 0⟩, ⟨8, 8, .ro, 0⟩, ⟨7, 7, .ro, 0⟩, ⟨6, 6, .ro, 0⟩, ⟨5, 5, .ro, 0⟩, ⟨1, 0, .ro, 0⟩]⟩,
   ⟨"AIN_MATCH_GAIN", 0x01006C, [(0x1000, 32)], [⟨31, 31, .ro, 0⟩, ⟨30, 23, .ro, 0⟩, ⟨15, 0, .ro, 0⟩]⟩,
   ⟨"AIN_MATCH_DLY", 0x010070, [(0x1000, 32)], [⟨31, 31, .ro, 0⟩, ⟨30, 23, .ro, 0⟩, ⟨15, 0, .ro, 0⟩]⟩,
   ⟨"AIN_STATUS", 0x010074, [(0x1000, 32)], [⟨6, 6, .ro, 0⟩, ⟨5, 4, .ro, 0⟩, ⟨1, 0, .ro, 0⟩]⟩,
   ⟨"AIN_CNT", 0x010078, [(0x1000, 32)], [⟨31, 31, .ro, 0⟩, ⟨30, 16, .ro, 0⟩, ⟨15, 15, .ro, 0⟩, ⟨14, 0, .ro, 0⟩]⟩,
   ⟨"AIN_GUARD_CNT", 0x01007C, [(0x1000, 32)], [⟨31, 31, .ro, 0⟩, ⟨30, 24, .ro, 0⟩, ⟨23, 23, .ro, 0⟩, ⟨22, 16, .ro, 0⟩, ⟨15, 15, .ro, 0⟩, ⟨14, 0, .ro, 0⟩]⟩,
   ⟨"AIN_GUARD_CTRL", 0x010080, [(0x1000, 32)], [⟨0, 0, .wo, 0⟩]⟩,
   ⟨"AIN_MICB_CFG", 0x010084, [(0x1000, 8)], [⟨5, 4, .st, 0⟩, ⟨0, 0, .st, 0⟩]⟩,
   ⟨"AIN_MICB_STAT", 0x010088, [(0x1000, 8)], [⟨31, 31, .ro, 0⟩, ⟨30, 23, .ro, 0⟩, ⟨16, 16, .ro, 0⟩, ⟨15, 0, .ro, 0⟩]⟩]

/-- Registers of FCH. -/
def rowsFCH : List RegRow :=
  [⟨"FCH_ACFG", 0x030100, [(0x1000, 8), (0x100, 6)], [⟨15, 8, .st, 8⟩, ⟨5, 4, .st, 1⟩, ⟨0, 0, .st, 0⟩]⟩,
   ⟨"FCH_ABANK", 0x030104, [(0x1000, 8), (0x100, 6), (0x4, 2)], [⟨17, 16, .rw, 0⟩, ⟨15, 0, .rw, 0⟩]⟩,
   ⟨"FCH_ASTAT", 0x03010C, [(0x1000, 8), (0x100, 6)], [⟨27, 16, .ro, 0x1D⟩, ⟨4, 4, .ro, 0⟩, ⟨3, 3, .ro, 0⟩, ⟨2, 2, .ro, 0⟩, ⟨0, 0, .ro, 0⟩]⟩,
   ⟨"FCH_ACNT", 0x030110, [(0x1000, 8), (0x100, 6)], [⟨31, 31, .ro, 0⟩, ⟨30, 16, .ro, 0⟩, ⟨15, 15, .ro, 0⟩, ⟨14, 0, .ro, 0⟩]⟩,
   ⟨"FCH_CCFG", 0x038100, [(0x1000, 4), (0x100, 8)], [⟨13, 12, .st, 0⟩, ⟨11, 6, .st, 0⟩, ⟨0, 0, .st, 0⟩]⟩,
   ⟨"FCH_CBANK", 0x038104, [(0x1000, 4), (0x100, 8), (0x4, 2)], [⟨3, 2, .rw, 0⟩, ⟨1, 0, .rw, 0⟩]⟩,
   ⟨"FCH_THR", 0x03810C, [(0x1000, 4), (0x100, 8), (0x4, 2)], [⟨31, 16, .rw, 0⟩, ⟨15, 4, .rw, 0⟩, ⟨2, 1, .rw, 0⟩, ⟨0, 0, .rw, 0⟩]⟩,
   ⟨"FCH_TCFG", 0x038114, [(0x1000, 4), (0x100, 8)], [⟨31, 24, .rw, 0⟩, ⟨23, 16, .rw, 0⟩, ⟨15, 0, .rw, 0x1F4⟩]⟩,
   ⟨"FCH_TCTRL", 0x038118, [(0x1000, 4), (0x100, 8)], [⟨3, 2, .wo, 0⟩, ⟨1, 0, .wo, 0⟩]⟩,
   ⟨"FCH_CVAL", 0x03811C, [(0x1000, 4), (0x100, 8)], [⟨31, 31, .ro, 0⟩, ⟨30, 23, .ro, 0⟩, ⟨22, 4, .ro, 0⟩, ⟨3, 0, .ro, 0⟩]⟩,
   ⟨"FCH_CSTAT", 0x038120, [(0x1000, 4), (0x100, 8)], [⟨15, 15, .ro, 0⟩, ⟨14, 14, .ro, 0⟩, ⟨13, 13, .ro, 0⟩, ⟨12, 12, .ro, 0⟩, ⟨9, 9, .ro, 0⟩, ⟨8, 8, .ro, 0⟩, ⟨7, 6, .ro, 0⟩, ⟨5, 5, .ro, 0⟩, ⟨4, 4, .ro, 0⟩, ⟨3, 2, .ro, 0⟩]⟩,
   ⟨"FCH_CCNT", 0x038124, [(0x1000, 4), (0x100, 8)], [⟨31, 31, .ro, 0⟩, ⟨30, 16, .ro, 0⟩, ⟨15, 15, .ro, 0⟩, ⟨14, 8, .ro, 0⟩, ⟨7, 7, .ro, 0⟩, ⟨6, 0, .ro, 0⟩]⟩,
   ⟨"FCH_EVQ", 0x03C040, [], [⟨31, 31, .rw, 0⟩, ⟨11, 0, .rw, 0⟩]⟩,
   ⟨"FCH_EVCNT", 0x03C044, [], [⟨31, 31, .ro, 0⟩, ⟨30, 16, .ro, 0⟩, ⟨15, 15, .ro, 0⟩, ⟨14, 0, .ro, 0⟩]⟩,
   ⟨"FCH_LOAD", 0x03C048, [], [⟨31, 16, .ro, 0⟩, ⟨15, 0, .ro, 0⟩]⟩,
   ⟨"FCH_ERR", 0x03C04C, [], [⟨31, 31, .ro, 0⟩, ⟨30, 16, .ro, 0⟩, ⟨15, 15, .ro, 0⟩, ⟨14, 0, .ro, 0⟩]⟩,
   ⟨"FCH_GUARD", 0x03C050, [], [⟨5, 5, .ro, 0⟩, ⟨4, 4, .ro, 0⟩, ⟨3, 0, .ro, 0⟩]⟩,
   ⟨"FCH_GUARD_CTRL", 0x03C054, [], [⟨0, 0, .wo, 0⟩]⟩]

/-- Registers of SVC. -/
def rowsSVC : List RegRow :=
  [⟨"SVC_SEQ_LEN", 0x040040, [], [⟨14, 8, .st, 0⟩, ⟨6, 0, .st, 0⟩]⟩,
   ⟨"SVC_CHECK_CFG", 0x040044, [], [⟨7, 0, .lk, 0x10⟩]⟩,
   ⟨"SVC_STAT", 0x040048, [], [⟨11, 10, .ro, 0⟩, ⟨9, 8, .ro, 0⟩, ⟨7, 7, .ro, 0⟩, ⟨6, 6, .ro, 0⟩, ⟨5, 5, .ro, 0⟩, ⟨4, 4, .ro, 0⟩, ⟨3, 3, .ro, 0⟩, ⟨1, 0, .ro, 0⟩]⟩,
   ⟨"SVC_CHECK_EXP", 0x040054, [], [⟨18, 16, .ro, 0⟩, ⟨15, 0, .ro, 0⟩]⟩,
   ⟨"SVC_URG_REQ", 0x040058, [], [⟨31, 31, .wo, 0⟩, ⟨10, 9, .wo, 0⟩, ⟨8, 8, .wo, 0⟩, ⟨7, 7, .wo, 0⟩, ⟨6, 0, .wo, 0⟩]⟩,
   ⟨"SVC_URG_CNT", 0x040060, [], [⟨31, 31, .ro, 0⟩, ⟨30, 16, .ro, 0⟩, ⟨15, 15, .ro, 0⟩, ⟨14, 0, .ro, 0⟩]⟩,
   ⟨"SVC_CHK_CNT", 0x040064, [], [⟨31, 31, .ro, 0⟩, ⟨30, 16, .ro, 0⟩, ⟨15, 15, .ro, 0⟩, ⟨14, 8, .ro, 0⟩, ⟨7, 7, .ro, 0⟩, ⟨6, 0, .ro, 0⟩]⟩,
   ⟨"SVC_SLOTS", 0x040068, [], [⟨31, 24, .ro, 0⟩, ⟨23, 16, .ro, 0⟩, ⟨15, 8, .ro, 0⟩, ⟨7, 0, .ro, 0⟩]⟩,
   ⟨"SVC_GUARD_CTRL", 0x04006C, [], [⟨0, 0, .wo, 0⟩]⟩,
   ⟨"SV_ENT", 0x040100, [(0x100, 2), (0x4, 64)], [⟨22, 16, .ro, 0x7F⟩, ⟨15, 15, .st, 0⟩, ⟨14, 12, .st, 0⟩, ⟨11, 11, .st, 0⟩, ⟨10, 9, .st, 0⟩, ⟨6, 0, .st, 0⟩]⟩,
   ⟨"SVC_CHECK_RES", 0x04004C, [(0x4, 2)], [⟨31, 31, .ro, 0⟩, ⟨30, 23, .ro, 0⟩, ⟨22, 22, .ro, 0⟩, ⟨21, 21, .ro, 0⟩, ⟨20, 20, .ro, 0⟩, ⟨19, 0, .ro, 0⟩]⟩,
   ⟨"SVC_URG_RES", 0x04005C, [], [⟨31, 31, .ro, 0⟩, ⟨30, 23, .ro, 0⟩, ⟨22, 22, .ro, 0⟩, ⟨21, 21, .ro, 0⟩, ⟨20, 20, .ro, 0⟩, ⟨19, 0, .ro, 0⟩]⟩,
   ⟨"SV_RES", 0x040300, [(0x100, 2), (0x4, 64)], [⟨31, 31, .ro, 0⟩, ⟨30, 23, .ro, 0⟩, ⟨22, 22, .ro, 0⟩, ⟨21, 21, .ro, 0⟩, ⟨20, 20, .ro, 0⟩, ⟨19, 0, .ro, 0⟩]⟩,
   ⟨"ROT_RES", 0x040500, [(0x4, 64)], [⟨31, 31, .ro, 0⟩, ⟨30, 23, .ro, 0⟩, ⟨22, 22, .ro, 0⟩, ⟨21, 21, .ro, 0⟩, ⟨20, 20, .ro, 0⟩, ⟨19, 0, .ro, 0⟩]⟩]

/-- Registers of SAP. -/
def rowsSAP : List RegRow :=
  [⟨"SAP_CFG", 0x050040, [(0x1000, 16)], [⟨26, 24, .st, 0⟩, ⟨23, 22, .st, 0⟩, ⟨21, 16, .st, 0⟩, ⟨15, 14, .st, 2⟩, ⟨13, 12, .st, 2⟩, ⟨11, 10, .st, 0⟩, ⟨9, 9, .st, 0⟩, ⟨8, 8, .st, 0⟩, ⟨7, 7, .st, 0⟩, ⟨6, 6, .st, 0⟩]⟩,
   ⟨"SAP_RX_MASK", 0x050044, [(0x1000, 16)], [⟨31, 0, .st, 0⟩]⟩,
   ⟨"SAP_TX_MASK", 0x050048, [(0x1000, 16)], [⟨31, 0, .st, 0⟩]⟩,
   ⟨"SAP_TXCFG", 0x05004C, [(0x1000, 16)], [⟨7, 7, .st, 0⟩, ⟨6, 6, .st, 0⟩, ⟨5, 4, .st, 0⟩]⟩,
   ⟨"SAP_XRUN_CFG", 0x050050, [(0x1000, 16)], [⟨7, 0, .rw, 4⟩]⟩,
   ⟨"SAP_STAT", 0x050054, [(0x1000, 16)], [⟨9, 9, .ro, 0⟩, ⟨8, 8, .ro, 0⟩, ⟨7, 6, .ro, 0⟩, ⟨3, 0, .ro, 0⟩]⟩,
   ⟨"SAP_RATE", 0x050058, [(0x1000, 16)], [⟨31, 31, .ro, 0⟩, ⟨30, 23, .ro, 0⟩, ⟨22, 0, .ro, 0⟩]⟩,
   ⟨"SAP_CNT_RX", 0x05005C, [(0x1000, 16)], [⟨31, 31, .ro, 0⟩, ⟨30, 16, .ro, 0⟩, ⟨15, 15, .ro, 0⟩, ⟨14, 0, .ro, 0⟩]⟩,
   ⟨"SAP_CNT_TX", 0x050060, [(0x1000, 16)], [⟨31, 31, .ro, 0⟩, ⟨30, 16, .ro, 0⟩, ⟨15, 15, .ro, 0⟩, ⟨14, 0, .ro, 0⟩]⟩,
   ⟨"SAP_CNT_ERR", 0x050064, [(0x1000, 16)], [⟨31, 31, .ro, 0⟩, ⟨30, 16, .ro, 0⟩, ⟨15, 15, .ro, 0⟩, ⟨14, 8, .ro, 0⟩, ⟨7, 7, .ro, 0⟩, ⟨6, 0, .ro, 0⟩]⟩,
   ⟨"SAP_CTRL", 0x050068, [(0x1000, 16)], [⟨0, 0, .wo, 0⟩]⟩]

/-- Registers of PDM. -/
def rowsPDM : List RegRow :=
  [⟨"PDM_CFG", 0x060040, [], [⟨31, 24, .st, 0xA⟩, ⟨23, 16, .st, 0⟩, ⟨15, 0, .st, 0⟩]⟩,
   ⟨"PDM_STAT", 0x060044, [], [⟨31, 16, .ro, 0⟩, ⟨15, 0, .ro, 0⟩]⟩,
   ⟨"PDM_CNT", 0x060048, [], [⟨31, 31, .ro, 0⟩, ⟨30, 16, .ro, 0⟩]⟩,
   ⟨"PDM_CTRL", 0x06004C, [], [⟨15, 0, .wo, 0⟩]⟩,
   ⟨"SPDI_CFG", 0x061040, [(0x1000, 4)], [⟨23, 16, .rw, 4⟩, ⟨15, 8, .st, 8⟩, ⟨0, 0, .st, 0⟩]⟩,
   ⟨"SPDI_STAT", 0x061044, [(0x1000, 4)], [⟨11, 11, .ro, 0⟩, ⟨10, 10, .ro, 0⟩, ⟨9, 9, .ro, 0⟩, ⟨7, 4, .ro, 0xF⟩, ⟨3, 0, .ro, 0⟩]⟩,
   ⟨"SPDI_BLK", 0x061048, [(0x1000, 4)], [⟨31, 31, .ro, 0⟩, ⟨30, 23, .ro, 0⟩, ⟨1, 1, .ro, 0⟩, ⟨0, 0, .ro, 0⟩]⟩,
   ⟨"SPDI_CS", 0x061050, [(0x1000, 4), (0x18, 2), (0x4, 6)], [⟨31, 0, .ro, 0⟩]⟩,
   ⟨"SPDI_UCFG", 0x061080, [(0x1000, 4)], [⟨31, 31, .rw, 0⟩, ⟨11, 0, .rw, 0⟩]⟩,
   ⟨"SPDI_RATE", 0x061084, [(0x1000, 4)], [⟨31, 31, .ro, 0⟩, ⟨30, 23, .ro, 0⟩, ⟨22, 0, .ro, 0⟩]⟩,
   ⟨"SPDI_CNT1", 0x061088, [(0x1000, 4)], [⟨31, 31, .ro, 0⟩, ⟨30, 16, .ro, 0⟩, ⟨15, 15, .ro, 0⟩, ⟨14, 0, .ro, 0⟩]⟩,
   ⟨"SPDI_CNT2", 0x06108C, [(0x1000, 4)], [⟨31, 31, .ro, 0⟩, ⟨30, 16, .ro, 0⟩, ⟨15, 15, .ro, 0⟩, ⟨14, 8, .ro, 0⟩, ⟨7, 7, .ro, 0⟩, ⟨6, 0, .ro, 0⟩]⟩,
   ⟨"SPDI_CTRL", 0x061090, [(0x1000, 4)], [⟨0, 0, .wo, 0⟩]⟩,
   ⟨"SPDO_CFG", 0x065040, [], [⟨19, 16, .st, 0⟩, ⟨10, 8, .st, 0⟩, ⟨3, 0, .st, 0⟩]⟩,
   ⟨"SPDO_CS", 0x065060, [(0x20, 4), (0x4, 6)], [⟨31, 0, .st, 0⟩]⟩]

/-- Registers of SRC. -/
def rowsSRC : List RegRow :=
  [⟨"SRC_CFG", 0x070040, [], [⟨1, 0, .st, 1⟩]⟩,
   ⟨"SRC_LOAD", 0x070044, [], [⟨24, 16, .ro, 0⟩, ⟨10, 0, .ro, 0⟩]⟩,
   ⟨"SRC_CYC", 0x070048, [], [⟨28, 16, .ro, 0⟩, ⟨12, 0, .ro, 0⟩]⟩,
   ⟨"SRC_PROBE", 0x07004C, [], [⟨8, 0, .rw, 0⟩]⟩,
   ⟨"SRC_RATIO", 0x070050, [], [⟨31, 31, .ro, 0⟩, ⟨30, 23, .ro, 0⟩, ⟨22, 0, .ro, 0⟩]⟩,
   ⟨"SRC_CNT1", 0x070054, [], [⟨31, 31, .ro, 0⟩, ⟨30, 16, .ro, 0⟩, ⟨15, 15, .ro, 0⟩, ⟨14, 0, .ro, 0⟩]⟩,
   ⟨"SRC_CNT2", 0x070058, [], [⟨31, 31, .ro, 0⟩, ⟨30, 16, .ro, 0⟩, ⟨15, 15, .ro, 0⟩, ⟨14, 0, .ro, 0⟩]⟩,
   ⟨"SRC_QS", 0x070080, [(0x4, 32)], [⟨31, 28, .st, 4⟩, ⟨23, 23, .st, 0⟩, ⟨22, 20, .st, 0⟩, ⟨19, 16, .st, 0⟩, ⟨11, 0, .st, 0⟩]⟩,
   ⟨"SRC_ACH", 0x070100, [(0x4, 320)], [⟨31, 30, .ro, 0⟩, ⟨29, 29, .ro, 0⟩, ⟨28, 28, .ro, 0⟩, ⟨27, 24, .ro, 0⟩, ⟨23, 16, .ro, 0⟩, ⟨15, 11, .ro, 0⟩, ⟨10, 0, .ro, 0⟩]⟩,
   ⟨"SRC_QST", 0x070600, [(0x4, 32)], [⟨31, 31, .ro, 0⟩, ⟨30, 16, .ro, 0⟩, ⟨15, 15, .ro, 0⟩, ⟨14, 0, .ro, 0⟩]⟩]

/-- Registers of SPN. -/
def rowsSPN : List RegRow :=
  [⟨"SPN_ROUTE", 0x081800, [(0x1000, 5), (0x4, 512)], [⟨31, 31, .st, 0⟩, ⟨11, 0, .st, 0⟩]⟩,
   ⟨"SPN_LOAD", 0x080040, [(0x4, 4)], [⟨12, 0, .ro, 0⟩]⟩,
   ⟨"SPN_SCHED", 0x080050, [], [⟨28, 16, .ro, 0⟩, ⟨12, 0, .ro, 0⟩]⟩,
   ⟨"SPN_STAT", 0x080054, [], [⟨3, 0, .ro, 0⟩]⟩,
   ⟨"SPN_CNT", 0x080058, [], [⟨31, 31, .ro, 0⟩, ⟨30, 16, .ro, 0⟩, ⟨15, 15, .ro, 0⟩, ⟨14, 0, .ro, 0⟩]⟩,
   ⟨"SPN_MISS", 0x08005C, [], [⟨31, 31, .ro, 0⟩, ⟨30, 16, .ro, 0⟩, ⟨11, 0, .ro, 0⟩]⟩,
   ⟨"SPN_GUARD_CTRL", 0x080060, [], [⟨0, 0, .wo, 0⟩]⟩,
   ⟨"SPN_TAP_CFG", 0x080100, [(0x4, 32)], [⟨15, 15, .st, 0⟩, ⟨11, 0, .st, 0⟩]⟩,
   ⟨"SPN_TAP_RES", 0x080180, [(0x4, 32)], [⟨31, 31, .ro, 0⟩, ⟨30, 23, .ro, 0⟩, ⟨22, 4, .ro, 0⟩, ⟨3, 0, .ro, 0⟩]⟩]

/-- Registers of MIX. -/
def rowsMIX : List RegRow :=
  [⟨"MIX_STAT", 0x090040, [], [⟨28, 16, .ro, 0⟩, ⟨15, 8, .ro, 0⟩, ⟨5, 5, .ro, 0⟩, ⟨3, 0, .ro, 0⟩]⟩,
   ⟨"MIX_CNT", 0x090044, [], [⟨31, 31, .ro, 0⟩, ⟨30, 16, .ro, 0⟩, ⟨15, 15, .ro, 0⟩, ⟨14, 0, .ro, 0⟩]⟩,
   ⟨"MIX_XPE", 0x090048, [], [⟨31, 31, .ro, 0⟩, ⟨30, 23, .ro, 0⟩, ⟨16, 8, .ro, 0⟩, ⟨7, 0, .ro, 0⟩]⟩,
   ⟨"MIX_GLSTAT", 0x09004C, [], [⟨31, 31, .ro, 0⟩, ⟨30, 16, .ro, 0⟩, ⟨8, 0, .ro, 0⟩]⟩,
   ⟨"MIX_GUARD_CTRL", 0x090050, [], [⟨0, 0, .wo, 0⟩]⟩,
   ⟨"MIX_BUS", 0x091100, [(0x4, 192)], [⟨15, 8, .rw, 4⟩, ⟨1, 1, .rw, 0⟩, ⟨0, 0, .st, 0⟩]⟩,
   ⟨"MIX_BSTAT", 0x091400, [(0x4, 192)], [⟨31, 31, .ro, 0⟩, ⟨30, 16, .ro, 0⟩, ⟨1, 0, .ro, 0⟩]⟩,
   ⟨"MIX_GL_XP", 0x092100, [(0x1000, 2), (0x10, 128)], [⟨24, 16, .rw, 0⟩, ⟨7, 0, .rw, 0⟩]⟩,
   ⟨"MIX_GL_TGT", 0x092104, [(0x1000, 2), (0x10, 128)], [⟨31, 0, .rw, 0⟩]⟩,
   ⟨"MIX_GL_TIME", 0x092108, [(0x1000, 2), (0x10, 128)], [⟨31, 31, .rw, 0⟩, ⟨15, 0, .rw, 0⟩]⟩,
   ⟨"MIX_GL_CTRL", 0x09210C, [(0x1000, 2), (0x10, 128)], [⟨31, 16, .ro, 0⟩, ⟨15, 15, .ro, 0⟩, ⟨14, 14, .ro, 0⟩, ⟨13, 13, .ro, 0⟩, ⟨1, 1, .wo, 0⟩, ⟨0, 0, .wo, 0⟩]⟩]

/-- Registers of FX. -/
def rowsFX : List RegRow :=
  [⟨"FX_WIN", 0x0A0040, [], [⟨2, 0, .rw, 0⟩]⟩,
   ⟨"FX_STAT", 0x0A0044, [], [⟨27, 16, .ro, 0⟩, ⟨0, 0, .ro, 0⟩]⟩,
   ⟨"FX_LOAD0", 0x0A0048, [], [⟨28, 16, .ro, 0⟩, ⟨12, 0, .ro, 0⟩]⟩,
   ⟨"FX_LOAD1", 0x0A004C, [], [⟨28, 16, .ro, 0⟩, ⟨12, 0, .ro, 0⟩]⟩,
   ⟨"FX_LOAD2", 0x0A0050, [], [⟨28, 16, .ro, 0⟩, ⟨12, 0, .ro, 0⟩]⟩,
   ⟨"FX_LOAD3", 0x0A0054, [], [⟨28, 16, .ro, 0⟩, ⟨15, 8, .ro, 0⟩, ⟨7, 0, .ro, 0⟩]⟩,
   ⟨"FX_CNT", 0x0A0058, [], [⟨31, 31, .ro, 0⟩, ⟨30, 16, .ro, 0⟩, ⟨15, 15, .ro, 0⟩, ⟨14, 0, .ro, 0⟩]⟩,
   ⟨"FX_CNT2", 0x0A005C, [], [⟨31, 31, .ro, 0⟩, ⟨30, 16, .ro, 0⟩, ⟨15, 15, .ro, 0⟩, ⟨14, 0, .ro, 0⟩]⟩,
   ⟨"FX_GUARD", 0x0A0060, [], [⟨29, 29, .ro, 0⟩, ⟨28, 28, .ro, 0⟩, ⟨27, 25, .ro, 0⟩, ⟨24, 24, .ro, 0⟩, ⟨23, 23, .ro, 0⟩, ⟨22, 20, .ro, 0⟩, ⟨19, 19, .ro, 0⟩, ⟨18, 18, .ro, 0⟩, ⟨17, 15, .ro, 0⟩, ⟨14, 14, .ro, 0⟩, ⟨13, 13, .ro, 0⟩, ⟨12, 10, .ro, 0⟩, ⟨9, 9, .ro, 0⟩, ⟨8, 8, .ro, 0⟩, ⟨7, 5, .ro, 0⟩, ⟨4, 4, .ro, 0⟩, ⟨3, 3, .ro, 0⟩, ⟨2, 0, .ro, 0⟩]⟩,
   ⟨"FX_GUARD_CTRL", 0x0A0064, [], [⟨5, 0, .wo, 0⟩]⟩,
   ⟨"FX_PROBE", 0x0A0068, [], [⟨11, 0, .rw, 0⟩]⟩,
   ⟨"FX_PROBE_RES", 0x0A006C, [], [⟨28, 16, .ro, 0⟩, ⟨12, 0, .ro, 0⟩]⟩,
   ⟨"BQ_CFG", 0x0A1100, [(0x10, 128)], [⟨15, 8, .st, 8⟩, ⟨0, 0, .st, 0⟩]⟩,
   ⟨"BQ_BANK", 0x0A1104, [(0x10, 128), (0x4, 2)], [⟨26, 16, .rw, 0⟩, ⟨7, 0, .rw, 0⟩]⟩,
   ⟨"BQ_STAT", 0x0A110C, [(0x10, 128)], [⟨31, 31, .ro, 0⟩, ⟨30, 16, .ro, 0⟩, ⟨3, 3, .ro, 0⟩, ⟨2, 2, .ro, 0⟩, ⟨0, 0, .ro, 0⟩]⟩,
   ⟨"DYN_CFG", 0x0A2100, [(0x1000, 2), (0x20, 64)], [⟨30, 24, .st, 0⟩, ⟨23, 16, .st, 0⟩, ⟨15, 8, .st, 0⟩, ⟨5, 5, .st, 0⟩, ⟨2, 0, .st, 0⟩]⟩,
   ⟨"DYN_THR", 0x0A2104, [(0x1000, 2), (0x20, 64)], [⟨31, 20, .rw, 0x20⟩, ⟨19, 16, .rw, 0⟩, ⟨15, 0, .rw, 0⟩]⟩,
   ⟨"DYN_TIME", 0x0A2108, [(0x1000, 2), (0x20, 64)], [⟨31, 16, .rw, 0⟩, ⟨15, 0, .rw, 0⟩]⟩,
   ⟨"DYN_GAIN", 0x0A210C, [(0x1000, 2), (0x20, 64)], [⟨15, 0, .rw, 0⟩]⟩,
   ⟨"DYN_GR", 0x0A2110, [(0x1000, 2), (0x20, 64)], [⟨31, 31, .ro, 0⟩, ⟨30, 23, .ro, 0⟩, ⟨15, 0, .ro, 0⟩]⟩,
   ⟨"DL_CFG", 0x0A4100, [(0x8, 64)], [⟨31, 31, .st, 0⟩, ⟨29, 16, .st, 0⟩, ⟨12, 0, .st, 0⟩]⟩,
   ⟨"DL_DLY", 0x0A4104, [(0x8, 64)], [⟨21, 0, .st, 0⟩]⟩,
   ⟨"TAP_CFG", 0x0A5100, [(0x1000, 2), (0x10, 128)], [⟨31, 31, .st, 0⟩, ⟨14, 8, .st, 0⟩, ⟨6, 0, .st, 0⟩]⟩,
   ⟨"TAP_D", 0x0A5104, [(0x1000, 2), (0x10, 128)], [⟨29, 0, .rw, 0⟩]⟩,
   ⟨"TAP_MOD", 0x0A5108, [(0x1000, 2), (0x10, 128)], [⟨31, 16, .rw, 0⟩, ⟨15, 0, .rw, 0⟩]⟩,
   ⟨"TAP_STAT", 0x0A510C, [(0x1000, 2), (0x10, 128)], [⟨29, 0, .ro, 0⟩]⟩,
   ⟨"CV_PREP", 0x0A7040, [], [⟨31, 31, .wo, 0⟩, ⟨15, 8, .wo, 0⟩, ⟨6, 0, .wo, 0⟩]⟩,
   ⟨"CV_PSTAT", 0x0A7044, [], [⟨31, 31, .ro, 0⟩, ⟨23, 16, .ro, 0⟩, ⟨15, 15, .ro, 0⟩, ⟨6, 0, .ro, 0⟩]⟩,
   ⟨"CV_RDY", 0x0A7048, [(0x4, 4)], [⟨31, 0, .ro, 0⟩]⟩,
   ⟨"CV_CFG_FX", 0x0A7100, [(0x20, 32)], [⟨23, 16, .st, 0⟩, ⟨15, 8, .st, 8⟩, ⟨0, 0, .st, 0⟩]⟩,
   ⟨"CV_SET", 0x0A7104, [(0x20, 32), (0x8, 2)], [⟨26, 20, .rw, 0⟩, ⟨19, 0, .rw, 0⟩]⟩,
   ⟨"CV_GAIN", 0x0A7108, [(0x20, 32), (0x8, 2)], [⟨31, 0, .rw, 0x8000000⟩]⟩,
   ⟨"CV_STAT_FX", 0x0A7114, [(0x20, 32)], [⟨3, 3, .ro, 0⟩, ⟨2, 2, .ro, 0⟩, ⟨0, 0, .ro, 0⟩]⟩,
   ⟨"SH_CFG", 0x0A8100, [(0x10, 64)], [⟨15, 8, .st, 8⟩, ⟨1, 1, .st, 0⟩, ⟨0, 0, .st, 0⟩]⟩,
   ⟨"SH_GAIN", 0x0A8104, [(0x10, 64)], [⟨31, 16, .rw, 0⟩, ⟨15, 0, .rw, 0⟩]⟩,
   ⟨"LFO_CFG", 0x0A8500, [(0x10, 32)], [⟨25, 24, .rw, 0⟩, ⟨23, 0, .rw, 0⟩]⟩,
   ⟨"LFO_PH", 0x0A8504, [(0x10, 32)], [⟨31, 31, .st, 0⟩, ⟨15, 0, .st, 0⟩]⟩]

/-- Registers of OUT. -/
def rowsOUT : List RegRow :=
  [⟨"OUT_SUMMARY", 0x0B0040, [], [⟨19, 0, .ro, 0⟩]⟩,
   ⟨"OUT_CFG", 0x0B0100, [(0x40, 20)], [⟨15, 15, .st, 0⟩, ⟨14, 14, .st, 0⟩, ⟨13, 12, .st, 0⟩, ⟨9, 8, .st, 0⟩, ⟨4, 4, .st, 0⟩, ⟨0, 0, .st, 0⟩]⟩,
   ⟨"OUT_CTRL", 0x0B0104, [(0x40, 20)], [⟨15, 8, .rw, 4⟩, ⟨1, 1, .wo, 0⟩, ⟨0, 0, .rw, 0⟩]⟩,
   ⟨"OUT_HB", 0x0B0108, [(0x40, 20)], [⟨31, 24, .lk, 0⟩, ⟨17, 16, .lk, 0⟩, ⟨7, 0, .lk, 0⟩]⟩,
   ⟨"OUT_RB_CFG", 0x0B010C, [(0x40, 20)], [⟨15, 8, .rw, 0x14⟩, ⟨3, 0, .rw, 3⟩]⟩,
   ⟨"OUT_STAT", 0x0B0110, [(0x40, 20)], [⟨11, 11, .ro, 0⟩, ⟨10, 10, .ro, 0⟩, ⟨9, 9, .ro, 0⟩, ⟨7, 6, .ro, 0⟩, ⟨5, 4, .ro, 0⟩, ⟨2, 0, .ro, 0⟩]⟩,
   ⟨"OUT_DCV", 0x0B0114, [(0x40, 20)], [⟨31, 31, .ro, 0⟩, ⟨30, 23, .ro, 0⟩, ⟨22, 0, .ro, 0⟩]⟩,
   ⟨"OUT_RBE", 0x0B0118, [(0x40, 20)], [⟨31, 31, .ro, 0⟩, ⟨30, 23, .ro, 0⟩, ⟨22, 0, .ro, 0⟩]⟩,
   ⟨"OUT_CNT1", 0x0B011C, [(0x40, 20)], [⟨31, 31, .ro, 0⟩, ⟨30, 16, .ro, 0⟩, ⟨15, 15, .ro, 0⟩, ⟨14, 0, .ro, 0⟩]⟩,
   ⟨"OUT_CNT2", 0x0B0120, [(0x40, 20)], [⟨31, 31, .ro, 0⟩, ⟨30, 16, .ro, 0⟩, ⟨15, 15, .ro, 0⟩, ⟨14, 8, .ro, 0⟩, ⟨7, 7, .ro, 0⟩, ⟨6, 0, .ro, 0⟩]⟩]

/-- Registers of JACK. -/
def rowsJACK : List RegRow :=
  [⟨"JACK_EVQ", 0x0C0040, [], [⟨31, 31, .rw, 0⟩, ⟨11, 0, .rw, 0⟩]⟩,
   ⟨"JACK_POP_CFG", 0x0C0044, [], [⟨31, 24, .rw, 0x60⟩, ⟨23, 16, .rw, 8⟩, ⟨15, 12, .rw, 4⟩, ⟨11, 8, .rw, 8⟩, ⟨7, 4, .rw, 0xA⟩, ⟨3, 0, .rw, 5⟩]⟩,
   ⟨"JACK_CNT", 0x0C0048, [], [⟨31, 31, .ro, 0⟩, ⟨30, 16, .ro, 0⟩, ⟨15, 15, .ro, 0⟩, ⟨14, 0, .ro, 0⟩]⟩,
   ⟨"JK_CFG", 0x0C0100, [(0x20, 12)], [⟨31, 16, .st, 0x1F4⟩, ⟨15, 8, .st, 0x14⟩, ⟨3, 3, .st, 1⟩, ⟨2, 2, .st, 1⟩, ⟨1, 1, .st, 0⟩, ⟨0, 0, .st, 0⟩]⟩,
   ⟨"JK_THR", 0x0C0104, [(0x20, 12)], [⟨31, 24, .rw, 0xF0⟩, ⟨23, 16, .rw, 0x10⟩, ⟨15, 8, .rw, 0x80⟩, ⟨7, 0, .rw, 8⟩]⟩,
   ⟨"JK_STAT", 0x0C0108, [(0x20, 12)], [⟨31, 24, .ro, 0x80⟩, ⟨23, 16, .ro, 0⟩, ⟨15, 8, .ro, 0⟩, ⟨7, 7, .ro, 0⟩, ⟨6, 6, .ro, 0⟩, ⟨5, 5, .ro, 0⟩, ⟨4, 4, .ro, 0⟩, ⟨3, 3, .ro, 0⟩, ⟨2, 2, .ro, 0⟩, ⟨1, 0, .ro, 0⟩]⟩,
   ⟨"JK_LVL", 0x0C010C, [(0x20, 12)], [⟨31, 31, .ro, 0⟩, ⟨30, 23, .ro, 0⟩, ⟨7, 0, .ro, 0⟩]⟩,
   ⟨"JK_CTRL", 0x0C0110, [(0x20, 12)], [⟨1, 0, .wo, 0⟩]⟩,
   ⟨"JK_CNT", 0x0C0114, [(0x20, 12)], [⟨31, 31, .ro, 0⟩, ⟨30, 16, .ro, 0⟩, ⟨15, 15, .ro, 0⟩, ⟨14, 0, .ro, 0⟩]⟩,
   ⟨"JACK_BIND", 0x0C0400, [(0x4, 28)], [⟨8, 8, .st, 0⟩, ⟨4, 4, .st, 0⟩, ⟨3, 0, .st, 0⟩]⟩]

/-- Registers of CV. -/
def rowsCV : List RegRow :=
  [⟨"CV_REF", 0x0D0040, [], [⟨0, 0, .st, 0⟩]⟩,
   ⟨"CV_SUMMARY", 0x0D0044, [], [⟨16, 16, .ro, 0⟩, ⟨15, 0, .ro, 0⟩]⟩,
   ⟨"TMR_START_LO", 0x0D0080, [(0x10, 4)], [⟨31, 0, .rw, 0⟩]⟩,
   ⟨"TMR_START_HI", 0x0D0084, [(0x10, 4)], [⟨31, 0, .rw, 0⟩]⟩,
   ⟨"TMR_PERIOD", 0x0D0088, [(0x10, 4)], [⟨23, 0, .rw, 0⟩]⟩,
   ⟨"TMR_CTRL", 0x0D008C, [(0x10, 4)], [⟨31, 31, .ro, 0⟩, ⟨30, 24, .ro, 0⟩, ⟨9, 9, .ro, 0⟩, ⟨8, 8, .ro, 0⟩, ⟨1, 1, .wo, 0⟩, ⟨0, 0, .wo, 0⟩]⟩,
   ⟨"CV_CFG", 0x0D0100, [(0x40, 16)], [⟨31, 31, .st, 0⟩, ⟨27, 16, .st, 0⟩, ⟨13, 12, .st, 0⟩, ⟨8, 8, .st, 0⟩, ⟨4, 4, .st, 0⟩, ⟨0, 0, .st, 0⟩]⟩,
   ⟨"CV_CTRL", 0x0D0104, [(0x40, 16)], [⟨1, 1, .wo, 0⟩, ⟨0, 0, .wo, 0⟩]⟩,
   ⟨"CV_HB", 0x0D0108, [(0x40, 16)], [⟨31, 16, .lk, 0x2710⟩, ⟨15, 0, .lk, 0xD8F0⟩]⟩,
   ⟨"CV_HB_SLEW", 0x0D010C, [(0x40, 16)], [⟨15, 0, .lk, 0⟩]⟩,
   ⟨"CV_RB_CFG", 0x0D0110, [(0x40, 16)], [⟨15, 8, .rw, 0x19⟩, ⟨3, 0, .rw, 3⟩]⟩,
   ⟨"CV_STAT", 0x0D0114, [(0x40, 16)], [⟨9, 9, .ro, 0⟩, ⟨8, 8, .ro, 0⟩, ⟨7, 7, .ro, 0⟩, ⟨6, 6, .ro, 0⟩, ⟨5, 5, .ro, 0⟩, ⟨4, 4, .ro, 0⟩, ⟨2, 0, .ro, 0⟩]⟩,
   ⟨"CV_VOUT", 0x0D0118, [(0x40, 16)], [⟨31, 31, .ro, 0⟩, ⟨30, 23, .ro, 0⟩, ⟨22, 0, .ro, 0⟩]⟩,
   ⟨"CV_RBE", 0x0D011C, [(0x40, 16)], [⟨31, 31, .ro, 0⟩, ⟨30, 23, .ro, 0⟩, ⟨22, 0, .ro, 0⟩]⟩,
   ⟨"CV_CNT1", 0x0D0120, [(0x40, 16)], [⟨31, 31, .ro, 0⟩, ⟨30, 16, .ro, 0⟩, ⟨15, 15, .ro, 0⟩, ⟨14, 0, .ro, 0⟩]⟩,
   ⟨"CV_CNT2", 0x0D0124, [(0x40, 16)], [⟨31, 31, .ro, 0⟩, ⟨30, 16, .ro, 0⟩, ⟨15, 15, .ro, 0⟩, ⟨14, 0, .ro, 0⟩]⟩]

/-- Registers of SPK. -/
def rowsSPK : List RegRow :=
  [⟨"SPK_CFG", 0x0E0040, [(0x1000, 8)], [⟨24, 16, .st, 0xC8⟩, ⟨11, 10, .st, 2⟩, ⟨9, 9, .st, 0⟩, ⟨8, 8, .st, 0⟩, ⟨1, 1, .st, 0⟩, ⟨0, 0, .st, 0⟩]⟩,
   ⟨"SPK_CTRL", 0x0E0044, [(0x1000, 8)], [⟨15, 8, .rw, 8⟩, ⟨3, 3, .wo, 0⟩, ⟨2, 2, .wo, 0⟩, ⟨0, 0, .rw, 0⟩]⟩,
   ⟨"SPK_HB_P", 0x0E0048, [(0x1000, 8)], [⟨31, 16, .lk, 0x320⟩, ⟨15, 0, .lk, 0xFA⟩]⟩,
   ⟨"SPK_HB_I", 0x0E004C, [(0x1000, 8)], [⟨31, 24, .lk, 0⟩, ⟨23, 16, .lk, 0x64⟩, ⟨10, 8, .lk, 7⟩, ⟨7, 0, .lk, 0x64⟩]⟩,
   ⟨"SPK_HB_T", 0x0E0050, [(0x1000, 8)], [⟨15, 8, .lk, 0⟩, ⟨7, 0, .lk, 0x73⟩]⟩,
   ⟨"SPK_ZB", 0x0E0054, [(0x1000, 8)], [⟨31, 16, .rw, 0xC80⟩, ⟨15, 0, .rw, 0x96⟩]⟩,
   ⟨"SPK_RB_CFG", 0x0E0058, [(0x1000, 8)], [⟨15, 15, .rw, 0⟩, ⟨14, 8, .rw, 0xA⟩, ⟨3, 0, .rw, 3⟩]⟩,
   ⟨"SPK_STAT", 0x0E005C, [(0x1000, 8)], [⟨27, 24, .ro, 0⟩, ⟨22, 20, .ro, 0⟩, ⟨19, 18, .ro, 0⟩, ⟨17, 17, .ro, 0⟩, ⟨16, 16, .ro, 0⟩, ⟨15, 15, .ro, 0⟩, ⟨14, 14, .ro, 0⟩, ⟨13, 13, .ro, 0⟩, ⟨12, 12, .ro, 0⟩, ⟨11, 11, .ro, 0⟩, ⟨10, 10, .ro, 0⟩, ⟨9, 9, .ro, 0⟩, ⟨8, 8, .ro, 0⟩, ⟨7, 7, .ro, 0⟩, ⟨5, 4, .ro, 0⟩]⟩,
   ⟨"SPK_Z", 0x0E0060, [(0x1000, 8)], [⟨31, 31, .ro, 0⟩, ⟨30, 23, .ro, 0⟩, ⟨22, 0, .ro, 0⟩]⟩,
   ⟨"SPK_PWR", 0x0E0064, [(0x1000, 8)], [⟨31, 31, .ro, 0⟩, ⟨30, 23, .ro, 0⟩, ⟨22, 0, .ro, 0⟩]⟩,
   ⟨"SPK_TEMP", 0x0E0068, [(0x1000, 8)], [⟨31, 31, .ro, 0⟩, ⟨30, 23, .ro, 0⟩, ⟨15, 8, .ro, 0⟩, ⟨7, 0, .ro, 0⟩]⟩,
   ⟨"SPK_RBE", 0x0E006C, [(0x1000, 8)], [⟨31, 31, .ro, 0⟩, ⟨30, 23, .ro, 0⟩, ⟨22, 0, .ro, 0⟩]⟩,
   ⟨"SPK_CNT1", 0x0E0070, [(0x1000, 8)], [⟨31, 31, .ro, 0⟩, ⟨30, 16, .ro, 0⟩, ⟨15, 15, .ro, 0⟩, ⟨14, 0, .ro, 0⟩]⟩,
   ⟨"SPK_CNT2", 0x0E0074, [(0x1000, 8)], [⟨31, 31, .ro, 0⟩, ⟨30, 16, .ro, 0⟩, ⟨15, 15, .ro, 0⟩, ⟨14, 0, .ro, 0⟩]⟩]

/-- Registers of BST. -/
def rowsBST : List RegRow :=
  [⟨"BST_CFG", 0x0F0040, [], [⟨22, 16, .st, 0⟩, ⟨15, 8, .st, 0xFF⟩, ⟨2, 2, .st, 1⟩, ⟨0, 0, .st, 0⟩]⟩,
   ⟨"BST_TRACK", 0x0F0044, [], [⟨23, 16, .st, 5⟩, ⟨11, 8, .st, 8⟩, ⟨7, 0, .st, 0x1E⟩]⟩,
   ⟨"BST_BOUND", 0x0F0048, [], [⟨24, 16, .st, 0x168⟩, ⟨8, 0, .st, 0x50⟩]⟩,
   ⟨"BST_HB", 0x0F004C, [], [⟨31, 24, .lk, 0xC8⟩, ⟨23, 16, .lk, 0x14⟩, ⟨8, 0, .lk, 0x168⟩]⟩,
   ⟨"BST_RB_CFG", 0x0F0050, [], [⟨15, 15, .rw, 0⟩, ⟨14, 8, .rw, 5⟩, ⟨3, 0, .rw, 3⟩]⟩,
   ⟨"BST_STAT", 0x0F0054, [], [⟨17, 17, .ro, 0⟩, ⟨16, 16, .ro, 0⟩, ⟨15, 15, .ro, 0⟩, ⟨14, 14, .ro, 0⟩, ⟨13, 13, .ro, 0⟩, ⟨12, 12, .ro, 0⟩, ⟨11, 8, .ro, 0⟩, ⟨7, 4, .ro, 0⟩, ⟨3, 0, .ro, 0⟩]⟩,
   ⟨"BST_PVDD", 0x0F0058, [], [⟨31, 31, .ro, 0⟩, ⟨30, 23, .ro, 0⟩, ⟨22, 0, .ro, 0⟩]⟩,
   ⟨"BST_IIN", 0x0F005C, [], [⟨31, 31, .ro, 0⟩, ⟨30, 23, .ro, 0⟩, ⟨22, 0, .ro, 0⟩]⟩,
   ⟨"BST_TEMP", 0x0F0060, [], [⟨31, 31, .ro, 0⟩, ⟨30, 23, .ro, 0⟩, ⟨7, 0, .ro, 0⟩]⟩,
   ⟨"BST_RBE", 0x0F0064, [], [⟨31, 31, .ro, 0⟩, ⟨30, 23, .ro, 0⟩, ⟨22, 0, .ro, 0⟩]⟩,
   ⟨"BST_CNT1", 0x0F0068, [], [⟨31, 31, .ro, 0⟩, ⟨30, 16, .ro, 0⟩, ⟨15, 15, .ro, 0⟩, ⟨14, 0, .ro, 0⟩]⟩,
   ⟨"BST_CNT2", 0x0F006C, [], [⟨31, 31, .ro, 0⟩, ⟨30, 16, .ro, 0⟩, ⟨15, 15, .ro, 0⟩, ⟨14, 0, .ro, 0⟩]⟩,
   ⟨"BST_CLIPMAP", 0x0F0070, [], [⟨7, 0, .ro, 0⟩]⟩,
   ⟨"BST_CTRL", 0x0F0074, [], [⟨0, 0, .wo, 0⟩]⟩]

/-- Registers of QMG. -/
def rowsQMG : List RegRow :=
  [⟨"QMG_POOL", 0x100040, [], [⟨16, 0, .ro, 0x10000⟩]⟩,
   ⟨"QMG_SHARED", 0x100044, [], [⟨16, 0, .ro, 0x10000⟩]⟩,
   ⟨"QMG_SHFREE", 0x100048, [], [⟨16, 0, .ro, 0x10000⟩]⟩,
   ⟨"QMG_LOAD", 0x10004C, [], [⟨13, 0, .ro, 0⟩]⟩,
   ⟨"QMG_HOSTX", 0x100050, [], [⟨16, 0, .ro, 0⟩]⟩,
   ⟨"QMG_CNT1", 0x100054, [], [⟨31, 31, .ro, 0⟩, ⟨30, 16, .ro, 0⟩, ⟨15, 15, .ro, 0⟩, ⟨14, 0, .ro, 0⟩]⟩,
   ⟨"QMG_CNT2", 0x100058, [], [⟨31, 31, .ro, 0⟩, ⟨30, 16, .ro, 0⟩, ⟨15, 15, .ro, 0⟩, ⟨14, 0, .ro, 0⟩]⟩,
   ⟨"QMG_CNT3", 0x10005C, [], [⟨31, 31, .ro, 0⟩, ⟨30, 16, .ro, 0⟩, ⟨15, 15, .ro, 0⟩, ⟨14, 0, .ro, 0⟩]⟩,
   ⟨"QMG_STAT", 0x100060, [], [⟨1, 1, .ro, 0⟩, ⟨0, 0, .ro, 0⟩]⟩,
   ⟨"QMG_QSEL", 0x100064, [], [⟨11, 0, .rw, 0⟩]⟩,
   ⟨"QMG_QCMD", 0x100084, [], [⟨2, 0, .wo, 0⟩]⟩,
   ⟨"WP_CFG", 0x102100, [(0x4, 64)], [⟨31, 31, .st, 0⟩, ⟨27, 16, .st, 0⟩, ⟨15, 15, .st, 0⟩, ⟨11, 0, .st, 0⟩]⟩]

/-- Registers of NET. -/
def rowsNET : List RegRow :=
  [⟨"NET_MAC_LO", 0x110040, [], [⟨31, 0, .rw, 0⟩]⟩,
   ⟨"NET_MAC_HI", 0x110044, [], [⟨15, 0, .rw, 0⟩]⟩,
   ⟨"NET_CLASS", 0x110048, [], [⟨31, 24, .st, 0x80⟩, ⟨23, 0, .st, 0xFAC688⟩]⟩,
   ⟨"NET_BR_CFG", 0x11004C, [], [⟨31, 16, .rw, 0x12C⟩, ⟨15, 8, .rw, 0xA⟩, ⟨0, 0, .rw, 1⟩]⟩,
   ⟨"NET_FLOOD", 0x110050, [], [⟨12, 8, .st, 0x1F⟩, ⟨4, 0, .st, 0x1F⟩]⟩,
   ⟨"NET_BR_STAT", 0x110054, [], [⟨14, 0, .ro, 0⟩]⟩,
   ⟨"NET_BR_CNT1", 0x110058, [], [⟨31, 31, .ro, 0⟩, ⟨30, 16, .ro, 0⟩, ⟨15, 15, .ro, 0⟩, ⟨14, 0, .ro, 0⟩]⟩,
   ⟨"NET_BR_CNT2", 0x11005C, [], [⟨31, 31, .ro, 0⟩, ⟨30, 16, .ro, 0⟩, ⟨15, 15, .ro, 0⟩, ⟨14, 0, .ro, 0⟩]⟩,
   ⟨"NET_TBL_CMD", 0x110060, [], [⟨10, 8, .wo, 0⟩, ⟨2, 0, .wo, 0⟩]⟩,
   ⟨"NET_TBL_MAC_LO", 0x110064, [], [⟨31, 0, .rw, 0⟩]⟩,
   ⟨"NET_TBL_MAC_HI", 0x110068, [], [⟨15, 0, .rw, 0⟩]⟩,
   ⟨"NET_TBL_RES", 0x11006C, [], [⟨31, 31, .ro, 0⟩, ⟨30, 23, .ro, 0⟩, ⟨22, 22, .ro, 0⟩, ⟨21, 21, .ro, 0⟩, ⟨20, 18, .ro, 0⟩, ⟨17, 17, .ro, 0⟩, ⟨15, 0, .ro, 0⟩]⟩,
   ⟨"PORT_CFG", 0x111040, [(0x1000, 5)], [⟨31, 30, .st, 0⟩, ⟨29, 16, .st, 0x5F2⟩, ⟨15, 8, .st, 0x64⟩, ⟨5, 5, .st, 1⟩, ⟨1, 0, .st, 0⟩]⟩,
   ⟨"PORT_TAG", 0x111044, [(0x1000, 5)], [⟨31, 30, .st, 0⟩, ⟨29, 29, .st, 1⟩, ⟨15, 13, .st, 0⟩, ⟨11, 0, .st, 1⟩]⟩,
   ⟨"PORT_PREEMPT", 0x111048, [(0x1000, 4)], [⟨31, 31, .st, 0⟩, ⟨30, 30, .st, 1⟩, ⟨29, 28, .st, 0⟩, ⟨15, 8, .st, 0xA⟩, ⟨7, 0, .st, 0⟩]⟩,
   ⟨"PORT_STAT", 0x111050, [(0x1000, 5)], [⟨31, 31, .ro, 0⟩, ⟨30, 29, .ro, 0⟩, ⟨28, 28, .ro, 0⟩, ⟨27, 26, .ro, 0⟩, ⟨25, 25, .ro, 0⟩, ⟨24, 24, .ro, 0⟩, ⟨23, 23, .ro, 0⟩]⟩,
   ⟨"PORT_RXQ", 0x111054, [(0x1000, 5)], [⟨31, 31, .st, 0⟩, ⟨11, 0, .st, 0⟩]⟩,
   ⟨"PORT_EQ", 0x111060, [(0x1000, 5), (0x4, 8)], [⟨31, 16, .st, 0⟩, ⟨15, 15, .st, 0⟩, ⟨11, 0, .st, 0⟩]⟩,
   ⟨"PORT_SHAPE", 0x111080, [(0x1000, 5), (0x4, 8)], [⟨31, 16, .lk, 0xFFFF⟩, ⟨15, 0, .lk, 0xFFFF⟩]⟩,
   ⟨"PORT_CNT0", 0x1110A0, [(0x1000, 5)], [⟨31, 31, .ro, 0⟩, ⟨30, 16, .ro, 0⟩, ⟨15, 15, .ro, 0⟩, ⟨14, 0, .ro, 0⟩]⟩,
   ⟨"PORT_CNT1", 0x1110A4, [(0x1000, 5)], [⟨31, 31, .ro, 0⟩, ⟨30, 16, .ro, 0⟩, ⟨15, 15, .ro, 0⟩, ⟨14, 0, .ro, 0⟩]⟩,
   ⟨"PORT_CNT2", 0x1110A8, [(0x1000, 5)], [⟨31, 31, .ro, 0⟩, ⟨30, 16, .ro, 0⟩, ⟨15, 15, .ro, 0⟩, ⟨14, 0, .ro, 0⟩]⟩,
   ⟨"PORT_CNT3", 0x1110AC, [(0x1000, 5)], [⟨31, 31, .ro, 0⟩, ⟨30, 16, .ro, 0⟩, ⟨15, 15, .ro, 0⟩, ⟨14, 0, .ro, 0⟩]⟩,
   ⟨"PORT_CNT4", 0x1110B0, [(0x1000, 5)], [⟨31, 31, .ro, 0⟩, ⟨30, 16, .ro, 0⟩, ⟨15, 15, .ro, 0⟩, ⟨14, 0, .ro, 0⟩]⟩,
   ⟨"PORT_CNT5", 0x1110B4, [(0x1000, 5)], [⟨31, 31, .ro, 0⟩, ⟨30, 16, .ro, 0⟩, ⟨15, 15, .ro, 0⟩, ⟨14, 0, .ro, 0⟩]⟩,
   ⟨"PORT_CNT6", 0x1110B8, [(0x1000, 5)], [⟨31, 31, .ro, 0⟩, ⟨30, 16, .ro, 0⟩, ⟨15, 15, .ro, 0⟩, ⟨14, 0, .ro, 0⟩]⟩,
   ⟨"PORT_CNT7", 0x1110BC, [(0x1000, 5)], [⟨31, 31, .ro, 0⟩, ⟨30, 16, .ro, 0⟩, ⟨15, 15, .ro, 0⟩, ⟨14, 0, .ro, 0⟩]⟩,
   ⟨"NET_HASH", 0x116100, [(0x200, 5), (0x4, 128)], [⟨31, 0, .rw, 0⟩]⟩]

/-- Registers of ZKL. -/
def rowsZKL : List RegRow :=
  [⟨"ZKL_NODE", 0x120040, [], [⟨23, 16, .st, 0⟩, ⟨13, 0, .st, 0⟩]⟩,
   ⟨"ZKL_ETYPE", 0x120044, [], [⟨15, 0, .st, 0x88B5⟩]⟩,
   ⟨"ZKL_RXQ", 0x120048, [], [⟨31, 31, .st, 0⟩, ⟨11, 0, .st, 0⟩]⟩,
   ⟨"ZKL_CNT", 0x12004C, [], [⟨31, 31, .ro, 0⟩, ⟨30, 16, .ro, 0⟩, ⟨15, 15, .ro, 0⟩, ⟨14, 8, .ro, 0⟩, ⟨7, 7, .ro, 0⟩, ⟨6, 0, .ro, 0⟩]⟩,
   ⟨"TX_CFG", 0x120100, [(0x20, 64)], [⟨31, 31, .st, 0⟩, ⟨30, 30, .st, 0⟩, ⟨29, 28, .st, 0⟩, ⟨27, 25, .st, 7⟩, ⟨19, 16, .st, 0⟩, ⟨14, 8, .st, 0⟩, ⟨7, 0, .st, 0⟩]⟩,
   ⟨"TX_TIME", 0x120104, [(0x20, 64)], [⟨31, 16, .st, 0⟩, ⟨12, 0, .st, 0⟩]⟩,
   ⟨"TX_DA_LO", 0x120108, [(0x20, 64)], [⟨31, 0, .st, 0⟩]⟩,
   ⟨"TX_DA_HI", 0x12010C, [(0x20, 64)], [⟨27, 16, .st, 1⟩, ⟨15, 0, .st, 0⟩]⟩,
   ⟨"TX_CTRL", 0x120110, [(0x20, 64)], [⟨31, 31, .st, 0⟩, ⟨11, 0, .st, 0⟩]⟩,
   ⟨"TX_CNT", 0x120114, [(0x20, 64)], [⟨31, 31, .ro, 0⟩, ⟨30, 16, .ro, 0⟩, ⟨15, 15, .ro, 0⟩, ⟨14, 8, .ro, 0⟩, ⟨7, 7, .ro, 0⟩, ⟨6, 0, .ro, 0⟩]⟩,
   ⟨"TX_STAT", 0x120118, [(0x20, 64)], [⟨31, 0, .ro, 0⟩]⟩,
   ⟨"TX_TSTATE", 0x12011C, [(0x20, 64)], [⟨1, 0, .ro, 0⟩]⟩,
   ⟨"RX_CFG", 0x121100, [(0x20, 64)], [⟨31, 31, .st, 0⟩, ⟨30, 30, .st, 0⟩, ⟨29, 28, .st, 0⟩, ⟨23, 16, .st, 0⟩, ⟨14, 8, .st, 0⟩, ⟨7, 0, .st, 0⟩]⟩,
   ⟨"RX_ID", 0x121104, [(0x20, 64)], [⟨29, 16, .st, 0⟩, ⟨7, 0, .st, 0⟩]⟩,
   ⟨"RX_CTL", 0x121108, [(0x20, 64)], [⟨27, 16, .st, 0⟩, ⟨15, 8, .st, 4⟩]⟩,
   ⟨"RX_STAT", 0x12110C, [(0x20, 64)], [⟨31, 16, .ro, 0⟩, ⟨2, 0, .ro, 0⟩]⟩,
   ⟨"RX_CNT1", 0x121110, [(0x20, 64)], [⟨31, 31, .ro, 0⟩, ⟨30, 16, .ro, 0⟩, ⟨15, 15, .ro, 0⟩, ⟨14, 0, .ro, 0⟩]⟩,
   ⟨"RX_CNT2", 0x121114, [(0x20, 64)], [⟨31, 31, .ro, 0⟩, ⟨30, 16, .ro, 0⟩, ⟨15, 15, .ro, 0⟩, ⟨14, 0, .ro, 0⟩]⟩,
   ⟨"RX_CNT3", 0x121118, [(0x20, 64)], [⟨31, 31, .ro, 0⟩, ⟨30, 16, .ro, 0⟩, ⟨15, 15, .ro, 0⟩, ⟨14, 8, .ro, 0⟩, ⟨7, 7, .ro, 0⟩, ⟨6, 0, .ro, 0⟩]⟩]

/-- Registers of WIN. -/
def rowsWIN : List RegRow :=
  [⟨"WP_END", 0x800C00, [(0x1000, 64)], [⟨31, 31, .wo, 0⟩, ⟨1, 0, .wo, 0⟩]⟩,
   ⟨"WP_WSTAT", 0x800C04, [(0x1000, 64)], [⟨31, 31, .ro, 0⟩, ⟨30, 16, .ro, 0⟩, ⟨14, 0, .ro, 0⟩]⟩,
   ⟨"WP_RSTAT", 0x800C08, [(0x1000, 64)], [⟨31, 31, .ro, 0⟩, ⟨30, 30, .ro, 0⟩, ⟨29, 29, .ro, 0⟩, ⟨28, 28, .ro, 0⟩, ⟨27, 27, .ro, 0⟩, ⟨15, 0, .ro, 0⟩]⟩,
   ⟨"WP_RCTRL", 0x800C0C, [(0x1000, 64)], [⟨0, 0, .wo, 0⟩]⟩,
   ⟨"WP_CNT", 0x800C10, [(0x1000, 64)], [⟨31, 31, .ro, 0⟩, ⟨30, 16, .ro, 0⟩, ⟨15, 15, .ro, 0⟩, ⟨14, 0, .ro, 0⟩]⟩]

/-- Registers of QBANK. -/
def rowsQBANK : List RegRow :=
  [⟨"QMG_QCFG", 0x1000000, [(0x20, 4096)], [⟨31, 31, .st, 0⟩, ⟨24, 17, .st, 2⟩, ⟨16, 0, .st, 0x100⟩]⟩,
   ⟨"QMG_QWM", 0x1000004, [(0x20, 4096)], [⟨31, 16, .st, 0⟩, ⟨15, 0, .st, 0⟩]⟩,
   ⟨"QMG_QCT", 0x1000008, [(0x20, 4096)], [⟨15, 0, .st, 0⟩]⟩,
   ⟨"QMG_QSTAT", 0x100000C, [(0x20, 4096)], [⟨31, 31, .ro, 0⟩, ⟨30, 30, .ro, 0⟩, ⟨29, 28, .ro, 3⟩, ⟨27, 27, .ro, 0⟩, ⟨26, 26, .ro, 0⟩, ⟨16, 0, .ro, 0⟩]⟩,
   ⟨"QMG_QSIG", 0x1000010, [(0x20, 4096)], [⟨16, 0, .ro, 0⟩]⟩,
   ⟨"QMG_QBM", 0x1000014, [(0x20, 4096)], [⟨16, 0, .ro, 0⟩]⟩,
   ⟨"QMG_QCNT", 0x1000018, [(0x20, 4096)], [⟨31, 31, .ro, 0⟩, ⟨30, 16, .ro, 0⟩, ⟨15, 15, .ro, 0⟩, ⟨14, 0, .ro, 0⟩]⟩]

/-- The rows that can hold the register at byte address `a` (R496). -/
def rowsAt (a : Nat) : List RegRow :=
  let p := a >>> 12
  if p = 0x000 then rowsID else if p = 0x001 then rowsPRESS else if p = 0x002 then rowsFLT
  else if p = 0x003 then rowsPWR else if p = 0x004 then rowsCLK else if p = 0x005 then rowsTIME
  else if p = 0x006 then rowsHOST else if p = 0x007 then rowsPERI else if p = 0x008 then rowsNVM
  else if p = 0x009 then rowsMBOX
  else
    let b := a >>> 16
    if b = 0x01 then rowsAIN else if b = 0x02 then rowsAIN else if b = 0x03 then rowsFCH
    else if b = 0x04 then rowsSVC else if b = 0x05 then rowsSAP else if b = 0x06 then rowsPDM
    else if b = 0x07 then rowsSRC else if b = 0x08 then rowsSPN else if b = 0x09 then rowsMIX
    else if b = 0x0A then rowsFX else if b = 0x0B then rowsOUT else if b = 0x0C then rowsJACK
    else if b = 0x0D then rowsCV else if b = 0x0E then rowsSPK else if b = 0x0F then rowsBST
    else if b = 0x10 then rowsQMG else if b = 0x11 then rowsNET else if b = 0x12 then rowsZKL
    else if b < 0x80 then [] else if b < 0x84 then rowsWIN
    else if b < 0x100 then [] else if b < 0x102 then rowsQBANK else []

/-- The register row at byte address `a`, where the spec lists a register there. -/
def regAt (a : Nat) : Option RegRow := (rowsAt a).find? (fun r => r.holds a)

end Sys2Proof.Machine
end

