-- ==== Sys2Proof/Machine/Pages.lean ====
section
/-!
DEFINITION. The register pages (R26, R27, R495-R497): which are in use, their block codes and instances, the header
registers, and the word every register holds after reset.
-/

namespace Sys2Proof.Machine

namespace Pg

def id : Nat := 0x000
def press : Nat := 0x001
def flt : Nat := 0x002
def pwr : Nat := 0x003
def clk : Nat := 0x004
def time : Nat := 0x005
def host : Nat := 0x006
def peri : Nat := 0x007
def nvm : Nat := 0x008
def mbox : Nat := 0x009
def ain (n : Nat) : Nat := 0x010 + n
def fchAudio (d : Nat) : Nat := 0x030 + d / 6
def fchCtl (c : Nat) : Nat := 0x038 + c / 8
def fchEvt : Nat := 0x03C
def svc : Nat := 0x040
def sap (p : Nat) : Nat := 0x050 + p
def pdm : Nat := 0x060
def spdi (n : Nat) : Nat := 0x061 + n
def spdo : Nat := 0x065
def src : Nat := 0x070
def spn : Nat := 0x080
def mix : Nat := 0x090
def fx : Nat := 0x0A0
def out : Nat := 0x0B0
def jack : Nat := 0x0C0
def cv : Nat := 0x0D0
def spk (n : Nat) : Nat := 0x0E0 + n
def bst : Nat := 0x0F0
def qmg : Nat := 0x100
def net : Nat := 0x110
def port (p : Nat) : Nat := 0x111 + p
def zkl : Nat := 0x120
def zklRx : Nat := 0x121

end Pg

/-- Whether the page of index `p` is in use and has the common header (R496). -/
def pageInUse (p : Nat) : Bool :=
  p < 0x00A || (0x010 ≤ p && p < 0x03D) || p == 0x040 || (0x050 ≤ p && p < 0x066) || p == 0x070
    || (0x080 ≤ p && p < 0x086) || (0x090 ≤ p && p < 0x094) || (0x0A0 ≤ p && p < 0x0A9) || p == 0x0B0 || p == 0x0C0
    || p == 0x0D0 || (0x0E0 ≤ p && p < 0x0E8) || p == 0x0F0 || (0x100 ≤ p && p < 0x103) || (0x110 ≤ p && p < 0x117)
    || (0x120 ≤ p && p < 0x122)

/-- The pages in use, in rising order. -/
def pagesInUse : List Nat := (List.range 0x122).filter pageInUse

/-- The block code of a page (R27). -/
def blockCode (p : Nat) : Nat :=
  if p < 0x010 then p else if p < 0x030 then 0x11 else 0x10 + p / 16

/-- The instance field of a page's PG_ID: the channel or port of an AIN, SAP or SPK page, else the page number within
its block. -/
def pageInstance (p : Nat) : Nat :=
  if p < 0x010 then 0 else if p < 0x030 then p - 0x010 else p % 16

/-- Whether byte address `a` lies in the header of a page in use (R497). -/
def inHeader (a : Nat) : Bool := pageInUse (a >>> 12) && decide (a % 0x1000 < 0x028)

/-- The header registers of R497, at their page offsets. -/
def headerRows : List RegRow :=
  [⟨"PG_ID", 0x000, [], [⟨23, 16, .ro, 1⟩, ⟨15, 8, .ro, 0⟩, ⟨5, 0, .ro, 0⟩]⟩,
   ⟨"PG_STATE", 0x004, [], [⟨11, 11, .ro, 0⟩, ⟨10, 8, .ro, 0⟩, ⟨6, 4, .ro, 0⟩, ⟨0, 0, .ro, 0⟩]⟩,
   ⟨"PG_CTRL", 0x008, [], [⟨2, 2, .rw, 0⟩, ⟨1, 1, .wo, 0⟩, ⟨0, 0, .wo, 0⟩]⟩,
   ⟨"PG_FAULT", 0x00C, [], [⟨31, 16, .ro, 0⟩, ⟨15, 15, .ro, 0⟩, ⟨14, 0, .ro, 0⟩]⟩,
   ⟨"PG_INT_STAT", 0x010, [], [⟨31, 31, .w1c, 0⟩, ⟨30, 0, .w1c, 0⟩]⟩,
   ⟨"PG_INT_EN", 0x014, [], [⟨31, 0, .rw, 0⟩]⟩,
   ⟨"PG_INT_ROUTE", 0x018, [], [⟨1, 0, .rw, 0⟩]⟩,
   ⟨"PG_LOCK", 0x01C, [], [⟨0, 0, .otw, 0⟩]⟩,
   ⟨"PG_VIOL", 0x020, [], [⟨31, 31, .ro, 0⟩, ⟨30, 28, .ro, 0⟩, ⟨27, 16, .ro, 0⟩, ⟨15, 0, .ro, 0⟩]⟩,
   ⟨"PG_STAGE", 0x024, [], [⟨31, 31, .ro, 0⟩, ⟨23, 16, .ro, 0⟩, ⟨3, 0, .ro, 0⟩]⟩]

/-- The register row at byte address `a`, a header row included. -/
def rowOf (a : Nat) : Option RegRow :=
  if inHeader a then headerRows.find? (fun r => r.base == a % 0x1000) else regAt a

/-- PG_ID of page `p` (R497). -/
def pgIdWord (p : Nat) : Word := BitVec.ofNat 32 (0x10000 + pageInstance p * 0x100 + blockCode p)

/-- The OTP words of a part's identity (R500, R445): 0 and 1 the serial number, 2 the grade, 3 and 4 the low and the high word of its
MAC address; each part has its own (log entry 3). -/
def serialWord (i : Nat) : Word := BitVec.ofInt 32 (Config.real "identity" [(i : Int)])

/-- What the register at byte address `a` holds after reset; 0 where the spec lists none (R489). NET_MAC comes from the OTP. -/
def resetWord (a : Nat) : Word :=
  if inHeader a && a % 0x1000 == 0 then pgIdWord (a >>> 12)
  else if a = 0x110040 then serialWord 3
  else if a = 0x110044 then serialWord 4 &&& 0xFFFF
  else match rowOf a with
    | some r => r.resetWord
    | none => 0

/-- The header fields of page `p`. -/
def F.pgState (p : Nat) : Fld := ⟨p * 0x1000 + 0x004, 6, 4⟩
def F.pgMgmtView (p : Nat) : Fld := ⟨p * 0x1000 + 0x004, 10, 8⟩
def F.pgViewMismatch (p : Nat) : Fld := ⟨p * 0x1000 + 0x004, 11, 11⟩
def F.pgReady (p : Nat) : Fld := ⟨p * 0x1000 + 0x004, 0, 0⟩
def F.pgViewLive (p : Nat) : Fld := ⟨p * 0x1000 + 0x008, 2, 2⟩
def F.pgLastCode (p : Nat) : Fld := ⟨p * 0x1000 + 0x00C, 31, 16⟩
def F.pgFltSat (p : Nat) : Fld := ⟨p * 0x1000 + 0x00C, 15, 15⟩
def F.pgFltCnt (p : Nat) : Fld := ⟨p * 0x1000 + 0x00C, 14, 0⟩
def F.pgInt (p k : Nat) : Fld := ⟨p * 0x1000 + 0x010, k, k⟩
def F.pgIntEn (p : Nat) : Fld := ⟨p * 0x1000 + 0x014, 31, 0⟩
def F.pgIntPin (p : Nat) : Fld := ⟨p * 0x1000 + 0x018, 1, 0⟩
def F.pgLock (p : Nat) : Fld := ⟨p * 0x1000 + 0x01C, 0, 0⟩
def F.pgViolSat (p : Nat) : Fld := ⟨p * 0x1000 + 0x020, 31, 31⟩
def F.pgViolKind (p : Nat) : Fld := ⟨p * 0x1000 + 0x020, 30, 28⟩
def F.pgViolOfs (p : Nat) : Fld := ⟨p * 0x1000 + 0x020, 27, 16⟩
def F.pgViol (p : Nat) : Fld := ⟨p * 0x1000 + 0x020, 15, 0⟩
def F.pgPend (p : Nat) : Fld := ⟨p * 0x1000 + 0x024, 31, 31⟩
def F.pgVseq (p : Nat) : Fld := ⟨p * 0x1000 + 0x024, 23, 16⟩
def F.pgVerdict (p : Nat) : Fld := ⟨p * 0x1000 + 0x024, 3, 0⟩

end Sys2Proof.Machine
end

