-- ==== Sys2Proof/Machine/Ramp.lean ====
section
/-!
DEFINITION. The weights of ramps and crossfades: a position on a raised cosine (or a line) and the way it moves.
-/

namespace Sys2Proof.Machine

/-- A weight that moves between 0 (position 0) and 1 (position `len`), one position per value. -/
structure Ramp where
  pos : Nat := 0
  len : Nat := 0
  up : Bool := false
  deriving DecidableEq, Repr

/-- A weight at rest at 1. -/
def rampAt1 : Ramp := { pos := 0, len := 0, up := true }

/-- Whether the weight rests at one of its ends. -/
def rampRests (r : Ramp) : Bool := if r.up then r.pos ≥ r.len else r.pos == 0

/-- Whether the weight stands at 1 and stays there. -/
def rampFull (r : Ramp) : Bool := r.up && decide (r.len ≤ r.pos)

/-- The weight in units of 2^-27: a raised cosine, exact at its ends (interior values are open, log entry 2). -/
def rampWeight (r : Ramp) : Nat :=
  if r.len ≤ r.pos then (if r.len = 0 && !r.up then 0 else 2 ^ 27)
  else if r.pos = 0 then 0 else Config.rcos r.pos r.len

/-- The weight of a straight line, in units of 2^-27. -/
def rampLine (r : Ramp) : Nat :=
  if r.len ≤ r.pos then (if r.len = 0 && !r.up then 0 else 2 ^ 27) else r.pos * 2 ^ 27 / r.len

/-- Send the weight towards 1 (`up`) or 0 over `len` values; one already under way reverses from where it stands. -/
def rampGo (up : Bool) (len : Nat) (r : Ramp) : Ramp :=
  if r.up = up then r
  else if rampRests r then { pos := if up then 0 else len, len := len, up := up }
  else { r with up := up }

/-- The weight one value later. -/
def rampStep (r : Ramp) : Ramp :=
  if r.up then { r with pos := min r.len (r.pos + 1) } else { r with pos := r.pos - 1 }

/-- The weight at the end it was on its way to. -/
def rampEnd (r : Ramp) : Ramp := { r with pos := if r.up then r.len else 0 }

/-- A value on its way to another, one step on: how far it moves is open, that it does not pass its goal is not (log entry 3). -/
def stepTo (name : String) (v goal : Int) : Int := clampInt (min v goal) (max v goal) (Config.real name [v, goal])

end Sys2Proof.Machine
end

