-- ==== Sys2Proof/Machine/Parts.lean ====
section
/-!
DEFINITION. The parts of the state that no register shows whole: queues, links, logs, ramps and counters of each block.
-/

namespace Sys2Proof.Machine

/-- Where the part stands between reset and operation (R68, R76, R575). -/
inductive Phase where
  /-- RESET_N low, or a reset rail down. -/
  | held
  /-- RESET_N high, PLL_C searching for its band; no tick yet. -/
  | searching
  /-- The tick runs. -/
  | running
  deriving DecidableEq, Repr

/-- A check report on its way to the fault manager (R532). -/
structure Report where
  code : Nat
  inst : Nat
  action : Nat
  flags : Nat := 0
  deriving DecidableEq, Repr

/-- One record of the fault log (R533). -/
structure LogRec where
  tick : Nat := 0
  cyc : Nat := 0
  flags : Nat := 0
  code : Nat := 0
  inst : Nat := 0
  action : Nat := 0
  rep : Nat := 1
  sent : Bool := false
  deriving DecidableEq, Repr

/-- Why an isolation bit is set (FLT_ISO_WHY): the fault's code, may return on its own, set by the host. -/
structure IsoWhy where
  code : Nat := 0
  auto : Bool := false
  host : Bool := false
  deriving DecidableEq, Repr

/-- A producer of a queue: its rank (R405), its kind and its unit (R398). -/
structure Prod where
  rank : Nat
  kind : Nat
  unit : Nat
  deriving DecidableEq, Repr

/-- A signature and its descriptor (R35, R398, R399). `words` are the words written so far; `cells` is the chain of
its cells; `left` of them have been read past, of which `gone` are free again; `bad` are its quires beyond repair. -/
structure Sig where
  prod : Prod
  tick : Nat
  cyc : Nat
  words : List Word := []
  len : Nat := 0
  closed : Bool := false
  err : Bool := false
  trunc : Bool := false
  replayed : Bool := false
  cells : List Nat := []
  left : Nat := 0
  gone : Nat := 0
  ct : Nat := 0
  shut : Nat := 0
  bad : List Nat := []
  deriving DecidableEq, Repr

/-- A queue (R400-R410). `sigs` are linked, head first; `rd` bytes of the head have been read; `behind` are read
completely since the bookmark; `opens` are open and not linked; `ended` producers write on to a signature that ended
under R404. -/
structure Queue where
  sigs : List Sig := []
  rd : Nat := 0
  behind : List Sig := []
  bm : Bool := false
  opens : List Sig := []
  ended : List Prod := []
  occ : Nat := 0
  deriving DecidableEq, Repr

/-- A cell request that waits (R406). -/
structure Wait where
  prod : Prod
  queue : Nat
  since : Nat
  /-- The words the producer holds back, and the DROP of its close where they end the signature. -/
  words : List Word := []
  close : Option Nat := none
  deriving DecidableEq, Repr

/-- The queue manager beside its registers. The free list is the cells `fresh` to 65,535 and then `returned`. -/
structure QmgSt where
  queues : SMap Queue := []
  fresh : Nat := 0
  returned : List Nat := []
  freeList : Nat := 65536
  freeState : Nat := 65536
  heldTotal : Nat := 0
  waits : List Wait := []
  /-- A sweep is under way, since the tick given (R414). -/
  sweep : Bool := false
  sweepAt : Nat := 0
  /-- A count check has failed and none has passed since. -/
  consFail : Bool := false
  faulted : Bool := false
  /-- Words and valid bytes of the quire the last consumer read delivered. -/
  quire : List Word := []
  vb : Nat := 0
  deriving DecidableEq, Repr

/-- The press engine (R503-R517). -/
structure PressSt where
  /-- 0 nothing in flight, 1 a COLLATE, 2 a PRESS. -/
  kind : Nat := 0
  /-- Tick in which the command landed. -/
  landed : Nat := 0
  target : Nat := 0
  byMc : Bool := false
  /-- The image has been taken. -/
  imaged : Bool := false
  s : Nat := 0
  /-- Sequence number of the last press announced (R514). -/
  seq : Nat := 0
  vmask : Nat := 0
  banksFrozen : Bool := false
  /-- Replies of the dies to the announced press: 1 ACK, 2 NACK (R514). -/
  replies : SMap Nat := []
  /-- Pressed words that wait for an apply point of their own (R517). -/
  later : SMap Word := []
  /-- The headband words as the tick before the pressed tick left them (R311, R337, R365, R519). -/
  hb : List (Nat × Word) := []
  deriving DecidableEq, Repr

/-- The fault manager beside its registers (R527-R549). -/
structure FltSt where
  reports : List Report := []
  log : List LogRec := []
  /-- Index in the log RAM of the newest record. -/
  head : Nat := 0
  first : Option LogRec := none
  last : Option LogRec := none
  /-- Causes of isolation, oldest first, of isolation bits 0-95: words 0, 1, 2 of 32 bits. -/
  why : SMap (List IsoWhy) := []
  /-- Automatic returns: trigger code and tick (R539). -/
  returns : List (Nat × Nat) := []
  /-- Dies (0 core, 1 converter, 2 power) above DIE_TWARN, in an episode of DIE_HOT, above 135 °C; since when one is cool. -/
  above : List Nat := []
  hot : List Nat := []
  crit : List Nat := []
  cool : SMap (Option Nat) := []
  self : Bool := false
  kickTick : Nat := 0
  wdResets : List Nat := []
  /-- Tick in which a watchdog reset of the management controller ends. -/
  mcUntil : Option Nat := none
  /-- Pages whose MGMT_VIEW the controller has written since it started, and the ticks a difference has lasted. -/
  viewSet : SMap Bool := []
  viewTicks : SMap Nat := []
  /-- Pages whose CONFIG fault of R494 has been logged in this tick: page and tick. -/
  configLogged : List (Nat × Nat) := []
  /-- A record waits for a cell of LOGQ. -/
  logWait : Bool := false
  deriving DecidableEq, Repr

/-- A restore test under way (R125, R145, R249, R259, R290, R305, R341, R370, R391): it ends at tick `due`. -/
structure RTest where
  unit : Nat
  idx : Nat
  kind : Nat := 0
  due : Nat
  deriving DecidableEq, Repr

/-- Clocks beside their registers (R62-R83). PLLs are numbered 0 C, 1 M, 2 P, 3 N; a PLL is 0 off, 1 locking, 2 locked,
3 failed. -/
structure ClkSt where
  refGood : Nat := 0
  nrefGood : Nat := 0
  /-- IOSC stands within 1 ppm of the source; the multiplexer waits for a close edge pair. -/
  waitPair : Bool := false
  searches : Nat := 0
  pll : SMap Nat := []
  /-- Automatic relocks that have failed in succession; none while the lock under way is not automatic. -/
  relock : SMap Nat := []
  auto : SMap Bool := []
  /-- PLLs that have locked since reset or since STANDBY. -/
  had : SMap Bool := []
  servoGood : Nat := 0
  atBound : Nat := 0
  /-- Tick at whose boundary a fractional divider last cleared its accumulator (R80). -/
  fdivStart : SMap Nat := []
  /-- PLL_C has unlocked: every sample carries T_SUB until reset (R76). -/
  lostC : Bool := false
  /-- A tick-clock error of R77 that the clock mute has not yet taken up. -/
  tickErr : Bool := false
  /-- Causes of PWR_RST_CAUSE set by the reset under way, logged once the fault manager is ready (R93). -/
  cause : Nat := 0
  /-- Tick from which the host ports answer (R479). -/
  portsTick : Nat := 0
  deriving DecidableEq, Repr

/-- Supplies and the core voltage loop beside their registers (R85-R102). -/
structure PwrSt where
  /-- A power-on reset has not been released yet. -/
  por : Bool := true
  /-- Comparator levels of VAH and PVIN, and PVIN above its overvoltage threshold. -/
  vah : Bool := true
  pvin : Bool := true
  pvinHigh : Bool := false
  full : Bool := true
  /-- VDDIO below the power-fail threshold, and a crossing that has not been logged yet (R92). -/
  vioLow : Bool := false
  vioNew : Bool := false
  /-- The power state a step under way leads to (R95). -/
  step : Option Nat := none
  minMargin : Option Nat := none
  down : Nat := 0
  /-- The loop waits for the regulator's transition until this tick (R98). -/
  await : Nat := 0
  /-- AVSBus transactions, the first under way: none a read, some a write of a target in mV. -/
  avs : List (Option Nat) := []
  avsFails : Nat := 0
  lastWrite : Nat := 0
  deriving DecidableEq, Repr

/-- A guarded engine: units that mismatched, FAULTED, and the weight its values ramp with (R145, R236, R259, R290). -/
structure Engine where
  bad : List Nat := []
  faulted : Bool := false
  w : Ramp := { pos := 0, len := 0, up := true }
  /-- Sources whose value of the next tick is withheld in this tick. -/
  held : List Nat := []
  /-- The last good value of each source of the engine. -/
  last : SMap Word := []
  deriving DecidableEq, Repr

/-- A merge-rate sample in the window of R114: the value of each path, whether it is valid there (R115), OVL of each path's
status, whether a path is invalid only because of a gain step, whether a path has failed there, and the PATH_FORCE that applies. -/
structure MergeIn where
  h : Int := 0
  l : Int := 0
  okH : Bool := true
  okL : Bool := true
  ovlH : Bool := false
  ovlL : Bool := false
  settle : Bool := false
  bad : Bool := false
  force : Nat := 0
  deriving DecidableEq, Repr

/-- One analog input behind its registers (R105-R126). -/
structure AinCh where
  /-- Mode of the input network, step of R107 (0 none, 1 ramp-down, 2 settling, 3 ramp-up), weight and end of step 2. -/
  mode : Nat := 0
  seq : Nat := 0
  w : Ramp := {}
  due : Nat := 0
  hOut : Bool := false
  lOut : Bool := false
  failed : Bool := false
  /-- The fault that a FAULTED channel failed with (R123, R124). -/
  code : Nat := 0
  /-- A disagreement continues on path L (R124, DIS_ACT = 0). -/
  disagree : Bool := false
  disRun : Nat := 0
  /-- Path H stands 27 dB down (R122), and it steps back up (R125). -/
  hDown : Bool := false
  stepUp : Bool := false
  /-- The merge (R114): 0 H, 1 L, 2 crossfade back to H; the weight of path L in that crossfade; samples of an H→L crossfade still to
  come and the weight it started from; samples below the return level. -/
  choice : Nat := 0
  xw : Ramp := {}
  toL : Nat := 0
  base : Nat := 0
  hold : Nat := 0
  /-- Samples bridged in the run under way, and the last valid merged value (R115). -/
  run : Nat := 0
  lastV : Int := 0
  /-- Modulator cycles of settling that a gain step leaves to the next frame, of path H and path L (R112). -/
  carryH : Nat := 0
  carryL : Nat := 0
  /-- The newest seven samples of path L before its trim (R117). -/
  lHist : List Int := []
  /-- The PATH_FORCE before the last change, and the first frame of the new one (R138). -/
  forceOld : Nat := 0
  forceAt : Nat := 0
  /-- The samples that have entered the merge window and are still to be merged, oldest first (R114). -/
  win : List MergeIn := []
  failW : Ramp := {}
  /-- Digital gains of PGA changes: first frame, step ΔG in dB, merge-rate samples to 0 dB (R106). -/
  glides : List (Nat × Int × Nat) := []
  conv : Nat := 0
  diverge : Nat := 0
  restG : Nat := 0
  restD : Nat := 0
  /-- Qualifying samples of the block under way (R117), and the core cycle of the host's last write of an offset (R120). -/
  qual : Nat := 0
  ofsAt : Option Nat := none
  /-- A fault or a disagreement in the restore test under way (R125). -/
  testBad : Bool := false
  deriving DecidableEq, Repr

/-- The analog inputs: channels, modulator status words as taken, bias outputs. -/
structure AinSt where
  ch : SMap AinCh := []
  statCur : SMap Nat := []
  micb : SMap Ramp := []
  /-- Bias outputs turned off by MICB_OC until MICB_EN is written 0 (R109). -/
  micbOff : SMap Bool := []
  deriving DecidableEq, Repr

/-- One audio decimator (R129, R138, R141): values still marked T_UNS, values since the start, ticks from and to which a scheduled mark
holds. -/
structure AudCh where
  uns : Nat := 0
  since : Nat := 0
  marks : List (Nat × Nat) := []
  xfade : Bool := false
  xf : Ramp := { pos := 0, len := 0, up := true }
  last : Word := 0
  /-- The input delay line, 2,048 merge-rate samples, newest first, and the places of its damaged samples (R129, R145). -/
  line : List Int := []
  bad : List Nat := []
  /-- The state of the high-pass stage (R134). -/
  hp : Int := 0
  deriving DecidableEq, Repr

/-- One threshold comparator beside FCH_CSTAT: the tick of the first value evaluated since UNDECIDED, and whether the
next crossing lies across a gap (R148, R152). -/
structure CompSt where
  since : Option Nat := none
  gap : Bool := true
  force : Option Nat := none
  deriving DecidableEq, Repr

/-- One control channel (R130, R131, R139-R151). -/
structure CtlCh where
  on : Bool := false
  n : Nat := 0
  /-- The raw input samples, newest first, the places of the damaged ones, and the instant of the newest in cycles (R130, R145, R152). -/
  hist : List Word := []
  bad : List Nat := []
  inT : Int := 0
  swap : Option Nat := none
  /-- Tick in which the next sample is expected; instants of the samples that were replaced and have not arrived (R131). -/
  expect : Nat := 0
  stalled : Bool := false
  stallTick : Nat := 0
  replaced : List Int := []
  /-- The last value computed, whatever its tag (R145). -/
  good : Word := 0
  /-- The last evaluated value: word, reference instant in cycles, its bank, whether the one before was of the other bank. -/
  y : Word := 0
  t : Int := 0
  has : Bool := false
  bank : Nat := 0
  swapped : Bool := false
  c0 : CompSt := {}
  c1 : CompSt := {}
  /-- An open peak span: values left, largest value, its stamp and its flags. -/
  peak : Option (Nat × Word × Int × Nat) := none
  lastVal : Option Int := none
  deriving DecidableEq, Repr

/-- A threshold record on its way to the event queue (R154, R155). -/
structure EvRec where
  ch : Nat
  stamp : Int
  kind : Nat
  flags : Nat
  val : Word
  deriving DecidableEq, Repr

/-- The filter chain. -/
structure FchSt where
  aud : SMap AudCh := []
  ctl : SMap CtlCh := []
  eng : Engine := {}
  events : List EvRec := []
  deriving DecidableEq, Repr

/-- A supervisory result: its sampling tick, its code, and whether it carries SUB, UNS or CLP (R165). -/
structure SvcVal where
  tick : Nat := 0
  code : Int := 0
  sub : Bool := false
  uns : Bool := false
  clp : Bool := false
  deriving DecidableEq, Repr

/-- A supervisory result on its way to the core die (R161): the take point it is due at, its converter and slot, what it
is (0 entry, 1 urgent, 2 rotation, 3 check), its index, its channel and alignment, and the source-change mark. -/
structure SvcRes where
  due : Nat
  conv : Nat
  slot : Nat
  kind : Nat
  idx : Nat
  ch : Nat
  left : Bool := false
  mark : Bool := false
  v : SvcVal
  deriving DecidableEq, Repr

/-- An accepted urgent request (R169): it is converted in its slot. -/
structure SvcUrg where
  tick : Nat
  slot : Nat
  ch : Nat
  ref : Nat
  left : Bool
  deriving DecidableEq, Repr

/-- The supervisory converters beside their registers (R158-R177). Converters are 0 SVA, 1 SVB; entries have the key
64 × converter + entry, rotation indices 128 + index. -/
structure SvcSt where
  outA : Bool := false
  outB : Bool := false
  /-- Tick in which a converter was taken out. -/
  outTickA : Nat := 0
  outTickB : Nat := 0
  susp : Bool := false
  /-- A converter, or the comparison, that passed its restore test returns at the next frame start. -/
  backA : Bool := false
  backB : Bool := false
  backC : Bool := false
  /-- A miss has occurred in the restore test under way. -/
  missed : Bool := false
  /-- The last verdict and its tick; the tick of the last passed check. -/
  verdict : Nat := 0
  verdictTick : Nat := 0
  /-- For each converter, the tick of the last check that it passed (R173). -/
  passA : Nat := 0
  passB : Nat := 0
  /-- Both converters were taken out by one verdict (R172, R175). -/
  both : Bool := false
  /-- What the core die has been told: a converter is out, the comparison is suspended (R173, R174). -/
  seenA : Bool := false
  seenB : Bool := false
  seenC : Bool := false
  extLost : Bool := false
  /-- First tick in which INT may be settled, once the converter die's control clock runs, tick in which VREFX last left its window, last tick with VAH_OK = 0 (R163). -/
  intFrom : Option Nat := none
  extAt : Option Nat := none
  supAt : Option Nat := none
  last : SMap SvcVal := []
  prev : SMap SvcVal := []
  good : SMap SvcVal := []
  marks : SMap Bool := []
  /-- The next rotation index of each converter. -/
  rotA : Nat := 0
  rotB : Nat := 36
  urgA : Option SvcUrg := none
  urgB : Option SvcUrg := none
  /-- Frame of the urgent conversions counted, and how many were accepted in it. -/
  urgFrame : Nat := 0
  urgCntA : Nat := 0
  urgCntB : Nat := 0
  /-- Requests of one cycle: their converter, tick and cycle, the best rank, and whether it was accepted (R170). -/
  urgLast : Option (Nat × Nat × Nat × Nat × Bool) := none
  /-- Results of the tick that are not yet four to a quire: the take point and the results (R161). -/
  flight : List SvcRes := []
  deriving DecidableEq, Repr

/-- What the core die does when a result of an event on another die reaches it in a control burst: it sets the fields, raises the
page events, logs the reports and lets the block act. -/
structure DieNote where
  sets : List (Nat × Nat × Nat × Nat) := []
  events : List (Nat × Nat) := []
  reports : List Report := []
  /-- What the block does then: kind, unit, argument; kind 0 nothing. -/
  act : Nat × Nat × Nat := (0, 0, 0)
  deriving DecidableEq, Repr

/-- What one command or result quire of a control burst carries (R24). To a die: a word of its live configuration or of its image,
an announced press with the CRC of the die's part, its commit or abort (R513, R514, R516). From a die: its reply, the status words of
eight modulators for a frame (R112), up to four supervisory results (R161), the twelve jack codes with their tick (R316), the outputs
and CV channels in current limit (R304), a report. -/
inductive LinkMsg where
  | config (addr : Nat) (w : Word)
  | image (addr : Nat) (w : Word)
  | announce (seq s : Nat) (crc : Word)
  | commit (seq : Nat)
  | abort (seq : Nat)
  | reply (seq : Nat) (ok : Bool)
  | status (tick : Nat) (words : SMap Nat)
  | results (l : List SvcRes)
  | jacks (tick : Nat) (codes : List Nat)
  | limits (outs cvs : List Nat)
  | note (n : DieNote)
  deriving DecidableEq, Repr

/-- A burst as its sender keeps it and its receiver takes it (R18, R19, R24): the quires of a data burst, the sequence numbers of the
command or result quires of a control burst. -/
structure Burst where
  tick : Nat
  ctl : Bool
  bsn : Nat
  quires : List Quire := []
  cmds : List Nat := []
  replays : Nat := 0
  deriving DecidableEq, Repr

/-- A command or result quire whose delivery has not been acknowledged: its sequence number, the tick it was first sent in and
what it carries (R24). -/
structure Cmd where
  seq : Nat
  first : Nat
  what : LinkMsg
  deriving DecidableEq, Repr

/-- One direction of a stitch link (R17-R25, R530). -/
structure LinkDir where
  /-- Sender: the BSN of the next original burst. -/
  bsn : Nat := 0
  /-- Sender: the bursts of the last 4 ticks. -/
  retry : List Burst := []
  /-- Sender: requested replays in order of arrival, with the window they go out in (false B, true A) and its tick. -/
  asked : List (Nat × Bool × Nat) := []
  /-- Sender: commands or results that wait for a control burst, with the first tick whose burst may carry them. -/
  wait : List (Nat × LinkMsg) := []
  /-- Sender: commands or results sent and not yet acknowledged. -/
  cmds : List Cmd := []
  cmdSeq : Nat := 0
  acked : Nat := 0
  /-- Receiver: the BSN expected next. -/
  expect : Nat := 0
  /-- Receiver: bursts declared lost and not yet recovered: BSN, tick, control. -/
  lost : List (Nat × Nat × Bool) := []
  /-- Receiver: retry requests on their way to the sender (R21). -/
  want : List Nat := []
  /-- Receiver: accepted bursts that wait for their take point. -/
  got : List Burst := []
  /-- Receiver: the quires of the data burst last taken. -/
  data : List Quire := []
  subst : Nat := 0
  applied : Nat := 0
  /-- The words last taken are a substitution, or of a stream that has ended (R23, R25). -/
  stale : Bool := false
  /-- Receiver: first take point at which the words of a tick are due (R22). -/
  due : Nat := 0
  deriving DecidableEq, Repr

/-- What the converter or the power die holds of the core die's configuration (R513-R517): the live words of its pages as it has
received them, the image beside them, the press it has been told of (sequence number and tick) and whether it has taken COMMIT. -/
structure DieSt where
  cfg : SMap Word := []
  image : SMap Word := []
  press : Option (Nat × Nat) := none
  commit : Bool := false
  deriving DecidableEq, Repr

/-- The stitch links, the copies of TICK on the other dies and the scrubbers (R15, R16, R38). -/
structure LinkSt where
  dirs : SMap LinkDir := []
  /-- The converter die (0) and the power die (1). -/
  dies : SMap DieSt := []
  /-- A link has been down since reset: its die needs the live configuration (R25, R516). -/
  wasDown : SMap Bool := []
  /-- A die's tick count less TICK; whether it adopts TICK at its next boundary; whether it has done so in this tick (R16). -/
  off : SMap Int := []
  adopt : SMap Bool := []
  realigned : SMap Bool := []
  /-- Quire reached by the scrubber of pool 0 (cell), 1 (effect), 2 (delay). -/
  scrub : SMap Nat := []
  /-- Corrected quires that wait to be written back: pool, quire (R37). -/
  eccWait : List (Nat × Nat) := []
  deriving DecidableEq, Repr

/-- The spine beside its registers (R248-R250). -/
structure SpnSt where
  /-- Sinks whose slot of this tick is damaged, and the value each had in the previous tick. -/
  hurt : List Nat := []
  held : SMap Word := []
  /-- Lanes that had an uncorrectable slot in the previous tick. -/
  lanes : List Nat := []
  /-- Peak of a tap's span, and taps read since the last tick. -/
  peak : SMap Word := []
  read : SMap Bool := []
  deriving DecidableEq, Repr

/-- A glide that runs (R255): crosspoint, gains in units of 2^-27, length and start tick. -/
structure Glide where
  xp : Nat
  g0 : Int
  target : Int
  time : Nat
  t0 : Nat
  deriving DecidableEq, Repr

/-- One mixer bus (R257): its mute weight, and a mute write that landed after its computation of this tick started. -/
structure BusSt where
  w : Ramp := { pos := 0, len := 0, up := true }
  late : Option Bool := none
  deriving DecidableEq, Repr

/-- The mixer (R251-R259). Crosspoints have the index 384 × bus + lane. -/
structure MixSt where
  xp : SMap Word := []
  /-- Crosspoints that were written after their read of this tick: the gain that the read took. -/
  used : SMap (Option Word) := []
  /-- Crosspoints with an uncorrectable error. -/
  bad : SMap Bool := []
  glide : SMap (Option Glide) := []
  armed : SMap Bool := []
  bus : SMap BusSt := []
  eng : Engine := {}
  /-- The next crosspoint that the scrubber reads (R254). -/
  scrub : Nat := 0
  deriving DecidableEq, Repr

/-- One side of a port, a receiver, a transmitter or a queue stream, with its converter channels (R184, R223-R232). `kind`:
0 none, 1 direct (192 kHz), 2 and 4 integer ratio, 5 tracked, 6 pinned. The ratio is `num / den` frames per tick. -/
structure Xing where
  kind : Nat := 0
  num : Nat := 0
  den : Nat := 1
  phase : Nat := 0
  /-- 0 none, 1 ACQUIRE, 2 LOCKED, 3 FAULTED (R228). -/
  lstate : Nat := 0
  primed : Bool := false
  /-- Frames in the buffer, oldest first; frames completed in this tick; the last frame taken out. -/
  buf : List (List Word) := []
  inbox : List (List Word) := []
  last : List Word := []
  goodRun : Nat := 0
  offRun : Nat := 0
  err : Int := 0
  /-- Values still marked T_UNS, by slot (R224, R230). -/
  uns : SMap Nat := []
  /-- What the filter holds: the last 64 frames that entered it, newest first, how many ever did, and which were damaged, as the count
  they entered at and the slot (R225, R236). -/
  hist : List (List Word) := []
  fed : Nat := 0
  bad : List (Nat × Nat) := []
  /-- The counts of R232, with the integer advance of the phase accumulator and the steps it took. -/
  adv : Nat := 0
  steps : Nat := 0
  wrReal : Nat := 0
  subIn : Nat := 0
  consumed : Nat := 0
  disc : Nat := 0
  deriving DecidableEq, Repr

/-- The receive or transmit side of a user under R194, R195: 0 run, 1 fade, 2 silence, 3 ramp-in; FADE as the episode took it. -/
structure Side where
  ph : Nat := 2
  fade : Nat := 0
  w : Ramp := {}
  logged : Bool := false
  deriving DecidableEq, Repr

/-- A queue stream (R233): its side, the last live value of each channel, the frames an outward stream has written into its open signature,
whether that signature is discarded, and whether the one before it was. -/
structure QsSt where
  side : Side := { ph := 0, w := { pos := 0, len := 0, up := true } }
  held : SMap Word := []
  got : Nat := 0
  lost : Bool := false
  run : Bool := false
  deriving DecidableEq, Repr

/-- Rate conversion: crossings by user (0 SAP receive, 16 SAP transmit, 32 S/PDIF receivers, 36 S/PDIF transmitters, 40
queue streams), the two engines, the queue streams. -/
structure SrcSt where
  x : SMap Xing := []
  engA : Engine := {}
  engI : Engine := {}
  qs : SMap QsSt := []
  /-- Users of the integer-ratio channels, as SRC_ACH words, by channel (R235). -/
  int : SMap Word := []
  deriving DecidableEq, Repr

/-- A serial audio port beside its registers (R180-R200). -/
structure SapPort where
  rx : Side := {}
  tx : Side := {}
  /-- Tick of the start under way (R190). -/
  start : Nat := 0
  /-- The clocks are sensed before they are driven; false for a reframing press of a running controller (R191). -/
  sense : Bool := true
  /-- The sense interval has ended: the clocks are driven from the next frame boundary (R190). -/
  drive : Bool := false
  goodRun : Nat := 0
  badRun : Nat := 0
  /-- The partner's clock must qualify again (R188, R189). -/
  requal : Bool := false
  conserve : Bool := false
  /-- The last frame sent at the pins. -/
  sent : List Word := []
  /-- The frame that stands at the pins now. -/
  pins : List Word := []
  /-- The last live value of each receive slot, and whether the input buffer was empty at the last call for a frame (R194). -/
  held : SMap Word := []
  dry : Bool := false
  frames : Nat := 0
  /-- Frames completed at the pins, passed to the crossing, discarded; frames sent at the pins, taken from the crossing, held or zero (R197). -/
  rxDone : Nat := 0
  rxPass : Nat := 0
  rxDisc : Nat := 0
  txSent : Nat := 0
  txTaken : Nat := 0
  txHeld : Nat := 0
  deriving DecidableEq, Repr

/-- A PDM microphone (R207, R208): 0 off, 1 waking, 2 ramping in, 3 live, 4 ramping out, 5 stuck. -/
structure Mic where
  ph : Nat := 0
  w : Ramp := {}
  due : Nat := 0
  /-- The clock its line is on, as CLKSEL was when it started (R203, R204). -/
  clk : Bool := false
  /-- Its PDM frames of the last tick and of the one before (R206). -/
  frame : Nat := 0
  older : Nat := 0
  /-- Its last bit, and how many in a row have been like it, at most 4,096 (R208). -/
  bit : Bool := false
  run : Nat := 0
  deriving DecidableEq, Repr

/-- An S/PDIF receiver beside its registers (R209-R216). -/
structure Spdi where
  side : Side := {}
  goodRun : Nat := 0
  offRun : Nat := 0
  /-- Frames without a Pa/Pb pair since the start count began, blocks completed in that span. -/
  clean : Nat := 0
  blocks : Nat := 0
  /-- Bits of the block under way: whether its start was received, frames taken, channel status and user bits of both subframes. -/
  synced : Bool := false
  frame : Nat := 0
  csA : List Nat := []
  csB : List Nat := []
  uA : List Nat := []
  uB : List Nat := []
  /-- Channel status of the last block, subframe A then B, as words. -/
  block : List Word := []
  prevA : Word := 0
  prevB : Word := 0
  /-- The event under way was a clock loss or a rate change. -/
  lost : Bool := false
  frames : Nat := 0
  /-- The last live values of both subframes, and whether the buffer was empty at the last call for a frame (R194). -/
  held : SMap Word := []
  dry : Bool := false
  /-- Frames completed at the pin, passed to the crossing, discarded (R197, R210). -/
  rxDone : Nat := 0
  rxPass : Nat := 0
  rxDisc : Nat := 0
  deriving DecidableEq, Repr

/-- PDM and S/PDIF: microphones, receivers, and the transmitters' frame in their block, gap and output frame (R203-R219). -/
structure SpdSt where
  mic : SMap Mic := []
  rx : SMap Spdi := []
  txStart : Nat := 0
  txFrame : Nat := 0
  txOut : List Word := []
  deriving DecidableEq, Repr

/-- A bank or set crossfade of a node (R141, R270, R284, R285). -/
structure NodeXf where
  on : Bool := false
  xf : Ramp := {}
  deriving DecidableEq, Repr

/-- A dynamics processor (R271-R275): its inputs, newest first; its smoothed gain; its make-up gain's start value and the
tick its move started; the largest reduction of the period. Gains count 1/655360 dB. -/
structure DynSt where
  hist : List Word := []
  gain : Int := 0
  mkFrom : Int := 0
  mkTo : Int := 0
  mkT0 : Nat := 0
  worst : Int := 0
  /-- The targets of the last 64 values, newest first (R274). -/
  goals : List Int := []
  deriving DecidableEq, Repr

/-- The base delay of a tap (R278): it moves from `frm / den` to `goal` (1/256 smp) over `time` ticks from tick `t0`. -/
structure TapSt where
  frm : Int := 0
  den : Nat := 1
  goal : Nat := 0
  time : Nat := 0
  t0 : Nat := 0
  deriving DecidableEq, Repr

/-- A convolution channel (R281-R289): newest inputs first, and values still marked T_SUB. -/
structure ConvSt where
  hist : List Word := []
  subLeft : Nat := 0
  xf : NodeXf := {}
  deriving DecidableEq, Repr

/-- A gain that moves linearly in dB over 64 smp (R285): start and end in 0.1 dB, and the tick the move began. -/
structure DbMove where
  frm : Int := 0
  goal : Int := 0
  t0 : Nat := 0
  deriving DecidableEq, Repr

/-- A table shaper (R285): its crossfade, its last inputs, newest first, and the moves of DRIVE and OUT. -/
structure ShapeSt where
  xf : NodeXf := {}
  hist : List Word := []
  drive : DbMove := {}
  out : DbMove := {}
  deriving DecidableEq, Repr

/-- A node's place in the schedule (R265): its unit and its first and last cycle. -/
structure FxPlace where
  unit : Nat := 0
  start : Nat := 0
  fin : Nat := 0
  deriving DecidableEq, Repr

/-- The effects engines. `pool` is the effect pool by word index: bank × 2^19 + offset / 4; `delay` the delay pool by sample. -/
structure FxSt where
  pool : SMap Word := []
  /-- Quires of the two pools with an uncorrectable error. -/
  poolBad : SMap Bool := []
  delayBad : SMap Bool := []
  delay : SMap Word := []
  /-- Inputs stored by a line since its start. -/
  count : SMap Nat := []
  tap : SMap TapSt := []
  /-- State of biquad sections, at section × 2 + bank: x1, x2, y1, y2 in units of 2^-35. -/
  sect : SMap (List Int) := []
  bq : SMap NodeXf := []
  dyn : SMap DynSt := []
  conv : SMap ConvSt := []
  sh : SMap ShapeSt := []
  /-- Parameter words that were written after their processor's computation of this tick started: what it took (R275). -/
  used : SMap (Option Word) := []
  /-- LFO phase in units of 1 / 786,432,000 cycle. -/
  lfo : SMap Nat := []
  eng : SMap Engine := []
  /-- Granules pending, the one under preparation and the tick it ends. -/
  prep : List Nat := []
  cur : Option (Nat × Nat) := none
  place : SMap FxPlace := []
  /-- The placement order of R265, by source number; 0x400 is the mixer. -/
  order : List Nat := []
  /-- A tap clamp has acted in this tick (R277). -/
  clamp : Bool := false
  deriving DecidableEq, Repr

/-- A sense jack beside its registers (R318-R321): the run under way (side 0 none, 1 removed, 2 inserted; stamp and level
of its first sample), the first sample since it became UNDECIDED, the means in units of 2^-16, the stamp of its last change
of state, samples towards the next update, updates at rest on a bound, the last sample, a force that waits. -/
structure Jack where
  side : Nat := 0
  first : Int := 0
  level : Nat := 0
  start : Option Int := none
  mIn : Option Int := none
  mOut : Option Int := none
  since : Int := 0
  upd : Nat := 0
  rest : Nat := 0
  lastT : Int := 0
  force : Option Nat := none
  deriving DecidableEq, Repr

/-- A binding (R323-R325): its jack is in the playing state, the tick its plug wait ends in, the jack weight. -/
structure Bind where
  play : Bool := true
  wait : Option Nat := none
  w : Ramp := { pos := 0, len := 0, up := true }
  deriving DecidableEq, Repr

/-- Jack detection. `VAH` as last seen. -/
structure JackSt where
  j : SMap Jack := []
  bind : SMap Bind := []
  events : List EvRec := []
  vah : Bool := true
  deriving DecidableEq, Repr

/-- A line or headphone output beside its registers (R294-R326). -/
structure OutCh where
  /-- Cores and stage failed on the converter die; the same as the core die has taken them; no signal can pass. -/
  aBad : Bool := false
  bBad : Bool := false
  dead : Bool := false
  aSeen : Bool := false
  bSeen : Bool := false
  /-- Code of the fault the output is FAULTED with; 0 none (R303, R304, R307, R310). -/
  fault : Nat := 0
  disagree : Bool := false
  rbFault : Bool := false
  /-- Weights of the cores, in units of 1/128. -/
  wA : Nat := 64
  wB : Nat := 64
  mute : Ramp := { pos := 0, len := 0, up := true }
  trip : Ramp := { pos := 0, len := 0, up := true }
  pop : Ramp := {}
  /-- Step of the pop ramps: 0 quiet, 1 bias, 2 switch opening, 3 ramp up, 4 live, 5 ramp down, 6 switch closing. -/
  phase : Nat := 0
  due : Nat := 0
  switch : Bool := false
  amp : Bool := false
  /-- Preset and level in use, the switch under way (0 none, 1 down, 2 up) and what it leads to, its weight, and what a second press asked
  for (R299). -/
  preset : Nat := 0
  level : Nat := 0
  sw : Nat := 0
  swTo : Nat × Nat := (0, 0)
  swDue : Nat := 0
  swW : Ramp := { pos := 0, len := 0, up := true }
  swHeld : Option (Nat × Nat) := none
  /-- The last 64 values sent, and those the interpolator has had since it started, newest first (R299, R306). -/
  sent : List Int := []
  hist : List Int := []
  /-- What stood between the codes and the pin in the last 16 ticks, newest first: nothing where the mute switch was closed (R306, R307). -/
  path : List (List Int) := []
  dc : Int := 0
  dcRun : Nat := 0
  ilimRun : Nat := 0
  rbRun : Nat := 0
  /-- Whether anything spoke against a pass of the restore test under way (R305). -/
  testBad : Bool := false
  deriving DecidableEq, Repr

/-- A CV channel beside its registers (R333-R341): V_out in units of 10 µV, the code in use in queue mode and its repeats
left, the code last sent, past values of V_out (newest first), the tick of the last change beyond RB_LIM. -/
structure CvCh where
  v : Int := 0
  code : Int := 0
  rep : Nat := 0
  dac : Int := 0
  hist : List Int := []
  change : Option Nat := none
  ilimRun : Nat := 0
  /-- Code of the fault the channel is FAULTED with; 0 none. -/
  fault : Nat := 0
  rbRun : Nat := 0
  rbFault : Bool := false
  /-- A code word stood at the head of the queue at cycle 0 of this tick (R335); readback has spoken against the restore test. -/
  avail : Bool := false
  testBad : Bool := false
  deriving DecidableEq, Repr

/-- A CV timer (R336): the latched period and the next fire. -/
structure Tmr where
  period : Nat := 0
  next : Option Nat := none
  deriving DecidableEq, Repr

/-- The CV outputs. -/
structure CvSt where
  ch : SMap CvCh := []
  tmr : SMap Tmr := []
  /-- VREF_CV has left its window, in which tick, and the core die knows of it; end of the hold after a change of REF_SEL. -/
  refBad : Bool := false
  refAt : Nat := 0
  refSeen : Bool := false
  refHold : Option Nat := none
  deriving DecidableEq, Repr

/-- A speaker channel beside its registers (R344-R375). -/
structure SpkCh where
  /-- CSTATE on the power die, and as its sense words of the last tick carry it (R349, R373). -/
  cs : Nat := 0
  csA : Nat := 0
  /-- End of the timed step under way. -/
  due : Nat := 0
  /-- A stop: 0 none, 1 pop ramp, 2 fast ramp of 64 smp, 3 common-mode fall; the CSTATE it leads to. -/
  stop : Nat := 0
  stopTo : Nat := 0
  pop : Ramp := {}
  mute : Ramp := { pos := 0, len := 0, up := true }
  jack : Ramp := { pos := 0, len := 0, up := true }
  fast : Ramp := { pos := 0, len := 0, up := true }
  /-- Position of the retry weight, 0 (−20 dB) to 3,072 (0 dB). -/
  rw : Nat := 3072
  needId : Bool := false
  /-- A restore under way: the CSTATE it started from, and whether a finding has repeated (R370). -/
  rest : Option Nat := none
  testBad : Bool := false
  /-- Code of the last finding that stopped the channel. -/
  code : Nat := 0
  /-- Limited carrier cycles in succession and the number of the last one. -/
  lim : Nat := 0
  limAt : Option Nat := none
  /-- Limited carrier cycles of this tick and of the last one. -/
  limNow : Nat := 0
  limLast : Nat := 0
  retries : Nat := 0
  retrying : Bool := false
  runSince : Nat := 0
  short : Nat := 0
  term : Bool := false
  /-- Load model and its value at the last identification, in units of 0.01 Ω / 65536; updates at rest on a bound. -/
  z : Int := 0
  rid : Int := 0
  zRest : Nat := 0
  /-- Power averages, ticks above the continuous limit, limiter gain in units of 2^-27. -/
  ps : Int := 0
  pl : Int := 0
  burst : Nat := 0
  g : Int := 134217728
  /-- The last sense words: mean voltage and current, peak current, temperature code. -/
  v : Int := 0
  i : Int := 0
  peak : Nat := 0
  temp : Nat := 0
  dc : Int := 0
  dcRun : Nat := 0
  hot : Bool := false
  cool : Option Nat := none
  openLoop : Bool := false
  rbFault : Bool := false
  rbRun : Nat := 0
  dcTrip : Bool := false
  /-- Full scale and polarity in use; the tick a pressed change of them applies in. -/
  vfs : Nat := 200
  inv : Bool := false
  vfsDue : Option Nat := none
  /-- The last 64 values sent, newest first; what stood between them and the terminals in the last 16 ticks, nothing where the
  channel was off (R368); the word that the next data burst carries. -/
  sent : List Int := []
  path : List (List Int) := []
  word : Word := 0
  deriving DecidableEq, Repr

/-- The speaker channels, and the clock mute (R371): its episode, and the ticks its conditions have held. -/
structure SpkSt where
  ch : SMap SpkCh := []
  cmute : Bool := false
  good : Nat := 0
  deriving DecidableEq, Repr

/-- The boost beside its registers (R376-R396). Voltages of the rail model count 1/12 µV. -/
structure BstSt where
  /-- BSTATE on the power die, and as its status words of the last tick carry it. -/
  st : Nat := 0
  stA : Nat := 0
  /-- End of PRECHARGE, 0 while it waits; a condition has stopped the boost (R387); a check has failed in the restore test (R391). -/
  due : Nat := 0
  stopped : Bool := false
  testBad : Bool := false
  /-- Tick in which tracking began (R387). -/
  since : Nat := 0
  /-- The rail model on the power die, and on the core die at the take point of the tick's demand (R380). -/
  r : Int := 0
  rc : Int := 0
  /-- Envelopes in mV: of the tick, in the burst under way, and those the power die applies (R378, R380). -/
  env : List Nat := []
  envP : List Nat := []
  /-- Spine words of each channel, newest first (R378). -/
  hist : SMap (List Word) := []
  /-- Target at the start of the tick (R385). -/
  t0 : Int := 0
  lowRun : Nat := 0
  shedRun : Nat := 0
  /-- Phases switching, phases out (bit masks). -/
  active : Nat := 0
  out : Nat := 0
  /-- Means of the last tick: PVIN and PVDD in mV, input current in mA; past means, newest first, as the core die has them. -/
  pvin : Nat := 0
  pvdd : Nat := 0
  iin : Nat := 0
  temp : Nat := 0
  /-- Phase currents, sag-clip map and input limit of the last tick (R384). -/
  phases : Word := 0
  sag : Nat := 0
  limit : Bool := false
  past : List (Nat × Nat) := []
  iinAt : Option Nat := none
  hot : Bool := false
  cool : Option Nat := none
  heldT : Bool := false
  heldR : Bool := false
  fault : Nat := 0
  rbRun : Nat := 0
  rbFault : Bool := false
  deriving DecidableEq, Repr

/-- A time map (R451): its anchor, its rate, the tick it applies from and the tick of its commit. -/
structure TMap where
  tickA : Nat
  sec : Nat
  ns : Nat
  rate : Int
  apply : Nat
  commit : Nat
  deriving DecidableEq, Repr

/-- Time (R451-R470): maps in force, before it and committed; DOFS; a conversion under way; the calendar as seconds since
2000-01-01 and ticks into its second; stamps of gPTP frames taken, by port × 2 + direction. -/
structure TimeSt where
  map : Option TMap := none
  prev : Option TMap := none
  pend : Option TMap := none
  dofs : Int := 0
  cvt : Option (Nat × Nat) := none
  cal : Nat := 0
  calTick : Nat := 0
  tsSeq : SMap Nat := []
  deriving DecidableEq, Repr

/-- An entry of the bridge table; times in core cycles (R441). -/
structure BrEnt where
  mac : Nat
  port : Nat
  static : Bool
  tl : Nat
  tr : Nat
  deriving DecidableEq, Repr

/-- A learn event with its stamp in core cycles (R442). -/
structure LearnEv where
  mac : Nat
  port : Nat
  stamp : Nat
  deriving DecidableEq, Repr

/-- A frame copy that waits in a receive FIFO for its queue, with the stamp of its frame and the instant at which it began to wait
for cells (R424, R425). -/
structure RxCopy where
  q : Nat
  express : Bool
  bytes : List Byte
  trunc : Bool
  stamp : Nat
  wait : Nat := 0
  deriving DecidableEq, Repr

/-- Where a copy of a received frame goes: a queue, the gPTP queue, or nowhere, counted in RX_FILT (R429, R431). -/
inductive RxDest where
  | queue (q : Nat)
  | gptp
  | filt
  deriving DecidableEq, Repr

/-- A frame being sent, or held by a preemption: class, queue, bytes as sent without FCS, whether it is read while it is
written, its stamp; bytes sent in the fragments that ended, and their number; on T1S0 the collisions so far and the end of the back-off
under way as an instant. -/
structure TxFrame where
  cls : Nat
  q : Nat
  bytes : List Byte
  cut : Bool
  stamp : Nat
  sent : Nat := 0
  frag : Nat := 0
  att : Nat := 0
  back : Option Nat := none
  deriving DecidableEq, Repr

/-- A port beside its registers (R424-R440). `fifo` are the copies behind another one of their queue, `wait` those that wait for
cells; `purge` the queues whose open head signature is discarded once it closes; tokens count 1/393,216 byte, as they stood at cycle 0
of the tick; `mps` the mPackets to be sent at the next frame boundary (1 verify, 2 respond); `pre` the PORT_PREEMPT word in use;
`verAt` the tick from which VERIFY_T runs; `modeAt` the tick of the last press of MODE. -/
structure PortSt where
  fifo : List RxCopy := []
  wait : List RxCopy := []
  purge : List Nat := []
  tx : Option TxFrame := none
  held : Option TxFrame := none
  tokens : SMap Int := []
  mps : List Nat := []
  pre : Word := 0x40000A00
  verifies : Nat := 0
  verAt : Nat := 0
  modeAt : Nat := 0
  lateAt : Option Nat := none
  lfsr : Word := 0
  deriving DecidableEq, Repr

/-- The ports and the bridge. `gptp` holds the frames delivered to the gPTP queue, with their port (R429); `past` the words that frames
begun before a press still take, with its tick, oldest first (R445). -/
structure NetSt where
  ports : SMap PortSt := []
  table : SMap (List BrEnt) := []
  learn : List LearnEv := []
  gptp : List (Nat × List Byte) := []
  past : List (Nat × SMap Word) := []
  deriving DecidableEq, Repr

/-- A Zinkor transmit stream (R457). `vals` are the values of the gathering gathered so far; `send` the frame assembled and not
yet linked, with its SEQ; `first` a frame with START is due; `from_` no gathering starts before this tick. -/
structure ZTx where
  first : Bool := true
  from_ : Nat := 0
  open_ : Bool := false
  vals : List Word := []
  send : Option (Nat × List Nat) := none
  deriving DecidableEq, Repr

/-- A Zinkor receive slot (R459-R461). `p` is the presentation offset taken; `store` the gatherings of the playout store, by
their DTICK; `held` the last values taken from it; `cur` the values of the gathering being presented. -/
structure ZRx where
  p : Option Nat := none
  store : List (Int × List Word) := []
  cur : List Word := []
  held : List Word := []
  w : Ramp := {}
  plow : Bool := false
  lateAt : Option Nat := none
  deriving DecidableEq, Repr

/-- The Zinkor Link; tick of the last NODE_CLASH logged (R450). -/
structure ZklSt where
  tx : SMap ZTx := []
  rx : SMap ZRx := []
  clashAt : Option Nat := none
  deriving DecidableEq, Repr

/-- A journal record in the flash (R558): its first sector in the flash, its header and trailer fields as they read, its body. -/
structure JRec where
  sector : Nat
  hmark : Nat := 0x4C5A
  typ : Nat
  id : Nat
  seq : Nat
  len : Nat
  hcrc : Word
  body : List Byte
  crc : Word
  commit : Word
  supersede : Word
  deriving DecidableEq, Repr

/-- A journal command under way (R563): 1 MOUNT, 2 READ, 3 WRITE, 4 DELETE. `began` is the tick of its start, `moves` the relocations
made for it, `place` where its record goes once they are done, `got` the body bytes taken from JWQ, `wait` the tick of the last of
them, `out` the signatures of a READ not yet written. -/
structure JCmd where
  cmd : Nat
  typ : Nat
  id : Nat
  len : Nat
  began : Nat := 0
  moves : Nat := 0
  place : Option Nat := none
  got : List Byte := []
  wait : Nat := 0
  out : List (List Byte) := []
  deriving DecidableEq, Repr

/-- An OTP word (R552): bits 31:0 data, 35:32 parity, 39:36 marker. -/
abbrev OtpWord := BitVec 40

/-- Non-volatile storage beside its registers (R552-R566). An OTP item lists its programmed words in order; `otpBusy` is the
programming under way: item, value and the tick before which it does not end. `used` is the OTP as the management controller's last start took it. `flash` is the number of sectors found. `boot`: 0 no ROM
runs, 1 released, 2 it waits for the journal engine, 5 its
mount runs, 3 images are tried, 4 a host load is waited for, 6 a loaded image waits for `early`. -/
structure NvmSt where
  otp : SMap (List OtpWord) := []
  otpBusy : Option (Nat × Word × Nat) := none
  used : SMap (List OtpWord) := []
  /-- Factory items without a VALID word and the page of the block that uses each (R554). -/
  trims : List (Nat × Nat) := []
  flash : Option Nat := none
  recs : List JRec := []
  cmd : Option JCmd := none
  boot : Nat := 0
  /-- Slots still to be tried, and whether an image failed its signature. -/
  left : List Nat := []
  sigBad : Bool := false
  /-- The tick before which no image starts (R582). -/
  early : Nat := 0
  /-- Words of the host load, newest first. -/
  hload : List Word := []
  deriving DecidableEq, Repr

/-- An I2C controller beside its registers (R567-R569): 0 no work, 1 a GO waits for the bus, 2 a transaction runs, 3 a bus
clear runs; the last GO's address and lengths, and the bytes it sends. -/
structure I2cSt where
  work : Nat := 0
  addr : Nat := 0
  rlen : Nat := 0
  wlen : Nat := 0
  tx : List Byte := []
  deriving DecidableEq, Repr

/-- The GPIO pins from outside (R570): which of them something drives, and to which level. -/
structure GpioSt where
  driven : Word := 0
  level : Word := 0
  deriving DecidableEq, Repr

/-- Boundary scan (R600): the instruction (0 BYPASS, 1 IDCODE, 2 SAMPLE/PRELOAD, 3 EXTEST, 4 CLAMP, 5 HIGHZ), the selected data
register as it shifts out, first bit first, the preloaded cells, and whether the analog, speaker and network outputs stay in
their reset state until the next pulse of RESET_N. -/
structure JtagSt where
  ir : Nat := 1
  dr : List Bool := []
  cells : List Bool := []
  safe : Bool := false
  deriving DecidableEq, Repr

end Sys2Proof.Machine
end

