-- ==== Sys2Proof/Machine/State.lean ====
section
/-!
DEFINITION. The state of the part: its registers with their shadows, and what lies behind them.
-/

namespace Sys2Proof.Machine

/-- Reasons to stop with a fault. The part never stops: every effect of the spec is a next state, so there is none. -/
inductive Fault where
  deriving DecidableEq, Repr

/-- Reasons to refuse a command. -/
inductive Refusal where
  /-- Raised by an arm of `exec` whose command has no meaning yet; safe: nothing is claimed of such a command. -/
  | notModelled (mnemonic : String)
  deriving DecidableEq, Repr

/-- The state. A field that is a sparse map lists only what differs from its reset value. -/
structure State where
  phase : Phase := .held
  /-- Supplies of the core, converter and power die present (bits 0 to 2). -/
  supplied : Nat := 7
  /-- RESET_N is low (R575). -/
  resetLow : Bool := true
  /-- Rails of R88 below their release threshold: bits 0 VCORE, 1 VSER, 2 VDDIO, 3 VDDA. -/
  railsDown : Nat := 0
  /-- Whether the host ports answer (R479). -/
  ports : Bool := false
  /-- TICK (R44). -/
  tick : Nat := 0
  /-- CYC (R44). -/
  cyc : Nat := 0
  /-- Live words of the registers. -/
  regs : SMap Word := []
  /-- Shadow words of registers with ST fields (R503). -/
  shadow : SMap Word := []
  /-- Shadow words last written by the management controller (R503). -/
  shadowMc : SMap Bool := []
  /-- The image (R504). -/
  image : SMap Word := []
  /-- Image words whose shadow the management controller had written (R503, R509). -/
  imageMc : SMap Bool := []
  /-- Result registers not yet read by an origin, one bit per origin (R492). -/
  fresh : SMap Nat := []
  /-- Latched words of latched groups, at origin × 2^26 + address (R491). -/
  latch : SMap Word := []
  /-- The word each origin's last read returned (log entry 4). -/
  readData : SMap Word := []
  /-- The address that follows the last word accessed, of each port (R480, R482, R484). -/
  portAddr : SMap Nat := []
  link : LinkSt := {}
  press : PressSt := {}
  flt : FltSt := {}
  qmg : QmgSt := {}
  /-- Values of the current tick at the spine sources (R45). -/
  spine : SMap Word := []
  /-- Values of the next tick written so far (R45). -/
  next : SMap Word := []
  /-- Restore tests under way (R527). -/
  tests : List RTest := []
  clk : ClkSt := {}
  pwr : PwrSt := {}
  ain : AinSt := {}
  fch : FchSt := {}
  svc : SvcSt := {}
  spn : SpnSt := {}
  mix : MixSt := {}
  srcc : SrcSt := {}
  sap : SMap SapPort := []
  spd : SpdSt := {}
  fx : FxSt := {}
  jack : JackSt := {}
  out : SMap OutCh := []
  cv : CvSt := {}
  spk : SpkSt := {}
  bst : BstSt := {}
  time : TimeSt := {}
  net : NetSt := {}
  zkl : ZklSt := {}
  nvm : NvmSt := {}
  i2c : SMap I2cSt := []
  gpio : GpioSt := {}
  jtag : JtagSt := {}
  /-- The selector of free values (log entry 1). -/
  free : Nat := 0
  /-- Commands that wait, first in, first out. -/
  pending : List Instr := []
  deriving DecidableEq, Repr

/-- The machine right after reset: held in reset after a power-up, nothing queued (R576, R583). -/
def State.reset : State := { regs := [(0x003048, 3)] }

end Sys2Proof.Machine
end

