-- ==== Sys2Proof/Machine/Ops.lean ====
section
/-!
DEFINITION. The named operations over registers, counters, events, reports, samples and timers that every meaning uses.
-/

namespace Sys2Proof.Machine

/-- `f` where the condition holds. -/
def State.when (c : Bool) (f : State → State) (s : State) : State := if c then f s else s

/-- A command lands at core cycle `c` of the tick. -/
def State.land (c : Nat) (s : State) : State := { s with cyc := max s.cyc c }

/-- The live word of the register at byte address `a`. -/
def State.word (s : State) (a : Nat) : Word := SMap.get resetWord s.regs a

/-- The register word at `a` replaced. -/
def State.setWord (a : Nat) (w : Word) (s : State) : State := { s with regs := SMap.set resetWord s.regs a w }

/-- A field as a number. -/
def State.fld (s : State) (f : Fld) : Nat := (s.word f.addr).bits f.hi f.lo

/-- A field as a flag: any bit set. -/
def State.on (s : State) (f : Fld) : Bool := s.fld f != 0

/-- A field as a two's-complement number. -/
def State.int (s : State) (f : Fld) : Int := signed f.width (s.fld f)

/-- A field replaced by the low bits of a number. -/
def State.setFld (f : Fld) (v : Nat) (s : State) : State := s.setWord f.addr ((s.word f.addr).put f.hi f.lo v)

/-- A one-bit field set or cleared. -/
def State.setOn (f : Fld) (b : Bool) (s : State) : State := s.setFld f (if b then 1 else 0)

/-- A two's-complement field replaced. -/
def State.setInt (f : Fld) (v : Int) (s : State) : State := s.setFld f (unsigned f.width v)

/-- The shadow word at `a` replaced (R503). -/
def State.setShadow (a : Nat) (w : Word) (s : State) : State := { s with shadow := SMap.set resetWord s.shadow a w }

/-- A field in the image (R504). -/
def imageFld (f : Fld) (s : State) : Nat := (SMap.get resetWord s.image f.addr).bits f.hi f.lo

/-- A counter raised by `n`: it stops at all ones and then its SAT flag is set (R10). -/
def State.bumpBy (n : Nat) (cnt sat : Fld) (s : State) : State :=
  let m := 2 ^ cnt.width - 1
  let v := s.fld cnt + n
  if n = 0 then s
  else if m ≤ v then (s.setFld cnt m).setFld sat 1 else s.setFld cnt v

/-- A counter raised by 1 (R10). -/
def State.bump (cnt sat : Fld) (s : State) : State := s.bumpBy 1 cnt sat

/-- Event `k` of page `p` raised in PG_INT_STAT (R497). -/
def State.raise (p k : Nat) (s : State) : State := s.setFld (F.pgInt p k) 1

/-- A check report for the fault manager, taken at the next tick boundary (R532). -/
def State.report (code inst action : Nat) (s : State) : State :=
  { s with flt := { s.flt with reports := s.flt.reports ++ [⟨code, inst, action, 0⟩] } }

/-- A complete result placed in a result register: SEQ rises modulo 256 and every origin sees it fresh (R492). -/
def State.post (a : Nat) (value : Word) (s : State) : State :=
  let seq := ((s.word a).bits 30 23 + 1) % 256
  let w := (value.put 30 23 seq).put 31 31 0
  { s.setWord a w with fresh := SMap.set (fun _ => 0) s.fresh a 15 }

/-- The next free word; the selector moves on (log entry 1). -/
def State.freeW (s : State) : Word := Config.freeWord s.free

/-- The selector moved past `n` free words. -/
def State.skipFree (n : Nat) (s : State) : State := { s with free := s.free + n }

/-- An origin's last read returned `w` (log entry 4). -/
def State.answer (o : Origin) (w : Word) (s : State) : State :=
  { s with readData := SMap.set (fun _ => 0) s.readData o.num w }

/-- The value of this tick at a spine source (R45). -/
def State.src (s : State) (n : Nat) : Word := SMap.get (fun _ => 0) s.spine n

/-- The value of this tick at a spine source replaced. -/
def State.setSrc (n : Nat) (w : Word) (s : State) : State := { s with spine := SMap.set (fun _ => 0) s.spine n w }

/-- The value of the next tick written by a spine source (R45). -/
def State.produce (n : Nat) (w : Word) (s : State) : State :=
  { s with next := SMap.set (fun _ => 0) s.next n w }

/-- The value of the next tick that a source has written. -/
def State.srcNext (s : State) (n : Nat) : Word := SMap.get (fun _ => 0) s.next n

/-- `f` applied for every number below `n`, in rising order. -/
def State.each (n : Nat) (f : Nat → State → State) (s : State) : State := (List.range n).foldl (fun s k => f k s) s

/-- `f` applied for every member of a list, in order. -/
def State.eachOf {α : Type} (l : List α) (f : α → State → State) (s : State) : State := l.foldl (fun s k => f k s) s

/-- A restore test of a unit started; it ends 1,024 ticks on (R527). -/
def State.startTest (unit idx kind : Nat) (s : State) : State :=
  { s with tests := s.tests.filter (fun t => !(t.unit == unit && t.idx == idx)) ++ [⟨unit, idx, kind, s.tick + 1024⟩] }

/-- The restore test of a unit, if one runs. -/
def State.testOf (s : State) (unit idx : Nat) : Option RTest :=
  s.tests.find? (fun t => t.unit == unit && t.idx == idx)

/-- The restore test of a unit ended. -/
def State.endTest (unit idx : Nat) (s : State) : State :=
  { s with tests := s.tests.filter (fun t => !(t.unit == unit && t.idx == idx)) }

/-- What the die of link `l` (0 converter, 1 power) holds of the configuration. -/
def State.die (l : Nat) (s : State) : DieSt := SMap.get (fun _ => {}) s.link.dies l
def State.setDie (l : Nat) (x : DieSt) (s : State) : State :=
  { s with link := { s.link with dies := SMap.set (fun _ => {}) s.link.dies l x } }

/-- The link whose die works by the register at byte address `a` (R26): the analog inputs, the supervisory converters, outputs, jacks
and CV outputs on the converter die, speakers and boost on the power die (log entry 97). -/
def dieOf (a : Nat) : Option Nat :=
  let p := a / 4096
  if (0x010 ≤ p ∧ p < 0x030) ∨ p = 0x040 ∨ p = 0x0B0 ∨ p = 0x0C0 ∨ p = 0x0D0 then some 0
  else if (0x0E0 ≤ p ∧ p < 0x0E8) ∨ p = 0x0F0 then some 1
  else none

/-- A field in the copy that the die of link `l` works by (R365). -/
def State.dieFld (s : State) (l : Nat) (f : Fld) : Nat := (SMap.get resetWord (s.die l).cfg f.addr).bits f.hi f.lo

/-- Direction `d`: 0 core → converter, 1 converter → core, 2 core → power, 3 power → core. -/
def State.dir (s : State) (d : Nat) : LinkDir := SMap.get (fun _ => {}) s.link.dirs d
def State.setDir (d : Nat) (x : LinkDir) (s : State) : State :=
  { s with link := { s.link with dirs := SMap.set (fun _ => {}) s.link.dirs d x } }

/-- Word `k` of the data burst that direction `d` last took, four words to a quire, lane 0 lowest (R34). -/
def State.taken (s : State) (d k : Nat) : Word := BitVec.ofNat 32 (((s.dir d).data.getD (k / 4) 0).toNat >>> (32 * (k % 4)))

/-- Whether what a link carries is kept for it: it runs, or it trains for the first time since reset, when both dies hold their
reset values (R25). -/
def State.linkHolds (l : Nat) (s : State) : Bool :=
  let v := s.fld (F.FLT_LINK_B_LSTATE (2 * l))
  v == 1 || v == 3 || (v == 0 && !SMap.get (fun _ => false) s.link.wasDown l)

/-- A command or a result for the control bursts of direction `d` from tick `from_` on (R24); while the link is down it is dropped
(R25). -/
def State.tell (d from_ : Nat) (m : LinkMsg) (s : State) : State :=
  s.when (s.linkHolds (d / 2)) (fun s => s.setDir d { s.dir d with wait := (s.dir d).wait ++ [(from_, m)] })

/-- What an event on another die means for the core die, for the control bursts of direction `d` from tick `from_` on. -/
def State.note (d from_ : Nat) (n : DieNote) (s : State) : State := s.tell d from_ (.note n)

/-- Whether bit `b` of isolation word `w` is set (R536, R551). -/
def State.isolated (w b : Nat) (s : State) : Bool := (s.word (Adr.FLT_ISO w)).bits b b != 0

/-- Whether a link is up: 0 converter, 1 power (LSTATE 1, R25). -/
def State.linkUp (l : Nat) (s : State) : Bool := s.fld (F.FLT_LINK_B_LSTATE (2 * l)) == 1

/-- A quire of a pool (0 cell, 1 effect, 2 delay) written: a write-back that waits for it is dropped (R38). -/
def State.dropBack (pool q : Nat) (s : State) : State :=
  { s with link := { s.link with eccWait := s.link.eccWait.filter (fun e => !(e == (pool, q))) } }

/-- One bit of the reflected CRC-32 of IEEE 802.3. -/
def crcStep (c : Word) : Word := if c.getLsbD 0 then (c >>> 1) ^^^ 0xEDB88320#32 else c >>> 1

/-- One byte of the CRC. -/
def crcByte (c : Word) (b : Byte) : Word :=
  crcStep (crcStep (crcStep (crcStep (crcStep (crcStep (crcStep (crcStep (c ^^^ b.setWidth 32))))))))

/-- CRC-32 (IEEE 802.3 polynomial) of a byte list: reflected, all ones before, complemented after (R19, R456). -/
def crc32 (bs : List Byte) : Word := ~~~ bs.foldl crcByte 0xFFFFFFFF#32

/-- A number as `n` bytes, little-endian, and the number that such bytes hold. -/
def leBytes : Nat → Nat → List Byte
  | 0, _ => []
  | n + 1, v => BitVec.ofNat 8 (v % 256) :: leBytes n (v / 256)
def leNum (bs : List Byte) : Nat := bs.foldr (fun b n => b.toNat + n * 256) 0

/-- The outcome of a meaning: every command completes. -/
def done (s : State) : Host.Outcome State Fault Refusal := .next s

/-- A register access over the host ports, which answer only while `ports` holds (R479). -/
def State.heard (s : State) (r : Host.Outcome State Fault Refusal) : Host.Outcome State Fault Refusal :=
  if s.ports then r else .next s

/-- Whether an access of an origin reaches the registers: the management controller needs no port, only the core clock (R69, R479). -/
def State.hears (s : State) (o : Origin) : Bool := if o = .mc then s.phase == .running else s.ports

/-- An access of an origin. -/
def State.heardFrom (s : State) (o : Origin) (r : Host.Outcome State Fault Refusal) : Host.Outcome State Fault Refusal :=
  if s.hears o then r else .next s

/-- An event inside the part: there is none before PLL_C has locked (R68, R69). -/
def State.ticking (s : State) (r : Host.Outcome State Fault Refusal) : Host.Outcome State Fault Refusal :=
  if s.phase == .running then r else .next s

end Sys2Proof.Machine
end

