-- ==== Sys2Proof/Machine/Clk.lean ====
section
/-!
DEFINITION. References, PLLs, fractional dividers and the media-clock servo (R62-R84).
-/

namespace Sys2Proof.Machine

/-- The lock bit of a PLL in CLK_STATUS. -/
def pllBit (i : Nat) : Fld := ⟨Adr.CLK_STATUS, 7 + i, 7 + i⟩

/-- Whether a PLL is locked. -/
def pllLocked (i : Nat) (s : State) : Bool := s.on (F.CLK_PLL_STAT_LOCK i)

/-- The state of a PLL: 0 off, 1 locking, 2 locked, 3 failed. -/
def pllState (i : Nat) (s : State) : Nat := SMap.get (fun _ => 0) s.clk.pll i

/-- Whether a PLL that had locked is unlocked now (R75). -/
def pllDropped (i : Nat) (s : State) : Bool := SMap.get (fun _ => false) s.clk.had i && !pllLocked i s

/-- The state of a PLL changed; `auto` tells whether a lock under way follows an unlock of its own. -/
def setPll (i v : Nat) (auto : Bool) (s : State) : State :=
  { s with clk := { s.clk with pll := SMap.set (fun _ => 0) s.clk.pll i v,
                               auto := SMap.set (fun _ => false) s.clk.auto i auto } }

/-- A PLL starts its band search (R66). -/
def pllStart (i : Nat) (auto : Bool) (s : State) : State :=
  let s := (setPll i 1 auto s).setFld (F.CLK_PLL_STAT_LOCK i) 0
  let s := { s with clk := { s.clk with relock := SMap.set (fun _ => 0) s.clk.relock i 0 } }
  s.setFld (pllBit i) 0

/-- A PLL off (R68, R94). -/
def pllStop (i : Nat) (s : State) : State :=
  let s := { s with clk := { s.clk with had := SMap.set (fun _ => false) s.clk.had i false } }
  ((setPll i 0 false s).setFld (F.CLK_PLL_STAT_LOCK i) 0).setFld (pllBit i) 0

/-- The band that a search which would end on `band` stops at, kept between the bounds (R66, R11). DESIGN CHOICE (log entry 98): with
BAND_FLOOR above BAND_CEIL, on which R66 is silent, the band is held at BAND_FLOOR and PINNED shows, as in the other loops of R11. -/
def pllBand (i band : Nat) (s : State) : Nat :=
  let lo := s.fld (F.CLK_PLL_CFG_BAND_FLOOR i)
  let hi := s.fld (F.CLK_PLL_CFG_BAND_CEIL i)
  if hi ≤ lo then lo else clampNat lo hi band

/-- What CLK_PLL_STAT shows of a search that has ended, locked or not (R66). -/
def pllSearched (i band : Nat) (s : State) : State :=
  let lo := s.fld (F.CLK_PLL_CFG_BAND_FLOOR i)
  let hi := s.fld (F.CLK_PLL_CFG_BAND_CEIL i)
  let b := pllBand i band s
  ((s.setOn (F.CLK_PLL_STAT_PINNED i) (decide (hi ≤ lo))).setOn (F.CLK_PLL_STAT_AT_CEIL i) (b == hi)).setOn
    (F.CLK_PLL_STAT_AT_FLOOR i) (b == lo)

/-- A band search ends on `band`; the PLL is locked (R66). -/
def pllLock (i band : Nat) (s : State) : State :=
  let b := pllBand i band s
  let s := pllSearched i band { s with clk := { s.clk with had := SMap.set (fun _ => false) s.clk.had i true } }
  let s := (setPll i 2 false s).setFld (F.CLK_PLL_STAT_BAND i) b
  ((s.setFld (F.CLK_PLL_STAT_LOCK i) 1).setFld (F.CLK_PLL_STAT_LOCK_FAIL i) 0).setFld (pllBit i) 1

/-- A PLL reports LOCK_FAIL and stays unlocked (R66, R75); its search stopped at `band`. -/
def pllFail (i band : Nat) (s : State) : State :=
  ((setPll i 3 false (pllSearched i band s)).setFld (F.CLK_PLL_STAT_LOCK_FAIL i) 1).report (0x2108 + i) 0 0

/-- The end of a band search of PLL_M, PLL_P or PLL_N: lock, another automatic try, or LOCK_FAIL after the fifth. -/
def pllResult (i : Nat) (ok : Bool) (band : Nat) (s : State) : State :=
  if pllState i s ≠ 1 then s
  else if ok then pllLock i band s
  else if SMap.get (fun _ => false) s.clk.auto i then
    let n := SMap.get (fun _ => 0) s.clk.relock i + 1
    if 5 ≤ n then pllFail i band s
    else pllSearched i band { s with clk := { s.clk with relock := SMap.set (fun _ => 0) s.clk.relock i n } }
  else pllFail i band s

/-- A PLL without lock whose search waits for the ramps of R75; PLL_N has none and searches at once. -/
def pllAway (i : Nat) (auto : Bool) (s : State) : State :=
  let s := pllStart i auto s
  if i = 3 then s else setPll i 4 auto s

/-- The ramps of R75 are done: a search that waited for them begins. -/
def pllRamped (i : Nat) (s : State) : State :=
  if pllState i s = 4 then setPll i 1 (SMap.get (fun _ => false) s.clk.auto i) s else s

/-- A tick-clock error (R77): in compatibility mode it mutes the speakers, and it restarts the count of good ticks (R371). -/
def tickClockErr (s : State) : State :=
  { s with clk := { s.clk with tickErr := true }, spk := { s.spk with good := 0 } }

/-- An unlock of PLL_M, PLL_P or PLL_N: counted, logged, relocked on its own (R75); that of PLL_P is a tick-clock error (R77). -/
def pllUnlock (i : Nat) (s : State) : State :=
  if !pllLocked i s then s
  else ((pllAway i true (s.bump (F.CLK_PLL_STAT_UNLOCK_CNT i) (F.CLK_PLL_STAT_UNLOCK_SAT i))).report (0x2103 + i) 0 0).when (i == 2)
    tickClockErr

/-- Whether a PLL is kept off: PLL_M and PLL_P are, until the tick runs on its reference and while the part is in STANDBY (R68, R94). -/
def pllKept (i : Nat) (s : State) : Bool :=
  i != 3 && (s.on F.CLK_STATUS_PRELOCK || (s.fld F.PWR_STATUS_PS_ACT == 0 && s.pwr.step.isNone))

/-- A write of a RELOCK bit (R75): ignored while the PLL is locking or kept off. DESIGN CHOICE (log entry 98): the lock ends with the
write, the search begins after the ramps. -/
def pllRelock (i : Nat) (s : State) : State :=
  if pllState i s = 1 ∨ pllState i s = 4 ∨ pllKept i s then s else (pllAway i false s).setFld (F.CLK_PLL_STAT_LOCK_FAIL i) 0

/-- Whether an edge count of an 8-tick window is good: nominal ± 5 % (R70), the nominal count in thirds of an edge. -/
def windowGood (edges nominal3 : Nat) : Bool := decide (nominal3 * 95 ≤ edges * 300) && decide (edges * 300 ≤ nominal3 * 105)

/-- Qualification and any slew towards the source start again (R71). -/
def refRestart (s : State) : State :=
  ({ s with clk := { s.clk with refGood := 0, waitPair := false } }.setFld F.CLK_STATUS_REF_OK 0).setFld F.CLK_STATUS_SLEWING 0

/-- The slew towards a qualified source while the tick is on IOSC; none with SLEW_RATE = 0 (R71, R84). -/
def slewShow (s : State) : State :=
  let go := s.on F.CLK_STATUS_REF_OK && s.fld F.CLK_STATUS_REF_ACT == 2 && s.on F.CLK_REF_CFG_SLEW_RATE
  { s with clk := { s.clk with waitPair := s.clk.waitPair && go } }.setOn F.CLK_STATUS_SLEWING (go && !s.clk.waitPair)

/-- Holdover: REFD back on IOSC (R73). -/
def holdover (s : State) : State := ((refRestart s).setFld F.CLK_STATUS_REF_ACT 2).setFld F.CLK_STATUS_HOLDOVER 1

/-- The selected source is lost (R70, R71, R73, R78); `xtal` tells that the crystal's amplitude fell below 100 mV. On IOSC a source that
had qualified is lost too, and qualification starts again. -/
def refLost (xtal : Bool) (s : State) : State :=
  let x := xtal && s.on F.CLK_REF_CFG_REF_SEL
  let s := s.when x (fun s => (s.setFld F.CLK_STATUS_XTAL_OK 0).report 0x2102 0 0)
  let on := s.fld F.CLK_STATUS_REF_ACT ≠ 2
  let loss := fun (s : State) => tickClockErr (s.report 0x2101 0 1)
  if on then loss (holdover s) else if s.on F.CLK_STATUS_REF_OK then loss (refRestart s) else refRestart s

/-- A window of the selected source ended (R70, R71). -/
def refWindow (edges : Nat) (xtalLow : Bool) (s : State) : State :=
  let sel := s.on F.CLK_REF_CFG_REF_SEL
  if !windowGood edges 3072 || (xtalLow && sel) then refLost xtalLow s
  else
    let n := min 16 (s.clk.refGood + 1)
    let s := { s with clk := { s.clk with refGood := n } }.when sel (State.setFld F.CLK_STATUS_XTAL_OK 1)
    if n < 16 then s
    else slewShow (s.setFld F.CLK_STATUS_REF_OK 1)

/-- A window of NREF ended: after 16 good ones it is qualified and PLL_N starts (R70, R580). -/
def nrefWindow (edges : Nat) (s : State) : State :=
  if !windowGood edges 3125 then
    { s with clk := { s.clk with nrefGood := 0 } }.when (s.on F.CLK_STATUS_NREF_OK)
      (fun s => (s.setFld F.CLK_STATUS_NREF_OK 0).report 0x2107 0 0)
  else
    let n := min 16 (s.clk.nrefGood + 1)
    let s := { s with clk := { s.clk with nrefGood := n } }
    if n < 16 || s.on F.CLK_STATUS_NREF_OK then s
    else (s.setFld F.CLK_STATUS_NREF_OK 1).when (pllState 3 s == 0) (pllStart 3 false)

/-- REFD switches to the source; the first time PRELOCK clears and PLL_M and PLL_P start (R71). -/
def refSwitch (s : State) : State :=
  if !s.clk.waitPair then s
  else
    let pre := s.on F.CLK_STATUS_PRELOCK
    let s := { s with clk := { s.clk with waitPair := false } }
    let s := ((s.setFld F.CLK_STATUS_REF_ACT (s.fld F.CLK_REF_CFG_REF_SEL)).setFld F.CLK_STATUS_HOLDOVER 0).setFld
      F.CLK_STATUS_PRELOCK 0
    s.when (pre && (decide (1 ≤ s.fld F.PWR_STATUS_PS_ACT) || s.pwr.step.isSome)) (fun s => pllStart 2 false (pllStart 1 false s))

/-- A write of REF_SEL (R74). DESIGN CHOICE (log entry 98): the holdover that it starts logs no REF_LOSS, as no source is lost. -/
def refSelect (v : Nat) (s : State) : State :=
  if s.fld F.CLK_REF_CFG_REF_SEL = v % 2 then s
  else
    let s := s.setFld F.CLK_REF_CFG_REF_SEL v
    if s.fld F.CLK_STATUS_REF_ACT = 2 then refRestart s else holdover s

/-- Whether the servo's phase source is ready (R81, R83, R189): gPTP, or lock of the selected port. -/
def servoReady (s : State) : Bool :=
  let src := s.fld F.CLK_SERVO_CFG_SERVO_SRC
  let p := s.fld F.CLK_SERVO_CFG_SERVO_PORT
  if src = 1 then s.on F.TIME_STAT_GPTP_RDY
  else if src = 2 then s.fld (F.SAP_STAT_PSTATE p) == 8
  else if src = 3 then decide (p < 4) && s.fld (F.SPDI_STAT_PSTATE p) == 4
  else false

/-- Whether the servo holds its steer word (R83). -/
def servoHold (s : State) : Bool := s.on F.CLK_STATUS_HOLDOVER || s.on F.CLK_STATUS_PRELOCK || !servoReady s

/-- A steer word within its bounds (R82). -/
def steerClamp (v : Nat) (s : State) : Nat :=
  let lo := s.fld F.CLK_STEER_FLOOR_STEER_FLOOR
  let hi := s.fld F.CLK_STEER_CEIL_STEER_CEIL
  if hi ≤ lo then lo else clampNat lo hi v

/-- What CLK_SERVO_STAT shows of the bounds and of a hold (R82, R83). -/
def servoShow (s : State) : State :=
  let lo := s.fld F.CLK_STEER_FLOOR_STEER_FLOOR
  let hi := s.fld F.CLK_STEER_CEIL_STEER_CEIL
  let v := s.fld F.CLK_STEER_STEER
  (((s.setOn F.CLK_SERVO_STAT_HOLD (s.on F.CLK_SERVO_CFG_SERVO_EN && servoHold s)).setOn F.CLK_SERVO_STAT_PINNED (decide (hi ≤ lo))).setOn
    F.CLK_SERVO_STAT_AT_FLOOR (v == lo)).setOn F.CLK_SERVO_STAT_AT_CEIL (v == hi)

/-- A written steer bound takes the word with it (R82). DESIGN CHOICE (log entry 98): a bound outranks the slew limit and a hold. -/
def steerBound (s : State) : State := servoShow (s.setFld F.CLK_STEER_STEER (steerClamp (s.fld F.CLK_STEER_STEER) s))

/-- The phase error of a sample in ns: PHASE_ERR of TIME for SERVO_SRC = 1, else the port's edge as measured (R81, R453). -/
def servoPhase (err : Int) (s : State) : Int :=
  if s.fld F.CLK_SERVO_CFG_SERVO_SRC = 1 then s.int F.TIME_PHASE_PHASE_ERR else err

/-- One phase sample of the servo (R81-R83): the filter's new word is free, within STEER_SLEW and the bounds. DESIGN CHOICE (log entry
98): while the servo holds, LOCKED is clear and the count of good samples starts again. -/
def servoSample (err : Int) (s : State) : State :=
  if !s.on F.CLK_SERVO_CFG_SERVO_EN || s.tick % 1024 ≠ 0 then s
  else if servoHold s then servoShow ({ s with clk := { s.clk with servoGood := 0 } }.setFld F.CLK_SERVO_STAT_LOCKED 0)
  else
    let e := servoPhase err s
    let s := s.post Adr.CLK_SERVO_ERR (BitVec.ofNat 32 (unsigned 23 e))
    let n := if -100 ≤ e ∧ e ≤ 100 then min 16 (s.clk.servoGood + 1) else 0
    let now := s.fld F.CLK_STEER_STEER
    let slew := s.fld F.CLK_SERVO_CFG_STEER_SLEW
    let v := steerClamp (clampNat (now - slew) (now + slew) (s.freeW.toNat % 2 ^ 24)) s
    let bound := v == s.fld F.CLK_STEER_FLOOR_STEER_FLOOR || v == s.fld F.CLK_STEER_CEIL_STEER_CEIL
    let k := if bound then min 1025 (s.clk.atBound + 1) else 0
    let s := { (s.skipFree 1) with clk := { s.clk with servoGood := n, atBound := k } }
    let s := servoShow ((s.setFld F.CLK_STEER_STEER v).setOn F.CLK_SERVO_STAT_LOCKED (n == 16))
    s.when (k == 1024) (State.report 0x210D 0 0)

/-- A divider clears its accumulator: rising edge 0 falls on this core cycle (R80, R184). -/
def fdivPress (i : Nat) (s : State) : State :=
  { s with clk := { s.clk with fdivStart := SMap.set (fun _ => 0) s.clk.fdivStart i (s.tick * 5120 + s.cyc) } }

/-- The core cycles after its start at which a divider's rising edge `k` and the falling edge after it fall (R79). -/
def fdivEdge (i k : Nat) (s : State) : Nat := k * (s.word (Adr.CLK_FDIV i)).toNat / 65536
def fdivFall (i k : Nat) (s : State) : Nat := (2 * k + 1) * (s.word (Adr.CLK_FDIV i)).toNat / 131072

/-- The output of a divider at core cycle `c` (R79, R80): low while it is off. -/
def fdivLevel (i c : Nat) (s : State) : Bool :=
  let d := (s.word (Adr.CLK_FDIV i)).toNat
  let t := c - SMap.get (fun _ => 0) s.clk.fdivStart i
  d != 0 && decide (t < fdivFall i (((t + 1) * 65536 - 1) / d) s)

/-- REF_QUAL_WINDOW. -/
def execRefQualWindow (nref : Bool) (edges : Nat) (xtalLow : Bool) (s : State) : Host.Outcome State Fault Refusal :=
  s.ticking (
    .next (if nref then nrefWindow edges s else refWindow edges xtalLow s))

/-- REF_LOSS. -/
def execRefLoss (xtalLow : Bool) (s : State) : Host.Outcome State Fault Refusal := s.ticking (.next (refLost xtalLow s))

/-- IOSC_SLEW_DONE. -/
def execIoscSlewDone (s : State) : Host.Outcome State Fault Refusal :=
  s.ticking (
    .next (if s.on F.CLK_STATUS_SLEWING then slewShow { s with clk := { s.clk with waitPair := true } } else s))

/-- REF_SWITCH. -/
def execRefSwitch (s : State) : Host.Outcome State Fault Refusal := s.ticking (.next (refSwitch s))

/-- REF_SEL_CHANGE. -/
def execRefSelChange (sel : Fin 2) (s : State) : Host.Outcome State Fault Refusal := s.heard (.next (refSelect sel.val s))

/-- PLL_UNLOCK. -/
def execPllUnlock (pll : Fin 3) (s : State) : Host.Outcome State Fault Refusal := s.ticking (.next (pllUnlock (pll.val + 1) s))

/-- RELOCK_M. -/
def execRelockM (s : State) : Host.Outcome State Fault Refusal := s.heard (.next (pllRelock 1 s))

/-- RELOCK_P. -/
def execRelockP (s : State) : Host.Outcome State Fault Refusal := s.heard (.next (pllRelock 2 s))

/-- RELOCK_N. -/
def execRelockN (s : State) : Host.Outcome State Fault Refusal := s.heard (.next (pllRelock 3 s))

/-- SERVO_SAMPLE. -/
def execServoSample (cyc : Fin 5120) (err : Int) (s : State) : Host.Outcome State Fault Refusal :=
  s.ticking (.next (servoSample err (s.land cyc.val)))

/-- NREF_LOSS. -/
def execNrefLoss (s : State) : Host.Outcome State Fault Refusal := s.ticking (.next (nrefWindow 0 s))

end Sys2Proof.Machine
end

