-- ==== Sys2Proof/Machine/Pwr.lean ====
section
/-!
DEFINITION. Rails, power states and the core voltage loop (R85-R104).
-/

namespace Sys2Proof.Machine

/-- The power state the outputs follow: the one a step under way leads to, else the present one (R95). -/
def psTarget (s : State) : Nat := s.pwr.step.getD (s.fld F.PWR_STATUS_PS_ACT)

/-- Whether the tick-time blocks run: any state but STANDBY, once it is left (R94). -/
def psAwake (s : State) : Bool := decide (1 ≤ max (psTarget s) (s.fld F.PWR_STATUS_PS_ACT))

/-- The next state on the way from `a` to `r` (R95). -/
def psNext (a r : Nat) : Nat := if a < r then a + 1 else a - 1

/-- A step towards the requested state starts, where it differs from the present one. -/
def psStart (s : State) : State :=
  let a := s.fld F.PWR_STATUS_PS_ACT
  let r := s.fld F.PWR_STATE_REQ_PS_REQ
  if a = r then { s with pwr := { s.pwr with step := none } }.setFld F.PWR_STATUS_PS_BUSY 0
  else
    let n := psNext a r
    let s := { s with pwr := { s.pwr with step := some n } }.setFld F.PWR_STATUS_PS_BUSY 1
    s.when (a == 0 && !s.on F.CLK_STATUS_PRELOCK) (fun s => pllStart 2 false (pllStart 1 false s))

/-- A write of PS_REQ (R96). -/
def psRequest (v : Nat) (s : State) : State :=
  if v % 4 = 3 then s
  else
    let s := s.setFld F.PWR_STATE_REQ_PS_REQ v
    if s.on F.PWR_STATUS_PS_BUSY then s else psStart s

/-- The step under way ends; the part moves on towards the latest request (R95, R96). -/
def psStepDone (s : State) : State :=
  match s.pwr.step with
  | none => s
  | some n =>
    let s := s.setFld F.PWR_STATUS_PS_ACT n
    psStart (s.when (n == 0) (fun s => pllStop 2 (pllStop 1 s)))

/-- Effective bounds of the core voltage: the software bounds within the headband (R101). -/
def vFloor (s : State) : Nat :=
  clampNat (s.fld F.PWR_HB_VMIN_HB_VMIN) (s.fld F.PWR_HB_VMAX_HB_VMAX) (s.fld F.PWR_VCORE_FLOOR_VCORE_FLOOR)
def vCeil (s : State) : Nat :=
  clampNat (s.fld F.PWR_HB_VMIN_HB_VMIN) (s.fld F.PWR_HB_VMAX_HB_VMAX) (s.fld F.PWR_VCORE_CEIL_VCORE_CEIL)

/-- The present target: 850 mV before any command has been sent (R98). -/
def vNow (s : State) : Nat := if s.fld F.PWR_VLOOP_STAT_VSET = 0 then 850 else s.fld F.PWR_VLOOP_STAT_VSET

/-- A target within the effective bounds; crossed bounds hold at the floor (R101). -/
def vClamp (v : Nat) (s : State) : Nat := if vCeil s ≤ vFloor s then vFloor s else clampNat (vFloor s) (vCeil s) v

/-- The flags of PWR_VLOOP_STAT that follow VSET and the bounds. -/
def vFlags (s : State) : State :=
  let v := s.fld F.PWR_VLOOP_STAT_VSET
  ((s.setOn F.PWR_VLOOP_STAT_PINNED (decide (vCeil s ≤ vFloor s))).setOn F.PWR_VLOOP_STAT_AT_CEIL (v == vCeil s)).setOn
    F.PWR_VLOOP_STAT_AT_FLOOR (v == vFloor s)

/-- A target sent as an AVSBus Voltage write (R98); `first` puts it directly after the transaction under way, in place
of targets not yet committed (R99). -/
def vSend (v : Nat) (first : Bool) (s : State) : State :=
  let q := s.pwr.avs
  let q' := if first then q.take 1 ++ [some v] ++ (q.drop 1).filter (fun t => t.isNone) else q ++ [some v]
  vFlags ({ s with pwr := { s.pwr with avs := q', lastWrite := s.tick, await := s.tick + 384 } }.setFld
    F.PWR_VLOOP_STAT_VSET v)

/-- Whether the loop may send: enabled, the bus clocked, no AVS_FAIL (R98, R100, R102). -/
def vMaySend (s : State) : Bool :=
  s.on F.PWR_VLOOP_CFG_LOOP_EN && s.on F.PWR_VLOOP_CFG_AVS_DIV && !s.on F.PWR_VLOOP_STAT_AVS_FAIL

/-- A bound that has moved past the target takes effect at once (R101). DESIGN CHOICE (log entry 99): a target equal to the present one is
not sent, and a bound moved while AVS_DIV = 0 is not sent when AVS_DIV becomes nonzero: the next sample or bound brings it. -/
def vBounds (s : State) : State :=
  let t := vClamp (vNow s) s
  if vMaySend s && t != vNow s then vSend t false s else vFlags s

/-- Whether the loop runs (R98). -/
def vRuns (s : State) : Bool :=
  s.on F.PWR_VLOOP_CFG_LOOP_EN && s.on F.PWR_VLOOP_CFG_PERIOD && s.on F.PWR_VLOOP_CFG_STEP && s.on F.PWR_VLOOP_CFG_AVS_DIV

/-- The end of a sample period (R98, R100). DESIGN CHOICE (log entry 99): samples fall on ticks that are multiples of 16 × PERIOD, the
down count stands while the loop is off, and a target equal to the present one is not sent. -/
def vSample (s : State) : State :=
  let step := 5 * s.fld F.PWR_VLOOP_CFG_STEP
  if !vRuns s || s.tick % (16 * s.fld F.PWR_VLOOP_CFG_PERIOD) ≠ 0 then s
  else match s.pwr.minMargin with
    | none => s
    | some m =>
      let t := max (s.fld F.PWR_MARGIN_CFG_MARGIN_TGT) (s.fld F.PWR_MARGIN_CFG_MARGIN_EMERG + 2)
      let s := { s with pwr := { s.pwr with minMargin := none } }.post Adr.PWR_MARGIN (BitVec.ofNat 32 (m % 2 ^ 23))
      let fail := s.on F.PWR_VLOOP_STAT_AVS_FAIL
      let s := s.when (!fail) (fun s => { s with pwr := { s.pwr with avs := s.pwr.avs ++ [none] } })
      if fail || decide (s.tick < s.pwr.await) then s
      else if m + 2 < t then
        let s := { s with pwr := { s.pwr with down := 0 } }
        let v := vClamp (vNow s + step) s
        if v = vNow s then vFlags s else vSend v false s
      else if t + 2 < m then
        let n := s.pwr.down + 1
        let dn := s.fld F.PWR_VLOOP_CFG_DOWN_N
        if dn ≠ 0 ∧ dn ≤ n then
          let s := { s with pwr := { s.pwr with down := 0 } }
          let v := vClamp (vNow s - step) s
          if v = vNow s then vFlags s else vSend v false s
        else { s with pwr := { s.pwr with down := min n 31 } }
      else { s with pwr := { s.pwr with down := 0 } }

/-- The smallest slack reported in a tick: kept for the sample of a running loop, and the emergency raise of R99, which after AVS_FAIL
is only logged at the ceiling. DESIGN CHOICE (log entry 99): margins are whole percent of a core cycle. -/
def vMargin (m : Nat) (s : State) : State :=
  let mm := match s.pwr.minMargin with
    | none => m
    | some k => min k m
  let s := { s with pwr := { s.pwr with minMargin := if vRuns s then some mm else none } }
  if m < s.fld F.PWR_MARGIN_CFG_MARGIN_EMERG ∧ s.on F.PWR_VLOOP_CFG_AVS_DIV then
    if vCeil s ≤ vNow s then s.report 0x10CA 0 0
    else if s.on F.PWR_VLOOP_STAT_AVS_FAIL then s
    else ((vSend (min (vNow s + 20) (vCeil s)) true s).bump F.PWR_VLOOP_STAT_EMERG_CNT F.PWR_VLOOP_STAT_EMERG_SAT).report 0x10C9 0 0
  else s

/-- The AVSBus transaction under way ended (R100, R103): read-backs in mV and 10 mA; AVS_FAIL after its third failed retry. DESIGN CHOICE
(log entry 99): HOLD is shown with AVS_FAIL only. -/
def avsDone (ok complete : Bool) (mv ma : Nat) (s : State) : State :=
  match s.pwr.avs with
  | [] => s
  | t :: rest =>
    if ok then
      let s := { s with pwr := { s.pwr with avs := rest, avsFails := 0,
                                             await := if complete then s.tick else s.pwr.await } }
      match t with
      | some _ => s
      | none =>
        let s := (s.post Adr.PWR_VCORE_MEAS (BitVec.ofNat 32 (mv % 2 ^ 23))).post Adr.PWR_ICORE_MEAS (BitVec.ofNat 32 (ma % 2 ^ 23))
        let v := s.fld F.PWR_VLOOP_STAT_VSET
        s.when (v ≠ 0 && decide (s.pwr.lastWrite + 384 ≤ s.tick) && (decide (v + 25 < mv) || decide (mv + 25 < v)))
          (State.report 0x10CC 0 0)
    else
      let n := s.pwr.avsFails + 1
      if 4 ≤ n then
        (({ s with pwr := { s.pwr with avs := [], avsFails := 0 } }.setFld F.PWR_VLOOP_STAT_AVS_FAIL 1).setFld
          F.PWR_VLOOP_STAT_HOLD 1).report 0x10CB 0 0
      else { s with pwr := { s.pwr with avsFails := n } }

/-- After a write of PWR_VLOOP_CFG: LOOP_EN written 0 and then 1 ends AVS_FAIL (R100, R102). -/
def vCfgAfter (was : Bool) (s : State) : State :=
  let on := s.on F.PWR_VLOOP_CFG_LOOP_EN
  let s := s.when (on && !was) (fun s => (s.setFld F.PWR_VLOOP_STAT_AVS_FAIL 0).setFld F.PWR_VLOOP_STAT_HOLD 0)
  if on && !was then vBounds { s with pwr := { s.pwr with minMargin := none } } else s

/-- Overvoltage or undervoltage of PVIN: the OK bit follows both comparators (R90, R91). -/
def pvinOk (s : State) : State := s.setOn F.PWR_STATUS_PVIN_OK (s.pwr.pvin && !s.pwr.pvinHigh)

/-- PF_VIO follows VDDIO, once there is a core clock; only 1.8 V signalling has the comparator (R92). A crossing is logged once. -/
def pfVioShow (s : State) : State :=
  let on := s.on F.PWR_STATUS_IO_LEVEL
  let s := (s.setOn F.PWR_STATUS_PF_VIO (on && s.pwr.vioLow)).when (on && s.pwr.vioNew) (State.report 0x10C8 0 0)
  { s with pwr := { s.pwr with vioNew := false } }

/-- VDDIO crosses the power-fail thresholds (R92). -/
def pfVio (low : Bool) (s : State) : State :=
  let s := { s with pwr := { s.pwr with vioLow := low, vioNew := (s.pwr.vioNew || !s.pwr.vioLow) && low } }
  s.when (s.phase == .running) pfVioShow

/-- PVIN_OVERVOLTAGE. The comparator needs no clock; what it sets off does (R88). -/
def execPvinOvervoltage (s : State) : Host.Outcome State Fault Refusal :=
  let t := { s with pwr := { s.pwr with pvinHigh := true } }
  .next (t.when (s.phase == .running && !s.pwr.pvinHigh) (fun s =>
    ((pvinOk s).bump F.PWR_EVT_CNT_PVIN_OV_CNT F.PWR_EVT_CNT_PVIN_OV_SAT).report 0x10C7 0 2))

/-- PVIN_OV_RECOVER. -/
def execPvinOvRecover (s : State) : Host.Outcome State Fault Refusal :=
  let t := { s with pwr := { s.pwr with pvinHigh := false } }
  .next (t.when (s.phase == .running) pvinOk)

/-- PVIN_FULL_CHANGE. -/
def execPvinFullChange (full : Bool) (s : State) : Host.Outcome State Fault Refusal :=
  let t := { s with pwr := { s.pwr with full := full } }
  .next (t.when (s.phase == .running) (State.setOn F.PWR_STATUS_PVIN_FULL full))

/-- PF_VIO_CHANGE. The comparator needs no clock; what it shows does (R88, R92). -/
def execPfVioChange (low : Bool) (s : State) : Host.Outcome State Fault Refusal := .next (pfVio low s)

/-- POWER_STATE_REQUEST. -/
def execPowerStateRequest (req : Fin 4) (s : State) : Host.Outcome State Fault Refusal := s.heard (.next (psRequest req.val s))

/-- VLOOP_SAMPLE. -/
def execVloopSample (s : State) : Host.Outcome State Fault Refusal := s.ticking (.next (vSample s))

/-- AVS_TRANSACTION_DONE. -/
def execAvsTransactionDone (ok complete : Bool) (mv ma : Nat) (s : State) : Host.Outcome State Fault Refusal :=
  s.ticking (
    .next (avsDone ok complete mv ma s))

end Sys2Proof.Machine
end

