-- ==== Sys2Proof/Machine/Guard.lean ====
section
/-!
DEFINITION. A guarded engine: takeover by the guard unit, FAULTED, and the restore test (R145, R236, R259, R290, R527).
-/

namespace Sys2Proof.Machine

/-- What an engine does on a residue mismatch. -/
inductive GuardAct where
  /-- The guard takes the unit over. -/
  | takeover
  /-- The engine goes FAULTED. -/
  | fault
  /-- The engine was FAULTED already. -/
  | none
  deriving DecidableEq, Repr

/-- A mismatch of unit `u`: with the guard spare it takes over, else the engine goes FAULTED (R145, R259). -/
def engineFail (u rampLen : Nat) (g : Engine) : Engine × GuardAct :=
  if g.faulted then ({ g with bad := if g.bad.contains u then g.bad else g.bad ++ [u] }, .none)
  else if g.bad.isEmpty then ({ g with bad := [u] }, .takeover)
  else ({ g with bad := if g.bad.contains u then g.bad else g.bad ++ [u], faulted := true,
                 w := rampGo false rampLen g.w }, .fault)

/-- Whether a restore may start: a unit is out (R145, R527). -/
def engineMayRestore (g : Engine) : Bool := !g.bad.isEmpty

/-- The end of a restore test. With the guard in use a pass frees it; a FAULTED engine readmits every unit that passed and
restarts if no more than one is out; else it stays FAULTED with those that are left. The result tells whether the engine restarted and whether anything failed. -/
def engineRestore (failed : List Nat) (rampLen : Nat) (g : Engine) : Engine × Bool × Bool :=
  let bad := g.bad.filter (fun u => failed.contains u)
  if g.faulted then
    if bad.length ≤ 1 then
      ({ g with bad := bad, faulted := false, w := { pos := 0, len := rampLen, up := true } }, true, !bad.isEmpty)
    else ({ g with bad := bad }, false, true)
  else ({ g with bad := bad }, false, !bad.isEmpty)

/-- Whether the guard of an engine carries a unit. -/
def engineGuarded (g : Engine) : Bool := !g.faulted && !g.bad.isEmpty

/-- The value an engine delivers for source `src` where it has computed `w` and the spine shows `prev`: withheld, ramped
from its last good value by a FAULTED engine, ramped in by a restarted one (R145, R258, R259). -/
def engineOut (src : Nat) (w prev : Word) (e : Engine) : Word × Engine :=
  if e.held.contains src then (addTag prev tSUB, e)
  else if e.faulted then
    let l := SMap.get (fun _ => 0) e.last src
    (if rampRests e.w then zeroTag tSUB else addTag (weigh (rampWeight e.w) l) (tSUB ||| tFAD), e)
  else
    (if rampRests e.w then w else addTag (weigh (rampWeight e.w) w) tFAD, { e with last := SMap.set (fun _ => 0) e.last src w })

/-- The engine one tick on. -/
def engineTick (e : Engine) : Engine := { e with held := [], w := rampStep e.w }

/-- Page violation: counted, with its kind and offset (R494); kinds 3 (clamp) and 5 (bank write) log nothing here. -/
def State.viol (page kind ofs : Nat) (s : State) : State :=
  ((s.bump (F.pgViol page) (F.pgViolSat page)).setFld (F.pgViolKind page) kind).setFld (F.pgViolOfs page) ofs

end Sys2Proof.Machine
end

