-- ==== Sys2Proof/Machine/Qmg.lean ====
section
/-!
DEFINITION. The queue manager (R397-R420): cells, signatures, queues, bookmarks, watermarks and window ports.
-/

namespace Sys2Proof.Machine

/-- Queue `q`. -/
def State.queue (s : State) (q : Nat) : Queue := SMap.get (fun _ => {}) s.qmg.queues q

/-- Queue `q` replaced. -/
def State.setQueue (q : Nat) (x : Queue) (s : State) : State :=
  { s with qmg := { s.qmg with queues := SMap.set (fun _ => {}) s.qmg.queues q x } }

/-- XOFF follows the watermarks (R410). -/
def qXoff (q : Nat) (s : State) : State :=
  let occ := (s.queue q).occ
  let hwm := s.fld (F.QMG_QWM_HWM q)
  if s.on (F.QMG_QSTAT_XOFF q) then
    if occ ≤ s.fld (F.QMG_QWM_LWM q) then ((s.setFld (F.QMG_QSTAT_XOFF q) 0).raise Pg.qmg 1) else s
  else if hwm ≠ 0 ∧ hwm ≤ occ then ((s.setFld (F.QMG_QSTAT_XOFF q) 1).raise Pg.qmg 0) else s

/-- Cells of the shared part in use: what each queue holds above its reserve (R400). -/
def qSharedUsed (s : State) : Nat :=
  s.qmg.queues.foldl (fun n e => n + (e.2.occ - s.fld (F.QMG_QCFG_RES e.1))) 0

/-- Free cells in the shared part (QMG_SHFREE). -/
def qSharedFree (s : State) : Nat := s.fld F.QMG_SHARED_SHARED - qSharedUsed s

/-- Whether a request for queue `q` is below its reserve: granted at once, never contending (R400). -/
def qInReserve (q : Nat) (s : State) : Bool :=
  s.on (F.QMG_QCFG_EN q) && decide ((s.queue q).occ < s.fld (F.QMG_QCFG_RES q))

/-- Whether a request for queue `q` finds a cell, from its reserve or from the shared part (R400). -/
def qCanGrant (q : Nat) (s : State) : Bool :=
  qInReserve q s || (s.on (F.QMG_QCFG_EN q) && decide ((s.queue q).occ < s.fld (F.QMG_QCFG_MAXC q))
    && decide (0 < qSharedFree s))

/-- Whether a queue holds a request of the producer that waits (R406). -/
def qWaits (q : Nat) (p : Prod) (s : State) : Bool := s.qmg.waits.any (fun w => w.queue == q && w.prod == p)

/-- The first waiting request of each producer and queue: those behind it follow in its order. -/
def waitHeads (l : List Wait) : List Wait :=
  l.foldl (fun acc w => if acc.any (fun v => v.queue == w.queue && v.prod == w.prod) then acc else acc ++ [w]) []

/-- Waiting requests that a freed shared cell goes to before a request of a rank (R406). -/
def qAhead (rank : Nat) (s : State) : Nat :=
  ((waitHeads s.qmg.waits).filter (fun w => decide (w.prod.rank ≤ rank) && !qInReserve w.queue s && qCanGrant w.queue s)).length

/-- Whether a new request of a rank for queue `q` is granted: from the reserve at once, from the shared part behind what waits in its
rank order (R400, R406). -/
def qMayGrant (q rank : Nat) (s : State) : Bool :=
  qInReserve q s || (qCanGrant q s && decide (qAhead rank s < qSharedFree s))

/-- The first cell of the free list taken (log entry 10: its order). -/
def qTake (m : QmgSt) : Nat × QmgSt :=
  let m' := { m with freeList := m.freeList - 1, freeState := m.freeState - 1, heldTotal := m.heldTotal + 1 }
  if m.fresh < 65536 then (m.fresh, { m' with fresh := m.fresh + 1 })
  else match m.returned with
    | c :: t => (c, { m' with returned := t })
    | [] => (0, m')

/-- Cells of queue `q` returned to the free list. -/
def qFree (q : Nat) (cells : List Nat) (s : State) : State :=
  let n := cells.length
  let x := s.queue q
  if n = 0 then s
  else
    let s := s.setQueue q { x with occ := x.occ - n }
    qXoff q { s with qmg := { s.qmg with returned := s.qmg.returned ++ cells, freeList := s.qmg.freeList + n,
                                          freeState := s.qmg.freeState + n, heldTotal := s.qmg.heldTotal - n } }

/-- The open signature of a producer in a queue, linked or not (R403). -/
def qOpenOf (x : Queue) (p : Prod) : Option Sig :=
  match x.opens.find? (fun g => g.prod == p) with
  | some g => some g
  | none => x.sigs.find? (fun g => !g.closed && g.prod == p)

/-- The open signature of a producer changed by `f`. -/
def qMapOpen (p : Prod) (f : Sig → Sig) (x : Queue) : Queue :=
  { x with opens := x.opens.map (fun g => if g.prod == p then f g else g),
           sigs := x.sigs.map (fun g => if !g.closed && g.prod == p then f g else g) }

/-- A granted cell added to the producer's open signature. -/
def qGrant (q : Nat) (p : Prod) (s : State) : State :=
  let (c, m) := qTake s.qmg
  let s := { s with qmg := m }
  let x := qMapOpen p (fun g => { g with cells := g.cells ++ [c] }) (s.queue q)
  qXoff q ((s.setQueue q { x with occ := x.occ + 1 }).setFld (F.QMG_QSTAT_FULL q) 0)

/-- Bytes of a signature that a consumer may read: all of a closed one, the whole quires of an open one (R404). -/
def sigAvail (g : Sig) : Nat := if g.closed then g.len else g.words.length / 4 * 16

/-- Cells of the head signature that the read point `rd` has passed. -/
def sigPassed (g : Sig) (rd : Nat) : Nat :=
  if g.closed && 0 < rd && g.len ≤ rd then g.cells.length else min (rd / 256) (g.words.length / 64)

/-- The head signature after its read point moved: cells read past leave, and a signature read to its end is passed
(R407, R408). -/
def qSettle (q : Nat) (s : State) : State :=
  let x := s.queue q
  match x.sigs with
  | [] => s
  | g :: t =>
    let k := sigPassed g x.rd
    let fin := g.closed && decide (g.len ≤ x.rd) && (decide (0 < g.len) || decide (0 < x.rd))
    let g' := { g with left := max g.left k, gone := if x.bm then g.gone else max g.gone k }
    let out := if x.bm then [] else (g.cells.take k).drop g.gone
    let x' := if fin then { x with sigs := t, rd := 0, behind := if x.bm then x.behind ++ [g'] else x.behind }
              else { x with sigs := g' :: t }
    qFree q out (s.setQueue q x')

/-- The head signature passed whatever is left of it (R407, R418). -/
def qPass (q : Nat) (s : State) : State :=
  let x := s.queue q
  qSettle q (s.setQueue q { x with rd := 65536 })

/-- A signature of the queue linked at its tail (R403). -/
def qLink (q : Nat) (p : Prod) (s : State) : State :=
  let x := s.queue q
  match x.opens.find? (fun g => g.prod == p) with
  | none => s
  | some g => s.setQueue q { x with opens := x.opens.filter (fun h => !(h.prod == p)), sigs := x.sigs ++ [g] }

/-- Cut-through: an open signature that has reached CT bytes is linked while no other open one is (R404). -/
def qCutThrough (q : Nat) (s : State) : State :=
  let x := s.queue q
  if x.sigs.any (fun g => !g.closed) then s
  else match x.opens.find? (fun g => g.ct ≠ 0 ∧ g.ct ≤ g.len) with
    | some g => qLink q g.prod s
    | none => s

/-- The flags of a signature's descriptor (R398). -/
def sigFlags (linked : Bool) (g : Sig) : BitVec 8 :=
  BitVec.ofNat 3 (g.prod.rank - 1) ++ BitVec.ofBool g.replayed ++ BitVec.ofBool g.trunc ++ BitVec.ofBool g.err ++ BitVec.ofBool linked
    ++ BitVec.ofBool g.closed

/-- The 16-byte descriptor of a signature, as a little-endian number; `next` is the first cell of the next one (R398). -/
def sigDescriptor (linked : Bool) (next : Nat) (g : Sig) : BitVec 128 :=
  BitVec.ofNat 51 g.tick ++ BitVec.ofNat 13 g.cyc ++ (0 : BitVec 16) ++ BitVec.ofNat 8 g.prod.unit ++ sigFlags linked g
    ++ BitVec.ofNat 16 next ++ BitVec.ofNat 16 g.len

/-- The descriptors of a queue's linked signatures, head first, each with the next one's first cell (R398). -/
def queueDescriptors (x : Queue) : List (BitVec 128) :=
  (List.range x.sigs.length).map (fun i =>
    let next := match x.sigs[i + 1]? with
      | some h => h.cells.headD 0
      | none => 0
    match x.sigs[i]? with
    | some g => sigDescriptor true next g
    | none => 0)

/-- States of a cell (R397). -/
inductive CellState where
  /-- On the free list. -/
  | free
  /-- Part of a signature that is not yet linked. -/
  | build
  /-- Part of a linked signature and not yet read past. -/
  | queued
  /-- Read past, kept behind a bookmark. -/
  | held
  deriving DecidableEq, Repr

/-- The cells of a queue in state HELD: read past, not yet released (R408). -/
def qHeld (x : Queue) : List Nat :=
  x.behind.flatMap (fun g => g.cells.drop g.gone) ++ (match x.sigs with
    | g :: _ => if x.bm then (g.cells.take g.left).drop g.gone else []
    | [] => [])

/-- The cell table: the state of cell `c` and its owner (R397). -/
def cellEntry (c : Nat) (s : State) : CellState × Nat :=
  let own := fun (e : Nat × Queue) =>
    if e.2.opens.any (fun g => g.cells.contains c) then some (CellState.build, e.1)
    else if (qHeld e.2).contains c then some (CellState.held, e.1)
    else if e.2.sigs.any (fun g => (g.cells.drop g.gone).contains c) then some (CellState.queued, e.1)
    else none
  (s.qmg.queues.findSome? own).getD (.free, 0)

/-- The bytes of the last word beyond DROP cleared (R399). -/
def sigPad (drop : Nat) (ws : List Word) : List Word :=
  match ws.reverse with
  | [] => []
  | w :: t => ((w &&& Word.mask (31 - 8 * drop) 0) :: t).reverse

/-- The producer's signature closed with DROP (R399, R403), with TRUNC for `drop` 4 and above; one not yet linked goes to
the tail of its queue. -/
def qClose (q : Nat) (p : Prod) (drop : Nat) (s : State) : State :=
  let x := s.queue q
  if x.ended.contains p then s.setQueue q { x with ended := x.ended.filter (fun e => !(e == p)) }
  else match qOpenOf x p with
    | none => s
    | some g =>
      let n := g.words.length
      let past := decide (n = 16384 ∧ drop % 4 = 0)
      let len := if past then 65535 else 4 * n - (if n = 0 then 0 else drop % 4)
      let f := fun h : Sig => { h with closed := true, len := len, shut := s.tick, trunc := h.trunc || decide (4 ≤ drop),
                                       words := sigPad (if past then 1 else if n = 0 then 0 else drop % 4) h.words }
      let linked := x.sigs.any (fun h => !h.closed && h.prod == p)
      let x' := if linked then qMapOpen p f x
        else { x with opens := x.opens.filter (fun h => !(h.prod == p)), sigs := x.sigs ++ [f g] }
      let s := (s.setQueue q x').when past (State.bump (F.QMG_QCNT_DISC q) (F.QMG_QCNT_DS_SAT q))
      qCutThrough q (if linked then qSettle q s else s)

/-- An open signature that cannot go on: discarded whole with its cells, or ended with TRUNC where it is already linked
(R404); `stay` keeps discarding the producer's further words until it closes. -/
def qCancel (q : Nat) (p : Prod) (stay : Bool) (s : State) : State :=
  let x := s.queue q
  match x.opens.find? (fun g => g.prod == p) with
  | some g =>
    let x := { x with opens := x.opens.filter (fun h => !(h.prod == p)),
                      ended := if stay then x.ended ++ [p] else x.ended }
    qFree q g.cells (s.setQueue q x)
  | none =>
    if x.sigs.any (fun h => !h.closed && h.prod == p) then
      let x := qMapOpen p (fun h => { h with closed := true, trunc := true, shut := s.tick, len := min 65535 (4 * h.words.length) }) x
      qCutThrough q (qSettle q (s.setQueue q { x with ended := if stay then x.ended ++ [p] else x.ended }))
    else s

/-- The producer's signature opened: its stamp is the time of this write (R403). -/
def qOpen (q : Nat) (p : Prod) (s : State) : State :=
  let x := s.queue q
  match qOpenOf x p with
  | some _ => s
  | none => s.setQueue q { x with opens := x.opens ++ [{ prod := p, tick := s.tick, cyc := s.cyc,
                                                          ct := s.fld (F.QMG_QCT_CT q) }] }

/-- A rank 1 producer found its queue full: the signature is discarded, the overruns count (R405). -/
def qOverrun (q : Nat) (p : Prod) (stay : Bool) (s : State) : State :=
  ((((qCancel q p stay s).setFld (F.QMG_QSTAT_FULL q) 1).bump (F.QMG_QCNT_OVERRUN q) (F.QMG_QCNT_OV_SAT q)).bump
    F.QMG_CNT2_OVR_CNT F.QMG_CNT2_OV_SAT).raise Pg.qmg 2

/-- A request that waits is kept and counts once (R406). -/
def qWait (q : Nat) (p : Prod) (ws : List Word) (close : Option Nat) (s : State) : State :=
  let s := (s.setFld (F.QMG_QSTAT_FULL q) 1).bump F.QMG_CNT2_WAIT_CNT F.QMG_CNT2_WT_SAT
  { s with qmg := { s.qmg with waits := s.qmg.waits ++ [⟨p, q, s.tick * 5120 + s.cyc, ws, close⟩] } }

/-- The quire of the cell pool that word `k` of a signature lies in (R35). -/
def sigQuire (g : Sig) (k : Nat) : Nat := 16 * g.cells.getD (k / 64) 0 + k % 64 / 4

/-- One word appended to the producer's open signature, which has a cell with room. -/
def qAppend (q : Nat) (p : Prod) (w : Word) (s : State) : State :=
  let s := match qOpenOf (s.queue q) p with
    | some g => s.dropBack 0 (sigQuire g g.words.length)
    | none => s
  qCutThrough q (s.setQueue q (qMapOpen p
    (fun g => { g with words := g.words ++ [w], len := min 65535 (4 * (g.words.length + 1)) }) (s.queue q)))

/-- A producer writes words and, with `close`, closes its signature. A cell is requested when the signature opens and
each time its last cell fills; a full queue is met as the producer's rank sets out (R403, R405, R406). The result tells
whether the signature was written without overrun. -/
def qWrite (q : Nat) (p : Prod) (close : Option Nat) : List Word → State → State × Bool
  | [], s =>
    match close with
    | none => (s, true)
    | some d =>
      let x := s.queue q
      if !s.on (F.QMG_QCFG_EN q) then (s.bump (F.QMG_QCNT_DISC q) (F.QMG_QCNT_DS_SAT q), false)
      else if x.ended.contains p || (qOpenOf x p).isSome then (qClose q p d s, true)
      else if qMayGrant q p.rank s then (qClose q p 0 (qGrant q p (qOpen q p s)), true)
      else if p.rank = 1 then (qOverrun q p false s, false)
      else (qWait q p [] close s, true)
  | w :: ws, s =>
    let x := s.queue q
    if !s.on (F.QMG_QCFG_EN q) then (s.bump (F.QMG_QCNT_DISC q) (F.QMG_QCNT_DS_SAT q), false)
    else if x.ended.contains p then qWrite q p close ws (s.bump (F.QMG_QCNT_DISC q) (F.QMG_QCNT_DS_SAT q))
    else
      let s := qOpen q p s
      match qOpenOf (s.queue q) p with
      | none => (s, true)
      | some g =>
        let n := g.words.length
        if 16384 ≤ n then qWrite q p close ws (s.bump (F.QMG_QCNT_DISC q) (F.QMG_QCNT_DS_SAT q))
        else if n < 64 * g.cells.length then qWrite q p close ws (qAppend q p w s)
        else if qMayGrant q p.rank s then qWrite q p close ws (qAppend q p w (qGrant q p s))
        else if p.rank = 1 then
          let linked := (s.queue q).sigs.any (fun h => !h.closed && h.prod == p)
          ((qOverrun q p close.isNone s).bumpBy (if linked then ws.length else 0) (F.QMG_QCNT_DISC q) (F.QMG_QCNT_DS_SAT q), false)
        else (qWait q p (w :: ws) close s, true)

/-- A producer's words join its request that waits; after the end of a signature they are a request of their own (R406). -/
def qJoin (q : Nat) (p : Prod) (close : Option Nat) (ws : List Word) (s : State) : State :=
  let mine := fun (w : Wait) => w.queue == q && w.prod == p
  match (s.qmg.waits.filter mine).getLast? with
  | some v =>
    if v.close.isSome then qWait q p ws close s
    else
      let join := fun (w : Wait) => if w == v then { w with words := w.words ++ ws, close := close } else w
      { s with qmg := { s.qmg with waits := s.qmg.waits.map join } }
  | none => s

/-- A producer writes: behind its own request where one waits, else as `qWrite`. -/
def qSubmit (q : Nat) (p : Prod) (close : Option Nat) (ws : List Word) (s : State) : State × Bool :=
  if qWaits q p s then (qJoin q p close ws s, true) else qWrite q p close ws s

/-- A whole signature written in one step, `len` bytes in `ws` (R403). -/
def qWriteSig (q : Nat) (p : Prod) (ws : List Word) (len : Nat) (s : State) : State × Bool :=
  qSubmit q p (some ((4 - len % 4) % 4)) ws s

/-- The 32-bit words of a byte list, little-endian, padded with 0 (R399). -/
def packBytes : List Byte → List Word
  | a :: b :: c :: d :: t => ((d ++ c ++ b ++ a : BitVec 32)) :: packBytes t
  | [a, b, c] => [((0 : BitVec 8) ++ c ++ b ++ a : BitVec 32)]
  | [a, b] => [((0 : BitVec 16) ++ b ++ a : BitVec 32)]
  | [a] => [((0 : BitVec 24) ++ a : BitVec 32)]
  | [] => []

/-- The bytes of a word list, little-endian. -/
def unpackWords (ws : List Word) : List Byte :=
  ws.flatMap (fun w => [w.extractLsb' 0 8, w.extractLsb' 8 8, w.extractLsb' 16 8, w.extractLsb' 24 8])

/-- A whole signature of bytes written in one step. -/
def qWriteBytes (q : Nat) (p : Prod) (bs : List Byte) (s : State) : State × Bool :=
  qWriteSig q p (packBytes bs) bs.length s

/-- The head signature of a queue, and its bytes yet to be read. -/
def qHead (s : State) (q : Nat) : Option Sig := (s.queue q).sigs.head?

/-- Bytes a consumer can take from the head signature now. -/
def qReady (s : State) (q : Nat) : Nat :=
  match qHead s q with
  | some g => sigAvail g - (s.queue q).rd
  | none => 0

/-- The read point advanced by `n` bytes. -/
def qAdvance (q n : Nat) (s : State) : State :=
  let x := s.queue q
  qSettle q (s.setQueue q { x with rd := x.rd + n })

/-- The effect of the check on a read quire (R37, R413): `ecc` is 0 for a good quire, 1 for a corrected one, 2 for an
uncorrectable one. -/
def qEcc (q ecc : Nat) (s : State) : State :=
  let x := s.queue q
  if ecc = 1 then
    let quire := match x.sigs with
      | g :: _ => sigQuire g (x.rd / 4)
      | [] => 0
    let s := s.bump F.QMG_CNT1_ECC_CNT F.QMG_CNT1_EC_SAT
    { s with link := { s.link with eccWait := s.link.eccWait ++ [(0, quire)] } }
  else if ecc = 2 then
    let sigs := match x.sigs with
      | g :: t => { g with err := true } :: t
      | [] => []
    (((s.setQueue q { x with sigs := sigs }).bump F.QMG_CNT1_UE_CNT F.QMG_CNT1_UE_SAT).raise Pg.qmg 3).report 0x4801 q 2
  else s

/-- A consumer reads the next quire of its queue: the four words, the valid bytes (0 where there is no data) and whether
its signature is replayed or errored (R407). Empty signatures at the head are passed. -/
def qReadQuire (q ecc : Nat) : Nat → State → (List Word × Nat × Bool) × State
  | 0, s => (([], 0, false), s)
  | fuel + 1, s =>
    match qHead s q with
    | none => (([], 0, false), s)
    | some g =>
      if g.closed && g.len == 0 then qReadQuire q ecc fuel (qPass q s)
      else
        let rd := (s.queue q).rd
        let n := min 16 (sigAvail g - rd)
        if n = 0 then (([], 0, false), s)
        else
          let ws := ((g.words.drop (rd / 4)).take 4)
          let hurt := decide (ecc = 2) || g.bad.contains (rd / 16)
          let ws := if hurt then ws.map (fun _ => 0) else ws
          ((ws, n, g.replayed || hurt), qAdvance q n (qEcc q ecc s))

/-- `n` words read by a tick-clock consumer, which takes frames that may span signatures: each with whether it is replayed or lies in a quire
beyond repair (R407, R409). -/
def qReadWords (q : Nat) : Nat → State → List (Word × Bool) × State
  | 0, s => ([], s)
  | n + 1, s =>
    match qHead s q with
    | none => ([], s)
    | some g =>
      let rd := (s.queue q).rd
      if sigAvail g ≤ rd then ([], s)
      else
        let hurt := g.bad.contains (rd / 16)
        let w := if hurt then 0 else g.words.getD (rd / 4) 0
        let (r, s') := qReadWords q n (qAdvance q 4 s)
        ((w, g.replayed || hurt) :: r, s')

/-- Bytes queued in linked signatures and not yet read. -/
def qBytes (s : State) (q : Nat) : Nat :=
  (s.queue q).sigs.foldl (fun n g => n + sigAvail g) 0 - (s.queue q).rd

/-- FLUSH (R409): every linked closed signature freed, the bookmark removed, a linked open signature ended. -/
def qFlush (q : Nat) (s : State) : State :=
  let x := s.queue q
  let shut := x.sigs.filter (fun g => g.closed)
  let n := x.behind.length + shut.length
  let cells := (x.behind ++ shut).flatMap (fun g => g.cells.drop g.gone)
  let rest := x.sigs.filter (fun g => !g.closed)
  let headOpen := match x.sigs with
    | g :: _ => !g.closed
    | [] => false
  let s := s.setQueue q { x with sigs := rest, behind := [], bm := false, rd := if headOpen then x.rd else 0 }
  let s := (qFree q cells s).bumpBy n (F.QMG_QCNT_DISC q) (F.QMG_QCNT_DS_SAT q)
  s.eachOf rest (fun g s => qCancel q g.prod true s)

/-- A sweep of the cell table starts (R414). -/
def qSweepStart (s : State) : State :=
  { s with qmg := { s.qmg with sweep := true, sweepAt := s.tick } }.setFld F.QMG_STAT_SWEEP 1

/-- Table entries that failed their check (R413): a bad copy is rewritten; both bad flush the owner queue and start a sweep. -/
def qTableError (q : Nat) (both : Bool) (s : State) : State :=
  if !both then s.bump F.QMG_CNT1_ECC_CNT F.QMG_CNT1_EC_SAT
  else
    let s := (qFlush q (s.report 0x4802 q 2)).setFld (F.QMG_QSTAT_FLUSHED q) 1
    qSweepStart s

/-- A queue disabled by a press: flushed with its open signatures (R419). -/
def qDisable (q : Nat) (s : State) : State :=
  let x := s.queue q
  let all := x.behind ++ x.sigs ++ x.opens
  let cells := all.flatMap (fun g => g.cells.drop g.gone)
  let s := { s with qmg := { s.qmg with waits := s.qmg.waits.filter (fun w => w.queue ≠ q) } }
  let s := qFree q cells (s.setQueue q { x with sigs := [], behind := [], opens := [], ended := [], bm := false, rd := 0 })
  s.bumpBy all.length (F.QMG_QCNT_DISC q) (F.QMG_QCNT_DS_SAT q)

/-- Release of the cells read completely since the bookmark (R409). -/
def qRelease (q : Nat) (s : State) : State :=
  let x := s.queue q
  qFree q (x.behind.flatMap (fun g => g.cells.drop g.gone)) (s.setQueue q { x with behind := [] })

/-- The outcome of a queue command: CMD_ERR shows whether it had no effect (R409). -/
def qCmdErr (b : Bool) (s : State) : State := s.setOn F.QMG_STAT_CMD_ERR b

/-- BM_SET (R409). -/
def qBmSet (q : Nat) (s : State) : State :=
  let x := s.queue q
  if x.bm then qRelease q s else s.setQueue q { x with bm := true }

/-- BM_REWIND (R409): what was read since the bookmark is offered again, REPLAYED. The data of cells that were free before
the bookmark was set are free words. -/
def qBmRewind (q : Nat) (s : State) : State :=
  let x := s.queue q
  let again := fun (g : Sig) =>
    { g with replayed := true, left := g.gone,
             words := (List.range g.words.length).map (fun i =>
               if i < 64 * g.gone then Config.freeWord (s.free + i) else g.words.getD i 0) }
  let sigs := match x.sigs with
    | g :: t => (if 0 < x.rd then again g else g) :: t
    | [] => []
  let lost := match x.sigs with
    | g :: _ => if 0 < x.rd then 64 * g.gone else 0
    | [] => 0
  (s.setQueue q { x with sigs := x.behind.map again ++ sigs, behind := [], rd := 0 }).skipFree lost

/-- BM_CLEAR (R409): released, then the bookmark removed; cells read past in the head leave. -/
def qBmClear (q : Nat) (s : State) : State :=
  let s := qRelease q s
  qSettle q (s.setQueue q { s.queue q with bm := false })

/-- The queue selected by QSEL. -/
def qSel (s : State) : Nat := s.fld F.QMG_QSEL_QID

/-- A bookmark command on a queue without a bookmark has no effect and sets CMD_ERR (R409). -/
def qWithBm (f : Nat → State → State) (s : State) : State :=
  if (s.queue (qSel s)).bm then qCmdErr false (f (qSel s) s) else qCmdErr true s

/-- The count check of R414: free list, free states and occupancies agree. -/
def qConserved (m : QmgSt) : Bool := m.freeList == m.freeState && m.freeState + m.heldTotal == 65536

/-- The count check at a tick boundary (R414). -/
def qTickCheck (s : State) : State :=
  if s.qmg.sweep then s
  else if qConserved s.qmg then { s with qmg := { s.qmg with consFail := false } }
  else
    let s := ((s.report 0x4803 0 (if s.qmg.consFail then 4 else 3)).bump F.QMG_CNT3_CONS_CNT F.QMG_CNT3_CS_SAT).raise Pg.qmg 4
    if s.qmg.consFail then { s with qmg := { s.qmg with faulted := true } }
    else qSweepStart { s with qmg := { s.qmg with consFail := true } }

/-- A cell is lost from the free list: what the count check finds (R414). -/
def qSlip (s : State) : State :=
  let m := s.qmg
  if m.freeList = 0 then s
  else { s with qmg := { m with freeList := m.freeList - 1, fresh := if m.fresh < 65536 then m.fresh + 1 else m.fresh,
                                returned := if m.fresh < 65536 then m.returned else m.returned.drop 1 } }

/-- Cells held by a queue, from the owner fields of the cell table. -/
def qOwned (x : Queue) : List Nat :=
  x.behind.flatMap (fun g => g.cells.drop g.gone) ++ x.sigs.flatMap (fun g => g.cells.drop g.gone)
    ++ x.opens.flatMap (fun g => g.cells)

/-- The end of a sweep, 256 ticks after its start (R414): counts from the cell table, a new free list, cells of disabled queues freed. -/
def qSweepDone (s : State) : State :=
  if !s.qmg.sweep || decide (s.tick < s.qmg.sweepAt + 256) then s
  else
    let dead := s.qmg.queues.filter (fun e => !s.on (F.QMG_QCFG_EN e.1) && 0 < (qOwned e.2).length)
    let n := dead.foldl (fun n e => n + (qOwned e.2).length) 0
    let s := s.eachOf dead (fun e s => s.setQueue e.1 {})
    let owned := s.qmg.queues.flatMap (fun e => qOwned e.2)
    let free := (List.range 65536).filter (fun c => !owned.contains c)
    let s := s.eachOf (s.qmg.queues.map (fun e => e.1)) (fun q s =>
      s.setQueue q { s.queue q with occ := (qOwned (s.queue q)).length })
    let s := { s with qmg := { s.qmg with fresh := 65536, returned := free, freeList := free.length,
                                           freeState := free.length, heldTotal := owned.length, sweep := false } }
    ((s.setFld F.QMG_STAT_SWEEP 0).bumpBy n F.QMG_CNT3_RECLAIM_CNT F.QMG_CNT3_RC_SAT).raise Pg.qmg 5

/-- Whether waiting request `a` is served before `b`: rank, time waited, UNIT (R406). -/
def waitFirst (a b : Wait) : Bool :=
  decide (a.prod.rank < b.prod.rank) || (a.prod.rank == b.prod.rank &&
    (decide (a.since < b.since) || (a.since == b.since && decide (a.prod.unit ≤ b.prod.unit))))

/-- The waiting request that is served first among those that could be granted now. -/
def qFirstWait (s : State) : Option Wait :=
  ((waitHeads s.qmg.waits).filter (fun w => qCanGrant w.queue s)).foldl (fun b w => match b with
    | none => some w
    | some v => if waitFirst v w then some v else some w) none

/-- Whether a request that is served needs a cell before it can go on (R403). -/
def waitLacks (w : Wait) (s : State) : Bool :=
  let x := s.queue w.queue
  !x.ended.contains w.prod && (match qOpenOf x w.prod with
    | none => true
    | some g => !w.words.isEmpty && decide (64 * g.cells.length ≤ g.words.length) && decide (g.words.length < 16384))

/-- A freed shared cell goes to the first waiting request, whose handshake completes (R406); what it needs next is a request behind
those that wait, but stands before the producer's later requests. -/
def qServe (s : State) : State :=
  match qFirstWait s with
  | none => s
  | some w =>
    let rest := s.qmg.waits.erase w
    let none' := w.words.isEmpty && (qOpenOf (s.queue w.queue) w.prod).isNone
    let s := { s with qmg := { s.qmg with waits := rest } }
    let s := if waitLacks w s then qGrant w.queue w.prod (qOpen w.queue w.prod s) else s
    let t := (qWrite w.queue w.prod (if none' then w.close.map (fun _ => 0) else w.close) w.words s).1
    let l := t.qmg.waits
    { t with qmg := { t.qmg with waits := if rest.length < l.length then l.drop rest.length ++ l.take rest.length else l } }

/-- CELL_REQUEST. A producer opens its signature or has filled its last cell and writes on. -/
def execCellRequest (q : Fin 4096) (rank kind unit : Nat) (words : List Word) (s : State) :
    Host.Outcome State Fault Refusal := s.ticking (.next (qSubmit q.val ⟨rank, kind, unit⟩ none words s).1)

/-- CELL_GRANT. -/
def execCellGrant (s : State) : Host.Outcome State Fault Refusal := s.ticking (.next (qServe s))

/-- SIGNATURE_CLOSE. -/
def execSignatureClose (q : Fin 4096) (rank kind unit : Nat) (drop : Nat) (s : State) :
    Host.Outcome State Fault Refusal := s.ticking (.next (qSubmit q.val ⟨rank, kind, unit⟩ (some drop) [] s).1)

/-- QUEUE_READ. The consumer of the queue reads its next quire. -/
def execQueueRead (q : Fin 4096) (ecc : Fin 3) (s : State) : Host.Outcome State Fault Refusal :=
  s.ticking (
    let r := qReadQuire q.val ecc.val 64 s
    .next { r.2 with qmg := { r.2.qmg with quire := r.1.1, vb := r.1.2.1 } })

/-- QUEUE_FLUSH. -/
def execQueueFlush (s : State) : Host.Outcome State Fault Refusal := s.heard (.next (qCmdErr false (qFlush (qSel s) s)))

/-- BOOKMARK_SET. -/
def execBookmarkSet (s : State) : Host.Outcome State Fault Refusal := s.heard (.next (qCmdErr false (qBmSet (qSel s) s)))

/-- BOOKMARK_REWIND. -/
def execBookmarkRewind (s : State) : Host.Outcome State Fault Refusal := s.heard (.next (qWithBm qBmRewind s))

/-- BOOKMARK_RELEASE. -/
def execBookmarkRelease (s : State) : Host.Outcome State Fault Refusal := s.heard (.next (qWithBm qRelease s))

/-- BOOKMARK_CLEAR. -/
def execBookmarkClear (s : State) : Host.Outcome State Fault Refusal := s.heard (.next (qWithBm qBmClear s))

/-- QMG_SWEEP_DONE. -/
def execQmgSweepDone (s : State) : Host.Outcome State Fault Refusal := s.ticking (.next (qSweepDone s))

/-- The producer that window port `w` is. -/
def winProd (w : Nat) : Prod := ⟨4, 7, w⟩

/-- The queue window port `w` writes, and the queue it reads. -/
def winWq (s : State) (w : Nat) : Nat := s.fld (F.WP_CFG_WQID w)
def winRq (s : State) (w : Nat) : Nat := s.fld (F.WP_CFG_RQID w)

/-- Whether a port asks for a further cell: 32 or fewer words remain in its cells (R417). -/
def winAsks (g : Sig) : Bool := decide (64 * g.cells.length - g.words.length ≤ 32) && decide (g.words.length < 16384)

/-- Words the host may write through port `w` without loss, the cell it asks for included where it is granted (R417). -/
def winCredit (s : State) (w : Nat) : Nat :=
  match qOpenOf (s.queue (winWq s w)) (winProd w) with
  | some g => if g.closed then 0 else 64 * g.cells.length - g.words.length + (if winAsks g && qMayGrant (winWq s w) 4 s then 64 else 0)
  | none => if s.on (F.WP_CFG_WEN w) && qMayGrant (winWq s w) 4 s then 64 else 0

/-- The port asks for a further cell while 32 or fewer words remain (R417). -/
def winAsk (w : Nat) (s : State) : State :=
  match qOpenOf (s.queue (winWq s w)) (winProd w) with
  | some g =>
    if winAsks g then
      if qMayGrant (winWq s w) 4 s then qGrant (winWq s w) (winProd w) s
      else s.setFld (F.QMG_QSTAT_FULL (winWq s w)) 1
    else s
  | none => s

/-- Every port with an open signature asks again for what it lacks (R417). -/
def winAskAll (s : State) : State := s.each 64 winAsk

/-- A word or an empty signature discarded at port `w` (R417). -/
def winLose (w : Nat) (s : State) : State := s.bump (F.WP_CNT_OVERWRITE w) (F.WP_CNT_OW_SAT w)

/-- A write to WDATA (R416, R417). -/
def winWrite (w : Nat) (v : Word) (s : State) : State :=
  let q := winWq s w
  let p := winProd w
  if !s.on (F.WP_CFG_WEN w) then winLose w s
  else if !s.on (F.QMG_QCFG_EN q) then (winLose w s).bump (F.QMG_QCNT_DISC q) (F.QMG_QCNT_DS_SAT q)
  else if (s.queue q).ended.contains p then s.bump (F.QMG_QCNT_DISC q) (F.QMG_QCNT_DS_SAT q)
  else
    let s := winAsk w (qOpen q p s)
    match qOpenOf (s.queue q) p with
    | none => s
    | some g =>
      if 16384 ≤ g.words.length then s.bump (F.QMG_QCNT_DISC q) (F.QMG_QCNT_DS_SAT q)
      else if g.words.length < 64 * g.cells.length then winAsk w (qAppend q p v s)
      else winLose w (s.setQueue q (qMapOpen p (fun g => { g with trunc := true }) (s.queue q)))

/-- A write to WP_END without ABORT (R417): the signature closes and cells without data return. -/
def winClose (w drop : Nat) (s : State) : State :=
  let q := winWq s w
  let p := winProd w
  let x := s.queue q
  if x.ended.contains p then qClose q p drop s
  else match qOpenOf x p with
    | some g =>
      let n := max 1 (ceilDiv g.words.length 64)
      let s := qFree q (g.cells.drop n) (s.setQueue q (qMapOpen p (fun h => { h with cells := h.cells.take n }) x))
      if g.cells.isEmpty then winLose w (qCancel q p false s) else qClose q p drop s
    | none =>
      if s.on (F.WP_CFG_WEN w) && qMayGrant q 4 s then qClose q p 0 (qGrant q p (qOpen q p s)) else winLose w s

/-- A write of ABORT (R417). -/
def winAbort (w : Nat) (s : State) : State :=
  let q := winWq s w
  let p := winProd w
  match qOpenOf (s.queue q) p with
  | some _ => (qCancel q p false s).bump (F.QMG_QCNT_DISC q) (F.QMG_QCNT_DS_SAT q)
  | none => s

/-- A read of RDATA (R418): the word and the state after. -/
def winRead (w ecc : Nat) (s : State) : Word × State :=
  let q := winRq s w
  let short := (0, s.bump (F.WP_CNT_UNDERREAD w) (F.WP_CNT_UR_SAT w))
  if !s.on (F.WP_CFG_REN w) then short
  else match qHead s q with
    | none => short
    | some g =>
      let rd := (s.queue q).rd
      if g.closed && g.len == 0 then (0, qPass q s)
      else if sigAvail g ≤ rd then short
      else
        let v := if ecc = 2 || g.bad.contains (rd / 16) then 0 else g.words.getD (rd / 4) 0
        (v, qAdvance q (min 4 (sigAvail g - rd)) (qEcc q ecc s))

/-- A write of SKIP (R418). -/
def winSkip (w : Nat) (s : State) : State :=
  let q := winRq s w
  if s.on (F.WP_CFG_REN w) && (qHead s q).isSome then qPass q s else s

/-- WINDOW_WRITE. -/
def execWindowWrite (port : Fin 64) (data : Word) (s : State) : Host.Outcome State Fault Refusal := s.heard (.next (winWrite port.val data s))

/-- WINDOW_CLOSE. -/
def execWindowClose (port : Fin 64) (drop : Fin 4) (s : State) : Host.Outcome State Fault Refusal := s.heard (.next (winClose port.val drop.val s))

/-- WINDOW_ABORT. -/
def execWindowAbort (port : Fin 64) (s : State) : Host.Outcome State Fault Refusal := s.heard (.next (winAbort port.val s))

/-- WINDOW_READ. -/
def execWindowRead (port : Fin 64) (o : Origin) (ecc : Fin 3) (s : State) : Host.Outcome State Fault Refusal :=
  s.heardFrom o (
    let r := winRead port.val ecc.val s
    .next (r.2.answer o r.1))

/-- WINDOW_SKIP. -/
def execWindowSkip (port : Fin 64) (s : State) : Host.Outcome State Fault Refusal := s.heard (.next (winSkip port.val s))

end Sys2Proof.Machine
end

