-- ==== Sys2Proof/Machine/Fch.lean ====
section
/-!
DEFINITION. Decimators, control channels, threshold comparators and event records (R129-R157). The values of the preset
filters are open functions of what their delay lines hold (log entry 3): the spec gives their responses, not their coefficients.
-/

namespace Sys2Proof.Machine

/-- Audio decimator `d`. -/
def State.aud (s : State) (d : Nat) : AudCh := SMap.get (fun _ => {}) s.fch.aud d
def State.setAud (d : Nat) (x : AudCh) (s : State) : State :=
  { s with fch := { s.fch with aud := SMap.set (fun _ => {}) s.fch.aud d x } }

/-- Control channel `c`. -/
def State.ctl (s : State) (c : Nat) : CtlCh := SMap.get (fun _ => {}) s.fch.ctl c
def State.setCtl (c : Nat) (x : CtlCh) (s : State) : State :=
  { s with fch := { s.fch with ctl := SMap.set (fun _ => {}) s.fch.ctl c x } }

/-- Settling count of an audio preset (R137). -/
def audSettle (p : Nat) : Nat := if p = 0 then 16 else if p = 1 then 18 else if p = 2 then 80 else 192

/-- Delay of an audio preset at 1 kHz, 0.1 smp (FCH_ASTAT). -/
def audDly (p : Nat) : Nat := if p = 0 then 29 else if p = 1 then 90 else if p = 2 then 380 else 920

/-- Ratio of a control preset (R136). -/
def ctlRatio (p : Nat) : Nat := if p = 0 then 4 else if p = 1 then 16 else if p = 2 then 64 else 256

/-- Delay and settling count of a control preset, smp (R136). -/
def ctlDelay (p : Nat) : Nat := if p = 0 then 12 else if p = 1 then 192 else if p = 2 then 1024 else 4096
def ctlSettle (p : Nat) : Nat := 2 * ctlDelay p

/-- Live bank and live preset of an audio decimator. -/
def audBank (d : Nat) (s : State) : Nat := s.fld (F.FCH_ASTAT_LIVE_BANK d)
def audPreset (d : Nat) (s : State) : Nat := s.fld (F.FCH_ABANK_PRESET d (audBank d s))

/-- A start of an audio decimator: its delay line is empty, and T_UNS for the settling count of its live preset (R138). -/
def audStart (d : Nat) (s : State) : State :=
  let x := s.aud d
  s.setAud d { x with uns := audSettle (audPreset d s), since := 0, line := [], bad := [], xf := { x.xf with pos := x.xf.len } }

/-- T_UNS on `n` values of a decimator from the spine value of tick `t` on (R138). -/
def audMark (d t n : Nat) (s : State) : State :=
  s.setAud d { s.aud d with marks := (s.aud d).marks.filter (fun m => s.tick < m.2) ++ [(t, t + n)] }

/-- Merge-rate samples, oldest first, enter the input delay line of a decimator (R129). -/
def audPush (d : Nat) (vs : List Int) (s : State) : State :=
  let x := s.aud d
  s.setAud d { x with line := (vs.reverse ++ x.line).take 2048, bad := (x.bad.map (· + vs.length)).filter (· < 2048) }

/-- A word of an input delay line, `age` samples old: corrected, or damaged; it then reads 0, and every value whose window holds it
carries T_SUB (R145). `u` is a decimator, or 48 + c for control channel c. -/
def fchHistory (u age : Nat) (fatal : Bool) (s : State) : State :=
  if !fatal then s.bump F.FCH_ERR_ECC_CNT F.FCH_ERR_ECC_SAT
  else if u < 48 then
    let x := s.aud u
    (s.setAud u { x with line := x.line.set (age % 2048) 0, bad := age % 2048 :: x.bad }).report 0x44C2 (0x010 + u) 2
  else
    let c := u - 48
    let x := s.ctl c
    (s.setCtl c { x with hist := x.hist.set (age % 2056) 0, bad := age % 2056 :: x.bad }).report 0x44C2 (0x040 + c) 2

/-- A source's value of the next tick, unless its engine withheld it in this tick (R145). -/
def fchPut (src : Nat) (w : Word) (s : State) : State := if s.fch.eng.held.contains src then s else s.produce src w

/-- What an engine with no guard left makes of a fresh value, `last` being the last good one: the ramp to 0 of a FAULTED engine, the
ramp-in of a restarted one (R145). -/
def fchRamp (fresh last : Word) (s : State) : Word :=
  let e := s.fch.eng
  if e.faulted then (if rampRests e.w then zeroTag tSUB else addTag (weigh (rampWeight e.w) last) (tSUB ||| tFAD))
  else if rampRests e.w then fresh else addTag (weigh (rampWeight e.w) fresh) tFAD

/-- The gain FGAIN, in 0.01 dB, exact at 0 (R135; log entry 3). -/
def fineGain (g v : Int) : Int := if g = 0 then v else Config.real "fineGain" [g, v]

/-- The final stage of a bank, read from the input delay line, and its fine gain (R129, R135): the filter is open (log entry 3). -/
def audBankOut (d b tag : Nat) (s : State) : Word :=
  let raw := Config.real "finalStage" ((s.fld (F.FCH_ABANK_PRESET d b) : Int) :: (s.tick : Int) :: (s.aud d).line)
  sample (fineGain (s.int (F.FCH_ABANK_FGAIN d b)) raw) tag

/-- Whether a damaged sample lies in the window of a preset, 8 merge-rate samples to a value (R137, R145). -/
def audHurt (d b : Nat) (s : State) : Bool :=
  (s.aud d).bad.any (fun a => decide (a < 8 * audSettle (s.fld (F.FCH_ABANK_PRESET d b))))

/-- Whether a swap crossfade mixes both banks in this value (R141). -/
def audMixes (d : Nat) (s : State) : Bool := (s.aud d).xfade && !rampRests (s.aud d).xf

/-- The value of the live bank, or of both banks in a crossfade (R141). -/
def audMix (d tag : Nat) (s : State) : Word :=
  let b := audBank d s
  let y := audBankOut d b tag s
  if audMixes d s then
    let o := audBankOut d (1 - b) tag s
    let w : Int := (rampWeight (s.aud d).xf : Int)
    sample (roundEven (sval y * w + sval o * (2 ^ 27 - w)) 27) (stag y ||| stag o)
  else y

/-- The high-pass stage (R134): what it outputs and the state it keeps; code 0 bypasses it, the state resting (log entry 100). -/
def highPass (code : Nat) (st v : Int) : Int × Int :=
  if code = 0 then (v, st)
  else (Config.real "highPass" [(code : Int), st, v], Config.real "highPassState" [(code : Int), st, v])

/-- The crossfade of a decimator one value on. -/
def audStep (d : Nat) (s : State) : State := s.setAud d { s.aud d with xf := rampStep (s.aud d).xf }

/-- Polarity of a decimator's value: INVERT of its input (R128; log entry 100). -/
def audSign (d : Nat) (v : Int) (s : State) : Int := if d < 32 ∧ s.on (F.AIN_CFG_INVERT d) then -v else v

/-- A value of a decimator with given tag and channel weight (R129, R134, R135, R138, R145). -/
def audValue (d tag wt : Nat) (s : State) : State :=
  let s := audStep d s
  let x := s.aud d
  let marked := decide (0 < x.uns) || x.marks.any (fun m => decide (m.1 ≤ s.tick + 1 ∧ s.tick + 1 < m.2))
  let hurt := audHurt d (audBank d s) s || (audMixes d s && audHurt d (1 - audBank d s) s)
  let y := audMix d ((tag ||| (if marked then tUNS else 0)) ||| (if hurt then tSUB else 0)) s
  let (v, hp) := highPass (s.fld (F.FCH_ACFG_HPF d)) x.hp (sval y)
  let fresh := weigh wt (sample (audSign d v s) (stag y))
  let out := fchRamp fresh x.last s
  let s := s.setAud d { x with uns := x.uns - 1, since := min 4096 (x.since + 1), hp := hp,
                               last := if s.fch.eng.faulted then x.last else fresh }
  fchPut (0x010 + d) out (s.setOn (F.FCH_ASTAT_UNS d) (stag out / 8 == 1))

/-- A decimator outputs a fixed word. -/
def audFixed (d : Nat) (w : Word) (s : State) : State :=
  fchPut (0x010 + d) w ((audStep d s).setOn (F.FCH_ASTAT_UNS d) (stag w / 8 == 1))

/-- Whether an audio decimator is on, and whether the image turns it on. -/
def audUsed (d : Nat) (s : State) : Bool := if d < 32 then s.on (F.AIN_CFG_MODE d) else s.fld F.PDM_CFG_MIC_EN / 2 ^ (d - 32) % 2 == 1
def audImage (d : Nat) (s : State) : Bool :=
  if d < 32 then imageFld (F.AIN_CFG_MODE d) s != 0 else imageFld F.PDM_CFG_MIC_EN s / 2 ^ (d - 32) % 2 == 1

/-- Whether a press in flight freezes the bank of an audio decimator that the image selects (R140). -/
def audPressing (d : Nat) (s : State) : Bool :=
  s.press.banksFrozen && audImage d s && (!audUsed d s || imageFld (F.FCH_ACFG_ACT_BANK d) s != audBank d s)

/-- FROZEN of an audio decimator (R140, R157). -/
def audFrozenShow (d : Nat) (s : State) : State := s.setOn (F.FCH_ASTAT_FROZEN d) ((s.aud d).xfade || audPressing d s)

/-- A pressed ACT_BANK of an audio decimator (R138, R141): the crossfade starts, or reverses where one is under way. -/
def audSwap (d bank : Nat) (s : State) : State :=
  let x := s.aud d
  let old := audBank d s
  if old = bank then s
  else
    let len := 8 * s.fld (F.FCH_ACFG_SWAP_XF d)
    let differ := s.fld (F.FCH_ABANK_PRESET d old) ≠ s.fld (F.FCH_ABANK_PRESET d bank)
    let back := x.xfade && !rampRests x.xf
    let xf : Ramp := if back then { pos := x.xf.len - x.xf.pos, len := x.xf.len, up := true }
      else { pos := 0, len := len, up := true }
    let s := (s.setFld (F.FCH_ASTAT_LIVE_BANK d) bank).bump (F.FCH_ACNT_SWAP_CNT d) (F.FCH_ACNT_SW_SAT d)
    let s := s.setFld (F.FCH_ASTAT_DLY d) (audDly (audPreset d s))
    let ns := audSettle (audPreset d s)
    let mark := max (if differ then max 1 (xf.len - xf.pos) else 0) (if differ then ns - x.since else 0)
    let fades := !rampRests xf
    let s := s.setAud d { x with xfade := fades, xf := xf, uns := max x.uns mark }
    -- a cut needs no crossfade: the swap is done (SWAP_XF = 0)
    audFrozenShow d ((s.setOn (F.FCH_ASTAT_XFADE d) fades).when (!fades) (State.raise (Pg.fchAudio d) 1))

/-- The end of a swap crossfade: the outgoing bank is released (R141). -/
def audSwapEnd (d : Nat) (s : State) : State :=
  let x := s.aud d
  if x.xfade && rampRests x.xf then
    (audFrozenShow d ((s.setAud d { x with xfade := false }).setFld (F.FCH_ASTAT_XFADE d) 0)).raise (Pg.fchAudio d) 1
  else s

/-- Reference instants and stamps are counted in core cycles from TICK 0. -/
def cycles (tick cyc : Nat) : Int := (tick * 5120 + cyc : Nat)

/-- Delay of a control channel's bank in core cycles: preset and median (R152). -/
def ctlD (c bank : Nat) (s : State) : Int :=
  ((ctlDelay (s.fld (F.FCH_CBANK_PRESET c bank)) + 4 * s.fld (F.FCH_CBANK_MED c bank)) * 5120 : Nat)

/-- The fields of comparator `k` of channel `c`. -/
def thrState (c k : Nat) : Fld := if k = 0 then F.FCH_CSTAT_STATE0 c else F.FCH_CSTAT_STATE1 c
def thrAmbig (c k : Nat) : Fld := if k = 0 then F.FCH_CSTAT_AMBIG0 c else F.FCH_CSTAT_AMBIG1 c
def thrForced (c k : Nat) : Fld := if k = 0 then F.FCH_CSTAT_FORCED0 c else F.FCH_CSTAT_FORCED1 c

/-- Comparator `k` of a control channel. -/
def CtlCh.comp (x : CtlCh) (k : Nat) : CompSt := if k = 0 then x.c0 else x.c1
def CtlCh.setComp (x : CtlCh) (k : Nat) (v : CompSt) : CtlCh := if k = 0 then { x with c0 := v } else { x with c1 := v }

/-- A comparator back to UNDECIDED; DECIDE_T counts afresh (R147). -/
def thrReset (c k : Nat) (s : State) : State :=
  let x := s.ctl c
  (((s.setCtl c (x.setComp k { (x.comp k) with since := none, gap := true })).setFld (thrState c k) 0).setFld
    (thrAmbig c k) 0).setFld (thrForced c k) 0

/-- An event of a control channel posted (R154, R155). -/
def evPost (c : Nat) (stamp : Int) (kind flags : Nat) (val : Word) (s : State) : State :=
  let s := { s with fch := { s.fch with events := s.fch.events ++ [EvRec.mk c stamp kind flags val] } }
  (s.bump (F.FCH_CCNT_EV_CNT c) (F.FCH_CCNT_EV_SAT c)).raise (Pg.fchCtl c) 2

/-- An open peak span closed with its PEAK event (R150). -/
def peakClose (c : Nat) (s : State) : State :=
  let x := s.ctl c
  match x.peak with
  | none => s
  | some (_, w, t, fl) => evPost c t 11 fl w (s.setCtl c { x with peak := none })

/-- Whether a control channel is on, and whether a press in flight freezes the bank that the image selects (R140). -/
def ctlUsed (c : Nat) (s : State) : Bool := s.on (F.FCH_CCFG_SRC_CONV c)
def ctlPressing (c : Nat) (s : State) : Bool :=
  s.press.banksFrozen && imageFld (F.FCH_CCFG_SRC_CONV c) s != 0
    && (!ctlUsed c s || imageFld (F.FCH_CCFG_ACT_BANK c) s != s.fld (F.FCH_CSTAT_LIVE_BANK c))

/-- FROZEN of a control channel (R140, R157). -/
def ctlFrozenShow (c : Nat) (s : State) : State := s.setOn (F.FCH_CSTAT_FROZEN c) ((s.ctl c).swap.isSome || ctlPressing c s)

/-- A swap that waits takes effect: the new bank is live and both are released (R142). -/
def ctlSwapLand (c : Nat) (s : State) : State :=
  match (s.ctl c).swap with
  | none => s
  | some b =>
    ctlFrozenShow c (((s.setCtl c { s.ctl c with swap := none }).setFld (F.FCH_CSTAT_LIVE_BANK c) b).setFld (F.FCH_CCFG_ACT_BANK c) b)

/-- The slot of the entry that a control channel takes, and the ticks from its sampling to its delivery (R159, R161). -/
def ctlSlot (c : Nat) (s : State) : Nat := s.fld (F.FCH_CCFG_SRC_ENTRY c) % 20 + 1
def ctlLag (c : Nat) (s : State) : Nat := if ctlSlot c s < 8 then 1 else 2

/-- The first tick from `t` on in which a sample of the channel's entry is delivered (R131, R159, R161). -/
def ctlFirst (c t : Nat) (s : State) : Nat := t + (s.fld (F.FCH_CCFG_SRC_ENTRY c) / 20 + ctlLag c s + 3 * t) % 4

/-- A start of a control channel, or a change of its source: a swap that waits takes effect, the history is cleared, the comparators are
UNDECIDED, the span is closed without an event (R139, R142; log entry 100). -/
def ctlStart (c : Nat) (s : State) : State :=
  let s := ctlSwapLand c s
  let on := s.on (F.FCH_CCFG_SRC_CONV c)
  let s := s.setCtl c { on := on, expect := ctlFirst c (s.tick + 4) s }
  let s := (thrReset c 1 (thrReset c 0 s)).setFld (F.FCH_CSTAT_STALL c) 0
  if on then s else s.produce (0x040 + c) 0

/-- The median of the newest `N` raw samples: the word with the middle value (R146). -/
def medianOf (ws : List Word) : Word :=
  let sorted := ws.foldl (fun (acc : List Word) w => acc.takeWhile (fun v => sval v ≤ sval w) ++ [w]
    ++ acc.dropWhile (fun v => sval v ≤ sval w)) []
  sorted.getD (sorted.length / 2) 0

/-- Nearest integer of `a / b`, `b > 0`; ties go up. -/
def roundDiv (a b : Int) : Int := (2 * a + b).fdiv (2 * b)

/-- Whether bank `b` is not the bank of the value evaluated before (R155). -/
def ctlSwapped (c b : Nat) (s : State) : Bool := (s.ctl c).has && (s.ctl c).bank != b

/-- The flags SWAP and SUB of a record of value `y` from bank `b` (R155). -/
def evFlags (c b : Nat) (y : Word) (s : State) : Nat := (if ctlSwapped c b s then 2 else 0) + (if stag y / 4 % 2 = 1 then 4 else 0)

/-- One comparator evaluates an output value `y` with reference instant `t` and bank `b`; the previous value and its
instant are in the channel (R147, R152). -/
def thrEval (c k : Nat) (y : Word) (t : Int) (b : Nat) (s : State) : State :=
  if !s.on (F.FCH_THR_EN c k) then s
  else
    let x := s.ctl c
    let p := x.comp k
    let v := sval y
    let lvl := s.int (F.FCH_THR_LEVEL c k) * 4096
    let low := lvl - (s.fld (F.FCH_THR_HYST c k) : Int) * 4096
    let st := s.fld (thrState c k)
    let d := ctlD c b s
    let sub := if stag y / 4 % 2 = 1 then 4 else 0
    let swap := if ctlSwapped c b s then 2 else 0
    let coarse := p.gap || !x.has || x.bank ≠ b
    let cross := fun (lv : Int) =>
      if coarse then t - d else x.t + roundDiv ((lv - sval x.y) * (t - x.t)) (v - sval x.y) - d
    let crossF := fun (lv : Int) =>
      -- a falling line has a negative denominator
      if coarse then t - d else x.t + roundDiv ((sval x.y - lv) * (t - x.t)) (sval x.y - v) - d
    let fl := swap + sub + (if coarse then 1 else 0)
    let p' := { p with gap := false, since := some (p.since.getD s.tick) }
    let move := fun (goal : Nat) (s : State) =>
      (((s.setCtl c (x.setComp k p')).setFld (thrState c k) goal).setFld (thrForced c k) 0).setFld (thrAmbig c k) 0
    if st = 0 then
      if lvl ≤ v then evPost c (t - d) (5 + 2 * k) (swap + sub) y (move 2 s)
      else if v < low then evPost c (t - d) (4 + 2 * k) (swap + sub) y (move 1 s)
      else s.setCtl c (x.setComp k p')
    else if st = 1 && decide (lvl ≤ v) then
      let s := move 2 s
      let post := s.fld (F.FCH_THR_EVT c k) % 2 = 1
      let s := s.when post (evPost c (cross lvl) (2 * k) fl y)
      if k = 0 && post && s.on (F.FCH_TCFG_PEAK_WIN c) then
        let s := peakClose c s
        s.setCtl c { s.ctl c with peak := some (s.fld (F.FCH_TCFG_PEAK_WIN c), y, t - d, swap + sub) }
      else s
    else if st = 2 && decide (v < low) then
      let s := move 1 s
      s.when (s.fld (F.FCH_THR_EVT c k) / 2 = 1) (evPost c (crossF low) (1 + 2 * k) fl y)
    else s.setCtl c (x.setComp k p')

/-- The open peak span takes an output value of bank `b` (R150). -/
def peakTake (c b : Nat) (y : Word) (t : Int) (s : State) : State :=
  let x := s.ctl c
  match x.peak with
  | some (n + 1, w, tw, fl) =>
    s.setCtl c { x with peak := if sval w < sval y then some (n, y, t, evFlags c b y s) else some (n, w, tw, fl) }
  | _ => s

/-- A VALUE event where the value has moved by DELTA or is the first after the start (R151). -/
def valueTake (c b : Nat) (y : Word) (t : Int) (s : State) : State :=
  let d := s.fld (F.FCH_TCFG_DELTA c)
  let x := s.ctl c
  let v := sval y
  let due := match x.lastVal with
    | none => true
    | some l => decide ((d * 32768 : Nat) ≤ (v - l).natAbs)
  if d != 0 && due then
    evPost c t 10 (evFlags c b y s) y (s.setCtl c { x with lastVal := some v })
  else s

/-- A force takes effect; a comparator with EN = 0 holds UNDECIDED (R147, R149). -/
def thrForce (c k v : Nat) (s : State) : State :=
  if !s.on (F.FCH_THR_EN c k) then s
  else if v = 3 then thrReset c k s
  else
    let x := s.ctl c
    (((s.setCtl c (x.setComp k { (x.comp k) with gap := true })).setFld (thrState c k) v).setFld (thrForced c k) 1).setFld
      (thrAmbig c k) 0

/-- The forces of a channel that waited for the evaluation of their tick are applied (R149). -/
def thrForces (c : Nat) (s : State) : State :=
  s.each 2 (fun k s => match ((s.ctl c).comp k).force with
    | none => s
    | some v => thrForce c k v (s.setCtl c ((s.ctl c).setComp k { ((s.ctl c).comp k) with force := none })))

/-- Whether a damaged sample lies in the window of a bank: of its preset, one input sample to 4 smp, behind its median (R136, R145). -/
def ctlHurt (c b : Nat) (s : State) : Bool :=
  (s.ctl c).bad.any (fun a => decide (a < ctlSettle (s.fld (F.FCH_CBANK_PRESET c b)) / 4 + 2 * s.fld (F.FCH_CBANK_MED c b)))

/-- The decimator of a bank behind its median, read from the input delay line (R130): the filter is open (log entry 3). -/
def ctlFilter (c b tag : Nat) (s : State) : Word :=
  sample (Config.real "controlStage"
    ((s.fld (F.FCH_CBANK_PRESET c b) : Int) :: (s.fld (F.FCH_CBANK_MED c b) : Int) :: (s.ctl c).hist.map sval)) tag

/-- An output value of a control channel: posted, evaluated, reported (R130, R145, R147-R152). -/
def ctlOutput (c : Nat) (tag : Nat) (t : Int) (s : State) : State :=
  let b := s.fld (F.FCH_CSTAT_LIVE_BANK c)
  let fresh := ctlFilter c b (if ctlHurt c b s then tag ||| tSUB else tag) s
  let y := fchRamp fresh (s.ctl c).good s
  let s := s.when (!s.fch.eng.faulted) (fun s => s.setCtl c { s.ctl c with good := fresh })
  let s := s.post (Adr.FCH_CVAL c) (BitVec.ofNat 32 (y.toNat / 8192 * 16 % 2 ^ 23 + stag y))
  let s := fchPut (0x040 + c) y (s.setOn (F.FCH_CSTAT_UNS c) (stag y / 8 == 1))
  if stag y / 8 = 1 then
    s.setCtl c { s.ctl c with c0 := { (s.ctl c).c0 with gap := true }, c1 := { (s.ctl c).c1 with gap := true } }
  else
    let d := ctlD c b s
    let s := thrEval c 1 y t b (thrEval c 0 y t b s)
    let s := peakTake c b y (t - d) s
    let s := valueTake c b y (t - d) s
    s.setCtl c { s.ctl c with y := y, t := t, has := true, bank := b, swapped := ctlSwapped c b s }

/-- The values of the control channels while the engine ramps them to 0 or in (R145). -/
def ctlRamp (s : State) : State :=
  s.each 32 (fun c s => s.when ((s.ctl c).on && (s.fch.eng.faulted || !rampRests s.fch.eng.w))
    (fun s => fchPut (0x040 + c) (fchRamp (s.ctl c).good (s.ctl c).good s) s))

/-- A control channel takes one raw input sample with its sampling instant (R130, R131, R146). SPIKE_CNT compares with the newest raw
sample, and an output takes the tag of the newest sample of the median (log entry 100). -/
def ctlTake (c : Nat) (w : Word) (t : Int) (s : State) : State :=
  let x := s.ctl c
  let b := s.fld (F.FCH_CSTAT_LIVE_BANK c)
  let hist := (if x.n = 0 then List.replicate 8 w else w :: x.hist).take 2056
  let taps := if s.on (F.FCH_CBANK_MED c b) then 2 * s.fld (F.FCH_CBANK_MED c b) + 1 else 1
  let m := medianOf (hist.take taps)
  let spike := decide (2 ^ 21 < (sval m - sval w).natAbs)
  let preset := s.fld (F.FCH_CBANK_PRESET c b)
  let s := s.setCtl c { x with hist := hist, bad := (x.bad.map (· + 1)).filter (· < 2056), inT := t, n := x.n + 1, expect := s.tick + 4 }
  let s := s.when (spike && decide (1 < taps)) (State.bump (F.FCH_CCNT_SPIKE_CNT c) (F.FCH_CCNT_SP_SAT c))
  let s := s.when (s.on (F.FCH_CSTAT_STALL c) && decide (x.stallTick + 4 ≤ s.tick)) (State.setFld (F.FCH_CSTAT_STALL c) 0)
  if x.n % ctlRatio preset = 0 then
    let uns := decide (4 * x.n < ctlSettle preset)
    ctlOutput c ((stag m % 8) ||| (if uns then tUNS else 0)) t s
  else s

/-- A result of its sequence entry reaches a control channel at the take point; a sample that has been replaced is discarded (R131), and
FCH is off in STANDBY (R139). -/
def ctlInput (c : Nat) (w : Word) (tick cyc : Nat) (s : State) : State :=
  let x := s.ctl c
  let t := cycles tick cyc
  if !x.on || !psAwake s then s
  else if x.replaced.contains t then s.setCtl c { x with replaced := x.replaced.filter (· != t) }
  else ctlTake c w t (s.setCtl c { x with stalled := false })

/-- The instant of the sample that a control channel now expects (R131, R152): 4 ticks after the one before it. -/
def ctlNextAt (c : Nat) (s : State) : Int :=
  let x := s.ctl c
  if x.n = 0 then cycles (x.expect - ctlLag c s) (240 * ctlSlot c s) else x.inT + 20480

/-- A sample missing 4 ticks after its expected tick is replaced by the previous one with T_SUB (R131). -/
def ctlLate (c : Nat) (s : State) : State :=
  let x := s.ctl c
  if !x.on || !psAwake s || s.tick < x.expect + 4 then s
  else
    let t := ctlNextAt c s
    let w := addTag (x.hist.headD 0) tSUB
    let s := s.setCtl c { x with stalled := true, stallTick := s.tick, replaced := x.replaced ++ [t] }
    let s := ((s.bump (F.FCH_CCNT_STALL_CNT c) (F.FCH_CCNT_ST_SAT c)).setFld (F.FCH_CSTAT_STALL c) 1).raise (Pg.fchCtl c) 3
    let s := s.when (!x.stalled) (State.report 0x44C3 (0x040 + c) 2)
    let s := ctlTake c w t s
    s.setCtl c { s.ctl c with expect := x.expect + 4 }

/-- A pressed ACT_BANK of a control channel waits for its switch point, both banks frozen (R140, R142). -/
def ctlSwap (c bank : Nat) (s : State) : State :=
  if s.fld (F.FCH_CSTAT_LIVE_BANK c) = bank then
    ctlFrozenShow c (s.setCtl c { s.ctl c with swap := none })
  else if !s.on (F.FCH_CCFG_SRC_CONV c) then s.setFld (F.FCH_CSTAT_LIVE_BANK c) bank
  else ctlFrozenShow c (s.setCtl c { s.ctl c with swap := some bank })

/-- The switch point of a control swap: an input sample number that is a multiple of the larger ratio (R142). -/
def ctlSwitch (c : Nat) (s : State) : State :=
  let r := max (ctlRatio (s.fld (F.FCH_CBANK_PRESET c 0))) (ctlRatio (s.fld (F.FCH_CBANK_PRESET c 1)))
  if (s.ctl c).n % r = 0 then ctlSwapLand c s else s

/-- The 16 bytes of an event record (R155). -/
def evBytes (e : EvRec) : List Word :=
  let t := e.stamp.toNat / 5120
  let cyc := e.stamp.toNat % 5120
  [BitVec.ofNat 32 (t % 2 ^ 32), BitVec.ofNat 32 (t / 2 ^ 32 % 2 ^ 32),
   BitVec.ofNat 32 (cyc + (e.flags % 8) * 8192 + e.ch * 65536 + e.kind * 16777216), e.val]

/-- Whether record `a` stands before `b`: channel, stamp, kind (R154). -/
def evBefore (a b : EvRec) : Bool :=
  decide (a.ch < b.ch) || (a.ch == b.ch && (decide (a.stamp < b.stamp) || (a.stamp == b.stamp && decide (a.kind ≤ b.kind))))

/-- Records in order. -/
def evSort (l : List EvRec) : List EvRec :=
  l.foldl (fun acc e => acc.takeWhile (fun a => evBefore a e) ++ [e] ++ acc.dropWhile (fun a => evBefore a e)) []

/-- The records of a tick written as one signature, or discarded whole (R154). -/
def evFlush (s : State) : State :=
  let l := evSort s.fch.events
  let s := { s with fch := { s.fch with events := [] } }
  if l.isEmpty || !s.on F.FCH_EVQ_EVQ_EN then s
  else
    let (s, ok) := qWriteSig (s.fld F.FCH_EVQ_QID) ⟨1, 2, 0⟩ (l.flatMap evBytes) (16 * l.length) s
    if ok then s.bumpBy l.length F.FCH_EVCNT_EV_CNT F.FCH_EVCNT_EV_SAT
    else (s.bump F.FCH_EVCNT_OVERRUN F.FCH_EVCNT_OV_SAT).raise Pg.fchEvt 0

/-- Whether a bank of an audio decimator is live or frozen (R140): frozen in a crossfade, or selected by the image. -/
def audBankLocked (d bank : Nat) (s : State) : Bool :=
  (audUsed d s && audBank d s == bank) || (s.aud d).xfade || (audPressing d s && imageFld (F.FCH_ACFG_ACT_BANK d) s == bank)

/-- Whether a bank of a control channel is live or frozen (R140). -/
def ctlBankLocked (c bank : Nat) (s : State) : Bool :=
  (ctlUsed c s && s.fld (F.FCH_CSTAT_LIVE_BANK c) == bank) || (s.ctl c).swap.isSome
    || (ctlPressing c s && imageFld (F.FCH_CCFG_ACT_BANK c) s == bank)

/-- FROZEN of every channel as collation freezes banks and releases them (R140, R157). -/
def banksShow (s : State) : State := (s.each 48 audFrozenShow).each 32 ctlFrozenShow

/-- A write to a coefficient bank, or its refusal as BANK_WR (R140). -/
def fchBankWrite (ctl : Bool) (k bank : Nat) (w : Word) (s : State) : State :=
  if ctl then
    if ctlBankLocked k bank s then
      (((s.viol (Pg.fchCtl k) 5 (Adr.FCH_CBANK k bank % 4096))).report 0x84C4 (0x040 + k) 0).raise (Pg.fchCtl k) 0
    else s.setWord (Adr.FCH_CBANK k bank) (w &&& Word.mask 3 0)
  else if audBankLocked k bank s then
    ((((s.viol (Pg.fchAudio k) 5 (Adr.FCH_ABANK k bank % 4096))).bump (F.FCH_ACNT_BANK_WR_CNT k) (F.FCH_ACNT_BW_SAT k)).report
      0x84C4 (0x010 + k) 0).raise (Pg.fchAudio k) 0
  else s.setWord (Adr.FCH_ABANK k bank) (w &&& Word.mask 17 0)

/-- The guard fields of the event page. -/
def fchGuardShow (s : State) : State :=
  let e := s.fch.eng
  ((s.setOn F.FCH_GUARD_FAULTED e.faulted).setOn F.FCH_GUARD_GUARD_ACT (engineGuarded e)).setFld F.FCH_GUARD_GUARD_MAC
    (if engineGuarded e then e.bad.headD 0 else 0)

/-- A residue mismatch of an FCH MAC in the value of source `src` (R145). -/
def fchResidue (mac src : Nat) (s : State) : State :=
  let (e, act) := engineFail mac 16 s.fch.eng
  let s := { s with fch := { s.fch with eng := { e with held := src :: e.held } } }
  let s := s.produce src (addTag (s.src src) tSUB)
  let s := (fchGuardShow (s.bump F.FCH_ERR_RES_CNT F.FCH_ERR_RES_SAT)).report 0x54C1 src (if act = .takeover then 1 else 2)
  match act with
  | .takeover => s.raise Pg.fchEvt 1
  | .fault => (s.report 0x54C5 0 4).raise Pg.fchEvt 2
  | .none => s

/-- The end of the FCH restore test (R145, R259). -/
def fchRestoreEnd (failed : List Nat) (s : State) : State :=
  let (e, restart, bad) := engineRestore failed 16 s.fch.eng
  let s := fchGuardShow { s with fch := { s.fch with eng := e } }
  let s := s.when bad (State.report 0x54C1 0 0)
  if restart then (s.each 48 audStart).each 32 (fun c s => s.when (s.on (F.FCH_CCFG_SRC_CONV c)) (ctlStart c)) else s

/-- FCH off in STANDBY and back: control channels with a source and the decimators start afresh (R139, R138). -/
def fchWake (s : State) : State :=
  (s.each 48 audStart).each 32 (fun c s => s.when (s.on (F.FCH_CCFG_SRC_CONV c)) (ctlStart c))

/-- CONTROL_SAMPLE_LATE. -/
def execControlSampleLate (c : Fin 32) (s : State) : Host.Outcome State Fault Refusal := s.ticking (.next (ctlLate c.val s))

/-- COMPARATOR_AMBIG. -/
def execComparatorAmbig (c : Fin 32) (k : Fin 2) (s : State) : Host.Outcome State Fault Refusal :=
  s.ticking (
    let x := s.ctl c.val
    let t := s.fld (F.FCH_TCFG_DECIDE_T c.val)
    .next (match (x.comp k.val).since with
      | none => s
      | some f =>
        if s.on (F.FCH_THR_EN c.val k.val) && s.fld (thrState c.val k.val) == 0 && !s.on (thrAmbig c.val k.val) && t != 0
            && decide (f + 192 * t ≤ s.tick) then
          (evPost c.val (x.t - ctlD c.val x.bank s) (8 + k.val)
            ((if x.swapped then 2 else 0) + (if stag x.y / 4 % 2 = 1 then 4 else 0)) x.y
            (s.setFld (thrAmbig c.val k.val) 1)).raise (Pg.fchCtl c.val) 1
        else s))

/-- PEAK_CAPTURE. -/
def execPeakCapture (c : Fin 32) (s : State) : Host.Outcome State Fault Refusal :=
  s.ticking (
    .next (match (s.ctl c.val).peak with
      | some (0, _, _, _) => peakClose c.val s
      | _ => s))

/-- A force lands: after this tick's evaluation where that is still to come (R149). -/
def thrForceLand (c k v : Nat) (s : State) : State :=
  if s.cyc < 2048 then s.setCtl c ((s.ctl c).setComp k { ((s.ctl c).comp k) with force := some v }) else thrForce c k v s

/-- COMPARATOR_FORCE_LOW. -/
def execComparatorForceLow (c : Fin 32) (k : Fin 2) (s : State) : Host.Outcome State Fault Refusal := s.heard (.next (thrForceLand c.val k.val 1 s))

/-- COMPARATOR_FORCE_HIGH. -/
def execComparatorForceHigh (c : Fin 32) (k : Fin 2) (s : State) : Host.Outcome State Fault Refusal := s.heard (.next (thrForceLand c.val k.val 2 s))

/-- COMPARATOR_RELEASE. -/
def execComparatorRelease (c : Fin 32) (k : Fin 2) (s : State) : Host.Outcome State Fault Refusal := s.heard (.next (thrForceLand c.val k.val 3 s))

/-- FCH_BANK_WRITE. -/
def execFchBankWrite (control : Bool) (ch : Fin 48) (bank : Fin 2) (data : Word) (s : State) :
    Host.Outcome State Fault Refusal := s.heard (.next (fchBankWrite control (if control then ch.val % 32 else ch.val) bank.val data s))

/-- CONTROL_SWAP_SWITCH. -/
def execControlSwapSwitch (c : Fin 32) (s : State) : Host.Outcome State Fault Refusal := s.ticking (.next (ctlSwitch c.val s))

/-- FCH_RESIDUE. -/
def execFchResidue (mac : Fin 9) (src : Fin 80) (s : State) : Host.Outcome State Fault Refusal :=
  s.ticking (
    .next (fchResidue mac.val (if src.val < 48 then 0x010 + src.val else 0x040 + (src.val - 48)) s))

/-- FCH_RESTORE. -/
def execFchRestore (s : State) : Host.Outcome State Fault Refusal := s.heard (.next (if engineMayRestore s.fch.eng then s.startTest 0x13 0 0 else s))

end Sys2Proof.Machine
end

