-- ==== Sys2Proof/Machine/Ain.lean ====
section
/-!
DEFINITION. Analog inputs: the two paths, the merge, the match loop, guard takeover, mode changes, bias (R105-R128).
-/

namespace Sys2Proof.Machine

/-- Analog input `n`. -/
def State.ach (s : State) (n : Nat) : AinCh := SMap.get (fun _ => {}) s.ain.ch n
def State.setAch (n : Nat) (x : AinCh) (s : State) : State :=
  { s with ain := { s.ain with ch := SMap.set (fun _ => {}) s.ain.ch n x } }

/-- Levels: `dbfs d` is the value of −d dBFS in units of 2^-27; `dbPower d` is the power ratio 10^(−d/10), the same
units (log entry 3). -/
def dbfs (d : Nat) : Int := Config.real "dbfs" [(d : Int)]
def dbPower (d : Nat) : Int := Config.real "dbPower" [(d : Int)]

/-- The row of AIN_MATCH_OFS that holds a mode's learned offsets: mic, line, Hi-Z (R120). -/
def matchRow (mode : Nat) : Nat := mode - 1

/-- The state of the match loop (R118). -/
def matchState (n : Nat) (s : State) : Nat := s.fld (F.AIN_MATCH_STAT_STATE n)

/-- The match loop enters a state; entering MATCHED is an event (R118). -/
def matchEnter (n v : Nat) (s : State) : State :=
  let was := matchState n s
  let s := s.setAch n { s.ach n with conv := 0, diverge := 0 }
  (s.setFld (F.AIN_MATCH_STAT_STATE n) v).when (v == 2 && was != 2) (State.raise (Pg.ain n) 5)

/-- The state that the loop enters at an event that would bring it to `v`: OFF without a mode, GUARD while a path is out, OFF with
MATCH_EN = 0 (R118; log entry 101). -/
def matchSeek (n v : Nat) (s : State) : State :=
  let x := s.ach n
  matchEnter n (if x.mode = 0 then 0 else if x.hOut || x.lOut then 3 else if s.on (F.AIN_MATCH_CFG_MATCH_EN n) then v else 0) s

/-- The state entered at a channel start, a mode change or MATCH_EN set: by TRUST (R118). -/
def matchStart (n : Nat) (s : State) : State := matchSeek n (if s.on (F.AIN_MATCH_CFG_TRUST n) then 2 else 1) s

/-- ACQUIRE after a path returned, VAH recovered or PLL_M relocked, where the loop runs (R118, R125, R126). -/
def matchAcquire (n : Nat) (s : State) : State := matchSeek n 1 s

/-- The guard field: which path carries the channel (AIN_STATUS). -/
def guardShow (n : Nat) (s : State) : State :=
  let x := s.ach n
  s.setFld (F.AIN_STATUS_GUARD n) (if x.failed then 3 else if x.lOut then 1 else if x.hOut then 2 else 0)

/-- A channel fails: the ramp of R123, then 0 with T_SUB. -/
def chanFail (n code : Nat) (s : State) : State :=
  let x := s.ach n
  if x.failed then s
  else
    let s := s.setAch n { x with failed := true, code := code, testBad := true, failW := { pos := 16, len := 16, up := false } }
    (guardShow n s).report code n 4

/-- A path is taken out: masked by the other, or the channel fails with both out (R121-R123). -/
def pathOut (n : Nat) (low : Bool) (s : State) : State :=
  let x := s.ach n
  if (if low then x.lOut else x.hOut) then s
  else
    let x := if low then { x with lOut := true, hDown := true } else { x with hOut := true }
    let s := (s.setAch n x).bump (F.AIN_GUARD_CNT_MODF_CNT n) (F.AIN_GUARD_CNT_MODF_SAT n)
    let s := (s.report (if low then 0x3442 else 0x3441) n 1).raise (Pg.ain n) 1
    let s := matchSeek n 3 s
    if x.hOut && x.lOut then chanFail n 0x3444 s else guardShow n s

/-- The status word of a modulator as the decimator takes it (R112, R113). -/
def modStat (s : State) (m : Nat) : Nat := SMap.get (fun _ => 0) s.ain.statCur m

/-- Whether a status word declares its path failed (bits 1 to 4). -/
def statFault (w : Nat) : Bool := decide (w / 2 % 16 ≠ 0)

/-- Whether merge-rate sample `k` lies in the 8 modulator cycles of settling after a gain step (GSTEP), or in those that a step of the
frame before left over. -/
def statSettling (w carry k : Nat) : Bool :=
  decide (4 * k < carry)
    || (w / 32 % 2 == 1 && decide (w / 2048 % 32 ≤ 4 * k + 3) && decide (4 * k < w / 2048 % 32 + 8))

/-- The cycles of settling that a status word leaves to the next frame. -/
def statCarry (w : Nat) : Nat := if w / 32 % 2 = 1 then w / 2048 % 32 + 8 - 32 else 0

/-- Whether a status word declares its path failed at merge-rate sample `k`, four modulator cycles from cycle 4k (FIRST). -/
def statBad (w k : Nat) : Bool := statFault w && decide (w / 2048 % 32 / 4 ≤ k)

/-- A status word that arrives together with an earlier one that was delayed: a fault of the earlier one is acted on from the
first sample of the frame now merged (R113). -/
def statJoin (old new : Nat) : Nat :=
  let f := old &&& 0x5E
  if f = 0 then new else (new % 2048) ||| f

/-- The status words that a control burst brings are taken, by modulator, oldest first (R112, R113). -/
def statTake (words : List (Nat × Nat)) (s : State) : State :=
  let join := fun (m : SMap Nat) (e : Nat × Nat) => SMap.set (fun _ => 0) m e.1 (statJoin (SMap.get (fun _ => 0) m e.1) e.2)
  { s with ain := { s.ain with statCur := words.foldl join [] } }

/-- The merge-rate samples that a first stage forms of a modulator's frame, taken in tick `t`: 32 four-bit codes, lowest first, in units of
2^-27 of full scale (R110, R113, R114); eight, each open (log entry 3). -/
def frameSamples (m t : Nat) (q : Quire) : List Int :=
  (List.range 8).map (fun (k : Nat) => Config.real "mergeRate" [(m : Int), (t : Int), (k : Int), (q.toNat : Int)])

/-- The factory trim of a channel's mode and PGA step (from OTP; log entry 3): axis 0 gain, 1 delay. -/
def matchFactory (n ax : Nat) (s : State) : Int :=
  Config.real "factoryTrim" [(n : Int), (ax : Int), ((s.ach n).mode : Int), (s.fld (F.AIN_CFG_PGA n) : Int)]

/-- The bounds of a match axis within its hardware range (R119): 0 gain, 1 delay. -/
def matchLo (n ax : Nat) (s : State) : Int := if ax = 0 then s.int (F.AIN_MATCH_GFLOOR_GFLOOR n) else s.int (F.AIN_MATCH_DFLOOR_DFLOOR n)
def matchHi (n ax : Nat) (s : State) : Int := if ax = 0 then s.int (F.AIN_MATCH_GCEIL_GCEIL n) else s.int (F.AIN_MATCH_DCEIL_DCEIL n)

/-- The total trim of an axis in use: factory value and learned offset of the mode in use (R117). -/
def matchTrim (n ax : Nat) (s : State) : Int :=
  let row := matchRow (s.ach n).mode
  matchFactory n ax s + (if ax = 0 then s.int (F.AIN_MATCH_OFS_GOFS n row) else s.int (F.AIN_MATCH_OFS_DOFS n row))

/-- Path L as the match loop trims it: by the gain trim, and by the delay trim's 8-tap interpolator over its newest samples, newest first
(R117; log entry 3). -/
def trimL (g d : Int) (taps : List Int) : Int := Config.real "trimL" (g :: d :: taps)

/-- Path H brought back to the channel's scale while its amplifier stands 27 dB down (R122; log entry 3). -/
def raiseH (n : Nat) (v : Int) (s : State) : Int :=
  Config.real "raise27" [(n : Int), ((s.ach n).mode : Int), (s.fld (F.AIN_CFG_PGA n) : Int), v]

/-- The complementary digital gains of PGA changes on merge-rate sample `k` of frame `f`: each starts at −ΔG and goes to 0 dB linearly in
dB (R106; log entry 3). -/
def pgaGain (gl : List (Nat × Int × Nat)) (f k : Nat) (v : Int) : Int :=
  gl.foldl (fun v g =>
    let j := 8 * (f - g.1) + k
    if g.1 ≤ f ∧ j < g.2.2 then Config.real "gain" [-(g.2.1 * ((g.2.2 - j : Nat) : Int)), (g.2.2 : Int), v] else v) v

/-- The PATH_FORCE that applies to a frame (R138). -/
def forceIn (n f : Nat) (s : State) : Nat :=
  if f < (s.ach n).forceAt then (s.ach n).forceOld else s.fld (F.AIN_CFG_PATH_FORCE n)

/-- A merge-rate sample of frame `f` as it enters the window (R114, R115, R121, R122); `x` is the channel before the frame's status was
acted on. While path H steps back up neither path is valid until it has settled (R125). -/
def mergeIn (n f sh sl : Nat) (x : AinCh) (k : Nat) (h l : Int) (s : State) : MergeIn :=
  let bH := x.hOut || statBad sh k
  let bL := x.lOut || statBad sl k
  let sH := statSettling sh x.carryH k
  let sL := statSettling sl x.carryL k || (x.stepUp && sH)
  let ovlH := sh % 2 == 1
  let force := forceIn n f s
  { h := pgaGain x.glides f k h, l := pgaGain x.glides f k l, okH := !bH && !sH && (!ovlH || force == 1), okL := !bL && !sL,
    ovlH := ovlH, ovlL := sl % 2 == 1 && !x.lOut, settle := (sH || sL) && !bH && !bL, bad := bH || bL, force := force }

/-- Samples that path L must have stayed below the return level for, at least one (R114). -/
def mergeHold (n : Nat) (s : State) : Nat := max 1 (1536 * s.fld (F.AIN_MERGE_HOLD n))

/-- What the merge of one tick has marked (R116), and the merged values, oldest first. -/
structure MergeMark where
  uns : Bool := false
  sub : Bool := false
  clp : Bool := false
  out : List Int := []
  deriving DecidableEq, Repr

/-- Whether a sample of the window has a valid value: with a disagreement only path L counts (R115, R124). -/
def mergeOk (x : AinCh) (e : MergeIn) : Bool := if x.disagree then e.okL else e.okH || e.okL

/-- A valid sample at path L's weight `w`, in units of 2^-27, and whether path L contributes: one path alone where the other is invalid
(R114, R115, R121). -/
def mergeValue (w : Nat) (e : MergeIn) : Int × Bool :=
  if !e.okH || (e.okL && w == 2 ^ 27) then (e.l, true)
  else if !e.okL || w == 0 then (e.h, false)
  else (roundEven (e.l * w + e.h * ((2 ^ 27 : Int) - w)) 27, true)

/-- A bridged value: on the straight line from the last valid merged value to the next one, `j + 1` samples on (R115). -/
def bridgeValue (w : Nat) (x : AinCh) (next : List MergeIn) : Int :=
  let j := next.findIdx (mergeOk x)
  let v := (mergeValue w (next.getD j {})).1
  x.lastV + roundDiv ((v - x.lastV) * ((x.run + 1 : Nat) : Int)) ((x.run + 2 + j : Nat) : Int)

/-- The choice of the merge for sample `w0` (R114): the channel as the choice, its crossfades and its hold move on. A sample counts towards
HOLD as it is merged, and no return starts while a later sample of the window reaches the crossover level (log entry 101). -/
def mergeChoose (n : Nat) (w0 : MergeIn) (next : List MergeIn) (s : State) : State :=
  let x := s.ach n
  let w3 := next.getLast?.getD w0
  let lim := dbfs (s.fld (F.AIN_MERGE_XOVER n))
  let ret := dbfs (s.fld (F.AIN_MERGE_XOVER n) + s.fld (F.AIN_MERGE_HYST n))
  let past := fun (e : MergeIn) => decide (lim ≤ (e.l.natAbs : Int))
  let free := w0.force == 0 && !x.hOut && !x.lOut && !x.disagree
  let goL := free && x.toL == 0 && ((x.choice == 0 && (past w3 || w3.ovlH)) || (x.choice == 2 && past w3))
  let hold := if x.choice = 1 ∧ x.toL ≤ 1 ∧ (w0.l.natAbs : Int) < ret then x.hold + 1 else 0
  let back := free && x.choice == 1 && decide (x.toL ≤ 1) && s.fld (F.AIN_MERGE_HOLD n) == 0 && decide (mergeHold n s ≤ hold)
    && !next.any past
  let len := 64 * s.fld (F.AIN_MERGE_XFADE n)
  let xw := rampStep x.xw
  if goL then
    (s.setAch n { x with choice := 1, toL := 4, base := if x.choice = 2 then rampWeight x.xw else 0, hold := 0 }).bump
      (F.AIN_CNT_XOVR_CNT n) (F.AIN_CNT_XOVR_SAT n)
  else if back then
    s.setAch n { x with choice := if len = 0 then 0 else 2, xw := { pos := len - 1, len := len, up := false }, toL := 0, hold := 0 }
  else if x.choice = 2 then s.setAch n { x with xw := xw, choice := if rampRests xw then 0 else 2, hold := 0 }
  else s.setAch n { x with toL := x.toL - 1, hold := hold }

/-- The weight of path L for the sample merged, in units of 2^-27: quarters of the way in an H→L crossfade, a raised cosine on the way
back; a forced path or the surviving path alone (R114, R116, R121, R124). -/
def mergeWeight (x : AinCh) (force : Nat) : Nat :=
  if x.lOut then 0
  else if x.hOut || x.disagree then 2 ^ 27
  else if force = 1 then 0
  else if force = 2 then 2 ^ 27
  else if x.choice = 0 then 0
  else if x.choice = 2 then rampWeight x.xw
  else x.base + (2 ^ 27 - x.base) * (5 - max 1 x.toL) / 4

/-- The merge of one sample, `w0`, with the three that follow it in the window, newest last (R114-R116). -/
def mergeSample (n : Nat) (w0 : MergeIn) (next : List MergeIn) (acc : MergeMark × State) : MergeMark × State :=
  let (m, s) := acc
  let s := mergeChoose n w0 next s
  let x := s.ach n
  let ok := mergeOk x w0
  let w := mergeWeight x w0.force
  let (v, usesL) := if ok then mergeValue w w0 else (bridgeValue w x next, false)
  let s := s.setAch n (if ok then { x with run := 0, lastV := v } else { x with run := x.run + 1 })
  let s := if ok then s
    else if next.any (mergeOk x) then s.bump (F.AIN_GUARD_CNT_BRIDGE_CNT n) (F.AIN_GUARD_CNT_BR_SAT n)
    else chanFail n 0x3444 s
  ({ uns := m.uns || (usesL && matchState n s == 1) || (!ok && w0.settle),
     sub := m.sub || (!ok && !w0.settle) || w0.bad || x.disagree,
     clp := m.clp || w0.ovlL || (w0.force == 1 && w0.ovlH && !x.hOut), out := m.out ++ [v] }, s)

/-- The comparison of the two paths over a tick's valid samples (R124). -/
def pathDisagree (n : Nat) (hs ls : List Int) (s : State) : State :=
  let x := s.ach n
  let lim := s.fld (F.AIN_MATCH_CFG_DIS_LIM n)
  let dl := if lim < 20 then 20 else lim
  let eL := (ls.map (fun v => v * v)).foldl (· + ·) 0
  let eD := ((hs.zip ls).map (fun p => (p.1 - p.2) * (p.1 - p.2))).foldl (· + ·) 0
  let loud := decide ((ls.length : Int) * 2 ^ 54 ≤ eL * 1000000)
  let off := decide (eL * dbPower dl < eD * 2 ^ 27)
  let bad := lim ≠ 0 && !ls.isEmpty && loud && off
  let run := if bad then min 2 (x.disRun + 1) else 0
  let s := s.setAch n { x with disRun := run, testBad := x.testBad || run == 2 }
  if run = 2 ∧ x.disRun = 1 ∧ !x.disagree ∧ !x.failed then
    let s := ((s.bump (F.AIN_GUARD_CNT_DIS_CNT n) (F.AIN_GUARD_CNT_DIS_SAT n)).raise (Pg.ain n) 2).report 0x3443 n
      (if s.on (F.AIN_MATCH_CFG_DIS_ACT n) then 4 else 3)
    if s.on (F.AIN_MATCH_CFG_DIS_ACT n) then
      let s := s.setAch n { s.ach n with failed := true, code := 0x3443, failW := { pos := 16, len := 16, up := false } }
      guardShow n s
    else s.setAch n { s.ach n with disagree := true }
  else s

/-- Whether the converter side of an input is absent: VAH low, PLL_M unlocked after it had locked (R75, R90). -/
def ainDark (s : State) : Bool := !s.on F.PWR_STATUS_VAH_OK || pllDropped 1 s

/-- Whether the channel waits for its first start: PLL_M not yet locked, or STANDBY (R126). -/
def ainWaking (s : State) : Bool := !pllLocked 1 s && !pllDropped 1 s

/-- The value of an input after its merge: OFF, ramps, T_FAD and the fixed values of R126; the weight of R107 moves on whatever is sent. -/
def ainValue (n tag : Nat) (s : State) : State :=
  let x := s.ach n
  let w := rampStep x.w
  let s := s.setAch n { x with w := w, failW := if x.failed then rampStep x.failW else x.failW }
  if x.seq = 0 ∧ x.mode = 0 then audFixed n 0 s
  else if x.failed then
    audFixed n (if rampRests x.failW then zeroTag tSUB
      else addTag (weigh (rampWeight (rampStep x.failW)) (s.aud n).last) (tSUB ||| tFAD)) s
  else if s.fld (F.FLT_LINK_B_LSTATE 1) ≠ 1 ∧ !ainWaking s then audFixed n (zeroTag tSUB) s
  else if ainDark s then audFixed n (zeroTag (tSUB ||| tUNS)) s
  else if ainWaking s ∨ x.seq = 2 then audFixed n (zeroTag tFAD) s
  else audValue n (if rampRests x.w then tag else tag ||| tFAD) (rampWeight w) s

/-- Which path is in use, as AIN_STATUS shows it (R128). -/
def pathShown (n : Nat) (s : State) : Nat :=
  let x := s.ach n
  let force := s.fld (F.AIN_CFG_PATH_FORCE n)
  if x.lOut then 0 else if x.hOut || x.disagree then 1 else if force = 1 then 0 else if force = 2 then 1
  else if 1 < x.toL then 2 else x.choice

/-- What a status declares is acted on: the front stage, path H, path L (R112, R121-R123). -/
def ainStatus (n sh sl : Nat) (s : State) : State :=
  let s := s.when (sh / 64 % 2 == 1) (chanFail n 0x3445)
  let s := s.when (statFault sh) (pathOut n false)
  s.when (statFault sl) (pathOut n true)

/-- The frame's samples enter the window and as many leave it merged, four samples later (R114). -/
def ainMerge (n : Nat) (new : List MergeIn) (s : State) : MergeMark × State :=
  let x := s.ach n
  let all := (if x.win.isEmpty then List.replicate 4 {} else x.win) ++ new
  let (m, s) := (List.range new.length).foldl
    (fun (acc : MergeMark × State) (k : Nat) => mergeSample n (all.getD k {}) ((all.drop (k + 1)).take 3) acc) (({} : MergeMark), s)
  (m, s.setAch n { s.ach n with win := all.drop new.length })

/-- What a status would declare of a channel whose restore test runs (R125). -/
def statTests (n sh sl : Nat) (s : State) : State :=
  s.when (sh / 64 % 2 == 1 || statFault sh || statFault sl) (fun s => s.setAch n { s.ach n with testBad := true })

/-- The qualifying samples of a frame (R117): path L between −66 dBFS and the crossover level, both paths valid, path H without OVL. -/
def matchCount (n : Nat) (new : List MergeIn) (s : State) : State :=
  let ok := fun (e : MergeIn) => e.okH && e.okL && !e.ovlH && decide (dbfs 66 ≤ (e.l.natAbs : Int))
    && decide ((e.l.natAbs : Int) ≤ dbfs (s.fld (F.AIN_MERGE_XOVER n)))
  s.setAch n { s.ach n with qual := (s.ach n).qual + (new.filter ok).length }

/-- Whether path H stands 27 dB down at merge-rate sample `k` of a frame with these status words: a failing path L steps it down, a
returning one up, both from the FIRST of its GSTEP (R112, R122, R125). -/
def pathHDown (x : AinCh) (sh sl k : Nat) : Bool :=
  let stepped := sh / 32 % 2 == 1 && decide (sh / 2048 % 32 / 4 ≤ k)
  if x.hDown then !(x.stepUp && stepped) else statFault sl && stepped

/-- The samples of a frame as they enter the window: path L trimmed, path H in the channel's scale (R114, R117, R122). -/
def ainFrame (n : Nat) (x : AinCh) (hs ls : List Int) (s : State) : List MergeIn × List Int :=
  let sh := modStat s (2 * n)
  let sl := modStat s (2 * n + 1)
  let raw := ls.reverse ++ x.lHist
  let g := matchTrim n 0 s
  let d := matchTrim n 1 s
  ((List.range (min hs.length ls.length)).map (fun (k : Nat) =>
    mergeIn n (s.tick - 2) sh sl x k (if pathHDown x sh sl k then raiseH n (hs.getD k 0) s else hs.getD k 0)
      (trimL g d ((raw.drop (ls.length - 1 - k)).take 8)) s), raw.take 7)

/-- The decimator of input `n` takes a frame at the take point (R113-R124, R129); a disagreement found in this frame is acted on
from the next tick (R124). A channel that is out runs on in the background (R125). -/
def ainTake (n : Nat) (hs ls : List Int) (s : State) : State :=
  let x := s.ach n
  let sh := modStat s (2 * n)
  let sl := modStat s (2 * n + 1)
  let fed := x.mode ≠ 0 && !ainDark s && !ainWaking s
  let live := fed && !x.failed
  let (new, lHist) := ainFrame n x hs ls s
  let new := if fed then new else []
  let up := x.stepUp && sh / 32 % 2 == 1
  let s := s.setAch n { x with lHist := lHist, carryH := statCarry sh, carryL := statCarry sl, stepUp := x.stepUp && !up,
                               hDown := x.hDown && !up,
                               glides := x.glides.filter (fun g => decide (8 * (s.tick - 2 - g.1) < g.2.2)) }
  let s := (matchCount n new s).when (fed && (s.testOf 0x11 n).isSome) (statTests n sh sl)
  let s := s.when live (ainStatus n sh sl)
  let (m, s) := if live then ainMerge n new s else ({}, s.setAch n { s.ach n with win := [], run := 0 })
  let s := audPush n m.out s
  let ovl := live && sl % 2 == 1 && !x.lOut
  let s := (s.setOn (F.AIN_STATUS_OVL n) ovl).setFld (F.AIN_STATUS_PATH n) (pathShown n s)
  let s := s.when ovl (fun s => (s.bump (F.AIN_CNT_CLIP_CNT n) (F.AIN_CNT_CLIP_SAT n)).raise (Pg.ain n) 0)
  let s := ainValue n ((if m.uns then tUNS else 0) + (if m.sub then tSUB else 0) + (if m.clp then tCLP else 0)) s
  let both := new.filter (fun e => e.okH && e.okL)
  if fed && !statFault sh && !statFault sl && !both.isEmpty then pathDisagree n (both.map (·.h)) (both.map (·.l)) s
  else s.setAch n { s.ach n with disRun := 0 }

/-- A pressed MODE (R107): from the step under way as its table says; a FAULTED channel stays out, OFF with MODE 0 (R125, R126). -/
def ainMode (n new : Nat) (s : State) : State :=
  let x := s.ach n
  if x.failed then matchStart n (s.setAch n { x with mode := new, seq := 0 })
  else if x.seq = 0 then
    if x.mode = 0 then
      if new = 0 then s
      else matchStart n (s.setAch n { x with mode := new, seq := 2, due := s.tick + 256, w := {} })
    else s.setAch n { x with seq := 1, w := { pos := 32, len := 32, up := false } }
  else if x.seq = 1 then s
  else if x.seq = 2 then
    if new = 0 then matchStart n (s.setAch n { x with mode := 0, seq := 0 })
    else matchStart n (s.setAch n { x with mode := new, due := s.tick + 256 })
  else s.setAch n { x with seq := 1, w := rampGo false 32 x.w }

/-- A timed step of the mode sequence ends and the next starts (R107). -/
def ainStepDone (n : Nat) (s : State) : State :=
  let x := s.ach n
  let new := s.fld (F.AIN_CFG_MODE n)
  if x.seq = 1 ∧ rampRests x.w then
    if new = 0 then matchStart n (s.setAch n { x with mode := 0, seq := 0, w := {} })
    else matchStart n (s.setAch n { x with mode := new, seq := 2, due := s.tick + 256, w := {} })
  else if x.seq = 2 ∧ x.due ≤ s.tick then
    audStart n (s.setAch n { x with seq := 3, w := { pos := 0, len := 32, up := true } })
  else if x.seq = 3 ∧ rampRests x.w then s.setAch n { x with seq := 0 }
  else s

/-- A pressed PGA: both amplifiers step at frame p, and the complementary digital gain glides back from that frame on; with GLIDE = 0 it is
gone at once and the values from tick p + 3 on are marked (R106, R138). -/
def ainPga (n : Nat) (old new : Nat) (s : State) : State :=
  let len := 64 * s.fld (F.AIN_CFG_GLIDE n)
  if old = new then s
  else if len = 0 then audMark n (s.tick + 3) (audSettle (audPreset n s)) s
  else s.setAch n { s.ach n with glides := (s.ach n).glides ++ [(s.tick, (new : Int) - old, len)] }

/-- A pressed PATH_FORCE: it applies from frame p on, and the values from tick p + 3 on are marked (R138). -/
def ainForce (n : Nat) (old new : Nat) (s : State) : State :=
  if old = new then s
  else audMark n (s.tick + 3) (audSettle (audPreset n s)) (s.setAch n { s.ach n with forceOld := old, forceAt := s.tick })

/-- A restart of a channel from step 2 of R107. -/
def ainRestart (n : Nat) (s : State) : State :=
  let x := s.ach n
  let mode := s.fld (F.AIN_CFG_MODE n)
  let x := { x with mode := mode, failed := false, code := 0, win := [], run := 0, disRun := 0 }
  guardShow n (s.setAch n (if mode = 0 then { x with seq := 0 } else { x with seq := 2, due := s.tick + 256, w := {} }))

/-- The end of a restore test: a fault or a disagreement in its time fails it (R125). A returned path H is used again by the return rule
of R114; with path L back, path H steps up. -/
def ainRestoreEnd (n : Nat) (s : State) : State :=
  let x := s.ach n
  if !x.testBad then
    let x' := { x with hOut := false, lOut := false, stepUp := x.hDown, disagree := false, disRun := 0,
                       choice := if x.hOut || x.disagree then 1 else 0, toL := 0, hold := 0 }
    let s := s.setAch n x'
    matchAcquire n (if x.failed then ainRestart n s else guardShow n s)
  else
    let code := if x.failed then x.code else if x.lOut then 0x3442 else if x.hOut then 0x3441 else 0x3443
    (s.bump (F.AIN_GUARD_CNT_MODF_CNT n) (F.AIN_GUARD_CNT_MODF_SAT n)).report code n 0

/-- Bandwidth of the loop's state: 20 Hz in ACQUIRE, TRACK_BW in MATCHED (R118). -/
def matchBw (n : Nat) (s : State) : Nat := if matchState n s = 1 then 3 else s.fld (F.AIN_MATCH_CFG_TRACK_BW n)

/-- The trim that a block moves to: from the present one towards zero error, by the bandwidth, within the bounds (R117-R119; log
entry 3). `err` is the measured error of path L at the present trim. -/
def matchMove (n ax : Nat) (err : Int) (s : State) : Int :=
  let lo := matchLo n ax s
  let hi := matchHi n ax s
  let p := matchTrim n ax s
  let goal := p - err
  let v := clampInt (min p goal) (max p goal) (Config.real "matchStep" [(matchBw n s : Int), p, err])
  if hi ≤ lo then lo else clampInt lo hi v

/-- A block with trim `v` on an axis: a trim that rests on a bound is an event, and a fault after 1,024 blocks (R119). -/
def matchRest (n ax : Nat) (v : Int) (s : State) : State :=
  let lo := matchLo n ax s
  let hi := matchHi n ax s
  let rest := decide (v = lo) || decide (v = hi)
  let x := s.ach n
  let k := if rest then min 1025 ((if ax = 0 then x.restG else x.restD) + 1) else 0
  let s := s.setAch n (if ax = 0 then { x with restG := k } else { x with restD := k })
  let s := (s.when (k == 1) (State.raise (Pg.ain n) 3)).when (k == 1024) (State.report 0x3446 n 0)
  if ax = 0 then
    ((s.setOn (F.AIN_MATCH_STAT_PINNED_G n) (decide (hi ≤ lo))).setOn (F.AIN_MATCH_STAT_AT_CEIL_G n) (v == hi)).setOn
      (F.AIN_MATCH_STAT_AT_FLOOR_G n) (v == lo)
  else
    ((s.setOn (F.AIN_MATCH_STAT_PINNED_D n) (decide (hi ≤ lo))).setOn (F.AIN_MATCH_STAT_AT_CEIL_D n) (v == hi)).setOn
      (F.AIN_MATCH_STAT_AT_FLOOR_D n) (v == lo)

/-- One axis moved by a block that is not skipped (R117, R119, R120). -/
def matchAxis (n ax : Nat) (err : Int) (s : State) : State :=
  let v := matchMove n ax err s
  let ofs := v - matchFactory n ax s
  let row := matchRow (s.ach n).mode
  let s := if ax = 0 then (s.setInt (F.AIN_MATCH_OFS_GOFS n row) ofs).post (Adr.AIN_MATCH_GAIN n) (BitVec.ofNat 32 (unsigned 16 v))
    else (s.setInt (F.AIN_MATCH_OFS_DOFS n row) ofs).post (Adr.AIN_MATCH_DLY n) (BitVec.ofNat 32 (unsigned 16 v))
  matchRest n ax v s

/-- The end of a 64-tick block of the match loop (R117, R118): gain error in 0.0001 dB and delay error in 0.1 ns. A block skipped holds
its offsets, and a host's write of an offset in the same cycle drops the update (R120). -/
def matchBlock (n : Nat) (ge de : Int) (s : State) : State :=
  let st := matchState n s
  let x := s.ach n
  let s := s.setAch n { x with qual := 0 }
  if st = 0 ∨ st = 3 then s
  else if x.qual < 128 then
    matchRest n 1 (matchTrim n 1 s) (matchRest n 0 (matchTrim n 0 s) (s.setFld (F.AIN_MATCH_STAT_IDLE n) 1))
  else if x.ofsAt = some (s.tick * 5120 + s.cyc) then s.setFld (F.AIN_MATCH_STAT_IDLE n) 0
  else
    let s := matchAxis n 1 de (matchAxis n 0 ge (s.setFld (F.AIN_MATCH_STAT_IDLE n) 0))
    let x := s.ach n
    let near := decide (ge.natAbs < 50 ∧ de.natAbs < 20)
    let far := decide (500 < ge.natAbs ∨ 200 < de.natAbs)
    let cv := if near then x.conv + 1 else 0
    let dv := if far then x.diverge + 1 else 0
    let s := s.setAch n { x with conv := min 8 cv, diverge := min 4 dv }
    if st = 1 ∧ 8 ≤ cv then matchEnter n 2 s
    else if st = 2 ∧ 4 ≤ dv then matchEnter n 1 s
    else s

/-- A bias output follows its enable; one turned off by its current limit stays off until MICB_EN is 0 (R108, R109). -/
def micbPress (k : Nat) (s : State) : State :=
  let en := s.on (F.AIN_MICB_CFG_MICB_EN k)
  let off := SMap.get (fun _ => false) s.ain.micbOff k && en
  let r := SMap.get (fun _ => {}) s.ain.micb k
  { s with ain := { s.ain with micbOff := SMap.set (fun _ => false) s.ain.micbOff k off,
                               micb := SMap.set (fun _ => {}) s.ain.micb k (rampGo (en && !off && s.on F.PWR_STATUS_VAH_OK) 1920 r) } }
    |>.when (!en) (State.setFld (F.AIN_MICB_STAT_MICB_OC k) 0)

/-- The bias ramps one tick on; VAH low turns the outputs off (R108). -/
def micbTick (s : State) : State :=
  s.each 8 (fun k s =>
    let r := SMap.get (fun _ => {}) s.ain.micb k
    let off := SMap.get (fun _ => false) s.ain.micbOff k
    let go := s.on (F.AIN_MICB_CFG_MICB_EN k) && !off
    let r := if s.on F.PWR_STATUS_VAH_OK then rampStep (rampGo go 1920 r) else {}
    { s with ain := { s.ain with micb := SMap.set (fun _ => {}) s.ain.micb k r } })

/-- The converter side returns: VAH recovered, or PLL_M relocked (R126, R138). -/
def ainReturn (s : State) : State :=
  s.each 32 (fun n s => if (s.ach n).mode = 0 then s else audStart n (matchAcquire n s))

/-- AIN_MODE_STEP_DONE. -/
def execAinModeStepDone (n : Fin 32) (s : State) : Host.Outcome State Fault Refusal := s.ticking (.next (ainStepDone n.val s))

/-- MICB_OC. -/
def execMicbOc (k : Fin 8) (s : State) : Host.Outcome State Fault Refusal :=
  s.ticking (
    .next (if s.on (F.AIN_MICB_CFG_MICB_EN k.val) && !SMap.get (fun _ => false) s.ain.micbOff k.val then
      (({ s with ain := { s.ain with micbOff := SMap.set (fun _ => false) s.ain.micbOff k.val true,
                                      micb := SMap.set (fun _ => {}) s.ain.micb k.val {} } }.setFld
        (F.AIN_MICB_STAT_MICB_OC k.val) 1).raise (Pg.ain k.val) 4).report 0x3447 k.val 0
    else s))

/-- MODULATOR_STATUS. The words of the frame, by modulator, eight to a quire, for the converter die's control burst (R112). -/
def execModulatorStatus (words : List (Fin 64 × BitVec 16)) (s : State) : Host.Outcome State Fault Refusal :=
  s.ticking (
    let st := words.foldl (fun m e => SMap.set (fun _ => 0) m e.1.val e.2.toNat) []
    let of := fun (q : Nat) => st.filter (fun e => e.1 / 8 == q)
    let s := s.each 8 (fun q s => s.tell 1 s.tick (.status s.tick (of q)))
    .next s)

/-- MERGE_RETURN. -/
def execMergeReturn (n : Fin 32) (s : State) : Host.Outcome State Fault Refusal :=
  s.ticking (
    let x := s.ach n.val
    let len := 64 * s.fld (F.AIN_MERGE_XFADE n.val)
    .next (if x.choice = 1 ∧ x.toL ≤ 1 ∧ mergeHold n.val s ≤ x.hold ∧ !x.hOut ∧ !x.disagree ∧ s.fld (F.AIN_CFG_PATH_FORCE n.val) = 0 then
      s.setAch n.val { x with choice := if len = 0 then 0 else 2, xw := { pos := len, len := len, up := false }, toL := 0, hold := 0 }
    else s))

/-- MATCH_BLOCK, at core cycle `cyc`. -/
def execMatchBlock (n : Fin 32) (cyc : Fin 5120) (gainErr delayErr : Int) (s : State) : Host.Outcome State Fault Refusal :=
  s.ticking (
    .next (matchBlock n.val gainErr delayErr (s.land cyc.val)))

/-- The state of an AIN page, isolation apart (R126). -/
def ainPageState (n : Nat) (s : State) : Nat :=
  let x := s.ach n
  if x.mode = 0 ∧ s.fld (F.AIN_CFG_MODE n) = 0 then 0
  else if x.failed then 4
  else if ainWaking s ∨ x.seq = 2 then 1
  else if x.hOut || x.lOut || x.disagree || ainDark s then 3
  else 2

/-- Whether a path or channel is taken out (R125). -/
def ainOut (n : Nat) (s : State) : Bool :=
  let x := s.ach n
  x.hOut || x.lOut || x.failed || x.disagree

/-- A write of RESTORE: ignored unless the page shows DEGRADED or FAULTED (R125). -/
def ainRestore (n : Nat) (s : State) : State :=
  if ainOut n s && decide (3 ≤ ainPageState n s) && !s.on F.FLT_STAT_PARTWIDE then
    (s.setAch n { s.ach n with testBad := false }).startTest 0x11 n 0
  else s

/-- AIN_RESTORE. -/
def execAinRestore (n : Fin 32) (s : State) : Host.Outcome State Fault Refusal := s.heard (.next (ainRestore n.val s))

end Sys2Proof.Machine
end

