-- ==== Sys2Proof/Machine/Spn.lean ====
section
/-!
DEFINITION. The spine: what a sink takes, damaged slots and lanes, taps (R239-R250).
-/

namespace Sys2Proof.Machine

/-- The value of this tick at sink `n`: its source's value, the next one for a same-tick input; a sink whose slot is damaged
keeps its previous value with T_SUB (R241, R242, R248). -/
def State.sink (s : State) (n : Nat) : Word :=
  let r := s.fld (F.SPN_ROUTE_SRC n)
  let hurt := s.spn.hurt.contains n
  if r = 0 then 0
  else if s.on (F.SPN_ROUTE_SAME_TICK n) then (if hurt then addTag (s.src r) tSUB else s.srcNext r)
  else if hurt then addTag (SMap.get (fun _ => 0) s.spn.held n) tSUB
  else s.src r

/-- The lanes that are out. -/
def spnOut (s : State) : List Nat := (List.range 4).filter (fun l => s.fld F.SPN_STAT_LANE_OUT / 2 ^ l % 2 == 1)

/-- Uncorrectable slots of the tick that begins: `errs` names each slot's lane and the sinks it serves; `old` is the state of
the tick that ends (R248). -/
def spnErrors (errs : List (Nat × List Nat)) (fixed : Nat) (old s : State) : State :=
  let errs := errs.filter (fun e => !(spnOut s).contains e.1)
  let sinks := errs.flatMap (·.2)
  let held := sinks.foldl (fun m n => SMap.set (fun _ => (0 : Word)) m n (old.sink n)) []
  let s := (s.bumpBy fixed F.SPN_CNT_ECC_CNT F.SPN_CNT_ECC_SAT).bumpBy errs.length F.SPN_CNT_UE_CNT F.SPN_CNT_UE_SAT
  let s := s.eachOf errs (fun e s => (s.report 0x4601 e.1 0).raise Pg.spn 0)
  let hit := (List.range 4).filter (fun l => errs.any (fun e => e.1 == l))
  let out := hit.filter (fun l => s.spn.lanes.contains l)
  let s := s.eachOf out (fun l s => ((s.setFld F.SPN_STAT_LANE_OUT (s.fld F.SPN_STAT_LANE_OUT ||| 2 ^ l)).report 0x4602 l
    (if (spnOut s).isEmpty then 1 else 4)).raise Pg.spn 1)
  { s with spn := { s.spn with hurt := sinks, held := held, lanes := hit } }

/-- Values presented again because their producers missed the tick (R49): `src` in the tick that begins. -/
def spnMiss (src block : Nat) (old s : State) : State :=
  let s := s.setSrc src (addTag (old.src src) tSUB)
  let s := (s.bump F.SPN_MISS_MISS_CNT F.SPN_MISS_MISS_SAT).setFld F.SPN_MISS_LAST_MISS src
  (s.report (0x403C + block * 0x40) src 2).raise Pg.spn 2

/-- The block that produces a spine source (R239, R49). -/
def srcBlock (n : Nat) : Nat :=
  if n < 0x060 then 0x13 else if n < 0x088 then 0x16 else if n < 0x300 then 0x15 else if n < 0x400 then 0x17
  else if n < 0x4C0 then 0x19 else if n < 0x800 then 0x1A else 0x22

/-- The taps of the tick (R250). -/
def spnTaps (s : State) : State :=
  let s := s.each 32 (fun k s =>
    let src := s.fld (F.SPN_TAP_CFG_SRC k)
    if src = 0 then s
    else
      let w := s.src src
      let old := SMap.get (fun _ => (0 : Word)) s.spn.peak k
      let big := (sval old).natAbs < (sval w).natAbs
      let v := if !s.on (F.SPN_TAP_CFG_MODE k) || SMap.get (fun _ => false) s.spn.read k then w
        else addTag (if big then w else old) (stag old ||| stag w)
      let s := { s with spn := { s.spn with peak := SMap.set (fun _ => 0) s.spn.peak k v } }
      s.post (Adr.SPN_TAP_RES k) (BitVec.ofNat 32 (v.bits 31 13 * 16 + stag v)))
  { s with spn := { s.spn with read := [] } }

/-- The state of the SPN pages (R248). -/
def spnPageState (s : State) : Nat :=
  let n := (spnOut s).length
  if 2 ≤ n then 4 else if n = 1 then 3 else 2

/-- A write of RESTORE: test quires on the lane that is out (R249). -/
def spnRestore (s : State) : State :=
  if spnPageState s = 3 then s.startTest 0x18 ((spnOut s).headD 0) 0 else s

/-- The end of a lane's test (R249). -/
def spnRestoreEnd (lane : Nat) (pass : Bool) (s : State) : State :=
  if pass then
    s.setFld F.SPN_STAT_LANE_OUT ((spnOut s).foldl (fun n l => if l = lane then n else n + 2 ^ l) 0)
  else (s.report 0x4602 lane 0).raise Pg.spn 1

/-- SPN_RESTORE. -/
def execSpnRestore (s : State) : Host.Outcome State Fault Refusal := s.heard (.next (spnRestore s))

end Sys2Proof.Machine
end

