-- ==== Sys2Proof/Machine/Mix.lean ====
section
/-!
DEFINITION. The mixer: crosspoints, glides, buses, mutes, residue checks and the guard MAC (R251-R260).
-/

namespace Sys2Proof.Machine

/-- The enabled buses, in rising order. -/
def mixBuses (s : State) : List Nat := (List.range 192).filter (fun b => s.on (F.MIX_BUS_EN b))

/-- The rank of a bus among the enabled ones, from 1; 0 where it is not enabled. -/
def mixRank (b : Nat) (s : State) : Nat := if s.on (F.MIX_BUS_EN b) then ((mixBuses s).takeWhile (· != b)).length + 1 else 0

/-- First and last cycle of the computation of the enabled bus of rank `k` (R252). -/
def mixFirst (k : Nat) (s : State) : Nat := s.fld F.SPN_SCHED_MIX_START + 48 + 24 * (k - 1)
def mixFinish (k : Nat) (s : State) : Nat := s.fld F.SPN_SCHED_MIX_START + 24 * k + 47

/-- Index of a crosspoint, and the cycle in which the mixer, or a glide on a bus that is not enabled, reads it (R252,
R255). -/
def xpIdx (lane bus : Nat) : Nat := 384 * bus + lane
def xpCycle (i : Nat) (s : State) : Nat :=
  let k := mixRank (i / 384) s
  if k = 0 then s.fld F.SPN_SCHED_MIX_START else mixFirst k s + i % 384 / 16

/-- The gain after step `k` of a glide, the increment rounded towards zero (R255). -/
def glideGain (g : Glide) (k : Nat) : Int :=
  if g.time ≤ k then g.target else g.g0 + ((g.target - g.g0) * k).tdiv g.time

/-- The glide that runs in slot `n`. -/
def State.glideOf (s : State) (n : Nat) : Option Glide := SMap.get (fun _ => none) s.mix.glide n

/-- The slot that moves crosspoint `i`, if one does. -/
def glideOn (i : Nat) (s : State) : Option (Nat × Glide) :=
  s.mix.glide.findSome? (fun e => match e.2 with
    | some g => if g.xp = i then some (e.1, g) else none
    | none => none)

/-- Whether a glide has applied its step of this tick by now (R255). -/
def glideNow (g : Glide) (s : State) : Bool := psAwake s && decide (g.t0 < s.tick ∧ xpCycle g.xp s ≤ s.cyc)

/-- The gain in use at a crosspoint at this cycle (R253). -/
def xpNow (i : Nat) (s : State) : Word :=
  match glideOn i s with
  | some (_, g) =>
    if glideNow g s then BitVec.ofInt 32 (glideGain g (s.tick - g.t0)) else SMap.get (fun _ => 0) s.mix.xp i
  | none => SMap.get (fun _ => 0) s.mix.xp i

/-- What a host read of a crosspoint returns (R253, R254). -/
def xpRead (i : Nat) (s : State) : Word := if SMap.get (fun _ => false) s.mix.bad i then 0 else xpNow i s

/-- MIX_GL_CTRL of slot `n`: REMAIN falls with each step as it is applied (R262). -/
def glideWord (n : Nat) (s : State) : Word :=
  let w := s.word (Adr.MIX_GL_CTRL n)
  match s.glideOf n with
  | some g => if glideNow g s then w.put 31 16 (w.bits 31 16 - 1) else w
  | none => w

/-- The number of running glides. -/
def glideCount (s : State) : State :=
  s.setFld F.MIX_GLSTAT_ACTIVE (s.mix.glide.filter (fun e => e.2.isSome)).length

/-- A slot's glide ends; the crosspoint keeps the gain last applied. -/
def glideEnd (n : Nat) (s : State) : State :=
  let s := match s.glideOf n with
    | none => s
    | some g => { s with mix := { s.mix with xp := SMap.set (fun _ => 0) s.mix.xp g.xp (xpNow g.xp s),
                                             glide := SMap.set (fun _ => none) s.mix.glide n none } }
  let s := { s with mix := { s.mix with armed := SMap.set (fun _ => false) s.mix.armed n false } }
  glideCount ((((s.setFld (F.MIX_GL_CTRL_ACTIVE n) 0).setFld (F.MIX_GL_CTRL_ARMED n) 0).setFld (F.MIX_GL_CTRL_REMAIN n) 0))

/-- A glide or an arming ended under R256. -/
def glideAbort (n : Nat) (s : State) : State := (glideEnd n s).bump F.MIX_GLSTAT_ABORT_CNT F.MIX_GLSTAT_AB_SAT

/-- Whether a slot is active or armed. -/
def glideBusy (n : Nat) (s : State) : Bool := (s.glideOf n).isSome || SMap.get (fun _ => false) s.mix.armed n

/-- A host write to a crosspoint: a glide on it ends, and a write after the read of this tick counts from the next (R253,
R254, R256). -/
def xpWrite (i : Nat) (w : Word) (s : State) : State :=
  let now := xpNow i s
  let s := match glideOn i s with
    | some (n, _) => glideAbort n s
    | none => s
  let late := xpCycle i s ≤ s.cyc && (SMap.get (fun _ => none) s.mix.used i).isNone
  { s with mix := { s.mix with
      used := if late then SMap.set (fun _ => none) s.mix.used i (some now) else s.mix.used
      xp := SMap.set (fun _ => 0) s.mix.xp i w
      bad := SMap.set (fun _ => false) s.mix.bad i false } }

/-- A glide starts in slot `n` with its present registers and `t0`; another glide on its crosspoint ends, by slot number
where both start in one tick (R255, R256). -/
def glideStart (n t0 : Nat) (s : State) : State :=
  let i := xpIdx (s.fld (F.MIX_GL_XP_LANE n)) (s.fld (F.MIX_GL_XP_BUS n))
  let g0 := (xpNow i s).toInt
  let g : Glide := ⟨i, g0, s.int (F.MIX_GL_TGT_TARGET n), s.fld (F.MIX_GL_TIME_TIME n), t0⟩
  let go := fun (s : State) =>
    glideCount (((({ s with mix := { s.mix with glide := SMap.set (fun _ => none) s.mix.glide n (some g),
                                                armed := SMap.set (fun _ => false) s.mix.armed n false } }.setFld
      (F.MIX_GL_CTRL_ACTIVE n) 1).setFld (F.MIX_GL_CTRL_ARMED n) 0).setFld (F.MIX_GL_CTRL_REMAIN n) g.time))
  match glideOn i s with
  | some (m, o) =>
    if o.t0 = t0 ∧ n < m then (glideEnd n s).bump F.MIX_GLSTAT_ABORT_CNT F.MIX_GLSTAT_AB_SAT
    else go (glideAbort m s)
  | none => go s

/-- A write of GO (R255, R256). -/
def glideGo (n : Nat) (s : State) : State :=
  if 383 < s.fld (F.MIX_GL_XP_LANE n) ∨ 191 < s.fld (F.MIX_GL_XP_BUS n) then s.setFld (F.MIX_GL_CTRL_ERR n) 1
  else
    let s := (s.when (glideBusy n s) (glideAbort n)).setFld (F.MIX_GL_CTRL_ERR n) 0
    if s.on (F.MIX_GL_TIME_STAGED n) then
      { s with mix := { s.mix with armed := SMap.set (fun _ => false) s.mix.armed n true } }.setFld (F.MIX_GL_CTRL_ARMED n) 1
    else glideStart n s.tick s

/-- A write of STOP (R256). -/
def glideStop (n : Nat) (s : State) : State := s.when (glideBusy n s) (glideAbort n)

/-- The press starts the armed slots with t0 one tick before it (R255). -/
def glidePress (s : State) : State :=
  s.each 256 (fun n s => s.when (SMap.get (fun _ => false) s.mix.armed n) (glideStart n (s.tick - 1)))

/-- A glide that has applied its final step is over (R255). -/
def glideDone (n : Nat) (s : State) : State :=
  match s.glideOf n with
  | none => s
  | some g => if g.t0 + max 1 g.time < s.tick then (glideEnd n s).raise Pg.mix 3 else s

/-- The steps of this tick written to the crosspoint memory (R255). -/
def glideSteps (s : State) : State :=
  s.eachOf s.mix.glide (fun e s => match e.2 with
    | none => s
    | some g =>
      if s.tick ≤ g.t0 then s
      else
        let k := s.tick - g.t0
        let s := { s with mix := { s.mix with xp := SMap.set (fun _ => 0) s.mix.xp g.xp (BitVec.ofInt 32 (glideGain g k)) } }
        s.setFld (F.MIX_GL_CTRL_REMAIN e.1) (g.time - k))

/-- The scrubber reads 64 crosspoints in a tick and covers the 73,728 in 1,152 (R254). -/
def mixScrub (s : State) : State := { s with mix := { s.mix with scrub := (s.mix.scrub + 64) % 73728 } }

/-- Bus `b`. -/
def State.bus (s : State) (b : Nat) : BusSt := SMap.get (fun _ => {}) s.mix.bus b
def State.setBus (b : Nat) (x : BusSt) (s : State) : State :=
  { s with mix := { s.mix with bus := SMap.set (fun _ => {}) s.mix.bus b x } }

/-- MSTATE of a mute weight. -/
def busMstate (r : Ramp) : Nat := if r.up then (if rampRests r then 0 else 3) else if rampRests r then 2 else 1

/-- A write of MUTE: from the first computation that starts after it lands (R257). -/
def busMute (b : Nat) (on : Bool) (s : State) : State :=
  let x := s.bus b
  let k := mixRank b s
  let s := s.setOn (F.MIX_BUS_MUTE b) on
  if k ≠ 0 ∧ mixFirst k s ≤ s.cyc then s.setBus b { x with late := some on }
  else
    let w := rampGo (!on) (8 * s.fld (F.MIX_BUS_RAMP b)) x.w
    (s.setBus b { x with w := w }).setFld (F.MIX_BSTAT_MSTATE b) (busMstate w)

/-- The gain that the computation of this tick took at a crosspoint; 0 where it is damaged (R253, R254). -/
def xpUsed (i : Nat) (s : State) : Int :=
  if SMap.get (fun _ => false) s.mix.bad i then 0
  else match SMap.get (fun _ => none) s.mix.used i with
    | some w => w.toInt
    | none => (SMap.get (fun _ => (0 : Word)) s.mix.xp i).toInt

/-- The crosspoints of bus `b` that hold or held a gain. -/
def xpOfBus (b : Nat) (s : State) : List Nat :=
  let here := fun i => decide (384 * b ≤ i ∧ i < 384 * b + 384)
  let a := (s.mix.xp.map (·.1)).filter here
  a ++ ((s.mix.used.map (·.1)).filter here).filter (fun i => !a.contains i)

/-- The sum of a bus and the tag of its lanes (R251, R33, R30). -/
def busSum (b : Nat) (s : State) : Word × Bool :=
  let terms := (xpOfBus b s).map (fun i => (xpUsed i s, s.sink (0x400 + i % 384)))
  let terms := terms.filter (fun t => t.1 ≠ 0)
  let sum := terms.foldl (fun (a : Int) t => a + t.1 * sval t.2) 0
  let tag := terms.foldl (fun a t => a ||| stag t.2) 0
  let v := roundEven sum 27
  let clip := decide (2 ^ 27 - 1 < v) || decide (v < -(2 ^ 27))
  let hurt := s.mix.bad.any (fun e => e.2 && e.1 / 384 == b)
  (sample v (if hurt then tag ||| tSUB else tag), clip)

/-- A bus computes its value of the next tick (R251, R257-R259). -/
def busTick (b : Nat) (s : State) : State :=
  let (w, clip) := busSum b s
  let s := s.when clip (fun s => (s.bump (F.MIX_BSTAT_CLIP_CNT b) (F.MIX_BSTAT_CL_SAT b)).raise Pg.mix 0)
  let x := s.bus b
  let muted := !x.w.up && rampRests x.w
  let v := if muted then (0 : Word) else if x.w.up && rampRests x.w then w else addTag (weigh (rampWeight (rampStep x.w)) w) tFAD
  let w' := rampStep x.w
  let (y, e) := engineOut (0x400 + b) v (s.src (0x400 + b)) s.mix.eng
  let s := { s with mix := { s.mix with eng := e } }.produce (0x400 + b) y
  (s.setBus b { x with w := w' }).setFld (F.MIX_BSTAT_MSTATE b) (busMstate w')

/-- The end of a tick: writes that came too late for it count from the next (R253, R257). -/
def mixLate (s : State) : State :=
  let s := { s with mix := { s.mix with used := [] } }
  s.eachOf s.mix.bus (fun e s => match e.2.late with
    | none => s
    | some on =>
      let w := rampGo (!on) (8 * s.fld (F.MIX_BUS_RAMP e.1)) (s.bus e.1).w
      (s.setBus e.1 { w := w, late := none }).setFld (F.MIX_BSTAT_MSTATE e.1) (busMstate w))

/-- A crosspoint that a glide writes is good again (R254, R255). -/
def glideMend (s : State) : State :=
  s.eachOf s.mix.glide (fun e s => match e.2 with
    | some g => s.when (decide (g.t0 < s.tick)) (fun s =>
        { s with mix := { s.mix with bad := SMap.set (fun _ => false) s.mix.bad g.xp false } })
    | none => s)

/-- The mixer's work of a tick: glide steps, then every enabled bus in rank order. -/
def mixTick (s : State) : State :=
  let s := glideMend ((glideSteps s).eachOf (mixBuses s) busTick)
  mixLate { s with mix := { s.mix with eng := engineTick s.mix.eng } }

/-- In STANDBY the mixer is clock-gated: a glide resumes at its next step on return (R260). -/
def glideHold (s : State) : State :=
  let s := mixLate s
  { s with mix := { s.mix with glide := s.mix.glide.map (fun e => (e.1, e.2.map (fun g => { g with t0 := g.t0 + 1 }))) } }

/-- Crosspoints found damaged on the mixer's reads of this tick (R254): corrected ones count. -/
def mixErrors (bad : List Nat) (fixed : Nat) (s : State) : State :=
  let s := s.bumpBy fixed F.MIX_CNT_ECC_CNT F.MIX_CNT_ECC_SAT
  let s := { s with mix := { s.mix with bad := bad.foldl (fun m i => SMap.set (fun _ => false) m i true) s.mix.bad } }
  s.eachOf s.mix.bad (fun e s =>
    if e.2 && psAwake s && s.on (F.MIX_BUS_EN (e.1 / 384)) then
      ((s.post Adr.MIX_XPE (BitVec.ofNat 32 (e.1 % 384 * 256 + e.1 / 384))).report 0x4643 (e.1 / 384) 0).raise Pg.mix 2
    else s)

/-- MIX_STAT's guard fields. -/
def mixGuardShow (s : State) : State :=
  let e := s.mix.eng
  (s.setOn F.MIX_STAT_GUARD_ACT (engineGuarded e)).setFld F.MIX_STAT_GUARD_MAC (if engineGuarded e then e.bad.headD 0 % 16 else 0)

/-- A residue mismatch on MAC `j` (16: the guard) at cycle `c` (R258, R259). -/
def mixResidue (j c : Nat) (s : State) : State :=
  let hit := (mixBuses s).filter (fun b => decide (c ≤ mixFinish (mixRank b s) s))
  let (e, act) := engineFail j 16 s.mix.eng
  let s := { s with mix := { s.mix with eng := { e with held := hit.map (0x400 + ·) ++ e.held } } }
  let s := (mixGuardShow (s.bump F.MIX_CNT_RES_CNT F.MIX_CNT_RES_SAT)).report 0x5641 j (if act = .takeover then 1 else 2)
  match act with
  | .takeover => s.raise Pg.mix 1
  | .fault => s.report 0x5642 0 4
  | .none => s

/-- A write of RESTORE (R259). -/
def mixRestore (s : State) : State := if engineMayRestore s.mix.eng then s.startTest 0x19 0 0 else s

/-- The end of the mixer's test (R259). -/
def mixRestoreEnd (failed : List Nat) (s : State) : State :=
  let tested := s.mix.eng.bad
  let (e, _, _) := engineRestore failed 16 s.mix.eng
  let s := mixGuardShow { s with mix := { s.mix with eng := e } }
  s.eachOf (tested.filter (fun u => failed.contains u)) (fun u s => s.report 0x5641 u 0)

/-- The state of the MIX pages (R258, R259). -/
def mixPageState (s : State) : Nat := if s.mix.eng.faulted then 4 else if engineGuarded s.mix.eng then 3 else 2

/-- The enabled buses have changed: MIX_STAT's charge (R252); a bus out of use carries 0. -/
def mixPress (s : State) : State :=
  let n := (mixBuses s).length
  (s.setFld F.MIX_STAT_NBUS n).setFld F.MIX_STAT_CYC (if n = 0 then 0 else 48 + 24 * n)

/-- CROSSPOINT_WRITE. -/
def execCrosspointWrite (cyc : Fin 5120) (lane : Fin 384) (bus : Fin 192) (data : Word) (s : State) :
    Host.Outcome State Fault Refusal := s.heard (.next (xpWrite (xpIdx lane.val bus.val) data (s.land cyc.val)))

/-- GLIDE_GO. -/
def execGlideGo (cyc : Fin 5120) (n : Fin 256) (s : State) : Host.Outcome State Fault Refusal := s.heard (.next (glideGo n.val (s.land cyc.val)))

/-- GLIDE_STOP. -/
def execGlideStop (cyc : Fin 5120) (n : Fin 256) (s : State) : Host.Outcome State Fault Refusal := s.heard (.next (glideStop n.val (s.land cyc.val)))

/-- GLIDE_DONE. -/
def execGlideDone (n : Fin 256) (s : State) : Host.Outcome State Fault Refusal := s.ticking (.next (glideDone n.val s))

/-- BUS_MUTE. -/
def execBusMute (cyc : Fin 5120) (b : Fin 192) (s : State) : Host.Outcome State Fault Refusal :=
  s.heard (
    .next (busMute b.val true (s.land cyc.val)))

/-- BUS_UNMUTE. -/
def execBusUnmute (cyc : Fin 5120) (b : Fin 192) (s : State) : Host.Outcome State Fault Refusal :=
  s.heard (
    .next (busMute b.val false (s.land cyc.val)))

/-- MIX_RESIDUE. -/
def execMixResidue (mac : Fin 17) (cyc : Fin 5120) (s : State) : Host.Outcome State Fault Refusal :=
  s.ticking (
    .next (mixResidue mac.val cyc.val (s.land cyc.val)))

/-- MIX_RESTORE. -/
def execMixRestore (s : State) : Host.Outcome State Fault Refusal := s.heard (.next (mixRestore s))

end Sys2Proof.Machine
end

