-- ==== Sys2Proof/Machine/Src.lean ====
section
/-!
DEFINITION. Rate conversion: crossings with their buffers and counts, groups and their lock, channel binding, queue streams
(R222-R238). The values of the conversion filters are open functions of what the filters hold (log entry 3): the spec gives their
responses, not their coefficients; counts, tags and states are exact.
-/

namespace Sys2Proof.Machine

/-- Frame rate in Hz of a rate code (SAP_CFG.PRATE, SRC_QS.RATE, TXRATE). -/
def rateHz (c : Nat) : Nat :=
  if c = 0 then 48000 else if c = 1 then 96000 else if c = 2 then 192000 else if c = 3 then 32000
  else if c = 4 then 44100 else if c = 5 then 88200 else 176400

/-- The kind of a crossing in tick time at a rate code: direct, integer ratio or pinned. -/
def tickKind (c : Nat) : Nat := if c = 2 then 1 else if c = 1 then 2 else if c = 0 then 4 else 6

/-- The exact ratio of a pinned stream (R223). -/
def pinnedRatio (c : Nat) : Nat × Nat :=
  if c = 3 then (1, 6) else if c = 4 then (147, 640) else if c = 5 then (147, 320) else (147, 160)

/-- A crossing. -/
def State.xing (s : State) (k : Nat) : Xing := SMap.get (fun _ => {}) s.srcc.x k
def State.setXing (k : Nat) (x : Xing) (s : State) : State :=
  { s with srcc := { s.srcc with x := SMap.set (fun _ => {}) s.srcc.x k x } }

/-- Whether tick `m` starts with a frame boundary of an integer-ratio crossing (R184). -/
def xingBoundary (kind m : Nat) : Bool := kind == 1 || (kind == 2 && m % 2 == 0) || (kind == 4 && m % 4 == 0)

/-- Values marked T_UNS after a start (R224). -/
def xingUns (kind : Nat) : Nat := if kind = 2 then 16 else if kind = 4 then 32 else 0

/-- A crossing at its start: nominal ratio, ACQUIRE for a tracked one, locked for the others (R224, R227, R228). -/
def xingStart (kind num den : Nat) (slots : List Nat) : Xing :=
  { kind := kind, num := num, den := den, lstate := if kind = 5 then 1 else 2,
    uns := slots.foldl (fun m i => SMap.set (fun _ => 0) m i (xingUns kind)) [] }

/-- The fill a crossing aims at: 8 smp of frames (R225). -/
def xingTarget (x : Xing) : Nat := max 1 (ceilDiv (8 * x.num) x.den)

/-- A frame enters the filter (R225). -/
def xingFeed (f : List Word) (x : Xing) : Xing := { x with hist := (f :: x.hist).take 64, fed := x.fed + 1 }

/-- `n` frames taken out of the buffer; an empty one repeats the last frame as a substitute (R231). -/
def xingTake : Nat → Xing → List (List Word) × Bool × Xing
  | 0, x => ([], false, x)
  | n + 1, x =>
    match x.buf with
    | f :: t =>
      let (fs, e, x') := xingTake n (xingFeed f { x with buf := t, last := f, consumed := x.consumed + 1 })
      (f :: fs, e, x')
    | [] =>
      let f := x.last.map (fun w => addTag w tSUB)
      let (fs, _, x') := xingTake n (xingFeed f { x with subIn := x.subIn + 1, consumed := x.consumed + 1 })
      (f :: fs, true, x')

/-- The frames an inward crossing consumes in tick `m`, and whether its buffer ran empty. -/
def xingPull (m : Nat) (x : Xing) : List (List Word) × Bool × Xing :=
  if x.lstate = 0 ∨ x.lstate = 3 then ([], false, x)
  else if x.kind = 5 ∨ x.kind = 6 then
    let ready := x.primed || decide (xingTarget x ≤ x.buf.length)
    if !ready then ([], false, x)
    else
      let ph := x.phase + x.num
      xingTake (ph / x.den) { x with primed := true, phase := ph % x.den, adv := x.adv + ph / x.den, steps := x.steps + 1 }
  else if xingBoundary x.kind m && !x.buf.isEmpty then xingTake 1 { x with adv := x.adv + 1 }
  else ([], false, x)

/-- Silence: the read point moves to its target; the result tells whether it has reached it (R231). -/
def xingRecentre (x : Xing) : Bool × Xing :=
  let t := xingTarget x
  if t ≤ x.buf.length then
    let n := x.buf.length - t
    (true, { x with buf := x.buf.drop n, disc := x.disc + n, primed := true,
                    bad := (x.bad.filter (fun e => e.1 ≤ x.fed || x.fed + n < e.1)).map (fun e =>
                      if e.1 ≤ x.fed then e else (e.1 - n, e.2)) })
  else
    let ph := x.phase + x.num
    let k := if x.primed then ph / x.den else 0
    (false, { x with phase := if x.primed then ph % x.den else x.phase, subIn := x.subIn + k, consumed := x.consumed + k,
                     adv := x.adv + k, steps := if x.primed then x.steps + 1 else x.steps })

/-- A frame completed at the pins joins the buffer at the next boundary; with the buffer full it is discarded (R231). -/
def xingGive (f : List Word) (x : Xing) : Bool × Xing :=
  if 128 ≤ x.buf.length + x.inbox.length then (false, { x with wrReal := x.wrReal + 1, disc := x.disc + 1 })
  else (true, { x with inbox := x.inbox ++ [f], wrReal := x.wrReal + 1 })

/-- The frames completed in this tick join the buffer. -/
def xingSettle (x : Xing) : Xing := { x with buf := x.buf ++ x.inbox, inbox := [] }

/-- One tick of the T_UNS marks; damaged samples leave the filter. -/
def xingAge (x : Xing) : Xing :=
  { x with uns := (x.uns.map (fun e => (e.1, e.2 - 1))).filter (fun e => e.2 ≠ 0), bad := x.bad.filter (fun e => x.fed < e.1 + 64) }

/-- Frames of the filter's window: its 64 smp, in frames of an inward stream (R225). -/
def xingSpan (inward : Bool) (x : Xing) : Nat := if inward then max 1 (ceilDiv (64 * x.num) x.den) else 64

/-- The marks a crossing adds to a slot's values: T_UNS, and T_SUB while the window holds a damaged sample (R228, R236). -/
def xingMarks (inward : Bool) (x : Xing) (slot : Nat) : Nat :=
  (if x.lstate = 1 || SMap.get (fun _ => 0) x.uns slot != 0 then tUNS else 0)
    ||| (if x.bad.any (fun e => e.2 == slot && decide (e.1 ≤ x.fed ∧ x.fed < e.1 + xingSpan inward x)) then tSUB else 0)

/-- What the filter makes of the samples it holds at its ratio and phase (R224, R225; log entry 3). -/
def xingFilter (x : Xing) (slot tag : Nat) : Word :=
  sample (Config.real "rateConverter"
    ((x.kind : Int) :: (x.num : Int) :: (x.den : Int) :: (x.phase : Int) :: x.hist.map (fun f => sval (f.getD slot 0)))) tag

/-- A converted word with a tag: its value is free (log entry 1). -/
def freeSample (tag : Nat) (s : State) : Word × State := (sample (signed 29 s.freeW.toNat) tag, s.skipFree 1)

/-- A value of a converter engine passed on: withheld, ramped or live (R236, R145). `id` is the spine source, or 0x1000 plus
the sink of an outward channel. -/
def srcEngine (kind id : Nat) (w prev : Word) (s : State) : Word × State :=
  if kind = 1 then (w, s)
  else if kind = 5 ∨ kind = 6 then
    let (y, e) := engineOut id w prev s.srcc.engA
    (y, { s with srcc := { s.srcc with engA := e } })
  else
    let (y, e) := engineOut id w prev s.srcc.engI
    (y, { s with srcc := { s.srcc with engI := e } })

/-- The value of one inward channel: `fs` are the frames consumed in this tick (R33). -/
def xingValue (x : Xing) (slot id : Nat) (fs : List (List Word)) (s : State) : Word × State :=
  if x.kind = 1 then
    match fs with
    | f :: _ => (f.getD slot 0, s)
    | [] => freeSample 0 s
  else if x.lstate = 3 then (zeroTag tFAD, s)
  else
    let tag := fs.foldl (fun t f => t ||| stag (f.getD slot 0)) 0
    srcEngine x.kind id (xingFilter x slot (tag ||| xingMarks true x slot)) (s.src id) s

/-- The values of the slots that enter an outward filter in a tick, by slot. -/
def xingIns (ins : List (Nat × Nat)) (s : State) : List Word :=
  (List.range (ins.foldl (fun n i => max n (i.1 + 1)) 0)).map (fun k =>
    match ins.find? (fun i => i.1 == k) with
    | some i => s.sink i.2
    | none => 0)

/-- The frames an outward crossing makes in tick `m` from the values `ins` of its slots, by sink number (R33, R224); FAULTED, they are 0
with T_FAD (R228). -/
def xingMake (m : Nat) (ins : List (Nat × Nat)) (k : Nat) (s : State) : List (List Word) × State :=
  let x := s.xing k
  let frac := decide (x.kind = 5 ∨ x.kind = 6)
  let n := if x.lstate = 0 then 0 else if frac then (x.phase + x.num) / x.den
    else if xingBoundary x.kind (m + 1) then 1 else 0
  let x := xingFeed (xingIns ins s) { x with phase := if frac then (x.phase + x.num) % x.den else 0, adv := x.adv + n,
                                             steps := x.steps + 1, consumed := x.consumed + n }
  let frame := fun (s : State) =>
    ins.foldl (fun (acc : List Word × State) i =>
      let w := acc.2.sink i.2
      if x.lstate = 3 then (acc.1 ++ [zeroTag tFAD], acc.2)
      else if x.kind = 1 then (acc.1 ++ [w], acc.2)
      else
        let id := 0x1000 + i.2
        let last := SMap.get (fun _ => 0) (if frac then acc.2.srcc.engA else acc.2.srcc.engI).last id
        let (y, s) := srcEngine x.kind id (xingFilter x i.1 (stag w ||| xingMarks false x i.1)) last acc.2
        (acc.1 ++ [y], s)) ([], s)
  let s := s.setXing k (xingAge x)
  (List.range n).foldl (fun (acc : List (List Word) × State) _ =>
    let (f, s) := frame acc.2
    (acc.1 ++ [f], s)) ([], s)

/-- A receive or transmit side takes an event with FADE as it stands: fade-out over `len`, reversed from its weight in a ramp-in (R194). -/
def sideEvent (fade len : Nat) (d : Side) : Side :=
  if d.ph = 0 then { d with fade := fade, ph := 1, w := { pos := len, len := len, up := false } }
  else if d.ph = 3 then { d with ph := 1, w := { d.w with up := false } }
  else d

/-- The ramp-in of a side starts; with no length it runs at once (R194). -/
def sideRamp (len : Nat) (d : Side) : Side :=
  if len = 0 then { d with ph := 0, w := { pos := 0, len := 0, up := true }, logged := false }
  else { d with ph := 3, w := { pos := 0, len := len, up := true } }

/-- The side one value on. -/
def sideStep (d : Side) : Side := if d.ph = 1 ∨ d.ph = 3 then { d with w := rampStep d.w } else d

/-- The word a side lets through at its weight after `sideStep`; `d` is the side before it (R194). -/
def sideOut (d : Side) (w : Word) : Word :=
  if d.ph = 0 then w
  else if d.ph = 1 then addTag (weigh (rampWeight (rampStep d.w)) w) tFAD
  else if d.ph = 2 then zeroTag tFAD
  else if rampRests d.w then w else addTag (weigh (rampWeight (rampStep d.w)) w) tFAD

/-- The word of SRC_ACH of a user's channel, its lock apart: kind, unit, direction, slot, pinned. -/
def achWord (kind unit dir slot : Nat) (pinned : Bool) : Word :=
  BitVec.ofNat 32 (dir * 2 ^ 29 + (if pinned then 2 ^ 28 else 0) + kind * 2 ^ 24 + unit * 2 ^ 16 + slot * 2 ^ 11)

/-- The crossing a channel belongs to. -/
def achKey (w : Word) : Nat :=
  let unit := w.bits 23 16
  if w.bits 27 24 = 1 then (if w.bits 29 29 = 1 then 16 + unit else unit)
  else if w.bits 27 24 = 2 then 32 + unit else if w.bits 27 24 = 3 then 36 + unit else 40 + unit

/-- LSTATE and FILL of the channels of a crossing shown (R238). -/
def achShow (k : Nat) (s : State) : State :=
  let x := s.xing k
  s.each 320 (fun i s =>
    let w := s.word (Adr.SRC_ACH i)
    if w.bits 27 24 ≠ 0 ∧ achKey w = k then
      (s.setFld (F.SRC_ACH_LSTATE i) x.lstate).setInt (F.SRC_ACH_FILL i) x.err
    else s)

/-- The receive or transmit slots enabled on a SAP port. -/
def sapSlots (p : Nat) (tx : Bool) (s : State) : List Nat :=
  let m := if tx then s.fld (F.SAP_TX_MASK_TX_MASK p) else s.fld (F.SAP_RX_MASK_RX_MASK p)
  (List.range (s.fld (F.SAP_CFG_SLOTS p))).filter (fun k => m / 2 ^ k % 2 == 1)

/-- The asynchronous channels the live configuration needs, as SRC_ACH words without lock (R222, R235). -/
def srcUsers (s : State) : List Word :=
  (List.range 16).flatMap (fun p =>
    if s.fld (F.SAP_CFG_MODE p) = 0 then []
    else (sapSlots p false s).map (fun k => achWord 1 p 0 k false) ++ (sapSlots p true s).map (fun k => achWord 1 p 1 k false))
  ++ (List.range 4).flatMap (fun n => if s.on (F.SPDI_CFG_EN n) then [achWord 2 n 0 0 false, achWord 2 n 0 1 false] else [])
  ++ (List.range 4).flatMap (fun n =>
    if s.fld F.SPDO_CFG_EN / 2 ^ n % 2 = 1 ∧ tickKind (s.fld F.SPDO_CFG_TXRATE) = 6 then
      [achWord 3 n 1 0 true, achWord 3 n 1 1 true] else [])
  ++ (List.range 32).flatMap (fun k =>
    if tickKind (s.fld (F.SRC_QS_RATE k)) = 6 then
      (List.range (s.fld (F.SRC_QS_CHANS k))).map (fun c => achWord 4 k (s.fld (F.SRC_QS_DIR k)) c true) else [])

/-- The integer-ratio channels the live configuration needs, each with its ratio, as SRC_ACH words without lock (R222, R235). -/
def srcIntUsers (s : State) : List (Nat × Word) :=
  let ratio := fun (code : Nat) => if code = 1 then 2 else if code = 0 then 4 else 0
  let all := (List.range 16).flatMap (fun p =>
      let r := if s.fld (F.SAP_CFG_MODE p) = 0 then ratio (s.fld (F.SAP_CFG_PRATE p)) else 0
      (sapSlots p false s).map (fun k => (r, achWord 1 p 0 k false)) ++ (sapSlots p true s).map (fun k => (r, achWord 1 p 1 k false)))
    ++ (List.range 4).flatMap (fun n =>
      let r := if s.fld F.SPDO_CFG_EN / 2 ^ n % 2 = 1 then ratio (s.fld F.SPDO_CFG_TXRATE) else 0
      [(r, achWord 3 n 1 0 false), (r, achWord 3 n 1 1 false)])
    ++ (List.range 32).flatMap (fun k =>
      (List.range (s.fld (F.SRC_QS_CHANS k))).map (fun c => (ratio (s.fld (F.SRC_QS_RATE k)), achWord 4 k (s.fld (F.SRC_QS_DIR k)) c false)))
  all.filter (fun e => e.1 ≠ 0)

/-- How many of them there are at ratio 2 and at ratio 4 (R234). -/
def srcInt (s : State) : Nat × Nat :=
  let l := srcIntUsers s
  ((l.filter (fun e => e.1 = 2)).length, (l.filter (fun e => e.1 = 4)).length)

/-- Cycles charged to the two engines (R234). -/
def srcAsyncCyc (s : State) : Nat := 16 * (srcUsers s).length
def srcIntCyc (s : State) : Nat := 4 * (srcInt s).1 + 5 * (srcInt s).2

/-- The user part of a channel word. -/
def achUser (w : Word) : Word := w &&& Word.mask 29 11

/-- The lowest channel number below `n` that no entry of a map has. -/
def lowestFree (n : Nat) (m : SMap Word) : Option Nat := (List.range n).find? (fun i => !(m.any (fun e => e.1 == i)))

/-- Integer-ratio channels bound at a press: unchanged users keep theirs, new ones take the lowest free indices (R235). -/
def srcBindInt (s : State) : State :=
  let want := (srcIntUsers s).map (·.2)
  let kept := s.srcc.int.filter (fun e => want.contains e.2)
  let bound := want.foldl (fun m u =>
    if m.any (fun e => e.2 == u) then m
    else match lowestFree 1024 m with
      | some i => SMap.set (fun _ => 0) m i u
      | none => m) kept
  { s with srcc := { s.srcc with int := bound } }

/-- Channels bound at a press: unchanged users keep theirs, new ones take the lowest free indices (R230, R235). -/
def srcBind (s : State) : State :=
  let want := srcUsers s
  let s := s.each 320 (fun i s =>
    let w := s.word (Adr.SRC_ACH i)
    if w.bits 27 24 ≠ 0 ∧ !want.contains (achUser w) then s.setWord (Adr.SRC_ACH i) 0 else s)
  let s := s.eachOf want (fun u s =>
    let idx := List.range 320
    if idx.any (fun i => let w := s.word (Adr.SRC_ACH i); w.bits 27 24 != 0 && achUser w == u) then s
    else match idx.find? (fun i => (s.word (Adr.SRC_ACH i)).bits 27 24 == 0) with
      | none => s
      | some i =>
        let k := achKey u
        let x := s.xing k
        let late := x.lstate = 2 && x.kind = 5
        let s := s.when late (State.setXing k { x with uns := SMap.set (fun _ => 0) x.uns (u.bits 15 11) 64 })
        s.setWord (Adr.SRC_ACH i) (u.put 31 30 x.lstate))
  let int := srcInt s
  let s := srcBindInt s
  (((s.setFld F.SRC_LOAD_ASYNC_USED want.length).setFld F.SRC_LOAD_INT_USED (int.1 + int.2)).setFld F.SRC_CYC_ASYNC_CYC
    (srcAsyncCyc s)).setFld F.SRC_CYC_INT_CYC (srcIntCyc s)

/-- The estimate that follows a measured ratio at the bandwidth of the state: 20 Hz in ACQUIRE, TRACK_BW in LOCKED (R228; log entry 3). -/
def ratioEstimate (k ratio : Nat) (s : State) : Nat :=
  let x := s.xing k
  if x.num = ratio then ratio
  else (Config.real "ratioEstimate" [if x.lstate = 1 then 3 else (s.fld F.SRC_CFG_TRACK_BW : Int), (x.num : Int), (ratio : Int)]).toNat % 2 ^ 23

/-- One update of a group's ratio and state from the ratio its frame edges gave over 64 ticks; `err` is the read point less its target in
1/64 smp (R227, R228). -/
def ratioUpdate (k ratio : Nat) (err : Int) (s : State) : State :=
  let x := s.xing k
  if x.kind ≠ 5 ∨ (x.lstate ≠ 1 ∧ x.lstate ≠ 2) ∨ s.tick % 64 ≠ 0 then s
  else
    let near := decide (err.natAbs ≤ 16)
    let far := decide (128 < err.natAbs)
    let good := if near then min 16 (x.goodRun + 1) else 0
    let off := if far then x.offRun + 1 else 0
    let ratio := ratioEstimate k ratio s
    let x := { x with num := ratio, den := 2 ^ 22, err := err, goodRun := good, offRun := min 2 off }
    let lost := x.lstate = 2 && off ≥ 2
    let lst := if x.lstate = 1 then (if good = 16 then 2 else 1) else if lost then 1 else 2
    let x := if lst ≠ x.lstate then { x with lstate := lst, goodRun := 0, offRun := 0 } else x
    let s := (s.setXing k x).when lost (fun s => (s.bump F.SRC_CNT2_UNLOCK_CNT F.SRC_CNT2_UL_SAT).raise Pg.src 0)
    let s := achShow k s
    let p := s.word (Adr.SRC_ACH (s.fld F.SRC_PROBE_PCH % 320))
    s.when (p.bits 27 24 != 0 && achKey p == k) (State.post Adr.SRC_RATIO (BitVec.ofNat 32 (ratio % 2 ^ 23)))

/-- A pinned or free channel under probe posts its ratio every 64 ticks (R238). -/
def srcProbe (s : State) : State :=
  if s.tick % 64 ≠ 0 ∨ 320 ≤ s.fld F.SRC_PROBE_PCH then s
  else
    let p := s.word (Adr.SRC_ACH (s.fld F.SRC_PROBE_PCH))
    let x := s.xing (achKey p)
    if p.bits 27 24 = 0 then s.post Adr.SRC_RATIO 0
    else if x.kind = 5 then s
    else s.post Adr.SRC_RATIO (BitVec.ofNat 32 (x.num * 2 ^ 22 / x.den % 2 ^ 23))

/-- Whether the counts of a crossing agree (R232): the buffer's equation where there is an input buffer, the phase accumulator's integer
advance, and the exact rational count of a pinned channel; the boundaries of an integer-ratio channel. -/
def xingChecked (k : Nat) (x : Xing) : Bool :=
  let queue := decide (x.kind = 5 ∧ (k < 16 ∨ (32 ≤ k ∧ k < 36)))
  (!queue || (x.wrReal + x.subIn) % 2 ^ 32 == (x.consumed + x.disc + x.buf.length + x.inbox.length) % 2 ^ 32)
    && x.adv % 2 ^ 32 == x.consumed % 2 ^ 32 && (x.kind != 6 || x.consumed * x.den + x.phase == x.steps * x.num)

/-- A count of a crossing that has slipped by one. -/
def xingSlip (k : Nat) (s : State) : State :=
  let x := s.xing k
  if x.kind = 0 ∨ x.kind = 1 then s else s.setXing k { x with consumed := x.consumed + 1 }

/-- The lowest channel of a crossing; bit 15 set for an integer-ratio one (R237). -/
def srcChannel (k : Nat) (s : State) : Nat :=
  match (List.range 320).find? (fun i => (s.word (Adr.SRC_ACH i)).bits 27 24 != 0 && achKey (s.word (Adr.SRC_ACH i)) == k) with
  | some i => i
  | none => match s.srcc.int.find? (fun e => achKey e.2 == k) with
    | some e => e.1 + 0x8000
    | none => 0

/-- A failed count check of a crossing: its group, or its channel, is FAULTED (R232). -/
def srcConserve (k : Nat) (s : State) : State :=
  let s := achShow k (s.setXing k { s.xing k with lstate := 3 })
  ((s.bump F.SRC_CNT2_CONS_CNT F.SRC_CNT2_CS_SAT).report 0x45C3 (srcChannel k s) 4).raise Pg.src 1

/-- A word `age` places from the oldest of a channel's input buffer found damaged: corrected and counted, or read as 0, with T_SUB on every
value whose window holds it (R236). The buffer of an outward channel holds values at Fi. -/
def srcBufEcc (chan age : Nat) (fatal : Bool) (s : State) : State :=
  if !fatal then s.bump F.SRC_CNT1_ECC_CNT F.SRC_CNT1_ECC_SAT
  else
    let w := s.word (Adr.SRC_ACH (chan % 320))
    let k := achKey w
    let slot := w.bits 15 11
    let x := s.xing k
    let x := if w.bits 29 29 = 0 then
        { x with buf := x.buf.modify age (fun f => f.set slot 0), bad := x.bad ++ [(x.fed + age + 1, slot)] }
      else { x with hist := x.hist.modify (63 - age) (fun f => f.set slot 0), bad := x.bad ++ [(x.fed - (63 - age), slot)] }
    (s.when (w.bits 27 24 != 0) (State.setXing k x)).report 0x45C2 chan 0

/-- Queue stream `k`. -/
def State.qst (s : State) (k : Nat) : QsSt := SMap.get (fun _ => {}) s.srcc.qs k
def State.setQst (k : Nat) (x : QsSt) (s : State) : State :=
  { s with srcc := { s.srcc with qs := SMap.set (fun _ => {}) s.srcc.qs k x } }

/-- Frames a queue stream's phase needs in tick `m`. -/
def qsNeed (m : Nat) (x : Xing) : Nat :=
  if x.kind = 6 then (x.phase + x.num) / x.den else if xingBoundary x.kind m then 1 else 0

/-- A read frame as words; a replayed or damaged signature marks T_SUB (R32). -/
def qsFrames (c : Nat) (ws : List (Word × Bool)) : List (List Word) :=
  (List.range (ws.length / c)).map (fun i => ((ws.drop (i * c)).take c).map (fun e => if e.2 then addTag e.1 tSUB else e.1))

/-- Frames read from the queue enter the crossing. -/
def qsFeed (n : Nat) (fs : List (List Word)) (x : Xing) : Xing :=
  let x := fs.foldl (fun x f => xingFeed f x) x
  { x with phase := if x.kind = 6 then (x.phase + x.num) % x.den else 0, adv := x.adv + n, steps := x.steps + 1,
           wrReal := x.wrReal + n, consumed := x.consumed + n, last := fs.getLastD x.last }

/-- Where an inward stream stands before it reads: silence ends with 16 frames queued, a ramp-in at its end; a FAULTED one fades out and
stays silent (R232, R233). -/
def qsSide (k : Nat) (s : State) : Side :=
  let d := (s.qst k).side
  let fade := s.fld (F.SRC_QS_FADE k)
  if (s.xing (40 + k)).lstate = 3 then sideEvent fade (8 * fade) d
  else if d.ph = 2 && decide (64 * s.fld (F.SRC_QS_CHANS k) ≤ qBytes s (s.fld (F.SRC_QS_QID k))) then sideRamp (8 * d.fade) d
  else if d.ph = 3 && rampRests d.w then { d with ph := 0, logged := false } else d

/-- A fade-out at its end is silence. -/
def sideFaded (d : Side) : Side := if d.ph = 1 ∧ rampRests d.w then { d with ph := 2 } else d

/-- An inward stream's tick (R233): without a frame the last values are held with T_SUB. QS_UNDER counts the episodes. -/
def qsIn (k : Nat) (s : State) : State :=
  let c := s.fld (F.SRC_QS_CHANS k)
  let q := s.fld (F.SRC_QS_QID k)
  let x := s.xing (40 + k)
  let d := s.qst k
  let fade := s.fld (F.SRC_QS_FADE k)
  let side := qsSide k s
  let reads := side.ph = 0 || side.ph = 3
  let n := qsNeed s.tick x
  let dry := reads && n != 0 && decide (qBytes s q < 4 * c * n)
  let s := s.when (dry && !side.logged) (fun s =>
    ((s.bump (F.SRC_QST_QS_UNDER k) (F.SRC_QST_QU_SAT k)).raise Pg.src 2).report 0x45C4 k 0)
  let side := if dry then { sideEvent fade (8 * fade) side with logged := true } else side
  let live := reads && !dry
  let (fs, x, s) := if live then
      let (ws, s) := qReadWords q (c * n) s
      let fs := qsFrames c ws
      (fs, qsFeed n fs x, s)
    else ([], x, s)
  let s := (s.setXing (40 + k) (xingAge x)).setQst k { d with side := sideFaded (sideStep side) }
  s.each c (fun i s =>
    let id := 0x300 + 8 * k + i
    let y := s.qst k
    if !live then s.produce id (sideOut side (addTag (SMap.get (fun _ => 0) y.held i) tSUB))
    else
      let (w, s) := xingValue x i id fs s
      (s.produce id (sideOut side w)).setQst k { y with held := SMap.set (fun _ => 0) y.held i w })

/-- The producer that an outward stream is (R405). -/
def qsProd (k : Nat) : Prod := ⟨1, 1, k⟩

/-- A frame of an outward stream is written into a cell in its tick; 64 make a signature, and one that finds its queue full is discarded
whole (R61, R233). -/
def qsFrameOut (k : Nat) (f : List Word) (s : State) : State :=
  let d := s.qst k
  let q := s.fld (F.SRC_QS_QID k)
  let last := decide (63 ≤ d.got)
  let gone := d.got != 0 && !d.lost && (qOpenOf (s.queue q) (qsProd k)).isNone
  let (s, ok) := if d.lost || gone then (s.when last (qClose q (qsProd k) 0), false)
    else qWrite q (qsProd k) (if last then some 0 else none) f s
  let s := s.setQst k { d with got := if last then 0 else d.got + 1, lost := !last && !ok, run := if last then !ok else d.run }
  if ok || d.lost then s
  else ((s.bump (F.SRC_QST_QS_OVR k) (F.SRC_QST_QO_SAT k)).raise Pg.src 2).when (!d.run) (State.report 0x45C4 k 0)

/-- What an outward stream has written is discarded, or ended where it is linked, as its descriptor is rewritten (R404). -/
def qsStop (k q : Nat) (s : State) : State :=
  let s := qCancel q (qsProd k) false s
  s.when ((s.queue q).ended.contains (qsProd k)) (qClose q (qsProd k) 0)

/-- An outward stream's tick (R61, R233). -/
def qsOutward (k : Nat) (s : State) : State :=
  let c := s.fld (F.SRC_QS_CHANS k)
  let (fs, s) := xingMake s.tick ((List.range c).map (fun i => (i, 0x300 + 8 * k + i))) (40 + k) s
  s.eachOf fs (qsFrameOut k)

/-- The tick of every queue stream. -/
def qsTick (s : State) : State :=
  s.each 32 (fun k s =>
    if s.fld (F.SRC_QS_CHANS k) = 0 then s
    else if s.on (F.SRC_QS_DIR k) then qsOutward k s else qsIn k s)

/-- A rewritten stream descriptor starts its stream afresh (R232, R233). -/
def qsPress (old s : State) : State :=
  s.each 32 (fun k s =>
    if old.word (Adr.SRC_QS k) = s.word (Adr.SRC_QS k) then s
    else
      let code := s.fld (F.SRC_QS_RATE k)
      let c := s.fld (F.SRC_QS_CHANS k)
      let (n, d) := if tickKind code = 6 then pinnedRatio code else (1, 1)
      let x : Xing := if c = 0 then {} else xingStart (tickKind code) n d (List.range c)
      let q := old.fld (F.SRC_QS_QID k)
      let s := s.when (old.on (F.SRC_QS_DIR k)) (qsStop k q)
      (s.setXing (40 + k) x).setQst k { side := { ph := 0, fade := s.fld (F.SRC_QS_FADE k), w := { pos := 0, len := 0, up := true } } })

/-- While the tick slews, every group's estimate follows it (R229); the slew of a tick is SLEW_RATE's (R71; log entry 3). -/
def srcSlew (s : State) : State :=
  if !s.on F.CLK_STATUS_SLEWING then s
  else s.each 36 (fun k s =>
    let x := s.xing k
    s.when (x.kind == 5 && (x.lstate == 1 || x.lstate == 2)) (State.setXing k
      { x with num := ((x.num : Int) + Config.real "tickSlew" [(s.fld F.CLK_REF_CFG_SLEW_RATE : Int), (x.num : Int), (s.tick : Int)]).toNat % 2 ^ 23 }))

/-- The engines of the tick. -/
def srcTick (s : State) : State :=
  let s := srcSlew s
  { s with srcc := { s.srcc with engA := engineTick s.srcc.engA, engI := engineTick s.srcc.engI } }

/-- A residue mismatch on a converter MAC (R236, R145): `id` is the source, or 0x1000 plus the sink, of the value withheld. -/
def srcResidue (int : Bool) (mac chan id : Nat) (s : State) : State :=
  let g := if int then s.srcc.engI else s.srcc.engA
  let (e, act) := engineFail mac 16 g
  let e := { e with held := id :: e.held }
  let s := { s with srcc := if int then { s.srcc with engI := e } else { s.srcc with engA := e } }
  let s := s.when (decide (id < 0x1000)) (State.produce id (addTag (s.src id) tSUB))
  (s.bump F.SRC_CNT1_RES_CNT F.SRC_CNT1_RES_SAT).report 0x55C1 (chan + (if int then 0x8000 else 0))
    (if act = .takeover then 1 else 4)

/-- The state of the SRC page (R236). -/
def srcPageState (s : State) : Nat :=
  let a := s.srcc.engA
  let i := s.srcc.engI
  if a.faulted || i.faulted then 4 else if engineGuarded a || engineGuarded i then 3 else 2

/-- RATIO_UPDATE. -/
def execRatioUpdate (group : Fin 36) (ratio : Fin 8388608) (err : Int) (s : State) : Host.Outcome State Fault Refusal :=
  s.ticking (
    .next (ratioUpdate group.val ratio.val err s))

/-- SRC_RESIDUE. -/
def execSrcResidue (int : Bool) (mac : Fin 9) (chan : Fin 1024) (id : Fin 8192) (s : State) :
    Host.Outcome State Fault Refusal := s.ticking (.next (srcResidue int mac.val chan.val id.val s))

end Sys2Proof.Machine
end

