-- ==== Sys2Proof/Machine/Fx.lean ====
section
/-!
DEFINITION. Effects engines: biquads, dynamics, delay lines and taps, convolution, shapers, oscillators, the effect pool
(R263-R293). What the spec gives as arithmetic is exact here; decibels, one-poles, sines, shaper filters and the
rounding noise of a long convolution's floating-point tail are open (log entry 3).
-/

namespace Sys2Proof.Machine

/-- Engines of R291: 0 biquad, 1 dynamics, 2 delay, 3 convolution head, 4 convolution partitions, 5 shapers. -/
def State.fxEng (s : State) (e : Nat) : Engine := SMap.get (fun _ => {}) s.fx.eng e
def State.setFxEng (e : Nat) (x : Engine) (s : State) : State :=
  { s with fx := { s.fx with eng := SMap.set (fun _ => {}) s.fx.eng e x } }

/-- A node's value of the next tick through its engine. -/
def fxPut (e src : Nat) (w : Word) (s : State) : State :=
  let (y, g) := engineOut src w (s.src src) (s.fxEng e)
  (s.setFxEng e g).produce src y

/-- Whether a node's value is withheld in this tick, so that its recursive state stays (R288). -/
def fxHeld (e src : Nat) (s : State) : Bool := (s.fxEng e).held.contains src

/-- A word of the effect pool; a damaged quire reads as zero (R37). -/
def poolWord (i : Nat) (s : State) : Word :=
  if SMap.get (fun _ => false) s.fx.poolBad (i / 4) then 0 else SMap.get (fun _ => 0) s.fx.pool i

/-- Whether a pool quire is damaged. -/
def poolHurt (i : Nat) (s : State) : Bool := SMap.get (fun _ => false) s.fx.poolBad (i / 4)

/-- Whether a damaged pool quire lies among `n` words from word `i` on. -/
def poolHurtIn (i n : Nat) (s : State) : Bool := s.fx.poolBad.any (fun e => e.2 && decide (i < 4 * e.1 + 4 ∧ 4 * e.1 < i + n))

/-- Two outputs crossfaded by the weight of the incoming one. -/
def crossfade (w : Nat) (new old : Word) : Word :=
  sample (roundEven (sval new * w + sval old * (2 ^ 27 - w : Nat)) 27) (stag new ||| stag old)

/-- A swap: the crossfade starts, or reverses from its weight (R141). -/
def xfSwap (len : Nat) (x : NodeXf) : NodeXf :=
  if x.on && !rampRests x.xf then { on := true, xf := { pos := x.xf.len - x.xf.pos, len := x.xf.len, up := true } }
  else { on := true, xf := { pos := 0, len := len, up := true } }

/-- Biquad node `n`: its crossfade, and its live bank. -/
def State.bqXf (s : State) (n : Nat) : NodeXf := SMap.get (fun _ => {}) s.fx.bq n
def bqLive (n : Nat) (s : State) : Nat := s.fld (F.BQ_STAT_LIVE_BANK n)

/-- Whether a node is enabled (R264, R270). -/
def bqOn (n : Nat) (s : State) : Bool := s.on (F.BQ_BANK_NSEC n (bqLive n s)) || (s.bqXf n).on
def dynOn (p : Nat) (s : State) : Bool := s.on (F.DYN_CFG_MODE p)
def dlOn (k : Nat) (s : State) : Bool := s.on (F.DL_CFG_EN k)
def tapOn (t : Nat) (s : State) : Bool := s.on (F.TAP_CFG_EN t) && dlOn (s.fld (F.TAP_CFG_LINE t)) s
def State.conv (s : State) (c : Nat) : ConvSt := SMap.get (fun _ => {}) s.fx.conv c
def State.setConv (c : Nat) (x : ConvSt) (s : State) : State :=
  { s with fx := { s.fx with conv := SMap.set (fun _ => {}) s.fx.conv c x } }
def convLive (c : Nat) (s : State) : Nat := s.fld (F.CV_STAT_FX_LIVE c)
def convOn (c : Nat) (s : State) : Bool := s.on (F.CV_SET_LEN c (convLive c s)) || (s.conv c).xf.on
def shOn (h : Nat) (s : State) : Bool := s.on (F.SH_CFG_EN h)
def State.shaper (s : State) (h : Nat) : ShapeSt := SMap.get (fun _ => {}) s.fx.sh h
def State.setShaper (h : Nat) (x : ShapeSt) (s : State) : State :=
  { s with fx := { s.fx with sh := SMap.set (fun _ => {}) s.fx.sh h x } }

/-- Range of a section value in units of 2^-35 (R268). -/
def sectMax : Int := 2 ^ 39 - 1
def sectMin : Int := -(2 ^ 39)

/-- One section, direct form I: output, new state, saturation, and whether its coefficients were damaged (R268, R269). -/
def sectRun (sec bank : Nat) (x : Int) (s : State) : Int × List Int × Bool × Bool :=
  let base := 2 ^ 19 + 16 * sec + 8 * bank
  let co := fun (j : Nat) => (poolWord (base + j) s).toInt
  let st := SMap.get (fun _ => []) s.fx.sect (2 * sec + bank)
  let x1 := st.getD 0 0
  let x2 := st.getD 1 0
  let y1 := st.getD 2 0
  let y2 := st.getD 3 0
  let acc := co 0 * x + co 1 * x1 + co 2 * x2 - co 3 * y1 - co 4 * y2
  let r := roundEven acc 29
  let y := clampInt sectMin sectMax r
  (y, [x, x1, y, y1], y != r, poolHurt base s || poolHurt (base + 4) s)

/-- The cascade of a node bank: value in 2^-35, new section states, saturation and damage. -/
def cascade (n bank : Nat) (x : Int) (s : State) : Int × List (Nat × List Int) × Bool × Bool :=
  let first := s.fld (F.BQ_BANK_FIRST n bank)
  (List.range (s.fld (F.BQ_BANK_NSEC n bank))).foldl (fun acc i =>
    let (y, st, c, h) := sectRun (first + i) bank acc.1 s
    (y, acc.2.1 ++ [(2 * (first + i) + bank, st)], acc.2.2.1 || c, acc.2.2.2 || h)) (x, [], false, false)

/-- Section states written back. -/
def sectSave (l : List (Nat × List Int)) (s : State) : State :=
  { s with fx := { s.fx with sect := l.foldl (fun m e => SMap.set (fun _ => []) m e.1 e.2) s.fx.sect } }

/-- A biquad node's tick (R268, R270). -/
def bqTick (n : Nat) (s : State) : State :=
  let src := 0x500 + n
  let live := bqLive n s
  let xf := s.bqXf n
  let w := s.sink (0x600 + n)
  let x := sval w * 256
  let off := fun (b : Nat) => s.fld (F.BQ_BANK_NSEC n b) == 0
  let run := fun (b : Nat) =>
    let (y, st, c, h) := cascade n b x s
    let o := if off b then (0 : Word) else sample (roundEven y 8) (stag w ||| (if c then tCLP else 0) ||| (if h then tSUB else 0))
    (o, st, !off b && (c || sval o != roundEven y 8))
  let (a, stA, cA) := run live
  let fading := xf.on && !rampRests xf.xf
  let (b, stB, cB) := if fading then run (1 - live) else (a, [], false)
  let xf' := { xf with xf := rampStep xf.xf }
  let y := if fading then crossfade (rampWeight xf'.xf) a b else a
  let y := if off live && !fading then (0 : Word) else y
  let s := s.when (cA || cB) (State.bump (F.BQ_STAT_CLIP_CNT n) (F.BQ_STAT_CL_SAT n))
  let s := if fxHeld 0 src s then s else sectSave (stA ++ stB) s
  let s := { s with fx := { s.fx with bq := SMap.set (fun _ => {}) s.fx.bq n (if xf.on then xf' else xf) } }
  fxPut 0 src y s

/-- Dynamics processor `p`. -/
def State.dyn (s : State) (p : Nat) : DynSt := SMap.get (fun _ => {}) s.fx.dyn p
def State.setDyn (p : Nat) (x : DynSt) (s : State) : State :=
  { s with fx := { s.fx with dyn := SMap.set (fun _ => {}) s.fx.dyn p x } }

/-- Gain 0 in the decibel scale of this file. -/
def dbZero : Int := -(2 ^ 40)

/-- The linear gain, in units of 2^-27, of a gain in 1/655360 dB: exact for 0 dB and for gain 0, else open. -/
def dbGain (g : Int) : Int := if g = 0 then 2 ^ 27 else if g ≤ dbZero then 0 else Config.real "gainOfDb" [g]

/-- The detected level of a processor in 1/655360 dBFS (R271): of its own input or the input named by KEY. -/
def dynLevel (p : Nat) (s : State) : Int :=
  let key := s.fld (F.DYN_CFG_KEY p)
  let k := if key = 0 then p else key - 1
  let h := s.sink (0x680 + k) :: (s.dyn k).hist
  if s.on (F.DYN_CFG_DET p) then
    Config.real "rmsDb" [((h.take 64).map (fun w => sval w * sval w)).foldl (· + ·) 0]
  else Config.real "peakDb" [((sval (h.headD 0)).natAbs : Int)]

/-- A parameter field of a processor as its computation of this tick takes it (R275). -/
def dynPar (f : Fld) (s : State) : Nat :=
  match SMap.get (fun _ => none) s.fx.used f.addr with
  | some w => w.bits f.hi f.lo
  | none => s.fld f

/-- The curve below and above the threshold `d` dB away, and within a knee `w` wide, of slope `num / den` (R272), to the nearest
1/655360 dB. -/
def kneeCurve (d w num den : Int) : Int :=
  if 2 * d ≤ -w then 0 else if w ≤ 2 * d then -(roundRat (d * num) den) else -(roundRat (num * (2 * d + w) ^ 2) (8 * w * den))

/-- The target gain of a processor at level `l` (R272). -/
def dynTarget (p : Nat) (l : Int) (s : State) : Int :=
  let m := s.fld (F.DYN_CFG_MODE p)
  let t := signed 16 (dynPar (F.DYN_THR_THRESH p) s) * 65536
  let w : Int := dynPar (F.DYN_THR_KNEE p) s * 655360
  let r : Int := (max 16 (dynPar (F.DYN_THR_RATIO p) s) : Nat)
  let d := l - t
  if m = 4 then (if 0 ≤ d then 0 else dbZero)
  else if m = 3 then max (-120 * 655360) (kneeCurve (-d) w (r - 16) 16)
  else if m = 2 then kneeCurve d w 1 1
  else kneeCurve d w (r - 16) r

/-- A gain one sample nearer to its target through a one-pole of `n` smp, or the attack line; it stays between the two (log entry 3). -/
def dynStep (name : String) (g target n : Int) : Int := clampInt (min g target) (max g target) (Config.real name [g, target, n])

/-- A processor's smoothed gain one sample on (R272). In limit mode it has reached a target ATTACK smp after it arose (R274). -/
def dynSmooth (p : Nat) (target : Int) (s : State) : Int :=
  let x := s.dyn p
  let g := x.gain
  let a := dynPar (F.DYN_TIME_ATTACK p) s
  let r := dynPar (F.DYN_TIME_RELEASE p) s
  let limit := s.fld (F.DYN_CFG_MODE p) == 2
  let line := fun (v : Int) => if limit && decide (1 ≤ a ∧ a ≤ 64) then min v ((target :: x.goals).getD (a - 1) 0) else v
  if target = g then g
  else if target < g then
    (if a = 0 then target
     else if limit then line (dynStep "attackLine" g target (a : Int))
     else dynStep "onePole" g target (a : Int))
  else if r = 0 then line target else line (dynStep "onePole" g target ((16 * r : Nat) : Int))

/-- Make-up in 1/655360 dB as a field gives it, within ±24 dB. -/
def mkOf (p : Nat) (s : State) : Int := clampInt (-240) 240 (s.int (F.DYN_GAIN_MAKEUP p)) * 65536

/-- The make-up gain in use: it moves linearly over 64 smp (R275). -/
def mkNow (x : DynSt) (tick : Nat) : Int :=
  let k := min 64 (tick - x.mkT0)
  x.mkFrom + (x.mkTo - x.mkFrom) * k / 64

/-- A write of MAKEUP (R275). -/
def mkWrite (p : Nat) (s : State) : State :=
  let x := s.dyn p
  if x.mkTo = mkOf p s then s
  else s.setDyn p { x with mkFrom := mkNow x s.tick, mkTo := mkOf p s, mkT0 := s.tick }

/-- The members of a processor's group, in rising order (R273). -/
def dynGroup (p : Nat) (s : State) : List Nat :=
  let l := s.fld (F.DYN_CFG_LINK p)
  if l = 0 then [p] else (List.range 128).filter (fun q => dynOn q s && s.fld (F.DYN_CFG_LINK q) == l)

/-- The inputs of this tick stored by every processor whose input consumes (R264, R271, R288). -/
def dynFeed (s : State) : State :=
  let keys := (List.range 128).filterMap (fun p =>
    let k := s.fld (F.DYN_CFG_KEY p)
    if dynOn p s && k != 0 then some (k - 1) else none)
  s.each 128 (fun p s =>
    if (dynOn p s || keys.contains p) && !fxHeld 1 (0x580 + p) s then
      s.setDyn p { s.dyn p with hist := (s.sink (0x680 + p) :: (s.dyn p).hist).take 64 }
    else s)

/-- A group's tick (R271-R273). -/
def dynTick (p : Nat) (s : State) : State :=
  let g := dynGroup p s
  let aims := g.map (fun q => (q, dynTarget q (dynLevel q s) s))
  let next := aims.map (fun e => (e.1, dynSmooth e.1 e.2 s))
  let low := match next with
    | [] => 0
    | e :: t => t.foldl (fun a e => min a e.2) e.2
  s.eachOf next (fun e s =>
    let q := e.1
    let x := s.dyn q
    let src := 0x580 + q
    let d := (s.sink (0x680 + q) :: x.hist).getD (s.fld (F.DYN_CFG_LA q)) 0
    let y := sample (roundEven (sval d * dbGain low * dbGain (mkNow x s.tick)) 54) (stag d)
    let s := if fxHeld 1 src s then s else s.setDyn q { x with gain := e.2, worst := min x.worst low,
                                                                         goals := (((aims.lookup q).getD 0) :: x.goals).take 64 }
    let s := fxPut 1 src y s
    if s.tick % 64 ≠ 63 then s
    else
      let gr := clampInt 0 65535 (-(s.dyn q).worst * 100 / 655360)
      (s.post (Adr.DYN_GR q) (BitVec.ofInt 32 gr)).setDyn q { s.dyn q with worst := 0 })

/-- Samples of a delay line. -/
def dlLen (k : Nat) (s : State) : Nat := 256 * s.fld (F.DL_CFG_LEN k)
def dlAddr (k j : Nat) (s : State) : Nat := 256 * s.fld (F.DL_CFG_BASE k) + j % max 1 (dlLen k s)

/-- The sample of line `k` at an integer delay; `x` is the input of this tick (R276). -/
def dlRead (k : Nat) (x : Word) (d : Nat) (s : State) : Word :=
  let n := SMap.get (fun _ => 0) s.fx.count k
  if d = 0 then x
  else if n < d ∨ dlLen k s < d then 0
  else
    let a := dlAddr k (n - d) s
    if SMap.get (fun _ => false) s.fx.delayBad (a / 4) then zeroTag tSUB else SMap.get (fun _ => 0) s.fx.delay a

/-- The input of this tick stored; a damaged quire is rewritten with it (R276). -/
def dlWrite (k : Nat) (x : Word) (s : State) : State :=
  if dlLen k s = 0 then s
  else
    let n := SMap.get (fun _ => 0) s.fx.count k
    let a := dlAddr k n s
    let bad := SMap.get (fun _ => false) s.fx.delayBad (a / 4)
    let m := if bad then (List.range 4).foldl (fun m i => SMap.set (fun _ => (0 : Word)) m (a / 4 * 4 + i) (zeroTag tSUB)) s.fx.delay
      else s.fx.delay
    { s with fx := { s.fx with delay := SMap.set (fun _ => 0) m a x, count := SMap.set (fun _ => 0) s.fx.count k (n + 1),
                               delayBad := SMap.set (fun _ => false) s.fx.delayBad (a / 4) false } }.dropBack 2 (a / 4)

/-- Tap `t`, and its base delay in use at a tick as numerator and denominator in 1/256 smp (R278). -/
def State.tapSt (s : State) (t : Nat) : TapSt := SMap.get (fun _ => {}) s.fx.tap t
def tapD (x : TapSt) (tick : Nat) : Int × Nat :=
  let k := tick - x.t0
  if x.time ≤ k then (x.goal, 1)
  else (x.frm * (x.time - k : Nat) + (x.goal : Int) * x.den * k, x.den * x.time)

/-- Lagrange weights, times 6 q³, at the fraction `p / q`, for delays i − 1 to i + 2 (R277). -/
def lagrange (p q : Int) : List Int :=
  [-(p * (p - q) * (p - 2 * q)), 3 * (p + q) * (p - q) * (p - 2 * q), -(3 * (p + q) * p * (p - 2 * q)), (p + q) * p * (p - q)]

/-- The modulation value of a tap: an oscillator or a modulation input (R277). -/
def tapMod (t : Nat) (s : State) : Int :=
  let m := s.fld (F.TAP_CFG_MSRC t)
  if m = 0 then 0 else if m ≤ 32 then sval (s.src (0x7E0 + (m - 1))) else sval (s.sink (0x7E0 + (m - 33)))

/-- A glide of a tap that does not advance in this tick: its node is withheld, or the engines are clock-gated (R288, R292). -/
def tapHold (t : Nat) (s : State) : State :=
  let x := s.tapSt t
  s.when (x.time != 0) (fun s => { s with fx := { s.fx with tap := SMap.set (fun _ => {}) s.fx.tap t { x with t0 := x.t0 + 1 } } })

/-- A tap's value, its delay in 1/256 smp, and whether a clamp acted (R277); `x` is the line's input of this tick. -/
def tapValue (t : Nat) (x : Word) (s : State) : Word × Nat × Bool :=
  let k := s.fld (F.TAP_CFG_LINE t)
  let n := dlLen k s
  let (dn, dd) := tapD (s.tapSt t) s.tick
  let num := dn * 2 ^ 23 + (s.fld (F.TAP_MOD_DEPTH t) : Int) * tapMod t s * dd
  let den : Int := (dd * 2 ^ 31 : Nat)
  if n = 0 then (x, 0, num != 0)
  else if s.fld (F.TAP_CFG_MSRC t) = 0 ∧ dn % (256 * dd) = 0 then
    let d := dn / (256 * dd)
    let c := clampInt 0 n d
    (dlRead k x c.toNat s, (c * 256).toNat, c != d)
  else
    let c := clampInt den ((n - 2 : Int) * den) num
    let i := c / den
    let p := c % den
    let ws := (lagrange p den).zip ((List.range 4).map (fun (j : Nat) => dlRead k x (i - 1 + j).toNat s))
    let ws := ws.filter (fun e => e.1 ≠ 0)
    let v := roundRat (ws.foldl (fun a e => a + e.1 * sval e.2) 0) (6 * den ^ 3)
    (sample v (ws.foldl (fun a e => a ||| stag e.2) 0), (c * 256 / den).toNat, c != num)

/-- A delay line's tick, with its taps (R276, R277). -/
def dlTick (k : Nat) (s : State) : State :=
  let x := s.sink (0x700 + k)
  let s0 := s
  let s := fxPut 2 (0x600 + k) (dlRead k x (s.fld (F.DL_DLY_DLY k)) s) s
  let s := s.each 256 (fun t s =>
    if tapOn t s && s.fld (F.TAP_CFG_LINE t) == k then
      let s := s.when (fxHeld 2 (0x680 + t) s) (tapHold t)
      let (w, d, c) := tapValue t x s0
      let s := { s with fx := { s.fx with clamp := s.fx.clamp || c } }
      fxPut 2 (0x680 + t) w (s.setFld (F.TAP_STAT_DEFF t) d)
    else s)
  dlWrite k x s

/-- The rounding noise of the partitions in a value, in units of 2^-27 (R281): open (log entry 3), none up to 1,024 taps, and below
-140 dBFS where the squares of the taps sum to at most 1. -/
def convNoise (len : Nat) (taps : List Int) (acc : Int) : Int :=
  let n := Config.real "partitionNoise" [(len : Int), acc]
  if len ≤ 1024 then 0
  else if (taps.map (fun h => h * h)).foldl (· + ·) 0 ≤ 2 ^ 54 then clampInt (-13) 13 n else n

/-- A convolution set's output for an input history, newest first (R281, R282). -/
def convSet (c set : Nat) (hist : List Word) (tag : Nat) (s : State) : Word :=
  let len := s.fld (F.CV_SET_LEN c set)
  let g := s.fld (F.CV_SET_GFIRST c set)
  if len = 0 then 0
  else
    let ins := hist.take len
    let taps := (List.range ins.length).map (fun k => sval (poolWord (4096 * g + k) s))
    let sum := (taps.zip ins).foldl (fun (a : Int) e => a + e.1 * sval e.2) 0
    let v := roundEven (sum * (s.word (Adr.CV_GAIN c set)).toInt) 54 + convNoise len taps sum
    sample v (if poolHurtIn (4096 * g) len s then tag ||| tSUB else tag)

/-- Input samples that a channel keeps: its history in granule-equivalents, at least what the head reads (R281, R282). -/
def convHist (c : Nat) (s : State) : Nat :=
  max 1024 (4096 * max (s.fld (F.CV_CFG_FX_HIST c)) (max (ceilDiv (s.fld (F.CV_SET_LEN c 0)) 4096) (ceilDiv (s.fld (F.CV_SET_LEN c 1)) 4096)))

/-- A value of a channel through the partition engine, where a set it computes is long (R289, R290). -/
def convPart (c : Nat) (w : Word) (s : State) : Word × State :=
  let src := 0x780 + c
  if (List.range 2).any (fun b => decide (1024 < s.fld (F.CV_SET_LEN c b)) && (b == convLive c s || (s.conv c).xf.on)) then
    let (y, g) := engineOut src w (s.src src) (s.fxEng 4)
    (y, s.setFxEng 4 g)
  else (w, s)

/-- A convolution channel's tick (R281-R284, R289). -/
def convTick (c : Nat) (s : State) : State :=
  let w := s.sink (0x780 + c)
  let x := s.conv c
  let hist := (w :: x.hist).take (convHist c s)
  let live := convLive c s
  let tag := stag w ||| (if x.subLeft = 0 then 0 else tSUB)
  let fading := x.xf.on && !rampRests x.xf.xf
  let a := convSet c live hist tag s
  let b := convSet c (1 - live) hist tag s
  let xf := if x.xf.on then { x.xf with xf := rampStep x.xf.xf } else x.xf
  let (y, s) := convPart c (if fading then crossfade (rampWeight xf.xf) a b else a) s
  fxPut 3 (0x780 + c) y (s.setConv c { hist := hist, subLeft := x.subLeft - 1, xf := xf })

/-- The first word of a shaper's table of a bank in the effect pool (R285, R286). -/
def shTable (h bank : Nat) : Nat := 2 ^ 19 + (0x20000 + 0x4000 * h + 0x2000 * bank) / 4

/-- A gain that moves, as numerator over 64 of 0.1 dB (R285). -/
def DbMove.now (m : DbMove) (tick : Nat) : Int := 64 * m.frm + (m.goal - m.frm) * (min 64 (tick - m.t0) : Nat)

/-- DRIVE and OUT as the registers give them, within their ranges (R285, R293). -/
def shDrive (h : Nat) (s : State) : Int := (min 240 (s.fld (F.SH_GAIN_DRIVE h)) : Nat)
def shOut (h : Nat) (s : State) : Int := clampInt (-240) 240 (s.int (F.SH_GAIN_OUT h))

/-- A write of SH_GAIN: a changed gain starts to move, from where it stands (R285). -/
def shGainWrite (h : Nat) (s : State) : State :=
  let x := s.shaper h
  let go := fun (m : DbMove) (v : Int) => if m.goal = v then m else { frm := roundRat (m.now s.tick) 64, goal := v, t0 := s.tick }
  s.setShaper h { x with drive := go x.drive (shDrive h s), out := go x.out (shOut h s) }

/-- What a shaper makes of its inputs with one of its tables: its filters are open functions (log entry 3) of the inputs, the gains in
use and the table (R285). -/
def shValue (h bank : Nat) (hist : List Word) (tag : Nat) (s : State) : Word :=
  let x := s.shaper h
  let table := (List.range 1025).map (fun i => (poolWord (shTable h bank + i) s).toInt)
  let v := Config.real "shaper" (x.drive.now s.tick :: x.out.now s.tick :: table ++ hist.map sval)
  sample v (if poolHurtIn (shTable h bank) 1025 s then tag ||| tSUB else tag)

/-- A shaper's tick (R285, R33), with T_SUB where a table it reads is damaged (R37). -/
def shTick (h : Nat) (s : State) : State :=
  let src := 0x7A0 + h
  let w := s.sink src
  let x := s.shaper h
  let hist := (w :: x.hist).take 64
  let live := s.fld (F.SH_CFG_ACT_BANK h)
  let fading := x.xf.on && !rampRests x.xf.xf
  let xf := if x.xf.on then { x.xf with xf := rampStep x.xf.xf } else x.xf
  let a := shValue h live hist (stag w) s
  let y := if fading then crossfade (rampWeight xf.xf) a (shValue h (1 - live) hist (stag w) s) else a
  fxPut 5 src y (s.setShaper h { x with xf := xf, hist := if fxHeld 5 src s then x.hist else hist })

/-- Phase units per cycle of an oscillator. -/
def lfoUnit : Nat := 786432000

/-- The word of an oscillator at a phase (R279). -/
def lfoWord (shape ph : Nat) : Word :=
  let u : Int := lfoUnit
  let p : Int := ph
  let one : Int := 2 ^ 27
  let v : Int :=
    if shape = 0 then (if ph = 0 then 0 else Config.real "sine" [p])
    else if shape = 1 then
      (if 4 * p < u then roundRat (4 * p * one) u else if 4 * p < 3 * u then roundRat ((2 * u - 4 * p) * one) u
       else roundRat ((4 * p - 4 * u) * one) u)
    else if shape = 2 then roundRat ((2 * p - u) * one) u
    else if 2 * p < u then one else -one
  sample v 0 &&& 0xFFFFFFF0

/-- The oscillators' tick (R279). -/
def lfoTick (s : State) : State :=
  s.each 32 (fun n s =>
    let rate := s.fld (F.LFO_CFG_RATE n)
    let src := 0x7E0 + n
    if rate = 0 then s.produce src (s.src src)
    else
      let ph := (SMap.get (fun _ => 0) s.fx.lfo n + rate) % lfoUnit
      { s with fx := { s.fx with lfo := SMap.set (fun _ => 0) s.fx.lfo n ph } }.produce src (lfoWord (s.fld (F.LFO_CFG_SHAPE n)) ph))

/-- The node of a source number computes. -/
def fxNode (src : Nat) (s : State) : State :=
  if src = 0x400 then mixTick s
  else if src < 0x580 then (if bqOn (src - 0x500) s then bqTick (src - 0x500) s else s)
  else if src < 0x600 then
    (if dynOn (src - 0x580) s && (dynGroup (src - 0x580) s).head? == some (src - 0x580) then dynTick (src - 0x580) s else s)
  else if src < 0x680 then (if dlOn (src - 0x600) s then dlTick (src - 0x600) s else s)
  else if src < 0x7A0 then (if convOn (src - 0x780) s then convTick (src - 0x780) s else s)
  else if shOn (src - 0x7A0) s then shTick (src - 0x7A0) s else s

/-- The mixer and every enabled node, in placement order (R265). -/
def nodesTick (s : State) : State :=
  let s := lfoTick s
  let order := if s.fx.order.contains 0x400 then s.fx.order else 0x400 :: s.fx.order
  let s := dynFeed (s.eachOf order fxNode)
  let s := s.when s.fx.clamp (State.bump F.FX_CNT2_CLAMP_CNT F.FX_CNT2_CL_SAT)
  { s with fx := { s.fx with clamp := false, used := [],
                             eng := (s.fx.eng.map (fun e => (e.1, engineTick e.2))).filter (fun e => decide (e.2 ≠ {})) } }

/-- FX_GUARD follows the engines (R288, R290). -/
def fxGuardShow (s : State) : State :=
  s.each 6 (fun e s =>
    let g := s.fxEng e
    let v := (if g.faulted then 16 else 0) + (if engineGuarded g then 8 + g.bad.headD 0 % 8 else 0)
    s.setFld ⟨Adr.FX_GUARD, 5 * e + 4, 5 * e⟩ v)

/-- The engine of a node source (R291). -/
def fxEngineOf (src : Nat) : Nat :=
  if src < 0x580 then 0 else if src < 0x600 then 1 else if src < 0x780 then 2 else if src < 0x7A0 then 3 else 5

/-- The outputs of a node: its source, a line's taps included. -/
def fxOutputs (src : Nat) (s : State) : List Nat :=
  if 0x600 ≤ src ∧ src < 0x680 then
    src :: ((List.range 256).filter (fun t => tapOn t s && s.fld (F.TAP_CFG_LINE t) == src - 0x600)).map (0x680 + ·)
  else [src]

/-- A residue mismatch on unit `u` of engine `e` at cycle `c` (R288, R290). The MACs within an engine that is one unit share its
nodes. -/
def fxResidue (e u c : Nat) (s : State) : State :=
  let hit := s.fx.place.filter (fun p => fxEngineOf p.1 == e && (e != 0 || p.2.unit == u) && decide (c ≤ p.2.fin))
  let outs := hit.flatMap (fun p => fxOutputs p.1 s)
  let (g, act) := engineFail u 16 (s.fxEng e)
  let s := s.setFxEng e { g with held := outs ++ g.held }
  let s := (fxGuardShow (s.bump F.FX_CNT_RES_CNT F.FX_CNT_RES_SAT)).report 0x5681 (16 * e + u) (if act = .takeover then 1 else 2)
  match act with
  | .takeover => s.raise Pg.fx 0
  | .fault => (s.report 0x5682 (16 * e + u) 4).raise Pg.fx 1
  | .none => s

/-- A residue mismatch of the partition unit: the block's products are discarded and `n` values carry T_SUB (R289). -/
def partResidue (c n u : Nat) (s : State) : State :=
  let x := s.conv c
  let s := s.setConv c { x with subLeft := max x.subLeft n }
  let (g, act) := engineFail u 16 (s.fxEng 4)
  let s := (fxGuardShow ((s.setFxEng 4 g).bump F.FX_CNT_RES_CNT F.FX_CNT_RES_SAT)).report 0x5681 (64 + u)
    (if act = .takeover then 1 else 2)
  match act with
  | .takeover => s.raise Pg.fx 0
  | .fault => (s.report 0x5682 (64 + u) 4).raise Pg.fx 1
  | .none => s

/-- A RESTORE bit (R290). -/
def fxRestore (e : Nat) (s : State) : State := if engineMayRestore (s.fxEng e) then s.startTest 0x1A e 0 else s

/-- The end of an engine's test (R290). -/
def fxRestoreEnd (e : Nat) (failed : List Nat) (s : State) : State :=
  let tested := (s.fxEng e).bad
  let (g, _, _) := engineRestore failed 16 (s.fxEng e)
  let s := fxGuardShow (s.setFxEng e g)
  s.eachOf (tested.filter (fun u => failed.contains u)) (fun u s =>
    (s.bump F.FX_CNT_RES_CNT F.FX_CNT_RES_SAT).report 0x5681 (16 * e + u) 0)

/-- The state of the FX pages (R288, R290). -/
def fxPageState (s : State) : Nat :=
  if (List.range 6).any (fun e => (s.fxEng e).faulted) then 4
  else if (List.range 6).any (fun e => engineGuarded (s.fxEng e)) then 3 else 2

/-- Whether bank `b` of a node with live bank `live` and staged field `f` is live or frozen (R140, R287); `force`: the node is
part of the configuration in force, so that its live bank is in use. -/
def bankLocked (force : Bool) (b live : Nat) (fading : Bool) (f : Fld) (s : State) : Bool :=
  (force && b == live) || fading || (s.press.banksFrozen && imageFld f s == b && (!force || imageFld f s != live))

/-- Whether a biquad node bank is live or frozen. -/
def bqLocked (n b : Nat) (s : State) : Bool :=
  bankLocked (s.fx.order.contains (0x500 + n) && s.on (F.BQ_BANK_NSEC n (bqLive n s))) b (bqLive n s) (s.bqXf n).on
    (F.BQ_CFG_ACT_BANK n) s

/-- Whether a section bank is in use by a live or frozen node bank (R287). -/
def sectLocked (sec b : Nat) (s : State) : Bool :=
  (List.range 128).any (fun n =>
    bqLocked n b s && decide (s.fld (F.BQ_BANK_FIRST n b) ≤ sec ∧ sec < s.fld (F.BQ_BANK_FIRST n b) + s.fld (F.BQ_BANK_NSEC n b)))

/-- Whether a shaper's table is live or frozen. -/
def shLocked (h b : Nat) (s : State) : Bool :=
  (shOn h s || imageFld (F.SH_CFG_EN h) s == 1) && bankLocked (shOn h s) b (s.fld (F.SH_CFG_ACT_BANK h))
    (s.shaper h).xf.on (F.SH_CFG_ACT_BANK h) s

/-- Whether a convolution set is live or frozen; the granules of a set. -/
def setLocked (c b : Nat) (s : State) : Bool :=
  bankLocked (s.fx.order.contains (0x780 + c) && s.on (F.CV_SET_LEN c (convLive c s))) b (convLive c s) (s.conv c).xf.on
    (F.CV_CFG_FX_ACT c) s
def setGranules (c b : Nat) (s : State) : List Nat :=
  (List.range (ceilDiv (s.fld (F.CV_SET_LEN c b)) 4096)).map (s.fld (F.CV_SET_GFIRST c b) + ·)
def granuleLocked (g : Nat) (s : State) : Bool :=
  (List.range 32).any (fun c => (List.range 2).any (fun b => setLocked c b s && (setGranules c b s).contains g))

/-- An ignored write to a bank, table or granule (R287). -/
def poolRefuse (inst ofs : Nat) (s : State) : State :=
  (((s.viol Pg.fx 5 (ofs % 4096)).bump F.FX_CNT2_BANK_WR_CNT F.FX_CNT2_BW_SAT).report 0x8685 inst 0).raise Pg.fx 2

/-- Whether granule `g` is ready. -/
def granuleReady (g : Nat) (s : State) : Bool := (s.word (Adr.CV_RDY (g / 32))).bits (g % 32) (g % 32) == 1
def setReady (g : Nat) (b : Bool) (s : State) : State :=
  s.setFld ⟨Adr.CV_RDY (g / 32), g % 32, g % 32⟩ (if b then 1 else 0)

/-- The lowest pending granule goes under preparation where none is (R283). -/
def prepNext (s : State) : State :=
  let s := match s.fx.cur with
    | some _ => s
    | none => match s.fx.prep with
      | [] => s
      | g :: t => { s with fx := { s.fx with prep := t, cur := some (g, s.tick + 32) } }
  let n := s.fx.prep.length + (if s.fx.cur.isSome then 1 else 0)
  ((s.setFld F.CV_PSTAT_PEND n).setOn F.CV_PSTAT_BUSY s.fx.cur.isSome).setFld F.CV_PSTAT_CUR ((s.fx.cur.map (·.1)).getD 0)

/-- A write of PREP (R283). -/
def convPrep (first n : Nat) (s : State) : State :=
  if 128 < first + n then s.setFld F.CV_PSTAT_ERR 1
  else
    let all := (List.range n).map (first + ·)
    let bad := all.filter (fun g => granuleLocked g s)
    let s := (s.setFld F.CV_PSTAT_ERR 0).bumpBy bad.length F.FX_CNT2_BANK_WR_CNT F.FX_CNT2_BW_SAT
    let new := all.filter (fun g => !bad.contains g && (s.fx.cur.map (·.1)) != some g)
    prepNext { s with fx := { s.fx with prep := (List.range 128).filter (fun g => s.fx.prep.contains g || new.contains g) } }

/-- The preparation of a granule ends (R283). -/
def granuleDone (g : Nat) (s : State) : State :=
  match s.fx.cur with
  | some (c, due) =>
    if c = g ∧ due ≤ s.tick then
      let s := prepNext (setReady g true { s with fx := { s.fx with cur := none } })
      s.when s.fx.cur.isNone (State.raise Pg.fx 3)
    else s
  | none => s

/-- A write through the effect-pool window (R286, R287). -/
def poolWrite (ofs : Nat) (w : Word) (s : State) : State :=
  let bank := s.fld F.FX_WIN_BANK
  let put := fun (s : State) =>
    let i := bank * 2 ^ 19 + ofs / 4
    { s with fx := { s.fx with pool := SMap.set (fun _ => 0) s.fx.pool i w,
                               poolBad := SMap.set (fun _ => false) s.fx.poolBad (i / 4) false } }.dropBack 1 (i / 4)
  if bank = 0 then
    let g := ofs / 0x4000
    if granuleLocked g s then poolRefuse 0x30 ofs s
    else
      let s := setReady g false (put s)
      if (s.fx.cur.map (·.1)) = some g then prepNext { s with fx := { s.fx with cur := none } } else s
  else if bank ≠ 1 then s
  else if ofs < 0x20000 then
    if 0x14 ≤ ofs % 0x20 then s
    else if sectLocked (ofs / 0x40) (ofs / 0x20 % 2) s then poolRefuse 0 ofs s else put s
  else if ofs < 0x120000 then
    let o := ofs - 0x20000
    if 0x1004 ≤ o % 0x2000 then s
    else if shLocked (o / 0x4000) (o / 0x2000 % 2) s then poolRefuse 0x50 ofs s else put s
  else s

/-- What a read through the effect-pool window returns (R286). -/
def poolRead (ofs : Nat) (s : State) : Word :=
  let bank := s.fld F.FX_WIN_BANK
  if 1 < bank then 0 else poolWord (bank * 2 ^ 19 + ofs / 4) s

/-- A write of D at core cycle `cyc`: the glide starts from the value in use (R278). It counts for this tick where the line
computes later in it. -/
def tapWrite (t d : Nat) (s : State) : State :=
  let x := s.tapSt t
  let line := SMap.get (fun _ => ({} : FxPlace)) s.fx.place (0x600 + s.fld (F.TAP_CFG_LINE t))
  let t0 := if s.cyc < line.start then s.tick - 1 else s.tick
  let (n, den) := tapD x t0
  let g := s.fld (F.TAP_MOD_GLIDE t)
  let y : TapSt := if g = 0 then { frm := n, den := den, goal := d, time := 1, t0 := t0 }
    else { frm := n, den := den, goal := d, time := g, t0 := t0 }
  { s with fx := { s.fx with tap := SMap.set (fun _ => {}) s.fx.tap t y } }.setFld (F.TAP_D_D t) d

/-- A glide of a tap's delay has ended: its base delay rests at D (R278). -/
def tapGlideEnd (t : Nat) (s : State) : State :=
  let x := s.tapSt t
  if x.t0 + x.time ≤ s.tick then
    { s with fx := { s.fx with tap := SMap.set (fun _ => {}) s.fx.tap t { frm := x.goal, den := 1, goal := x.goal, time := 0, t0 := 0 } } }
  else s

/-- A write of DYN_THR or DYN_TIME applies from the first computation of the processor that starts after it (R275). -/
def dynParamWrite (p a : Nat) (s : State) : State :=
  let start := (SMap.get (fun _ => ({} : FxPlace)) s.fx.place (0x580 + p)).start
  if start ≤ s.cyc ∧ (SMap.get (fun _ => none) s.fx.used a).isNone then
    { s with fx := { s.fx with used := SMap.set (fun _ => none) s.fx.used a (some (s.word a)) } }
  else s

/-- FROZEN of the nodes: a bank or set is frozen by a crossfade, or by the collation of a swap that selects it (R287, R293). -/
def frozenShow (fld act : Fld) (fading on will : Bool) (live : Nat) (s : State) : State :=
  s.setOn fld (fading || (s.press.banksFrozen && (imageFld act s != live || (!on && will))))
def bqFrozenShow (n : Nat) (s : State) : State :=
  frozenShow (F.BQ_STAT_FROZEN n) (F.BQ_CFG_ACT_BANK n) (s.bqXf n).on (s.fx.order.contains (0x500 + n))
    (s.on (F.BQ_BANK_NSEC n (imageFld (F.BQ_CFG_ACT_BANK n) s))) (bqLive n s) s
def convFrozenShow (c : Nat) (s : State) : State :=
  frozenShow (F.CV_STAT_FX_FROZEN c) (F.CV_CFG_FX_ACT c) (s.conv c).xf.on (s.fx.order.contains (0x780 + c))
    (s.on (F.CV_SET_LEN c (imageFld (F.CV_CFG_FX_ACT c) s))) (convLive c s) s
def fxBanksShow (s : State) : State := (s.each 128 bqFrozenShow).each 32 convFrozenShow

/-- The end of a node's crossfade: the outgoing bank is released (R141). -/
def bqSwapEnd (n : Nat) (s : State) : State :=
  let x := s.bqXf n
  if x.on ∧ rampRests x.xf then
    let s := { s with fx := { s.fx with bq := SMap.set (fun _ => {}) s.fx.bq n {},
                                        order := if bqOn n { s with fx := { s.fx with bq := [] } } then s.fx.order else s.fx.order.erase (0x500 + n) } }
    bqFrozenShow n (s.setFld (F.BQ_STAT_XFADE n) 0)
  else s
def convSwapEnd (c : Nat) (s : State) : State :=
  let x := s.conv c
  if x.xf.on ∧ rampRests x.xf.xf then
    let s := s.setConv c { x with xf := {} }
    let s := if convOn c s then s else { s with fx := { s.fx with order := s.fx.order.erase (0x780 + c) } }
    convFrozenShow c (s.setFld (F.CV_STAT_FX_XFADE c) 0)
  else s
def shSwapEnd (h : Nat) (s : State) : State :=
  let x := s.shaper h
  if x.xf.on ∧ rampRests x.xf.xf then s.setShaper h { x with xf := {} } else s

/-- A pressed biquad configuration: a swap hands the outgoing cascade's states over (R270). -/
def bqPress (n : Nat) (s : State) : State :=
  let live := bqLive n s
  let new := s.fld (F.BQ_CFG_ACT_BANK n)
  if live = new then s
  else
    let xf := s.bqXf n
    let back := xf.on && !rampRests xf.xf
    let f0 := s.fld (F.BQ_BANK_FIRST n live)
    let n0 := s.fld (F.BQ_BANK_NSEC n live)
    let f1 := s.fld (F.BQ_BANK_FIRST n new)
    let st := (List.range (s.fld (F.BQ_BANK_NSEC n new))).map (fun i =>
      (2 * (f1 + i) + new, if i < n0 then SMap.get (fun _ => []) s.fx.sect (2 * (f0 + i) + live) else []))
    let s := if back then s else sectSave st s
    let s := { s with fx := { s.fx with bq := SMap.set (fun _ => {}) s.fx.bq n (xfSwap (8 * s.fld (F.BQ_CFG_XF n)) xf) } }
    bqSwapEnd n (bqFrozenShow n ((s.setFld (F.BQ_STAT_LIVE_BANK n) new).setFld (F.BQ_STAT_XFADE n) 1))

/-- A pressed convolution configuration (R284); a channel that was off starts with a history that reads 0 (R282). -/
def convPress (c : Nat) (old s : State) : State :=
  let new := s.fld (F.CV_CFG_FX_ACT c)
  let s := s.when (!old.fx.order.contains (0x780 + c)) (fun s => s.setConv c { s.conv c with hist := [] })
  if convLive c s = new then s
  else
    let x := s.conv c
    let s := s.setConv c { x with xf := xfSwap (8 * s.fld (F.CV_CFG_FX_XF c)) x.xf }
    convSwapEnd c (convFrozenShow c ((s.setFld (F.CV_STAT_FX_LIVE c) new).setFld (F.CV_STAT_FX_XFADE c) 1))

/-- A pressed shaper configuration: one that is off has no crossfade under way (R264, R285). -/
def shPress (h : Nat) (old s : State) : State :=
  if !shOn h s then s.when (s.shaper h).xf.on (fun s => s.setShaper h { s.shaper h with xf := {} })
  else if old.fld (F.SH_CFG_ACT_BANK h) = s.fld (F.SH_CFG_ACT_BANK h) ∨ !shOn h old then s
  else
    let x := s.shaper h
    shSwapEnd h (s.setShaper h { x with xf := xfSwap (8 * s.fld (F.SH_CFG_XF h)) x.xf })

/-- A pressed delay line starts afresh where it is enabled or its BASE or LEN changes (R276). -/
def dlPress (k : Nat) (old s : State) : State :=
  if dlOn k s ∧ old.word (Adr.DL_CFG k) ≠ s.word (Adr.DL_CFG k) then
    let base := 256 * s.fld (F.DL_CFG_BASE k)
    let here := fun (a : Nat) => decide (base ≤ a ∧ a < base + dlLen k s)
    { s with fx := { s.fx with delay := s.fx.delay.filter (fun e => !here e.1), count := SMap.set (fun _ => 0) s.fx.count k 0,
                               delayBad := s.fx.delayBad.filter (fun e => !here (4 * e.1)) } }
  else s

/-- A pressed oscillator: SYNC sets the phase, and reads 0 from then on (R279). -/
def lfoPress (n : Nat) (s : State) : State :=
  if !s.on (F.LFO_PH_SYNC n) then s
  else
    let ph := s.fld (F.LFO_PH_PHASE n) * 12000
    let w := lfoWord (s.fld (F.LFO_CFG_SHAPE n)) ph
    let s := ({ s with fx := { s.fx with lfo := SMap.set (fun _ => 0) s.fx.lfo n ph } }.setSrc (0x7E0 + n) w).setFld (F.LFO_PH_SYNC n) 0
    let a := Adr.LFO_PH n
    s.setShadow a ((SMap.get resetWord s.shadow a).put 31 31 0)

/-- The effects engines at a press. -/
def fxPress (old s : State) : State :=
  let s := (s.each 128 bqPress).each 32 (fun c s => convPress c old s)
  ((s.each 64 (fun h s => shPress h old s)).each 128 (fun k s => dlPress k old s)).each 32 lfoPress

/-- In STANDBY the engines are clock-gated: glides, gain moves and the preparation of granules stand (R292). -/
def fxHold (s : State) : State :=
  let s := s.eachOf (s.fx.tap.map (·.1)) tapHold
  let up := fun (m : DbMove) => if s.tick < m.t0 + 64 then { m with t0 := m.t0 + 1 } else m
  { s with fx := { s.fx with cur := s.fx.cur.map (fun e => (e.1, e.2 + 1)),
                             dyn := s.fx.dyn.map (fun e => (e.1, { e.2 with mkT0 := if s.tick < e.2.mkT0 + 64 then e.2.mkT0 + 1 else e.2.mkT0 })),
                             sh := s.fx.sh.map (fun e => (e.1, { e.2 with drive := up e.2.drive, out := up e.2.out })) } }

/-- The return from STANDBY: what starts from 0 (R292). -/
def fxWake (s : State) : State :=
  { s with fx := { s.fx with delay := [], count := [], sect := [],
                             conv := (s.fx.conv.map (fun e => (e.1, { e.2 with hist := [] }))).filter (fun e => decide (e.2 ≠ {})),
                             sh := (s.fx.sh.map (fun e => (e.1, { e.2 with hist := [] }))).filter (fun e => decide (e.2 ≠ {})),
                             dyn := (s.fx.dyn.map (fun e => (e.1, { e.2 with hist := [], gain := 0, goals := [] }))).filter (fun e => decide (e.2 ≠ {})) } }

/-- A damaged or corrected quire of the effect (`delay` = false) or delay pool (R37). -/
def fxEcc (delay : Bool) (q : Nat) (fatal : Bool) (s : State) : State :=
  if !fatal then s.bump F.FX_CNT_ECC_CNT F.FX_CNT_ECC_SAT
  else if delay then
    { s with fx := { s.fx with delayBad := SMap.set (fun _ => false) s.fx.delayBad q true } }.report 0x4684 0 0
  else { s with fx := { s.fx with poolBad := SMap.set (fun _ => false) s.fx.poolBad q true } }.report 0x4683 0 0

/-- TAP_DELAY_WRITE. -/
def execTapDelayWrite (cyc : Fin 5120) (t : Fin 256) (d : Fin 1073741824) (s : State) : Host.Outcome State Fault Refusal :=
  s.heard (
    .next (tapWrite t.val d.val (s.land cyc.val)))

/-- TAP_GLIDE_END. -/
def execTapGlideEnd (t : Fin 256) (s : State) : Host.Outcome State Fault Refusal := s.ticking (.next (tapGlideEnd t.val s))

/-- CONV_PREP. -/
def execConvPrep (first : Fin 128) (n : Fin 256) (s : State) : Host.Outcome State Fault Refusal := s.heard (.next (convPrep first.val n.val s))

/-- GRANULE_READY. -/
def execGranuleReady (g : Fin 128) (s : State) : Host.Outcome State Fault Refusal := s.ticking (.next (granuleDone g.val s))

/-- EFFECT_POOL_WRITE. -/
def execEffectPoolWrite (cyc : Fin 5120) (word : Fin 524288) (data : Word) (s : State) : Host.Outcome State Fault Refusal :=
  s.heard (
    .next (poolWrite (4 * word.val) data (s.land cyc.val)))

/-- FX_RESIDUE. -/
def execFxResidue (eng : Fin 6) (unit : Fin 9) (cyc : Fin 5120) (s : State) : Host.Outcome State Fault Refusal :=
  s.ticking (
    .next (fxResidue eng.val unit.val cyc.val (s.land cyc.val)))

/-- PARTITION_RESIDUE. -/
def execPartitionResidue (c : Fin 32) (n : Fin 1024) (unit : Fin 2) (s : State) : Host.Outcome State Fault Refusal :=
  s.ticking (
    .next (partResidue c.val n.val unit.val s))

/-- FX_RESTORE. -/
def execFxRestore (e : Fin 6) (s : State) : Host.Outcome State Fault Refusal := s.heard (.next (fxRestore e.val s))

end Sys2Proof.Machine
end

