-- ==== Sys2Proof/Machine/Jack.lean ====
section
/-!
DEFINITION. Jack sense: samples, runs, states, events, the adaptive threshold and the bindings (R316-R329).
-/

namespace Sys2Proof.Machine

/-- Jack `j`, and binding `o` (outputs 0-19, speaker channels 20-27). -/
def State.jk (s : State) (j : Nat) : Jack := SMap.get (fun _ => {}) s.jack.j j
def State.setJk (j : Nat) (x : Jack) (s : State) : State :=
  { s with jack := { s.jack with j := SMap.set (fun _ => {}) s.jack.j j x } }
def State.bind (s : State) (o : Nat) : Bind := SMap.get (fun _ => {}) s.jack.bind o
def State.setBind (o : Nat) (x : Bind) (s : State) : State :=
  { s with jack := { s.jack with bind := SMap.set (fun _ => {}) s.jack.bind o x } }

/-- The state of a jack: 0 UNDECIDED, 1 REMOVED, 2 INSERTED. -/
def jackState (j : Nat) (s : State) : Nat := s.fld (F.JK_STAT_STATE j)

/-- Milliseconds as cycles. -/
def msCyc (n : Nat) : Int := (n * 192 * 5120 : Nat)

/-- The side a level lies on: 0 in the band, 1 removed, 2 inserted (R317). -/
def jackSide (j level : Nat) (s : State) : Nat :=
  let t := s.fld (F.JK_STAT_THR j)
  let h := s.fld (F.JK_THR_HYST j)
  let pol := s.on (F.JK_CFG_POL j)
  if t + h ≤ level then (if pol then 1 else 2) else if level + h < t then (if pol then 2 else 1) else 0

/-- Effective bounds of a threshold (R322). -/
def jackFloor (j : Nat) (s : State) : Nat := clampNat 16 240 (s.fld (F.JK_THR_THR_FLOOR j))
def jackCeil (j : Nat) (s : State) : Nat := clampNat 16 240 (s.fld (F.JK_THR_THR_CEIL j))

/-- A threshold placed within its bounds, with its flags; crossed or equal bounds pin it at the floor (R322). -/
def jackSetThr (j v : Nat) (s : State) : State :=
  let lo := jackFloor j s
  let hi := jackCeil j s
  let t := if hi ≤ lo then lo else clampNat lo hi v
  (((s.setFld (F.JK_STAT_THR j) t).setOn (F.JK_STAT_PINNED j) (decide (hi ≤ lo))).setOn (F.JK_STAT_AT_CEIL j) (t == hi)).setOn
    (F.JK_STAT_AT_FLOOR j) (t == lo)

/-- A jack becomes UNDECIDED, and DECIDE counts from its next sample (R318, R319). -/
def jackUndecide (j : Nat) (s : State) : State :=
  let x := s.jk j
  (((s.setJk j { x with side := 0, start := none }).setFld (F.JK_STAT_STATE j) 0).setFld (F.JK_STAT_AMBIG j) 0).setFld
    (F.JK_STAT_FORCED j) 0

/-- A start of a jack: UNDECIDED, the threshold and the means reset (R318, R321, R322). -/
def jackStart (j : Nat) (s : State) : State :=
  let s := jackUndecide j s
  let s := s.setJk j { (s.jk j) with mIn := none, mOut := none, upd := 0, rest := 0 }
  let s := ((s.setFld (F.JK_STAT_M_IN j) 0).setFld (F.JK_STAT_M_OUT j) 0).setFld (F.JK_STAT_NARROW j) 0
  jackSetThr j (s.fld (F.JK_THR_THR_INIT j)) s

/-- Whether a bound output's jack stands in the state it plays in; an unbound output always plays (R323). -/
def jackPlays (o : Nat) (s : State) : Bool :=
  if !s.on (F.JACK_BIND_BIND_EN o) then true
  else
    let j := s.fld (F.JACK_BIND_JACK o)
    let want := if s.on (F.JACK_BIND_WHEN o) then 1 else 2
    s.on (F.JK_CFG_EN j) && jackState j s == want

/-- Whether a run towards the non-playing side holds a playing output (R325, pre-mute). -/
def jackPremute (o : Nat) (s : State) : Bool :=
  if !s.on (F.JACK_BIND_BIND_EN o) then false
  else
    let j := s.fld (F.JACK_BIND_JACK o)
    let x := s.jk j
    s.on (F.JK_CFG_PREMUTE j) && x.side != 0 && x.side != jackState j s

/-- A binding follows its jack: the jack weight falls at an unplug or a pre-mute, and rises after a plug wait or when a run
breaks off (R323-R325). -/
def jackFollow (o : Nat) (s : State) : State :=
  let b := s.bind o
  let play := jackPlays o s
  let pre := jackPremute o s
  let down := 8 * s.fld F.JACK_POP_CFG_UNPLUG_RAMP
  let up := 8 * s.fld F.JACK_POP_CFG_PLUG_RAMP
  let wait := s.fld F.JACK_POP_CFG_PLUG_WAIT * 1920
  if play && !b.play then
    if wait = 0 && !pre then s.setBind o { b with play := true, wait := none, w := rampGo true up b.w }
    else s.setBind o { b with play := true, wait := some (s.tick + wait) }
  else if !play then s.setBind o { play := false, wait := none, w := rampGo false down b.w }
  else if pre then s.setBind o { b with w := rampGo false down b.w }
  else if b.wait.isNone then s.setBind o { b with w := rampGo true b.w.len b.w }
  else s

/-- Every binding follows its jack. -/
def jackFollowAll (s : State) : State := s.each 28 jackFollow

/-- Whether a binding keeps its output muted now (R323-R325). -/
def jackHolds (o : Nat) (s : State) : Bool := !(s.bind o).play || (s.bind o).wait.isSome || !(s.bind o).w.up

/-- An event of a jack posted (R318, R327): kind 0 INSERT, 1 REMOVE, 2 DECIDE_IN, 3 DECIDE_OUT, 4 AMBIG. -/
def jackPost (j kind : Nat) (stamp : Int) (level : Nat) (s : State) : State :=
  let s := { s with jack := { s.jack with events := s.jack.events ++ [EvRec.mk j stamp kind 0 (BitVec.ofNat 32 level)] } }
  let s := (s.bump F.JACK_CNT_EV_CNT F.JACK_CNT_EV_SAT).raise Pg.jack (if kind = 4 then 3 else if kind = 3 then 2 else kind)
  let s := s.when (kind == 0 || kind == 2) (State.bump (F.JK_CNT_INSERT_CNT j) (F.JK_CNT_IN_SAT j))
  s.when (kind == 1 || kind == 3) (State.bump (F.JK_CNT_REMOVE_CNT j) (F.JK_CNT_RM_SAT j))

/-- The mean of a side after a sample: a one-pole average of 64 samples, between the two (R321; its arithmetic is open, log entry 3). -/
def jackMean (m : Option Int) (level : Nat) : Int :=
  match m with
  | none => (level : Int) * 65536
  | some v => stepTo "pole64" v ((level : Int) * 65536)

/-- A mean as the code shown. -/
def meanCode (m : Option Int) : Nat := (clampInt 0 255 ((m.getD 0).fdiv 65536)).toNat

/-- An update of the threshold loop (R321, R322). -/
def jackUpdate (j : Nat) (s : State) : State :=
  let a := s.fld (F.JK_STAT_M_IN j)
  let b := s.fld (F.JK_STAT_M_OUT j)
  let t := s.fld (F.JK_STAT_THR j)
  let narrow := decide (max a b - min a b < 4 * s.fld (F.JK_THR_HYST j))
  let s := s.setOn (F.JK_STAT_NARROW j) narrow
  let mid := (a + b) / 2
  let s := if narrow then s else jackSetThr j (if t < mid then t + 1 else if mid < t then t - 1 else t) s
  let rest := s.on (F.JK_STAT_AT_CEIL j) || s.on (F.JK_STAT_AT_FLOOR j)
  let k := if rest then min 65 ((s.jk j).rest + 1) else 0
  let s := s.setJk j { (s.jk j) with rest := k }
  s.when (k == 64) (fun s => (s.report 0x6701 j 0).raise Pg.jack 4)

/-- The threshold loop takes a sample of the present state (R321). -/
def jackLoop (j level side : Nat) (stamp : Int) (s : State) : State :=
  let x := s.jk j
  let st := jackState j s
  let s := if st = 0 ∨ side ≠ st ∨ stamp < x.since + msCyc (s.fld (F.JK_CFG_DEB j)) then s
    else if st = 2 then
      let m := jackMean x.mIn level
      (s.setJk j { x with mIn := some m }).setFld (F.JK_STAT_M_IN j) (meanCode (some m))
    else
      let m := jackMean x.mOut level
      (s.setJk j { x with mOut := some m }).setFld (F.JK_STAT_M_OUT j) (meanCode (some m))
  let x := s.jk j
  if st = 0 || x.mIn.isNone || x.mOut.isNone then s
  else if x.upd + 1 < 64 then s.setJk j { x with upd := x.upd + 1 }
  else jackUpdate j (s.setJk j { x with upd := 0 })

/-- A jack changes its state, from the stamp of its run or from a force on (R318, R320, R321). -/
def jackMove (j st : Nat) (stamp : Int) (s : State) : State :=
  let x := s.jk j
  (((s.setJk j { x with start := none, since := stamp }).setFld (F.JK_STAT_STATE j) st).setFld (F.JK_STAT_FORCED j) 0).setFld
    (F.JK_STAT_AMBIG j) 0

/-- A sample of a jack (R316-R321). -/
def jackSample (j level : Nat) (stamp : Int) (s : State) : State :=
  let s := s.post (Adr.JK_LVL j) (BitVec.ofNat 32 (level % 256))
  let s := s.setJk j { (s.jk j) with lastT := stamp }
  if !s.on (F.JK_CFG_EN j) then s
  else
    let side := jackSide j level s
    let x := s.jk j
    let x := if side = 0 then { x with side := 0 } else if side = x.side then x
      else { x with side := side, first := stamp, level := level }
    let st := jackState j s
    let x := if st = 0 ∧ x.start.isNone then { x with start := some stamp } else x
    let s := s.setJk j x
    let full := side != 0 && decide (msCyc (s.fld (F.JK_CFG_DEB j)) ≤ stamp - x.first)
    let s := if !full || side == st then s
      else
        let kind := (if st = 0 then 2 else 0) + (if side = 2 then 0 else 1)
        jackMove j side x.first (jackPost j kind x.first x.level s)
    jackLoop j level side stamp s

/-- A force acts (R320): 1 REMOVED, 2 INSERTED, 3 release. -/
def jackForce (j v : Nat) (s : State) : State :=
  if !s.on (F.JK_CFG_EN j) then s
  else if v = 3 then jackUndecide j s
  else
    let s := jackMove j v ((s.tick * 5120 + s.cyc : Nat) : Int) s
    (s.setJk j { (s.jk j) with side := 0 }).setFld (F.JK_STAT_FORCED j) 1

/-- A write of FORCE: it waits for the take point of its tick (R320). -/
def jackForceWrite (j v : Nat) (s : State) : State :=
  if v = 0 then s
  else if s.cyc < 2048 then s.setJk j { (s.jk j) with force := some v }
  else jackFollowAll (jackForce j v s)

/-- The 12 codes sampled in a tick with TICK[3:0] = 0 leave in the control burst of the next tick (R316). -/
def jackSend (codes : List Nat) (s : State) : State :=
  s.when (!codes.isEmpty && (s.tick - 1) % 16 == 0) (State.tell 1 s.tick (.jacks (s.tick - 1) codes))

/-- The 12 codes sampled in tick `t` reach the core die (R316). -/
def jackTake (t : Nat) (codes : List Nat) (s : State) : State :=
  s.each 12 (fun j s => jackSample j (codes.getD j 0) ((t * 5120 + 400 * j : Nat) : Int) s)

/-- The forces of this tick act, after its samples (R320). -/
def jackForces (s : State) : State :=
  let s := s.each 12 (fun j s => match (s.jk j).force with
    | none => s
    | some v => jackForce j v (s.setJk j { (s.jk j) with force := none }))
  jackFollowAll s

/-- A press of jack settings: a jack that is enabled or changes POL or PU_EN starts (R318). -/
def jackPress (old s : State) : State :=
  let s := s.each 12 (fun j s =>
    let ch (f : Fld) := old.fld f != s.fld f
    s.when (ch (F.JK_CFG_EN j) || ch (F.JK_CFG_POL j) || ch (F.JK_CFG_PU_EN j)) (jackStart j))
  jackFollowAll s

/-- A write of JK_THR: its bounds are clamped to 16–240 and counted; THR stays at THR_INIT until both means exist (R321, R322). -/
def jackThrWrite (j : Nat) (s : State) : State :=
  let f := s.fld (F.JK_THR_THR_FLOOR j)
  let c := s.fld (F.JK_THR_THR_CEIL j)
  let bad := f != clampNat 16 240 f || c != clampNat 16 240 c
  let s := (s.setFld (F.JK_THR_THR_FLOOR j) (clampNat 16 240 f)).setFld (F.JK_THR_THR_CEIL j) (clampNat 16 240 c)
  let x := s.jk j
  jackSetThr j (s.fld (if x.mIn.isNone || x.mOut.isNone then F.JK_THR_THR_INIT j else F.JK_STAT_THR j)) (s.when bad (State.viol Pg.jack 3 (Adr.JK_THR j % 0x1000)))

/-- The records of a tick are written; the jack weights move; recovery of VAH restarts every jack (R318, R324, R327). -/
def jackTick (s : State) : State :=
  let l := evSort s.jack.events
  let s := { s with jack := { s.jack with events := [] } }
  let s := if l.isEmpty || !s.on F.JACK_EVQ_EVQ_EN then s
    else
      let (s, ok) := qWriteSig (s.fld F.JACK_EVQ_QID) ⟨1, 4, 0⟩ (l.flatMap evBytes) (16 * l.length) s
      s.when (!ok) (fun s => (s.bump F.JACK_CNT_OVERRUN F.JACK_CNT_OV_SAT).raise Pg.jack 5)
  let vah := s.on F.PWR_STATUS_VAH_OK
  let back := vah && !s.jack.vah
  let s := { s with jack := { s.jack with vah := vah } }
  let s := if back then s.each 12 (fun j s => s.when (s.on (F.JK_CFG_EN j)) (jackStart j)) else s
  jackFollowAll (s.each 28 (fun o s => s.setBind o { (s.bind o) with w := rampStep (s.bind o).w }))

/-- The state of the JACK page (R328). -/
def jackPageState (s : State) : Nat :=
  if (List.range 12).all (fun j => !s.on (F.JK_CFG_EN j)) then 0
  else if s.svc.intFrom.isNone then 1
  else if !s.on F.PWR_STATUS_VAH_OK then 3 else 2

/-- JACK_AMBIG. -/
def execJackAmbig (j : Fin 12) (s : State) : Host.Outcome State Fault Refusal :=
  s.ticking (
    let d := s.fld (F.JK_CFG_DECIDE j.val)
    let x := s.jk j.val
    let due : Bool := match x.start with
      | none => false
      | some t => decide (t + msCyc d ≤ ((s.tick * 5120 + s.cyc : Nat) : Int))
    .next (if d != 0 && due && jackState j.val s == 0 && s.on (F.JK_CFG_EN j.val) && !s.on (F.JK_STAT_AMBIG j.val) then
      jackPost j.val 4 x.lastT (s.fld (F.JK_LVL_LEVEL j.val)) (s.setFld (F.JK_STAT_AMBIG j.val) 1)
    else s))

/-- JACK_FORCE_REMOVED. -/
def execJackForceRemoved (cyc : Fin 5120) (j : Fin 12) (s : State) : Host.Outcome State Fault Refusal :=
  s.heard (
    .next (jackForceWrite j.val 1 (s.land cyc.val)))

/-- JACK_FORCE_INSERTED. -/
def execJackForceInserted (cyc : Fin 5120) (j : Fin 12) (s : State) : Host.Outcome State Fault Refusal :=
  s.heard (
    .next (jackForceWrite j.val 2 (s.land cyc.val)))

/-- JACK_FORCE_RELEASE. -/
def execJackForceRelease (cyc : Fin 5120) (j : Fin 12) (s : State) : Host.Outcome State Fault Refusal :=
  s.heard (
    .next (jackForceWrite j.val 3 (s.land cyc.val)))

/-- PLUG_WAIT_END. Outputs 0-19, speaker channels 20-27 (R323, R325). -/
def execPlugWaitEnd (o : Fin 28) (s : State) : Host.Outcome State Fault Refusal :=
  s.ticking (
    let b := s.bind o.val
    .next (match b.wait with
      | none => s
      | some d => if s.tick < d then s
        else if jackPremute o.val s then s.setBind o.val { b with wait := none }
        else s.setBind o.val { b with wait := none, w := rampGo true (8 * s.fld F.JACK_POP_CFG_PLUG_RAMP) b.w }))

end Sys2Proof.Machine
end

