-- ==== Sys2Proof/Machine/Out.lean ====
section
/-!
DEFINITION. Line and headphone outputs: cores, takeover, readback, headband, mute and the pop ramps (R294-R315, R324-R326).
-/

namespace Sys2Proof.Machine

/-- Output `o`. -/
def State.och (s : State) (o : Nat) : OutCh := SMap.get (fun _ => {}) s.out o
def State.setOch (o : Nat) (x : OutCh) (s : State) : State := { s with out := SMap.set (fun _ => {}) s.out o x }

/-- Whether the supervisory readback is available: a converter is in use (R173). -/
def svcAvailable (s : State) : Bool := !(s.svc.seenA && s.svc.seenB)

/-- Whether an output cannot play for a fault of its own. -/
def outFaulted (x : OutCh) : Bool := x.dead || x.fault != 0

/-- Whether an output is to be powered up (R325, R536). -/
def outWants (o : Nat) (s : State) : Bool :=
  s.on (F.OUT_CFG_EN o) && !outFaulted (s.och o) && !s.isolated 0 o && psTarget s == 2 && s.linkUp 0
    && pllLocked 1 s && s.on F.PWR_STATUS_VAH_OK && s.supplied.testBit 1

/-- OSTATE of an output (R313). -/
def outState (o : Nat) (s : State) : Nat :=
  let x := s.och o
  if s.isolated 0 o then 5
  else if !s.on (F.OUT_CFG_EN o) || !psAwake s then 0
  else if x.fault ≠ 0 then 4
  else if !pllLocked 1 s || !s.on F.PWR_STATUS_VAH_OK || (1 ≤ x.phase && x.phase ≤ 3) then 1
  else if x.aSeen || x.bSeen || x.disagree || x.rbFault then 3
  else 2

/-- The guard field: both cores, one alone, none (R301, R305). -/
def outGuard (o : Nat) (s : State) : Nat :=
  let x := s.och o
  let f := s.fld (F.OUT_CFG_CORE_FORCE o)
  let a := !x.aSeen && f != 2
  let b := !x.bSeen && f != 1
  if a && b then 0 else if a then 1 else if b then 2 else 3

/-- OUT_STAT and OUT_SUMMARY shown (R313, R315). -/
def outShow (o : Nat) (s : State) : State :=
  let x := s.och o
  let m := if rampFull x.mute then 0 else if x.mute.up then 3 else if x.mute.pos = 0 then 2 else 1
  let st := outState o s
  let s := ((s.setFld (F.OUT_STAT_OSTATE o) st).setFld (F.OUT_STAT_MSTATE o) m).setFld (F.OUT_STAT_GUARD o) (outGuard o s)
  let bit : Fld := ⟨F.OUT_SUMMARY_NOT_READY.addr, o, o⟩
  s.setOn bit (s.on (F.OUT_CFG_EN o) && st != 2)

/-- The weights of the cores in force: a failed or diverted core has none (R301, R305). -/
def outWeights (o : Nat) (s : State) : State :=
  let x := s.och o
  let f := s.fld (F.OUT_CFG_CORE_FORCE o)
  if f = 1 || x.bBad then s.setOch o { x with wA := 128, wB := 0 }
  else if f = 2 || x.aBad then s.setOch o { x with wA := 0, wB := 128 }
  else s

/-- No valid signal: the mute switch closes at once (R303). -/
def outCut (o : Nat) (s : State) : State :=
  s.setOch o { s.och o with pop := {}, phase := 0, switch := false }

/-- Both cores, the forced core or the stage failed on the converter die (R303): a test of a core is abandoned. -/
def outDie (o code : Nat) (s : State) : State :=
  if (s.och o).dead then s
  else
    let s := (outCut o (s.setOch o { s.och o with dead := true })).endTest 0x1B o
    s.note 1 (s.tick + 1) { act := (3, o, code) }

/-- A check of the die fails: a restore test under way does not pass (R305). -/
def outTestFail (o : Nat) (s : State) : State :=
  s.when (s.testOf 0x1B o).isSome (fun s => s.setOch o { s.och o with testBad := true })

/-- A core is declared failed: diverted at once, reported in the control burst of the next tick (R301). -/
def outCoreFail (o core : Nat) (s : State) : State :=
  let s := outTestFail o s
  let x := s.och o
  if (if core = 0 then x.aBad else x.bBad) then s
  else
    let x := if core = 0 then { x with aBad := true } else { x with bBad := true }
    let s := outWeights o (s.setOch o x)
    let s := s.note 1 (s.tick + 1) { act := (1, o, core) }
    let f := s.fld (F.OUT_CFG_CORE_FORCE o)
    s.when ((x.aBad && x.bBad) || (f == 1 && x.aBad) || (f == 2 && x.bBad)) (outDie o 0x66C4)

/-- DIFF with no core check failed: the converter die acts on its DIS_ACT and reports (R302, R303). -/
def outDiff (o : Nat) (s : State) : State :=
  let s := outTestFail o s
  let x := s.och o
  if x.aBad || x.bBad then s
  else
    let act := s.dieFld 0 (F.OUT_CFG_DIS_ACT o)
    let s := s.when (act != 0) (fun s => outCut o (s.setOch o { s.och o with dead := true }))
    s.note 1 (s.tick + 1) { act := (2, o, act) }

/-- The core die takes a report of the converter die (R301-R303): 1 a core, 2 DIFF and whether the die closed the switch for it, 3 both
cores or the stage. -/
def outNoted (kind o arg : Nat) (s : State) : State :=
  let x := s.och o
  let s :=
    if kind = 1 then
      let s := s.setOch o (if arg = 0 then { x with aSeen := true } else { x with bSeen := true })
      let s := s.bump (F.OUT_CNT2_CORE_F_CNT o) (F.OUT_CNT2_CF_SAT o)
      (s.report (if arg = 0 then 0x66C1 else 0x66C2) o 1).raise Pg.out 0
    else if kind = 2 then
      let s := s.bump (F.OUT_CNT2_DIS_CNT o) (F.OUT_CNT2_DS_SAT o)
      if x.disagree then s
      else
        let s := (s.report 0x66C3 o (if arg = 1 then 4 else 3)).raise Pg.out 1
        let s := s.setOch o { s.och o with disagree := true }
        if arg = 1 then s.setOch o { s.och o with fault := 0x66C3 } else s
    else (s.setOch o { x with fault := arg }).report arg o 4
  outShow o s

/-- An output trips: it ramps to 0 over RAMP × 8 smp, closes its mute switch and shows FAULTED (R304, R307, R310). -/
def outTrip (o code : Nat) (s : State) : State :=
  let x := s.och o
  if outFaulted x then s
  else
    let len := 8 * s.fld (F.OUT_CTRL_RAMP o)
    outShow o ((s.setOch o { x with fault := code, trip := rampGo false len x.trip }).report code o 4)

/-- Peak full scale of LEVEL 0 in 0.1 mV, 2,828 mV and 1,414 mV (R296, R310). -/
def outPeak (o : Nat) : Nat := if o < 16 then 28280 else 14140

/-- Whether the DC estimate lies beyond the DC headband (R310). -/
def outDcBeyond (o : Nat) (s : State) : Bool :=
  let x := s.och o
  let lim := s.fld (F.OUT_HB_HB_DC o)
  lim != 0 && decide (lim * 50 * 2 ^ 27 * 2 ^ x.level < x.dc.natAbs * outPeak o)

/-- Whether anything outranks MUTE = 0 (R312, R324). -/
def outHeld (o : Nat) (s : State) : Bool :=
  let x := s.och o
  s.isolated 0 o || outFaulted x || psTarget s != 2 || !rampFull (s.bind o).w || jackHolds o s || x.phase != 4

/-- The mute weight follows MUTE: down at once, up once nothing outranks it (R312, R324). -/
def outMuteGo (o : Nat) (s : State) : State :=
  let x := s.och o
  let len := 8 * s.fld (F.OUT_CTRL_RAMP o)
  if s.on (F.OUT_CTRL_MUTE o) then s.setOch o { x with mute := rampGo false len x.mute }
  else if x.mute.up || outHeld o s then s
  else s.setOch o { x with mute := rampGo true len x.mute }

/-- A write of MUTE: the weight moves from the next tick on (R312). -/
def outMuteWrite (o : Nat) (m : Bool) (s : State) : State := outShow o (s.setOn (F.OUT_CTRL_MUTE o) m)

/-- The power-up and power-down ramps start as the output is wanted or not (R325, R326). -/
def outPower (o : Nat) (s : State) : State :=
  let x := s.och o
  let ms := 192
  if !s.on F.PWR_STATUS_VAH_OK then outCut o (s.setOch o { x with amp := false })
  else if outFaulted x then (if rampRests x.trip then outCut o s else s)
  else if outWants o s then
    if x.phase = 0 then s.setOch o { x with phase := 1, amp := true, due := s.tick + ms * s.fld F.JACK_POP_CFG_BIAS_T }
    else s
  else if x.phase = 1 then s.setOch o { x with phase := 0, amp := !s.linkUp 0 || !pllLocked 1 s }
  else if x.phase = 2 then s.setOch o { x with phase := 6, due := s.tick + ms }
  else if x.phase = 3 ∨ x.phase = 4 then
    s.setOch o { x with phase := 5, pop := rampGo false (64 * s.fld F.JACK_POP_CFG_PD_RAMP) x.pop }
  else s

/-- A timed step of the power-up ramp ends (R325). -/
def outUpStep (o : Nat) (s : State) : State :=
  let x := s.och o
  if x.phase = 1 ∧ x.due ≤ s.tick then s.setOch o { x with phase := 2, switch := true, due := s.tick + 192 }
  else if x.phase = 2 ∧ x.due ≤ s.tick then
    s.setOch o { x with phase := 3, pop := { pos := 0, len := 64 * s.fld F.JACK_POP_CFG_PU_RAMP, up := true } }
  else if x.phase = 3 ∧ rampRests x.pop then outShow o (s.setOch o { x with phase := 4 })
  else s

/-- A timed step of the power-down ramp ends; a held power-up starts from step 1 (R325, R326). -/
def outDownStep (o : Nat) (s : State) : State :=
  let x := s.och o
  if x.phase = 5 ∧ rampRests x.pop then s.setOch o { x with phase := 6, pop := {}, due := s.tick + 192 }
  else if x.phase = 6 ∧ x.due ≤ s.tick then
    outPower o (s.setOch o { x with phase := 0, switch := false, amp := x.amp && (!s.linkUp 0 || !pllLocked 1 s) })
  else s

/-- A preset and level taken into use; the interpolator restarts with its history cleared (R299). -/
def outApply (o : Nat) (p : Nat × Nat) (s : State) : State :=
  s.setOch o { s.och o with preset := p.1, level := p.2, hist := [] }

/-- The switch to a preset and level starts: 32 smp down (R299). -/
def outSwitchGo (o : Nat) (p : Nat × Nat) (s : State) : State :=
  s.setOch o { s.och o with sw := 1, swTo := p, swHeld := none, swDue := s.tick + 32, swW := { pos := 32, len := 32, up := false } }

/-- A press of a preset or level: over 64 smp, after a switch under way, at once where nothing is heard (R299). -/
def outPressPreset (o : Nat) (s : State) : State :=
  let x := s.och o
  let p := (s.fld (F.OUT_CFG_PRESET o), s.fld (F.OUT_CFG_LEVEL o))
  let last := if x.sw = 0 then (x.preset, x.level) else x.swHeld.getD x.swTo
  if p = last then s
  else if x.sw ≠ 0 then s.setOch o { x with swHeld := some p }
  else if x.phase ≠ 4 ∨ !rampFull x.mute ∨ !rampFull (s.bind o).w ∨ outState o s ≠ 2 then outApply o p s
  else outSwitchGo o p s

/-- A press of CORE_FORCE weights the cores; a forced core that is out leaves the output without a signal (R303, R305). -/
def outPressForce (o : Nat) (s : State) : State :=
  let x := s.och o
  let f := s.fld (F.OUT_CFG_CORE_FORCE o)
  let s := outWeights o (s.setOch o { x with wA := 64, wB := 64 })
  s.when ((f == 1 && x.aBad) || (f == 2 && x.bBad)) (outDie o 0x66C4)

/-- A press of the OUT page (R299, R305, R325). -/
def outPress (old s : State) : State :=
  s.each 20 (fun o s =>
    let s := outPressPreset o s
    let s := s.when (old.fld (F.OUT_CFG_CORE_FORCE o) != s.fld (F.OUT_CFG_CORE_FORCE o)) (outPressForce o)
    outShow o (outPower o s))

/-- The switch to the new preset at tick s + 32 (R299). -/
def outSwitch (o : Nat) (s : State) : State :=
  let x := s.och o
  if x.sw = 1 ∧ x.swDue ≤ s.tick then
    let s := outApply o x.swTo s
    s.setOch o { s.och o with sw := 2, swW := { pos := 0, len := 32, up := true } }
  else s

/-- The weights of an output one value on; a held preset press follows step 3 (R299, R305, R312). -/
def outRamps (o : Nat) (s : State) : State :=
  let x := s.och o
  let f := s.fld (F.OUT_CFG_CORE_FORCE o)
  let glide := f == 0 && !x.aBad && !x.bBad
  let to64 := fun (w : Nat) => if !glide then w else if w < 64 then w + 1 else if 64 < w then w - 1 else w
  let x := { x with mute := rampStep x.mute, trip := rampStep x.trip, pop := rampStep x.pop, swW := rampStep x.swW,
                    wA := to64 x.wA, wB := to64 x.wB }
  let s := s.setOch o x
  if x.sw = 2 ∧ rampRests x.swW then
    match x.swHeld with
    | some p => if p = (x.preset, x.level) then s.setOch o { x with sw := 0, swHeld := none } else outSwitchGo o p s
    | none => s.setOch o { x with sw := 0 }
  else s

/-- The value of a tick sent to an output: clamped to the headband, estimated, kept (R306, R308, R310). -/
def outSend (o : Nat) (s : State) : State :=
  let v := sval (s.sink o)
  let pk := s.fld (F.OUT_HB_HB_PEAK o)
  let top := Config.real "dbHalf" [(min 120 pk : Nat)]
  let c := if pk = 0 then v else clampInt (-top) top v
  let en := s.on (F.OUT_CFG_EN o)
  let s := s.when (en && decide (c ≠ v)) (fun s =>
    (s.bump (F.OUT_CNT1_HB_CLIP_CNT o) (F.OUT_CNT1_HC_SAT o)).raise Pg.out 5)
  let x := s.och o
  let x := { x with sent := (c :: x.sent).take 64, hist := (c :: x.hist).take 64, dc := if en then stepTo "pole1Hz" x.dc c else 0 }
  let s := s.setOch o x
  let s := s.setOch o { x with dcRun := if en && outDcBeyond o s then min 19200 (x.dcRun + 1) else 0 }
  if en ∧ s.tick % 256 = 0 then
    s.post (Adr.OUT_DCV o) (BitVec.ofNat 32 (unsigned 23 (roundRat (x.dc * outPeak o) (2 ^ (27 + x.level)))))
  else s

/-- What stands between the codes of an output and its pin: preset, level and the weights; nothing where the mute switch is closed
(R295, R306). -/
def outPath (o : Nat) (s : State) : List Int :=
  let x := s.och o
  if !x.switch then []
  else [(x.preset : Int), (x.level : Int), (rampWeight x.mute : Int), (rampWeight x.pop : Int), (rampWeight x.trip : Int),
    (rampWeight x.swW : Int), (rampWeight (s.bind o).w : Int), (x.wA : Int), (x.wB : Int)]

/-- The outputs one tick on, apart from the values they send (outSend). -/
def outTick (s : State) : State :=
  s.each 20 (fun o s =>
    let s := outPower o (outRamps o (outMuteGo o s))
    outShow o (s.setOch o { s.och o with path := (outPath o s :: (s.och o).path).take 16 }))

/-- The current-limit status words of the last tick (R304). -/
def outLimits (limited : List Nat) (s : State) : State :=
  s.each 20 (fun o s =>
    let l := limited.contains o
    let x := s.och o
    let s := (s.setOch o { x with ilimRun := if l then min 1920 (x.ilimRun + 1) else 0 }).setOn (F.OUT_STAT_ILIM o) l
    let s := s.when (l && x.fault == 0x66C8) (outTestFail o)
    s.when l (State.bump (F.OUT_CNT2_ILIM_CNT o) (F.OUT_CNT2_IL_SAT o)))

/-- The pin signal that the codes predict at the instant of a reading, `age` ticks ago in a slot, in units of 2^-27: 0 behind the
closed mute switch, else a cubic that is open (R306, R307; log entry 3). -/
def outPredict (o slot age : Nat) (s : State) : Int :=
  let x := s.och o
  match x.path.getD age [] with
  | [] => 0
  | p => Config.real "outReadback" ((slot : Int) :: p ++ x.sent.drop age)

/-- A reading of rotation index `o` reaches OUT (R306, R307). -/
def outReading (o slot : Nat) (v : SvcVal) (s : State) : State :=
  let lim := s.fld (F.OUT_RB_CFG_RB_LIM o)
  if lim = 0 ∨ v.sub ∨ v.uns then s
  else
    let num := v.code * 2 ^ 27 - 26214 * outPredict o slot (s.tick - v.tick) s
    let err := clampInt (-(2 ^ 22)) (2 ^ 22 - 1) (roundRat (num * 10000) (26214 * 2 ^ 27))
    let s := s.post (Adr.OUT_RBE o) (BitVec.ofNat 32 (unsigned 23 err))
    let bad := decide (lim * 26214 * 2 ^ 27 < num.natAbs * 1000)
    let s := (s.setOn (F.OUT_STAT_RB_BAD o) bad).when bad (State.bump (F.OUT_CNT1_RB_MIS_CNT o) (F.OUT_CNT1_RM_SAT o))
    let x := s.och o
    let n := s.fld (F.OUT_RB_CFG_RB_N o)
    let run := if bad then min 16 (x.rbRun + 1) else 0
    let s := s.setOch o { x with rbRun := run, rbFault := x.rbFault && bad }
    if n ≠ 0 ∧ run = n ∧ x.rbRun + 1 = n then
      let s := s.raise Pg.out 2
      if s.on (F.OUT_CFG_RB_ACT o) then outTrip o 0x66C6 s
      else outShow o ((s.setOch o { s.och o with rbFault := true }).report 0x66C6 o 3)
    else outShow o s

/-- Comparing stops while the readback is unavailable (R307). -/
def outReadbackLost (s : State) : State :=
  if svcAvailable s then s
  else s.each 20 (fun o s => (s.setOch o { s.och o with rbRun := 0 }).setFld (F.OUT_STAT_RB_BAD o) 0)

/-- A write of RESTORE (R305); the stage of a FAULTED output is tested with the mute switch closed. -/
def outRestore (o : Nat) (s : State) : State :=
  let st := outState o s
  if st ≠ 3 ∧ st ≠ 4 then s
  else
    let s := (s.setOch o { s.och o with testBad := false }).when (st == 4) (outCut o)
    s.startTest 0x1B o 0

/-- The end of a restore test (R305). -/
def outRestoreEnd (o : Nat) (pass : Bool) (s : State) : State :=
  let x := s.och o
  if pass && !x.testBad && (x.fault != 0x66C7 || !outDcBeyond o s) then
    let s := s.setOch o { x with aBad := false, bBad := false, dead := false, aSeen := false, bSeen := false, fault := 0,
                                 disagree := false, rbFault := false, rbRun := 0, ilimRun := 0, dcRun := 0, trip := rampAt1 }
    let s := s.when (x.aBad && x.bBad) (fun s => s.setOch o { s.och o with wA := 64, wB := 64 })
    outShow o (outPower o (outWeights o (s.setFld (F.OUT_STAT_DC_TRIP o) 0)))
  else
    let code := if x.fault ≠ 0 then x.fault else if x.aSeen then 0x66C1 else if x.bSeen then 0x66C2
      else if x.disagree then 0x66C3 else 0x66C6
    (s.bump (F.OUT_CNT2_CORE_F_CNT o) (F.OUT_CNT2_CF_SAT o)).report code o 0

/-- The state of the OUT page (R90, R313). -/
def outPageState (s : State) : Nat :=
  let on := (List.range 20).filter (fun o => s.on (F.OUT_CFG_EN o))
  let sts := on.map (fun o => outState o s)
  if on.isEmpty then 0
  else if sts.contains 5 then 5
  else if sts.contains 4 then 4
  else if sts.contains 3 || !s.on F.PWR_STATUS_VAH_OK then 3
  else if sts.contains 1 then 1
  else if sts.contains 2 then 2 else 0

/-- Whether every output is quiet (R95, R326). -/
def outsQuiet (s : State) : Bool := (List.range 20).all (fun o => (s.och o).phase == 0)

/-- DAC_CORE_FAIL. Core 2o + c of output o (R294, R301). -/
def execDacCoreFail (core : Fin 40) (s : State) : Host.Outcome State Fault Refusal := s.ticking (.next (outCoreFail (core.val / 2) (core.val % 2) s))

/-- CORE_DISAGREE: a DIFF event with no core check failed (R302). -/
def execCoreDisagree (o : Fin 20) (s : State) : Host.Outcome State Fault Refusal :=
  s.ticking (
    .next (outDiff o.val s))

/-- OUTPUT_STAGE_FAIL. -/
def execOutputStageFail (o : Fin 20) (s : State) : Host.Outcome State Fault Refusal :=
  s.ticking (.next (outDie o.val 0x66C5 (outTestFail o.val s)))

/-- OUTPUT_ILIM_TRIP. -/
def execOutputIlimTrip (o : Fin 20) (s : State) : Host.Outcome State Fault Refusal :=
  s.ticking (
    .next (if 1920 ≤ (s.och o.val).ilimRun ∧ !outFaulted (s.och o.val) then outTrip o.val 0x66C8 (s.raise Pg.out 4) else s))

/-- OUTPUT_DC_TRIP. -/
def execOutputDcTrip (o : Fin 20) (s : State) : Host.Outcome State Fault Refusal :=
  s.ticking (
    .next (if 19200 ≤ (s.och o.val).dcRun ∧ !outFaulted (s.och o.val) then
      outTrip o.val 0x66C7 ((s.raise Pg.out 3).setFld (F.OUT_STAT_DC_TRIP o.val) 1) else s))

/-- OUTPUT_MUTE. -/
def execOutputMute (o : Fin 20) (s : State) : Host.Outcome State Fault Refusal := s.heard (.next (outMuteWrite o.val true s))

/-- OUTPUT_UNMUTE. -/
def execOutputUnmute (o : Fin 20) (s : State) : Host.Outcome State Fault Refusal := s.heard (.next (outMuteWrite o.val false s))

/-- OUTPUT_RESTORE. -/
def execOutputRestore (o : Fin 20) (s : State) : Host.Outcome State Fault Refusal := s.heard (.next (outRestore o.val s))

/-- OUTPUT_PRESET_SWITCH. -/
def execOutputPresetSwitch (o : Fin 20) (s : State) : Host.Outcome State Fault Refusal := s.ticking (.next (outSwitch o.val s))

/-- POWER_UP_RAMP_STEP. -/
def execPowerUpRampStep (o : Fin 20) (s : State) : Host.Outcome State Fault Refusal := s.ticking (.next (outShow o.val (outUpStep o.val s)))

/-- POWER_DOWN_RAMP_STEP. -/
def execPowerDownRampStep (o : Fin 20) (s : State) : Host.Outcome State Fault Refusal := s.ticking (.next (outShow o.val (outDownStep o.val s)))

end Sys2Proof.Machine
end

