-- ==== Sys2Proof/Machine/Cv.lean ====
section
/-!
DEFINITION. Control-voltage outputs, code queues, timers and readback (R330-R343).
-/

namespace Sys2Proof.Machine

/-- CV channel `n`, and timer `k`. -/
def State.cvch (s : State) (n : Nat) : CvCh := SMap.get (fun _ => {}) s.cv.ch n
def State.setCvch (n : Nat) (x : CvCh) (s : State) : State :=
  { s with cv := { s.cv with ch := SMap.set (fun _ => {}) s.cv.ch n x } }
def State.tmr (s : State) (k : Nat) : Tmr := SMap.get (fun _ => {}) s.cv.tmr k
def State.setTmr (k : Nat) (x : Tmr) (s : State) : State :=
  { s with cv := { s.cv with tmr := SMap.set (fun _ => {}) s.cv.tmr k x } }

/-- OSTATE of a channel (R342). -/
def cvState (n : Nat) (s : State) : Nat :=
  let x := s.cvch n
  if s.isolated 1 n then 5
  else if !s.on (F.CV_CFG_EN n) || !psAwake s then 0
  else if x.fault ≠ 0 then 4
  else if !s.on F.PWR_STATUS_VAH_OK || x.rbFault then 3
  else if !pllLocked 1 s then 1
  else 2

/-- CV_STAT and CV_SUMMARY shown (R342, R343). -/
def cvShow (n : Nat) (s : State) : State :=
  let st := cvState n s
  let bit : Fld := ⟨F.CV_SUMMARY_NOT_READY.addr, n, n⟩
  ((s.setFld (F.CV_STAT_OSTATE n) st).setOn (F.CV_STAT_HELD n) (s.on (F.CV_CTRL_HOLD n))).setOn bit
    (s.on (F.CV_CFG_EN n) && st != 2)

/-- The gain factor of a channel (R331). -/
def cvGain (n : Nat) (s : State) : Nat := if s.on (F.CV_CFG_GAIN n) then 2 else 1

/-- The window of a channel, in units of 10 µV (R337). -/
def cvLow (n : Nat) (s : State) : Int :=
  let r : Int := 500000 * cvGain n s
  clampInt (-r) r (100 * clampInt (-10000) 10000 (s.int (F.CV_HB_HB_VMIN n)))
def cvHigh (n : Nat) (s : State) : Int :=
  let r : Int := 500000 * cvGain n s
  clampInt (-r) r (100 * clampInt (-10000) 10000 (s.int (F.CV_HB_HB_VMAX n)))

/-- A voltage within the window; an empty window is its bottom (R337). -/
def cvClamp (n : Nat) (v : Int) (s : State) : Int :=
  if cvHigh n s < cvLow n s then cvLow n s else clampInt (cvLow n s) (cvHigh n s) v

/-- V_out moved towards a target by the slew limit (R333, R337). -/
def cvSlew (n : Nat) (v target : Int) (s : State) : Int :=
  let k : Int := s.fld (F.CV_HB_SLEW_HB_SLEW n)
  if k = 0 then target else clampInt (v - k) (v + k) target

/-- The source code of a tick: the sink rounded to 18 bits, or the code of the queue (R333). -/
def cvSource (n : Nat) (s : State) : Int :=
  if s.on (F.CV_CFG_SRC n) then (s.cvch n).code
  else clampInt (-131072) 131071 (roundEven (sval (s.sink (0x020 + n))) 10)

/-- The voltage of a code, in units of 10 µV, and the code of a voltage (R331, R333). -/
def cvVolt (n : Nat) (c : Int) (s : State) : Int := roundRat (c * 500000 * cvGain n s) 131072
def cvCode (n : Nat) (v : Int) (s : State) : Int := clampInt (-131072) 131071 (roundRat (v * 131072) (500000 * cvGain n s))

/-- A voltage taken into use: sent as a code, kept for the readback (R333, R340). -/
def cvPut (n : Nat) (v : Int) (s : State) : State :=
  let x := s.cvch n
  let moved := decide (100 * s.fld (F.CV_RB_CFG_RB_LIM n) < (v - x.v).natAbs)
  let s := s.setCvch n { x with v := v, dac := cvCode n v s, hist := (v :: x.hist).take 8,
                                change := if moved then some s.tick else x.change }
  s.when (s.on (F.CV_CFG_EN n)) (State.post (Adr.CV_VOUT n) (BitVec.ofNat 32 (unsigned 23 v)))

/-- Whether a channel stands at code 0 with no slew (R338, R339, R341). -/
def cvZero (n : Nat) (s : State) : Bool :=
  !s.on F.PWR_STATUS_VAH_OK || !psAwake s || s.cv.refBad || s.cv.refHold.isSome || (s.cvch n).fault != 0
    || (!pllLocked 1 s && !pllDropped 1 s)

/-- The value of a tick (R333, R338, R339, R536): the die holds its last code without its link or PLL_M (R25, R75). -/
def cvValue (n : Nat) (s : State) : State :=
  let x := s.cvch n
  if cvZero n s then cvPut n 0 ((s.setFld (F.CV_STAT_CLAMP n) 0).setFld (F.CV_STAT_SLEWING n) 0)
  else if !s.linkUp 0 || !pllLocked 1 s then cvPut n x.v (s.setFld (F.CV_STAT_SLEWING n) 0)
  else if s.isolated 1 n || !s.on (F.CV_CFG_EN n) then
    let v := cvSlew n x.v 0 s
    cvPut n v ((s.setFld (F.CV_STAT_CLAMP n) 0).setOn (F.CV_STAT_SLEWING n) (v != 0))
  else
    let vt := cvVolt n (cvSource n s) s
    let vc := cvClamp n vt s
    let s := (s.setOn (F.CV_STAT_CLAMP n) (vc != vt)).when (vc != vt) (fun s =>
      (s.bump (F.CV_CNT1_HB_CLIP_CNT n) (F.CV_CNT1_HC_SAT n)).raise Pg.cv 3)
    let v := cvSlew n x.v vc s
    let s := s.setOn (F.CV_STAT_SLEWING n) (v != vc)
    let keep := s.on (F.CV_CTRL_HOLD n) || psTarget s != 2
    cvPut n (if keep then x.v else v) s

/-- The next code word of a channel's queue, if its head holds one; trailing bytes are discarded (R335). -/
def cvWord (n q : Nat) : Nat → State → Option Word × State
  | 0, s => (none, s)
  | fuel + 1, s =>
    match qHead s q with
    | none => (none, s)
    | some g =>
      let left := qReady s q
      if 4 ≤ left then (some (g.words.getD ((s.queue q).rd / 4) 0), qAdvance q 4 s)
      else if !g.closed then (none, s)
      else if left = 0 then cvWord n q fuel (qPass q s)
      else cvWord n q fuel ((qAdvance q left s).bump (F.CV_CNT2_FRAG_CNT n) (F.CV_CNT2_FR_SAT n))

/-- Whether a timer's fire is due in this tick and has not come yet (R336). -/
def tmrDue (k : Nat) (s : State) : Bool := ((s.tmr k).next.map (fun d => decide (d ≤ s.tick))).getD false

/-- Whether a channel's value of this tick waits for the fire of its timer (R335, R336). -/
def cvWaits (n : Nat) (s : State) : Bool :=
  s.on (F.CV_CFG_EN n) && s.on (F.CV_CFG_SRC n) && psAwake s && tmrDue (s.fld (F.CV_CFG_TIMER n)) s

/-- The channels one tick on: a value that a fire of this tick decides comes with the fire (R333, R335). -/
def cvTick (s : State) : State :=
  let s := s.each 16 (fun n s =>
    if cvWaits n s then
      let q := s.fld (F.CV_CFG_QID n)
      s.setCvch n { s.cvch n with avail := (cvWord n q ((s.queue q).sigs.length + 1) s).1.isSome }
    else cvShow n (cvValue n s))
  if svcAvailable s then s
  else s.each 16 (fun n s => (s.setCvch n { s.cvch n with rbRun := 0 }).setFld (F.CV_STAT_RB_BAD n) 0)

/-- A fire finds no word (R335). -/
def cvUnder (n : Nat) (s : State) : State :=
  ((s.setFld (F.CV_STAT_UNDER n) 1).bump (F.CV_CNT2_UNDERRUN n) (F.CV_CNT2_UN_SAT n)).raise Pg.cv 2

/-- A fire reaches a channel: a word that stood at the head of its queue at cycle 0 is taken (R335). -/
def cvFire (n : Nat) (s : State) : State :=
  let x := s.cvch n
  if 0 < x.rep then (s.setCvch n { x with rep := x.rep - 1 }).setFld (F.CV_STAT_UNDER n) 0
  else
    let q := s.fld (F.CV_CFG_QID n)
    if !x.avail then cvUnder n s
    else match cvWord n q ((s.queue q).sigs.length + 1) s with
    | (some w, s) => (s.setCvch n { s.cvch n with code := signed 18 (w.bits 31 14), rep := w.bits 13 0 }).setFld (F.CV_STAT_UNDER n) 0
    | (none, s) => cvUnder n s

/-- A timer fires: every bound channel that consumes takes its next code, and the value of the tick follows (R335, R336, R339). -/
def tmrFire (k : Nat) (s : State) : State :=
  let t := s.tmr k
  match t.next with
  | none => s
  | some d =>
    if s.tick < d then s
    else
      let bound := (List.range 16).filter (fun n => cvWaits n s && s.fld (F.CV_CFG_TIMER n) == k)
      let s := (s.setTmr k { t with next := some (d + t.period) }).setFld (F.TMR_CTRL_RUNNING k) 1
      s.eachOf bound (fun n s => cvShow n (cvValue n (s.when ((s.cvch n).fault == 0) (cvFire n))))

/-- A write of ARM (R336). -/
def tmrArm (k : Nat) (s : State) : State :=
  let start := s.fld (F.TMR_START_HI_START_HI k) * 2 ^ 32 + s.fld (F.TMR_START_LO_START_LO k)
  let p := s.fld (F.TMR_PERIOD_PERIOD k)
  let late := decide (start ≤ s.tick)
  let s := s.when late (fun s => (s.bump (F.TMR_CTRL_LATE_CNT k) (F.TMR_CTRL_LT_SAT k)).raise Pg.cv 5)
  let s := s.setTmr k { period := p, next := if p = 0 then none else if late then some (s.tick + 1) else some start }
  (s.setFld (F.TMR_CTRL_ARMED k) 1).setFld (F.TMR_CTRL_RUNNING k) 0

/-- A write of STOP (R336). -/
def tmrStop (k : Nat) (s : State) : State :=
  ((s.setTmr k {}).setFld (F.TMR_CTRL_ARMED k) 0).setFld (F.TMR_CTRL_RUNNING k) 0

/-- A press of the CV page (R338). -/
def cvPress (old s : State) : State :=
  let s := s.when (old.fld F.CV_REF_REF_SEL != s.fld F.CV_REF_REF_SEL) (fun s =>
    { s with cv := { s.cv with refHold := some (s.tick + 16) } })
  s.each 16 (fun n s =>
    let x := s.cvch n
    let r : Int := 500000 * cvGain n s
    let up := s.on (F.CV_CFG_EN n) && !old.on (F.CV_CFG_EN n)
    cvShow n (s.setCvch n { x with v := clampInt (-r) r x.v, code := if up then 0 else x.code, rep := if up then 0 else x.rep }))

/-- The current-limit status words of the last tick (R341). -/
def cvLimits (limited : List Nat) (s : State) : State :=
  s.each 16 (fun n s =>
    let l := limited.contains n
    let x := s.cvch n
    (s.setCvch n { x with ilimRun := if l then min 1920 (x.ilimRun + 1) else 0 }).setOn (F.CV_STAT_ILIM n) l)

/-- A channel goes to code 0 and FAULTED (R340, R341). -/
def cvFail (n code : Nat) (s : State) : State :=
  let x := s.cvch n
  if x.fault ≠ 0 then s else cvShow n ((s.setCvch n { x with fault := code, v := 0, dac := 0 }).report code n 4)

/-- A reading of a channel's rotation index, sampled in tick `v.tick` at cycle 240 × slot (R340). -/
def cvReading (n slot : Nat) (v : SvcVal) (s : State) : State :=
  let lim := s.fld (F.CV_RB_CFG_RB_LIM n)
  let x := s.cvch n
  let settling := match x.change with
    | none => false
    | some t => decide (v.tick ≤ t + 4)
  if lim = 0 || v.sub || v.uns || settling then s
  else
    let back := if 15 ≤ slot then 1 else 2
    let age := (s.tick + back) - v.tick
    let exp := x.hist.getD age x.v
    let num := v.code * 1000000 - exp * 32768
    let s := s.post (Adr.CV_RBE n) (BitVec.ofNat 32 (unsigned 23 (roundRat num 327680)))
    let bad := decide (lim * 3276800 < num.natAbs)
    let s := (s.setOn (F.CV_STAT_RB_BAD n) bad).when bad (State.bump (F.CV_CNT1_RB_MIS_CNT n) (F.CV_CNT1_RM_SAT n))
    let k := s.fld (F.CV_RB_CFG_RB_N n)
    let run := if bad then min 16 (x.rbRun + 1) else 0
    let s := s.setCvch n { s.cvch n with rbRun := run, rbFault := x.rbFault && bad, testBad := x.testBad || (k != 0 && decide (k ≤ run)) }
    if k ≠ 0 ∧ run = k ∧ x.rbRun + 1 = k then
      let s := s.raise Pg.cv 0
      if s.on (F.CV_CFG_RB_ACT n) then cvFail n 0x6741 s
      else cvShow n ((s.setCvch n { s.cvch n with rbFault := true }).report 0x6741 n 3)
    else cvShow n s

/-- VREF_CV leaves its window: the converter die acts, the core die learns of every excursion (R341). -/
def cvRefFail (s : State) : State :=
  { s with cv := { s.cv with refBad := true, refAt := s.tick } }.note 1 (s.tick + 1) { act := (4, 0, 0) }

/-- VREF_CV has been back in its window for 10 ms (R341). -/
def cvRefBack (s : State) : State :=
  if !s.cv.refBad || decide (s.tick < s.cv.refAt + 1920) then s
  else { s with cv := { s.cv with refBad := false } }.note 1 (s.tick + 1) { act := (4, 1, 0) }

/-- REF_OK as the core die knows it: VREF_CV is watched once the converter die runs (R341, R343; log entry 59). -/
def cvRefShow (s : State) : State := s.setOn F.CV_SUMMARY_REF_OK (s.svc.intFrom.isSome && !s.cv.refSeen)

/-- The core die takes the report of the window comparator: 0 outside, 1 back (R341). -/
def cvRefNoted (back : Nat) (s : State) : State :=
  let s := cvRefShow { s with cv := { s.cv with refSeen := back == 0 } }
  s.when (back == 0) (fun s => (s.raise Pg.cv 4).report 0x6743 0 4)

/-- A write of RESTORE, and the end of its test (R341). -/
def cvRestore (n : Nat) (s : State) : State :=
  if cvState n s = 4 then (s.setCvch n { s.cvch n with testBad := false, rbRun := 0 }).startTest 0x1D n 0 else s
def cvRestoreEnd (n : Nat) (pass : Bool) (s : State) : State :=
  let x := s.cvch n
  if pass && !x.testBad then cvShow n (s.setCvch n { x with fault := 0, rbRun := 0, rbFault := false, ilimRun := 0, v := 0 })
  else s.report x.fault n 0

/-- The state of the CV page (R341, R342). -/
def cvPageState (s : State) : Nat :=
  let on := (List.range 16).filter (fun n => s.on (F.CV_CFG_EN n))
  let sts := on.map (fun n => cvState n s)
  if s.cv.refSeen then 4
  else if on.isEmpty then 0
  else if sts.contains 5 then 5 else if sts.contains 4 then 4
  else if sts.contains 3 || !s.on F.PWR_STATUS_VAH_OK then 3
  else if sts.contains 1 then 1 else if sts.contains 2 then 2 else 0

/-- TIMER_ARM. -/
def execTimerArm (k : Fin 4) (s : State) : Host.Outcome State Fault Refusal := s.heard (.next (tmrArm k.val s))

/-- TIMER_STOP. -/
def execTimerStop (k : Fin 4) (s : State) : Host.Outcome State Fault Refusal := s.heard (.next (tmrStop k.val s))

/-- TIMER_FIRE. -/
def execTimerFire (k : Fin 4) (s : State) : Host.Outcome State Fault Refusal := s.ticking (.next (tmrFire k.val s))

/-- CV_ILIM_TRIP. -/
def execCvIlimTrip (n : Fin 16) (s : State) : Host.Outcome State Fault Refusal :=
  s.ticking (
    .next (if 1920 ≤ (s.cvch n.val).ilimRun ∧ (s.cvch n.val).fault = 0 then cvFail n.val 0x6742 (s.raise Pg.cv 1) else s))

/-- CV_VREF_FAIL. -/
def execCvVrefFail (s : State) : Host.Outcome State Fault Refusal := s.ticking (.next (cvRefFail s))

/-- CV_VREF_RECOVER. -/
def execCvVrefRecover (s : State) : Host.Outcome State Fault Refusal :=
  s.ticking (.next (cvRefBack s))

/-- CV_REF_HOLD_END. -/
def execCvRefHoldEnd (s : State) : Host.Outcome State Fault Refusal :=
  s.ticking (
    .next (match s.cv.refHold with
      | none => s
      | some d => if s.tick < d then s else { s with cv := { s.cv with refHold := none } }))

/-- CV_RESTORE. -/
def execCvRestore (n : Fin 16) (s : State) : Host.Outcome State Fault Refusal := s.heard (.next (cvRestore n.val s))

end Sys2Proof.Machine
end

