-- ==== Sys2Proof/Machine/Spk.lean ====
section
/-!
DEFINITION. Speaker channels: start and stop, identification, limits, shutdown and retry, guards, clock mute (R344-R375).
-/

namespace Sys2Proof.Machine

/-- Speaker channel `n`. -/
def State.sch (s : State) (n : Nat) : SpkCh := SMap.get (fun _ => {}) s.spk.ch n
def State.setSch (n : Nat) (x : SpkCh) (s : State) : State :=
  { s with spk := { s.spk with ch := SMap.set (fun _ => {}) s.spk.ch n x } }

/-- The channel that controls `n`: the even one of a paralleled pair (R350). -/
def spkLead (n : Nat) (s : State) : Nat := if n % 2 = 1 && s.on (F.SPK_CFG_PAR (n - 1)) then n - 1 else n
def spkPair (n : Nat) (s : State) : Bool := n % 2 == 0 && s.on (F.SPK_CFG_PAR n)

/-- Whether the power die may drive a channel at all (R75, R90, R94, R389, R536). -/
def spkSafe (n : Nat) (s : State) : Bool :=
  pllLocked 2 s && s.on F.PWR_STATUS_PVIN_OK && s.supplied.testBit 2 && psTarget s == 2 && s.linkUp 1
    && !s.isolated 1 (16 + n) && s.bst.st != 5

/-- Whether nothing but the boost's start and a clock mute keeps a channel off (R351). -/
def spkMayRun (n : Nat) (s : State) : Bool := s.on (F.SPK_CFG_EN n) && spkSafe n s

/-- Whether a channel may leave WAIT: among others the BST page shows READY or DEGRADED (R351, R360, R394). -/
def spkMayStart (n : Nat) (s : State) : Bool :=
  spkMayRun n s && [2, 3, 4].contains (s.fld F.BST_STAT_BSTATE) && s.on F.BST_CFG_EN && !s.isolated 1 24 && !s.spk.cmute

/-- Bounds of the load model, in 0.01 Ω (R354). -/
def spkZLo (n : Nat) (s : State) : Nat :=
  if spkPair n s then clampNat 75 1600 (s.fld (F.SPK_ZB_ZFLOOR n)) else clampNat 150 3200 (s.fld (F.SPK_ZB_ZFLOOR n))
def spkZHi (n : Nat) (s : State) : Nat :=
  if spkPair n s then clampNat 75 1600 (s.fld (F.SPK_ZB_ZCEIL n)) else clampNat 150 3200 (s.fld (F.SPK_ZB_ZCEIL n))

/-- The load model within its bounds, with its flags; posted to SPK_Z where `post` (R354). -/
def spkSetZ (n : Nat) (z : Int) (post : Bool) (s : State) : State :=
  let lo : Int := 65536 * spkZLo n s
  let hi : Int := 65536 * spkZHi n s
  let v := if hi ≤ lo then lo else clampInt lo hi z
  let s := (((s.setSch n { s.sch n with z := v }).setOn (F.SPK_STAT_PINNED n) (decide (hi ≤ lo))).setOn
    (F.SPK_STAT_AT_CEIL n) (v == hi)).setOn (F.SPK_STAT_AT_FLOOR n) (v == lo)
  s.when post (State.post (Adr.SPK_Z n) (BitVec.ofNat 32 (v.toNat / 65536)))

/-- A report of the power die in the first control burst that it sends after it: kind 5 a short, 6 any other code (R358). -/
def spkTell (kind n arg : Nat) (s : State) : State := s.note 3 s.tick { act := (kind, n, arg) }

/-- The channel off at once, in a CSTATE: weights and ramps at their starts. -/
def spkOff (n goal : Nat) (s : State) : State :=
  s.setSch n { s.sch n with cs := goal, stop := 0, pop := {}, fast := rampAt1, lim := 0, vfsDue := none, rest := none }

/-- Where a channel that may not run goes: WAIT, or the FAULTED state that a restore started from (R351, R370). -/
def spkBackTo (x : SpkCh) : Nat := if x.rest = some 10 then 10 else 1

/-- A ramp to 0 over 64 smp that ends with the transistors off in CSTATE `goal` (R90, R363, R369). -/
def spkFast (n goal : Nat) (s : State) : State :=
  let x := s.sch n
  if x.cs = 4 ∨ x.cs = 5 ∨ x.cs = 9 then s.setSch n { x with stop := 2, stopTo := goal, fast := rampGo false 64 x.fast }
  else spkOff n goal s

/-- The shutdown path (R358, R359): `fatal` allows no retry, and a restore of a FAULTED channel fails (R370). -/
def spkShut (n kind : Nat) (term fatal : Bool) (s : State) : State :=
  let x := s.sch n
  let code := if fatal then 0x6784 else if kind = 2 then 0x6782 else if kind = 3 then 0x6783 else 0x6781
  let was := x.rest
  let s := spkOff n (if fatal then 10 else 6) s
  let s := s.setSch n { s.sch n with code := code, short := if fatal then x.short else kind, term := term, due := s.tick + 48000,
                                     mute := rampEnd x.mute, jack := rampEnd x.jack }
  let s := spkTell (if fatal then 6 else 5) n code s
  if fatal then s
  else if was = some 10 then spkTell 6 n x.code (s.setSch n { s.sch n with cs := 10, code := x.code })
  else if s.dieFld 1 (F.SPK_HB_I_HB_RETRY n) ≤ x.retries then
    spkTell 6 n 0x6785 (s.setSch n { s.sch n with cs := 7 })
  else s.setSch n { s.sch n with retries := if x.retrying then x.retries + 1 else x.retries }

/-- START entered (R351) with the model within its bounds, ZFLOOR with LID 0 (R354). A restore runs its 1,024 ticks there (R370). -/
def spkToStart (n : Nat) (s : State) : State :=
  let s := spkSetZ n (if s.fld (F.SPK_CFG_LID n) = 0 then 0 else (s.sch n).z) false s
  let s := s.setSch n { s.sch n with cs := 4, due := s.tick + 1920, stop := 0, pop := {} }
  s.when (s.sch n).rest.isSome (State.startTest 0x1E n 0)

/-- WAIT left: the pre-check, or START with LID = 0 (R351). -/
def spkStart (n : Nat) (s : State) : State :=
  let x := s.sch n
  if x.cs ≠ 1 || !spkMayStart n s then s
  else if s.fld (F.SPK_CFG_LID n) = 0 then spkToStart n s
  else s.setSch n { x with cs := 2, due := s.tick + 192 }

/-- The sense converter has failed: the loop opens (R366). -/
def spkSenseFail (n : Nat) (s : State) : State :=
  let s := s.when (s.sch n).rest.isSome (fun s => s.setSch n { s.sch n with testBad := true })
  let x := s.sch n
  if x.openLoop then s else spkTell 6 n 0x6788 (s.setSch n { x with openLoop := true })

/-- The pre-check ends (R352): 0 pass, 1 across the load, 2 to PGND, 3 to PVDD, 4 feedback pins apart. -/
def spkPrecheck (n finding : Nat) (term : Bool) (s : State) : State :=
  let x := s.sch n
  if x.cs ≠ 2 || decide (s.tick < x.due) then s
  else if 1 ≤ finding ∧ finding ≤ 3 then spkShut n finding term false s
  else
    let s := s.when (finding == 4) (spkSenseFail n)
    if x.needId && s.fld (F.SPK_CFG_LID n) == 2 then s.setSch n { s.sch n with cs := 3, due := s.tick + 6528 }
    else spkToStart n s

/-- The result of an identification that leaves the model as it is (R353; log entry 60). -/
def spkKeepZ (n : Nat) (s : State) : State := s.post (Adr.SPK_Z n) (BitVec.ofNat 32 ((s.sch n).z.toNat / 65536))

/-- A channel that cannot start for its load (R353). -/
def spkNoLoad (n code : Nat) (s : State) : State :=
  let s := spkKeepZ n s
  spkTell 6 n code ((spkOff n 10 s).setSch n { (spkOff n 10 s).sch n with code := code })

/-- Identification ends with R_DC in 0.01 Ω (R353). -/
def spkIdent (n rdc : Nat) (s : State) : State :=
  let x := s.sch n
  if x.cs ≠ 3 || decide (s.tick < x.due) then s
  else
    let r := if spkPair n s then 2 * rdc else rdc
    let s := s.raise (Pg.spk n) 6
    if r < 50 then spkShut n 1 false false (spkKeepZ n s)
    else if r < 150 then spkNoLoad n 0x6787 s
    else if 6400 < r then spkNoLoad n 0x6786 s
    else
      let s := spkSetZ n (65536 * (rdc : Int)) true s
      spkToStart n (s.setSch n { s.sch n with rid := (s.sch n).z, needId := false })

/-- START ends: the pop weight stands at 1 (R351). -/
def spkStarted (n : Nat) (s : State) : State :=
  let x := s.sch n
  if x.cs = 4 ∧ x.stop = 0 ∧ x.rest.isNone ∧ rampFull x.pop then s.setSch n { x with cs := 5, runSince := s.tick } else s

/-- A retry is due (R359, R360). -/
def spkRetry (n : Nat) (s : State) : State :=
  let x := s.sch n
  if x.cs ≠ 6 || decide (s.tick < x.due) || !spkMayStart n s then s
  else s.setSch n { x with cs := 2, due := s.tick + 192, retrying := true, rw := 0 }

/-- Limited cycles (R357, R358): carrier cycle `c` counted over the whole run of the tick. -/
def spkLimited (n cyc : Nat) (s : State) : State :=
  let x := s.sch n
  let c := (s.tick * 5120 + cyc - 160 * n) / 1280
  if x.limAt = some c then s
  else
    let run := if x.limAt = some (c - 1) then x.lim + 1 else 1
    (s.setSch n { x with limAt := some c, lim := run, limNow := x.limNow + 1 }).bump (F.SPK_CNT1_ILIM_CNT n) (F.SPK_CNT1_IL_SAT n)

/-- Whether the switches of a channel run. -/
def spkSwitching (x : SpkCh) : Bool := x.cs == 3 || x.cs == 4 || x.cs == 5 || x.cs == 9

/-- An update of the load model with the ratio measured, in 0.01 Ω; `quiet` where the band carries less than 0.1 W (R354). -/
def spkModel (n est : Nat) (quiet : Bool) (s : State) : State :=
  let x := s.sch n
  if x.cs ≠ 5 then s
  else
    let z := if quiet then x.z else x.z + roundRat (65536 * (est : Int) - x.z) 64
    let s := spkSetZ n z (!quiet) s
    let rest := s.on (F.SPK_STAT_AT_CEIL n) || s.on (F.SPK_STAT_AT_FLOOR n)
    let k := if rest then min 1025 (x.zRest + 1) else 0
    (s.setSch n { s.sch n with zRest := k }).when (k == 1024) (spkTell 6 n 0x678B)

/-- The derating threshold (R363). -/
def spkTD (n : Nat) (s : State) : Nat := clampNat 85 125 (s.dieFld 1 (F.SPK_HB_T_HB_TDERATE n))

/-- A channel's temperature, as code − 64 °C, judged (R363). -/
def spkTemp (n code : Nat) (s : State) : State :=
  let x := s.sch n
  let t : Int := (code : Int) - 64
  let td : Int := spkTD n s
  let s := s.setSch n { x with temp := code, hot := decide (td < t),
                               cool := if t < td - 10 then some (x.cool.getD s.tick) else none }
  let s := s.when (!x.hot && decide (td < t)) (spkTell 6 n 0xA78C)
  if td + 15 ≤ t ∧ x.cs ≠ 8 ∧ x.stopTo ≠ 8 ∧ spkSwitching x then spkTell 6 n 0xA78D (spkFast n 8 s) else s

/-- A thermally shut channel returns through START with the retry weight (R363). -/
def spkCooled (n : Nat) (s : State) : State :=
  let x := s.sch n
  match x.cool with
  | some c => if x.cs = 8 ∧ c + 192000 ≤ s.tick ∧ spkMayStart n s then spkToStart n (s.setSch n { x with rw := 0 }) else s
  | none => s

/-- The coil rise, in 0.1 °C (R364). -/
def spkCoil (x : SpkCh) : Int := if x.rid ≤ 0 then 0 else (x.z - x.rid) * 1000000 / (393 * x.rid)

/-- Power limits in 0.1 W: rated for 0, capped at the rating, halved without full PVIN (R361, R362). -/
def spkBurst (n : Nat) (s : State) : Nat :=
  let top := if spkPair n s then 1600 else 800
  let v := s.dieFld 1 (F.SPK_HB_P_HB_PBURST n)
  (if v = 0 then top else min v top) / (if s.on F.PWR_STATUS_PVIN_FULL then 1 else 2)
def spkCont (n : Nat) (s : State) : Nat :=
  let top := if spkPair n s then 500 else 250
  let v := s.dieFld 1 (F.SPK_HB_P_HB_PCONT n)
  if v = 0 then top else min v top

/-- Whether the coil derating acts (R364). -/
def spkCoilHot (n : Nat) (s : State) : Bool :=
  let h := s.dieFld 1 (F.SPK_HB_T_HB_TCOIL n)
  h != 0 && s.fld (F.SPK_CFG_LID n) == 2 && decide (10 * (h : Int) < spkCoil (s.sch n))

/-- P_C, in units of 10^-6 × 0.1 W (R362-R364). -/
def spkPC (n : Nat) (s : State) : Int :=
  let base : Int := 1000000 * spkCont n s
  let p := if s.on F.PWR_STATUS_PVIN_FULL then base else base / 2
  let past := clampInt 0 10 (((s.sch n).temp : Int) - 64 - spkTD n s)
  let p := p * (1000 - 75 * past) / 1000
  if spkCoilHot n s then
    max (base / 10) (p - base * (spkCoil (s.sch n) - 10 * s.dieFld 1 (F.SPK_HB_T_HB_TCOIL n)) / 100)
  else p

/-- The power of a tick, its means V × I (R361). -/
def spkWatt (x : SpkCh) : Int := roundRat (x.v * x.i * 12800000000) (2 ^ 62)

/-- The gain √(a / b), at most 1, in units of 2^-27 (R361; log entry 3). -/
def spkRoot (a b : Int) : Int := clampInt 0 134217728 (Config.real "sqrtRatio" [a, b])

/-- The power limiter one tick on (R361): how far averages and gain move is open (log entry 3), the conditions and the targets are not.
Powers are in units of 10^-6 × 0.1 W. -/
def spkLimit (n : Nat) (s : State) : State :=
  let x := s.sch n
  let ps := stepTo "pole25ms" x.ps (spkWatt x)
  let pl := stepTo "pole3s" x.pl (spkWatt x)
  let cont : Int := 1000000 * spkCont n s
  let burst := if cont < ps then x.burst + 1 else 0
  let a := decide (1000000 * (spkBurst n s : Int) < ps)
  let b := decide (192 * min 100 (s.dieFld 1 (F.SPK_HB_I_HB_TBURST n)) < burst)
  let c := decide (spkPC n s < pl)
  let one : Int := 134217728
  let goal := min (if a then spkRoot (1000000 * spkBurst n s) ps else one)
    (min (if b then spkRoot (spkPC n s) ps else one) (if c then spkRoot (spkPC n s) pl else one))
  let g := stepTo (if goal < x.g then "limitAttack" else "limitRelease") x.g goal
  let low := decide (g < 134217728)
  let s := s.setSch n { x with ps := ps, pl := pl, burst := min burst 65536, g := g }
  let s := (((s.setOn (F.SPK_STAT_PLIM n) low).setOn (F.SPK_STAT_TDERATE n) x.hot).setOn (F.SPK_STAT_CDERATE n)
    (spkCoilHot n s)).setOn (F.SPK_STAT_PVIN_DERATE n) (!s.on F.PWR_STATUS_PVIN_FULL)
  s.when low (fun s => (s.bump (F.SPK_CNT2_PLIM_CNT n) (F.SPK_CNT2_PL_SAT n)).raise (Pg.spk n) 2)

/-- The mute weight follows MUTE (R312, R356). -/
def spkMuteGo (n : Nat) (s : State) : State :=
  let x := s.sch n
  let len := 8 * s.fld (F.SPK_CTRL_RAMP n)
  if s.on (F.SPK_CTRL_MUTE n) then s.setSch n { x with mute := rampGo false len x.mute }
  else if x.mute.up || x.cs != 5 || !rampFull x.pop || !rampFull x.jack || jackHolds (20 + n) s then s
  else s.setSch n { x with mute := rampGo true len x.mute }

/-- What the state of the machine asks of a channel: start, stop, fast ramp (R351, R355, R356, R360). -/
def spkPower (n : Nat) (s : State) : State :=
  let x := s.sch n
  let len := 8 * s.fld (F.SPK_CTRL_RAMP n)
  let x := { x with jack := rampGo (!jackHolds (20 + n) s) len x.jack }
  let s := s.setSch n x
  if (x.cs = 4 ∨ x.cs = 5 ∨ x.cs = 9) ∧ x.stop ≠ 2 ∧ !spkSafe n s then spkFast n (if s.on (F.SPK_CFG_EN n) then spkBackTo x else 0) s
  else if !s.on (F.SPK_CFG_EN n) then
    if x.cs = 7 ∨ x.cs = 10 ∨ x.cs = 0 then s
    else if x.cs = 4 ∨ x.cs = 5 ∨ x.cs = 9 then
      (if x.stop = 0 then s.setSch n { x with stop := 1, stopTo := 0, pop := rampGo false len x.pop } else s)
    else (spkOff n 0 s).setSch n { (spkOff n 0 s).sch n with retries := 0, retrying := false }
  else if x.cs = 0 then s.setSch n { x with cs := 1 }
  else if x.stop = 1 then s.setSch n { x with stop := 0, pop := rampGo true len x.pop }
  else if spkMayRun n s then s
  else if x.cs = 2 ∨ x.cs = 3 then spkOff n (spkBackTo x) s
  else s

/-- A channel's ramps and timed steps one tick on. -/
def spkRamps (n : Nat) (s : State) : State :=
  let x := s.sch n
  let len := 8 * s.fld (F.SPK_CTRL_RAMP n)
  let x := { x with pop := rampStep x.pop, mute := rampStep x.mute, jack := rampStep x.jack, fast := rampStep x.fast,
                    rw := if x.cs = 5 then min 3072 (x.rw + 1) else x.rw }
  let s := s.setSch n x
  let now := s.tick
  if x.stop = 2 ∧ rampRests x.fast then spkOff n x.stopTo s
  else if x.stop = 1 ∧ rampRests x.pop then s.setSch n { x with stop := 3, due := now + 1920 }
  else if x.stop = 3 then (if x.due ≤ now then spkOff n x.stopTo s else s)
  else if x.cs = 4 ∧ x.due ≤ now ∧ !x.pop.up ∧ x.rest.isNone then s.setSch n { x with pop := rampGo true len x.pop }
  else match x.vfsDue with
    | some d => if d ≤ now then
        s.setSch n { x with vfs := s.fld (F.SPK_CFG_VFS n), inv := s.on (F.SPK_CFG_INVERT n), vfsDue := none,
                            pop := rampGo true 32 x.pop }
      else s
    | none => s

/-- Whether the DC estimate lies beyond HB_DC (R369): mean voltage words have 80 V at 2^31. -/
def spkDcBeyond (n : Nat) (s : State) : Bool :=
  let lim := s.dieFld 1 (F.SPK_HB_I_HB_DC n)
  lim != 0 && decide (lim * 2 ^ 31 < (s.sch n).dc.natAbs * 8000)

/-- Sense words of a tick and what the power die makes of them (R349, R361, R363, R369). -/
def spkSense (n : Nat) (w : SenseIn) (s : State) : State :=
  let x := s.sch n
  let v := w.volt.toInt
  let dc := stepTo "pole1Hz" x.dc v
  let s := s.setSch n { x with v := v, i := w.curr.toInt, peak := w.peak, dc := dc }
  let s := s.setSch n { s.sch n with dcRun := if spkDcBeyond n s then min 9600 (x.dcRun + 1) else 0 }
  spkTemp n w.temp.toNat s

/-- The results of a channel, one each 64 ticks (R375). -/
def spkResults (n : Nat) (s : State) : State :=
  if s.tick % 64 ≠ 0 then s
  else
    let x := s.sch n
    let dt := if x.rid = 0 then 0 else (clampInt 0 255 (spkCoil x / 10)).toNat
    (s.post (Adr.SPK_PWR n) (BitVec.ofNat 32 ((x.pl / 1000000).toNat % 2 ^ 23))).post (Adr.SPK_TEMP n)
      (BitVec.ofNat 32 (dt * 256 + x.temp))

/-- The clocks are good for the release of a clock mute (R371). -/
def clocksGood (s : State) : Bool :=
  s.on F.CLK_STATUS_REF_OK && !s.on F.CLK_STATUS_PRELOCK && !s.on F.CLK_STATUS_HOLDOVER && !s.on F.CLK_STATUS_SLEWING
    && pllLocked 0 s && pllLocked 2 s

/-- A clock mute (R3, R371): every channel with its transistors on holds x = 0; a check or an identification is given up. -/
def clockMute (s : State) : State :=
  let s := { s with clk := { s.clk with tickErr := false } }
  if !s.on (F.SPK_CFG_CLKMUTE 0) then s
  else
    let s := s.when (!s.spk.cmute) (spkTell 6 0 0x278E)
    let s := { s with spk := { s.spk with cmute := true, good := 0 } }
    s.each 8 (fun n s =>
      let x := s.sch n
      if x.cs = 4 ∨ x.cs = 5 then (s.setSch n { x with cs := 9 }).raise (Pg.spk n) 7
      else if x.cs = 2 ∨ x.cs = 3 then spkOff n (spkBackTo x) s else s)

/-- The mute that a tick-clock error calls for (R77, R371). -/
def clockMuteDue (s : State) : State := if s.clk.tickErr then clockMute s else s

/-- The clock mute ends: channels return through the retry weight (R371). -/
def clockRelease (s : State) : State :=
  if !s.spk.cmute || decide (s.spk.good < 128) then s
  else
    let s := { s with spk := { s.spk with cmute := false, good := 0 } }
    s.each 8 (fun n s =>
      let x := s.sch n
      if x.cs ≠ 9 then s
      else if rampFull x.pop && decide (x.due ≤ s.tick) then s.setSch n { x with cs := 5, rw := 0, runSince := s.tick }
      else s.setSch n { x with cs := 4, rw := 0 })

/-- What stands between the values of a channel and its terminals: full scale, gains, weights and polarity; nothing while it is off
or in a fault state (R368). -/
def spkPath (n : Nat) (s : State) : List Int :=
  let x := s.sch n
  if !(x.cs == 4 || x.cs == 5 || x.cs == 9) then []
  else [(x.vfs : Int), x.g, (rampWeight x.pop : Int), (rampWeight x.mute : Int), (rampWeight x.jack : Int), (rampWeight x.fast : Int),
    (x.rw : Int), if x.inv then 1 else 0]

/-- The speaker channels one tick on, with the sense words of the tick. -/
def spkTick (sense : List SenseIn) (s : State) : State :=
  let s := { s with spk := { s.spk with good := if clocksGood s then min 128 (s.spk.good + 1) else 0 } }
  let s := s.each 8 (fun n s =>
    if spkLead n s ≠ n then s.setSch n { s.sch n with cs := (s.sch (n - 1)).cs }
    else
      let s := match sense[n]? with
        | some w => spkSense n w s
        | none => s
      spkResults n (spkLimit n (spkRamps n (spkMuteGo n (spkPower n s)))))
  let s := s.each 8 (fun n s =>
    let x := s.sch n
    s.setSch n { x with csA := x.cs, limLast := x.limNow, limNow := 0, path := (spkPath n s :: x.path).take 16 })
  if svcAvailable s then s
  else s.each 8 (fun n s => (s.setSch n { s.sch n with rbRun := 0 }).setFld (F.SPK_STAT_RB_BAD n) 0)

/-- Sense word `k` of a channel, of the last tick (R349). Flags show the channel as the tick left it. -/
def spkWord (n k : Nat) (s : State) : Word :=
  let x := s.sch n
  if k = 0 then BitVec.ofInt 32 x.v
  else if k = 1 then BitVec.ofInt 32 x.i
  else if k = 2 then BitVec.ofNat 16 x.peak ++ BitVec.ofNat 16 (min 0xFFFF (x.g.toNat / 2 ^ 11))
  else BitVec.ofNat 8 x.temp ++ BitVec.ofNat 4 x.csA ++ BitVec.ofNat 4 (min 4 x.limLast) ++ (0 : BitVec 7) ++ BitVec.ofBool (x.csA == 9)
    ++ BitVec.ofBool (x.csA == 8) ++ BitVec.ofBool x.hot ++ BitVec.ofBool (x.code == 0x6784) ++ BitVec.ofBool x.openLoop
    ++ BitVec.ofBool x.term ++ BitVec.ofNat 2 x.short ++ BitVec.ofBool (x.csA == 6)

/-- The core die takes the sense words of a data burst (R349, R358). -/
def spkTake (s : State) : State :=
  s.each 8 (fun n s =>
    let x := s.sch (spkLead n s)
    let m := if rampFull x.mute then 0 else if x.mute.up then 3 else if x.mute.pos = 0 then 2 else 1
    let w := s.taken 3 (4 * spkLead n s + 3)
    let s := ((s.setFld (F.SPK_STAT_CSTATE n) (w.bits 23 20)).setFld (F.SPK_STAT_OPENLOOP n) (w.bits 4 4)).setFld (F.SPK_STAT_TERM n) (w.bits 3 3)
    (((s.setFld (F.SPK_STAT_SHORT n) (w.bits 2 1)).setFld (F.SPK_STAT_RETRIES n) x.retries).setFld (F.SPK_STAT_MSTATE n) m).setOn
      (F.SPK_STAT_DC_TRIP n) x.dcTrip)

/-- A report of the power die reaches the core die (R358, R374). -/
def spkNoted (kind n arg : Nat) (s : State) : State :=
  let x := s.sch n
  if kind = 5 then
    (((((s.setFld (F.SPK_STAT_SHORT n) x.short).setOn (F.SPK_STAT_TERM n) x.term).bump (F.SPK_CNT1_SHUT_CNT n)
      (F.SPK_CNT1_SH_SAT n)).raise (Pg.spk n) 0).report arg n 4)
  else
    let ev := if arg = 0x6784 then some 0 else if arg = 0x6785 then some 1 else if arg = 0x6788 then some 4
      else if arg = 0xA78C || arg = 0xA78D then some 3 else if arg = 0x278E then some 7 else none
    let s := match ev with
      | some k => s.raise (Pg.spk n) k
      | none => s
    let act := if arg = 0x6788 then 1 else if arg = 0x678B || arg = 0xA78C then 0 else 4
    s.report arg n act

/-- A press of the speaker pages (R350, R372). -/
def spkPress (old s : State) : State :=
  let s := s.each 8 (fun n s =>
    if spkLead n s ≠ n then s
    else
      let up := s.on (F.SPK_CFG_EN n) && !old.on (F.SPK_CFG_EN n)
      let s := s.when up (fun s => s.setSch n { s.sch n with needId := true })
      let s := s.when (up && (s.sch n).cs == 0) (fun s => s.setSch n { s.sch n with retries := 0, retrying := false, rw := 3072 })
      let x := s.sch n
      let s := if (x.vfs = s.fld (F.SPK_CFG_VFS n) ∧ x.inv = s.on (F.SPK_CFG_INVERT n)) ∨ x.vfsDue.isSome then s
        else if x.cs = 5 ∧ x.stop = 0 then
          let p := if rampFull x.pop then { pos := 32, len := 32, up := false } else rampGo false 32 x.pop
          s.setSch n { x with vfsDue := some (s.tick + p.pos), pop := p }
        else s.setSch n { x with vfs := s.fld (F.SPK_CFG_VFS n), inv := s.on (F.SPK_CFG_INVERT n) }
      spkPower n s)
  if s.on (F.SPK_CFG_CLKMUTE 0) && !old.on (F.SPK_CFG_CLKMUTE 0) && !clocksGood s then clockMute s else s

/-- The predicted terminal voltage at a reading `age` ticks ago in a slot, in units of 10 mV: 0 V where the channel was off, else open
between samples (R368; log entry 3). -/
def spkPredict (n slot age : Nat) (s : State) : Int :=
  let x := s.sch n
  match x.path.getD age [] with
  | [] => 0
  | p => Config.real "spkReadback" ((slot : Int) :: p ++ x.sent.drop age)

/-- A reading of rotation index 44 + n (R368). -/
def spkReading (n slot : Nat) (v : SvcVal) (s : State) : State :=
  let lim := s.fld (F.SPK_RB_CFG_RB_LIM n)
  let x := s.sch n
  if lim = 0 ∨ v.sub ∨ v.uns then s
  else
    let num := v.code * 8000 - 32768 * spkPredict n slot (s.tick - v.tick) s
    let s := s.post (Adr.SPK_RBE n) (BitVec.ofNat 32 (unsigned 23 (roundRat num 32768)))
    let bad := decide (lim * 10 * 32768 < num.natAbs)
    let s := (s.setOn (F.SPK_STAT_RB_BAD n) bad).when bad (State.bump (F.SPK_CNT2_RB_MIS_CNT n) (F.SPK_CNT2_RM_SAT n))
    let k := s.fld (F.SPK_RB_CFG_RB_N n)
    let run := if bad then min 16 (x.rbRun + 1) else 0
    let s := s.setSch n { s.sch n with rbRun := run }
    if k ≠ 0 ∧ run = k ∧ x.rbRun + 1 = k then
      let s := s.raise (Pg.spk n) 5
      if x.rest.isSome then s.setSch n { s.sch n with testBad := true }
      else if s.on (F.SPK_RB_CFG_RB_ACT n) then
        spkFast n 10 ((s.setSch n { s.sch n with code := 0x6789 }).report 0x6789 n 4)
      else (s.setSch n { s.sch n with rbFault := true, code := 0x6789 }).report 0x6789 n 3
    else s

/-- A write of RESTORE (R370): the pre-check starts the test. -/
def spkRestore (n : Nat) (s : State) : State :=
  let x := s.sch n
  if (x.cs = 10 ∨ (x.cs = 5 ∧ (x.openLoop ∨ x.rbFault))) ∧ x.rest.isNone ∧ !s.isolated 1 (16 + n) then
    s.setSch n { x with cs := 2, due := s.tick + 192, needId := true, rest := some x.cs, testBad := false, rbRun := 0, pop := {} }
  else s

/-- The end of a restore test (R370). -/
def spkRestoreEnd (n : Nat) (pass : Bool) (s : State) : State :=
  let x := s.sch n
  match x.rest with
  | none => s
  | some c =>
    if pass && !x.testBad && !(x.dcTrip && spkDcBeyond n s) then
      s.setSch n { x with rest := none, openLoop := false, rbFault := false, rbRun := 0, dcTrip := false, dcRun := 0, code := 0,
                          short := 0, cs := 4, due := s.tick + 1920, pop := {} }
    else
      let code := if x.code ≠ 0 then x.code else 0x6788
      if c = 5 then (s.setSch n { x with rest := none, cs := 4, due := s.tick + 1920, pop := {} }).report code n 0
      else (spkOff n c s).report code n 0

/-- A write of CLEAR (R360). -/
def spkClear (n : Nat) (s : State) : State :=
  let x := s.sch n
  if x.cs = 7 then
    s.setSch n { x with cs := if s.on (F.SPK_CFG_EN n) then 1 else 0, retries := 0, retrying := false, needId := true, short := 0, rw := 3072 }
  else s

/-- A write of MUTE: the weight moves from the next tick on (R312, R356). -/
def spkMuteWrite (n : Nat) (m : Bool) (s : State) : State := s.setOn (F.SPK_CTRL_MUTE n) m

/-- The current limit of a half-bridge, in 0.1 A (R357). -/
def spkIlim (n : Nat) (s : State) : Nat := clampNat 20 100 (s.dieFld 1 (F.SPK_HB_I_HB_ILIM (spkLead n s)))

/-- Whether every channel is quiet (R95). -/
def spksQuiet (s : State) : Bool := (List.range 8).all (fun n => !spkSwitching (s.sch n))

/-- The state of a speaker page (R373). -/
def spkPageState (n : Nat) (s : State) : Nat :=
  let x := s.sch (spkLead n s)
  let c := s.fld (F.SPK_STAT_CSTATE n)
  if s.isolated 1 (16 + n) then 5
  else if !psAwake s then 0
  else if c = 6 ∨ c = 7 ∨ c = 8 ∨ c = 10 then 4
  else if c = 0 ∧ !s.on (F.SPK_CFG_EN n) then 0
  else if !s.on F.PWR_STATUS_PVIN_OK ∨ c = 9 then 3
  else if c ≤ 4 then 1
  else if x.openLoop || x.rbFault || !s.on F.PWR_STATUS_PVIN_FULL then 3 else 2

/-- SPK_START. -/
def execSpkStart (n : Fin 8) (s : State) : Host.Outcome State Fault Refusal := s.ticking (.next (spkStart (spkLead n.val s) s))

/-- SPK_PRECHECK_DONE. `finding`: 0 pass, 1 short across the load, 2 to PGND, 3 to PVDD, 4 feedback pins apart (R352). -/
def execSpkPrecheckDone (n : Fin 8) (finding : Fin 5) (term : Bool) (s : State) : Host.Outcome State Fault Refusal :=
  s.ticking (
    .next (spkPrecheck (spkLead n.val s) finding.val term s))

/-- SPK_IDENT_DONE. `rdc` is R_DC in 0.01 Ω. -/
def execSpkIdentDone (n : Fin 8) (rdc : Nat) (s : State) : Host.Outcome State Fault Refusal := s.ticking (.next (spkIdent (spkLead n.val s) rdc s))

/-- SPK_START_DONE. -/
def execSpkStartDone (n : Fin 8) (s : State) : Host.Outcome State Fault Refusal := s.ticking (.next (spkStarted (spkLead n.val s) s))

/-- SPK_SHUTDOWN. `kind`: 1 across the load, 2 to PGND, 3 to PVDD (R358). -/
def execSpkShutdown (n : Fin 8) (kind : Fin 4) (term : Bool) (s : State) : Host.Outcome State Fault Refusal :=
  s.ticking (
    let l := spkLead n.val s
    .next (if spkSwitching (s.sch l) ∧ 8 ≤ (s.sch l).lim then spkShut l (max 1 kind.val) term false s else s))

/-- SPK_RETRY. -/
def execSpkRetry (n : Fin 8) (s : State) : Host.Outcome State Fault Refusal := s.ticking (.next (spkRetry (spkLead n.val s) s))

/-- SPK_RETRY_COUNT_RESET. -/
def execSpkRetryCountReset (n : Fin 8) (s : State) : Host.Outcome State Fault Refusal :=
  s.ticking (
    let l := spkLead n.val s
    let x := s.sch l
    .next (if x.cs = 5 ∧ x.runSince + 1920000 ≤ s.tick then s.setSch l { x with retries := 0, retrying := false } else s))

/-- SPK_CLEAR. -/
def execSpkClear (n : Fin 8) (s : State) : Host.Outcome State Fault Refusal := s.heard (.next (spkClear (spkLead n.val s) s))

/-- LOAD_MODEL_UPDATE. -/
def execLoadModelUpdate (n : Fin 8) (est : Nat) (quiet : Bool) (s : State) : Host.Outcome State Fault Refusal :=
  s.ticking (
    .next (spkModel (spkLead n.val s) est quiet s))

/-- SPK_THERMAL. `code` is the temperature plus 64 °C. -/
def execSpkThermal (n : Fin 8) (code : Fin 256) (s : State) : Host.Outcome State Fault Refusal :=
  s.ticking (
    .next (spkTemp (spkLead n.val s) code.val s))

/-- SPK_THERMAL_RETURN. -/
def execSpkThermalReturn (n : Fin 8) (s : State) : Host.Outcome State Fault Refusal := s.ticking (.next (spkCooled (spkLead n.val s) s))

/-- SPK_SENSE_FAIL. -/
def execSpkSenseFail (n : Fin 8) (s : State) : Host.Outcome State Fault Refusal := s.ticking (.next (spkSenseFail (spkLead n.val s) s))

/-- SPK_STAGE_FAIL. -/
def execSpkStageFail (n : Fin 8) (s : State) : Host.Outcome State Fault Refusal :=
  s.ticking (
    .next (if spkSwitching (s.sch (spkLead n.val s)) then spkShut (spkLead n.val s) 0 false true s else s))

/-- SPK_DC_TRIP. -/
def execSpkDcTrip (n : Fin 8) (s : State) : Host.Outcome State Fault Refusal :=
  s.ticking (
    let l := spkLead n.val s
    let x := s.sch l
    .next (if 9600 ≤ x.dcRun ∧ !x.dcTrip then
      spkTell 6 l 0x678A (spkFast l 10 (s.setSch l { x with dcTrip := true, code := 0x678A })) else s))

/-- SPK_MUTE. -/
def execSpkMute (n : Fin 8) (s : State) : Host.Outcome State Fault Refusal := s.heard (.next (spkMuteWrite n.val true s))

/-- SPK_UNMUTE. -/
def execSpkUnmute (n : Fin 8) (s : State) : Host.Outcome State Fault Refusal := s.heard (.next (spkMuteWrite n.val false s))

/-- SPK_RESTORE. -/
def execSpkRestore (n : Fin 8) (s : State) : Host.Outcome State Fault Refusal := s.heard (.next (spkRestore (spkLead n.val s) s))

/-- CLOCK_MUTE. A tick-clock error that stands is taken up (R77, R371). -/
def execClockMute (s : State) : Host.Outcome State Fault Refusal := s.ticking (.next (clockMuteDue s))

/-- CLOCK_MUTE_RELEASE. -/
def execClockMuteRelease (s : State) : Host.Outcome State Fault Refusal := s.ticking (.next (clockRelease s))

/-- LIMITED_CYCLE. -/
def execLimitedCycle (n : Fin 8) (cyc : Fin 5120) (s : State) : Host.Outcome State Fault Refusal :=
  s.ticking (
    .next (if spkSwitching (s.sch (spkLead n.val s)) then spkLimited (spkLead n.val s) cyc.val (s.land cyc.val) else s))

end Sys2Proof.Machine
end

