-- ==== Sys2Proof/Machine/Bst.lean ====
section
/-!
DEFINITION. The envelope-tracking boost: envelopes, rail model, soft clip, phases, guards (R376-R396).
-/

namespace Sys2Proof.Machine

/-- The boost's state replaced. -/
def State.setBst (x : BstSt) (s : State) : State := { s with bst := x }

/-- Millivolts in units of 1/12 µV. -/
def mV (n : Nat) : Int := 12000 * (n : Int)

/-- The headband's ceiling, and the effective bounds, in 0.1 V (R392). -/
def bstTop (s : State) : Nat := clampNat 100 360 (s.fld F.BST_HB_HB_VMAX)
def bstFloor (s : State) : Nat := clampNat 80 (bstTop s) (s.fld F.BST_BOUND_FLOOR)
def bstCeil (s : State) : Nat := clampNat 80 (bstTop s) (s.fld F.BST_BOUND_CEIL)

/-- The target for envelopes `env` of the channels that count (R379, R387, R536). -/
def bstTarget (env : List Nat) (counts : Nat → Bool) (s : State) : Int :=
  let lo := bstFloor s
  let hi := bstCeil s
  let mask := s.fld F.BST_CFG_ENV_MASK
  let on := (List.range 8).filter (fun n => mask / 2 ^ n % 2 == 1 && counts n)
  let peak := on.foldl (fun m n => max m (env.getD n 0)) 0
  if on.isEmpty || !s.on F.BST_CFG_EN || s.isolated 1 24 then mV (100 * lo)
  else if hi ≤ lo then mV (100 * lo)
  else clampInt (mV (100 * lo)) (mV (100 * hi)) (mV (peak + 100 * s.fld F.BST_TRACK_HEADROOM))

/-- The target on the power die, and the core die's copy (R379). -/
def bstTargetP (s : State) : Int :=
  bstTarget s.bst.envP (fun n => let c := (s.sch (spkLead n s)).cs; (c == 4 || c == 5) && spkLead n s == n) s
def bstTargetC (s : State) : Int :=
  bstTarget s.bst.env (fun n => let c := s.fld (F.SPK_STAT_CSTATE n); (c == 4 || c == 5) && spkLead n s == n) s

/-- The rail model advanced by `n` tenths of a control cycle (R380, R387): one control cycle is 1/1,536,000 s. -/
def bstAdvance (r t : Int) (pvin n : Nat) (s : State) : Int :=
  let up := clampNat 1 8 (s.fld F.BST_TRACK_SLEW_UP)
  let up := if s.tick < s.bst.since + 1920 then 1 else up
  let dn := s.fld F.BST_TRACK_SLEW_DN
  let r' := r + clampInt (-((dn * 78125 * n / 10 : Nat) : Int)) ((up * 78125 * n : Nat) : Int) (t - r)
  max (mV pvin - mV 200) r'

/-- PVIN_m as the core die has it. -/
def bstPvinC (s : State) : Nat := (s.bst.past.headD (s.bst.pvin, s.bst.pvdd)).1

/-- Phases in service, and the mask of the first `k` of them. -/
def bstService (s : State) : List Nat := (List.range 4).filter (fun k => s.bst.out / 2 ^ k % 2 == 0)
def bstMask (ks : List Nat) : Nat := ks.foldl (fun m k => m + 2 ^ k) 0
def bstFirst (k : Nat) (s : State) : Nat := bstMask ((bstService s).take k)

/-- A report of the power die in its next control burst: an instance and a code (R388-R390). -/
def bstTell (inst code : Nat) (s : State) : State := s.note 3 (s.tick + 1) { act := (7, inst, code) }
def bstNoted (inst code : Nat) (s : State) : State :=
  let k := if code = 0x67C1 then 2 else if code = 0xA7C7 || code = 0xA7C8 then 4 else 6
  (s.raise Pg.bst k).report code inst (if code = 0x67C1 then 1 else if code = 0xA7C7 then 0 else 4)

/-- One control cycle of the power die (R379-R381, R385). -/
def bstCycle (s : State) : State :=
  let b := s.bst
  let t := bstTargetP s
  if b.st = 2 ∨ b.st = 3 then
    let r := bstAdvance b.r t b.pvin 10 s
    let go := decide (mV (b.pvin + 1000) < t)
    let st := if go then 3 else b.st
    let all := s.on F.BST_CFG_SHED && decide (b.t0 + mV 4000 < t)
    let act := if st ≠ 3 then 0
      else if !s.on F.BST_CFG_SHED || all then bstFirst 4 s
      else if b.st = 2 then bstFirst (max 1 (ceilDiv b.iin 4000)) s else b.active
    { s with bst := { b with r := r, st := st, active := act } }
  else { s with bst := { b with r := mV b.pvin - mV 200, active := 0 } }

/-- A check fails: a restore test under way does not pass (R391). -/
def bstTestFail (s : State) : State :=
  s.when (s.testOf 0x1F 0).isSome (fun s => { s with bst := { s.bst with testBad := true } })

/-- FAULTED (R389): the speaker channels ramp off in the course of their tick. -/
def bstFail (code : Nat) (s : State) : State :=
  let s := bstTestFail s
  if s.bst.st = 5 then s
  else bstTell 0 code { s with bst := { s.bst with st := 5, fault := code, active := 0 } }

/-- A phase fails (R388). -/
def bstPhaseFail (k : Nat) (s : State) : State :=
  let s := bstTestFail s
  if s.bst.out / 2 ^ k % 2 = 1 then s
  else
    let s := { s with bst := { s.bst with out := s.bst.out + 2 ^ k } }
    let act := bstMask ((bstService s).filter (fun j => s.bst.active / 2 ^ j % 2 == 1))
    let s := bstTell k 0x67C1 { s with bst := { s.bst with active := act } }
    if (bstService s).length < 2 then bstFail 0x67C2 s else s

/-- Whether the boost's start conditions hold (R387). -/
def bstMayRun (s : State) : Bool :=
  pllLocked 2 s && s.on F.PWR_STATUS_PVIN_OK && s.supplied.testBit 2 && psTarget s == 2 && s.linkUp 1

/-- The boost's temperature judged (R390). -/
def bstTemp (code : Nat) (s : State) : State :=
  let b := s.bst
  let t : Int := (code : Int) - 64
  let s := { s with bst := { b with temp := code, hot := decide (110 < t), cool := if t < 105 then some (b.cool.getD s.tick) else none } }
  let s := s.when (!b.hot && decide (110 < t)) (bstTell 0 0xA7C7)
  if 125 ≤ t ∧ !b.heldT ∧ 1 ≤ b.st ∧ b.st ≤ 4 then
    bstTell 0 0xA7C8 { s with bst := { s.bst with st := if b.st = 1 then 1 else 4, heldT := true, active := 0 } }
  else s

/-- One sample of a channel shaped before it is sent (R383): `k` is the knee. Above it the value lies between the knee and the available
peak, which it never reaches; which it is is open (log entry 3). -/
def bstClip (n : Nat) (k x : Int) (s : State) : Int × Bool :=
  let vfs : Int := s.fld (F.SPK_CFG_VFS n)
  if (x.natAbs : Int) * vfs * 1200000 ≤ k * 2 ^ 27 then (x, false)
  else
    let u := 1200000 * vfs
    let lo := max 0 ((k * 2 ^ 27).fdiv u)
    let hi := max lo (((k + mV 1000) * 2 ^ 27 - 1).fdiv u)
    let m := clampInt lo (min hi (2 ^ 27 - 1)) (Config.real "softClip" [k, (x.natAbs : Int), vfs])
    (if x < 0 then -m else m, true)

/-- Where the core die's copy of the rail starts from (R382). -/
def bstCopyRail (s : State) : Int :=
  if s.fld F.BST_STAT_BSTATE = 2 ∨ s.fld F.BST_STAT_BSTATE = 3 then s.bst.rc else mV (bstPvinC s) - mV 200

/-- Channels were shaped in this tick (R383). -/
def bstClipCount (s : State) : State :=
  if s.fld F.BST_CLIPMAP_CLIPMAP = 0 then s else (s.bump F.BST_CNT1_CLIP_CNT F.BST_CNT1_CL_SAT).raise Pg.bst 0

/-- The samples of the tick and the envelopes that the core die sends (R378). -/
def bstEnvelopes (s : State) : State :=
  let b := s.fld F.BST_CFG_LA
  let s := s.each 8 (fun n s =>
    let h := SMap.get (fun _ => []) s.bst.hist n
    { s with bst := { s.bst with hist := SMap.set (fun _ => []) s.bst.hist n ((s.sink (0x030 + n) :: h).take 65) } })
  let env := (List.range 8).map (fun n =>
    let pk := ((SMap.get (fun _ => []) s.bst.hist n).take (b + 1)).foldl (fun m v => max m (sval v).natAbs) 0
    if !s.on (F.SPK_CFG_EN n) || spkLead n s ≠ n then 0
    else min 65535 (roundRat ((103 * s.fld (F.SPK_CFG_VFS n) * pk : Nat) : Int) (2 ^ 27)).toNat)
  { s with bst := { s.bst with env := env } }

/-- The core die's copy of the rail model through one tick (R382). -/
def bstCopy (s : State) : State :=
  { s with bst := { s.bst with rc := bstAdvance (bstCopyRail s) (bstTargetC s) (bstPvinC s) 80 s } }

/-- The samples, shaped with a knee, as the channels send them; every shaped channel sets its bit (R383). -/
def bstClips (knee : Int) (s : State) : State :=
  (s.setFld F.BST_CLIPMAP_CLIPMAP 0).each 8 (fun n s =>
    let x := if s.on (F.SPK_CFG_EN n) && spkLead n s == n then (SMap.get (fun _ => []) s.bst.hist n).getD (s.fld F.BST_CFG_LA) 0 else 0
    let r := bstClip n knee (sval x) s
    let w := if r.2 then sample r.1 (stag x ||| tCLP) else x
    (s.setSch n { s.sch n with sent := (r.1 :: (s.sch n).sent).take 64, word := w }).when r.2 (State.setFld ⟨Adr.BST_CLIPMAP, n, n⟩ (1 : Nat)))

/-- The core die's part of a tick: samples, envelopes, soft clip, its copy of the rail model (R378-R383). -/
def bstShape (s : State) : State :=
  let s := bstEnvelopes s
  let knee := bstAdvance (bstCopyRail s) (bstTargetC s) (bstPvinC s) 24 s - mV 2000
  bstClipCount (bstClips knee (bstCopy s))

/-- The limit of the input current in force, in mA (R386, R390). -/
def bstInLimit (s : State) : Nat :=
  let hb := 100 * clampNat 10 200 (s.dieFld 1 F.BST_HB_HB_IIN)
  let m := min hb (5000 * (bstService s).length)
  let m := if s.on F.PWR_STATUS_PVIN_FULL then m else min m 16000
  m * (20 - clampNat 0 10 (s.bst.temp - 174)) / 20

/-- What the power die measured in a tick (R384, R386, R390). -/
def bstMeasure (w : BoostIn) (s : State) : State :=
  bstTemp w.temp.toNat { s with bst := { s.bst with pvin := w.pvin, pvdd := w.pvdd, iin := w.iin, phases := w.phases,
                                                    sag := w.sag.toNat, limit := w.limit || (s.bst.st == 3 && decide (bstInLimit s ≤ w.iin)) } }

/-- Boost status word `k`, of the last tick (R384). -/
def bstWord (k : Nat) (s : State) : Word :=
  let b := s.bst
  if k = 0 then BitVec.ofNat 16 b.pvin ++ BitVec.ofNat 16 b.pvdd
  else if k = 1 then BitVec.ofNat 16 b.iin ++ BitVec.ofNat 4 b.active ++ BitVec.ofNat 4 b.out ++ BitVec.ofNat 4 b.stA
    ++ BitVec.ofBool (bstTargetP s == mV (100 * bstCeil s)) ++ BitVec.ofBool b.hot ++ BitVec.ofBool (b.sag != 0) ++ BitVec.ofBool b.limit
  else if k = 2 then b.phases
  else BitVec.ofNat 8 b.temp ++ BitVec.ofNat 8 b.sag ++ (0 : BitVec 12) ++ BitVec.ofBool (b.heldT || b.heldR)
    ++ BitVec.ofBool (b.fault == 0x67C4) ++ BitVec.ofBool (b.fault == 0x67C3) ++ BitVec.ofBool (b.out != 0)

/-- Boost demand word `k` of the tick (R378). -/
def bstDemand (k : Nat) (s : State) : Word := BitVec.ofNat 16 (s.bst.env.getD (2 * k + 1) 0) ++ BitVec.ofNat 16 (s.bst.env.getD (2 * k) 0)

/-- The input limit acted in the tick of the status words just taken (R386, R396). -/
def bstLimited (s : State) : State :=
  let new := match s.bst.iinAt with
    | some t => decide (t + 192000 ≤ s.tick)
    | none => true
  let s := (s.bump F.BST_CNT2_IIN_CNT F.BST_CNT2_IL_SAT).raise Pg.bst 3
  { s.when new (State.report 0x17C6 0 0) with bst := { s.bst with iinAt := some s.tick } }

/-- What the boost measured, where it reports in this tick. -/
def bstSense (w : Option BoostIn) (s : State) : State :=
  match w with
  | some v => bstMeasure v s
  | none => { s with bst := { s.bst with sag := 0, limit := false } }

/-- The power die's part of a tick: stop, phases, the run towards bypass (R381, R385, R387, R536). -/
def bstRun (s : State) : State :=
  let b := s.bst
  let t := bstTargetP s
  let en := s.on F.BST_CFG_EN
  let done := (!en && (b.st == 1 || (List.range 8).all (fun n => (s.sch n).cs == 0))) || (s.isolated 1 24 && spksQuiet s)
  if b.st = 0 ∨ b.st = 5 then { s with bst := { b with t0 := t, stopped := b.stopped && en } }
  else if done || (b.st != 1 && !bstMayRun s) then
    { s with bst := { b with st := 0, stopped := en && !s.isolated 1 24, active := 0, lowRun := 0, shedRun := 0, t0 := t } }
  else if b.st = 1 then
    { s with bst := { b with t0 := t, due := if !bstMayRun s then 0 else if b.due = 0 then s.tick + 384 else b.due } }
  else
    let low := decide (t < mV (b.pvin + 500)) && decide (b.r ≤ mV (b.pvin + 500))
    let k := ((List.range 4).filter (fun j => b.active / 2 ^ j % 2 == 1)).length
    let need := max 1 (ceilDiv b.iin 4000)
    let grow := s.on F.BST_CFG_SHED && b.st == 3 && decide (k < need)
    let few := s.on F.BST_CFG_SHED && decide (1 < k) && decide (b.iin * 10 < 32000 * (k - 1))
    { s with bst := { b with lowRun := if low then min 64 (b.lowRun + 1) else 0, t0 := t,
                             shedRun := if few then min 64 (b.shedRun + 1) else 0,
                             active := if b.st = 3 then (if !s.on F.BST_CFG_SHED then bstFirst 4 s
                               else if grow then bstFirst need s else b.active) else 0 } }

/-- The boost one tick on, apart from what it measured (bstMeasure). -/
def bstTick (s : State) : State :=
  let s := bstRun (bstShape s)
  let b := s.bst
  let s := { s with bst := { b with stA := b.st } }
  let s := if s.tick % 64 ≠ 0 then s
    else ((s.post Adr.BST_PVDD (BitVec.ofNat 32 ((s.taken 3 32).bits 15 0))).post Adr.BST_IIN (BitVec.ofNat 32 ((s.taken 3 33).bits 31 16))).post
      Adr.BST_TEMP (BitVec.ofNat 32 ((s.taken 3 35).bits 31 24))
  if svcAvailable s then s
  else ({ s with bst := { s.bst with rbRun := 0 } }).setFld F.BST_STAT_RB_BAD 0

/-- The envelopes of the burst taken apply on the power die (R380). -/
def bstTakePower (s : State) : State :=
  { s with bst := { s.bst with envP := (List.range 8).map (fun n => (s.taken 2 (8 + n / 2)).bits (16 * (n % 2) + 15) (16 * (n % 2))) } }

/-- The core die takes the status words of a data burst (R384, R396). -/
def bstTake (s : State) : State :=
  let w0 := s.taken 3 32
  let w := s.taken 3 33
  let s := { s with bst := { s.bst with past := ((w0.bits 31 16, w0.bits 15 0) :: s.bst.past).take 8 } }
  let s := (s.setFld F.BST_STAT_IIN_LIM (w.bits 0 0)).when (w.bits 0 0 != 0) bstLimited
  let s := s.when (w.bits 1 1 != 0) (fun s => (s.bump F.BST_CNT1_SAG_CNT F.BST_CNT1_SG_SAT).raise Pg.bst 1)
  let t := bstTargetC s
  let lo := bstFloor s
  let hi := bstCeil s
  ((((((s.setFld F.BST_STAT_BSTATE (w.bits 7 4)).setFld F.BST_STAT_PH_ACTIVE (w.bits 15 12)).setFld F.BST_STAT_PH_OUT (w.bits 11 8)).setFld
    F.BST_STAT_TDERATE (w.bits 2 2)).setOn F.BST_STAT_PINNED (decide (hi ≤ lo))).setOn F.BST_STAT_AT_CEIL (t == mV (100 * hi))).setOn
    F.BST_STAT_AT_FLOOR (t == mV (100 * lo))

/-- A reading of rotation index 52 (R391). -/
def bstReading (v : SvcVal) (s : State) : State :=
  let lim := s.fld F.BST_RB_CFG_RB_LIM
  let b := s.bst
  if lim = 0 ∨ v.sub ∨ v.uns then s
  else
    let mean : Int := (b.past.getD (s.tick - (v.tick + 2)) (b.pvin, b.pvdd)).2
    let num := v.code * 40000 - 65536 * mean
    let s := s.post Adr.BST_RBE (BitVec.ofNat 32 (unsigned 23 (roundRat num 65536)))
    let bad := decide (lim * 100 * 65536 < num.natAbs)
    let s := (s.setOn F.BST_STAT_RB_BAD bad).when bad (State.bump F.BST_CNT2_RB_MIS_CNT F.BST_CNT2_RM_SAT)
    let k := s.fld F.BST_RB_CFG_RB_N
    let run := if bad then min 16 (b.rbRun + 1) else 0
    let s := { s with bst := { s.bst with rbRun := run, rbFault := b.rbFault && bad } }
    if k ≠ 0 ∧ run = k ∧ b.rbRun + 1 = k then
      let s := s.raise Pg.bst 5
      if s.on F.BST_RB_CFG_RB_ACT then
        { s.report 0x67C5 0 4 with bst := { s.bst with heldR := true, st := if s.bst.st = 2 ∨ s.bst.st = 3 then 4 else s.bst.st, active := 0 } }
      else { s.report 0x67C5 0 3 with bst := { s.bst with rbFault := true } }
    else s

/-- A write of RESTORE, and the end of its test (R391). -/
def bstRestore (s : State) : State :=
  if (s.bst.st = 5 ∨ s.bst.out ≠ 0 ∨ s.bst.heldR) ∧ !s.isolated 1 24 then { s with bst := { s.bst with testBad := false } }.startTest 0x1F 0 0 else s
def bstRestoreEnd (pass : Bool) (s : State) : State :=
  let b := s.bst
  if pass && !b.testBad then
    { s with bst := { b with out := 0, fault := 0, heldR := false, rbFault := false, rbRun := 0,
                             st := if b.st = 5 ∨ b.heldR then 0 else b.st } }
  else
    let k := ((List.range 4).filter (fun j => b.out / 2 ^ j % 2 == 1)).headD 0
    if b.st = 5 then s.report b.fault 0 0 else if b.heldR then s.report 0x67C5 0 0 else s.report 0x67C1 k 0

/-- The state of the BST page (R394). -/
def bstPageState (s : State) : Nat :=
  let st := s.fld F.BST_STAT_BSTATE
  if s.isolated 1 24 then 5
  else if !s.on F.BST_CFG_EN ∨ psTarget s ≠ 2 then 0
  else if st = 5 then 4
  else if !s.on F.PWR_STATUS_PVIN_OK then 3
  else if st ≤ 1 then 1
  else if s.fld F.BST_STAT_PH_OUT ≠ 0 ∨ st = 4 ∨ !s.on F.PWR_STATUS_PVIN_FULL ∨ s.bst.rbFault then 3 else 2

/-- BOOST_CONTROL_CYCLE. -/
def execBoostControlCycle (s : State) : Host.Outcome State Fault Refusal := s.ticking (.next (bstCycle s))

/-- BOOST_BYPASS_ENTRY. -/
def execBoostBypassEntry (s : State) : Host.Outcome State Fault Refusal :=
  s.ticking (
    .next (if s.bst.st = 3 ∧ 64 ≤ s.bst.lowRun then { s with bst := { s.bst with st := 2, active := 0, lowRun := 0 } } else s))

/-- PHASE_SHED. -/
def execPhaseShed (s : State) : Host.Outcome State Fault Refusal :=
  s.ticking (
    let k := ((List.range 4).filter (fun j => s.bst.active / 2 ^ j % 2 == 1)).length
    .next (if 64 ≤ s.bst.shedRun ∧ 1 < k then { s with bst := { s.bst with active := bstFirst (k - 1) s, shedRun := 0 } } else s))

/-- BOOST_START. EN pressed to 1 waits in PRECHARGE for the conditions; what has stopped the boost clears first (R387). -/
def execBoostStart (s : State) : Host.Outcome State Fault Refusal :=
  s.ticking (
    .next (if s.bst.st = 0 ∧ s.on F.BST_CFG_EN ∧ (bstMayRun s ∨ !s.bst.stopped) ∧ !s.isolated 1 24 then
      { s with bst := { s.bst with st := 1, stopped := false, due := if bstMayRun s then s.tick + 384 else 0 } } else s))

/-- BOOST_PRECHARGE_DONE. -/
def execBoostPrechargeDone (s : State) : Host.Outcome State Fault Refusal :=
  s.ticking (
    .next (if s.bst.st = 1 ∧ s.bst.due ≠ 0 ∧ s.bst.due ≤ s.tick then
      { s with bst := { s.bst with st := if s.bst.heldT || s.bst.heldR then 4 else 2, since := s.tick, r := mV s.bst.pvin - mV 200, lowRun := 0 } } else s))

/-- BOOST_PHASE_FAIL. -/
def execBoostPhaseFail (k : Fin 4) (s : State) : Host.Outcome State Fault Refusal := s.ticking (.next (bstPhaseFail k.val s))

/-- BOOST_RAIL_FAULT. `kind`: 0 over-voltage, 1 short, 2 fewer than two phases (R389). -/
def execBoostRailFault (kind : Fin 3) (s : State) : Host.Outcome State Fault Refusal :=
  s.ticking (
    .next (if kind.val = 0 then bstFail 0x67C3 s
      else if kind.val = 1 then s.when (s.bst.st != 1) (bstFail 0x67C4)
      else s.when (decide ((bstService s).length < 2)) (bstFail 0x67C2)))

/-- BOOST_THERMAL. `code` is the temperature plus 64 °C. -/
def execBoostThermal (code : Fin 256) (s : State) : Host.Outcome State Fault Refusal := s.ticking (.next (bstTemp code.val s))

/-- BOOST_THERMAL_RETURN. -/
def execBoostThermalReturn (s : State) : Host.Outcome State Fault Refusal :=
  s.ticking (
    .next (match s.bst.cool with
      | some c => if s.bst.heldT ∧ c + 192000 ≤ s.tick then
          { s with bst := { s.bst with heldT := false, st := if s.bst.st = 4 ∧ !s.bst.heldR then 2 else s.bst.st } } else s
      | none => s))

/-- BOOST_RESTORE. -/
def execBoostRestore (s : State) : Host.Outcome State Fault Refusal := s.heard (.next (bstRestore s))

end Sys2Proof.Machine
end

