-- ==== Sys2Proof/Machine/Mbox.lean ====
section
/-!
DEFINITION. The mailbox between the host and the management controller (R501, R502).
-/

namespace Sys2Proof.Machine

/-- A host write to H2M_DATA or H2M_LEN while H2M_FULL = 1: ignored and counted (R502). -/
def mboxIgnored (s : State) : State := s.bump F.MBOX_CNT_MB_OVR F.MBOX_CNT_OV_SAT

/-- A host message discarded by a reset of the controller (R502). -/
def mboxLost (s : State) : State := s.bump F.MBOX_CNT_MB_LOST F.MBOX_CNT_LS_SAT

/-- A write of H2M_LEN (R501, R502): 65 to 127 act as 64, 0 has no action; in the tick of a watchdog reset the message is discarded. -/
def mboxSend (n : Nat) (s : State) : State :=
  if s.on F.MBOX_STAT_H2M_FULL then mboxIgnored s
  else if n = 0 then s
  else if s.flt.wdResets.contains s.tick then mboxLost s
  else (s.setFld F.MBOX_H2M_LEN_H2M_LEN (min 64 n)).setFld F.MBOX_STAT_H2M_FULL 1

/-- A write of M2H_ACK (R502). -/
def mboxAck (s : State) : State := s.setFld F.MBOX_STAT_M2H_FULL 0

/-- MBOX_SEND. -/
def execMboxSend (len : Fin 128) (s : State) : Host.Outcome State Fault Refusal := s.heard (.next (mboxSend len.val s))

/-- MBOX_TAKE. -/
def execMboxTake (s : State) : Host.Outcome State Fault Refusal :=
  s.ticking (
    .next (s.when (s.on F.MBOX_STAT_H2M_FULL) (fun s => (s.setFld F.MBOX_STAT_H2M_FULL 0).raise Pg.mbox 0)))

/-- MBOX_POST. The words stay unchanged until M2H_ACK: a post before it has no effect. -/
def execMboxPost (words : List Word) (s : State) : Host.Outcome State Fault Refusal :=
  s.ticking (
    .next (s.when (!s.on F.MBOX_STAT_M2H_FULL) (fun s =>
      let n := min 64 words.length
      let s := s.each n (fun i s => s.setWord (Adr.M2H_DATA i) (words.getD i 0))
      ((s.setFld F.MBOX_M2H_LEN_M2H_LEN n).setFld F.MBOX_STAT_M2H_FULL 1).raise Pg.mbox 1)))

/-- MBOX_ACK. -/
def execMboxAck (s : State) : Host.Outcome State Fault Refusal := s.heard (.next (mboxAck s))

/-- MC_READY. The running controller sets MC_RDY (R502). -/
def execMcReady (s : State) : Host.Outcome State Fault Refusal :=
  s.ticking (
    .next (s.when (s.fld F.FLT_STAT_MC_STATE == 1) (fun s => (s.setFld F.MBOX_STAT_MC_RDY 1).raise Pg.mbox 3)))

/-- The mailbox at a watchdog reset of the controller (R502). -/
def mboxLose (s : State) : State :=
  let s := s.when (s.on F.MBOX_STAT_H2M_FULL) mboxLost
  ((s.setFld F.MBOX_STAT_H2M_FULL 0).setFld F.MBOX_STAT_M2H_FULL 0).raise Pg.mbox 2

end Sys2Proof.Machine
end

