-- ==== Sys2Proof/Machine/Nvm.lean ====
section
/-!
DEFINITION. Non-volatile storage (R552-R566, R572, R573): OTP items, the flash journal, and the boot of the management controller.
-/

namespace Sys2Proof.Machine

/-- The programmed words of customer item `i`, in order (R552). -/
def otpWords (s : State) (i : Nat) : List OtpWord := SMap.get (fun _ => []) s.nvm.otp i

/-- The odd parity of byte `b` of a word (R552). -/
def otpParity (d : Word) (b : Nat) : Bool := !((List.range 8).foldl (fun r i => r ^^ d.getLsbD (8 * b + i)) false)

/-- The word that holds `d`: its data, four parities and the marker (R552). -/
def otpWord (d : Word) : OtpWord :=
  0xA#4 ++ (BitVec.ofBool (otpParity d 3) ++ BitVec.ofBool (otpParity d 2) ++ BitVec.ofBool (otpParity d 1) ++
    BitVec.ofBool (otpParity d 0)) ++ d

/-- The data of a VALID word: its marker and all four parities hold (R553). -/
def otpData (w : OtpWord) : Option Word :=
  let d := w.extractLsb' 0 32
  if w = otpWord d then some d else none

/-- The data of the highest-numbered VALID word (R553). -/
def otpLast (ws : List OtpWord) : Option Word := (ws.filterMap otpData).getLast?

/-- ISTATE of an item (R553). -/
def otpState (ws : List OtpWord) : Nat :=
  match ws, otpLast ws with
  | [], _ => 0
  | _, some _ => 1
  | _, none => 2

/-- The value of an item: its default where it is BLANK or INVALID (R553, R555). -/
def otpValue (s : State) (i : Nat) : Word :=
  match otpLast (otpWords s i) with
  | some v => v
  | none => if i = 0 then BitVec.ofNat 32 ((s.nvm.flash.getD 0) * 65536) else 0

/-- An item as the last start of the management controller took it (R555). -/
def otpUsed (s : State) (i : Nat) : Option Word := otpLast (SMap.get (fun _ => []) s.nvm.used i)

/-- Whether a value keeps the kind of its item (R555). -/
def otpKindOk (s : State) (i : Nat) (v : Word) : Bool :=
  let cur := otpValue s i
  if i = 1 then v &&& cur == cur
  else if i = 18 then decide (cur.toNat ≤ v.toNat)
  else if 2 ≤ i ∧ i ≤ 17 then (otpLast (otpWords s i)).isNone
  else true

/-- PF_VIO stands (R92). -/
def pfVioOn (s : State) : Bool := s.on F.PWR_STATUS_PF_VIO

/-- A result of PROG (R556). -/
def otpResult (r : Nat) (s : State) : State :=
  ((s.when (r == 1) (fun s => s.bump F.NVM_CNT1_PF_REFUSE F.NVM_CNT1_PF_SAT)).post Adr.NVM_OTP_RES (BitVec.ofNat 32 r)).raise
    Pg.nvm 2

/-- A write of PROG: the first outcome of R556 that applies. -/
def otpProgram (o : Origin) (s : State) : State :=
  let i := s.fld F.NVM_OTP_SEL_ITEM
  let v := s.word Adr.NVM_OTP_DATA
  if s.nvm.otpBusy.isSome then otpResult 6 s
  else if pfVioOn s then otpResult 1 s
  else if o = .mc ∧ i ≤ 18 then otpResult 4 s
  else if !otpKindOk s i v then otpResult 2 s
  else if 4 ≤ (otpWords s i).length then otpResult 3 s
  else { s with nvm := { s.nvm with otpBusy := some (i, v, s.tick + 19) } }

/-- A word programmed into an item; one that reads all 0 is still BLANK (R553). -/
def otpPush (i : Nat) (w : OtpWord) (s : State) : State :=
  s.when (w != 0) (fun s => { s with nvm := { s.nvm with otp := SMap.set (fun _ => []) s.nvm.otp i (otpWords s i ++ [w]) } })

/-- OTP_PROGRAM. -/
def execOtpProgram (o : Origin) (s : State) : Host.Outcome State Fault Refusal := s.heardFrom o (.next (otpProgram o s))

/-- A programming ends: the bits of `lost` have stayed 0, and the word reads VALID or not (R553, R556). -/
def otpEnd (lost : OtpWord) (s : State) : State :=
  match s.nvm.otpBusy with
  | none => s
  | some (i, v, due) =>
    if s.tick < due then s
    else
      let w := otpWord v &&& ~~~lost
      otpResult (if (otpData w).isSome then 0 else 5) (otpPush i w { s with nvm := { s.nvm with otpBusy := none } })

/-- OTP_PROGRAM_DONE. It comes after the 100 µs of a word (R556). -/
def execOtpProgramDone (lost : BitVec 40) (s : State) : Host.Outcome State Fault Refusal := s.ticking (.next (otpEnd lost s))

/-- Sectors that a record with `len` body bytes occupies. -/
def jSectors (len : Nat) : Nat := (len + 28 + 4095) / 4096

/-- Journal geometry and whether the journal is there (R555, R557). -/
def jBase (s : State) : Nat := s.fld F.NVM_JGEOM_BASE
def jSize (s : State) : Nat := s.fld F.NVM_JGEOM_SECTORS
def jPresent (s : State) : Bool := s.on F.NVM_STAT_FL_PRESENT && !s.on F.NVM_STAT_JGEOM_ERR && decide (0 < jSize s)

/-- Bytes 0 to 11 of a record (R558). -/
def JRec.head (r : JRec) : List Byte := leBytes 2 r.hmark ++ leBytes 1 r.typ ++ leBytes 1 r.id ++ leBytes 4 r.seq ++ leBytes 4 r.len

/-- HCRC is right. -/
def JRec.hcrcOk (r : JRec) : Bool := r.hcrc == crc32 r.head

/-- HMARK and HCRC are right. -/
def JRec.headOk (r : JRec) : Bool := r.hmark == 0x4C5A && r.hcrcOk

/-- CRC is right. -/
def JRec.crcOk (r : JRec) : Bool := r.crc == crc32 (r.head ++ leBytes 4 r.hcrc.toNat ++ r.body)

/-- Committed and not superseded; only CRC is still to be checked (R559). -/
def JRec.candidate (r : JRec) : Bool := r.headOk && r.commit == 0x0000C3C3#32 && r.supersede == 0xFFFFFFFF#32

/-- A valid record (R559). -/
def JRec.valid (r : JRec) : Bool := r.candidate && r.crcOk

/-- The sectors of a record, counted from the journal's base in its circular order (R562). -/
def JRec.sectors (base n : Nat) (r : JRec) : List Nat :=
  (List.range (jSectors r.len)).map (fun k => (r.sector - base + k) % max 1 n)

/-- The records that lie in the journal. -/
def jRecs (s : State) : List JRec := s.nvm.recs.filter (fun r => jBase s ≤ r.sector && r.sector < jBase s + jSize s)

/-- The record of highest SEQ in a list. -/
def jNewest (rs : List JRec) : Option JRec :=
  rs.foldl (fun b r => match b with | some x => if x.seq < r.seq then some r else b | none => some r) none

/-- The current record of a pair (R559). -/
def jCurrent (s : State) (t i : Nat) : Option JRec :=
  jNewest ((jRecs s).filter (fun r => r.typ == t && r.id == i && r.valid))

/-- The next SEQ (R561). -/
def jNextSeq (s : State) : Nat := match jNewest ((jRecs s).filter JRec.hcrcOk) with | some r => r.seq + 1 | none => 1

/-- The head: the sector after the newest record, from the base (R562). -/
def jHead (s : State) : Nat :=
  match jNewest ((jRecs s).filter JRec.headOk) with
  | some r => (r.sector - jBase s + jSectors r.len) % max 1 (jSize s)
  | none => 0

/-- Sectors of valid records, from the base. -/
def jUsed (s : State) : List Nat := ((jRecs s).filter JRec.valid).flatMap (JRec.sectors (jBase s) (jSize s))

/-- NVM_JFREE follows the records (R562). -/
def jFree (s : State) : State := s.setFld F.NVM_JFREE_FREE (jSize s - (jUsed s).length)

/-- The first place in circular order from the head whose `k` sectors lie in no valid record. -/
def jFit (s : State) (k : Nat) : Option Nat :=
  let n := jSize s
  let used := jUsed s
  ((List.range n).map (fun d => (jHead s + d) % n)).find? (fun p => (List.range k).all (fun i => !used.contains ((p + i) % n)))

/-- The `k` sectors from place `p` erased: no valid record lies in them, and whatever else did is gone (R562). -/
def jErase (p k : Nat) (s : State) : State :=
  let mine := (List.range k).map (fun i => (p + i) % max 1 (jSize s))
  { s with nvm := { s.nvm with
      recs := s.nvm.recs.filter (fun x => x.valid || !((x.sectors (jBase s) (jSize s)).any mine.contains)) } }

/-- A record programmed into erased sectors. -/
def jPut (r : JRec) (s : State) : State := { s with nvm := { s.nvm with recs := s.nvm.recs ++ [r] } }

/-- SUPERSEDE programmed in the records that `p` picks (R560, R561). -/
def jSupersede (p : JRec → Bool) (s : State) : State :=
  { s with nvm := { s.nvm with recs := s.nvm.recs.map (fun r => if p r then { r with supersede := 0 } else r) } }

/-- A new record as R558 lays it out after `stage` steps of R560: 1 header and body, 2 its CRC too, 3 its COMMIT too. -/
def jRecord (sector typ id seq : Nat) (body : List Byte) (len : Nat) (stage : Nat) : JRec :=
  let r : JRec := {
    sector := sector, typ := typ, id := id, seq := seq, len := len, hcrc := 0, body := body
    crc := 0xFFFFFFFF, commit := 0xFFFFFFFF, supersede := 0xFFFFFFFF }
  let r := { r with hcrc := crc32 r.head }
  let r := if stage ≤ 1 then r else { r with crc := crc32 (r.head ++ leBytes 4 r.hcrc.toNat ++ r.body) }
  if stage ≤ 2 then r else { r with commit := 0x0000C3C3 }

/-- A record written whole at place `p`, whose sectors are erased (R560): it is the current one, and what it replaces is superseded. -/
def jWrite (typ id p : Nat) (body : List Byte) (s : State) : State :=
  let seq := jNextSeq s
  let s := jPut (jRecord (jBase s + p) typ id seq body body.length 3) s
  (jSupersede (fun r => r.typ == typ && r.id == id && r.valid && r.seq != seq) s).setFld F.NVM_JSEQ_JSEQ seq

/-- The current record that stands in the way of a new one of `k` sectors at the head (R562). -/
def jInWay (s : State) (k : Nat) : Option JRec :=
  let want := (List.range k).map (fun i => (jHead s + i) % max 1 (jSize s))
  ((jRecs s).filter JRec.valid).find? (fun r => (r.sectors (jBase s) (jSize s)).any want.contains)

/-- A record relocated to place `p` as a complete write of its own (R562). -/
def jMove (r : JRec) (p : Nat) (s : State) : State :=
  (jWrite r.typ r.id p r.body (jErase p (jSectors r.len) s)).bump F.NVM_CNT2_RELOC_CNT F.NVM_CNT2_RL_SAT

/-- The result of a command (R563). -/
def jResult (r : Nat) (s : State) : State :=
  (((s.when (r == 1) (fun s => s.bump F.NVM_CNT1_PF_REFUSE F.NVM_CNT1_PF_SAT)).post Adr.NVM_JRES (BitVec.ofNat 32 r)).raise
    Pg.nvm 0).when (r != 0) (fun s => s.raise Pg.nvm 1)

/-- The command under way ended with its result. -/
def jEnd (r : Nat) (s : State) : State :=
  jResult r (jFree (({ s with nvm := { s.nvm with cmd := none } }.setFld F.NVM_STAT_BUSY 0).setFld F.NVM_STAT_OPSTEP 0))

/-- The command under way replaced. -/
def jKeep (c : JCmd) (s : State) : State := { s with nvm := { s.nvm with cmd := some c } }

/-- A command started. -/
def jBegin (c : JCmd) (step : Nat) (s : State) : State :=
  ((jKeep c s).setFld F.NVM_STAT_BUSY 1).setFld F.NVM_STAT_OPSTEP step

/-- Whether an origin may command the engine now (R563). -/
def jAllowed (o : Origin) (s : State) : Bool :=
  let st := s.fld F.FLT_STAT_MC_STATE
  if o = .mc then decide (st ≤ 1) else decide (2 ≤ st ∧ st ≤ 4)

/-- What comes before any command: 6 REFUSED, 2 NOT_READY, 1 PF_BLOCK of R563; 0 none of them. -/
def jTurned (o : Origin) (cmd typ : Nat) (s : State) : Nat :=
  if s.on F.NVM_STAT_BUSY || !jAllowed o s || (cmd != 1 && (typ == 0 || typ == 255)) then 6
  else if !jPresent s || (cmd != 1 && !s.on F.NVM_STAT_JNL_RDY) then 2
  else if 3 ≤ cmd && pfVioOn s then 1
  else 0

/-- The records that a mount finds superseded by a newer valid one of their pair and not yet marked (R561). -/
def jStale (s : State) (r : JRec) : Bool :=
  r.candidate && match jCurrent s r.typ r.id with
    | some c => decide (r.seq < c.seq)
    | none => false

/-- Candidates that a mount checks and finds with a wrong CRC: those above the current record of their pair (R559, R561). -/
def jBad (s : State) (r : JRec) : Bool :=
  r.candidate && !r.crcOk && match jCurrent s r.typ r.id with
    | some c => decide (c.seq < r.seq)
    | none => true

/-- A MOUNT command (R561, R563). -/
def jMount (o : Origin) (s : State) : State :=
  match jTurned o 1 0 s with
  | 0 => jBegin { cmd := 1, typ := 0, id := 0, len := 0, began := s.tick } 7 s
  | r => jResult r s

/-- SUPERSEDE of every valid record of a pair (R563). -/
def jDeletePair (t i : Nat) (s : State) : State :=
  jSupersede (fun r => (jRecs s).contains r && r.typ == t && r.id == i && r.valid) s

/-- SUPERSEDE of what a mount finds left undone (R561). -/
def jComplete (s : State) : State := jSupersede (fun r => (jRecs s).contains r && jStale s r) s

/-- The end of a mount: bad CRCs and torn records counted, supersedes completed, the journal ready (R561). -/
def jMounted (s : State) : State :=
  let rs := jRecs s
  let bad := rs.filter (jBad s)
  let torn := rs.filter (fun r => r.headOk && r.supersede == 0xFFFFFFFF#32 && !r.valid && !jStale s r)
  let s := bad.foldl (fun s _ => (s.bump F.NVM_CNT2_CRC_BAD F.NVM_CNT2_CB_SAT).report 0x4202 0 0) s
  let s := s.bumpBy torn.length F.NVM_CNT1_TORN_CNT F.NVM_CNT1_TN_SAT
  if rs.any (jStale s) && pfVioOn s then jEnd 1 s
  else
    jEnd 0 ((jComplete s).setFld F.NVM_STAT_JNL_RDY 1)

/-- A body cut into signatures of at most 4,096 bytes (R563). -/
def jChunks : Nat → List Byte → List (List Byte)
  | 0, _ => []
  | _, [] => []
  | n + 1, bs => bs.take 4096 :: jChunks n (bs.drop 4096)

/-- A READ command (R563). -/
def jRead (o : Origin) (t i : Nat) (s : State) : State :=
  match jTurned o 2 t s with
  | 0 =>
    match jCurrent s t i with
    | none => jResult 3 s
    | some r => jBegin { cmd := 2, typ := t, id := i, len := r.len, out := jChunks (r.body.length + 1) r.body } 6
        (s.setFld F.NVM_JSEQ_JSEQ r.seq)
  | r => jResult r s

/-- Whether a new record of `len` body bytes has room beside the current ones (R562). -/
def jRoom (s : State) (len : Nat) : Bool := decide ((jUsed s).length + jSectors len ≤ jSize s - 2)

/-- A WRITE command (R560, R563). -/
def jWriteCmd (o : Origin) (t i : Nat) (s : State) : State :=
  let len := s.fld F.NVM_JLEN_LEN
  match jTurned o 3 t s with
  | 0 => if jRoom s len then jBegin { cmd := 3, typ := t, id := i, len := len, began := s.tick, wait := s.tick } 1 s else jResult 4 s
  | r => jResult r s

/-- A DELETE command (R563). -/
def jDelete (o : Origin) (t i : Nat) (s : State) : State :=
  match jTurned o 4 t s with
  | 0 => if (jCurrent s t i).isNone then jResult 3 s else jBegin { cmd := 4, typ := t, id := i, len := 0, began := s.tick } 5 s
  | r => jResult r s

/-- A write of NVM_JCMD (R563). -/
def jCommand (o : Origin) (w : Word) (s : State) : State :=
  let t := w.bits 15 8
  let i := w.bits 23 16
  match w.bits 2 0 with
  | 1 => jMount o s
  | 2 => jRead o t i s
  | 3 => jWriteCmd o t i s
  | 4 => jDelete o t i s
  | _ => s

/-- Bytes taken from JWQ across signature boundaries, at most `n` (R563). -/
def jTake (q : Nat) : Nat → Nat → State → List Byte × State
  | 0, _, s => ([], s)
  | fuel + 1, n, s =>
    match qHead s q with
    | none => ([], s)
    | some g =>
      if g.closed && g.len == 0 then jTake q fuel n (qPass q s)
      else
        let k := min n (qReady s q)
        if k = 0 then ([], s)
        else
          let bs := ((unpackWords g.words).drop (s.queue q).rd).take k
          let (r, s') := jTake q fuel (n - k) (qAdvance q k s)
          (bs ++ r, s')

/-- The journal engine as a producer of JRQ (R563). -/
def jProd : Prod := ⟨5, 11, 0⟩

/-- A WRITE before its place is known: one relocation, under PF_VIO = 0, or else its place, whose sectors are erased (R92, R562). A
record that more relocations than there are records have not made room for takes the first place that fits (log entry 89). -/
def jSettle (c : JCmd) (s : State) : State :=
  let k := jSectors c.len
  let go := fun (p : Option Nat) => match p with
    | some p => (jKeep { c with place := some p, wait := s.tick } (jErase p k s)).setFld F.NVM_STAT_OPSTEP 2
    | none => jEnd 4 s
  if pfVioOn s then jEnd 1 s
  else if s.nvm.recs.length < c.moves then go (jFit s k)
  else match jInWay s k with
    | none => go (some (jHead s))
    | some r =>
      match jFit s (jSectors r.len) with
      | none => jEnd 4 s
      | some p => jKeep { c with moves := c.moves + 1 } (jMove r p s)

/-- Step 1 of a WRITE takes its body from JWQ; steps 2 to 4 follow one another (R560, R563). -/
def jProgram (c : JCmd) (s : State) : State :=
  let q := s.fld F.NVM_JQ_JWQ
  let (bs, s) := jTake q ((s.queue q).sigs.length + 1) (c.len - c.got.length) s
  let c := { c with got := c.got ++ bs, wait := if bs.isEmpty then c.wait else s.tick }
  (jKeep c s).when (c.got.length == c.len) (fun s => s.setFld F.NVM_STAT_OPSTEP (min 5 (s.fld F.NVM_STAT_OPSTEP + 1)))

/-- The work of the journal engine in a tick: relocations before a new record, its body from JWQ, signatures of a READ (R560-R563). -/
def nvmTick (s : State) : State :=
  match s.nvm.cmd with
  | none => s
  | some c =>
    if c.cmd = 3 then
      if c.place.isNone then jSettle c s else jProgram c s
    else if c.cmd = 2 then
      if s.nvm.cmd.any (fun c => c.out.isEmpty) || s.qmg.waits.any (fun w => w.prod == jProd) then s
      else
        let s := (qWriteBytes (s.fld F.NVM_JQ_JRQ) jProd (c.out.headD []) s).1
        jKeep { c with out := c.out.drop 1 } s
    else s

/-- A WRITE that ends after `stage` steps of R560: nothing programmed, a torn record, or a committed one whose predecessor has been
superseded only after step 4. No more is done than OPSTEP has come to. -/
def jCutWrite (c : JCmd) (p stage : Nat) (s : State) : State :=
  let stage := min (min stage (s.fld F.NVM_STAT_OPSTEP - 1)) (if c.got.length < c.len then 1 else 4)
  if stage = 0 then s
  else if stage = 4 then jWrite c.typ c.id p c.got s
  else jPut (jRecord (jBase s + p) c.typ c.id (jNextSeq s) c.got c.len stage) s

/-- What the flash holds where the command under way ends with `stage` steps of R560 completed; the supersedes of a DELETE and of a
MOUNT are its step 4. -/
def jCut (stage : Nat) (s : State) : State :=
  match s.nvm.cmd with
  | none => s
  | some c =>
    if c.cmd = 3 then (match c.place with | some p => jCutWrite c p stage s | none => s)
    else if stage ≠ 4 then s
    else if c.cmd = 4 then jDeletePair c.typ c.id s
    else if c.cmd = 1 then jComplete s
    else s

/-- What a programming of the OTP cut off after `stage` steps leaves: data first, then parity, then the marker (R552, R553). -/
def otpCut (stage : Nat) (v : Word) : OtpWord :=
  match stage with
  | 0 => 0
  | 1 => otpWord v &&& 0x00FFFFFFFF#40
  | 2 => otpWord v &&& 0x0FFFFFFFFF#40
  | _ => otpWord v

/-- A reset or a supply collapse during non-volatile writes (R553, R560, R577): what each left behind. -/
def nvmCollapse (stage : Nat) (s : State) : State :=
  let s := match s.nvm.otpBusy with
    | some (i, v, _) => otpPush i (otpCut stage v) s
    | none => s
  let s := jCut stage s
  { s with nvm := { s.nvm with otpBusy := none, cmd := none } }

/-- JOURNAL_MOUNT. -/
def execJournalMount (o : Origin) (s : State) : Host.Outcome State Fault Refusal := s.heardFrom o (.next (jMount o s))

/-- JOURNAL_READ. -/
def execJournalRead (o : Origin) (t i : Fin 256) (s : State) : Host.Outcome State Fault Refusal := s.heardFrom o (.next (jRead o t.val i.val s))

/-- JOURNAL_WRITE. -/
def execJournalWrite (o : Origin) (t i : Fin 256) (s : State) : Host.Outcome State Fault Refusal := s.heardFrom o (.next (jWriteCmd o t.val i.val s))

/-- JOURNAL_DELETE. -/
def execJournalDelete (o : Origin) (t i : Fin 256) (s : State) : Host.Outcome State Fault Refusal := s.heardFrom o (.next (jDelete o t.val i.val s))

/-- The end of the command under way, once its data has moved (R563). -/
def jDone (s : State) : State :=
  match s.nvm.cmd with
  | none => s
  | some c =>
    if c.cmd = 1 then jMounted s
    else if c.cmd = 2 then
      if c.out.isEmpty && !s.qmg.waits.any (fun w => w.prod == jProd) then jEnd 0 s else s
    else if c.cmd = 3 then
      match c.place with
      | some p => if s.fld F.NVM_STAT_OPSTEP = 5 then jEnd 0 (jWrite c.typ c.id p c.got s) else s
      | none => s
    else
      let seq := match jCurrent s c.typ c.id with | some r => r.seq | none => 0
      jEnd 0 ((jDeletePair c.typ c.id s).setFld F.NVM_JSEQ_JSEQ seq)

/-- JOURNAL_OP_DONE. -/
def execJournalOpDone (s : State) : Host.Outcome State Fault Refusal := s.ticking (.next (jDone s))

/-- JOURNAL_WRITE_SHORT. JWQ has held no byte for 1 s (R563). -/
def execJournalWriteShort (s : State) : Host.Outcome State Fault Refusal :=
  s.ticking (
    .next (match s.nvm.cmd with
      | some c =>
        if c.cmd = 3 ∧ c.place.isSome ∧ c.got.length < c.len ∧ c.wait + 192000 ≤ s.tick then jEnd 7 (jCut 1 s) else s
      | none => s))

/-- Whether the command under way programs or erases the flash, and has had the 5 ms of a program (R557). -/
def jPrograms (s : State) : Bool :=
  match s.nvm.cmd with
  | some c => decide (c.began + 960 ≤ s.tick) && (c.cmd == 3 || c.cmd == 4 || (c.cmd == 1 && (jRecs s).any (jStale s)))
  | none => false

/-- FLASH_TIMEOUT. A program or an erase passes its bound (R557) with `stage` steps of R560 completed. -/
def execFlashTimeout (stage : Fin 4) (s : State) : Host.Outcome State Fault Refusal :=
  s.ticking (.next (s.when (jPrograms s) (fun s => jEnd 5 ((jCut stage.val s).report 0x4204 0 0))))

/-- The management controller enters reset or leaves it: the journal is not ready (R547, R563). -/
def jUnready (s : State) : State := s.setFld F.NVM_STAT_JNL_RDY 0

/-- The ROM waits for a host load (R564). -/
def bootWait (result : Nat) (s : State) : State :=
  let s := { s with nvm := { s.nvm with boot := 4, hload := [] } }
  (((s.setFld F.NVM_BOOT_STAT_RESULT result).setFld F.NVM_BOOT_STAT_WAIT_HOST 1).raise Pg.nvm 3).when s.nvm.sigBad
    (fun s => s.report 0x9203 0 0)

/-- The public key in the eight items from `first`; none unless every one is VALID (R555, R565). -/
def bootKey (s : State) (first : Nat) : Option (List Byte) :=
  (List.range 8).foldl (fun r i => match r, otpUsed s (first + i) with
    | some bs, some w => some (bs ++ leBytes 4 w.toNat)
    | _, _ => none) (some [])

/-- Whether every item of both keys is BLANK (R565). -/
def bootKeysBlank (s : State) : Bool :=
  (List.range 16).all (fun i => (SMap.get (fun _ => []) s.nvm.used (2 + i)).isEmpty)

/-- The key a body's signature verifies with: 1 KEY0, 2 KEY1, 0 none (R565). -/
def bootVerify (s : State) (body : List Byte) : Nat :=
  let revoked := (otpUsed s 1).getD 0
  let good := fun k => !revoked.getLsbD k && match bootKey s (2 + 8 * k) with
    | some key => Config.ed25519 key (body.take (body.length - 64)) (body.drop (body.length - 64))
    | none => false
  if good 0 then 1 else if good 1 then 2 else 0

/-- A boot body judged (R565): RESULT of NVM_BOOT_STAT, and the key. -/
def bootJudge (s : State) (body : List Byte) : Nat × Nat :=
  let f := fun k => leNum ((body.drop (4 * k)).take 4)
  if body.length < 80 ∨ body.length ≠ f 1 + 80 ∨ 524288 < f 1 ∨ f 1 ≤ f 2 then (5, 0)
  else if f 0 < ((otpUsed s 18).getD 0).toNat then (4, 0)
  else if bootKeysBlank s then (1, 0)
  else match bootVerify s body with
    | 0 => (3, 0)
    | k => (1, k)

/-- VERSION of a boot body. -/
def bootVersion (body : List Byte) : Nat := leNum (body.take 4)

/-- An accepted image starts: the controller runs (R564, R546). -/
def bootRun (src slot key : Nat) (body : List Byte) (s : State) : State :=
  let s := { s with nvm := { s.nvm with boot := 0, hload := [] }, flt := { s.flt with kickTick := s.tick } }
  let s := (((s.setFld F.NVM_BOOT_STAT_RESULT 1).setFld F.NVM_BOOT_STAT_SRC src).setFld F.NVM_BOOT_STAT_SLOT slot).setFld
    F.NVM_BOOT_STAT_KEY key
  let s := (s.setOn F.NVM_BOOT_STAT_SIGNED (!bootKeysBlank s)).setFld F.NVM_BOOT_STAT_WAIT_HOST 0
  (s.setFld F.NVM_BOOT_VER_VERSION (bootVersion body)).setFld F.FLT_STAT_MC_STATE 1

/-- The slots with a current boot image, in the order of R564: higher VERSION first, then higher SEQ. -/
def bootOrder (s : State) : List Nat :=
  let key := fun i => (jCurrent s 1 i).map (fun r => (bootVersion r.body, r.seq))
  match key 0, key 1 with
  | some (v0, q0), some (v1, q1) => if v0 < v1 ∨ (v0 = v1 ∧ q0 < q1) then [1, 0] else [0, 1]
  | some _, none => [0]
  | none, some _ => [1]
  | none, none => []

/-- The host's image judged, and started if it is accepted (R565, R566). -/
def hostBoot (s : State) : State :=
  let s := { s with nvm := { s.nvm with boot := 4 } }
  let body := unpackWords s.nvm.hload.reverse
  match bootJudge s body with
  | (1, k) => bootRun 2 0 k body s
  | (r, _) => s.setFld F.NVM_BOOT_STAT_RESULT r

/-- The ROM's work in a tick (R564): it mounts the journal once the engine is free, and then tries its images. -/
def bootTick (s : State) : State :=
  if s.nvm.boot = 6 then (if s.nvm.early ≤ s.tick then hostBoot s else s)
  else if s.on F.NVM_STAT_BUSY then s
  else if s.nvm.boot = 2 then
    let s := jMount .mc s
    if s.on F.NVM_STAT_BUSY then { s with nvm := { s.nvm with boot := 5 } } else bootWait 2 s
  else if s.nvm.boot = 5 then
    let l := bootOrder s
    if s.on F.NVM_STAT_JNL_RDY && !l.isEmpty then { s with nvm := { s.nvm with boot := 3, left := l } } else bootWait 2 s
  else s

/-- BOOT_START. The boot ROM starts (R564) with the flash's JEDEC ID and the OTP as they are now (R555, R557). -/
def execBootStart (jedec : BitVec 24) (s : State) : Host.Outcome State Fault Refusal :=
  s.ticking (
    .next (
      if s.nvm.boot ≠ 1 then s
      else
        let code := jedec.toNat % 256
        let found := s.on F.PWR_STATUS_IO_LEVEL && jedec.toNat != 0 && jedec.toNat != 0xFFFFFF && decide (0x14 ≤ code ∧ code ≤ 0x18)
        let n := if found then 2 ^ code / 4096 else 0
        let s := { s with nvm := { s.nvm with used := s.nvm.otp, flash := if found then some n else none, sigBad := false, left := [] } }
        let cfg := otpUsed s 0
        let base := match cfg with | some w => w.bits 11 0 | none => 0
        let size := match cfg with | some w => w.bits 28 16 | none => n
        let s := (s.setWord Adr.NVM_BOOT_STAT 0).setWord Adr.NVM_BOOT_VER 0
        let s := ((s.setOn F.NVM_STAT_FL_PRESENT found).setFld F.NVM_JGEOM_BASE base).setFld F.NVM_JGEOM_SECTORS size
        let s := s.setOn F.NVM_STAT_JGEOM_ERR (cfg.isSome && (decide (4096 < base + size) || (found && decide (n < base + size))))
        let host := cfg.any (fun w => w.getLsbD 31) || s.on F.NVM_FL_CFG_HOST_BOOT
        if jPresent s && !host then
          bootTick { s with nvm := { s.nvm with boot := 2 } }
        else bootWait 2 s))

/-- BOOT_IMAGE_CHECK. The next image has been read and judged (R564, R565); none starts before 100 µs after reset release (R582). -/
def execBootImageCheck (s : State) : Host.Outcome State Fault Refusal :=
  s.ticking (
    .next (
      if s.nvm.boot ≠ 3 ∨ s.tick < s.nvm.early then s
      else match s.nvm.left with
        | [] => bootWait 2 s
        | i :: rest =>
          let body := match jCurrent s 1 i with | some r => r.body | none => []
          match bootJudge s body with
          | (1, k) => bootRun 1 i k body s
          | (r, _) =>
            let s := { s with nvm := { s.nvm with left := rest, sigBad := s.nvm.sigBad || r == 3 } }
            if rest.isEmpty then bootWait r s else s.setFld F.NVM_BOOT_STAT_RESULT r))

/-- Whether the ROM waits for the host (R566). -/
def hostWaits (s : State) : Bool := s.on F.NVM_BOOT_STAT_WAIT_HOST

/-- A write of START (R566). -/
def hloadStart (s : State) : State :=
  s.when (hostWaits s) (fun s => { s with nvm := { s.nvm with hload := [] } }.setFld F.NVM_HLOAD_CNT_HLOAD_CNT 0)

/-- A write of NVM_HLOAD_DATA (R566). -/
def hloadData (w : Word) (s : State) : State :=
  s.when (hostWaits s) (fun s =>
    { s with nvm := { s.nvm with hload := w :: s.nvm.hload } }.setFld F.NVM_HLOAD_CNT_HLOAD_CNT
      (min (2 ^ 18 - 1) (s.fld F.NVM_HLOAD_CNT_HLOAD_CNT + 1)))

/-- A write of GO: the loaded image is judged, once an image may start (R566, R582). -/
def hloadGo (s : State) : State :=
  s.when (hostWaits s) (fun s => if s.nvm.early ≤ s.tick then hostBoot s else { s with nvm := { s.nvm with boot := 6 } })

/-- HLOAD_START. -/
def execHloadStart (s : State) : Host.Outcome State Fault Refusal := s.heard (.next (hloadStart s))

/-- HLOAD_DATA. -/
def execHloadData (data : Word) (s : State) : Host.Outcome State Fault Refusal := s.heard (.next (hloadData data s))

/-- HLOAD_GO. -/
def execHloadGo (s : State) : Host.Outcome State Fault Refusal := s.heard (.next (hloadGo s))

end Sys2Proof.Machine
end

