-- ==== Sys2Proof/Machine/Time.lean ====
section
/-!
DEFINITION. The time base: maps, conversions, domain ticks, calendar and the stamps of gPTP frames (R451-R454, R465-R470).
-/

namespace Sys2Proof.Machine

/-- An instant in core cycles since TICK 0. -/
def instant (tick cyc : Nat) : Nat := 5120 * tick + cyc

/-- Transmit stream `n` of the Zinkor Link. -/
def State.ztx (s : State) (n : Nat) : ZTx := SMap.get (fun _ => {}) s.zkl.tx n
def State.setZtx (n : Nat) (x : ZTx) (s : State) : State := { s with zkl := { s.zkl with tx := SMap.set (fun _ => {}) s.zkl.tx n x } }

/-- Ticks of a gathering for a GATH code (R455). -/
def gathTicks (g : Nat) : Nat := 2 * 2 ^ g

/-- The domain tick of local tick `t` (R453). -/
def domTick (t : Nat) (s : State) : Int := (t : Int) + s.time.dofs

/-- The scheduled start of a stream's next frame: of the frame assembled and not yet linked, or of the one whose last tick this is
(R457). -/
def ztxStart (n : Nat) (s : State) : Option Nat :=
  let x := s.ztx n
  let at_ := fun (t : Nat) => instant t (s.fld (F.TX_TIME_TXOFS n))
  let g := gathTicks (s.fld (F.TX_CFG_GATH n))
  if x.send.isSome then some (at_ s.tick)
  else if s.on (F.TX_CFG_EN n) && x.open_ && domTick s.tick s % (g : Int) == (g : Int) - 1 then some (at_ (s.tick + 1))
  else none

/-- gPTP time of an instant under a map, in units of 1 / (15,360 × 2^40) ns (R451). -/
def mapScale : Int := 15360 * 2 ^ 40
def mapNs (m : TMap) (tick cyc : Nat) : Int :=
  let d : Int := (instant tick cyc : Int) - (instant m.tickA 0 : Int)
  ((m.sec : Int) * 1000000000 + (m.ns : Int)) * mapScale + d * 15625 * (2 ^ 40 + m.rate)

/-- Whole seconds and nanoseconds of a gPTP time. -/
def gSec (g : Int) : Int := g.fdiv (1000000000 * mapScale)
def gNs (g : Int) : Int := (g.fmod (1000000000 * mapScale)).fdiv mapScale

/-- The last calendar second, 2199-12-31 23:59:59, since 2000-01-01 (R467). -/
def calEnd : Nat := 73049 * 86400 - 1

/-- UTC seconds from the PTP epoch to 2000-01-01. -/
def epoch2000 : Int := 946684800

/-- Year, month and day of a day number since 2000-01-01, in the Gregorian calendar (R467). -/
def civil (days : Nat) : Nat × Nat × Nat :=
  let z := days + 730425
  let era := z / 146097
  let doe := z % 146097
  let yoe := (doe - doe / 1460 + doe / 36524 - doe / 146096) / 365
  let doy := doe - (365 * yoe + yoe / 4 - yoe / 100)
  let mp := (5 * doy + 2) / 153
  let d := doy - (153 * mp + 2) / 5 + 1
  let m := if mp < 10 then mp + 3 else mp - 9
  (yoe + 400 * era + (if m ≤ 2 then 1 else 0), m, d)

/-- Day number of a date since 2000-01-01. -/
def dayNum (y m d : Nat) : Nat :=
  let y := if m ≤ 2 then y - 1 else y
  let era := y / 400
  let yoe := y % 400
  let doy := (153 * (if 2 < m then m - 3 else m + 9) + 2) / 5 + d - 1
  era * 146097 + (yoe * 365 + yoe / 4 - yoe / 100 + doy) - 730425

/-- The length of a month. -/
def monthLen (y m : Nat) : Nat :=
  if m = 2 then (if y % 4 = 0 ∧ (y % 100 ≠ 0 ∨ y % 400 = 0) then 29 else 28)
  else if m = 4 ∨ m = 6 ∨ m = 9 ∨ m = 11 then 30 else 31

/-- The date and time words of a calendar second (R467, R476). -/
def calDate (c : Nat) : Word :=
  let (y, m, d) := civil (c / 86400)
  BitVec.ofNat 32 (y * 65536 + m * 256 + d)
def calTime (c : Nat) : Word :=
  let t := c % 86400
  BitVec.ofNat 32 (((c / 86400 + 5) % 7 + 1) * 16777216 + (t / 3600) * 65536 + (t / 60 % 60) * 256 + t % 60)

/-- The calendar shown. -/
def calShow (s : State) : State :=
  (s.setWord Adr.TIME_CAL_DATE (calDate s.time.cal)).setWord Adr.TIME_CAL_TIME (calTime s.time.cal)

/-- The calendar set to a second; at its last second it stops (R469). -/
def calPut (c ticks : Nat) (s : State) : State :=
  let at_ := decide (calEnd ≤ c)
  let s := { s with time := { s.time with cal := min calEnd c, calTick := ticks } }
  let s := s.when (at_ && !s.on F.TIME_STAT_CAL_END) (State.raise Pg.time 2)
  calShow (s.setOn F.TIME_STAT_CAL_END at_)

/-- LEAP_AT as a gPTP second. -/
def leapAt (s : State) : Int :=
  ((s.fld F.TIME_LEAP_AT_HI_LEAP_AT_HI * 2 ^ 32 + s.fld F.TIME_LEAP_AT_LO_LEAP_AT_LO : Nat) : Int)

/-- The calendar from gPTP time now (R468, R470): before 2000 every field 0; a positive leap shows 23:59:60. `moved`: CAL_SRC or
UTC_OFS has changed, which alone takes the calendar on from its end (R469). -/
def calDerive (moved : Bool) (s : State) : State :=
  match s.time.map with
  | none => s
  | some m =>
    let g := mapNs m s.tick 0
    let sec := gSec g
    let u := sec - s.fld F.TIME_UTC_UTC_OFS - epoch2000
    let ticks := (gNs g * 3 / 15625).toNat
    if u < 0 then
      ((s.setFld F.TIME_STAT_CAL_OUT 1).setWord Adr.TIME_CAL_DATE 0).setWord Adr.TIME_CAL_TIME 0
    else if s.on F.TIME_STAT_CAL_END && !moved then calShow (s.setFld F.TIME_STAT_CAL_OUT 0)
    else
      let s := s.setFld F.TIME_STAT_CAL_OUT 0
      let plus := s.on F.TIME_STAT_LEAP_PEND && s.fld F.TIME_LEAP_OFS_LEAP_OFS == s.fld F.TIME_UTC_UTC_OFS + 1
        && sec == leapAt s - 1
      if plus then
        let s := calPut (u.toNat - 1) ticks s
        s.setFld ⟨Adr.TIME_CAL_TIME, 7, 0⟩ 60
      else calPut u.toNat ticks s

/-- Whether the calendar follows gPTP time now (R468). -/
def calFollows (s : State) : Bool := s.on F.TIME_CAL_CFG_CAL_SRC && s.on F.TIME_STAT_GPTP_RDY

/-- A write of COMMIT (R451). -/
def timeCommit (s : State) : State :=
  let m : TMap := { tickA := s.fld (F.TIME_MAP_TICK_TICK_A 0) + s.fld (F.TIME_MAP_TICK_TICK_A 1) * 2 ^ 32,
                    sec := s.fld F.TIME_MAP_SEC_LO_SEC_A_LO + s.fld F.TIME_MAP_SEC_HI_SEC_A_HI * 2 ^ 32,
                    ns := s.fld F.TIME_MAP_NS_NS_A, rate := s.int F.TIME_MAP_RATE_RATE, apply := 0, commit := s.tick }
  { s with time := { s.time with pend := some m } }

/-- The committed map comes into force at a boundary with TICK[9:0] = 0 (R451, R452). -/
def timeApply (s : State) : State :=
  match s.time.pend with
  | none => s
  | some m =>
    if s.tick % 1024 ≠ 0 ∨ m.commit = s.tick then s
    else
      let s := { s with time := { s.time with map := some { m with apply := s.tick }, prev := s.time.map, pend := none } }
      let s := (s.setFld F.TIME_STAT_GPTP_RDY 1).setFld F.TIME_STAT_STALE 0
      if s.on F.TIME_CAL_CFG_CAL_SRC then calDerive false s else s

/-- A map reaches 2 s without a new commit (R452). -/
def timeStale (s : State) : State :=
  match s.time.map with
  | none => s
  | some m =>
    if !s.on F.TIME_STAT_GPTP_RDY || decide (s.tick < m.commit + 384000) then s
    else (((s.setFld F.TIME_STAT_GPTP_RDY 0).setFld F.TIME_STAT_STALE 1).report 0x2141 0 0).raise Pg.time 0

/-- The result of a conversion (R466, R469). -/
def timeConverted (s : State) : State :=
  match s.time.cvt with
  | none => s
  | some (tick, cyc) =>
    let s := { s with time := { s.time with cvt := none } }
    let put (sec : Int) (ns date time st : Nat) (s : State) : State :=
      let sec := unsigned 48 sec
      (((((s.setWord Adr.TIME_CVT_SEC_LO (BitVec.ofNat 32 (sec % 2 ^ 32))).setWord Adr.TIME_CVT_SEC_HI
        (BitVec.ofNat 32 (sec / 2 ^ 32))).setWord Adr.TIME_CVT_NS (BitVec.ofNat 32 ns)).setWord Adr.TIME_CVT_DATE
        (BitVec.ofNat 32 date)).setWord Adr.TIME_CVT_TIME (BitVec.ofNat 32 time)).post Adr.TIME_CVT_ST (BitVec.ofNat 32 st)
    match s.time.map with
    | none => put 0 0 0 0 8 s
    | some m =>
      let old := decide (tick < m.apply)
      let p := if old then s.time.prev.getD m else m
      let flag := if old && (s.time.prev.isNone || decide (tick < p.apply)) then 4 else 0
      let g := mapNs p tick cyc
      let u := gSec g - s.fld F.TIME_UTC_UTC_OFS - epoch2000
      if u < 0 ∨ (calEnd : Int) < u then put (gSec g) (gNs g).toNat 0 0 (flag + 2) s
      else put (gSec g) (gNs g).toNat (calDate u.toNat).toNat (calTime u.toNat).toNat flag s

/-- The calendar's second ends (R467, R469). -/
def calSecond (s : State) : State :=
  if s.time.calTick < 192000 || s.on F.TIME_STAT_CAL_END || calFollows s then s
  else calPut (s.time.cal + 1) (s.time.calTick - 192000) s

/-- LEAP_AT is reached (R470). -/
def leapSecond (s : State) : State :=
  match s.time.map with
  | none => s
  | some m =>
    if s.on F.TIME_STAT_LEAP_PEND && decide (leapAt s ≤ gSec (mapNs m s.tick s.cyc)) then
      let s := (s.setFld F.TIME_UTC_UTC_OFS (s.fld F.TIME_LEAP_OFS_LEAP_OFS)).setFld F.TIME_STAT_LEAP_PEND 0
      if calFollows s then calDerive true s else s
    else s

/-- A press of the TIME page (R468, R470, R471). -/
def timePress (old s : State) : State :=
  let set := s.on F.TIME_CAL_CFG_SET
  let s := s.setFld F.TIME_CAL_CFG_SET 0
  let s := if set then
      let d := dayNum (s.fld F.TIME_CAL_SET_DATE_YEAR) (s.fld F.TIME_CAL_SET_DATE_MONTH) (s.fld F.TIME_CAL_SET_DATE_DAY)
      let t := s.fld F.TIME_CAL_SET_TIME_HOUR * 3600 + s.fld F.TIME_CAL_SET_TIME_MIN * 60 + s.fld F.TIME_CAL_SET_TIME_SEC
      calPut (86400 * d + t) 0 (s.setFld F.TIME_STAT_CAL_OUT 0)
    else if old.on F.TIME_CAL_CFG_CAL_SRC != s.on F.TIME_CAL_CFG_CAL_SRC && calFollows s then calDerive true s
    else s
  let ch (f : Fld) := old.fld f != s.fld f
  if ch F.TIME_LEAP_OFS_LEAP_OFS || ch F.TIME_LEAP_AT_LO_LEAP_AT_LO || ch F.TIME_LEAP_AT_HI_LEAP_AT_HI then
    s.setOn F.TIME_STAT_LEAP_PEND (s.fld F.TIME_LEAP_OFS_LEAP_OFS != s.fld F.TIME_UTC_UTC_OFS)
  else s

/-- Time one tick on: the calendar counts ticks, or follows gPTP time. -/
def timeTick (s : State) : State :=
  let s := { s with time := { s.time with calTick := s.time.calTick + 1 } }
  if calFollows s then calDerive false s else s

/-- A gPTP frame stamped at its start-of-frame delimiter (R465): at the instant `at_`; `pdu` starts behind the EtherType; `dir` 0
received, 1 sent. -/
def tsStamp (p dir at_ : Nat) (pdu : List Byte) (s : State) : State :=
  let k := 2 * p + dir
  let n := SMap.get (fun _ => 0) s.time.tsSeq k
  let s := { s with time := { s.time with tsSeq := SMap.set (fun _ => 0) s.time.tsSeq k ((n + 1) % 65536) } }
  let b (i : Nat) := (pdu.getD i 0).toNat
  let tick := at_ / 5120
  let ws : List Word := [BitVec.ofNat 32 (tick % 2 ^ 32), BitVec.ofNat 32 (tick / 2 ^ 32),
    BitVec.ofNat 32 (at_ % 5120 + dir * 32768 + p * 65536 + (b 0 % 16) * 16777216), BitVec.ofNat 32 (b 30 + b 31 * 256 + n * 65536)]
  let (s, ok) := qWriteSig (s.fld F.TIME_TS_CFG_TS_QID) ⟨1, 5, k⟩ ws 16 s
  s.when (!ok) (State.bump F.TIME_TS_CNT_TS_OVR F.TIME_TS_CNT_TO_SAT)

/-- The state of the TIME page (R473). -/
def timePageState (s : State) : Nat := if s.time.map.isNone then 1 else if s.on F.TIME_STAT_GPTP_RDY then 2 else 3

/-- TIME_COMMIT. -/
def execTimeCommit (s : State) : Host.Outcome State Fault Refusal := s.heard (.next (timeCommit s))

/-- TIME_MAP_APPLY. -/
def execTimeMapApply (s : State) : Host.Outcome State Fault Refusal := s.ticking (.next (timeApply s))

/-- GPTP_STALE. -/
def execGptpStale (s : State) : Host.Outcome State Fault Refusal := s.ticking (.next (timeStale s))

/-- A write of CVT_CYC (R466). -/
def timeConvert (cyc : Nat) (s : State) : State :=
  let t := s.fld (F.TIME_CVT_TICK_CVT_TICK 0) + s.fld (F.TIME_CVT_TICK_CVT_TICK 1) * 2 ^ 32
  { s with time := { s.time with cvt := some (t, cyc) } }

/-- TIME_CONVERT. -/
def execTimeConvert (cyc : Fin 8192) (s : State) : Host.Outcome State Fault Refusal := s.heard (.next (timeConvert cyc.val s))

/-- TIME_CONVERT_RESULT. -/
def execTimeConvertResult (s : State) : Host.Outcome State Fault Refusal := s.ticking (.next (timeConverted s))

/-- CALENDAR_SECOND. -/
def execCalendarSecond (s : State) : Host.Outcome State Fault Refusal := s.ticking (.next (calSecond s))

/-- LEAP_SECOND. -/
def execLeapSecond (s : State) : Host.Outcome State Fault Refusal := s.ticking (.next (leapSecond s))

end Sys2Proof.Machine
end

