-- ==== Sys2Proof/Machine/Net.lean ====
section
/-!
DEFINITION. Ethernet ports and bridge: receiving, tags, forwarding, egress, preemption, limits, T1S0, the table (R421-R448).
-/

namespace Sys2Proof.Machine

/-- Port `p`. -/
def State.prt (s : State) (p : Nat) : PortSt := SMap.get (fun _ => {}) s.net.ports p
def State.setPrt (p : Nat) (x : PortSt) (s : State) : State :=
  { s with net := { s.net with ports := SMap.set (fun _ => {}) s.net.ports p x } }

/-- A number from bytes in network order, and a field of a frame. -/
def beNum (bs : List Byte) : Nat := bs.foldl (fun n b => n * 256 + b.toNat) 0
def frameNum (f : List Byte) (ofs n : Nat) : Nat := beNum ((f.drop ofs).take n)

/-- The part's own address (R448). -/
def ownMac (s : State) : Nat := s.fld F.NET_MAC_HI_MAC_HI * 2 ^ 32 + s.fld F.NET_MAC_LO_MAC_LO

/-- The bin of an address (R430). -/
def macBin (m : Nat) : Nat := ((m / 2 ^ 36 % 4096) ^^^ (m / 2 ^ 24 % 4096)) ^^^ ((m / 4096 % 4096) ^^^ (m % 4096))

/-- Whether a port is isolated, and whether it can send and receive (R421, R437, R440, R536). -/
def portIso (p : Nat) (s : State) : Bool := s.isolated 2 (21 + p)
def portUp (p : Nat) (s : State) : Bool :=
  !portIso p s && (if p = 4 then s.fld (F.PORT_CFG_MODE 4) == 1 && !s.on (F.PORT_STAT_JABBER 4) else s.on (F.PORT_STAT_LINK p))

/-- The traffic class of a PCP, and whether a class is express (R431). -/
def netClass (pcp : Nat) (s : State) : Nat := s.fld F.NET_CLASS_PCP_MAP / 2 ^ (3 * pcp) % 8
def netExpress (c : Nat) (s : State) : Bool := s.fld F.NET_CLASS_EXP_MASK / 2 ^ c % 2 == 1

/-- The bucket of an address, with its entries; the table with a bucket replaced (R441). -/
def brBucket (mac : Nat) (s : State) : List BrEnt := SMap.get (fun _ => []) s.net.table (macBin mac)
def brPut (b : Nat) (es : List BrEnt) (s : State) : State :=
  let old := (SMap.get (fun _ => []) s.net.table b).length
  let s := { s with net := { s.net with table := SMap.set (fun _ => []) s.net.table b es } }
  s.setFld F.NET_BR_STAT_ENTRIES (s.fld F.NET_BR_STAT_ENTRIES + es.length - old)
def brFind (mac : Nat) (s : State) : Option BrEnt := (brBucket mac s).find? (fun e => e.mac == mac)

/-- Entries removed from the whole table. -/
def brDrop (f : BrEnt → Bool) (s : State) : State :=
  s.eachOf s.net.table (fun e s => brPut e.1 (e.2.filter (fun x => !f x)) s)

/-- The entry refreshed longest ago. -/
def brOldest (es : List BrEnt) : Option BrEnt :=
  es.foldl (fun m x => match m with
    | none => some x
    | some y => if x.tr < y.tr then some x else some y) none

/-- Milliseconds of MOVE_HOLD in cycles. -/
def moveHold (s : State) : Nat := 192 * 5120 * s.fld F.NET_BR_CFG_MOVE_HOLD

/-- A learn event applied (R442, R443). -/
def brLearn (e : LearnEv) (s : State) : State :=
  let b := macBin e.mac
  let es := brBucket e.mac s
  let t := e.stamp
  match es.find? (fun x => x.mac == e.mac) with
  | some x =>
    let with_ (y : BrEnt) := es.map (fun z => if z.mac == e.mac then y else z)
    if x.port = e.port then brPut b (with_ { x with tr := t }) s
    else if x.static || decide (t < x.tl + moveHold s) then
      (s.bump F.NET_BR_CNT1_CONTESTED F.NET_BR_CNT1_CT_SAT).raise Pg.net 0
    else (brPut b (with_ { x with port := e.port, tl := t, tr := t }) s).bump F.NET_BR_CNT1_MOVES F.NET_BR_CNT1_MV_SAT
  | none =>
    let n : BrEnt := { mac := e.mac, port := e.port, static := false, tl := t, tr := t }
    if es.length < 4 then brPut b (es ++ [n]) s
    else
      match brOldest (es.filter (fun x => !x.static && decide (x.tl + moveHold s ≤ t))) with
      | some y => brPut b (es.map (fun z => if z == y then n else z)) s
      | none => (s.bump F.NET_BR_CNT2_LEARN_FULL F.NET_BR_CNT2_LF_SAT).raise Pg.net 1

/-- The first learn event in stamp order, an earlier port first on equal stamps (R442). -/
def learnFirst (l : List LearnEv) : Option LearnEv :=
  l.foldl (fun m e => match m with
    | none => some e
    | some x => if e.stamp < x.stamp ∨ (e.stamp = x.stamp ∧ e.port < x.port) then some e else some x) none

/-- The first learn event is applied once it has been held for 256 cycles (R442). -/
def learnApply (s : State) : State :=
  match learnFirst s.net.learn with
  | none => s
  | some e =>
    if instant s.tick s.cyc < e.stamp + 256 then s
    else brLearn e { s with net := { s.net with learn := s.net.learn.erase e } }

/-- The learn events that come due before the tick ends, applied in their order (R442, R444). -/
def learnDrain (s : State) : State :=
  s.each s.net.learn.length (fun _ s => match learnFirst s.net.learn with
    | none => s
    | some e =>
      if 5120 * (s.tick + 1) ≤ e.stamp + 256 then s else brLearn e { s with net := { s.net with learn := s.net.learn.erase e } })

/-- A tagged form of a received frame under ACCEPT; none where it is filtered (R426). -/
def netTag (p : Nat) (f : List Byte) (s : State) : Option (List Byte) :=
  let acc := s.fld (F.PORT_TAG_ACCEPT p)
  let tag (pcp dei vid : Nat) : List Byte := [0x81, 0x00, BitVec.ofNat 8 (pcp * 32 + dei * 16 + vid / 256), BitVec.ofNat 8 (vid % 256)]
  if frameNum f 12 2 ≠ 0x8100 then
    if acc = 1 then none
    else some (f.take 12 ++ tag (s.fld (F.PORT_TAG_DEF_PCP p)) 0 (s.fld (F.PORT_TAG_PVID p)) ++ f.drop 12)
  else
    let tci := frameNum f 14 2
    let vid := tci % 4096
    if vid = 4095 then none
    else if vid = 0 then some (f.take 12 ++ tag (tci / 8192) (tci / 4096 % 2) (s.fld (F.PORT_TAG_PVID p)) ++ f.drop 16)
    else if acc = 2 then none else some f

/-- Where a frame goes: local, and the ports it is forwarded to; none where its entry names its ingress port (R428). -/
def netRoute (p : Nat) (da : Nat) (s : State) : Option (Bool × List Nat) :=
  let flood (mask : Nat) := (List.range 5).filter (fun k => mask / 2 ^ k % 2 == 1)
  let fwd (l : List Nat) : List Nat :=
    if s.fld (F.PORT_CFG_FWD p) ≠ 2 then [] else l.filter (fun k => decide (k < 5) && k != p && s.fld (F.PORT_CFG_FWD k) == 2)
  let uc := flood (s.fld F.NET_FLOOD_UC_FLOOD)
  if da / 16 = 0x0180C200000 then some (true, [])
  else if da = ownMac s then some (true, [])
  else if da = 2 ^ 48 - 1 then some (s.on (F.PORT_CFG_BCAST_EN p), fwd uc)
  else if da / 2 ^ 40 % 2 = 1 then
    let b := macBin da
    some ((s.word (Adr.NET_HASH p (b / 32))).bits (b % 32) (b % 32) != 0, fwd (flood (s.fld F.NET_FLOOD_MC_FLOOD)))
  else match brFind da s with
    | some e => if e.port = p then none else some (false, fwd [e.port])
    | none => some (false, fwd uc)

/-- A frame filtered, counted at a port (R426, R428, R429, R431). -/
def netFilt (p : Nat) (s : State) : State := s.bump (F.PORT_CNT3_RX_FILT p) (F.PORT_CNT3_RX_FILT_SAT p)

/-- The producer of a port: rank 2 express, rank 3 preemptable (R425). -/
def netProd (p : Nat) (express : Bool) : Prod := ⟨if express then 2 else 3, 6, p⟩

/-- Whether a copy for a queue waits for cells. -/
def netWaiting (p q : Nat) (express : Bool) (s : State) : Bool := qWaits q (netProd p express) s

/-- Whether a copy is of one queue and producer with another. -/
def rxSame (q : Nat) (express : Bool) (c : RxCopy) : Bool := c.q == q && c.express == express

/-- A waiting copy ended: its cells return, or its linked signature ends with TRUNC (R425). -/
def netAbort (p q : Nat) (express : Bool) (s : State) : State :=
  let x := s.prt p
  let s := s.setPrt p { x with wait := x.wait.filter (fun c => !rxSame q express c) }
  qCancel q (netProd p express) false
    { s with qmg := { s.qmg with waits := s.qmg.waits.filter (fun w => !(w.queue == q && w.prod == netProd p express)) } }

/-- A copy given up at the waiting limit (R425). -/
def netGiveUp (p q : Nat) (express : Bool) (s : State) : State :=
  (netAbort p q express s).bump (F.PORT_CNT2_RX_WAIT_DROP p) (F.PORT_CNT2_RX_WAIT_DROP_SAT p)

/-- A copy of a frame written to a queue, behind any copy that waits for it (R424, R425). -/
def netCopy (p : Nat) (c : RxCopy) (s : State) : State :=
  let x := s.prt p
  if netWaiting p c.q c.express s || x.fifo.any (rxSame c.q c.express) then s.setPrt p { x with fifo := x.fifo ++ [c] }
  else
    let n := c.bytes.length
    let s := (qSubmit c.q (netProd p c.express) (some ((4 - n % 4) % 4 + (if c.trunc then 4 else 0))) (packBytes c.bytes) s).1
    if !netWaiting p c.q c.express s then s
    else if s.fld (F.PORT_CFG_RX_WAIT p) = 0 then netGiveUp p c.q c.express s
    else
      let x := s.prt p
      s.setPrt p { x with wait := x.wait ++ [{ c with wait := instant s.tick s.cyc }] }

/-- Copies that stood behind another one of their queue are written once it is through (R425). -/
def netRetry (p : Nat) (s : State) : State :=
  let x := s.prt p
  let s := s.setPrt p { x with wait := x.wait.filter (fun c => netWaiting p c.q c.express s) }
  s.eachOf x.fifo (fun c s =>
    if netWaiting p c.q c.express s then s
    else
      let x := s.prt p
      let before := (x.fifo.takeWhile (fun d => !(d == c))).any (rxSame c.q c.express)
      if before then s
      else
        let rest := x.fifo.erase c
        let s := netCopy p c (s.setPrt p { x with fifo := [] })
        s.setPrt p { s.prt p with fifo := rest ++ (s.prt p).fifo })

/-- The frames of some copies, one copy each. -/
def rxFrames (l : List RxCopy) : List RxCopy :=
  l.foldl (fun acc c => if acc.any (fun d => d.stamp == c.stamp) then acc else acc ++ [c]) []

/-- Bytes of the frames that a port's FIFO holds in the part of a frame, and the size of that part: express frames have 4 KiB of their
own while preemption is active (R424). -/
def fifoUsed (p : Nat) (express : Bool) (s : State) : Nat :=
  let x := s.prt p
  let mine := (x.wait ++ x.fifo).filter (fun c => !s.on (F.PORT_STAT_PRE_ACT p) || c.express == express)
  (rxFrames mine).foldl (fun n c => n + c.bytes.length) 0
def fifoSize (p : Nat) (express : Bool) (s : State) : Nat :=
  if p = 4 then 4096 else if !s.on (F.PORT_STAT_PRE_ACT p) then 16384 else if express then 4096 else 12288

/-- Words of the NET pages that a frame takes as they stood at its start delimiter (R445). -/
def netWords : List Nat :=
  [Adr.NET_CLASS, Adr.NET_FLOOD] ++ (List.range 5).flatMap (fun (p : Nat) =>
    [Adr.PORT_CFG p, Adr.PORT_TAG p, Adr.PORT_RXQ p] ++ (List.range 8).map (fun (c : Nat) => Adr.PORT_EQ p c))

/-- The state with the words that a frame stamped at `stamp` takes (R445). -/
def netAsOf (stamp : Nat) (s : State) : State :=
  match s.net.past.find? (fun e => decide (stamp < 5120 * e.1)) with
  | some e => e.2.foldl (fun t w => t.setWord w.1 w.2) s
  | none => s

/-- Where local delivery takes a tagged frame (R429); `cf` holds the frame's words. -/
def netLocal (p : Nat) (f : List Byte) (cf : State) : RxDest :=
  let et := frameNum f 16 2
  if et = cf.fld F.ZKL_ETYPE_ETYPE then if cf.on F.ZKL_RXQ_EN then .queue (cf.fld F.ZKL_RXQ_RXQ) else .filt
  else if et = 0x88F7 then .gptp
  else if cf.on (F.PORT_RXQ_LOCAL_EN p) then .queue (cf.fld (F.PORT_RXQ_RXQ p)) else .filt

/-- Where a frame of class `c` forwarded to port `d` goes (R431). -/
def netForward (d c : Nat) (cf : State) : RxDest := if cf.on (F.PORT_EQ_EN d c) then .queue (cf.fld (F.PORT_EQ_QID d c)) else .filt

/-- Whether a copy of `n` bytes was linked before its frame ended (R404, R423). -/
def netCut (p q : Nat) (express : Bool) (n : Nat) (s : State) : Bool :=
  let ct := s.fld (F.QMG_QCT_CT q)
  ct != 0 && decide (ct ≤ n) && !netWaiting p q express s && !(s.prt p).fifo.any (rxSame q express) && !(s.queue q).sigs.any (fun g => !g.closed)

/-- One copy of a frame delivered. A frame that its end shows bad leaves only what cut-through has linked, with TRUNC (R423). -/
def netGive (p : Nat) (bad : Bool) (c : RxCopy) (d : RxDest) (s : State) : State :=
  match d with
  | .queue q =>
    let c := { c with q := q }
    if !bad then netCopy p c s else if netCut p q c.express c.bytes.length s then netCopy p { c with trunc := true } s else s
  | .gptp => if bad then s else { s with net := { s.net with gptp := s.net.gptp ++ [(p, c.bytes)] } }
  | .filt => if bad then s else netFilt p s

/-- A table entry that could not be read right is removed (R441). -/
def brUe (mac : Nat) (s : State) : State :=
  match brFind mac s with
  | none => s
  | some e => ((brPut (macBin mac) ((brBucket mac s).erase e) s).report 0x4845 0 0).raise Pg.net 2

/-- The learn event of a frame (R442). -/
def netLearn (p sa stamp : Nat) (s : State) : State :=
  if 64 ≤ s.net.learn.length then s.bump F.NET_BR_CNT2_LEARN_DROP F.NET_BR_CNT2_LD_SAT
  else { s with net := { s.net with learn := s.net.learn ++ [⟨sa, p, stamp⟩] } }

/-- A received verify or respond mPacket (R433). -/
def netMPacket (p k : Nat) (s : State) : State :=
  let x := s.prt p
  if !x.pre.getLsbD 31 then s
  else if k = 1 then s.setPrt p { x with mps := x.mps ++ [2] }
  else if s.fld (F.PORT_STAT_VSTATE p) = 1 then (s.setFld (F.PORT_STAT_VSTATE p) 2).setFld (F.PORT_STAT_PRE_ACT p) 1
  else s

/-- A frame of a port delivered to its destinations (R426-R431); `bad` as in `netGive`, `past` a frame beyond MAX_LEN. -/
def netDeliver (p stamp : Nat) (bad past : Bool) (f : List Byte) (cf s : State) : State :=
  let c := netClass (frameNum f 14 2 / 8192) cf
  let copy : RxCopy := ⟨0, netExpress c cf, f, past, stamp, 0⟩
  match netRoute p (frameNum f 0 6) cf with
  | none => s.when (!bad) (netFilt p)
  | some (loc, ports) =>
    let s := s.eachOf ports (fun d s => netGive p bad copy (netForward d c cf) s)
    s.when loc (netGive p bad copy (netLocal p f cf))

/-- A frame found good but for what `past` says, counted and learned; a gPTP frame is stamped (R423, R442, R465). -/
def netCount (p stamp : Nat) (past fcs : Bool) (f : List Byte) (cf s : State) : State :=
  let s := if past then (s.bump (F.PORT_CNT1_RX_OVERSIZE p) (F.PORT_CNT1_RX_OVERSIZE_SAT p)).raise (Pg.port p) 4
    else s.bump (F.PORT_CNT0_RX_OK p) (F.PORT_CNT0_RX_OK_SAT p)
  let sa := frameNum f 6 6
  let learn := s.on F.NET_BR_CFG_LEARN_EN && cf.fld (F.PORT_CFG_FWD p) == 2 && fcs && sa / 2 ^ 40 % 2 == 0
  let s := s.when learn (netLearn p sa stamp)
  let h := if frameNum f 12 2 = 0x8100 then 4 else 0
  s.when (frameNum f (12 + h) 2 == 0x88F7) (tsStamp p 0 stamp (f.drop (14 + h)))

/-- A frame is received whole (R423-R431, R465). -/
def netReceive (p : Nat) (w : EthIn) (s : State) : State :=
  let s := s.land w.cyc.val
  let stamp := instant s.tick s.cyc - w.since
  let cf := netAsOf stamp s
  let n := w.bytes.length + 4
  let lim := cf.fld (F.PORT_CFG_MAX_LEN p)
  let drop := fun (s : State) => (s.bump (F.PORT_CNT2_RX_FIFO_DROP p) (F.PORT_CNT2_RX_FIFO_DROP_SAT p)).raise (Pg.port p) 3
  if stamp < 5120 * (s.prt p).modeAt then drop s
  else if !portUp p s || s.fld (F.PORT_CFG_MODE p) == 0 || cf.fld (F.PORT_CFG_FWD p) == 0 then s
  else if w.mp ≠ 0 then netMPacket p w.mp.val s
  else if !w.mergeOk then s.bump (F.PORT_CNT3_MERGE_ERR p) (F.PORT_CNT3_MERGE_ERR_SAT p)
  else if n < 64 then s.bump (F.PORT_CNT1_RX_RUNT p) (F.PORT_CNT1_RX_RUNT_SAT p)
  else
    let past := decide (lim < n)
    let f := if past then w.bytes.take (lim - 4) else w.bytes
    let tagged := netTag p f cf
    let express := netExpress (netClass (frameNum (tagged.getD f) 14 2 / 8192) cf) cf
    if fifoSize p express s < fifoUsed p express s + f.length then drop s
    else
      let fcs := past || w.fcsOk
      let bad := !fcs || !w.fifoOk
      let s := s.when (!w.fifoOk) (State.report 0x4844 p 0)
      let s := s.when (!fcs) (State.bump (F.PORT_CNT0_RX_FCS p) (F.PORT_CNT0_RX_FCS_SAT p))
      let s := s.when (!bad) (netCount p stamp past w.fcsOk f cf)
      match tagged with
      | none => s.when (!bad) (netFilt p)
      | some f =>
        let s := s.when (!w.tableOk) (brUe (frameNum f 0 6))
        netDeliver p stamp bad past f (netAsOf stamp s) s

/-- A waiting copy reaches RX_WAIT microseconds (R425). -/
def netExpire (p q : Nat) (express : Bool) (s : State) : State :=
  match (s.prt p).wait.find? (rxSame q express) with
  | none => s
  | some c =>
    let due := decide (s.fld (F.PORT_CFG_RX_WAIT p) * 98304 ≤ 100 * (instant s.tick s.cyc - c.wait))
    if netWaiting p q express s && due then netRetry p (netGiveUp p q express s) else s

/-- Bytes of a frame as it leaves a port: untagged where its VID is the port's PVID (R427). -/
def netUntag (p : Nat) (f : List Byte) (s : State) : List Byte :=
  if s.on (F.PORT_TAG_UNTAG p) && frameNum f 12 2 == 0x8100 && frameNum f 14 2 % 4096 == s.fld (F.PORT_TAG_PVID p) then
    f.take 12 ++ f.drop 16 else f

/-- Tokens of a class now, in 1/393,216 byte, and whether its limiter allows a start (R435). A core cycle fills 5 x RATE. -/
def portTok (p c : Nat) (s : State) : Int :=
  min (393216 * (s.fld (F.PORT_SHAPE_BURST p c) : Int))
    (SMap.get (fun _ => 0) (s.prt p).tokens c + 5 * (s.fld (F.PORT_SHAPE_RATE p c) : Int) * (s.cyc : Int))
def portSetTok (p c : Nat) (v : Int) (s : State) : State :=
  s.setPrt p { s.prt p with tokens := SMap.set (fun _ => 0) (s.prt p).tokens c v }
def portMay (p c : Nat) (s : State) : Bool :=
  let r := s.fld (F.PORT_SHAPE_RATE p c)
  r == 0xFFFF || (r != 0 && decide (0 ≤ portTok p c s))

/-- Bytes of a frame from the destination address to the FCS, as sent. -/
def sentLen (n : Nat) : Nat := max 64 (n + 4)

/-- A frame of `n` bytes charged to its class (R435). -/
def portCharge (p c n : Nat) (s : State) : State :=
  let r := s.fld (F.PORT_SHAPE_RATE p c)
  if r = 0xFFFF then s else portSetTok p c (portTok p c s - 393216 * n - 5 * (r : Int) * (s.cyc : Int)) s

/-- Whether a deadline of a class has passed for a stamp (R436). -/
def portLate (p c stamp : Nat) (s : State) : Bool :=
  let d := s.fld (F.PORT_EQ_DEADLINE p c)
  d != 0 && decide (d * 98304 < (instant s.tick s.cyc - stamp) * 10)

/-- A frame past its deadline counted, and logged once per episode (R436). -/
def portCountLate (p : Nat) (s : State) : State :=
  let x := s.prt p
  let new := match x.lateAt with
    | none => true
    | some t => decide (t + 192000 ≤ s.tick)
  let s := s.bump (F.PORT_CNT5_TX_LATE p) (F.PORT_CNT5_TX_LATE_SAT p)
  ((s.setPrt p { x with lateAt := some s.tick }).raise (Pg.port p) 2).when new (State.report 0x7843 p 0)

/-- The bytes of a closed signature, and its flags. -/
def sigBytes (g : Sig) : List Byte := (unpackWords g.words).take g.len

/-- The head of a queue discarded: at once, or as soon as it closes. -/
def netDiscard (p q : Nat) (s : State) : State :=
  match qHead s q with
  | none => s
  | some g =>
    if g.closed then qPass q s
    else s.setPrt p { s.prt p with purge := (s.prt p).purge.filter (fun k => k != q) ++ [q] }

/-- A discarded head that has closed leaves its queue. -/
def netPurge (p q : Nat) (s : State) : State :=
  let x := s.prt p
  let open_ := match qHead s q with
    | some g => !g.closed
    | none => false
  if !x.purge.contains q || open_ then s else qPass q (s.setPrt p { x with purge := x.purge.filter (fun k => k != q) })

/-- The next frame of the classes below `n`, highest first: truncated and late frames at the head are discarded on the way
(R432, R434, R436). -/
def portPick (p : Nat) (exprOnly : Bool) : Nat → Nat → State → Option (Nat × Nat × Sig) × State
  | 0, _, s => (none, s)
  | _, 0, s => (none, s)
  | fuel + 1, c + 1, s =>
    let q := s.fld (F.PORT_EQ_QID p c)
    if !s.on (F.PORT_EQ_EN p c) then portPick p exprOnly fuel c s
    else
      let s := netPurge p q s
      match qHead s q with
      | none => portPick p exprOnly fuel c s
      | some g =>
        if (s.prt p).purge.contains q then portPick p exprOnly fuel c s
        else if g.trunc || g.err then
          portPick p exprOnly fuel (c + 1) ((netDiscard p q s).bump (F.PORT_CNT7_TRUNC_DROP p) (F.PORT_CNT7_TRUNC_DROP_SAT p))
        else if (exprOnly && !netExpress c s) || !portMay p c s then portPick p exprOnly fuel c s
        else if portLate p c (instant g.tick g.cyc) s then
          portPick p exprOnly fuel (c + 1) (portCountLate p (netDiscard p q s))
        else (some (c, q, g), s)

/-- Signatures linked into a port's queues, the bound of a pick. -/
def portFuel (p : Nat) (s : State) : Nat :=
  (List.range 8).foldl (fun n c => n + (s.queue (s.fld (F.PORT_EQ_QID p c))).sigs.length) 17

/-- A picked frame is started: charged, read from its queue, stamped if it is a gPTP frame (R427, R435, R465). -/
def portBegin (p c q : Nat) (g : Sig) (s : State) : State :=
  let f := netUntag p (sigBytes g) s
  let t : TxFrame := { cls := c, q := q, bytes := if g.closed then f else [], cut := !g.closed, stamp := instant g.tick g.cyc }
  let s := if g.closed then portCharge p c (sentLen f.length) (qPass q s) else s
  let h := if frameNum f 12 2 = 0x8100 then 4 else 0
  let s := if frameNum f (12 + h) 2 = 0x88F7 then tsStamp p 1 (instant s.tick s.cyc) (f.drop (14 + h)) s else s
  s.setPrt p { s.prt p with tx := some t }

/-- A port picks and starts its next frame, behind the mPackets that wait, or resumes a held one (R432, R433). -/
def portStart (p : Nat) (s : State) : State :=
  let x := s.prt p
  if !portUp p s || x.tx.isSome then s
  else
    let only := x.held.isSome || s.on (F.PORT_STAT_HOLD p)
    match portPick p only (portFuel p s) 8 (s.setPrt p { x with mps := [] }) with
    | (some (c, q, g), s) => portBegin p c q g s
    | (none, s) =>
      if x.held.isSome && !s.on (F.PORT_STAT_HOLD p) then s.setPrt p { s.prt p with tx := x.held, held := none } else s

/-- Bytes of a frame that the ended fragments have not sent. -/
def txLeft (t : TxFrame) (s : State) : Nat :=
  (if t.cut then (match qHead s t.q with
    | some g => g.len + 4
    | none => 0) else sentLen t.bytes.length) - t.sent

/-- The fragment being sent ends after `sent` bytes, for an express frame that is eligible or for a hold (R433). -/
def portPreempt (p sent : Nat) (s : State) : State :=
  let x := s.prt p
  match x.tx with
  | none => s
  | some t =>
    let least := 64 * (1 + x.pre.bits 29 28)
    if !portUp p s || !s.on (F.PORT_STAT_PRE_ACT p) || netExpress t.cls s || x.held.isSome || decide (sent < least)
      || decide (txLeft t s < sent + 64) then s
    else
      let cut := fun (s : State) =>
        s.setPrt p { s.prt p with tx := none, held := some { t with sent := t.sent + sent, frag := t.frag + 1 } }
      match portPick p true (portFuel p s) 8 s with
      | (some (c, q, g), s) => portBegin p c q g (cut s)
      | (none, s) => s.when (s.on (F.PORT_STAT_HOLD p)) cut

/-- Whether a port is to hold now: HOLD_T x 16 core cycles or less before the scheduled start of an express frame (R433, R457). -/
def netHoldDue (p : Nat) (s : State) : Bool :=
  let x := (s.prt p).pre
  x.getLsbD 31 && x.bits 7 0 != 0 && (List.range 64).any (fun n =>
    s.fld (F.TX_CFG_PORTS n) / 2 ^ p % 2 == 1 && netExpress (netClass (s.fld (F.TX_CFG_PCP n)) s) s
      && (match ztxStart n s with
        | some t => decide (t ≤ instant s.tick s.cyc + 16 * x.bits 7 0)
        | none => false))

/-- Whether an express frame waits in a port's queues. -/
def netExpressWaits (p : Nat) (s : State) : Bool :=
  (List.range 8).any (fun c => netExpress c s && s.on (F.PORT_EQ_EN p c) && (qHead s (s.fld (F.PORT_EQ_QID p c))).isSome)

/-- A hold whose express frame has been sent, or was never linked, is released (R433). -/
def netRelease (p : Nat) (s : State) : State :=
  let busy := match (s.prt p).tx with
    | some t => netExpress t.cls s
    | none => false
  if !s.on (F.PORT_STAT_HOLD p) || busy || netHoldDue p s || netExpressWaits p s then s else s.setFld (F.PORT_STAT_HOLD p) 0

/-- Preemption starts over after link-up or a change of its settings (R433, R445). -/
def portVerify (p : Nat) (s : State) : State :=
  let x := s.prt p
  let s := s.setPrt p { x with verifies := 0, verAt := s.tick, mps := [] }
  if !(x.pre.getLsbD 31 && s.on (F.PORT_STAT_LINK p)) then (s.setFld (F.PORT_STAT_PRE_ACT p) 0).setFld (F.PORT_STAT_VSTATE p) 0
  else if x.pre.getLsbD 30 then (s.setFld (F.PORT_STAT_PRE_ACT p) 0).setFld (F.PORT_STAT_VSTATE p) 1
  else (s.setFld (F.PORT_STAT_PRE_ACT p) 1).setFld (F.PORT_STAT_VSTATE p) 0

/-- Pressed preemption settings are taken at a frame boundary (R445). -/
def prePress (p : Nat) (s : State) : State :=
  let x := s.prt p
  let w := s.word (Adr.PORT_PREEMPT p)
  if 4 ≤ p ∨ x.tx.isSome ∨ x.held.isSome ∨ x.pre = w then s
  else
    let s := s.setPrt p { x with pre := w }
    s.when (x.pre.bits 31 28 != w.bits 31 28) (portVerify p)

/-- A frame is sent to its end (R433, R434). -/
def portEnd (p : Nat) (s : State) : State :=
  let x := s.prt p
  match x.tx with
  | none => s
  | some t =>
    if t.back.isSome then s
    else
      let head := qHead s t.q
      let open_ := t.cut && (match head with
        | some g => !g.closed
        | none => false)
      if open_ then s
      else
        let bad := t.cut && (match head with
          | some g => g.trunc || g.err
          | none => true)
        let n := match head with
          | some g => (netUntag p (sigBytes g) s).length
          | none => 0
        let s := if t.cut then portCharge p t.cls (sentLen n) (if head.isSome then qPass t.q s else s) else s
        let s := if bad then s.bump (F.PORT_CNT4_TX_STOMP p) (F.PORT_CNT4_TX_STOMP_SAT p)
          else s.bump (F.PORT_CNT4_TX_OK p) (F.PORT_CNT4_TX_OK_SAT p)
        let s := s.setPrt p { s.prt p with tx := none }
        prePress p (s.when (netExpress t.cls s) (netRelease p))

/-- A frame in flight is given up; one that is read while it is written is discarded from its queue. -/
def txDrop (p : Nat) (t : Option TxFrame) (s : State) : State :=
  match t with
  | some t => s.when t.cut (netDiscard p t.q)
  | none => s

/-- Frames in flight on a port are lost (R437, R445). -/
def portLose (p : Nat) (s : State) : State :=
  let x := s.prt p
  let n := (if x.tx.isSome then 1 else 0) + (if x.held.isSome then 1 else 0)
  let s := txDrop p x.held (txDrop p x.tx (s.setPrt p { x with tx := none, held := none }))
  prePress p ((s.setFld (F.PORT_STAT_HOLD p) 0).bumpBy n (F.PORT_CNT5_TX_DOWN_DROP p) (F.PORT_CNT5_TX_DOWN_DROP_SAT p))

/-- A link comes up (R421). -/
def portLinkUp (p speed : Nat) (half : Bool) (s : State) : State :=
  let m := s.fld (F.PORT_CFG_MODE p)
  if p = 4 || m == 0 || portIso p s || !pllLocked 3 s || !s.on F.PWR_STATUS_VSER_OK || s.on (F.PORT_STAT_LINK p) then s
  else if m = 1 ∧ half then s.setFld (F.PORT_STAT_DUPLEX_ERR p) 1
  else
    let s := (s.setFld (F.PORT_STAT_LINK p) 1).setFld (F.PORT_STAT_SPEED p) (if m = 1 then speed % 3 else m)
    portVerify p ((s.setFld (F.PORT_STAT_DUPLEX_ERR p) 0).raise (Pg.port p) 0)

/-- A link goes down (R437). -/
def portLinkDown (p : Nat) (s : State) : State :=
  if !s.on (F.PORT_STAT_LINK p) then s
  else
    let s := portLose p (((s.setFld (F.PORT_STAT_LINK p) 0).report 0x7841 p 0).raise (Pg.port p) 0)
    portVerify p (brDrop (fun e => !e.static && e.port == p) s)

/-- VERIFY_T milliseconds pass (R433). -/
def portVerifyTimer (p : Nat) (s : State) : State :=
  let x := s.prt p
  let t := x.pre.bits 15 8
  if s.fld (F.PORT_STAT_VSTATE p) ≠ 1 ∨ t = 0 ∨ s.tick < x.verAt + 192 * t then s
  else if x.verifies < 3 then s.setPrt p { x with verifies := x.verifies + 1, verAt := s.tick, mps := x.mps ++ [1] }
  else ((s.setFld (F.PORT_STAT_VSTATE p) 3).report 0x7842 p 0).raise (Pg.port p) 1

/-- The next word of a port's LFSR; its polynomial is open (R438, log entry 3). -/
def lfsrNext (w : Word) : Word := BitVec.ofInt 32 (Config.real "lfsr" [(w.toNat : Int)])

/-- Core cycles of `n` bit times at 10 Mb/s, rounded up. -/
def bitTimes (n : Nat) : Nat := (n * 98304 + 999) / 1000

/-- A collision on T1S0: a 32-bit jam and a back-off of r slot times, r drawn from the port's LFSR (R438, R439). -/
def t1sCollision (late : Bool) (s : State) : State :=
  let x := s.prt 4
  match x.tx with
  | none => s
  | some t =>
    if t.back.isSome then s
    else
      let s := (s.bump (F.PORT_CNT6_COLL 4) (F.PORT_CNT6_COLL_SAT 4)).when late (State.bump (F.PORT_CNT6_LATE_COLL 4) (F.PORT_CNT6_LATE_COLL_SAT 4))
      let n := t.att + 1
      let keep := netExpress t.cls s && s.fld (F.PORT_EQ_DEADLINE 4 t.cls) != 0
      if 16 ≤ n && !keep then
        (txDrop 4 (some t) (s.setPrt 4 { x with tx := none })).bump (F.PORT_CNT7_EXCESS 4) (F.PORT_CNT7_EXCESS_SAT 4)
      else
        let w := lfsrNext x.lfsr
        let until_ := instant s.tick s.cyc + bitTimes (32 + 512 * (w.toNat % 2 ^ min n 10))
        s.setPrt 4 { x with lfsr := w, tx := some { t with att := n, back := some until_ } }

/-- A back-off is over and the bus has been free for a gap: the deadline is checked and the frame is sent again (R436, R438). -/
def t1sBackoffEnd (s : State) : State :=
  let x := s.prt 4
  match x.tx with
  | none => s
  | some t =>
    if instant s.tick s.cyc < t.back.getD (instant s.tick s.cyc + 1) then s
    else if portLate 4 t.cls t.stamp s then portCountLate 4 (txDrop 4 (some t) (s.setPrt 4 { x with tx := none }))
    else s.setPrt 4 { x with tx := some { t with back := none } }

/-- T1S0 jabbered, and no longer (R440). -/
def t1sJabber (s : State) : State :=
  if s.on (F.PORT_STAT_JABBER 4) || s.fld (F.PORT_CFG_MODE 4) != 1 then s
  else portLose 4 (((s.setFld (F.PORT_STAT_JABBER 4) 1).report 0x7846 4 0).raise (Pg.port 4) 5)

/-- The ageing scan (R443). -/
def brAge (s : State) : State :=
  let a := s.fld F.NET_BR_CFG_AGE
  if a = 0 then s
  else brDrop (fun e => !e.static && decide (e.tr + a * 192000 * 5120 < instant s.tick s.cyc)) s

/-- The address of TBL_MAC, and the result of a table command (R444, R448). -/
def tblMac (s : State) : Nat := s.fld F.NET_TBL_MAC_HI_TBL_MAC_HI * 2 ^ 32 + s.fld F.NET_TBL_MAC_LO_TBL_MAC_LO
def tblResult (hit static : Bool) (port : Nat) (err : Bool) (age : Nat) (s : State) : State :=
  s.post Adr.NET_TBL_RES (BitVec.ofNat 32 ((if hit then 2 ^ 22 else 0) + (if static then 2 ^ 21 else 0) + port * 2 ^ 18
    + (if err then 2 ^ 17 else 0) + min 65535 age))

/-- LOOKUP, ADD_STATIC, DELETE, FLUSH_PORT and FLUSH_ALL (R444). -/
def tblLookup (s : State) : State :=
  match brFind (tblMac s) s with
  | some e => tblResult true e.static e.port false ((instant s.tick s.cyc - e.tr) / (192000 * 5120)) s
  | none => tblResult false false 0 false 0 s
def tblAdd (port : Nat) (s : State) : State :=
  let mac := tblMac s
  let es := brBucket mac s
  let now := instant s.tick s.cyc
  let n : BrEnt := { mac := mac, port := port, static := true, tl := now, tr := now }
  let ok (es : List BrEnt) := tblResult false true port false 0 (brPut (macBin mac) es s)
  match es.find? (fun e => e.mac == mac) with
  | some e => ok (es.map (fun z => if z == e then n else z))
  | none =>
    if es.length < 4 then ok (es ++ [n])
    else match brOldest (es.filter (fun e => !e.static)) with
      | some e => ok (es.map (fun z => if z == e then n else z))
      | none => tblResult false false 0 true 0 s
def tblDelete (s : State) : State :=
  match brFind (tblMac s) s with
  | some e => tblResult true e.static e.port false 0 (brPut (macBin (tblMac s)) ((brBucket (tblMac s) s).erase e) s)
  | none => tblResult false false 0 false 0 s
def tblFlush (port : Option Nat) (s : State) : State :=
  tblResult false false 0 false 0 (brDrop (fun e => !e.static && (match port with
    | some p => e.port == p
    | none => true)) s)

/-- A write of NET_TBL_CMD, after the tick's learn events (R444). -/
def tblCmd (cmd port : Nat) (s : State) : State :=
  let s := s.when (1 ≤ cmd && decide (cmd ≤ 5)) learnDrain
  if cmd = 1 then tblLookup s else if cmd = 2 then tblAdd port s else if cmd = 3 then tblDelete s
  else if cmd = 4 then tblFlush (some port) s else if cmd = 5 then tblFlush none s else s

/-- MODE of a port is pressed: its link restarts, the frames in flight are discarded, its LFSR is seeded (R438, R445). -/
def modePress (p : Nat) (serial : Word) (s : State) : State :=
  let x := s.prt p
  let n := (rxFrames (x.wait ++ x.fifo)).length
  let s := s.eachOf x.wait (fun c s => netAbort p c.q c.express s)
  let s := s.setPrt p { s.prt p with fifo := [], modeAt := s.tick, lfsr := serial ^^^ BitVec.ofNat 32 s.tick }
  let s := (s.bumpBy n (F.PORT_CNT2_RX_FIFO_DROP p) (F.PORT_CNT2_RX_FIFO_DROP_SAT p)).when (n != 0) (State.raise (Pg.port p) 3)
  let s := (portLose p s).setFld (F.PORT_STAT_DUPLEX_ERR p) 0
  if p < 4 then portLinkDown p s
  else
    let up := s.fld (F.PORT_CFG_MODE 4) == 1
    let was := s.on (F.PORT_STAT_LINK 4)
    ((s.setFld (F.PORT_STAT_JABBER 4) 0).setOn (F.PORT_STAT_LINK 4) up).when (was != up) (State.raise (Pg.port 4) 0)

/-- A press of the NET pages (R445); the serial number of the LFSR seed is the OTP's. -/
def netPress (serial : Word) (old s : State) : State :=
  let was := netWords.filter (fun a => old.word a != s.word a)
  let keep := s.net.past.filter (fun e => decide (s.tick < e.1 + 2048))
  let s := { s with net := { s.net with past :=
    if was.isEmpty then keep else keep ++ [(s.tick, netWords.map (fun a => (a, old.word a)))] } }
  s.each 5 (fun p s =>
    let ch (f : Fld) := old.fld f != s.fld f
    let s := prePress p (s.when (ch (F.PORT_CFG_MODE p)) (modePress p serial))
    if ch (F.PORT_CFG_FWD p) && s.fld (F.PORT_CFG_FWD p) != 2 then brDrop (fun e => !e.static && e.port == p) s else s)

/-- Tokens of a port at the end of a tick (R435). -/
def portFill (p : Nat) (s : State) : State :=
  s.each 8 (fun c s =>
    let r := s.fld (F.PORT_SHAPE_RATE p c)
    if r = 0xFFFF ∨ r = 0 then s else portSetTok p c (portTok p c { s with cyc := 5120 }) s)

/-- The queues of a port that is down drain (R437). -/
def portDrain (p : Nat) (s : State) : State :=
  s.each 8 (fun c s =>
    let q := s.fld (F.PORT_EQ_QID p c)
    if !s.on (F.PORT_EQ_EN p c) then s
    else
      let s := netPurge p q s
      let n := if (s.prt p).purge.contains q then 0 else ((s.queue q).sigs.takeWhile (fun g => g.closed)).length
      (s.each n (fun _ s => qPass q s)).bumpBy n (F.PORT_CNT5_TX_DOWN_DROP p) (F.PORT_CNT5_TX_DOWN_DROP_SAT p))

/-- The ports one tick on (R75, R90, R433, R435-R437). -/
def netTick (s : State) : State :=
  s.each 5 (fun p s =>
    let dead := decide (p < 4) && (!pllLocked 3 s || !s.on F.PWR_STATUS_VSER_OK || portIso p s)
    let s := s.when dead (portLinkDown p)
    let s := netRelease p (netRetry p (portFill p s))
    if portUp p s then s else portDrain p (portLose p s))

/-- The state of a port page (R446). -/
def portPageState (p : Nat) (s : State) : Nat :=
  if portIso p s then 5
  else if s.fld (F.PORT_CFG_MODE p) = 0 then 0
  else if s.fld (F.PORT_STAT_VSTATE p) = 3 ∨ s.on (F.PORT_STAT_JABBER p) then 3
  else if p < 4 && (!s.on (F.PORT_STAT_LINK p) || !pllLocked 3 s || s.fld (F.PORT_STAT_VSTATE p) == 1) then 1
  else 2

/-- ETH_FRAME_RECEIVE. -/
def execEthFrameReceive (p : Fin 5) (w : EthIn) (s : State) : Host.Outcome State Fault Refusal := s.ticking (.next (netReceive p.val w s))

/-- RX_WAIT_EXPIRE. -/
def execRxWaitExpire (here : PortAt 5) (q : Fin 4096) (express : Bool) (s : State) : Host.Outcome State Fault Refusal :=
  s.ticking (
    .next (netExpire here.p.val q.val express (s.land here.cyc.val)))

/-- LEARN_EVENT_APPLY. -/
def execLearnEventApply (cyc : Fin 5120) (s : State) : Host.Outcome State Fault Refusal := s.ticking (.next (learnApply (s.land cyc.val)))

/-- EGRESS_FRAME_START. -/
def execEgressFrameStart (cyc : Fin 5120) (p : Fin 5) (s : State) : Host.Outcome State Fault Refusal :=
  s.ticking (
    .next (portStart p.val (s.land cyc.val)))

/-- EXPRESS_PREEMPT. `sent` bytes of the fragment have been sent. -/
def execExpressPreempt (here : PortAt 4) (sent : Nat) (s : State) : Host.Outcome State Fault Refusal :=
  s.ticking (
    .next (portPreempt here.p.val sent (s.land here.cyc.val)))

/-- PREEMPT_HOLD. -/
def execPreemptHold (here : PortAt 4) (s : State) : Host.Outcome State Fault Refusal :=
  s.ticking (
    let s := s.land here.cyc.val
    .next (if netHoldDue here.p.val s then s.setFld (F.PORT_STAT_HOLD here.p.val) 1 else s))

/-- VERIFY_TIMER. -/
def execVerifyTimer (p : Fin 4) (s : State) : Host.Outcome State Fault Refusal := s.ticking (.next (portVerifyTimer p.val s))

/-- ETH_LINK_UP. `speed`: 0 10, 1 100, 2 1,000 Mb/s, as an SGMII PHY reports it (R421). -/
def execEthLinkUp (p : Fin 4) (speed : Fin 3) (half : Bool) (s : State) : Host.Outcome State Fault Refusal :=
  s.ticking (
    .next (portLinkUp p.val speed.val half s))

/-- ETH_LINK_DOWN. -/
def execEthLinkDown (p : Fin 4) (s : State) : Host.Outcome State Fault Refusal := s.ticking (.next (portLinkDown p.val s))

/-- T1S_COLLISION. -/
def execT1sCollision (c : CollisionIn) (s : State) : Host.Outcome State Fault Refusal :=
  s.ticking (.next (t1sCollision c.late (s.land c.cyc.val)))

/-- T1S_BACKOFF_END. -/
def execT1sBackoffEnd (cyc : Fin 5120) (s : State) : Host.Outcome State Fault Refusal := s.ticking (.next (t1sBackoffEnd (s.land cyc.val)))

/-- T1S_JABBER. -/
def execT1sJabber (s : State) : Host.Outcome State Fault Refusal := s.ticking (.next (t1sJabber s))

/-- T1S_JABBER_END. -/
def execT1sJabberEnd (s : State) : Host.Outcome State Fault Refusal := s.ticking (.next (s.setFld (F.PORT_STAT_JABBER 4) 0))

/-- BRIDGE_AGEING_SCAN. -/
def execBridgeAgeingScan (s : State) : Host.Outcome State Fault Refusal := s.ticking (.next (brAge s))

/-- TABLE_LOOKUP. -/
def execTableLookup (s : State) : Host.Outcome State Fault Refusal := s.heard (.next (tblLookup (learnDrain s)))

/-- TABLE_ADD_STATIC. -/
def execTableAddStatic (port : Fin 8) (s : State) : Host.Outcome State Fault Refusal := s.heard (.next (tblAdd port.val (learnDrain s)))

/-- TABLE_DELETE. -/
def execTableDelete (s : State) : Host.Outcome State Fault Refusal := s.heard (.next (tblDelete (learnDrain s)))

/-- TABLE_FLUSH_PORT. -/
def execTableFlushPort (port : Fin 8) (s : State) : Host.Outcome State Fault Refusal := s.heard (.next (tblFlush (some port.val) (learnDrain s)))

/-- TABLE_FLUSH_ALL. -/
def execTableFlushAll (s : State) : Host.Outcome State Fault Refusal := s.heard (.next (tblFlush none (learnDrain s)))

/-- EGRESS_FRAME_END. -/
def execEgressFrameEnd (cyc : Fin 5120) (p : Fin 5) (s : State) : Host.Outcome State Fault Refusal :=
  s.ticking (
    .next (portEnd p.val (s.land cyc.val)))

end Sys2Proof.Machine
end

