-- ==== Sys2Proof/Machine/Zkl.lean ====
section
/-!
DEFINITION. The Zinkor Link: domain ticks, transmit streams, receive slots, presentation and loss (R449-R464, R471-R475).
-/

namespace Sys2Proof.Machine

/-- Receive slot `r`. -/
def State.zrx (s : State) (r : Nat) : ZRx := SMap.get (fun _ => {}) s.zkl.rx r
def State.setZrx (r : Nat) (x : ZRx) (s : State) : State := { s with zkl := { s.zkl with rx := SMap.set (fun _ => {}) s.zkl.rx r x } }

/-- The states shown of the streams and slots: waiting for DOFS or started (R457, R461). -/
def zklShow (s : State) : State :=
  let set := s.on F.TIME_STAT_DOFS_SET
  let s := s.each 64 (fun n s => s.setFld (F.TX_TSTATE_TSTATE n) (if !s.on (F.TX_CFG_EN n) then 0 else if set then 2 else 1))
  s.each 64 (fun r s =>
    if !s.on (F.RX_CFG_EN r) then s.setFld (F.RX_STAT_RSTATE r) 0
    else if !set then s.setFld (F.RX_STAT_RSTATE r) 1
    else if s.fld (F.RX_STAT_RSTATE r) ≤ 1 then s.setFld (F.RX_STAT_RSTATE r) 2 else s)

/-- A transmit stream starts again: its next frame carries START, its SEQ goes on (R454, R471). -/
def ztxRestart (n : Nat) (s : State) : State := s.setZtx n { send := (s.ztx n).send, from_ := s.tick }

/-- A receive slot starts again in SILENT (R454, R471). -/
def zrxRestart (r : Nat) (s : State) : State :=
  (s.setZrx r { lateAt := (s.zrx r).lateAt }).when (s.on (F.RX_CFG_EN r) && s.on F.TIME_STAT_DOFS_SET)
    (State.setFld (F.RX_STAT_RSTATE r) 2)

/-- Every stream and slot starts again. -/
def zklRestartAll (s : State) : State := (s.each 64 ztxRestart).each 64 zrxRestart

/-- DOMAIN_TICK_UPDATE (R453, R454). -/
def domainUpdate (s : State) : State :=
  match s.time.map with
  | none => s
  | some m =>
    if s.tick % 1024 ≠ 0 then s
    else
      let g := mapNs m s.tick 0
      let k := roundRat (3 * g) (15625 * mapScale)
      let e := 3 * g - k * 15625 * mapScale
      let s := s.post Adr.TIME_PHASE (BitVec.ofNat 32 (unsigned 23 (roundRat e (3 * mapScale))))
      if 3000 * mapScale < e ∨ e < -(3000 * mapScale) then s.setFld F.TIME_STAT_DOFS_OK 0
      else
        let d := k - (s.tick : Int)
        let s := s.setFld F.TIME_STAT_DOFS_OK 1
        let first := !s.on F.TIME_STAT_DOFS_SET
        if !first && d == s.time.dofs then s
        else
          let u := unsigned 64 d
          let s := { s with time := { s.time with dofs := d } }
          let s := (s.setFld (F.TIME_DOFS_DOFS 0) (u % 2 ^ 32)).setFld (F.TIME_DOFS_DOFS 1) (u / 2 ^ 32)
          let s := s.setFld F.TIME_STAT_DOFS_SET 1
          let s := s.when (!first) (fun s => (s.report 0x2142 0 0).raise Pg.time 1)
          zklShow (zklRestartAll s)

/-- The records of a signature with their TICK moved by `d`, where its length is a multiple of 16 (R464). -/
def xlateFrom (d : Int) : Nat → List Byte → List Byte
  | 0, _ => []
  | n + 1, bs => leBytes 8 (unsigned 64 ((leNum (bs.take 8) : Int) + d)) ++ (bs.drop 8).take 8 ++ xlateFrom d n (bs.drop 16)
def xlate (on : Bool) (d : Int) (bs : List Byte) : List Byte :=
  if on && bs.length % 16 == 0 then xlateFrom d (bs.length / 16) bs else bs

/-- The payload of a control frame: whole signatures from the head of QSRC, each behind its length (R463). -/
def ctrlTake (n : Nat) : Nat → List Byte → State → List Byte × State
  | 0, acc, s => (acc, s)
  | fuel + 1, acc, s =>
    let q := s.fld (F.TX_CTRL_QSRC n)
    match qHead s q with
    | none => (acc, s)
    | some g =>
      if !g.closed then (acc, s)
      else if 1438 < g.len then ctrlTake n fuel acc ((qPass q s).bump (F.TX_CNT_CTRL_BIG n) (F.TX_CNT_CB_SAT n))
      else if 1440 < acc.length + 2 + g.len then (acc, s)
      else
        let bs := xlate (s.on (F.TX_CTRL_XLATE n)) s.time.dofs (sigBytes g)
        ctrlTake n fuel (acc ++ leBytes 2 g.len ++ bs) (qPass q s)

/-- The PDU of a Zinkor frame up to its catchword (R455). -/
def zklPdu (n : Nat) (first : Bool) (d0 : Int) (seq : Nat) (pay : List Byte) (s : State) : List Byte :=
  let kind := s.fld (F.TX_CFG_KIND n)
  leBytes 1 (16 + kind) ++ leBytes 1 (s.fld (F.TX_CFG_GATH n) + (if first then 4 else 0)) ++ leBytes 1 (s.fld F.ZKL_NODE_DOMAIN)
    ++ leBytes 1 (if kind = 1 then 0 else s.fld (F.TX_CFG_CHANS n)) ++ leBytes 2 (s.fld F.ZKL_NODE_NODE_ID)
    ++ leBytes 1 n ++ [0] ++ leBytes 4 seq ++ leBytes 8 (unsigned 64 d0) ++ leBytes 2 (s.fld (F.TX_TIME_P n))
    ++ leBytes 2 pay.length ++ pay

/-- The catchword of a PDU (R456). -/
def zklCatch (seq : Nat) (d0 : Int) (plen : Nat) (pdu : List Byte) : List Byte :=
  leBytes 4 (crc32 pdu).toNat ++ leBytes 4 seq ++ leBytes 4 (unsigned 32 d0) ++ leBytes 2 plen ++ [0, 0]

/-- The tagged Ethernet header of a stream, in network order (R455). -/
def zklHeader (n : Nat) (s : State) : List Byte :=
  let be (k v : Nat) : List Byte := (leBytes k v).reverse
  be 6 (s.fld (F.TX_DA_HI_DA_HI n) * 2 ^ 32 + s.fld (F.TX_DA_LO_DA_LO n)) ++ be 6 (ownMac s) ++ be 2 0x8100
    ++ be 2 (s.fld (F.TX_CFG_PCP n) * 8192 + s.fld (F.TX_DA_HI_VID n)) ++ be 2 (s.fld F.ZKL_ETYPE_ETYPE)

/-- The queue of a stream's class on a port, and its producer (R405, R457). -/
def ztxQueue (n p : Nat) (s : State) : Nat := s.fld (F.PORT_EQ_QID p (netClass (s.fld (F.TX_CFG_PCP n)) s))
def ztxProd (n p : Nat) : Prod := ⟨1, 9, 4 * n + p⟩

/-- ZKL_FRAME_LINK (R457). -/
def zklLink (n : Nat) (s : State) : State :=
  let x := s.ztx n
  match x.send with
  | none => s
  | some (len, ports) =>
    let s := s.eachOf ports (fun p s => (qClose (ztxQueue n p s) (ztxProd n p) ((4 - len % 4) % 4) s).bump (F.TX_CNT_FRAMES n)
      (F.TX_CNT_FR_SAT n))
    let s := s.when (s.fld (F.TX_CFG_PORTS n) == 0) (State.bump (F.TX_CNT_FRAMES n) (F.TX_CNT_FR_SAT n))
    s.setZtx n { x with send := none }

/-- A frame written whole into the egress queue of a port; whether it was taken (R457). -/
def zklPut (n p : Nat) (frame : List Byte) (s : State) : State × Bool :=
  if !s.on (F.PORT_EQ_EN p (netClass (s.fld (F.TX_CFG_PCP n)) s)) then (s, false)
  else qWrite (ztxQueue n p s) (ztxProd n p) none (packBytes frame) s

/-- A gathering is complete: its frame is assembled into the egress queues (R457, R458, R463). -/
def zklAssemble (n : Nat) (d0 : Int) (vals : List Word) (s : State) : State :=
  let s := zklLink n s
  let x := s.ztx n
  let seq := (s.fld (F.TX_STAT_SEQ n) + 1) % 2 ^ 32
  let s := s.setFld (F.TX_STAT_SEQ n) seq
  let (pay, s) := if s.on (F.TX_CFG_KIND n) then
      ctrlTake n ((s.queue (s.fld (F.TX_CTRL_QSRC n))).sigs.length + 1) [] s
    else (unpackWords vals, s)
  let pdu := zklPdu n x.first d0 seq pay s
  let frame := zklHeader n s ++ pdu ++ zklCatch seq d0 pay.length pdu
  let ports := (List.range 4).filter (fun p => s.fld (F.TX_CFG_PORTS n) / 2 ^ p % 2 == 1)
  let (s, sent) := ports.foldl (fun (r : State × List Nat) p =>
    let (s, ok) := zklPut n p frame r.1
    if ok then (s, r.2 ++ [p]) else (s.bump (F.TX_CNT_TX_OVR n) (F.TX_CNT_OV_SAT n), r.2)) (s, [])
  s.setZtx n { x with first := false, vals := [], open_ := false, send := some (frame.length, sent) }

/-- The values a stream gathers in this tick (R94, R457, R536). -/
def ztxVals (n : Nat) (s : State) : List Word :=
  (List.range (s.fld (F.TX_CFG_CHANS n))).map (fun k =>
    if s.isolated 2 20 then zeroTag (tSUB + tFAD) else if !psAwake s then zeroTag tFAD
    else s.sink (0x800 + s.fld (F.TX_CFG_CHFIRST n) + k))

/-- A transmit stream through its tick (R457). -/
def ztxTick (n : Nat) (s : State) : State :=
  if !s.on (F.TX_CFG_EN n) || !s.on F.TIME_STAT_DOFS_SET then s
  else
    let g := gathTicks (s.fld (F.TX_CFG_GATH n))
    let d := domTick s.tick s
    let k := (d % (g : Int)).toNat
    let x := s.ztx n
    let begin_ := decide (k = 0) && decide (x.from_ ≤ s.tick)
    if !begin_ && !x.open_ then s
    else
      let v := if s.on (F.TX_CFG_KIND n) then [] else ztxVals n s
      let x := { x with vals := (if begin_ then [] else x.vals) ++ v, open_ := true }
      let s := s.setZtx n x
      if k = g - 1 then zklAssemble n (d - k) x.vals s else s

/-- The receive slot of a stream (R449). -/
def zrxOf (node stream : Nat) (s : State) : Option Nat :=
  (List.range 64).find? (fun r => s.on (F.RX_CFG_EN r) && s.fld (F.RX_ID_SRC_NODE r) == node && s.fld (F.RX_ID_STREAM r) == stream)

/-- The signatures of a control payload, each written to RQID; `tr` where the sender's XLATE is set (R463, R464). -/
def ctrlGive (r : Nat) (tr : Bool) : Nat → List Byte → State → State
  | 0, _, s => s
  | fuel + 1, bs, s =>
    if bs.length < 2 then s
    else
      let n := leNum (bs.take 2)
      let g := xlate tr (-s.time.dofs) ((bs.drop 2).take n)
      ctrlGive r tr fuel (bs.drop (2 + n)) (qWriteBytes (s.fld (F.RX_CTL_RQID r)) ⟨1, 10, r⟩ g s).1

/-- A frame of the part's own node (R450). -/
def zklOwn (sa : Nat) (s : State) : State :=
  if sa = ownMac s then s.bump F.ZKL_CNT_OWN_CNT F.ZKL_CNT_OW_SAT
  else
    let s := (s.bump F.ZKL_CNT_CLASH_CNT F.ZKL_CNT_CL_SAT).raise Pg.zkl 0
    let new := match s.zkl.clashAt with
      | none => true
      | some t => decide (t + 192000 ≤ s.tick)
    s.when new (fun s => ({ s with zkl := { s.zkl with clashAt := some s.tick } }).report 0x8882 0 0)

/-- A good frame in the playout store, or its signatures in RQID (R459, R460, R463). -/
def zrxGood (tr : Bool) (r p : Nat) (d0 : Int) (pay : List Byte) (s : State) : State :=
  let s := (s.bump (F.RX_CNT1_GOOD r) (F.RX_CNT1_GD_SAT r)).setFld (F.RX_STAT_P r) p
  let x := s.zrx r
  let ctl := s.on (F.RX_CFG_KIND r)
  let store := x.store.filter (fun e => d0 - 128 < e.1) ++ [(d0, if ctl then [] else packBytes pay)]
  let s := s.setZrx r { x with p := some (x.p.getD p), store := store }
  if ctl then ctrlGive r tr pay.length pay s else s

/-- A frame of ZKL_RXQ judged; the first row that matches decides (R460). `bytes` is the stored frame, `bad` its TRUNC or
ERR, `shut` the tick in which it was linked. -/
def zklJudge (tr : Bool) (bytes : List Byte) (bad : Bool) (shut : Nat) (s : State) : State :=
  let u := bytes.drop 18
  let num (o n : Nat) : Nat := leNum ((u.drop o).take n)
  let node := num 4 2 % 16384
  let noSlot := fun (s : State) => s.bump F.ZKL_CNT_NOMATCH F.ZKL_CNT_NM_SAT
  if num 0 1 / 16 ≠ 1 ∨ 1 < num 0 1 % 16 ∨ num 2 1 ≠ s.fld F.ZKL_NODE_DOMAIN then noSlot s
  else match zrxOf node (num 6 1) s with
    | none => noSlot s
    | some r =>
      if node = s.fld F.ZKL_NODE_NODE_ID then zklOwn (frameNum bytes 6 6) s
      else
        let plen := num 22 2
        let g := gathTicks (s.fld (F.RX_CFG_GATH r))
        let d0 : Int := num 12 8
        let p := num 20 2
        let ctl := s.on (F.RX_CFG_KIND r)
        let c := 24 + plen
        let wrong := bad || num c 4 != (crc32 (u.take c)).toNat || num (c + 4) 4 != num 8 4 || num (c + 8) 4 != num 12 4
          || num (c + 12) 2 != plen || num 1 1 % 4 != s.fld (F.RX_CFG_GATH r)
          || num 3 1 != (if ctl then 0 else s.fld (F.RX_CFG_CHANS r))
          || (if ctl then decide (1440 < plen) else plen != 4 * g * s.fld (F.RX_CFG_CHANS r)) || d0 % (g : Int) != 0
        let x := s.zrx r
        let pp : Int := (x.p.getD p : Nat)
        if wrong then s.bump (F.RX_CNT2_BAD r) (F.RX_CNT2_BD_SAT r)
        else if p < g + s.fld (F.RX_CFG_HOPB r) + 3 then
          let s := s.bump (F.RX_CNT3_P_LOW r) (F.RX_CNT3_PL_SAT r)
          if x.plow then s else ((s.setZrx r { x with plow := true }).report 0x7886 r 0).raise Pg.zklRx 2
        else if x.store.any (fun e => e.1 == d0) then s.bump (F.RX_CNT3_DUP r) (F.RX_CNT3_DP_SAT r)
        else if d0 + pp - 3 - s.time.dofs < (shut : Int) then
          let new := match x.lateAt with
            | none => true
            | some t => decide (t + 192000 ≤ s.tick)
          let s := (s.bump (F.RX_CNT2_LATE r) (F.RX_CNT2_LT_SAT r)).setZrx r { x with lateAt := some s.tick }
          s.when new (fun s => (s.report 0x7884 r 0).raise Pg.zklRx 1)
        else if domTick s.tick s + 128 < d0 + pp then s.bump (F.RX_CNT3_EARLY r) (F.RX_CNT3_EA_SAT r)
        else zrxGood tr r p d0 ((u.drop 24).take plen) s

/-- ZKL_FRAME_JUDGE: the frame at the head of ZKL_RXQ, in a tick after it was linked (R460). -/
def zklRead (tr : Bool) (s : State) : State :=
  let q := s.fld F.ZKL_RXQ_RXQ
  if !s.on F.ZKL_RXQ_EN then s
  else match qHead s q with
    | none => s
    | some g =>
      if !g.closed || decide (s.tick ≤ g.shut) then s else zklJudge tr (sigBytes g) (g.trunc || g.err) g.shut (qPass q s)

/-- A gathering's presentation begins: the slot's next state (R461); a control slot only counts what it misses (R463). -/
def zrxBegin (r : Nat) (d0 : Int) (s : State) : State :=
  let x := s.zrx r
  let st := s.fld (F.RX_STAT_RSTATE r)
  let len := 8 * s.fld (F.RX_CTL_FADE r)
  let ctl := s.on (F.RX_CFG_KIND r)
  match x.store.find? (fun e => e.1 == d0) with
  | some e =>
    let x := { x with cur := e.2, w := rampGo true len x.w }
    let st' := if ctl || st == 3 || rampRests x.w then 3 else 6
    (s.setZrx r x).setFld (F.RX_STAT_RSTATE r) st'
  | none =>
    if st < 3 then s
    else
      let s := s.bump (F.RX_CNT1_LOST r) (F.RX_CNT1_LS_SAT r)
      if ctl then s
      else if st = 3 ∨ st = 6 then s.setFld (F.RX_STAT_RSTATE r) 4
      else if st = 4 then
        (((s.setZrx r { x with w := rampGo false len x.w }).setFld (F.RX_STAT_RSTATE r) 5).report 0x7881 r 0).raise Pg.zklRx 0
      else s

/-- The values of a slot for the next tick (R461); `bad` names channels whose word in the playout store is uncorrectable. -/
def zrxValues (r k : Nat) (bad : List Nat) (s : State) : State :=
  let n := s.fld (F.RX_CFG_CHANS r)
  let c0 := s.fld (F.RX_CFG_CHFIRST r)
  let st := s.fld (F.RX_STAT_RSTATE r)
  let x := s.zrx r
  let x := if st = 5 ∨ st = 6 then { x with w := rampStep x.w } else x
  let raw := fun j => if st = 3 ∨ st = 6 then
      (if bad.contains (c0 + j) then zeroTag tSUB else x.cur.getD (k * n + j) 0)
    else x.held.getD j 0
  let x := { x with held := if st = 3 ∨ st = 6 then (List.range n).map raw else x.held }
  let s := s.setZrx r x
  let s := s.each n (fun j s => s.produce (0x800 + c0 + j) (
    if st < 3 then zeroTag tFAD
    else if st = 3 then raw j
    else if st = 4 then addTag (weigh (rampWeight x.w) (raw j)) tSUB
    else if st = 5 then
      (if rampWeight x.w = 0 then zeroTag tFAD else addTag (weigh (rampWeight x.w) (raw j)) (tSUB + tFAD))
    else addTag (weigh (rampWeight x.w) (raw j)) tFAD))
  s.when ((st == 3 || st == 6) && (List.range n).any (fun j => bad.contains (c0 + j))) (State.report 0x4885 r 2)

/-- A receive slot through its tick. -/
def zrxTick (bad : List Nat) (r : Nat) (s : State) : State :=
  if !s.on (F.RX_CFG_EN r) then s
  else
    let ctl := s.on (F.RX_CFG_KIND r)
    match (s.zrx r).p with
    | none => if ctl then s else zrxValues r 0 bad s
    | some p =>
      let g := gathTicks (s.fld (F.RX_CFG_GATH r))
      let d := domTick (s.tick + 1) s - p
      let k := (d % (g : Int)).toNat
      let s := if k = 0 then zrxBegin r d s else s
      if ctl then s else zrxValues r k bad s

/-- The Zinkor Link through its tick. -/
def zklTick (bad : List Nat) (s : State) : State := (s.each 64 ztxTick).each 64 (zrxTick bad)

/-- A failed count check of a slot, or of stream `n` at 0x100 + n (R462). -/
def zklConserve (inst : Nat) (s : State) : State :=
  let s := (s.report 0x4883 inst 3).raise Pg.zkl 1
  if inst < 64 then zrxRestart inst s else ztxRestart (inst - 256) s

/-- A press of the ZKL pages (R471). -/
def zklPress (old s : State) : State :=
  let ch (a : Nat) := old.word a != s.word a
  let all := ch Adr.ZKL_NODE
  let s := s.each 64 (fun n s =>
    if all || ch (Adr.TX_CFG n) || ch (Adr.TX_TIME n) || ch (Adr.TX_DA_LO n) || ch (Adr.TX_DA_HI n)
      || (s.word (Adr.TX_CTRL n)) != (old.word (Adr.TX_CTRL n)) then
      let s := s.eachOf (List.range 4) (fun p s => match (s.ztx n).send with
        | some (_, ports) => if ports.contains p then qCancel (ztxQueue n p old) (ztxProd n p) false s else s
        | none => s)
      s.setZtx n { from_ := s.tick }
    else s)
  let s := s.each 64 (fun r s =>
    if all || ch (Adr.RX_CFG r) || ch (Adr.RX_ID r) || ch (Adr.RX_CTL r) then
      let s := s.setZrx r {}
      let s := s.each (old.fld (F.RX_CFG_CHANS r)) (fun j s => s.produce (0x800 + old.fld (F.RX_CFG_CHFIRST r) + j) 0)
      s.setFld (F.RX_STAT_RSTATE r) 0
    else s)
  zklShow s

/-- The state of the ZKL page (R473). -/
def zklPageState (s : State) : Nat :=
  let used := (List.range 64).any (fun n => s.on (F.TX_CFG_EN n) || s.on (F.RX_CFG_EN n))
  if s.isolated 2 20 then 5
  else if !used then 0
  else if !s.on F.TIME_STAT_DOFS_SET then 1
  else if !s.on F.TIME_STAT_DOFS_OK || (List.range 64).any (fun r => s.fld (F.RX_STAT_RSTATE r) == 4 || s.fld (F.RX_STAT_RSTATE r) == 5) then 3
  else 2

/-- DOMAIN_TICK_UPDATE. -/
def execDomainTickUpdate (s : State) : Host.Outcome State Fault Refusal := s.ticking (.next (domainUpdate s))

/-- ZKL_FRAME_LINK. -/
def execZklFrameLink (n : Fin 64) (s : State) : Host.Outcome State Fault Refusal :=
  s.ticking (
    .next (zklLink n.val (s.land (s.fld (F.TX_TIME_TXOFS n.val)))))

/-- ZKL_FRAME_JUDGE. `xlate`: the sending stream has XLATE set, which its frame does not carry (R464). -/
def execZklFrameJudge (xlate : Bool) (s : State) : Host.Outcome State Fault Refusal := s.ticking (.next (zklRead xlate s))

end Sys2Proof.Machine
end

