-- ==== Sys2Proof/Machine/Plan.lean ====
section
/-!
DEFINITION. The plan that collation makes for a configuration: consuming sinks, slots of the spine, the mixer's start, the
schedule of the effects engines, loops without delay (R47, R240-R247, R252, R263-R267, R282).
-/

namespace Sys2Proof.Machine

/-- An enabled node of the schedule: source number, engine (0 biquad, 1 dynamics, 2 delay, 3 convolution head, 4 shapers),
cost and input sinks (R264, R265, R267). -/
structure PlanNode where
  key : Nat
  eng : Nat
  cost : Nat
  ins : List Nat
  deriving DecidableEq, Repr

/-- A slot of the spine: source group, sink group (none: a tap), same-tick, and the routes it serves as sink and source. -/
structure PlanSlot where
  srcG : Nat
  sinkG : Option Nat
  same : Bool
  routes : List (Nat × Nat)
  deriving DecidableEq, Repr

/-- The schedule while it is built: cycles of same-tick slots, nodes placed with unit, start and finish, the mixer's start. -/
structure Placing where
  used : List (PlanSlot × Nat) := []
  nodes : List (Nat × FxPlace) := []
  mix : Option Nat := none
  ends : List Nat := [0, 0, 0, 0, 0, 0]
  order : List Nat := []
  deriving DecidableEq, Repr

/-- The banks a biquad node computes: the one that becomes live, and in a crossfade the one that was (R267, R270). -/
def planBanks (live new xf : Nat) (fading cross : Bool) : List Nat :=
  if cross && ((live != new && xf != 0) || fading) then [new, 1 - new] else [new]

/-- Cost of a biquad node, of the convolution head of a channel and of a shaper (R267). `old` is the live configuration. -/
def bqCost (cross : Bool) (n : Nat) (m : State) : Nat :=
  5 * (((planBanks (bqLive n m) (m.fld (F.BQ_CFG_ACT_BANK n)) (m.fld (F.BQ_CFG_XF n)) (m.bqXf n).on cross).map
    (fun b => m.fld (F.BQ_BANK_NSEC n b))).foldl (· + ·) 0)
def convSets (cross : Bool) (c : Nat) (m : State) : List Nat :=
  (planBanks (convLive c m) (m.fld (F.CV_CFG_FX_ACT c)) (m.fld (F.CV_CFG_FX_XF c)) (m.conv c).xf.on cross).filter
    (fun b => m.on (F.CV_SET_LEN c b))
def shCost (cross : Bool) (h : Nat) (old m : State) : Nat :=
  72 * (planBanks (old.fld (F.SH_CFG_ACT_BANK h)) (m.fld (F.SH_CFG_ACT_BANK h)) (m.fld (F.SH_CFG_XF h))
    (m.shaper h).xf.on cross).length

/-- Whether a node of the configuration is enabled (R264). -/
def planBqOn (n : Nat) (m : State) : Bool := m.on (F.BQ_BANK_NSEC n (m.fld (F.BQ_CFG_ACT_BANK n)))
def planConvOn (c : Nat) (m : State) : Bool := m.on (F.CV_SET_LEN c (m.fld (F.CV_CFG_FX_ACT c)))

/-- The taps of a line, and its modulation inputs (R263, R277). -/
def planTaps (k : Nat) (m : State) : List Nat := (List.range 256).filter (fun t => tapOn t m && m.fld (F.TAP_CFG_LINE t) == k)
def planMods (k : Nat) (m : State) : List Nat :=
  ((planTaps k m).filter (fun t => 33 ≤ m.fld (F.TAP_CFG_MSRC t))).map (fun t => 0x7E0 + (m.fld (F.TAP_CFG_MSRC t) - 33))

/-- The inputs of a group of processors: their own and those their KEYs name (R264, R271). -/
def planKeys (g : List Nat) (m : State) : List Nat :=
  g.flatMap (fun p => if m.on (F.DYN_CFG_KEY p) then [0x680 + p, 0x680 + (m.fld (F.DYN_CFG_KEY p) - 1)] else [0x680 + p])

/-- The enabled nodes in rising source number (R263, R264, R267). -/
def planNodes (cross : Bool) (old m : State) : List PlanNode :=
  ((List.range 128).filter (fun n => bqCost cross n m != 0)).map (fun n => ⟨0x500 + n, 0, bqCost cross n m, [0x600 + n]⟩)
  ++ ((List.range 128).filter (fun p => dynOn p m && (dynGroup p m).head? == some p)).map (fun p =>
      ⟨0x580 + p, 1, 36 * (dynGroup p m).length, planKeys (dynGroup p m) m⟩)
  ++ ((List.range 128).filter (fun k => dlOn k m)).map (fun k =>
      ⟨0x600 + k, 2, 2 + 8 * (planTaps k m).length, (0x700 + k) :: planMods k m⟩)
  ++ ((List.range 32).filter (fun c => !(convSets cross c m).isEmpty)).map (fun c =>
      ⟨0x780 + c, 3, 130 * (convSets cross c m).length, [0x780 + c]⟩)
  ++ ((List.range 64).filter (fun h => shOn h m)).map (fun h => ⟨0x7A0 + h, 4, shCost cross h old m, [0x7A0 + h]⟩)

/-- The node that makes a source: its key, 0x400 for the mixer; none where nothing enabled makes it. -/
def planOwner (src : Nat) (nodes : List PlanNode) (m : State) : Option Nat :=
  if src < 0x400 then none
  else if src < 0x4C0 then (if m.on (F.MIX_BUS_EN (src - 0x400)) then some 0x400 else none)
  else if src < 0x500 then none
  else if src < 0x580 then (if nodes.any (fun x => x.key == src) then some src else none)
  else if src < 0x600 then (if dynOn (src - 0x580) m then ((dynGroup (src - 0x580) m).head?).map (0x580 + ·) else none)
  else if src < 0x680 then (if dlOn (src - 0x600) m then some src else none)
  else if src < 0x780 then (if tapOn (src - 0x680) m then some (0x600 + m.fld (F.TAP_CFG_LINE (src - 0x680))) else none)
  else if src < 0x7A0 then (if nodes.any (fun x => x.key == src) then some src else none)
  else if src < 0x7E0 then (if shOn (src - 0x7A0) m then some src else none)
  else none

/-- Whether a sink exists, and is a physical sink (R240). -/
def sinkExists (n : Nat) : Bool :=
  n < 0x014 || (0x020 ≤ n && n < 0x038) || (0x040 ≤ n && n < 0x048) || (0x100 ≤ n && n < 0x580) || (0x600 ≤ n && n < 0x900)
def sinkPhysical (n : Nat) : Bool := decide (n < 0x300)

/-- Whether a source number exists (R239, R263). -/
def srcExists (n : Nat) : Bool :=
  n == 0 || (0x010 ≤ n && n < 0x060) || (0x080 ≤ n && n < 0x088) || (0x100 ≤ n && n < 0x4C0) || (0x500 ≤ n && n < 0x900)

/-- Whether a sink consumes in the configuration (R241, R264, R334, R350). -/
def sinkUsed (n : Nat) (nodes : List PlanNode) (m : State) : Bool :=
  if n < 0x014 then m.on (F.OUT_CFG_EN (if n < 0x010 then n else n - 0x010 + 16))
  else if n < 0x030 then m.on (F.CV_CFG_EN (n - 0x020)) && !m.on (F.CV_CFG_SRC (n - 0x020))
  else if n < 0x040 then m.on (F.SPK_CFG_EN (n - 0x030)) && spkLead (n - 0x030) m == n - 0x030
  else if n < 0x100 then m.fld F.SPDO_CFG_EN / 2 ^ ((n - 0x040) / 2) % 2 == 1
  else if n < 0x300 then (sapSlots ((n - 0x100) / 32) true m).contains ((n - 0x100) % 32)
  else if n < 0x400 then m.on (F.SRC_QS_DIR ((n - 0x300) / 8)) && decide ((n - 0x300) % 8 < m.fld (F.SRC_QS_CHANS ((n - 0x300) / 8)))
  else if n < 0x580 then true
  else if n < 0x800 then nodes.any (fun x => x.ins.contains n)
  else (List.range 64).any (fun t => m.on (F.TX_CFG_EN t) && !m.on (F.TX_CFG_KIND t) &&
    decide (m.fld (F.TX_CFG_CHFIRST t) ≤ n - 0x800 ∧ n - 0x800 < m.fld (F.TX_CFG_CHFIRST t) + m.fld (F.TX_CFG_CHANS t)))

/-- The sink of a route word's address (R261). -/
def routeSink (a : Nat) : Option Nat :=
  let n := (a / 4096 - 0x081) * 512 + (a % 4096 - 0x800) / 4
  if 0x081 ≤ a / 4096 ∧ a / 4096 < 0x086 ∧ 0x800 ≤ a % 4096 ∧ a % 4 = 0 ∧ sinkExists n then some n else none

/-- Every routed sink with its source and whether it is a same-tick input, in rising sink number. -/
def planRoutes (m : State) : List (Nat × Nat × Bool) :=
  m.regs.filterMap (fun e => match routeSink e.1 with
    | none => none
    | some n => if e.2.bits 11 0 = 0 then none else some (n, e.2.bits 11 0, e.2.bits 31 31 == 1))

/-- The slots that the routes need (R245). -/
def planPairs (rs : List (Nat × Nat × Bool)) : List PlanSlot :=
  rs.foldl (fun acc r =>
    let hit := fun (p : PlanSlot) => p.srcG == r.2.1 / 4 && p.sinkG == some (r.1 / 4) && p.same == r.2.2
    if acc.any hit then acc.map (fun p => if hit p then { p with routes := p.routes ++ [(r.1, r.2.1)] } else p)
    else acc ++ [⟨r.2.1 / 4, some (r.1 / 4), r.2.2, [(r.1, r.2.1)]⟩]) []

/-- The order of ordinary slots: physical sinks, mixer lanes, then effects inputs, queue streams, Zinkor Link, taps (R246). -/
def slotClass (p : PlanSlot) : Nat :=
  match p.sinkG with
  | none => 5
  | some g => if g < 0x0C0 then 0 else if g < 0x100 then 3 else if g < 0x160 then 1 else if g < 0x200 then 2 else 4

/-- Whether ordinary slot `a` stands before `b`. -/
def slotBefore (a b : PlanSlot) : Bool :=
  let k := fun (p : PlanSlot) => slotClass p * 2 ^ 24 + p.sinkG.getD 0 * 2 ^ 12 + p.srcG
  decide (k a ≤ k b)

/-- Slots in order. -/
def slotSort (l : List PlanSlot) : List PlanSlot :=
  l.foldl (fun acc e => acc.takeWhile (fun a => slotBefore a e) ++ [e] ++ acc.dropWhile (fun a => slotBefore a e)) []

/-- The ordinary slots in the order in which they are placed, taps included (R245, R246). -/
def planOrdinary (pairs : List PlanSlot) (m : State) : List PlanSlot :=
  (List.range 32).foldl (fun acc t =>
    let y := m.fld (F.SPN_TAP_CFG_SRC t)
    if y = 0 ∨ acc.any (fun p => p.srcG == y / 4) then acc else acc ++ [⟨y / 4, none, false, []⟩])
    (slotSort (pairs.filter (fun p => !p.same)))

/-- Slots in cycle `c` so far. -/
def cycleLoad (n : Nat) (p : Placing) (c : Nat) : Nat := min 3 (n - 3 * c) + (p.used.filter (fun u => u.2 == c)).length

/-- The finish cycle of a source's producer (R247, R252, R265). -/
def planFinish (src : Nat) (nodes : List PlanNode) (p : Placing) (m : State) : Nat :=
  match planOwner src nodes m with
  | none => 0
  | some k =>
    if k = 0x400 then p.mix.getD 0 + 24 * mixRank (src - 0x400) m + 47
    else ((p.nodes.find? (fun e => e.1 == k)).map (·.2.fin)).getD 0

/-- Whether every producer of a same-tick slot has been placed (R247, R266). -/
def slotReady (q : PlanSlot) (nodes : List PlanNode) (p : Placing) (m : State) : Bool :=
  q.routes.all (fun r => match planOwner r.2 nodes m with
    | none => true
    | some k => if k = 0x400 then p.mix.isSome else p.nodes.any (fun e => e.1 == k))

/-- Every same-tick slot that can be placed is placed (R247, R266). -/
def placeSlots (same : List PlanSlot) (nodes : List PlanNode) (n : Nat) (m : State) (p : Placing) : Placing :=
  same.foldl (fun p q =>
    if p.used.any (fun u => u.1 == q) || !slotReady q nodes p m then p
    else
      let f := q.routes.foldl (fun a r => max a (planFinish r.2 nodes p m)) 0
      let c := ((List.range (n + p.used.length + 1)).find? (fun k => decide (cycleLoad n p (f + k) < 3))).getD 0
      { p with used := p.used ++ [(q, f + c)] }) p

/-- The cycle of the slot that carries a sink's value; none where the sink is not routed. -/
def sinkCycle (k : Nat) (ord : List PlanSlot) (p : Placing) : Option Nat :=
  match p.used.find? (fun u => u.1.routes.any (fun r => r.1 == k)) with
  | some u => some u.2
  | none => (ord.findIdx? (fun q => q.routes.any (fun r => r.1 == k))).map (· / 3)

/-- One node placed on its unit (R265). -/
def placeNode (x : PlanNode) (ord : List PlanSlot) (p : Placing) : Placing :=
  let a := x.ins.foldl (fun a k => match sinkCycle k ord p with
    | none => a
    | some c => max a (c + 1)) 0
  let busy := fun u => p.nodes.any (fun e => e.2.unit == u)
  let from_ := fun u => if busy u then max a (p.ends.getD u 0 + 1) else a
  let u := if x.eng = 0 then (if from_ 1 < from_ 0 then 1 else 0) else x.eng + 1
  let st := from_ u
  { p with nodes := p.nodes ++ [(x.key, ⟨u, st, st + x.cost - 1⟩)], ends := p.ends.set u (st + x.cost - 1), order := p.order ++ [x.key] }

/-- The placement of the mixer: its start S (R252). -/
def placeMixer (hp : Nat) (p : Placing) : Placing :=
  let s := p.used.foldl (fun a u => match u.1.sinkG with
    | none => a
    | some g => if 0x100 ≤ g ∧ g < 0x160 then max a (u.2 + 1) else a) (ceilDiv hp 3)
  { p with mix := some s, order := p.order ++ [0x400] }

/-- Whether every same-tick input of a node, or of the mixer, has been placed. -/
def inputsPlaced (key : Nat) (nodes : List PlanNode) (same : List PlanSlot) (p : Placing) : Bool :=
  let ins := ((nodes.find? (fun x => x.key == key)).map (·.ins)).getD []
  same.all (fun q => p.used.any (fun u => u.1 == q) ||
    !q.routes.any (fun r => if key = 0x400 then decide (0x400 ≤ r.1 ∧ r.1 < 0x580) else ins.contains r.1))

/-- The placement order of R265: of the nodes that can be placed, the lowest source number goes first. -/
def placeAll (nodes : List PlanNode) (ord same : List PlanSlot) (hp : Nat) (m : State) : Nat → List Nat → Placing → Placing
  | 0, _, p => placeSlots same nodes ord.length m p
  | fuel + 1, todo, p =>
    let p := placeSlots same nodes ord.length m p
    match todo with
    | [] => p
    | t :: _ =>
      let k := (todo.find? (fun k => inputsPlaced k nodes same p)).getD t
      let p := if k = 0x400 then placeMixer hp p
        else match nodes.find? (fun x => x.key == k) with
          | none => p
          | some x => placeNode x ord p
      placeAll nodes ord same hp m fuel (todo.erase k) p

/-- A plan: the figures of SPN_LOAD, SPN_SCHED and FX_LOAD, and the schedule (R246, R247, R252, R265). -/
structure Plan where
  loads : List Nat
  start : Nat
  nbus : Nat
  chain : Nat
  ends : List Nat
  order : List Nat
  place : List (Nat × FxPlace)
  deriving DecidableEq, Repr

/-- Slots on a lane: lane (c mod 4) of cycle c stays empty (R246). -/
def laneLoad (n last : Nat) (p : Placing) (lane : Nat) : Nat :=
  (List.range (last + 1)).foldl (fun a c =>
    let k := if lane < c % 4 then lane else lane - 1
    if lane ≠ c % 4 ∧ k < cycleLoad n p c then a + 1 else a) 0

/-- The plan of a configuration `m` beside the live one, `old`; `cross` over the crossfades that its swaps start (R267). -/
def planOf (cross : Bool) (old m : State) : Plan :=
  let nodes := planNodes cross old m
  let pairs := planPairs ((planRoutes m).filter (fun r => sinkUsed r.1 nodes m))
  let ord := planOrdinary pairs m
  let same := pairs.filter (·.same)
  let hp := (ord.filter (fun q => decide (slotClass q ≤ 1))).length
  let todo := 0x400 :: nodes.map (·.key)
  let p := placeAll nodes ord same hp m todo.length todo {}
  let nb := (mixBuses m).length
  let s := p.mix.getD 0
  let last := p.used.foldl (fun a u => max a u.2) (ord.length / 3)
  let chain := p.used.foldl (fun a u => u.1.routes.foldl (fun a r =>
    if 0x400 ≤ r.1 ∧ r.1 < 0x580 then max a (if nb = 0 then u.2 else s + 24 * nb + 47)
    else nodes.foldl (fun a x => if x.ins.contains r.1 then
      max a (((p.nodes.find? (fun e => e.1 == x.key)).map (·.2.fin)).getD 0) else a) a) a) 0
  { loads := (List.range 4).map (laneLoad ord.length last p), start := s, nbus := nb, chain := chain, ends := p.ends,
    order := p.order, place := p.nodes }

/-- The nodes of the loop graph that a sink feeds and that a source leaves, enabled or not (R243). -/
def loopTo (sink : Nat) (m : State) : List Nat :=
  if 0x400 ≤ sink ∧ sink < 0x580 then [0x400]
  else if 0x600 ≤ sink ∧ sink < 0x680 then [sink - 0x100]
  else if 0x680 ≤ sink ∧ sink < 0x700 then
    ((List.range 128).filter (fun p => p == sink - 0x680 || (dynOn p m && m.fld (F.DYN_CFG_KEY p) == sink - 0x680 + 1))).map
      (fun p => 0x580 + ((dynGroup p m).head?).getD p)
  else if 0x700 ≤ sink ∧ sink < 0x780 then [sink - 0x100]
  else if 0x780 ≤ sink ∧ sink < 0x7E0 then [sink]
  else if 0x7E0 ≤ sink ∧ sink < 0x800 then
    ((List.range 128).filter (fun k => (planMods k m).contains sink)).map (0x600 + ·)
  else []
def loopFrom (src : Nat) (m : State) : Option Nat :=
  if src < 0x400 then none
  else if src < 0x4C0 then some 0x400
  else if 0x500 ≤ src ∧ src < 0x580 then some src
  else if 0x580 ≤ src ∧ src < 0x600 then some (0x580 + ((dynGroup (src - 0x580) m).head?).getD (src - 0x580))
  else if 0x600 ≤ src ∧ src < 0x680 then some src
  else if 0x680 ≤ src ∧ src < 0x780 then some (0x600 + m.fld (F.TAP_CFG_LINE (src - 0x680)))
  else if 0x780 ≤ src ∧ src < 0x7E0 then some src
  else none

/-- Edges that lie on a path with edges before and after them. -/
def loopTrim : Nat → List (Nat × Nat × Nat) → List (Nat × Nat × Nat)
  | 0, es => es
  | n + 1, es => loopTrim n (es.filter (fun e => es.any (fun f => f.2.1 == e.1) && es.any (fun f => f.1 == e.2.1)))

/-- The lowest sink of a closed path whose edges are all same-tick (R47, R243). -/
def planLoop (m : State) : Option Nat :=
  let es := ((planRoutes m).filter (·.2.2)).flatMap (fun r => match loopFrom r.2.1 m with
    | none => []
    | some a => (loopTo r.1 m).map (fun b => (a, b, r.1)))
  ((loopTrim es.length es).head?).map (·.2.2)

/-- Cycles charged to the partition unit, history and granules used (R267, R282). -/
def partCycles (cross : Bool) (m : State) : Nat :=
  (List.range 32).foldl (fun a c =>
    let long := (convSets cross c m).filter (fun b => decide (1024 < m.fld (F.CV_SET_LEN c b)))
    if long.isEmpty then a else a + 16 + 32 * (long.flatMap (fun b => setGranules c b m)).length) 0
def histUsed (m : State) : Nat :=
  (List.range 32).foldl (fun a c => if planConvOn c m then
    a + max (m.fld (F.CV_CFG_FX_HIST c)) (max (setGranules c 0 m).length (setGranules c 1 m).length) else a) 0
def granUsed (m : State) : Nat := ((List.range 32).flatMap (fun c => (convSets false c m).flatMap (fun b => setGranules c b m))).length

/-- A plan that has become live: its figures and its schedule (R246, R252, R265). -/
def planShow (pl : Plan) (s : State) : State :=
  let s := s.each 4 (fun l s => s.setFld (F.SPN_LOAD_SLOTS l) (pl.loads.getD l 0))
  let s := (s.setFld F.SPN_SCHED_MIX_START pl.start).setFld F.SPN_SCHED_CHAIN_END pl.chain
  let e := fun i => pl.ends.getD i 0
  let s := ((s.setFld F.FX_LOAD0_BQ0_END (e 0)).setFld F.FX_LOAD0_BQ1_END (e 1)).setFld F.FX_LOAD1_DYN_END (e 2)
  let s := ((s.setFld F.FX_LOAD1_DLY_END (e 3)).setFld F.FX_LOAD2_CVH_END (e 4)).setFld F.FX_LOAD2_SH_END (e 5)
  let s := ((s.setFld F.FX_LOAD3_PART_CYC (partCycles false s)).setFld F.FX_LOAD3_HIST_USED (histUsed s)).setFld
    F.FX_LOAD3_GRAN_USED (granUsed s)
  let all := pl.place.flatMap (fun e =>
    if 0x580 ≤ e.1 ∧ e.1 < 0x600 then (dynGroup (e.1 - 0x580) s).map (fun q => (0x580 + q, e.2)) else [e])
  { s with fx := { s.fx with order := pl.order,
                             place := all.foldl (fun m e => SMap.set (fun _ => {}) m e.1 e.2) [] } }

/-- The node of R264 to warn of: the lowest routed biquad or convolution source that is off for a length of 0. -/
def planWarn (m : State) : Option Nat :=
  (planRoutes m).foldl (fun a r =>
    let y := r.2.1
    let off := (decide (0x500 ≤ y ∧ y < 0x580) && !planBqOn (y - 0x500) m) || (decide (0x780 ≤ y ∧ y < 0x7A0) && !planConvOn (y - 0x780) m)
    if !off then a else match a with
      | none => some y
      | some z => some (min y z)) none

/-- FX_PROBE_RES: start and finish of the probed node (R265). -/
def fxProbe (s : State) : Word :=
  let n := s.fld F.FX_PROBE_NODE
  let key := if 0x680 ≤ n ∧ n < 0x780 then (if tapOn (n - 0x680) s then 0x600 + s.fld (F.TAP_CFG_LINE (n - 0x680)) else 0xFFF) else n
  let p := SMap.get (fun _ => ({} : FxPlace)) s.fx.place key
  BitVec.ofNat 32 (p.start * 65536 + p.fin)

end Sys2Proof.Machine
end

