-- ==== Sys2Proof/Machine/Sap.lean ====
section
/-!
DEFINITION. Serial audio ports: starts, qualification, frames in and out, events with their fades and ramps (R180-R202).
-/

namespace Sys2Proof.Machine

/-- Port `p`. -/
def State.port (s : State) (p : Nat) : SapPort := SMap.get (fun _ => {}) s.sap p
def State.setPort (p : Nat) (x : SapPort) (s : State) : State := { s with sap := SMap.set (fun _ => {}) s.sap p x }

def sapPs (p : Nat) (s : State) : Nat := s.fld (F.SAP_STAT_PSTATE p)
def sapSetPs (p v : Nat) (s : State) : State := s.setFld (F.SAP_STAT_PSTATE p) v

/-- Whether the port acts as controller. -/
def sapCtl (p : Nat) (s : State) : Bool := s.fld (F.SAP_STAT_MODE_ACT p) == 0

/-- Bits of a slot and of its word (R181, R182). -/
def widthBits (c : Nat) : Nat := if c = 0 then 16 else if c = 1 then 24 else 32
def sapHz (p : Nat) (s : State) : Nat := rateHz (s.fld (F.SAP_CFG_PRATE p))
def sapFrameBits (p : Nat) (s : State) : Nat := s.fld (F.SAP_CFG_SLOTS p) * widthBits (s.fld (F.SAP_CFG_SWIDTH p))

/-- Fade lengths of a value of FADE: values at Fi, frames at the port (R194). -/
def sapFade (fade : Nat) : Nat := 8 * fade
def sapFadeN (fade p : Nat) (s : State) : Nat := if fade = 0 then 0 else max 1 (8 * fade * sapHz p s / 192000)

/-- FADE as it stands now (R202). -/
def sapFadeCfg (p : Nat) (s : State) : Nat := s.fld (F.SAP_XRUN_CFG_FADE p)

/-- BCLK periods from the FS edge to the first bit of slot 0 (R181): one in the I2S-style format, FS_DLY in TDM. -/
def sapFirstBit (p : Nat) (s : State) : Nat :=
  if s.fld (F.SAP_CFG_FMT p) = 0 then 1 else if s.fld (F.SAP_CFG_FMT p) = 2 then s.fld (F.SAP_CFG_FS_DLY p) else 0

/-- The word at the pins of slot `k`, left-justified, MSB first, out of the levels of RXD at the sampling edges from the FS edge on (R181). -/
def sapSlotWord (p k : Nat) (line : List Bool) (s : State) : Word :=
  let w := widthBits (s.fld (F.SAP_CFG_SWIDTH p))
  let bits := (line.drop (sapFirstBit p s + w * k)).take w
  BitVec.ofNat 32 (bits.foldl (fun a b => 2 * a + b.toNat) 0 * 2 ^ (32 - bits.length))

/-- A word at the pins as S28T4: `bits` of it count, left-justified (R31). -/
def wordIn (bits : Nat) (raw : Word) : Word :=
  if bits = 32 then sample (roundEven raw.toInt 4) 0 else BitVec.ofNat 32 (raw.bits 31 (32 - bits) * 2 ^ (32 - bits))

/-- An S28T4 value as a word of `bits` at the pins, rounded and saturated (R182, R30), with its tag where asked. -/
def wordOut (bits : Nat) (tagOut : Bool) (w : Word) : Word :=
  if bits = 32 then (if tagOut then w else w &&& 0xFFFFFFF0)
  else
    let v := clampInt (-(2 ^ (bits - 1))) (2 ^ (bits - 1) - 1) (roundEven (sval w) (28 - bits))
    BitVec.ofNat 32 (unsigned bits v * 2 ^ (32 - bits))

/-- What a frame shows at the pins (R182, R198). -/
def sapPins (p : Nat) (f : List Word) (s : State) : List Word :=
  if s.isolated 2 p then f.map (fun _ => 0) else f.map (wordOut (widthBits (s.fld (F.SAP_CFG_WLEN p))) (s.on (F.SAP_TXCFG_TAG_OUT p)))

/-- A crossing of the port at its start. -/
def sapXing (p : Nat) (tx : Bool) (s : State) : Xing :=
  let code := s.fld (F.SAP_CFG_PRATE p)
  let slots := sapSlots p tx s
  if sapCtl p s then xingStart (tickKind code) 1 1 slots else xingStart 5 (rateHz code * 2 ^ 22 / 192000) (2 ^ 22) slots

/-- Both crossings of a port start (R228, R191). -/
def sapCross (p : Nat) (s : State) : State :=
  achShow (16 + p) (achShow p ((s.setXing p (sapXing p false s)).setXing (16 + p) (sapXing p true s)))

/-- RX_EVT, TX_EVT and, for a running port, PSTATE (R200, R202). -/
def sapShow (p : Nat) (s : State) : State :=
  let x := s.port p
  let ps := sapPs p s
  let evt := fun (d : Side) => d.ph != 0 && (d.logged || decide (5 ≤ ps))
  let s := (s.setOn (F.SAP_STAT_RX_EVT p) (evt x.rx)).setOn (F.SAP_STAT_TX_EVT p) (evt x.tx)
  if ps < 5 ∨ ps = 9 ∨ ps = 10 then s
  else
    -- the transmit fade of a lost clock waits for the partner's return
    let fade := x.rx.ph == 1 || (x.tx.ph == 1 && !x.requal)
    let silent := x.rx.ph == 2 || x.tx.ph == 2
    let v := if fade then 7 else if x.conserve then 10 else if silent then 8 else if x.rx.ph = 3 ∨ x.tx.ph = 3 then 6 else 5
    (sapSetPs p v s).when (v == 5 && ps != 5) (State.raise (Pg.sap p) 4)

/-- The port starts: it senses its clock pins before it drives them; transmit slots are sent as 0 (R190, R191). -/
def sapStart (p : Nat) (sense : Bool) (s : State) : State :=
  let m := s.fld (F.SAP_CFG_MODE p)
  let d : Side := { fade := sapFadeCfg p s }
  let s := s.setPort p { rx := d, tx := d, start := s.tick, sense := sense, frames := (s.port p).frames,
                         pins := List.replicate (s.fld (F.SAP_CFG_SLOTS p)) 0 }
  let s := (s.setXing p {}).setXing (16 + p) {}
  (((sapSetPs p 1 s).setFld (F.SAP_STAT_MODE_ACT p) m).setFld (F.SAP_STAT_RX_EVT p) 0).setFld (F.SAP_STAT_TX_EVT p) 0

/-- The port off (R183, R200). -/
def sapStop (p : Nat) (s : State) : State :=
  let s := ((s.setPort p {}).setXing p {}).setXing (16 + p) {}
  (((sapSetPs p 0 s).setFld (F.SAP_STAT_MODE_ACT p) 0).setFld (F.SAP_STAT_RX_EVT p) 0).setFld (F.SAP_STAT_TX_EVT p) 0

/-- A controller port drives its clocks and ramps in (R190, R191). -/
def sapDrive (p : Nat) (s : State) : State :=
  let s := sapCross p (s.setFld (F.SAP_STAT_MODE_ACT p) 0)
  let x := s.port p
  let s := s.setPort p { x with drive := false, rx := sideRamp (sapFade x.rx.fade) x.rx, tx := sideRamp (sapFadeN x.tx.fade p s) x.tx }
  sapShow p (sapSetPs p 6 s)

/-- A controller port drives its clocks from the first frame boundary on: in tick `m`, or later (R184, R190). -/
def sapDriveFrom (p m : Nat) (s : State) : State :=
  if xingBoundary (tickKind (s.fld (F.SAP_CFG_PRATE p))) m then sapDrive p s else s.setPort p { s.port p with drive := true }

/-- The end of the sense interval (R190). -/
def sapSenseEnd (p : Nat) (edges : Bool) (s : State) : State :=
  let x := s.port p
  let m := s.fld (F.SAP_CFG_MODE p)
  if sapPs p s ≠ 1 ∨ x.drive ∨ s.tick < x.start + 16 ∨ s.on F.CLK_STATUS_PRELOCK then s
  else if m = 1 ∨ (m = 2 ∧ edges) then sapSetPs p 2 (s.setFld (F.SAP_STAT_MODE_ACT p) 1)
  else if edges && x.sense then
    (((sapSetPs p 9 (s.setPort p { x with pins := [] })).bump (F.SAP_CNT_ERR_CONTEND_CNT p) (F.SAP_CNT_ERR_CT_SAT p)).raise (Pg.sap p) 3).report 0x8545 p 0
  else sapDriveFrom p s.tick s

/-- An event of the receive (or transmit) side (R194-R196); `log` for an underrun or overrun. -/
def sapEvent (p : Nat) (tx log : Bool) (s : State) : State :=
  let x := s.port p
  let d := if tx then x.tx else x.rx
  let first := !d.logged
  let f := sapFadeCfg p s
  let d := { sideEvent f (if tx then sapFadeN f p s else sapFade f) d with logged := true }
  let s := s.setPort p (if tx then { x with tx := d } else { x with rx := d })
  sapShow p ((s.raise (Pg.sap p) 0).when (log && first) (State.report 0x4543 p 0))

/-- Whether a good frame has the right length and period (R187): `period` in core cycles. -/
def sapGood (p bits period : Nat) (s : State) : Bool :=
  let hz := sapHz p s
  bits == sapFrameBits p s && decide (49 * 983040000 ≤ 50 * period * hz) && decide (50 * period * hz ≤ 51 * 983040000)

/-- Clock loss or loss of sync: both sides fade and the clock must qualify again (R188, R189). -/
def sapLose (p : Nat) (s : State) : State :=
  let s := sapEvent p true false (sapEvent p false false s)
  s.setPort p { s.port p with requal := true, goodRun := 0, badRun := 0 }

/-- A qualified clock: the converters start to lock (R187). -/
def sapQualified (p : Nat) (s : State) : State :=
  sapSetPs p 4 (sapCross p (s.setPort p { s.port p with requal := false, goodRun := 0, badRun := 0 }))

/-- A frame that a follower port hands to its crossing, or that finds the buffer full (R194). -/
def sapHand (p : Nat) (f : List Word) (s : State) : State :=
  let (ok, x) := xingGive f (s.xing p)
  let s := s.setXing p x
  let y := s.port p
  if ok then s.setPort p { y with rxPass := y.rxPass + 1 }
  else sapEvent p false true ((s.setPort p { y with rxDisc := y.rxDisc + 1 }).bump (F.SAP_CNT_RX_RX_OVER p) (F.SAP_CNT_RX_RO_SAT p))

/-- A bad frame: its words are discarded and counted, and a copy of the frame before stands in its place (R188). -/
def sapBadFrame (p : Nat) (s : State) : State :=
  let s := (s.bump (F.SAP_CNT_ERR_FS_ERR p) (F.SAP_CNT_ERR_FE_SAT p)).raise (Pg.sap p) 2
  let s := s.setPort p { s.port p with rxDisc := (s.port p).rxDisc + 1 }
  let c := s.xing p
  let last := c.inbox.getLastD (c.buf.getLastD c.last)
  s.setXing p { c with inbox := c.inbox ++ [last.map (fun w => addTag w tSUB)], subIn := c.subIn + 1 }

/-- A frame of `bits` BCLK periods completed at the pins (R181, R186-R188): `line` holds the levels of RXD at its sampling edges from its FS edge on, up to and with
the first after the FS edge that ends it. Eight bad frames in a row before lock return to qualification (log entry 103). -/
def sapFrame (p bits period : Nat) (line : List Bool) (s : State) : State :=
  let ps := sapPs p s
  let f := (List.range (s.fld (F.SAP_CFG_SLOTS p))).map (fun k =>
    wordIn (widthBits (s.fld (F.SAP_CFG_WLEN p))) (sapSlotWord p k line s))
  if ps = 0 ∨ ps = 1 ∨ 9 ≤ ps then s
  else if sapCtl p s then
    (s.setXing p { s.xing p with inbox := [f], wrReal := (s.xing p).wrReal + 1 }).setPort p
      { s.port p with rxDone := (s.port p).rxDone + 1, rxPass := (s.port p).rxPass + 1 }
  else
    let good := sapGood p bits period s
    let x := s.port p
    let counts := !(ps == 2 || ps == 3 || x.requal)
    let x := { x with rxDone := x.rxDone + (if counts then 1 else 0) }
    let x := { x with frames := x.frames + 1, goodRun := if good then min 16 (x.goodRun + 1) else 0,
                      badRun := if good then 0 else x.badRun + 1 }
    let s := s.setPort p x
    if ps = 2 ∨ ps = 3 then
      if x.goodRun = 16 then sapQualified p s else sapSetPs p 3 s
    else if x.requal then
      if ps = 8 ∧ x.goodRun = 16 then sapQualified p s else s
    else if good then sapHand p f s
    else
      let s := sapBadFrame p s
      if x.badRun ≠ 8 then s
      else if ps = 4 then sapSetPs p 3 ((s.setPort p { s.port p with goodRun := 0, badRun := 0 }).report 0x4542 p 0)
      else sapLose p (s.report 0x4542 p 0)

/-- No FS edge for 2 frame periods (R189). -/
def sapClockLoss (p : Nat) (s : State) : State :=
  let ps := sapPs p s
  if sapCtl p s ∨ ps < 5 ∨ 7 < ps ∨ (s.port p).requal then s
  else sapLose p (((s.bump (F.SAP_CNT_ERR_CLK_LOSS p) (F.SAP_CNT_ERR_CL_SAT p)).raise (Pg.sap p) 1).report 0x2541 p 0)

/-- A frame with 0, and no tag, in the slots that are not enabled (R198). -/
def sapMasked (p : Nat) (f : List Word) (s : State) : List Word :=
  (List.range f.length).map (fun k => if (sapSlots p true s).contains k then f.getD k 0 else 0)

/-- A frame of zero words with T_FAD (R195). -/
def sapSendZero (p : Nat) (s : State) : State :=
  let x := s.port p
  let n := s.fld (F.SAP_CFG_SLOTS p)
  s.setPort p { x with pins := sapPins p (sapMasked p (List.replicate n (zeroTag tFAD)) s) s, txSent := x.txSent + 1, txHeld := x.txHeld + 1 }

/-- A frame goes out at the pins: live, held, weighted or zero (R195). -/
def sapSend (p : Nat) (live : Option (List Word)) (s : State) : State :=
  let x := s.port p
  let n := s.fld (F.SAP_CFG_SLOTS p)
  let x := { x with txSent := x.txSent + 1, txTaken := x.txTaken + (if live.isSome then 1 else 0),
                    txHeld := x.txHeld + (if live.isSome then 0 else 1) }
  let base := match live with
    | some f => f
    | none => x.sent.map (fun w => addTag w tSUB)
  let base := if x.tx.ph = 1 then x.sent.map (fun w => addTag w tSUB) else base
  let out := if x.tx.ph = 2 then List.replicate n (zeroTag tFAD) else base.map (sideOut x.tx)
  let sent := if x.tx.ph = 0 ∨ x.tx.ph = 3 then base else x.sent
  s.setPort p { x with tx := sideStep x.tx, sent := sent, pins := sapPins p (sapMasked p out s) s }

/-- A transmit frame as slot words: the enabled slots' values, 0 elsewhere. -/
def sapTxFrame (p : Nat) (vals : List Word) (s : State) : List Word :=
  let slots := sapSlots p true s
  (List.range (s.fld (F.SAP_CFG_SLOTS p))).map (fun k => match (slots.zip vals).find? (fun e => e.1 == k) with
    | some e => e.2
    | none => 0)

/-- The partner's FS calls for a transmit frame (R195). -/
def sapTxRequest (p : Nat) (s : State) : State :=
  let ps := sapPs p s
  if sapCtl p s ∨ ps < 2 ∨ ps = 9 then s
  else if ps < 5 ∨ ps = 10 then sapSendZero p s
  else
    let x := s.port p
    let c := s.xing (16 + p)
    if x.tx.ph = 1 ∨ x.tx.ph = 2 then sapSend p none s
    else match c.buf with
      | f :: t => sapSend p (some f) (s.setXing (16 + p) { c with buf := t })
      | [] => sapSend p none (sapEvent p true true (s.bump (F.SAP_CNT_TX_TX_UNDER p) (F.SAP_CNT_TX_TU_SAT p)))

/-- A fade-out has ended: silence until recentre (R194, R195). -/
def sapFadeEnd (p : Nat) (tx : Bool) (s : State) : State :=
  let x := s.port p
  let d := if tx then x.tx else x.rx
  if d.ph = 1 ∧ rampRests d.w then
    sapShow p (s.setPort p (if tx then { x with tx := { d with ph := 2 } } else { x with rx := { d with ph := 2 } }))
  else s

/-- A ramp-in has ended: the port runs, the episode is over (R194-R196). -/
def sapRampEnd (p : Nat) (tx : Bool) (s : State) : State :=
  let x := s.port p
  let d := if tx then x.tx else x.rx
  if d.ph = 3 ∧ rampRests d.w then
    let d := { d with ph := 0, logged := false }
    sapShow p (s.setPort p (if tx then { x with tx := d } else { x with rx := d }))
  else s

/-- A failed frame count check, or its converters' failed sample count: fade-out, no ramp-in (R197, R232). -/
def sapConserve (p : Nat) (log : Bool) (s : State) : State :=
  let s := s.when log (State.report 0x4544 p 4)
  let s := s.setPort p { s.port p with conserve := true }
  if sapPs p s < 5 then sapSetPs p 10 s else sapEvent p true false (sapEvent p false false s)

/-- A write of RESTART (R200). -/
def sapRestart (p : Nat) (s : State) : State :=
  let ps := sapPs p s
  if 7 ≤ ps ∧ ps ≤ 10 ∧ !s.isolated 2 p then sapStart p true s else s

/-- The value of a receive slot: a fade-out with no data left holds the last live value with T_SUB (R194). -/
def sapHeld (p k : Nat) (holds : Bool) (w : Word) (s : State) : Word × State :=
  let x := s.port p
  if holds then (addTag (SMap.get (fun _ => 0) x.held k) tSUB, s)
  else (w, s.setPort p { x with held := SMap.set (fun _ => 0) x.held k w })

/-- The receive side's values of the tick (R194, R200); while its converters lock they read the buffer and the port passes 0 (R228). -/
def sapRxTick (p : Nat) (s : State) : State :=
  let ps := sapPs p s
  let slots := sapSlots p false s
  if ps < 5 ∨ 9 ≤ ps then
    let s := s.when (ps == 4) (fun s => s.setXing p (xingAge (xingPull s.tick (s.xing p)).2.2))
    s.eachOf slots (fun k s => s.produce (0x100 + 32 * p + k) (zeroTag tFAD))
  else
    let x := s.xing p
    let dark := sapCtl p s && xingBoundary x.kind s.tick && x.buf.isEmpty
    let (x, s) := if dark then
        let n := s.fld (F.SAP_CFG_SLOTS p)
        let f := (List.range n).map (fun i => wordIn (widthBits (s.fld (F.SAP_CFG_WLEN p))) (Config.freeWord (s.free + i)))
        ({ x with buf := [f] }, s.skipFree n)
      else (x, s)
    let d := (s.port p).rx
    let (fs, dry, x) := if d.ph = 2 then ([], false, (xingRecentre x).2) else xingPull s.tick x
    let s := s.setXing p x
    -- an empty buffer is an event when it is first found empty
    let s := if dry && !(s.port p).dry then
        sapEvent p false true (s.bump (F.SAP_CNT_RX_RX_UNDER p) (F.SAP_CNT_RX_RU_SAT p)) else s
    let d := (s.port p).rx
    let s := s.setPort p { s.port p with dry := dry || ((s.port p).dry && fs.isEmpty) }
    let holds := d.ph == 1 && ((s.port p).dry || x.lstate == 3)
    let s := s.eachOf slots (fun k s =>
      let (w, s) := xingValue x k (0x100 + 32 * p + k) fs s
      let (w, s) := sapHeld p k holds w s
      s.produce (0x100 + 32 * p + k) (sideOut d w))
    let s := s.setPort p { s.port p with rx := sideStep d }
    s.setXing p (xingAge x)

/-- The transmit side's work of the tick: frames for the partner, or the frame that starts at the next boundary (R186,
R195). -/
def sapTxTick (p : Nat) (s : State) : State :=
  let ps := sapPs p s
  if ps = 10 then s.when (sapCtl p s) (sapSendZero p)
  else if ps < 4 ∨ ps = 9 then s
  else
    let ins := (sapSlots p true s).map (fun k => (k, 0x100 + 32 * p + k))
    let (fs, s) := xingMake s.tick ins (16 + p) s
    let fs := fs.map (fun f => sapTxFrame p f s)
    if sapCtl p s then s.eachOf fs (fun f s => sapSend p (some f) s)
    else s.eachOf fs (fun f s =>
      let x := s.xing (16 + p)
      if 128 ≤ x.buf.length then
        let s := (s.setXing (16 + p) { x with disc := x.disc + 1 }).bump (F.SAP_CNT_TX_TX_OVER p) (F.SAP_CNT_TX_TO_SAT p)
        sapEvent p true (decide (5 ≤ ps) && (s.port p).tx.ph != 2) s
      else s.setXing (16 + p) { x with buf := x.buf ++ [f] })

/-- Whether a side's crossing has recentred and its group is locked; one without slots has (R194, R231). -/
def sapReady (p : Nat) (tx : Bool) (s : State) : Bool :=
  let x := s.xing (if tx then 16 + p else p)
  (sapSlots p tx s).isEmpty || (x.lstate == 2 && decide (xingTarget x ≤ x.buf.length))

/-- A locked or recentred port ramps in (R187, R194, R195). -/
def sapReturn (p : Nat) (s : State) : State :=
  let x := s.port p
  let ps := sapPs p s
  if x.requal || x.conserve then s
  else if ps = 4 then
    let lock := fun (tx : Bool) => (sapSlots p tx s).isEmpty || (s.xing (if tx then 16 + p else p)).lstate == 2
    if lock false && lock true then
      let s := s.setPort p { x with rx := sideRamp (sapFade x.rx.fade) x.rx, tx := sideRamp (sapFadeN x.tx.fade p s) x.tx }
      sapShow p (sapSetPs p 6 s)
    else s
  else if ps ≠ 8 ∧ ps ≠ 7 then s
  else
    let trim := fun (k : Nat) (s : State) => s.setXing k (xingRecentre (s.xing k)).2
    let goRx := x.rx.ph == 2 && sapReady p false s
    let goTx := x.tx.ph == 2 && sapReady p true s
    let s := (s.when goRx (trim p)).when goTx (trim (16 + p))
    let s := s.setPort p { x with rx := if goRx then sideRamp (sapFade x.rx.fade) x.rx else x.rx,
                                  tx := if goTx then sideRamp (sapFadeN x.tx.fade p s) x.tx else x.tx }
    sapShow p s

/-- SAP_RATE, one result per 256 ticks: nominal, none, or measured (free; log entry 1). -/
def sapRate (p : Nat) (s : State) : State :=
  if s.tick % 256 ≠ 0 then s
  else
    let x := s.port p
    let v := if sapCtl p s then BitVec.ofNat 32 (sapHz p s * 32) else if x.frames = 0 then 0 else s.freeW &&& Word.mask 22 0
    let s := s.when (!sapCtl p s && x.frames != 0) (State.skipFree 1)
    (s.setPort p { x with frames := 0 }).post (Adr.SAP_RATE p) v

/-- At every frame start a controller port clears its divider's accumulator (R184): `m` is the tick that starts. -/
def sapDivider (p m : Nat) (s : State) : State :=
  s.when (sapCtl p s && decide (5 ≤ sapPs p s) && xingBoundary (tickKind (s.fld (F.SAP_CFG_PRATE p))) m)
    (fun s => { s with clk := { s.clk with fdivStart := SMap.set (fun _ => 0) s.clk.fdivStart p (5120 * m) } })

/-- The frame counts of both directions checked in every tick (R197). -/
def sapChecked (p : Nat) (s : State) : Bool :=
  let x := s.port p
  x.rxDone == x.rxPass + x.rxDisc && x.txSent == x.txTaken + x.txHeld

/-- In PRELOCK a port waits, its receive sources 0 with T_FAD (R192, R200). -/
def sapWait (p : Nat) (s : State) : State :=
  s.eachOf (sapSlots p false s) (fun k s => s.produce (0x100 + 32 * p + k) (zeroTag tFAD))

/-- A tick of a port that has started. -/
def sapRun (p : Nat) (s : State) : State :=
  let s := sapTxTick p (sapRxTick p s)
  let s := (s.setXing p (xingSettle (s.xing p))).setXing (16 + p) (xingSettle (s.xing (16 + p)))
  let s := sapRate p (sapReturn p s)
  let s := s.when (!sapChecked p s && !(s.port p).conserve) (sapConserve p true)
  let s := s.when (s.port p).drive (sapDriveFrom p (s.tick + 1))
  sapDivider p (s.tick + 1) s

/-- The tick of every port (R186, R192); in STANDBY every port is off. -/
def sapTick (s : State) : State :=
  s.each 16 (fun p s =>
    if s.fld (F.SAP_CFG_SLOTS p) = 0 then s
    else if !psAwake s then (if sapPs p s = 0 then s else sapStop p s)
    else if sapPs p s = 0 then (if s.on F.CLK_STATUS_PRELOCK then sapWait p s else sapStart p true s)
    else sapRun p s)

/-- A frame at the pins that nothing accounts for (R197). -/
def sapMiscount (p : Nat) (s : State) : State := s.setPort p { s.port p with rxDone := (s.port p).rxDone + 1 }

/-- The fields of SAP_CFG and the divider, whose press reframes the port (R191). -/
def sapReframes (p : Nat) (old s : State) : Bool :=
  old.word (Adr.SAP_CFG p) != s.word (Adr.SAP_CFG p) || old.word (Adr.CLK_FDIV p) != s.word (Adr.CLK_FDIV p)

/-- A pressed port configuration (R190, R191). -/
def sapPress (old s : State) : State :=
  s.each 16 (fun p s =>
    let on := s.fld (F.SAP_CFG_SLOTS p) ≠ 0
    let was := old.fld (F.SAP_CFG_SLOTS p) ≠ 0
    let ps := sapPs p old
    if !on then (if was then sapStop p s else s)
    else if !sapReframes p old s then
      let fresh := (sapSlots p false s).filter (fun k => !(sapSlots p false old).contains k)
      let x := s.xing p
      if xingUns x.kind = 0 then s
      else s.setXing p { x with uns := fresh.foldl (fun m k => SMap.set (fun _ => 0) m k (xingUns x.kind)) x.uns }
    else if s.on F.CLK_STATUS_PRELOCK || !psAwake s then sapStop p s
    else
      let stays := was && sapCtl p old && decide (5 ≤ ps ∧ ps ≤ 8) && s.fld (F.SAP_CFG_MODE p) == 0
      sapStart p (!stays) s)

/-- The state of a SAP page (R200). -/
def sapPageState (p : Nat) (s : State) : Nat :=
  let ps := sapPs p s
  if s.isolated 2 p then 5
  else if ps = 0 then (if s.fld (F.SAP_CFG_SLOTS p) ≠ 0 ∧ s.on F.CLK_STATUS_PRELOCK then 1 else 0)
  else if ps < 5 then 1 else if ps < 7 then 2 else if ps < 9 then 3 else 4

/-- SAP_SENSE_END. -/
def execSapSenseEnd (p : Fin 16) (edges : Bool) (s : State) : Host.Outcome State Fault Refusal := s.ticking (.next (sapSenseEnd p.val edges s))

/-- SAP_FRAME. `bits` periods of BCLK and `period` core cycles lie between its FS edges; `line` are the levels of RXD at the sampling edges, from the FS edge that starts the
frame to the first after the one that ends it. -/
def execSapFrame (p : Fin 16) (bits period : Nat) (line : List Bool) (s : State) : Host.Outcome State Fault Refusal :=
  s.ticking (
    .next (sapFrame p.val bits period line s))

/-- SAP_CLOCK_LOSS. -/
def execSapClockLoss (p : Fin 16) (s : State) : Host.Outcome State Fault Refusal := s.ticking (.next (sapClockLoss p.val s))

/-- SAP_TX_FRAME_REQUEST. -/
def execSapTxFrameRequest (p : Fin 16) (s : State) : Host.Outcome State Fault Refusal := s.ticking (.next (sapTxRequest p.val s))

/-- SAP_FADE_END. -/
def execSapFadeEnd (p : Fin 16) (tx : Bool) (s : State) : Host.Outcome State Fault Refusal := s.ticking (.next (sapFadeEnd p.val tx s))

/-- SAP_RAMP_END. -/
def execSapRampEnd (p : Fin 16) (tx : Bool) (s : State) : Host.Outcome State Fault Refusal := s.ticking (.next (sapRampEnd p.val tx s))

/-- SAP_RESTART. -/
def execSapRestart (p : Fin 16) (s : State) : Host.Outcome State Fault Refusal := s.heard (.next (sapRestart p.val s))

end Sys2Proof.Machine
end

