-- ==== Sys2Proof/Machine/Spd.lean ====
section
/-!
DEFINITION. PDM microphones, S/PDIF receivers and transmitters (R203-R221).
-/

namespace Sys2Proof.Machine

/-- Microphone `k`, and receiver `n`. -/
def State.mic (s : State) (k : Nat) : Mic := SMap.get (fun _ => {}) s.spd.mic k
def State.setMic (k : Nat) (x : Mic) (s : State) : State :=
  { s with spd := { s.spd with mic := SMap.set (fun _ => {}) s.spd.mic k x } }
def State.spdi (s : State) (n : Nat) : Spdi := SMap.get (fun _ => {}) s.spd.rx n
def State.setSpdi (n : Nat) (x : Spdi) (s : State) : State :=
  { s with spd := { s.spd with rx := SMap.set (fun _ => {}) s.spd.rx n x } }

/-- A bit of a field that holds one bit per unit. -/
def State.bit (s : State) (f : Fld) (k : Nat) : Bool := s.fld f / 2 ^ k % 2 == 1
def State.setBit (f : Fld) (k : Nat) (b : Bool) (s : State) : State :=
  s.setFld f (if b then s.fld f ||| 2 ^ k else s.fld f &&& (2 ^ f.width - 1 - 2 ^ k))

/-- Whether microphone `k` is enabled, and the clock of its line (R203). -/
def micOn (k : Nat) (s : State) : Bool := s.bit F.PDM_CFG_MIC_EN k
def micClk (k : Nat) (s : State) : Bool := s.bit F.PDM_CFG_CLKSEL (k / 2)

/-- Whether a PDM clock runs: an enabled microphone uses it, or one that ramps out (R204, R207). -/
def pdmClkOn (c : Bool) (s : State) : Bool := (List.range 16).any (fun k => (s.mic k).ph != 0 && (s.mic k).clk == c)

/-- A clock that does not run yet starts with its rising edge 0 at cycle 0 of this tick (R80, R207). -/
def pdmClkStart (c : Bool) (s : State) : State :=
  s.when (!pdmClkOn c s) (fun s =>
    { s with clk := { s.clk with fdivStart := SMap.set (fun _ => 0) s.clk.fdivStart (16 + c.toNat) (s.tick * 5120) } })

/-- The clocks that STANDBY stopped run again (R94). -/
def pdmWake (s : State) : State :=
  let go := fun (c : Bool) (s : State) => s.when (pdmClkOn c s) (fun s =>
    { s with clk := { s.clk with fdivStart := SMap.set (fun _ => 0) s.clk.fdivStart (16 + c.toNat) (s.tick * 5120) } })
  go true (go false s)

/-- The microphone's WAKE time is over: its decimator starts afresh and ramps in (R207). -/
def micRampIn (k : Nat) (s : State) : State :=
  audStart (32 + k) (s.setMic k { s.mic k with ph := 2, w := { pos := 0, len := 32, up := true } })

/-- The start of a microphone (R207). -/
def micStart (k : Nat) (s : State) : State :=
  let s := (pdmClkStart (micClk k s) s).setBit F.PDM_STAT_STUCK k false
  let w := s.fld F.PDM_CFG_WAKE
  let s := s.setMic k { ph := 1, due := s.tick + 192 * w, clk := micClk k s }
  if w = 0 then micRampIn k s else s

/-- An enabled microphone that is out as stuck stays out until its RESTART (R208). -/
def micStaysOut (k : Nat) (s : State) : State :=
  (pdmClkStart (micClk k s) s).setMic k { ph := 5, w := { pos := 0, len := 16, up := false }, clk := micClk k s }

/-- A pressed PDM configuration (R207, R208). -/
def micPress (old s : State) : State :=
  s.each 16 (fun k s =>
    let was := micOn k old
    if micOn k s then
      if was && micClk k old == micClk k s then s
      else if s.bit F.PDM_STAT_STUCK k then micStaysOut k s
      else micStart k s
    else if was then
      let x := s.mic k
      if x.ph = 2 ∨ x.ph = 3 then s.setMic k { x with ph := 4, w := rampGo false 32 x.w } else s.setMic k {}
    else s)

/-- A microphone whose line has given 4,096 identical bits is declared stuck (R208). -/
def micStuck (k : Nat) (s : State) : State :=
  let x := s.mic k
  if !micOn k s ∨ x.ph = 0 ∨ x.ph = 5 ∨ x.run < 4096 then s
  else
    let w : Ramp := if x.ph = 1 then { pos := 0, len := 16, up := false } else { pos := 16, len := 16, up := false }
    (((s.setMic k { x with ph := 5, w := w }).setBit F.PDM_STAT_STUCK k true).bump F.PDM_CNT_STUCK_CNT F.PDM_CNT_SK_SAT).raise
      Pg.pdm 0 |>.report 0x3581 k 0

/-- A RESTART bit: it starts a stuck microphone afresh, if it is enabled (R208). -/
def micRestart (k : Nat) (s : State) : State :=
  if !s.bit F.PDM_STAT_STUCK k then s
  else if micOn k s then micStart k s
  else s.setBit F.PDM_STAT_STUCK k false

/-- The PDM frame of microphone `k` out of the levels of the data lines, first edge in bit 0: microphone 2n is sampled at the rising edges
of its line's clock, microphone 2n + 1 at the falling edges. A line nothing drives reads 0 (R203, R204). -/
def pdmFrame (k : Nat) (lines : List (Nat × Nat)) : Nat :=
  let e := lines.getD (k / 2) (0, 0)
  (if k % 2 = 0 then e.1 else e.2) % 65536

/-- One bit more of a microphone (R208). -/
def micBit (x : Mic) (b : Bool) : Mic :=
  if x.run ≠ 0 ∧ b = x.bit then { x with run := min 4096 (x.run + 1) } else { x with bit := b, run := 1 }

/-- The frame of the tick that ends is kept (R206, R208). -/
def micTake (k : Nat) (lines : List (Nat × Nat)) (s : State) : State :=
  let f := pdmFrame k lines
  let x := (List.range 16).foldl (fun x i => micBit x (f.testBit i)) (s.mic k)
  s.setMic k { x with frame := f, older := x.frame }

/-- The merge-rate samples of a PDM frame: its decimator's first stage, 2:1 (R129; log entry 3). -/
def pdmRate (frame older : Nat) : List Int :=
  (List.range 8).map (fun (i : Nat) => Config.real "pdmRate" [(i : Int), (frame : Int), (older : Int)])

/-- The value of a running microphone: the frame of the tick before the one that ends becomes the value of the next (R46, R206). -/
def micValue (k tag wt : Nat) (s : State) : State :=
  audValue (32 + k) tag wt (audPush (32 + k) (pdmRate (s.mic k).frame (s.mic k).older) s)

/-- The values of a microphone in a tick (R206-R208). -/
def micRun (k : Nat) (s : State) : State :=
  let x := s.mic k
  let d := 32 + k
  let w' := rampStep x.w
  if x.ph = 1 then audFixed d (zeroTag tFAD) s
  else if x.ph = 2 then
    (micValue k tFAD (rampWeight w') s).setMic k (if rampRests w' then { x with ph := 3, w := rampAt1 } else { x with w := w' })
  else if x.ph = 3 then micValue k 0 (2 ^ 27) s
  else if x.ph = 4 then
    (micValue k tFAD (rampWeight w') s).setMic k (if rampRests w' then {} else { x with w := w' })
  else if rampRests x.w then audFixed d (zeroTag tSUB) s
  else (audFixed d (addTag (weigh (rampWeight w') (s.aud d).last) (tSUB ||| tFAD)) s).setMic k { x with w := w' }

/-- The tick of every microphone; `lines` are the levels of PDM_D0 to PDM_D7 at the rising and at the falling edges of the tick. -/
def micTick (lines : List (Nat × Nat)) (s : State) : State :=
  s.each 16 (fun k s =>
    let x := s.mic k
    let s := s.setBit F.PDM_STAT_LIVE k (x.ph == 2 || x.ph == 3 || x.ph == 4)
    if x.ph = 0 then s
    else
      let s := micRun k s
      s.when ((s.mic k).ph != 0) (micTake k lines))

def spdiPs (n : Nat) (s : State) : Nat := s.fld (F.SPDI_STAT_PSTATE n)
def spdiSetPs (n v : Nat) (s : State) : State := s.setFld (F.SPDI_STAT_PSTATE n) v

/-- Fade length of a receiver in values, and its length in frames at the classified rate (R194, R210). -/
def spdiFade (n : Nat) (s : State) : Nat := s.fld (F.SPDI_CFG_FADE n)
def spdiFadeN (fade n : Nat) (s : State) : Nat :=
  if fade = 0 then 0 else max 1 (8 * fade * rateHz (s.fld (F.SPDI_STAT_RATE n)) / 192000)

/-- The receiver searches (R210). -/
def spdiSearch (n : Nat) (s : State) : State :=
  let x := s.spdi n
  let s := s.setSpdi n { block := x.block, frames := x.frames, prevA := x.prevA, prevB := x.prevB }
  achShow (32 + n) (((spdiSetPs n 1 s).setFld (F.SPDI_STAT_RATE n) 15).setXing (32 + n) {})

/-- The receiver is off: EN = 0, or STANDBY (R94, R210). -/
def spdiOff (n : Nat) (s : State) : State :=
  (((spdiSetPs n 0 (s.setSpdi n {})).setFld (F.SPDI_STAT_RATE n) 15).setFld (F.SPDI_STAT_NA n) 0).setXing (32 + n) {}

/-- The rule that starts a receiver and releases its mute (R216). -/
def spdiMayStart (n : Nat) (s : State) : Bool :=
  let x := s.spdi n
  decide (1024 * s.fld (F.SPDI_CFG_NA_REL n) ≤ x.clean) && decide (1 ≤ x.blocks)

/-- The ramp-in of a receiver, on the frames to the converter (R210; log entry 104). -/
def spdiRamp (n fade : Nat) (s : State) : State :=
  let x := s.spdi n
  let d := sideRamp (spdiFadeN fade n s) x.side
  let s := s.setSpdi n { x with side := d }
  if d.ph = 0 then (spdiSetPs n 4 s).raise (Pg.spdi n) 3 else spdiSetPs n 5 s

/-- The transitions that a lock, the start rule and the end of a fade or ramp bring (R210, R216). -/
def spdiAdvance (n : Nat) (s : State) : State :=
  let ps := spdiPs n s
  let x := s.spdi n
  let c := s.xing (32 + n)
  let lock := c.lstate == 2
  let may := spdiMayStart n s
  let fade := spdiFade n s
  let s := s.when (may && ps != 1) (State.setFld (F.SPDI_STAT_NA n) 0)
  if ps = 2 then (if lock then (if may then spdiRamp n fade s else spdiSetPs n 3 s) else s)
  else if ps = 3 then (if may then spdiRamp n fade s else s)
  else if ps = 6 then (if may then (if lock then spdiRamp n fade s else spdiSetPs n 2 s) else s)
  else if ps = 5 then
    if x.side.ph = 0 ∨ rampRests x.side.w then
      (spdiSetPs n 4 (s.setSpdi n { x with side := { x.side with ph := 0 } })).raise (Pg.spdi n) 3
    else s
  else if ps = 7 then
    if !rampRests x.side.w ∧ x.side.ph = 1 then s
    else if x.lost then spdiSearch n s
    else (spdiSetPs n 8 s).setSpdi n { x with side := { x.side with ph := 2 } }
  else if ps = 8 then
    if x.lost then spdiSearch n s
    else if lock && may && decide (xingTarget c ≤ c.buf.length) then
      spdiRamp n x.side.fade (s.setXing (32 + n) (xingRecentre c).2)
    else s
  else s

/-- The fade-out of a receiver in RUN, or in a ramp-in, whose frames already carry its weight: over as many values as the ramp had reached
(R194, R210; log entry 104). -/
def spdiFadeOut (n : Nat) (s : State) : Side :=
  let d := (s.spdi n).side
  if d.ph = 3 then
    let p := ceilDiv (d.w.pos * 192000) (rateHz (s.fld (F.SPDI_STAT_RATE n)))
    { d with fade := spdiFade n s, ph := 1, w := { pos := p, len := p, up := false } }
  else sideEvent (spdiFade n s) (8 * spdiFade n s) d

/-- A receive event in RUN or RAMP (R210). -/
def spdiEvent (n : Nat) (lost : Bool) (s : State) : State :=
  let ps := spdiPs n s
  let x := s.spdi n
  if ps = 4 ∨ ps = 5 then spdiSetPs n 7 (s.setSpdi n { x with side := spdiFadeOut n s, lost := x.lost || lost })
  else if ps = 7 ∨ ps = 8 then s.setSpdi n { x with lost := x.lost || lost }
  else s

/-- Non-audio content detected (R214, R215). -/
def spdiNonAudio (n : Nat) (s : State) : State :=
  let s := s.setSpdi n { s.spdi n with clean := 0, blocks := 0 }
  let s := if s.on (F.SPDI_STAT_NA n) then s
    else ((s.setFld (F.SPDI_STAT_NA n) 1).bump (F.SPDI_CNT2_NA_CNT n) (F.SPDI_CNT2_NA_SAT n)).raise (Pg.spdi n) 0
  if spdiPs n s = 4 ∨ spdiPs n s = 5 then spdiSetPs n 6 s else s

/-- Bits, first bit lowest, as 32-bit words (R212). -/
def bitWords (bits : List Nat) : List Word :=
  (List.range (ceilDiv bits.length 32)).map (fun i =>
    BitVec.ofNat 32 (((bits.drop (32 * i)).take 32).foldr (fun b a => b + 2 * a) 0))

/-- The end of a block (R212, R216). -/
def spdiBlock (n : Nat) (s : State) : State :=
  let x := s.spdi n
  let cs := bitWords x.csA ++ bitWords x.csB
  let chg := !x.block.isEmpty && cs != x.block
  let na := x.csA.getD 1 0 + x.csB.getD 1 0 != 0
  let s := s.setSpdi n { x with block := cs, synced := false, frame := 0, csA := [], csB := [], uA := [], uB := [],
                                blocks := if na then 0 else x.blocks + 1 }
  let s := s.post (Adr.SPDI_BLK n) (BitVec.ofNat 32 ((if chg then 2 else 0) + (if na then 1 else 0)))
  let s := ((s.setOn (F.SPDI_STAT_PRO n) (x.csA.getD 0 0 != 0)).setOn (F.SPDI_STAT_NA_BIT n) na).when chg (State.raise (Pg.spdi n) 2)
  if !s.on (F.SPDI_UCFG_UQ_EN n) then s
  else
    let (s, ok) := qWriteSig (s.fld (F.SPDI_UCFG_UQID n)) ⟨1, 3, n⟩ (bitWords x.uA ++ bitWords x.uB) 48 s
    if ok then s else s.bump (F.SPDI_CNT2_U_OVR n) (F.SPDI_CNT2_UO_SAT n)

/-- The fields of a subframe, whose time slots 4 to 31 are its bits 0 to 27: the audio word, and the validity, user and channel-status
bits (R209). -/
def subAudio (f : BitVec 28) : Nat := f.toNat % 2 ^ 24
def subV (f : BitVec 28) : Bool := f.getLsbD 24
def subU (f : BitVec 28) : Bool := f.getLsbD 25
def subC (f : BitVec 28) : Bool := f.getLsbD 26

/-- Whether a subframe fails its parity: its time slots 4 to 31 hold an odd number of ones (R211). -/
def subParFails (f : BitVec 28) : Bool := (List.range 28).foldl (fun p i => xor p (f.getLsbD i)) false

/-- One subframe as the converter takes it (R209, R211). -/
def subframe (f : BitVec 28) (prev : Word) : Word :=
  if subParFails f then addTag (prev &&& 0xFFFFFFF0) tSUB else BitVec.ofNat 32 (subAudio f * 256)

/-- How far a frame of `period` core cycles is from the frame rate of code `c`, in Hz times `period`. -/
def rateOff (c period : Nat) : Nat := ((983040000 : Int) - (rateHz c * period : Nat)).natAbs

/-- The rate code nearest to a frame's period, and whether a period lies within 1,000 ppm of a code's rate (R209). -/
def rateNearest (period : Nat) : Nat := (List.range 7).foldl (fun b c => if rateOff c period < rateOff b period then c else b) 0
def rateWithin (c period : Nat) : Bool := decide (1000 * rateOff c period ≤ rateHz c * period)

/-- What a frame adds to the block under way, once its start was received (R212). -/
def spdiBits (f : SpdifIn) (x : Spdi) : Spdi :=
  let x := if f.first then { x with synced := true, frame := 0, csA := [], csB := [], uA := [], uB := [] } else x
  if !x.synced then x
  else { x with frame := x.frame + 1, csA := x.csA ++ [(subC f.a).toNat], csB := x.csB ++ [(subC f.b).toNat],
                uA := x.uA ++ [(subU f.a).toNat], uB := x.uB ++ [(subU f.b).toNat] }

/-- The words to the converter (R210, R213): live in RUN and while a fade has data, weighted in the ramp-in, else 0 with T_FAD. -/
def spdiWords (n : Nat) (wa wb : Word) (s : State) : List Word × State :=
  let ps := spdiPs n s
  let x := s.spdi n
  if s.on (F.SPDI_STAT_NA n) then ([zeroTag tFAD, zeroTag tFAD], s)
  else if ps = 5 then
    let w := rampStep x.side.w
    ([addTag (weigh (rampWeight w) wa) tFAD, addTag (weigh (rampWeight w) wb) tFAD], s.setSpdi n { x with side := { x.side with w := w } })
  else if ps = 4 ∨ ps = 7 ∨ ps = 8 then ([wa, wb], s)
  else ([zeroTag tFAD, zeroTag tFAD], s)

/-- A frame passes to the crossing, or is discarded at a full buffer or after a loss (R197, R210). -/
def spdiHand (n : Nat) (ws : List Word) (s : State) : State :=
  let x := { s.spdi n with rxDone := (s.spdi n).rxDone + 1 }
  let (ok, c) := xingGive ws (s.xing (32 + n))
  if x.lost then s.setSpdi n { x with rxDisc := x.rxDisc + 1 }
  else if ok then (s.setXing (32 + n) c).setSpdi n { x with rxPass := x.rxPass + 1 }
  else spdiEvent n false ((s.setXing (32 + n) c).setSpdi n { x with rxDisc := x.rxDisc + 1 })

/-- The classified rate with 16 good frames: the group starts in ACQUIRE, the start count begins (R210, R228). -/
def spdiQualified (n code : Nat) (s : State) : State :=
  let c := xingStart 5 (rateHz code * 2 ^ 22 / 192000) (2 ^ 22) [0, 1]
  achShow (32 + n) (spdiSetPs n 2 ((s.setXing (32 + n) c).setSpdi n { s.spdi n with clean := 0, blocks := 0 }))

/-- A frame taken by a receiver (R209-R216). -/
def spdiFrame (n : Nat) (f : SpdifIn) (s : State) : State :=
  let ps := spdiPs n s
  if ps = 0 ∨ ps = 9 then s
  else
    let x := s.spdi n
    let near := rateNearest f.period
    let code := if ps = 1 then near else s.fld (F.SPDI_STAT_RATE n)
    let same := ps != 1 || s.fld (F.SPDI_STAT_RATE n) == near
    let on := rateWithin code f.period
    let good := f.preambles && on
    let run := if !good then 0 else if !same then 1 else min 16 (x.goodRun + 1)
    let s := s.when (ps == 1 && good) (State.setFld (F.SPDI_STAT_RATE n) near)
    let wa := subframe f.a x.prevA
    let wb := subframe f.b x.prevB
    let pair := subAudio f.a / 256 == 0xF872 && subAudio f.b / 256 == 0x4E1F
    let x := spdiBits f { x with goodRun := run, offRun := if on then 0 else min 16 (x.offRun + 1),
                                 frames := x.frames + 1, clean := x.clean + 1, prevA := wa, prevB := wb }
    let bit1 := x.synced && x.frame == 2 && (subC f.a || subC f.b)
    let s := s.setSpdi n x
    let s := s.bumpBy ((subParFails f.a).toNat + (subParFails f.b).toNat) (F.SPDI_CNT1_PAR_ERR n) (F.SPDI_CNT1_PE_SAT n)
    let s := s.bumpBy ((subV f.a).toNat + (subV f.b).toNat) (F.SPDI_CNT1_VALID_CNT n) (F.SPDI_CNT1_V_SAT n)
    let s := s.when (pair || bit1) (spdiNonAudio n)
    let s := s.when (x.frame == 192) (spdiBlock n)
    if ps = 1 then s.when (run == 16) (spdiQualified n near)
    else
      let (ws, s) := spdiWords n wa wb s
      spdiAdvance n (spdiHand n ws s)

/-- Clock loss, or 16 frames off the classified rate (R210). -/
def spdiLoss (n : Nat) (off : Bool) (s : State) : State :=
  let ps := spdiPs n s
  let x := s.spdi n
  if ps < 2 ∨ ps = 9 ∨ x.lost ∨ (off ∧ x.offRun < 16) then s
  else
    let s := ((s.bump (F.SPDI_CNT2_LOSS_CNT n) (F.SPDI_CNT2_LS_SAT n)).raise (Pg.spdi n) 1).report 0x2582 n 0
    if ps = 2 ∨ ps = 3 ∨ ps = 6 then spdiSearch n s else spdiEvent n true s

/-- A write of RESTART (R210, R221). -/
def spdiRestart (n : Nat) (s : State) : State :=
  let ps := spdiPs n s
  if 7 ≤ ps ∧ ps ≤ 9 then spdiSearch n s else s

/-- A failed frame count check, or its converters' failed sample count (R210, R232). -/
def spdiConserve (n : Nat) (log : Bool) (s : State) : State :=
  if spdiPs n s = 0 then s else (spdiSetPs n 9 s).when log (State.report 0x4583 n 4)

/-- A frame at the pin that nothing accounts for (R197, R210). -/
def spdiMiscount (n : Nat) (s : State) : State := s.setSpdi n { s.spdi n with rxDone := (s.spdi n).rxDone + 1 }

/-- A pressed EN (R210); in STANDBY the receiver stays off. -/
def spdiPress (old s : State) : State :=
  s.each 4 (fun n s =>
    let on := s.on (F.SPDI_CFG_EN n)
    if on = old.on (F.SPDI_CFG_EN n) then s
    else if !on then spdiOff n s
    else s.when (psAwake s) (spdiSearch n))

/-- SPDI_RATE, one result per 256 ticks: none, or measured (free; log entry 1). -/
def spdiRate (n : Nat) (s : State) : State :=
  if s.tick % 256 ≠ 0 then s
  else
    let x := s.spdi n
    let v := if x.frames = 0 then (0 : Word) else s.freeW &&& Word.mask 22 0
    ((s.when (x.frames != 0) (State.skipFree 1)).setSpdi n { x with frames := 0 }).post (Adr.SPDI_RATE n) v

/-- A subframe's value: a fade-out with no data left holds the last live value with T_SUB (R194). -/
def spdiHeld (n k : Nat) (holds : Bool) (w : Word) (s : State) : Word × State :=
  let x := s.spdi n
  if holds then (addTag (SMap.get (fun _ => 0) x.held k) tSUB, s)
  else (w, s.setSpdi n { x with held := SMap.set (fun _ => 0) x.held k w })

/-- The frames a receiver's converter consumes in a tick, and whether its buffer ran empty; in SILENT it recentres (R210, R231). -/
def spdiPull (n : Nat) (s : State) : List (List Word) × Bool × Xing :=
  let c := s.xing (32 + n)
  let ps := spdiPs n s
  if ps = 1 ∨ ps = 9 then ([], false, c) else if ps = 8 then ([], false, (xingRecentre c).2) else xingPull s.tick c

/-- The values of a receiver in a tick (R194, R210): in a fade-out the weight acts here. -/
def spdiValues (n : Nat) (fs : List (List Word)) (c : Xing) (s : State) : State :=
  let ps := spdiPs n s
  let x := s.spdi n
  let live := ps == 4 || ps == 5 || ps == 7
  let d := x.side
  let s := s.each 2 (fun k s =>
    let id := 0x080 + 2 * n + k
    if live then
      let (w, s) := xingValue c k id fs s
      let (w, s) := spdiHeld n k (ps == 7 && (x.dry || c.lstate == 3)) w s
      s.produce id (if ps = 7 then sideOut d w else w)
    else s.produce id (zeroTag tFAD))
  s.when (ps == 7) (fun s => s.setSpdi n { s.spdi n with side := sideStep d })

/-- A tick of a receiver that is on (R210, R221). -/
def spdiRun (n : Nat) (s : State) : State :=
  let (fs, dry, c) := spdiPull n s
  let s := s.setXing (32 + n) c
  -- an empty buffer is an event when it is first found empty
  let s := s.when (dry && !(s.spdi n).dry) (spdiEvent n false)
  let s := s.setSpdi n { s.spdi n with dry := dry || ((s.spdi n).dry && fs.isEmpty) }
  let s := spdiValues n fs c s
  let s := s.setXing (32 + n) (xingSettle (xingAge (s.xing (32 + n))))
  let s := spdiRate n (spdiAdvance n s)
  let x := s.spdi n
  s.when (x.rxDone != x.rxPass + x.rxDisc && spdiPs n s != 9) (spdiConserve n true)

/-- The receivers' tick (R94, R210): all are off in STANDBY, and search as it is left. -/
def spdiTick (s : State) : State :=
  s.each 4 (fun n s =>
    if !s.on (F.SPDI_CFG_EN n) then s
    else if !psAwake s then (if spdiPs n s = 0 then s else spdiOff n s)
    else if spdiPs n s = 0 then spdiSearch n s
    else spdiRun n s)

/-- Whether transmitter `n` is on. -/
def spdoOn (n : Nat) (s : State) : Bool := s.bit F.SPDO_CFG_EN n

/-- A subframe as sent: time slots 4 to 31 in bits 4 to 31 (R218). -/
def spdoSub (tagOut : Bool) (cs : Bool) (w : Word) : Word :=
  let audio := if tagOut then
      (wordOut 20 false w).bits 31 12 * 16 + stag w
    else (wordOut 24 false w).bits 31 8
  let v := audio * 16 + (if cs then 2 ^ 30 else 0)
  let ones := (List.range 27).foldl (fun n i => n + v / 2 ^ (i + 4) % 2) 0
  BitVec.ofNat 32 (v + (if ones % 2 = 1 then 2 ^ 31 else 0))

/-- The channel-status bit of a frame of the block. -/
def spdoCs (n frame : Nat) (s : State) : Bool := s.bit (F.SPDO_CS_CS n (frame / 32)) (frame % 32)

/-- A transmitter's crossing at its start (R217, R223). -/
def spdoXing (s : State) : Xing :=
  let code := s.fld F.SPDO_CFG_TXRATE
  let d := (s.word (Adr.CLK_FDIV 18)).toNat
  if tickKind code = 6 then xingStart 6 2621440 (max 1 d) [0, 1] else xingStart (tickKind code) 1 1 [0, 1]

/-- The words a transmitter's pin shows; 0 for one that is off, whose pin is low (R218, R221). -/
def spdoOut (n : Nat) (ws : List Word) (s : State) : State :=
  let pad := s.spd.txOut ++ List.replicate (8 - s.spd.txOut.length) 0
  { s with spd := { s.spd with txOut := pad.take (2 * n) ++ ws ++ pad.drop (2 * n + 2) } }

/-- A pressed transmitter configuration (R217, R219). -/
def spdoPress (old s : State) : State :=
  let reclock := old.fld F.SPDO_CFG_TXRATE ≠ s.fld F.SPDO_CFG_TXRATE ∨ old.word (Adr.CLK_FDIV 18) ≠ s.word (Adr.CLK_FDIV 18)
  let first := old.fld F.SPDO_CFG_EN = 0 ∧ s.fld F.SPDO_CFG_EN ≠ 0
  let s := if reclock then { s with spd := { s.spd with txStart := s.tick + 16, txFrame := 0 } }
    else if first then { s with spd := { s.spd with txStart := s.tick, txFrame := 0 } } else s
  s.each 4 (fun n s =>
    if !spdoOn n s then spdoOut n [0, 0] (s.setXing (36 + n) {})
    else if reclock || !spdoOn n old then
      let run := (List.range 4).find? (fun m => spdoOn m old && spdoOn m s && !reclock)
      let ph := match run with
        | some m => (s.xing (36 + m)).phase
        | none => 0
      s.setXing (36 + n) { spdoXing s with phase := ph }
    else s)

/-- A frame of transmitter `n`: audio, or isolated, with subframes 0 and validity 1 (R218, R536). -/
def spdoFrame (n : Nat) (f : List Word) (s : State) : List Word :=
  if s.isolated 2 (16 + n) then [0x90000000, 0x90000000]
  else f.map (spdoSub (s.bit F.SPDO_CFG_TAG_OUT n) (spdoCs n (s.spd.txFrame % 192) s))

/-- The tick of transmitter `n`, and whether a frame starts by the next boundary; it sends 0 in the gap of a restart (R218, R219). -/
def spdoRun (n : Nat) (s : State) : Bool × State :=
  if s.tick < s.spd.txStart then (false, spdoOut n [0, 0] s)
  else
    let (fs, s) := xingMake s.tick [(0, 0x040 + 2 * n), (1, 0x041 + 2 * n)] (36 + n) s
    match fs.getLast? with
    | some f => (true, spdoOut n (spdoFrame n f s) s)
    | none => (false, s)

/-- The transmitters' tick (R218, R219): all are stopped in STANDBY (R94). -/
def spdoTick (s : State) : State :=
  if !psAwake s then { s with spd := { s.spd with txOut := [] } }
  else
    let (sent, s) := (List.range 4).foldl (fun (acc : Bool × State) n =>
      if !spdoOn n acc.2 then acc
      else
        let (one, s) := spdoRun n acc.2
        (acc.1 || one, s)) (false, s)
    { s with spd := { s.spd with txFrame := (s.spd.txFrame + sent.toNat) % 192 } }

/-- The states of the PDM, SPDI and SPDO pages (R208, R210). -/
def pdmPageState (s : State) : Nat :=
  if s.fld F.PDM_CFG_MIC_EN = 0 ∨ !psAwake s then 0
  else if s.fld F.PDM_STAT_STUCK ≠ 0 then 3
  else if (List.range 16).any (fun k => (s.mic k).ph == 1) then 1 else 2
def spdiPageState (n : Nat) (s : State) : Nat :=
  let ps := spdiPs n s
  if ps = 0 then 0 else if ps ≤ 3 then 1 else if ps ≤ 5 then 2 else if ps = 9 then 4 else 3
def spdoPageState (s : State) : Nat :=
  if (List.range 4).any (fun n => s.isolated 2 (16 + n)) then 5 else if s.fld F.SPDO_CFG_EN = 0 ∨ !psAwake s then 0 else 2

/-- PDM_WAKE_END. -/
def execPdmWakeEnd (k : Fin 16) (s : State) : Host.Outcome State Fault Refusal :=
  s.ticking (
    .next (if (s.mic k.val).ph = 1 ∧ (s.mic k.val).due ≤ s.tick then micRampIn k.val s else s))

/-- PDM_STUCK. -/
def execPdmStuck (k : Fin 16) (s : State) : Host.Outcome State Fault Refusal := s.ticking (.next (micStuck k.val s))

/-- PDM_RESTART. -/
def execPdmRestart (k : Fin 16) (s : State) : Host.Outcome State Fault Refusal := s.heard (.next (micRestart k.val s))

/-- SPDIF_FRAME. -/
def execSpdifFrame (n : Fin 4) (f : SpdifIn) (s : State) : Host.Outcome State Fault Refusal := s.ticking (.next (spdiFrame n.val f s))

/-- SPDIF_CLOCK_LOSS. `off` for 16 frames off the classified rate. -/
def execSpdifClockLoss (n : Fin 4) (off : Bool) (s : State) : Host.Outcome State Fault Refusal := s.ticking (.next (spdiLoss n.val off s))

/-- SPDIF_RESTART. -/
def execSpdifRestart (n : Fin 4) (s : State) : Host.Outcome State Fault Refusal := s.heard (.next (spdiRestart n.val s))

end Sys2Proof.Machine
end

