-- ==== Sys2Proof/Machine/Svc.lean ====
section
/-!
DEFINITION. Supervisory converters: slots, entries, references, check channel, guard takeover, urgent requests and the
readback rotation (R158-R179).
-/

namespace Sys2Proof.Machine

/-- The entry slot `20 × frame tick + slot − 1` (R159, R174). -/
def svcPos (tick slot : Nat) : Nat := 20 * (tick % 4) + slot - 1

/-- Entries in use of a converter. -/
def svcLen (conv : Nat) (s : State) : Nat := if conv = 0 then s.fld F.SVC_SEQ_LEN_SVA_LEN else s.fld F.SVC_SEQ_LEN_SVB_LEN

/-- Whether an entry's instant falls in frame `f` (R159). -/
def svcDue (conv e f : Nat) (s : State) : Bool := f % 2 ^ s.fld (F.SV_ENT_DIV conv e) == 0

/-- The GUARD entries in use of a converter, in rising order. -/
def svcGuards (conv : Nat) (s : State) : List Nat :=
  (List.range (svcLen conv s)).filter (fun e => s.on (F.SV_ENT_GUARD conv e))

/-- Guard slots on the other converter for the GUARD entries of `conv`, as pairs of entry and slot; none where an entry
finds no slot (R174). -/
def svcAssign (conv : Nat) (s : State) : Option (List (Nat × Nat)) :=
  (svcGuards conv s).foldl (fun acc e => match acc with
    | none => none
    | some l =>
      match (List.range 80).find? (fun p => decide (e ≤ p ∧ svcLen (1 - conv) s ≤ p) && !l.any (fun x => x.2 == p)) with
      | none => none
      | some p => some (l ++ [(e, p)])) (some [])

/-- Rotation slots of a converter per frame, with both running and with the other out (R168). -/
def svcRot (conv : Nat) (s : State) : Int := 80 - (svcLen conv s : Int) - 4
def svcRotMin (conv : Nat) (s : State) : Int := svcRot conv s - (svcGuards (1 - conv) s).length

/-- GSLOT of every entry and SVC_SLOTS written for the configuration that has become live (R168, R174, R176). -/
def svcShowSlots (s : State) : State :=
  let s := s.each 2 (fun c s =>
    let l := (svcAssign c s).getD []
    s.each 64 (fun e s => s.setFld (F.SV_ENT_GSLOT c e) (((l.find? (fun x => x.1 == e)).map (·.2)).getD 0x7F)))
  (((s.setInt F.SVC_SLOTS_ROT_A (svcRot 0 s)).setInt F.SVC_SLOTS_ROT_MIN_A (svcRotMin 0 s)).setInt F.SVC_SLOTS_ROT_B
    (svcRot 1 s)).setInt F.SVC_SLOTS_ROT_MIN_B (svcRotMin 1 s)

/-- Whether a converter is out: taken out, its restore test included (R173, R175). -/
def svcOut (conv : Nat) (s : State) : Bool := if conv = 0 then s.svc.outA else s.svc.outB

/-- Whether a restore test of a converter (0, 1) or of the comparison (2) runs. -/
def svcTesting (k : Nat) (s : State) : Bool := (s.testOf 0x14 k).isSome

/-- Whether the core die knows a converter to be out: the burst that declared it has been taken (R173, R174). -/
def svcSeen (conv : Nat) (s : State) : Bool := if conv = 0 then s.svc.seenA else s.svc.seenB

/-- SVC_STAT follows what the core die knows of the converters (R173, R179). -/
def svcShow (s : State) : State :=
  let st := fun c => if svcTesting c s && svcSeen c s then 3 else if svcSeen c s then 2 else if svcLen c s = 0 then 0 else 1
  let g := if svcSeen 0 s && svcSeen 1 s then 3 else if svcSeen 0 s then 1 else if svcSeen 1 s then 2 else 0
  (((s.setFld F.SVC_STAT_SVA_STATE (st 0)).setFld F.SVC_STAT_SVB_STATE (st 1)).setFld F.SVC_STAT_GUARD g).setOn F.SVC_STAT_CHECK_SUSP
    s.svc.seenC

/-- The core die takes the declaration of the converter die (R173, R174). -/
def svcNoted (s : State) : State :=
  svcShow { s with svc := { s.svc with seenA := s.svc.outA, seenB := s.svc.outB, seenC := s.svc.susp } }

/-- Formats of R162: signed channels, and channels behind buffers fed from VAH. -/
def svcSigned (ch : Nat) : Bool := decide (0x10 ≤ ch ∧ ch ≤ 0x43)
def svcVah (ch : Nat) : Bool := decide (ch < 0x3C) || decide (0x4F ≤ ch ∧ ch ≤ 0x56)

/-- The channel of a rotation index (R162). -/
def svcRotCh (i : Nat) : Nat :=
  if i < 36 then (if i < 28 then 0x18 + i else if i < 34 then 0x46 + (i - 28) else 0x4C + (i - 34))
  else if i < 44 then 0x34 + (i - 36) else if i < 52 then 0x3C + (i - 44) else if i = 52 then 0x44
  else if i < 61 then 0x4F + (i - 53) else if i = 61 then 0x45 else if i = 62 then 0x4E else 0x57

/-- A conversion saturated to its code range; CLP beyond the range by more than 0.5 % of full scale (R165). -/
def svcCode (ch : Nat) (raw : Int) : Int × Bool :=
  if svcSigned ch then (clampInt (-32768) 32767 raw, decide (raw * 1000 < -32768 * 1005) || decide (32768 * 1005 < raw * 1000))
  else (clampInt 0 65535 raw, decide (raw * 1000 < -65536 * 5) || decide (65536 * 1005 < raw * 1000))

/-- The S28T4 word of a result, whatever ALIGN is (R166). -/
def svcWord (ch : Nat) (v : SvcVal) : Word :=
  let t := (if v.sub then tSUB else 0) + (if v.uns then tUNS else 0) + (if v.clp then tCLP else 0)
  BitVec.ofNat 32 ((if svcSigned ch then unsigned 32 (v.code * 65536) else unsigned 32 (v.code * 32768)) + t)

/-- Bits 22:0 of a result register (R165). -/
def svcBits (left : Bool) (v : SvcVal) : Word :=
  let value := if left then unsigned 16 v.code * 16 else unsigned 20 v.code
  BitVec.ofNat 32 ((if v.sub then 2 ^ 22 else 0) + (if v.uns then 2 ^ 21 else 0) + (if v.clp then 2 ^ 20 else 0) + value)

/-- Whether a conversion by `conv` is replaced by a held value, or carries UNS (R164). -/
def svcHeldBy (ch ref : Nat) (s : State) : Bool :=
  (decide (ref = 1) && s.svc.extLost && !s.on F.SVC_STAT_EXT_OK)
    || ((svcVah ch || decide (ref = 2)) && !s.on F.PWR_STATUS_VAH_OK)
def svcUnsettled (conv ref : Nat) (s : State) : Bool :=
  if ref = 1 then !s.on F.SVC_STAT_EXT_OK && !s.svc.extLost
  else if ref = 2 then !s.on F.SVC_STAT_SUP_OK
  else if conv = 0 then !s.on F.SVC_STAT_INT_A_OK else !s.on F.SVC_STAT_INT_B_OK

/-- A value remembered under its key: the last two results, and the last good one (R164, R173). -/
def svcKeep (key : Nat) (v : SvcVal) (s : State) : State :=
  let dv : Nat → SvcVal := fun _ => {}
  let old := SMap.get dv s.svc.last key
  { s with svc := { s.svc with
      prev := SMap.set dv s.svc.prev key old
      last := SMap.set dv s.svc.last key v
      good := if v.sub || v.uns then s.svc.good else SMap.set dv s.svc.good key v } }

/-- The tick of the last check that the converter of a key passed (R173). -/
def svcPassed (key : Nat) (s : State) : Nat := if key < 64 ∨ (128 ≤ key ∧ key < 164) then s.svc.passA else s.svc.passB

/-- The held value of a key: its last result sampled before the last passed check, with SUB (R173). -/
def svcHeld (key : Nat) (s : State) : SvcVal :=
  let dv : Nat → SvcVal := fun _ => {}
  let l := SMap.get dv s.svc.last key
  let v := if l.tick < svcPassed key s then l else SMap.get dv s.svc.prev key
  { v with sub := true }

/-- Tick of the take point that delivers a result of `slot` (R161). -/
def svcDueTick (slot : Nat) (s : State) : Nat := if slot < 8 then s.tick + 1 else s.tick + 2

/-- A result on its way to the core die. -/
def svcSend (r : SvcRes) (s : State) : State := { s with svc := { s.svc with flight := s.svc.flight ++ [r] } }

/-- A channel converted for a key; `key` = none for an urgent request. `guard` marks a conversion for a converter that is
out. -/
def svcConvert (conv slot kind idx ch ref : Nat) (left guard : Bool) (key : Option Nat) (raw : Int) (s : State) : State :=
  let (code, clp) := svcCode ch raw
  let hold := svcHeldBy ch ref s
  let dv : Nat → SvcVal := fun _ => {}
  let g : SvcVal := (key.map (SMap.get dv s.svc.good)).getD {}
  let v : SvcVal := if hold then { g with tick := s.tick, sub := true, uns := false }
    else { tick := s.tick, code := code, sub := guard, uns := svcUnsettled conv ref s, clp := clp }
  let mark := (key.map (SMap.get (fun _ => false) s.svc.marks)).getD false
  let s := match key with
    | none => s
    | some k => { svcKeep k v s with svc := { (svcKeep k v s).svc with marks := SMap.set (fun _ => false) s.svc.marks k false } }
  let s := s.when (!hold && clp) (State.bump F.SVC_CHK_CNT_OVR_CNT F.SVC_CHK_CNT_OVR_SAT)
  let owner := if kind = 0 then (key.getD 0) / 64 else conv
  svcSend ⟨svcDueTick slot s, owner, slot, kind, idx, ch, left, mark, v⟩ s

/-- A held value delivered at an instant. -/
def svcHold (conv slot kind idx ch : Nat) (left : Bool) (key : Nat) (s : State) : State :=
  let mark := SMap.get (fun _ => false) s.svc.marks key
  let s' := { s with svc := { s.svc with marks := SMap.set (fun _ => false) s.svc.marks key false } }
  svcSend ⟨svcDueTick slot s, conv, slot, kind, idx, ch, left, mark, svcHeld key s⟩ s'

/-- The entry of the other converter whose guard slot on this one is `pos` (R173). -/
def svcGuardAt (conv pos : Nat) (s : State) : Option Nat :=
  (svcGuards (1 - conv) s).find? (fun e => s.fld (F.SV_ENT_GSLOT (1 - conv) e) == pos)

/-- The first and the number after the last rotation index of a converter; a survivor rotates all 64 (R167, R168). -/
def svcRotRange (conv : Nat) (s : State) : Nat × Nat :=
  if svcOut (1 - conv) s && !svcOut conv s then (0, 64) else if conv = 0 then (0, 36) else (36, 64)

/-- The next rotation index of a converter. -/
def svcRotNext (conv : Nat) (s : State) : Nat :=
  let (lo, hi) := svcRotRange conv s
  let i := if conv = 0 then s.svc.rotA else s.svc.rotB
  if lo ≤ i ∧ i < hi then i else lo

/-- The rotation of a converter moved past index `i`. -/
def svcRotPast (conv i : Nat) (s : State) : State :=
  if conv = 0 then { s with svc := { s.svc with rotA := i + 1 } } else { s with svc := { s.svc with rotB := i + 1 } }

/-- The urgent conversion of a converter. -/
def svcUrg (conv : Nat) (s : State) : Option SvcUrg := if conv = 0 then s.svc.urgA else s.svc.urgB

/-- A slot that serves the rotation: an index of the other converter, which is out, carries SUB (R165, R168). -/
def svcRotate (conv slot : Nat) (raw : Int) (s : State) : State :=
  let i := svcRotNext conv s
  svcRotPast conv i (svcConvert conv slot 2 i (svcRotCh i) 0 false (if i < 36 then conv == 1 else conv == 0) (some (128 + i)) raw s)

/-- The slot of a converter that is in use: an entry, else guard, urgent or rotation (R159, R160, R173). -/
def svcSlot (conv slot : Nat) (raw : Int) (s : State) : State :=
  let pos := svcPos s.tick slot
  let f := s.tick / 4
  if pos < svcLen conv s then
    if svcDue conv pos f s then
      svcConvert conv slot 0 pos (s.fld (F.SV_ENT_CH conv pos)) (s.fld (F.SV_ENT_REF conv pos)) (s.on (F.SV_ENT_ALIGN conv pos))
        false (some (64 * conv + pos)) raw s
    else s
  else
    let o := 1 - conv
    let outTick := if o = 0 then s.svc.outTickA else s.svc.outTickB
    let claim := if svcOut o s then svcGuardAt conv pos s else none
    match claim with
    | some e =>
      if svcDue o e f s && decide (outTick ≤ 4 * f + e / 20) then
        svcConvert conv slot 0 e (s.fld (F.SV_ENT_CH o e)) (s.fld (F.SV_ENT_REF o e)) (s.on (F.SV_ENT_ALIGN o e)) true
          (some (64 * o + e)) raw s
      else s
    | none =>
      match svcUrg conv s with
      | some u =>
        if u.tick = s.tick ∧ u.slot = slot then svcConvert conv slot 1 0 u.ch u.ref u.left false none raw s
        else svcRotate conv slot raw s
      | none => svcRotate conv slot raw s

/-- The slot of a converter that is out: entries without a guard deliver held values; so do GUARD entries and the
rotation with both converters out (R173). -/
def svcSlotOut (conv slot : Nat) (s : State) : State :=
  let pos := svcPos s.tick slot
  let both := svcOut (1 - conv) s
  if pos < svcLen conv s then
    if svcDue conv pos (s.tick / 4) s && (both || !s.on (F.SV_ENT_GUARD conv pos)) then
      svcHold conv slot 0 pos (s.fld (F.SV_ENT_CH conv pos)) (s.on (F.SV_ENT_ALIGN conv pos)) (64 * conv + pos) s
    else s
  else if both then
    let i := svcRotNext conv s
    svcRotPast conv i (svcHold conv slot 2 i (svcRotCh i) false (128 + i) s)
  else s

/-- A result reaches the core die: its register, and the control channels that take it (R161, R165, R166). The entry's
converter is `c`. -/
def svcDeliverEntry (c : Nat) (r : SvcRes) (s : State) : State :=
  let s := s.post (Adr.SV_RES c r.idx) (svcBits r.left r.v)
  s.each 32 (fun k s =>
    if s.fld (F.FCH_CCFG_SRC_CONV k) = c + 1 ∧ s.fld (F.FCH_CCFG_SRC_ENTRY k) = r.idx then
      ctlInput k (svcWord r.ch r.v) r.v.tick (240 * r.slot) (s.when r.mark (ctlStart k))
    else s)

/-- An urgent result reaches the core die (R169). -/
def svcDeliverUrgent (r : SvcRes) (s : State) : State :=
  ((s.post Adr.SVC_URG_RES (svcBits r.left r.v)).bump F.SVC_URG_CNT_URG_DONE F.SVC_URG_CNT_DONE_SAT).raise Pg.svc 1

/-- A check result reaches the core die (R171, R179). -/
def svcDeliverCheck (r : SvcRes) (s : State) : State :=
  s.post (Adr.SVC_CHECK_RES r.conv) (svcBits false r.v)

/-- The verdict of two check codes against the expected one; 0 PASS, 1 A_BAD, 2 B_BAD, 3 CHECK_BAD, 4 BOTH_BAD. A
converter not compared is not in `inA`, `inB` (R171, R172). -/
def svcVerdict (inA inB : Bool) (a b e lim : Int) : Nat :=
  let okA := decide ((a - e).natAbs ≤ lim.toNat)
  let okB := decide ((b - e).natAbs ≤ lim.toNat)
  let okAB := decide ((a - b).natAbs ≤ lim.toNat)
  if inA && inB then
    if okA && okB then 0 else if okB then 1 else if okA then 2 else if okAB then 3 else 4
  else if inA then (if okA then 0 else 1)
  else if inB then (if okB then 0 else 2)
  else 0

/-- A converter taken out from slot 1 of this tick (R173). -/
def svcTakeOut (conv : Nat) (s : State) : State :=
  if conv = 0 then { s with svc := { s.svc with outA := true, outTickA := s.tick, urgA := none } }
  else { s with svc := { s.svc with outB := true, outTickB := s.tick, urgB := none } }

/-- A declared verdict and what the next control burst reports of it (R172, R173, R178). -/
def svcDeclare (v : Nat) (s : State) : State :=
  let was := (svcOut 0 s, svcOut 1 s)
  let s := { s with svc := { s.svc with verdict := 0 } }
  let s := if v = 1 then svcTakeOut 0 s else if v = 2 then svcTakeOut 1 s
    else if v = 4 then (let s := svcTakeOut 1 (svcTakeOut 0 s); { s with svc := { s.svc with both := true } })
    else { s with svc := { s.svc with susp := true } }
  let code := if v = 1 then 0x3501 else if v = 2 then 0x3502 else if v = 4 then 0x3503 else 0x3504
  let action := if v = 3 then 0 else if was.1 || was.2 || v == 4 then 4 else 1
  s.note 1 s.tick { events := if v = 3 then [] else [(Pg.svc, 0)]
                    reports := [⟨code, 0, action, 0⟩]
                    act := (8, 0, 0) }

/-- The check slot of a tick (R171, R172). -/
def svcCheck (a b : Nat) (s : State) : State :=
  let k := s.tick % 8
  let e := (2 * k + 1) * 4096
  let inA := !s.svc.outA || svcTesting 0 s
  let inB := !s.svc.outB || svcTesting 1 s
  let s := (s.setFld F.SVC_CHECK_EXP_LEVEL k).setFld F.SVC_CHECK_EXP_EXP e
  let put := fun (c v : Nat) => svcSend ⟨s.tick + 1, c, 0, 3, 0, 0, false, false,
    { tick := s.tick, code := (v : Int), uns := svcUnsettled c 0 s }⟩
  let s := (s.when inA (put 0 a)).when inB (put 1 b)
  let lim := s.fld F.SVC_CHECK_CFG_PLAUS_LIM
  if lim = 0 then s
  else
    let v := svcVerdict inA inB a b e (max 8 lim : Nat)
    if v = 0 then { s with svc := { s.svc with verdict := 0, passA := if s.svc.outA then s.svc.passA else s.tick,
                                                passB := if s.svc.outB then s.svc.passB else s.tick } }
    else
      let s := (s.bump F.SVC_CHK_CNT_CHECK_MIS F.SVC_CHK_CNT_MIS_SAT).raise Pg.svc 4
      let again := s.svc.verdict == v && s.svc.verdictTick + 1 == s.tick
      let testing := svcTesting 0 s || svcTesting 1 s || svcTesting 2 s
      let s := { s with svc := { s.svc with verdict := v, verdictTick := s.tick, missed := s.svc.missed || testing } }
      let already := (v == 1 && s.svc.outA) || (v == 2 && s.svc.outB) || (v == 4 && s.svc.outA && s.svc.outB)
      if again && !s.svc.susp && !already then svcDeclare v s else s

/-- A request dropped (R169). -/
def svcDrop (s : State) : State := (s.bump F.SVC_URG_CNT_URG_DROP F.SVC_URG_CNT_DROP_SAT).raise Pg.svc 2

/-- An accepted request withdrawn for one of a higher rank in the same cycle (R170). -/
def svcUnaccept (conv : Nat) (s : State) : State :=
  svcDrop { s with svc := if conv = 0 then { s.svc with urgA := none, urgCntA := s.svc.urgCntA - 1 }
                          else { s.svc with urgB := none, urgCntB := s.svc.urgCntB - 1 } }

/-- A request at cycle `cyc`, with no other of its cycle before it: accepted, or dropped (R169). -/
def svcAsk (cyc conv ch ref : Nat) (left : Bool) (s : State) : State :=
  let slot := cyc / 240
  let f := s.tick / 4
  let s := if s.svc.urgFrame = f then s else { s with svc := { s.svc with urgFrame := f, urgCntA := 0, urgCntB := 0 } }
  let cnt := if conv = 0 then s.svc.urgCntA else s.svc.urgCntB
  let pos := svcPos s.tick (slot + 1)
  let busy := match svcUrg conv s with
    | none => false
    | some u => u.tick == s.tick && decide (slot ≤ u.slot)
  let free := decide (svcLen conv s ≤ pos) && !(svcOut (1 - conv) s && (svcGuardAt conv pos s).isSome)
  let known := decide (ch < 0x58 ∧ ref < 3) && (decide (ch < 0x18) || ref == 0)
  if decide (slot ≤ 19) && free && decide (cyc + 8 ≤ 240 * (slot + 1)) && !busy && decide (cnt < 4) && !svcOut conv s && known then
    let u : SvcUrg := ⟨s.tick, slot + 1, ch, ref, left⟩
    if conv = 0 then { s with svc := { s.svc with urgA := some u, urgCntA := cnt + 1 } }
    else { s with svc := { s.svc with urgB := some u, urgCntB := cnt + 1 } }
  else svcDrop s

/-- The request of one cycle seen so far, for this converter: its rank and whether it was accepted (R170). -/
def svcRival (cyc conv : Nat) (s : State) : Option (Nat × Bool) :=
  (s.svc.urgLast.filter (fun u => u.1 == conv && u.2.1 == s.tick && u.2.2.1 == cyc)).map (fun u => u.2.2.2)

/-- Rank of the origin of an urgent request: the fault manager, the host, the management controller (R170). -/
def svcRank (o : Origin) : Nat := if o = .mc then 2 else 1

/-- An urgent request of rank `rank` at cycle `cyc`: of those to one converter in one cycle only the first in rank can be accepted (R169,
R170). -/
def svcUrgent (rank cyc conv ch ref : Nat) (left : Bool) (s : State) : State :=
  let note := fun (t : State) =>
    { t with svc := { t.svc with urgLast := some (conv, s.tick, cyc, rank, svcUrg conv t != svcUrg conv s) } }
  match svcRival cyc conv s with
  | none => note (svcAsk cyc conv ch ref left s)
  | some (r, ok) =>
    if r ≤ rank then svcDrop s else note (svcAsk cyc conv ch ref left (if ok then svcUnaccept conv s else s))

/-- VREFX leaves its window (R164). -/
def svcVrefxLoss (s : State) : State :=
  let s := { s with svc := { s.svc with extAt := some s.tick } }
  if s.on F.SVC_STAT_EXT_OK then
    ({ s with svc := { s.svc with extLost := true } }.setFld F.SVC_STAT_EXT_OK 0).note 1 s.tick
      { events := [(Pg.svc, 3)], reports := [⟨0x3505, 0, 0, 0⟩] }
  else s

/-- Whether a millisecond, 192 ticks, has passed since the tick given (R163). -/
def svcWaited (t : Option Nat) (s : State) : Bool := (t.map (fun t => decide (t + 192 ≤ s.tick))).getD true

/-- Whether a reference has stood for its settling time (R163): 0 SVA's INT, 1 SVB's INT, 2 EXT, 3 SUP. -/
def svcMaySettle (r : Nat) (s : State) : Bool :=
  if r ≤ 1 then (s.svc.intFrom.map (fun t => decide (t ≤ s.tick))).getD false
  else if r = 2 then svcWaited s.svc.extAt s
  else s.on F.PWR_STATUS_VAH_OK && svcWaited s.svc.supAt s

/-- A reference's settling time has passed (R163). -/
def svcSettled (r : Nat) (s : State) : State :=
  if !svcMaySettle r s then s
  else if r = 0 then s.setFld F.SVC_STAT_INT_A_OK 1
  else if r = 1 then s.setFld F.SVC_STAT_INT_B_OK 1
  else if r = 2 then { s with svc := { s.svc with extLost := false } }.setFld F.SVC_STAT_EXT_OK 1
  else s.setFld F.SVC_STAT_SUP_OK 1

/-- The state of the SVC page, isolation apart (R177). The rows give none for PLAUS_LIM = 0 with both converters in use; the model shows
DEGRADED (log entry 102). -/
def svcPageState (s : State) : Nat :=
  let ext := (List.range 2).any (fun c => (List.range (svcLen c s)).any (fun e => s.fld (F.SV_ENT_REF c e) == 1))
  if s.svc.seenA && s.svc.seenB then 4
  else if !s.on F.SVC_STAT_INT_A_OK || !s.on F.SVC_STAT_INT_B_OK then 1
  else if s.svc.seenA || s.svc.seenB || s.svc.seenC || !s.on F.PWR_STATUS_VAH_OK || (ext && !s.on F.SVC_STAT_EXT_OK)
    || !s.on F.SVC_CHECK_CFG_PLAUS_LIM then 3
  else 2

/-- A write of RESTORE: ignored unless the page shows DEGRADED or FAULTED (R175). -/
def svcRestore (s : State) : State :=
  let st := svcPageState s
  if (st ≠ 3 ∧ st ≠ 4) ∨ s.on F.FLT_STAT_PARTWIDE then s
  else
    let s := { s with svc := { s.svc with missed := false } }
    let s := (s.when s.svc.outA (State.startTest 0x14 0 0)).when s.svc.outB (State.startTest 0x14 1 0)
    svcShow (s.when s.svc.susp (State.startTest 0x14 2 0))

/-- The end of a restore test of a converter (0, 1) or of the comparison (2) (R175). The fault of two converters lost together is logged
once again. -/
def svcRestoreEnd (k : Nat) (s : State) : State :=
  let both := s.svc.both && s.svc.outA && s.svc.outB
  if s.svc.missed then
    if both ∧ k = 1 then svcShow s
    else
      svcShow ((s.bump F.SVC_CHK_CNT_GUARD_FAIL_CNT F.SVC_CHK_CNT_GF_SAT).report
        (if both ∧ k = 0 then 0x3503 else if k = 0 then 0x3501 else if k = 1 then 0x3502 else 0x3504) 0 0)
  else if k = 0 then { s with svc := { s.svc with backA := true } }
  else if k = 1 then { s with svc := { s.svc with backB := true } }
  else { s with svc := { s.svc with backC := true } }

/-- The tick of the supervisory block: SUP follows VAH, and what passed its test returns at a frame start (R175). -/
def svcTick (s : State) : State :=
  let s := s.when (!s.on F.PWR_STATUS_VAH_OK) (fun s =>
    { s with svc := { s.svc with supAt := some s.tick } }.setFld F.SVC_STAT_SUP_OK 0)
  if s.tick % 4 ≠ 0 then svcShow s
  else
    let v := s.svc
    svcShow { s with svc := { v with outA := v.outA && !v.backA, outB := v.outB && !v.backB, susp := v.susp && !v.backC,
                                     seenA := v.seenA && !v.backA, seenB := v.seenB && !v.backB, seenC := v.seenC && !v.backC,
                                     both := v.both && !v.backA && !v.backB, backA := false, backB := false, backC := false } }

/-- Entries and lengths have become live: a changed channel or reference marks its entry (R166, R176). -/
def svcPress (old s : State) : State :=
  let dv : Nat → SvcVal := fun _ => {}
  svcShow (svcShowSlots (s.each 128 (fun k s =>
    let c := k / 64
    let e := k % 64
    if old.fld (F.SV_ENT_CH c e) = s.fld (F.SV_ENT_CH c e) ∧ old.fld (F.SV_ENT_REF c e) = s.fld (F.SV_ENT_REF c e) then s
    else { s with svc := { s.svc with marks := SMap.set (fun _ => false) s.svc.marks k true,
                                      last := SMap.set dv s.svc.last k {}, prev := SMap.set dv s.svc.prev k {},
                                      good := SMap.set dv s.svc.good k {} } })))

/-- A result delivered at the take point; a rotation result goes to its register here, to its owner elsewhere. -/
def svcDeliver (r : SvcRes) (s : State) : State :=
  if r.kind = 0 then svcDeliverEntry r.conv r s
  else if r.kind = 1 then svcDeliverUrgent r s
  else if r.kind = 2 then s.post (Adr.ROT_RES r.idx) (svcBits false r.v)
  else svcDeliverCheck r s

/-- SVC_CONVERSION. `code` is the channel's reading in LSB before saturation. -/
def execSvcConversion (conv : Fin 2) (slot : Fin 21) (code : Int) (s : State) : Host.Outcome State Fault Refusal :=
  s.ticking (
    .next (if slot.val = 0 then s
      else if svcOut conv.val s then svcSlotOut conv.val slot.val s
      else svcSlot conv.val slot.val code s))

/-- CHECK_SLOT. -/
def execCheckSlot (a b : Fin 65536) (s : State) : Host.Outcome State Fault Refusal := s.ticking (.next (svcCheck a.val b.val s))

/-- URGENT_REQUEST. `rank` 0 from the fault manager, 1 from the host, 2 from the management controller; the fault manager needs no port. -/
def execUrgentRequest (rank : Fin 3) (cyc : Fin 5120) (conv : Fin 2) (ch : Fin 128) (form : ConvForm) (s : State) :
    Host.Outcome State Fault Refusal :=
  .next (if rank.val = 1 && !s.ports || s.phase != .running then s
    else svcUrgent rank.val cyc.val conv.val ch.val form.ref.val form.left (s.land cyc.val))

/-- VREFX_LOSS. -/
def execVrefxLoss (s : State) : Host.Outcome State Fault Refusal := s.ticking (.next (svcVrefxLoss s))

/-- REFERENCE_SETTLED. -/
def execReferenceSettled (ref : Fin 4) (s : State) : Host.Outcome State Fault Refusal := s.ticking (.next (svcSettled ref.val s))

/-- SVC_RESTORE. -/
def execSvcRestore (s : State) : Host.Outcome State Fault Refusal := s.heard (.next (svcRestore s))

end Sys2Proof.Machine
end

