-- ==== Sys2Proof/Machine/Collate.lean ====
section
/-!
DEFINITION. Collation (R503-R512): the image laid over the live values, the checks in the order of R509 and the sums of R512.
-/

namespace Sys2Proof.Machine

/-- The bits of type ST of the register at byte address `a` (R488). -/
def stMask (a : Nat) : Word :=
  match rowOf a with
  | some r => r.mask (fun t => decide (t = .st))
  | none => 0

/-- `live` with the staged bits of `img`. -/
def stMerge (a : Nat) (img live : Word) : Word := (live &&& ~~~ stMask a) ||| (img &&& stMask a)

/-- The configuration that the image makes of the live values (R504, R508). -/
def overlay (s : State) : State :=
  (s.image.map (·.1) ++ s.regs.map (·.1)).foldl
    (fun m a => m.setWord a (stMerge a (SMap.get resetWord s.image a) (m.word a))) s

/-- Page and offset of a register, as page × 4,096 + offset; the queue registers stand behind QSEL (R409). -/
def pageKey (a : Nat) : Nat := if a < 0x1000000 then a else 0x100068 + a % 0x20

/-- Registers whose image differs from their live value. -/
def imageChanges (s : State) : List Nat :=
  ((s.image.map (·.1) ++ s.regs.map (·.1)).eraseDups).filter (fun a =>
    stMask a &&& (SMap.get resetWord s.image a ^^^ s.word a) != 0)

/-- A finding at a register where the condition holds. -/
def bad (c : Bool) (a : Nat) : List Nat := if c then [pageKey a] else []

/-- Findings of every number below `n`. -/
def forN (n : Nat) (f : Nat → List Nat) : List Nat := (List.range n).flatMap f

/-- Whether two half-open ranges overlap. -/
def overlaps (a n b k : Nat) : Bool := decide (a < b + k ∧ b < a + n)

/-- Check 1: the origin (R509). -/
def lockedKeys (s : State) : List Nat :=
  bad (s.press.byMc && !s.on F.PRESS_CFG_MC_PRESS) Adr.PRESS_CMD
  ++ ((imageChanges s).filter (fun a => SMap.get (fun _ => false) s.imageMc a && s.on (F.pgLock (pageKey a >>> 12)))).map pageKey

/-- Ranges of clocks and time (R65, R80-R82, R468). -/
def rangeClocks (m : State) : List Nat :=
  forN 4 (fun i => bad (m.fld (F.CLK_PLL_CFG_REF_MUL i) == 3 || (i == 3 && m.fld (F.CLK_PLL_CFG_REF_MUL i) == 1)) (Adr.CLK_PLL_CFG i))
  ++ bad (m.fld F.CLK_SERVO_CFG_BW == 3 || decide (4 ≤ m.fld F.CLK_SERVO_CFG_SERVO_SRC)
      || (m.fld F.CLK_SERVO_CFG_SERVO_SRC == 3 && decide (3 < m.fld F.CLK_SERVO_CFG_SERVO_PORT))
      || (m.on F.CLK_SERVO_CFG_SERVO_EN && m.on F.CLK_REF_CFG_REF_SEL)) Adr.CLK_SERVO_CFG
  ++ forN 19 (fun i => let d := (m.word (Adr.CLK_FDIV i)).toNat; bad (d != 0 && decide (d < 0x140000)) (Adr.CLK_FDIV i))
  ++ bad (m.on F.TIME_CAL_CFG_SET && m.on F.TIME_CAL_CFG_CAL_SRC) Adr.TIME_CAL_CFG

/-- The highest PGA code of a mode (R105). -/
def pgaTop (mode : Nat) : Nat := if mode = 2 then 24 else if mode = 3 then 36 else 63

/-- Ranges of the analog inputs, the filter chain and the supervisory converters (R105, R128, R157, R160, R162). -/
def rangeInputs (m : State) : List Nat :=
  forN 32 (fun n =>
    let mode := m.fld (F.AIN_CFG_MODE n)
    bad (m.fld (F.AIN_CFG_PATH_FORCE n) == 3 || (mode == 3 && decide (8 ≤ n)) || decide (pgaTop mode < m.fld (F.AIN_CFG_PGA n)))
      (Adr.AIN_CFG n)
    ++ bad (decide (m.fld (F.AIN_MERGE_XOVER n) < 30) || decide (48 < m.fld (F.AIN_MERGE_XOVER n))) (Adr.AIN_MERGE n))
  ++ forN 48 (fun d =>
    let b := m.fld (F.FCH_ACFG_ACT_BANK d)
    bad (decide (1200 < (m.int (F.FCH_ABANK_FGAIN d b)).natAbs)) (Adr.FCH_ABANK d b))
  ++ forN 32 (fun c => bad (m.fld (F.FCH_CCFG_SRC_CONV c) == 3) (Adr.FCH_CCFG c))
  ++ bad (decide (64 < m.fld F.SVC_SEQ_LEN_SVA_LEN) || decide (64 < m.fld F.SVC_SEQ_LEN_SVB_LEN)) Adr.SVC_SEQ_LEN
  ++ forN 2 (fun c => forN 64 (fun e =>
    let ch := m.fld (F.SV_ENT_CH c e)
    let ref := m.fld (F.SV_ENT_REF c e)
    bad (ref == 3 || decide (0x58 ≤ ch) || (ref != 0 && decide (0x18 ≤ ch))) (Adr.SV_ENT c e)))

/-- Ranges of the serial ports, S/PDIF and rate conversion (R183, R217, R221, R233). -/
def rangePorts (m : State) : List Nat :=
  forN 16 (fun p =>
    let w := m.fld (F.SAP_CFG_SWIDTH p)
    let fmt := m.fld (F.SAP_CFG_FMT p)
    let slots := m.fld (F.SAP_CFG_SLOTS p)
    if slots = 0 then []
    else bad (decide (32 < slots) || w == 3 || m.fld (F.SAP_CFG_WLEN p) == 3 || decide (w < m.fld (F.SAP_CFG_WLEN p)) || fmt == 3
        || m.fld (F.SAP_CFG_MODE p) == 3 || m.fld (F.SAP_CFG_PRATE p) == 7 || (decide (fmt ≤ 1) && slots != 2)) (Adr.SAP_CFG p)
      ++ bad (m.fld (F.SAP_TXCFG_TX_IDLE p) == 3) (Adr.SAP_TXCFG p))
  ++ bad (m.fld F.SPDO_CFG_TXRATE == 7) Adr.SPDO_CFG
  ++ bad (m.fld F.SRC_CFG_TRACK_BW == 3) Adr.SRC_CFG
  ++ forN 32 (fun k => bad (m.fld (F.SRC_QS_RATE k) == 7 || decide (8 < m.fld (F.SRC_QS_CHANS k))) (Adr.SRC_QS k))

/-- Ranges of the routes and taps (R239, R242, R250). -/
def rangeRoutes (m : State) : List Nat :=
  m.regs.flatMap (fun e => match routeSink e.1 with
    | none => []
    | some n =>
      let src := e.2.bits 11 0
      let node := decide (0x400 ≤ n ∧ n < 0x580) || decide (0x600 ≤ n ∧ n < 0x800)
      let made := decide (0x400 ≤ src ∧ src < 0x4C0) || decide (0x500 ≤ src ∧ src < 0x800)
      bad (!srcExists src || (src != 0 && e.2.bits 31 31 == 1 && !(node && made))) e.1)
  ++ forN 32 (fun k => bad (!srcExists (m.fld (F.SPN_TAP_CFG_SRC k))) (Adr.SPN_TAP_CFG k))

/-- Whether the poles of a section lie strictly inside the unit circle (R269). -/
def polesInside (sec bank : Nat) (m : State) : Bool :=
  let co := fun (j : Nat) => (poolWord (2 ^ 19 + 16 * sec + 8 * bank + j) m).toInt
  decide ((co 4).natAbs < 2 ^ 29) && decide (((co 3).natAbs : Int) < 2 ^ 29 + co 4)

/-- Banks of a biquad node that are live or being swapped to, with their sections (R268). -/
def bqRanges (n : Nat) (m : State) : List (Nat × Nat × Nat) :=
  ((planBanks (bqLive n m) (m.fld (F.BQ_CFG_ACT_BANK n)) (m.fld (F.BQ_CFG_XF n)) (m.bqXf n).on true).filter
    (fun b => m.on (F.BQ_BANK_NSEC n b))).map (fun b => (b, m.fld (F.BQ_BANK_FIRST n b), m.fld (F.BQ_BANK_NSEC n b)))

/-- Ranges of the biquad nodes (R268, R269). -/
def rangeBiquads (m : State) : List Nat :=
  let all := (List.range 128).flatMap (fun n => (bqRanges n m).map (fun r => (n, r)))
  all.flatMap (fun (n, b, f, k) =>
    bad (decide (128 < k) || decide (2048 < f + k)
      || all.any (fun (n', b', f', k') => n' != n && b' == b && overlaps f k f' k')
      || (b == m.fld (F.BQ_CFG_ACT_BANK n) && decide (f + k ≤ 2048) && (List.range k).any (fun i => !polesInside (f + i) b m)))
      (Adr.BQ_BANK n b))

/-- Ranges of dynamics, delay lines and taps (R271-R277). -/
def rangeDynDelay (m : State) : List Nat :=
  forN 128 (fun p =>
    let g := dynGroup p m
    bad (decide (64 < m.fld (F.DYN_CFG_LA p)) || decide (128 < m.fld (F.DYN_CFG_KEY p)) || decide (128 < m.fld (F.DYN_CFG_LINK p))
      || decide (5 ≤ m.fld (F.DYN_CFG_MODE p))
      || (dynOn p m && g.any (fun q => m.fld (F.DYN_CFG_LA q) != m.fld (F.DYN_CFG_LA p)))) (Adr.DYN_CFG p))
  ++ forN 128 (fun k =>
    let b := m.fld (F.DL_CFG_BASE k)
    let n := m.fld (F.DL_CFG_LEN k)
    bad (decide (8192 < n) || (dlOn k m && (decide (8192 < b + n)
      || (List.range 128).any (fun j => j != k && dlOn j m && overlaps b n (m.fld (F.DL_CFG_BASE j)) (m.fld (F.DL_CFG_LEN j)))))) (Adr.DL_CFG k)
    ++ bad (decide (dlLen k m < m.fld (F.DL_DLY_DLY k))) (Adr.DL_DLY k))
  ++ forN 256 (fun t => bad (decide (64 < m.fld (F.TAP_CFG_MSRC t))) (Adr.TAP_CFG t))

/-- Ranges of the convolution channels (R282). -/
def rangeConv (m : State) : List Nat :=
  let all := (List.range 32).flatMap (fun c => (convSets true c m).map (fun b => (c, b)))
  forN 32 (fun c => bad (decide (128 < m.fld (F.CV_CFG_FX_HIST c))) (Adr.CV_CFG_FX c))
  ++ all.flatMap (fun (c, b) =>
    let g := setGranules c b m
    bad (decide (524288 < m.fld (F.CV_SET_LEN c b)) || g.any (fun k => decide (128 ≤ k) || !granuleReady k m)
      || all.any (fun (c', b') => (c', b') != (c, b) && (setGranules c' b' m).any (fun k => g.contains k))) (Adr.CV_SET c b))

/-- Ranges of the outputs, jacks, speakers and boost (R294, R323, R346, R350, R372, R392). -/
def rangeOutputs (s m : State) : List Nat :=
  forN 20 (fun o => bad (m.fld (F.OUT_CFG_CORE_FORCE o) == 3) (Adr.OUT_CFG o))
  ++ forN 28 (fun o => bad (decide (11 < m.fld (F.JACK_BIND_JACK o))) (Adr.JACK_BIND o))
  ++ forN 8 (fun n =>
    let pair := m.on (F.SPK_CFG_PAR (n / 2 * 2))
    let off := fun (k : Nat) => !s.on (F.SPK_CFG_EN k) && (s.sch k).cs == 0
    if n % 2 = 1 then
      bad ((pair && m.on (F.SPK_CFG_EN n) != m.on (F.SPK_CFG_EN (n - 1)))
        || (!pair && (decide (m.fld (F.SPK_CFG_VFS n) < 80) || decide (340 < m.fld (F.SPK_CFG_VFS n)) || m.fld (F.SPK_CFG_LID n) == 3)))
        (Adr.SPK_CFG n)
    else bad (decide (m.fld (F.SPK_CFG_VFS n) < 80) || decide (340 < m.fld (F.SPK_CFG_VFS n)) || m.fld (F.SPK_CFG_LID n) == 3
        || (m.on (F.SPK_CFG_PAR n) != s.on (F.SPK_CFG_PAR n) && !(off n && off (n + 1)))) (Adr.SPK_CFG n))
  ++ bad (decide (64 < m.fld F.BST_CFG_LA)) Adr.BST_CFG
  ++ bad (decide (100 < m.fld F.BST_TRACK_HEADROOM)) Adr.BST_TRACK

/-- Consumers bound to queues: queue, consumer class, register (R402). -/
def consumers (m : State) : List (Nat × Nat × Nat) :=
  (List.range 16).flatMap (fun n =>
    if m.on (F.CV_CFG_EN n) && m.on (F.CV_CFG_SRC n) then [(m.fld (F.CV_CFG_QID n), 0, Adr.CV_CFG n)] else [])
  ++ (List.range 32).flatMap (fun k =>
    if m.on (F.SRC_QS_CHANS k) && !m.on (F.SRC_QS_DIR k) then [(m.fld (F.SRC_QS_QID k), 0, Adr.SRC_QS k)] else [])
  ++ (if m.on F.ZKL_RXQ_EN then [(m.fld F.ZKL_RXQ_RXQ, 1, Adr.ZKL_RXQ)] else [])
  ++ (List.range 64).flatMap (fun n =>
    if m.on (F.TX_CFG_EN n) && m.on (F.TX_CFG_KIND n) then [(m.fld (F.TX_CTRL_QSRC n), 1, Adr.TX_CTRL n)] else [])
  ++ (List.range 5).flatMap (fun p => (List.range 8).flatMap (fun c =>
    if m.on (F.PORT_EQ_EN p c) then [(m.fld (F.PORT_EQ_QID p c), 2, Adr.PORT_EQ p c)] else []))
  ++ (List.range 64).flatMap (fun w => if m.on (F.WP_CFG_REN w) then [(m.fld (F.WP_CFG_RQID w), 3, Adr.WP_CFG w)] else [])

/-- The consumer class of a queue (R402). -/
def queueClass (q : Nat) (cs : List (Nat × Nat × Nat)) : Nat := ((cs.find? (fun c => c.1 == q)).map (·.2.1)).getD 3

/-- Ranges of the queues (R401, R431). -/
def rangeQueues (m : State) : List Nat :=
  let cs := consumers m
  m.regs.flatMap (fun e =>
    if e.1 < 0x1000000 then []
    else
      let q := (e.1 - 0x1000000) / 0x20
      let maxc := m.fld (F.QMG_QCFG_MAXC q)
      let hwm := m.fld (F.QMG_QWM_HWM q)
      if e.1 % 0x20 = 0 then bad (decide (maxc < m.fld (F.QMG_QCFG_RES q)) || decide (65536 < maxc) || decide (maxc < hwm)) e.1
      else if e.1 % 0x20 = 4 then bad (hwm != 0 && decide (hwm ≤ m.fld (F.QMG_QWM_LWM q))) e.1
      else [])
  ++ cs.flatMap (fun c => bad (cs.any (fun d => d.1 == c.1 && d.2.2 != c.2.2)) c.2.2)

/-- Ranges of the Ethernet ports (R421, R422, R426, R428). -/
def rangeNet (m : State) : List Nat :=
  forN 5 (fun p =>
    let n := m.fld (F.PORT_CFG_MAX_LEN p)
    bad ((p == 4 && decide (2 ≤ m.fld (F.PORT_CFG_MODE p))) || m.fld (F.PORT_CFG_FWD p) == 3 || decide (n < 64)
      || decide ((if p = 4 then 1522 else 9600) < n)) (Adr.PORT_CFG p)
    ++ bad (m.fld (F.PORT_TAG_ACCEPT p) == 3 || m.fld (F.PORT_TAG_PVID p) == 0 || m.fld (F.PORT_TAG_PVID p) == 4095) (Adr.PORT_TAG p))

/-- Frame length of a stream: channels, gathering code, kind (R455, R463). -/
def zklLen (chans gath : Nat) (ctl : Bool) : Nat := 62 + (if ctl then 1440 else gathTicks gath * chans * 4)

/-- Ranges of the Zinkor Link (R459, R471). -/
def rangeZkl (m : State) : List Nat :=
  let et := m.fld F.ZKL_ETYPE_ETYPE
  let audio := fun (r : Nat) => m.on (F.RX_CFG_EN r) && !m.on (F.RX_CFG_KIND r)
  bad (decide (et < 0x0600) || et == 0x8100 || et == 0x88F7) Adr.ZKL_ETYPE
  ++ forN 64 (fun n =>
    let g := gathTicks (m.fld (F.TX_CFG_GATH n))
    let ch := m.fld (F.TX_CFG_CHANS n)
    let ctl := m.on (F.TX_CFG_KIND n)
    let p := m.fld (F.TX_TIME_P n)
    let len := zklLen ch (m.fld (F.TX_CFG_GATH n)) ctl
    let vid := m.fld (F.TX_DA_HI_VID n)
    bad (m.fld (F.TX_CFG_GATH n) == 3 || (m.on (F.TX_CFG_EN n) &&
      ((!ctl && (ch == 0 || decide (64 < ch) || decide (256 < m.fld (F.TX_CFG_CHFIRST n) + ch)))
        || (List.range 4).any (fun q => m.fld (F.TX_CFG_PORTS n) / 2 ^ q % 2 == 1 && decide (m.fld (F.PORT_CFG_MAX_LEN q) < len))))) (Adr.TX_CFG n)
    ++ bad (m.on (F.TX_CFG_EN n) && (decide (128 < p + g) || decide (p < g + 3))) (Adr.TX_TIME n)
    ++ bad (vid == 0 || vid == 4095) (Adr.TX_DA_HI n))
  ++ forN 64 (fun r =>
    let ch := m.fld (F.RX_CFG_CHANS r)
    let f := m.fld (F.RX_CFG_CHFIRST r)
    bad (m.fld (F.RX_CFG_GATH r) == 3 || (audio r && (ch == 0 || decide (64 < ch) || decide (256 < f + ch)
      || (List.range 64).any (fun q => q != r && audio q && overlaps f ch (m.fld (F.RX_CFG_CHFIRST q)) (m.fld (F.RX_CFG_CHANS q))))))
      (Adr.RX_CFG r))

/-- The target tick of a press outside its range at collation end `c` (R507). -/
def rangeTarget (s : State) : List Nat :=
  bad (s.press.kind == 2 && s.press.target != 0 && (decide (s.press.target < s.tick + 17)
    || decide (s.press.landed + 2 ^ 31 < s.press.target))) Adr.PRESS_TGT_LO

/-- Check 2: codes and ranges (R509). -/
def rangeKeys (s m : State) : List Nat :=
  rangeTarget s ++ rangeClocks m ++ rangeInputs m ++ rangePorts m ++ rangeRoutes m ++ rangeBiquads m ++ rangeDynDelay m ++ rangeConv m
    ++ rangeOutputs s m ++ rangeQueues m ++ rangeNet m ++ rangeZkl m

/-- Check 3: calendar and leap fields (R468, R470). -/
def calKeys (s m : State) : List Nat :=
  let y := m.fld F.TIME_CAL_SET_DATE_YEAR
  let mo := m.fld F.TIME_CAL_SET_DATE_MONTH
  let d := m.fld F.TIME_CAL_SET_DATE_DAY
  let ofs : Int := m.fld F.TIME_LEAP_OFS_LEAP_OFS
  let same := fun (a : Nat) => s.word a == m.word a
  bad (m.on F.TIME_CAL_CFG_SET && (decide (y < 2000) || decide (2199 < y) || mo == 0 || decide (12 < mo) || d == 0
    || decide (monthLen y mo < d))) Adr.TIME_CAL_SET_DATE
  ++ bad (m.on F.TIME_CAL_CFG_SET && (decide (23 < m.fld F.TIME_CAL_SET_TIME_HOUR) || decide (59 < m.fld F.TIME_CAL_SET_TIME_MIN)
    || decide (59 < m.fld F.TIME_CAL_SET_TIME_SEC))) Adr.TIME_CAL_SET_TIME
  ++ (if same Adr.TIME_LEAP_OFS && same Adr.TIME_LEAP_AT_LO && same Adr.TIME_LEAP_AT_HI then []
    else bad (decide ((ofs - m.fld F.TIME_UTC_UTC_OFS).natAbs ≠ 1)) Adr.TIME_LEAP_OFS
      ++ bad (decide ((leapAt m - ofs) % 86400 ≠ 0)) Adr.TIME_LEAP_AT_LO)

/-- Check 4: headband of the rail (R510). -/
def headbandKeys (m : State) : List Nat :=
  forN 8 (fun n => bad (spkLead n m == n &&
    decide (100 * bstTop m < 103 * m.fld (F.SPK_CFG_VFS n) + 100 * clampNat 20 100 (m.fld F.BST_HB_HB_HEADROOM))) (Adr.SPK_CFG n))

/-- The FDIV18 word of a transmit rate (R217). -/
def spdoDiv (c : Nat) : Nat := [0xA00000, 0x500000, 0x280000, 0xF00000, 0xAE2650, 0x571328, 0x2B8994].getD c 0

/-- Check 5: rates and dividers (R131, R183, R185, R204, R217). -/
def rateKeys (m : State) : List Nat :=
  forN 32 (fun c =>
    let k := m.fld (F.FCH_CCFG_SRC_CONV c)
    let e := m.fld (F.FCH_CCFG_SRC_ENTRY c)
    bad (k != 0 && (decide (svcLen (k - 1) m ≤ e) || m.on (F.SV_ENT_DIV (k - 1) e))) (Adr.FCH_CCFG c))
  ++ forN 16 (fun p =>
    let b := sapFrameBits p m
    let r := m.fld (F.SAP_CFG_PRATE p)
    let own := m.fld (F.SAP_CFG_MODE p) != 1
    let cyc : Int := if r = 2 then 5120 else if r = 1 then 10240 else 20480
    bad (m.on (F.SAP_CFG_SLOTS p) && (decide (49152000 < rateHz r * b) || (own && (decide (3 ≤ r)
      || decide (65536 ≤ ((b * (m.word (Adr.CLK_FDIV p)).toNat : Nat) - cyc * 65536 : Int).natAbs))))) (Adr.SAP_CFG p))
  ++ forN 16 (fun k => bad (micOn k m && m.word (Adr.CLK_FDIV (if micClk k m then 17 else 16)) != 0x01400000#32) Adr.PDM_CFG)
  ++ bad (m.on F.SPDO_CFG_EN && decide (1 < (((m.word (Adr.CLK_FDIV 18)).toNat : Int) - spdoDiv (m.fld F.SPDO_CFG_TXRATE)).natAbs)) Adr.SPDO_CFG

/-- A sum of R512: its number, whether over a crossfade's schedule, its value and its limit; sum 11 has a floor. -/
structure BudSum where
  id : Nat
  xf : Bool
  value : Int
  limit : Int
  deriving DecidableEq, Repr

/-- Whether a sum keeps its limit. -/
def BudSum.ok (b : BudSum) : Bool := if b.id = 11 then decide (b.limit ≤ b.value) else decide (b.value ≤ b.limit)

/-- Cycles of an audio decimator by preset, and of a control channel (R144). -/
def audCost (d preset : Nat) : Nat := (if d < 32 then [20, 36, 60, 80] else [16, 28, 48, 64]).getD preset 0
def ctlCost (med preset : Nat) : Nat := (if med = 0 then [6, 8, 8, 10] else [8, 10, 10, 12]).getD preset 0

/-- Cycles of the decimators from `lo` to below `hi` (R144). -/
def audLoad (cross : Bool) (lo hi : Nat) (m : State) : Nat :=
  (List.range hi).foldl (fun a d =>
    if d < lo || !audUsed d m then a
    else (planBanks (audBank d m) (m.fld (F.FCH_ACFG_ACT_BANK d)) (m.fld (F.FCH_ACFG_SWAP_XF d)) (m.aud d).xfade cross).foldl
      (fun a b => a + audCost d (m.fld (F.FCH_ABANK_PRESET d b))) a) 0

/-- Cycles of the control channels (R144). -/
def ctlLoad (m : State) : Nat :=
  (List.range 32).foldl (fun a c =>
    let b := m.fld (F.FCH_CCFG_ACT_BANK c)
    if ctlUsed c m then a + ctlCost (m.fld (F.FCH_CBANK_MED c b)) (m.fld (F.FCH_CBANK_PRESET c b)) else a) 0

/-- GUARD entries of a converter that find no slot on the other one (R174). -/
def svcUnslotted (conv : Nat) (m : State) : Nat :=
  ((svcGuards conv m).foldl (fun (acc : List Nat × Nat) e =>
    match (List.range 80).find? (fun p => decide (e ≤ p ∧ svcLen (1 - conv) m ≤ p) && !acc.1.contains p) with
    | none => (acc.1, acc.2 + 1)
    | some p => (acc.1 ++ [p], acc.2)) ([], 0)).2

/-- Pool accesses charged per tick (R411, R472). -/
def poolCharge (m : State) : Nat :=
  let sum := fun (n : Nat) (f : Nat → Nat) => ((List.range n).map f).foldl (· + ·) 0
  let one := fun (b : Bool) => if b then 1 else 0
  let bits := fun (w : Nat) => sum 4 (fun p => w / 2 ^ p % 2)
  sum 64 (fun n => if m.on (F.TX_CFG_EN n) then bits (m.fld (F.TX_CFG_PORTS n)) *
      ceilDiv (zklLen (m.fld (F.TX_CFG_CHANS n)) (m.fld (F.TX_CFG_GATH n)) (m.on (F.TX_CFG_KIND n))) 16 else 0)
  + sum 64 (fun r => if m.on (F.RX_CFG_EN r) then
      2 * ceilDiv (zklLen (m.fld (F.RX_CFG_CHANS r)) (m.fld (F.RX_CFG_GATH r)) (m.on (F.RX_CFG_KIND r))) 16 else 0)
  + sum 32 (fun k => ceilDiv (4 * m.fld (F.SRC_QS_CHANS k)) 16)
  + sum 16 (fun n => one (m.on (F.CV_CFG_EN n) && m.on (F.CV_CFG_SRC n)))
  + one (m.on F.FCH_EVQ_EVQ_EN) + one (m.on F.JACK_EVQ_EVQ_EN) + sum 4 (fun n => one (m.on (F.SPDI_UCFG_UQ_EN n)))

/-- The enabled queues. -/
def queuesOn (m : State) : List Nat :=
  m.regs.filterMap (fun e => if 0x1000000 ≤ e.1 ∧ e.1 % 0x20 = 0 ∧ e.2.bits 31 31 = 1 then some ((e.1 - 0x1000000) / 0x20) else none)

/-- SHARED, and the share that HOST-class queues may take of it (R400, R401). -/
def poolShared (m : State) : Int := 65536 - ((((queuesOn m).map (fun q => m.fld (F.QMG_QCFG_RES q))).foldl (· + ·) 0 : Nat) : Int)
def poolHostX (m : State) : Nat :=
  let cs := consumers m
  ((queuesOn m).map (fun q => if queueClass q cs = 3 then m.fld (F.QMG_QCFG_MAXC q) - m.fld (F.QMG_QCFG_RES q) else 0)).foldl (· + ·) 0

/-- The sums of R512 in their order. -/
def budgetSums (s m : State) : List BudSum :=
  let a := planOf false s m
  let b := planOf true s m
  let maxOf := fun (l : List Nat) => l.foldl max 0
  let two := fun (id limit steady cross : Nat) => [BudSum.mk id false steady limit, BudSum.mk id true cross limit]
  let mix := fun (p : Plan) => if p.nbus = 0 then 0 else p.start + 48 + 24 * p.nbus
  two 1 3072 (audLoad false 0 32 m) (audLoad true 0 32 m)
  ++ two 2 5120 (audLoad false 0 48 m + ctlLoad m) (audLoad true 0 48 m + ctlLoad m)
  ++ [⟨3, false, (srcUsers m).length, 320⟩, ⟨4, false, ((srcInt m).1 + (srcInt m).2 : Nat), 1024⟩]
  ++ two 5 5120 (maxOf a.loads) (maxOf b.loads) ++ two 6 5119 a.chain b.chain ++ two 7 5120 (mix a) (mix b)
  ++ two 8 5119 (maxOf a.ends) (maxOf b.ends) ++ two 9 4608 (partCycles false m) (partCycles true m)
  ++ [⟨10, false, histUsed m, 128⟩, ⟨11, false, min (svcRotMin 0 m) (svcRotMin 1 m), 8⟩,
      ⟨12, false, (svcUnslotted 0 m + svcUnslotted 1 m : Nat), 0⟩, ⟨13, false, poolCharge m, 8192⟩,
      ⟨14, false, poolHostX m, poolShared m - 1024⟩]

/-- The page a sum belongs to. -/
def budPage (id : Nat) : Nat :=
  if id ≤ 2 then Pg.fchEvt else if id ≤ 4 then Pg.src else if id ≤ 6 then Pg.spn else if id = 7 then Pg.mix
  else if id ≤ 10 then Pg.fx else if id ≤ 12 then Pg.svc else Pg.qmg

/-- What collation found: verdicts with the registers that gave them, in the order of R509, and the first sum over its limit. -/
structure Findings where
  found : List (Nat × List Nat)
  sum : Option BudSum
  deriving DecidableEq, Repr

/-- The checks of R509; `m` is the image over the live values. -/
def collate (s m : State) : Findings :=
  let fields := [(7, lockedKeys s), (6, rangeKeys s m), (5, calKeys s m), (4, headbandKeys m), (3, rateKeys m)].filter
    (fun e => !e.2.isEmpty)
  if !fields.isEmpty then ⟨fields, none⟩
  else
    let loop := match planLoop m with
      | some k => [(2, [(0x081 + k / 512) * 4096 + 0x800 + 4 * (k % 512)])]
      | none => []
    match (budgetSums s m).find? (fun b => !b.ok) with
    | some b => ⟨loop ++ [(1, [budPage b.id * 4096])], some b⟩
    | none => ⟨loop, none⟩

/-- The overall verdict, the verdicts found as VMASK, and the register of the first failure (R509, R511). -/
def Findings.verdict (f : Findings) : Nat := ((f.found.head?).map (·.1)).getD 0
def Findings.vmask (f : Findings) : Nat := if f.found.isEmpty then 1 else f.found.foldl (fun a e => a + 2 ^ e.1) 0
def Findings.first (f : Findings) : Option Nat := (f.found.head?).map (fun e => e.2.foldl min (e.2.headD 0))

end Sys2Proof.Machine
end

