-- ==== Sys2Proof/Machine/Press.lean ====
section
/-!
DEFINITION. The press (R503-R521): its commands, the copy of the image, the verdict, the dies, and what goes live when.
-/

namespace Sys2Proof.Machine

/-- PSTATE: 0 IDLE, 1 COLLATING, 2 ARMED, 3 ANNOUNCED, 4 COMMITTED. -/
def pressState (s : State) : Nat := s.fld F.PRESS_STAT_PSTATE

/-- One result in PRESS_RES (R521). -/
def pressResult (applied withdrawn : Bool) (vmask verdict : Nat) (s : State) : State :=
  (s.post Adr.PRESS_RES ((((((0 : Word).put 22 22 (if applied then 1 else 0)).put 21 21 (if withdrawn then 1 else 0)).put 20 12 vmask).put
    3 0 verdict))).raise Pg.press 0

/-- Nothing is in flight any more: the image is dropped and frozen banks are released (R506). -/
def pressIdle (s : State) : State :=
  fxBanksShow <| banksShow { s.setFld F.PRESS_STAT_PSTATE 0 with
    image := [], imageMc := [], press := { seq := s.press.seq, later := s.press.later } }

/-- The outcome of a press command: accepted, or CMD_ERR and CMDERR_CNT (R506). -/
def pressAccept (ok : Bool) (f : State → State) (s : State) : State :=
  if ok then f (s.setFld F.PRESS_STAT_CMD_ERR 0)
  else (s.setFld F.PRESS_STAT_CMD_ERR 1).bump F.PRESS_CNT2_CMDERR_CNT F.PRESS_CNT2_CE_SAT

/-- COLLATE (`kind` 1) or PRESS (`kind` 2) from an origin (R506, R507). -/
def pressStart (kind : Nat) (byMc : Bool) (s : State) : State :=
  pressAccept (s.press.kind == 0) (fun s =>
    let tgt := s.fld F.PRESS_TGT_LO_TGT_LO + s.fld F.PRESS_TGT_HI_TGT_HI * 2 ^ 32
    { s.setFld F.PRESS_STAT_PSTATE 1 with
      press := { s.press with kind := kind, landed := s.tick, target := if kind = 2 then tgt else 0, byMc := byMc, imaged := false,
                              vmask := 0 } }) s

/-- A command of the press to both dies, in this tick's control bursts (R513, R514). -/
def tellDies (m : LinkMsg) (s : State) : State := s.each 2 (fun l s => s.tell (2 * l) s.tick m)

/-- Whether the commit point of the press, cycle 2,048 of tick s − 7, is past (R514). -/
def commitPast (s : State) : Bool := decide (5120 * s.press.s ≤ 5120 * (s.tick + 7) + s.cyc - 2048)

/-- WITHDRAW (R506, R514): the dies discard the image that a press has sent them. -/
def pressWithdraw (s : State) : State :=
  pressAccept (s.press.kind != 0 && (decide (pressState s ≤ 2) || (pressState s == 3 && !commitPast s))) (fun s =>
    pressIdle (pressResult false true s.press.vmask 0 (s.when (s.press.kind == 2) (tellDies (.abort s.press.seq))))) s

/-- REVERT: every live value into its shadow (R505). -/
def pressRevert (s : State) : State :=
  pressAccept (s.press.kind == 0) (fun s =>
    { s with shadow := s.regs.foldl (fun m e =>
               if stMask e.1 = 0 then m else SMap.set resetWord m e.1 (stMerge e.1 e.2 (resetWord e.1))) [],
             shadowMc := [] }) s

/-- A command of PRESS_CMD (R506). -/
def pressCmd (code : Nat) (byMc : Bool) (s : State) : State :=
  if code = 1 then pressStart 1 byMc s
  else if code = 2 then pressStart 2 byMc s
  else if code = 3 then pressWithdraw s
  else if code = 4 then pressRevert s
  else s

/-- A die's part of the image, and its CRC-32 (R513, R514): address and word of each of its words, in rising order, little-endian. -/
def dieImage (l : Nat) (s : State) : SMap Word := s.image.filter (fun e => dieOf e.1 == some l)
def imageCrc (m : SMap Word) : Word := crc32 (m.flatMap (fun e => leBytes 4 e.1 ++ leBytes 4 e.2.toNat))

/-- A staged field is clamped in the image and in the shadow, and counted (R309, R392). -/
def clampStaged (page lo hi : Nat) (f : Fld) (s : State) : State :=
  let v := imageFld f s
  if clampNat lo hi v = v then s
  else
    let fix := fun (m : SMap Word) =>
      let w := SMap.get resetWord m f.addr
      SMap.set resetWord m f.addr (w.put f.hi f.lo (clampNat lo hi (w.bits f.hi f.lo)))
    State.viol page 3 (f.addr % 4096) { s with image := fix s.image, shadow := fix s.shadow }

/-- The clamps of collation (R309, R392). -/
def pressClamps (s : State) : State :=
  let s := s.each 20 (fun o s => clampStaged Pg.out (s.fld (F.OUT_HB_HB_LEVEL o)) 3 (F.OUT_CFG_LEVEL o) s)
  let s := clampStaged Pg.bst (clampNat 20 100 (s.fld F.BST_HB_HB_HEADROOM)) 255 F.BST_TRACK_HEADROOM s
  clampStaged Pg.bst 80 (bstTop s) F.BST_BOUND_CEIL (clampStaged Pg.bst 80 (bstTop s) F.BST_BOUND_FLOOR s)

/-- The clamps that a later look at the headband adds: each die gets the words that changed (R513). -/
def reclamp (s : State) : State :=
  let t := pressClamps s
  let moved := t.image.filter (fun e => SMap.get resetWord s.image e.1 != e.2)
  t.when (s.press.kind == 2) (fun t => t.eachOf moved (fun e t => match dieOf e.1 with
    | some l => t.when (!(t.fld F.PRESS_STAT_DIE_SKIP).testBit l) (State.tell (2 * l) t.tick (.image e.1 e.2))
    | none => t))

/-- The image is copied at cycle 0 of the tick after the command's and clamped (R309, R392, R504); a press sends each die its part; a die
whose link is down gets none (R513, R516). -/
def pressCopy (s : State) : State :=
  if s.press.kind = 0 ∨ s.press.imaged ∨ s.tick ≤ s.press.landed then s
  else
    let skip := (if s.linkUp 0 then 0 else 1) + (if s.linkUp 1 then 0 else 2)
    let s := pressClamps (fxBanksShow <| banksShow
      { s with image := s.shadow, imageMc := s.shadowMc, press := { s.press with imaged := true, banksFrozen := true } })
    s.when (s.press.kind == 2) (fun s =>
      (s.setFld F.PRESS_STAT_DIE_SKIP skip).each 2 (fun l s => s.when (s.linkUp l) (fun s =>
        (s.tell (2 * l) s.tick (.abort s.press.seq)).eachOf (dieImage l s) (fun e s => s.tell (2 * l) s.tick (.image e.1 e.2)))))

/-- VSEQ and VERDICT on every page whose image differs and on the page of the first failure (R511). -/
def pressPages (verdict : Nat) (first : Option Nat) (s : State) : State :=
  let pages := ((imageChanges s).map (fun a => pageKey a / 4096) ++ (first.map (· / 4096)).toList).eraseDups
  s.eachOf pages (fun p s => (s.setFld (F.pgVseq p) (s.fld (F.pgVseq p) + 1)).setFld (F.pgVerdict p) verdict)

/-- The warning of R264 as collation finds it. -/
def pressWarn (m s : State) : State :=
  match planWarn m with
  | some n => (s.setFld F.FX_STAT_WARN_LEN 1).setFld F.FX_STAT_WARN_NODE n
  | none => (s.setFld F.FX_STAT_WARN_LEN 0).setFld F.FX_STAT_WARN_NODE 0

/-- What collation leaves in the page registers and in PRESS_RES (R508, R510). -/
def pressRecord (f : Findings) (m s : State) : State :=
  let s := pressWarn m ((pressPages f.verdict f.first s).setFld F.PRESS_STAT_CTIME (s.tick - s.press.landed))
  let s := match f.first with
    | some k => (s.setFld F.PRESS_FAIL_PAGE (k / 4096)).setFld F.PRESS_FAIL_OFS (k % 4096)
    | none => (s.setFld F.PRESS_FAIL_PAGE 0).setFld F.PRESS_FAIL_OFS 0
  let s := match f.sum with
    | some b => (((s.setFld F.PRESS_BUD_BUD_ID b.id).setOn F.PRESS_BUD_XF b.xf).setInt F.PRESS_BUD_VAL_BUD_VAL b.value).setInt
        F.PRESS_BUD_LIM_BUD_LIM b.limit
    | none => ((s.setWord Adr.PRESS_BUD 0).setWord Adr.PRESS_BUD_VAL 0).setWord Adr.PRESS_BUD_LIM 0
  pressResult false false f.vmask f.verdict s

/-- COLLATE ends here, a refused PRESS too; an accepted one goes on to its tick s (R508, R511). -/
def pressJudge (f : Findings) (s : State) : State :=
  if s.press.kind = 1 then pressIdle s
  else if f.verdict ≠ 0 then
    pressIdle ((s.bump F.PRESS_CNT_REFUSE_CNT F.PRESS_CNT_RF_SAT).raise Pg.press 2)
  else
    let t := if s.press.target = 0 then s.tick + 17 else s.press.target
    let s := (s.setFld F.PRESS_S_LO_S_LO (t % 2 ^ 32)).setFld F.PRESS_S_HI_S_HI (t / 2 ^ 32)
    { s.setFld F.PRESS_STAT_PSTATE 2 with press := { s.press with s := t, vmask := f.vmask } }

/-- Collation ends in this tick with its verdict (R507-R511, R521). -/
def collationDone (s : State) : State :=
  if s.press.kind = 0 || !s.press.imaged || pressState s != 1 then s
  else
    let s := reclamp s
    let m := overlay s
    let f := collate s m
    pressJudge f (pressRecord f m s)

/-- ANNOUNCE at tick s − 16 (R514). -/
def pressAnnounce (s : State) : State :=
  if s.press.kind = 2 ∧ pressState s = 2 ∧ s.press.s ≤ s.tick + 16 then
    let s := { s.setFld F.PRESS_STAT_PSTATE 3 with press := { s.press with seq := s.press.seq + 1, replies := [] } }
    s.each 2 (fun l s => s.tell (2 * l) s.tick (.announce s.press.seq s.press.s (imageCrc (dieImage l s))))
  else s

/-- A die's reply to ANNOUNCE is in hand (R514). -/
def pressReply (l seq : Nat) (ok : Bool) (s : State) : State :=
  if s.press.kind = 2 ∧ pressState s = 3 ∧ s.press.seq = seq then
    { s with press := { s.press with replies := SMap.set (fun _ => 0) s.press.replies l (if ok then 1 else 2) } }
  else s

/-- The reply of a die to the announced press: 0 none, 1 ACK, 2 NACK (R514). -/
def pressAnswer (l : Nat) (s : State) : Nat := SMap.get (fun _ => 0) s.press.replies l

/-- The commit point (R514, R515). A die whose link is down is skipped (R516). -/
def pressCommit (s : State) : State :=
  if s.press.kind ≠ 2 ∨ pressState s ≠ 3 ∨ s.tick + 7 < s.press.s then s
  else
    let down := (List.range 2).filter (fun d => !s.linkUp d || (s.fld F.PRESS_STAT_DIE_SKIP).testBit d)
    let s := s.setFld F.PRESS_STAT_DIE_SKIP (down.foldl (fun a d => a + 2 ^ d) 0)
    let bad := (List.range 2).filter (fun d => !down.contains d && pressAnswer d s != 1)
    if bad.isEmpty then tellDies (.commit s.press.seq) (s.setFld F.PRESS_STAT_PSTATE 4)
    else
      let s := tellDies (.abort s.press.seq) s
      let s := s.eachOf bad (fun d s => s.report (if pressAnswer d s = 2 then 0x4041 else 0x4042) d 0)
      let s := (s.bump F.PRESS_CNT2_NACK_CNT F.PRESS_CNT2_NK_SAT).bump F.PRESS_CNT_REFUSE_CNT F.PRESS_CNT_RF_SAT
      pressIdle (((pressResult false false (2 ^ 8) 8 s).raise Pg.press 2).raise Pg.press 3)

/-- The block with a frame boundary of its own that a register belongs to: 0 SVC, 1 + p SAP port, 17 S/PDIF transmit, 18 + n Zinkor transmit
stream (R517). -/
def laterUnit (a : Nat) : Option Nat :=
  let p := a / 4096 - 0x050
  if a = Adr.SVC_SEQ_LEN ∨ (Adr.SV_ENT 0 0 ≤ a ∧ a < Adr.SV_ENT 0 0 + 0x200) then some 0
  else if 0x050 ≤ a / 4096 ∧ a / 4096 < 0x060 ∧ (a = Adr.SAP_RX_MASK p ∨ a = Adr.SAP_TX_MASK p ∨ a = Adr.SAP_TXCFG p) then some (1 + p)
  else if Adr.SPDO_CS 0 0 ≤ a ∧ a < Adr.SPDO_CS 0 0 + 0x80 then some 17
  else if Adr.TX_CFG 0 ≤ a ∧ a < Adr.TX_CFG 64 then some (18 + (a - Adr.TX_CFG 0) / 0x20)
  else none

/-- Whether a controller port's frame starts at this tick (R184). -/
def sapFrameStart (p : Nat) (s : State) : Bool :=
  let r := s.fld (F.SAP_CFG_PRATE p)
  sapCtl p s && (r == 2 || (r == 1 && s.tick % 2 == 0) || (r == 0 && s.tick % 4 == 0))

/-- Whether a gathering of a GATH code begins in this tick (R457). -/
def gathBegins (g : Nat) (s : State) : Bool := domTick s.tick s % (gathTicks g : Int) == 0

/-- Whether the press of `m` over `s` waits in a block (R176, R191, R218, R471). -/
def laterWaits (u : Nat) (s m : State) : Bool :=
  if u = 0 then s.tick % 4 != 0
  else if u = 17 then s.on F.SPDO_CFG_EN
  else if 18 ≤ u then s.on (F.TX_CFG_EN (u - 18)) && s.on F.TIME_STAT_DOFS_SET && !gathBegins (m.fld (F.TX_CFG_GATH (u - 18))) s
  else decide (5 ≤ sapPs (u - 1) s ∧ sapPs (u - 1) s ≤ 8) && !sapReframes (u - 1) s m && !sapFrameStart (u - 1) s

/-- The GATH code of a Zinkor stream after what waits for it. -/
def laterGath (n : Nat) (s : State) : Nat :=
  let f := F.TX_CFG_GATH n
  match s.press.later.find? (fun e => e.1 == f.addr) with
  | some e => e.2.bits f.hi f.lo
  | none => s.fld f

/-- Whether a block that waits has come to its boundary; a follower port's frame start is the command itself. -/
def laterDue (u : Nat) (s : State) : Bool :=
  if u = 0 then s.tick % 4 == 0
  else if u = 17 then s.spd.txFrame % 192 == 0
  else if 18 ≤ u then gathBegins (laterGath (u - 18) s) s
  else !sapCtl (u - 1) s || sapFrameStart (u - 1) s || decide (sapPs (u - 1) s < 5)

/-- Queues at a press (R410, R419), with the figures of R400, R402 and R411. -/
def qmgPress (old s : State) : State :=
  let cs := consumers s
  let qs := ((old.regs ++ s.regs).filter (fun e => decide (0x1000000 ≤ e.1 ∧ e.1 % 0x20 ≤ 8))).map (fun e => (e.1 - 0x1000000) / 0x20)
  let touched := (qs ++ (consumers old).map (·.1) ++ cs.map (·.1)).eraseDups
  let s := s.eachOf touched (fun q s =>
    let s := s.when (old.on (F.QMG_QCFG_EN q) && !s.on (F.QMG_QCFG_EN q)) (qDisable q)
    let s := s.when (old.on (F.QMG_QCFG_EN q) != s.on (F.QMG_QCFG_EN q)) (State.setFld (F.QMG_QSTAT_FLUSHED q) 0)
    let s := s.when (old.word (Adr.QMG_QWM q) != s.word (Adr.QMG_QWM q)) (qXoff q)
    s.setFld (F.QMG_QSTAT_CCLASS q) (queueClass q cs))
  let s := s.each 64 (fun w s =>
    let moved := old.fld (F.WP_CFG_WQID w) != s.fld (F.WP_CFG_WQID w) || (old.on (F.WP_CFG_WEN w) && !s.on (F.WP_CFG_WEN w))
    let q := old.fld (F.WP_CFG_WQID w)
    s.when (moved && (qOpenOf (s.queue q) (winProd w)).isSome) (fun s => winLose w (qCancel q (winProd w) false s)))
  let s := (s.setInt F.QMG_SHARED_SHARED (poolShared s)).setFld F.QMG_HOSTX_HOSTX (poolHostX s)
  s.setFld F.QMG_LOAD_ACC (poolCharge s)

/-- The analog inputs and the filter chain at a press (R106-R109, R138-R142). -/
def inputsPress (old s : State) : State :=
  let s := s.each 32 (fun n s =>
    let new := s.fld (F.AIN_CFG_MODE n)
    let s := ainPga n (old.fld (F.AIN_CFG_PGA n)) (s.fld (F.AIN_CFG_PGA n)) s
    let s := ainForce n (old.fld (F.AIN_CFG_PATH_FORCE n)) (s.fld (F.AIN_CFG_PATH_FORCE n)) s
    s.when (old.fld (F.AIN_CFG_MODE n) != new) (ainMode n new))
  let s := micPress old (s.each 8 micbPress)
  let s := s.each 48 (fun d s =>
    let b := s.fld (F.FCH_ACFG_ACT_BANK d)
    if audUsed d old then audSwap d b s
    else
      let s := s.setFld (F.FCH_ASTAT_LIVE_BANK d) b
      s.setFld (F.FCH_ASTAT_DLY d) (audDly (audPreset d s)))
  let s := s.each 32 (fun c s =>
    let b := s.fld (F.FCH_CCFG_ACT_BANK c)
    let moved := old.fld (F.FCH_CCFG_SRC_CONV c) != s.fld (F.FCH_CCFG_SRC_CONV c)
      || old.fld (F.FCH_CCFG_SRC_ENTRY c) != s.fld (F.FCH_CCFG_SRC_ENTRY c)
    if moved then ctlFrozenShow c (ctlStart c ((s.setCtl c { s.ctl c with swap := none }).setFld (F.FCH_CSTAT_LIVE_BANK c) b))
    else
      let s := ctlSwap c b s
      s.setFld (F.FCH_CCFG_ACT_BANK c) (s.fld (F.FCH_CSTAT_LIVE_BANK c)))
  (s.setFld F.FCH_LOAD_LOAD_AIN (audLoad false 0 32 s)).setFld F.FCH_LOAD_LOAD_ALL (audLoad false 0 48 s + ctlLoad s)

/-- Every block makes its part of the image live (R517); `old` is the state before. -/
def pressBlocks (old s : State) : State :=
  let steady := planOf false old s
  let cross := planOf true old s
  let s := planShow { steady with order := cross.order } s
  let s := s.each 19 (fun i s => s.when (old.word (Adr.CLK_FDIV i) != s.word (Adr.CLK_FDIV i)) (fdivPress i))
  let s := inputsPress old s
  let s := svcPress old s
  let s := qsPress old (spdoPress old (spdiPress old (sapPress old s)))
  let s := srcBind s
  let s := fxPress old (glidePress (mixPress s))
  let s := spkPress old (cvPress old (jackPress old (outPress old s)))
  let s := zklPress old (netPress (serialWord 0) old (timePress old s))
  qmgPress old s

/-- Whether an announced press is to go live in this tick. -/
def pressDue (s : State) : Bool := s.press.kind == 2 && pressState s == 4 && decide (s.press.s ≤ s.tick)

/-- The sinks of the outputs, CV outputs and the boost latch the values of the tick at cycle 0 (R46). -/
def sinksLatch (s : State) : State := bstTick (cvTick (s.each 20 outSend))

/-- The complete live configuration of a die's pages as commands of its link (R25, R516). -/
def liveConfig (l : Nat) (s : State) : State :=
  let keys := ((s.regs ++ (s.die l).cfg).map (·.1)).eraseDups.filter (fun a => dieOf a == some l)
  s.eachOf keys (fun a s => s.tell (2 * l) s.tick (.config a (s.word a)))

/-- The stored parts of the dies after the clamps of tick s (R309, R392, R519). -/
def dieClamps (old s : State) : State :=
  let moved := s.image.filter (fun e => SMap.get resetWord old.image e.1 != e.2)
  s.eachOf moved (fun e s => match dieOf e.1 with
    | some l => s.setDie l { s.die l with image := SMap.set resetWord (s.die l).image e.1 e.2 }
    | none => s)

/-- The dies at tick s (R514, R516, R517): one that took COMMIT makes its stored part live, a skipped one is sent the live
configuration; the image is discarded. -/
def diesPress (s : State) : State :=
  s.each 2 (fun l s =>
    let x := s.die l
    if x.commit ∧ x.press.map (·.1) = some s.press.seq then
      let put := fun (m : SMap Word) (e : Nat × Word) => SMap.set resetWord m e.1 (stMerge e.1 e.2 (SMap.get resetWord m e.1))
      s.setDie l { cfg := x.image.foldl put x.cfg }
    else liveConfig l (s.setDie l { cfg := x.cfg }))

/-- The headband registers that a press takes as the tick before it left them (R311, R337, R365, R519). -/
def hbKeys : List Nat :=
  (List.range 20).map Adr.OUT_HB ++ (List.range 16).map Adr.CV_HB ++ (List.range 16).map Adr.CV_HB_SLEW
    ++ (List.range 8).map Adr.SPK_HB_P ++ (List.range 8).map Adr.SPK_HB_I ++ (List.range 8).map Adr.SPK_HB_T ++ [Adr.BST_HB]

/-- The headband as the tick before left it, where a press goes live in this tick. -/
def hbLatch (s : State) : State :=
  s.when (pressDue s) (fun s => { s with press := { s.press with hb := hbKeys.map (fun a => (a, s.word a)) } })

/-- `f` over the headband that the press uses; what has been written since comes back after it. -/
def hbUse (f : State → State) (s : State) : State :=
  let now := s.press.hb.map (fun e => (e.1, s.word e.1))
  let put := fun (t : State) (e : Nat × Word) => t.setWord e.1 e.2
  let t := now.foldl put (f (s.press.hb.foldl put s))
  { t with press := { t.press with hb := [] } }

/-- Tick s: the image goes live on every die and in every block, and the sinks latch the tick's values from their new sources
(R46, R244, R514, R517, R521). -/
def pressLive (s : State) : State :=
    let s := dieClamps s (pressClamps s)
    let m := overlay s
    let waits := fun (a : Nat) => match laterUnit a with
      | some u => laterWaits u s m
      | none => false
    let keys := imageChanges s
    let live := keys.foldl (fun t a => if waits a then t else t.setWord a (m.word a)) s
    let later := (keys.filter waits).foldl (fun l a => SMap.set resetWord l a (m.word a)) []
    let set := s.shadow
    let t := sinksLatch (pressBlocks s { diesPress live with press := { live.press with later := later } })
    let cal := Adr.TIME_CAL_CFG
    let t := t.when (SMap.get resetWord set cal == SMap.get resetWord s.image cal)
      (fun t => t.setShadow cal ((SMap.get resetWord t.shadow cal).put 1 1 0))
    pressIdle (((pressResult true false s.press.vmask 0 t).bump F.PRESS_CNT_PRESS_CNT F.PRESS_CNT_PR_SAT).raise Pg.press 1)

/-- PRESS_APPLY (R517, R519). -/
def pressApply (s : State) : State := if pressDue s then hbUse pressLive s else s

/-- A block that waited for its boundary makes the pressed words live (R176, R191, R218, R471). -/
def deferredApply (u : Nat) (s : State) : State :=
  let mine := s.press.later.filter (fun e => laterUnit e.1 == some u)
  if mine.isEmpty || !laterDue u s then s
  else
    let t := mine.foldl (fun t e => t.setWord e.1 (stMerge e.1 e.2 (t.word e.1)))
      { s with press := { s.press with later := s.press.later.filter (fun e => laterUnit e.1 != some u) } }
    if u = 0 then svcPress s t else if u = 17 then t else if 18 ≤ u then zklPress s t else srcBind (sapPress s t)

/-- PG_STAGE.PEND of a page: a shadow differs from its live value, or a press of this page waits for its tick s or for its boundary
(R497, R517). -/
def pagePend (p : Nat) (s : State) : Bool :=
  let here := fun (a : Nat) => pageKey a / 4096 == p
  let differs := fun (m : SMap Word) =>
    (m ++ s.regs).any (fun e => here e.1 && stMask e.1 &&& (SMap.get resetWord m e.1 ^^^ s.word e.1) != 0)
  differs s.shadow || s.press.later.any (fun e => here e.1) || (s.press.kind == 2 && decide (2 ≤ pressState s) && differs s.image)

/-- The blocks a source's value depends on, and the sinks it is made from (R538). -/
def depStep (src : Nat) (m : State) : Nat × List Nat :=
  if src < 0x010 then (0, [])
  else if src < 0x030 then (2, [])
  else if src < 0x040 then (3, [])
  else if src < 0x060 then (2, [])
  else if src < 0x100 then (5, [])
  else if src < 0x300 then
    let p := (src - 0x100) / 32
    (if m.fld (F.SAP_CFG_MODE p) = 0 ∧ m.fld (F.SAP_CFG_PRATE p) = 2 then 1 else 5, [])
  else if src < 0x400 then (if m.fld (F.SRC_QS_RATE ((src - 0x300) / 8)) = 2 then 0x200 else 0x204, [])
  else if src < 0x4C0 then (8, (List.range 0x180).map (0x400 + ·))
  else if 0x500 ≤ src ∧ src < 0x580 then (if bqOn (src - 0x500) m then (0x10, [src + 0x100]) else (0, []))
  else if 0x580 ≤ src ∧ src < 0x600 then (if dynOn (src - 0x580) m then (0x20, planKeys (dynGroup (src - 0x580) m) m) else (0, []))
  else if 0x600 ≤ src ∧ src < 0x680 then
    (if dlOn (src - 0x600) m then (0x40, (src + 0x100) :: planMods (src - 0x600) m) else (0, []))
  else if 0x680 ≤ src ∧ src < 0x780 then
    let k := m.fld (F.TAP_CFG_LINE (src - 0x680))
    (if tapOn (src - 0x680) m then (0x40, (0x700 + k) :: planMods k m) else (0, []))
  else if 0x780 ≤ src ∧ src < 0x7A0 then (if convOn (src - 0x780) m then (0x80, [src]) else (0, []))
  else if 0x7A0 ≤ src ∧ src < 0x7E0 then (if shOn (src - 0x7A0) m then (0x100, [src]) else (0, []))
  else if 0x800 ≤ src then (0x400, [])
  else (0, [])

/-- The sources reached, each once; the mixer's buses count as one. -/
def depGo (routes : List (Nat × Nat × Bool)) (m : State) : Nat → List Nat → List Nat → Nat → Nat
  | 0, _, _, mask => mask
  | _ + 1, [], _, mask => mask
  | n + 1, src :: todo, seen, mask =>
    let key := if 0x400 ≤ src ∧ src < 0x4C0 then 0x400 else src
    if seen.contains key then depGo routes m n todo seen mask
    else
      let (b, sinks) := depStep src m
      let more := (routes.filter (fun r => sinks.contains r.1)).map (·.2.1)
      depGo routes m n (more ++ todo) (key :: seen) (mask ||| b)

/-- The mask DEP of a sink (R538): what crosses a converter on the way out depends on SRC too. -/
def depOf (sink : Nat) (m : State) : Nat :=
  let routes := planRoutes m
  let out := if 0x040 ≤ sink ∧ sink < 0x048 then (if m.fld F.SPDO_CFG_TXRATE = 2 then 0 else 4)
    else if 0x100 ≤ sink ∧ sink < 0x300 then
      (let p := (sink - 0x100) / 32
       if m.fld (F.SAP_CFG_MODE p) = 0 ∧ m.fld (F.SAP_CFG_PRATE p) = 2 then 0 else 4)
    else if 0x300 ≤ sink ∧ sink < 0x400 then (if m.fld (F.SRC_QS_RATE ((sink - 0x300) / 8)) = 2 then 0 else 4)
    else 0
  let cvq := 0x020 ≤ sink && sink < 0x030 && m.on (F.CV_CFG_EN (sink - 0x020)) && m.on (F.CV_CFG_SRC (sink - 0x020))
  if cvq then 0x200
  else match routes.find? (fun r => r.1 == sink) with
    | none => 0
    | some r => depGo routes m (4 * routes.length + 8) [r.2.1] [] (0x800 ||| out)

/-- COLLATE. -/
def execCollate (o : Origin) (s : State) : Host.Outcome State Fault Refusal := s.heardFrom o (.next (pressCmd 1 (o == .mc) s))

/-- PRESS. -/
def execPress (o : Origin) (s : State) : Host.Outcome State Fault Refusal := s.heardFrom o (.next (pressCmd 2 (o == .mc) s))

/-- WITHDRAW. -/
def execWithdraw (s : State) : Host.Outcome State Fault Refusal := s.heard (.next (pressCmd 3 false s))

/-- REVERT. -/
def execRevert (s : State) : Host.Outcome State Fault Refusal := s.heard (.next (pressCmd 4 false s))

/-- COLLATION_DONE. -/
def execCollationDone (s : State) : Host.Outcome State Fault Refusal := s.ticking (.next (collationDone s))

/-- PRESS_ANNOUNCE. -/
def execPressAnnounce (s : State) : Host.Outcome State Fault Refusal := s.ticking (.next (pressAnnounce s))

/-- PRESS_COMMIT_POINT of the press that ANNOUNCE numbered `seq`: cycle 2,048, or `cyc` where it is served later (R514). -/
def execPressCommitPoint (seq : Nat) (cyc : Fin 5120) (s : State) : Host.Outcome State Fault Refusal :=
  s.ticking (.next (s.when (s.press.seq == seq) (fun s => pressCommit (s.land (max 2048 cyc.val)))))

/-- PRESS_APPLY. -/
def execPressApply (s : State) : Host.Outcome State Fault Refusal := s.ticking (.next (pressApply s))

/-- DEFERRED_APPLY. `unit`: 0 the supervisory converters, 1 + p SAP port p, 17 the S/PDIF transmitters, 18 + n Zinkor transmit stream
n. -/
def execDeferredApply (unit : Fin 82) (s : State) : Host.Outcome State Fault Refusal := s.ticking (.next (deferredApply unit.val s))

end Sys2Proof.Machine
end

