-- ==== Sys2Proof/Machine/Page.lean ====
section
/-!
DEFINITION. The state every page shows in PG_STATE (R497 and the chapter of each block), and its least READY bit.
-/

namespace Sys2Proof.Machine

/-- The state of the FCH pages (R157). -/
def fchPageState (s : State) : Nat := if s.fch.eng.faulted then 4 else if engineGuarded s.fch.eng then 3 else 2

/-- The state of the QMG pages (R414). -/
def qmgPageState (s : State) : Nat := if s.qmg.faulted then 4 else if s.qmg.consFail then 3 else 2

/-- The state a page's block gives it. -/
def blockState (p : Nat) (s : State) : Nat :=
  if p = Pg.flt then (if s.flt.self then 4 else 2)
  else if p = Pg.time then timePageState s
  else if p = Pg.mbox then (if s.on F.MBOX_STAT_MC_RDY then 2 else 1)
  else if p < 0x010 then 2
  else if p < 0x030 then ainPageState (p - 0x010) s
  else if p < 0x040 then fchPageState s
  else if p < 0x050 then svcPageState s
  else if p < 0x060 then sapPageState (p - 0x050) s
  else if p = Pg.pdm then pdmPageState s
  else if p < 0x065 then spdiPageState (p - 0x061) s
  else if p < 0x070 then spdoPageState s
  else if p < 0x080 then srcPageState s
  else if p < 0x090 then spnPageState s
  else if p < 0x0A0 then mixPageState s
  else if p < 0x0B0 then fxPageState s
  else if p < 0x0C0 then outPageState s
  else if p < 0x0D0 then jackPageState s
  else if p < 0x0E0 then cvPageState s
  else if p < 0x0F0 then spkPageState (p - 0x0E0) s
  else if p < 0x100 then bstPageState s
  else if p < 0x110 then qmgPageState s
  else if p < 0x120 then (if 0x111 ≤ p ∧ p ≤ 0x115 then portPageState (p - 0x111) s else 2)
  else zklPageState s

/-- Whether a page has inputs or outputs of the part: part-wide isolation shows on it (R536). -/
def pageHasPins (p : Nat) : Bool :=
  (0x010 ≤ p && p < 0x030) || p == Pg.svc || (0x050 ≤ p && p < 0x066) || p == Pg.out || p == Pg.cv
    || (0x0E0 ≤ p && p < 0x0F1) || (0x111 ≤ p && p < 0x116) || (0x120 ≤ p && p < 0x122)

/-- STATE of a page (R497): a factory item without a VALID word leaves the page of its block DEGRADED (R554). -/
def pageState (p : Nat) (s : State) : Nat :=
  let b := blockState p s
  if s.on F.FLT_STAT_PARTWIDE && pageHasPins p then 5
  else if b == 2 && s.nvm.trims.any (fun t => t.2 == p) then 3 else b

/-- READY of a page: its function can be used (R497). -/
def pageReady (p : Nat) (s : State) : Bool := pageState p s == 2 || pageState p s == 3

end Sys2Proof.Machine
end

