-- ==== Sys2Proof/Machine/Flt.lean ====
section
/-!
DEFINITION. The fault manager (R527-R551): reports, the log, FAULT_N, isolation, die temperatures, the watchdog, the view comparison.
-/

namespace Sys2Proof.Machine

/-- The page whose PG_FAULT a fault updates (R532). -/
def faultPage (code inst : Nat) : Nat :=
  let block := code / 64 % 64
  let det := code % 64
  if code / 4096 = 8 ∧ 0x3D ≤ det then inst
  else if block = 0x11 then Pg.ain (inst % 32)
  else if block = 0x13 then
    (if code = 0x54C5 then Pg.fchEvt else if inst < 0x040 then Pg.fchAudio (inst - 0x010) else Pg.fchCtl ((inst - 0x040) % 32))
  else if block = 0x15 then Pg.sap (if det = 0x3C then (inst - 0x100) / 32 % 16 else inst % 16)
  else if block = 0x16 then
    (if code = 0x3581 ∨ (det = 0x3C ∧ inst < 0x080) then Pg.pdm
     else Pg.spdi (if det = 0x3C then (inst - 0x080) / 2 % 4 else inst % 4))
  else if block = 0x1E then Pg.spk (inst % 8)
  else if block = 0x21 then (if code = 0x4845 then Pg.net else Pg.port (inst % 5))
  else if block = 0x22 then
    (if code = 0x8882 ∨ (code = 0x4883 ∧ 256 ≤ inst) then Pg.zkl else Pg.zklRx)
  else if 0x30 ≤ block then Pg.flt
  else if block < 0x10 then block
  else block * 16 - 0x100

/-- The log's registers follow its records (R551). -/
def logShow (s : State) : State :=
  ((s.setFld F.FLT_LOG_STAT_UNSENT (s.flt.log.filter (fun r => !r.sent)).length).setOn F.FLT_LOG_STAT_VALID
    (!s.flt.log.isEmpty)).setFld F.FLT_LOG_STAT_HEAD s.flt.head

/-- Whether two records count as one: same code, instance and tick (R532). -/
def LogRec.same (a b : LogRec) : Bool := a.code == b.code && a.inst == b.inst && a.tick == b.tick

/-- One report more of a record, at most 255 (R533). -/
def LogRec.again (r : LogRec) : LogRec := { r with rep := min 255 (r.rep + 1) }

/-- A record stored in the log RAM (R534): the oldest of 128 makes room once it has been written to LOGQ, or at once while
LOGQ_EN = 0. -/
def logStore (r : LogRec) (s : State) : State :=
  let f := s.flt
  let full := decide (128 ≤ f.log.length)
  let unsent := match f.log with | o :: _ => !o.sent | [] => false
  if full && unsent && s.on F.FLT_LOG_CFG_LOGQ_EN then
    (s.bump F.FLT_LOG_CNT_LOG_LOST F.FLT_LOG_CNT_LL_SAT).raise Pg.flt 5
  else
    let log := (if full then f.log.drop 1 else f.log) ++ [r]
    logShow ({ s with flt := { f with log := log, head := if f.log.isEmpty then 0 else (f.head + 1) % 128 } }.bump
      F.FLT_LOG_CNT_LOG_CNT F.FLT_LOG_CNT_LG_SAT)

/-- One cause of isolation set on bits: (word, bit) pairs (R536, R540). -/
def isolate (bits : List (Nat × Nat)) (why : IsoWhy) (s : State) : State :=
  s.eachOf bits (fun e s =>
    let k := 32 * e.1 + e.2
    let l := SMap.get (fun _ => []) s.flt.why k
    let s := s.when l.isEmpty (fun s => ((s.setFld ⟨Adr.FLT_ISO e.1, e.2, e.2⟩ 1).bump F.FLT_ISO_CNT_ISO_CNT F.FLT_ISO_CNT_IS_SAT).raise
      Pg.flt 1)
    if l.any (fun w => w == why) then s
    else { s with flt := { s.flt with why := SMap.set (fun _ => []) s.flt.why k (l ++ [why]) } })

/-- The isolation bits that the words name (R551). -/
def isoWidth (w : Nat) : Nat := [20, 25, 26].getD w 0
def isoBits (w n : Nat) : List (Nat × Nat) := (List.range n).map (fun b => (w, b))
def isoAll : List (Nat × Nat) := isoBits 0 20 ++ isoBits 1 25 ++ isoBits 2 26

/-- The physical sinks with their isolation bits (R240, R538, R551). -/
def isoSinks : List (Nat × (Nat × Nat)) :=
  (List.range 20).map (fun o => (o, (0, o))) ++ (List.range 16).map (fun n => (0x020 + n, (1, n)))
    ++ (List.range 8).map (fun n => (0x030 + n, (1, 16 + n)))
    ++ (List.range 8).map (fun k => (0x040 + k, (2, 16 + k / 2)))
    ++ (List.range 512).map (fun k => (0x100 + k, (2, k / 32)))

/-- The isolation bits of the physical sinks whose DEP holds a bit (R537). -/
def isoDep (bit : Nat) (s : State) : List (Nat × Nat) :=
  ((isoSinks.filter (fun e => (depOf e.1 s).testBit bit)).map (·.2))

/-- The bit of DEP that a FAULTED engine stands for (R291, R538). -/
def depOfFx (e : Nat) : Nat := [4, 5, 6, 7, 7, 8].getD e 8

/-- What a fault isolates (R537), and whether that may end on its own (R539). -/
def isoTrigger (code inst action : Nat) (s : State) : List (Nat × Nat) × Bool :=
  if code = 0x4081 ∨ code = 0x2103 ∨ code = 0xA084 then (isoAll, false)
  else if code = 0x4602 then (if spnPageState s = 4 then (isoSinks.map (·.2)) else [], false)
  else if code = 0x54C5 then (isoDep 1 s, false)
  else if code = 0x55C1 ∧ action = 4 then (isoDep 2 s, false)
  else if code = 0x5642 then (isoDep 3 s, false)
  else if code = 0x5682 then (isoDep (depOfFx (inst / 16)) s, false)
  else if code = 0x4803 ∧ action = 4 then (isoDep 9 s, false)
  else if code = 0x4C01 ∨ code = 0x4C02 ∨ code = 0x2104 then (isoBits 0 20 ++ isoBits 1 16, true)
  else if code = 0x4C41 ∨ code = 0x4C42 ∨ code = 0x2105 then ((isoBits 1 25).drop 16, true)
  else ([], false)

/-- Whether the part is isolated as a whole (R536). -/
def partShow (s : State) : State :=
  s.setOn F.FLT_STAT_PARTWIDE (s.flt.why.any (fun e => e.2.any (fun w => w.code == 0x4081 || w.code == 0x2103 || w.code == 0xA084)))

/-- A check report logged in this tick (R532, R533): the record, PG_FAULT of its page, the class, the isolation it triggers. -/
def logReport (r : Report) (s : State) : State :=
  let (bits, auto) := isoTrigger r.code r.inst r.action s
  let action := if bits.isEmpty then r.action else 5
  let rec_ : LogRec := { tick := s.tick, cyc := s.cyc, flags := r.flags + (if auto && !bits.isEmpty then 2 else 0), code := r.code,
                         inst := r.inst, action := action }
  let f := s.flt
  if f.log.any rec_.same || f.last.any rec_.same then
    let up := fun (x : LogRec) => if rec_.same x then x.again else x
    { s with flt := { f with log := f.log.map up, first := f.first.map up, last := f.last.map up } }
  else
    let p := faultPage r.code r.inst
    let s := (s.setFld (F.pgLastCode p) r.code).bump (F.pgFltCnt p) (F.pgFltSat p)
    let cls := r.code / 4096
    let s := (s.setFld ⟨Adr.FLT_PEND, cls, cls⟩ 1).raise Pg.flt 0
    let s := { s with flt := { s.flt with last := some rec_, first := s.flt.first.or (some rec_) } }
    partShow (isolate bits { code := r.code, auto := auto } (logStore rec_ s))

/-- The reports of the tick that ended, taken in order (R532). -/
def fltTake (s : State) : State :=
  let l := s.flt.reports
  { s with flt := { s.flt with reports := [] } }.eachOf l logReport

/-- A write by the management controller to a host-only target (R487, R494, R544). -/
def State.configFault (page detail : Nat) (s : State) : State :=
  if s.flt.configLogged.contains (page, s.tick) then s
  else
    let s := s.report (0x8000 + blockCode page * 64 + detail) page 0
    { s with flt := { s.flt with configLogged := (page, s.tick) :: s.flt.configLogged.filter (fun e => e.2 == s.tick) } }
def State.denied (page ofs : Nat) (s : State) : State := (s.viol page 4 ofs).configFault page 0x3F

/-- A host-only register of the FLT page: `f` for the host, a locked write for the controller (R544). -/
def fltHostOnly (o : Origin) (ofs : Nat) (f : State → State) (s : State) : State :=
  if o = .mc then s.denied Pg.flt ofs else f s

/-- Whether the cause of an isolation persists (R539). -/
def isoPersists (w : IsoWhy) (s : State) : Bool :=
  let c := w.code
  s.flt.self || s.clk.lostC
    || ((c == 0x4C01 || c == 0x4C02) && !s.linkUp 0) || ((c == 0x4C41 || c == 0x4C42) && !s.linkUp 1)
    || (c == 0x2104 && !pllLocked 1 s) || (c == 0x2105 && !pllLocked 2 s)
    || (c == 0x54C5 && s.fch.eng.faulted) || (c == 0x55C1 && (s.srcc.engA.faulted || s.srcc.engI.faulted))
    || (c == 0x5642 && s.mix.eng.faulted) || (c == 0x5682 && fxPageState s == 4)
    || (c == 0x4602 && spnPageState s == 4) || (c == 0x4803 && s.qmg.faulted)

/-- The causes that `p` picks taken off an isolation bit; without any left the output is released. -/
def isoDrop (w b : Nat) (p : IsoWhy → Bool) (s : State) : State :=
  let k := 32 * w + b
  let l := (SMap.get (fun _ => []) s.flt.why k).filter (fun x => !p x)
  let s := { s with flt := { s.flt with why := SMap.set (fun _ => []) s.flt.why k l } }
  s.when l.isEmpty (State.setFld ⟨Adr.FLT_ISO w, b, b⟩ 0)

/-- A write of ISO_SET (R537). -/
def isoSet (w : Nat) (bits : Word) (s : State) : State :=
  isolate ((isoBits w (isoWidth w)).filter (fun e => bits.getLsbD e.2)) { host := true } s

/-- A write of ISO_CLR (R539): ignored for an output whose cause persists. -/
def isoClr (w : Nat) (bits : Word) (s : State) : State :=
  partShow (s.each (isoWidth w) (fun b s =>
    if !bits.getLsbD b then s
    else
      let l := SMap.get (fun _ => []) s.flt.why (32 * w + b)
      if l.any (fun x => isoPersists x s) then s.bump F.FLT_ISO_CNT_ISO_ERR F.FLT_ISO_CNT_IE_SAT
      else isoDrop w b (fun _ => true) s))

/-- The triggers of R539: LINK_DOWN and LINK_CONSERVE of either link, PLLM_UNLOCK, PLLP_UNLOCK. -/
def autoCode (t : Nat) : Nat := [0x4C01, 0x4C41, 0x4C02, 0x4C42, 0x2104, 0x2105].getD t 0

/-- The outputs isolated by a trigger return on their own (R539). -/
def isoReturn (t : Nat) (s : State) : State :=
  let c := autoCode t
  let recent := s.flt.returns.filter (fun e => e.1 == c && decide (s.tick - e.2 < 1920000))
  let held := s.flt.why.any (fun e => e.2.any (fun w => w.code == c && w.auto))
  if held && s.on F.FLT_ISO_CFG_AUTO_RET && !isoPersists { code := c } s && decide (recent.length < s.fld F.FLT_ISO_CFG_RET_MAX) then
    let s := s.eachOf isoAll (fun e s => isoDrop e.1 e.2 (fun w => w.code == c && w.auto) s)
    { s with flt := { s.flt with returns := s.flt.returns.filter (fun e => decide (s.tick - e.2 < 1920000)) ++ [(c, s.tick)] } }
  else s

/-- ISOLATE_SET. -/
def execIsolateSet (o : Origin) (w : Fin 3) (bits : Word) (s : State) : Host.Outcome State Fault Refusal :=
  s.heardFrom o (
    .next (fltHostOnly o (0x90 + 4 * w.val) (isoSet w.val bits) s))

/-- ISOLATE_CLEAR. -/
def execIsolateClear (o : Origin) (w : Fin 3) (bits : Word) (s : State) : Host.Outcome State Fault Refusal :=
  s.heardFrom o (
    .next (fltHostOnly o (0xA0 + 4 * w.val) (isoClr w.val bits) s))

/-- ISOLATION_AUTO_RETURN. -/
def execIsolationAutoReturn (trigger : Fin 6) (s : State) : Host.Outcome State Fault Refusal := s.ticking (.next (isoReturn trigger.val s))

/-- FLT_LOCKSTEP_MISMATCH. The comparator acts on its own (R531): part-wide isolation, FAULT_N, the record FLT_SELF. -/
def execFltLockstepMismatch (s : State) : Host.Outcome State Fault Refusal :=
  s.ticking (
    let s := { s with flt := { s.flt with self := true } }
    .next (logReport ⟨0x4081, 0, 5, 4⟩ (((s.setFld F.FLT_STAT_SELF 1).setFld F.FLT_STAT_FN 1).raise Pg.flt 2)))

/-- The bytes of a record (R533): flags are bits 13 (LATCHED), 14 (AUTO), 15 (SELF) of bytes 8 and 9. -/
def LogRec.bytes (r : LogRec) : List Byte :=
  leBytes 8 r.tick ++ leBytes 2 (r.cyc + r.flags * 2 ^ 13) ++ leBytes 2 r.code ++ leBytes 2 r.inst ++ leBytes 1 r.action ++ leBytes 1 r.rep

/-- The fault log as a producer of LOGQ (R405, R534). -/
def logProd : Prod := ⟨5, 8, 0⟩

/-- The oldest unsent record marked as written to LOGQ. -/
def logMark : List LogRec → List LogRec
  | [] => []
  | r :: t => if r.sent then r :: logMark t else { r with sent := true } :: t

/-- A record whose cell has been granted leaves the wait (R534, R406). -/
def logGranted (s : State) : State :=
  if s.flt.logWait && !s.qmg.waits.any (fun w => w.prod == logProd) then
    logShow { s with flt := { s.flt with logWait := false, log := logMark s.flt.log } }
  else s

/-- The next finished record written to LOGQ (R534). -/
def logSend (s : State) : State :=
  let s := logGranted s
  match s.flt.log.find? (fun r => !r.sent) with
  | none => s
  | some r =>
    if !s.on F.FLT_LOG_CFG_LOGQ_EN || s.flt.logWait || s.tick ≤ r.tick then s
    else
      let s := (qWriteBytes (s.fld F.FLT_LOG_CFG_LOGQ) logProd r.bytes s).1
      logGranted { s with flt := { s.flt with logWait := true } }

/-- LOG_RECORD_SEND. -/
def execLogRecordSend (s : State) : Host.Outcome State Fault Refusal := s.ticking (.next (logSend s))

/-- A write of FN_ACK (R535). -/
def fnAck (s : State) : State := s.setFld F.FLT_PEND_PEND 0

/-- FAULT_ACK. -/
def execFaultAck (o : Origin) (s : State) : Host.Outcome State Fault Refusal := s.heardFrom o (.next (fltHostOnly o 0x48 fnAck s))

/-- A write of LOG_CLR (R534, R551). -/
def logClr (s : State) : State :=
  logShow { s with flt := { s.flt with log := [], head := 0, first := none, last := none, logWait := false } }

/-- LOG_CLEAR. -/
def execLogClear (o : Origin) (s : State) : Host.Outcome State Fault Refusal := s.heardFrom o (.next (fltHostOnly o 0x5C logClr s))

/-- The pages that hold LK fields (R543). -/
def lkPages : List Nat :=
  [Pg.press, Pg.flt, Pg.pwr, Pg.svc, Pg.out, Pg.cv] ++ (List.range 8).map Pg.spk ++ [Pg.bst] ++ (List.range 5).map Pg.port

/-- A write of 1 to LOCKALL (R543); once it stands, a further 1 would change nothing (R494). -/
def lockAll (s : State) : State :=
  if s.on F.FLT_LOCKALL_LOCKALL then s
  else (s.setFld F.FLT_LOCKALL_LOCKALL 1).eachOf lkPages (fun p s => s.setFld (F.pgLock p) 1)

/-- LOCK_ALL. -/
def execLockAll (o : Origin) (s : State) : Host.Outcome State Fault Refusal :=
  s.heardFrom o (
    .next (if s.on F.FLT_LOCKALL_LOCKALL then s else fltHostOnly o 0x170 lockAll s))

/-- DIE_TWARN as it acts, in °C (R551). -/
def dieTwarn (s : State) : Nat := clampNat 85 125 (s.fld F.FLT_TEMP_CFG_DIE_TWARN)

/-- A die temperature of the rotation reaches the core die (R541): 1/256 °C above −64 °C. DIE_CRIT is logged as a die passes 135 °C,
and again for a reading above it after its isolation has been cleared. -/
def dieTemp (die code : Nat) (s : State) : State :=
  let s := s.setFld ([F.FLT_TEMP_T_CORE, F.FLT_TEMP_T_CONV, F.FLT_TEMP_T_PWR].getD die F.FLT_TEMP_T_CORE) (code / 256)
  let f := s.flt
  let warm := decide ((dieTwarn s + 64) * 256 < code)
  let hotNow := decide ((135 + 64) * 256 < code)
  let cold := decide (code < (dieTwarn s - 5 + 64) * 256)
  let since := SMap.get (fun _ => none) f.cool die
  let since := if cold then since.or (some s.tick) else none
  let past := match since with | some t => decide (t + 192000 ≤ s.tick) | none => false
  let put := fun (b : Bool) (l : List Nat) => if b then (if l.contains die then l else die :: l) else l.filter (· != die)
  let first := warm && !f.hot.contains die
  let firstCrit := hotNow && (!f.crit.contains die || !f.why.any (fun e => e.2.any (fun w => w.code == 0xA084)))
  let s := { s with flt := { f with above := put warm f.above, hot := put (warm || (f.hot.contains die && !past)) f.hot,
                                    crit := put hotNow f.crit, cool := SMap.set (fun _ => none) f.cool die since } }
  let s := s.setOn F.FLT_STAT_DIE_HOT (!s.flt.above.isEmpty)
  let s := s.when first (fun s => (s.report 0xA083 die 0).raise Pg.flt 6)
  s.when firstCrit (State.report 0xA084 die 5)

/-- The controller enters reset (R547, R549, R563): latches, services and views are lost; the audio path runs on. -/
def mcEnter (s : State) : State :=
  let s := { s with latch := s.latch.filter (fun e => e.1 < 3 * 2 ^ 26), flt := { s.flt with viewSet := [], viewTicks := [] },
                    nvm := { s.nvm with boot := 0, hload := [] } }
  let s := jUnready (((s.setFld F.MBOX_STAT_MC_RDY 0).setFld F.TIME_STAT_GPTP_RDY 0).setFld F.NVM_BOOT_STAT_WAIT_HOST 0)
  s.eachOf pagesInUse (fun p s => s.setFld (F.pgViewMismatch p) 0)

/-- The controller leaves reset and boots from the beginning (R546, R548, R563, R564). -/
def mcLeave (s : State) : State :=
  let s := { s with flt := { s.flt with mcUntil := none, kickTick := s.tick }, nvm := { s.nvm with boot := 1, early := s.tick + 20 } }
  (jUnready s).setFld F.FLT_STAT_MC_STATE 0

/-- WATCHDOG_KICK (R546): host writes are ignored. -/
def wdogKick (o : Origin) (s : State) : State :=
  if o = .mc then { s with flt := { s.flt with kickTick := s.tick } } else s
def execWatchdogKick (o : Origin) (s : State) : Host.Outcome State Fault Refusal := s.heardFrom o (.next (wdogKick o s))

/-- 192 ticks without a kick (R546): the controller alone is reset; WD_MAX resets in 10 s halt it (R548). -/
def wdogExpire (s : State) : State :=
  if s.fld F.FLT_STAT_MC_STATE ≠ 1 ∨ s.tick < s.flt.kickTick + 192 then s
  else
    let past := s.flt.wdResets.filter (fun t => decide (s.tick - t < 1920000)) ++ [s.tick]
    let halt := decide (max 1 (s.fld F.FLT_MC_CTRL_WD_MAX) ≤ past.length)
    let s := mboxLose (mcEnter s)
    let s := { s with flt := { s.flt with wdResets := past, mcUntil := some (s.tick + 16) } }
    let s := (s.setFld F.FLT_STAT_MC_STATE (if halt then 3 else 2)).bump F.FLT_MC_STAT_WD_CNT F.FLT_MC_STAT_WD_SAT
    let s := logReport ⟨0x9C81, 0, 6, 0⟩ (s.raise Pg.flt 3)
    s.when halt (logReport ⟨0x9C82, 0, 6, 0⟩)

/-- WATCHDOG_EXPIRE. -/
def execWatchdogExpire (s : State) : Host.Outcome State Fault Refusal := s.ticking (.next (wdogExpire s))

/-- MC_RESET_RELEASE. The 16 ticks of a watchdog reset have passed (R546); a held controller stays held. -/
def execMcResetRelease (s : State) : Host.Outcome State Fault Refusal :=
  s.ticking (
    .next (match s.flt.mcUntil with
      | some t => s.when (decide (t ≤ s.tick) && s.fld F.FLT_STAT_MC_STATE == 2) mcLeave
      | none => s))

/-- A write of MC_HOLD (R548). -/
def mcHold (h : Bool) (s : State) : State :=
  let st := s.fld F.FLT_STAT_MC_STATE
  let s := s.setOn F.FLT_MC_CTRL_MC_HOLD h
  if h then (if st = 3 ∨ st = 4 then s else (mcEnter s).setFld F.FLT_STAT_MC_STATE 4)
  else if st = 4 then mcLeave s else s

/-- A write of MC_RUN (R548): it releases a halted or held controller and clears MC_HOLD. -/
def mcRun (s : State) : State :=
  let st := s.fld F.FLT_STAT_MC_STATE
  if st = 3 ∨ st = 4 then mcLeave (s.setFld F.FLT_MC_CTRL_MC_HOLD 0) else s

/-- MC_HOLD. -/
def execMcHold (o : Origin) (hold : Bool) (s : State) : Host.Outcome State Fault Refusal :=
  s.heardFrom o (
    .next (if o = .mc ∧ s.on F.FLT_MC_CTRL_MC_HOLD = hold then s else fltHostOnly o 0x140 (mcHold hold) s))

/-- MC_RUN. -/
def execMcRun (o : Origin) (s : State) : Host.Outcome State Fault Refusal := s.heardFrom o (.next (fltHostOnly o 0x140 mcRun s))

/-- Whether the views are compared (R549). -/
def viewRuns (s : State) : Bool := s.on F.FLT_VIEW_CFG_VIEW_EN && s.on F.MBOX_STAT_MC_RDY

/-- The pages in mismatch show on the FLT page (R549, R551). -/
def viewShow (s : State) : State :=
  let l := pagesInUse.filter (fun p => s.on (F.pgViewMismatch p))
  (s.setFld F.FLT_STAT_VIEW_PAGES (min 255 l.length)).setFld F.FLT_VIEW_FIRST_PAGE (l.headD 0)

/-- The comparison of MGMT_VIEW with STATE in a tick (R549). -/
def viewTick (s : State) : State :=
  if !viewRuns s then s
  else
    viewShow (s.eachOf pagesInUse (fun p s =>
      if !SMap.get (fun _ => false) s.flt.viewSet p then s
      else
        let diff := s.fld (F.pgMgmtView p) != pageState p s
        let n := if diff then SMap.get (fun _ => 0) s.flt.viewTicks p + 1 else 0
        let s := { s with flt := { s.flt with viewTicks := SMap.set (fun _ => 0) s.flt.viewTicks p n } }
        s.when (!diff) (State.setFld (F.pgViewMismatch p) 0)))

/-- VIEW_MISMATCH. A page's view has differed for more than 2 ticks (R549). -/
def execViewMismatch (page : Fin 290) (s : State) : Host.Outcome State Fault Refusal :=
  s.ticking (
    let p := page.val
    .next (s.when (viewRuns s && decide (2 < SMap.get (fun _ => 0) s.flt.viewTicks p) && !s.on (F.pgViewMismatch p)) (fun s =>
      viewShow (((s.setFld (F.pgViewMismatch p) 1).raise Pg.flt 4).report 0x8082 p 0))))

/-- FAULT_N (R535): driven low while the fault manager is not ready, too (R579). -/
def fnShow (s : State) : State :=
  s.setOn F.FLT_STAT_FN (s.flt.self || !s.ports
    || (s.on F.FLT_FN_CFG_FN_ISO && !s.flt.why.isEmpty)
    || (s.on F.FLT_FN_CFG_FN_FAULTED && pagesInUse.any (fun p => pageState p s == 4))
    || (s.fld F.FLT_PEND_PEND &&& s.fld F.FLT_FN_CFG_FN_CLASS) != 0)

/-- The fault manager's work at a tick boundary: reports, queue, views, FAULT_N. -/
def fltTick (s : State) : State := fnShow (viewTick (logGranted (fltTake s)))

end Sys2Proof.Machine
end

