-- ==== Sys2Proof/Machine/Link.lean ====
section
/-!
DEFINITION. The stitch links (R15-R25, R72, R530): bursts, retry buffers, replays, substitution, training, command credits; the
write-back of corrected quires (R37).
-/

namespace Sys2Proof.Machine

/-- LSTATE of link `l`, the same in both directions (R25). -/
def lstate (l : Nat) (s : State) : Nat := s.fld (F.FLT_LINK_B_LSTATE (2 * l))
def setLstate (l v : Nat) (s : State) : State :=
  (s.setFld (F.FLT_LINK_B_LSTATE (2 * l)) v).setFld (F.FLT_LINK_B_LSTATE (2 * l + 1)) v

/-- Whether a link carries bursts: trained or up (R25). -/
def linkRuns (l : Nat) (s : State) : Bool := lstate l s == 1 || lstate l s == 3

/-- The tick count of a direction's receiver (R15): the core die's, or the copy of the other die. -/
def recvTick (d : Nat) (s : State) : Int :=
  if d % 2 = 1 then s.tick else s.tick + SMap.get (fun _ => 0) s.link.off (d / 2)

/-- LINK_DOWN of direction `d` (R25, R530), logged as `code`: both dies fall back, what the link holds is dropped, and what was last
taken is stale. -/
def linkDown (d code : Nat) (s : State) : State :=
  let l := d / 2
  if !linkRuns l s then s
  else
    let clear := fun (d : Nat) (s : State) =>
      s.setDir d { s.dir d with retry := [], asked := [], wait := [], cmds := [], lost := [], want := [], got := [], stale := true }
    let s := clear (2 * l + 1) (clear (2 * l) (setLstate l 2 s))
    let s := { s with link := { s.link with wasDown := SMap.set (fun _ => false) s.link.wasDown l true } }
    let s := if l = 0 then { s with svc := { s.svc with flight := [] } } else s
    let s := s.bump (F.FLT_LINK_B_DOWN_CNT d) (F.FLT_LINK_B_DN_SAT d)
    logReport ⟨code + 0x40 * l, if d % 2 = 1 then 0 else 1, 5, 0⟩ s

/-- Words four to a quire, lane 0 lowest (R34). -/
def packQuires : List Word → List Quire
  | a :: b :: c :: d :: t => (d ++ c ++ b ++ a) :: packQuires t
  | _ => []

/-- The bits `hi` down to `lo` of a quire. -/
def Quire.bits (q : Quire) (hi lo : Nat) : Nat := (q.toNat >>> lo) % 2 ^ (hi + 1 - lo)

/-- The words that a die puts into its data burst (R18, R333, R349, R378, R384): codes of the 40 DAC cores and the 16 CV codes; speaker
samples and boost demand words; sense words and boost status words. -/
def linkWords (d : Nat) (s : State) : List Word :=
  if d = 0 then
    (List.range 40).map (fun k => sample ((s.och (k / 2)).sent.headD 0) 0)
      ++ (List.range 16).map (fun n => sample ((s.cvch n).dac * 1024) 0)
  else if d = 2 then (List.range 8).map (fun n => (s.sch n).word) ++ (List.range 4).map (fun k => bstDemand k s)
  else (List.range 32).map (fun k => spkWord (k / 4) (k % 4) s) ++ (List.range 4).map (fun k => bstWord k s)

/-- The quires of a data burst beside its catchword, and the most that a control burst carries (R18). -/
def dataQuires (d : Nat) : Nat := [14, 64, 3, 9].getD d 0
def ctlRoom (d : Nat) : Nat := if d < 2 then 32 else 16

/-- The quires that a window holds (R17). -/
def windowQuires : Nat := 126

/-- A command or result quire begins with its sequence number; what follows is not given (R24; log entry 21). -/
def cmdQuire (seq : Nat) : Quire := BitVec.ofNat 128 (seq % 2 ^ 32)

/-- CRC of the quires of a burst, each little-endian (R19, R34). -/
def burstCrc (q : List Quire) : Word := if q.isEmpty then 0xFFFFFFFF else crc32 (q.flatMap (fun x => leBytes 16 x.toNat))

/-- The catchword that closes a burst of direction `d` (R19). -/
def catchword (d : Nat) (b : Burst) (replay : Bool) : Quire :=
  let q := if b.ctl then b.cmds.map cmdQuire else b.quires
  burstCrc q ++ BitVec.ofNat 16 q.length ++ BitVec.ofNat 8 d ++ (0 : BitVec 6) ++ BitVec.ofBool replay ++ BitVec.ofBool b.ctl
    ++ BitVec.ofNat 32 b.bsn ++ BitVec.ofNat 32 b.tick

/-- A window that opens at cycle `lo` and closes at `hi` (R17): a command lands in it, or comes too late for it. -/
def inWindow (lo hi : Nat) (f : State → State) (s : State) : State := s.when (decide (s.cyc ≤ hi)) (fun s => f (s.land lo))

/-- Whether the sender of direction `d` has sent its original burst of a kind in this tick. -/
def burstSent (d : Nat) (ctl : Bool) (s : State) : Bool := (s.dir d).retry.any (fun b => b.tick == s.tick && b.ctl == ctl)

/-- A burst sent and kept in the retry buffer with those of the last 4 ticks (R19, R24). -/
def burstSend (d : Nat) (ctl : Bool) (quires : List Quire) (cmds : List Nat) (s : State) : State :=
  let x := s.dir d
  let b : Burst := { tick := s.tick, ctl := ctl, bsn := x.bsn, quires := quires, cmds := cmds }
  s.setDir d { x with bsn := (x.bsn + 1) % 2 ^ 32, retry := x.retry.filter (fun b => decide (s.tick < b.tick + 4)) ++ [b] }

/-- Whether the die at each end of a link has its supply (R39, R42). -/
def linkSupplied (l : Nat) (s : State) : Bool := s.supplied.testBit 0 && s.supplied.testBit (l + 1)

/-- DATA_BURST_SEND. Window D, once per tick (R17, R18). `frame` is the modulator frame that the converter die sends, a quire per
modulator; the other dies' words are their own. -/
def execDataBurstSend (d : Fin 4) (frame : List Quire) (s : State) : Host.Outcome State Fault Refusal :=
  s.ticking (
    .next (s.when (linkRuns (d.val / 2) s && linkSupplied (d.val / 2) s && !burstSent d.val false s) (inWindow 0 1023 (fun s =>
      burstSend d.val false (if d.val = 1 then (List.range 64).map (fun k => frame.getD k 0) else packQuires (linkWords d.val s)) [] s))))

/-- Results four to a quire (R161). -/
def resultQuires : List SvcRes → List LinkMsg
  | a :: b :: c :: d :: t => .results [a, b, c, d] :: resultQuires t
  | [] => []
  | l => [.results l]

/-- Whether a quire holds modulator status, which stands at the head of its burst (R112). -/
def LinkMsg.isStatus : LinkMsg → Bool
  | .status _ _ => true
  | _ => false

/-- The supervisory results that this tick's control burst carries join the waiting results, behind modulator status (R161). -/
def linkResults (s : State) : State :=
  let now := s.svc.flight.filter (fun r => decide (r.due ≤ s.tick + 1))
  let s := { s with svc := { s.svc with flight := s.svc.flight.filter (fun r => decide (s.tick + 1 < r.due)) } }
  let x := s.dir 1
  s.setDir 1 { x with wait := x.wait.filter (fun e => e.2.isStatus) ++ (resultQuires now).map (fun m => (s.tick, m))
                        ++ x.wait.filter (fun e => !e.2.isStatus) }

/-- Sent quires that the sender must take as undelivered (R21, R24): no credit has come back in the tick after they were sent, or
both replays of their burst have gone out. -/
def linkAgain (x : LinkDir) (tick : Nat) : List Cmd :=
  x.cmds.filter (fun c => decide (c.first + 2 ≤ tick) || x.retry.any (fun b => b.cmds.contains c.seq && decide (2 ≤ b.replays)))

/-- CONTROL_BURST_SEND. Window C, cycles 2,048 to 3,071, once per tick (R17): undelivered quires at the head, then what waits, as far as there is room
(R18, R24). -/
def execControlBurstSend (d : Fin 4) (cyc : Fin 5120) (s : State) : Host.Outcome State Fault Refusal :=
  s.ticking (
    .next (s.when (linkRuns (d.val / 2) s && linkSupplied (d.val / 2) s && !burstSent d.val true s && decide (cyc.val ≤ 3071)) (inWindow (max 2048 cyc.val) 3071 (fun s =>
      let s := s.when (d.val == 1) linkResults
      let x := s.dir d.val
      let again := (linkAgain x s.tick).take (ctlRoom d.val)
      let ready := (x.wait.filter (fun e => decide (e.1 ≤ s.tick))).take (ctlRoom d.val - again.length)
      let rest := (x.wait.filter (fun e => decide (e.1 ≤ s.tick))).drop (ctlRoom d.val - again.length)
        ++ x.wait.filter (fun e => decide (s.tick < e.1))
      let new := (List.range ready.length).zip ready |>.map (fun e => ({ seq := x.cmdSeq + 1 + e.1, first := s.tick, what := e.2.2 } : Cmd))
      burstSend d.val true [] ((again ++ new).map (·.seq))
        (s.setDir d.val { x with wait := rest, cmds := x.cmds ++ new, cmdSeq := x.cmdSeq + new.length })))))

/-- A die's count or frame is off: it adopts the core die's at the next boundary (R16, R72). -/
def linkAdopt (l : Nat) (s : State) : State := { s with link := { s.link with adopt := SMap.set (fun _ => false) s.link.adopt l true } }

/-- The tick number of a catchword, of a burst of `age` ticks ago, against the receiver's count (R15, R16, R72). -/
def tickCheck (d age : Nat) (cw : Quire) (s : State) : State :=
  let l := d / 2
  s.when (decide (((Quire.bits cw 31 0 + age : Nat) : Int) % 2 ^ 32 ≠ recvTick d s % 2 ^ 32)) (fun s =>
    linkAdopt l (logReport ⟨0x2C03 + 0x40 * l, if d % 2 = 1 then 0 else 1, 2, 0⟩ s))

/-- Whether a burst has come whole (R20): its catchword closes it, names the direction and the number of quires, and its CRC
matches. -/
def burstWhole (d : Nat) (b : BurstIn) : Bool :=
  Quire.bits b.cw 127 96 == (burstCrc b.quires).toNat && Quire.bits b.cw 95 80 == b.quires.length && Quire.bits b.cw 79 72 == d

/-- What a whole burst holds, as its receiver keeps it until the take point. -/
def burstTaken (tick : Nat) (ctl : Bool) (b : BurstIn) : Burst :=
  { tick := tick, ctl := ctl, bsn := Quire.bits b.cw 63 32, quires := if ctl then [] else b.quires,
    cmds := if ctl then b.quires.map (fun q => Quire.bits q 31 0) else [] }

/-- A burst declared lost (R20): `ctl` tells which burst of the tick. A retry request goes to the sender (R21). -/
def burstLost (d : Nat) (ctl : Bool) (s : State) : State :=
  let x := s.dir d
  s.setDir d { x with expect := (x.expect + 1) % 2 ^ 32, lost := x.lost ++ [(x.expect, s.tick, ctl)], want := x.want ++ [x.expect] }

/-- Whether the original burst of a kind of this tick has been taken or declared lost. -/
def burstSeen (d : Nat) (ctl : Bool) (s : State) : Bool :=
  (s.dir d).got.any (fun b => b.tick == s.tick && b.ctl == ctl) || (s.dir d).lost.any (fun e => e.2.1 == s.tick && e.2.2 == ctl)

/-- An original burst is taken whole or declared lost (R16, R20, R72): window D brings the data burst, window C the control burst. -/
def burstOriginal (d : Nat) (b : BurstIn) (s : State) : State :=
  let x := s.dir d
  let ctl := decide (2048 ≤ b.cyc.val)
  if burstSeen d ctl s then s
  else if !burstWhole d b || Quire.bits b.cw 63 32 != x.expect || (Quire.bits b.cw 64 64 == 1) != ctl then burstLost d ctl s
  else
    let l := d / 2
    let s := tickCheck d 0 b.cw (s.setDir d { x with expect := (x.expect + 1) % 2 ^ 32, got := x.got ++ [burstTaken s.tick ctl b] })
    s.when (d % 2 == 0 && pllLocked (l + 1) s && decide (16 < b.phase)) (fun s =>
      (linkAdopt l (s.report 0x210C l 2)).when (l == 1) tickClockErr)

/-- A replay is accepted, asked for once more, or discarded where its take point has passed (R16, R21-R23). -/
def burstReplayed (d : Nat) (b : BurstIn) (s : State) : State :=
  let x := s.dir d
  let bsn := Quire.bits b.cw 63 32
  let late := fun (t : Nat) => decide (t + 1 < s.tick ∨ (t + 1 = s.tick ∧ 2048 ≤ b.cyc.val))
  match x.lost.find? (fun e => e.1 == bsn) with
  | none => s.when (burstWhole d b && late (Quire.bits b.cw 31 0)) (State.bump (F.FLT_LINK_B_LINK_LATE d) (F.FLT_LINK_B_LT_SAT d))
  | some (_, t, ctl) =>
    if !burstWhole d b then s.setDir d { x with want := x.want.filter (· != bsn) ++ [bsn] }
    else
      let y := { x with lost := x.lost.filter (fun e => e.1 != bsn) }
      if late t then (s.setDir d y).bump (F.FLT_LINK_B_LINK_LATE d) (F.FLT_LINK_B_LT_SAT d)
      else tickCheck d (s.tick - t) b.cw (s.setDir d { y with got := x.got ++ [burstTaken t ctl b] })

/-- STITCH_BURST_RECEIVE. -/
def execStitchBurstReceive (d : Fin 4) (b : BurstIn) (s : State) : Host.Outcome State Fault Refusal :=
  s.ticking (
    .next (s.when (linkRuns (d.val / 2) s && linkSupplied (d.val / 2) s) (fun s =>
      if Quire.bits b.cw 65 65 = 1 then burstReplayed d.val b s else burstOriginal d.val b s)))

/-- BURST_WINDOW_TIMEOUT. No catchword has closed a window by 64 cycles after its end (R20): 0 D, 1 A, 2 C, 3 B. A replay that has not
come in window B is asked for again (R21). -/
def execBurstWindowTimeout (d : Fin 4) (w : Fin 4) (s : State) : Host.Outcome State Fault Refusal :=
  s.ticking (
    .next (s.when (linkRuns (d.val / 2) s && linkSupplied (d.val / 2) s) (fun s =>
      if w.val = 0 then s.when (!burstSeen d.val false s) (fun s => burstLost d.val false (s.land 1088))
      else if w.val = 2 then s.when (!burstSeen d.val true s) (fun s => burstLost d.val true (s.land 3136))
      else if w.val = 3 then
        let x := s.dir d.val
        let miss := (x.lost.filter (fun e => e.2.1 == s.tick && !x.want.contains e.1)).map (·.1)
        (s.setDir d.val { x with want := x.want ++ miss }).land 4160
      else s)))

/-- RETRY_REQUEST. The request of a lost burst reaches the sender of direction `d`, which schedules the replay: window B of this tick,
then window A of the next (R21). -/
def execRetryRequest (d : Fin 4) (bsn : Fin 4294967296) (s : State) : Host.Outcome State Fault Refusal :=
  s.ticking (
    .next (
      let x := s.dir d.val
      if !x.want.contains bsn.val then s
      else
        let y := { x with want := x.want.filter (· != bsn.val) }
        match x.retry.find? (fun b => b.bsn == bsn.val) with
        | none => s.setDir d.val y
        | some b =>
          if 2 ≤ b.replays ∨ x.asked.any (fun e => e.1 == bsn.val) then s.setDir d.val y
          else s.setDir d.val { y with asked := x.asked ++ [if b.replays = 0 then (bsn.val, false, s.tick) else (bsn.val, true, s.tick + 1)] }))

/-- The requested bursts that go out in a window, oldest request first, as far as it holds them (R17, R21). -/
def replayDue (x : LinkDir) (a : Bool) (tick : Nat) : List Nat :=
  let size := fun (n : Nat) => match x.retry.find? (fun b => b.bsn == n) with
    | some b => b.quires.length + b.cmds.length + 1
    | none => 0
  (((x.asked.filter (fun e => e.2.1 == a && e.2.2 == tick)).map (·.1)).foldl
    (fun (acc : Nat × List Nat) n => if acc.1 + size n ≤ windowQuires then (acc.1 + size n, acc.2 ++ [n]) else acc) (0, [])).2

/-- BURST_REPLAY. The requested bursts go out again in window A (`a`) or B of this tick (R17, R21). -/
def execBurstReplay (d : Fin 4) (a : Bool) (s : State) : Host.Outcome State Fault Refusal :=
  s.ticking (
    .next (s.when (linkRuns (d.val / 2) s && linkSupplied (d.val / 2) s) (inWindow (if a then 1024 else 3072) (if a then 2047 else 4095)
      (fun s =>
        let x := s.dir d.val
        let due := replayDue x a s.tick
        (s.setDir d.val { x with asked := x.asked.filter (fun e => !due.contains e.1),
                                 retry := x.retry.map (fun b => if due.contains b.bsn then { b with replays := b.replays + 1 } else b) }).bumpBy
          due.length (F.FLT_LINK_A_LINK_REPLAY d.val) (F.FLT_LINK_A_RP_SAT d.val)))))

/-- What a take point brings of one direction: whether its data burst and its control burst were taken, and the commands or
results applied, in the order of their numbers. -/
structure Taken where
  data : Bool := false
  ctl : Bool := false
  msgs : List LinkMsg := []
  deriving DecidableEq, Repr

/-- The commands of a control burst that have not been applied, in sequence (R24). -/
def linkNew (x : LinkDir) (b : Burst) : List Cmd := x.cmds.filter (fun c => b.cmds.contains c.seq && decide (x.applied < c.seq))

/-- The take point of a direction (R22-R25, R530): its data quires and commands are taken, or the tick is substituted. -/
def linkTake (d : Nat) (s : State) : Taken × State :=
  let x := s.dir d
  if !linkRuns (d / 2) s || !linkSupplied (d / 2) s || decide (s.tick < x.due) then ({}, s)
  else
    let of := fun (c : Bool) => x.got.find? (fun b => b.ctl == c && b.tick + 1 == s.tick)
    let new := ((of true).map (linkNew x)).getD []
    let applied := x.applied + new.length
    let odd := decide ((new.map (·.seq)) ≠ (List.range new.length).map (fun k => x.applied + 1 + k))
    let y := { x with got := x.got.filter (fun b => decide (s.tick ≤ b.tick)),
                      lost := x.lost.filter (fun e => decide (s.tick ≤ e.2.1)), applied := applied }
    let late := y.cmds.any (fun c => decide (applied < c.seq ∧ c.first + 4 ≤ s.tick))
    let stale := (of false).isNone
    let y := match of false with
      | some b => { y with data := b.quires, stale := false }
      | none => { y with stale := true, subst := y.subst + 1 }
    let s := (s.setDir d y).when stale (State.bump (F.FLT_LINK_A_LINK_SUBST d) (F.FLT_LINK_A_SB_SAT d))
    ({ data := !stale, ctl := (of true).isSome, msgs := new.map (·.what) },
     if odd then linkDown d 0x4C02 s else if late || (stale && x.stale) then linkDown d 0x4C01 s else s)

/-- A die applies a command (R24, R513-R516). It replies to ANNOUNCE in its next control burst. -/
def dieApply (l : Nat) (s : State) : LinkMsg → State
  | .config a w => s.setDie l { s.die l with cfg := SMap.set resetWord (s.die l).cfg a w }
  | .image a w => s.setDie l { s.die l with image := SMap.set resetWord (s.die l).image a w }
  | .announce n t crc =>
    (s.setDie l { s.die l with press := some (n, t), commit := false }).tell (2 * l + 1) (s.tick + 1) (.reply n (imageCrc (s.die l).image == crc))
  | .commit n => s.setDie l { s.die l with commit := decide ((s.die l).press.map (·.1) = some n) }
  | .abort _ => s.setDie l { s.die l with image := [], press := none, commit := false }
  | _ => s

/-- The commands that a die has taken. -/
def dieTake (l : Nat) (t : Taken) (s : State) : State := t.msgs.foldl (dieApply l) s

/-- LINK_TRAINING_ANSWER. The partner answers while it is powered (R25). -/
def execLinkTrainingAnswer (l : Fin 2) (s : State) : Host.Outcome State Fault Refusal :=
  s.ticking (
    .next (s.when (lstate l.val s == 2 && s.on F.PWR_STATUS_VSER_OK && linkSupplied l.val s) (setLstate l.val 0)))

/-- The converter die's control clock is the forwarded clock of its link (R68): it runs from the first training on, and INT settles
200 us later (R163; log entry 105). -/
def convClock (l : Nat) (s : State) : State :=
  s.when (l == 0 && s.svc.intFrom.isNone) (fun s => { s with svc := { s.svc with intFrom := some (s.tick + 39) } })

/-- LANES_TRAINED. The die's copy of TICK is aligned (R15); a link that has been down since reset gets the live configuration first
(R25, R516). -/
def execLanesTrained (l : Fin 2) (s : State) : Host.Outcome State Fault Refusal :=
  s.ticking (
    .next (s.when (lstate l.val s == 0 && s.on F.PWR_STATUS_VSER_OK && linkSupplied l.val s) (fun s =>
      let start := fun (d : Nat) (s : State) =>
        s.setDir d { s.dir d with expect := (s.dir d).bsn, applied := (s.dir d).cmdSeq, acked := (s.dir d).cmdSeq, due := s.tick + 2 }
      let s := start (2 * l.val + 1) (start (2 * l.val) (convClock l.val s))
      let s := { s with link := { s.link with off := SMap.set (fun _ => (0 : Int)) s.link.off l.val 0 } }
      if SMap.get (fun _ => false) s.link.wasDown l.val then liveConfig l.val ((setLstate l.val 3 s).setDie l.val { cfg := (s.die l.val).cfg })
      else setLstate l.val 1 s)))

/-- Whether the die holds all that was sent to it. -/
def linkDelivered (l : Nat) (s : State) : Bool := (s.dir (2 * l)).wait.isEmpty && decide ((s.dir (2 * l)).applied = (s.dir (2 * l)).cmdSeq)

/-- LIVE_CONFIG_TRANSFER_DONE (R25, R516). -/
def execLiveConfigTransferDone (l : Fin 2) (s : State) : Host.Outcome State Fault Refusal :=
  s.ticking (
    .next (s.when (lstate l.val s == 3 && linkDelivered l.val s) (setLstate l.val 1)))

/-- CREDIT_SET_RECEIVE. The sender of direction `d` learns the last command applied and checks its count; `ok` is the receiver's
own check (R530). -/
def execCreditSetReceive (d : Fin 4) (seq : Nat) (ok : Bool) (s : State) : Host.Outcome State Fault Refusal :=
  s.ticking (
    .next (s.when (linkRuns (d.val / 2) s) (fun s =>
      let x := s.dir d.val
      let held := x.cmds.filter (fun c => decide (seq < c.seq))
      if ok && decide (x.acked ≤ seq) && x.cmdSeq == seq + held.length then s.setDir d.val { x with acked := seq, cmds := held }
      else linkDown d.val 0x4C02 s)))

/-- ECC_WRITE_BACK. The oldest corrected quire is written back (R37). -/
def execEccWriteBack (s : State) : Host.Outcome State Fault Refusal :=
  s.ticking (
    .next { s with link := { s.link with eccWait := s.link.eccWait.drop 1 } })

/-- The dies' counts at a boundary: one that is off adopts TICK (R16). -/
def linkTick (s : State) : State :=
  s.each 2 (fun l s =>
    let a := SMap.get (fun _ => false) s.link.adopt l
    { s with link := { s.link with realigned := SMap.set (fun _ => false) s.link.realigned l a,
                                   adopt := SMap.set (fun _ => false) s.link.adopt l false,
                                   off := if a then SMap.set (fun _ => (0 : Int)) s.link.off l 0 else s.link.off } })

end Sys2Proof.Machine
end

