-- ==== Sys2Proof/Machine/Peri.lean ====
section
/-!
DEFINITION. The control peripherals (R567-R572, R574): I2C controllers, GPIO and the flow-control pins.
-/

namespace Sys2Proof.Machine

/-- Controller `k` behind its registers. -/
def State.i2cAt (s : State) (k : Nat) : I2cSt := SMap.get (fun _ => {}) s.i2c k

/-- Its work replaced. -/
def i2cWork (k w : Nat) (s : State) : State := { s with i2c := SMap.set (fun _ => {}) s.i2c k { s.i2cAt k with work := w } }

/-- A result of controller `k` (R568, R574): 0 OK and 7 CLEARED are no errors. -/
def i2cResult (k r nbyte : Nat) (s : State) : State :=
  let s := (s.post (Adr.I2C_RES k) (((0 : Word).put 2 0 r).put 13 8 nbyte)).raise Pg.peri 1
  s.when (r != 0 && r != 7) (fun s => (s.bump (F.I2C_CNT_ERR_CNT k) (F.I2C_CNT_ER_SAT k)).raise Pg.peri 2)

/-- The procedure of R569 starts: with SDA high the controller is idle at once, else it gives SCL pulses. -/
def i2cClear (k : Nat) (sda : Bool) (s : State) : State :=
  if sda then (i2cWork k 0 s).setFld (F.I2C_STAT_STATE k) 1
  else ((i2cWork k 3 s).setFld (F.I2C_STAT_STATE k) 2).bump (F.I2C_CNT_CLR_CNT k) (F.I2C_CNT_CL_SAT k)

/-- The `n` bytes that a transaction sends: byte j in bits 8(j mod 4) + 7 down of word j div 4 of I2C_TX (R568). -/
def i2cBytes (s : State) (k n : Nat) : List Byte :=
  (List.range n).map (fun j => BitVec.ofNat 8 ((s.word (Adr.I2C_TX k (j / 4))).bits (8 * (j % 4) + 7) (8 * (j % 4))))

/-- A GO (R568): BUSY and STUCK are results of their own; `held` tells that another controller holds the bus. -/
def i2cGo (k : Nat) (addr rlen wlen : Nat) (held : Bool) (s : State) : State :=
  let st := s.fld (F.I2C_STAT_STATE k)
  if !s.on (F.I2C_CFG_EN k) || st == 2 then i2cResult k 6 0 s
  else if st = 3 then i2cResult k 5 0 s
  else
    { s with i2c := SMap.set (fun _ => {}) s.i2c k ⟨if held then 1 else 2, addr, min 32 rlen, min 32 wlen, i2cBytes s k (min 32 wlen)⟩ }.setFld
      (F.I2C_STAT_STATE k) 2

/-- A write of I2C_XFER (R568): BUS_CLEAR drops a GO of the same write. -/
def i2cXfer (k : Nat) (w : Word) (held sda : Bool) (s : State) : State :=
  if w.getLsbD 30 then
    if !s.on (F.I2C_CFG_EN k) || s.fld (F.I2C_STAT_STATE k) == 2 then i2cResult k 6 0 s else i2cClear k sda s
  else if w.getLsbD 31 then i2cGo k (w.bits 22 16) (w.bits 13 8) (w.bits 5 0) held s
  else s

/-- A new value of EN (R569). -/
def i2cEnable (k : Nat) (en was sda : Bool) (s : State) : State :=
  if en && !was then i2cClear k sda s
  else if !en then (i2cWork k 0 s).setFld (F.I2C_STAT_STATE k) 0
  else s

/-- I2C_TRANSACTION. A write of GO (R568). -/
def execI2cTransaction (k : Fin 4) (addr : Fin 128) (rlen wlen : Fin 64) (held : Bool) (s : State) :
    Host.Outcome State Fault Refusal := s.heard (.next (i2cGo k.val addr.val rlen.val wlen.val held s))

/-- Bytes received, put into the I2C_RX words (R568). -/
def i2cStore (k : Nat) (bs : List Byte) (s : State) : State :=
  s.each (min 32 bs.length) (fun j s =>
    let a := Adr.I2C_RX k (j / 4)
    s.setWord a ((s.word a).put (8 * (j % 4) + 7) (8 * (j % 4)) (bs.getD j 0).toNat))

/-- I2C_TRANSACTION_DONE. The target acknowledged all (0), not its address (1) or not a data byte (2): `nbyte` data bytes were
acknowledged before (R568). -/
def execI2cTransactionDone (k : Fin 4) (nack : Fin 3) (nbyte : Fin 64) (rx : List Byte) (s : State) :
    Host.Outcome State Fault Refusal :=
  s.ticking (
    .next (s.when ((s.i2cAt k.val).work == 2) (fun s =>
      let s := i2cStore k.val (rx.take (s.i2cAt k.val).rlen) s
      i2cResult k.val nack.val nbyte.val ((i2cWork k.val 0 s).setFld (F.I2C_STAT_STATE k.val) 1))))

/-- A transaction aborted with result `r`: in mid-byte, the bus clear follows (R568). -/
def i2cAbort (k r nbyte : Nat) (mid sda : Bool) (s : State) : State :=
  let s := i2cResult k r nbyte s
  if mid then i2cClear k sda s else (i2cWork k 0 s).setFld (F.I2C_STAT_STATE k) 1

/-- I2C_ARB_LOST. -/
def execI2cArbLost (k : Fin 4) (nbyte : Fin 64) (mid sda : Bool) (s : State) : Host.Outcome State Fault Refusal :=
  s.ticking (
    .next (s.when ((s.i2cAt k.val).work == 2) (i2cAbort k.val 3 nbyte.val mid sda)))

/-- I2C_TIMEOUT. A held SCL or a busy bus has lasted TOUT ms; TOUT = 0 sets no limit (R568). In a bus clear SCL low leads to
STUCK (R569), by I2C_BUS_CLEAR_DONE. -/
def execI2cTimeout (k : Fin 4) (nbyte : Fin 64) (mid sda : Bool) (s : State) : Host.Outcome State Fault Refusal :=
  s.ticking (
    let w := (s.i2cAt k.val).work
    .next (s.when ((w == 1 || w == 2) && s.on (F.I2C_CFG_TOUT k.val)) (i2cAbort k.val 4 nbyte.val (mid && w == 2) sda)))

/-- I2C_BUS_CLEAR. A write of BUS_CLEAR finds SDA high or low (R569). -/
def execI2cBusClear (k : Fin 4) (sda : Bool) (s : State) : Host.Outcome State Fault Refusal := s.heard (.next (i2cXfer k.val 0x40000000 false sda s))

/-- I2C_BUS_CLEAR_DONE. SDA reads high and STOP is sent, or the bus stays stuck (R569). -/
def execI2cBusClearDone (k : Fin 4) (freed : Bool) (s : State) : Host.Outcome State Fault Refusal :=
  s.ticking (
    .next (s.when ((s.i2cAt k.val).work == 3) (fun s =>
      let s := i2cWork k.val 0 s
      if freed then i2cResult k.val 7 0 (s.setFld (F.I2C_STAT_STATE k.val) 1)
      else ((i2cResult k.val 5 0 (s.setFld (F.I2C_STAT_STATE k.val) 3)).raise Pg.peri 3).report 0x41C1 k.val 0)))

/-- I2C_ENABLE. EN is set, and SDA found high or low (R569). -/
def execI2cEnable (k : Fin 4) (sda : Bool) (s : State) : Host.Outcome State Fault Refusal :=
  s.heard (
    .next (i2cEnable k.val true (s.on (F.I2C_CFG_EN k.val)) sda (s.setFld (F.I2C_CFG_EN k.val) 1)))

/-- I2C_OTHER_STOP. Another controller's STOP frees the bus: a waiting GO starts (R568). -/
def execI2cOtherStop (k : Fin 4) (s : State) : Host.Outcome State Fault Refusal :=
  s.ticking (
    .next (s.when ((s.i2cAt k.val).work == 1) (i2cWork k.val 2)))

/-- Pin levels that changed from `old` to `new`: enabled edges set EVT (R570). -/
def gpioEdges (old new : Word) (s : State) : State :=
  let ev := (new &&& ~~~old &&& s.word Adr.GPIO_RISE) ||| (old &&& ~~~new &&& s.word Adr.GPIO_FALL)
  let s := (s.setWord Adr.GPIO_IN new).setWord Adr.GPIO_EVT (s.word Adr.GPIO_EVT ||| ev)
  s.when (ev != 0) (State.raise Pg.peri 0)

/-- The levels of the pins (R570): an output follows GPIO_OUT, an input what drives it from outside, else its pull-up, which takes
precedence, or its pull-down; an open pin keeps its level (log entry 93). -/
def gpioLevel (s : State) : Word :=
  let d := s.word Adr.GPIO_DIR
  let up := s.word Adr.GPIO_PU
  let e := s.gpio.driven
  (s.word Adr.GPIO_OUT &&& d) ||| (~~~d &&& ((s.gpio.level &&& e) |||
    (~~~e &&& (up ||| (~~~s.word Adr.GPIO_PD &&& s.word Adr.GPIO_IN)))))

/-- GPIO_IN follows the pins where no edge can count: as reset is left. -/
def gpioFollow (s : State) : State := s.setWord Adr.GPIO_IN (gpioLevel s)

/-- The pins take their levels, and enabled edges set EVT (R570). -/
def gpioDrive (s : State) : State := gpioEdges (s.word Adr.GPIO_IN) (gpioLevel s) s

/-- A write of GPIO_SET and of GPIO_CLR: only the bits written as 1 change (R570). -/
def gpioSet (w : Word) (s : State) : State := gpioDrive (s.setWord Adr.GPIO_OUT (s.word Adr.GPIO_OUT ||| w))
def gpioClr (w : Word) (s : State) : State := gpioDrive (s.setWord Adr.GPIO_OUT (s.word Adr.GPIO_OUT &&& ~~~w))

/-- A level that drives pin `n` from outside. -/
def gpioDriven (n : Nat) (rise : Bool) (s : State) : State :=
  { s with gpio := { s.gpio with driven := s.gpio.driven.put n n 1, level := s.gpio.level.put n n (if rise then 1 else 0) } }

/-- GPIO_EDGE. The level that drives a pin from outside changes; an output pin follows GPIO_OUT alone. Before PLL_C has locked no
edge counts. -/
def execGpioEdge (n : Fin 32) (rise : Bool) (s : State) : Host.Outcome State Fault Refusal :=
  let s := gpioDriven n.val rise s
  .next (if s.phase = .running then gpioDrive s else if s.phase = .searching then gpioFollow s else s)

/-- GPIO_SET. -/
def execGpioSet (bits : Word) (s : State) : Host.Outcome State Fault Refusal := s.heard (.next (gpioSet bits s))

/-- GPIO_CLR. -/
def execGpioClr (bits : Word) (s : State) : Host.Outcome State Fault Refusal := s.heard (.next (gpioClr bits s))

/-- Whether FCn is driven low, "go" (R571). -/
def fcGo (s : State) (n : Nat) : Bool :=
  match s.fld (F.FC_SEL_SRC n) with
  | 1 => let q := s.fld (F.FC_SEL_QID n); s.on (F.QMG_QCFG_EN q) && !s.on (F.QMG_QSTAT_XOFF q)
  | 2 => s.on (F.FC_SEL_HOSTGO n)
  | _ => false

/-- The FC pins follow their sources within 1 tick (R571). -/
def fcTick (s : State) : State :=
  s.setFld F.FC_STAT_GO (((List.range 8).map (fun n => if fcGo s n then 2 ^ n else 0)).foldl (· + ·) 0)

end Sys2Proof.Machine
end

