-- ==== Sys2Proof/Machine/Tick.lean ====
section
/-!
DEFINITION. A tick boundary and a take point (R43-R49, R22, R23, R532): every tick-bound block finishes one tick and starts the
next; the core die takes what the other dies have sent.
-/

namespace Sys2Proof.Machine

/-- Errors that the blocks found in the tick that ends (R37, R38, R236, R254). -/
def tickQuires (l : List (Nat × Nat × Bool)) (s : State) : State :=
  s.eachOf l (fun e s =>
    let (pool, q, fatal) := e
    let s := if fatal then s else { s with link := { s.link with eccWait := s.link.eccWait ++ [(pool, q)] } }
    if pool = 0 then
      if !fatal then s.bump F.QMG_CNT1_ECC_CNT F.QMG_CNT1_EC_SAT
      else
        let holds := fun (g : Sig) => g.cells.contains (q / 16)
        let mark := fun (g : Sig) =>
          if holds g then { g with err := true, bad := g.bad ++ [16 * g.cells.findIdx (fun c => c == q / 16) + q % 16] } else g
        let owner := (s.qmg.queues.find? (fun e => (e.2.sigs ++ e.2.behind ++ e.2.opens).any holds)).map (·.1)
        let s := match owner with
          | some n =>
            let x := s.queue n
            s.setQueue n { x with sigs := x.sigs.map mark, behind := x.behind.map mark, opens := x.opens.map mark }
          | none => s
        ((s.bump F.QMG_CNT1_UE_CNT F.QMG_CNT1_UE_SAT).raise Pg.qmg 3).report 0x4801 (owner.getD 0) 2
    else fxEcc (pool == 2) q fatal s)

/-- Count checks that failed in the tick (R197, R210, R232, R462, R465, R529). -/
def tickCounts (l : List (Nat × Nat)) (s : State) : State :=
  s.eachOf l (fun e s =>
    if e.1 = 0 then xingSlip (e.2 % 72) s
    else if e.1 = 1 then sapMiscount (e.2 % 16) s
    else if e.1 = 2 then spdiMiscount (e.2 % 4) s
    else if e.1 = 3 then zklConserve (e.2 % 320) s
    else if e.1 = 5 then qSlip s
    else (s.report 0x4143 0 0).raise Pg.time 3)

/-- The sample counts of every crossing checked; a failed one fades its user out for good (R232, R197, R210). -/
def srcChecks (s : State) : State :=
  s.eachOf (s.srcc.x.map (·.1)) (fun k s =>
    if (s.xing k).lstate = 3 || xingChecked k (s.xing k) then s
    else
      let s := srcConserve k s
      if k < 16 then sapConserve k false s
      else if k < 32 then sapConserve (k - 16) false s
      else if k < 36 then spdiConserve (k - 32) false s
      else s)

/-- A scrubber reads 64 quires of its pool: a corrected one that waits is rewritten, one beyond repair is found again (R37, R38). -/
def scrubPool (k : Nat) (s : State) : State :=
  let size := [1048576, 786432, 524288].getD k 1
  let at_ := SMap.get (fun _ => 0) s.link.scrub k
  let here := fun (q : Nat) => decide (at_ ≤ q ∧ q < at_ + 64)
  let s := { s with link := { s.link with scrub := SMap.set (fun _ => 0) s.link.scrub k ((at_ + 64) % size),
                                          eccWait := s.link.eccWait.filter (fun e => !(e.1 == k && here e.2)) } }
  let bad := if k = 1 then s.fx.poolBad else if k = 2 then s.fx.delayBad else []
  s.eachOf (bad.filter (fun e => e.2 && here e.1)) (fun e s => fxEcc (k == 2) e.1 true s)

/-- The scrubbers of the three pools and of the crosspoints (R38, R254). -/
def tickScrub (s : State) : State := mixScrub (s.each 3 scrubPool)

/-- The work of tick m up to its last cycle: every node and crossing writes its values of tick m + 1 (R45, R46). -/
def tickFinish (w : TickIn) (s : State) : State :=
  let s := mixErrors w.crosspoints w.crosspointsFixed (tickQuires w.quires s)
  let s := s.eachOf w.history (fun e s => fchHistory (e.1 % 80) e.2.1 e.2.2 s)
  let s := s.eachOf w.tables (fun e s => qTableError (e.1 % 4096) e.2 s)
  let s := s.eachOf w.buffers (fun e s => srcBufEcc e.1 e.2.1 e.2.2 s)
  let s := spdoTick (spdiTick (sapTick (tickCounts w.counts s)))
  let s := if psAwake s then nodesTick (srcChecks (qsTick s)) else fxHold (glideHold s)
  let s := s.when (psAwake s) (micTick w.pdm)
  let s := srcTick (srcProbe (micbTick s))
  let s := s.when (psAwake s) ctlRamp
  let s := { s with fch := { s.fch with eng := engineTick s.fch.eng } }
  let s := zklTick w.playout (netTick (jackTick (evFlush s)))
  tickScrub s

/-- The sources of R239. -/
def allSources : List Nat :=
  (List.range 0x050).map (0x010 + ·) ++ (List.range 8).map (0x080 + ·) ++ (List.range 0x5C0).map (0x100 + ·)
    ++ (List.range 0x400).map (0x500 + ·)

/-- Sources that carry 0 with T_SUB while the part is isolated (R536). -/
def isolatedSource (n : Nat) : Bool := n < 0x300

/-- The values of the new tick (R45): what an isolated part, a lost PLL_C or a realigned converter die makes of them (R16, R76,
R536); control channels hold theirs (R239). -/
def tickPromote (s : State) : State :=
  let part := s.on F.FLT_STAT_PARTWIDE
  let real := SMap.get (fun _ => false) s.link.realigned 0
  let z : Nat → Word := fun _ => 0
  let fix := fun (n : Nat) (w : Word) =>
    let w := if part && isolatedSource n then zeroTag tSUB else w
    if s.clk.lostC || (real && ((0x010 ≤ n && n < 0x030) || (0x040 ≤ n && n < 0x060))) then addTag w tSUB else w
  let all := part || s.clk.lostC || real
  let spine := if all then allSources.foldl (fun m n => SMap.set z m n (fix n (SMap.get z s.next n))) [] else s.next
  { s with spine := spine, next := spine.filter (fun e => psAwake s && decide (0x040 ≤ e.1 ∧ e.1 < 0x060)) }

/-- A missed producer or damaged slot as the new tick presents it (R49, R248); `old` is the state as the tick ended. -/
def tickMisses (w : TickIn) (old s : State) : State :=
  let s := s.eachOf w.missed (fun n s => spnMiss n (srcBlock n) old s)
  (spnErrors w.slots w.slotsFixed old s).when (psAwake s) spnTaps

/-- Causes latched by the reset, by their bit of PWR_RST_CAUSE (R69, R93, R103). -/
def causeCodes : List (Nat × Nat) := [(2, 0x10C1), (3, 0x10C3), (4, 0x10C4), (5, 0x2108)]

/-- Latched causes and OTP trims are logged as the fault manager becomes ready (R93, R554, R579). -/
def portsLog (s : State) : State :=
  let s := s.eachOf (causeCodes.filter (fun e => s.clk.cause.testBit e.1)) (fun e s => logReport ⟨e.2, 0, 0, 1⟩ s)
  let s := s.eachOf s.nvm.trims (fun t s => logReport ⟨0x4201, t.1, 3, 1⟩ s)
  { s with clk := { s.clk with cause := 0 } }

/-- The host ports begin to answer, and with them the fault manager is ready (R479, R579, R580). -/
def tickPorts (s : State) : State :=
  if s.ports || decide (s.tick < s.clk.portsTick) then s else portsLog { s with ports := true }

/-- The work that starts with the new tick, up to the fault manager's (R46): sinks latch their values, after the press where one
goes live in this tick (PRESS_APPLY); services advance. -/
def tickWork (w : TickIn) (s : State) : State :=
  let s := clockMuteDue s
  let s := jackSend w.jacks (s.tell 1 s.tick (.limits w.outLimited w.cvLimited))
  let s := bstSense w.boost (spkTick w.sense (outReadbackLost (outTick s)))
  let s := (s.when (outsQuiet s) (pllRamped 1)).when (spksQuiet s && s.bst.st == 0) (pllRamped 2)
  let s := svcTick (if pressDue s then s else sinksLatch s)
  let s := bootTick (nvmTick (fcTick (timeTick s)))
  let s := winAskAll (qTickCheck s)
  let s := match w.slack with
    | some m => vMargin m s
    | none => s
  servoShow (hbLatch (pressCopy (cvRefShow s)))

/-- The work that starts with the new tick; the fault manager takes the reports of the tick that ended (R532). -/
def tickStart (w : TickIn) (s : State) : State := fltTick (tickPorts (tickWork w s))

/-- TICK_BOUNDARY. While PLL_C has not locked there is no tick (R69). -/
def execTickBoundary (w : TickIn) (s : State) : Host.Outcome State Fault Refusal :=
  .next (s.when (s.phase == .running) (fun s =>
    let old := tickFinish w s
    let s := { tickPromote (linkTick old) with tick := s.tick + 1, cyc := 0 }
    tickStart w (tickMisses w old s)))

/-- The AIN decimators at a take point: the frame taken, or their last values again with T_SUB where the burst is lost (R23). -/
def takeInputs (data lost : Bool) (s : State) : State :=
  let zero := List.replicate 8 (0 : Int)
  let frame := fun (m : Nat) => if data then frameSamples m s.tick ((s.dir 1).data.getD m 0) else zero
  s.each 32 (fun n s =>
    (ainTake n (frame (2 * n)) (frame (2 * n + 1)) s).when lost (State.produce (0x010 + n) (addTag (s.src (0x010 + n)) tSUB)))

/-- What the block of a die's result does with it. -/
def takeAct (n : DieNote) (s : State) : State :=
  let (k, u, a) := n.act
  if k = 0 then s
  else if k ≤ 3 then outNoted k u a s
  else if k = 4 then cvRefNoted u s
  else if k ≤ 6 then spkNoted k u a s
  else if k = 8 then svcNoted s
  else bstNoted u a s

/-- A result of a die reaches the core die: fields, page events, what its block does; its faults are logged at the take point
(R301, R358, R532). -/
def takeNote (n : DieNote) (s : State) : State :=
  let s := s.eachOf n.sets (fun e s => s.setFld ⟨e.1, e.2.1, e.2.2.1⟩ e.2.2.2)
  let s := s.eachOf n.events (fun e s => s.raise e.1 e.2)
  let kept := s.flt.reports
  let s := takeAct n { s with flt := { s.flt with reports := n.reports } }
  let new := s.flt.reports
  { s with flt := { s.flt with reports := kept } }.eachOf new logReport

/-- A rotation result goes to its owner (R168, R307, R340, R368, R391, R541). -/
def takeRotation (r : SvcRes) (s : State) : State :=
  let i := r.idx
  let code := (max 0 r.v.code).toNat
  if i < 20 then outReading i r.slot r.v s
  else if i < 28 then cvReading (i - 20) r.slot r.v s
  else if 36 ≤ i ∧ i < 44 then cvReading (i - 28) r.slot r.v s
  else if 44 ≤ i ∧ i < 52 then spkReading (i - 44) r.slot r.v s
  else if i = 52 then bstReading r.v s
  else if 53 ≤ i ∧ i < 61 then s.post (Adr.AIN_MICB_STAT (i - 53)) ((s.word (Adr.AIN_MICB_STAT (i - 53)) &&& Word.mask 16 16).put 15 0 (code / 4))
  else if i = 34 then (if svcAvailable s then dieTemp 0 code s else s)
  else if i = 35 then (if svcAvailable s then dieTemp 1 code s else s)
  else if i = 62 then (if svcAvailable s then dieTemp 2 code s else s)
  else s

/-- Supervisory results that the control burst brought (R161, R168). -/
def takeSvc (l : List SvcRes) (s : State) : State :=
  s.eachOf l (fun r s =>
    let s := svcDeliver r s
    if r.kind = 2 then takeRotation r s else s)

/-- The status words of the modulators among the results taken, oldest first (R112). -/
def statWords (l : List LinkMsg) : List (Nat × Nat) :=
  l.flatMap (fun m => match m with
    | .status _ w => w
    | _ => [])

/-- The limit lists among the results taken, each of one tick (R304). -/
def limitLists (l : List LinkMsg) : List (List Nat × List Nat) :=
  l.flatMap (fun m => match m with
    | .limits outs cvs => [(outs, cvs)]
    | _ => [])

/-- The core die takes one result quire of the die of link `l` (R24, R161, R316, R514). -/
def coreTake (l : Nat) (m : LinkMsg) (s : State) : State :=
  match m with
  | .results r => takeSvc r s
  | .jacks t codes => jackTake t codes s
  | .limits outs cvs => cvLimits cvs (outLimits outs s)
  | .note n => takeNote n s
  | .reply seq ok => pressReply l seq ok s
  | _ => s

/-- What the core die does with the bursts of the converter die (R23, R46, R113). -/
def takeConv (t : Taken) (s : State) : State :=
  let s := s.when t.ctl (statTake (statWords t.msgs))
  let lost := linkRuns 0 s && linkSupplied 0 s && decide ((s.dir 1).due ≤ s.tick) && !t.data
  (s.when (psAwake s) (takeInputs t.data lost)).eachOf t.msgs (coreTake 0)

/-- TAKE_POINT. Cycle 2,048, or `cyc` where it is served later: every direction takes its bursts of the previous tick (R22), then the consumers take what they brought
(R46, R113, R161, R316, R349, R384). -/
def execTakePoint (cyc : Fin 5120) (s : State) : Host.Outcome State Fault Refusal :=
  .next (s.when (s.phase == .running) (fun s =>
    let (toConv, s) := linkTake 0 (s.land (max 2048 cyc.val))
    let (conv, s) := linkTake 1 s
    let (toPower, s) := linkTake 2 s
    let (power, s) := linkTake 3 s
    let s := dieTake 1 toPower (dieTake 0 toConv s)
    let s := s.when toPower.data bstTakePower
    let s := s.when power.data (fun s => bstTake (spkTake s))
    let s := (takeConv conv s).eachOf power.msgs (coreTake 1)
    jackForces (s.each 32 thrForces)))

end Sys2Proof.Machine
end

