-- ==== Sys2Proof/Machine/System.lean ====
section
/-!
DEFINITION. Reset, supplies and start-up (R39, R68, R69, R76, R85-R96, R575-R583), and the ends of restore tests and of swap
crossfades.
-/

namespace Sys2Proof.Machine

/-- Bits of PWR_RST_CAUSE (R104). -/
def causeSet (b : Nat) (s : State) : State := s.setFld ⟨Adr.PWR_RST_CAUSE, b, b⟩ 1

/-- The whole part in its reset state: what R576 keeps, everything else as after reset. -/
def resetAll (stage : Nat) (s : State) : State :=
  let s := nvmCollapse stage s
  let r : State :=
    { State.reset with
      supplied := s.supplied, resetLow := s.resetLow, railsDown := s.railsDown, readData := s.readData, free := s.free,
      pending := s.pending, jtag := s.jtag,
      regs := [],
      clk := { cause := s.clk.cause },
      pwr := { por := s.pwr.por, vah := s.pwr.vah, pvin := s.pwr.pvin, pvinHigh := s.pwr.pvinHigh, full := s.pwr.full,
               vioLow := s.pwr.vioLow, vioNew := s.pwr.vioNew },
      nvm := { otp := s.nvm.otp, recs := s.nvm.recs, trims := s.nvm.trims },
      gpio := s.gpio }
  (r.setWord Adr.PWR_RST_CAUSE (s.word Adr.PWR_RST_CAUSE)).setFld F.PWR_STATUS_IO_LEVEL (s.fld F.PWR_STATUS_IO_LEVEL)

/-- RESET_N high and the rails of R88 up: OTP is read after a power-on reset, PLL_C searches, the boot ROM starts (R68, R86, R88,
R554, R582). -/
def resetLeave (por : PorIn) (s : State) : State :=
  if s.resetLow ∨ s.railsDown ≠ 0 ∨ s.phase ≠ .held then s
  else
    let s := s.when s.pwr.por (fun s =>
      ({ s with pwr := { s.pwr with por := false }, nvm := { s.nvm with trims := por.trims } }).setOn F.PWR_STATUS_IO_LEVEL por.io18)
    gpioFollow { s with phase := .searching, nvm := { s.nvm with boot := 1 } }

/-- RESET_ASSERT. `stage` is how far a non-volatile write had come (R577); a pulse of RESET_N releases the outputs from EXTEST, CLAMP
and HIGHZ (R600). -/
def execResetAssert (stage : Fin 5) (s : State) : Host.Outcome State Fault Refusal :=
  let s := causeSet 1 (resetAll stage.val s)
  .next { s with resetLow := true, jtag := { s.jtag with safe := false } }

/-- RESET_RELEASE. -/
def execResetRelease (por : PorIn) (s : State) : Host.Outcome State Fault Refusal :=
  .next (resetLeave por { s with resetLow := false, supplied := 7 })

/-- The converter die without its supply: its pins take the unpowered state with no ramp, and what it held is gone (R39, R42). -/
def convUnpowered (s : State) : State :=
  let s := s.each 20 (fun o s => outCut o (s.setOch o { s.och o with amp := false }))
  let s := s.each 16 (fun n s => s.setCvch n { s.cvch n with v := 0, dac := 0 })
  { s.setDie 0 {} with ain := { s.ain with micb := [] }, svc := { s.svc with intFrom := none } }

/-- The power die without its supply (R39, R42). -/
def powerUnpowered (s : State) : State :=
  let s := s.each 8 (fun n s => spkOff n 0 s)
  { s.setDie 1 {} with bst := { s.bst with st := 0, active := 0 } }

/-- DIE_SUPPLY_LOSS. 0 core, 1 converter, 2 power: without the core die the part is in its reset state; the others stop answering
on their links (R25, R39). -/
def execDieSupplyLoss (die : Fin 3) (stage : Fin 5) (s : State) : Host.Outcome State Fault Refusal :=
  let s := { s with supplied := s.supplied &&& (7 - 2 ^ die.val) }
  .next (if die.val = 0 then resetAll stage.val s else if die.val = 1 then convUnpowered s else powerUnpowered s)

/-- VSER is down while the part runs: both links and the Ethernet ports go down (R90). -/
def vserDown (s : State) : State :=
  let s := ((s.setFld F.PWR_STATUS_VSER_OK 0).bump F.PWR_EVT_CNT_VSER_UV_CNT F.PWR_EVT_CNT_VSER_UV_SAT).report 0x10C2 0 2
  let s := s.each 2 (fun l s => setLstate l 2 (linkDown (2 * l + 1) 0x4C01 s))
  s.each 4 portLinkDown

/-- What PLL_C shows once it has locked, in PRELOCK (R68, R69). -/
def pllcShow (band : Nat) (s : State) : State :=
  let s := ((pllLock 0 band s).setFld F.CLK_STATUS_PRELOCK 1).setFld F.CLK_STATUS_REF_ACT 2
  let s := pfVioShow ((s.setOn F.PWR_STATUS_VAH_OK s.pwr.vah).setOn F.PWR_STATUS_PVIN_FULL s.pwr.full)
  s.when (s.railsDown.testBit 1) vserDown

/-- PLLC_LOCK. TICK 0 begins in PRELOCK (R68), `after` microseconds after reset was left; the host ports follow (R69, R479). -/
def execPllcLock (band : Fin 64) (after : Nat) (s : State) : Host.Outcome State Fault Refusal :=
  .next (s.when (s.phase == .searching) (fun s =>
    let s := pllcShow band.val s
    pvinOk { s with phase := .running, tick := 0, cyc := 0,
                    clk := { s.clk with portsTick := ceilDiv (max 10 (50 - after) * 192) 1000, searches := 0 },
                    nvm := { s.nvm with early := ceilDiv ((100 - after) * 192) 1000 } }))

/-- PLLC_SEARCH_FAIL. The search is repeated; its LOCK_FAIL_C is a latched cause that waits for the fault manager, and the 64th failure in
succession sets PLLC_FAIL (R69). -/
def execPllcSearchFail (s : State) : Host.Outcome State Fault Refusal :=
  .next (s.when (s.phase == .searching) (fun s =>
    let n := min 64 (s.clk.searches + 1)
    let s := { s with clk := { s.clk with searches := n, cause := s.clk.cause ||| 32 } }.setFld (F.CLK_PLL_STAT_LOCK_FAIL 0) 1
    s.when (n == 64) (causeSet 5)))

/-- PLLC_UNLOCK. The tick goes on; every output is isolated and every sample carries T_SUB until RESET_N (R76). -/
def execPllcUnlock (s : State) : Host.Outcome State Fault Refusal :=
  .next (s.when (s.phase == .running && pllLocked 0 s) (fun s =>
    let s := s.bump (F.CLK_PLL_STAT_UNLOCK_CNT 0) (F.CLK_PLL_STAT_UNLOCK_SAT 0)
    let s := ((setPll 0 0 false s).setFld (F.CLK_PLL_STAT_LOCK 0) 0).setFld (pllBit 0) 0
    tickClockErr ({ s with clk := { s.clk with lostC := true } }.report 0x2103 0 5)))

/-- A rail that keeps the part in reset falls: the cause is latched where VDDIO held (R90, R93). -/
def railReset (bit cause : Nat) (cold : Bool) (stage : Nat) (s : State) : State :=
  let s := resetAll stage { s with railsDown := s.railsDown ||| 2 ^ bit }
  if cold then
    { (s.setFld F.PWR_STATUS_IO_LEVEL 0).setWord Adr.PWR_RST_CAUSE 1 with
      pwr := { s.pwr with por := true }, clk := { s.clk with cause := 0 } }
  else causeSet cause { s with clk := { s.clk with cause := s.clk.cause ||| 2 ^ cause } }

/-- VSER falls; before PLL_C has locked what follows waits for the core clock (R88, R90). -/
def vserLost (s : State) : State :=
  let t := { s with railsDown := s.railsDown ||| 2 }
  t.when (s.phase == .running && s.on F.PWR_STATUS_VSER_OK) vserDown

/-- VAH falls: the blocks on it follow VAH_OK (R90). -/
def vahLost (s : State) : State :=
  let s := { s with pwr := { s.pwr with vah := false } }
  if s.phase ≠ .running ∨ !s.on F.PWR_STATUS_VAH_OK then s
  else ((s.setFld F.PWR_STATUS_VAH_OK 0).bump F.PWR_EVT_CNT_VAH_UV_CNT F.PWR_EVT_CNT_VAH_UV_SAT).report 0x10C5 0 2

/-- PVIN falls: speakers and boost follow PVIN_OK (R90). -/
def pvinLost (s : State) : State :=
  let was := s.pwr.pvin
  let s := { s with pwr := { s.pwr with pvin := false } }
  if s.phase ≠ .running ∨ !was then s
  else ((pvinOk s).bump F.PWR_EVT_CNT_PVIN_UV_CNT F.PWR_EVT_CNT_PVIN_UV_SAT).report 0x10C6 0 2

/-- RAIL_UNDERVOLTAGE. `cold` tells that VDDIO fell below 0.9 V (R93); `stage` how far a non-volatile write had come (R577). -/
def execRailUndervoltage (rail : Rail) (cold : Bool) (stage : Fin 5) (s : State) : Host.Outcome State Fault Refusal :=
  .next (match rail with
    | .vcore => railReset 0 2 false stage.val s
    | .vddio => railReset 2 3 cold stage.val s
    | .vdda => railReset 3 4 false stage.val s
    | .vser => vserLost s
    | .vah => vahLost s
    | .pvin => pvinLost s)

/-- A rail of R88 is up: the part leaves reset once none is down (R88). -/
def railUp (bit : Nat) (por : PorIn) (s : State) : State :=
  resetLeave por { s with railsDown := s.railsDown &&& (15 - 2 ^ bit), supplied := 7 }

/-- VAH has recovered: inputs and jacks restart, outputs follow VAH_OK (R90, R126). -/
def vahBack (s : State) : State :=
  let s := { s with pwr := { s.pwr with vah := true } }
  if s.phase ≠ .running ∨ s.on F.PWR_STATUS_VAH_OK then s else ainReturn (s.setFld F.PWR_STATUS_VAH_OK 1)

/-- RAIL_RECOVER. -/
def execRailRecover (rail : Rail) (por : PorIn) (s : State) : Host.Outcome State Fault Refusal :=
  .next (match rail with
    | .vcore => railUp 0 por s
    | .vddio => railUp 2 por s
    | .vdda => railUp 3 por s
    | .vser => (railUp 1 por s).setFld F.PWR_STATUS_VSER_OK 1
    | .vah => vahBack s
    | .pvin =>
      let s := { s with pwr := { s.pwr with pvin := true } }
      s.when (s.phase == .running) pvinOk)

/-- PLL_M has locked: a first lock starts the inputs from step 2 of R107, a relock continues them (R126, R138, R580). -/
def inputsFollow (had : Bool) (s : State) : State :=
  if had then ainReturn s
  else s.each 32 (fun n s => if s.fld (F.AIN_CFG_MODE n) = 0 ∨ (s.ach n).failed then s else ainRestart n s)

/-- A die whose PLL has locked aligns its frame counter to the next window D start (R15, R71). -/
def dieAlign (l : Nat) (s : State) : State := { s with link := { s.link with off := SMap.set (fun _ => (0 : Int)) s.link.off l 0 } }

/-- PLL_LOCK. -/
def execPllLock (pll : Fin 3) (ok : Bool) (band : Fin 64) (s : State) : Host.Outcome State Fault Refusal :=
  s.ticking (
    let had := SMap.get (fun _ => false) s.clk.had 1
    let t := pllResult (pll.val + 1) ok band.val s
    let new := fun (i : Nat) => pll.val + 1 == i && !pllLocked i s && pllLocked i t
    .next (((t.when (new 1) (inputsFollow had)).when (new 1) (dieAlign 0)).when (new 2) (dieAlign 1)))

/-- Whether what RUN starts has started: the boost, the outputs and the speaker channels that nothing else keeps off (R95). -/
def runReached (s : State) : Bool :=
  (!s.on F.BST_CFG_EN || !bstMayRun s || s.isolated 1 24 || decide (2 ≤ s.bst.st))
    && (List.range 20).all (fun o => !outWants o s || (s.och o).phase == 4)
    && (List.range 8).all (fun n => spkLead n s != n || !spkMayRun n s || decide (5 ≤ (s.sch n).cs))

/-- Whether the step under way may end (R95). -/
def psMayEnd (s : State) : Bool :=
  match s.pwr.step with
  | none => false
  | some n =>
    if n = 1 then
      (if s.fld F.PWR_STATUS_PS_ACT = 2 then outsQuiet s && spksQuiet s
       else pllLocked 1 s && pllLocked 2 s)
    else if n = 2 then runReached s
    else true

/-- POWER_STATE_STEP_DONE. What STANDBY had stopped starts again when it is left (R94, R95). -/
def execPowerStateStepDone (s : State) : Host.Outcome State Fault Refusal :=
  s.ticking (
    .next (if !psMayEnd s then s
      else
        let wake := s.fld F.PWR_STATUS_PS_ACT = 0
        (psStepDone s).when wake (fun s => pdmWake (fxWake (fchWake s)))))

/-- What a restore test's end does to its unit, by block code (R27). -/
def restoreEnd (unit idx : Nat) (pass : Bool) (failed : List Nat) (s : State) : State :=
  if unit = 0x11 then ainRestoreEnd idx s
  else if unit = 0x13 then fchRestoreEnd failed s
  else if unit = 0x14 then
    svcRestoreEnd idx (if pass then s else { s with svc := { s.svc with missed := true } })
  else if unit = 0x18 then spnRestoreEnd idx pass s
  else if unit = 0x19 then mixRestoreEnd failed s
  else if unit = 0x1A then fxRestoreEnd idx failed s
  else if unit = 0x1B then outRestoreEnd idx pass s
  else if unit = 0x1D then cvRestoreEnd idx pass s
  else if unit = 0x1E then spkRestoreEnd idx pass s
  else if unit = 0x1F then bstRestoreEnd pass s
  else s

/-- GUARD_RESTORE_TEST_END. `pass` is the test's result; `failed` names the units of an engine that failed it. -/
def execGuardRestoreTestEnd (unit : Fin 64) (idx : Fin 64) (pass : Bool) (failed : List Nat) (s : State) :
    Host.Outcome State Fault Refusal :=
  s.ticking (
    .next (match s.testOf unit.val idx.val with
      | some t => if t.due ≤ s.tick then restoreEnd unit.val idx.val pass failed (s.endTest unit.val idx.val) else s
      | none => s))

/-- SWAP_CROSSFADE_END. 0 a decimator, 1 a biquad node, 2 a convolution channel, 3 a shaper (R141, R270, R284, R289). -/
def execSwapCrossfadeEnd (kind : Fin 4) (idx : Fin 1024) (s : State) : Host.Outcome State Fault Refusal :=
  s.ticking (
    .next (if kind.val = 0 then audSwapEnd idx.val s
      else if kind.val = 1 then bqSwapEnd idx.val s
      else if kind.val = 2 then convSwapEnd idx.val s
      else shSwapEnd idx.val s))

end Sys2Proof.Machine
end

