-- ==== Sys2Proof/Machine/Read.lean ====
section
/-!
DEFINITION. Reads over the ports (R477-R479, R486, R488-R493, R497-R500): what every address reads as, latched groups, FRESH.
-/

namespace Sys2Proof.Machine

/-- Element `i` at address `a` of an array that starts at `base`. -/
def atArray (base stride n a : Nat) : Option Nat :=
  if base ≤ a ∧ (a - base) % stride = 0 ∧ (a - base) / stride < n then some ((a - base) / stride) else none

/-- A byte address as the map sees it: of a word (R477), the queue registers of page QMG behind QSEL (R409, R420). -/
def regAddr (a : Nat) (s : State) : Nat :=
  let a := a % 2 ^ 24 / 4 * 4
  if 0x100068 ≤ a ∧ a < 0x100084 then 0x1000000 + 0x20 * qSel s + (a - 0x100068) else a

/-- Whether a page drives an interrupt pin, and which (R498). -/
def pageIrq (p : Nat) (s : State) : Bool := (s.word (p * 0x1000 + 0x010) &&& s.word (p * 0x1000 + 0x014)) != 0
def pageOnPin (n p : Nat) (s : State) : Bool := pageInUse p && s.fld (F.pgIntPin p) == n && pageIrq p s

/-- A word from one bit for each `b` below 32. -/
def bitWord (f : Nat → Bool) : Word := (List.range 32).foldl (fun w b => if f b then w.put b b 1 else w) 0

/-- HOST_INT_SUM, and a bit of HOST_PIN (R499). -/
def intSum (n i : Nat) (s : State) : Word := bitWord (fun b => pageOnPin n (32 * i + b) s)
def pinLow (n : Nat) (s : State) : Bool := pagesInUse.any (fun p => pageOnPin n p s)

/-- Word `i` of a log record (R533, R551). -/
def recWord (r : Option LogRec) (i : Nat) : Word :=
  match r with
  | some r => BitVec.ofNat 32 (leNum ((r.bytes.drop (4 * i)).take 4))
  | none => 0

/-- Record `i` of the log RAM (R534, R551): the newest record stands at HEAD. -/
def logSlot (i : Nat) (s : State) : Option LogRec :=
  let n := s.flt.log.length
  let back := (s.flt.head + 128 - i) % 128
  if i < 128 ∧ back < n then s.flt.log[n - 1 - back]? else none

/-- The present gPTP time (R451): 0 before the first map. -/
def nowWords (s : State) : List Word :=
  match s.time.map with
  | none => [0, 0, 0]
  | some m =>
    let g := mapNs m s.tick s.cyc
    let sec := (gSec g).toNat
    [BitVec.ofNat 32 (sec % 2 ^ 32), BitVec.ofNat 32 (sec / 2 ^ 32 % 2 ^ 16), BitVec.ofNat 32 (gNs g).toNat]

/-- WP_WSTAT and WP_RSTAT of a window port (R417, R418). -/
def winWstat (w : Nat) (s : State) : Word :=
  let g := qOpenOf (s.queue (winWq s w)) (winProd w)
  let n := match g with
    | some g => g.words.length
    | none => 0
  (((0 : Word).put 31 31 (if g.isSome then 1 else 0)).put 30 16 n).put 14 0 (winCredit s w)
def winRstat (w : Nat) (s : State) : Word :=
  match qHead s (winRq s w), s.on (F.WP_CFG_REN w) with
  | some g, true =>
    let bit := fun (b : Bool) => if b then 1 else 0
    ((((((0 : Word).put 31 31 (bit g.err)).put 30 30 (bit g.trunc)).put 29 29 (bit g.replayed)).put 28 28 (bit (!g.closed))).put 27 27
      1).put 15 0 (min 65535 (g.len - (s.queue (winRq s w)).rd))
  | _, _ => 0

/-- The queue registers that follow the queue itself (R420). -/
def queueWord (a : Nat) (s : State) : Word :=
  let q := (a - 0x1000000) / 0x20
  let x := s.queue q
  let w := s.word a
  if a % 0x20 = 0x0C then (w.put 30 30 (if x.bm then 1 else 0)).put 16 0 x.occ
  else if a % 0x20 = 0x10 then w.put 16 0 x.sigs.length
  else if a % 0x20 = 0x14 then w.put 16 0 (qHeld x).length
  else w

/-- Header words that follow the page (R497). -/
def headerWord (a : Nat) (s : State) : Word :=
  let p := a >>> 12
  let o := a % 0x1000
  if o = 0x004 then ((s.word a).put 6 4 (pageState p s)).put 0 0 (if pageReady p s then 1 else 0)
  else if o = 0x024 then (s.word a).put 31 31 (if pagePend p s then 1 else 0)
  else s.word a

/-- Registers of the fault manager that follow its state (R551). -/
def fltWord (a : Nat) (s : State) : Word :=
  if 0x2800 ≤ a then recWord (logSlot ((a - 0x2800) / 16) s) (a % 16 / 4)
  else match atArray 0x2060 4 4 a, atArray 0x2070 4 4 a with
    | some i, _ => recWord s.flt.first i
    | _, some i => recWord s.flt.last i
    | _, _ =>
      if a = Adr.FLT_ISO_WHY then
        match SMap.get (fun _ => []) s.flt.why (32 * s.fld F.FLT_ISO_PROBE_WORD + s.fld F.FLT_ISO_PROBE_BIT) with
        | w :: _ => (((0 : Word).put 31 16 w.code).put 1 1 (if w.auto then 1 else 0)).put 0 0 (if w.host then 1 else 0)
        | [] => 0
      else if a = Adr.FLT_DEP then BitVec.ofNat 32 (depOf (s.fld F.FLT_DEP_SEL_SINK) s)
      else s.word a

/-- What the register at `a` shows: its live word, or what the block makes of it now. -/
def liveWord (a : Nat) (s : State) : Word :=
  if inHeader a then headerWord a s
  else if 0x1000000 ≤ a then queueWord a s
  else if a >>> 12 = Pg.flt then fltWord a s
  else if a = Adr.ID_GRADE then serialWord 2 &&& 1
  else if a = Adr.ID_SERIAL_LO then serialWord 0
  else if a = Adr.ID_SERIAL_HI then serialWord 1
  else if a = Adr.CLK_TICK_LO then BitVec.ofNat 32 (s.tick % 2 ^ 32)
  else if a = Adr.CLK_TICK_HI then BitVec.ofNat 32 (s.tick / 2 ^ 32)
  else if a = Adr.CLK_CYC then BitVec.ofNat 32 s.cyc
  else if a = Adr.TIME_NOW_SEC_LO then (nowWords s).getD 0 0
  else if a = Adr.TIME_NOW_SEC_HI then (nowWords s).getD 1 0
  else if a = Adr.TIME_NOW_NS then (nowWords s).getD 2 0
  else if a = Adr.HOST_PIN then bitWord (fun n => decide (n < 4) && pinLow n s)
  else if Adr.HOST_INT_SUM 0 0 ≤ a ∧ a < Adr.HOST_INT_SUM 4 0 then
    (if a % 0x40 < 0x28 then intSum ((a - Adr.HOST_INT_SUM 0 0) / 0x40) (a % 0x40 / 4) s else 0)
  else if a = Adr.NVM_STAT then (s.word a).put 5 5 (if pfVioOn s then 1 else 0)
  else if a = Adr.NVM_OTP_VAL then otpValue s (s.fld F.NVM_OTP_SEL_ITEM)
  else if a = Adr.NVM_OTP_ISTAT then
    let ws := otpWords s (s.fld F.NVM_OTP_SEL_ITEM)
    ((s.word a).put F.NVM_OTP_ISTAT_LEFT.hi F.NVM_OTP_ISTAT_LEFT.lo (4 - ws.length)).put F.NVM_OTP_ISTAT_ISTATE.hi
      F.NVM_OTP_ISTAT_ISTATE.lo (otpState ws)
  else if a = Adr.FX_PROBE_RES then fxProbe s
  else if 0x92100 ≤ a ∧ a < 0x94000 ∧ a % 16 = 0xC ∧ 0x100 ≤ a % 0x1000 ∧ a % 0x1000 < 0x900 then
    glideWord (128 * ((a - 0x92000) / 0x1000) + (a % 0x1000 - 0x100) / 16) s
  else if a = Adr.QMG_POOL then BitVec.ofNat 32 s.qmg.freeList
  else if a = Adr.QMG_SHFREE then BitVec.ofNat 32 (qSharedFree s)
  else if 0x101100 ≤ a ∧ a < 0x101300 then bitWord (fun b => s.on (F.QMG_QSTAT_XOFF (32 * ((a - 0x101100) / 4) + b)))
  else if 0x101300 ≤ a ∧ a < 0x101500 then bitWord (fun b => decide (0 < (s.queue (32 * ((a - 0x101300) / 4) + b)).occ))
  else if 0x61050 ≤ a ∧ a < 0x65000 ∧ 0x050 ≤ a % 0x1000 ∧ a % 0x1000 < 0x080 then
    ((s.spdi ((a - 0x61000) / 0x1000)).block).getD ((a % 0x1000 - 0x050) / 4) 0
  else if 0x800000 ≤ a ∧ a < 0x840000 then
    let w := (a - 0x800000) / 0x1000
    if a % 0x1000 = 0xC04 then winWstat w s else if a % 0x1000 = 0xC08 then winRstat w s
    else if a % 0x1000 = 0xC10 then s.word a else 0
  else s.word a

/-- The latched groups (R491): the words that a read of the first one latches. -/
def latchGroup (a : Nat) : List Nat :=
  if a = Adr.ID_SERIAL_LO then [Adr.ID_SERIAL_HI]
  else if a = Adr.CLK_TICK_LO then [Adr.CLK_TICK_HI, Adr.CLK_CYC]
  else if a = Adr.TIME_NOW_SEC_LO then [Adr.TIME_NOW_SEC_HI, Adr.TIME_NOW_NS]
  else if a = Adr.TIME_CVT_ST then (List.range 5).map (fun i => Adr.TIME_CVT_SEC_LO + 4 * i)
  else if a = Adr.TIME_CAL_DATE then [Adr.TIME_CAL_TIME]
  else if a = Adr.PRESS_S_LO then [Adr.PRESS_S_HI]
  else if a = Adr.FLT_FIRST 0 then [1, 2, 3].map Adr.FLT_FIRST
  else if a = Adr.FLT_LAST 0 then [1, 2, 3].map Adr.FLT_LAST
  else if a = Adr.FLT_DEP_SEL then [Adr.FLT_DEP]
  else match atArray (Adr.SPDI_BLK 0) 0x1000 4 a with
    | some _ => (List.range 12).map (fun i => a + 8 + 4 * i)
    | none => []

/-- Whether a word is latched by a read of another one. -/
def isLatched (a : Nat) : Bool :=
  [Adr.ID_SERIAL_HI, Adr.CLK_TICK_HI, Adr.CLK_CYC, Adr.TIME_NOW_SEC_HI, Adr.TIME_NOW_NS, Adr.TIME_CAL_TIME, Adr.PRESS_S_HI, Adr.FLT_DEP].contains a
    || (decide (Adr.TIME_CVT_SEC_LO ≤ a) && decide (a ≤ Adr.TIME_CVT_SEC_LO + 16))
    || (decide (Adr.FLT_FIRST 1 ≤ a) && decide (a < Adr.FLT_LAST 0)) || (decide (Adr.FLT_LAST 1 ≤ a) && decide (a < Adr.FLT_ISO 0))
    || (decide (0x61050 ≤ a) && decide (a < 0x65000) && decide (0x050 ≤ a % 0x1000) && decide (a % 0x1000 < 0x080))

/-- Where an origin's latch of a word stands. -/
def latchKey (o : Origin) (a : Nat) : Nat := o.num * 2 ^ 26 + a

/-- Bits that read 0 whatever they hold, and bits that read from the shadow (R488). -/
def woMask (a : Nat) : Word :=
  match rowOf a with
  | some r => r.mask (fun t => decide (t = .wo))
  | none => 0

/-- What an origin reads at `a` (R486-R493); RDATA apart. -/
def readWord (o : Origin) (a : Nat) (s : State) : Word :=
  let a := regAddr a s
  if 0x400000 ≤ a ∧ a < 0x448000 then xpRead (xpIdx ((a - 0x400000) % 0x600 / 4) ((a - 0x400000) / 0x600)) s
  else if 0x600000 ≤ a ∧ a < 0x800000 then poolRead (a - 0x600000) s
  else if isLatched a then SMap.get (fun _ => 0) s.latch (latchKey o a)
  else
    let live := liveWord a s
    let st := stMask a
    let view := s.on (F.pgViewLive (pageKey a >>> 12))
    let w := if view then live else (live &&& ~~~st) ||| (SMap.get resetWord s.shadow a &&& st)
    let w := w &&& ~~~woMask a
    if (SMap.get (fun _ => 0) s.fresh a).testBit o.num then w.put 31 31 1 else w

/-- The address that follows in a burst of a port (R480, R482, R484). -/
def portNext (o : Origin) (a : Nat) (s : State) : State :=
  if o = .mc then s else { s with portAddr := SMap.set (fun _ => 0) s.portAddr o.num ((a / 4 * 4 + 4) % 2 ^ 24) }

/-- A read that consumes nothing: FRESH of the origin clears, a group's first word latches the others (R491, R492). -/
def readPlain (o : Origin) (a0 : Nat) (s : State) : State :=
  let a := regAddr a0 s
  let v := readWord o a0 s
  let m := SMap.get (fun _ => 0) s.fresh a
  let t := { s with
    fresh := if m.testBit o.num then SMap.set (fun _ => 0) s.fresh a (m - 2 ^ o.num) else s.fresh,
    latch := (latchGroup a).foldl (fun l b => SMap.set (fun _ => 0) l (latchKey o b) (liveWord b s)) s.latch }
  let t := match atArray (Adr.SPN_TAP_RES 0) 4 32 a with
    | some k => { t with spn := { t.spn with read := SMap.set (fun _ => false) t.spn.read k true } }
    | none => t
  (portNext o a0 t).answer o v

/-- A read over a port or by the management controller; RDATA takes the next word (R418). -/
def readAt (o : Origin) (a : Nat) (s : State) : State :=
  let b := a % 2 ^ 24
  if 0x800000 ≤ b ∧ b < 0x840000 ∧ 0x800 ≤ b % 0x1000 ∧ b % 0x1000 < 0xC00 then
    let r := winRead ((b - 0x800000) / 0x1000) 0 s
    (portNext o b r.2).answer o r.1
  else readPlain o b s

/-- RESULT_REGISTER_READ. A read of any address goes the same way. -/
def execResultRegisterRead (o : Origin) (addr : Fin 16777216) (s : State) : Host.Outcome State Fault Refusal :=
  s.heardFrom o (
    .next (readAt o addr.val s))

/-- LATCHED_GROUP_READ. -/
def execLatchedGroupRead (o : Origin) (addr : Fin 16777216) (s : State) : Host.Outcome State Fault Refusal :=
  s.heardFrom o (
    .next (readPlain o addr.val s))

end Sys2Proof.Machine
end

