-- ==== Sys2Proof/Machine/Host.lean ====
section
/-!
DEFINITION. Writes over the register request path (R485, R487-R490, R494): access types, locks, clamps, and what each register's write
sets off.
-/

namespace Sys2Proof.Machine

/-- A register write as it lands: origin, register, word. -/
structure Wr where
  o : Origin
  a : Nat
  w : Word

/-- Rows that hold two counters with their SAT flags and nothing else, by the address of their first instance (R10, R490). -/
def cntRows : List Nat :=
  [0x001070, 0x001074, 0x002058, 0x0020B8, 0x002100, 0x00304C, 0x006048, 0x00604C, 0x007150, 0x008060, 0x008064, 0x009050, 0x010078, 0x01007C, 0x030110, 0x038124, 0x03C044, 0x03C04C,
   0x040060, 0x040064, 0x05005C, 0x050060, 0x050064, 0x061088, 0x06108C, 0x070054, 0x070058, 0x070600, 0x080058, 0x090044, 0x0A0058, 0x0A005C, 0x0B011C, 0x0B0120, 0x0C0048, 0x0C0114,
   0x0D0120, 0x0D0124, 0x0E0070, 0x0E0074, 0x0F0068, 0x0F006C, 0x100054, 0x100058, 0x10005C, 0x110058, 0x11005C, 0x1110A0, 0x1110A4, 0x1110A8, 0x1110AC, 0x1110B0, 0x1110B4, 0x1110B8, 0x1110BC, 0x12004C, 0x120114, 0x121110, 0x121114, 0x121118, 0x800C10, 0x1000018]

/-- Rows of which only some bits are counters and SAT flags. -/
def cntSome : List (Nat × Word) :=
  [(0x002104, 0xffffff00), (0x002144, 0xffff0000), (0x003078, 0xff000000), (0x004070, 0xffff0000), (0x00507C, 0xffff0000), (0x060048, 0xffff0000), (0x08005C, 0xffff0000), (0x09004C, 0xffff0000),
   (0x091400, 0xffff0000), (0x0A110C, 0xffff0000), (0x0D008C, 0xff000000)]

/-- The counters and SAT flags of the register at `a`. -/
def cntMask (a : Nat) : Word :=
  match rowOf a with
  | none => 0
  | some r =>
    if inHeader a then (if a % 0x1000 = 0x00C then 0xFFFF else if a % 0x1000 = 0x020 then 0x8000FFFF else 0)
    else if cntRows.contains r.base then 0xFFFFFFFF
    else ((cntSome.find? (fun e => e.1 == r.base)).map (·.2)).getD 0

/-- CNT_CLR: every counter and SAT flag of a page (R490). -/
def cntClear (p : Nat) (s : State) : State :=
  s.eachOf (s.regs.map (·.1)) (fun a s => if pageKey a >>> 12 = p then s.setWord a (s.word a &&& ~~~cntMask a) else s)

/-- A write of INT_TEST (R497). -/
def intTest (p : Nat) (s : State) : State := s.raise p 31

/-- W1C bits written as 1 clear; those that hardware sets in the same cycle stay (R488). -/
def w1cClear (a : Nat) (bits again : Word) (s : State) : State :=
  match rowOf a with
  | none => s
  | some r =>
    let m := r.mask (fun t => decide (t = .w1c))
    s.setWord a ((s.word a &&& ~~~(bits &&& m)) ||| (again &&& m))

/-- A locked write that would have changed a field (R494): 1 a locked page, 2 written once already, 4 the management controller. -/
def lockedWrite (page kind ofs : Nat) (s : State) : State :=
  (s.viol page kind ofs).configFault page (if kind = 1 then 0x3D else if kind = 2 then 0x3E else 0x3F)

/-- A write to PG_LOCK (R488, R494). -/
def lockWrite (o : Origin) (p : Nat) (one : Bool) (s : State) : State :=
  let was := s.on (F.pgLock p)
  if one = was then s
  else if o = .mc then lockedWrite p 4 0x01C s
  else if was then lockedWrite p 2 0x01C s
  else s.setFld (F.pgLock p) 1

/-- A field clamped after a write; whether it was outside (R11). -/
def clampFld (f : Fld) (lo hi : Nat) (x : Bool × State) : Bool × State :=
  let v := x.2.fld f
  if clampNat lo hi v = v then x else (true, x.2.setFld f (clampNat lo hi v))
def clampInF (f : Fld) (lo hi : Int) (x : Bool × State) : Bool × State :=
  let v := x.2.int f
  if clampInt lo hi v = v then x else (true, x.2.setInt f (clampInt lo hi v))

/-- A clamp counted once per write (R11, R494). -/
def clampCount (a : Nat) (x : Bool × State) : State := x.2.when x.1 (State.viol (a >>> 12) 3 (a % 0x1000))

/-- The fields of a word under their access types (R488, R494); WO fields act elsewhere. -/
def writeTypes (x : Wr) (s : State) : State :=
  match rowOf x.a with
  | none => s
  | some r =>
    let p := pageKey x.a >>> 12
    let lk := r.mask (fun t => decide (t = .lk))
    let held := lk != 0 && (x.o == .mc || s.on (F.pgLock p))
    let live := r.mask (fun t => decide (t = .rw)) ||| (if held then 0 else lk)
    let st := r.mask (fun t => decide (t = .st))
    let old := s.word x.a
    let new := (old &&& ~~~live) ||| (x.w &&& live)
    let s := s.setWord x.a (new &&& ~~~(x.w &&& r.mask (fun t => decide (t = .w1c))))
    let s := if st = 0 then s else
      { s with shadow := SMap.set resetWord s.shadow x.a ((SMap.get resetWord s.shadow x.a &&& ~~~st) ||| (x.w &&& st)),
               shadowMc := SMap.set (fun _ => false) s.shadowMc x.a (x.o == .mc) }
    if held && (old ^^^ x.w) &&& lk != 0 then lockedWrite p (if x.o = .mc then 4 else 1) (pageKey x.a % 0x1000) s else s

/-- Header writes (R490, R494, R497). -/
def writeHeader (x : Wr) (s : State) : State :=
  let p := x.a >>> 12
  let o := x.a % 0x1000
  if o = 0x004 then
    (if x.o = .mc then
      { s with flt := { s.flt with viewSet := SMap.set (fun _ => false) s.flt.viewSet p true } }.setFld (F.pgMgmtView p) (x.w.bits 10 8)
     else s)
  else if o = 0x008 then
    let s := (writeTypes x s).when (x.w.getLsbD 0) (intTest p)
    if !x.w.getLsbD 1 then s
    else if x.o = .mc ∧ p = Pg.flt then lockedWrite Pg.flt 4 0x008 s
    else cntClear p s
  else if o = 0x01C then lockWrite x.o p (x.w.getLsbD 0) s
  else writeTypes x s

/-- Registers of the FLT page that only the host may write (R544). -/
def hostOnly (a : Nat) : Bool :=
  [Adr.FLT_FN_CFG, Adr.FLT_FN_ACK, Adr.FLT_LOG_CLR, Adr.FLT_ISO_CFG, Adr.FLT_MC_CTRL, Adr.FLT_VIEW_CFG].contains a
    || (atArray (Adr.FLT_ISO_SET 0) 4 3 a).isSome || (atArray (Adr.FLT_ISO_CLR 0) 4 3 a).isSome

/-- Whether a write of `w` would change a field or act at a host-only register. -/
def wouldAct (a : Nat) (w : Word) (s : State) : Bool :=
  match rowOf a with
  | none => false
  | some r =>
    (r.mask (fun t => decide (t = .rw ∨ t = .lk)) &&& (s.word a ^^^ w)) ||| (r.mask (fun t => decide (t = .wo)) &&& w) != 0

/-- Writes on the FLT page (R534-R548, R551). -/
def writeFlt (x : Wr) (s : State) : State :=
  let a := x.a
  if x.o = .mc ∧ hostOnly a then (if wouldAct a x.w s then s.denied Pg.flt (a % 0x1000) else s)
  else if a = Adr.FLT_LOCKALL then
    let was := s.on F.FLT_LOCKALL_LOCKALL
    if x.w.getLsbD 0 = was then s
    else if x.o = .mc then lockedWrite Pg.flt 4 0x170 s
    else if was then lockedWrite Pg.flt 2 0x170 s else lockAll s
  else if a = Adr.FLT_FN_ACK then s.when (x.w.getLsbD 0) fnAck
  else if a = Adr.FLT_LOG_CLR then s.when (x.w.getLsbD 0) logClr
  else if a = Adr.FLT_WDOG then s.when (x.w.getLsbD 0) (wdogKick x.o)
  else if a = Adr.FLT_MC_CTRL then
    let was := s.on F.FLT_MC_CTRL_MC_HOLD
    let s := writeTypes x s
    let s := s.when (x.w.getLsbD 0 != was) (mcHold (x.w.getLsbD 0))
    s.when (x.w.getLsbD 1) mcRun
  else match atArray (Adr.FLT_ISO_SET 0) 4 3 a, atArray (Adr.FLT_ISO_CLR 0) 4 3 a with
    | some k, _ => isoSet k x.w s
    | _, some k => isoClr k x.w s
    | _, _ => writeTypes x s

/-- The bounds of PWR (R101): k = 0 HB_VMIN, 1 HB_VMAX, 2 VCORE_FLOOR, 3 VCORE_CEIL. -/
def writeBound (x : Wr) (s : State) : State :=
  let k := (x.a - Adr.PWR_HB_VMIN) / 4
  let held := k < 2 && (x.o == .mc || s.on (F.pgLock Pg.pwr))
  let s := writeTypes x s
  if held then s
  else
    let lo := if k < 2 then 700 else s.fld F.PWR_HB_VMIN_HB_VMIN
    let hi := if k < 2 then 900 else s.fld F.PWR_HB_VMAX_HB_VMAX
    vBounds (clampCount x.a (clampFld ⟨x.a, 11, 0⟩ lo hi (false, s)))

/-- Writes on the pages of supplies, clocks and time. -/
def writeClocks (x : Wr) (s : State) : State :=
  let a := x.a
  let w := x.w
  if a = Adr.PWR_STATE_REQ then psRequest (w.bits 1 0) s
  else if Adr.PWR_HB_VMIN ≤ a ∧ a ≤ Adr.PWR_VCORE_CEIL then writeBound x s
  else if a = Adr.PWR_VLOOP_CFG then vCfgAfter (s.on F.PWR_VLOOP_CFG_LOOP_EN) (writeTypes x s)
  else if a = Adr.CLK_REF_CFG then
    let was := s.fld F.CLK_REF_CFG_REF_SEL
    slewShow (refSelect (w.bits 0 0) ((writeTypes x s).setFld F.CLK_REF_CFG_REF_SEL was))
  else if a = Adr.CLK_STEER_FLOOR ∨ a = Adr.CLK_STEER_CEIL then steerBound (writeTypes x s)
  else if a = Adr.CLK_RELOCK then
    let s := s.when (w.getLsbD 0) (pllRelock 1)
    let s := s.when (w.getLsbD 1) (pllRelock 2)
    s.when (w.getLsbD 2) (pllRelock 3)
  else if a = Adr.TIME_MAP_CTRL then s.when (w.getLsbD 0) timeCommit
  else if a = Adr.TIME_CVT_CYC then timeConvert (w.bits 12 0) s
  else writeTypes x s

/-- Writes on the pages of peripherals, storage and the mailbox. A controller of the I2C bus finds it idle here (log entry 17). -/
def writeIo (x : Wr) (s : State) : State :=
  let a := x.a
  let w := x.w
  if a = Adr.PRESS_CMD then pressCmd (w.bits 2 0) (x.o == .mc) s
  else if a = Adr.GPIO_SET then gpioSet w s
  else if a = Adr.GPIO_CLR then gpioClr w s
  else if a = Adr.GPIO_OUT ∨ a = Adr.GPIO_DIR ∨ a = Adr.GPIO_PU ∨ a = Adr.GPIO_PD then gpioDrive (writeTypes x s)
  else if a = Adr.NVM_JCMD then jCommand x.o w s
  else if a = Adr.NVM_OTP_CMD then s.when (w.getLsbD 0) (otpProgram x.o)
  else if a = Adr.NVM_HLOAD_CTRL then (s.when (w.getLsbD 0) hloadStart).when (w.getLsbD 1) hloadGo
  else if a = Adr.NVM_HLOAD_DATA then hloadData w s
  else if a = Adr.MBOX_H2M_LEN then (if x.o = .mc then s else mboxSend (w.bits 6 0) s)
  else if a = Adr.MBOX_M2H_ACK then s.when (w.getLsbD 0) mboxAck
  else if (atArray (Adr.H2M_DATA 0) 4 64 a).isSome then
    (if x.o ≠ .mc ∧ s.on F.MBOX_STAT_H2M_FULL then mboxIgnored s else writeTypes x s)
  else match atArray (Adr.I2C_CFG 0) 0x80 4 a, atArray (Adr.I2C_XFER 0) 0x80 4 a with
    | some k, _ => let was := s.on (F.I2C_CFG_EN k); i2cEnable k (w.getLsbD 0) was true (writeTypes x s)
    | _, some k => i2cXfer k w false true s
    | _, _ => writeTypes x s

/-- Writes on the analog input pages (R117-R125). -/
def writeAin (x : Wr) (s : State) : State :=
  let n := (x.a >>> 12) - 0x010
  let t := writeTypes x s
  if x.a = Adr.AIN_MATCH_CFG n then t.when (s.on (F.AIN_MATCH_CFG_MATCH_EN n) != t.on (F.AIN_MATCH_CFG_MATCH_EN n)) (matchStart n)
  else if Adr.AIN_MATCH_GFLOOR n ≤ x.a ∧ x.a ≤ Adr.AIN_MATCH_GCEIL n then
    clampCount x.a (clampInF ⟨x.a, 15, 0⟩ (-10000) 10000 (false, t))
  else if Adr.AIN_MATCH_DFLOOR n ≤ x.a ∧ x.a ≤ Adr.AIN_MATCH_DCEIL n then
    clampCount x.a (clampInF ⟨x.a, 15, 0⟩ (-2000) 2000 (false, t))
  else if Adr.AIN_MATCH_OFS n 0 ≤ x.a ∧ x.a ≤ Adr.AIN_MATCH_OFS n 2 then
    if x.a = Adr.AIN_MATCH_OFS n (matchRow (s.ach n).mode) then t.setAch n { t.ach n with ofsAt := some (s.tick * 5120 + s.cyc) } else t
  else if x.a = Adr.AIN_GUARD_CTRL n then t.when (x.w.getLsbD 0) (ainRestore n)
  else t

/-- A comparator whose EN changes starts UNDECIDED (R147). -/
def thrEnable (c k : Nat) (old s : State) : State := s.when (old.on (F.FCH_THR_EN c k) != s.on (F.FCH_THR_EN c k)) (thrReset c k)

/-- The two force codes of a channel (R149). -/
def thrForceCodes (c : Nat) (w : Word) (s : State) : State :=
  s.each 2 (fun k s => let v := w.bits (2 * k + 1) (2 * k); s.when (v != 0) (thrForceLand c k v))

/-- Writes on the filter pages (R139-R157). -/
def writeFch (x : Wr) (s : State) : State :=
  let o := x.a % 0x100
  if x.a = Adr.FCH_GUARD_CTRL then s.when (x.w.getLsbD 0 && engineMayRestore s.fch.eng) (State.startTest 0x13 0 0)
  else if 0x03C000 ≤ x.a ∨ x.a % 0x1000 < 0x100 then writeTypes x s
  else if x.a < 0x038000 then
    let d := ((x.a >>> 12) - 0x030) * 6 + (x.a % 0x1000 / 0x100 - 1)
    if o = 0x04 ∨ o = 0x08 then (if (rowOf x.a).isSome then fchBankWrite false d (o / 4 - 1) x.w s else s) else writeTypes x s
  else
    let c := ((x.a >>> 12) - 0x038) * 8 + (x.a % 0x1000 / 0x100 - 1)
    if (rowOf x.a).isNone then s
    else if o = 0x04 ∨ o = 0x08 then fchBankWrite true c (o / 4 - 1) x.w s
    else if o = 0x0C ∨ o = 0x10 then thrEnable c ((o - 0x0C) / 4) s (writeTypes x s)
    else if o = 0x18 then thrForceCodes c x.w s
    else writeTypes x s

/-- Writes on the pages of converters, serial ports and crossings. -/
def writePorts (x : Wr) (s : State) : State :=
  let a := x.a
  let w := x.w
  let p := a >>> 12
  if a = Adr.SVC_URG_REQ then s.when (w.getLsbD 31) (svcUrgent (svcRank x.o) s.cyc (w.bits 7 7) (w.bits 6 0) (w.bits 10 9) (w.getLsbD 8))
  else if a = Adr.SVC_GUARD_CTRL then s.when (w.getLsbD 0) svcRestore
  else if 0x050 ≤ p ∧ p < 0x060 ∧ a % 0x1000 = 0x068 then s.when (w.getLsbD 0) (sapRestart (p - 0x050))
  else if a = Adr.PDM_CTRL then s.each 16 (fun k s => s.when (w.getLsbD k) (micRestart k))
  else if 0x061 ≤ p ∧ p < 0x065 ∧ a % 0x1000 = 0x090 then s.when (w.getLsbD 0) (spdiRestart (p - 0x061))
  else if a = Adr.SPN_GUARD_CTRL then s.when (w.getLsbD 0) spnRestore
  else if a = Adr.MIX_GUARD_CTRL then s.when (w.getLsbD 0) mixRestore
  else match atArray (Adr.MIX_BUS 0) 4 192 a with
    | some b =>
      let was := s.on (F.MIX_BUS_MUTE b)
      let s := writeTypes x s
      let now := s.on (F.MIX_BUS_MUTE b)
      if now = was then s else busMute b now s
    | none =>
      if (p = 0x092 ∨ p = 0x093) ∧ 0x100 ≤ a % 0x1000 ∧ a % 0x10 = 0xC ∧ (rowOf a).isSome then
        let n := (p - 0x092) * 128 + (a % 0x1000 - 0x100) / 0x10
        (s.when (w.getLsbD 1) (glideStop n)).when (w.getLsbD 0) (glideGo n)
      else writeTypes x s

/-- An ignored write to a bank register of an effects page (R287). -/
def bankRefuse (page inst ofs : Nat) (s : State) : State :=
  (((s.viol page 5 ofs).bump F.FX_CNT2_BANK_WR_CNT F.FX_CNT2_BW_SAT).report 0x8685 inst 0).raise Pg.fx 2

/-- Writes on the effects pages (R270-R290). -/
def writeFx (x : Wr) (s : State) : State :=
  let a := x.a
  let w := x.w
  let p := a >>> 12
  let i := a % 0x1000 - 0x100
  if a = Adr.FX_GUARD_CTRL then s.each 6 (fun e s => s.when (w.getLsbD e) (fxRestore e))
  else if a = Adr.CV_PREP then s.when (w.getLsbD 31) (convPrep (w.bits 6 0) (w.bits 15 8))
  else if a % 0x1000 < 0x100 ∨ (rowOf a).isNone then writeTypes x s
  else if p = 0x0A1 ∧ (a % 0x10 = 0x4 ∨ a % 0x10 = 0x8) then
    (if bqLocked (i / 0x10) (a % 0x10 / 4 - 1) s then bankRefuse p 0 (a % 0x1000) s else writeTypes x s)
  else if (p = 0x0A2 ∨ p = 0x0A3) ∧ (a % 0x20 = 0x4 ∨ a % 0x20 = 0x8) then writeTypes x (dynParamWrite ((p - 0x0A2) * 64 + i / 0x20) a s)
  else if (p = 0x0A2 ∨ p = 0x0A3) ∧ a % 0x20 = 0xC then mkWrite ((p - 0x0A2) * 64 + i / 0x20) (writeTypes x s)
  else if p = 0x0A8 ∧ i < 0x400 ∧ a % 0x10 = 0x4 then shGainWrite (i / 0x10) (writeTypes x s)
  else if (p = 0x0A5 ∨ p = 0x0A6) ∧ a % 0x10 = 0x4 then tapWrite ((p - 0x0A5) * 128 + i / 0x10) (w.bits 29 0) s
  else if p = 0x0A7 ∧ 0x04 ≤ a % 0x20 ∧ a % 0x20 < 0x14 then
    (if setLocked (i / 0x20) ((a % 0x20 - 4) / 8) s then bankRefuse p 0x30 (a % 0x1000) s else writeTypes x s)
  else writeTypes x s

/-- Writes on the pages of outputs, jacks and control voltages. -/
def writeOuts (x : Wr) (s : State) : State :=
  let a := x.a
  let w := x.w
  match atArray (Adr.OUT_CTRL 0) 0x40 20 a, atArray (Adr.JK_THR 0) 0x20 12 a, atArray (Adr.JK_CTRL 0) 0x20 12 a with
  | some o, _, _ =>
    let was := s.on (F.OUT_CTRL_MUTE o)
    let s := writeTypes x s
    let s := s.when (w.getLsbD 0 != was) (outMuteWrite o (w.getLsbD 0))
    s.when (w.getLsbD 1) (outRestore o)
  | _, some j, _ => jackThrWrite j (writeTypes x s)
  | _, _, some j => jackForceWrite j (w.bits 1 0) s
  | _, _, _ =>
    match atArray (Adr.TMR_CTRL 0) 0x10 4 a, atArray (Adr.CV_CTRL 0) 0x40 16 a with
    | some k, _ => (s.when (w.getLsbD 1) (tmrStop k)).when (w.getLsbD 0) (tmrArm k)
    | _, some n => (writeTypes x s).when (w.getLsbD 1) (cvRestore n)
    | _, _ => writeTypes x s

/-- A written bound of the load model, and the model within it (R354). -/
def writeZ (n : Nat) (x : Wr) (s : State) : State :=
  let lo := if spkPair n s then 75 else 150
  let hi := if spkPair n s then 1600 else 3200
  let s := clampCount x.a (clampFld (F.SPK_ZB_ZCEIL n) lo hi (clampFld (F.SPK_ZB_ZFLOOR n) lo hi (false, writeTypes x s)))
  if spkLead n s ≠ n then s
  else if (s.sch n).z = 0 then s.setOn (F.SPK_STAT_PINNED n) (decide (spkZHi n s ≤ spkZLo n s))
  else spkSetZ n (s.sch n).z false s

/-- Written bounds of the rail: clamped to the headband in the shadow, which reads back, and counted (R11, R392). -/
def writeBstBound (x : Wr) (s : State) : State :=
  let s := writeTypes x s
  let w := SMap.get resetWord s.shadow x.a
  let c := fun (f : Fld) => clampNat 80 (bstTop s) (w.bits f.hi f.lo)
  let v := (w.put 24 16 (c F.BST_BOUND_CEIL)).put 8 0 (c F.BST_BOUND_FLOOR)
  if v = w then s else (s.setShadow x.a v).viol Pg.bst 3 (x.a % 0x1000)

/-- Writes on the speaker and boost pages. -/
def writeSpk (x : Wr) (s : State) : State :=
  let w := x.w
  if x.a = Adr.BST_CTRL then s.when (w.getLsbD 0) bstRestore
  else if x.a = Adr.BST_BOUND then writeBstBound x s
  else
    let n := (x.a >>> 12) - 0x0E0
    if x.a = Adr.SPK_CTRL n then
      let was := s.on (F.SPK_CTRL_MUTE n)
      let s := writeTypes x s
      let s := s.when (w.getLsbD 0 != was) (spkMuteWrite n (w.getLsbD 0))
      (s.when (w.getLsbD 2) (spkClear n)).when (w.getLsbD 3) (spkRestore n)
    else if x.a = Adr.SPK_ZB n then writeZ n x s
    else writeTypes x s

/-- A command of QMG_QCMD (R409): 1 FLUSH, 2 BM_SET, 3 BM_REWIND, 4 BM_RELEASE, 5 BM_CLEAR; the others have no effect. -/
def queueCmd (c : Nat) (s : State) : State :=
  if c = 1 then qCmdErr false (qFlush (qSel s) s)
  else if c = 2 then qCmdErr false (qBmSet (qSel s) s)
  else if c = 3 then qWithBm qBmRewind s
  else if c = 4 then qWithBm qRelease s
  else if c = 5 then qWithBm qBmClear s
  else qCmdErr true s

/-- Writes in the queue windows (R416-R418). -/
def writeWindow (x : Wr) (s : State) : State :=
  let k := (x.a - 0x800000) / 0x1000
  let o := x.a % 0x1000
  if o < 0x800 then winWrite k x.w s
  else if o = 0xC00 then (if x.w.getLsbD 31 then winAbort k s else winClose k (x.w.bits 1 0) s)
  else if o = 0xC0C then s.when (x.w.getLsbD 0) (winSkip k)
  else s

/-- Where a write goes by the map of R496; reserved addresses ignore it (R489). -/
def routeWrite (x : Wr) (s : State) : State :=
  let a := x.a
  if 0x1000000 ≤ a then writeTypes x s
  else if 0x400000 ≤ a then
    (if a < 0x448000 then xpWrite (xpIdx ((a - 0x400000) % 0x600 / 4) ((a - 0x400000) / 0x600)) x.w s
     else if 0x600000 ≤ a ∧ a < 0x800000 then poolWrite (a - 0x600000) x.w s
     else if 0x800000 ≤ a ∧ a < 0x840000 then writeWindow x s
     else s)
  else
    let p := a >>> 12
    if !pageInUse p then s
    else if a % 0x1000 < 0x028 then writeHeader x s
    else if p = Pg.flt then writeFlt x s
    else if p = Pg.pwr ∨ p = Pg.clk ∨ p = Pg.time then writeClocks x s
    else if p < 0x010 then writeIo x s
    else if p < 0x030 then writeAin x s
    else if p < 0x040 then writeFch x s
    else if p < 0x0A0 then writePorts x s
    else if p < 0x0B0 then writeFx x s
    else if p < 0x0E0 then writeOuts x s
    else if p < 0x100 then writeSpk x s
    else if a = Adr.QMG_QCMD then queueCmd (x.w.bits 2 0) s
    else if a = Adr.NET_TBL_CMD then tblCmd (x.w.bits 2 0) (x.w.bits 10 8) s
    else writeTypes x s

/-- A live word of a die's page that a write has changed goes to that die in the control burst of the next tick (R365). -/
def tellWritten (a : Nat) (was s : State) : State :=
  match dieOf a with
  | some l => if s.word a = was.word a then s else s.tell (2 * l) (s.tick + 1) (.config a (s.word a))
  | none => s

/-- A write of an origin to a byte address, as the request path applies it (R485). -/
def writeAt (o : Origin) (a : Nat) (w : Word) (s : State) : State :=
  portNext o a (tellWritten (regAddr a s) s (routeWrite ⟨o, regAddr a s, w⟩ s))

/-- REGISTER_WRITE. -/
def execRegisterWrite (o : Origin) (cyc : Fin 5120) (addr : Fin 16777216) (data : Word) (s : State) :
    Host.Outcome State Fault Refusal := s.heardFrom o (.next (writeAt o addr.val data (s.land cyc.val)))

/-- VCORE_BOUND_WRITE. 0 HB_VMIN, 1 HB_VMAX, 2 VCORE_FLOOR, 3 VCORE_CEIL. -/
def execVcoreBoundWrite (o : Origin) (k : Fin 4) (data : Word) (s : State) : Host.Outcome State Fault Refusal :=
  s.heardFrom o (
    .next (writeBound ⟨o, Adr.PWR_HB_VMIN + 4 * k.val, data⟩ s))

/-- COUNTER_CLEAR. -/
def execCounterClear (o : Origin) (page : Fin 290) (s : State) : Host.Outcome State Fault Refusal :=
  s.heardFrom o (
    .next (if pageInUse page.val then writeHeader ⟨o, page.val * 0x1000 + 0x008, (s.word (page.val * 0x1000 + 0x008)) ||| 2⟩ s else s))

/-- INTERRUPT_TEST. -/
def execInterruptTest (page : Fin 290) (s : State) : Host.Outcome State Fault Refusal :=
  s.heard (
    .next (if pageInUse page.val then intTest page.val s else s))

/-- W1C_CLEAR. `again` are the bits that hardware sets in the same cycle. -/
def execW1cClear (addr : Fin 16777216) (bits again : Word) (s : State) : Host.Outcome State Fault Refusal :=
  s.heard (
    .next (w1cClear (regAddr addr.val s) bits again s))

/-- PAGE_LOCK. -/
def execPageLock (o : Origin) (page : Fin 290) (s : State) : Host.Outcome State Fault Refusal :=
  s.heardFrom o (
    .next (if pageInUse page.val then lockWrite o page.val true s else s))

/-- A rise of a counter of the HOST page raises PORT_ERR (R499). -/
def portError (cnt sat : Fld) (s : State) : State := (s.bump cnt sat).raise Pg.host 0

/-- HPB_STROBE_CONFLICT. -/
def execHpbStrobeConflict (s : State) : Host.Outcome State Fault Refusal := s.heard (.next (portError F.HOST_ERR_HPB_ERR F.HOST_ERR_HE_SAT s))

/-- QS_BADCMD. -/
def execQsBadcmd (s : State) : Host.Outcome State Fault Refusal := s.heard (.next (portError F.HOST_ERR_QS_BADCMD F.HOST_ERR_QB_SAT s))

/-- QS_PART. -/
def execQsPart (s : State) : Host.Outcome State Fault Refusal := s.heard (.next (portError F.HOST_ERR2_QS_PART F.HOST_ERR2_QP_SAT s))

/-- I2CT_PART. -/
def execI2ctPart (s : State) : Host.Outcome State Fault Refusal := s.heard (.next (portError F.HOST_ERR2_I2CT_PART F.HOST_ERR2_IP_SAT s))

end Sys2Proof.Machine
end

