-- ==== Sys2Proof/Machine/Jtag.lean ====
section
/-!
DEFINITION. The JTAG port (R600): its instructions, the data register each selects, and the outputs it takes out of service.
-/

namespace Sys2Proof.Machine

/-- IDCODE of stepping B0: version 1, part 0x9632, manufacturer identity 0x5AD. -/
def idcode : Word := 0x19632B5B

/-- A word as it shifts out, least significant bit first. -/
def shiftBits (w : Word) : List Bool := (List.range 32).map (fun i => w.getLsbD i)

/-- An instruction with the data register it selects. -/
def jtagLoad (ir : Nat) (dr : List Bool) (s : State) : State := { s with jtag := { s.jtag with ir := ir, dr := dr } }

/-- Every analog, speaker and network output in the reset state of R39 until the next pulse of RESET_N. -/
def jtagSafe (s : State) : State := { s with jtag := { s.jtag with safe := true } }

/-- JTAG_BYPASS. The bypass register captures 0. -/
def execJtagBypass (s : State) : Host.Outcome State Fault Refusal := .next (jtagLoad 0 [false] s)

/-- JTAG_IDCODE. -/
def execJtagIdcode (s : State) : Host.Outcome State Fault Refusal := .next (jtagLoad 1 (shiftBits idcode) s)

/-- JTAG_SAMPLE_PRELOAD. `cells` are the pins' levels as captured, `preload` what is shifted in. -/
def execJtagSamplePreload (cells preload : List Bool) (s : State) : Host.Outcome State Fault Refusal :=
  let s := jtagLoad 2 cells s
  .next { s with jtag := { s.jtag with cells := preload } }

/-- JTAG_EXTEST. The preloaded cells drive the digital pins; `cells` are the levels captured. -/
def execJtagExtest (cells : List Bool) (s : State) : Host.Outcome State Fault Refusal := .next (jtagSafe (jtagLoad 3 cells s))

/-- JTAG_CLAMP. The preloaded cells hold the digital pins; the bypass register is selected. -/
def execJtagClamp (s : State) : Host.Outcome State Fault Refusal := .next (jtagSafe (jtagLoad 4 [false] s))

/-- JTAG_HIGHZ. The digital pins float; the bypass register is selected. -/
def execJtagHighz (s : State) : Host.Outcome State Fault Refusal := .next (jtagSafe (jtagLoad 5 [false] s))

end Sys2Proof.Machine
end

