-- ==== Sys2Proof/Machine/Dispatch.lean ====
section
/-! DEFINITION. Which meaning each command has: one arm per command. -/

namespace Sys2Proof.Machine

/-- The effect of a command on everything but the queue of waiting commands. -/
def exec (i : Instr) (s : State) : Host.Outcome State Fault Refusal :=
  match i with
  | .tickBoundary w => Sys2Proof.Machine.execTickBoundary w s
  | .dataBurstSend d frame => Sys2Proof.Machine.execDataBurstSend d frame s
  | .controlBurstSend d cyc => Sys2Proof.Machine.execControlBurstSend d cyc s
  | .stitchBurstReceive d b => Sys2Proof.Machine.execStitchBurstReceive d b s
  | .burstWindowTimeout d w => Sys2Proof.Machine.execBurstWindowTimeout d w s
  | .retryRequest d bsn => Sys2Proof.Machine.execRetryRequest d bsn s
  | .burstReplay d a => Sys2Proof.Machine.execBurstReplay d a s
  | .takePoint cyc => Sys2Proof.Machine.execTakePoint cyc s
  | .linkTrainingAnswer l => Sys2Proof.Machine.execLinkTrainingAnswer l s
  | .lanesTrained l => Sys2Proof.Machine.execLanesTrained l s
  | .liveConfigTransferDone l => Sys2Proof.Machine.execLiveConfigTransferDone l s
  | .creditSetReceive d seq ok => Sys2Proof.Machine.execCreditSetReceive d seq ok s
  | .eccWriteBack => Sys2Proof.Machine.execEccWriteBack s
  | .resetAssert stage => Sys2Proof.Machine.execResetAssert stage s
  | .resetRelease por => Sys2Proof.Machine.execResetRelease por s
  | .dieSupplyLoss die stage => Sys2Proof.Machine.execDieSupplyLoss die stage s
  | .pllcLock band after => Sys2Proof.Machine.execPllcLock band after s
  | .pllcSearchFail => Sys2Proof.Machine.execPllcSearchFail s
  | .refQualWindow nref edges xtalLow => Sys2Proof.Machine.execRefQualWindow nref edges xtalLow s
  | .refLoss xtalLow => Sys2Proof.Machine.execRefLoss xtalLow s
  | .ioscSlewDone => Sys2Proof.Machine.execIoscSlewDone s
  | .refSwitch => Sys2Proof.Machine.execRefSwitch s
  | .pllLock pll ok band => Sys2Proof.Machine.execPllLock pll ok band s
  | .refSelChange sel => Sys2Proof.Machine.execRefSelChange sel s
  | .pllUnlock pll => Sys2Proof.Machine.execPllUnlock pll s
  | .pllcUnlock => Sys2Proof.Machine.execPllcUnlock s
  | .relockM => Sys2Proof.Machine.execRelockM s
  | .relockP => Sys2Proof.Machine.execRelockP s
  | .relockN => Sys2Proof.Machine.execRelockN s
  | .servoSample cyc err => Sys2Proof.Machine.execServoSample cyc err s
  | .railUndervoltage rail cold stage => Sys2Proof.Machine.execRailUndervoltage rail cold stage s
  | .railRecover rail por => Sys2Proof.Machine.execRailRecover rail por s
  | .pvinOvervoltage => Sys2Proof.Machine.execPvinOvervoltage s
  | .pvinFullChange full => Sys2Proof.Machine.execPvinFullChange full s
  | .pfVioChange low => Sys2Proof.Machine.execPfVioChange low s
  | .powerStateRequest req => Sys2Proof.Machine.execPowerStateRequest req s
  | .powerStateStepDone => Sys2Proof.Machine.execPowerStateStepDone s
  | .vloopSample => Sys2Proof.Machine.execVloopSample s
  | .avsTransactionDone ok complete mv ma => Sys2Proof.Machine.execAvsTransactionDone ok complete mv ma s
  | .vcoreBoundWrite o k data => Sys2Proof.Machine.execVcoreBoundWrite o k data s
  | .ainModeStepDone n => Sys2Proof.Machine.execAinModeStepDone n s
  | .micbOc k => Sys2Proof.Machine.execMicbOc k s
  | .modulatorStatus words => Sys2Proof.Machine.execModulatorStatus words s
  | .mergeReturn n => Sys2Proof.Machine.execMergeReturn n s
  | .matchBlock n cyc gainErr delayErr => Sys2Proof.Machine.execMatchBlock n cyc gainErr delayErr s
  | .ainRestore n => Sys2Proof.Machine.execAinRestore n s
  | .guardRestoreTestEnd unit idx pass failed => Sys2Proof.Machine.execGuardRestoreTestEnd unit idx pass failed s
  | .controlSampleLate c => Sys2Proof.Machine.execControlSampleLate c s
  | .comparatorAmbig c k => Sys2Proof.Machine.execComparatorAmbig c k s
  | .peakCapture c => Sys2Proof.Machine.execPeakCapture c s
  | .comparatorForceLow c k => Sys2Proof.Machine.execComparatorForceLow c k s
  | .comparatorForceHigh c k => Sys2Proof.Machine.execComparatorForceHigh c k s
  | .comparatorRelease c k => Sys2Proof.Machine.execComparatorRelease c k s
  | .fchBankWrite control ch bank data => Sys2Proof.Machine.execFchBankWrite control ch bank data s
  | .swapCrossfadeEnd kind idx => Sys2Proof.Machine.execSwapCrossfadeEnd kind idx s
  | .controlSwapSwitch c => Sys2Proof.Machine.execControlSwapSwitch c s
  | .fchResidue mac src => Sys2Proof.Machine.execFchResidue mac src s
  | .fchRestore => Sys2Proof.Machine.execFchRestore s
  | .svcConversion conv slot code => Sys2Proof.Machine.execSvcConversion conv slot code s
  | .checkSlot a b => Sys2Proof.Machine.execCheckSlot a b s
  | .urgentRequest rank cyc conv ch form => Sys2Proof.Machine.execUrgentRequest rank cyc conv ch form s
  | .vrefxLoss => Sys2Proof.Machine.execVrefxLoss s
  | .referenceSettled ref => Sys2Proof.Machine.execReferenceSettled ref s
  | .svcRestore => Sys2Proof.Machine.execSvcRestore s
  | .sapSenseEnd p edges => Sys2Proof.Machine.execSapSenseEnd p edges s
  | .sapFrame p bits period line => Sys2Proof.Machine.execSapFrame p bits period line s
  | .sapClockLoss p => Sys2Proof.Machine.execSapClockLoss p s
  | .sapTxFrameRequest p => Sys2Proof.Machine.execSapTxFrameRequest p s
  | .sapFadeEnd p tx => Sys2Proof.Machine.execSapFadeEnd p tx s
  | .sapRampEnd p tx => Sys2Proof.Machine.execSapRampEnd p tx s
  | .sapRestart p => Sys2Proof.Machine.execSapRestart p s
  | .pdmWakeEnd k => Sys2Proof.Machine.execPdmWakeEnd k s
  | .pdmStuck k => Sys2Proof.Machine.execPdmStuck k s
  | .pdmRestart k => Sys2Proof.Machine.execPdmRestart k s
  | .spdifFrame n f => Sys2Proof.Machine.execSpdifFrame n f s
  | .spdifClockLoss n off => Sys2Proof.Machine.execSpdifClockLoss n off s
  | .spdifRestart n => Sys2Proof.Machine.execSpdifRestart n s
  | .ratioUpdate group ratio err => Sys2Proof.Machine.execRatioUpdate group ratio err s
  | .srcResidue int mac chan id => Sys2Proof.Machine.execSrcResidue int mac chan id s
  | .spnRestore => Sys2Proof.Machine.execSpnRestore s
  | .crosspointWrite cyc lane bus data => Sys2Proof.Machine.execCrosspointWrite cyc lane bus data s
  | .glideGo cyc n => Sys2Proof.Machine.execGlideGo cyc n s
  | .glideStop cyc n => Sys2Proof.Machine.execGlideStop cyc n s
  | .glideDone n => Sys2Proof.Machine.execGlideDone n s
  | .busMute cyc b => Sys2Proof.Machine.execBusMute cyc b s
  | .busUnmute cyc b => Sys2Proof.Machine.execBusUnmute cyc b s
  | .mixResidue mac cyc => Sys2Proof.Machine.execMixResidue mac cyc s
  | .mixRestore => Sys2Proof.Machine.execMixRestore s
  | .tapDelayWrite cyc t d => Sys2Proof.Machine.execTapDelayWrite cyc t d s
  | .tapGlideEnd t => Sys2Proof.Machine.execTapGlideEnd t s
  | .convPrep first n => Sys2Proof.Machine.execConvPrep first n s
  | .granuleReady g => Sys2Proof.Machine.execGranuleReady g s
  | .effectPoolWrite cyc word data => Sys2Proof.Machine.execEffectPoolWrite cyc word data s
  | .fxResidue eng unit cyc => Sys2Proof.Machine.execFxResidue eng unit cyc s
  | .partitionResidue c n unit => Sys2Proof.Machine.execPartitionResidue c n unit s
  | .fxRestore e => Sys2Proof.Machine.execFxRestore e s
  | .dacCoreFail core => Sys2Proof.Machine.execDacCoreFail core s
  | .coreDisagree o => Sys2Proof.Machine.execCoreDisagree o s
  | .outputStageFail o => Sys2Proof.Machine.execOutputStageFail o s
  | .outputIlimTrip o => Sys2Proof.Machine.execOutputIlimTrip o s
  | .outputDcTrip o => Sys2Proof.Machine.execOutputDcTrip o s
  | .outputMute o => Sys2Proof.Machine.execOutputMute o s
  | .outputUnmute o => Sys2Proof.Machine.execOutputUnmute o s
  | .outputRestore o => Sys2Proof.Machine.execOutputRestore o s
  | .outputPresetSwitch o => Sys2Proof.Machine.execOutputPresetSwitch o s
  | .jackAmbig j => Sys2Proof.Machine.execJackAmbig j s
  | .jackForceRemoved cyc j => Sys2Proof.Machine.execJackForceRemoved cyc j s
  | .jackForceInserted cyc j => Sys2Proof.Machine.execJackForceInserted cyc j s
  | .jackForceRelease cyc j => Sys2Proof.Machine.execJackForceRelease cyc j s
  | .plugWaitEnd o => Sys2Proof.Machine.execPlugWaitEnd o s
  | .powerUpRampStep o => Sys2Proof.Machine.execPowerUpRampStep o s
  | .powerDownRampStep o => Sys2Proof.Machine.execPowerDownRampStep o s
  | .timerArm k => Sys2Proof.Machine.execTimerArm k s
  | .timerStop k => Sys2Proof.Machine.execTimerStop k s
  | .timerFire k => Sys2Proof.Machine.execTimerFire k s
  | .cvIlimTrip n => Sys2Proof.Machine.execCvIlimTrip n s
  | .cvVrefFail => Sys2Proof.Machine.execCvVrefFail s
  | .cvVrefRecover => Sys2Proof.Machine.execCvVrefRecover s
  | .cvRefHoldEnd => Sys2Proof.Machine.execCvRefHoldEnd s
  | .cvRestore n => Sys2Proof.Machine.execCvRestore n s
  | .spkStart n => Sys2Proof.Machine.execSpkStart n s
  | .spkPrecheckDone n finding term => Sys2Proof.Machine.execSpkPrecheckDone n finding term s
  | .spkIdentDone n rdc => Sys2Proof.Machine.execSpkIdentDone n rdc s
  | .spkStartDone n => Sys2Proof.Machine.execSpkStartDone n s
  | .spkShutdown n kind term => Sys2Proof.Machine.execSpkShutdown n kind term s
  | .spkRetry n => Sys2Proof.Machine.execSpkRetry n s
  | .spkRetryCountReset n => Sys2Proof.Machine.execSpkRetryCountReset n s
  | .spkClear n => Sys2Proof.Machine.execSpkClear n s
  | .loadModelUpdate n est quiet => Sys2Proof.Machine.execLoadModelUpdate n est quiet s
  | .spkThermal n code => Sys2Proof.Machine.execSpkThermal n code s
  | .spkThermalReturn n => Sys2Proof.Machine.execSpkThermalReturn n s
  | .spkSenseFail n => Sys2Proof.Machine.execSpkSenseFail n s
  | .spkStageFail n => Sys2Proof.Machine.execSpkStageFail n s
  | .spkDcTrip n => Sys2Proof.Machine.execSpkDcTrip n s
  | .spkMute n => Sys2Proof.Machine.execSpkMute n s
  | .spkUnmute n => Sys2Proof.Machine.execSpkUnmute n s
  | .spkRestore n => Sys2Proof.Machine.execSpkRestore n s
  | .clockMute => Sys2Proof.Machine.execClockMute s
  | .clockMuteRelease => Sys2Proof.Machine.execClockMuteRelease s
  | .boostControlCycle => Sys2Proof.Machine.execBoostControlCycle s
  | .boostBypassEntry => Sys2Proof.Machine.execBoostBypassEntry s
  | .phaseShed => Sys2Proof.Machine.execPhaseShed s
  | .boostStart => Sys2Proof.Machine.execBoostStart s
  | .boostPrechargeDone => Sys2Proof.Machine.execBoostPrechargeDone s
  | .boostPhaseFail k => Sys2Proof.Machine.execBoostPhaseFail k s
  | .boostRailFault kind => Sys2Proof.Machine.execBoostRailFault kind s
  | .boostThermal code => Sys2Proof.Machine.execBoostThermal code s
  | .boostThermalReturn => Sys2Proof.Machine.execBoostThermalReturn s
  | .boostRestore => Sys2Proof.Machine.execBoostRestore s
  | .cellRequest q rank kind unit words => Sys2Proof.Machine.execCellRequest q rank kind unit words s
  | .cellGrant => Sys2Proof.Machine.execCellGrant s
  | .signatureClose q rank kind unit drop => Sys2Proof.Machine.execSignatureClose q rank kind unit drop s
  | .queueRead q ecc => Sys2Proof.Machine.execQueueRead q ecc s
  | .queueFlush => Sys2Proof.Machine.execQueueFlush s
  | .bookmarkSet => Sys2Proof.Machine.execBookmarkSet s
  | .bookmarkRewind => Sys2Proof.Machine.execBookmarkRewind s
  | .bookmarkRelease => Sys2Proof.Machine.execBookmarkRelease s
  | .bookmarkClear => Sys2Proof.Machine.execBookmarkClear s
  | .qmgSweepDone => Sys2Proof.Machine.execQmgSweepDone s
  | .windowWrite port data => Sys2Proof.Machine.execWindowWrite port data s
  | .windowClose port drop => Sys2Proof.Machine.execWindowClose port drop s
  | .windowAbort port => Sys2Proof.Machine.execWindowAbort port s
  | .windowRead port o ecc => Sys2Proof.Machine.execWindowRead port o ecc s
  | .windowSkip port => Sys2Proof.Machine.execWindowSkip port s
  | .ethFrameReceive p w => Sys2Proof.Machine.execEthFrameReceive p w s
  | .rxWaitExpire here q express => Sys2Proof.Machine.execRxWaitExpire here q express s
  | .learnEventApply cyc => Sys2Proof.Machine.execLearnEventApply cyc s
  | .egressFrameStart cyc p => Sys2Proof.Machine.execEgressFrameStart cyc p s
  | .expressPreempt here sent => Sys2Proof.Machine.execExpressPreempt here sent s
  | .preemptHold here => Sys2Proof.Machine.execPreemptHold here s
  | .verifyTimer p => Sys2Proof.Machine.execVerifyTimer p s
  | .ethLinkUp p speed half => Sys2Proof.Machine.execEthLinkUp p speed half s
  | .ethLinkDown p => Sys2Proof.Machine.execEthLinkDown p s
  | .t1sCollision c => Sys2Proof.Machine.execT1sCollision c s
  | .t1sBackoffEnd cyc => Sys2Proof.Machine.execT1sBackoffEnd cyc s
  | .t1sJabber => Sys2Proof.Machine.execT1sJabber s
  | .t1sJabberEnd => Sys2Proof.Machine.execT1sJabberEnd s
  | .bridgeAgeingScan => Sys2Proof.Machine.execBridgeAgeingScan s
  | .tableLookup => Sys2Proof.Machine.execTableLookup s
  | .tableAddStatic port => Sys2Proof.Machine.execTableAddStatic port s
  | .tableDelete => Sys2Proof.Machine.execTableDelete s
  | .tableFlushPort port => Sys2Proof.Machine.execTableFlushPort port s
  | .tableFlushAll => Sys2Proof.Machine.execTableFlushAll s
  | .timeCommit => Sys2Proof.Machine.execTimeCommit s
  | .timeMapApply => Sys2Proof.Machine.execTimeMapApply s
  | .gptpStale => Sys2Proof.Machine.execGptpStale s
  | .domainTickUpdate => Sys2Proof.Machine.execDomainTickUpdate s
  | .zklFrameLink n => Sys2Proof.Machine.execZklFrameLink n s
  | .zklFrameJudge xlate => Sys2Proof.Machine.execZklFrameJudge xlate s
  | .timeConvert cyc => Sys2Proof.Machine.execTimeConvert cyc s
  | .timeConvertResult => Sys2Proof.Machine.execTimeConvertResult s
  | .calendarSecond => Sys2Proof.Machine.execCalendarSecond s
  | .leapSecond => Sys2Proof.Machine.execLeapSecond s
  | .registerWrite o cyc addr data => Sys2Proof.Machine.execRegisterWrite o cyc addr data s
  | .resultRegisterRead o addr => Sys2Proof.Machine.execResultRegisterRead o addr s
  | .latchedGroupRead o addr => Sys2Proof.Machine.execLatchedGroupRead o addr s
  | .counterClear o page => Sys2Proof.Machine.execCounterClear o page s
  | .interruptTest page => Sys2Proof.Machine.execInterruptTest page s
  | .w1cClear addr bits again => Sys2Proof.Machine.execW1cClear addr bits again s
  | .pageLock o page => Sys2Proof.Machine.execPageLock o page s
  | .hpbStrobeConflict => Sys2Proof.Machine.execHpbStrobeConflict s
  | .qsBadcmd => Sys2Proof.Machine.execQsBadcmd s
  | .qsPart => Sys2Proof.Machine.execQsPart s
  | .i2ctPart => Sys2Proof.Machine.execI2ctPart s
  | .mboxSend len => Sys2Proof.Machine.execMboxSend len s
  | .mboxTake => Sys2Proof.Machine.execMboxTake s
  | .mboxPost words => Sys2Proof.Machine.execMboxPost words s
  | .mboxAck => Sys2Proof.Machine.execMboxAck s
  | .collate o => Sys2Proof.Machine.execCollate o s
  | .press o => Sys2Proof.Machine.execPress o s
  | .withdraw => Sys2Proof.Machine.execWithdraw s
  | .revert => Sys2Proof.Machine.execRevert s
  | .collationDone => Sys2Proof.Machine.execCollationDone s
  | .pressAnnounce => Sys2Proof.Machine.execPressAnnounce s
  | .pressCommitPoint seq cyc => Sys2Proof.Machine.execPressCommitPoint seq cyc s
  | .pressApply => Sys2Proof.Machine.execPressApply s
  | .deferredApply unit => Sys2Proof.Machine.execDeferredApply unit s
  | .fltLockstepMismatch => Sys2Proof.Machine.execFltLockstepMismatch s
  | .logRecordSend => Sys2Proof.Machine.execLogRecordSend s
  | .faultAck o => Sys2Proof.Machine.execFaultAck o s
  | .logClear o => Sys2Proof.Machine.execLogClear o s
  | .isolateSet o w bits => Sys2Proof.Machine.execIsolateSet o w bits s
  | .isolateClear o w bits => Sys2Proof.Machine.execIsolateClear o w bits s
  | .isolationAutoReturn trigger => Sys2Proof.Machine.execIsolationAutoReturn trigger s
  | .lockAll o => Sys2Proof.Machine.execLockAll o s
  | .watchdogKick o => Sys2Proof.Machine.execWatchdogKick o s
  | .watchdogExpire => Sys2Proof.Machine.execWatchdogExpire s
  | .mcResetRelease => Sys2Proof.Machine.execMcResetRelease s
  | .mcHold o hold => Sys2Proof.Machine.execMcHold o hold s
  | .mcRun o => Sys2Proof.Machine.execMcRun o s
  | .viewMismatch page => Sys2Proof.Machine.execViewMismatch page s
  | .otpProgram o => Sys2Proof.Machine.execOtpProgram o s
  | .otpProgramDone lost => Sys2Proof.Machine.execOtpProgramDone lost s
  | .journalMount o => Sys2Proof.Machine.execJournalMount o s
  | .journalRead o t item => Sys2Proof.Machine.execJournalRead o t item s
  | .journalWrite o t item => Sys2Proof.Machine.execJournalWrite o t item s
  | .journalDelete o t item => Sys2Proof.Machine.execJournalDelete o t item s
  | .journalOpDone => Sys2Proof.Machine.execJournalOpDone s
  | .journalWriteShort => Sys2Proof.Machine.execJournalWriteShort s
  | .flashTimeout stage => Sys2Proof.Machine.execFlashTimeout stage s
  | .bootStart jedec => Sys2Proof.Machine.execBootStart jedec s
  | .bootImageCheck => Sys2Proof.Machine.execBootImageCheck s
  | .hloadStart => Sys2Proof.Machine.execHloadStart s
  | .hloadData data => Sys2Proof.Machine.execHloadData data s
  | .hloadGo => Sys2Proof.Machine.execHloadGo s
  | .i2cTransaction k addr rlen wlen held => Sys2Proof.Machine.execI2cTransaction k addr rlen wlen held s
  | .i2cTransactionDone k nack nbyte rx => Sys2Proof.Machine.execI2cTransactionDone k nack nbyte rx s
  | .i2cArbLost k nbyte mid sda => Sys2Proof.Machine.execI2cArbLost k nbyte mid sda s
  | .i2cTimeout k nbyte mid sda => Sys2Proof.Machine.execI2cTimeout k nbyte mid sda s
  | .i2cBusClear k sda => Sys2Proof.Machine.execI2cBusClear k sda s
  | .i2cEnable k sda => Sys2Proof.Machine.execI2cEnable k sda s
  | .gpioEdge n rise => Sys2Proof.Machine.execGpioEdge n rise s
  | .gpioSet bits => Sys2Proof.Machine.execGpioSet bits s
  | .gpioClr bits => Sys2Proof.Machine.execGpioClr bits s
  | .jtagBypass => Sys2Proof.Machine.execJtagBypass s
  | .jtagIdcode => Sys2Proof.Machine.execJtagIdcode s
  | .jtagSamplePreload cells preload => Sys2Proof.Machine.execJtagSamplePreload cells preload s
  | .jtagExtest cells => Sys2Proof.Machine.execJtagExtest cells s
  | .jtagClamp => Sys2Proof.Machine.execJtagClamp s
  | .jtagHighz => Sys2Proof.Machine.execJtagHighz s
  | .limitedCycle n cyc => Sys2Proof.Machine.execLimitedCycle n cyc s
  | .pvinOvRecover => Sys2Proof.Machine.execPvinOvRecover s
  | .nrefLoss => Sys2Proof.Machine.execNrefLoss s
  | .egressFrameEnd cyc p => Sys2Proof.Machine.execEgressFrameEnd cyc p s
  | .mcReady => Sys2Proof.Machine.execMcReady s
  | .i2cBusClearDone k freed => Sys2Proof.Machine.execI2cBusClearDone k freed s
  | .i2cOtherStop k => Sys2Proof.Machine.execI2cOtherStop k s

end Sys2Proof.Machine
end

