-- ==== Sys2Proof/Machine/Pins.lean ====
section
/-!
DEFINITION. What the pins show: unpowered, in reset (R1, R39, R40, R42), from reset release until a press (R578), and in operation.
Nothing here changes the state.
-/

namespace Sys2Proof.Machine

/-- The pins that the table of R39 names. -/
inductive Pin where
  | lout (o : Fin 20) | cv (n : Fin 16) | spk (n : Fin 8) | bsw (k : Fin 4) | pvdd | micb (k : Fin 8)
  | eth (p : Fin 4) | t1s | fc (n : Fin 8) | faultN | intN (n : Fin 4) | gpio (n : Fin 32) | hpbAd | qsIo | mdio | mdc
  | i2ct | i2c (k : Fin 4) | flCs | flBus | vcxo | spdo (n : Fin 4) | pdmClk (c : Bool) | pdmD (n : Fin 8)
  | sapBclk (p : Fin 16) | sapFs (p : Fin 16) | sapRxd (p : Fin 16) | sapTxd (p : Fin 16)
  | avsClk | avsMdata | avsSdata | tdo | tck | tms | tdi | trstN | testMode
  deriving DecidableEq, Repr

/-- What a pin shows. -/
inductive Level where
  /-- High impedance; an open drain released. -/
  | highZ | released
  /-- Driven low or high. -/
  | low | high
  /-- An input; an input with an internal 50 kΩ pull. -/
  | input | pull (up : Bool)
  /-- High impedance with a bus keeper of 50 kΩ (R198). -/
  | keeper
  /-- Held at AGND through a closed mute switch; 20 kΩ to AGND; 2 kΩ to 0 V. -/
  | muted | to20k | to2k
  /-- Transistors off, 10 kΩ to PGND; switching. -/
  | to10k | switching
  /-- PVIN less a body-diode drop; the boosted rail. -/
  | diode | rail
  /-- A voltage in units of 10 µV; a bias voltage by its register code and its weight. -/
  | volts (v : Int) | bias (w : Nat)
  /-- An audio value in units of 2^-27, weighted by each of `ws` in the same units. -/
  | signal (v : Int) (ws : List Nat)
  /-- Transmitter off; on. -/
  | txOff | txOn
  /-- A stream of ones density n / 2^24; the subframes of a frame (R218). -/
  | density (n : Nat) | subframes (ws : List Word)
  /-- Driven as the protocol of its interface needs it. -/
  | active
  /-- Driven from a boundary cell (R600). -/
  | scanned
  deriving DecidableEq, Repr

/-- When a pin is looked at: the core cycle within the tick; for a follower port the bit period since the partner's FS edge and whether its
sampling edge is past. -/
structure PinAt where
  cyc : Nat := 0
  bit : Nat := 0
  late : Bool := false
  deriving DecidableEq, Repr

/-- The die of a pin: 0 core, 1 converter, 2 power (R14). -/
def Pin.die : Pin → Nat
  | .lout _ | .cv _ | .micb _ => 1
  | .spk _ | .bsw _ | .pvdd => 2
  | _ => 0

/-- The unpowered column of R39. -/
def Pin.unpowered : Pin → Level
  | .lout _ | .cv _ => .to20k
  | .spk _ => .to10k
  | .bsw _ | .pvdd => .diode
  | .fc _ | .faultN | .intN _ | .i2ct | .i2c _ => .released
  | _ => .highZ

/-- The reset column of R39; the internal pulls of the JTAG inputs are those of R600. -/
def Pin.inReset : Pin → Level
  | .lout _ => .muted
  | .cv _ => .volts 0
  | .spk _ => .to10k
  | .bsw _ | .pvdd => .diode
  | .micb _ => .to2k
  | .eth _ => .txOff
  | .fc _ | .intN _ | .i2ct | .i2c _ => .released
  | .faultN | .spdo _ => .low
  | .flCs => .pull true
  | .tms | .tdi => .pull true
  | .pdmD _ | .trstN | .testMode => .pull false
  | .avsSdata | .tck => .input
  | _ => .highZ

/-- A driven level. -/
def Level.ofBool (b : Bool) : Level := if b then .high else .low

/-- A line or headphone output: its switch closed, or its value with its weights in force (R299, R312, R324-R326). -/
def outPin (o : Nat) (s : State) : Level :=
  let x := s.och o
  if !x.switch then .muted
  else .signal (x.sent.headD 0) [rampWeight x.pop, rampWeight x.mute, rampWeight x.trip, rampWeight x.swW, 2 ^ 20 * (x.wA + x.wB)]

/-- A microphone bias output and the weight of its soft start (R108). -/
def micbPin (k : Nat) (s : State) : Level :=
  let r := SMap.get (fun _ => {}) s.ain.micb k
  if rampLine r = 0 then .to2k else .bias (rampLine r)

/-- An Ethernet port's transmitter, and T1S0's (R421, R437, R536). -/
def ethPin (p : Nat) (s : State) : Level :=
  if s.fld (F.PORT_CFG_MODE p) = 0 ∨ portIso p s then .txOff else .txOn
def t1sPin (s : State) : Level :=
  if !portUp 4 s then .highZ else if (s.prt 4).tx.isSome then .txOn else .highZ

/-- A GPIO pin (R570). -/
def gpioPin (n : Nat) (s : State) : Level :=
  if (s.word Adr.GPIO_DIR).getLsbD n then .ofBool ((s.word Adr.GPIO_OUT).getLsbD n)
  else if (s.word Adr.GPIO_PU).getLsbD n then .pull true
  else if (s.word Adr.GPIO_PD).getLsbD n then .pull false
  else .highZ

/-- The core cycle since power-up of a place in the tick. -/
def PinAt.abs (t : PinAt) (s : State) : Nat := 5120 * s.tick + t.cyc

/-- Whether a port drives BCLK and FS: a controller once its sense step is over, and in the gap of a reframing press that leaves it
controller (R180, R190, R191). -/
def sapDrives (p : Nat) (s : State) : Bool :=
  let ps := sapPs p s
  sapCtl p s && ((5 ≤ ps && ps ≤ 8) || ps == 10 || (ps == 1 && !(s.port p).sense && s.fld (F.SAP_CFG_MODE p) == 0))

/-- Whether its frames run; else its clocks rest at their idle levels (R191). -/
def sapFrames (p : Nat) (s : State) : Bool := sapPs p s ≠ 1

/-- The bit period of the frame at a place in the tick, and whether its sampling edge is past: a controller counts FS from its bit clock
(R184). -/
def sapBit (p : Nat) (t : PinAt) (s : State) : Nat × Bool :=
  if sapCtl p s then
    let c := t.abs s - SMap.get (fun _ => 0) s.clk.fdivStart p
    let k := ((c + 1) * 65536 - 1) / max 1 (s.word (Adr.CLK_FDIV p)).toNat
    (k, !decide (c < fdivFall p k s))
  else (t.bit, t.late)

/-- Frame sync in bit period `b` after the FS edge (R181). -/
def sapFs (p b : Nat) (s : State) : Bool :=
  let w := widthBits (s.fld (F.SAP_CFG_SWIDTH p))
  let f := s.fld (F.SAP_CFG_FMT p)
  let on := if f = 0 then decide (w ≤ b) else if f = 1 then decide (b < w)
    else decide (b < if s.on (F.SAP_CFG_FS_PULSE p) then w else 1)
  on ^^ s.on (F.SAP_CFG_FS_INV p)

/-- BCLK: a frame's first edge is its launching edge, falling with BCLK_INV = 0 (R181, R184; log entry 103). -/
def sapBclk (p : Nat) (late : Bool) (s : State) : Bool := late ^^ s.on (F.SAP_CFG_BCLK_INV p)

/-- TXD in bit period `b` (R181, R182, R198): enabled slots are driven MSB first; the others, and with TX_IDLE = 2 the end of an enabled
slot before one of them, follow TX_IDLE. -/
def sapTxd (p b : Nat) (late : Bool) (s : State) : Level :=
  let w := widthBits (s.fld (F.SAP_CFG_SWIDTH p))
  let n := max 1 (s.fld (F.SAP_CFG_SLOTS p))
  let i := (b + n * w - sapFirstBit p s) % (n * w)
  let on := fun (k : Nat) => (sapSlots p true s).contains (k % n)
  let idle := s.fld (F.SAP_TXCFG_TX_IDLE p)
  let free := if s.on (F.SAP_TXCFG_KEEP p) then Level.keeper else .highZ
  if !on (i / w) then (if idle = 1 then .low else free)
  else if idle = 2 ∧ late ∧ i % w = w - 1 ∧ !on (i / w + 1) then free
  else .ofBool (((s.port p).pins.getD (i / w) 0).getLsbD (31 - i % w))

/-- The four pins of a port (R180, R191, R192): `k` 0 BCLK, 1 FS, 2 RXD, 3 TXD. -/
def sapPin (p k : Nat) (t : PinAt) (s : State) : Level :=
  if s.fld (F.SAP_CFG_SLOTS p) = 0 ∨ sapPs p s = 0 then .highZ
  else
    let (b, late) := if sapFrames p s then sapBit p t s else (s.fld (F.SAP_CFG_SLOTS p) * widthBits (s.fld (F.SAP_CFG_SWIDTH p)) - 1, true)
    if k = 2 then .input
    else if k = 3 then (if sapPs p s = 9 then .highZ else if sapPs p s = 1 ∧ !sapDrives p s then .highZ else sapTxd p b late s)
    else if !sapDrives p s then .pull false
    else .ofBool (if k = 0 then sapBclk p late s else sapFs p b s)

/-- A PDM clock: its divider's output while an enabled microphone uses it, else low (R203, R204, R207). -/
def pdmPin (c : Bool) (t : PinAt) (s : State) : Level :=
  .ofBool (psAwake s && pdmClkOn c s && fdivLevel (16 + c.toNat) (t.abs s) s)

/-- An S/PDIF transmitter: the subframes it sends, low while it is off (R218, R578). -/
def spdoPin (n : Nat) (s : State) : Level :=
  if !spdoOn n s || !psAwake s then .low else .subframes ((s.spd.txOut.drop (2 * n)).take 2)

/-- The pins in operation. -/
def pinRunning (p : Pin) (t : PinAt) (s : State) : Level :=
  match p with
  | .lout o => outPin o.val s
  | .cv n => .volts (s.cvch n.val).v
  | .spk n => if spkSwitching (s.sch n.val) then .switching else .to10k
  | .bsw k => if s.bst.active.testBit k.val then .switching else .diode
  | .pvdd => if s.bst.st = 0 then .diode else .rail
  | .micb k => micbPin k.val s
  | .eth p => ethPin p.val s
  | .t1s => t1sPin s
  | .fc n => if s.fld F.FC_STAT_GO / 2 ^ n.val % 2 = 1 then .low else .released
  | .faultN => if !s.ports || s.on F.FLT_STAT_FN then .low else .released
  | .intN n => if pinLow n.val s then .low else .released
  | .gpio n => gpioPin n.val s
  | .hpbAd | .qsIo | .mdio => .highZ
  | .i2c k => if (s.i2cAt k.val).work = 0 then .released else .active
  | .i2ct => .released
  | .mdc | .flCs | .flBus | .avsClk | .avsMdata | .tdo => .active
  | .vcxo => if s.on F.CLK_SERVO_CFG_SERVO_EN then .density (s.fld F.CLK_STEER_STEER) else .highZ
  | .spdo n => spdoPin n.val s
  | .pdmClk c => pdmPin c t s
  | .pdmD _ => .pull false
  | .sapBclk p => sapPin p.val 0 t s
  | .sapFs p => sapPin p.val 1 t s
  | .sapRxd p => sapPin p.val 2 t s
  | .sapTxd p => sapPin p.val 3 t s
  | .tms | .tdi => .pull true
  | .trstN | .testMode => .pull false
  | .avsSdata | .tck => .input

/-- Whether the pin carries an analog, speaker or network output, which EXTEST, CLAMP and HIGHZ put in its reset state (R600). -/
def Pin.outOfScan : Pin → Bool
  | .lout _ | .cv _ | .spk _ | .bsw _ | .pvdd | .micb _ | .eth _ | .t1s => true
  | _ => false

/-- The pins of the JTAG port, which its instructions do not drive. -/
def Pin.ofJtag : Pin → Bool
  | .tck | .tms | .tdi | .trstN | .testMode | .tdo => true
  | _ => false

/-- What a pin shows (R39, R40, R42, R578, R600): a die without supply holds its pins unpowered, and reset its reset column. -/
def State.pin (p : Pin) (t : PinAt) (s : State) : Level :=
  if !s.supplied.testBit p.die then p.unpowered
  else if s.phase = .held then p.inReset
  else if p.outOfScan then (if s.jtag.safe then p.inReset else pinRunning p t s)
  else if s.jtag.ir = 5 ∧ !p.ofJtag then .highZ
  else if (s.jtag.ir = 3 ∨ s.jtag.ir = 4) ∧ !p.ofJtag then .scanned
  else pinRunning p t s

end Sys2Proof.Machine
end

