-- ==== Sys2Proof/Safety.lean ====
section
/-!
DEFINITION. What claims about the part are stated in: completion of a command, its frame, the parts of the state that only reset, supplies,
start-up and the tick change, the invariants of the state, and where commands come from.
-/

namespace Sys2Proof.Machine

/-- A command completes: it answers a next state, of which `P` holds. -/
def Completes (r : Host.Outcome State Fault Refusal) (P : State → Prop) : Prop := ∃ t, r = .next t ∧ P t

/-- A counter of the part rose by 1, or stays at its largest value (R10). -/
abbrev Counted (s t : State) (cnt : Fld) : Prop := t.fld cnt = min (2 ^ cnt.width - 1) (s.fld cnt + 1)

/-- The only check report of a change of the state (R532). -/
abbrev Reported (s t : State) (code inst action : Nat) : Prop := t.flt.reports = s.flt.reports ++ [⟨code, inst, action, 0⟩]

/-- A result on its way over direction `d` of a stitch link while the link holds it: the only new one of a change of the state (R24). -/
abbrev Noted (s t : State) (d from_ : Nat) (n : DieNote) : Prop :=
  s.linkHolds (d / 2) = true → (t.dir d).wait = (s.dir d).wait ++ [(from_, .note n)]

/-- When the start delimiter of a received frame passed, and the state with the words that the frame takes (R422, R445). -/
abbrev rxStamp (w : EthIn) (s : State) : Nat := instant s.tick (max s.cyc w.cyc) - w.since
abbrev rxCfg (w : EthIn) (s : State) : State := netAsOf (rxStamp w s) (s.land w.cyc)

/-- Whether a received frame is express, as its port's FIFO sorts it (R424, R431). -/
abbrev rxExpress (p : Nat) (w : EthIn) (s : State) : Bool :=
  netExpress (netClass (frameNum ((netTag p w.bytes (rxCfg w s)).getD w.bytes) 14 2 / 8192) (rxCfg w s)) (rxCfg w s)

/-- A whole frame that a port takes in: up and in use, and no frame from before a press of its MODE (R421, R422, R445). -/
abbrev NetTakes (p : Nat) (w : EthIn) (s : State) : Prop :=
  5120 * (s.prt p).modeAt ≤ rxStamp w s ∧ portUp p s = true ∧ s.fld (F.PORT_CFG_MODE p) ≠ 0 ∧ (rxCfg w s).fld (F.PORT_CFG_FWD p) ≠ 0 ∧
    w.mp = 0 ∧ w.mergeOk = true

/-- A frame of a length that the port accepts, for which its FIFO has room (R423, R424). -/
abbrev NetFits (p : Nat) (w : EthIn) (s : State) : Prop :=
  64 ≤ w.bytes.length + 4 ∧ w.bytes.length + 4 ≤ (rxCfg w s).fld (F.PORT_CFG_MAX_LEN p) ∧
    fifoUsed p (rxExpress p w s) s + w.bytes.length ≤ fifoSize p (rxExpress p w s) s

/-- What is reset, powered, started and counted, and the queue. -/
structure Shell where
  phase : Phase
  supplied : Nat
  resetLow : Bool
  railsDown : Nat
  ports : Bool
  tick : Nat
  pending : List Instr
  deriving DecidableEq, Repr

def State.shell (s : State) : Shell := ⟨s.phase, s.supplied, s.resetLow, s.railsDown, s.ports, s.tick, s.pending⟩

/-- The stored maps are in canonical form, so equal contents are equal states. -/
structure State.Canonical (s : State) : Prop where
  regs : SMap.wf resetWord s.regs = true
  shadow : SMap.wf resetWord s.shadow = true
  shadowMc : SMap.wf (fun _ => false) s.shadowMc = true
  image : SMap.wf resetWord s.image = true
  imageMc : SMap.wf (fun _ => false) s.imageMc = true
  fresh : SMap.wf (fun _ => 0) s.fresh = true
  latch : SMap.wf (fun _ => (0 : Word)) s.latch = true
  readData : SMap.wf (fun _ => (0 : Word)) s.readData = true
  portAddr : SMap.wf (fun _ => 0) s.portAddr = true
  spine : SMap.wf (fun _ => (0 : Word)) s.spine = true
  next : SMap.wf (fun _ => (0 : Word)) s.next = true
  sap : SMap.wf (fun _ => ({} : SapPort)) s.sap = true
  out : SMap.wf (fun _ => ({} : OutCh)) s.out = true
  i2c : SMap.wf (fun _ => ({} : I2cSt)) s.i2c = true

/-- The invariant of the part: RESET_N and the rails of R88 keep it in reset, the core die is supplied outside reset, time stands
before the tick starts (R68), the host ports answer only while the tick runs (R479), stored maps are canonical. -/
structure State.Inv (s : State) : Prop where
  canonical : s.Canonical
  low : s.phase ≠ .held → s.resetLow = false
  rails : s.phase ≠ .held → s.railsDown &&& 13 = 0
  supplied : s.phase ≠ .held → s.supplied % 2 = 1
  time : s.phase ≠ .running → s.tick = 0
  ports : s.ports = true → s.phase = .running

/-- A change that no reset, supply, start-up or tick makes: the shell stays, the maps stay canonical. -/
structure Keeps (s t : State) : Prop where
  shell : t.shell = s.shell
  canonical : s.Canonical → t.Canonical

/-- What every reset leaves (R575, R576): the part held, time 0, no port answering, every register but PWR_RST_CAUSE and IO_LEVEL at
its reset value, every block at rest, OTP and what waits kept. -/
def ResetLeft (s t : State) : Prop :=
  t.phase = .held ∧ t.tick = 0 ∧ t.cyc = 0 ∧ t.ports = false ∧ t.pending = s.pending ∧
  (∀ a, a ≠ Adr.PWR_RST_CAUSE → a ≠ Adr.PWR_STATUS → t.word a = resetWord a) ∧
  t.shadow = [] ∧ t.spine = [] ∧ t.next = [] ∧ t.flt = {} ∧ t.qmg = {} ∧ t.link = {} ∧ t.press = {} ∧ t.mix = {} ∧ t.fx = {} ∧
  t.srcc = {} ∧ t.svc = {} ∧ t.fch = {} ∧ t.ain = {} ∧ t.spk = {} ∧ t.bst = {} ∧ t.cv = {} ∧ t.time = {} ∧ t.net = {} ∧ t.zkl = {} ∧
  t.out = [] ∧ t.sap = [] ∧ t.i2c = [] ∧ t.tests = []

/-- The asynchronous channels of a crossing, by their SRC_ACH registers (R238). -/
def State.achRegs (s : State) (k : Nat) : List Nat :=
  ((List.range 320).map Adr.SRC_ACH).filter (fun a => achKey (s.word a) == k)

/-- The registers a producer of queue `q` can change (R410). -/
def Adr.queueRegs (q : Nat) : List Nat := [Adr.QMG_QSTAT q, Adr.QMG_QCNT q, Adr.QMG_CNT2, (F.pgInt Pg.qmg 0).addr]

/-- The registers that hold a conversion's results (R465). -/
def Adr.cvtRegs : List Nat :=
  [Adr.TIME_CVT_ST, Adr.TIME_CVT_SEC_LO, Adr.TIME_CVT_SEC_HI, Adr.TIME_CVT_NS, Adr.TIME_CVT_DATE, Adr.TIME_CVT_TIME]

/-- The registers of one page, and its header (R497). -/
def Adr.ofPage (p : Nat) : List Nat := (List.range 1024).map (fun k => p * 0x1000 + 4 * k)
def Adr.headerOf (p : Nat) : List Nat := (List.range 10).map (fun k => p * 0x1000 + 4 * k)

/-- The registers in which logging a report can show: PG_FAULT of each page, the log, the classes pending, isolation (R532-R537). -/
def Adr.logRegs : List Nat :=
  [Adr.FLT_PEND, Adr.FLT_LOG_CNT, Adr.FLT_LOG_STAT, Adr.FLT_STAT, Adr.FLT_ISO 0, Adr.FLT_ISO 1, Adr.FLT_ISO 2, Adr.FLT_ISO_CNT,
   (F.pgInt Pg.flt 0).addr] ++ (List.range 0x122).map (fun p => (F.pgLastCode p).addr)

/-- The frame of a command: registers outside `ws` keep their words, and the rest of the state keeps what `aside` does not set
aside. -/
def Frames (i : Instr) (s : State) (ws : List Nat) (aside : State → State) : Prop :=
  ∀ t, exec i s = .next t →
    (∀ a, a ∉ ws → t.word a = s.word a) ∧ aside { t with regs := [] } = aside { s with regs := [] }

/-- The queues that the ports and the Zinkor Link write and read (R424-R429, R457, R459, R469). -/
def State.netQueues (s : State) : List Nat :=
  [s.fld F.ZKL_RXQ_RXQ, s.fld F.TIME_TS_CFG_TS_QID] ++ (List.range 64).map (fun r => s.fld (F.RX_CTL_RQID r)) ++
    (List.range 5).flatMap (fun p => s.fld (F.PORT_RXQ_RXQ p) :: ((List.range 8).map (fun c => s.fld (F.PORT_EQ_QID p c)) ++
      ((s.prt p).fifo.map (·.q) ++ ((s.prt p).tx.toList ++ (s.prt p).held.toList).map (·.q))))

/-- The queue manager but for the queues `qs`, the counts of cells and the requests that wait. -/
def QmgSt.apart (x : QmgSt) (qs : List Nat) : QmgSt :=
  { x with queues := qs.foldl SMap.erase x.queues, fresh := 0, returned := [], freeList := 0, freeState := 0, heldTotal := 0, waits := [] }

/-- What a command leaves as it is, registers apart. -/
def Spares (i : Instr) (s : State) (aside : State → State) : Prop := ∀ t, exec i s = .next t → aside t = aside s

/-- The commands that come over the host ports: register accesses of the host and what they set off (R477-R479). An access
that names its origin comes over a port unless the management controller makes it, an urgent request when it is the host's (R170). -/
def fromPorts : Instr → Bool
  | .refSelChange .. | .relockM | .relockP | .relockN | .powerStateRequest .. | .ainRestore .. | .comparatorForceLow ..
  | .comparatorForceHigh .. | .comparatorRelease .. | .fchBankWrite .. | .fchRestore | .svcRestore
  | .sapRestart .. | .pdmRestart .. | .spdifRestart .. | .spnRestore | .crosspointWrite .. | .glideGo .. | .glideStop ..
  | .busMute .. | .busUnmute .. | .mixRestore | .tapDelayWrite .. | .convPrep .. | .effectPoolWrite .. | .fxRestore ..
  | .outputMute .. | .outputUnmute .. | .outputRestore .. | .jackForceRemoved .. | .jackForceInserted .. | .jackForceRelease ..
  | .timerArm .. | .timerStop .. | .cvRestore .. | .spkClear .. | .spkMute .. | .spkUnmute .. | .spkRestore .. | .boostRestore
  | .queueFlush | .bookmarkSet | .bookmarkRewind | .bookmarkRelease | .bookmarkClear | .windowWrite .. | .windowClose ..
  | .windowAbort .. | .windowSkip .. | .tableLookup | .tableAddStatic .. | .tableDelete | .tableFlushPort .. | .tableFlushAll
  | .timeCommit | .timeConvert .. | .interruptTest .. | .w1cClear .. | .hpbStrobeConflict | .qsBadcmd | .qsPart | .i2ctPart
  | .mboxSend .. | .mboxAck | .withdraw | .revert | .hloadStart | .hloadData .. | .hloadGo | .i2cTransaction ..
  | .i2cBusClear .. | .i2cEnable .. | .gpioSet .. | .gpioClr .. => true
  | .urgentRequest rank _ _ _ _ => decide (rank.val = 1)
  | .vcoreBoundWrite o _ _
  | .windowRead _ o _
  | .registerWrite o _ _ _
  | .resultRegisterRead o _
  | .latchedGroupRead o _
  | .counterClear o _
  | .pageLock o _
  | .collate o
  | .press o
  | .faultAck o
  | .logClear o
  | .isolateSet o _ _
  | .isolateClear o _ _
  | .lockAll o
  | .watchdogKick o
  | .mcHold o _
  | .mcRun o
  | .otpProgram o
  | .journalMount o
  | .journalRead o _ _
  | .journalWrite o _ _
  | .journalDelete o _ _ => decide (o ≠ .mc)
  | _ => false

/-- The events inside the part, which only a part with a running tick has (R68, R69). Reset, the supplies and their comparators, the levels
of pins and JTAG act in every phase. -/
def insideEvent : Instr → Bool
  | .tickBoundary .. | .dataBurstSend .. | .controlBurstSend .. | .stitchBurstReceive .. | .burstWindowTimeout ..
  | .retryRequest .. | .burstReplay .. | .takePoint .. | .linkTrainingAnswer .. | .lanesTrained .. | .liveConfigTransferDone ..
  | .creditSetReceive .. | .eccWriteBack | .refQualWindow .. | .refLoss .. | .ioscSlewDone | .refSwitch | .pllLock ..
  | .pllUnlock .. | .pllcUnlock | .servoSample .. | .powerStateStepDone | .vloopSample
  | .avsTransactionDone .. | .ainModeStepDone .. | .micbOc .. | .modulatorStatus .. | .mergeReturn .. | .matchBlock ..
  | .guardRestoreTestEnd .. | .controlSampleLate .. | .comparatorAmbig .. | .peakCapture .. | .swapCrossfadeEnd ..
  | .controlSwapSwitch .. | .fchResidue .. | .svcConversion .. | .checkSlot .. | .vrefxLoss | .referenceSettled ..
  | .sapSenseEnd .. | .sapFrame .. | .sapClockLoss .. | .sapTxFrameRequest .. | .sapFadeEnd .. | .sapRampEnd ..
  | .pdmWakeEnd .. | .pdmStuck .. | .spdifFrame .. | .spdifClockLoss .. | .ratioUpdate .. | .srcResidue .. | .glideDone ..
  | .mixResidue .. | .tapGlideEnd .. | .granuleReady .. | .fxResidue .. | .partitionResidue .. | .dacCoreFail ..
  | .coreDisagree .. | .outputStageFail .. | .outputIlimTrip .. | .outputDcTrip .. | .outputPresetSwitch .. | .jackAmbig ..
  | .plugWaitEnd .. | .powerUpRampStep .. | .powerDownRampStep .. | .timerFire .. | .cvIlimTrip .. | .cvVrefFail
  | .cvVrefRecover | .cvRefHoldEnd | .spkStart .. | .spkPrecheckDone .. | .spkIdentDone .. | .spkStartDone .. | .spkShutdown ..
  | .spkRetry .. | .spkRetryCountReset .. | .loadModelUpdate .. | .spkThermal .. | .spkThermalReturn .. | .spkSenseFail ..
  | .spkStageFail .. | .spkDcTrip .. | .clockMute | .clockMuteRelease | .boostControlCycle | .boostBypassEntry | .phaseShed
  | .boostStart | .boostPrechargeDone | .boostPhaseFail .. | .boostRailFault .. | .boostThermal .. | .boostThermalReturn
  | .cellRequest .. | .cellGrant | .signatureClose .. | .queueRead .. | .qmgSweepDone | .ethFrameReceive .. | .rxWaitExpire ..
  | .learnEventApply .. | .egressFrameStart .. | .expressPreempt .. | .preemptHold .. | .verifyTimer .. | .ethLinkUp ..
  | .ethLinkDown .. | .t1sCollision .. | .t1sBackoffEnd .. | .t1sJabber | .t1sJabberEnd | .bridgeAgeingScan | .timeMapApply
  | .gptpStale | .domainTickUpdate | .zklFrameLink .. | .zklFrameJudge .. | .timeConvertResult | .calendarSecond | .leapSecond
  | .mboxTake | .mboxPost .. | .collationDone | .pressAnnounce | .pressCommitPoint .. | .pressApply | .deferredApply ..
  | .fltLockstepMismatch | .logRecordSend | .isolationAutoReturn .. | .watchdogExpire | .mcResetRelease | .viewMismatch ..
  | .otpProgramDone .. | .journalOpDone | .journalWriteShort | .flashTimeout .. | .bootStart .. | .bootImageCheck
  | .i2cTransactionDone .. | .i2cArbLost .. | .i2cTimeout .. | .limitedCycle .. | .nrefLoss | .egressFrameEnd ..
  | .mcReady | .i2cBusClearDone .. | .i2cOtherStop .. => true
  | _ => false

end Sys2Proof.Machine
end

