-- ==== Sys2Proof/Certificates/Slice0/Obligations.lean ====
section
/-!
DEFINITION. The statements for the provers: the machine as a whole, what each command does (completion), what it leaves as it is (frames).
-/

open Sys2Proof Sys2Proof.Machine

/-- A step takes the command at the front of the queue and is that command's effect with the rest of the queue. With no command
waiting the block idles, which is the model's choice (log entry 6). -/
def Obligations.StepTakesTheFrontCommand : Prop :=
  (∀ (c : Instr) (rest : List Instr) (s : State), step { s with pending := c :: rest } = exec c { s with pending := rest }) ∧
  (∀ s : State, s.pending = [] → step s = .next s)

/-- Every waiting command completes in one step, whatever the state, and leaves exactly the commands behind it waiting, in their
order (R485 for register accesses). -/
def Obligations.CommandsCompleteInOrder : Prop := ∀ (s : State) (c : Instr) (rest : List Instr),
  s.pending = c :: rest → ∃ t, step s = .next t ∧ t.pending = rest

/-- The state after reset meets the invariant of the part. Its registers without a stated reset value hold the model's choices
(log entry 7). -/
def Obligations.ResetMeetsInvariant : Prop := State.reset.Inv

/-- Every step keeps the invariant: RESET_N low and a rail of R88 below its threshold hold the part in reset (R88, R575), TICK
counts only while the tick runs (R68), the host ports answer only then (R479), and every stored map stays canonical. -/
def Obligations.StepKeepsInvariant : Prop := ∀ s t : State, s.Inv → step s = .next t → t.Inv

/-- Before the host ports answer, no command that comes over them has an effect (R69, R479). -/
def Obligations.SilentPortsDoNothing : Prop := ∀ (c : Instr) (s : State), fromPorts c = true → s.ports = false →
  Completes (exec c s) (fun t => t = s)

/-- Before the tick runs, no event inside the part has an effect (R68, R69). -/
def Obligations.NoEventBeforeTheTick : Prop := ∀ (c : Instr) (s : State), insideEvent c = true → s.phase ≠ .running →
  Completes (exec c s) (fun t => t = s)

/-- What a register write does under each access type (R488, R489, R500, R503): a RW field takes the word; a RO field, an unlisted
offset and a reserved address ignore it; a ST field takes it in its shadow, with the side that wrote it. -/
def Obligations.WriteByAccessType : Prop := ∀ (o : Origin) (cyc : Fin 5120) (data : Word) (s : State), s.hears o = true →
  Completes (exec (.registerWrite o cyc 0x000054 data) s) (fun t =>
    t.word Adr.ID_SCRATCH = data ∧ (∀ a, a ≠ Adr.ID_SCRATCH → t.word a = s.word a) ∧ t.shadow = s.shadow ∧ t.flt = s.flt) ∧
  Completes (exec (.registerWrite o cyc 0x000040 data) s) (fun t =>
    (∀ a, t.word a = s.word a) ∧ t.shadow = s.shadow ∧ t.flt = s.flt) ∧
  Completes (exec (.registerWrite o cyc 0x000058 data) s) (fun t => t.regs = s.regs ∧ t.shadow = s.shadow ∧ t.flt = s.flt) ∧
  Completes (exec (.registerWrite o cyc 0x200000 data) s) (fun t => t.regs = s.regs ∧ t.shadow = s.shadow ∧ t.flt = s.flt) ∧
  Completes (exec (.registerWrite o cyc 0x0B0100 data) s) (fun t =>
    (∀ a, t.word a = s.word a) ∧ t.flt = s.flt ∧
    SMap.get resetWord t.shadow 0x0B0100 &&& stMask 0x0B0100 = data &&& stMask 0x0B0100 ∧
    SMap.get (fun _ => false) t.shadowMc 0x0B0100 = (o == .mc) ∧
    (∀ a, a ≠ 0x0B0100 → SMap.get resetWord t.shadow a = SMap.get resetWord s.shadow a))

/-- A locked write (R487, R494): on a page whose LOCK is 1 a host write that would change an LK field leaves it, counts in PG_VIOL
and logs LOCKED_WR; on an open page it takes effect; the management controller's is MGMT_DENIED on either. MGMT_VIEW takes
writes of the management controller alone (R487, R497). -/
def Obligations.LockedWrites : Prop := ∀ (o : Origin) (cyc : Fin 5120) (data : Word) (s : State), s.hears o = true →
  (o ≠ .mc → s.fld (F.pgLock Pg.press) = 0 → Completes (exec (.registerWrite o cyc 0x00104C data) s) (fun t =>
    t.fld F.PRESS_CFG_MC_PRESS = data.bits 0 0 ∧ t.flt = s.flt)) ∧
  (s.flt.configLogged.contains (Pg.press, s.tick) = false → s.fld F.PRESS_CFG_MC_PRESS ≠ data.bits 0 0 →
    ((o ≠ .mc → s.fld (F.pgLock Pg.press) = 1 → Completes (exec (.registerWrite o cyc 0x00104C data) s) (fun t =>
        t.word Adr.PRESS_CFG = s.word Adr.PRESS_CFG ∧ Counted s t (F.pgViol Pg.press) ∧ t.fld (F.pgViolKind Pg.press) = 1 ∧
        t.fld (F.pgViolOfs Pg.press) = 0x04C ∧ Reported s t 0x807D 1 0)) ∧
      (o = .mc → Completes (exec (.registerWrite o cyc 0x00104C data) s) (fun t =>
        t.word Adr.PRESS_CFG = s.word Adr.PRESS_CFG ∧ Counted s t (F.pgViol Pg.press) ∧ t.fld (F.pgViolKind Pg.press) = 4 ∧
        t.fld (F.pgViolOfs Pg.press) = 0x04C ∧ Reported s t 0x807F 1 0)))) ∧
  Completes (exec (.registerWrite o cyc 0x001004 data) s) (fun t =>
    t.fld (F.pgMgmtView Pg.press) = if o = .mc then data.bits 10 8 else s.fld (F.pgMgmtView Pg.press))

/-- The management controller's register writes change no LK or OTW field of any register, and no isolation (R487, R494, R544,
R545). -/
def Obligations.ControllerChangesNoLock : Prop := ∀ (cyc : Fin 5120) (addr : Fin 16777216) (data : Word) (s t : State),
  exec (.registerWrite .mc cyc addr data) s = .next t →
    (∀ (a : Nat) (r : RegRow), rowOf a = some r →
      t.word a &&& r.mask (fun k => decide (k = .lk ∨ k = .otw)) = s.word a &&& r.mask (fun k => decide (k = .lk ∨ k = .otw))) ∧
    (∀ w : Fin 3, t.word (Adr.FLT_ISO w) = s.word (Adr.FLT_ISO w)) ∧ t.flt.why = s.flt.why

/-- A result register (R492): a result raises SEQ by 1 modulo 256 and stands whole, fresh for every origin; a read returns it with
FRESH and clears FRESH for its own origin alone. Shown on CLK_SERVO_ERR. -/
def Obligations.ResultIsFreshOncePerOrigin : Prop :=
  (∀ (a : Nat) (v : Word) (s : State),
    let t := s.post a v
    (t.word a).bits 30 23 = ((s.word a).bits 30 23 + 1) % 256 ∧ (t.word a).bits 22 0 = v.bits 22 0 ∧ (t.word a).bits 31 31 = 0 ∧
    SMap.get (fun _ => 0) t.fresh a = 15 ∧ (∀ b, b ≠ a → t.word b = s.word b) ∧
    (∀ b, b ≠ a → SMap.get (fun _ => 0) t.fresh b = SMap.get (fun _ => 0) s.fresh b)) ∧
  (∀ (o : Origin) (s : State), s.hears o = true → SMap.get (fun _ => 0) s.fresh Adr.CLK_SERVO_ERR < 16 →
    (s.word Adr.CLK_SERVO_ERR).bits 31 31 = 0 →
    Completes (exec (.resultRegisterRead o 0x0040A0) s) (fun t =>
      SMap.get (fun _ => 0) t.readData o.num =
        (s.word Adr.CLK_SERVO_ERR).put 31 31 (if (SMap.get (fun _ => 0) s.fresh Adr.CLK_SERVO_ERR).testBit o.num then 1 else 0) ∧
      (SMap.get (fun _ => 0) t.fresh Adr.CLK_SERVO_ERR).testBit o.num = false ∧
      (∀ p : Origin, p ≠ o → (SMap.get (fun _ => 0) t.fresh Adr.CLK_SERVO_ERR).testBit p.num =
        (SMap.get (fun _ => 0) s.fresh Adr.CLK_SERVO_ERR).testBit p.num) ∧ t.regs = s.regs))

/-- Every event counter saturates at all-ones, sets its SAT flag, never wraps, and changes nothing else (R10). -/
def Obligations.CountersSaturate : Prop := ∀ (n : Nat) (cnt sat : Fld) (s : State),
  sat.addr = cnt.addr → cnt.lo ≤ cnt.hi → cnt.hi < 32 → sat.lo = sat.hi → sat.hi < 32 → (sat.hi < cnt.lo ∨ cnt.hi < sat.hi) →
    let t := s.bumpBy n cnt sat
    t.fld cnt = min (2 ^ cnt.width - 1) (s.fld cnt + n) ∧
    t.fld sat = (if n ≠ 0 ∧ 2 ^ cnt.width - 1 ≤ s.fld cnt + n then 1 else s.fld sat) ∧
    (∀ a, a ≠ cnt.addr → t.word a = s.word a) ∧
    (∀ f : Fld, f.addr = cnt.addr → f.lo ≤ f.hi → f.hi < 32 → (f.hi < cnt.lo ∨ cnt.hi < f.lo) → (f.hi < sat.lo ∨ sat.hi < f.lo) →
      t.fld f = s.fld f) ∧
    { t with regs := [] } = { s with regs := [] }

/-- A sample word (R29): bits 31:4 hold a two's-complement value in units of 2^-27 of the full scale, bits 3:0 the tag; neither is
read from the other's bits. With the six rows of the rule's table. -/
def Obligations.SampleHoldsValueAndTag : Prop :=
  (∀ w : Word, sval w = (w.extractLsb' 4 28).toInt ∧ -(2 ^ 27) ≤ sval w ∧ sval w < 2 ^ 27 ∧ stag w = (w.extractLsb' 0 4).toNat) ∧
  (∀ v w : Word, v.extractLsb' 4 28 = w.extractLsb' 4 28 → sval v = sval w) ∧
  (∀ v w : Word, v.extractLsb' 0 4 = w.extractLsb' 0 4 → stag v = stag w) ∧
  (∀ r ∈ [(0x7FFFFFF0#32, 2 ^ 27 - 1), (0x40000000#32, 2 ^ 26), (0x00000010#32, 1), (0#32, 0), (0xC0000000#32, -(2 ^ 26)),
      (0x80000000#32, -(2 ^ 27 : Int))], sval r.1 = r.2 ∧ stag r.1 = 0)

/-- The arithmetic every block shares (R29, R30): the exact result is rounded to the nearest 28-bit value, ties to even, saturated,
and gets its tag, with T_CLP where it saturated; an operand's tag plays no part in the value. -/
def Obligations.RoundsToEvenAndSaturates : Prop :=
  (∀ (x : Int) (n : Nat), (2 * (x - roundEven x n * 2 ^ n)).natAbs ≤ 2 ^ n ∧
    ((2 * (x - roundEven x n * 2 ^ n)).natAbs = 2 ^ n → roundEven x n % 2 = 0)) ∧
  (∀ (v : Int) (tag : Nat), tag < 16 →
    sval (sample v tag) = clampInt (-(2 ^ 27)) (2 ^ 27 - 1) v ∧
    stag (sample v tag) = (if clampInt (-(2 ^ 27)) (2 ^ 27 - 1) v = v then tag else tag ||| tCLP)) ∧
  (∀ (k : Nat) (w : Word), sval (weigh k w) = clampInt (-(2 ^ 27)) (2 ^ 27 - 1) (roundEven (sval w * k) 27)) ∧
  (∀ (k : Nat) (w : Word), stag (weigh k w) =
    if sval (weigh k w) = roundEven (sval w * k) 27 then stag w else stag w ||| tCLP)

/-- What the registers hold after reset where the spec states it (R27, R496, R497, R500, R551), the part in reset, its ports
silent, nothing queued (R69, R479, R576). -/
def Obligations.ResetValues : Prop :=
  State.reset.word Adr.ID_PART = 0x00009632 ∧ State.reset.word Adr.ID_STEP = 0x00000010 ∧ State.reset.word Adr.ID_SCRATCH = 0 ∧
  State.reset.fld F.PRESS_CFG_MC_PRESS = 1 ∧ State.reset.phase = .held ∧ State.reset.ports = false ∧ State.reset.pending = [] ∧
  (∀ p : Fin 290, pageInUse p = true → State.reset.fld ⟨p.val * 4096, 23, 16⟩ = 1 ∧ State.reset.fld ⟨p.val * 4096, 5, 0⟩ = blockCode p ∧
    State.reset.fld (F.pgState p) = 0 ∧ State.reset.fld (F.pgLock p) = 0)

/-- REVERT copies every live value into its shadow at once, clears PEND wherever no press waits for an apply point, and leaves armed
glides armed (R505). -/
def Obligations.RevertRestoresTheShadow : Prop := ∀ s : State, s.Canonical → s.ports = true → s.press.kind = 0 →
  Completes (exec .revert s) (fun t =>
    (∀ a, SMap.get resetWord t.shadow a &&& stMask a = t.word a &&& stMask a) ∧
    (∀ p, s.press.later.any (fun e => pageKey e.1 / 4096 == p) = false → pagePend p t = false) ∧ t.mix.armed = s.mix.armed)

/-- The commands of the stitch links (R15-R25, R37, R530) complete while the tick runs, with the effect of their rules: each burst goes
out once in its tick and in its window, a burst comes whole and in sequence or is declared lost and asked for, a replay is taken
before its take point. -/
def Obligations.LinkCommandsComplete : Prop := ∀ s : State, s.phase = .running →
  (∀ (d : Fin 4) (frame : List Quire), linkRuns (d.val / 2) s = true → linkSupplied (d.val / 2) s = true →
    burstSent d.val false s = false → s.cyc ≤ 1023 →
    Completes (exec (.dataBurstSend d frame) s) (fun t =>
      t.dir d = { s.dir d with
        bsn := ((s.dir d).bsn + 1) % 2 ^ 32,
        retry := (s.dir d).retry.filter (fun b => decide (s.tick < b.tick + 4)) ++
          [{ tick := s.tick, ctl := false, bsn := (s.dir d).bsn,
             quires := if d.val = 1 then (List.range 64).map (fun k => frame.getD k 0) else packQuires (linkWords d.val s) }] })) ∧
  (∀ (d : Fin 4) (cyc : Fin 5120), linkRuns (d.val / 2) s = true → linkSupplied (d.val / 2) s = true → burstSent d.val true s = false →
    s.cyc ≤ 3071 → cyc.val ≤ 3071 → Completes (exec (.controlBurstSend d cyc) s) (fun t =>
      let x := (s.when (d.val == 1) linkResults).dir d
      let again := (linkAgain x s.tick).take (ctlRoom d.val)
      let new := (x.wait.filter (fun e => decide (e.1 ≤ s.tick))).take (ctlRoom d.val - again.length)
      (t.dir d).bsn = (x.bsn + 1) % 2 ^ 32 ∧ (t.dir d).cmdSeq = x.cmdSeq + new.length ∧
      (t.dir d).cmds.map (·.what) = x.cmds.map (·.what) ++ new.map (·.2) ∧
      (t.dir d).retry = x.retry.filter (fun b => decide (s.tick < b.tick + 4)) ++
        [{ tick := s.tick, ctl := true, bsn := x.bsn,
           cmds := again.map (·.seq) ++ (List.range new.length).map (fun k => x.cmdSeq + 1 + k) }])) ∧
  (∀ (d : Fin 4) (b : BurstIn), linkRuns (d.val / 2) s = true → linkSupplied (d.val / 2) s = true → Quire.bits b.cw 65 65 = 0 →
    burstSeen d.val (decide (2048 ≤ b.cyc.val)) s = false → burstWhole d.val b = true → Quire.bits b.cw 63 32 = (s.dir d).expect →
    (Quire.bits b.cw 64 64 == 1) = decide (2048 ≤ b.cyc.val) → ((Quire.bits b.cw 31 0 : Nat) : Int) = recvTick d.val s % 2 ^ 32 → b.phase ≤ 16 →
    Completes (exec (.stitchBurstReceive d b) s) (fun t =>
      t.dir d = { s.dir d with
        expect := ((s.dir d).expect + 1) % 2 ^ 32,
        got := (s.dir d).got ++ [burstTaken s.tick (decide (2048 ≤ b.cyc.val)) b] })) ∧
  (∀ (d : Fin 4) (b : BurstIn), linkRuns (d.val / 2) s = true → linkSupplied (d.val / 2) s = true → Quire.bits b.cw 65 65 = 0 →
    burstSeen d.val (decide (2048 ≤ b.cyc.val)) s = false →
    (burstWhole d.val b = false ∨ Quire.bits b.cw 63 32 ≠ (s.dir d).expect ∨ (Quire.bits b.cw 64 64 == 1) ≠ decide (2048 ≤ b.cyc.val)) →
    Completes (exec (.stitchBurstReceive d b) s) (fun t =>
      t.dir d = { s.dir d with
        expect := ((s.dir d).expect + 1) % 2 ^ 32, lost := (s.dir d).lost ++ [((s.dir d).expect, s.tick, decide (2048 ≤ b.cyc.val))],
        want := (s.dir d).want ++ [(s.dir d).expect] })) ∧
  (∀ (d : Fin 4) (b : BurstIn) (tk : Nat) (ctl : Bool), linkRuns (d.val / 2) s = true → linkSupplied (d.val / 2) s = true →
    Quire.bits b.cw 65 65 = 1 → burstWhole d.val b = true →
    (s.dir d).lost.find? (fun e => e.1 == Quire.bits b.cw 63 32) = some (Quire.bits b.cw 63 32, tk, ctl) →
    (s.tick ≤ tk ∨ (s.tick = tk + 1 ∧ b.cyc.val < 2048)) →
    ((Quire.bits b.cw 31 0 + (s.tick - tk) : Nat) : Int) % 2 ^ 32 = recvTick d.val s % 2 ^ 32 →
    Completes (exec (.stitchBurstReceive d b) s) (fun t =>
      t.dir d = { s.dir d with
        lost := (s.dir d).lost.filter (fun e => e.1 != Quire.bits b.cw 63 32),
        got := (s.dir d).got ++ [burstTaken tk ctl b] })) ∧
  (∀ (d : Fin 4) (ctl : Bool), linkRuns (d.val / 2) s = true → linkSupplied (d.val / 2) s = true → burstSeen d.val ctl s = false →
    Completes (exec (.burstWindowTimeout d (if ctl then 2 else 0)) s) (fun t =>
      t.dir d = { s.dir d with
        expect := ((s.dir d).expect + 1) % 2 ^ 32, lost := (s.dir d).lost ++ [((s.dir d).expect, s.tick, ctl)],
        want := (s.dir d).want ++ [(s.dir d).expect] })) ∧
  (∀ d : Fin 4, linkRuns (d.val / 2) s = true → linkSupplied (d.val / 2) s = true →
    Completes (exec (.burstWindowTimeout d 3) s) (fun t =>
      (t.dir d).want = (s.dir d).want ++
        ((s.dir d).lost.filter (fun e => e.2.1 == s.tick && !(s.dir d).want.contains e.1)).map (·.1))) ∧
  (∀ d : Fin 4, Completes (exec (.burstWindowTimeout d 1) s) (fun t => t = s)) ∧
  (∀ (d : Fin 4) (bsn : Fin 4294967296) (b : Burst), bsn.val ∈ (s.dir d).want →
    (s.dir d).retry.find? (fun x => x.bsn == bsn.val) = some b → b.replays < 2 → (∀ e ∈ (s.dir d).asked, e.1 ≠ bsn.val) →
    Completes (exec (.retryRequest d bsn) s) (fun t =>
      t.dir d = { s.dir d with
        want := (s.dir d).want.filter (· != bsn.val),
        asked := (s.dir d).asked ++ [if b.replays = 0 then (bsn.val, false, s.tick) else (bsn.val, true, s.tick + 1)] })) ∧
  (∀ (d : Fin 4) (a : Bool), linkRuns (d.val / 2) s = true → linkSupplied (d.val / 2) s = true →
    s.cyc ≤ (if a then 2047 else 4095) →
    Completes (exec (.burstReplay d a) s) (fun t =>
      (t.dir d).asked = (s.dir d).asked.filter (fun e => !(replayDue (s.dir d) a s.tick).contains e.1) ∧
      (t.dir d).retry = (s.dir d).retry.map (fun b =>
        if (replayDue (s.dir d) a s.tick).contains b.bsn then { b with replays := b.replays + 1 } else b) ∧
      t.fld (F.FLT_LINK_A_LINK_REPLAY d) = min (2 ^ (F.FLT_LINK_A_LINK_REPLAY d).width - 1) (s.fld (F.FLT_LINK_A_LINK_REPLAY d) +
        (replayDue (s.dir d) a s.tick).length))) ∧
  (∀ l : Fin 2, lstate l s = 2 → s.on F.PWR_STATUS_VSER_OK = true → linkSupplied l.val s = true →
    Completes (exec (.linkTrainingAnswer l) s) (fun t => lstate l t = 0)) ∧
  (∀ l : Fin 2, lstate l s = 0 → s.on F.PWR_STATUS_VSER_OK = true → linkSupplied l.val s = true →
    Completes (exec (.lanesTrained l) s) (fun t =>
      lstate l t = (if SMap.get (fun _ => false) s.link.wasDown l then 3 else 1) ∧
      ∀ d : Fin 4, d.val / 2 = l.val → recvTick d.val t = s.tick ∧ (t.dir d).expect = (s.dir d).bsn ∧ (t.dir d).due = s.tick + 2)) ∧
  (∀ l : Fin 2, lstate l s = 3 → linkDelivered l.val s = true →
    Completes (exec (.liveConfigTransferDone l) s) (fun t => lstate l t = 1)) ∧
  (∀ (d : Fin 4) (seq : Nat), linkRuns (d.val / 2) s = true → (s.dir d).acked ≤ seq →
    (s.dir d).cmdSeq = seq + ((s.dir d).cmds.filter (fun c => decide (seq < c.seq))).length →
    Completes (exec (.creditSetReceive d seq true) s) (fun t =>
      t.dir d = { s.dir d with acked := seq, cmds := (s.dir d).cmds.filter (fun c => decide (seq < c.seq)) })) ∧
  (∀ (d : Fin 4) (seq : Nat) (ok : Bool), linkRuns (d.val / 2) s = true →
    (ok = false ∨ seq < (s.dir d).acked ∨ (s.dir d).cmdSeq ≠ seq + ((s.dir d).cmds.filter (fun c => decide (seq < c.seq))).length) →
    Completes (exec (.creditSetReceive d seq ok) s) (fun t =>
      lstate (d.val / 2) t = 2 ∧ t.fld (F.FLT_LINK_B_DOWN_CNT d) =
        min (2 ^ (F.FLT_LINK_B_DOWN_CNT d).width - 1) (s.fld (F.FLT_LINK_B_DOWN_CNT d) + 1))) ∧
  Completes (exec .eccWriteBack s) (fun t => t.link.eccWait = s.link.eccWait.drop 1)

/-- A tick boundary and a take point (R44, R45, R20, R22-R24, R479) complete while the tick runs. -/
def Obligations.TickCommandsComplete : Prop := ∀ s : State, s.phase = .running →
  (∀ w : TickIn, Completes (exec (.tickBoundary w) s) (fun t =>
      t.tick = s.tick + 1 ∧ t.cyc = 0 ∧ t.ports = (s.ports || decide (s.clk.portsTick ≤ s.tick + 1)))) ∧
  (∀ w : TickIn, w.missed = [] → w.slots = [] → (tickFinish w s).on F.FLT_STAT_PARTWIDE = false → (tickFinish w s).clk.lostC = false →
    SMap.get (fun _ => false) (tickFinish w s).link.adopt 0 = false →
    Completes (exec (.tickBoundary w) s) (fun t => t.spine = (tickFinish w s).next)) ∧
  (∀ (cyc : Fin 5120) (l : Fin 2) (b : Burst), linkRuns l s = true → linkSupplied l s = true → (s.dir (2 * l)).due ≤ s.tick →
    (s.dir (2 * l)).got.find? (fun b => b.ctl == false && b.tick + 1 == s.tick) = some b →
    Completes (exec (.takePoint cyc) s) (fun t =>
      t.tick = s.tick ∧ t.cyc = max s.cyc (max 2048 cyc) ∧ (t.dir (2 * l)).data = b.quires)) ∧
  (∀ (cyc : Fin 5120) (l : Fin 2), linkRuns l s = true → linkSupplied l s = true → (s.dir (2 * l)).due ≤ s.tick →
    (s.dir (2 * l)).got.find? (fun b => b.ctl == false && b.tick + 1 == s.tick) = none →
    Completes (exec (.takePoint cyc) s) (fun t =>
      (t.dir (2 * l)).data = (s.dir (2 * l)).data ∧ (t.dir (2 * l)).subst = (s.dir (2 * l)).subst + 1)) ∧
  (∀ (cyc : Fin 5120) (l : Fin 2) (b : Burst), linkRuns l s = true → linkSupplied l s = true → (s.dir (2 * l)).due ≤ s.tick →
    (s.dir (2 * l)).got.find? (fun b => b.ctl == true && b.tick + 1 == s.tick) = some b →
    Completes (exec (.takePoint cyc) s) (fun t =>
      (t.dir (2 * l)).applied = (s.dir (2 * l)).applied + (linkNew (s.dir (2 * l)) b).length))

/-- Reset, loss of a die's supply, lock of PLL_C and the rails complete (R25, R39, R42, R68, R69, R76, R85-R93, R575, R576). The pins of
a supplied die in reset show the reset column of R39, those of a die without its supply the unpowered column. -/
def Obligations.ResetCommandsComplete : Prop := ∀ s : State,
  (∀ stage : Fin 5, Completes (exec (.resetAssert stage) s) (fun t =>
      ResetLeft s t ∧ t.resetLow = true ∧ t.word Adr.PWR_RST_CAUSE = (s.word Adr.PWR_RST_CAUSE).put 1 1 1 ∧ t.jtag.safe = false ∧
      (∀ (p : Pin) (c : PinAt), t.pin p c = if s.supplied.testBit p.die then p.inReset else p.unpowered) ∧
      (s.nvm.otpBusy = none → t.nvm.otp = s.nvm.otp))) ∧
  (∀ por : PorIn, s.phase = .held → s.railsDown = 0 → Completes (exec (.resetRelease por) s) (fun t =>
      t.phase = .searching ∧ t.resetLow = false ∧ t.supplied = 7 ∧ t.nvm.boot = 1 ∧ t.pwr.por = false ∧
      t.fld F.PWR_STATUS_IO_LEVEL = if s.pwr.por then (if por.io18 then 1 else 0) else s.fld F.PWR_STATUS_IO_LEVEL)) ∧
  (∀ por : PorIn, s.phase = .held → s.railsDown ≠ 0 →
    Completes (exec (.resetRelease por) s) (fun t => t.phase = .held ∧ t.resetLow = false)) ∧
  (∀ stage : Fin 5, Completes (exec (.dieSupplyLoss 0 stage) s) (fun t =>
      ResetLeft s t ∧ t.supplied % 2 = 0 ∧ t.word Adr.PWR_RST_CAUSE = s.word Adr.PWR_RST_CAUSE ∧
      ∀ (p : Pin) (c : PinAt), p.die = 0 → t.pin p c = p.unpowered)) ∧
  (∀ (die : Fin 3) (stage : Fin 5), die ≠ 0 → Completes (exec (.dieSupplyLoss die stage) s) (fun t =>
      t.supplied.testBit die = false ∧ t.phase = s.phase ∧ t.tick = s.tick ∧
      ∀ (p : Pin) (c : PinAt), p.die = die.val → t.pin p c = p.unpowered)) ∧
  (∀ (band : Fin 64) (after : Nat), s.phase = .searching → Completes (exec (.pllcLock band after) s) (fun t =>
      t.phase = .running ∧ t.tick = 0 ∧ t.cyc = 0 ∧ t.fld (F.CLK_PLL_STAT_LOCK 0) = 1 ∧ t.fld F.CLK_STATUS_PRELOCK = 1 ∧
      t.fld F.CLK_STATUS_REF_ACT = 2 ∧
      (s.fld (F.CLK_PLL_CFG_BAND_FLOOR 0) ≤ s.fld (F.CLK_PLL_CFG_BAND_CEIL 0) →
        t.fld (F.CLK_PLL_STAT_BAND 0) = clampNat (s.fld (F.CLK_PLL_CFG_BAND_FLOOR 0)) (s.fld (F.CLK_PLL_CFG_BAND_CEIL 0)) band))) ∧
  (s.phase = .searching → Completes (exec .pllcSearchFail s) (fun t =>
      t.phase = .searching ∧ t.clk.searches = min 64 (s.clk.searches + 1) ∧ t.fld (F.CLK_PLL_STAT_LOCK_FAIL 0) = 1 ∧
      (63 ≤ s.clk.searches → (t.word Adr.PWR_RST_CAUSE).bits 5 5 = 1) ∧
      (s.clk.searches < 63 → t.word Adr.PWR_RST_CAUSE = s.word Adr.PWR_RST_CAUSE))) ∧
  (s.phase = .running → pllLocked 0 s = true → Completes (exec .pllcUnlock s) (fun t =>
      t.phase = .running ∧ t.clk.lostC = true ∧ pllLocked 0 t = false ∧ Counted s t (F.CLK_PLL_STAT_UNLOCK_CNT 0) ∧
      Reported s t 0x2103 0 5)) ∧
  (∀ (rail : Rail) (stage : Fin 5), rail = .vcore ∨ rail = .vddio ∨ rail = .vdda →
    Completes (exec (.railUndervoltage rail false stage) s) (fun t =>
      ResetLeft s t ∧ t.railsDown ≠ 0 ∧
      (t.word Adr.PWR_RST_CAUSE) = (s.word Adr.PWR_RST_CAUSE).put (if rail = .vcore then 2 else if rail = .vddio then 3 else 4)
        (if rail = .vcore then 2 else if rail = .vddio then 3 else 4) 1)) ∧
  (∀ stage : Fin 5, Completes (exec (.railUndervoltage .vddio true stage) s) (fun t =>
      ResetLeft s t ∧ t.word Adr.PWR_RST_CAUSE = 1 ∧ t.pwr.por = true)) ∧
  (∀ (cold : Bool) (stage : Fin 5), s.phase = .running → s.on F.PWR_STATUS_VAH_OK = true →
    Completes (exec (.railUndervoltage .vah cold stage) s) (fun t =>
      t.fld F.PWR_STATUS_VAH_OK = 0 ∧ Counted s t F.PWR_EVT_CNT_VAH_UV_CNT ∧ Reported s t 0x10C5 0 2)) ∧
  (∀ (cold : Bool) (stage : Fin 5), s.phase = .running → s.pwr.pvin = true →
    Completes (exec (.railUndervoltage .pvin cold stage) s) (fun t =>
      t.fld F.PWR_STATUS_PVIN_OK = 0 ∧ Counted s t F.PWR_EVT_CNT_PVIN_UV_CNT ∧ Reported s t 0x10C6 0 2)) ∧
  (∀ (cold : Bool) (stage : Fin 5), s.phase = .running → s.on F.PWR_STATUS_VSER_OK = true →
    Completes (exec (.railUndervoltage .vser cold stage) s) (fun t =>
      t.fld F.PWR_STATUS_VSER_OK = 0 ∧ lstate 0 t = 2 ∧ lstate 1 t = 2 ∧ t.railsDown = s.railsDown ||| 2 ∧
      Counted s t F.PWR_EVT_CNT_VSER_UV_CNT)) ∧
  (∀ (rail : Rail) (por : PorIn), s.phase = .held → s.resetLow = false →
    (rail = .vcore ∧ s.railsDown = 1 ∨ rail = .vddio ∧ s.railsDown = 4 ∨ rail = .vdda ∧ s.railsDown = 8) →
    Completes (exec (.railRecover rail por) s) (fun t => t.phase = .searching ∧ t.railsDown = 0 ∧ t.supplied = 7)) ∧
  (∀ por : PorIn, s.phase = .running → s.on F.PWR_STATUS_VSER_OK = false →
    Completes (exec (.railRecover .vser por) s) (fun t => t.fld F.PWR_STATUS_VSER_OK = 1)) ∧
  (∀ por : PorIn, s.phase = .running → s.on F.PWR_STATUS_VAH_OK = false →
    Completes (exec (.railRecover .vah por) s) (fun t => t.fld F.PWR_STATUS_VAH_OK = 1 ∧ t.pwr.vah = true)) ∧
  (∀ por : PorIn, s.phase = .running → Completes (exec (.railRecover .pvin por) s) (fun t =>
      t.pwr.pvin = true ∧ t.fld F.PWR_STATUS_PVIN_OK = if s.pwr.pvinHigh then 0 else 1))

/-- The commands of references, PLLs and servo complete (R66-R83). -/
def Obligations.ClockCommandsComplete : Prop := ∀ s : State,
  (∀ (edges : Nat) (x : Bool), s.phase = .running → windowGood edges 3072 = true → x = false → s.clk.refGood = 15 →
    s.fld F.CLK_STATUS_REF_OK = 0 → s.fld F.CLK_STATUS_REF_ACT = 2 → s.on F.CLK_REF_CFG_SLEW_RATE = true → s.clk.waitPair = false →
    Completes (exec (.refQualWindow false edges x) s) (fun t =>
      t.clk.refGood = 16 ∧ t.fld F.CLK_STATUS_REF_OK = 1 ∧ t.fld F.CLK_STATUS_SLEWING = 1)) ∧
  (∀ (edges : Nat) (x : Bool), s.phase = .running → windowGood edges 3072 = true → x = false → s.clk.refGood < 15 →
    Completes (exec (.refQualWindow false edges x) s) (fun t =>
      t.clk.refGood = s.clk.refGood + 1 ∧ t.fld F.CLK_STATUS_REF_OK = s.fld F.CLK_STATUS_REF_OK)) ∧
  (∀ (edges : Nat) (x : Bool), s.phase = .running → windowGood edges 3125 = true → s.clk.nrefGood = 15 → s.on F.CLK_STATUS_NREF_OK = false →
    Completes (exec (.refQualWindow true edges x) s) (fun t =>
      t.fld F.CLK_STATUS_NREF_OK = 1 ∧ (pllState 3 s = 0 → pllState 3 t = 1))) ∧
  (s.phase = .running → s.fld F.CLK_STATUS_REF_ACT ≠ 2 → Completes (exec (.refLoss false) s) (fun t =>
      t.fld F.CLK_STATUS_REF_ACT = 2 ∧ t.fld F.CLK_STATUS_HOLDOVER = 1 ∧ t.fld F.CLK_STATUS_REF_OK = 0 ∧ t.clk.refGood = 0 ∧
      Reported s t 0x2101 0 1)) ∧
  (s.phase = .running → s.fld F.CLK_STATUS_REF_ACT = 2 → s.on F.CLK_STATUS_REF_OK = true → Completes (exec (.refLoss false) s) (fun t =>
      t.fld F.CLK_STATUS_REF_OK = 0 ∧ t.fld F.CLK_STATUS_SLEWING = 0 ∧ t.clk.refGood = 0 ∧ Reported s t 0x2101 0 1)) ∧
  (s.phase = .running → s.on F.CLK_STATUS_SLEWING = true → s.on F.CLK_STATUS_REF_OK = true → s.fld F.CLK_STATUS_REF_ACT = 2 →
    s.on F.CLK_REF_CFG_SLEW_RATE = true →
    Completes (exec .ioscSlewDone s) (fun t => t.clk.waitPair = true ∧ t.fld F.CLK_STATUS_SLEWING = 0)) ∧
  (s.phase = .running → s.clk.waitPair = true → s.on F.CLK_STATUS_PRELOCK = true → 1 ≤ s.fld F.PWR_STATUS_PS_ACT →
    Completes (exec .refSwitch s) (fun t =>
      t.fld F.CLK_STATUS_REF_ACT = s.fld F.CLK_REF_CFG_REF_SEL ∧ t.fld F.CLK_STATUS_HOLDOVER = 0 ∧ t.fld F.CLK_STATUS_PRELOCK = 0 ∧
      pllState 1 t = 1 ∧ pllState 2 t = 1)) ∧
  (∀ (pll : Fin 3) (band : Fin 64), s.phase = .running → pllState (pll + 1) s = 1 → Completes (exec (.pllLock pll true band) s) (fun t =>
      pllLocked (pll + 1) t = true ∧ pllState (pll + 1) t = 2 ∧
      (s.fld (F.CLK_PLL_CFG_BAND_FLOOR (pll + 1)) ≤ s.fld (F.CLK_PLL_CFG_BAND_CEIL (pll + 1)) → t.fld (F.CLK_PLL_STAT_BAND (pll + 1)) =
        clampNat (s.fld (F.CLK_PLL_CFG_BAND_FLOOR (pll + 1))) (s.fld (F.CLK_PLL_CFG_BAND_CEIL (pll + 1))) band))) ∧
  (∀ (pll : Fin 3) (band : Fin 64), s.phase = .running → pllState (pll + 1) s = 1 →
    SMap.get (fun _ => false) s.clk.auto (pll + 1) = false → Completes (exec (.pllLock pll false band) s) (fun t =>
      pllState (pll + 1) t = 3 ∧ t.fld (F.CLK_PLL_STAT_LOCK_FAIL (pll + 1)) = 1 ∧ Reported s t (0x2108 + (pll + 1)) 0 0)) ∧
  (∀ sel : Fin 2, s.ports = true → s.fld F.CLK_REF_CFG_REF_SEL ≠ sel → Completes (exec (.refSelChange sel) s) (fun t =>
      t.fld F.CLK_REF_CFG_REF_SEL = sel ∧ t.fld F.CLK_STATUS_REF_ACT = 2 ∧ t.fld F.CLK_STATUS_REF_OK = 0 ∧
      (s.fld F.CLK_STATUS_REF_ACT ≠ 2 → t.fld F.CLK_STATUS_HOLDOVER = 1))) ∧
  (∀ pll : Fin 3, s.phase = .running → pllLocked (pll + 1) s = true → Completes (exec (.pllUnlock pll) s) (fun t =>
      pllLocked (pll + 1) t = false ∧ pllState (pll + 1) t = (if pll = 2 then 1 else 4) ∧ Counted s t (F.CLK_PLL_STAT_UNLOCK_CNT (pll + 1)) ∧
      Reported s t (0x2103 + (pll + 1)) 0 0)) ∧
  (s.ports = true → pllState 1 s ≠ 1 → pllState 1 s ≠ 4 → pllKept 1 s = false → Completes (exec .relockM s) (fun t =>
      pllState 1 t = 4 ∧ pllLocked 1 t = false ∧ t.fld (F.CLK_PLL_STAT_LOCK_FAIL 1) = 0)) ∧
  (s.ports = true → pllState 2 s ≠ 1 → pllState 2 s ≠ 4 → pllKept 2 s = false → Completes (exec .relockP s) (fun t =>
      pllState 2 t = 4 ∧ pllLocked 2 t = false ∧ t.fld (F.CLK_PLL_STAT_LOCK_FAIL 2) = 0)) ∧
  (s.ports = true → pllState 3 s ≠ 1 → pllState 3 s ≠ 4 → Completes (exec .relockN s) (fun t =>
      pllState 3 t = 1 ∧ pllLocked 3 t = false ∧ t.fld (F.CLK_PLL_STAT_LOCK_FAIL 3) = 0)) ∧
  (∀ (cyc : Fin 5120) (err : Int), s.phase = .running → s.on F.CLK_SERVO_CFG_SERVO_EN = true → s.tick % 1024 = 0 → servoHold s = false →
    Completes (exec (.servoSample cyc err) s) (fun t =>
      t.fld F.CLK_SERVO_STAT_HOLD = 0 ∧
      t.clk.servoGood = (if -100 ≤ servoPhase err s ∧ servoPhase err s ≤ 100 then min 16 (s.clk.servoGood + 1) else 0) ∧
      (∃ v, s.fld F.CLK_STEER_STEER - s.fld F.CLK_SERVO_CFG_STEER_SLEW ≤ v ∧
        v ≤ s.fld F.CLK_STEER_STEER + s.fld F.CLK_SERVO_CFG_STEER_SLEW ∧ t.fld F.CLK_STEER_STEER = steerClamp v s))) ∧
  (∀ (cyc : Fin 5120) (err : Int), s.phase = .running → s.on F.CLK_SERVO_CFG_SERVO_EN = true → s.tick % 1024 = 0 → servoHold s = true →
    Completes (exec (.servoSample cyc err) s) (fun t =>
      t.fld F.CLK_SERVO_STAT_HOLD = 1 ∧ t.fld F.CLK_STEER_STEER = s.fld F.CLK_STEER_STEER)) ∧
  (s.phase = .running → s.on F.CLK_STATUS_NREF_OK = true → Completes (exec .nrefLoss s) (fun t =>
      t.clk.nrefGood = 0 ∧ t.fld F.CLK_STATUS_NREF_OK = 0 ∧ Reported s t 0x2107 0 0))

/-- The commands of supplies, power states and the core voltage loop complete (R90-R102). -/
def Obligations.PowerCommandsComplete : Prop := ∀ s : State,
  (s.phase = .running → s.pwr.pvinHigh = false → Completes (exec .pvinOvervoltage s) (fun t =>
      t.pwr.pvinHigh = true ∧ t.fld F.PWR_STATUS_PVIN_OK = 0 ∧ Counted s t F.PWR_EVT_CNT_PVIN_OV_CNT ∧ Reported s t 0x10C7 0 2)) ∧
  (s.phase = .running → Completes (exec .pvinOvRecover s) (fun t =>
      t.pwr.pvinHigh = false ∧ t.fld F.PWR_STATUS_PVIN_OK = if s.pwr.pvin then 1 else 0)) ∧
  (∀ full : Bool, s.phase = .running → Completes (exec (.pvinFullChange full) s) (fun t =>
      t.pwr.full = full ∧ t.fld F.PWR_STATUS_PVIN_FULL = if full then 1 else 0)) ∧
  (∀ low : Bool, s.phase = .running → s.on F.PWR_STATUS_IO_LEVEL = true → s.pwr.vioLow ≠ low → s.pwr.vioNew = false →
    Completes (exec (.pfVioChange low) s) (fun t =>
      t.on F.PWR_STATUS_PF_VIO = low ∧ t.flt.reports = s.flt.reports ++ if low then [⟨0x10C8, 0, 0, 0⟩] else [])) ∧
  (∀ req : Fin 4, s.ports = true → req ≠ 3 → s.on F.PWR_STATUS_PS_BUSY = false → s.fld F.PWR_STATUS_PS_ACT ≠ req →
    Completes (exec (.powerStateRequest req) s) (fun t =>
      t.fld F.PWR_STATE_REQ_PS_REQ = req ∧ t.fld F.PWR_STATUS_PS_BUSY = 1 ∧
      t.pwr.step = some (if s.fld F.PWR_STATUS_PS_ACT < req then s.fld F.PWR_STATUS_PS_ACT + 1 else s.fld F.PWR_STATUS_PS_ACT - 1))) ∧
  (∀ req : Fin 4, s.ports = true → req ≠ 3 → s.on F.PWR_STATUS_PS_BUSY = true →
    Completes (exec (.powerStateRequest req) s) (fun t => t.fld F.PWR_STATE_REQ_PS_REQ = req ∧ t.pwr.step = s.pwr.step)) ∧
  (∀ n : Fin 3, s.phase = .running → s.pwr.step = some n.val → psMayEnd s = true →
    Completes (exec .powerStateStepDone s) (fun t =>
      t.fld F.PWR_STATUS_PS_ACT = n ∧
      if n.val = s.fld F.PWR_STATE_REQ_PS_REQ then t.pwr.step = none ∧ t.fld F.PWR_STATUS_PS_BUSY = 0
      else t.pwr.step = some (psNext n (s.fld F.PWR_STATE_REQ_PS_REQ)) ∧ t.fld F.PWR_STATUS_PS_BUSY = 1)) ∧
  (∀ m : Nat, s.phase = .running → vMaySend s = true → s.fld F.PWR_VLOOP_CFG_PERIOD ≠ 0 → s.fld F.PWR_VLOOP_CFG_STEP ≠ 0 →
    s.tick % (16 * s.fld F.PWR_VLOOP_CFG_PERIOD) = 0 → s.pwr.minMargin = some m → s.pwr.await ≤ s.tick →
    m + 2 < max (s.fld F.PWR_MARGIN_CFG_MARGIN_TGT) (s.fld F.PWR_MARGIN_CFG_MARGIN_EMERG + 2) →
    vClamp (vNow s + 5 * s.fld F.PWR_VLOOP_CFG_STEP) s ≠ vNow s →
    Completes (exec .vloopSample s) (fun t =>
      t.fld F.PWR_VLOOP_STAT_VSET = vClamp (vNow s + 5 * s.fld F.PWR_VLOOP_CFG_STEP) s ∧ t.pwr.minMargin = none ∧
      t.pwr.avs = s.pwr.avs ++ [none, some (vClamp (vNow s + 5 * s.fld F.PWR_VLOOP_CFG_STEP) s)] ∧ t.pwr.await = s.tick + 384)) ∧
  (∀ (v : Nat) (rest : List (Option Nat)) (complete : Bool) (mv ma : Nat), s.phase = .running → s.pwr.avs = some v :: rest →
    Completes (exec (.avsTransactionDone true complete mv ma) s) (fun t =>
      t.pwr.avs = rest ∧ t.pwr.avsFails = 0 ∧ t.pwr.await = if complete then s.tick else s.pwr.await)) ∧
  (∀ (rest : List (Option Nat)) (complete : Bool) (mv ma : Nat), s.phase = .running → s.pwr.avs = none :: rest →
    Completes (exec (.avsTransactionDone true complete mv ma) s) (fun t =>
      t.pwr.avs = rest ∧ (t.word Adr.PWR_VCORE_MEAS).bits 22 0 = mv % 2 ^ 23 ∧ (t.word Adr.PWR_ICORE_MEAS).bits 22 0 = ma % 2 ^ 23)) ∧
  (∀ (complete : Bool) (mv ma : Nat), s.phase = .running → s.pwr.avs ≠ [] → s.pwr.avsFails = 3 →
    Completes (exec (.avsTransactionDone false complete mv ma) s) (fun t =>
      t.pwr.avs = [] ∧ t.fld F.PWR_VLOOP_STAT_AVS_FAIL = 1 ∧ t.fld F.PWR_VLOOP_STAT_HOLD = 1 ∧ Reported s t 0x10CB 0 0)) ∧
  (∀ (o : Origin) (k : Fin 4) (data : Word), s.hears o = true → 2 ≤ k.val →
    Completes (exec (.vcoreBoundWrite o k data) s) (fun t =>
      t.fld ⟨Adr.PWR_HB_VMIN + 4 * k, 11, 0⟩ =
        clampNat (s.fld F.PWR_HB_VMIN_HB_VMIN) (s.fld F.PWR_HB_VMAX_HB_VMAX) (data.bits 11 0))) ∧
  (∀ (o : Origin) (k : Fin 4) (data : Word), s.hears o = true → k.val < 2 → o ≠ .mc → s.on (F.pgLock Pg.pwr) = false →
    Completes (exec (.vcoreBoundWrite o k data) s) (fun t =>
      t.fld ⟨Adr.PWR_HB_VMIN + 4 * k, 11, 0⟩ = clampNat 700 900 (data.bits 11 0)))

/-- The commands of the analog inputs complete (R107, R109, R112, R116-R119, R125, R27). -/
def Obligations.AnalogInputCommandsComplete : Prop := ∀ s : State,
  (∀ n : Fin 32, s.phase = .running → (s.ach n).seq = 2 → (s.ach n).due ≤ s.tick → Completes (exec (.ainModeStepDone n) s) (fun t =>
      t.ach n = { s.ach n with seq := 3, w := { pos := 0, len := 32, up := true } })) ∧
  (∀ n : Fin 32, s.phase = .running → (s.ach n).seq = 1 → rampRests (s.ach n).w = true → s.fld (F.AIN_CFG_MODE n) ≠ 0 →
    Completes (exec (.ainModeStepDone n) s) (fun t =>
      (t.ach n).mode = s.fld (F.AIN_CFG_MODE n) ∧ (t.ach n).seq = 2 ∧ (t.ach n).due = s.tick + 256)) ∧
  (∀ n : Fin 32, s.phase = .running → (s.ach n).seq = 3 → rampRests (s.ach n).w = true →
    Completes (exec (.ainModeStepDone n) s) (fun t => t.ach n = { s.ach n with seq := 0 })) ∧
  (∀ k : Fin 8, s.phase = .running → s.on (F.AIN_MICB_CFG_MICB_EN k) = true → SMap.get (fun _ => false) s.ain.micbOff k = false →
    Completes (exec (.micbOc k) s) (fun t =>
      SMap.get (fun _ => false) t.ain.micbOff k = true ∧ t.fld (F.AIN_MICB_STAT_MICB_OC k) = 1 ∧ t.fld (F.pgInt (Pg.ain k) 4) = 1 ∧
      Reported s t 0x3447 k 0)) ∧
  (∀ words : List (Fin 64 × BitVec 16), s.phase = .running → linkRuns 0 s = true → Completes (exec (.modulatorStatus words) s) (fun t =>
      (t.dir 1).wait = (s.dir 1).wait ++ (List.range 8).map (fun q => (s.tick, LinkMsg.status s.tick
        ((words.foldl (fun m e => SMap.set (fun _ => 0) m e.1.val e.2.toNat) []).filter (fun e => e.1 / 8 == q)))))) ∧
  (∀ n : Fin 32, s.phase = .running → (s.ach n).choice = 1 → (s.ach n).toL ≤ 1 → mergeHold n s ≤ (s.ach n).hold → (s.ach n).hOut = false →
    (s.ach n).disagree = false → s.fld (F.AIN_CFG_PATH_FORCE n) = 0 → Completes (exec (.mergeReturn n) s) (fun t =>
      t.ach n = { s.ach n with
        choice := if s.fld (F.AIN_MERGE_XFADE n) = 0 then 0 else 2,
        xw := { pos := 64 * s.fld (F.AIN_MERGE_XFADE n), len := 64 * s.fld (F.AIN_MERGE_XFADE n), up := false }, toL := 0, hold := 0 })) ∧
  (∀ (n : Fin 32) (cyc : Fin 5120) (ge de : Int), s.phase = .running → (matchState n s = 1 ∨ matchState n s = 2) → (s.ach n).qual < 128 →
    Completes (exec (.matchBlock n cyc ge de) s) (fun t =>
      t.fld (F.AIN_MATCH_STAT_IDLE n) = 1 ∧ matchState n t = matchState n s ∧ (t.ach n).qual = 0 ∧
      ∀ row : Fin 3, t.word (Adr.AIN_MATCH_OFS n row) = s.word (Adr.AIN_MATCH_OFS n row))) ∧
  (∀ (n : Fin 32) (cyc : Fin 5120) (ge de : Int), s.phase = .running → matchState n s = 1 → (s.ach n).conv = 7 → 128 ≤ (s.ach n).qual →
    (s.ach n).ofsAt ≠ some (s.tick * 5120 + max s.cyc cyc) → ge.natAbs < 50 → de.natAbs < 20 →
    Completes (exec (.matchBlock n cyc ge de) s) (fun t =>
      t.fld (F.AIN_MATCH_STAT_IDLE n) = 0 ∧ matchState n t = 2 ∧ t.fld (F.pgInt (Pg.ain n) 5) = 1)) ∧
  (∀ (n : Fin 32) (cyc : Fin 5120) (ge de : Int), s.phase = .running → matchState n s = 2 → (s.ach n).diverge = 3 → 128 ≤ (s.ach n).qual →
    (s.ach n).ofsAt ≠ some (s.tick * 5120 + max s.cyc cyc) → 500 < ge.natAbs ∨ 200 < de.natAbs →
    Completes (exec (.matchBlock n cyc ge de) s) (fun t => t.fld (F.AIN_MATCH_STAT_IDLE n) = 0 ∧ matchState n t = 1)) ∧
  (∀ n : Fin 32, s.ports = true → ainOut n s = true → 3 ≤ ainPageState n s → s.on F.FLT_STAT_PARTWIDE = false →
    Completes (exec (.ainRestore n) s) (fun t =>
      t.testOf 0x11 n = some ⟨0x11, n, 0, s.tick + 1024⟩ ∧ t.ach n = { s.ach n with testBad := false })) ∧
  (∀ (u i : Fin 64) (pass : Bool) (failed : List Nat) (r : RTest), s.phase = .running → s.testOf u i = some r → r.due ≤ s.tick →
    Completes (exec (.guardRestoreTestEnd u i pass failed) s) (fun t => t.testOf u i = none)) ∧
  (∀ (i : Fin 64) (failed : List Nat) (r : RTest), s.phase = .running → s.testOf 0x11 i = some r → r.due ≤ s.tick → i.val < 32 →
    Completes (exec (.guardRestoreTestEnd 0x11 i true failed) s) (fun t =>
      ((s.ach i).testBad = false → ainOut i t = false) ∧ ((s.ach i).testBad = true → t.ach i = s.ach i)))

/-- The commands of the filter chain complete (R131, R140-R150, R145, R154). -/
def Obligations.FilterCommandsComplete : Prop := ∀ s : State,
  (∀ c : Fin 32, s.phase = .running → (s.ctl c).on = true → psAwake s = true → (s.ctl c).expect + 4 ≤ s.tick →
    Completes (exec (.controlSampleLate c) s) (fun t =>
      t.fld (F.FCH_CSTAT_STALL c) = 1 ∧ t.fld (F.pgInt (Pg.fchCtl c) 3) = 1 ∧ (t.ctl c).n = (s.ctl c).n + 1 ∧
      (t.ctl c).expect = (s.ctl c).expect + 4 ∧ (t.ctl c).replaced = (s.ctl c).replaced ++ [ctlNextAt c s] ∧
      Counted s t (F.FCH_CCNT_STALL_CNT c))) ∧
  (∀ (c : Fin 32) (k : Fin 2) (f : Nat), s.phase = .running → ((s.ctl c).comp k).since = some f → s.on (F.FCH_THR_EN c k) = true →
    s.fld (thrState c k) = 0 → s.fld (thrAmbig c k) = 0 → s.fld (F.FCH_TCFG_DECIDE_T c) ≠ 0 →
    f + 192 * s.fld (F.FCH_TCFG_DECIDE_T c) ≤ s.tick → Completes (exec (.comparatorAmbig c k) s) (fun t =>
      t.fld (thrAmbig c k) = 1 ∧ t.fld (thrState c k) = 0 ∧ t.fld (F.pgInt (Pg.fchCtl c) 1) = 1 ∧
      t.fch.events = s.fch.events ++ [⟨c, (s.ctl c).t - ctlD c (s.ctl c).bank s, 8 + k,
        (if (s.ctl c).swapped then 2 else 0) + (if stag (s.ctl c).y / 4 % 2 = 1 then 4 else 0), (s.ctl c).y⟩])) ∧
  (∀ (c : Fin 32) (w : Word) (at_ : Int) (fl : Nat), s.phase = .running → (s.ctl c).peak = some (0, w, at_, fl) →
    Completes (exec (.peakCapture c) s) (fun t =>
      (t.ctl c).peak = none ∧ t.fch.events = s.fch.events ++ [⟨c, at_, 11, fl, w⟩])) ∧
  (∀ (c : Fin 32) (k : Fin 2), s.ports = true → 2048 ≤ s.cyc → s.on (F.FCH_THR_EN c k) = true →
    Completes (exec (.comparatorForceLow c k) s) (fun t =>
      t.fld (thrState c k) = 1 ∧ t.fld (thrForced c k) = 1 ∧ t.fld (thrAmbig c k) = 0) ∧
    Completes (exec (.comparatorForceHigh c k) s) (fun t =>
      t.fld (thrState c k) = 2 ∧ t.fld (thrForced c k) = 1 ∧ t.fld (thrAmbig c k) = 0) ∧
    Completes (exec (.comparatorRelease c k) s) (fun t =>
      t.fld (thrState c k) = 0 ∧ t.fld (thrForced c k) = 0 ∧ t.fld (thrAmbig c k) = 0 ∧ ((t.ctl c).comp k).since = none)) ∧
  (∀ (c : Fin 32) (k : Fin 2), s.ports = true → s.cyc < 2048 →
    Completes (exec (.comparatorForceLow c k) s) (fun t => ((t.ctl c).comp k).force = some 1 ∧ t.regs = s.regs) ∧
    Completes (exec (.comparatorForceHigh c k) s) (fun t => ((t.ctl c).comp k).force = some 2 ∧ t.regs = s.regs) ∧
    Completes (exec (.comparatorRelease c k) s) (fun t => ((t.ctl c).comp k).force = some 3 ∧ t.regs = s.regs)) ∧
  (∀ (ch : Fin 48) (bank : Fin 2) (data : Word), s.ports = true → audBankLocked ch bank s = false →
    Completes (exec (.fchBankWrite false ch bank data) s) (fun t =>
      t.word (Adr.FCH_ABANK ch bank) = data &&& Word.mask 17 0 ∧ ∀ a, a ≠ Adr.FCH_ABANK ch bank → t.word a = s.word a)) ∧
  (∀ (ch : Fin 48) (bank : Fin 2) (data : Word), s.ports = true → ch.val < 32 → ctlBankLocked ch bank s = false →
    Completes (exec (.fchBankWrite true ch bank data) s) (fun t =>
      t.word (Adr.FCH_CBANK ch bank) = data &&& Word.mask 3 0 ∧ ∀ a, a ≠ Adr.FCH_CBANK ch bank → t.word a = s.word a)) ∧
  (∀ (ch : Fin 48) (bank : Fin 2) (data : Word), s.ports = true → audBankLocked ch bank s = true →
    Completes (exec (.fchBankWrite false ch bank data) s) (fun t =>
      t.word (Adr.FCH_ABANK ch bank) = s.word (Adr.FCH_ABANK ch bank) ∧ Counted s t (F.FCH_ACNT_BANK_WR_CNT ch) ∧
      t.fld (F.pgInt (Pg.fchAudio ch) 0) = 1 ∧ Reported s t 0x84C4 (0x010 + ch) 0)) ∧
  (∀ idx : Fin 1024, s.phase = .running → idx.val < 48 → (s.aud idx).xfade = true → rampRests (s.aud idx).xf = true →
    Completes (exec (.swapCrossfadeEnd 0 idx) s) (fun t =>
      t.aud idx = { s.aud idx with xfade := false } ∧ t.fld (F.FCH_ASTAT_XFADE idx) = 0 ∧ t.on (F.FCH_ASTAT_FROZEN idx) = audPressing idx s ∧
      t.fld (F.pgInt (Pg.fchAudio idx) 1) = 1)) ∧
  (∀ (c : Fin 32) (b : Fin 2), s.phase = .running → (s.ctl c).swap = some b.val →
    (s.ctl c).n % max (ctlRatio (s.fld (F.FCH_CBANK_PRESET c 0))) (ctlRatio (s.fld (F.FCH_CBANK_PRESET c 1))) = 0 →
    Completes (exec (.controlSwapSwitch c) s) (fun t =>
      t.ctl c = { s.ctl c with swap := none } ∧ t.fld (F.FCH_CSTAT_LIVE_BANK c) = b ∧ t.fld (F.FCH_CCFG_ACT_BANK c) = b ∧
      (s.press.banksFrozen = false → t.fld (F.FCH_CSTAT_FROZEN c) = 0))) ∧
  (∀ (mac : Fin 9) (src : Fin 80), s.phase = .running → s.fch.eng.bad = [] → s.fch.eng.faulted = false →
    Completes (exec (.fchResidue mac src) s) (fun t =>
      t.fch.eng.bad = [mac.val] ∧ t.fch.eng.faulted = false ∧ t.fld F.FCH_GUARD_GUARD_ACT = 1 ∧ t.fld F.FCH_GUARD_GUARD_MAC = mac ∧
      Counted s t F.FCH_ERR_RES_CNT ∧ Reported s t 0x54C1 (if src.val < 48 then 0x010 + src else 0x040 + (src - 48)) 1)) ∧
  (∀ (mac m : Fin 9) (src : Fin 80), s.phase = .running → s.fch.eng.bad = [m.val] → s.fch.eng.faulted = false → mac ≠ m →
    Completes (exec (.fchResidue mac src) s) (fun t =>
      t.fch.eng.bad = [m.val, mac.val] ∧ t.fch.eng.faulted = true ∧ t.fld F.FCH_GUARD_FAULTED = 1 ∧ Counted s t F.FCH_ERR_RES_CNT)) ∧
  (s.ports = true → s.fch.eng.bad ≠ [] → Completes (exec .fchRestore s) (fun t =>
      t.testOf 0x13 0 = some ⟨0x13, 0, 0, s.tick + 1024⟩ ∧ { t with tests := s.tests } = s))

/-- The commands of the supervisory converters complete (R159-R175): a slot converts its entry, a guarded entry of the converter that is
out, an urgent request or the next rotation index, or delivers a held value; a check slot gives its verdict; requests are accepted or
dropped; references are lost and settle; a restore starts its tests. -/
def Obligations.SupervisoryCommandsComplete : Prop := ∀ s : State,
  (∀ (conv : Fin 2) (slot : Fin 21) (raw : Int), s.phase = .running → slot.val ≠ 0 → svcOut conv s = false →
    svcPos s.tick slot < svcLen conv s → svcDue conv (svcPos s.tick slot) (s.tick / 4) s = true →
    svcHeldBy (s.fld (F.SV_ENT_CH conv (svcPos s.tick slot))) (s.fld (F.SV_ENT_REF conv (svcPos s.tick slot))) s = false →
    Completes (exec (.svcConversion conv slot raw) s) (fun t =>
      let e := svcPos s.tick slot
      let ch := s.fld (F.SV_ENT_CH conv e)
      t.svc.flight = s.svc.flight ++ [⟨svcDueTick slot s, (64 * conv.val + e) / 64, slot, 0, e, ch, s.on (F.SV_ENT_ALIGN conv e),
        SMap.get (fun _ => false) s.svc.marks (64 * conv + e),
        { tick := s.tick, code := (svcCode ch raw).1, clp := (svcCode ch raw).2, sub := false,
          uns := svcUnsettled conv (s.fld (F.SV_ENT_REF conv e)) s }⟩] ∧
      t.svc.rotA = s.svc.rotA ∧ t.svc.rotB = s.svc.rotB)) ∧
  (∀ (conv : Fin 2) (slot : Fin 21) (raw : Int), s.phase = .running → slot.val ≠ 0 → svcOut conv s = false →
    svcPos s.tick slot < svcLen conv s → svcDue conv (svcPos s.tick slot) (s.tick / 4) s = true →
    svcHeldBy (s.fld (F.SV_ENT_CH conv (svcPos s.tick slot))) (s.fld (F.SV_ENT_REF conv (svcPos s.tick slot))) s = true →
    Completes (exec (.svcConversion conv slot raw) s) (fun t =>
      let e := svcPos s.tick slot
      t.svc.flight.map (·.v) = s.svc.flight.map (·.v) ++
        [{ SMap.get (fun _ => ({} : SvcVal)) s.svc.good (64 * conv + e) with tick := s.tick, sub := true, uns := false }])) ∧
  (∀ (conv : Fin 2) (slot : Fin 21) (raw : Int), s.phase = .running → slot.val ≠ 0 → svcOut conv s = false →
    svcPos s.tick slot < svcLen conv s → svcDue conv (svcPos s.tick slot) (s.tick / 4) s = false →
    Completes (exec (.svcConversion conv slot raw) s) (fun t => t = s)) ∧
  (∀ (conv : Fin 2) (slot : Fin 21) (raw : Int) (e : Nat), s.phase = .running → slot.val ≠ 0 → svcOut conv s = false →
    svcOut (1 - conv.val) s = true → svcLen conv s ≤ svcPos s.tick slot → svcGuardAt conv (svcPos s.tick slot) s = some e →
    svcDue (1 - conv.val) e (s.tick / 4) s = true →
    (if conv = 0 then s.svc.outTickB else s.svc.outTickA) ≤ 4 * (s.tick / 4) + e / 20 →
    svcHeldBy (s.fld (F.SV_ENT_CH (1 - conv.val) e)) (s.fld (F.SV_ENT_REF (1 - conv.val) e)) s = false →
    Completes (exec (.svcConversion conv slot raw) s) (fun t =>
      t.svc.flight.map (fun r => (r.kind, r.idx, r.v.code, r.v.sub)) = s.svc.flight.map (fun r => (r.kind, r.idx, r.v.code, r.v.sub)) ++
        [(0, e, (svcCode (s.fld (F.SV_ENT_CH (1 - conv.val) e)) raw).1, true)])) ∧
  (∀ (conv : Fin 2) (slot : Fin 21) (raw : Int) (u : SvcUrg), s.phase = .running → slot.val ≠ 0 → svcOut conv s = false →
    svcOut (1 - conv.val) s = false → svcLen conv s ≤ svcPos s.tick slot → svcUrg conv s = some u → u.tick = s.tick → u.slot = slot →
    svcHeldBy u.ch u.ref s = false → Completes (exec (.svcConversion conv slot raw) s) (fun t =>
      t.svc.flight.map (fun r => (r.kind, r.ch, r.left, r.v.code, r.v.sub)) =
        s.svc.flight.map (fun r => (r.kind, r.ch, r.left, r.v.code, r.v.sub)) ++ [(1, u.ch, u.left, (svcCode u.ch raw).1, false)])) ∧
  (∀ (conv : Fin 2) (slot : Fin 21) (raw : Int), s.phase = .running → slot.val ≠ 0 → svcOut conv s = false →
    svcOut (1 - conv.val) s = false → svcLen conv s ≤ svcPos s.tick slot → svcUrg conv s = none →
    svcHeldBy (svcRotCh (svcRotNext conv s)) 0 s = false → Completes (exec (.svcConversion conv slot raw) s) (fun t =>
      let i := svcRotNext conv s
      t.svc.flight.map (fun r => (r.kind, r.idx, r.v.code)) =
        s.svc.flight.map (fun r => (r.kind, r.idx, r.v.code)) ++ [(2, i, (svcCode (svcRotCh i) raw).1)] ∧
      (if conv = 0 then t.svc.rotA else t.svc.rotB) = i + 1)) ∧
  (∀ (conv : Fin 2) (slot : Fin 21) (raw : Int), s.phase = .running → slot.val ≠ 0 → svcOut conv s = true →
    svcPos s.tick slot < svcLen conv s → svcDue conv (svcPos s.tick slot) (s.tick / 4) s = true →
    s.on (F.SV_ENT_GUARD conv (svcPos s.tick slot)) = false → Completes (exec (.svcConversion conv slot raw) s) (fun t =>
      let e := svcPos s.tick slot
      t.svc.flight.map (fun r => (r.kind, r.idx, r.v)) = s.svc.flight.map (fun r => (r.kind, r.idx, r.v)) ++
        [(0, e, svcHeld (64 * conv + e) s)])) ∧
  (∀ a b : Fin 65536, s.phase = .running → s.fld F.SVC_CHECK_CFG_PLAUS_LIM ≠ 0 → s.svc.outA = false → s.svc.outB = false →
    svcVerdict true true a b ((2 * (s.tick % 8) + 1) * 4096 : Nat) (max 8 (s.fld F.SVC_CHECK_CFG_PLAUS_LIM) : Nat) = 0 →
    Completes (exec (.checkSlot a b) s) (fun t =>
      t.svc.verdict = 0 ∧ t.svc.passA = s.tick ∧ t.svc.passB = s.tick ∧ t.fld F.SVC_CHECK_EXP_LEVEL = s.tick % 8 ∧
      t.fld F.SVC_CHECK_EXP_EXP = (2 * (s.tick % 8) + 1) * 4096 ∧
      t.svc.flight.map (fun r => (r.conv, r.kind, r.v.code)) =
        s.svc.flight.map (fun r => (r.conv, r.kind, r.v.code)) ++ [(0, 3, (a.val : Int)), (1, 3, (b.val : Int))])) ∧
  (∀ a b : Fin 65536, s.phase = .running → s.fld F.SVC_CHECK_CFG_PLAUS_LIM ≠ 0 → s.svc.outA = false → s.svc.outB = false →
    svcVerdict true true a b ((2 * (s.tick % 8) + 1) * 4096 : Nat) (max 8 (s.fld F.SVC_CHECK_CFG_PLAUS_LIM) : Nat) = 1 →
    s.svc.verdict = 1 → s.svc.verdictTick + 1 = s.tick → s.svc.susp = false →
    Completes (exec (.checkSlot a b) s) (fun t =>
      t.svc.outA = true ∧ t.svc.outB = false ∧ t.svc.outTickA = s.tick ∧ t.fld (F.pgInt Pg.svc 4) = 1 ∧
      Counted s t F.SVC_CHK_CNT_CHECK_MIS ∧
      Noted s t 1 s.tick { events := [(Pg.svc, 0)], reports := [⟨0x3501, 0, 1, 0⟩], act := (8, 0, 0) })) ∧
  (∀ (rank : Fin 3) (cyc : Fin 5120) (conv : Fin 2) (ch : Fin 128) (form : ConvForm), s.phase = .running →
    (rank.val = 1 → s.ports = true) → svcRival cyc conv s = none → cyc.val / 240 ≤ 19 →
    svcLen conv s ≤ svcPos s.tick (cyc.val / 240 + 1) → svcOut 0 s = false → svcOut 1 s = false → cyc.val + 8 ≤ 240 * (cyc.val / 240 + 1) →
    svcUrg conv s = none → s.svc.urgFrame ≠ s.tick / 4 → ch.val < 0x58 → form.ref.val < 3 → (ch.val < 0x18 ∨ form.ref = 0) →
    Completes (exec (.urgentRequest rank cyc conv ch form) s) (fun t =>
      svcUrg conv t = some ⟨s.tick, cyc.val / 240 + 1, ch, form.ref, form.left⟩ ∧ t.regs = s.regs)) ∧
  (∀ (rank : Fin 3) (cyc : Fin 5120) (conv : Fin 2) (ch : Fin 128) (form : ConvForm), s.phase = .running →
    (rank.val = 1 → s.ports = true) → svcRival cyc conv s = none → 240 * (cyc.val / 240 + 1) < cyc.val + 8 →
    Completes (exec (.urgentRequest rank cyc conv ch form) s) (fun t =>
      Counted s t F.SVC_URG_CNT_URG_DROP ∧ t.fld (F.pgInt Pg.svc 2) = 1 ∧ svcUrg conv t = svcUrg conv s)) ∧
  (∀ (rank : Fin 3) (cyc : Fin 5120) (conv : Fin 2) (ch : Fin 128) (form : ConvForm) (r : Nat) (ok : Bool), s.phase = .running →
    (rank.val = 1 → s.ports = true) → svcRival cyc conv s = some (r, ok) → r ≤ rank.val →
    Completes (exec (.urgentRequest rank cyc conv ch form) s) (fun t =>
      Counted s t F.SVC_URG_CNT_URG_DROP ∧ t.fld (F.pgInt Pg.svc 2) = 1 ∧ svcUrg conv t = svcUrg conv s)) ∧
  (s.phase = .running → s.on F.SVC_STAT_EXT_OK = true → Completes (exec .vrefxLoss s) (fun t =>
      t.svc.extLost = true ∧ t.svc.extAt = some s.tick ∧ t.fld F.SVC_STAT_EXT_OK = 0 ∧
      Noted s t 1 s.tick { events := [(Pg.svc, 3)], reports := [⟨0x3505, 0, 0, 0⟩] })) ∧
  (∀ ref : Fin 4, s.phase = .running → svcMaySettle ref s = true → Completes (exec (.referenceSettled ref) s) (fun t =>
      t.fld (if ref = 0 then F.SVC_STAT_INT_A_OK else if ref = 1 then F.SVC_STAT_INT_B_OK else if ref = 2 then F.SVC_STAT_EXT_OK
        else F.SVC_STAT_SUP_OK) = 1 ∧ (ref = 2 → t.svc.extLost = false))) ∧
  (∀ ref : Fin 4, s.phase = .running → svcMaySettle ref s = false → Completes (exec (.referenceSettled ref) s) (fun t => t = s)) ∧
  (s.ports = true → s.on F.FLT_STAT_PARTWIDE = false → (svcPageState s = 3 ∨ svcPageState s = 4) →
    Completes (exec .svcRestore s) (fun t =>
      t.svc.missed = false ∧ (s.svc.outA = true → t.testOf 0x14 0 = some ⟨0x14, 0, 0, s.tick + 1024⟩) ∧
      (s.svc.outB = true → t.testOf 0x14 1 = some ⟨0x14, 1, 0, s.tick + 1024⟩) ∧
      (s.svc.susp = true → t.testOf 0x14 2 = some ⟨0x14, 2, 0, s.tick + 1024⟩) ∧
      (s.svc.outA = true → s.svc.seenA = true → t.fld F.SVC_STAT_SVA_STATE = 3)))

/-- The commands of the serial audio ports complete (R186-R200). -/
def Obligations.SerialPortCommandsComplete : Prop := ∀ (s : State) (p : Fin 16),
  (∀ edges : Bool, s.phase = .running → sapPs p s = 1 → (s.port p).drive = false → (s.port p).start + 16 ≤ s.tick →
    s.on F.CLK_STATUS_PRELOCK = false →
    (s.fld (F.SAP_CFG_MODE p) = 1 ∨ (s.fld (F.SAP_CFG_MODE p) = 2 ∧ edges = true)) → Completes (exec (.sapSenseEnd p edges) s) (fun t =>
      sapPs p t = 2 ∧ t.fld (F.SAP_STAT_MODE_ACT p) = 1)) ∧
  (s.phase = .running → sapPs p s = 1 → (s.port p).drive = false → (s.port p).start + 16 ≤ s.tick →
    s.on F.CLK_STATUS_PRELOCK = false →
    s.fld (F.SAP_CFG_MODE p) = 0 → (s.port p).sense = true → Completes (exec (.sapSenseEnd p true) s) (fun t =>
      sapPs p t = 9 ∧ Counted s t (F.SAP_CNT_ERR_CONTEND_CNT p) ∧ t.fld (F.pgInt (Pg.sap p) 3) = 1 ∧ Reported s t 0x8545 p 0)) ∧
  (s.phase = .running → sapPs p s = 1 → (s.port p).drive = false → (s.port p).start + 16 ≤ s.tick →
    s.on F.CLK_STATUS_PRELOCK = false →
    s.fld (F.SAP_CFG_MODE p) = 0 → (s.port p).conserve = false → (s.port p).rx.fade ≠ 0 → (s.port p).tx.fade ≠ 0 →
    xingBoundary (tickKind (s.fld (F.SAP_CFG_PRATE p))) s.tick = true →
    Completes (exec (.sapSenseEnd p false) s) (fun t =>
      sapPs p t = 6 ∧ t.fld (F.SAP_STAT_MODE_ACT p) = 0 ∧ (t.port p).rx.ph = 3 ∧ (t.port p).tx.ph = 3)) ∧
  (s.phase = .running → sapPs p s = 1 → (s.port p).drive = false → (s.port p).start + 16 ≤ s.tick →
    s.on F.CLK_STATUS_PRELOCK = false → s.fld (F.SAP_CFG_MODE p) = 0 → xingBoundary (tickKind (s.fld (F.SAP_CFG_PRATE p))) s.tick = false →
    Completes (exec (.sapSenseEnd p false) s) (fun t => sapPs p t = 1 ∧ (t.port p).drive = true)) ∧
  (∀ (bits period : Nat) (line : List Bool), s.phase = .running → sapCtl p s = true → 2 ≤ sapPs p s → sapPs p s < 9 →
    Completes (exec (.sapFrame p bits period line) s) (fun t =>
      (t.xing p).inbox = [(List.range (s.fld (F.SAP_CFG_SLOTS p))).map (fun k =>
        wordIn (widthBits (s.fld (F.SAP_CFG_WLEN p))) (sapSlotWord p k line s))] ∧
      (t.xing p).wrReal = (s.xing p).wrReal + 1)) ∧
  (∀ (bits period : Nat) (line : List Bool), s.phase = .running → sapCtl p s = false → (sapPs p s = 2 ∨ sapPs p s = 3) →
    sapGood p bits period s = true → Completes (exec (.sapFrame p bits period line) s) (fun t =>
      sapPs p t = (if 15 ≤ (s.port p).goodRun then 4 else 3) ∧
      (t.port p).goodRun = (if 15 ≤ (s.port p).goodRun then 0 else (s.port p).goodRun + 1))) ∧
  (∀ (bits period : Nat) (line : List Bool), s.phase = .running → sapCtl p s = false → 4 ≤ sapPs p s → sapPs p s < 9 →
    (s.port p).requal = false → sapGood p bits period s = true → (s.xing p).buf.length + (s.xing p).inbox.length < 128 →
    Completes (exec (.sapFrame p bits period line) s) (fun t =>
      (t.xing p).inbox = (s.xing p).inbox ++ [(List.range (s.fld (F.SAP_CFG_SLOTS p))).map (fun k =>
        wordIn (widthBits (s.fld (F.SAP_CFG_WLEN p))) (sapSlotWord p k line s))] ∧
      t.regs = s.regs)) ∧
  (∀ (bits period : Nat) (line : List Bool), s.phase = .running → sapCtl p s = false → 4 ≤ sapPs p s → sapPs p s < 9 →
    (s.port p).requal = false → sapGood p bits period s = false → (s.port p).badRun < 7 →
    Completes (exec (.sapFrame p bits period line) s) (fun t =>
      Counted s t (F.SAP_CNT_ERR_FS_ERR p) ∧ t.fld (F.pgInt (Pg.sap p) 2) = 1 ∧ (t.port p).badRun = (s.port p).badRun + 1 ∧
      (t.xing p).inbox = (s.xing p).inbox ++
        [((s.xing p).inbox.getLastD ((s.xing p).buf.getLastD (s.xing p).last)).map (fun w => addTag w tSUB)])) ∧
  (s.phase = .running → sapCtl p s = false → 5 ≤ sapPs p s → sapPs p s ≤ 7 → (s.port p).requal = false →
    Completes (exec (.sapClockLoss p) s) (fun t =>
      (t.port p).requal = true ∧ (t.port p).goodRun = 0 ∧ Counted s t (F.SAP_CNT_ERR_CLK_LOSS p) ∧
      t.fld (F.pgInt (Pg.sap p) 1) = 1 ∧ Reported s t 0x2541 p 0)) ∧
  (∀ (f : List Word) (rest : List (List Word)), s.phase = .running → sapCtl p s = false → 5 ≤ sapPs p s → sapPs p s < 9 →
    (s.port p).tx.ph = 0 → (s.xing (16 + p)).buf = f :: rest → Completes (exec (.sapTxFrameRequest p) s) (fun t =>
      (t.port p).pins = sapPins p (sapMasked p f s) s ∧ (t.port p).sent = f ∧ (t.xing (16 + p)).buf = rest)) ∧
  (s.phase = .running → sapCtl p s = false → 5 ≤ sapPs p s → sapPs p s < 9 → (s.port p).tx.ph = 0 → (s.xing (16 + p)).buf = [] →
    Completes (exec (.sapTxFrameRequest p) s) (fun t =>
      Counted s t (F.SAP_CNT_TX_TX_UNDER p) ∧ (t.port p).tx.ph = 1 ∧ t.fld (F.pgInt (Pg.sap p) 0) = 1)) ∧
  (∀ tx : Bool, s.phase = .running → (if tx then (s.port p).tx else (s.port p).rx).ph = 1 →
    rampRests (if tx then (s.port p).tx else (s.port p).rx).w = true → Completes (exec (.sapFadeEnd p tx) s) (fun t =>
      (if tx then (t.port p).tx else (t.port p).rx).ph = 2 ∧ (if tx then (t.port p).rx = (s.port p).rx else (t.port p).tx = (s.port p).tx))) ∧
  (∀ tx : Bool, s.phase = .running → (if tx then (s.port p).tx else (s.port p).rx).ph = 3 →
    rampRests (if tx then (s.port p).tx else (s.port p).rx).w = true → (if tx then (s.port p).rx else (s.port p).tx).ph = 0 →
    (s.port p).conserve = false → sapPs p s = 6 → Completes (exec (.sapRampEnd p tx) s) (fun t =>
      (if tx then (t.port p).tx else (t.port p).rx).ph = 0 ∧ sapPs p t = 5 ∧ t.fld (F.pgInt (Pg.sap p) 4) = 1)) ∧
  (s.ports = true → 7 ≤ sapPs p s → sapPs p s ≤ 10 → s.isolated 2 p = false → Completes (exec (.sapRestart p) s) (fun t =>
      sapPs p t = 1 ∧ (t.port p).start = s.tick ∧ (t.port p).sense = true ∧ t.fld (F.SAP_STAT_MODE_ACT p) = s.fld (F.SAP_CFG_MODE p)))

/-- The commands of the PDM microphones and of S/PDIF complete (R207-R216). -/
def Obligations.PdmAndSpdifCommandsComplete : Prop := ∀ s : State,
  (∀ k : Fin 16, s.phase = .running → (s.mic k).ph = 1 → (s.mic k).due ≤ s.tick → Completes (exec (.pdmWakeEnd k) s) (fun t =>
      t.mic k = { s.mic k with ph := 2, w := { pos := 0, len := 32, up := true } } ∧
      (t.aud (32 + k)).uns = audSettle (audPreset (32 + k) s) ∧ t.regs = s.regs)) ∧
  (∀ k : Fin 16, s.phase = .running → micOn k s = true → (s.mic k).ph ≠ 0 → (s.mic k).ph ≠ 5 → (s.mic k).run = 4096 →
    Completes (exec (.pdmStuck k) s) (fun t =>
      (t.mic k).ph = 5 ∧ t.bit F.PDM_STAT_STUCK k = true ∧ Counted s t F.PDM_CNT_STUCK_CNT ∧ t.fld (F.pgInt Pg.pdm 0) = 1 ∧
      Reported s t 0x3581 k 0)) ∧
  (∀ k : Fin 16, s.ports = true → s.bit F.PDM_STAT_STUCK k = true → micOn k s = true → s.fld F.PDM_CFG_WAKE ≠ 0 →
    Completes (exec (.pdmRestart k) s) (fun t =>
      t.mic k = { ph := 1, due := s.tick + 192 * s.fld F.PDM_CFG_WAKE, clk := micClk k s } ∧ t.bit F.PDM_STAT_STUCK k = false)) ∧
  (∀ k : Fin 16, s.ports = true → s.bit F.PDM_STAT_STUCK k = true → micOn k s = false → Completes (exec (.pdmRestart k) s) (fun t =>
      t.bit F.PDM_STAT_STUCK k = false ∧ t.mic k = s.mic k)) ∧
  (∀ (n : Fin 4) (f : SpdifIn), s.phase = .running → spdiPs n s = 1 → f.preambles = true → rateWithin (rateNearest f.period) f.period = true →
    s.fld (F.SPDI_STAT_RATE n) = rateNearest f.period → (s.spdi n).goodRun < 15 →
    Completes (exec (.spdifFrame n f) s) (fun t =>
      spdiPs n t = 1 ∧ (t.spdi n).goodRun = (s.spdi n).goodRun + 1 ∧ t.fld (F.SPDI_STAT_RATE n) = rateNearest f.period)) ∧
  (∀ (n : Fin 4) (f : SpdifIn), s.phase = .running → spdiPs n s = 1 → f.preambles = true → rateWithin (rateNearest f.period) f.period = true →
    s.fld (F.SPDI_STAT_RATE n) = rateNearest f.period → 15 ≤ (s.spdi n).goodRun →
    Completes (exec (.spdifFrame n f) s) (fun t => spdiPs n t = 2 ∧ (t.xing (32 + n)).kind = 5 ∧ (t.xing (32 + n)).lstate = 1)) ∧
  (∀ (n : Fin 4) (f : SpdifIn), s.phase = .running → spdiPs n s = 4 → s.on (F.SPDI_STAT_NA n) = false →
    (subAudio f.a / 256 ≠ 0xF872 ∨ subAudio f.b / 256 ≠ 0x4E1F) → subC f.a = false → subC f.b = false → (s.spdi n).lost = false →
    (s.xing (32 + n)).buf.length + (s.xing (32 + n)).inbox.length < 128 →
    Completes (exec (.spdifFrame n f) s) (fun t =>
      (t.xing (32 + n)).inbox = (s.xing (32 + n)).inbox ++ [[subframe f.a (s.spdi n).prevA, subframe f.b (s.spdi n).prevB]] ∧
      t.fld (F.SPDI_CNT1_PAR_ERR n) = min (2 ^ (F.SPDI_CNT1_PAR_ERR n).width - 1)
        (s.fld (F.SPDI_CNT1_PAR_ERR n) + ((subParFails f.a).toNat + (subParFails f.b).toNat)))) ∧
  (∀ n : Fin 4, s.phase = .running → (spdiPs n s = 4 ∨ spdiPs n s = 5) → (s.spdi n).lost = false → Completes (exec (.spdifClockLoss n false) s) (fun t =>
      spdiPs n t = 7 ∧ (t.spdi n).lost = true ∧ Counted s t (F.SPDI_CNT2_LOSS_CNT n) ∧ t.fld (F.pgInt (Pg.spdi n) 1) = 1 ∧
      Reported s t 0x2582 n 0)) ∧
  (∀ n : Fin 4, s.phase = .running → (spdiPs n s = 2 ∨ spdiPs n s = 3) → (s.spdi n).lost = false → Completes (exec (.spdifClockLoss n false) s) (fun t =>
      spdiPs n t = 1 ∧ t.fld (F.SPDI_STAT_RATE n) = 15 ∧ Counted s t (F.SPDI_CNT2_LOSS_CNT n))) ∧
  (∀ n : Fin 4, s.ports = true → 7 ≤ spdiPs n s → spdiPs n s ≤ 9 → Completes (exec (.spdifRestart n) s) (fun t =>
      spdiPs n t = 1 ∧ t.fld (F.SPDI_STAT_RATE n) = 15 ∧ t.xing (32 + n) = {} ∧ (t.spdi n).goodRun = 0))

/-- The commands of rate conversion and of the spine complete (R227, R228, R236, R249). -/
def Obligations.ConversionCommandsComplete : Prop := ∀ s : State,
  (∀ (k : Fin 36) (ratio : Fin 8388608) (err : Int), s.phase = .running → (s.xing k).kind = 5 → (s.xing k).lstate = 1 → s.tick % 64 = 0 →
    err.natAbs ≤ 16 → Completes (exec (.ratioUpdate k ratio err) s) (fun t =>
      (t.xing k).num = ratioEstimate k ratio s ∧ (t.xing k).den = 2 ^ 22 ∧ (t.xing k).err = err ∧
      (t.xing k).lstate = (if 15 ≤ (s.xing k).goodRun then 2 else 1) ∧
      (t.xing k).goodRun = (if 15 ≤ (s.xing k).goodRun then 0 else (s.xing k).goodRun + 1))) ∧
  (∀ (k : Fin 36) (ratio : Fin 8388608) (err : Int), s.phase = .running → (s.xing k).kind = 5 → (s.xing k).lstate = 2 → s.tick % 64 = 0 →
    128 < err.natAbs → 1 ≤ (s.xing k).offRun → Completes (exec (.ratioUpdate k ratio err) s) (fun t =>
      (t.xing k).num = ratioEstimate k ratio s ∧ (t.xing k).lstate = 1 ∧ (t.xing k).offRun = 0 ∧ Counted s t F.SRC_CNT2_UNLOCK_CNT ∧
      t.fld (F.pgInt Pg.src 0) = 1)) ∧
  (∀ (int : Bool) (mac : Fin 9) (chan : Fin 1024) (id : Fin 8192), s.phase = .running →
    (if int then s.srcc.engI else s.srcc.engA).bad = [] → (if int then s.srcc.engI else s.srcc.engA).faulted = false →
    Completes (exec (.srcResidue int mac chan id) s) (fun t =>
      (if int then t.srcc.engI else t.srcc.engA).bad = [mac.val] ∧ (if int then t.srcc.engI else t.srcc.engA).faulted = false ∧
      (if int then t.srcc.engA = s.srcc.engA else t.srcc.engI = s.srcc.engI) ∧
      (id.val < 0x1000 → t.srcNext id = addTag (s.src id) tSUB) ∧ Counted s t F.SRC_CNT1_RES_CNT ∧
      Reported s t 0x55C1 (chan + (if int then 0x8000 else 0)) 1)) ∧
  (∀ (int : Bool) (mac m : Fin 9) (chan : Fin 1024) (id : Fin 8192), s.phase = .running → m ≠ mac →
    (if int then s.srcc.engI else s.srcc.engA).bad = [m.val] → (if int then s.srcc.engI else s.srcc.engA).faulted = false →
    Completes (exec (.srcResidue int mac chan id) s) (fun t =>
      (if int then t.srcc.engI else t.srcc.engA).faulted = true ∧ srcPageState t = 4 ∧
      Reported s t 0x55C1 (chan + (if int then 0x8000 else 0)) 4)) ∧
  (s.ports = true → spnPageState s = 3 → Completes (exec .spnRestore s) (fun t =>
      t.testOf 0x18 ((spnOut s).headD 0) = some ⟨0x18, (spnOut s).headD 0, 0, s.tick + 1024⟩ ∧ { t with tests := s.tests } = s))

/-- The commands of the mixer complete (R253-R259). -/
def Obligations.MixerCommandsComplete : Prop :=
  (∀ (s : State) (cyc : Fin 5120) (lane : Fin 384) (bus : Fin 192) (data : Word), s.ports = true →
    Completes (exec (.crosspointWrite cyc lane bus data) s) (fun t =>
      SMap.get (fun _ => 0) t.mix.xp (xpIdx lane bus) = data ∧ SMap.get (fun _ => false) t.mix.bad (xpIdx lane bus) = false ∧
      (glideOn (xpIdx lane bus) s = none → ∀ j, j ≠ xpIdx lane bus → SMap.get (fun _ => 0) t.mix.xp j = SMap.get (fun _ => 0) s.mix.xp j))) ∧
  (∀ (s : State) (cyc : Fin 5120) (n : Fin 256), s.ports = true →
    s.fld (F.MIX_GL_XP_LANE n) ≤ 383 → s.fld (F.MIX_GL_XP_BUS n) ≤ 191 → s.fld (F.MIX_GL_TIME_STAGED n) = 0 →
    glideBusy n s = false → glideOn (xpIdx (s.fld (F.MIX_GL_XP_LANE n)) (s.fld (F.MIX_GL_XP_BUS n))) s = none →
    Completes (exec (.glideGo cyc n) s) (fun t => t.fld (F.MIX_GL_CTRL_ACTIVE n) = 1 ∧
      t.glideOf n = some ⟨xpIdx (s.fld (F.MIX_GL_XP_LANE n)) (s.fld (F.MIX_GL_XP_BUS n)),
        (SMap.get (fun _ => (0 : Word)) s.mix.xp (xpIdx (s.fld (F.MIX_GL_XP_LANE n)) (s.fld (F.MIX_GL_XP_BUS n)))).toInt,
        s.int (F.MIX_GL_TGT_TARGET n), s.fld (F.MIX_GL_TIME_TIME n), s.tick⟩)) ∧
  (∀ (s : State) (cyc : Fin 5120) (n : Fin 256), s.ports = true → glideBusy n s = true →
    Completes (exec (.glideStop cyc n) s) (fun t => t.glideOf n = none ∧ glideBusy n t = false ∧ t.fld (F.MIX_GL_CTRL_ACTIVE n) = 0)) ∧
  (∀ (s : State) (n : Fin 256) (g : Glide), s.phase = .running → s.glideOf n = some g → g.t0 + max 1 g.time < s.tick →
    Completes (exec (.glideDone n) s) (fun t => t.glideOf n = none ∧ t.fld (F.pgInt Pg.mix 3) = 1)) ∧
  (∀ (s : State) (cyc : Fin 5120) (b : Fin 192), s.ports = true →
    Completes (exec (.busMute cyc b) s) (fun t => t.fld (F.MIX_BUS_MUTE b) = 1 ∧
      if mixRank b (s.land cyc) ≠ 0 ∧ mixFirst (mixRank b (s.land cyc)) s ≤ max s.cyc cyc then (t.bus b).late = some true else (t.bus b).w.up = false)) ∧
  (∀ (s : State) (cyc : Fin 5120) (b : Fin 192), s.ports = true →
    Completes (exec (.busUnmute cyc b) s) (fun t => t.fld (F.MIX_BUS_MUTE b) = 0 ∧
      if mixRank b (s.land cyc) ≠ 0 ∧ mixFirst (mixRank b (s.land cyc)) s ≤ max s.cyc cyc then (t.bus b).late = some false else (t.bus b).w.up = true)) ∧
  (∀ (s : State) (mac : Fin 17) (cyc : Fin 5120), s.phase = .running →
    Completes (exec (.mixResidue mac cyc) s) (fun t =>
      t.fld F.MIX_CNT_RES_CNT = min (2 ^ F.MIX_CNT_RES_CNT.width - 1) (s.fld F.MIX_CNT_RES_CNT + 1) ∧
      (s.mix.eng.faulted = false → s.mix.eng.bad = [] → t.mix.eng.bad = [mac.val] ∧ t.fld (F.pgInt Pg.mix 1) = 1))) ∧
  (∀ s : State, s.ports = true → s.mix.eng.bad ≠ [] →
    Completes (exec .mixRestore s) (fun t => t.testOf 0x19 0 = some ⟨0x19, 0, 0, s.tick + 1024⟩))

/-- The commands of the effects engines complete (R141, R270, R278, R283, R284, R286-R290). -/
def Obligations.EffectsCommandsComplete : Prop := ∀ s : State,
  (∀ (cyc : Fin 5120) (n : Fin 256) (d : Fin 1073741824), s.ports = true → Completes (exec (.tapDelayWrite cyc n d) s) (fun t =>
      t.fld (F.TAP_D_D n) = d ∧
      t.tapSt n = {
        frm := (tapD (s.tapSt n) s.tick).1, den := (tapD (s.tapSt n) s.tick).2, goal := d.val,
        time := if s.fld (F.TAP_MOD_GLIDE n) = 0 then 1 else s.fld (F.TAP_MOD_GLIDE n),
        t0 := if max s.cyc cyc < (SMap.get (fun _ => ({} : FxPlace)) s.fx.place (0x600 + s.fld (F.TAP_CFG_LINE n))).start
              then s.tick - 1 else s.tick })) ∧
  (∀ n : Fin 256, s.phase = .running → (s.tapSt n).t0 + (s.tapSt n).time ≤ s.tick → Completes (exec (.tapGlideEnd n) s) (fun t =>
      (∀ m, tapD (t.tapSt n) m = (((s.tapSt n).goal : Int), 1)) ∧ t.regs = s.regs)) ∧
  (∀ (first : Fin 128) (n : Fin 256), s.ports = true → first.val + n.val ≤ 128 → 0 < n.val → s.fx.cur = none → s.fx.prep = [] →
    (∀ g, g < 128 → granuleLocked g s = false) → Completes (exec (.convPrep first n) s) (fun t =>
      t.fld F.CV_PSTAT_ERR = 0 ∧ t.fx.cur = some (first.val, s.tick + 32) ∧ t.fld F.CV_PSTAT_BUSY = 1 ∧ t.fld F.CV_PSTAT_CUR = first ∧
      ∀ g, g ∈ t.fx.prep ↔ first.val < g ∧ g < first.val + n.val)) ∧
  (∀ (first : Fin 128) (n : Fin 256), s.ports = true → 128 < first.val + n.val → Completes (exec (.convPrep first n) s) (fun t =>
      t.fld F.CV_PSTAT_ERR = 1 ∧ t.fx = s.fx)) ∧
  (∀ (g : Fin 128) (due : Nat), s.phase = .running → s.fx.cur = some (g.val, due) → due ≤ s.tick → s.fx.prep = [] →
    Completes (exec (.granuleReady g) s) (fun t =>
      granuleReady g t = true ∧ t.fx.cur = none ∧ t.fld F.CV_PSTAT_BUSY = 0 ∧ t.fld (F.pgInt Pg.fx 3) = 1)) ∧
  (∀ (cyc : Fin 5120) (w : Fin 524288) (data : Word), s.ports = true → s.fld F.FX_WIN_BANK = 0 → granuleLocked (w.val / 0x1000) s = false →
    Completes (exec (.effectPoolWrite cyc w data) s) (fun t =>
      poolWord w t = data ∧ granuleReady (w.val / 0x1000) t = false ∧
      ∀ i, i ≠ w.val → SMap.get (fun _ => (0 : Word)) t.fx.pool i = SMap.get (fun _ => 0) s.fx.pool i)) ∧
  (∀ (cyc : Fin 5120) (w : Fin 524288) (data : Word), s.ports = true → s.fld F.FX_WIN_BANK = 1 → 4 * w.val < 0x20000 → 4 * w.val % 0x20 < 0x14 →
    sectLocked (4 * w.val / 0x40) (4 * w.val / 0x20 % 2) s = false → Completes (exec (.effectPoolWrite cyc w data) s) (fun t =>
      poolWord (2 ^ 19 + w) t = data ∧ t.regs = s.regs)) ∧
  (∀ (cyc : Fin 5120) (w : Fin 524288) (data : Word), s.ports = true → s.fld F.FX_WIN_BANK = 0 → granuleLocked (w.val / 0x1000) s = true →
    Completes (exec (.effectPoolWrite cyc w data) s) (fun t =>
      t.fx = s.fx ∧ Counted s t F.FX_CNT2_BANK_WR_CNT ∧ t.fld (F.pgInt Pg.fx 2) = 1 ∧ Reported s t 0x8685 0x30 0)) ∧
  (∀ (e : Fin 6) (u : Fin 9) (cyc : Fin 5120), s.phase = .running → (s.fxEng e).bad = [] → (s.fxEng e).faulted = false →
    Completes (exec (.fxResidue e u cyc) s) (fun t =>
      (t.fxEng e).bad = [u.val] ∧ (t.fxEng e).faulted = false ∧ Counted s t F.FX_CNT_RES_CNT ∧ t.fld (F.pgInt Pg.fx 0) = 1 ∧
      Reported s t 0x5681 (16 * e + u) 1)) ∧
  (∀ (c : Fin 32) (n : Fin 1024) (u : Fin 2), s.phase = .running → (s.fxEng 4).bad = [] → (s.fxEng 4).faulted = false →
    Completes (exec (.partitionResidue c n u) s) (fun t =>
      (t.conv c).subLeft = max (s.conv c).subLeft n ∧ (t.fxEng 4).bad = [u.val] ∧ Counted s t F.FX_CNT_RES_CNT ∧
      Reported s t 0x5681 (64 + u) 1)) ∧
  (∀ e : Fin 6, s.ports = true → (s.fxEng e).bad ≠ [] → Completes (exec (.fxRestore e) s) (fun t =>
      t.testOf 0x1A e = some ⟨0x1A, e, 0, s.tick + 1024⟩ ∧ { t with tests := s.tests } = s)) ∧
  (∀ n : Fin 1024, s.phase = .running → n.val < 128 → (s.bqXf n).on = true → rampRests (s.bqXf n).xf = true →
    Completes (exec (.swapCrossfadeEnd 1 n) s) (fun t =>
      t.bqXf n = {} ∧ t.fld (F.BQ_STAT_XFADE n) = 0 ∧ (s.press.banksFrozen = false → t.fld (F.BQ_STAT_FROZEN n) = 0))) ∧
  (∀ c : Fin 1024, s.phase = .running → c.val < 32 → (s.conv c).xf.on = true → rampRests (s.conv c).xf.xf = true →
    Completes (exec (.swapCrossfadeEnd 2 c) s) (fun t =>
      (t.conv c).xf = {} ∧ t.fld (F.CV_STAT_FX_XFADE c) = 0 ∧ (s.press.banksFrozen = false → t.fld (F.CV_STAT_FX_FROZEN c) = 0))) ∧
  (∀ h : Fin 1024, s.phase = .running → h.val < 64 → (s.shaper h).xf.on = true → rampRests (s.shaper h).xf.xf = true →
    Completes (exec (.swapCrossfadeEnd 3 h) s) (fun t => t.shaper h = { s.shaper h with xf := {} }))

/-- The commands of the line and headphone outputs complete (R294, R299, R301-R305, R310, R312, R324). -/
def Obligations.OutputCommandsComplete : Prop := ∀ s : State,
  (∀ (core : Fin 40) (o : Nat), s.phase = .running → core.val = 2 * o → (s.och o).aBad = false → (s.och o).bBad = false →
    s.fld (F.OUT_CFG_CORE_FORCE o) ≠ 1 → s.fld (F.OUT_CFG_CORE_FORCE o) ≠ 2 → Completes (exec (.dacCoreFail core) s) (fun t =>
      t.och o = { s.och o with aBad := true, wA := 0, wB := 128, testBad := (s.och o).testBad || (s.testOf 0x1B o).isSome } ∧
      Noted s t 1 (s.tick + 1) { act := (1, o, 0) })) ∧
  (∀ (core : Fin 40) (o : Nat), s.phase = .running → core.val = 2 * o + 1 → (s.och o).aBad = false → (s.och o).bBad = false →
    s.fld (F.OUT_CFG_CORE_FORCE o) ≠ 1 → s.fld (F.OUT_CFG_CORE_FORCE o) ≠ 2 → Completes (exec (.dacCoreFail core) s) (fun t =>
      t.och o = { s.och o with bBad := true, wA := 128, wB := 0, testBad := (s.och o).testBad || (s.testOf 0x1B o).isSome } ∧
      Noted s t 1 (s.tick + 1) { act := (1, o, 1) })) ∧
  (∀ (core : Fin 40) (o : Nat), s.phase = .running → core.val = 2 * o → (s.och o).aBad = false → (s.och o).bBad = true →
    (s.och o).dead = false → Completes (exec (.dacCoreFail core) s) (fun t =>
      (t.och o).aBad = true ∧ (t.och o).dead = true ∧ (t.och o).switch = false ∧ (t.och o).phase = 0 ∧ t.testOf 0x1B o = none ∧
      (s.linkHolds 0 = true → (t.dir 1).wait = (s.dir 1).wait ++
        [(s.tick + 1, .note { act := (1, o, 0) }), (s.tick + 1, .note { act := (3, o, 0x66C4) })]))) ∧
  (∀ o : Fin 20, s.phase = .running → (s.och o).aBad = false → (s.och o).bBad = false → Completes (exec (.coreDisagree o) s) (fun t =>
      (t.och o).dead = ((s.och o).dead || s.dieFld 0 (F.OUT_CFG_DIS_ACT o) != 0) ∧
      (t.och o).switch = ((s.och o).switch && s.dieFld 0 (F.OUT_CFG_DIS_ACT o) == 0) ∧
      Noted s t 1 (s.tick + 1) { act := (2, o.val, s.dieFld 0 (F.OUT_CFG_DIS_ACT o)) } ∧ t.regs = s.regs)) ∧
  (∀ o : Fin 20, s.phase = .running → (s.och o).dead = false → Completes (exec (.outputStageFail o) s) (fun t =>
      (t.och o).dead = true ∧ (t.och o).switch = false ∧ (t.och o).phase = 0 ∧
      Noted s t 1 (s.tick + 1) { act := (3, o.val, 0x66C5) })) ∧
  (∀ o : Fin 20, s.phase = .running → 1920 ≤ (s.och o).ilimRun → outFaulted (s.och o) = false →
    Completes (exec (.outputIlimTrip o) s) (fun t =>
      (t.och o).fault = 0x66C8 ∧ (t.och o).trip = rampGo false (8 * s.fld (F.OUT_CTRL_RAMP o)) (s.och o).trip ∧
      t.fld (F.pgInt Pg.out 4) = 1 ∧ Reported s t 0x66C8 o 4)) ∧
  (∀ o : Fin 20, s.phase = .running → 19200 ≤ (s.och o).dcRun → outFaulted (s.och o) = false →
    Completes (exec (.outputDcTrip o) s) (fun t =>
      (t.och o).fault = 0x66C7 ∧ (t.och o).trip = rampGo false (8 * s.fld (F.OUT_CTRL_RAMP o)) (s.och o).trip ∧
      t.fld (F.OUT_STAT_DC_TRIP o) = 1 ∧ t.fld (F.pgInt Pg.out 3) = 1 ∧ Reported s t 0x66C7 o 4)) ∧
  (∀ o : Fin 20, s.ports = true → Completes (exec (.outputMute o) s) (fun t =>
      t.fld (F.OUT_CTRL_MUTE o) = 1 ∧ t.out = s.out ∧
      ((outMuteGo o t).och o).mute = rampGo false (8 * s.fld (F.OUT_CTRL_RAMP o)) (s.och o).mute)) ∧
  (∀ o : Fin 20, s.ports = true → Completes (exec (.outputUnmute o) s) (fun t =>
      t.fld (F.OUT_CTRL_MUTE o) = 0 ∧ t.out = s.out ∧
      (outHeld o s = true → ((outMuteGo o t).och o).mute = (s.och o).mute) ∧
      (outHeld o s = false → (s.och o).mute.up = false →
        ((outMuteGo o t).och o).mute = rampGo true (8 * s.fld (F.OUT_CTRL_RAMP o)) (s.och o).mute))) ∧
  (∀ o : Fin 20, s.ports = true → (outState o s = 3 ∨ outState o s = 4) → Completes (exec (.outputRestore o) s) (fun t =>
      t.testOf 0x1B o = some ⟨0x1B, o, 0, s.tick + 1024⟩ ∧ (t.och o).testBad = false ∧
      (outState o s = 4 → (t.och o).switch = false ∧ (t.och o).phase = 0))) ∧
  (∀ o : Fin 20, s.phase = .running → (s.och o).sw = 1 → (s.och o).swDue ≤ s.tick → Completes (exec (.outputPresetSwitch o) s) (fun t =>
      t.och o = { s.och o with preset := (s.och o).swTo.1, level := (s.och o).swTo.2, hist := [], sw := 2,
                               swW := { pos := 0, len := 32, up := true } }))

/-- The commands of jack sense and of the pop ramps complete (R319, R320, R323, R325-R327). -/
def Obligations.JackCommandsComplete : Prop := ∀ s : State,
  (∀ (j : Fin 12) (t0 : Int), s.phase = .running → s.on (F.JK_CFG_EN j) = true → s.fld (F.JK_CFG_DECIDE j) ≠ 0 →
    (s.jk j).start = some t0 → t0 + msCyc (s.fld (F.JK_CFG_DECIDE j)) ≤ ((s.tick * 5120 + s.cyc : Nat) : Int) →
    s.fld (F.JK_STAT_STATE j) = 0 → s.fld (F.JK_STAT_AMBIG j) = 0 → Completes (exec (.jackAmbig j) s) (fun t =>
      t.fld (F.JK_STAT_AMBIG j) = 1 ∧ t.fld (F.JK_STAT_STATE j) = 0 ∧ t.fld (F.pgInt Pg.jack 3) = 1 ∧ Counted s t F.JACK_CNT_EV_CNT ∧
      t.jack.events = s.jack.events ++ [⟨j, (s.jk j).lastT, 4, 0, BitVec.ofNat 32 (s.fld (F.JK_LVL_LEVEL j))⟩])) ∧
  (∀ (cyc : Fin 5120) (j : Fin 12), s.ports = true → max s.cyc cyc < 2048 →
      Completes (exec (.jackForceRemoved cyc j) s) (fun t => (t.jk j).force = some 1 ∧ t.regs = s.regs) ∧
      Completes (exec (.jackForceInserted cyc j) s) (fun t => (t.jk j).force = some 2 ∧ t.regs = s.regs) ∧
      Completes (exec (.jackForceRelease cyc j) s) (fun t => (t.jk j).force = some 3 ∧ t.regs = s.regs)) ∧
  (∀ (cyc : Fin 5120) (j : Fin 12), s.ports = true → 2048 ≤ max s.cyc cyc → s.on (F.JK_CFG_EN j) = true →
      Completes (exec (.jackForceRemoved cyc j) s) (fun t => t.fld (F.JK_STAT_STATE j) = 1 ∧ t.fld (F.JK_STAT_FORCED j) = 1) ∧
      Completes (exec (.jackForceInserted cyc j) s) (fun t => t.fld (F.JK_STAT_STATE j) = 2 ∧ t.fld (F.JK_STAT_FORCED j) = 1) ∧
      Completes (exec (.jackForceRelease cyc j) s) (fun t => t.fld (F.JK_STAT_STATE j) = 0 ∧ t.fld (F.JK_STAT_FORCED j) = 0)) ∧
  (∀ (o : Fin 28) (d : Nat), s.phase = .running → (s.bind o).wait = some d → d ≤ s.tick → jackPremute o s = false →
    Completes (exec (.plugWaitEnd o) s) (fun t =>
      t.bind o = { s.bind o with wait := none, w := rampGo true (8 * s.fld F.JACK_POP_CFG_PLUG_RAMP) (s.bind o).w })) ∧
  (∀ o : Fin 20, s.phase = .running → (s.och o).phase = 1 → (s.och o).due ≤ s.tick → Completes (exec (.powerUpRampStep o) s) (fun t =>
      t.och o = { s.och o with phase := 2, switch := true, due := s.tick + 192 })) ∧
  (∀ o : Fin 20, s.phase = .running → (s.och o).phase = 2 → (s.och o).due ≤ s.tick → Completes (exec (.powerUpRampStep o) s) (fun t =>
      t.och o = { s.och o with phase := 3, pop := { pos := 0, len := 64 * s.fld F.JACK_POP_CFG_PU_RAMP, up := true } })) ∧
  (∀ o : Fin 20, s.phase = .running → (s.och o).phase = 3 → rampRests (s.och o).pop = true →
    Completes (exec (.powerUpRampStep o) s) (fun t => t.och o = { s.och o with phase := 4 })) ∧
  (∀ o : Fin 20, s.phase = .running → (s.och o).phase = 5 → rampRests (s.och o).pop = true →
    Completes (exec (.powerDownRampStep o) s) (fun t => t.och o = { s.och o with phase := 6, pop := {}, due := s.tick + 192 })) ∧
  (∀ o : Fin 20, s.phase = .running → (s.och o).phase = 6 → (s.och o).due ≤ s.tick → outWants o s = false →
    Completes (exec (.powerDownRampStep o) s) (fun t => (t.och o).phase = 0 ∧ (t.och o).switch = false))

/-- The commands of the control-voltage outputs complete (R335, R336, R338, R341). -/
def Obligations.ControlVoltageCommandsComplete : Prop := ∀ s : State,
  (∀ (k : Fin 4) (start : Nat), s.ports = true → start = s.fld (F.TMR_START_HI_START_HI k) * 2 ^ 32 + s.fld (F.TMR_START_LO_START_LO k) →
    Completes (exec (.timerArm k) s) (fun t =>
      t.fld (F.TMR_CTRL_ARMED k) = 1 ∧ t.fld (F.TMR_CTRL_RUNNING k) = 0 ∧
      (if s.tick < start then t.fld (F.TMR_CTRL_LATE_CNT k) = s.fld (F.TMR_CTRL_LATE_CNT k)
       else Counted s t (F.TMR_CTRL_LATE_CNT k) ∧ t.fld (F.pgInt Pg.cv 5) = 1) ∧
      t.tmr k = { period := s.fld (F.TMR_PERIOD_PERIOD k),
                  next := if s.fld (F.TMR_PERIOD_PERIOD k) = 0 then none else some (max start (s.tick + 1)) })) ∧
  (∀ k : Fin 4, s.ports = true → Completes (exec (.timerStop k) s) (fun t =>
      t.fld (F.TMR_CTRL_ARMED k) = 0 ∧ t.fld (F.TMR_CTRL_RUNNING k) = 0 ∧ t.tmr k = {})) ∧
  (∀ (k : Fin 4) (d : Nat), s.phase = .running → (s.tmr k).next = some d → d ≤ s.tick → Completes (exec (.timerFire k) s) (fun t =>
      t.fld (F.TMR_CTRL_RUNNING k) = 1 ∧ (t.tmr k).next = some (d + (s.tmr k).period) ∧
      ∀ n : Fin 16, cvWaits n s = true → s.fld (F.CV_CFG_TIMER n) = k → (s.cvch n).fault = 0 →
        (∀ r : Nat, (s.cvch n).rep = r + 1 →
          (t.cvch n).rep = r ∧ (t.cvch n).code = (s.cvch n).code ∧ t.fld (F.CV_STAT_UNDER n) = 0) ∧
        ((s.cvch n).rep = 0 → (s.cvch n).avail = false →
          (t.cvch n).code = (s.cvch n).code ∧ t.fld (F.CV_STAT_UNDER n) = 1 ∧ Counted s t (F.CV_CNT2_UNDERRUN n) ∧
          t.fld (F.pgInt Pg.cv 2) = 1))) ∧
  (∀ n : Fin 16, s.phase = .running → 1920 ≤ (s.cvch n).ilimRun → (s.cvch n).fault = 0 → Completes (exec (.cvIlimTrip n) s) (fun t =>
      t.cvch n = { s.cvch n with fault := 0x6742, v := 0, dac := 0 } ∧ t.fld (F.pgInt Pg.cv 1) = 1 ∧ Reported s t 0x6742 n 4)) ∧
  (s.phase = .running → Completes (exec .cvVrefFail s) (fun t =>
      t.cv = { s.cv with refBad := true, refAt := s.tick } ∧ Noted s t 1 (s.tick + 1) { act := (4, 0, 0) })) ∧
  (s.phase = .running → s.cv.refAt + 1920 ≤ s.tick → Completes (exec .cvVrefRecover s) (fun t =>
      if s.cv.refBad then t.cv = { s.cv with refBad := false } ∧ Noted s t 1 (s.tick + 1) { act := (4, 1, 0) }
      else t = s)) ∧
  (∀ d : Nat, s.phase = .running → s.cv.refHold = some d → d ≤ s.tick → Completes (exec .cvRefHoldEnd s) (fun t =>
      t = { s with cv := { s.cv with refHold := none } })) ∧
  (∀ n : Fin 16, s.ports = true → cvState n s = 4 → Completes (exec (.cvRestore n) s) (fun t =>
      t.testOf 0x1D n = some ⟨0x1D, n, 0, s.tick + 1024⟩ ∧
      t.cvch n = { s.cvch n with testBad := false, rbRun := 0 }))

/-- The commands of the speaker channels complete (R350-R354, R356-R360, R363, R366, R369-R371). `l` is the channel that controls
channel `n`. -/
def Obligations.SpeakerCommandsComplete : Prop := ∀ (s : State) (n : Fin 8) (l : Nat), spkLead n s = l →
  (s.phase = .running → (s.sch l).cs = 1 → spkMayStart l s = true → Completes (exec (.spkStart n) s) (fun t =>
      if s.fld (F.SPK_CFG_LID l) = 0 then
        (t.sch l).cs = 4 ∧ (t.sch l).due = s.tick + 1920 ∧ (t.sch l).pop = {} ∧ (t.sch l).z = 65536 * spkZLo l s
      else t.sch l = { s.sch l with cs := 2, due := s.tick + 192 })) ∧
  (∀ term : Bool, s.phase = .running → (s.sch l).cs = 2 → (s.sch l).due ≤ s.tick → Completes (exec (.spkPrecheckDone n 0 term) s) (fun t =>
      if (s.sch l).needId = true ∧ s.fld (F.SPK_CFG_LID l) = 2 then t.sch l = { s.sch l with cs := 3, due := s.tick + 6528 }
      else (t.sch l).cs = 4 ∧ (t.sch l).due = s.tick + 1920)) ∧
  (∀ term : Bool, s.phase = .running → (s.sch l).cs = 2 → (s.sch l).due ≤ s.tick → Completes (exec (.spkPrecheckDone n 4 term) s) (fun t =>
      (t.sch l).openLoop = true ∧ ((t.sch l).cs = 3 ∨ (t.sch l).cs = 4))) ∧
  (∀ (k : Fin 5) (term : Bool), s.phase = .running → (s.sch l).cs = 2 → (s.sch l).due ≤ s.tick → 1 ≤ k.val → k.val ≤ 3 →
    (s.sch l).rest = none → (s.sch l).retries < s.dieFld 1 (F.SPK_HB_I_HB_RETRY l) → Completes (exec (.spkPrecheckDone n k term) s) (fun t =>
      (t.sch l).cs = 6 ∧ (t.sch l).due = s.tick + 48000 ∧ (t.sch l).short = k ∧ (t.sch l).term = term ∧
      Noted s t 3 s.tick { act := (5, l, 0x6780 + k.val) })) ∧
  (∀ rdc : Nat, s.phase = .running → (s.sch l).cs = 3 → (s.sch l).due ≤ s.tick →
    (if spkPair l s then 2 * rdc else rdc) < 50 → (s.sch l).rest = none → (s.sch l).retries < s.dieFld 1 (F.SPK_HB_I_HB_RETRY l) →
    Completes (exec (.spkIdentDone n rdc) s) (fun t =>
      (t.sch l).cs = 6 ∧ (t.sch l).due = s.tick + 48000 ∧ (t.sch l).short = 1 ∧ (t.sch l).code = 0x6781 ∧
      t.fld (F.pgInt (Pg.spk l) 6) = 1)) ∧
  (∀ rdc : Nat, s.phase = .running → (s.sch l).cs = 3 → (s.sch l).due ≤ s.tick →
    (if spkPair l s then 2 * rdc else rdc) < 150 → 50 ≤ (if spkPair l s then 2 * rdc else rdc) → Completes (exec (.spkIdentDone n rdc) s)
    (fun t =>
      (t.sch l).cs = 10 ∧ (t.sch l).code = 0x6787 ∧ (t.sch l).z = (s.sch l).z ∧ t.fld (F.pgInt (Pg.spk l) 6) = 1 ∧
      Noted s t 3 s.tick { act := (6, l, 0x6787) })) ∧
  (∀ rdc : Nat, s.phase = .running → (s.sch l).cs = 3 → (s.sch l).due ≤ s.tick →
    6400 < (if spkPair l s then 2 * rdc else rdc) → Completes (exec (.spkIdentDone n rdc) s)
    (fun t =>
      (t.sch l).cs = 10 ∧ (t.sch l).code = 0x6786 ∧ (t.sch l).z = (s.sch l).z ∧ t.fld (F.pgInt (Pg.spk l) 6) = 1 ∧
      Noted s t 3 s.tick { act := (6, l, 0x6786) })) ∧
  (∀ rdc : Nat, s.phase = .running → (s.sch l).cs = 3 → (s.sch l).due ≤ s.tick →
    150 ≤ (if spkPair l s then 2 * rdc else rdc) → (if spkPair l s then 2 * rdc else rdc) ≤ 6400 →
    Completes (exec (.spkIdentDone n rdc) s) (fun t =>
      (t.sch l).cs = 4 ∧ (t.sch l).due = s.tick + 1920 ∧ (t.sch l).needId = false ∧ t.fld (F.pgInt (Pg.spk l) 6) = 1 ∧
      ((s.fld (F.SPK_CFG_LID l) = 2 → (t.sch l).z = (t.sch l).rid)) ∧
      (t.sch l).rid = if spkZHi l s ≤ spkZLo l s then 65536 * (spkZLo l s : Int)
        else clampInt (65536 * spkZLo l s) (65536 * spkZHi l s) (65536 * rdc))) ∧
  (s.phase = .running → (s.sch l).cs = 4 → (s.sch l).stop = 0 → (s.sch l).rest = none → rampFull (s.sch l).pop = true →
    Completes (exec (.spkStartDone n) s) (fun t => t.sch l = { s.sch l with cs := 5, runSince := s.tick })) ∧
  (∀ (k : Fin 4) (term : Bool), s.phase = .running → spkSwitching (s.sch l) = true → 8 ≤ (s.sch l).lim → (s.sch l).rest = none →
    Completes (exec (.spkShutdown n k term) s) (fun t =>
      (t.sch l).cs = (if s.dieFld 1 (F.SPK_HB_I_HB_RETRY l) ≤ (s.sch l).retries then 7 else 6) ∧ (t.sch l).due = s.tick + 48000 ∧
      (t.sch l).short = max 1 k.val ∧ (t.sch l).term = term ∧ (t.sch l).code = 0x6780 + max 1 k.val)) ∧
  (s.phase = .running → (s.sch l).cs = 6 → (s.sch l).due ≤ s.tick → spkMayStart l s = true → Completes (exec (.spkRetry n) s) (fun t =>
      t.sch l = { s.sch l with cs := 2, due := s.tick + 192, retrying := true, rw := 0 })) ∧
  (s.phase = .running → (s.sch l).cs = 5 → (s.sch l).runSince + 1920000 ≤ s.tick → Completes (exec (.spkRetryCountReset n) s) (fun t =>
      t.sch l = { s.sch l with retries := 0, retrying := false })) ∧
  (s.ports = true → (s.sch l).cs = 7 → Completes (exec (.spkClear n) s) (fun t =>
      t.sch l = { s.sch l with cs := if s.on (F.SPK_CFG_EN l) then 1 else 0, retries := 0, retrying := false, needId := true,
                               short := 0, rw := 3072 })) ∧
  (∀ (e : Nat) (quiet : Bool), s.phase = .running → (s.sch l).cs = 5 → Completes (exec (.loadModelUpdate n e quiet) s) (fun t =>
      (t.sch l).z =
        if spkZHi l s ≤ spkZLo l s then 65536 * (spkZLo l s : Int)
        else clampInt (65536 * spkZLo l s) (65536 * spkZHi l s)
          (if quiet then (s.sch l).z else (s.sch l).z + roundRat (65536 * (e : Int) - (s.sch l).z) 64))) ∧
  (∀ code : Fin 256, s.phase = .running → Completes (exec (.spkThermal n code) s) (fun t =>
      (t.sch l).temp = code ∧ (t.sch l).hot = decide (64 + spkTD l s < code) ∧
      ((s.sch l).cs = 5 → (s.sch l).stopTo ≠ 8 → 79 + spkTD l s ≤ code → (t.sch l).stop = 2 ∧ (t.sch l).stopTo = 8))) ∧
  (∀ c : Nat, s.phase = .running → (s.sch l).cool = some c → c + 192000 ≤ s.tick → (s.sch l).cs = 8 → spkMayStart l s = true →
    Completes (exec (.spkThermalReturn n) s) (fun t => (t.sch l).cs = 4 ∧ (t.sch l).rw = 0 ∧ (t.sch l).due = s.tick + 1920)) ∧
  (s.phase = .running → (s.sch l).openLoop = false → Completes (exec (.spkSenseFail n) s) (fun t =>
      t.sch l = { s.sch l with openLoop := true } ∧
      Noted s t 3 s.tick { act := (6, l, 0x6788) })) ∧
  (s.phase = .running → spkSwitching (s.sch l) = true → Completes (exec (.spkStageFail n) s) (fun t =>
      (t.sch l).cs = 10 ∧ (t.sch l).code = 0x6784 ∧
      Noted s t 3 s.tick { act := (6, l, 0x6784) })) ∧
  (s.phase = .running → 9600 ≤ (s.sch l).dcRun → (s.sch l).dcTrip = false → Completes (exec (.spkDcTrip n) s) (fun t =>
      (t.sch l).dcTrip = true ∧ (t.sch l).code = 0x678A ∧
      Noted s t 3 s.tick { act := (6, l, 0x678A) } ∧
      ((s.sch l).cs = 5 → (t.sch l).stop = 2 ∧ (t.sch l).stopTo = 10))) ∧
  (s.ports = true → Completes (exec (.spkMute n) s) (fun t =>
      t.fld (F.SPK_CTRL_MUTE n) = 1 ∧ t.spk = s.spk ∧
      (spkMuteGo n t).sch n = { s.sch n with mute := rampGo false (8 * t.fld (F.SPK_CTRL_RAMP n)) (s.sch n).mute })) ∧
  (s.ports = true → Completes (exec (.spkUnmute n) s) (fun t =>
      t.fld (F.SPK_CTRL_MUTE n) = 0 ∧ t.spk = s.spk ∧
      ((s.sch n).cs = 5 → rampFull (s.sch n).pop = true → rampFull (s.sch n).jack = true → jackHolds (20 + n) t = false →
        (s.sch n).mute.up = false →
        (spkMuteGo n t).sch n = { s.sch n with mute := rampGo true (8 * t.fld (F.SPK_CTRL_RAMP n)) (s.sch n).mute }))) ∧
  (s.ports = true → (s.sch l).cs = 10 ∨ ((s.sch l).cs = 5 ∧ ((s.sch l).openLoop = true ∨ (s.sch l).rbFault = true)) →
    (s.sch l).rest = none → s.isolated 1 (16 + l) = false → Completes (exec (.spkRestore n) s) (fun t =>
      t.sch l = { s.sch l with cs := 2, due := s.tick + 192, needId := true, rest := some (s.sch l).cs, testBad := false, rbRun := 0,
                               pop := {} })) ∧
  (s.phase = .running → s.clk.tickErr = true → s.on (F.SPK_CFG_CLKMUTE 0) = true → Completes (exec .clockMute s) (fun t =>
      t.clk.tickErr = false ∧ t.spk.cmute = true ∧ t.spk.good = 0 ∧
      (s.spk.cmute = false → Noted s t 3 s.tick { act := (6, 0, 0x278E) }) ∧
      (t.sch n).cs = (if (s.sch n).cs = 4 ∨ (s.sch n).cs = 5 then 9
        else if (s.sch n).cs = 2 ∨ (s.sch n).cs = 3 then spkBackTo (s.sch n) else (s.sch n).cs) ∧
      ((s.sch n).cs = 4 ∨ (s.sch n).cs = 5 → t.fld (F.pgInt (Pg.spk n) 7) = 1))) ∧
  (s.phase = .running → s.clk.tickErr = true → s.on (F.SPK_CFG_CLKMUTE 0) = false → Completes (exec .clockMute s) (fun t =>
      t = { s with clk := { s.clk with tickErr := false } })) ∧
  (s.phase = .running → s.clk.tickErr = false → Completes (exec .clockMute s) (fun t => t = s)) ∧
  (s.phase = .running → s.spk.cmute = true → 128 ≤ s.spk.good → Completes (exec .clockMuteRelease s) (fun t =>
      t.spk.cmute = false ∧
      t.sch n = if (s.sch n).cs ≠ 9 then s.sch n
        else if rampFull (s.sch n).pop && decide ((s.sch n).due ≤ s.tick) then { s.sch n with cs := 5, rw := 0, runSince := s.tick }
        else { s.sch n with cs := 4, rw := 0 })) ∧
  (∀ cyc : Fin 5120, s.phase = .running → spkSwitching (s.sch l) = true → 160 * l ≤ s.tick * 5120 + cyc →
    (s.sch l).limAt ≠ some ((s.tick * 5120 + cyc - 160 * l) / 1280) → Completes (exec (.limitedCycle n cyc) s) (fun t =>
      (t.sch l).limAt = some ((s.tick * 5120 + cyc - 160 * l) / 1280) ∧ Counted s t (F.SPK_CNT1_ILIM_CNT l) ∧
      (t.sch l).lim = if (s.sch l).limAt = some ((s.tick * 5120 + cyc - 160 * l) / 1280 - 1) then (s.sch l).lim + 1 else 1))

/-- The commands of the boost complete (R380, R381, R385, R387-R391). -/
def Obligations.BoostCommandsComplete : Prop := ∀ s : State,
  (s.phase = .running → (s.bst.st = 2 ∨ s.bst.st = 3) → Completes (exec .boostControlCycle s) (fun t =>
      t.bst.r = bstAdvance s.bst.r (bstTargetP s) s.bst.pvin 10 s ∧
      t.bst.st = (if mV (s.bst.pvin + 1000) < bstTargetP s then 3 else s.bst.st) ∧ (t.bst.st = 2 → t.bst.active = 0))) ∧
  (s.phase = .running → s.bst.st ≠ 2 → s.bst.st ≠ 3 → Completes (exec .boostControlCycle s) (fun t =>
      t = { s with bst := { s.bst with r := mV s.bst.pvin - mV 200, active := 0 } })) ∧
  (s.phase = .running → s.bst.st = 3 → 64 ≤ s.bst.lowRun → Completes (exec .boostBypassEntry s) (fun t =>
      t = { s with bst := { s.bst with st := 2, active := 0, lowRun := 0 } })) ∧
  (∀ k : Nat, s.phase = .running → 64 ≤ s.bst.shedRun → ((List.range 4).filter (fun j => s.bst.active / 2 ^ j % 2 == 1)).length = k + 2 →
    Completes (exec .phaseShed s) (fun t => t = { s with bst := { s.bst with active := bstFirst (k + 1) s, shedRun := 0 } })) ∧
  (s.phase = .running → s.bst.st = 0 → s.on F.BST_CFG_EN = true → bstMayRun s = true ∨ s.bst.stopped = false →
    s.isolated 1 24 = false → Completes (exec .boostStart s) (fun t =>
      t = { s with bst := { s.bst with st := 1, stopped := false, due := if bstMayRun s then s.tick + 384 else 0 } })) ∧
  (s.phase = .running → s.bst.st = 1 → s.bst.due ≠ 0 → s.bst.due ≤ s.tick → Completes (exec .boostPrechargeDone s) (fun t =>
      t = { s with bst := { s.bst with st := if s.bst.heldT || s.bst.heldR then 4 else 2, since := s.tick, r := mV s.bst.pvin - mV 200, lowRun := 0 } })) ∧
  (∀ k : Fin 4, s.phase = .running → s.bst.out / 2 ^ k.val % 2 = 0 → Completes (exec (.boostPhaseFail k) s) (fun t =>
      t.bst.out = s.bst.out + 2 ^ k.val ∧ t.bst.active / 2 ^ k.val % 2 = 0 ∧
      (2 ≤ (bstService t).length → t.bst.st = s.bst.st ∧ Noted s t 3 (s.tick + 1) { act := (7, k.val, 0x67C1) }) ∧
      ((bstService t).length < 2 → s.bst.st ≠ 5 → t.bst.st = 5 ∧ t.bst.fault = 0x67C2))) ∧
  (∀ kind : Fin 3, s.phase = .running → s.bst.st ≠ 5 → (kind = 1 → s.bst.st ≠ 1) → (kind = 2 → (bstService s).length < 2) →
    Completes (exec (.boostRailFault kind) s) (fun t =>
      t.bst = { s.bst with st := 5, fault := if kind = 0 then 0x67C3 else if kind = 1 then 0x67C4 else 0x67C2, active := 0,
                           testBad := s.bst.testBad || (s.testOf 0x1F 0).isSome } ∧
      Noted s t 3 (s.tick + 1) { act := (7, 0, t.bst.fault) })) ∧
  (∀ code : Fin 256, s.phase = .running → Completes (exec (.boostThermal code) s) (fun t =>
      t.bst.temp = code ∧ t.bst.hot = decide (174 < code.val) ∧
      ((s.bst.st = 2 ∨ s.bst.st = 3) → s.bst.heldT = false → 189 ≤ code.val → t.bst.st = 4 ∧ t.bst.heldT = true ∧ t.bst.active = 0) ∧
      (s.bst.st = 1 → s.bst.heldT = false → 189 ≤ code.val → t.bst.st = 1 ∧ t.bst.heldT = true) ∧
      (code.val < 189 → t.bst.st = s.bst.st))) ∧
  (∀ c : Nat, s.phase = .running → s.bst.cool = some c → s.bst.heldT = true → c + 192000 ≤ s.tick →
    Completes (exec .boostThermalReturn s) (fun t =>
      t.bst.heldT = false ∧ t.bst.st = if s.bst.st = 4 ∧ s.bst.heldR = false then 2 else s.bst.st)) ∧
  (s.ports = true → (s.bst.st = 5 ∨ s.bst.out ≠ 0 ∨ s.bst.heldR = true) → s.isolated 1 24 = false → Completes (exec .boostRestore s) (fun t =>
      t.testOf 0x1F 0 = some ⟨0x1F, 0, 0, s.tick + 1024⟩ ∧ t.bst = { s.bst with testBad := false }))

/-- The commands of the queue manager and its window ports complete (R399-R409, R413-R418). -/
def Obligations.QueueCommandsComplete : Prop := ∀ s : State,
  (∀ (q : Fin 4096) (rank kind unit : Nat) (w : Word) (ws : List Word), s.phase = .running → s.on (F.QMG_QCFG_EN q) = false →
    qWaits q ⟨rank, kind, unit⟩ s = false → Completes (exec (.cellRequest q rank kind unit (w :: ws)) s) (fun t => Counted s t (F.QMG_QCNT_DISC q) ∧ t.qmg = s.qmg)) ∧
  (∀ (q : Fin 4096) (p : Prod) (w : Word), s.phase = .running → s.on (F.QMG_QCFG_EN q) = true → (s.queue q).ended.contains p = false →
    qWaits q p s = false → qOpenOf (s.queue q) p = none → s.fld (F.QMG_QCT_CT q) = 0 → qMayGrant q p.rank s = true →
    Completes (exec (.cellRequest q p.rank p.kind p.unit [w]) s) (fun t =>
      qOpenOf (t.queue q) p = some { prod := p, tick := s.tick, cyc := s.cyc, cells := [(qTake s.qmg).1], words := [w], len := 4 } ∧
      (t.queue q).occ = (s.queue q).occ + 1 ∧ t.qmg.freeList = s.qmg.freeList - 1 ∧ t.fld (F.QMG_QSTAT_FULL q) = 0)) ∧
  (∀ (q : Fin 4096) (p : Prod) (w : Word) (ws : List Word), s.phase = .running → s.on (F.QMG_QCFG_EN q) = true →
    (s.queue q).ended.contains p = false → qWaits q p s = false → qOpenOf (s.queue q) p = none → qMayGrant q p.rank s = false →
    p.rank = 1 →
    Completes (exec (.cellRequest q p.rank p.kind p.unit (w :: ws)) s) (fun t =>
      t.fld (F.QMG_QSTAT_FULL q) = 1 ∧ Counted s t (F.QMG_QCNT_OVERRUN q) ∧ Counted s t F.QMG_CNT2_OVR_CNT ∧
      t.fld (F.pgInt Pg.qmg 2) = 1 ∧ qOpenOf (t.queue q) p = none ∧ (t.queue q).occ = (s.queue q).occ)) ∧
  (∀ (q : Fin 4096) (p : Prod) (w : Word) (ws : List Word), s.phase = .running → s.on (F.QMG_QCFG_EN q) = true →
    (s.queue q).ended.contains p = false → qWaits q p s = false → qOpenOf (s.queue q) p = none → qMayGrant q p.rank s = false →
    p.rank ≠ 1 →
    Completes (exec (.cellRequest q p.rank p.kind p.unit (w :: ws)) s) (fun t =>
      t.fld (F.QMG_QSTAT_FULL q) = 1 ∧ Counted s t F.QMG_CNT2_WAIT_CNT ∧
      t.qmg.waits = s.qmg.waits ++ [⟨p, q, s.tick * 5120 + s.cyc, w :: ws, none⟩])) ∧
  (∀ (q : Fin 4096) (p : Prod) (ws : List Word) (v : Wait), s.phase = .running →
    (s.qmg.waits.filter (fun x => x.queue == q.val && x.prod == p)).getLast? = some v → v.close = none →
    Completes (exec (.cellRequest q p.rank p.kind p.unit ws) s) (fun t =>
      t = { s with qmg := { s.qmg with waits := s.qmg.waits.map (fun x => if x == v then { x with words := x.words ++ ws } else x) } })) ∧
  (∀ (r : Wait) (g : Sig) (v : Word), s.phase = .running → qFirstWait s = some r → r.words = [v] → r.close = none →
    (s.queue r.queue).ended.contains r.prod = false → qOpenOf (s.queue r.queue) r.prod = some g →
    g.words.length = 64 * g.cells.length → g.words.length < 16384 → Completes (exec .cellGrant s) (fun t =>
      qOpenOf (t.queue r.queue) r.prod = some { g with cells := g.cells ++ [(qTake s.qmg).1], words := g.words ++ [v],
                                                       len := 4 * (g.words.length + 1) } ∧
      t.qmg.waits = s.qmg.waits.erase r)) ∧
  (∀ (q : Fin 4096) (p : Prod) (drop : Fin 4) (g : Sig), s.phase = .running → s.on (F.QMG_QCFG_EN q) = true →
    (s.queue q).ended.contains p = false → qWaits q p s = false → (s.queue q).opens.find? (fun h => h.prod == p) = some g →
    (s.queue q).sigs.any (fun h => !h.closed && h.prod == p) = false → 0 < g.words.length → g.words.length < 16384 →
    Completes (exec (.signatureClose q p.rank p.kind p.unit drop) s) (fun t =>
      (t.queue q).sigs.take (s.queue q).sigs.length = (s.queue q).sigs ∧
      (t.queue q).sigs[(s.queue q).sigs.length]? =
        some { g with closed := true, shut := s.tick, len := 4 * g.words.length - drop, words := sigPad drop g.words } ∧
      qOpenOf (t.queue q) p = none)) ∧
  (∀ (q : Fin 4096) (g : Sig), s.phase = .running → qHead s q = some g → (s.queue q).rd < sigAvail g →
    g.bad.contains ((s.queue q).rd / 16) = false → Completes (exec (.queueRead q 0) s) (fun t =>
      t.qmg.quire = (g.words.drop ((s.queue q).rd / 4)).take 4 ∧ t.qmg.vb = min 16 (sigAvail g - (s.queue q).rd) ∧
      (g.closed = false → (t.queue q).rd = (s.queue q).rd + t.qmg.vb)) ∧
    Completes (exec (.queueRead q 2) s) (fun t =>
      t.qmg.quire = t.qmg.quire.map (fun _ => 0) ∧ Counted s t F.QMG_CNT1_UE_CNT ∧ t.fld (F.pgInt Pg.qmg 3) = 1 ∧ Reported s t 0x4801 q 2)) ∧
  (s.ports = true → (∀ g, g ∈ (s.queue (qSel s)).sigs → g.closed = true) → Completes (exec .queueFlush s) (fun t =>
      (t.queue (qSel s)).sigs = [] ∧ (t.queue (qSel s)).behind = [] ∧ (t.queue (qSel s)).bm = false ∧
      (t.queue (qSel s)).opens = (s.queue (qSel s)).opens ∧ t.fld F.QMG_STAT_CMD_ERR = 0)) ∧
  (s.ports = true → (s.queue (qSel s)).bm = false → Completes (exec .bookmarkSet s) (fun t =>
      t.queue (qSel s) = { s.queue (qSel s) with bm := true } ∧ t.fld F.QMG_STAT_CMD_ERR = 0)) ∧
  (s.ports = true → (s.queue (qSel s)).bm = true → Completes (exec .bookmarkRewind s) (fun t =>
      (t.queue (qSel s)).rd = 0 ∧ (t.queue (qSel s)).behind = [] ∧ t.fld F.QMG_STAT_CMD_ERR = 0 ∧
      (t.queue (qSel s)).sigs.length = (s.queue (qSel s)).behind.length + (s.queue (qSel s)).sigs.length ∧
      ∀ g, g ∈ (t.queue (qSel s)).sigs.take (s.queue (qSel s)).behind.length → g.replayed = true)) ∧
  (s.ports = true → (s.queue (qSel s)).bm = true → Completes (exec .bookmarkRelease s) (fun t =>
      (t.queue (qSel s)).behind = [] ∧ (t.queue (qSel s)).bm = true ∧ t.fld F.QMG_STAT_CMD_ERR = 0)) ∧
  (s.ports = true → (s.queue (qSel s)).bm = true → Completes (exec .bookmarkClear s) (fun t =>
      (t.queue (qSel s)).behind = [] ∧ (t.queue (qSel s)).bm = false ∧ t.fld F.QMG_STAT_CMD_ERR = 0)) ∧
  (s.phase = .running → s.qmg.sweep = true → s.qmg.sweepAt + 256 ≤ s.tick → Completes (exec .qmgSweepDone s) (fun t =>
      t.qmg.sweep = false ∧ t.fld F.QMG_STAT_SWEEP = 0 ∧ t.fld (F.pgInt Pg.qmg 5) = 1 ∧
      t.qmg.freeList = t.qmg.returned.length ∧ t.qmg.freeState = t.qmg.returned.length)) ∧
  (∀ (w : Fin 64) (data : Word) (q : Nat), s.ports = true → winWq s w = q → s.on (F.WP_CFG_WEN w) = true →
    s.on (F.QMG_QCFG_EN q) = true → (s.queue q).ended.contains (winProd w) = false → qOpenOf (s.queue q) (winProd w) = none →
    s.fld (F.QMG_QCT_CT q) = 0 → qMayGrant q 4 s = true → Completes (exec (.windowWrite w data) s) (fun t =>
      qOpenOf (t.queue q) (winProd w) =
        some { prod := winProd w, tick := s.tick, cyc := s.cyc, cells := [(qTake s.qmg).1], words := [data], len := 4 } ∧
      winCredit t w = 63)) ∧
  (∀ (w : Fin 64) (data : Word), s.ports = true → s.on (F.WP_CFG_WEN w) = false → Completes (exec (.windowWrite w data) s) (fun t =>
      Counted s t (F.WP_CNT_OVERWRITE w) ∧ t.qmg = s.qmg)) ∧
  (∀ (w : Fin 64) (drop : Fin 4) (q c : Nat) (g : Sig), s.ports = true → winWq s w = q → (s.queue q).ended.contains (winProd w) = false →
    (s.queue q).opens.find? (fun h => h.prod == winProd w) = some g →
    (s.queue q).sigs.any (fun h => !h.closed && h.prod == winProd w) = false → g.cells = [c] → 0 < g.words.length →
    g.words.length ≤ 64 → Completes (exec (.windowClose w drop) s) (fun t =>
      (t.queue q).sigs.take (s.queue q).sigs.length = (s.queue q).sigs ∧
      (t.queue q).sigs[(s.queue q).sigs.length]? =
        some { g with closed := true, shut := s.tick, len := 4 * g.words.length - drop, words := sigPad drop g.words } ∧
      qOpenOf (t.queue q) (winProd w) = none)) ∧
  (∀ (w : Fin 64) (q : Nat) (g : Sig), s.ports = true → winWq s w = q → (s.queue q).opens.find? (fun h => h.prod == winProd w) = some g →
    (s.queue q).sigs.any (fun h => !h.closed && h.prod == winProd w) = false → Completes (exec (.windowAbort w) s) (fun t =>
      qOpenOf (t.queue q) (winProd w) = none ∧ (t.queue q).sigs = (s.queue q).sigs ∧ Counted s t (F.QMG_QCNT_DISC q) ∧
      (t.queue q).occ = (s.queue q).occ - g.cells.length)) ∧
  (∀ (w : Fin 64) (o : Origin) (g : Sig), s.hears o = true → s.on (F.WP_CFG_REN w) = true → qHead s (winRq s w) = some g →
    (s.queue (winRq s w)).rd < sigAvail g → g.bad.contains ((s.queue (winRq s w)).rd / 16) = false →
    Completes (exec (.windowRead w o 0) s) (fun t =>
      SMap.get (fun _ => (0 : Word)) t.readData o.num = g.words.getD ((s.queue (winRq s w)).rd / 4) 0 ∧
      (g.closed = false → (t.queue (winRq s w)).rd = (s.queue (winRq s w)).rd + min 4 (sigAvail g - (s.queue (winRq s w)).rd)))) ∧
  (∀ (w : Fin 64) (o : Origin), s.hears o = true → s.on (F.WP_CFG_REN w) = false → Completes (exec (.windowRead w o 0) s) (fun t =>
      SMap.get (fun _ => (0 : Word)) t.readData o.num = 0 ∧ Counted s t (F.WP_CNT_UNDERREAD w) ∧ t.qmg = s.qmg)) ∧
  (∀ (w : Fin 64) (g : Sig), s.ports = true → s.on (F.WP_CFG_REN w) = true → qHead s (winRq s w) = some g → g.closed = true →
    g.len ≤ 65535 → Completes (exec (.windowSkip w) s) (fun t =>
      (t.queue (winRq s w)).sigs = (s.queue (winRq s w)).sigs.tail ∧ (t.queue (winRq s w)).rd = 0))

/-- The commands of the Ethernet ports and the bridge complete (R421-R446). -/
def Obligations.NetworkCommandsComplete : Prop := ∀ s : State,
  (∀ (p : Fin 5) (w : EthIn), s.phase = .running → NetTakes p w s → w.bytes.length + 4 < 64 →
    Completes (exec (.ethFrameReceive p w) s) (fun t => Counted s t (F.PORT_CNT1_RX_RUNT p) ∧ t.qmg = s.qmg ∧ t.net = s.net)) ∧
  (∀ (p : Fin 5) (w : EthIn), s.phase = .running →
    (rxStamp w s < 5120 * (s.prt p).modeAt ∨ (NetTakes p w s ∧ 64 ≤ w.bytes.length + 4 ∧
      w.bytes.length + 4 ≤ (rxCfg w s).fld (F.PORT_CFG_MAX_LEN p) ∧
      fifoSize p (rxExpress p w s) s < fifoUsed p (rxExpress p w s) s + w.bytes.length)) →
    Completes (exec (.ethFrameReceive p w) s) (fun t =>
      Counted s t (F.PORT_CNT2_RX_FIFO_DROP p) ∧ t.fld (F.pgInt (Pg.port p) 3) = 1 ∧ t.qmg = s.qmg ∧ t.net = s.net)) ∧
  (∀ (p : Fin 5) (w : EthIn), s.phase = .running → NetTakes p w s → NetFits p w s → w.tableOk = true →
    w.fcsOk = false ∨ w.fifoOk = false → (∀ q ∈ (rxCfg w s).netQueues, s.fld (F.QMG_QCT_CT q) = 0) →
    Completes (exec (.ethFrameReceive p w) s) (fun t =>
      (w.fcsOk = false → Counted s t (F.PORT_CNT0_RX_FCS p)) ∧ (w.fifoOk = false → Reported s t 0x4844 p 0) ∧
      t.qmg = s.qmg ∧ t.net = s.net)) ∧
  (∀ (p : Fin 5) (w : EthIn) (f : List Byte) (b c : State), s.phase = .running → NetTakes p w s → NetFits p w s →
    w.fcsOk = true → w.fifoOk = true → w.tableOk = true → s.on F.NET_BR_CFG_LEARN_EN = false →
    netTag p w.bytes (rxCfg w s) = some f → b = (s.land w.cyc).bump (F.PORT_CNT0_RX_OK p) (F.PORT_CNT0_RX_OK_SAT p) →
    c = netAsOf (rxStamp w s) b → frameNum f 0 6 = ownMac c → frameNum f 16 2 ≠ 0x88F7 →
    frameNum f 16 2 ≠ c.fld F.ZKL_ETYPE_ETYPE → c.on (F.PORT_RXQ_LOCAL_EN p) = true → Completes (exec (.ethFrameReceive p w) s) (fun t =>
      t = netCopy p ⟨c.fld (F.PORT_RXQ_RXQ p), netExpress (netClass (frameNum f 14 2 / 8192) c) c, f, false, rxStamp w s, 0⟩ b)) ∧
  (∀ (w : PortAt 5) (p : Fin 5) (q : Fin 4096) (x : Bool) (c : RxCopy), s.phase = .running → w.p = p →
    (s.prt p).wait.find? (rxSame q x) = some c → netWaiting p q x s = true →
    s.fld (F.PORT_CFG_RX_WAIT p) * 98304 ≤ 100 * (instant s.tick (max s.cyc w.cyc) - c.wait) → (s.prt p).fifo = [] →
    Completes (exec (.rxWaitExpire w q x) s) (fun t => netWaiting p q x t = false ∧ Counted s t (F.PORT_CNT2_RX_WAIT_DROP p))) ∧
  (∀ (cyc : Fin 5120) (e : LearnEv), s.phase = .running → learnFirst s.net.learn = some e → e.stamp + 256 ≤ instant s.tick (max s.cyc cyc) →
    Completes (exec (.learnEventApply cyc) s) (fun t =>
      t.net.learn = s.net.learn.erase e ∧
      (brFind e.mac s = none → (brBucket e.mac s).length < 4 → brFind e.mac t = some ⟨e.mac, e.port, false, e.stamp, e.stamp⟩) ∧
      (∀ x, brFind e.mac s = some x → x.port = e.port → brFind e.mac t = some { x with tr := e.stamp }) ∧
      (∀ x, brFind e.mac s = some x → x.port ≠ e.port → x.static = false → x.tl + moveHold s ≤ e.stamp →
        brFind e.mac t = some { x with port := e.port, tl := e.stamp, tr := e.stamp } ∧ Counted s t F.NET_BR_CNT1_MOVES) ∧
      (∀ x, brFind e.mac s = some x → x.port ≠ e.port → (x.static = true ∨ e.stamp < x.tl + moveHold s) →
        t.net.table = s.net.table ∧ Counted s t F.NET_BR_CNT1_CONTESTED ∧ t.fld (F.pgInt Pg.net 0) = 1))) ∧
  (∀ (cyc : Fin 5120) (p : Fin 5) (q : Nat) (g : Sig), s.phase = .running → portUp p s = true → (s.prt p).tx = none →
    (s.prt p).held = none → s.on (F.PORT_STAT_HOLD p) = false → s.on (F.PORT_EQ_EN p 7) = true → portMay p 7 (s.land cyc) = true →
    s.fld (F.PORT_EQ_QID p 7) = q → (s.prt p).purge.contains q = false → qHead s q = some g → g.trunc = false → g.err = false →
    portLate p 7 (instant g.tick g.cyc) (s.land cyc) = false → Completes (exec (.egressFrameStart cyc p) s) (fun t =>
      (t.prt p).tx = some { cls := 7, q := q, bytes := if g.closed then netUntag p (sigBytes g) s else [], cut := !g.closed,
                            stamp := instant g.tick g.cyc })) ∧
  (∀ (cyc : Fin 5120) (p : Fin 5) (f : TxFrame), s.phase = .running → (s.prt p).tx = some f → f.back = none → f.cut = false →
    Completes (exec (.egressFrameEnd cyc p) s) (fun t =>
      (t.prt p).tx = none ∧ Counted s t (F.PORT_CNT4_TX_OK p) ∧
      (netExpress f.cls s = true → netHoldDue p (s.land cyc) = false → netExpressWaits p s = false → t.fld (F.PORT_STAT_HOLD p) = 0))) ∧
  (∀ (w : PortAt 4) (p : Fin 4) (sent : Nat) (f : TxFrame) (q : Nat) (g : Sig), s.phase = .running → w.p = p → portUp p s = true →
    s.on (F.PORT_STAT_PRE_ACT p) = true → (s.prt p).tx = some f → netExpress f.cls s = false → (s.prt p).held = none →
    64 * (1 + (s.prt p).pre.bits 29 28) ≤ sent → sent + 64 ≤ txLeft f s →
    netExpress 7 s = true → s.on (F.PORT_EQ_EN p 7) = true → portMay p 7 (s.land w.cyc) = true → s.fld (F.PORT_EQ_QID p 7) = q →
    (s.prt p).purge.contains q = false → qHead s q = some g → g.trunc = false → g.err = false →
    portLate p 7 (instant g.tick g.cyc) (s.land w.cyc) = false → Completes (exec (.expressPreempt w sent) s) (fun t =>
      (t.prt p).held = some { f with sent := f.sent + sent, frag := f.frag + 1 } ∧
      (t.prt p).tx = some { cls := 7, q := q, bytes := if g.closed then netUntag p (sigBytes g) s else [], cut := !g.closed,
                            stamp := instant g.tick g.cyc })) ∧
  (∀ w : PortAt 4, s.phase = .running → Completes (exec (.preemptHold w) s) (fun t =>
      t = if netHoldDue w.p (s.land w.cyc) then (s.land w.cyc).setFld (F.PORT_STAT_HOLD w.p) 1 else s.land w.cyc)) ∧
  (∀ p : Fin 4, s.phase = .running → s.fld (F.PORT_STAT_VSTATE p) = 1 → (s.prt p).pre.bits 15 8 ≠ 0 →
    (s.prt p).verAt + 192 * (s.prt p).pre.bits 15 8 ≤ s.tick → Completes (exec (.verifyTimer p) s) (fun t =>
      if (s.prt p).verifies < 3 then
        t.prt p = { s.prt p with verifies := (s.prt p).verifies + 1, verAt := s.tick, mps := (s.prt p).mps ++ [1] } ∧ t.regs = s.regs
      else t.fld (F.PORT_STAT_VSTATE p) = 3 ∧ t.fld (F.pgInt (Pg.port p) 1) = 1 ∧ Reported s t 0x7842 p 0)) ∧
  (∀ (p : Fin 4) (speed : Fin 3) (half : Bool), s.phase = .running → s.fld (F.PORT_CFG_MODE p) ≠ 0 → portIso p s = false →
    pllLocked 3 s = true → s.on F.PWR_STATUS_VSER_OK = true → s.on (F.PORT_STAT_LINK p) = false →
    (s.fld (F.PORT_CFG_MODE p) ≠ 1 ∨ half = false) → Completes (exec (.ethLinkUp p speed half) s) (fun t =>
      t.fld (F.PORT_STAT_LINK p) = 1 ∧ t.fld (F.pgInt (Pg.port p) 0) = 1 ∧ t.fld (F.PORT_STAT_DUPLEX_ERR p) = 0 ∧
      t.fld (F.PORT_STAT_SPEED p) = if s.fld (F.PORT_CFG_MODE p) = 1 then speed.val else s.fld (F.PORT_CFG_MODE p))) ∧
  (∀ (p : Fin 4) (speed : Fin 3), s.phase = .running → s.fld (F.PORT_CFG_MODE p) = 1 → portIso p s = false →
    pllLocked 3 s = true → s.on F.PWR_STATUS_VSER_OK = true → s.on (F.PORT_STAT_LINK p) = false →
    Completes (exec (.ethLinkUp p speed true) s) (fun t => t = s.setFld (F.PORT_STAT_DUPLEX_ERR p) 1)) ∧
  (∀ p : Fin 4, s.phase = .running → s.on (F.PORT_STAT_LINK p) = true → Completes (exec (.ethLinkDown p) s) (fun t =>
      t.fld (F.PORT_STAT_LINK p) = 0 ∧ (t.prt p).tx = none ∧ (t.prt p).held = none ∧ t.fld (F.pgInt (Pg.port p) 0) = 1 ∧
      Reported s t 0x7841 p 0 ∧ ∀ mac e, brFind mac t = some e → e.static = true ∨ e.port ≠ p)) ∧
  (∀ (c : CollisionIn) (f : TxFrame) (r : Nat), s.phase = .running → (s.prt 4).tx = some f → f.back = none → f.att < 15 →
    r = (lfsrNext (s.prt 4).lfsr).toNat % 2 ^ min (f.att + 1) 10 → Completes (exec (.t1sCollision c) s) (fun t =>
      Counted s t (F.PORT_CNT6_COLL 4) ∧ (c.late = true → Counted s t (F.PORT_CNT6_LATE_COLL 4)) ∧
      (t.prt 4).lfsr = lfsrNext (s.prt 4).lfsr ∧
      (t.prt 4).tx = some { f with att := f.att + 1, back := some (instant s.tick (max s.cyc c.cyc) + bitTimes (32 + 512 * r)) })) ∧
  (∀ (c : CollisionIn) (f : TxFrame), s.phase = .running → (s.prt 4).tx = some f → f.back = none → 15 ≤ f.att →
    (netExpress f.cls s = false ∨ s.fld (F.PORT_EQ_DEADLINE 4 f.cls) = 0) → Completes (exec (.t1sCollision c) s) (fun t =>
      Counted s t (F.PORT_CNT6_COLL 4) ∧ Counted s t (F.PORT_CNT7_EXCESS 4) ∧ (t.prt 4).tx = none)) ∧
  (∀ (cyc : Fin 5120) (f : TxFrame) (b : Nat), s.phase = .running → (s.prt 4).tx = some f → f.back = some b →
    b ≤ instant s.tick (max s.cyc cyc) → Completes (exec (.t1sBackoffEnd cyc) s) (fun t =>
      if portLate 4 f.cls f.stamp (s.land cyc) then (t.prt 4).tx = none ∧ Counted s t (F.PORT_CNT5_TX_LATE 4)
      else (t.prt 4).tx = some { f with back := none } ∧ t.regs = s.regs)) ∧
  (s.phase = .running → s.on (F.PORT_STAT_JABBER 4) = false → s.fld (F.PORT_CFG_MODE 4) = 1 → Completes (exec .t1sJabber s) (fun t =>
      t.fld (F.PORT_STAT_JABBER 4) = 1 ∧ (t.prt 4).tx = none ∧ t.fld (F.pgInt (Pg.port 4) 5) = 1 ∧ Reported s t 0x7846 4 0)) ∧
  (s.phase = .running → Completes (exec .t1sJabberEnd s) (fun t => t = s.setFld (F.PORT_STAT_JABBER 4) 0)) ∧
  (s.phase = .running → s.fld F.NET_BR_CFG_AGE ≠ 0 → Completes (exec .bridgeAgeingScan s) (fun t =>
      ∀ mac e, brFind mac t = some e → e.static = true ∨ instant s.tick s.cyc ≤ e.tr + s.fld F.NET_BR_CFG_AGE * 192000 * 5120)) ∧
  (∀ e : BrEnt, s.ports = true → brFind (tblMac s) (learnDrain s) = some e → e.port < 8 → Completes (exec .tableLookup s) (fun t =>
      t.fld F.NET_TBL_RES_HIT = 1 ∧ t.fld F.NET_TBL_RES_STATIC = (if e.static then 1 else 0) ∧ t.fld F.NET_TBL_RES_PORT = e.port ∧
      t.fld F.NET_TBL_RES_ERR = 0 ∧ t.net = (learnDrain s).net ∧
      t.fld F.NET_TBL_RES_AGE_S = min 65535 ((instant s.tick s.cyc - e.tr) / (192000 * 5120)))) ∧
  (s.ports = true → brFind (tblMac s) (learnDrain s) = none → Completes (exec .tableLookup s) (fun t =>
      t.fld F.NET_TBL_RES_HIT = 0 ∧ t.fld F.NET_TBL_RES_ERR = 0 ∧ t.net = (learnDrain s).net)) ∧
  (∀ port : Fin 8, s.ports = true → (brFind (tblMac s) (learnDrain s)).isSome = true ∨
      (brBucket (tblMac s) (learnDrain s)).length < 4 ∨ (brBucket (tblMac s) (learnDrain s)).all (·.static) = false →
    Completes (exec (.tableAddStatic port) s) (fun t =>
      brFind (tblMac s) t = some ⟨tblMac s, port, true, instant s.tick s.cyc, instant s.tick s.cyc⟩ ∧ t.fld F.NET_TBL_RES_ERR = 0)) ∧
  (∀ port : Fin 8, s.ports = true → brFind (tblMac s) (learnDrain s) = none → 4 ≤ (brBucket (tblMac s) (learnDrain s)).length →
    (brBucket (tblMac s) (learnDrain s)).all (·.static) = true → Completes (exec (.tableAddStatic port) s) (fun t =>
      t.net = (learnDrain s).net ∧ t.fld F.NET_TBL_RES_ERR = 1)) ∧
  (∀ e : BrEnt, s.ports = true → brFind (tblMac s) (learnDrain s) = some e → e.port < 8 → Completes (exec .tableDelete s) (fun t =>
      brBucket (tblMac s) t = (brBucket (tblMac s) (learnDrain s)).erase e ∧ t.fld F.NET_TBL_RES_HIT = 1)) ∧
  (∀ port : Fin 8, s.ports = true → Completes (exec (.tableFlushPort port) s) (fun t =>
      t.fld F.NET_TBL_RES_ERR = 0 ∧ ∀ mac e, brFind mac t = some e → e.static = true ∨ e.port ≠ port)) ∧
  (s.ports = true → Completes (exec .tableFlushAll s) (fun t =>
      t.fld F.NET_TBL_RES_ERR = 0 ∧ ∀ mac e, brFind mac t = some e → e.static = true))

/-- The commands of the time base and the Zinkor Link complete (R450-R454, R457, R460, R463, R466-R470). -/
def Obligations.TimeCommandsComplete : Prop := ∀ s : State,
  (s.ports = true → Completes (exec .timeCommit s) (fun t =>
      t.time.map = s.time.map ∧ t.regs = s.regs ∧
      t.time.pend = some { tickA := s.fld (F.TIME_MAP_TICK_TICK_A 0) + s.fld (F.TIME_MAP_TICK_TICK_A 1) * 2 ^ 32,
                           sec := s.fld F.TIME_MAP_SEC_LO_SEC_A_LO + s.fld F.TIME_MAP_SEC_HI_SEC_A_HI * 2 ^ 32,
                           ns := s.fld F.TIME_MAP_NS_NS_A, rate := s.int F.TIME_MAP_RATE_RATE, apply := 0, commit := s.tick })) ∧
  (∀ m : TMap, s.phase = .running → s.time.pend = some m → s.tick % 1024 = 0 → m.commit ≠ s.tick →
    Completes (exec .timeMapApply s) (fun t =>
      t.time.map = some { m with apply := s.tick } ∧ t.time.prev = s.time.map ∧ t.time.pend = none ∧
      t.fld F.TIME_STAT_GPTP_RDY = 1 ∧ t.fld F.TIME_STAT_STALE = 0)) ∧
  (∀ m : TMap, s.phase = .running → s.time.map = some m → s.on F.TIME_STAT_GPTP_RDY = true → m.commit + 384000 ≤ s.tick →
    Completes (exec .gptpStale s) (fun t =>
      t.fld F.TIME_STAT_GPTP_RDY = 0 ∧ t.fld F.TIME_STAT_STALE = 1 ∧ t.time = s.time ∧ t.fld (F.pgInt Pg.time 0) = 1 ∧
      Reported s t 0x2141 0 0)) ∧
  (∀ (m : TMap) (k e : Int), s.phase = .running → s.time.map = some m → s.tick % 1024 = 0 →
    k = roundRat (3 * mapNs m s.tick 0) (15625 * mapScale) → e = 3 * mapNs m s.tick 0 - k * 15625 * mapScale →
    e ≤ 3000 * mapScale → -(3000 * mapScale) ≤ e → Completes (exec .domainTickUpdate s) (fun t =>
      t.fld F.TIME_STAT_DOFS_OK = 1 ∧ (s.on F.TIME_STAT_DOFS_SET = true → s.time.dofs = k - s.tick → t.time = s.time) ∧
      ((s.on F.TIME_STAT_DOFS_SET = false ∨ s.time.dofs ≠ k - s.tick) →
        t.time.dofs = k - s.tick ∧ t.fld F.TIME_STAT_DOFS_SET = 1 ∧
        t.fld (F.TIME_DOFS_DOFS 0) + t.fld (F.TIME_DOFS_DOFS 1) * 2 ^ 32 = unsigned 64 (k - s.tick) ∧
        t.flt.reports = s.flt.reports ++ if s.on F.TIME_STAT_DOFS_SET then [⟨0x2142, 0, 0, 0⟩] else []))) ∧
  (∀ (m : TMap) (k e : Int), s.phase = .running → s.time.map = some m → s.tick % 1024 = 0 →
    k = roundRat (3 * mapNs m s.tick 0) (15625 * mapScale) → e = 3 * mapNs m s.tick 0 - k * 15625 * mapScale →
    (3000 * mapScale < e ∨ e < -(3000 * mapScale)) → Completes (exec .domainTickUpdate s) (fun t =>
      t.fld F.TIME_STAT_DOFS_OK = 0 ∧ t.time = s.time)) ∧
  (∀ cyc : Fin 8192, s.ports = true → Completes (exec (.timeConvert cyc) s) (fun t =>
      t.time.cvt = some (s.fld (F.TIME_CVT_TICK_CVT_TICK 0) + s.fld (F.TIME_CVT_TICK_CVT_TICK 1) * 2 ^ 32, cyc.val) ∧ t.regs = s.regs)) ∧
  (∀ tick cyc : Nat, s.phase = .running → s.time.cvt = some (tick, cyc) → s.time.map = none → Completes (exec .timeConvertResult s) (fun t =>
      t.time.cvt = none ∧ t.fld F.TIME_CVT_ST_NOMAP = 1 ∧ t.word Adr.TIME_CVT_SEC_LO = 0 ∧ t.word Adr.TIME_CVT_NS = 0)) ∧
  (∀ (tick cyc : Nat) (m : TMap) (u : Int), s.phase = .running → s.time.cvt = some (tick, cyc) → s.time.map = some m → m.apply ≤ tick →
    u = gSec (mapNs m tick cyc) - s.fld F.TIME_UTC_UTC_OFS - epoch2000 → 0 ≤ u → u ≤ calEnd →
    Completes (exec .timeConvertResult s) (fun t =>
      t.time.cvt = none ∧ t.fld F.TIME_CVT_ST_NOMAP = 0 ∧ t.fld F.TIME_CVT_ST_RANGE = 0 ∧ t.fld F.TIME_CVT_ST_OLD = 0 ∧
      t.fld F.TIME_CVT_SEC_LO_CVT_SEC_LO = unsigned 48 (gSec (mapNs m tick cyc)) % 2 ^ 32 ∧
      t.word Adr.TIME_CVT_NS = BitVec.ofNat 32 (gNs (mapNs m tick cyc)).toNat ∧
      t.word Adr.TIME_CVT_DATE = calDate u.toNat ∧ t.word Adr.TIME_CVT_TIME = calTime u.toNat)) ∧
  (s.phase = .running → 192000 ≤ s.time.calTick → s.on F.TIME_STAT_CAL_END = false → calFollows s = false →
    Completes (exec .calendarSecond s) (fun t =>
      t.time.cal = min calEnd (s.time.cal + 1) ∧ t.time.calTick = s.time.calTick - 192000 ∧
      t.word Adr.TIME_CAL_DATE = calDate t.time.cal ∧ t.word Adr.TIME_CAL_TIME = calTime t.time.cal ∧
      t.fld F.TIME_STAT_CAL_END = if calEnd ≤ s.time.cal + 1 then 1 else 0)) ∧
  (∀ m : TMap, s.phase = .running → s.time.map = some m → s.on F.TIME_STAT_LEAP_PEND = true →
    leapAt s ≤ gSec (mapNs m s.tick s.cyc) → Completes (exec .leapSecond s) (fun t =>
      t.fld F.TIME_UTC_UTC_OFS = s.fld F.TIME_LEAP_OFS_LEAP_OFS ∧ t.fld F.TIME_STAT_LEAP_PEND = 0)) ∧
  (∀ (n : Fin 64) (len p q : Nat) (g : Sig), s.phase = .running → (s.ztx n).send = some (len, [p]) → s.fld (F.TX_CFG_PORTS n) ≠ 0 →
    ztxQueue n p s = q → (s.queue q).ended.contains (ztxProd n p) = false →
    (s.queue q).opens.find? (fun h => h.prod == ztxProd n p) = some g →
    (s.queue q).sigs.any (fun h => !h.closed && h.prod == ztxProd n p) = false → 0 < g.words.length → g.words.length < 16384 →
    Completes (exec (.zklFrameLink n) s) (fun t =>
      (t.ztx n).send = none ∧ Counted s t (F.TX_CNT_FRAMES n) ∧
      (t.queue q).sigs.take (s.queue q).sigs.length = (s.queue q).sigs ∧
      (t.queue q).sigs[(s.queue q).sigs.length]? =
        some { g with closed := true, shut := s.tick, len := 4 * g.words.length - (4 - len % 4) % 4,
                      words := sigPad ((4 - len % 4) % 4) g.words })) ∧
  (∀ (tr : Bool) (g : Sig) (u : List Byte), s.phase = .running → s.on F.ZKL_RXQ_EN = true → qHead s (s.fld F.ZKL_RXQ_RXQ) = some g →
    g.closed = true → g.shut < s.tick → u = (sigBytes g).drop 18 →
    (leNum (u.take 1) / 16 ≠ 1 ∨ leNum ((u.drop 2).take 1) ≠ s.fld F.ZKL_NODE_DOMAIN) → Completes (exec (.zklFrameJudge tr) s) (fun t =>
      Counted s t F.ZKL_CNT_NOMATCH ∧ t.zkl = s.zkl)) ∧
  (∀ (tr : Bool) (g : Sig) (u : List Byte) (r c d0 p gath : Nat), s.phase = .running → s.on F.ZKL_RXQ_EN = true →
    qHead s (s.fld F.ZKL_RXQ_RXQ) = some g → g.closed = true → g.shut < s.tick → g.trunc = false → g.err = false →
    u = (sigBytes g).drop 18 → leNum (u.take 1) = 16 → leNum ((u.drop 2).take 1) = s.fld F.ZKL_NODE_DOMAIN →
    zrxOf (leNum ((u.drop 4).take 2) % 16384) (leNum ((u.drop 6).take 1)) s = some r →
    leNum ((u.drop 4).take 2) % 16384 ≠ s.fld F.ZKL_NODE_NODE_ID → s.on (F.RX_CFG_KIND r) = false →
    gath = gathTicks (s.fld (F.RX_CFG_GATH r)) → leNum ((u.drop 1).take 1) % 4 = s.fld (F.RX_CFG_GATH r) →
    leNum ((u.drop 3).take 1) = s.fld (F.RX_CFG_CHANS r) → leNum ((u.drop 22).take 2) = 4 * gath * s.fld (F.RX_CFG_CHANS r) →
    c = 24 + leNum ((u.drop 22).take 2) → leNum ((u.drop c).take 4) = (crc32 (u.take c)).toNat →
    leNum ((u.drop (c + 4)).take 4) = leNum ((u.drop 8).take 4) → leNum ((u.drop (c + 8)).take 4) = leNum ((u.drop 12).take 4) →
    leNum ((u.drop (c + 12)).take 2) = leNum ((u.drop 22).take 2) → d0 = leNum ((u.drop 12).take 8) → d0 % gath = 0 →
    p = leNum ((u.drop 20).take 2) → gath + s.fld (F.RX_CFG_HOPB r) + 3 ≤ p →
    (s.zrx r).store.any (fun e => e.1 == (d0 : Int)) = false →
    (g.shut : Int) ≤ d0 + ((s.zrx r).p.getD p : Nat) - 3 - s.time.dofs → (d0 : Int) + ((s.zrx r).p.getD p : Nat) ≤ domTick s.tick s + 128 →
    Completes (exec (.zklFrameJudge tr) s) (fun t =>
      Counted s t (F.RX_CNT1_GOOD r) ∧ t.fld (F.RX_STAT_P r) = p % 2 ^ 16 ∧ (t.zrx r).p = some ((s.zrx r).p.getD p) ∧
      ((d0 : Int), packBytes ((u.drop 24).take (leNum ((u.drop 22).take 2)))) ∈ (t.zrx r).store))

/-- The commands of the register path and the host ports complete (R480-R494, R497). -/
def Obligations.HostCommandsComplete : Prop := ∀ s : State,
  (∀ (o : Origin) (cyc : Fin 5120) (data : Word), s.hears o = true →
    Completes (exec (.registerWrite o cyc ⟨Adr.ID_SCRATCH, by decide⟩ data) s) (fun t =>
      t.word Adr.ID_SCRATCH = data ∧ (∀ a, a ≠ Adr.ID_SCRATCH → t.word a = s.word a) ∧ t.shadow = s.shadow)) ∧
  (∀ (o : Origin) (cyc : Fin 5120) (data : Word), s.hears o = true →
    Completes (exec (.registerWrite o cyc ⟨Adr.OUT_CFG 0, by decide⟩ data) s) (fun t =>
      t.regs = s.regs ∧ SMap.get (fun _ => false) t.shadowMc (Adr.OUT_CFG 0) = (o == .mc) ∧
      SMap.get resetWord t.shadow (Adr.OUT_CFG 0) &&& stMask (Adr.OUT_CFG 0) = data &&& stMask (Adr.OUT_CFG 0) ∧
      ∀ a, a ≠ Adr.OUT_CFG 0 → SMap.get resetWord t.shadow a = SMap.get resetWord s.shadow a)) ∧
  (∀ (o : Origin) (addr : Fin 16777216), s.hears o = true →
    ¬(0x800000 ≤ addr.val ∧ addr.val < 0x840000 ∧ 0x800 ≤ addr.val % 0x1000 ∧ addr.val % 0x1000 < 0xC00) →
    Completes (exec (.resultRegisterRead o addr) s) (fun t =>
      SMap.get (fun _ => (0 : Word)) t.readData o.num = readWord o addr s ∧
      (SMap.get (fun _ => 0) t.fresh (regAddr addr s)).testBit o.num = false ∧ t.regs = s.regs ∧ t.qmg = s.qmg)) ∧
  (∀ o : Origin, s.hears o = true → Completes (exec (.resultRegisterRead o ⟨Adr.PRESS_RES, by decide⟩) s) (fun t =>
      (SMap.get (fun _ => (0 : Word)) t.readData o.num).getLsbD 31 =
        ((SMap.get (fun _ => 0) s.fresh Adr.PRESS_RES).testBit o.num || (s.word Adr.PRESS_RES).getLsbD 31))) ∧
  (∀ o : Origin, s.hears o = true → Completes (exec (.latchedGroupRead o ⟨Adr.CLK_TICK_LO, by decide⟩) s) (fun t =>
      SMap.get (fun _ => (0 : Word)) t.latch (latchKey o Adr.CLK_TICK_HI) = BitVec.ofNat 32 (s.tick / 2 ^ 32) ∧
      SMap.get (fun _ => (0 : Word)) t.latch (latchKey o Adr.CLK_CYC) = BitVec.ofNat 32 s.cyc ∧
      SMap.get (fun _ => (0 : Word)) t.readData o.num = readWord o Adr.CLK_TICK_LO s)) ∧
  (∀ (o : Origin) (page : Fin 290), s.hears o = true → pageInUse page = true → (o = .mc → page.val ≠ Pg.flt) →
    Completes (exec (.counterClear o page) s) (fun t =>
      ∀ e, e ∈ s.regs → pageKey e.1 >>> 12 = page.val → t.word e.1 &&& cntMask e.1 = 0)) ∧
  (∀ page : Fin 290, s.ports = true → pageInUse page = true → Completes (exec (.interruptTest page) s) (fun t =>
      t = s.setFld (F.pgInt page 31) 1)) ∧
  (∀ (addr : Fin 16777216) (bits again : Word) (r : RegRow), s.ports = true → rowOf (regAddr addr s) = some r →
    Completes (exec (.w1cClear addr bits again) s) (fun t =>
      t.word (regAddr addr s) = (s.word (regAddr addr s) &&& ~~~(bits &&& r.mask (fun x => decide (x = .w1c)))) |||
        (again &&& r.mask (fun x => decide (x = .w1c))) ∧
      ∀ a, a ≠ regAddr addr s → t.word a = s.word a)) ∧
  (∀ (o : Origin) (page : Fin 290), s.hears o = true → pageInUse page = true → o ≠ .mc → s.on (F.pgLock page) = false →
    Completes (exec (.pageLock o page) s) (fun t => t = s.setFld (F.pgLock page) 1)) ∧
  (∀ page : Fin 290, s.hears .mc = true → pageInUse page = true → s.on (F.pgLock page) = false →
    Completes (exec (.pageLock .mc page) s) (fun t =>
      t.on (F.pgLock page) = false ∧ Counted s t (F.pgViol page) ∧ t.fld (F.pgViolKind page) = 4 ∧ t.fld (F.pgViolOfs page) = 0x1C)) ∧
  (s.ports = true → Completes (exec .hpbStrobeConflict s) (fun t => Counted s t F.HOST_ERR_HPB_ERR ∧ t.fld (F.pgInt Pg.host 0) = 1)) ∧
  (s.ports = true → Completes (exec .qsBadcmd s) (fun t => Counted s t F.HOST_ERR_QS_BADCMD ∧ t.fld (F.pgInt Pg.host 0) = 1)) ∧
  (s.ports = true → Completes (exec .qsPart s) (fun t => Counted s t F.HOST_ERR2_QS_PART ∧ t.fld (F.pgInt Pg.host 0) = 1)) ∧
  (s.ports = true → Completes (exec .i2ctPart s) (fun t => Counted s t F.HOST_ERR2_I2CT_PART ∧ t.fld (F.pgInt Pg.host 0) = 1))

/-- The commands of the mailbox complete (R501, R502). -/
def Obligations.MailboxCommandsComplete : Prop := ∀ s : State,
  (∀ len : Fin 128, s.ports = true → s.on F.MBOX_STAT_H2M_FULL = false → len ≠ 0 → Completes (exec (.mboxSend len) s) (fun t =>
      if s.tick ∈ s.flt.wdResets then t.on F.MBOX_STAT_H2M_FULL = false ∧ Counted s t F.MBOX_CNT_MB_LOST
      else t.fld F.MBOX_H2M_LEN_H2M_LEN = min 64 len.val ∧ t.fld F.MBOX_STAT_H2M_FULL = 1 ∧ t.word Adr.MBOX_CNT = s.word Adr.MBOX_CNT)) ∧
  (∀ len : Fin 128, s.ports = true → s.on F.MBOX_STAT_H2M_FULL = true → Completes (exec (.mboxSend len) s) (fun t =>
      t.fld F.MBOX_H2M_LEN_H2M_LEN = s.fld F.MBOX_H2M_LEN_H2M_LEN ∧ t.on F.MBOX_STAT_H2M_FULL = true ∧
      Counted s t F.MBOX_CNT_MB_OVR)) ∧
  (s.phase = .running → s.on F.MBOX_STAT_H2M_FULL = true → Completes (exec .mboxTake s) (fun t =>
      t.fld F.MBOX_STAT_H2M_FULL = 0 ∧ t.fld (F.pgInt Pg.mbox 0) = 1)) ∧
  (∀ words : List Word, s.phase = .running → s.on F.MBOX_STAT_M2H_FULL = false → words.length ≤ 64 →
    Completes (exec (.mboxPost words) s) (fun t =>
      (∀ i, i < words.length → t.word (Adr.M2H_DATA i) = words.getD i 0) ∧ t.fld F.MBOX_M2H_LEN_M2H_LEN = words.length ∧
      t.fld F.MBOX_STAT_M2H_FULL = 1 ∧ t.fld (F.pgInt Pg.mbox 1) = 1)) ∧
  (s.ports = true → Completes (exec .mboxAck s) (fun t => t = s.setFld F.MBOX_STAT_M2H_FULL 0)) ∧
  (s.phase = .running → s.fld F.FLT_STAT_MC_STATE = 1 → Completes (exec .mcReady s) (fun t =>
      t.fld F.MBOX_STAT_MC_RDY = 1 ∧ t.fld (F.pgInt Pg.mbox 3) = 1))

/-- The commands of the press complete (R504-R517, R521). -/
def Obligations.PressCommandsComplete : Prop := ∀ s : State,
  (∀ o : Origin, s.hears o = true → s.press.kind = 0 → Completes (exec (.collate o) s) (fun t =>
      t.press.kind = 1 ∧ t.press.landed = s.tick ∧ t.press.byMc = (o == .mc) ∧ t.press.imaged = false ∧
      t.fld F.PRESS_STAT_PSTATE = 1 ∧ t.fld F.PRESS_STAT_CMD_ERR = 0)) ∧
  (∀ o : Origin, s.hears o = true → s.press.kind = 0 → Completes (exec (.press o) s) (fun t =>
      t.press.kind = 2 ∧ t.press.landed = s.tick ∧ t.press.byMc = (o == .mc) ∧ t.press.imaged = false ∧
      t.press.target = s.fld F.PRESS_TGT_LO_TGT_LO + s.fld F.PRESS_TGT_HI_TGT_HI * 2 ^ 32 ∧
      t.fld F.PRESS_STAT_PSTATE = 1 ∧ t.fld F.PRESS_STAT_CMD_ERR = 0)) ∧
  (∀ o : Origin, s.hears o = true → s.press.kind ≠ 0 → Completes (exec (.press o) s) (fun t =>
      t.press = s.press ∧ t.fld F.PRESS_STAT_CMD_ERR = 1 ∧ Counted s t F.PRESS_CNT2_CMDERR_CNT)) ∧
  (s.ports = true → s.press.kind ≠ 0 → (s.fld F.PRESS_STAT_PSTATE ≤ 2 ∨ (s.fld F.PRESS_STAT_PSTATE = 3 ∧ commitPast s = false)) →
    Completes (exec .withdraw s) (fun t =>
      t.press.kind = 0 ∧ t.image = [] ∧ t.press.banksFrozen = false ∧ t.fld F.PRESS_STAT_PSTATE = 0 ∧
      t.fld F.PRESS_RES_WITHDRAWN = 1 ∧ t.fld F.PRESS_RES_APPLIED = 0 ∧ t.fld (F.pgInt Pg.press 0) = 1 ∧ t.shadow = s.shadow ∧
      ∀ l : Fin 2, s.linkHolds l = true → (t.dir (2 * l)).wait =
        (s.dir (2 * l)).wait ++ (if s.press.kind = 2 then [(s.tick, .abort s.press.seq)] else []))) ∧
  (s.ports = true → (s.press.kind = 0 ∨ 4 ≤ s.fld F.PRESS_STAT_PSTATE ∨ (s.fld F.PRESS_STAT_PSTATE = 3 ∧ commitPast s = true)) →
    Completes (exec .withdraw s) (fun t =>
      t.press = s.press ∧ t.fld F.PRESS_STAT_CMD_ERR = 1 ∧ Counted s t F.PRESS_CNT2_CMDERR_CNT)) ∧
  (s.ports = true → s.press.kind = 0 → SMap.wf resetWord s.regs = true → Completes (exec .revert s) (fun t =>
      (∀ a, SMap.get resetWord t.shadow a &&& stMask a = s.word a &&& stMask a) ∧ t.shadowMc = [] ∧
      t.fld F.PRESS_STAT_CMD_ERR = 0)) ∧
  (∀ f : Findings, s.phase = .running → s.press.kind = 1 → s.press.imaged = true → s.fld F.PRESS_STAT_PSTATE = 1 →
    f = collate (reclamp s) (overlay (reclamp s)) → Completes (exec .collationDone s) (fun t =>
      t.press.kind = 0 ∧ t.image = [] ∧ t.fld F.PRESS_STAT_PSTATE = 0 ∧ t.fld F.PRESS_RES_VERDICT = f.verdict % 16 ∧
      t.fld F.PRESS_RES_APPLIED = 0 ∧ t.fld F.PRESS_RES_WITHDRAWN = 0 ∧ t.fld (F.pgInt Pg.press 0) = 1)) ∧
  (∀ f : Findings, s.phase = .running → s.press.kind = 2 → s.press.imaged = true → s.fld F.PRESS_STAT_PSTATE = 1 →
    f = collate (reclamp s) (overlay (reclamp s)) → Completes (exec .collationDone s) (fun t =>
      t.fld F.PRESS_RES_VERDICT = f.verdict % 16 ∧
      (f.verdict = 0 → t.fld F.PRESS_STAT_PSTATE = 2 ∧ t.press.kind = 2 ∧
        t.press.s = if s.press.target = 0 then s.tick + 17 else s.press.target) ∧
      (f.verdict ≠ 0 → t.fld F.PRESS_STAT_PSTATE = 0 ∧ t.press.kind = 0 ∧ t.fld (F.pgInt Pg.press 2) = 1))) ∧
  (s.phase = .running → s.press.kind = 2 → s.fld F.PRESS_STAT_PSTATE = 2 → s.press.s ≤ s.tick + 16 →
    Completes (exec .pressAnnounce s) (fun t =>
      t.fld F.PRESS_STAT_PSTATE = 3 ∧ t.press = { s.press with seq := s.press.seq + 1, replies := [] } ∧
      ∀ l : Fin 2, s.linkHolds l = true → (t.dir (2 * l)).wait =
        (s.dir (2 * l)).wait ++ [(s.tick, .announce (s.press.seq + 1) s.press.s (imageCrc (dieImage l s)))])) ∧
  (∀ cyc : Fin 5120, s.phase = .running → s.press.kind = 2 → s.fld F.PRESS_STAT_PSTATE = 3 → s.press.s ≤ s.tick + 7 →
    (∀ l : Fin 2, s.linkUp l = false ∨ (s.fld F.PRESS_STAT_DIE_SKIP).testBit l = true ∨ pressAnswer l s = 1) →
    Completes (exec (.pressCommitPoint s.press.seq cyc) s) (fun t =>
      t.fld F.PRESS_STAT_PSTATE = 4 ∧ t.press = s.press ∧
      (∀ l : Fin 2, s.linkUp l = false → (t.fld F.PRESS_STAT_DIE_SKIP).testBit l = true) ∧
      ∀ l : Fin 2, s.linkHolds l = true → (t.dir (2 * l)).wait = (s.dir (2 * l)).wait ++ [(s.tick, .commit s.press.seq)])) ∧
  (∀ (l : Fin 2) (cyc : Fin 5120), s.phase = .running → s.press.kind = 2 → s.fld F.PRESS_STAT_PSTATE = 3 → s.press.s ≤ s.tick + 7 → s.linkUp l = true →
    (s.fld F.PRESS_STAT_DIE_SKIP).testBit l = false → pressAnswer l s ≠ 1 → Completes (exec (.pressCommitPoint s.press.seq cyc) s) (fun t =>
      t.fld F.PRESS_STAT_PSTATE = 0 ∧ t.press.kind = 0 ∧ t.image = [] ∧ t.fld F.PRESS_RES_VERDICT = 8 ∧ t.fld F.PRESS_RES_APPLIED = 0 ∧
      t.fld (F.pgInt Pg.press 2) = 1 ∧ t.fld (F.pgInt Pg.press 3) = 1 ∧ Counted s t F.PRESS_CNT2_NACK_CNT ∧
      Counted s t F.PRESS_CNT_REFUSE_CNT ∧
      ⟨if pressAnswer l s = 2 then 0x4041 else 0x4042, l, 0, 0⟩ ∈ t.flt.reports)) ∧
  (s.phase = .running → s.press.kind = 2 → s.fld F.PRESS_STAT_PSTATE = 4 → s.press.s ≤ s.tick → Completes (exec .pressApply s) (fun t =>
      t.press.kind = 0 ∧ t.image = [] ∧ t.fld F.PRESS_STAT_PSTATE = 0 ∧ t.fld F.PRESS_RES_APPLIED = 1 ∧
      t.fld F.PRESS_RES_VERDICT = 0 ∧ t.fld (F.pgInt Pg.press 0) = 1 ∧ t.fld (F.pgInt Pg.press 1) = 1)) ∧
  (∀ (a : Nat) (w : Word), s.phase = .running → s.press.later = [(a, w)] → laterUnit a = some 17 → s.spd.txFrame % 192 = 0 →
    Completes (exec (.deferredApply 17) s) (fun t =>
      t.word a = stMerge a w (s.word a) ∧ (∀ b, b ≠ a → t.word b = s.word b) ∧ t.press.later = [])) ∧
  (∀ (u : Fin 82) (a : Nat) (w : Word), s.phase = .running → s.press.later.filter (fun e => laterUnit e.1 == some u.val) = [(a, w)] →
    laterDue u s = true → Completes (exec (.deferredApply u) s) (fun t =>
      t.word a &&& stMask a = w &&& stMask a ∧
      t.press = { s.press with later := s.press.later.filter (fun e => laterUnit e.1 != some u.val) }))

/-- The commands of the fault manager complete (R531-R549). -/
def Obligations.FaultCommandsComplete : Prop := ∀ s : State,
  (s.phase = .running → s.flt.log = [] → s.flt.last = none → Completes (exec .fltLockstepMismatch s) (fun t =>
      t.flt.self = true ∧ t.fld F.FLT_STAT_SELF = 1 ∧ t.fld F.FLT_STAT_FN = 1 ∧ t.fld F.FLT_STAT_PARTWIDE = 1 ∧
      t.fld (F.pgInt Pg.flt 2) = 1 ∧ t.flt.log.map (fun r => (r.code, r.tick)) = [(0x4081, s.tick)] ∧
      ∀ e, e ∈ isoAll → (SMap.get (fun _ => []) t.flt.why (32 * e.1 + e.2)).any (fun w => w.code == 0x4081) = true)) ∧
  (∀ (q : Nat) (r : LogRec), s.phase = .running → s.on F.FLT_LOG_CFG_LOGQ_EN = true → s.flt.logWait = false →
    s.flt.log.find? (fun r => !r.sent) = some r → r.tick < s.tick → s.fld F.FLT_LOG_CFG_LOGQ = q → s.on (F.QMG_QCFG_EN q) = true →
    (s.queue q).ended.contains logProd = false → qOpenOf (s.queue q) logProd = none → s.fld (F.QMG_QCT_CT q) = 0 →
    qMayGrant q 5 s = true → s.qmg.waits.any (fun w => w.prod == logProd) = false → Completes (exec .logRecordSend s) (fun t =>
      t.flt.log = logMark s.flt.log ∧ t.flt.logWait = false ∧
      (t.queue q).sigs.take (s.queue q).sigs.length = (s.queue q).sigs ∧
      ((t.queue q).sigs[(s.queue q).sigs.length]?).map (fun g => (g.closed, g.words, g.len)) = some (true, packBytes r.bytes, 16))) ∧
  (∀ o : Origin, s.hears o = true → o ≠ .mc → Completes (exec (.faultAck o) s) (fun t => t = s.setFld F.FLT_PEND_PEND 0)) ∧
  (∀ o : Origin, s.hears o = true → o ≠ .mc → Completes (exec (.logClear o) s) (fun t =>
      t.flt.log = [] ∧ t.flt.first = none ∧ t.flt.last = none ∧ t.fld F.FLT_LOG_STAT_VALID = 0 ∧ t.fld F.FLT_LOG_STAT_UNSENT = 0)) ∧
  (∀ (o : Origin) (w : Fin 3) (bits : Word) (b : Nat), s.hears o = true → o ≠ .mc → b < isoWidth w → bits.getLsbD b = true →
    SMap.get (fun _ => []) s.flt.why (32 * w + b) = [] → Completes (exec (.isolateSet o w bits) s) (fun t =>
      t.isolated w b = true ∧ SMap.get (fun _ => []) t.flt.why (32 * w + b) = [{ host := true }])) ∧
  (∀ (o : Origin) (w : Fin 3) (bits : Word) (b : Nat), s.hears o = true → o ≠ .mc → b < isoWidth w → bits.getLsbD b = true →
    (SMap.get (fun _ => []) s.flt.why (32 * w + b)).any (fun x => isoPersists x s) = false → Completes (exec (.isolateClear o w bits) s)
    (fun t => t.isolated w b = false ∧ SMap.get (fun _ => []) t.flt.why (32 * w + b) = [])) ∧
  (∀ (k : Fin 6) (c : Nat), s.phase = .running → autoCode k = c → s.on F.FLT_ISO_CFG_AUTO_RET = true →
    s.flt.why.any (fun e => e.2.any (fun w => w.code == c && w.auto)) = true → isoPersists { code := c } s = false →
    (s.flt.returns.filter (fun e => e.1 == c && decide (s.tick - e.2 < 1920000))).length < s.fld F.FLT_ISO_CFG_RET_MAX →
    Completes (exec (.isolationAutoReturn k) s) (fun t =>
      (c, s.tick) ∈ t.flt.returns ∧
      ∀ e, e ∈ isoAll → (SMap.get (fun _ => []) t.flt.why (32 * e.1 + e.2)).any (fun w => w.code == c && w.auto) = false)) ∧
  (∀ o : Origin, s.hears o = true → o ≠ .mc → s.on F.FLT_LOCKALL_LOCKALL = false → Completes (exec (.lockAll o) s) (fun t =>
      t.fld F.FLT_LOCKALL_LOCKALL = 1 ∧ ∀ p, p ∈ lkPages → t.fld (F.pgLock p) = 1)) ∧
  (s.hears .mc = true → Completes (exec (.watchdogKick .mc) s) (fun t => t = { s with flt := { s.flt with kickTick := s.tick } })) ∧
  (∀ o : Origin, s.hears o = true → o ≠ .mc → Completes (exec (.watchdogKick o) s) (fun t => t = s)) ∧
  (s.phase = .running → s.fld F.FLT_STAT_MC_STATE = 1 → s.flt.kickTick + 192 ≤ s.tick → Completes (exec .watchdogExpire s) (fun t =>
      (t.fld F.FLT_STAT_MC_STATE = 2 ∨ t.fld F.FLT_STAT_MC_STATE = 3) ∧ t.flt.mcUntil = some (s.tick + 16) ∧
      t.fld F.MBOX_STAT_MC_RDY = 0 ∧ t.fld F.MBOX_STAT_H2M_FULL = 0 ∧ t.fld F.MBOX_STAT_M2H_FULL = 0 ∧
      t.fld (F.pgInt Pg.flt 3) = 1 ∧ Counted s t F.FLT_MC_STAT_WD_CNT)) ∧
  (∀ u : Nat, s.phase = .running → s.flt.mcUntil = some u → u ≤ s.tick → s.fld F.FLT_STAT_MC_STATE = 2 →
    Completes (exec .mcResetRelease s) (fun t =>
      t.fld F.FLT_STAT_MC_STATE = 0 ∧ t.nvm.boot = 1 ∧ t.flt.mcUntil = none ∧ t.flt.kickTick = s.tick)) ∧
  (∀ o : Origin, s.hears o = true → o ≠ .mc → s.fld F.FLT_STAT_MC_STATE ≤ 2 → Completes (exec (.mcHold o true) s) (fun t =>
      t.fld F.FLT_STAT_MC_STATE = 4 ∧ t.fld F.FLT_MC_CTRL_MC_HOLD = 1 ∧ t.fld F.MBOX_STAT_MC_RDY = 0)) ∧
  (∀ o : Origin, s.hears o = true → o ≠ .mc → s.fld F.FLT_STAT_MC_STATE = 4 → Completes (exec (.mcHold o false) s) (fun t =>
      t.fld F.FLT_STAT_MC_STATE = 0 ∧ t.fld F.FLT_MC_CTRL_MC_HOLD = 0 ∧ t.nvm.boot = 1)) ∧
  (∀ o : Origin, s.hears o = true → o ≠ .mc → (s.fld F.FLT_STAT_MC_STATE = 3 ∨ s.fld F.FLT_STAT_MC_STATE = 4) →
    Completes (exec (.mcRun o) s) (fun t =>
      t.fld F.FLT_STAT_MC_STATE = 0 ∧ t.fld F.FLT_MC_CTRL_MC_HOLD = 0 ∧ t.nvm.boot = 1)) ∧
  (∀ page : Fin 290, s.phase = .running → viewRuns s = true → 2 < SMap.get (fun _ => 0) s.flt.viewTicks page →
    s.on (F.pgViewMismatch page) = false → Completes (exec (.viewMismatch page) s) (fun t =>
      t.fld (F.pgViewMismatch page) = 1 ∧ t.fld (F.pgInt Pg.flt 4) = 1 ∧ Reported s t 0x8082 page 0))

/-- The commands of non-volatile storage and of the boot complete (R552-R566). -/
def Obligations.StorageCommandsComplete : Prop := ∀ s : State,
  (∀ (o : Origin) (i : Nat), s.hears o = true → s.fld F.NVM_OTP_SEL_ITEM = i → s.nvm.otpBusy = none → pfVioOn s = false →
    (o = .mc → 18 < i) → otpKindOk s i (s.word Adr.NVM_OTP_DATA) = true → (otpWords s i).length < 4 →
    Completes (exec (.otpProgram o) s) (fun t => t = { s with nvm := { s.nvm with otpBusy := some (i, s.word Adr.NVM_OTP_DATA, s.tick + 19) } })) ∧
  (∀ (lost : BitVec 40) (i : Nat) (v : Word) (due : Nat) (w : OtpWord), s.phase = .running → s.nvm.otpBusy = some (i, v, due) →
    due ≤ s.tick → w = otpWord v &&& ~~~lost → Completes (exec (.otpProgramDone lost) s) (fun t =>
      otpWords t i = (if w = 0 then otpWords s i else otpWords s i ++ [w]) ∧ t.nvm.otpBusy = none ∧
      t.fld F.NVM_OTP_RES_RESULT = (if (otpData w).isSome then 0 else 5) ∧ t.fld (F.pgInt Pg.nvm 2) = 1 ∧
      (lost = 0 → otpLast (otpWords t i) = some v))) ∧
  (∀ o : Origin, s.hears o = true → jTurned o 1 0 s = 0 → Completes (exec (.journalMount o) s) (fun t =>
      t.fld F.NVM_STAT_BUSY = 1 ∧ t.fld F.NVM_STAT_OPSTEP = 7 ∧ t.nvm.cmd = some { cmd := 1, typ := 0, id := 0, len := 0, began := s.tick } ∧
      t.nvm.recs = s.nvm.recs)) ∧
  (∀ (o : Origin) (ty i : Fin 256) (r : JRec), s.hears o = true → jTurned o 2 ty s = 0 → jCurrent s ty i = some r →
    Completes (exec (.journalRead o ty i) s) (fun t =>
      t.fld F.NVM_STAT_BUSY = 1 ∧ t.fld F.NVM_STAT_OPSTEP = 6 ∧ t.fld F.NVM_JSEQ_JSEQ = r.seq % 2 ^ 32 ∧
      t.nvm.cmd = some { cmd := 2, typ := ty, id := i, len := r.len, out := jChunks (r.body.length + 1) r.body })) ∧
  (∀ (o : Origin) (ty i : Fin 256), s.hears o = true → jTurned o 3 ty s = 0 → jRoom s (s.fld F.NVM_JLEN_LEN) = true →
    Completes (exec (.journalWrite o ty i) s) (fun t =>
      t.fld F.NVM_STAT_BUSY = 1 ∧ t.fld F.NVM_STAT_OPSTEP = 1 ∧
      t.nvm.cmd = some { cmd := 3, typ := ty, id := i, len := s.fld F.NVM_JLEN_LEN, began := s.tick, wait := s.tick })) ∧
  (∀ (o : Origin) (ty i : Fin 256), s.hears o = true → jTurned o 4 ty s = 0 → jCurrent s ty i ≠ none →
    Completes (exec (.journalDelete o ty i) s) (fun t =>
      t.fld F.NVM_STAT_BUSY = 1 ∧ t.fld F.NVM_STAT_OPSTEP = 5 ∧ t.nvm.cmd = some { cmd := 4, typ := ty, id := i, len := 0, began := s.tick })) ∧
  (∀ c : JCmd, s.phase = .running → s.nvm.cmd = some c → c.cmd = 1 → pfVioOn s = false → Completes (exec .journalOpDone s) (fun t =>
      t.nvm.cmd = none ∧ t.fld F.NVM_STAT_BUSY = 0 ∧ t.fld F.NVM_STAT_OPSTEP = 0 ∧ t.fld F.NVM_STAT_JNL_RDY = 1 ∧
      t.fld F.NVM_JRES_RESULT = 0 ∧ t.fld (F.pgInt Pg.nvm 0) = 1)) ∧
  (∀ (c : JCmd) (p : Nat), s.phase = .running → s.nvm.cmd = some c → c.cmd = 3 → c.place = some p → s.fld F.NVM_STAT_OPSTEP = 5 →
    Completes (exec .journalOpDone s) (fun t =>
      t.nvm.cmd = none ∧ t.fld F.NVM_STAT_BUSY = 0 ∧ t.fld F.NVM_JRES_RESULT = 0 ∧ t.fld F.NVM_JSEQ_JSEQ = jNextSeq s % 2 ^ 32 ∧
      jRecord (jBase s + p) c.typ c.id (jNextSeq s) c.got c.got.length 3 ∈ t.nvm.recs)) ∧
  (∀ c : JCmd, s.phase = .running → s.nvm.cmd = some c → c.cmd = 3 → c.place ≠ none → c.got.length < c.len → c.wait + 192000 ≤ s.tick →
    Completes (exec .journalWriteShort s) (fun t =>
      t.nvm.cmd = none ∧ t.fld F.NVM_STAT_BUSY = 0 ∧ t.fld F.NVM_JRES_RESULT = 7 ∧ t.fld (F.pgInt Pg.nvm 1) = 1)) ∧
  (∀ (stage : Fin 4) (c : JCmd), s.phase = .running → s.nvm.cmd = some c → (c.cmd = 3 ∨ c.cmd = 4) → c.began + 960 ≤ s.tick →
    Completes (exec (.flashTimeout stage) s) (fun t =>
      t.nvm.cmd = none ∧ t.fld F.NVM_STAT_BUSY = 0 ∧ t.fld F.NVM_JRES_RESULT = 5 ∧ Reported s t 0x4204 0 0 ∧
      (stage = 0 → t.nvm.recs = s.nvm.recs))) ∧
  (s.phase = .running → s.nvm.boot = 1 → Completes (exec (.bootStart 0) s) (fun t =>
      t.fld F.NVM_STAT_FL_PRESENT = 0 ∧ t.nvm.used = s.nvm.otp ∧ t.nvm.boot = 4 ∧ t.fld F.NVM_BOOT_STAT_RESULT = 2 ∧
      t.fld F.NVM_BOOT_STAT_WAIT_HOST = 1 ∧ t.fld (F.pgInt Pg.nvm 3) = 1)) ∧
  (∀ (jedec : BitVec 24) (c : Nat), s.phase = .running → s.nvm.boot = 1 → s.on F.PWR_STATUS_IO_LEVEL = true → c = jedec.toNat % 256 →
    jedec ≠ 0 → jedec ≠ 0xFFFFFF → 0x14 ≤ c → c ≤ 0x18 → otpLast (otpWords s 0) = none → s.on F.NVM_FL_CFG_HOST_BOOT = false →
    s.on F.NVM_STAT_BUSY = false → s.fld F.FLT_STAT_MC_STATE ≤ 1 → Completes (exec (.bootStart jedec) s) (fun t =>
      t.fld F.NVM_STAT_FL_PRESENT = 1 ∧ t.fld F.NVM_JGEOM_SECTORS = 2 ^ c / 4096 ∧ t.fld F.NVM_JGEOM_BASE = 0 ∧
      t.fld F.NVM_STAT_JGEOM_ERR = 0 ∧ t.nvm.used = s.nvm.otp ∧ t.nvm.boot = 5 ∧ t.fld F.NVM_STAT_BUSY = 1)) ∧
  (∀ (i : Fin 2) (rest : List Nat) (r : JRec) (k : Fin 4), s.phase = .running → s.nvm.boot = 3 → s.nvm.early ≤ s.tick → s.nvm.left = i.val :: rest →
    jCurrent s 1 i = some r → bootJudge s r.body = (1, k.val) → Completes (exec .bootImageCheck s) (fun t =>
      t.fld F.FLT_STAT_MC_STATE = 1 ∧ t.nvm.boot = 0 ∧ t.fld F.NVM_BOOT_STAT_RESULT = 1 ∧ t.fld F.NVM_BOOT_STAT_SRC = 1 ∧
      t.fld F.NVM_BOOT_STAT_SLOT = i ∧ t.fld F.NVM_BOOT_STAT_KEY = k ∧ t.fld F.NVM_BOOT_VER_VERSION = bootVersion r.body % 2 ^ 32)) ∧
  (∀ (i : Nat) (r : JRec) (v k : Nat), s.phase = .running → s.nvm.boot = 3 → s.nvm.early ≤ s.tick → s.nvm.left = [i] → jCurrent s 1 i = some r →
    bootJudge s r.body = (v, k) → v ≠ 1 → Completes (exec .bootImageCheck s) (fun t =>
      t.nvm.boot = 4 ∧ t.fld F.NVM_BOOT_STAT_RESULT = v % 8 ∧ t.fld F.NVM_BOOT_STAT_WAIT_HOST = 1 ∧
      t.fld F.FLT_STAT_MC_STATE = s.fld F.FLT_STAT_MC_STATE)) ∧
  (s.ports = true → hostWaits s = true → Completes (exec .hloadStart s) (fun t =>
      t.nvm.hload = [] ∧ t.fld F.NVM_HLOAD_CNT_HLOAD_CNT = 0)) ∧
  (∀ w : Word, s.ports = true → hostWaits s = true → Completes (exec (.hloadData w) s) (fun t =>
      t.nvm.hload = w :: s.nvm.hload ∧ Counted s t F.NVM_HLOAD_CNT_HLOAD_CNT)) ∧
  (∀ v k : Nat, s.ports = true → hostWaits s = true → s.nvm.early ≤ s.tick → bootJudge s (unpackWords s.nvm.hload.reverse) = (v, k) →
    Completes (exec .hloadGo s) (fun t =>
      t.fld F.NVM_BOOT_STAT_RESULT = v % 8 ∧
      (v = 1 → t.fld F.FLT_STAT_MC_STATE = 1 ∧ t.fld F.NVM_BOOT_STAT_SRC = 2 ∧ t.fld F.NVM_BOOT_STAT_WAIT_HOST = 0 ∧ t.nvm.boot = 0) ∧
      (v ≠ 1 → t.nvm = { s.nvm with boot := 4 } ∧ t.on F.NVM_BOOT_STAT_WAIT_HOST = true))) ∧
  (s.ports = true → hostWaits s = true → s.tick < s.nvm.early → Completes (exec .hloadGo s) (fun t =>
      t = { s with nvm := { s.nvm with boot := 6 } }))

/-- The commands of the I2C controllers and the GPIO pins complete (R567-R570). -/
def Obligations.PeripheralCommandsComplete : Prop := ∀ s : State,
  (∀ (k : Fin 4) (addr : Fin 128) (rlen wlen : Fin 64) (held : Bool), s.ports = true → s.on (F.I2C_CFG_EN k) = true →
    s.fld (F.I2C_STAT_STATE k) ≠ 2 → s.fld (F.I2C_STAT_STATE k) ≠ 3 → Completes (exec (.i2cTransaction k addr rlen wlen held) s) (fun t =>
      t.i2cAt k = ⟨if held then 1 else 2, addr, min 32 rlen, min 32 wlen, i2cBytes s k (min 32 wlen)⟩ ∧ t.fld (F.I2C_STAT_STATE k) = 2)) ∧
  (∀ (k : Fin 4) (nbyte : Fin 64) (rx : List Byte), s.phase = .running → (s.i2cAt k).work = 2 →
    Completes (exec (.i2cTransactionDone k 0 nbyte rx) s) (fun t =>
      (t.i2cAt k).work = 0 ∧ t.fld (F.I2C_STAT_STATE k) = 1 ∧ t.fld (F.I2C_RES_RESULT k) = 0 ∧ t.fld (F.I2C_RES_NBYTE k) = nbyte ∧
      t.fld (F.pgInt Pg.peri 1) = 1 ∧ t.fld (F.I2C_CNT_ERR_CNT k) = s.fld (F.I2C_CNT_ERR_CNT k) ∧
      ∀ j, j < 32 → j < rx.length → j < (s.i2cAt k).rlen →
        (t.word (Adr.I2C_RX k (j / 4))).bits (8 * (j % 4) + 7) (8 * (j % 4)) = (rx.getD j 0).toNat)) ∧
  (∀ (k : Fin 4) (nack : Fin 3) (nbyte : Fin 64) (rx : List Byte), s.phase = .running → (s.i2cAt k).work = 2 → nack ≠ 0 →
    Completes (exec (.i2cTransactionDone k nack nbyte rx) s) (fun t =>
      (t.i2cAt k).work = 0 ∧ t.fld (F.I2C_STAT_STATE k) = 1 ∧ t.fld (F.I2C_RES_RESULT k) = nack ∧
      t.fld (F.I2C_RES_NBYTE k) = nbyte ∧ Counted s t (F.I2C_CNT_ERR_CNT k) ∧ t.fld (F.pgInt Pg.peri 2) = 1)) ∧
  (∀ (k : Fin 4) (nbyte : Fin 64) (mid sda : Bool), s.phase = .running → (s.i2cAt k).work = 2 →
    Completes (exec (.i2cArbLost k nbyte mid sda) s) (fun t =>
      t.fld (F.I2C_RES_RESULT k) = 3 ∧ t.fld (F.I2C_RES_NBYTE k) = nbyte ∧ Counted s t (F.I2C_CNT_ERR_CNT k) ∧
      t.fld (F.pgInt Pg.peri 2) = 1 ∧ t.fld (F.I2C_STAT_STATE k) = (if mid = true ∧ sda = false then 2 else 1) ∧
      (t.i2cAt k).work = (if mid = true ∧ sda = false then 3 else 0))) ∧
  (∀ (k : Fin 4) (nbyte : Fin 64) (mid sda : Bool), s.phase = .running → (s.i2cAt k).work = 1 → s.on (F.I2C_CFG_TOUT k) = true →
    Completes (exec (.i2cTimeout k nbyte mid sda) s) (fun t =>
      t.fld (F.I2C_RES_RESULT k) = 4 ∧ Counted s t (F.I2C_CNT_ERR_CNT k) ∧ t.fld (F.I2C_STAT_STATE k) = 1 ∧ (t.i2cAt k).work = 0)) ∧
  (∀ (k : Fin 4) (sda : Bool), s.ports = true → s.on (F.I2C_CFG_EN k) = true → s.fld (F.I2C_STAT_STATE k) ≠ 2 →
    Completes (exec (.i2cBusClear k sda) s) (fun t =>
      (t.i2cAt k).work = (if sda then 0 else 3) ∧ t.fld (F.I2C_STAT_STATE k) = (if sda then 1 else 2) ∧
      (sda = false → Counted s t (F.I2C_CNT_CLR_CNT k)))) ∧
  (∀ k : Fin 4, s.phase = .running → (s.i2cAt k).work = 3 →
    Completes (exec (.i2cBusClearDone k true) s) (fun t =>
      (t.i2cAt k).work = 0 ∧ t.fld (F.I2C_STAT_STATE k) = 1 ∧ t.fld (F.I2C_RES_RESULT k) = 7) ∧
    Completes (exec (.i2cBusClearDone k false) s) (fun t =>
      (t.i2cAt k).work = 0 ∧ t.fld (F.I2C_STAT_STATE k) = 3 ∧ t.fld (F.I2C_RES_RESULT k) = 5 ∧ t.fld (F.pgInt Pg.peri 3) = 1 ∧
      Reported s t 0x41C1 k 0)) ∧
  (∀ (k : Fin 4) (sda : Bool), s.ports = true → s.on (F.I2C_CFG_EN k) = false → Completes (exec (.i2cEnable k sda) s) (fun t =>
      t.fld (F.I2C_CFG_EN k) = 1 ∧ (t.i2cAt k).work = (if sda then 0 else 3) ∧
      t.fld (F.I2C_STAT_STATE k) = (if sda then 1 else 2))) ∧
  (∀ k : Fin 4, s.phase = .running → (s.i2cAt k).work = 1 → Completes (exec (.i2cOtherStop k) s) (fun t =>
      t.i2cAt k = { s.i2cAt k with work := 2 } ∧ t.regs = s.regs)) ∧
  (∀ (n : Fin 32) (rise : Bool), s.phase = .running → Completes (exec (.gpioEdge n rise) s) (fun t =>
      t.gpio = (gpioDriven n rise s).gpio ∧ t.word Adr.GPIO_IN = gpioLevel (gpioDriven n rise s) ∧
      ((s.word Adr.GPIO_DIR).getLsbD n = false → (t.word Adr.GPIO_IN).getLsbD n = rise) ∧
      (∀ j, j < 32 → (t.word Adr.GPIO_EVT).getLsbD j = ((s.word Adr.GPIO_EVT).getLsbD j ||
        ((s.word Adr.GPIO_IN).getLsbD j != (t.word Adr.GPIO_IN).getLsbD j &&
          (s.word (if (t.word Adr.GPIO_IN).getLsbD j then Adr.GPIO_RISE else Adr.GPIO_FALL)).getLsbD j))))) ∧
  (∀ bits : Word, s.ports = true → Completes (exec (.gpioSet bits) s) (fun t =>
      t.word Adr.GPIO_OUT = s.word Adr.GPIO_OUT ||| bits ∧
      t.word Adr.GPIO_IN = gpioLevel (s.setWord Adr.GPIO_OUT (s.word Adr.GPIO_OUT ||| bits)) ∧
      t.word Adr.GPIO_IN &&& s.word Adr.GPIO_DIR = (s.word Adr.GPIO_OUT ||| bits) &&& s.word Adr.GPIO_DIR)) ∧
  (∀ bits : Word, s.ports = true → Completes (exec (.gpioClr bits) s) (fun t =>
      t.word Adr.GPIO_OUT = s.word Adr.GPIO_OUT &&& ~~~bits ∧
      t.word Adr.GPIO_IN = gpioLevel (s.setWord Adr.GPIO_OUT (s.word Adr.GPIO_OUT &&& ~~~bits)) ∧
      t.word Adr.GPIO_IN &&& s.word Adr.GPIO_DIR = (s.word Adr.GPIO_OUT &&& ~~~bits) &&& s.word Adr.GPIO_DIR))

/-- The commands of the JTAG port complete (R600). -/
def Obligations.JtagCommandsComplete : Prop := ∀ (s : State) (cells preload : List Bool),
  Completes (exec .jtagBypass s) (fun t => t = { s with jtag := { s.jtag with ir := 0, dr := [false] } }) ∧
  Completes (exec .jtagIdcode s) (fun t =>
    t = { s with jtag := { s.jtag with ir := 1, dr := t.jtag.dr } } ∧ t.jtag.dr.length = 32 ∧
    ∀ i, i < 32 → t.jtag.dr.getD i false = (0x19632B5B#32).getLsbD i) ∧
  Completes (exec (.jtagSamplePreload cells preload) s) (fun t => t = { s with jtag := { s.jtag with ir := 2, dr := cells, cells := preload } }) ∧
  Completes (exec (.jtagExtest cells) s) (fun t => t = { s with jtag := { s.jtag with ir := 3, dr := cells, safe := true } }) ∧
  Completes (exec .jtagClamp s) (fun t => t = { s with jtag := { s.jtag with ir := 4, dr := [false], safe := true } }) ∧
  Completes (exec .jtagHighz s) (fun t => t = { s with jtag := { s.jtag with ir := 5, dr := [false], safe := true } })

/-- What the commands of the stitch links leave as it is: registers outside the listed ones, and all state that is not set aside. -/
def Obligations.LinkFrames : Prop := ∀ s : State,
  (∀ (d : Fin 4) (words : List (BitVec 128)), Frames (.dataBurstSend d words) s []
      (fun u => { u with link := { u.link with dirs := SMap.erase u.link.dirs d } })) ∧
  (∀ (d : Fin 4) (cyc : Fin 5120), Frames (.controlBurstSend d cyc) s []
      (fun u => { u with
          cyc := 0, link := { u.link with dirs := SMap.erase u.link.dirs d }, svc := { u.svc with flight := [] } })) ∧
  (∀ (d : Fin 4) (b : BurstIn), Frames (.stitchBurstReceive d b) s ([Adr.FLT_LINK_B d] ++ Adr.logRegs)
      (fun u => { u with link := {}, flt := {} })) ∧
  (∀ (d : Fin 4) (w : Fin 4), Frames (.burstWindowTimeout d w) s []
      (fun u => { u with cyc := 0, link := { u.link with dirs := SMap.erase u.link.dirs d } })) ∧
  (∀ (d : Fin 4) (bsn : Fin 4294967296), Frames (.retryRequest d bsn) s []
      (fun u => { u with link := { u.link with dirs := SMap.erase u.link.dirs d } })) ∧
  (∀ (d : Fin 4) (a : Bool), Frames (.burstReplay d a) s [Adr.FLT_LINK_A d]
      (fun u => { u with cyc := 0, link := { u.link with dirs := SMap.erase u.link.dirs d } })) ∧
  (∀ (l : Fin 2), Frames (.linkTrainingAnswer l) s [Adr.FLT_LINK_B (2*l), Adr.FLT_LINK_B (2*l+1)] id) ∧
  (∀ (l : Fin 2), Frames (.lanesTrained l) s [Adr.FLT_LINK_B (2*l), Adr.FLT_LINK_B (2*l+1)]
      (fun u => { u with link := {}, svc := { u.svc with intFrom := none } })) ∧
  (∀ (l : Fin 2), Frames (.liveConfigTransferDone l) s [Adr.FLT_LINK_B (2*l), Adr.FLT_LINK_B (2*l+1)] id) ∧
  (∀ (d : Fin 4) (seq : Nat) (ok : Bool), Frames (.creditSetReceive d seq ok) s ([Adr.FLT_LINK_B (2 * (d / 2)),
      Adr.FLT_LINK_B (2 * (d / 2) + 1)] ++ Adr.logRegs)
      (fun u => { u with link := {}, flt := {}, svc := { u.svc with flight := [] } })) ∧
  Frames .eccWriteBack s [] (fun u => { u with link := { u.link with eccWait := [] } })

/-- What the commands of clocks, supplies and the core voltage loop leave as it is: registers outside the listed ones, and all
    state that is not set aside. -/
def Obligations.ClockAndPowerFrames : Prop := ∀ s : State,
  (∀ (band : Fin 64) (after : Nat), Frames (.pllcLock band after) s ([Adr.CLK_PLL_STAT 0, Adr.CLK_STATUS, Adr.PWR_STATUS,
      Adr.PWR_EVT_CNT, Adr.NET_BR_STAT] ++ (List.range 4).map Adr.FLT_LINK_B ++ (List.range 4).flatMap (fun p =>
      [Adr.PORT_STAT p, Adr.PORT_CNT5 p, (F.pgInt (Pg.port p) 0).addr]) ++ Adr.logRegs)
      (fun u => { u with
          clk := {}, cyc := 0, tick := 0, phase := .held, pwr := { u.pwr with vioNew := false },
          nvm := { u.nvm with early := 0 }, flt := {}, link := {}, net := { u.net with ports := [], table := [] },
          svc := { u.svc with flight := [] } })) ∧
  Frames .pllcSearchFail s [Adr.PWR_RST_CAUSE, Adr.CLK_PLL_STAT 0] (fun u => { u with clk := {} }) ∧
  (∀ (nref : Bool) (edges : Nat) (low : Bool), Frames (.refQualWindow nref edges low) s [Adr.CLK_STATUS, Adr.CLK_PLL_STAT 3]
      (fun u => { u with clk := {}, spk := { u.spk with good := 0 }, flt := { u.flt with reports := [] } })) ∧
  (∀ (low : Bool), Frames (.refLoss low) s [Adr.CLK_STATUS]
      (fun u => { u with clk := {}, spk := { u.spk with good := 0 }, flt := { u.flt with reports := [] } })) ∧
  Frames .ioscSlewDone s [Adr.CLK_STATUS] (fun u => { u with clk := {} }) ∧
  Frames .refSwitch s [Adr.CLK_STATUS, Adr.CLK_PLL_STAT 1, Adr.CLK_PLL_STAT 2] (fun u => { u with clk := {} }) ∧
  (∀ (pll : Fin 3) (ok : Bool) (band : Fin 64), Frames (.pllLock pll ok band) s ([Adr.CLK_PLL_STAT (pll+1), Adr.CLK_STATUS]
      ++ (List.range 32).map Adr.AIN_MATCH_STAT ++ (List.range 32).map Adr.AIN_STATUS ++ (List.range 32).map (fun n =>
      (F.pgInt (Pg.ain n) 0).addr))
      (fun u => { u with
          clk := {}, ain := { u.ain with ch := [] }, fch := { u.fch with aud := [] },
          link := { u.link with dirs := [], off := [] }, flt := { u.flt with reports := [] } })) ∧
  (∀ (sel : Fin 2), Frames (.refSelChange sel) s [Adr.CLK_REF_CFG, Adr.CLK_STATUS] (fun u => { u with clk := {} })) ∧
  (∀ (pll : Fin 3), Frames (.pllUnlock pll) s [Adr.CLK_PLL_STAT (pll+1), Adr.CLK_STATUS]
      (fun u => { u with clk := {}, spk := { u.spk with good := 0 }, flt := { u.flt with reports := [] } })) ∧
  Frames .pllcUnlock s [Adr.CLK_PLL_STAT 0, Adr.CLK_STATUS]
      (fun u => { u with clk := {}, spk := { u.spk with good := 0 }, flt := { u.flt with reports := [] } }) ∧
  Frames .relockM s [Adr.CLK_PLL_STAT 1, Adr.CLK_STATUS] (fun u => { u with clk := {} }) ∧
  Frames .relockP s [Adr.CLK_PLL_STAT 2, Adr.CLK_STATUS] (fun u => { u with clk := {} }) ∧
  Frames .relockN s [Adr.CLK_PLL_STAT 3, Adr.CLK_STATUS] (fun u => { u with clk := {} }) ∧
  (∀ (cyc : Fin 5120) (err : Int), Frames (.servoSample cyc err) s [Adr.CLK_SERVO_ERR, Adr.CLK_SERVO_STAT, Adr.CLK_STEER]
      (fun u => { u with
          cyc := 0, clk := {}, flt := { u.flt with reports := [] }, fresh := SMap.erase u.fresh Adr.CLK_SERVO_ERR,
          free := 0 })) ∧
  Frames .nrefLoss s [Adr.CLK_STATUS, Adr.CLK_PLL_STAT 3] (fun u => { u with clk := {}, flt := { u.flt with reports := [] }
      }) ∧
  Frames .pvinOvervoltage s [Adr.PWR_STATUS, Adr.PWR_EVT_CNT]
      (fun u => { u with pwr := { u.pwr with pvinHigh := false }, flt := { u.flt with reports := [] } }) ∧
  Frames .pvinOvRecover s [Adr.PWR_STATUS] (fun u => { u with pwr := { u.pwr with pvinHigh := false } }) ∧
  (∀ (full : Bool), Frames (.pvinFullChange full) s [Adr.PWR_STATUS]
      (fun u => { u with pwr := { u.pwr with full := false } })) ∧
  (∀ (low : Bool), Frames (.pfVioChange low) s [Adr.PWR_STATUS]
      (fun u => { u with pwr := { u.pwr with vioLow := false, vioNew := false }, flt := { u.flt with reports := [] } })) ∧
  (∀ (req : Fin 4), Frames (.powerStateRequest req) s [Adr.PWR_STATE_REQ, Adr.PWR_STATUS, Adr.CLK_STATUS, Adr.CLK_PLL_STAT 1,
      Adr.CLK_PLL_STAT 2]
      (fun u => { u with clk := {}, pwr := { u.pwr with step := none } })) ∧
  Frames .powerStateStepDone s ([Adr.PWR_STATUS, Adr.CLK_STATUS, Adr.CLK_PLL_STAT 1, Adr.CLK_PLL_STAT 2] ++ (List.range
      32).map Adr.FCH_CSTAT ++ (List.range 32).map Adr.FCH_CCFG)
      (fun u => { u with clk := {}, pwr := { u.pwr with step := none }, fch := {}, fx := {}, next := [] }) ∧
  Frames .vloopSample s [Adr.PWR_MARGIN, Adr.PWR_VLOOP_STAT]
      (fun u => { u with pwr := {}, fresh := SMap.erase u.fresh Adr.PWR_MARGIN }) ∧
  (∀ (ok : Bool) (complete : Bool) (mv : Nat) (ma : Nat), Frames (.avsTransactionDone ok complete mv ma) s
      [Adr.PWR_VCORE_MEAS, Adr.PWR_ICORE_MEAS, Adr.PWR_VLOOP_STAT]
      (fun u => { u with
          pwr := {}, flt := { u.flt with reports := [] },
          fresh := [Adr.PWR_VCORE_MEAS, Adr.PWR_ICORE_MEAS].foldl SMap.erase u.fresh })) ∧
  (∀ (o : Origin) (k : Fin 4) (data : Word), Frames (.vcoreBoundWrite o k data) s [Adr.PWR_HB_VMIN, Adr.PWR_HB_VMAX,
      Adr.PWR_VCORE_FLOOR, Adr.PWR_VCORE_CEIL, Adr.PWR_VLOOP_STAT, (F.pgViol Pg.pwr).addr]
      (fun u => { u with pwr := {}, shadow := [], shadowMc := [], flt := { u.flt with reports := [], configLogged := [] } }))

/-- What the commands of analog inputs and supervisory converters leave as it is: registers outside the listed ones, and all
    state that is not set aside. -/
def Obligations.AnalogInputAndSupervisoryFrames : Prop := ∀ s : State,
  (∀ (n : Fin 32), Frames (.ainModeStepDone n) s [Adr.AIN_MATCH_STAT n, (F.pgInt (Pg.ain n) 0).addr]
      (fun u => { u with
          ain := { u.ain with ch := SMap.erase u.ain.ch n }, fch := { u.fch with aud := SMap.erase u.fch.aud n } })) ∧
  (∀ (k : Fin 8), Frames (.micbOc k) s [Adr.AIN_MICB_STAT k, (F.pgInt (Pg.ain k) 0).addr]
      (fun u => { u with
          ain := { u.ain with micb := SMap.erase u.ain.micb k, micbOff := SMap.erase u.ain.micbOff k },
          flt := { u.flt with reports := [] } })) ∧
  (∀ (words : List (Fin 64 × BitVec 16)), Frames (.modulatorStatus words) s []
      (fun u => { u with link := { u.link with dirs := SMap.erase u.link.dirs 1 } })) ∧
  (∀ (n : Fin 32), Frames (.mergeReturn n) s [] (fun u => { u with ain := { u.ain with ch := SMap.erase u.ain.ch n } })) ∧
  (∀ (n : Fin 32) (cyc : Fin 5120) (ge : Int) (de : Int), Frames (.matchBlock n cyc ge de) s [Adr.AIN_MATCH_STAT n,
      Adr.AIN_MATCH_OFS n (matchRow (s.ach n).mode), Adr.AIN_MATCH_GAIN n, Adr.AIN_MATCH_DLY n, (F.pgInt (Pg.ain n) 0).addr]
      (fun u => { u with
          cyc := 0, ain := { u.ain with ch := SMap.erase u.ain.ch n },
          fresh := [Adr.AIN_MATCH_GAIN n, Adr.AIN_MATCH_DLY n].foldl SMap.erase u.fresh,
          flt := { u.flt with reports := [] } })) ∧
  (∀ (n : Fin 32), Frames (.ainRestore n) s []
      (fun u => { u with
          ain := { u.ain with ch := SMap.erase u.ain.ch n },
          tests := u.tests.filter (fun r => !(r.unit == 0x11 && r.idx == n)) })) ∧
  (∀ (conv : Fin 2) (slot : Fin 21) (code : Int), Frames (.svcConversion conv slot code) s [Adr.SVC_CHK_CNT]
      (fun u => { u with svc := {} })) ∧
  (∀ (a : Fin 65536) (b : Fin 65536), Frames (.checkSlot a b) s [Adr.SVC_CHECK_EXP, Adr.SVC_CHK_CNT, Adr.SVC_STAT, (F.pgInt
      Pg.svc 0).addr]
      (fun u => { u with svc := {}, link := { u.link with dirs := [] } })) ∧
  (∀ (rank : Fin 3) (cyc : Fin 5120) (conv : Fin 2) (ch : Fin 128) (form : ConvForm), Frames (.urgentRequest rank cyc conv ch
      form) s [Adr.SVC_URG_CNT, (F.pgInt Pg.svc 0).addr]
      (fun u => { u with cyc := 0, svc := {} })) ∧
  Frames .vrefxLoss s [Adr.SVC_STAT] (fun u => { u with svc := {}, link := { u.link with dirs := [] } }) ∧
  (∀ (ref : Fin 4), Frames (.referenceSettled ref) s [Adr.SVC_STAT] (fun u => { u with svc := {} })) ∧
  Frames .svcRestore s [Adr.SVC_STAT] (fun u => { u with svc := {}, tests := u.tests.filter (fun r => r.unit != 0x14) })

/-- What the commands of the filter chain leave as it is: registers outside the listed ones, and all state that is not set aside. -/
def Obligations.FilterFrames : Prop := ∀ s : State,
  (∀ (c : Fin 32), Frames (.controlSampleLate c) s [Adr.FCH_CSTAT c, Adr.FCH_CCNT c, Adr.FCH_CVAL c, (F.pgInt (Pg.fchCtl c)
      0).addr]
      (fun u => { u with
          fch := { u.fch with ctl := SMap.erase u.fch.ctl c, events := [] }, next := SMap.erase u.next (0x40+c),
          fresh := SMap.erase u.fresh (Adr.FCH_CVAL c), flt := { u.flt with reports := [] } })) ∧
  (∀ (c : Fin 32) (k : Fin 2), Frames (.comparatorAmbig c k) s [Adr.FCH_CSTAT c, Adr.FCH_CCNT c, (F.pgInt (Pg.fchCtl c)
      0).addr]
      (fun u => { u with fch := { u.fch with events := [] } })) ∧
  (∀ (c : Fin 32), Frames (.peakCapture c) s [Adr.FCH_CCNT c, (F.pgInt (Pg.fchCtl c) 0).addr]
      (fun u => { u with fch := { u.fch with ctl := SMap.erase u.fch.ctl c, events := [] } })) ∧
  (∀ (c : Fin 32) (k : Fin 2), Frames (.comparatorForceLow c k) s [Adr.FCH_CSTAT c]
      (fun u => { u with fch := { u.fch with ctl := SMap.erase u.fch.ctl c } })) ∧
  (∀ (c : Fin 32) (k : Fin 2), Frames (.comparatorForceHigh c k) s [Adr.FCH_CSTAT c]
      (fun u => { u with fch := { u.fch with ctl := SMap.erase u.fch.ctl c } })) ∧
  (∀ (c : Fin 32) (k : Fin 2), Frames (.comparatorRelease c k) s [Adr.FCH_CSTAT c]
      (fun u => { u with fch := { u.fch with ctl := SMap.erase u.fch.ctl c } })) ∧
  (∀ (control : Bool) (ch : Fin 48) (bank : Fin 2) (data : Word), Frames (.fchBankWrite control ch bank data) s [(if control
      then Adr.FCH_CBANK (ch % 32) bank else Adr.FCH_ABANK ch bank), Adr.FCH_ACNT ch, (F.pgInt (if control then Pg.fchCtl (ch
      % 32) else Pg.fchAudio ch) 0).addr, (F.pgViol (if control then Pg.fchCtl (ch % 32) else Pg.fchAudio ch)).addr]
      (fun u => { u with flt := { u.flt with reports := [] } })) ∧
  (∀ (kind : Fin 4) (idx : Fin 1024), Frames (.swapCrossfadeEnd kind idx) s
      [(match kind with | 0 => Adr.FCH_ASTAT idx | 1 => Adr.BQ_STAT idx | _ => Adr.CV_STAT_FX idx), (F.pgInt (Pg.fchAudio
      idx) 0).addr]
      (fun u => { u with fch := { u.fch with aud := [] }, fx := {} })) ∧
  (∀ (c : Fin 32), Frames (.controlSwapSwitch c) s [Adr.FCH_CCFG c, Adr.FCH_CSTAT c]
      (fun u => { u with fch := { u.fch with ctl := SMap.erase u.fch.ctl c } })) ∧
  (∀ (mac : Fin 9) (src : Fin 80), Frames (.fchResidue mac src) s [Adr.FCH_ERR, Adr.FCH_GUARD, (F.pgInt Pg.fchEvt 0).addr]
      (fun u => { u with fch := { u.fch with eng := {} }, next := [], flt := { u.flt with reports := [] } })) ∧
  Frames .fchRestore s [] (fun u => { u with tests := u.tests.filter (fun r => !(r.unit == 0x13 && r.idx == 0)) })

/-- What the commands of the serial audio ports leave as it is: registers outside the listed ones, and all state that is not set
    aside. -/
def Obligations.SerialPortFrames : Prop := ∀ s : State,
  (∀ (p : Fin 16) (edges : Bool), Frames (.sapSenseEnd p edges) s ([Adr.SAP_STAT p, Adr.SAP_CNT_ERR p, (F.pgInt (Pg.sap p)
      0).addr] ++ s.achRegs (p) ++ s.achRegs ((16+p)))
      (fun u => { u with
          sap := SMap.erase u.sap p, srcc := { u.srcc with x := [p.val, 16+p.val].foldl SMap.erase u.srcc.x },
          flt := { u.flt with reports := [] } })) ∧
  (∀ (p : Fin 16) (bits : Nat) (period : Nat) (line : List Bool), Frames (.sapFrame p bits period line) s ([Adr.SAP_STAT p,
      Adr.SAP_CNT_ERR p, Adr.SAP_CNT_RX p, (F.pgInt (Pg.sap p) 0).addr] ++ s.achRegs (p) ++ s.achRegs ((16+p)))
      (fun u => { u with
          sap := SMap.erase u.sap p, srcc := { u.srcc with x := [p.val, 16+p.val].foldl SMap.erase u.srcc.x },
          flt := { u.flt with reports := [] } })) ∧
  (∀ (p : Fin 16), Frames (.sapClockLoss p) s [Adr.SAP_STAT p, Adr.SAP_CNT_ERR p, (F.pgInt (Pg.sap p) 0).addr]
      (fun u => { u with sap := SMap.erase u.sap p, flt := { u.flt with reports := [] } })) ∧
  (∀ (p : Fin 16), Frames (.sapTxFrameRequest p) s [Adr.SAP_STAT p, Adr.SAP_CNT_TX p, (F.pgInt (Pg.sap p) 0).addr]
      (fun u => { u with
          sap := SMap.erase u.sap p, srcc := { u.srcc with x := SMap.erase u.srcc.x (16+p) },
          flt := { u.flt with reports := [] } })) ∧
  (∀ (p : Fin 16) (tx : Bool), Frames (.sapFadeEnd p tx) s [Adr.SAP_STAT p, (F.pgInt (Pg.sap p) 0).addr]
      (fun u => { u with sap := SMap.erase u.sap p })) ∧
  (∀ (p : Fin 16) (tx : Bool), Frames (.sapRampEnd p tx) s [Adr.SAP_STAT p, (F.pgInt (Pg.sap p) 0).addr]
      (fun u => { u with sap := SMap.erase u.sap p })) ∧
  (∀ (p : Fin 16), Frames (.sapRestart p) s [Adr.SAP_STAT p]
      (fun u => { u with
          sap := SMap.erase u.sap p, srcc := { u.srcc with x := [p.val, 16+p.val].foldl SMap.erase u.srcc.x } }))

/-- What the commands of PDM, S/PDIF, rate conversion and the spine leave as it is: registers outside the listed ones, and all
    state that is not set aside. -/
def Obligations.StreamFrames : Prop := ∀ s : State,
  (∀ (k : Fin 16), Frames (.pdmWakeEnd k) s []
      (fun u => { u with
          spd := { u.spd with mic := SMap.erase u.spd.mic k }, fch := { u.fch with aud := SMap.erase u.fch.aud (32+k) } })) ∧
  (∀ (k : Fin 16), Frames (.pdmStuck k) s [Adr.PDM_STAT, Adr.PDM_CNT, (F.pgInt Pg.pdm 0).addr]
      (fun u => { u with spd := { u.spd with mic := SMap.erase u.spd.mic k }, flt := { u.flt with reports := [] } })) ∧
  (∀ (k : Fin 16), Frames (.pdmRestart k) s [Adr.PDM_STAT]
      (fun u => { u with
          clk := { u.clk with fdivStart := [] }, spd := { u.spd with mic := SMap.erase u.spd.mic k },
          fch := { u.fch with aud := SMap.erase u.fch.aud (32+k) } })) ∧
  (∀ (n : Fin 4) (f : SpdifIn), Frames (.spdifFrame n f) s ([Adr.SPDI_STAT n, Adr.SPDI_CNT1 n, Adr.SPDI_CNT2 n, Adr.SPDI_BLK
      n, (F.pgInt (Pg.spdi n) 0).addr] ++ s.achRegs ((32+n)) ++ Adr.queueRegs (s.fld (F.SPDI_UCFG_UQID n)))
      (fun u => { u with
          spd := { u.spd with rx := SMap.erase u.spd.rx n }, srcc := { u.srcc with x := SMap.erase u.srcc.x (32+n) },
          fresh := SMap.erase u.fresh (Adr.SPDI_BLK n), qmg := u.qmg.apart [(s.fld (F.SPDI_UCFG_UQID n))],
          link := { u.link with eccWait := [] } })) ∧
  (∀ (n : Fin 4) (off : Bool), Frames (.spdifClockLoss n off) s ([Adr.SPDI_STAT n, Adr.SPDI_CNT2 n, (F.pgInt (Pg.spdi n)
      0).addr] ++ s.achRegs ((32+n)))
      (fun u => { u with
          spd := { u.spd with rx := SMap.erase u.spd.rx n }, srcc := { u.srcc with x := SMap.erase u.srcc.x (32+n) },
          flt := { u.flt with reports := [] } })) ∧
  (∀ (n : Fin 4), Frames (.spdifRestart n) s ([Adr.SPDI_STAT n] ++ s.achRegs ((32+n)))
      (fun u => { u with
          spd := { u.spd with rx := SMap.erase u.spd.rx n }, srcc := { u.srcc with x := SMap.erase u.srcc.x (32+n) } })) ∧
  (∀ (g : Fin 36) (ratio : Fin 8388608) (err : Int), Frames (.ratioUpdate g ratio err) s ([Adr.SRC_RATIO, Adr.SRC_CNT2,
      (F.pgInt Pg.src 0).addr] ++ s.achRegs (g))
      (fun u => { u with srcc := { u.srcc with x := SMap.erase u.srcc.x g }, fresh := SMap.erase u.fresh Adr.SRC_RATIO })) ∧
  (∀ (int : Bool) (mac : Fin 9) (chan : Fin 1024) (id : Fin 8192), Frames (.srcResidue int mac chan id) s [Adr.SRC_CNT1]
      (fun u => { u with srcc := {}, next := [], flt := { u.flt with reports := [] } })) ∧
  Frames .spnRestore s [] (fun u => { u with tests := u.tests.filter (fun r => r.unit != 0x18) })

/-- What the commands of the mixer and the effects engines leave as it is: registers outside the listed ones, and all state that
    is not set aside. -/
def Obligations.MixerAndEffectsFrames : Prop := ∀ s : State,
  (∀ (cyc : Fin 5120) (lane : Fin 384) (bus : Fin 192) (data : Word), Frames (.crosspointWrite cyc lane bus data) s
      ([Adr.MIX_GLSTAT] ++ (List.range 256).map Adr.MIX_GL_CTRL)
      (fun u => { u with
          cyc := 0,
          mix := { u.mix with xp := SMap.erase u.mix.xp (xpIdx lane bus), used := [], glide := [], armed := [],
                              bad := SMap.erase u.mix.bad (xpIdx lane bus) } })) ∧
  (∀ (cyc : Fin 5120) (n : Fin 256), Frames (.glideGo cyc n) s ([Adr.MIX_GLSTAT] ++ (List.range 256).map Adr.MIX_GL_CTRL)
      (fun u => { u with cyc := 0, mix := { u.mix with xp := [], used := [], glide := [], armed := [] } })) ∧
  (∀ (cyc : Fin 5120) (n : Fin 256), Frames (.glideStop cyc n) s [Adr.MIX_GLSTAT, Adr.MIX_GL_CTRL n]
      (fun u => { u with
          cyc := 0,
          mix := { u.mix with xp := [], used := [], glide := SMap.erase u.mix.glide n, armed := SMap.erase u.mix.armed n } })) ∧
  (∀ (n : Fin 256), Frames (.glideDone n) s [Adr.MIX_GLSTAT, Adr.MIX_GL_CTRL n, (F.pgInt Pg.mix 0).addr]
      (fun u => { u with
          mix := { u.mix with xp := [], used := [], glide := SMap.erase u.mix.glide n, armed := SMap.erase u.mix.armed n } })) ∧
  (∀ (cyc : Fin 5120) (b : Fin 192), Frames (.busMute cyc b) s [Adr.MIX_BUS b, Adr.MIX_BSTAT b]
      (fun u => { u with cyc := 0, mix := { u.mix with bus := SMap.erase u.mix.bus b } })) ∧
  (∀ (cyc : Fin 5120) (b : Fin 192), Frames (.busUnmute cyc b) s [Adr.MIX_BUS b, Adr.MIX_BSTAT b]
      (fun u => { u with cyc := 0, mix := { u.mix with bus := SMap.erase u.mix.bus b } })) ∧
  (∀ (mac : Fin 17) (cyc : Fin 5120), Frames (.mixResidue mac cyc) s [Adr.MIX_CNT, Adr.MIX_STAT, (F.pgInt Pg.mix 0).addr]
      (fun u => { u with cyc := 0, mix := { u.mix with eng := {} }, flt := { u.flt with reports := [] } })) ∧
  Frames .mixRestore s [] (fun u => { u with tests := u.tests.filter (fun r => !(r.unit == 0x19 && r.idx == 0)) }) ∧
  (∀ (cyc : Fin 5120) (t : Fin 256) (d : Fin 1073741824), Frames (.tapDelayWrite cyc t d) s [Adr.TAP_D t]
      (fun u => { u with cyc := 0, fx := { u.fx with tap := SMap.erase u.fx.tap t } })) ∧
  (∀ (t : Fin 256), Frames (.tapGlideEnd t) s [] (fun u => { u with fx := { u.fx with tap := SMap.erase u.fx.tap t } })) ∧
  (∀ (first : Fin 128) (n : Fin 256), Frames (.convPrep first n) s [Adr.CV_PSTAT, Adr.FX_CNT2]
      (fun u => { u with fx := { u.fx with prep := [], cur := none } })) ∧
  (∀ (g : Fin 128), Frames (.granuleReady g) s [Adr.CV_PSTAT, Adr.CV_RDY (g/32), (F.pgInt Pg.fx 0).addr]
      (fun u => { u with fx := { u.fx with prep := [], cur := none } })) ∧
  (∀ (cyc : Fin 5120) (word : Fin 524288) (data : Word), Frames (.effectPoolWrite cyc word data) s ([Adr.CV_PSTAT,
      Adr.FX_CNT2, (F.pgInt Pg.fx 0).addr, (F.pgViol Pg.fx).addr] ++ (List.range 4).map Adr.CV_RDY)
      (fun u => { u with
          cyc := 0, fx := { u.fx with pool := [], poolBad := [], prep := [], cur := none },
          link := { u.link with eccWait := [] }, flt := { u.flt with reports := [] } })) ∧
  (∀ (eng : Fin 6) (unit : Fin 9) (cyc : Fin 5120), Frames (.fxResidue eng unit cyc) s [Adr.FX_CNT, Adr.FX_GUARD, (F.pgInt
      Pg.fx 0).addr]
      (fun u => { u with cyc := 0, fx := { u.fx with eng := SMap.erase u.fx.eng eng }, flt := { u.flt with reports := [] } })) ∧
  (∀ (c : Fin 32) (n : Fin 1024) (unit : Fin 2), Frames (.partitionResidue c n unit) s [Adr.FX_CNT, Adr.FX_GUARD, (F.pgInt
      Pg.fx 0).addr]
      (fun u => { u with
          fx := { u.fx with eng := SMap.erase u.fx.eng 4, conv := SMap.erase u.fx.conv c },
          flt := { u.flt with reports := [] } })) ∧
  (∀ (e : Fin 6), Frames (.fxRestore e) s []
      (fun u => { u with tests := u.tests.filter (fun r => !(r.unit == 0x1A && r.idx == e)) }))

/-- What the commands of the line and headphone outputs leave as it is: registers outside the listed ones, and all state that is
    not set aside. -/
def Obligations.OutputFrames : Prop := ∀ s : State,
  (∀ (core : Fin 40), Frames (.dacCoreFail core) s []
      (fun u => { u with
          out := SMap.erase u.out (core/2), link := { u.link with dirs := [] },
          tests := u.tests.filter (fun r => !(r.unit == 0x1B && r.idx == core/2)) })) ∧
  (∀ (o : Fin 20), Frames (.coreDisagree o) s []
      (fun u => { u with out := SMap.erase u.out o, link := { u.link with dirs := [] } })) ∧
  (∀ (o : Fin 20), Frames (.outputStageFail o) s []
      (fun u => { u with
          out := SMap.erase u.out o, link := { u.link with dirs := [] },
          tests := u.tests.filter (fun r => !(r.unit == 0x1B && r.idx == o)) })) ∧
  (∀ (o : Fin 20), Frames (.outputIlimTrip o) s [Adr.OUT_STAT o, Adr.OUT_SUMMARY, (F.pgInt Pg.out 0).addr]
      (fun u => { u with out := SMap.erase u.out o, flt := { u.flt with reports := [] } })) ∧
  (∀ (o : Fin 20), Frames (.outputDcTrip o) s [Adr.OUT_STAT o, Adr.OUT_SUMMARY, (F.pgInt Pg.out 0).addr]
      (fun u => { u with out := SMap.erase u.out o, flt := { u.flt with reports := [] } })) ∧
  (∀ (o : Fin 20), Frames (.outputMute o) s [Adr.OUT_CTRL o, Adr.OUT_STAT o, Adr.OUT_SUMMARY] id) ∧
  (∀ (o : Fin 20), Frames (.outputUnmute o) s [Adr.OUT_CTRL o, Adr.OUT_STAT o, Adr.OUT_SUMMARY] id) ∧
  (∀ (o : Fin 20), Frames (.outputRestore o) s []
      (fun u => { u with out := SMap.erase u.out o, tests := u.tests.filter (fun r => !(r.unit == 0x1B && r.idx == o)) })) ∧
  (∀ (o : Fin 20), Frames (.outputPresetSwitch o) s [] (fun u => { u with out := SMap.erase u.out o })) ∧
  (∀ (o : Fin 20), Frames (.powerUpRampStep o) s [Adr.OUT_STAT o, Adr.OUT_SUMMARY]
      (fun u => { u with out := SMap.erase u.out o })) ∧
  (∀ (o : Fin 20), Frames (.powerDownRampStep o) s [Adr.OUT_STAT o, Adr.OUT_SUMMARY]
      (fun u => { u with out := SMap.erase u.out o }))

/-- What the commands of jack sense, CV timers and CV outputs leave as it is: registers outside the listed ones, and all state
    that is not set aside. -/
def Obligations.JackAndControlVoltageFrames : Prop := ∀ s : State,
  (∀ (j : Fin 12), Frames (.jackAmbig j) s [Adr.JK_STAT j, Adr.JACK_CNT, (F.pgInt Pg.jack 0).addr]
      (fun u => { u with jack := { u.jack with events := [] } })) ∧
  (∀ (cyc : Fin 5120) (j : Fin 12), Frames (.jackForceRemoved cyc j) s [Adr.JK_STAT j]
      (fun u => { u with cyc := 0, jack := { u.jack with j := SMap.erase u.jack.j j, bind := [] } })) ∧
  (∀ (cyc : Fin 5120) (j : Fin 12), Frames (.jackForceInserted cyc j) s [Adr.JK_STAT j]
      (fun u => { u with cyc := 0, jack := { u.jack with j := SMap.erase u.jack.j j, bind := [] } })) ∧
  (∀ (cyc : Fin 5120) (j : Fin 12), Frames (.jackForceRelease cyc j) s [Adr.JK_STAT j]
      (fun u => { u with cyc := 0, jack := { u.jack with j := SMap.erase u.jack.j j, bind := [] } })) ∧
  (∀ (o : Fin 28), Frames (.plugWaitEnd o) s []
      (fun u => { u with jack := { u.jack with bind := SMap.erase u.jack.bind o } })) ∧
  (∀ (k : Fin 4), Frames (.timerArm k) s [Adr.TMR_CTRL k, (F.pgInt Pg.cv 0).addr]
      (fun u => { u with cv := { u.cv with tmr := SMap.erase u.cv.tmr k } })) ∧
  (∀ (k : Fin 4), Frames (.timerStop k) s [Adr.TMR_CTRL k]
      (fun u => { u with cv := { u.cv with tmr := SMap.erase u.cv.tmr k } })) ∧
  (∀ (k : Fin 4), Frames (.timerFire k) s ([Adr.TMR_CTRL k, (F.pgInt Pg.cv 0).addr, (F.pgInt Pg.qmg 0).addr, Adr.CV_SUMMARY]
      ++ (List.range 16).map Adr.CV_STAT ++ (List.range 16).map Adr.CV_VOUT ++ (List.range 16).map Adr.CV_CNT1 ++ (List.range
      16).map Adr.CV_CNT2 ++ (List.range 16).map (fun n => Adr.QMG_QSTAT (s.fld (F.CV_CFG_QID n))))
      (fun u => { u with
          cv := { u.cv with tmr := SMap.erase u.cv.tmr k, ch := [] },
          fresh := ((List.range 16).map Adr.CV_VOUT).foldl SMap.erase u.fresh,
          qmg := { u.qmg with
                              queues := ((List.range 16).map (fun n => s.fld (F.CV_CFG_QID n))).foldl SMap.erase u.qmg.queues,
                              returned := [], freeList := 0, freeState := 0, heldTotal := 0, waits := [], quire := [],
                              vb := 0 } })) ∧
  (∀ (n : Fin 16), Frames (.cvIlimTrip n) s [Adr.CV_STAT n, Adr.CV_SUMMARY, (F.pgInt Pg.cv 0).addr]
      (fun u => { u with cv := { u.cv with ch := SMap.erase u.cv.ch n }, flt := { u.flt with reports := [] } })) ∧
  Frames .cvVrefFail s []
      (fun u => { u with
          cv := { u.cv with refBad := false, refAt := 0 }, link := { u.link with dirs := SMap.erase u.link.dirs 1 } }) ∧
  Frames .cvVrefRecover s [Adr.CV_SUMMARY]
      (fun u => { u with cv := { u.cv with refBad := false }, link := { u.link with dirs := SMap.erase u.link.dirs 1 } }) ∧
  Frames .cvRefHoldEnd s [] (fun u => { u with cv := { u.cv with refHold := none } }) ∧
  (∀ (n : Fin 16), Frames (.cvRestore n) s []
      (fun u => { u with
          cv := { u.cv with ch := SMap.erase u.cv.ch n },
          tests := u.tests.filter (fun r => !(r.unit == 0x1D && r.idx == n)) }))

/-- What the commands of the speaker channels and the boost leave as it is: registers outside the listed ones, and all state that
    is not set aside. -/
def Obligations.SpeakerAndBoostFrames : Prop := ∀ s : State,
  (∀ (n : Fin 8), Frames (.spkStart n) s [Adr.SPK_STAT (spkLead n s)]
      (fun u => { u with
          spk := { u.spk with ch := SMap.erase u.spk.ch (spkLead n s) },
          tests := u.tests.filter (fun r => !(r.unit == 0x1E && r.idx == (spkLead n s))) })) ∧
  (∀ (n : Fin 8) (f : Fin 5) (t : Bool), Frames (.spkPrecheckDone n f t) s [Adr.SPK_STAT (spkLead n s), Adr.SPK_Z (spkLead n
      s)]
      (fun u => { u with
          spk := { u.spk with ch := SMap.erase u.spk.ch (spkLead n s) }, link := { u.link with dirs := [] },
          fresh := SMap.erase u.fresh (Adr.SPK_Z (spkLead n s)),
          tests := u.tests.filter (fun r => !(r.unit == 0x1E && r.idx == (spkLead n s))) })) ∧
  (∀ (n : Fin 8) (r : Nat), Frames (.spkIdentDone n r) s [Adr.SPK_STAT (spkLead n s), Adr.SPK_Z (spkLead n s), (F.pgInt
      (Pg.spk (spkLead n s)) 0).addr]
      (fun u => { u with
          spk := { u.spk with ch := SMap.erase u.spk.ch (spkLead n s) }, link := { u.link with dirs := [] },
          fresh := SMap.erase u.fresh (Adr.SPK_Z (spkLead n s)),
          tests := u.tests.filter (fun r => !(r.unit == 0x1E && r.idx == (spkLead n s))) })) ∧
  (∀ (n : Fin 8), Frames (.spkStartDone n) s []
      (fun u => { u with spk := { u.spk with ch := SMap.erase u.spk.ch (spkLead n s) } })) ∧
  (∀ (n : Fin 8) (kind : Fin 4) (term : Bool), Frames (.spkShutdown n kind term) s []
      (fun u => { u with spk := { u.spk with ch := SMap.erase u.spk.ch (spkLead n s) }, link := { u.link with dirs := [] } })) ∧
  (∀ (n : Fin 8), Frames (.spkRetry n) s []
      (fun u => { u with spk := { u.spk with ch := SMap.erase u.spk.ch (spkLead n s) } })) ∧
  (∀ (n : Fin 8), Frames (.spkRetryCountReset n) s []
      (fun u => { u with spk := { u.spk with ch := SMap.erase u.spk.ch (spkLead n s) } })) ∧
  (∀ (n : Fin 8), Frames (.spkClear n) s []
      (fun u => { u with spk := { u.spk with ch := SMap.erase u.spk.ch (spkLead n s) } })) ∧
  (∀ (n : Fin 8) (est : Nat) (quiet : Bool), Frames (.loadModelUpdate n est quiet) s [Adr.SPK_STAT (spkLead n s), Adr.SPK_Z
      (spkLead n s)]
      (fun u => { u with
          spk := { u.spk with ch := SMap.erase u.spk.ch (spkLead n s) }, link := { u.link with dirs := [] },
          fresh := SMap.erase u.fresh (Adr.SPK_Z (spkLead n s)) })) ∧
  (∀ (n : Fin 8) (code : Fin 256), Frames (.spkThermal n code) s []
      (fun u => { u with spk := { u.spk with ch := SMap.erase u.spk.ch (spkLead n s) }, link := { u.link with dirs := [] } })) ∧
  (∀ (n : Fin 8), Frames (.spkThermalReturn n) s [Adr.SPK_STAT (spkLead n s)]
      (fun u => { u with
          spk := { u.spk with ch := SMap.erase u.spk.ch (spkLead n s) },
          tests := u.tests.filter (fun r => !(r.unit == 0x1E && r.idx == (spkLead n s))) })) ∧
  (∀ (n : Fin 8), Frames (.spkSenseFail n) s []
      (fun u => { u with spk := { u.spk with ch := SMap.erase u.spk.ch (spkLead n s) }, link := { u.link with dirs := [] } })) ∧
  (∀ (n : Fin 8), Frames (.spkStageFail n) s []
      (fun u => { u with spk := { u.spk with ch := SMap.erase u.spk.ch (spkLead n s) }, link := { u.link with dirs := [] } })) ∧
  (∀ (n : Fin 8), Frames (.spkDcTrip n) s []
      (fun u => { u with spk := { u.spk with ch := SMap.erase u.spk.ch (spkLead n s) }, link := { u.link with dirs := [] } })) ∧
  (∀ (n : Fin 8), Frames (.spkMute n) s [Adr.SPK_CTRL n] id) ∧
  (∀ (n : Fin 8), Frames (.spkUnmute n) s [Adr.SPK_CTRL n] id) ∧
  (∀ (n : Fin 8), Frames (.spkRestore n) s []
      (fun u => { u with spk := { u.spk with ch := SMap.erase u.spk.ch (spkLead n s) } })) ∧
  Frames .clockMute s ((List.range 8).map (fun n => (F.pgInt (Pg.spk n) 0).addr))
      (fun u => { u with clk := { u.clk with tickErr := false }, spk := {}, link := { u.link with dirs := [] } }) ∧
  Frames .clockMuteRelease s [] (fun u => { u with spk := {} }) ∧
  (∀ (n : Fin 8) (cyc : Fin 5120), Frames (.limitedCycle n cyc) s [Adr.SPK_CNT1 (spkLead n s)]
      (fun u => { u with cyc := 0, spk := { u.spk with ch := SMap.erase u.spk.ch (spkLead n s) } })) ∧
  Frames .boostControlCycle s [] (fun u => { u with bst := { u.bst with st := 0, active := 0, r := 0 } }) ∧
  Frames .boostBypassEntry s [] (fun u => { u with bst := { u.bst with st := 0, active := 0, lowRun := 0 } }) ∧
  Frames .phaseShed s [] (fun u => { u with bst := { u.bst with active := 0, shedRun := 0 } }) ∧
  Frames .boostStart s [] (fun u => { u with bst := { u.bst with st := 0, due := 0, stopped := false } }) ∧
  Frames .boostPrechargeDone s [] (fun u => { u with bst := { u.bst with st := 0, since := 0, r := 0, lowRun := 0 } }) ∧
  (∀ (k : Fin 4), Frames (.boostPhaseFail k) s []
      (fun u => { u with
          bst := { u.bst with st := 0, fault := 0, out := 0, active := 0 }, link := { u.link with dirs := [] } })) ∧
  (∀ (kind : Fin 3), Frames (.boostRailFault kind) s []
      (fun u => { u with bst := { u.bst with st := 0, fault := 0, active := 0 }, link := { u.link with dirs := [] } })) ∧
  (∀ (code : Fin 256), Frames (.boostThermal code) s []
      (fun u => { u with
          bst := { u.bst with temp := 0, hot := false, cool := none, st := 0, heldT := false, active := 0 },
          link := { u.link with dirs := [] } })) ∧
  Frames .boostThermalReturn s [] (fun u => { u with bst := { u.bst with st := 0, heldT := false } }) ∧
  Frames .boostRestore s []
      (fun u => { u with
          bst := { u.bst with testBad := false }, tests := u.tests.filter (fun r => !(r.unit == 0x1F && r.idx == 0)) })

/-- What the commands of the queue manager leave as it is: registers outside the listed ones, and all state that is not set
    aside. -/
def Obligations.QueueFrames : Prop := ∀ s : State,
  Frames .cellGrant s ((qFirstWait s).toList.flatMap (fun w => Adr.queueRegs w.queue))
      (fun u => { u with qmg := u.qmg.apart ((qFirstWait s).toList.map (·.queue)), link := { u.link with eccWait := [] } }) ∧
  (∀ (q : Fin 4096) (r : Nat) (k : Nat) (u : Nat) (w : List Word), Frames (.cellRequest q r k u w) s (Adr.queueRegs q)
      (fun u => { u with qmg := u.qmg.apart [q], link := { u.link with eccWait := [] } })) ∧
  (∀ (q : Fin 4096) (r : Nat) (k : Nat) (u : Nat) (d : Nat), Frames (.signatureClose q r k u d) s (Adr.queueRegs q)
      (fun u => { u with qmg := u.qmg.apart [q], link := { u.link with eccWait := [] } })) ∧
  (∀ (q : Fin 4096) (ecc : Fin 3), Frames (.queueRead q ecc) s [Adr.QMG_QSTAT q, Adr.QMG_CNT1, (F.pgInt Pg.qmg 0).addr]
      (fun u => { u with
          qmg := { u.qmg.apart [q] with quire := [], vb := 0 }, link := { u.link with eccWait := [] },
          flt := { u.flt with reports := [] } })) ∧
  Frames .queueFlush s [Adr.QMG_QSTAT (qSel s), Adr.QMG_QCNT (qSel s), Adr.QMG_STAT, (F.pgInt Pg.qmg 0).addr]
      (fun u => { u with qmg := u.qmg.apart [qSel s], link := { u.link with eccWait := [] } }) ∧
  Frames .bookmarkSet s [Adr.QMG_QSTAT (qSel s), Adr.QMG_STAT, (F.pgInt Pg.qmg 0).addr]
      (fun u => { u with qmg := u.qmg.apart [qSel s], link := { u.link with eccWait := [] } }) ∧
  Frames .bookmarkRelease s [Adr.QMG_QSTAT (qSel s), Adr.QMG_STAT, (F.pgInt Pg.qmg 0).addr]
      (fun u => { u with qmg := u.qmg.apart [qSel s], link := { u.link with eccWait := [] } }) ∧
  Frames .bookmarkClear s [Adr.QMG_QSTAT (qSel s), Adr.QMG_STAT, (F.pgInt Pg.qmg 0).addr]
      (fun u => { u with qmg := u.qmg.apart [qSel s], link := { u.link with eccWait := [] } }) ∧
  Frames .bookmarkRewind s [Adr.QMG_STAT]
      (fun u => { u with qmg := { u.qmg with queues := SMap.erase u.qmg.queues (qSel s) }, free := 0 }) ∧
  (∀ (port : Fin 64) (data : Word), Frames (.windowWrite port data) s [Adr.WP_CNT port, Adr.QMG_QSTAT (winWq s port),
      Adr.QMG_QCNT (winWq s port), (F.pgInt Pg.qmg 0).addr]
      (fun u => { u with qmg := u.qmg.apart [((winWq s port))], link := { u.link with eccWait := [] } })) ∧
  (∀ (port : Fin 64) (drop : Fin 4), Frames (.windowClose port drop) s [Adr.WP_CNT port, Adr.QMG_QSTAT (winWq s port),
      Adr.QMG_QCNT (winWq s port), (F.pgInt Pg.qmg 0).addr]
      (fun u => { u with qmg := u.qmg.apart [((winWq s port))], link := { u.link with eccWait := [] } })) ∧
  (∀ (port : Fin 64), Frames (.windowAbort port) s [Adr.QMG_QSTAT (winWq s port), Adr.QMG_QCNT (winWq s port), (F.pgInt
      Pg.qmg 0).addr]
      (fun u => { u with qmg := u.qmg.apart [((winWq s port))], link := { u.link with eccWait := [] } })) ∧
  (∀ (port : Fin 64) (o : Origin) (ecc : Fin 3), Frames (.windowRead port o ecc) s [Adr.WP_CNT port, Adr.QMG_QSTAT (winRq s
      port), Adr.QMG_CNT1, (F.pgInt Pg.qmg 0).addr]
      (fun u => { u with
          qmg := u.qmg.apart [((winRq s port))], link := { u.link with eccWait := [] }, flt := { u.flt with reports := [] },
          readData := SMap.erase u.readData o.num })) ∧
  (∀ (port : Fin 64), Frames (.windowSkip port) s [Adr.QMG_QSTAT (winRq s port), (F.pgInt Pg.qmg 0).addr]
      (fun u => { u with qmg := u.qmg.apart [((winRq s port))], link := { u.link with eccWait := [] } })) ∧
  Frames .qmgSweepDone s [Adr.QMG_STAT, Adr.QMG_CNT3, (F.pgInt Pg.qmg 0).addr] (fun u => { u with qmg := {} })

/-- What the commands of the Ethernet ports and the bridge leave as it is: registers outside the listed ones, and all state that
    is not set aside. -/
def Obligations.NetworkFrames : Prop := ∀ s : State,
  (∀ (p : Fin 5) (w : EthIn), Frames (.ethFrameReceive p w) s ([Adr.PORT_CNT0 p, Adr.PORT_CNT1 p, Adr.PORT_CNT2 p,
      Adr.PORT_CNT3 p, Adr.PORT_STAT p, Adr.NET_BR_STAT, Adr.NET_BR_CNT2, Adr.TIME_TS_CNT, Adr.QMG_CNT2, (F.pgInt (Pg.port p)
      0).addr, (F.pgInt Pg.net 0).addr, (F.pgInt Pg.qmg 0).addr] ++ (s.netQueues ++ (rxCfg w s).netQueues).flatMap
      Adr.queueRegs)
      (fun u => { u with
          cyc := 0, net := {}, qmg := u.qmg.apart (s.netQueues ++ (rxCfg w s).netQueues),
          link := { u.link with eccWait := [] }, time := { u.time with tsSeq := [] }, flt := { u.flt with reports := [] } })) ∧
  (∀ (w : PortAt 5) (q : Fin 4096) (e : Bool), Frames (.rxWaitExpire w q e) s ([Adr.PORT_CNT2 w.p, Adr.QMG_CNT2, (F.pgInt
      (Pg.port w.p) 0).addr, (F.pgInt Pg.qmg 0).addr] ++ (q.val :: (s.prt w.p).fifo.map (·.q)).flatMap (fun q =>
      [Adr.QMG_QSTAT q, Adr.QMG_QCNT q]))
      (fun u => { u with
          cyc := 0, net := { u.net with ports := SMap.erase u.net.ports w.p },
          qmg := u.qmg.apart (q.val :: (s.prt w.p).fifo.map (·.q)), link := { u.link with eccWait := [] } })) ∧
  (∀ (cyc : Fin 5120), Frames (.learnEventApply cyc) s [Adr.NET_BR_STAT, Adr.NET_BR_CNT1, Adr.NET_BR_CNT2, (F.pgInt Pg.net
      0).addr]
      (fun u => { u with cyc := 0, net := { u.net with learn := [], table := [] } })) ∧
  (∀ (cyc : Fin 5120) (p : Fin 5), Frames (.egressFrameStart cyc p) s ([Adr.PORT_CNT5 p, Adr.PORT_CNT7 p, Adr.QMG_CNT2,
      Adr.TIME_TS_CNT, (F.pgInt (Pg.port p) 0).addr, (F.pgInt Pg.qmg 0).addr] ++ s.netQueues.flatMap Adr.queueRegs)
      (fun u => { u with
          cyc := 0, net := { u.net with ports := SMap.erase u.net.ports p }, qmg := u.qmg.apart s.netQueues,
          link := { u.link with eccWait := [] }, time := { u.time with tsSeq := [] }, flt := { u.flt with reports := [] } })) ∧
  (∀ (w : PortAt 4) (sent : Nat), Frames (.expressPreempt w sent) s ([Adr.PORT_CNT5 w.p, Adr.PORT_CNT7 w.p, Adr.QMG_CNT2,
      Adr.TIME_TS_CNT, (F.pgInt (Pg.port w.p) 0).addr, (F.pgInt Pg.qmg 0).addr] ++ s.netQueues.flatMap Adr.queueRegs)
      (fun u => { u with
          cyc := 0, net := { u.net with ports := SMap.erase u.net.ports w.p }, qmg := u.qmg.apart s.netQueues,
          link := { u.link with eccWait := [] }, time := { u.time with tsSeq := [] }, flt := { u.flt with reports := [] } })) ∧
  (∀ (cyc : Fin 5120) (p : Fin 5), Frames (.egressFrameEnd cyc p) s ([Adr.PORT_CNT4 p, Adr.PORT_STAT p, (F.pgInt Pg.qmg
      0).addr] ++ s.netQueues.flatMap Adr.queueRegs)
      (fun u => { u with
          cyc := 0, net := { u.net with ports := SMap.erase u.net.ports p }, qmg := u.qmg.apart s.netQueues,
          link := { u.link with eccWait := [] } })) ∧
  (∀ (w : PortAt 4), Frames (.preemptHold w) s [Adr.PORT_STAT w.p] (fun u => { u with cyc := 0 })) ∧
  (∀ (p : Fin 4), Frames (.verifyTimer p) s [Adr.PORT_STAT p, (F.pgInt (Pg.port p) 0).addr]
      (fun u => { u with net := { u.net with ports := SMap.erase u.net.ports p }, flt := { u.flt with reports := [] } })) ∧
  (∀ (p : Fin 4) (sp : Fin 3) (half : Bool), Frames (.ethLinkUp p sp half) s [Adr.PORT_STAT p, (F.pgInt (Pg.port p) 0).addr]
      (fun u => { u with net := { u.net with ports := SMap.erase u.net.ports p } })) ∧
  (∀ (p : Fin 4), Frames (.ethLinkDown p) s [Adr.PORT_STAT p, Adr.PORT_CNT5 p, Adr.NET_BR_STAT, (F.pgInt (Pg.port p) 0).addr]
      (fun u => { u with
          net := { u.net with ports := SMap.erase u.net.ports p, table := [] }, flt := { u.flt with reports := [] } })) ∧
  (∀ (c : CollisionIn), Frames (.t1sCollision c) s [Adr.PORT_CNT6 4, Adr.PORT_CNT7 4]
      (fun u => { u with cyc := 0, net := { u.net with ports := SMap.erase u.net.ports 4 } })) ∧
  (∀ (cyc : Fin 5120), Frames (.t1sBackoffEnd cyc) s [Adr.PORT_CNT5 4, (F.pgInt (Pg.port 4) 0).addr]
      (fun u => { u with
          cyc := 0, net := { u.net with ports := SMap.erase u.net.ports 4 }, flt := { u.flt with reports := [] } })) ∧
  Frames .t1sJabber s [Adr.PORT_STAT 4, Adr.PORT_CNT5 4, (F.pgInt (Pg.port 4) 0).addr]
      (fun u => { u with net := { u.net with ports := SMap.erase u.net.ports 4 }, flt := { u.flt with reports := [] } }) ∧
  Frames .t1sJabberEnd s [Adr.PORT_STAT 4] id ∧
  Frames .bridgeAgeingScan s [Adr.NET_BR_STAT] (fun u => { u with net := { u.net with table := [] } }) ∧
  Frames .tableLookup s [Adr.NET_TBL_RES, Adr.NET_BR_STAT, Adr.NET_BR_CNT1, Adr.NET_BR_CNT2, (F.pgInt Pg.net 0).addr]
      (fun u => { u with fresh := SMap.erase u.fresh Adr.NET_TBL_RES, net := { u.net with learn := [], table := [] } }) ∧
  (∀ (port : Fin 8), Frames (.tableAddStatic port) s [Adr.NET_TBL_RES, Adr.NET_BR_STAT, Adr.NET_BR_CNT1, Adr.NET_BR_CNT2,
      (F.pgInt Pg.net 0).addr]
      (fun u => { u with fresh := SMap.erase u.fresh Adr.NET_TBL_RES, net := { u.net with learn := [], table := [] } })) ∧
  Frames .tableDelete s [Adr.NET_TBL_RES, Adr.NET_BR_STAT, Adr.NET_BR_CNT1, Adr.NET_BR_CNT2, (F.pgInt Pg.net 0).addr]
      (fun u => { u with fresh := SMap.erase u.fresh Adr.NET_TBL_RES, net := { u.net with learn := [], table := [] } }) ∧
  (∀ (port : Fin 8), Frames (.tableFlushPort port) s [Adr.NET_TBL_RES, Adr.NET_BR_STAT, Adr.NET_BR_CNT1, Adr.NET_BR_CNT2,
      (F.pgInt Pg.net 0).addr]
      (fun u => { u with fresh := SMap.erase u.fresh Adr.NET_TBL_RES, net := { u.net with learn := [], table := [] } })) ∧
  Frames .tableFlushAll s [Adr.NET_TBL_RES, Adr.NET_BR_STAT, Adr.NET_BR_CNT1, Adr.NET_BR_CNT2, (F.pgInt Pg.net 0).addr]
      (fun u => { u with fresh := SMap.erase u.fresh Adr.NET_TBL_RES, net := { u.net with learn := [], table := [] } })

/-- What the commands of the time base and the Zinkor Link leave as it is: registers outside the listed ones, and all state that
    is not set aside. -/
def Obligations.TimeFrames : Prop := ∀ s : State,
  Frames .timeCommit s [] (fun u => { u with time := { u.time with pend := none } }) ∧
  Frames .timeMapApply s [Adr.TIME_STAT, Adr.TIME_CAL_DATE, Adr.TIME_CAL_TIME, (F.pgInt Pg.time 0).addr]
      (fun u => { u with time := {} }) ∧
  Frames .gptpStale s [Adr.TIME_STAT, (F.pgInt Pg.time 0).addr] (fun u => { u with flt := { u.flt with reports := [] } }) ∧
  Frames .domainTickUpdate s ([Adr.TIME_STAT, Adr.TIME_DOFS 0, Adr.TIME_DOFS 1, Adr.TIME_PHASE, (F.pgInt Pg.time 0).addr] ++
      (List.range 64).map Adr.TX_TSTATE ++ (List.range 64).map Adr.RX_STAT)
      (fun u => { u with
          time := { u.time with dofs := 0 }, zkl := {}, fresh := SMap.erase u.fresh Adr.TIME_PHASE,
          flt := { u.flt with reports := [] } }) ∧
  (∀ (n : Fin 64), Frames (.zklFrameLink n) s ([Adr.TX_CNT n, (F.pgInt Pg.qmg 0).addr] ++ (List.range 4).flatMap (fun p =>
      Adr.queueRegs (ztxQueue n p s)))
      (fun u => { u with
          cyc := 0, zkl := { u.zkl with tx := SMap.erase u.zkl.tx n },
          qmg := u.qmg.apart ((List.range 4).map (fun p => ztxQueue n p s)), link := { u.link with eccWait := [] } })) ∧
  (∀ (xlate : Bool), Frames (.zklFrameJudge xlate) s ([Adr.ZKL_CNT, Adr.QMG_CNT2, (F.pgInt Pg.zkl 0).addr, (F.pgInt Pg.zklRx
      0).addr, (F.pgInt Pg.qmg 0).addr] ++ (List.range 64).map Adr.RX_CNT1 ++ (List.range 64).map Adr.RX_CNT2 ++ (List.range
      64).map Adr.RX_CNT3 ++ (List.range 64).map Adr.RX_STAT ++ s.netQueues.flatMap Adr.queueRegs)
      (fun u => { u with
          zkl := {}, qmg := u.qmg.apart s.netQueues, link := { u.link with eccWait := [] },
          flt := { u.flt with reports := [] } })) ∧
  (∀ (cyc : Fin 8192), Frames (.timeConvert cyc) s [] (fun u => { u with time := { u.time with cvt := none } })) ∧
  Frames .timeConvertResult s (Adr.cvtRegs)
      (fun u => { u with time := { u.time with cvt := none }, fresh := Adr.cvtRegs.foldl SMap.erase u.fresh }) ∧
  Frames .calendarSecond s [Adr.TIME_STAT, Adr.TIME_CAL_DATE, Adr.TIME_CAL_TIME, (F.pgInt Pg.time 0).addr]
      (fun u => { u with time := { u.time with cal := 0, calTick := 0 } }) ∧
  Frames .leapSecond s [Adr.TIME_STAT, Adr.TIME_UTC, Adr.TIME_CAL_DATE, Adr.TIME_CAL_TIME, (F.pgInt Pg.time 0).addr]
      (fun u => { u with time := { u.time with cal := 0, calTick := 0 } })

/-- What the commands of the register path, the mailbox and the press leave as it is: registers outside the listed ones, and all
    state that is not set aside. -/
def Obligations.HostAndPressFrames : Prop := ∀ s : State,
  (∀ (o : Origin) (page : Fin 290), Frames (.counterClear o page) s (Adr.ofPage page.val ++ (if page.val = Pg.qmg then
      (List.range 4096).map Adr.QMG_QCNT else []))
      (fun u => { u with flt := { u.flt with reports := [], configLogged := [] } })) ∧
  (∀ (page : Fin 290), Frames (.interruptTest page) s [(F.pgInt page 0).addr] id) ∧
  (∀ (addr : Fin 16777216) (bits : Word) (again : Word), Frames (.w1cClear addr bits again) s [(regAddr addr s)] id) ∧
  (∀ (o : Origin) (page : Fin 290), Frames (.pageLock o page) s (Adr.headerOf page.val)
      (fun u => { u with flt := { u.flt with reports := [], configLogged := [] } })) ∧
  Frames .hpbStrobeConflict s [Adr.HOST_ERR, (F.pgInt Pg.host 0).addr] id ∧
  Frames .qsBadcmd s [Adr.HOST_ERR, (F.pgInt Pg.host 0).addr] id ∧
  Frames .qsPart s [Adr.HOST_ERR2, (F.pgInt Pg.host 0).addr] id ∧
  Frames .i2ctPart s [Adr.HOST_ERR2, (F.pgInt Pg.host 0).addr] id ∧
  (∀ (o : Origin) (addr : Fin 16777216), Frames (.latchedGroupRead o addr) s []
      (fun u => { u with
          fresh := SMap.erase u.fresh (regAddr addr s), latch := [], portAddr := SMap.erase u.portAddr o.num,
          readData := SMap.erase u.readData o.num, spn := { u.spn with read := [] } })) ∧
  (∀ (o : Origin) (addr : Fin 16777216), Frames (.resultRegisterRead o addr) s [Adr.QMG_CNT1, Adr.WP_CNT ((addr.val -
      0x800000) / 0x1000), (F.pgInt Pg.qmg 0).addr, Adr.QMG_QSTAT (winRq s ((addr.val - 0x800000) / 0x1000))]
      (fun u => { u with
          fresh := SMap.erase u.fresh (regAddr addr s), latch := [], portAddr := SMap.erase u.portAddr o.num,
          readData := SMap.erase u.readData o.num, spn := { u.spn with read := [] },
          qmg := u.qmg.apart [(winRq s ((addr.val - 0x800000) / 0x1000))], link := { u.link with eccWait := [] },
          flt := { u.flt with reports := [] } })) ∧
  (∀ (len : Fin 128), Frames (.mboxSend len) s [Adr.MBOX_STAT, Adr.MBOX_CNT, Adr.MBOX_H2M_LEN] id) ∧
  Frames .mboxTake s [Adr.MBOX_STAT, (F.pgInt Pg.mbox 0).addr] id ∧
  (∀ (words : List Word), Frames (.mboxPost words) s ([Adr.MBOX_STAT, Adr.MBOX_M2H_LEN, (F.pgInt Pg.mbox 0).addr] ++
      (List.range 64).map Adr.M2H_DATA) id) ∧
  Frames .mboxAck s [Adr.MBOX_STAT] id ∧
  Frames .mcReady s [Adr.MBOX_STAT, (F.pgInt Pg.mbox 0).addr] id ∧
  (∀ (o : Origin), Frames (.collate o) s [Adr.PRESS_STAT, Adr.PRESS_CNT2] (fun u => { u with press := {} })) ∧
  (∀ (o : Origin), Frames (.press o) s [Adr.PRESS_STAT, Adr.PRESS_CNT2] (fun u => { u with press := {} })) ∧
  Frames .withdraw s ([Adr.PRESS_STAT, Adr.PRESS_RES, Adr.PRESS_CNT2, (F.pgInt Pg.press 0).addr] ++ (List.range 48).map
      Adr.FCH_ASTAT ++ (List.range 32).map Adr.FCH_CSTAT ++ (List.range 128).map Adr.BQ_STAT ++ (List.range 32).map
      Adr.CV_STAT_FX)
      (fun u => { u with
          press := {}, image := [], imageMc := [], fresh := SMap.erase u.fresh Adr.PRESS_RES,
          link := { u.link with dirs := [] } }) ∧
  Frames .revert s [Adr.PRESS_STAT, Adr.PRESS_CNT2] (fun u => { u with shadow := [], shadowMc := [] }) ∧
  Frames .pressAnnounce s [Adr.PRESS_STAT] (fun u => { u with press := {}, link := { u.link with dirs := [] } }) ∧
  (∀ (seq : Nat) (cyc : Fin 5120), Frames (.pressCommitPoint seq cyc) s ([Adr.PRESS_STAT, Adr.PRESS_RES, Adr.PRESS_CNT,
      Adr.PRESS_CNT2, (F.pgInt Pg.press 0).addr] ++ (List.range 48).map Adr.FCH_ASTAT ++ (List.range 32).map Adr.FCH_CSTAT ++
      (List.range 128).map Adr.BQ_STAT ++ (List.range 32).map Adr.CV_STAT_FX)
      (fun u => { u with
          cyc := 0, press := {}, link := { u.link with dirs := [] }, image := [], imageMc := [],
          fresh := SMap.erase u.fresh Adr.PRESS_RES, flt := { u.flt with reports := [] } }))

/-- What the commands of the fault manager leave as it is: registers outside the listed ones, and all state that is not set
    aside. -/
def Obligations.FaultFrames : Prop := ∀ s : State,
  Frames .fltLockstepMismatch s (Adr.logRegs) (fun u => { u with flt := {} }) ∧
  Frames .logRecordSend s [Adr.FLT_LOG_STAT, Adr.QMG_CNT2, Adr.QMG_QSTAT (s.fld F.FLT_LOG_CFG_LOGQ), Adr.QMG_QCNT (s.fld
      F.FLT_LOG_CFG_LOGQ), (F.pgInt Pg.qmg 0).addr]
      (fun u => { u with
          flt := {}, qmg := u.qmg.apart [((s.fld F.FLT_LOG_CFG_LOGQ))], link := { u.link with eccWait := [] } }) ∧
  (∀ (o : Origin), Frames (.faultAck o) s [Adr.FLT_PEND, (F.pgViol Pg.flt).addr] (fun u => { u with flt := {} })) ∧
  (∀ (o : Origin), Frames (.logClear o) s [Adr.FLT_LOG_STAT, (F.pgViol Pg.flt).addr] (fun u => { u with flt := {} })) ∧
  (∀ (o : Origin) (w : Fin 3) (bits : Word), Frames (.isolateSet o w bits) s [Adr.FLT_ISO w, Adr.FLT_ISO_CNT, (F.pgViol
      Pg.flt).addr, (F.pgInt Pg.flt 0).addr]
      (fun u => { u with flt := { u.flt with why := [], reports := [], configLogged := [], returns := [] } })) ∧
  (∀ (o : Origin) (w : Fin 3) (bits : Word), Frames (.isolateClear o w bits) s [Adr.FLT_ISO w, Adr.FLT_ISO_CNT, Adr.FLT_STAT,
      (F.pgViol Pg.flt).addr]
      (fun u => { u with flt := {} })) ∧
  (∀ (trigger : Fin 6), Frames (.isolationAutoReturn trigger) s ((List.range 3).map Adr.FLT_ISO)
      (fun u => { u with flt := { u.flt with why := [], returns := [] } })) ∧
  (∀ (o : Origin), Frames (.lockAll o) s ([Adr.FLT_LOCKALL, (F.pgViol Pg.flt).addr] ++ (List.range 290).map (fun p =>
      (F.pgLock p).addr))
      (fun u => { u with flt := { u.flt with reports := [], configLogged := [] } })) ∧
  (∀ (o : Origin), Frames (.watchdogKick o) s [] (fun u => { u with flt := { u.flt with kickTick := 0 } })) ∧
  Frames .mcResetRelease s [Adr.FLT_STAT, Adr.NVM_STAT] (fun u => { u with flt := {}, nvm := {} }) ∧
  (∀ (o : Origin), Frames (.mcRun o) s [Adr.FLT_MC_CTRL, Adr.FLT_STAT, Adr.NVM_STAT, (F.pgViol Pg.flt).addr]
      (fun u => { u with flt := {}, nvm := {} })) ∧
  (∀ (page : Fin 290), Frames (.viewMismatch page) s [Adr.FLT_STAT, Adr.FLT_VIEW_FIRST, (F.pgViewMismatch page).addr,
      (F.pgInt Pg.flt 0).addr]
      (fun u => { u with flt := { u.flt with viewTicks := [], reports := [] } }))

/-- What the commands of non-volatile storage, I2C, GPIO and JTAG leave as it is: registers outside the listed ones, and all
    state that is not set aside. -/
def Obligations.StorageAndPeripheralFrames : Prop := ∀ s : State,
  (∀ (o : Origin), Frames (.otpProgram o) s [Adr.NVM_OTP_RES, Adr.NVM_CNT1, (F.pgInt Pg.nvm 0).addr]
      (fun u => { u with nvm := {}, fresh := SMap.erase u.fresh Adr.NVM_OTP_RES })) ∧
  (∀ (valid : BitVec 40), Frames (.otpProgramDone valid) s [Adr.NVM_OTP_RES, Adr.NVM_CNT1, (F.pgInt Pg.nvm 0).addr]
      (fun u => { u with nvm := {}, fresh := SMap.erase u.fresh Adr.NVM_OTP_RES })) ∧
  (∀ (o : Origin), Frames (.journalMount o) s [Adr.NVM_STAT, Adr.NVM_JRES, Adr.NVM_CNT1, (F.pgInt Pg.nvm 0).addr]
      (fun u => { u with nvm := {}, fresh := SMap.erase u.fresh Adr.NVM_JRES })) ∧
  (∀ (o : Origin) (t : Fin 256) (i : Fin 256), Frames (.journalRead o t i) s [Adr.NVM_STAT, Adr.NVM_JRES, Adr.NVM_JSEQ,
      Adr.NVM_CNT1, (F.pgInt Pg.nvm 0).addr]
      (fun u => { u with nvm := {}, fresh := SMap.erase u.fresh Adr.NVM_JRES })) ∧
  (∀ (o : Origin) (t : Fin 256) (i : Fin 256), Frames (.journalWrite o t i) s [Adr.NVM_STAT, Adr.NVM_JRES, Adr.NVM_CNT1,
      (F.pgInt Pg.nvm 0).addr]
      (fun u => { u with nvm := {}, fresh := SMap.erase u.fresh Adr.NVM_JRES })) ∧
  (∀ (o : Origin) (t : Fin 256) (i : Fin 256), Frames (.journalDelete o t i) s [Adr.NVM_STAT, Adr.NVM_JRES, Adr.NVM_CNT1,
      (F.pgInt Pg.nvm 0).addr]
      (fun u => { u with nvm := {}, fresh := SMap.erase u.fresh Adr.NVM_JRES })) ∧
  Frames .journalOpDone s [Adr.NVM_STAT, Adr.NVM_JRES, Adr.NVM_JSEQ, Adr.NVM_JFREE, Adr.NVM_CNT1, Adr.NVM_CNT2, (F.pgInt
      Pg.nvm 0).addr]
      (fun u => { u with nvm := {}, fresh := SMap.erase u.fresh Adr.NVM_JRES, flt := { u.flt with reports := [] } }) ∧
  Frames .journalWriteShort s [Adr.NVM_STAT, Adr.NVM_JRES, Adr.NVM_JFREE, Adr.NVM_CNT1, (F.pgInt Pg.nvm 0).addr]
      (fun u => { u with nvm := {}, fresh := SMap.erase u.fresh Adr.NVM_JRES }) ∧
  (∀ (stage : Fin 4), Frames (.flashTimeout stage) s [Adr.NVM_STAT, Adr.NVM_JRES, Adr.NVM_JFREE, Adr.NVM_CNT1, (F.pgInt
      Pg.nvm 0).addr]
      (fun u => { u with nvm := {}, fresh := SMap.erase u.fresh Adr.NVM_JRES, flt := { u.flt with reports := [] } })) ∧
  (∀ (jedec : BitVec 24), Frames (.bootStart jedec) s [Adr.NVM_STAT, Adr.NVM_BOOT_STAT, Adr.NVM_BOOT_VER, Adr.NVM_JGEOM,
      Adr.NVM_JRES, Adr.NVM_CNT1, (F.pgInt Pg.nvm 0).addr]
      (fun u => { u with nvm := {}, fresh := SMap.erase u.fresh Adr.NVM_JRES, flt := { u.flt with reports := [] } })) ∧
  Frames .bootImageCheck s [Adr.FLT_STAT, Adr.NVM_BOOT_STAT, Adr.NVM_BOOT_VER, (F.pgInt Pg.nvm 0).addr]
      (fun u => { u with nvm := {}, flt := {} }) ∧
  Frames .hloadStart s [Adr.NVM_HLOAD_CNT] (fun u => { u with nvm := { u.nvm with hload := [] } }) ∧
  (∀ (data : Word), Frames (.hloadData data) s [Adr.NVM_HLOAD_CNT] (fun u => { u with nvm := { u.nvm with hload := [] } })) ∧
  Frames .hloadGo s [Adr.FLT_STAT, Adr.NVM_BOOT_STAT, Adr.NVM_BOOT_VER] (fun u => { u with nvm := {}, flt := {} }) ∧
  (∀ (k : Fin 4) (a : Fin 128) (r : Fin 64) (w : Fin 64) (h : Bool), Frames (.i2cTransaction k a r w h) s [Adr.I2C_STAT k,
      Adr.I2C_CNT k, Adr.I2C_RES k, (F.pgInt Pg.peri 0).addr]
      (fun u => { u with i2c := SMap.erase u.i2c k, fresh := SMap.erase u.fresh (Adr.I2C_RES k) })) ∧
  (∀ (k : Fin 4) (nack : Fin 3) (nb : Fin 64) (rx : List Byte), Frames (.i2cTransactionDone k nack nb rx) s ([Adr.I2C_STAT k,
      Adr.I2C_CNT k, Adr.I2C_RES k, (F.pgInt Pg.peri 0).addr] ++ (List.range 32).map (Adr.I2C_RX k))
      (fun u => { u with i2c := SMap.erase u.i2c k, fresh := SMap.erase u.fresh (Adr.I2C_RES k) })) ∧
  (∀ (k : Fin 4) (nb : Fin 64) (mid : Bool) (sda : Bool), Frames (.i2cArbLost k nb mid sda) s [Adr.I2C_STAT k, Adr.I2C_CNT k,
      Adr.I2C_RES k, (F.pgInt Pg.peri 0).addr]
      (fun u => { u with i2c := SMap.erase u.i2c k, fresh := SMap.erase u.fresh (Adr.I2C_RES k) })) ∧
  (∀ (k : Fin 4) (nb : Fin 64) (mid : Bool) (sda : Bool), Frames (.i2cTimeout k nb mid sda) s [Adr.I2C_STAT k, Adr.I2C_CNT k,
      Adr.I2C_RES k, (F.pgInt Pg.peri 0).addr]
      (fun u => { u with i2c := SMap.erase u.i2c k, fresh := SMap.erase u.fresh (Adr.I2C_RES k) })) ∧
  (∀ (k : Fin 4) (sda : Bool), Frames (.i2cBusClear k sda) s [Adr.I2C_STAT k, Adr.I2C_CNT k, Adr.I2C_RES k, (F.pgInt Pg.peri
      0).addr]
      (fun u => { u with i2c := SMap.erase u.i2c k, fresh := SMap.erase u.fresh (Adr.I2C_RES k) })) ∧
  (∀ (k : Fin 4) (freed : Bool), Frames (.i2cBusClearDone k freed) s [Adr.I2C_STAT k, Adr.I2C_CNT k, Adr.I2C_RES k, (F.pgInt
      Pg.peri 0).addr]
      (fun u => { u with
          i2c := SMap.erase u.i2c k, fresh := SMap.erase u.fresh (Adr.I2C_RES k), flt := { u.flt with reports := [] } })) ∧
  (∀ (k : Fin 4) (sda : Bool), Frames (.i2cEnable k sda) s [Adr.I2C_CFG k, Adr.I2C_STAT k, Adr.I2C_CNT k]
      (fun u => { u with i2c := SMap.erase u.i2c k })) ∧
  (∀ (k : Fin 4), Frames (.i2cOtherStop k) s [] (fun u => { u with i2c := SMap.erase u.i2c k })) ∧
  (∀ (n : Fin 32) (rise : Bool), Frames (.gpioEdge n rise) s [Adr.GPIO_IN, Adr.GPIO_EVT, (F.pgInt Pg.peri 0).addr]
      (fun u => { u with gpio := {} })) ∧
  (∀ (bits : Word), Frames (.gpioSet bits) s [Adr.GPIO_OUT, Adr.GPIO_IN, Adr.GPIO_EVT, (F.pgInt Pg.peri 0).addr] id) ∧
  (∀ (bits : Word), Frames (.gpioClr bits) s [Adr.GPIO_OUT, Adr.GPIO_IN, Adr.GPIO_EVT, (F.pgInt Pg.peri 0).addr] id) ∧
  Frames .jtagBypass s [] (fun u => { u with jtag := {} }) ∧
  Frames .jtagIdcode s [] (fun u => { u with jtag := {} }) ∧
  (∀ (c : List Bool) (p : List Bool), Frames (.jtagSamplePreload c p) s [] (fun u => { u with jtag := {} })) ∧
  (∀ (c : List Bool), Frames (.jtagExtest c) s [] (fun u => { u with jtag := {} })) ∧
  Frames .jtagClamp s [] (fun u => { u with jtag := {} }) ∧
  Frames .jtagHighz s [] (fun u => { u with jtag := {} })

/-- What resets, tick boundaries, take points, presses, restores and register writes leave as it is. -/
def Obligations.SystemFrames : Prop := ∀ s : State,
  (∀ (stage : Fin 5), Spares (.resetAssert stage) s
      (fun u => { u with
          ain := {}, bst := {}, clk := {}, cv := {}, cyc := 0, fch := {}, flt := {}, fresh := [], fx := {}, i2c := [],
          image := [], imageMc := [], jack := {}, latch := [], link := {}, mix := {}, net := {}, next := [], nvm := {},
          out := [], phase := .held, portAddr := [], ports := false, press := {}, pwr := {}, qmg := {}, regs := [],
          sap := [], shadow := [], shadowMc := [], spd := {}, spine := [], spk := {}, spn := {}, srcc := {}, svc := {},
          tests := [], tick := 0, time := {}, zkl := {}, resetLow := false, jtag := { u.jtag with safe := false } })) ∧
  (∀ (rail : Rail) (cold : Bool) (stage : Fin 5), Spares (.railUndervoltage rail cold stage) s
      (fun u => { u with
          ain := {}, bst := {}, clk := {}, cv := {}, cyc := 0, fch := {}, flt := {}, fresh := [], fx := {}, i2c := [],
          image := [], imageMc := [], jack := {}, latch := [], link := {}, mix := {}, net := {}, next := [], nvm := {},
          out := [], phase := .held, portAddr := [], ports := false, press := {}, pwr := {}, qmg := {}, regs := [],
          sap := [], shadow := [], shadowMc := [], spd := {}, spine := [], spk := {}, spn := {}, srcc := {}, svc := {},
          tests := [], tick := 0, time := {}, zkl := {}, railsDown := 0 })) ∧
  (∀ (die : Fin 3) (stage : Fin 5), Spares (.dieSupplyLoss die stage) s
      (fun u => { u with
          ain := {}, bst := {}, clk := {}, cv := {}, cyc := 0, fch := {}, flt := {}, fresh := [], fx := {}, i2c := [],
          image := [], imageMc := [], jack := {}, latch := [], link := {}, mix := {}, net := {}, next := [], nvm := {},
          out := [], phase := .held, portAddr := [], ports := false, press := {}, pwr := {}, qmg := {}, regs := [],
          sap := [], shadow := [], shadowMc := [], spd := {}, spine := [], spk := {}, spn := {}, srcc := {}, svc := {},
          tests := [], tick := 0, time := {}, zkl := {}, supplied := 0 })) ∧
  (∀ (por : PorIn), Frames (.resetRelease por) s [Adr.PWR_STATUS]
      (fun u => { u with nvm := {}, phase := .held, pwr := {}, resetLow := false, supplied := 0 })) ∧
  (∀ (rail : Rail) (por : PorIn), Frames (.railRecover rail por) s ([Adr.PWR_STATUS] ++ (List.range 32).map
      Adr.AIN_MATCH_STAT ++ (List.range 32).map (fun n => (F.pgInt (Pg.ain n) 0).addr))
      (fun u => { u with ain := {}, fch := {}, nvm := {}, phase := .held, pwr := {}, railsDown := 0, supplied := 0 })) ∧
  Frames .watchdogExpire s ([Adr.FLT_MC_STAT, Adr.MBOX_CNT, Adr.MBOX_STAT, Adr.NVM_BOOT_STAT, Adr.NVM_STAT, Adr.TIME_STAT,
      (F.pgInt Pg.mbox 0).addr] ++ Adr.logRegs ++ (List.range 0x122).map (fun p => (F.pgViewMismatch p).addr))
      (fun u => { u with flt := {}, latch := [], nvm := {} }) ∧
  (∀ (o : Origin) (hold : Bool), Frames (.mcHold o hold) s ([Adr.FLT_MC_CTRL, Adr.FLT_STAT, Adr.MBOX_STAT, Adr.NVM_BOOT_STAT,
      Adr.NVM_STAT, Adr.TIME_STAT, (F.pgViol Pg.flt).addr] ++ (List.range 0x122).map (fun p => (F.pgViewMismatch p).addr))
      (fun u => { u with flt := {}, latch := [], nvm := {} })) ∧
  (∀ (w : TickIn), Spares (.tickBoundary w) s
      (fun u => { u with
          shadow := [], ain := {}, bst := {}, clk := {}, cv := {}, cyc := 0, fch := {}, flt := {}, free := 0, fresh := [],
          fx := {}, image := [], imageMc := [], jack := {}, link := {}, mix := {}, net := {}, next := [], nvm := {},
          out := [], ports := false, press := {}, pwr := {}, qmg := {}, regs := [], sap := [], spd := {}, spine := [],
          spk := {}, spn := {}, srcc := {}, svc := {}, tick := 0, time := {}, zkl := {} })) ∧
  (∀ (cyc : Fin 5120), Spares (.takePoint cyc) s
      (fun u => { u with
          ain := {}, bst := {}, cv := {}, cyc := 0, fch := {}, flt := {}, fresh := [], jack := {}, link := {}, next := [],
          out := [], regs := [], spk := {}, svc := {} })) ∧
  (∀ (unit : Fin 64) (idx : Fin 64) (pass : Bool) (failed : List Nat), Spares (.guardRestoreTestEnd unit idx pass failed) s
      (fun u => { u with
          ain := {}, bst := {}, cv := {}, fch := {}, flt := {}, fx := {}, mix := {}, next := [], out := [], regs := [],
          spk := {}, svc := {}, tests := [] })) ∧
  Spares .collationDone s
      (fun u => { u with link := {}, fresh := [], image := [], imageMc := [], press := {}, regs := [], shadow := [] }) ∧
  Spares .pressApply s
      (fun u => { u with
          ain := {}, clk := {}, cv := {}, fch := {}, fresh := [], fx := {}, image := [], imageMc := [], jack := {},
          link := {}, mix := {}, net := {}, next := [], out := [], press := {}, qmg := {}, regs := [], sap := [],
          shadow := [], spd := {}, spine := [], spk := {}, srcc := {}, svc := {}, time := {}, zkl := {}, bst := {},
          flt := {} }) ∧
  (∀ (unit : Fin 82), Spares (.deferredApply unit) s
      (fun u => { u with press := {}, regs := [], sap := [], srcc := {}, svc := {}, zkl := {} })) ∧
  (∀ (o : Origin) (cyc : Fin 5120) (addr : Fin 16777216) (data : Word), Spares (.registerWrite o cyc addr data) s
      (fun u => { u with
          link := {}, bst := {}, ain := {}, clk := {}, cv := {}, cyc := 0, fch := {}, flt := {}, free := 0, fresh := [],
          fx := {}, i2c := [], image := [], imageMc := [], jack := {}, latch := [], mix := {}, net := {}, nvm := {},
          out := [], portAddr := [], press := {}, pwr := {}, qmg := {}, regs := [], sap := [], shadow := [], shadowMc := [],
          spd := {}, spk := {}, srcc := {}, svc := {}, tests := [], time := {} }))
end

