-- ==== Sys2Proof/Laws/SMap.lean ====
section
/-!
SUPPORT. What the operations on sparse maps do: read after write, other keys untouched, canonical form kept.
-/

namespace Sys2Proof.Machine

variable {α : Type}

theorem SMap.get_erase_same (d : Nat → α) (m : SMap α) (k : Nat) : SMap.get d (SMap.erase m k) k = d k := by
  induction m with
  | nil => rfl
  | cons e t ih => obtain ⟨a, v⟩ := e; by_cases h : a = k <;> simp [SMap.erase, SMap.get, h, ih]

theorem SMap.get_erase_other (d : Nat → α) (m : SMap α) {k j : Nat} (h : j ≠ k) :
    SMap.get d (SMap.erase m k) j = SMap.get d m j := by
  induction m with
  | nil => rfl
  | cons e t ih =>
    obtain ⟨a, v⟩ := e
    by_cases hk : a = k
    · have : a ≠ j := fun e => h (e ▸ hk)
      simp only [SMap.erase, SMap.get, if_pos hk, if_neg this, ih]
    · simp only [SMap.erase, SMap.get, if_neg hk, ih]

theorem SMap.get_insert_other (d : Nat → α) (m : SMap α) {k j : Nat} (v : α) (h : j ≠ k) :
    SMap.get d (SMap.insert m k v) j = SMap.get d m j := by
  induction m with
  | nil => simp [SMap.insert, SMap.get, Ne.symm h]
  | cons e t ih =>
    obtain ⟨a, w⟩ := e
    by_cases hk : k < a
    · simp only [SMap.insert, if_pos hk, SMap.get, if_neg (Ne.symm h)]
    · simp only [SMap.insert, if_neg hk, SMap.get, ih]

theorem SMap.get_insert_same (d : Nat → α) (m : SMap α) (k : Nat) (v : α) :
    SMap.get d (SMap.insert (SMap.erase m k) k v) k = v := by
  induction m with
  | nil => simp [SMap.insert, SMap.erase, SMap.get]
  | cons e t ih =>
    obtain ⟨a, w⟩ := e
    by_cases ha : a = k
    · simpa [SMap.erase, ha] using ih
    · by_cases hk : k < a <;> simp [SMap.insert, SMap.erase, SMap.get, ha, hk, ih]

/-- Reading the key just written gives the value written. -/
@[simp] theorem SMap.get_set_same [DecidableEq α] (d : Nat → α) (m : SMap α) (k : Nat) (v : α) :
    SMap.get d (SMap.set d m k v) k = v := by
  unfold SMap.set
  split
  · next h => rw [SMap.get_erase_same, h]
  · exact SMap.get_insert_same d m k v

/-- Writing one key leaves every other key as it was. -/
theorem SMap.get_set_other [DecidableEq α] (d : Nat → α) (m : SMap α) {k j : Nat} (v : α) (h : j ≠ k) :
    SMap.get d (SMap.set d m k v) j = SMap.get d m j := by
  unfold SMap.set
  split
  · exact SMap.get_erase_other d m h
  · rw [SMap.get_insert_other d _ v h, SMap.get_erase_other d m h]

theorem SMap.rising_mono {lo lo' : Nat} (h : lo' ≤ lo) {m : SMap α} (hm : SMap.rising lo m = true) :
    SMap.rising lo' m = true := by
  cases m with
  | nil => rfl
  | cons e t => obtain ⟨a, v⟩ := e; simp only [SMap.rising, Bool.and_eq_true, decide_eq_true_eq] at *; exact ⟨by omega, hm.2⟩

theorem SMap.rising_erase {lo : Nat} {m : SMap α} (k : Nat) (hm : SMap.rising lo m = true) :
    SMap.rising lo (SMap.erase m k) = true := by
  induction m generalizing lo with
  | nil => rfl
  | cons e t ih =>
    obtain ⟨a, v⟩ := e
    simp only [SMap.rising, Bool.and_eq_true, decide_eq_true_eq] at hm
    by_cases h : a = k
    · simpa [SMap.erase, h] using SMap.rising_mono (by omega) (ih hm.2)
    · simp [SMap.erase, h, SMap.rising, hm.1, ih hm.2]

theorem SMap.erase_keys {m : SMap α} {k : Nat} {e : Nat × α} (h : e ∈ SMap.erase m k) : e ∈ m ∧ e.1 ≠ k := by
  induction m with
  | nil => simp [SMap.erase] at h
  | cons f t ih =>
    obtain ⟨a, v⟩ := f
    by_cases ha : a = k
    · simp [SMap.erase, ha] at h; have := ih h; simp [this]
    · simp [SMap.erase, ha] at h
      rcases h with rfl | h
      · simp [ha]
      · have := ih h; simp [this]

theorem SMap.rising_insert {lo : Nat} {m : SMap α} {k : Nat} (v : α) (hk : lo ≤ k) (hm : SMap.rising lo m = true)
    (hn : ∀ e ∈ m, e.1 ≠ k) : SMap.rising lo (SMap.insert m k v) = true := by
  induction m generalizing lo with
  | nil => simp [SMap.insert, SMap.rising, hk]
  | cons e t ih =>
    obtain ⟨a, w⟩ := e
    simp only [SMap.rising, Bool.and_eq_true, decide_eq_true_eq] at hm
    by_cases h : k < a
    · have : k + 1 ≤ a := h
      simp [SMap.insert, h, SMap.rising, hk, hm.2, this]
    · have ha : a ≠ k := hn (a, w) (by simp)
      have := ih (lo := a + 1) (by omega) hm.2 (fun e he => hn e (by simp [he]))
      simp [SMap.insert, h, SMap.rising, hm.1, this]

theorem SMap.mem_insert {m : SMap α} {k : Nat} {v : α} {e : Nat × α} (h : e ∈ SMap.insert m k v) :
    e = (k, v) ∨ e ∈ m := by
  induction m with
  | nil => simpa [SMap.insert] using h
  | cons f t ih =>
    obtain ⟨a, w⟩ := f
    by_cases hk : k < a
    · simpa [SMap.insert, hk] using h
    · simp [SMap.insert, hk] at h
      rcases h with rfl | h
      · simp
      · rcases ih h with h | h <;> simp [h]

/-- A write keeps the canonical form. -/
theorem SMap.wf_set [DecidableEq α] {d : Nat → α} {m : SMap α} (k : Nat) (v : α) (h : SMap.wf d m = true) :
    SMap.wf d (SMap.set d m k v) = true := by
  simp only [SMap.wf, Bool.and_eq_true, List.all_eq_true, decide_eq_true_eq] at h ⊢
  unfold SMap.set
  split
  · exact ⟨SMap.rising_erase k h.1, fun e he => h.2 e (SMap.erase_keys he).1⟩
  · next hv =>
    refine ⟨SMap.rising_insert v (Nat.zero_le k) (SMap.rising_erase k h.1) (fun e he => (SMap.erase_keys he).2), ?_⟩
    intro e he
    rcases SMap.mem_insert he with rfl | he
    · exact hv
    · exact h.2 e (SMap.erase_keys he).1

/-- The empty map has the canonical form. -/
@[simp] theorem SMap.wf_nil [DecidableEq α] (d : Nat → α) : SMap.wf d ([] : SMap α) = true := rfl

/-- A list of writes keeps the canonical form. -/
theorem SMap.wf_setAll [DecidableEq α] {d : Nat → α} (ks : List Nat) (v : Nat → α) {m : SMap α}
    (h : SMap.wf d m = true) : SMap.wf d (SMap.setAll d m ks v) = true := by
  induction ks generalizing m with
  | nil => exact h
  | cons k t ih => exact ih (SMap.wf_set k (v k) h)

end Sys2Proof.Machine
end

