-- ==== Sys2Proof/Laws/Fields.lean ====
section
/-!
SUPPORT. Register words and fields: what reads back after a write, and what a write leaves alone.
-/

namespace Sys2Proof

/-- A bit of a field of a word. -/
theorem Word.testBit_bits (w : Word) (hi lo i : Nat) :
    (w.bits hi lo).testBit i = (decide (i < hi + 1 - lo) && w.getLsbD (lo + i)) := by
  simp [Word.bits, BitVec.getLsbD, Nat.testBit_mod_two_pow, Nat.testBit_shiftRight]

/-- A bit of a mask. -/
theorem Word.getLsbD_mask (hi lo i : Nat) :
    (Word.mask hi lo).getLsbD i = (decide (i < 32) && (decide (lo ≤ i) && decide (i ≤ hi))) := by
  simp only [Word.mask, BitVec.getLsbD_ofNat, Nat.testBit_shiftLeft, Nat.testBit_two_pow_sub_one]
  by_cases h : lo ≤ i <;> simp [h]
  by_cases g : i < 32 <;> simp [g]
  omega

/-- A bit of a word with a field replaced. -/
theorem Word.getLsbD_put (w : Word) (hi lo v i : Nat) (h : i < 32) :
    (w.put hi lo v).getLsbD i = if lo ≤ i ∧ i ≤ hi then v.testBit (i - lo) else w.getLsbD i := by
  simp only [Word.put, BitVec.getLsbD_or, BitVec.getLsbD_and, BitVec.getLsbD_not, Word.getLsbD_mask, BitVec.getLsbD_ofNat,
    Nat.testBit_shiftLeft, h, decide_true, Bool.true_and]
  by_cases h1 : lo ≤ i <;> by_cases h2 : i ≤ hi <;> simp [h1, h2]

/-- The field just written reads back its low bits. -/
theorem Word.bits_put_same (w : Word) {hi : Nat} (lo v : Nat) (h : hi < 32) : (w.put hi lo v).bits hi lo = v % 2 ^ (hi + 1 - lo) := by
  apply Nat.eq_of_testBit_eq
  intro i
  rw [Word.testBit_bits, Nat.testBit_mod_two_pow]
  by_cases hi' : i < hi + 1 - lo
  · rw [Word.getLsbD_put _ _ _ _ _ (by omega), if_pos (by omega)]
    simp [hi', Nat.add_sub_cancel_left]
  · simp [hi']

/-- A field that shares no bit with the one written reads as before. -/
theorem Word.bits_put_other (w : Word) {hi lo hi' lo' : Nat} (v : Nat) (h : hi < lo' ∨ hi' < lo) :
    (w.put hi lo v).bits hi' lo' = w.bits hi' lo' := by
  apply Nat.eq_of_testBit_eq
  intro i
  rw [Word.testBit_bits, Word.testBit_bits]
  by_cases hi' : i < hi' + 1 - lo'
  · by_cases h32 : lo' + i < 32
    · rw [Word.getLsbD_put _ _ _ _ _ h32, if_neg (by omega)]
    · simp [BitVec.getLsbD_of_ge _ _ (Nat.le_of_not_lt h32)]
  · simp [hi']

/-- A field of n bits is less than 2^n. -/
theorem Word.bits_lt (w : Word) (hi lo : Nat) : w.bits hi lo < 2 ^ (hi + 1 - lo) := Nat.mod_lt _ (Nat.two_pow_pos _)

end Sys2Proof

namespace Sys2Proof.Machine

variable (s : State)

@[simp] theorem State.word_setWord_same (a : Nat) (w : Word) : (s.setWord a w).word a = w := by
  simp [State.word, State.setWord]

theorem State.word_setWord_other {a b : Nat} (w : Word) (h : b ≠ a) : (s.setWord a w).word b = s.word b := by
  simp [State.word, State.setWord, SMap.get_set_other _ _ _ h]

theorem State.word_setFld_other {f : Fld} {a : Nat} (v : Nat) (h : a ≠ f.addr) : (s.setFld f v).word a = s.word a :=
  State.word_setWord_other s _ h

/-- A field just written reads back its low bits. -/
theorem State.fld_setFld_same {f : Fld} (v : Nat) (h : f.hi < 32) : (s.setFld f v).fld f = v % 2 ^ f.width := by
  simp [State.fld, State.setFld, Word.bits_put_same _ _ _ h, Fld.width]

/-- A field of another register reads as before. -/
theorem State.fld_setFld_addr {f g : Fld} (v : Nat) (h : g.addr ≠ f.addr) : (s.setFld f v).fld g = s.fld g := by
  simp [State.fld, State.word_setFld_other s v h]

/-- Another field of the same register reads as before. -/
theorem State.fld_setFld_bits {f g : Fld} (v : Nat) (h : f.hi < g.lo ∨ g.hi < f.lo) : (s.setFld f v).fld g = s.fld g := by
  by_cases e : g.addr = f.addr
  · simp [State.fld, State.setFld, e, Word.bits_put_other _ _ h]
  · exact State.fld_setFld_addr s v e

/-- A word of a register that one set of fields rewrote keeps every bit outside them. -/
theorem State.fld_setWord_other {f : Fld} {a : Nat} (w : Word) (h : f.addr ≠ a) : (s.setWord a w).fld f = s.fld f := by
  simp [State.fld, State.word_setWord_other s w h]

/-- A counter never runs back: after a count it holds the sum or all ones (R10). -/
theorem State.fld_bump {cnt sat : Fld} (hc : cnt.hi < 32) (hw : 0 < cnt.width) (hd : sat.addr ≠ cnt.addr ∨ sat.hi < cnt.lo ∨ cnt.hi < sat.lo) :
    (s.bump cnt sat).fld cnt = min (2 ^ cnt.width - 1) (s.fld cnt + 1) := by
  have hp : 2 ≤ 2 ^ cnt.width := by
    calc 2 = 2 ^ 1 := rfl
      _ ≤ 2 ^ cnt.width := Nat.pow_le_pow_right (by omega) hw
  unfold State.bump State.bumpBy
  dsimp only
  rw [if_neg (by omega)]
  split
  · have : (State.setFld sat 1 (s.setFld cnt (2 ^ cnt.width - 1))).fld cnt = (s.setFld cnt (2 ^ cnt.width - 1)).fld cnt := by
      rcases hd with hd | hd
      · exact State.fld_setFld_addr _ _ (Ne.symm hd)
      · exact State.fld_setFld_bits _ _ hd
    rw [this, State.fld_setFld_same _ _ hc, Nat.mod_eq_of_lt (by omega)]
    omega
  · rw [State.fld_setFld_same _ _ hc, Nat.mod_eq_of_lt (by omega)]
    omega

/-- A report reaches the end of the list the fault manager takes (R532). -/
@[simp] theorem State.report_reports (c i a : Nat) : (s.report c i a).flt.reports = s.flt.reports ++ [⟨c, i, a, 0⟩] := rfl

/-- A posted result: its value, SEQ raised (R492). -/
@[simp] theorem State.word_post_same (a : Nat) (v : Word) :
    (s.post a v).word a = (v.put 30 23 (((s.word a).bits 30 23 + 1) % 256)).put 31 31 0 := by
  simp [State.post, State.word, State.setWord]

theorem State.word_post_other {a b : Nat} (v : Word) (h : b ≠ a) : (s.post a v).word b = s.word b := by
  have := State.word_setWord_other s ((v.put 30 23 (((s.word a).bits 30 23 + 1) % 256)).put 31 31 0) h
  simpa [State.post, State.word] using this

end Sys2Proof.Machine
end

