-- ==== Sys2Proof/Laws/Keeps.lean ====
section
/-!
SUPPORT. The rules by which a meaning is shown to keep the shell and the canonical maps (`Keeps`): one for each way a meaning is
composed. The files KeepsX cite them, one lemma for each operation of Machine/X.
-/

namespace Sys2Proof.Machine

/-- A command's next state keeps what `Keeps` says. -/
structure KeepsO (s0 : State) (r : Host.Outcome State Fault Refusal) : Prop where
  out : ∀ t, r = .next t → Keeps s0 t

variable {s0 s : State}

theorem Keeps.refl (s : State) : Keeps s s := ⟨rfl, id⟩

theorem Keeps.trans {a b c : State} (h : Keeps a b) (k : Keeps b c) : Keeps a c :=
  ⟨k.shell.trans h.shell, fun x => k.canonical (h.canonical x)⟩

theorem SMap.rising_filter {α : Type} {lo : Nat} {m : SMap α} (p : Nat × α → Bool) (h : SMap.rising lo m = true) :
    SMap.rising lo (m.filter p) = true := by
  induction m generalizing lo with
  | nil => rfl
  | cons e t ih =>
    obtain ⟨a, v⟩ := e
    simp only [SMap.rising, Bool.and_eq_true, decide_eq_true_eq] at h
    by_cases hp : p (a, v) = true
    · simp [List.filter, hp, SMap.rising, h.1, ih h.2]
    · simpa [List.filter, hp] using SMap.rising_mono (by omega) (ih h.2)

/-- Leaving entries out keeps the canonical form. -/
theorem SMap.wf_filter {α : Type} [DecidableEq α] {d : Nat → α} {m : SMap α} (p : Nat × α → Bool) (h : SMap.wf d m = true) :
    SMap.wf d (m.filter p) = true := by
  simp only [SMap.wf, Bool.and_eq_true, List.all_eq_true, decide_eq_true_eq] at h ⊢
  exact ⟨SMap.rising_filter p h.1, fun e he => h.2 e (List.mem_filter.mp he).1⟩

/-- Changes that keep the canonical form, folded over a list, keep it. -/
theorem SMap.wf_foldl {α β : Type} [DecidableEq α] {d : Nat → α} {l : List β} {f : SMap α → β → SMap α} {m : SMap α}
    (hf : ∀ m b, SMap.wf d m = true → SMap.wf d (f m b) = true) (h : SMap.wf d m = true) : SMap.wf d (l.foldl f m) = true := by
  induction l generalizing m with
  | nil => exact h
  | cons b t ih => exact ih (hf m b h)

/-- A choice between two canonical maps. -/
theorem SMap.wf_ite {α : Type} [DecidableEq α] {d : Nat → α} {c : Prop} {_ : Decidable c} {m n : SMap α} (hm : SMap.wf d m = true)
    (hn : SMap.wf d n = true) : SMap.wf d (if c then m else n) = true := by split <;> assumption

/-- One more change, which keeps the shell and canonical maps. -/
theorem Keeps.step {t : State} (h : Keeps s0 s) (e : t.shell = s.shell) (c : s.Canonical → t.Canonical) : Keeps s0 t := h.trans ⟨e, c⟩

/-- Parts of the state outside the shell and the maps may take any value. -/
theorem Keeps.data {cyc link press flt qmg tests clk pwr ain fch svc spn mix srcc spd fx jack cv spk bst time net zkl nvm gpio jtag free}
    (h : Keeps s0 s) : Keeps s0 { s with
      cyc := cyc, link := link, press := press, flt := flt, qmg := qmg, tests := tests, clk := clk, pwr := pwr, ain := ain,
      fch := fch, svc := svc, spn := spn, mix := mix, srcc := srcc, spd := spd, fx := fx, jack := jack, cv := cv, spk := spk,
      bst := bst, time := time, net := net, zkl := zkl, nvm := nvm, gpio := gpio, jtag := jtag, free := free } :=
  h.step rfl fun c => { c with }

/-- A fact used more than once. -/
theorem Keeps.share {a b : Prop} (p : a) (k : a → b) : b := k p

theorem Keeps.ite {c : Prop} {_d : Decidable c} {a b : State} (ha : Keeps s0 a) (hb : Keeps s0 b) : Keeps s0 (if c then a else b) := by
  split <;> assumption

/-- A branch whose second arm goes on from the first. -/
theorem Keeps.branch {c : Prop} {_d : Decidable c} {a b : State} (ha : Keeps s0 a) (hb : Keeps s0 a → Keeps s0 b) :
    Keeps s0 (if c then a else b) := .ite ha (hb ha)

theorem Keeps.branch_2 {α : Type} {c : Prop} {_d : Decidable c} {a b : α × State} (ha : Keeps s0 a.2) (hb : Keeps s0 a.2 → Keeps s0 b.2) :
    Keeps s0 (if c then a else b).2 := by
  split
  · exact ha
  · exact hb ha

/-- A branch whose first arm goes on from the second. -/
theorem Keeps.branchR {c : Prop} {_d : Decidable c} {a b : State} (hb : Keeps s0 b) (ha : Keeps s0 b → Keeps s0 a) :
    Keeps s0 (if c then a else b) := .ite (ha hb) hb

theorem Keeps.branchR_2 {α : Type} {c : Prop} {_d : Decidable c} {a b : α × State} (hb : Keeps s0 b.2) (ha : Keeps s0 b.2 → Keeps s0 a.2) :
    Keeps s0 (if c then a else b).2 := by
  split
  · exact ha hb
  · exact hb

theorem Keeps.ite_1 {α : Type} {c : Prop} {_d : Decidable c} {a b : State × α} (ha : Keeps s0 a.1) (hb : Keeps s0 b.1) :
    Keeps s0 (if c then a else b).1 := by split <;> assumption

theorem Keeps.ite_2 {α : Type} {c : Prop} {_d : Decidable c} {a b : α × State} (ha : Keeps s0 a.2) (hb : Keeps s0 b.2) :
    Keeps s0 (if c then a else b).2 := by split <;> assumption

theorem Keeps.ite_2_2 {α β : Type} {c : Prop} {_d : Decidable c} {a b : α × β × State} (ha : Keeps s0 a.2.2) (hb : Keeps s0 b.2.2) :
    Keeps s0 (if c then a else b).2.2 := by split <;> assumption

theorem Keeps.pair_1 {α : Type} {x : State × α} {a : α} (e : x = (s, a)) (h : Keeps s0 x.1) : Keeps s0 s := by rw [e] at h; exact h

theorem Keeps.pair_2 {α : Type} {x : α × State} {a : α} (e : x = (a, s)) (h : Keeps s0 x.2) : Keeps s0 s := by rw [e] at h; exact h

theorem Keeps.pair_2_2 {α β : Type} {x : α × β × State} {a : α} {b : β} (e : x = (a, b, s)) (h : Keeps s0 x.2.2) : Keeps s0 s := by
  rw [e] at h; exact h

theorem Keeps.foldl {α : Type} {f : State → α → State} {l : List α} (hf : ∀ s a, Keeps s0 s → Keeps s0 (f s a)) (h : Keeps s0 s) :
    Keeps s0 (l.foldl f s) := by
  induction l generalizing s with
  | nil => exact h
  | cons a t ih => exact ih (hf s a h)

theorem Keeps.foldl_1 {α β : Type} {f : State × β → α → State × β} {l : List α} {p : State × β}
    (hf : ∀ p a, Keeps s0 p.1 → Keeps s0 (f p a).1) (h : Keeps s0 p.1) : Keeps s0 (l.foldl f p).1 := by
  induction l generalizing p with
  | nil => exact h
  | cons a t ih => exact ih (hf p a h)

theorem Keeps.foldl_2 {α β : Type} {f : β × State → α → β × State} {l : List α} {p : β × State}
    (hf : ∀ p a, Keeps s0 p.2 → Keeps s0 (f p a).2) (h : Keeps s0 p.2) : Keeps s0 (l.foldl f p).2 := by
  induction l generalizing p with
  | nil => exact h
  | cons a t ih => exact ih (hf p a h)

theorem Keeps.when {c : Bool} {f : State → State} (hf : ∀ s, Keeps s0 s → Keeps s0 (f s)) (h : Keeps s0 s) :
    Keeps s0 (s.when c f) := by unfold State.when; exact .ite (hf s h) h

theorem Keeps.each {n : Nat} {f : Nat → State → State} (hf : ∀ k s, Keeps s0 s → Keeps s0 (f k s)) (h : Keeps s0 s) :
    Keeps s0 (s.each n f) := Keeps.foldl (fun s k => hf k s) h

theorem Keeps.eachOf {α : Type} {l : List α} {f : α → State → State} (hf : ∀ k s, Keeps s0 s → Keeps s0 (f k s)) (h : Keeps s0 s) :
    Keeps s0 (s.eachOf l f) := Keeps.foldl (fun s k => hf k s) h

theorem KeepsO.next (h : Keeps s0 s) : KeepsO s0 (.next s) := ⟨fun t e => by cases e; exact h⟩

theorem KeepsO.ite {c : Prop} {_d : Decidable c} {a b : Host.Outcome State Fault Refusal} (ha : KeepsO s0 a) (hb : KeepsO s0 b) :
    KeepsO s0 (if c then a else b) := by split <;> assumption

theorem KeepsO.heard {r : Host.Outcome State Fault Refusal} (hr : KeepsO s0 r) (h : Keeps s0 s) : KeepsO s0 (s.heard r) :=
  KeepsO.ite hr (.next h)

theorem KeepsO.heardFrom {o : Origin} {r : Host.Outcome State Fault Refusal} (hr : KeepsO s0 r) (h : Keeps s0 s) :
    KeepsO s0 (s.heardFrom o r) := KeepsO.ite hr (.next h)

theorem KeepsO.ticking {r : Host.Outcome State Fault Refusal} (hr : KeepsO s0 r) (h : Keeps s0 s) : KeepsO s0 (s.ticking r) :=
  KeepsO.ite hr (.next h)

end Sys2Proof.Machine
end

