-- ==== Sys2Proof/Laws/KeepsOps.lean ====
section
/-!
SUPPORT. Every operation of Machine/Ops.lean keeps the shell, and canonical maps stay canonical.
-/

namespace Sys2Proof.Machine

variable {s0 : State}

theorem State.setWord_keeps {a w s} (h : Keeps s0 s) : Keeps s0 (State.setWord a w s) := by
  unfold State.setWord
  exact (Keeps.step h rfl fun c => { c with regs := SMap.wf_set _ _ c.regs })

theorem State.setFld_keeps {f v s} (h : Keeps s0 s) : Keeps s0 (State.setFld f v s) := by
  unfold State.setFld
  exact (State.setWord_keeps h)

theorem State.raise_keeps {p k s} (h : Keeps s0 s) : Keeps s0 (State.raise p k s) := by
  unfold State.raise
  exact (State.setFld_keeps h)

theorem State.setOn_keeps {f b s} (h : Keeps s0 s) : Keeps s0 (State.setOn f b s) := by
  unfold State.setOn
  exact (State.setFld_keeps h)

theorem State.bumpBy_keeps {n cnt sat s} (h : Keeps s0 s) : Keeps s0 (State.bumpBy n cnt sat s) := by
  unfold State.bumpBy
  dsimp only
  exact (Keeps.ite h (Keeps.ite (State.setFld_keeps (State.setFld_keeps h)) (State.setFld_keeps h)))

theorem State.bump_keeps {cnt sat s} (h : Keeps s0 s) : Keeps s0 (State.bump cnt sat s) := by
  unfold State.bump
  exact (State.bumpBy_keeps h)

theorem State.setDir_keeps {d x s} (h : Keeps s0 s) : Keeps s0 (State.setDir d x s) := by
  unfold State.setDir
  dsimp only
  exact h.data

theorem State.tell_keeps {d from_ m s} (h : Keeps s0 s) : Keeps s0 (State.tell d from_ m s) := by
  unfold State.tell
  dsimp only
  exact (Keeps.when (fun _ h1 => (State.setDir_keeps h1)) h)

theorem State.note_keeps {d from_ n s} (h : Keeps s0 s) : Keeps s0 (State.note d from_ n s) := by
  unfold State.note
  exact (State.tell_keeps h)

theorem State.report_keeps {code inst action s} (h : Keeps s0 s) : Keeps s0 (State.report code inst action s) := by
  unfold State.report
  dsimp only
  exact h.data

theorem State.post_keeps {a value s} (h : Keeps s0 s) : Keeps s0 (State.post a value s) := by
  unfold State.post
  exact .step (State.setWord_keeps h) rfl fun c => { c with fresh := SMap.wf_set (m := s.fresh) a 15 c.fresh }

theorem State.produce_keeps {n w s} (h : Keeps s0 s) : Keeps s0 (State.produce n w s) := by
  unfold State.produce
  exact (Keeps.step h rfl fun c => { c with next := SMap.wf_set _ _ c.next })

theorem State.setInt_keeps {f v s} (h : Keeps s0 s) : Keeps s0 (State.setInt f v s) := by
  unfold State.setInt
  exact (State.setFld_keeps h)

theorem State.skipFree_keeps {n s} (h : Keeps s0 s) : Keeps s0 (State.skipFree n s) := by
  unfold State.skipFree
  exact h.data

theorem State.dropBack_keeps {pool q s} (h : Keeps s0 s) : Keeps s0 (State.dropBack pool q s) := by
  unfold State.dropBack
  dsimp only
  exact h.data

theorem State.setDie_keeps {l x s} (h : Keeps s0 s) : Keeps s0 (State.setDie l x s) := by
  unfold State.setDie
  dsimp only
  exact h.data

theorem State.setSrc_keeps {n w s} (h : Keeps s0 s) : Keeps s0 (State.setSrc n w s) := by
  unfold State.setSrc
  exact (Keeps.step h rfl fun c => { c with spine := SMap.wf_set _ _ c.spine })

theorem done_keeps {s} (h : Keeps s0 s) : KeepsO s0 (done s) := by
  unfold done
  exact (KeepsO.next h)

theorem State.setShadow_keeps {a w s} (h : Keeps s0 s) : Keeps s0 (State.setShadow a w s) := by
  unfold State.setShadow
  exact (Keeps.step h rfl fun c => { c with shadow := SMap.wf_set _ _ c.shadow })

theorem State.endTest_keeps {unit idx s} (h : Keeps s0 s) : Keeps s0 (State.endTest unit idx s) := by
  unfold State.endTest
  exact h.data

theorem State.answer_keeps {o w s} (h : Keeps s0 s) : Keeps s0 (State.answer o w s) := by
  unfold State.answer
  exact (Keeps.step h rfl fun c => { c with readData := SMap.wf_set _ _ c.readData })

theorem State.startTest_keeps {unit idx kind s} (h : Keeps s0 s) : Keeps s0 (State.startTest unit idx kind s) := by
  unfold State.startTest
  exact h.data

theorem State.land_keeps {c s} (h : Keeps s0 s) : Keeps s0 (State.land c s) := by
  unfold State.land
  exact h.data

end Sys2Proof.Machine
end

