-- ==== Sys2Proof/Laws/KeepsClk.lean ====
section
/-!
SUPPORT. Every operation of Machine/Clk.lean keeps the shell, and canonical maps stay canonical.
-/

namespace Sys2Proof.Machine

variable {s0 : State}

theorem setPll_keeps {i v auto s} (h : Keeps s0 s) : Keeps s0 (setPll i v auto s) := by
  unfold setPll
  dsimp only
  exact h.data

theorem pllRamped_keeps {i s} (h : Keeps s0 s) : Keeps s0 (pllRamped i s) := by
  unfold pllRamped
  exact (Keeps.ite (setPll_keeps h) h)

theorem servoShow_keeps {s} (h : Keeps s0 s) : Keeps s0 (servoShow s) := by
  unfold servoShow
  dsimp only
  exact (State.setOn_keeps (State.setOn_keeps (State.setOn_keeps (State.setOn_keeps h))))

theorem fdivPress_keeps {i s} (h : Keeps s0 s) : Keeps s0 (fdivPress i s) := by
  unfold fdivPress
  dsimp only
  exact h.data

theorem tickClockErr_keeps {s} (h : Keeps s0 s) : Keeps s0 (tickClockErr s) := by
  unfold tickClockErr
  dsimp only
  exact h.data

theorem servoSample_keeps {err s} (h : Keeps s0 s) : Keeps s0 (servoSample err s) := by
  unfold servoSample
  dsimp only
  exact (Keeps.ite
      h
      (Keeps.ite
        (servoShow_keeps (State.setFld_keeps h.data))
        (Keeps.when
          (fun _ h4 => (State.report_keeps h4))
          (servoShow_keeps (State.setOn_keeps (State.setFld_keeps (State.skipFree_keeps (State.post_keeps h)).data))))))

theorem pllSearched_keeps {i band s} (h : Keeps s0 s) : Keeps s0 (pllSearched i band s) := by
  unfold pllSearched
  dsimp only
  exact (State.setOn_keeps (State.setOn_keeps (State.setOn_keeps h)))

theorem pllLock_keeps {i band s} (h : Keeps s0 s) : Keeps s0 (pllLock i band s) := by
  unfold pllLock
  dsimp only
  exact (State.setFld_keeps
      (State.setFld_keeps (State.setFld_keeps (State.setFld_keeps (setPll_keeps (pllSearched_keeps h.data))))))

theorem pllFail_keeps {i band s} (h : Keeps s0 s) : Keeps s0 (pllFail i band s) := by
  unfold pllFail
  exact (State.report_keeps (State.setFld_keeps (setPll_keeps (pllSearched_keeps h))))

theorem pllResult_keeps {i ok band s} (h : Keeps s0 s) : Keeps s0 (pllResult i ok band s) := by
  unfold pllResult
  dsimp only
  exact (Keeps.ite
      h
      (Keeps.ite (pllLock_keeps h) (Keeps.branchR (pllFail_keeps h) (fun h5 => (Keeps.ite h5 (pllSearched_keeps h.data))))))

theorem refRestart_keeps {s} (h : Keeps s0 s) : Keeps s0 (refRestart s) := by
  unfold refRestart
  dsimp only
  exact (State.setFld_keeps (State.setFld_keeps h.data))

theorem holdover_keeps {s} (h : Keeps s0 s) : Keeps s0 (holdover s) := by
  unfold holdover
  exact (State.setFld_keeps (State.setFld_keeps (refRestart_keeps h)))

theorem refLost_keeps {xtal s} (h : Keeps s0 s) : Keeps s0 (refLost xtal s) := by
  unfold refLost
  dsimp only
  exact (Keeps.share (Keeps.when (fun _ h1 => (State.report_keeps (State.setFld_keeps h1))) h) fun h2 =>
      (Keeps.ite
        (tickClockErr_keeps (State.report_keeps (holdover_keeps h2)))
        (Keeps.branchR (refRestart_keeps h2) (fun h6 => (tickClockErr_keeps (State.report_keeps h6))))))

theorem slewShow_keeps {s} (h : Keeps s0 s) : Keeps s0 (slewShow s) := by
  unfold slewShow
  dsimp only
  exact (State.setOn_keeps h.data)

theorem refWindow_keeps {edges xtalLow s} (h : Keeps s0 s) : Keeps s0 (refWindow edges xtalLow s) := by
  unfold refWindow
  dsimp only
  exact (Keeps.ite
      (refLost_keeps h)
      (Keeps.branch (Keeps.when (fun _ h4 => (State.setFld_keeps h4)) h.data) (fun h3 => (slewShow_keeps (State.setFld_keeps h3)))))

theorem execRefLoss_keeps {xtalLow s} (h : Keeps s0 s) : KeepsO s0 (execRefLoss xtalLow s) := by
  unfold execRefLoss
  exact (KeepsO.ticking (KeepsO.next (refLost_keeps h)) h)

theorem pllStart_keeps {i auto s} (h : Keeps s0 s) : Keeps s0 (pllStart i auto s) := by
  unfold pllStart
  dsimp only
  exact (State.setFld_keeps (State.setFld_keeps (setPll_keeps h)).data)

theorem pllAway_keeps {i auto s} (h : Keeps s0 s) : Keeps s0 (pllAway i auto s) := by
  unfold pllAway
  dsimp only
  exact (Keeps.branch (pllStart_keeps h) (fun h1 => (setPll_keeps h1)))

theorem pllRelock_keeps {i s} (h : Keeps s0 s) : Keeps s0 (pllRelock i s) := by
  unfold pllRelock
  exact (Keeps.ite h (State.setFld_keeps (pllAway_keeps h)))

theorem execRelockN_keeps {s} (h : Keeps s0 s) : KeepsO s0 (execRelockN s) := by
  unfold execRelockN
  exact (KeepsO.heard (KeepsO.next (pllRelock_keeps h)) h)

theorem execIoscSlewDone_keeps {s} (h : Keeps s0 s) : KeepsO s0 (execIoscSlewDone s) := by
  unfold execIoscSlewDone
  dsimp only
  exact (KeepsO.ticking (KeepsO.next (Keeps.ite (slewShow_keeps h.data) h)) h)

theorem nrefWindow_keeps {edges s} (h : Keeps s0 s) : Keeps s0 (nrefWindow edges s) := by
  unfold nrefWindow
  dsimp only
  exact (Keeps.ite
      (Keeps.when (fun _ h3 => (State.report_keeps (State.setFld_keeps h3))) h.data)
      (Keeps.branch h.data (fun h4 => (Keeps.when (fun _ h5 => (pllStart_keeps h5)) (State.setFld_keeps h4)))))

theorem execNrefLoss_keeps {s} (h : Keeps s0 s) : KeepsO s0 (execNrefLoss s) := by
  unfold execNrefLoss
  exact (KeepsO.ticking (KeepsO.next (nrefWindow_keeps h)) h)

theorem refSelect_keeps {v s} (h : Keeps s0 s) : Keeps s0 (refSelect v s) := by
  unfold refSelect
  dsimp only
  exact (Keeps.share (State.setFld_keeps h) fun h1 => (Keeps.ite h (Keeps.ite (refRestart_keeps h1) (holdover_keeps h1))))

theorem execRefSelChange_keeps {sel s} (h : Keeps s0 s) : KeepsO s0 (execRefSelChange sel s) := by
  unfold execRefSelChange
  exact (KeepsO.heard (KeepsO.next (refSelect_keeps h)) h)

theorem refSwitch_keeps {s} (h : Keeps s0 s) : Keeps s0 (refSwitch s) := by
  unfold refSwitch
  dsimp only
  exact (Keeps.ite
      h
      (Keeps.when
        (fun _ h2 => (pllStart_keeps (pllStart_keeps h2)))
        (State.setFld_keeps (State.setFld_keeps (State.setFld_keeps h.data)))))

theorem steerBound_keeps {s} (h : Keeps s0 s) : Keeps s0 (steerBound s) := by
  unfold steerBound
  exact (servoShow_keeps (State.setFld_keeps h))

theorem execRefQualWindow_keeps {nref edges xtalLow s} (h : Keeps s0 s) : KeepsO s0 (execRefQualWindow nref edges xtalLow s) := by
  unfold execRefQualWindow
  exact (KeepsO.ticking (KeepsO.next (Keeps.ite (nrefWindow_keeps h) (refWindow_keeps h))) h)

theorem execRefSwitch_keeps {s} (h : Keeps s0 s) : KeepsO s0 (execRefSwitch s) := by
  unfold execRefSwitch
  exact (KeepsO.ticking (KeepsO.next (refSwitch_keeps h)) h)

theorem pllUnlock_keeps {i s} (h : Keeps s0 s) : Keeps s0 (pllUnlock i s) := by
  unfold pllUnlock
  exact (Keeps.ite h (Keeps.when (fun _ h2 => (tickClockErr_keeps h2)) (State.report_keeps (pllAway_keeps (State.bump_keeps h)))))

theorem execPllUnlock_keeps {pll s} (h : Keeps s0 s) : KeepsO s0 (execPllUnlock pll s) := by
  unfold execPllUnlock
  exact (KeepsO.ticking (KeepsO.next (pllUnlock_keeps h)) h)

theorem execRelockM_keeps {s} (h : Keeps s0 s) : KeepsO s0 (execRelockM s) := by
  unfold execRelockM
  exact (KeepsO.heard (KeepsO.next (pllRelock_keeps h)) h)

theorem execRelockP_keeps {s} (h : Keeps s0 s) : KeepsO s0 (execRelockP s) := by
  unfold execRelockP
  exact (KeepsO.heard (KeepsO.next (pllRelock_keeps h)) h)

theorem execServoSample_keeps {cyc err s} (h : Keeps s0 s) : KeepsO s0 (execServoSample cyc err s) := by
  unfold execServoSample
  exact (KeepsO.ticking (KeepsO.next (servoSample_keeps (State.land_keeps h))) h)

theorem pllStop_keeps {i s} (h : Keeps s0 s) : Keeps s0 (pllStop i s) := by
  unfold pllStop
  dsimp only
  exact (State.setFld_keeps (State.setFld_keeps (setPll_keeps h.data)))

end Sys2Proof.Machine
end

