-- ==== Sys2Proof/Laws/KeepsPwr.lean ====
section
/-!
SUPPORT. Every operation of Machine/Pwr.lean keeps the shell, and canonical maps stay canonical.
-/

namespace Sys2Proof.Machine

variable {s0 : State}

theorem pvinOk_keeps {s} (h : Keeps s0 s) : Keeps s0 (pvinOk s) := by
  unfold pvinOk
  exact (State.setOn_keeps h)

theorem vFlags_keeps {s} (h : Keeps s0 s) : Keeps s0 (vFlags s) := by
  unfold vFlags
  dsimp only
  exact (State.setOn_keeps (State.setOn_keeps (State.setOn_keeps h)))

theorem vSend_keeps {v first s} (h : Keeps s0 s) : Keeps s0 (vSend v first s) := by
  unfold vSend
  dsimp only
  exact (vFlags_keeps (State.setFld_keeps h.data))

theorem vMargin_keeps {m s} (h : Keeps s0 s) : Keeps s0 (vMargin m s) := by
  unfold vMargin
  dsimp only
  exact (Keeps.branchR
      h.data
      (fun h2 => (Keeps.ite (State.report_keeps h2) (Keeps.ite h2 (State.report_keeps (State.bump_keeps (vSend_keeps h2)))))))

theorem vSample_keeps {s} (h : Keeps s0 s) : Keeps s0 (vSample s) := by
  unfold vSample
  dsimp only
  exact (Keeps.ite
      h
      (by
        split
        · exact h
        · exact (Keeps.share (Keeps.data (Keeps.when (fun _ h2 => h2.data) (State.post_keeps h.data))) fun h3 =>
              (Keeps.share (vFlags_keeps h3) fun h4 =>
                (Keeps.branch
                  (Keeps.when (fun _ h6 => h6.data) (State.post_keeps h.data))
                  (fun h5 =>
                    (Keeps.ite
                      (Keeps.ite h4 (vSend_keeps h3))
                      (Keeps.ite (Keeps.ite (Keeps.ite h4 (vSend_keeps h3)) h5.data) h3))))))))

theorem execPvinOvervoltage_keeps {s} (h : Keeps s0 s) : KeepsO s0 (execPvinOvervoltage s) := by
  unfold execPvinOvervoltage
  dsimp only
  exact (KeepsO.next (Keeps.when (fun _ h1 => (State.report_keeps (State.bump_keeps (pvinOk_keeps h1)))) h.data))

theorem pfVioShow_keeps {s} (h : Keeps s0 s) : Keeps s0 (pfVioShow s) := by
  unfold pfVioShow
  dsimp only
  exact (Keeps.data (Keeps.when (fun _ h1 => (State.report_keeps h1)) (State.setOn_keeps h)))

theorem pfVio_keeps {low s} (h : Keeps s0 s) : Keeps s0 (pfVio low s) := by
  unfold pfVio
  dsimp only
  exact (Keeps.when (fun _ h1 => (pfVioShow_keeps h1)) h.data)

theorem psStart_keeps {s} (h : Keeps s0 s) : Keeps s0 (psStart s) := by
  unfold psStart
  dsimp only
  exact (Keeps.ite
      (State.setFld_keeps h.data)
      (Keeps.when (fun _ h3 => (pllStart_keeps (pllStart_keeps h3))) (State.setFld_keeps h.data)))

theorem psRequest_keeps {v s} (h : Keeps s0 s) : Keeps s0 (psRequest v s) := by
  unfold psRequest
  dsimp only
  exact (Keeps.ite h (Keeps.branch (State.setFld_keeps h) (fun h2 => (psStart_keeps h2))))

theorem execPowerStateRequest_keeps {req s} (h : Keeps s0 s) : KeepsO s0 (execPowerStateRequest req s) := by
  unfold execPowerStateRequest
  exact (KeepsO.heard (KeepsO.next (psRequest_keeps h)) h)

theorem avsDone_keeps {ok complete mv ma s} (h : Keeps s0 s) : Keeps s0 (avsDone ok complete mv ma s) := by
  unfold avsDone
  dsimp only
  exact (by
      split
      · exact h
      · exact (Keeps.share h.data fun h1 =>
            (Keeps.ite
              (by
                split
                · exact h1
                · exact (Keeps.when (fun _ h4 => (State.report_keeps h4)) (State.post_keeps (State.post_keeps h1))))
              (Keeps.ite (State.report_keeps (State.setFld_keeps (State.setFld_keeps h.data))) h.data))))

theorem execPvinOvRecover_keeps {s} (h : Keeps s0 s) : KeepsO s0 (execPvinOvRecover s) := by
  unfold execPvinOvRecover
  dsimp only
  exact (KeepsO.next (Keeps.when (fun _ h1 => (pvinOk_keeps h1)) h.data))

theorem vBounds_keeps {s} (h : Keeps s0 s) : Keeps s0 (vBounds s) := by
  unfold vBounds
  dsimp only
  exact (Keeps.ite (vSend_keeps h) (vFlags_keeps h))

theorem vCfgAfter_keeps {was s} (h : Keeps s0 s) : Keeps s0 (vCfgAfter was s) := by
  unfold vCfgAfter
  dsimp only
  exact (Keeps.branchR
      (Keeps.when (fun _ h3 => (State.setFld_keeps (State.setFld_keeps h3))) h)
      (fun h2 => (vBounds_keeps h2.data)))

theorem execAvsTransactionDone_keeps {ok complete mv ma s} (h : Keeps s0 s) : KeepsO s0 (execAvsTransactionDone ok complete mv ma
    s) := by
  unfold execAvsTransactionDone
  exact (KeepsO.ticking (KeepsO.next (avsDone_keeps h)) h)

theorem execPvinFullChange_keeps {full s} (h : Keeps s0 s) : KeepsO s0 (execPvinFullChange full s) := by
  unfold execPvinFullChange
  dsimp only
  exact (KeepsO.next (Keeps.when (fun _ h1 => (State.setOn_keeps h1)) h.data))

theorem execPfVioChange_keeps {low s} (h : Keeps s0 s) : KeepsO s0 (execPfVioChange low s) := by
  unfold execPfVioChange
  exact (KeepsO.next (pfVio_keeps h))

theorem psStepDone_keeps {s} (h : Keeps s0 s) : Keeps s0 (psStepDone s) := by
  unfold psStepDone
  dsimp only
  exact (by
      split
      · exact h
      · exact (psStart_keeps (Keeps.when (fun _ h1 => (pllStop_keeps (pllStop_keeps h1))) (State.setFld_keeps h))))

theorem execVloopSample_keeps {s} (h : Keeps s0 s) : KeepsO s0 (execVloopSample s) := by
  unfold execVloopSample
  exact (KeepsO.ticking (KeepsO.next (vSample_keeps h)) h)

end Sys2Proof.Machine
end

