-- ==== Sys2Proof/Laws/KeepsGuard.lean ====
section
/-!
SUPPORT. Every operation of Machine/Guard.lean keeps the shell, and canonical maps stay canonical.
-/

namespace Sys2Proof.Machine

variable {s0 : State}

theorem State.viol_keeps {page kind ofs s} (h : Keeps s0 s) : Keeps s0 (State.viol page kind ofs s) := by
  unfold State.viol
  exact (State.setFld_keeps (State.setFld_keeps (State.bump_keeps h)))

end Sys2Proof.Machine
end

