-- ==== Sys2Proof/Laws/KeepsQmg.lean ====
section
/-!
SUPPORT. Every operation of Machine/Qmg.lean keeps the shell, and canonical maps stay canonical.
-/

namespace Sys2Proof.Machine

variable {s0 : State}

theorem State.setQueue_keeps {q x s} (h : Keeps s0 s) : Keeps s0 (State.setQueue q x s) := by
  unfold State.setQueue
  dsimp only
  exact h.data

theorem qXoff_keeps {q s} (h : Keeps s0 s) : Keeps s0 (qXoff q s) := by
  unfold qXoff
  dsimp only
  exact (Keeps.ite
      (Keeps.ite (State.raise_keeps (State.setFld_keeps h)) h)
      (Keeps.ite (State.raise_keeps (State.setFld_keeps h)) h))

theorem qFree_keeps {q cells s} (h : Keeps s0 s) : Keeps s0 (qFree q cells s) := by
  unfold qFree
  dsimp only
  exact (Keeps.ite h (qXoff_keeps (State.setQueue_keeps h).data))

theorem qLink_keeps {q p s} (h : Keeps s0 s) : Keeps s0 (qLink q p s) := by
  unfold qLink
  dsimp only
  exact (by
      split
      · exact h
      · exact (State.setQueue_keeps h))

theorem qCutThrough_keeps {q s} (h : Keeps s0 s) : Keeps s0 (qCutThrough q s) := by
  unfold qCutThrough
  dsimp only
  exact (Keeps.ite
      h
      (by
        split
        · exact (qLink_keeps h)
        · exact h))

theorem qSettle_keeps {q s} (h : Keeps s0 s) : Keeps s0 (qSettle q s) := by
  unfold qSettle
  dsimp only
  exact (by
      split
      · exact h
      · exact (qFree_keeps (State.setQueue_keeps h)))

theorem qCancel_keeps {q p stay s} (h : Keeps s0 s) : Keeps s0 (qCancel q p stay s) := by
  unfold qCancel
  dsimp only
  exact (by
      split
      · exact (qFree_keeps (State.setQueue_keeps h))
      · exact (Keeps.ite (qCutThrough_keeps (qSettle_keeps (State.setQueue_keeps h))) h))

theorem qFlush_keeps {q s} (h : Keeps s0 s) : Keeps s0 (qFlush q s) := by
  unfold qFlush
  dsimp only
  exact (Keeps.eachOf (fun _ _ h1 => (qCancel_keeps h1)) (State.bumpBy_keeps (qFree_keeps (State.setQueue_keeps h))))

theorem qSweepStart_keeps {s} (h : Keeps s0 s) : Keeps s0 (qSweepStart s) := by
  unfold qSweepStart
  dsimp only
  exact (State.setFld_keeps h.data)

theorem qTableError_keeps {q both s} (h : Keeps s0 s) : Keeps s0 (qTableError q both s) := by
  unfold qTableError
  dsimp only
  exact (Keeps.ite (State.bump_keeps h) (qSweepStart_keeps (State.setFld_keeps (qFlush_keeps (State.report_keeps h)))))

theorem qSlip_keeps {s} (h : Keeps s0 s) : Keeps s0 (qSlip s) := by
  unfold qSlip
  dsimp only
  exact (Keeps.ite h h.data)

theorem qClose_keeps {q p drop s} (h : Keeps s0 s) : Keeps s0 (qClose q p drop s) := by
  unfold qClose
  dsimp only
  exact (Keeps.ite
      (State.setQueue_keeps h)
      (by
        split
        · exact h
        · exact (qCutThrough_keeps
              (Keeps.branchR
                (Keeps.when (fun _ h5 => (State.bump_keeps h5)) (State.setQueue_keeps h))
                (fun h4 => (qSettle_keeps h4))))))

theorem qGrant_keeps {q p s} (h : Keeps s0 s) : Keeps s0 (qGrant q p s) := by
  unfold qGrant
  dsimp only
  exact (qXoff_keeps (State.setFld_keeps (State.setQueue_keeps h.data)))

theorem qOpen_keeps {q p s} (h : Keeps s0 s) : Keeps s0 (qOpen q p s) := by
  unfold qOpen
  dsimp only
  exact (by
      split
      · exact h
      · exact (State.setQueue_keeps h))

theorem qOverrun_keeps {q p stay s} (h : Keeps s0 s) : Keeps s0 (qOverrun q p stay s) := by
  unfold qOverrun
  exact (State.raise_keeps (State.bump_keeps (State.bump_keeps (State.setFld_keeps (qCancel_keeps h)))))

theorem qWait_keeps {q p ws close s} (h : Keeps s0 s) : Keeps s0 (qWait q p ws close s) := by
  unfold qWait
  dsimp only
  exact (State.bump_keeps (State.setFld_keeps h)).data

theorem qAppend_keeps {q p w s} (h : Keeps s0 s) : Keeps s0 (qAppend q p w s) := by
  unfold qAppend
  dsimp only
  exact (qCutThrough_keeps
      (State.setQueue_keeps
        (by
          split
          · exact (State.dropBack_keeps h)
          · exact h)))

theorem qWrite_keeps {q p close ws s} (h : Keeps s0 s) : Keeps s0 (qWrite q p close ws s).1 := by
  induction ws generalizing s with
  | nil =>
    unfold qWrite
    split
    · exact h
    · exact .ite_1 (State.bump_keeps h) (.ite_1 (qClose_keeps h)
        (.ite_1 (qClose_keeps (qGrant_keeps (qOpen_keeps h))) (.ite_1 (qOverrun_keeps h) (qWait_keeps h))))
  | cons w ws ih =>
    unfold qWrite
    have ho := qOpen_keeps (q := q) (p := p) h
    refine .ite_1 (State.bump_keeps h) (.ite_1 (ih (State.bump_keeps h)) ?_)
    dsimp only
    split
    · exact ho
    · exact .ite_1 (ih (State.bump_keeps ho)) (.ite_1 (ih (qAppend_keeps ho))
        (.ite_1 (ih (qAppend_keeps (qGrant_keeps ho))) (.ite_1 (State.bumpBy_keeps (qOverrun_keeps ho)) (qWait_keeps ho))))

theorem qAdvance_keeps {q n s} (h : Keeps s0 s) : Keeps s0 (qAdvance q n s) := by
  unfold qAdvance
  dsimp only
  exact (qSettle_keeps (State.setQueue_keeps h))

theorem qReadWords_keeps {q n s} (h : Keeps s0 s) : Keeps s0 (qReadWords q n s).2 := by
  induction n generalizing s with
  | zero => exact h
  | succ n ih =>
    unfold qReadWords
    split
    · exact h
    · exact .ite_2 h (ih (qAdvance_keeps h))

theorem qPass_keeps {q s} (h : Keeps s0 s) : Keeps s0 (qPass q s) := by
  unfold qPass
  dsimp only
  exact (qSettle_keeps (State.setQueue_keeps h))

theorem qJoin_keeps {q p close ws s} (h : Keeps s0 s) : Keeps s0 (qJoin q p close ws s) := by
  unfold qJoin
  dsimp only
  exact (by
      split
      · exact (Keeps.ite (qWait_keeps h) h.data)
      · exact h)

theorem qSubmit_keeps {q p close ws s} (h : Keeps s0 s) : Keeps s0 (qSubmit q p close ws s).1 := by
  unfold qSubmit
  exact (Keeps.ite_1 (qJoin_keeps h) (qWrite_keeps h))

theorem qWriteSig_keeps {q p ws len s} (h : Keeps s0 s) : Keeps s0 (qWriteSig q p ws len s).1 := by
  unfold qWriteSig
  exact (qSubmit_keeps h)

theorem qWriteBytes_keeps {q p bs s} (h : Keeps s0 s) : Keeps s0 (qWriteBytes q p bs s).1 := by
  unfold qWriteBytes
  exact (qWriteSig_keeps h)

theorem winAsk_keeps {w s} (h : Keeps s0 s) : Keeps s0 (winAsk w s) := by
  unfold winAsk
  exact (by
      split
      · exact (Keeps.ite (Keeps.ite (qGrant_keeps h) (State.setFld_keeps h)) h)
      · exact h)

theorem winAskAll_keeps {s} (h : Keeps s0 s) : Keeps s0 (winAskAll s) := by
  unfold winAskAll
  exact (Keeps.each (fun _ _ h1 => (winAsk_keeps h1)) h)

theorem qTickCheck_keeps {s} (h : Keeps s0 s) : Keeps s0 (qTickCheck s) := by
  unfold qTickCheck
  dsimp only
  exact (Keeps.share (State.raise_keeps (State.bump_keeps (State.report_keeps h))) fun h1 =>
      (Keeps.ite h (Keeps.ite h.data (Keeps.ite h1.data (qSweepStart_keeps h1.data)))))

theorem qDisable_keeps {q s} (h : Keeps s0 s) : Keeps s0 (qDisable q s) := by
  unfold qDisable
  dsimp only
  exact (State.bumpBy_keeps (qFree_keeps (State.setQueue_keeps h.data)))

theorem winLose_keeps {w s} (h : Keeps s0 s) : Keeps s0 (winLose w s) := by
  unfold winLose
  exact (State.bump_keeps h)

theorem qRelease_keeps {q s} (h : Keeps s0 s) : Keeps s0 (qRelease q s) := by
  unfold qRelease
  dsimp only
  exact (qFree_keeps (State.setQueue_keeps h))

theorem winWrite_keeps {w v s} (h : Keeps s0 s) : Keeps s0 (winWrite w v s) := by
  unfold winWrite
  dsimp only
  exact (Keeps.share (winAsk_keeps (qOpen_keeps h)) fun h1 =>
      (Keeps.branch
        (winLose_keeps h)
        (fun h2 =>
          (Keeps.ite
            (State.bump_keeps h2)
            (Keeps.ite
              (State.bump_keeps h)
              (by
                split
                · exact h1
                · exact (Keeps.ite
                      (State.bump_keeps h1)
                      (Keeps.ite (winAsk_keeps (qAppend_keeps h1)) (winLose_keeps (State.setQueue_keeps h1))))))))))

theorem winAbort_keeps {w s} (h : Keeps s0 s) : Keeps s0 (winAbort w s) := by
  unfold winAbort
  dsimp only
  exact (by
      split
      · exact (State.bump_keeps (qCancel_keeps h))
      · exact h)

theorem winClose_keeps {w drop s} (h : Keeps s0 s) : Keeps s0 (winClose w drop s) := by
  unfold winClose
  dsimp only
  exact (Keeps.ite
      (qClose_keeps h)
      (by
        split
        · exact (Keeps.share (qFree_keeps (State.setQueue_keeps h)) fun h3 =>
              (Keeps.ite (winLose_keeps (qCancel_keeps h3)) (qClose_keeps h3)))
        · exact (Keeps.ite (qClose_keeps (qGrant_keeps (qOpen_keeps h))) (winLose_keeps h))))

theorem winSkip_keeps {w s} (h : Keeps s0 s) : Keeps s0 (winSkip w s) := by
  unfold winSkip
  dsimp only
  exact (Keeps.ite (qPass_keeps h) h)

theorem execWindowAbort_keeps {port s} (h : Keeps s0 s) : KeepsO s0 (execWindowAbort port s) := by
  unfold execWindowAbort
  exact (KeepsO.heard (KeepsO.next (winAbort_keeps h)) h)

theorem execCellRequest_keeps {q rank kind unit words s} (h : Keeps s0 s) : KeepsO s0 (execCellRequest q rank kind unit words s) :=
    by
  unfold execCellRequest
  exact (KeepsO.ticking (KeepsO.next (qSubmit_keeps h)) h)

theorem qSweepDone_keeps {s} (h : Keeps s0 s) : Keeps s0 (qSweepDone s) := by
  unfold qSweepDone
  dsimp only
  exact (Keeps.ite
      h
      (State.raise_keeps
        (State.bumpBy_keeps
          (State.setFld_keeps
            (Keeps.data
              (Keeps.eachOf
                (fun _ _ h2 => (State.setQueue_keeps h2))
                (Keeps.eachOf (fun _ _ h3 => (State.setQueue_keeps h3)) h)))))))

theorem execQmgSweepDone_keeps {s} (h : Keeps s0 s) : KeepsO s0 (execQmgSweepDone s) := by
  unfold execQmgSweepDone
  exact (KeepsO.ticking (KeepsO.next (qSweepDone_keeps h)) h)

theorem qServe_keeps {s} (h : Keeps s0 s) : Keeps s0 (qServe s) := by
  unfold qServe
  dsimp only
  exact (by
      split
      · exact h
      · exact (qWrite_keeps (Keeps.branchR h.data (fun h2 => (qGrant_keeps (qOpen_keeps h2))))).data)

theorem execCellGrant_keeps {s} (h : Keeps s0 s) : KeepsO s0 (execCellGrant s) := by
  unfold execCellGrant
  exact (KeepsO.ticking (KeepsO.next (qServe_keeps h)) h)

theorem qEcc_keeps {q ecc s} (h : Keeps s0 s) : Keeps s0 (qEcc q ecc s) := by
  unfold qEcc
  dsimp only
  exact (Keeps.ite
      (State.bump_keeps h).data
      (Keeps.ite (State.report_keeps (State.raise_keeps (State.bump_keeps (State.setQueue_keeps h)))) h))

theorem qReadQuire_keeps {q ecc n s} (h : Keeps s0 s) : Keeps s0 (qReadQuire q ecc n s).2 := by
  induction n generalizing s with
  | zero => exact h
  | succ n ih =>
    unfold qReadQuire
    split
    · exact h
    · exact .ite_2 (ih (qPass_keeps h)) (.ite_2 h (qAdvance_keeps (qEcc_keeps h)))

theorem execQueueRead_keeps {q ecc s} (h : Keeps s0 s) : KeepsO s0 (execQueueRead q ecc s) := by
  unfold execQueueRead
  dsimp only
  exact (KeepsO.ticking (KeepsO.next (qReadQuire_keeps h).data) h)

theorem winRead_keeps {w ecc s} (h : Keeps s0 s) : Keeps s0 (winRead w ecc s).2 := by
  unfold winRead
  dsimp only
  exact (Keeps.branch_2
      (State.bump_keeps h)
      (fun h1 =>
        (by
          split
          · exact h1
          · exact (Keeps.ite_2 (qPass_keeps h) (Keeps.ite_2 h1 (qAdvance_keeps (qEcc_keeps h)))))))

theorem execWindowClose_keeps {port drop s} (h : Keeps s0 s) : KeepsO s0 (execWindowClose port drop s) := by
  unfold execWindowClose
  exact (KeepsO.heard (KeepsO.next (winClose_keeps h)) h)

theorem execWindowSkip_keeps {port s} (h : Keeps s0 s) : KeepsO s0 (execWindowSkip port s) := by
  unfold execWindowSkip
  exact (KeepsO.heard (KeepsO.next (winSkip_keeps h)) h)

theorem qCmdErr_keeps {b s} (h : Keeps s0 s) : Keeps s0 (qCmdErr b s) := by
  unfold qCmdErr
  exact (State.setOn_keeps h)

theorem qBmSet_keeps {q s} (h : Keeps s0 s) : Keeps s0 (qBmSet q s) := by
  unfold qBmSet
  dsimp only
  exact (Keeps.ite (qRelease_keeps h) (State.setQueue_keeps h))

theorem qWithBm_keeps {f : Nat → State → State} {s} (hf : ∀ q s, Keeps s0 s → Keeps s0 (f q s)) (h : Keeps s0 s) :
    Keeps s0 (qWithBm f s) := by
  unfold qWithBm; exact .ite (qCmdErr_keeps (hf _ _ h)) (qCmdErr_keeps h)

theorem qBmRewind_keeps {q s} (h : Keeps s0 s) : Keeps s0 (qBmRewind q s) := by
  unfold qBmRewind
  dsimp only
  exact (State.skipFree_keeps (State.setQueue_keeps h))

theorem qBmClear_keeps {q s} (h : Keeps s0 s) : Keeps s0 (qBmClear q s) := by
  unfold qBmClear
  dsimp only
  exact (qSettle_keeps (State.setQueue_keeps (qRelease_keeps h)))

theorem execSignatureClose_keeps {q rank kind unit drop s} (h : Keeps s0 s) : KeepsO s0 (execSignatureClose q rank kind unit drop
    s) := by
  unfold execSignatureClose
  exact (KeepsO.ticking (KeepsO.next (qSubmit_keeps h)) h)

theorem execQueueFlush_keeps {s} (h : Keeps s0 s) : KeepsO s0 (execQueueFlush s) := by
  unfold execQueueFlush
  exact (KeepsO.heard (KeepsO.next (qCmdErr_keeps (qFlush_keeps h))) h)

theorem execBookmarkSet_keeps {s} (h : Keeps s0 s) : KeepsO s0 (execBookmarkSet s) := by
  unfold execBookmarkSet
  exact (KeepsO.heard (KeepsO.next (qCmdErr_keeps (qBmSet_keeps h))) h)

theorem execBookmarkRewind_keeps {s} (h : Keeps s0 s) : KeepsO s0 (execBookmarkRewind s) := by
  unfold execBookmarkRewind
  exact (KeepsO.heard (KeepsO.next (qWithBm_keeps (fun _ _ h1 => (qBmRewind_keeps h1)) h)) h)

theorem execBookmarkRelease_keeps {s} (h : Keeps s0 s) : KeepsO s0 (execBookmarkRelease s) := by
  unfold execBookmarkRelease
  exact (KeepsO.heard (KeepsO.next (qWithBm_keeps (fun _ _ h1 => (qRelease_keeps h1)) h)) h)

theorem execBookmarkClear_keeps {s} (h : Keeps s0 s) : KeepsO s0 (execBookmarkClear s) := by
  unfold execBookmarkClear
  exact (KeepsO.heard (KeepsO.next (qWithBm_keeps (fun _ _ h1 => (qBmClear_keeps h1)) h)) h)

theorem execWindowWrite_keeps {port data s} (h : Keeps s0 s) : KeepsO s0 (execWindowWrite port data s) := by
  unfold execWindowWrite
  exact (KeepsO.heard (KeepsO.next (winWrite_keeps h)) h)

theorem execWindowRead_keeps {port o ecc s} (h : Keeps s0 s) : KeepsO s0 (execWindowRead port o ecc s) := by
  unfold execWindowRead
  dsimp only
  exact (KeepsO.heardFrom (KeepsO.next (State.answer_keeps (winRead_keeps h))) h)

end Sys2Proof.Machine
end

