-- ==== Sys2Proof/Laws/KeepsFch.lean ====
section
/-!
SUPPORT. Every operation of Machine/Fch.lean keeps the shell, and canonical maps stay canonical.
-/

namespace Sys2Proof.Machine

variable {s0 : State}

theorem State.setAud_keeps {d x s} (h : Keeps s0 s) : Keeps s0 (State.setAud d x s) := by
  unfold State.setAud
  dsimp only
  exact h.data

theorem State.setCtl_keeps {c x s} (h : Keeps s0 s) : Keeps s0 (State.setCtl c x s) := by
  unfold State.setCtl
  dsimp only
  exact h.data

theorem fchHistory_keeps {u age fatal s} (h : Keeps s0 s) : Keeps s0 (fchHistory u age fatal s) := by
  unfold fchHistory
  dsimp only
  exact (Keeps.ite
      (State.bump_keeps h)
      (Keeps.ite (State.report_keeps (State.setAud_keeps h)) (State.report_keeps (State.setCtl_keeps h))))

theorem fchPut_keeps {src w s} (h : Keeps s0 s) : Keeps s0 (fchPut src w s) := by
  unfold fchPut
  exact (Keeps.ite h (State.produce_keeps h))

theorem evPost_keeps {c stamp kind flags val s} (h : Keeps s0 s) : Keeps s0 (evPost c stamp kind flags val s) := by
  unfold evPost
  dsimp only
  exact (State.raise_keeps (State.bump_keeps h.data))

theorem peakClose_keeps {c s} (h : Keeps s0 s) : Keeps s0 (peakClose c s) := by
  unfold peakClose
  dsimp only
  exact (by
      split
      · exact h
      · exact (evPost_keeps (State.setCtl_keeps h)))

theorem thrEval_keeps {c k y t b s} (h : Keeps s0 s) : Keeps s0 (thrEval c k y t b s) := by
  unfold thrEval
  dsimp only
  exact (Keeps.share (State.setFld_keeps (State.setFld_keeps (State.setFld_keeps (State.setCtl_keeps h)))) fun h1 =>
      (Keeps.share (State.setCtl_keeps h) fun h2 =>
        (Keeps.share (State.setFld_keeps (State.setFld_keeps (State.setFld_keeps h2))) fun h3 =>
          (Keeps.ite
            h
            (Keeps.ite
              (Keeps.ite (evPost_keeps h3) (Keeps.ite (evPost_keeps h1) h2))
              (Keeps.ite
                (Keeps.branchR
                  (Keeps.when (fun _ h14 => (evPost_keeps h14)) h3)
                  (fun h13 => (State.setCtl_keeps (peakClose_keeps h13))))
                (Keeps.ite (Keeps.when (fun _ h16 => (evPost_keeps h16)) h1) h2)))))))

theorem peakTake_keeps {c b y t s} (h : Keeps s0 s) : Keeps s0 (peakTake c b y t s) := by
  unfold peakTake
  dsimp only
  exact (by
      split
      · exact (State.setCtl_keeps h)
      · exact h)

theorem valueTake_keeps {c b y t s} (h : Keeps s0 s) : Keeps s0 (valueTake c b y t s) := by
  unfold valueTake
  dsimp only
  exact (Keeps.ite (evPost_keeps (State.setCtl_keeps h)) h)

theorem ctlOutput_keeps {c tag t s} (h : Keeps s0 s) : Keeps s0 (ctlOutput c tag t s) := by
  unfold ctlOutput
  dsimp only
  exact (Keeps.share (fchPut_keeps
          (State.setOn_keeps (State.post_keeps (Keeps.when (fun _ h1 => (State.setCtl_keeps h1)) h)))) fun h2 =>
      (Keeps.ite
        (State.setCtl_keeps h2)
        (State.setCtl_keeps (valueTake_keeps (peakTake_keeps (thrEval_keeps (thrEval_keeps h2)))))))

theorem ctlTake_keeps {c w t s} (h : Keeps s0 s) : Keeps s0 (ctlTake c w t s) := by
  unfold ctlTake
  dsimp only
  exact (Keeps.branchR
      (Keeps.when (fun _ h3 => (State.setFld_keeps h3)) (Keeps.when (fun _ h4 => (State.bump_keeps h4)) (State.setCtl_keeps h)))
      (fun h2 => (ctlOutput_keeps h2)))

theorem ctlLate_keeps {c s} (h : Keeps s0 s) : Keeps s0 (ctlLate c s) := by
  unfold ctlLate
  dsimp only
  exact (Keeps.ite
      h
      (State.setCtl_keeps
        (ctlTake_keeps
          (Keeps.when
            (fun _ h2 => (State.report_keeps h2))
            (State.raise_keeps (State.setFld_keeps (State.bump_keeps (State.setCtl_keeps h))))))))

theorem execControlSampleLate_keeps {c s} (h : Keeps s0 s) : KeepsO s0 (execControlSampleLate c s) := by
  unfold execControlSampleLate
  exact (KeepsO.ticking (KeepsO.next (ctlLate_keeps h)) h)

theorem audStep_keeps {d s} (h : Keeps s0 s) : Keeps s0 (audStep d s) := by
  unfold audStep
  dsimp only
  exact (State.setAud_keeps h)

theorem audFixed_keeps {d w s} (h : Keeps s0 s) : Keeps s0 (audFixed d w s) := by
  unfold audFixed
  exact (fchPut_keeps (State.setOn_keeps (audStep_keeps h)))

theorem audValue_keeps {d tag wt s} (h : Keeps s0 s) : Keeps s0 (audValue d tag wt s) := by
  unfold audValue
  dsimp only
  exact (fchPut_keeps (State.setOn_keeps (State.setAud_keeps (audStep_keeps h))))

theorem audPush_keeps {d vs s} (h : Keeps s0 s) : Keeps s0 (audPush d vs s) := by
  unfold audPush
  dsimp only
  exact (State.setAud_keeps h)

theorem ctlRamp_keeps {s} (h : Keeps s0 s) : Keeps s0 (ctlRamp s) := by
  unfold ctlRamp
  exact (Keeps.each (fun _ _ h1 => (Keeps.when (fun _ h2 => (fchPut_keeps h2)) h1)) h)

theorem evFlush_keeps {s} (h : Keeps s0 s) : Keeps s0 (evFlush s) := by
  unfold evFlush
  dsimp only
  exact (Keeps.share (qWriteSig_keeps h.data) fun h1 =>
      (Keeps.ite h.data (Keeps.ite (State.bumpBy_keeps h1) (State.raise_keeps (State.bump_keeps h1)))))

theorem ctlFrozenShow_keeps {c s} (h : Keeps s0 s) : Keeps s0 (ctlFrozenShow c s) := by
  unfold ctlFrozenShow
  exact (State.setOn_keeps h)

theorem audFrozenShow_keeps {d s} (h : Keeps s0 s) : Keeps s0 (audFrozenShow d s) := by
  unfold audFrozenShow
  exact (State.setOn_keeps h)

theorem banksShow_keeps {s} (h : Keeps s0 s) : Keeps s0 (banksShow s) := by
  unfold banksShow
  exact (Keeps.each (fun _ _ h1 => (ctlFrozenShow_keeps h1)) (Keeps.each (fun _ _ h2 => (audFrozenShow_keeps h2)) h))

theorem audMark_keeps {d t n s} (h : Keeps s0 s) : Keeps s0 (audMark d t n s) := by
  unfold audMark
  dsimp only
  exact (State.setAud_keeps h)

theorem audStart_keeps {d s} (h : Keeps s0 s) : Keeps s0 (audStart d s) := by
  unfold audStart
  dsimp only
  exact (State.setAud_keeps h)

theorem audSwap_keeps {d bank s} (h : Keeps s0 s) : Keeps s0 (audSwap d bank s) := by
  unfold audSwap
  dsimp only
  exact (Keeps.ite
      h
      (audFrozenShow_keeps
        (Keeps.when
          (fun _ h2 => (State.raise_keeps h2))
          (State.setOn_keeps (State.setAud_keeps (State.setFld_keeps (State.bump_keeps (State.setFld_keeps h))))))))

theorem ctlSwapLand_keeps {c s} (h : Keeps s0 s) : Keeps s0 (ctlSwapLand c s) := by
  unfold ctlSwapLand
  dsimp only
  exact (by
      split
      · exact h
      · exact (ctlFrozenShow_keeps (State.setFld_keeps (State.setFld_keeps (State.setCtl_keeps h)))))

theorem thrReset_keeps {c k s} (h : Keeps s0 s) : Keeps s0 (thrReset c k s) := by
  unfold thrReset
  dsimp only
  exact (State.setFld_keeps (State.setFld_keeps (State.setFld_keeps (State.setCtl_keeps h))))

theorem ctlStart_keeps {c s} (h : Keeps s0 s) : Keeps s0 (ctlStart c s) := by
  unfold ctlStart
  dsimp only
  exact (Keeps.branch
      (State.setFld_keeps (thrReset_keeps (thrReset_keeps (State.setCtl_keeps (ctlSwapLand_keeps h)))))
      (fun h1 => (State.produce_keeps h1)))

theorem ctlSwap_keeps {c bank s} (h : Keeps s0 s) : Keeps s0 (ctlSwap c bank s) := by
  unfold ctlSwap
  dsimp only
  exact (Keeps.ite
      (ctlFrozenShow_keeps (State.setCtl_keeps h))
      (Keeps.ite (State.setFld_keeps h) (ctlFrozenShow_keeps (State.setCtl_keeps h))))

theorem fchBankWrite_keeps {ctl k bank w s} (h : Keeps s0 s) : Keeps s0 (fchBankWrite ctl k bank w s) := by
  unfold fchBankWrite
  exact (Keeps.ite
      (Keeps.ite (State.raise_keeps (State.report_keeps (State.viol_keeps h))) (State.setWord_keeps h))
      (Keeps.ite (State.raise_keeps (State.report_keeps (State.bump_keeps (State.viol_keeps h)))) (State.setWord_keeps h)))

theorem fchWake_keeps {s} (h : Keeps s0 s) : Keeps s0 (fchWake s) := by
  unfold fchWake
  exact (Keeps.each
      (fun _ _ h1 => (Keeps.when (fun _ h2 => (ctlStart_keeps h2)) h1))
      (Keeps.each (fun _ _ h3 => (audStart_keeps h3)) h))

theorem execFchBankWrite_keeps {control ch bank data s} (h : Keeps s0 s) : KeepsO s0 (execFchBankWrite control ch bank data s) := by
  unfold execFchBankWrite
  exact (KeepsO.heard (KeepsO.next (fchBankWrite_keeps h)) h)

theorem fchGuardShow_keeps {s} (h : Keeps s0 s) : Keeps s0 (fchGuardShow s) := by
  unfold fchGuardShow
  dsimp only
  exact (State.setFld_keeps (State.setOn_keeps (State.setOn_keeps h)))

theorem ctlSwitch_keeps {c s} (h : Keeps s0 s) : Keeps s0 (ctlSwitch c s) := by
  unfold ctlSwitch
  dsimp only
  exact (Keeps.ite (ctlSwapLand_keeps h) h)

theorem thrForce_keeps {c k v s} (h : Keeps s0 s) : Keeps s0 (thrForce c k v s) := by
  unfold thrForce
  dsimp only
  exact (Keeps.ite
      h
      (Keeps.ite (thrReset_keeps h) (State.setFld_keeps (State.setFld_keeps (State.setFld_keeps (State.setCtl_keeps h))))))

theorem thrForces_keeps {c s} (h : Keeps s0 s) : Keeps s0 (thrForces c s) := by
  unfold thrForces
  dsimp only
  exact (Keeps.each
      (fun _ _ h1 =>
        (by
          split
          · exact h1
          · exact (thrForce_keeps (State.setCtl_keeps h1))))
      h)

theorem execControlSwapSwitch_keeps {c s} (h : Keeps s0 s) : KeepsO s0 (execControlSwapSwitch c s) := by
  unfold execControlSwapSwitch
  exact (KeepsO.ticking (KeepsO.next (ctlSwitch_keeps h)) h)

theorem thrForceLand_keeps {c k v s} (h : Keeps s0 s) : Keeps s0 (thrForceLand c k v s) := by
  unfold thrForceLand
  dsimp only
  exact (Keeps.ite (State.setCtl_keeps h) (thrForce_keeps h))

theorem execComparatorForceHigh_keeps {c k s} (h : Keeps s0 s) : KeepsO s0 (execComparatorForceHigh c k s) := by
  unfold execComparatorForceHigh
  exact (KeepsO.heard (KeepsO.next (thrForceLand_keeps h)) h)

theorem execComparatorForceLow_keeps {c k s} (h : Keeps s0 s) : KeepsO s0 (execComparatorForceLow c k s) := by
  unfold execComparatorForceLow
  exact (KeepsO.heard (KeepsO.next (thrForceLand_keeps h)) h)

theorem audSwapEnd_keeps {d s} (h : Keeps s0 s) : Keeps s0 (audSwapEnd d s) := by
  unfold audSwapEnd
  dsimp only
  exact (Keeps.ite (State.raise_keeps (audFrozenShow_keeps (State.setFld_keeps (State.setAud_keeps h)))) h)

theorem execFchRestore_keeps {s} (h : Keeps s0 s) : KeepsO s0 (execFchRestore s) := by
  unfold execFchRestore
  exact (KeepsO.heard (KeepsO.next (Keeps.ite (State.startTest_keeps h) h)) h)

theorem fchResidue_keeps {mac src s} (h : Keeps s0 s) : Keeps s0 (fchResidue mac src s) := by
  unfold fchResidue
  dsimp only
  exact (Keeps.share (State.report_keeps (fchGuardShow_keeps (State.bump_keeps (State.produce_keeps h.data)))) fun h1 =>
      (by
        split
        · exact (State.raise_keeps h1)
        · exact (State.raise_keeps (State.report_keeps h1))
        · exact h1))

theorem execFchResidue_keeps {mac src s} (h : Keeps s0 s) : KeepsO s0 (execFchResidue mac src s) := by
  unfold execFchResidue
  exact (KeepsO.ticking (KeepsO.next (fchResidue_keeps h)) h)

theorem execPeakCapture_keeps {c s} (h : Keeps s0 s) : KeepsO s0 (execPeakCapture c s) := by
  unfold execPeakCapture
  exact (KeepsO.ticking
      (KeepsO.next
        (by
          split
          · exact (peakClose_keeps h)
          · exact h))
      h)

theorem fchRestoreEnd_keeps {failed s} (h : Keeps s0 s) : Keeps s0 (fchRestoreEnd failed s) := by
  unfold fchRestoreEnd
  dsimp only
  exact (Keeps.branchR
      (Keeps.when (fun _ h3 => (State.report_keeps h3)) (fchGuardShow_keeps h.data))
      (fun h2 =>
        (Keeps.each
          (fun _ _ h4 => (Keeps.when (fun _ h5 => (ctlStart_keeps h5)) h4))
          (Keeps.each (fun _ _ h6 => (audStart_keeps h6)) h2))))

theorem execComparatorAmbig_keeps {c k s} (h : Keeps s0 s) : KeepsO s0 (execComparatorAmbig c k s) := by
  unfold execComparatorAmbig
  dsimp only
  exact (KeepsO.ticking
      (KeepsO.next
        (by
          split
          · exact h
          · exact (Keeps.ite (State.raise_keeps (evPost_keeps (State.setFld_keeps h))) h)))
      h)

theorem ctlInput_keeps {c w tick cyc s} (h : Keeps s0 s) : Keeps s0 (ctlInput c w tick cyc s) := by
  unfold ctlInput
  dsimp only
  exact (Keeps.ite h (Keeps.ite (State.setCtl_keeps h) (ctlTake_keeps (State.setCtl_keeps h))))

theorem execComparatorRelease_keeps {c k s} (h : Keeps s0 s) : KeepsO s0 (execComparatorRelease c k s) := by
  unfold execComparatorRelease
  exact (KeepsO.heard (KeepsO.next (thrForceLand_keeps h)) h)

end Sys2Proof.Machine
end

