-- ==== Sys2Proof/Laws/KeepsAin.lean ====
section
/-!
SUPPORT. Every operation of Machine/Ain.lean keeps the shell, and canonical maps stay canonical.
-/

namespace Sys2Proof.Machine

variable {s0 : State}

theorem State.setAch_keeps {n x s} (h : Keeps s0 s) : Keeps s0 (State.setAch n x s) := by
  unfold State.setAch
  dsimp only
  exact h.data

theorem guardShow_keeps {n s} (h : Keeps s0 s) : Keeps s0 (guardShow n s) := by
  unfold guardShow
  dsimp only
  exact (State.setFld_keeps h)

theorem pathDisagree_keeps {n hs ls s} (h : Keeps s0 s) : Keeps s0 (pathDisagree n hs ls s) := by
  unfold pathDisagree
  dsimp only
  exact (Keeps.share (State.report_keeps (State.raise_keeps (State.bump_keeps (State.setAch_keeps h)))) fun h1 =>
      (Keeps.ite (Keeps.ite (guardShow_keeps (State.setAch_keeps h1)) (State.setAch_keeps h1)) (State.setAch_keeps h)))

theorem micbTick_keeps {s} (h : Keeps s0 s) : Keeps s0 (micbTick s) := by
  unfold micbTick
  dsimp only
  exact (Keeps.each (fun _ _ h1 => h1.data) h)

theorem ainRestart_keeps {n s} (h : Keeps s0 s) : Keeps s0 (ainRestart n s) := by
  unfold ainRestart
  dsimp only
  exact (guardShow_keeps (State.setAch_keeps h))

theorem ainPga_keeps {n old new s} (h : Keeps s0 s) : Keeps s0 (ainPga n old new s) := by
  unfold ainPga
  dsimp only
  exact (Keeps.ite h (Keeps.ite (audMark_keeps h) (State.setAch_keeps h)))

theorem ainForce_keeps {n old new s} (h : Keeps s0 s) : Keeps s0 (ainForce n old new s) := by
  unfold ainForce
  dsimp only
  exact (Keeps.ite h (audMark_keeps (State.setAch_keeps h)))

theorem matchEnter_keeps {n v s} (h : Keeps s0 s) : Keeps s0 (matchEnter n v s) := by
  unfold matchEnter
  dsimp only
  exact (Keeps.when (fun _ h1 => (State.raise_keeps h1)) (State.setFld_keeps (State.setAch_keeps h)))

theorem matchSeek_keeps {n v s} (h : Keeps s0 s) : Keeps s0 (matchSeek n v s) := by
  unfold matchSeek
  dsimp only
  exact (matchEnter_keeps h)

theorem matchStart_keeps {n s} (h : Keeps s0 s) : Keeps s0 (matchStart n s) := by
  unfold matchStart
  exact (matchSeek_keeps h)

theorem ainMode_keeps {n new s} (h : Keeps s0 s) : Keeps s0 (ainMode n new s) := by
  unfold ainMode
  dsimp only
  exact (Keeps.ite
      (matchStart_keeps (State.setAch_keeps h))
      (Keeps.ite
        (Keeps.ite (Keeps.ite h (matchStart_keeps (State.setAch_keeps h))) (State.setAch_keeps h))
        (Keeps.ite
          h
          (Keeps.ite
            (Keeps.ite (matchStart_keeps (State.setAch_keeps h)) (matchStart_keeps (State.setAch_keeps h)))
            (State.setAch_keeps h)))))

theorem micbPress_keeps {k s} (h : Keeps s0 s) : Keeps s0 (micbPress k s) := by
  unfold micbPress
  dsimp only
  exact (Keeps.when (fun _ h1 => (State.setFld_keeps h1)) h.data)

theorem statTake_keeps {words s} (h : Keeps s0 s) : Keeps s0 (statTake words s) := by
  unfold statTake
  dsimp only
  exact h.data

theorem mergeChoose_keeps {n w0 next s} (h : Keeps s0 s) : Keeps s0 (mergeChoose n w0 next s) := by
  unfold mergeChoose
  dsimp only
  exact (Keeps.ite
      (State.bump_keeps (State.setAch_keeps h))
      (Keeps.ite (State.setAch_keeps h) (Keeps.ite (State.setAch_keeps h) (State.setAch_keeps h))))

theorem chanFail_keeps {n code s} (h : Keeps s0 s) : Keeps s0 (chanFail n code s) := by
  unfold chanFail
  dsimp only
  exact (Keeps.ite h (State.report_keeps (guardShow_keeps (State.setAch_keeps h))))

theorem mergeSample_keeps {n w0 next acc} (h : Keeps s0 acc.2) : Keeps s0 (mergeSample n w0 next acc).2 := by
  unfold mergeSample
  dsimp only
  exact (Keeps.branch (State.setAch_keeps (mergeChoose_keeps h)) (fun h1 => (Keeps.ite (State.bump_keeps h1) (chanFail_keeps h1))))

theorem statTests_keeps {n sh sl s} (h : Keeps s0 s) : Keeps s0 (statTests n sh sl s) := by
  unfold statTests
  dsimp only
  exact (Keeps.when (fun _ h1 => (State.setAch_keeps h1)) h)

theorem ainRestore_keeps {n s} (h : Keeps s0 s) : Keeps s0 (ainRestore n s) := by
  unfold ainRestore
  dsimp only
  exact (Keeps.ite (State.startTest_keeps (State.setAch_keeps h)) h)

theorem execAinRestore_keeps {n s} (h : Keeps s0 s) : KeepsO s0 (execAinRestore n s) := by
  unfold execAinRestore
  exact (KeepsO.heard (KeepsO.next (ainRestore_keeps h)) h)

theorem matchCount_keeps {n new s} (h : Keeps s0 s) : Keeps s0 (matchCount n new s) := by
  unfold matchCount
  dsimp only
  exact (State.setAch_keeps h)

theorem pathOut_keeps {n low s} (h : Keeps s0 s) : Keeps s0 (pathOut n low s) := by
  unfold pathOut
  dsimp only
  exact (Keeps.share (matchSeek_keeps (State.raise_keeps (State.report_keeps (State.bump_keeps (State.setAch_keeps h))))) fun h1 =>
      (Keeps.ite h (Keeps.ite (chanFail_keeps h1) (guardShow_keeps h1))))

theorem ainStatus_keeps {n sh sl s} (h : Keeps s0 s) : Keeps s0 (ainStatus n sh sl s) := by
  unfold ainStatus
  dsimp only
  exact (Keeps.when
      (fun _ h1 => (pathOut_keeps h1))
      (Keeps.when (fun _ h2 => (pathOut_keeps h2)) (Keeps.when (fun _ h3 => (chanFail_keeps h3)) h)))

theorem ainMerge_keeps {n new s} (h : Keeps s0 s) : Keeps s0 (ainMerge n new s).2 := by
  unfold ainMerge
  dsimp only
  exact (State.setAch_keeps (Keeps.foldl_2 (fun _ _ h1 => (mergeSample_keeps h1)) h))

theorem ainValue_keeps {n tag s} (h : Keeps s0 s) : Keeps s0 (ainValue n tag s) := by
  unfold ainValue
  dsimp only
  exact (Keeps.share (State.setAch_keeps h) fun h1 =>
      (Keeps.ite
        (audFixed_keeps h1)
        (Keeps.ite
          (audFixed_keeps h1)
          (Keeps.ite (audFixed_keeps h1) (Keeps.ite (audFixed_keeps h1) (Keeps.ite (audFixed_keeps h1) (audValue_keeps h1)))))))

theorem ainTake_keeps {n hs ls s} (h : Keeps s0 s) : Keeps s0 (ainTake n hs ls s) := by
  unfold ainTake
  dsimp only
  exact (Keeps.share (Keeps.when
          (fun _ h1 => (ainStatus_keeps h1))
          (Keeps.when (fun _ h2 => (statTests_keeps h2)) (matchCount_keeps (State.setAch_keeps h)))) fun h3 =>
      (Keeps.share (ainValue_keeps
            (Keeps.when
              (fun _ h4 => (State.raise_keeps (State.bump_keeps h4)))
              (State.setFld_keeps
                (State.setOn_keeps (audPush_keeps (Keeps.ite_2 (ainMerge_keeps h3) (State.setAch_keeps h3))))))) fun h7 =>
        (Keeps.ite (pathDisagree_keeps h7) (State.setAch_keeps h7))))

theorem matchAcquire_keeps {n s} (h : Keeps s0 s) : Keeps s0 (matchAcquire n s) := by
  unfold matchAcquire
  exact (matchSeek_keeps h)

theorem ainRestoreEnd_keeps {n s} (h : Keeps s0 s) : Keeps s0 (ainRestoreEnd n s) := by
  unfold ainRestoreEnd
  dsimp only
  exact (Keeps.share (State.setAch_keeps h) fun h1 =>
      (Keeps.ite
        (matchAcquire_keeps (Keeps.ite (ainRestart_keeps h1) (guardShow_keeps h1)))
        (State.report_keeps (State.bump_keeps h))))

theorem matchRest_keeps {n ax v s} (h : Keeps s0 s) : Keeps s0 (matchRest n ax v s) := by
  unfold matchRest
  dsimp only
  exact (Keeps.share (Keeps.when
          (fun _ h1 => (State.report_keeps h1))
          (Keeps.when (fun _ h2 => (State.raise_keeps h2)) (State.setAch_keeps h))) fun h3 =>
      (Keeps.ite
        (State.setOn_keeps (State.setOn_keeps (State.setOn_keeps h3)))
        (State.setOn_keeps (State.setOn_keeps (State.setOn_keeps h3)))))

theorem execMergeReturn_keeps {n s} (h : Keeps s0 s) : KeepsO s0 (execMergeReturn n s) := by
  unfold execMergeReturn
  dsimp only
  exact (KeepsO.ticking (KeepsO.next (Keeps.ite (State.setAch_keeps h) h)) h)

theorem ainStepDone_keeps {n s} (h : Keeps s0 s) : Keeps s0 (ainStepDone n s) := by
  unfold ainStepDone
  dsimp only
  exact (Keeps.ite
      (Keeps.ite (matchStart_keeps (State.setAch_keeps h)) (matchStart_keeps (State.setAch_keeps h)))
      (Keeps.ite (audStart_keeps (State.setAch_keeps h)) (Keeps.ite (State.setAch_keeps h) h)))

theorem execModulatorStatus_keeps {words s} (h : Keeps s0 s) : KeepsO s0 (execModulatorStatus words s) := by
  unfold execModulatorStatus
  dsimp only
  exact (KeepsO.ticking (KeepsO.next (Keeps.each (fun _ _ h1 => (State.tell_keeps h1)) h)) h)

theorem execMicbOc_keeps {k s} (h : Keeps s0 s) : KeepsO s0 (execMicbOc k s) := by
  unfold execMicbOc
  dsimp only
  exact (KeepsO.ticking (KeepsO.next (Keeps.ite (State.report_keeps (State.raise_keeps (State.setFld_keeps h.data))) h)) h)

theorem ainReturn_keeps {s} (h : Keeps s0 s) : Keeps s0 (ainReturn s) := by
  unfold ainReturn
  exact (Keeps.each (fun _ _ h1 => (Keeps.ite h1 (audStart_keeps (matchAcquire_keeps h1)))) h)

theorem execAinModeStepDone_keeps {n s} (h : Keeps s0 s) : KeepsO s0 (execAinModeStepDone n s) := by
  unfold execAinModeStepDone
  exact (KeepsO.ticking (KeepsO.next (ainStepDone_keeps h)) h)

theorem matchAxis_keeps {n ax err s} (h : Keeps s0 s) : Keeps s0 (matchAxis n ax err s) := by
  unfold matchAxis
  dsimp only
  exact (matchRest_keeps (Keeps.ite (State.post_keeps (State.setInt_keeps h)) (State.post_keeps (State.setInt_keeps h))))

theorem matchBlock_keeps {n ge de s} (h : Keeps s0 s) : Keeps s0 (matchBlock n ge de s) := by
  unfold matchBlock
  dsimp only
  exact (Keeps.share (State.setAch_keeps (matchAxis_keeps (matchAxis_keeps (State.setFld_keeps (State.setAch_keeps h))))) fun h1 =>
      (Keeps.branch
        (State.setAch_keeps h)
        (fun h2 =>
          (Keeps.ite
            (matchRest_keeps (matchRest_keeps (State.setFld_keeps h2)))
            (Keeps.ite (State.setFld_keeps h2) (Keeps.ite (matchEnter_keeps h1) (Keeps.ite (matchEnter_keeps h1) h1)))))))

theorem execMatchBlock_keeps {n cyc gainErr delayErr s} (h : Keeps s0 s) : KeepsO s0 (execMatchBlock n cyc gainErr delayErr s) := by
  unfold execMatchBlock
  exact (KeepsO.ticking (KeepsO.next (matchBlock_keeps (State.land_keeps h))) h)

end Sys2Proof.Machine
end

