-- ==== Sys2Proof/Laws/KeepsSpn.lean ====
section
/-!
SUPPORT. Every operation of Machine/Spn.lean keeps the shell, and canonical maps stay canonical.
-/

namespace Sys2Proof.Machine

variable {s0 : State}

theorem spnMiss_keeps {src block old s} (h : Keeps s0 s) : Keeps s0 (spnMiss src block old s) := by
  unfold spnMiss
  dsimp only
  exact (State.raise_keeps (State.report_keeps (State.setFld_keeps (State.bump_keeps (State.setSrc_keeps h)))))

theorem spnTaps_keeps {s} (h : Keeps s0 s) : Keeps s0 (spnTaps s) := by
  unfold spnTaps
  dsimp only
  exact (Keeps.data (Keeps.each (fun _ _ h1 => (Keeps.ite h1 (State.post_keeps h1.data))) h))

theorem spnErrors_keeps {errs fixed old s} (h : Keeps s0 s) : Keeps s0 (spnErrors errs fixed old s) := by
  unfold spnErrors
  dsimp only
  exact (Keeps.data
      (Keeps.eachOf
        (fun _ _ h1 => (State.raise_keeps (State.report_keeps (State.setFld_keeps h1))))
        (Keeps.eachOf (fun _ _ h2 => (State.raise_keeps (State.report_keeps h2))) (State.bumpBy_keeps (State.bumpBy_keeps h)))))

theorem spnRestoreEnd_keeps {lane pass s} (h : Keeps s0 s) : Keeps s0 (spnRestoreEnd lane pass s) := by
  unfold spnRestoreEnd
  exact (Keeps.ite (State.setFld_keeps h) (State.raise_keeps (State.report_keeps h)))

theorem spnRestore_keeps {s} (h : Keeps s0 s) : Keeps s0 (spnRestore s) := by
  unfold spnRestore
  exact (Keeps.ite (State.startTest_keeps h) h)

theorem execSpnRestore_keeps {s} (h : Keeps s0 s) : KeepsO s0 (execSpnRestore s) := by
  unfold execSpnRestore
  exact (KeepsO.heard (KeepsO.next (spnRestore_keeps h)) h)

end Sys2Proof.Machine
end

