-- ==== Sys2Proof/Laws/KeepsMix.lean ====
section
/-!
SUPPORT. Every operation of Machine/Mix.lean keeps the shell, and canonical maps stay canonical.
-/

namespace Sys2Proof.Machine

variable {s0 : State}

theorem mixErrors_keeps {bad fixed s} (h : Keeps s0 s) : Keeps s0 (mixErrors bad fixed s) := by
  unfold mixErrors
  dsimp only
  exact (Keeps.eachOf
      (fun _ _ h1 => (Keeps.ite (State.raise_keeps (State.report_keeps (State.post_keeps h1))) h1))
      (State.bumpBy_keeps h).data)

theorem glideMend_keeps {s} (h : Keeps s0 s) : Keeps s0 (glideMend s) := by
  unfold glideMend
  dsimp only
  exact (Keeps.eachOf
      (fun _ _ h1 =>
        (by
          split
          · exact (Keeps.when (fun _ h2 => h2.data) h1)
          · exact h1))
      h)

theorem State.setBus_keeps {b x s} (h : Keeps s0 s) : Keeps s0 (State.setBus b x s) := by
  unfold State.setBus
  dsimp only
  exact h.data

theorem busTick_keeps {b s} (h : Keeps s0 s) : Keeps s0 (busTick b s) := by
  unfold busTick
  dsimp only
  exact (State.setFld_keeps
      (State.setBus_keeps
        (State.produce_keeps (Keeps.data (Keeps.when (fun _ h1 => (State.raise_keeps (State.bump_keeps h1))) h)))))

theorem glideSteps_keeps {s} (h : Keeps s0 s) : Keeps s0 (glideSteps s) := by
  unfold glideSteps
  dsimp only
  exact (Keeps.eachOf
      (fun _ _ h1 =>
        (by
          split
          · exact h1
          · exact (Keeps.ite h1 (State.setFld_keeps h1.data))))
      h)

theorem mixLate_keeps {s} (h : Keeps s0 s) : Keeps s0 (mixLate s) := by
  unfold mixLate
  dsimp only
  exact (Keeps.eachOf
      (fun _ _ h1 =>
        (by
          split
          · exact h1
          · exact (State.setFld_keeps (State.setBus_keeps h1))))
      h.data)

theorem mixTick_keeps {s} (h : Keeps s0 s) : Keeps s0 (mixTick s) := by
  unfold mixTick
  dsimp only
  exact (mixLate_keeps (glideMend_keeps (Keeps.eachOf (fun _ _ h1 => (busTick_keeps h1)) (glideSteps_keeps h))).data)

theorem glideHold_keeps {s} (h : Keeps s0 s) : Keeps s0 (glideHold s) := by
  unfold glideHold
  dsimp only
  exact (mixLate_keeps h).data

theorem mixScrub_keeps {s} (h : Keeps s0 s) : Keeps s0 (mixScrub s) := by
  unfold mixScrub
  dsimp only
  exact h.data

theorem glideCount_keeps {s} (h : Keeps s0 s) : Keeps s0 (glideCount s) := by
  unfold glideCount
  exact (State.setFld_keeps h)

theorem glideEnd_keeps {n s} (h : Keeps s0 s) : Keeps s0 (glideEnd n s) := by
  unfold glideEnd
  dsimp only
  exact (glideCount_keeps
      (State.setFld_keeps
        (State.setFld_keeps
          (State.setFld_keeps
            (Keeps.data
              (by
                split
                · exact h
                · exact h.data))))))

theorem glideAbort_keeps {n s} (h : Keeps s0 s) : Keeps s0 (glideAbort n s) := by
  unfold glideAbort
  exact (State.bump_keeps (glideEnd_keeps h))

theorem glideStart_keeps {n t0 s} (h : Keeps s0 s) : Keeps s0 (glideStart n t0 s) := by
  unfold glideStart
  dsimp only
  exact (by
      split
      · exact (Keeps.ite
            (State.bump_keeps (glideEnd_keeps h))
            (glideCount_keeps (State.setFld_keeps (State.setFld_keeps (State.setFld_keeps (glideAbort_keeps h).data)))))
      · exact (glideCount_keeps (State.setFld_keeps (State.setFld_keeps (State.setFld_keeps h.data)))))

theorem glidePress_keeps {s} (h : Keeps s0 s) : Keeps s0 (glidePress s) := by
  unfold glidePress
  exact (Keeps.each (fun _ _ h1 => (Keeps.when (fun _ h2 => (glideStart_keeps h2)) h1)) h)

theorem mixPress_keeps {s} (h : Keeps s0 s) : Keeps s0 (mixPress s) := by
  unfold mixPress
  dsimp only
  exact (State.setFld_keeps (State.setFld_keeps h))

theorem mixRestore_keeps {s} (h : Keeps s0 s) : Keeps s0 (mixRestore s) := by
  unfold mixRestore
  exact (Keeps.ite (State.startTest_keeps h) h)

theorem glideDone_keeps {n s} (h : Keeps s0 s) : Keeps s0 (glideDone n s) := by
  unfold glideDone
  exact (by
      split
      · exact h
      · exact (Keeps.ite (State.raise_keeps (glideEnd_keeps h)) h))

theorem busMute_keeps {b on s} (h : Keeps s0 s) : Keeps s0 (busMute b on s) := by
  unfold busMute
  dsimp only
  exact (Keeps.share (State.setOn_keeps h) fun h1 =>
      (Keeps.ite (State.setBus_keeps h1) (State.setFld_keeps (State.setBus_keeps h1))))

theorem execBusMute_keeps {cyc b s} (h : Keeps s0 s) : KeepsO s0 (execBusMute cyc b s) := by
  unfold execBusMute
  exact (KeepsO.heard (KeepsO.next (busMute_keeps (State.land_keeps h))) h)

theorem execGlideDone_keeps {n s} (h : Keeps s0 s) : KeepsO s0 (execGlideDone n s) := by
  unfold execGlideDone
  exact (KeepsO.ticking (KeepsO.next (glideDone_keeps h)) h)

theorem glideGo_keeps {n s} (h : Keeps s0 s) : Keeps s0 (glideGo n s) := by
  unfold glideGo
  dsimp only
  exact (Keeps.share (State.setFld_keeps (Keeps.when (fun _ h1 => (glideAbort_keeps h1)) h)) fun h2 =>
      (Keeps.ite (State.setFld_keeps h) (Keeps.ite (State.setFld_keeps h2.data) (glideStart_keeps h2))))

theorem mixGuardShow_keeps {s} (h : Keeps s0 s) : Keeps s0 (mixGuardShow s) := by
  unfold mixGuardShow
  dsimp only
  exact (State.setFld_keeps (State.setOn_keeps h))

theorem glideStop_keeps {n s} (h : Keeps s0 s) : Keeps s0 (glideStop n s) := by
  unfold glideStop
  exact (Keeps.when (fun _ h1 => (glideAbort_keeps h1)) h)

theorem execGlideGo_keeps {cyc n s} (h : Keeps s0 s) : KeepsO s0 (execGlideGo cyc n s) := by
  unfold execGlideGo
  exact (KeepsO.heard (KeepsO.next (glideGo_keeps (State.land_keeps h))) h)

theorem mixRestoreEnd_keeps {failed s} (h : Keeps s0 s) : Keeps s0 (mixRestoreEnd failed s) := by
  unfold mixRestoreEnd
  dsimp only
  exact (Keeps.eachOf (fun _ _ h1 => (State.report_keeps h1)) (mixGuardShow_keeps h.data))

theorem xpWrite_keeps {i w s} (h : Keeps s0 s) : Keeps s0 (xpWrite i w s) := by
  unfold xpWrite
  dsimp only
  exact (Keeps.data
      (by
        split
        · exact (glideAbort_keeps h)
        · exact h))

theorem execCrosspointWrite_keeps {cyc lane bus data s} (h : Keeps s0 s) : KeepsO s0 (execCrosspointWrite cyc lane bus data s) := by
  unfold execCrosspointWrite
  exact (KeepsO.heard (KeepsO.next (xpWrite_keeps (State.land_keeps h))) h)

theorem execGlideStop_keeps {cyc n s} (h : Keeps s0 s) : KeepsO s0 (execGlideStop cyc n s) := by
  unfold execGlideStop
  exact (KeepsO.heard (KeepsO.next (glideStop_keeps (State.land_keeps h))) h)

theorem execBusUnmute_keeps {cyc b s} (h : Keeps s0 s) : KeepsO s0 (execBusUnmute cyc b s) := by
  unfold execBusUnmute
  exact (KeepsO.heard (KeepsO.next (busMute_keeps (State.land_keeps h))) h)

theorem mixResidue_keeps {j c s} (h : Keeps s0 s) : Keeps s0 (mixResidue j c s) := by
  unfold mixResidue
  dsimp only
  exact (Keeps.share (State.report_keeps (mixGuardShow_keeps (State.bump_keeps h.data))) fun h1 =>
      (by
        split
        · exact (State.raise_keeps h1)
        · exact (State.report_keeps h1)
        · exact h1))

theorem execMixResidue_keeps {mac cyc s} (h : Keeps s0 s) : KeepsO s0 (execMixResidue mac cyc s) := by
  unfold execMixResidue
  exact (KeepsO.ticking (KeepsO.next (mixResidue_keeps (State.land_keeps h))) h)

theorem execMixRestore_keeps {s} (h : Keeps s0 s) : KeepsO s0 (execMixRestore s) := by
  unfold execMixRestore
  exact (KeepsO.heard (KeepsO.next (mixRestore_keeps h)) h)

end Sys2Proof.Machine
end

