-- ==== Sys2Proof/Laws/KeepsSrc.lean ====
section
/-!
SUPPORT. Every operation of Machine/Src.lean keeps the shell, and canonical maps stay canonical.
-/

namespace Sys2Proof.Machine

variable {s0 : State}

theorem State.setXing_keeps {k x s} (h : Keeps s0 s) : Keeps s0 (State.setXing k x s) := by
  unfold State.setXing
  dsimp only
  exact h.data

theorem srcBufEcc_keeps {chan age fatal s} (h : Keeps s0 s) : Keeps s0 (srcBufEcc chan age fatal s) := by
  unfold srcBufEcc
  dsimp only
  exact (Keeps.ite (State.bump_keeps h) (State.report_keeps (Keeps.when (fun _ h3 => (State.setXing_keeps h3)) h)))

theorem srcEngine_keeps {kind id w prev s} (h : Keeps s0 s) : Keeps s0 (srcEngine kind id w prev s).2 := by
  unfold srcEngine
  dsimp only
  exact (Keeps.ite_2 h (Keeps.ite_2 h.data h.data))

theorem xingMake_keeps {m ins k s} (h : Keeps s0 s) : Keeps s0 (xingMake m ins k s).2 := by
  unfold xingMake
  dsimp only
  exact (Keeps.foldl_2
      (fun _ _ h1 =>
        (Keeps.foldl_2 (fun _ _ h2 => (Keeps.share h2 fun h3 => (Keeps.ite_2 h3 (Keeps.ite_2 h3 (srcEngine_keeps h3))))) h1))
      (State.setXing_keeps h))

theorem achShow_keeps {k s} (h : Keeps s0 s) : Keeps s0 (achShow k s) := by
  unfold achShow
  dsimp only
  exact (Keeps.each (fun _ _ h1 => (Keeps.ite (State.setInt_keeps (State.setFld_keeps h1)) h1)) h)

theorem freeSample_keeps {tag s} (h : Keeps s0 s) : Keeps s0 (freeSample tag s).2 := by
  unfold freeSample
  exact (State.skipFree_keeps h)

theorem xingValue_keeps {x slot id fs s} (h : Keeps s0 s) : Keeps s0 (xingValue x slot id fs s).2 := by
  unfold xingValue
  dsimp only
  exact (Keeps.ite_2
      (by
        split
        · exact h
        · exact (freeSample_keeps h)) (Keeps.ite_2 h (srcEngine_keeps h)))

theorem xingSlip_keeps {k s} (h : Keeps s0 s) : Keeps s0 (xingSlip k s) := by
  unfold xingSlip
  dsimp only
  exact (Keeps.ite h (State.setXing_keeps h))

theorem srcConserve_keeps {k s} (h : Keeps s0 s) : Keeps s0 (srcConserve k s) := by
  unfold srcConserve
  dsimp only
  exact (State.raise_keeps (State.report_keeps (State.bump_keeps (achShow_keeps (State.setXing_keeps h)))))

theorem State.setQst_keeps {k x s} (h : Keeps s0 s) : Keeps s0 (State.setQst k x s) := by
  unfold State.setQst
  dsimp only
  exact h.data

theorem qsFrameOut_keeps {k f s} (h : Keeps s0 s) : Keeps s0 (qsFrameOut k f s) := by
  unfold qsFrameOut
  dsimp only
  exact (Keeps.branch
      (State.setQst_keeps (Keeps.ite_1 (Keeps.when (fun _ h4 => (qClose_keeps h4)) h) (qWrite_keeps h)))
      (fun h1 => (Keeps.when (fun _ h5 => (State.report_keeps h5)) (State.raise_keeps (State.bump_keeps h1)))))

theorem qsOutward_keeps {k s} (h : Keeps s0 s) : Keeps s0 (qsOutward k s) := by
  unfold qsOutward
  dsimp only
  exact (Keeps.eachOf (fun _ _ h1 => (qsFrameOut_keeps h1)) (xingMake_keeps h))

theorem qsIn_keeps {k s} (h : Keeps s0 s) : Keeps s0 (qsIn k s) := by
  unfold qsIn
  dsimp only
  exact (Keeps.share (Keeps.when (fun _ h1 => (State.report_keeps (State.raise_keeps (State.bump_keeps h1)))) h) fun h2 =>
      (Keeps.each
        (fun _ _ h3 => (Keeps.ite (State.produce_keeps h3) (State.setQst_keeps (State.produce_keeps (xingValue_keeps h3)))))
        (State.setQst_keeps (State.setXing_keeps (Keeps.ite_2_2 (qReadWords_keeps h2) h2)))))

theorem qsTick_keeps {s} (h : Keeps s0 s) : Keeps s0 (qsTick s) := by
  unfold qsTick
  exact (Keeps.each (fun _ _ h1 => (Keeps.ite h1 (Keeps.ite (qsOutward_keeps h1) (qsIn_keeps h1)))) h)

theorem srcSlew_keeps {s} (h : Keeps s0 s) : Keeps s0 (srcSlew s) := by
  unfold srcSlew
  dsimp only
  exact (Keeps.ite h (Keeps.each (fun _ _ h2 => (Keeps.when (fun _ h3 => (State.setXing_keeps h3)) h2)) h))

theorem srcTick_keeps {s} (h : Keeps s0 s) : Keeps s0 (srcTick s) := by
  unfold srcTick
  dsimp only
  exact (srcSlew_keeps h).data

theorem srcProbe_keeps {s} (h : Keeps s0 s) : Keeps s0 (srcProbe s) := by
  unfold srcProbe
  dsimp only
  exact (Keeps.ite h (Keeps.ite (State.post_keeps h) (Keeps.ite h (State.post_keeps h))))

theorem qsStop_keeps {k q s} (h : Keeps s0 s) : Keeps s0 (qsStop k q s) := by
  unfold qsStop
  dsimp only
  exact (Keeps.when (fun _ h1 => (qClose_keeps h1)) (qCancel_keeps h))

theorem qsPress_keeps {old s} (h : Keeps s0 s) : Keeps s0 (qsPress old s) := by
  unfold qsPress
  dsimp only
  exact (Keeps.each
      (fun _ _ h1 => (Keeps.ite h1 (State.setQst_keeps (State.setXing_keeps (Keeps.when (fun _ h3 => (qsStop_keeps h3)) h1)))))
      h)

theorem srcBindInt_keeps {s} (h : Keeps s0 s) : Keeps s0 (srcBindInt s) := by
  unfold srcBindInt
  dsimp only
  exact h.data

theorem srcBind_keeps {s} (h : Keeps s0 s) : Keeps s0 (srcBind s) := by
  unfold srcBind
  dsimp only
  exact (State.setFld_keeps
      (State.setFld_keeps
        (State.setFld_keeps
          (State.setFld_keeps
            (srcBindInt_keeps
              (Keeps.eachOf
                (fun _ _ h1 =>
                  (Keeps.ite
                    h1
                    (by
                      split
                      · exact h1
                      · exact (State.setWord_keeps (Keeps.when (fun _ h3 => (State.setXing_keeps h3)) h1)))))
                (Keeps.each (fun _ _ h4 => (Keeps.ite (State.setWord_keeps h4) h4)) h)))))))

theorem srcResidue_keeps {int mac chan id s} (h : Keeps s0 s) : Keeps s0 (srcResidue int mac chan id s) := by
  unfold srcResidue
  dsimp only
  exact (State.report_keeps (State.bump_keeps (Keeps.when (fun _ h1 => (State.produce_keeps h1)) h.data)))

theorem execSrcResidue_keeps {int mac chan id s} (h : Keeps s0 s) : KeepsO s0 (execSrcResidue int mac chan id s) := by
  unfold execSrcResidue
  exact (KeepsO.ticking (KeepsO.next (srcResidue_keeps h)) h)

theorem ratioUpdate_keeps {k ratio err s} (h : Keeps s0 s) : Keeps s0 (ratioUpdate k ratio err s) := by
  unfold ratioUpdate
  dsimp only
  exact (Keeps.ite
      h
      (Keeps.when
        (fun _ h2 => (State.post_keeps h2))
        (achShow_keeps (Keeps.when (fun _ h3 => (State.raise_keeps (State.bump_keeps h3))) (State.setXing_keeps h)))))

theorem execRatioUpdate_keeps {group ratio err s} (h : Keeps s0 s) : KeepsO s0 (execRatioUpdate group ratio err s) := by
  unfold execRatioUpdate
  exact (KeepsO.ticking (KeepsO.next (ratioUpdate_keeps h)) h)

end Sys2Proof.Machine
end

