-- ==== Sys2Proof/Laws/KeepsFx.lean ====
section
/-!
SUPPORT. Every operation of Machine/Fx.lean keeps the shell, and canonical maps stay canonical.
-/

namespace Sys2Proof.Machine

variable {s0 : State}

theorem dynParamWrite_keeps {p a s} (h : Keeps s0 s) : Keeps s0 (dynParamWrite p a s) := by
  unfold dynParamWrite
  dsimp only
  exact (Keeps.ite h.data h)

theorem fxEcc_keeps {delay q fatal s} (h : Keeps s0 s) : Keeps s0 (fxEcc delay q fatal s) := by
  unfold fxEcc
  dsimp only
  exact (Keeps.ite (State.bump_keeps h) (Keeps.ite (State.report_keeps h.data) (State.report_keeps h.data)))

theorem lfoTick_keeps {s} (h : Keeps s0 s) : Keeps s0 (lfoTick s) := by
  unfold lfoTick
  dsimp only
  exact (Keeps.each (fun _ _ h1 => (Keeps.ite (State.produce_keeps h1) (State.produce_keeps h1.data))) h)

theorem State.setDyn_keeps {p x s} (h : Keeps s0 s) : Keeps s0 (State.setDyn p x s) := by
  unfold State.setDyn
  dsimp only
  exact h.data

theorem dynFeed_keeps {s} (h : Keeps s0 s) : Keeps s0 (dynFeed s) := by
  unfold dynFeed
  dsimp only
  exact (Keeps.each (fun _ _ h1 => (Keeps.ite (State.setDyn_keeps h1) h1)) h)

theorem sectSave_keeps {l s} (h : Keeps s0 s) : Keeps s0 (sectSave l s) := by
  unfold sectSave
  dsimp only
  exact h.data

theorem State.setFxEng_keeps {e x s} (h : Keeps s0 s) : Keeps s0 (State.setFxEng e x s) := by
  unfold State.setFxEng
  dsimp only
  exact h.data

theorem fxPut_keeps {e src w s} (h : Keeps s0 s) : Keeps s0 (fxPut e src w s) := by
  unfold fxPut
  dsimp only
  exact (State.produce_keeps (State.setFxEng_keeps h))

theorem bqTick_keeps {n s} (h : Keeps s0 s) : Keeps s0 (bqTick n s) := by
  unfold bqTick
  dsimp only
  exact (fxPut_keeps (Keeps.data (Keeps.branch (Keeps.when (fun _ h2 => (State.bump_keeps h2)) h) (fun h1 => (sectSave_keeps h1)))))

theorem dynTick_keeps {p s} (h : Keeps s0 s) : Keeps s0 (dynTick p s) := by
  unfold dynTick
  dsimp only
  exact (Keeps.eachOf
      (fun _ _ h1 =>
        (Keeps.branch (fxPut_keeps (Keeps.ite h1 (State.setDyn_keeps h1))) (fun h2 => (State.setDyn_keeps (State.post_keeps h2)))))
      h)

theorem tapHold_keeps {t s} (h : Keeps s0 s) : Keeps s0 (tapHold t s) := by
  unfold tapHold
  dsimp only
  exact (Keeps.when (fun _ h1 => h1.data) h)

theorem dlWrite_keeps {k x s} (h : Keeps s0 s) : Keeps s0 (dlWrite k x s) := by
  unfold dlWrite
  dsimp only
  exact (Keeps.ite h (State.dropBack_keeps h.data))

theorem dlTick_keeps {k s} (h : Keeps s0 s) : Keeps s0 (dlTick k s) := by
  unfold dlTick
  dsimp only
  exact (dlWrite_keeps
      (Keeps.each
        (fun _ _ h1 =>
          (Keeps.ite (fxPut_keeps (State.setFld_keeps (Keeps.data (Keeps.when (fun _ h3 => (tapHold_keeps h3)) h1)))) h1))
        (fxPut_keeps h)))

theorem convPart_keeps {c w s} (h : Keeps s0 s) : Keeps s0 (convPart c w s).2 := by
  unfold convPart
  dsimp only
  exact (Keeps.ite_2 (State.setFxEng_keeps h) h)

theorem State.setConv_keeps {c x s} (h : Keeps s0 s) : Keeps s0 (State.setConv c x s) := by
  unfold State.setConv
  dsimp only
  exact h.data

theorem convTick_keeps {c s} (h : Keeps s0 s) : Keeps s0 (convTick c s) := by
  unfold convTick
  dsimp only
  exact (fxPut_keeps (State.setConv_keeps (convPart_keeps h)))

theorem State.setShaper_keeps {x0 x s} (h : Keeps s0 s) : Keeps s0 (State.setShaper x0 x s) := by
  unfold State.setShaper
  dsimp only
  exact h.data

theorem shTick_keeps {x0 s} (h : Keeps s0 s) : Keeps s0 (shTick x0 s) := by
  unfold shTick
  dsimp only
  exact (fxPut_keeps (State.setShaper_keeps h))

theorem fxNode_keeps {src s} (h : Keeps s0 s) : Keeps s0 (fxNode src s) := by
  unfold fxNode
  exact (Keeps.ite
      (mixTick_keeps h)
      (Keeps.ite
        (Keeps.ite (bqTick_keeps h) h)
        (Keeps.ite
          (Keeps.ite (dynTick_keeps h) h)
          (Keeps.ite (Keeps.ite (dlTick_keeps h) h) (Keeps.ite (Keeps.ite (convTick_keeps h) h) (Keeps.ite (shTick_keeps h) h))))))

theorem nodesTick_keeps {s} (h : Keeps s0 s) : Keeps s0 (nodesTick s) := by
  unfold nodesTick
  dsimp only
  exact (Keeps.data
      (Keeps.when
        (fun _ h1 => (State.bump_keeps h1))
        (dynFeed_keeps (Keeps.eachOf (fun _ _ h2 => (fxNode_keeps h2)) (lfoTick_keeps h)))))

theorem fxHold_keeps {s} (h : Keeps s0 s) : Keeps s0 (fxHold s) := by
  unfold fxHold
  dsimp only
  exact (Keeps.data (Keeps.eachOf (fun _ _ h1 => (tapHold_keeps h1)) h))

theorem frozenShow_keeps {fld act fading on will live s} (h : Keeps s0 s) : Keeps s0 (frozenShow fld act fading on will live s) :=
    by
  unfold frozenShow
  exact (State.setOn_keeps h)

theorem convFrozenShow_keeps {c s} (h : Keeps s0 s) : Keeps s0 (convFrozenShow c s) := by
  unfold convFrozenShow
  exact (frozenShow_keeps h)

theorem bqFrozenShow_keeps {n s} (h : Keeps s0 s) : Keeps s0 (bqFrozenShow n s) := by
  unfold bqFrozenShow
  exact (frozenShow_keeps h)

theorem fxBanksShow_keeps {s} (h : Keeps s0 s) : Keeps s0 (fxBanksShow s) := by
  unfold fxBanksShow
  exact (Keeps.each (fun _ _ h1 => (convFrozenShow_keeps h1)) (Keeps.each (fun _ _ h2 => (bqFrozenShow_keeps h2)) h))

theorem convSwapEnd_keeps {c s} (h : Keeps s0 s) : Keeps s0 (convSwapEnd c s) := by
  unfold convSwapEnd
  dsimp only
  exact (Keeps.ite (convFrozenShow_keeps (State.setFld_keeps (Keeps.branch (State.setConv_keeps h) (fun h2 => h2.data)))) h)

theorem convPress_keeps {c old s} (h : Keeps s0 s) : Keeps s0 (convPress c old s) := by
  unfold convPress
  dsimp only
  exact (Keeps.branch
      (Keeps.when (fun _ h2 => (State.setConv_keeps h2)) h)
      (fun h1 => (convSwapEnd_keeps (convFrozenShow_keeps (State.setFld_keeps (State.setFld_keeps (State.setConv_keeps h1)))))))

theorem bqSwapEnd_keeps {n s} (h : Keeps s0 s) : Keeps s0 (bqSwapEnd n s) := by
  unfold bqSwapEnd
  dsimp only
  exact (Keeps.ite (bqFrozenShow_keeps (State.setFld_keeps h.data)) h)

theorem bqPress_keeps {n s} (h : Keeps s0 s) : Keeps s0 (bqPress n s) := by
  unfold bqPress
  dsimp only
  exact (Keeps.ite
      h
      (bqSwapEnd_keeps
        (bqFrozenShow_keeps (State.setFld_keeps (State.setFld_keeps (Keeps.data (Keeps.ite h (sectSave_keeps h))))))))

theorem lfoPress_keeps {n s} (h : Keeps s0 s) : Keeps s0 (lfoPress n s) := by
  unfold lfoPress
  dsimp only
  exact (Keeps.ite h (State.setShadow_keeps (State.setFld_keeps (State.setSrc_keeps h.data))))

theorem dlPress_keeps {k old s} (h : Keeps s0 s) : Keeps s0 (dlPress k old s) := by
  unfold dlPress
  dsimp only
  exact (Keeps.ite h.data h)

theorem shSwapEnd_keeps {x0 s} (h : Keeps s0 s) : Keeps s0 (shSwapEnd x0 s) := by
  unfold shSwapEnd
  dsimp only
  exact (Keeps.ite (State.setShaper_keeps h) h)

theorem shPress_keeps {x0 old s} (h : Keeps s0 s) : Keeps s0 (shPress x0 old s) := by
  unfold shPress
  dsimp only
  exact (Keeps.ite
      (Keeps.when (fun _ h3 => (State.setShaper_keeps h3)) h)
      (Keeps.ite h (shSwapEnd_keeps (State.setShaper_keeps h))))

theorem fxPress_keeps {old s} (h : Keeps s0 s) : Keeps s0 (fxPress old s) := by
  unfold fxPress
  dsimp only
  exact (Keeps.each
      (fun _ _ h1 => (lfoPress_keeps h1))
      (Keeps.each
        (fun _ _ h2 => (dlPress_keeps h2))
        (Keeps.each
          (fun _ _ h3 => (shPress_keeps h3))
          (Keeps.each (fun _ _ h4 => (convPress_keeps h4)) (Keeps.each (fun _ _ h5 => (bqPress_keeps h5)) h)))))

theorem tapGlideEnd_keeps {t s} (h : Keeps s0 s) : Keeps s0 (tapGlideEnd t s) := by
  unfold tapGlideEnd
  dsimp only
  exact (Keeps.ite h.data h)

theorem execTapGlideEnd_keeps {t s} (h : Keeps s0 s) : KeepsO s0 (execTapGlideEnd t s) := by
  unfold execTapGlideEnd
  exact (KeepsO.ticking (KeepsO.next (tapGlideEnd_keeps h)) h)

theorem fxGuardShow_keeps {s} (h : Keeps s0 s) : Keeps s0 (fxGuardShow s) := by
  unfold fxGuardShow
  dsimp only
  exact (Keeps.each (fun _ _ h1 => (State.setFld_keeps h1)) h)

theorem partResidue_keeps {c n u s} (h : Keeps s0 s) : Keeps s0 (partResidue c n u s) := by
  unfold partResidue
  dsimp only
  exact (Keeps.share (State.report_keeps
          (fxGuardShow_keeps (State.bump_keeps (State.setFxEng_keeps (State.setConv_keeps h))))) fun h1 =>
      (by
        split
        · exact (State.raise_keeps h1)
        · exact (State.raise_keeps (State.report_keeps h1))
        · exact h1))

theorem execPartitionResidue_keeps {c n unit s} (h : Keeps s0 s) : KeepsO s0 (execPartitionResidue c n unit s) := by
  unfold execPartitionResidue
  exact (KeepsO.ticking (KeepsO.next (partResidue_keeps h)) h)

theorem shGainWrite_keeps {x0 s} (h : Keeps s0 s) : Keeps s0 (shGainWrite x0 s) := by
  unfold shGainWrite
  dsimp only
  exact (State.setShaper_keeps h)

theorem fxResidue_keeps {e u c s} (h : Keeps s0 s) : Keeps s0 (fxResidue e u c s) := by
  unfold fxResidue
  dsimp only
  exact (Keeps.share (State.report_keeps (fxGuardShow_keeps (State.bump_keeps (State.setFxEng_keeps h)))) fun h1 =>
      (by
        split
        · exact (State.raise_keeps h1)
        · exact (State.raise_keeps (State.report_keeps h1))
        · exact h1))

theorem poolRefuse_keeps {inst ofs s} (h : Keeps s0 s) : Keeps s0 (poolRefuse inst ofs s) := by
  unfold poolRefuse
  exact (State.raise_keeps (State.report_keeps (State.bump_keeps (State.viol_keeps h))))

theorem prepNext_keeps {s} (h : Keeps s0 s) : Keeps s0 (prepNext s) := by
  unfold prepNext
  dsimp only
  exact (State.setFld_keeps
      (State.setOn_keeps
        (State.setFld_keeps
          (by
            split
            · exact h
            · exact (by
                  split
                  · exact h
                  · exact h.data)))))

theorem setReady_keeps {g b s} (h : Keeps s0 s) : Keeps s0 (setReady g b s) := by
  unfold setReady
  exact (State.setFld_keeps h)

theorem granuleDone_keeps {g s} (h : Keeps s0 s) : Keeps s0 (granuleDone g s) := by
  unfold granuleDone
  dsimp only
  exact (by
      split
      · exact (Keeps.ite (Keeps.when (fun _ h2 => (State.raise_keeps h2)) (prepNext_keeps (setReady_keeps h.data))) h)
      · exact h)

theorem execGranuleReady_keeps {g s} (h : Keeps s0 s) : KeepsO s0 (execGranuleReady g s) := by
  unfold execGranuleReady
  exact (KeepsO.ticking (KeepsO.next (granuleDone_keeps h)) h)

theorem tapWrite_keeps {t d s} (h : Keeps s0 s) : Keeps s0 (tapWrite t d s) := by
  unfold tapWrite
  dsimp only
  exact (State.setFld_keeps h.data)

theorem execTapDelayWrite_keeps {cyc t d s} (h : Keeps s0 s) : KeepsO s0 (execTapDelayWrite cyc t d s) := by
  unfold execTapDelayWrite
  exact (KeepsO.heard (KeepsO.next (tapWrite_keeps (State.land_keeps h))) h)

theorem fxRestore_keeps {e s} (h : Keeps s0 s) : Keeps s0 (fxRestore e s) := by
  unfold fxRestore
  exact (Keeps.ite (State.startTest_keeps h) h)

theorem execFxRestore_keeps {e s} (h : Keeps s0 s) : KeepsO s0 (execFxRestore e s) := by
  unfold execFxRestore
  exact (KeepsO.heard (KeepsO.next (fxRestore_keeps h)) h)

theorem mkWrite_keeps {p s} (h : Keeps s0 s) : Keeps s0 (mkWrite p s) := by
  unfold mkWrite
  dsimp only
  exact (Keeps.ite h (State.setDyn_keeps h))

theorem fxRestoreEnd_keeps {e failed s} (h : Keeps s0 s) : Keeps s0 (fxRestoreEnd e failed s) := by
  unfold fxRestoreEnd
  dsimp only
  exact (Keeps.eachOf (fun _ _ h1 => (State.report_keeps (State.bump_keeps h1))) (fxGuardShow_keeps (State.setFxEng_keeps h)))

theorem convPrep_keeps {first n s} (h : Keeps s0 s) : Keeps s0 (convPrep first n s) := by
  unfold convPrep
  dsimp only
  exact (Keeps.ite (State.setFld_keeps h) (prepNext_keeps (State.bumpBy_keeps (State.setFld_keeps h)).data))

theorem fxWake_keeps {s} (h : Keeps s0 s) : Keeps s0 (fxWake s) := by
  unfold fxWake
  dsimp only
  exact h.data

theorem poolWrite_keeps {ofs w s} (h : Keeps s0 s) : Keeps s0 (poolWrite ofs w s) := by
  unfold poolWrite
  dsimp only
  exact (Keeps.share (State.dropBack_keeps h.data) fun h1 =>
      (Keeps.ite
        (Keeps.ite (poolRefuse_keeps h) (Keeps.branchR (setReady_keeps h1) (fun h7 => (prepNext_keeps h7.data))))
        (Keeps.ite
          h
          (Keeps.ite
            (Keeps.ite h (Keeps.ite (poolRefuse_keeps h) h1))
            (Keeps.ite (Keeps.ite h (Keeps.ite (poolRefuse_keeps h) h1)) h)))))

theorem execFxResidue_keeps {eng unit cyc s} (h : Keeps s0 s) : KeepsO s0 (execFxResidue eng unit cyc s) := by
  unfold execFxResidue
  exact (KeepsO.ticking (KeepsO.next (fxResidue_keeps (State.land_keeps h))) h)

theorem execConvPrep_keeps {first n s} (h : Keeps s0 s) : KeepsO s0 (execConvPrep first n s) := by
  unfold execConvPrep
  exact (KeepsO.heard (KeepsO.next (convPrep_keeps h)) h)

theorem execEffectPoolWrite_keeps {cyc word data s} (h : Keeps s0 s) : KeepsO s0 (execEffectPoolWrite cyc word data s) := by
  unfold execEffectPoolWrite
  exact (KeepsO.heard (KeepsO.next (poolWrite_keeps (State.land_keeps h))) h)

end Sys2Proof.Machine
end

