-- ==== Sys2Proof/Laws/KeepsJack.lean ====
section
/-!
SUPPORT. Every operation of Machine/Jack.lean keeps the shell, and canonical maps stay canonical.
-/

namespace Sys2Proof.Machine

variable {s0 : State}

theorem State.setJk_keeps {j x s} (h : Keeps s0 s) : Keeps s0 (State.setJk j x s) := by
  unfold State.setJk
  dsimp only
  exact h.data

theorem jackUndecide_keeps {j s} (h : Keeps s0 s) : Keeps s0 (jackUndecide j s) := by
  unfold jackUndecide
  dsimp only
  exact (State.setFld_keeps (State.setFld_keeps (State.setFld_keeps (State.setJk_keeps h))))

theorem jackSetThr_keeps {j v s} (h : Keeps s0 s) : Keeps s0 (jackSetThr j v s) := by
  unfold jackSetThr
  dsimp only
  exact (State.setOn_keeps (State.setOn_keeps (State.setOn_keeps (State.setFld_keeps h))))

theorem jackStart_keeps {j s} (h : Keeps s0 s) : Keeps s0 (jackStart j s) := by
  unfold jackStart
  dsimp only
  exact (jackSetThr_keeps (State.setFld_keeps (State.setFld_keeps (State.setFld_keeps (State.setJk_keeps (jackUndecide_keeps h))))))

theorem State.setBind_keeps {o x s} (h : Keeps s0 s) : Keeps s0 (State.setBind o x s) := by
  unfold State.setBind
  dsimp only
  exact h.data

theorem jackFollow_keeps {o s} (h : Keeps s0 s) : Keeps s0 (jackFollow o s) := by
  unfold jackFollow
  dsimp only
  exact (Keeps.ite
      (Keeps.ite (State.setBind_keeps h) (State.setBind_keeps h))
      (Keeps.ite (State.setBind_keeps h) (Keeps.ite (State.setBind_keeps h) (Keeps.ite (State.setBind_keeps h) h))))

theorem jackFollowAll_keeps {s} (h : Keeps s0 s) : Keeps s0 (jackFollowAll s) := by
  unfold jackFollowAll
  exact (Keeps.each (fun _ _ h1 => (jackFollow_keeps h1)) h)

theorem jackTick_keeps {s} (h : Keeps s0 s) : Keeps s0 (jackTick s) := by
  unfold jackTick
  dsimp only
  exact (jackFollowAll_keeps
      (Keeps.each
        (fun _ _ h1 => (State.setBind_keeps h1))
        (Keeps.branchR
          (Keeps.data
            (Keeps.branch
              h.data
              (fun h4 => (Keeps.when (fun _ h5 => (State.raise_keeps (State.bump_keeps h5))) (qWriteSig_keeps h4)))))
          (fun h3 => (Keeps.each (fun _ _ h6 => (Keeps.when (fun _ h7 => (jackStart_keeps h7)) h6)) h3)))))

theorem jackSend_keeps {codes s} (h : Keeps s0 s) : Keeps s0 (jackSend codes s) := by
  unfold jackSend
  exact (Keeps.when (fun _ h1 => (State.tell_keeps h1)) h)

theorem jackPress_keeps {old s} (h : Keeps s0 s) : Keeps s0 (jackPress old s) := by
  unfold jackPress
  dsimp only
  exact (jackFollowAll_keeps (Keeps.each (fun _ _ h1 => (Keeps.when (fun _ h2 => (jackStart_keeps h2)) h1)) h))

theorem jackPost_keeps {j kind stamp level s} (h : Keeps s0 s) : Keeps s0 (jackPost j kind stamp level s) := by
  unfold jackPost
  dsimp only
  exact (Keeps.when
      (fun _ h1 => (State.bump_keeps h1))
      (Keeps.when (fun _ h2 => (State.bump_keeps h2)) (State.raise_keeps (State.bump_keeps h.data))))

theorem jackMove_keeps {j st stamp s} (h : Keeps s0 s) : Keeps s0 (jackMove j st stamp s) := by
  unfold jackMove
  dsimp only
  exact (State.setFld_keeps (State.setFld_keeps (State.setFld_keeps (State.setJk_keeps h))))

theorem jackForce_keeps {j v s} (h : Keeps s0 s) : Keeps s0 (jackForce j v s) := by
  unfold jackForce
  dsimp only
  exact (Keeps.ite h (Keeps.ite (jackUndecide_keeps h) (State.setFld_keeps (State.setJk_keeps (jackMove_keeps h)))))

theorem jackForceWrite_keeps {j v s} (h : Keeps s0 s) : Keeps s0 (jackForceWrite j v s) := by
  unfold jackForceWrite
  dsimp only
  exact (Keeps.ite h (Keeps.ite (State.setJk_keeps h) (jackFollowAll_keeps (jackForce_keeps h))))

theorem execJackForceRelease_keeps {cyc j s} (h : Keeps s0 s) : KeepsO s0 (execJackForceRelease cyc j s) := by
  unfold execJackForceRelease
  exact (KeepsO.heard (KeepsO.next (jackForceWrite_keeps (State.land_keeps h))) h)

theorem jackUpdate_keeps {j s} (h : Keeps s0 s) : Keeps s0 (jackUpdate j s) := by
  unfold jackUpdate
  dsimp only
  exact (Keeps.when
      (fun _ h1 => (State.raise_keeps (State.report_keeps h1)))
      (State.setJk_keeps (Keeps.branch (State.setOn_keeps h) (fun h2 => (jackSetThr_keeps h2)))))

theorem jackThrWrite_keeps {j s} (h : Keeps s0 s) : Keeps s0 (jackThrWrite j s) := by
  unfold jackThrWrite
  dsimp only
  exact (jackSetThr_keeps (Keeps.when (fun _ h1 => (State.viol_keeps h1)) (State.setFld_keeps (State.setFld_keeps h))))

theorem execJackForceRemoved_keeps {cyc j s} (h : Keeps s0 s) : KeepsO s0 (execJackForceRemoved cyc j s) := by
  unfold execJackForceRemoved
  exact (KeepsO.heard (KeepsO.next (jackForceWrite_keeps (State.land_keeps h))) h)

theorem jackLoop_keeps {j level side stamp s} (h : Keeps s0 s) : Keeps s0 (jackLoop j level side stamp s) := by
  unfold jackLoop
  dsimp only
  exact (Keeps.branch
      (Keeps.ite h (Keeps.ite (State.setFld_keeps (State.setJk_keeps h)) (State.setFld_keeps (State.setJk_keeps h))))
      (fun h1 => (Keeps.ite (State.setJk_keeps h1) (jackUpdate_keeps (State.setJk_keeps h1)))))

theorem jackSample_keeps {j level stamp s} (h : Keeps s0 s) : Keeps s0 (jackSample j level stamp s) := by
  unfold jackSample
  dsimp only
  exact (Keeps.branch
      (State.setJk_keeps (State.post_keeps h))
      (fun h1 => (jackLoop_keeps (Keeps.branch (State.setJk_keeps h1) (fun h2 => (jackMove_keeps (jackPost_keeps h2)))))))

theorem jackTake_keeps {t codes s} (h : Keeps s0 s) : Keeps s0 (jackTake t codes s) := by
  unfold jackTake
  exact (Keeps.each (fun _ _ h1 => (jackSample_keeps h1)) h)

theorem jackForces_keeps {s} (h : Keeps s0 s) : Keeps s0 (jackForces s) := by
  unfold jackForces
  dsimp only
  exact (jackFollowAll_keeps
      (Keeps.each
        (fun _ _ h1 =>
          (by
            split
            · exact h1
            · exact (jackForce_keeps (State.setJk_keeps h1))))
        h))

theorem execJackAmbig_keeps {j s} (h : Keeps s0 s) : KeepsO s0 (execJackAmbig j s) := by
  unfold execJackAmbig
  dsimp only
  exact (KeepsO.ticking (KeepsO.next (Keeps.ite (jackPost_keeps (State.setFld_keeps h)) h)) h)

theorem execJackForceInserted_keeps {cyc j s} (h : Keeps s0 s) : KeepsO s0 (execJackForceInserted cyc j s) := by
  unfold execJackForceInserted
  exact (KeepsO.heard (KeepsO.next (jackForceWrite_keeps (State.land_keeps h))) h)

theorem execPlugWaitEnd_keeps {o s} (h : Keeps s0 s) : KeepsO s0 (execPlugWaitEnd o s) := by
  unfold execPlugWaitEnd
  dsimp only
  exact (KeepsO.ticking
      (KeepsO.next
        (by
          split
          · exact h
          · exact (Keeps.ite h (Keeps.ite (State.setBind_keeps h) (State.setBind_keeps h)))))
      h)

end Sys2Proof.Machine
end

