-- ==== Sys2Proof/Laws/KeepsOut.lean ====
section
/-!
SUPPORT. Every operation of Machine/Out.lean keeps the shell, and canonical maps stay canonical.
-/

namespace Sys2Proof.Machine

variable {s0 : State}

theorem State.setOch_keeps {o x s} (h : Keeps s0 s) : Keeps s0 (State.setOch o x s) := by
  unfold State.setOch
  exact (Keeps.step h rfl fun c => { c with out := SMap.wf_set _ _ c.out })

theorem outReadbackLost_keeps {s} (h : Keeps s0 s) : Keeps s0 (outReadbackLost s) := by
  unfold outReadbackLost
  dsimp only
  exact (Keeps.ite h (Keeps.each (fun _ _ h2 => (State.setFld_keeps (State.setOch_keeps h2))) h))

theorem outCut_keeps {o s} (h : Keeps s0 s) : Keeps s0 (outCut o s) := by
  unfold outCut
  dsimp only
  exact (State.setOch_keeps h)

theorem outPower_keeps {o s} (h : Keeps s0 s) : Keeps s0 (outPower o s) := by
  unfold outPower
  dsimp only
  exact (Keeps.ite
      (outCut_keeps (State.setOch_keeps h))
      (Keeps.ite
        (Keeps.ite (outCut_keeps h) h)
        (Keeps.ite
          (Keeps.ite (State.setOch_keeps h) h)
          (Keeps.ite (State.setOch_keeps h) (Keeps.ite (State.setOch_keeps h) (Keeps.ite (State.setOch_keeps h) h))))))

theorem outSwitchGo_keeps {o p s} (h : Keeps s0 s) : Keeps s0 (outSwitchGo o p s) := by
  unfold outSwitchGo
  dsimp only
  exact (State.setOch_keeps h)

theorem outRamps_keeps {o s} (h : Keeps s0 s) : Keeps s0 (outRamps o s) := by
  unfold outRamps
  dsimp only
  exact (Keeps.branchR
      (State.setOch_keeps h)
      (fun h2 =>
        (by
          split
          · exact (Keeps.ite (State.setOch_keeps h2) (outSwitchGo_keeps h2))
          · exact (State.setOch_keeps h2))))

theorem outMuteGo_keeps {o s} (h : Keeps s0 s) : Keeps s0 (outMuteGo o s) := by
  unfold outMuteGo
  dsimp only
  exact (Keeps.ite (State.setOch_keeps h) (Keeps.ite h (State.setOch_keeps h)))

theorem outShow_keeps {o s} (h : Keeps s0 s) : Keeps s0 (outShow o s) := by
  unfold outShow
  dsimp only
  exact (State.setOn_keeps (State.setFld_keeps (State.setFld_keeps (State.setFld_keeps h))))

theorem outTick_keeps {s} (h : Keeps s0 s) : Keeps s0 (outTick s) := by
  unfold outTick
  dsimp only
  exact (Keeps.each (fun _ _ h1 => (outShow_keeps (State.setOch_keeps (outPower_keeps (outRamps_keeps (outMuteGo_keeps h1)))))) h)

theorem outSend_keeps {o s} (h : Keeps s0 s) : Keeps s0 (outSend o s) := by
  unfold outSend
  dsimp only
  exact (Keeps.branchR
      (State.setOch_keeps (State.setOch_keeps (Keeps.when (fun _ h3 => (State.raise_keeps (State.bump_keeps h3))) h)))
      (fun h2 => (State.post_keeps h2)))

theorem outApply_keeps {o p s} (h : Keeps s0 s) : Keeps s0 (outApply o p s) := by
  unfold outApply
  dsimp only
  exact (State.setOch_keeps h)

theorem outPressPreset_keeps {o s} (h : Keeps s0 s) : Keeps s0 (outPressPreset o s) := by
  unfold outPressPreset
  dsimp only
  exact (Keeps.ite h (Keeps.ite (State.setOch_keeps h) (Keeps.ite (outApply_keeps h) (outSwitchGo_keeps h))))

theorem outWeights_keeps {o s} (h : Keeps s0 s) : Keeps s0 (outWeights o s) := by
  unfold outWeights
  dsimp only
  exact (Keeps.ite (State.setOch_keeps h) (Keeps.ite (State.setOch_keeps h) h))

theorem outDie_keeps {o code s} (h : Keeps s0 s) : Keeps s0 (outDie o code s) := by
  unfold outDie
  dsimp only
  exact (Keeps.ite h (State.note_keeps (State.endTest_keeps (outCut_keeps (State.setOch_keeps h)))))

theorem outPressForce_keeps {o s} (h : Keeps s0 s) : Keeps s0 (outPressForce o s) := by
  unfold outPressForce
  dsimp only
  exact (Keeps.when (fun _ h1 => (outDie_keeps h1)) (outWeights_keeps (State.setOch_keeps h)))

theorem outPress_keeps {old s} (h : Keeps s0 s) : Keeps s0 (outPress old s) := by
  unfold outPress
  dsimp only
  exact (Keeps.each
      (fun _ _ h1 => (outShow_keeps (outPower_keeps (Keeps.when (fun _ h2 => (outPressForce_keeps h2)) (outPressPreset_keeps h1)))))
      h)

theorem outTestFail_keeps {o s} (h : Keeps s0 s) : Keeps s0 (outTestFail o s) := by
  unfold outTestFail
  dsimp only
  exact (Keeps.when (fun _ h1 => (State.setOch_keeps h1)) h)

theorem outCoreFail_keeps {o core s} (h : Keeps s0 s) : Keeps s0 (outCoreFail o core s) := by
  unfold outCoreFail
  dsimp only
  exact (Keeps.branch
      (outTestFail_keeps h)
      (fun h1 => (Keeps.when (fun _ h2 => (outDie_keeps h2)) (State.note_keeps (outWeights_keeps (State.setOch_keeps h1))))))

theorem outLimits_keeps {limited s} (h : Keeps s0 s) : Keeps s0 (outLimits limited s) := by
  unfold outLimits
  dsimp only
  exact (Keeps.each
      (fun _ _ h1 =>
        (Keeps.when
          (fun _ h2 => (State.bump_keeps h2))
          (Keeps.when (fun _ h3 => (outTestFail_keeps h3)) (State.setOn_keeps (State.setOch_keeps h1)))))
      h)

theorem outRestoreEnd_keeps {o pass s} (h : Keeps s0 s) : Keeps s0 (outRestoreEnd o pass s) := by
  unfold outRestoreEnd
  dsimp only
  exact (Keeps.ite
      (outShow_keeps
        (outPower_keeps
          (outWeights_keeps (State.setFld_keeps (Keeps.when (fun _ h3 => (State.setOch_keeps h3)) (State.setOch_keeps h))))))
      (State.report_keeps (State.bump_keeps h)))

theorem outMuteWrite_keeps {o m s} (h : Keeps s0 s) : Keeps s0 (outMuteWrite o m s) := by
  unfold outMuteWrite
  exact (outShow_keeps (State.setOn_keeps h))

theorem execOutputMute_keeps {o s} (h : Keeps s0 s) : KeepsO s0 (execOutputMute o s) := by
  unfold execOutputMute
  exact (KeepsO.heard (KeepsO.next (outMuteWrite_keeps h)) h)

theorem outRestore_keeps {o s} (h : Keeps s0 s) : Keeps s0 (outRestore o s) := by
  unfold outRestore
  dsimp only
  exact (Keeps.ite h (State.startTest_keeps (Keeps.when (fun _ h2 => (outCut_keeps h2)) (State.setOch_keeps h))))

theorem execOutputRestore_keeps {o s} (h : Keeps s0 s) : KeepsO s0 (execOutputRestore o s) := by
  unfold execOutputRestore
  exact (KeepsO.heard (KeepsO.next (outRestore_keeps h)) h)

theorem outTrip_keeps {o code s} (h : Keeps s0 s) : Keeps s0 (outTrip o code s) := by
  unfold outTrip
  dsimp only
  exact (Keeps.ite h (outShow_keeps (State.report_keeps (State.setOch_keeps h))))

theorem execOutputIlimTrip_keeps {o s} (h : Keeps s0 s) : KeepsO s0 (execOutputIlimTrip o s) := by
  unfold execOutputIlimTrip
  exact (KeepsO.ticking (KeepsO.next (Keeps.ite (outTrip_keeps (State.raise_keeps h)) h)) h)

theorem outNoted_keeps {kind o arg s} (h : Keeps s0 s) : Keeps s0 (outNoted kind o arg s) := by
  unfold outNoted
  dsimp only
  exact (outShow_keeps
      (Keeps.ite
        (State.raise_keeps (State.report_keeps (State.bump_keeps (State.setOch_keeps h))))
        (Keeps.ite
          (Keeps.branch
            (State.bump_keeps h)
            (fun h5 =>
              (Keeps.branchR (State.setOch_keeps (State.raise_keeps (State.report_keeps h5))) (fun h7 => (State.setOch_keeps h7)))))
          (State.report_keeps (State.setOch_keeps h)))))

theorem outUpStep_keeps {o s} (h : Keeps s0 s) : Keeps s0 (outUpStep o s) := by
  unfold outUpStep
  dsimp only
  exact (Keeps.ite (State.setOch_keeps h) (Keeps.ite (State.setOch_keeps h) (Keeps.ite (outShow_keeps (State.setOch_keeps h)) h)))

theorem outReading_keeps {o slot v s} (h : Keeps s0 s) : Keeps s0 (outReading o slot v s) := by
  unfold outReading
  dsimp only
  exact (Keeps.share (State.setOch_keeps
          (Keeps.when (fun _ h1 => (State.bump_keeps h1)) (State.setOn_keeps (State.post_keeps h)))) fun h2 =>
      (Keeps.share (State.raise_keeps h2) fun h3 =>
        (Keeps.ite
          h
          (Keeps.ite
            (Keeps.ite (outTrip_keeps h3) (outShow_keeps (State.report_keeps (State.setOch_keeps h3))))
            (outShow_keeps h2)))))

theorem outDiff_keeps {o s} (h : Keeps s0 s) : Keeps s0 (outDiff o s) := by
  unfold outDiff
  dsimp only
  exact (Keeps.branch
      (outTestFail_keeps h)
      (fun h1 => (State.note_keeps (Keeps.when (fun _ h2 => (outCut_keeps (State.setOch_keeps h2))) h1))))

theorem execCoreDisagree_keeps {o s} (h : Keeps s0 s) : KeepsO s0 (execCoreDisagree o s) := by
  unfold execCoreDisagree
  exact (KeepsO.ticking (KeepsO.next (outDiff_keeps h)) h)

theorem execOutputStageFail_keeps {o s} (h : Keeps s0 s) : KeepsO s0 (execOutputStageFail o s) := by
  unfold execOutputStageFail
  exact (KeepsO.ticking (KeepsO.next (outDie_keeps (outTestFail_keeps h))) h)

theorem execOutputUnmute_keeps {o s} (h : Keeps s0 s) : KeepsO s0 (execOutputUnmute o s) := by
  unfold execOutputUnmute
  exact (KeepsO.heard (KeepsO.next (outMuteWrite_keeps h)) h)

theorem execOutputDcTrip_keeps {o s} (h : Keeps s0 s) : KeepsO s0 (execOutputDcTrip o s) := by
  unfold execOutputDcTrip
  exact (KeepsO.ticking (KeepsO.next (Keeps.ite (outTrip_keeps (State.setFld_keeps (State.raise_keeps h))) h)) h)

theorem outSwitch_keeps {o s} (h : Keeps s0 s) : Keeps s0 (outSwitch o s) := by
  unfold outSwitch
  dsimp only
  exact (Keeps.ite (State.setOch_keeps (outApply_keeps h)) h)

theorem execOutputPresetSwitch_keeps {o s} (h : Keeps s0 s) : KeepsO s0 (execOutputPresetSwitch o s) := by
  unfold execOutputPresetSwitch
  exact (KeepsO.ticking (KeepsO.next (outSwitch_keeps h)) h)

theorem execDacCoreFail_keeps {core s} (h : Keeps s0 s) : KeepsO s0 (execDacCoreFail core s) := by
  unfold execDacCoreFail
  exact (KeepsO.ticking (KeepsO.next (outCoreFail_keeps h)) h)

theorem execPowerUpRampStep_keeps {o s} (h : Keeps s0 s) : KeepsO s0 (execPowerUpRampStep o s) := by
  unfold execPowerUpRampStep
  exact (KeepsO.ticking (KeepsO.next (outShow_keeps (outUpStep_keeps h))) h)

theorem outDownStep_keeps {o s} (h : Keeps s0 s) : Keeps s0 (outDownStep o s) := by
  unfold outDownStep
  dsimp only
  exact (Keeps.ite (State.setOch_keeps h) (Keeps.ite (outPower_keeps (State.setOch_keeps h)) h))

theorem execPowerDownRampStep_keeps {o s} (h : Keeps s0 s) : KeepsO s0 (execPowerDownRampStep o s) := by
  unfold execPowerDownRampStep
  exact (KeepsO.ticking (KeepsO.next (outShow_keeps (outDownStep_keeps h))) h)

end Sys2Proof.Machine
end

