-- ==== Sys2Proof/Laws/KeepsCv.lean ====
section
/-!
SUPPORT. Every operation of Machine/Cv.lean keeps the shell, and canonical maps stay canonical.
-/

namespace Sys2Proof.Machine

variable {s0 : State}

theorem State.setCvch_keeps {n x s} (h : Keeps s0 s) : Keeps s0 (State.setCvch n x s) := by
  unfold State.setCvch
  dsimp only
  exact h.data

theorem cvWord_keeps {n q k s} (h : Keeps s0 s) : Keeps s0 (cvWord n q k s).2 := by
  induction k generalizing s with
  | zero => exact h
  | succ k ih =>
    unfold cvWord
    split
    · exact h
    · exact .ite_2 (qAdvance_keeps h) (.ite_2 h (.ite_2 (ih (qPass_keeps h)) (ih (State.bump_keeps (qAdvance_keeps h)))))

theorem cvShow_keeps {n s} (h : Keeps s0 s) : Keeps s0 (cvShow n s) := by
  unfold cvShow
  dsimp only
  exact (State.setOn_keeps (State.setOn_keeps (State.setFld_keeps h)))

theorem cvPut_keeps {n v s} (h : Keeps s0 s) : Keeps s0 (cvPut n v s) := by
  unfold cvPut
  dsimp only
  exact (Keeps.when (fun _ h1 => (State.post_keeps h1)) (State.setCvch_keeps h))

theorem cvValue_keeps {n s} (h : Keeps s0 s) : Keeps s0 (cvValue n s) := by
  unfold cvValue
  dsimp only
  exact (Keeps.share (State.setFld_keeps h) fun h1 =>
      (Keeps.ite
        (cvPut_keeps (State.setFld_keeps h1))
        (Keeps.ite
          (cvPut_keeps (State.setFld_keeps h))
          (Keeps.ite
            (cvPut_keeps (State.setOn_keeps h1))
            (cvPut_keeps
              (State.setOn_keeps (Keeps.when (fun _ h8 => (State.raise_keeps (State.bump_keeps h8))) (State.setOn_keeps h))))))))

theorem cvTick_keeps {s} (h : Keeps s0 s) : Keeps s0 (cvTick s) := by
  unfold cvTick
  dsimp only
  exact (Keeps.branch
      (Keeps.each (fun _ _ h2 => (Keeps.ite (State.setCvch_keeps h2) (cvShow_keeps (cvValue_keeps h2)))) h)
      (fun h1 => (Keeps.each (fun _ _ h5 => (State.setFld_keeps (State.setCvch_keeps h5))) h1)))

theorem cvRefShow_keeps {s} (h : Keeps s0 s) : Keeps s0 (cvRefShow s) := by
  unfold cvRefShow
  exact (State.setOn_keeps h)

theorem cvPress_keeps {old s} (h : Keeps s0 s) : Keeps s0 (cvPress old s) := by
  unfold cvPress
  dsimp only
  exact (Keeps.each (fun _ _ h1 => (cvShow_keeps (State.setCvch_keeps h1))) (Keeps.when (fun _ h2 => h2.data) h))

theorem State.setTmr_keeps {k x s} (h : Keeps s0 s) : Keeps s0 (State.setTmr k x s) := by
  unfold State.setTmr
  dsimp only
  exact h.data

theorem tmrArm_keeps {k s} (h : Keeps s0 s) : Keeps s0 (tmrArm k s) := by
  unfold tmrArm
  dsimp only
  exact (State.setFld_keeps
      (State.setFld_keeps (State.setTmr_keeps (Keeps.when (fun _ h1 => (State.raise_keeps (State.bump_keeps h1))) h))))

theorem execTimerArm_keeps {k s} (h : Keeps s0 s) : KeepsO s0 (execTimerArm k s) := by
  unfold execTimerArm
  exact (KeepsO.heard (KeepsO.next (tmrArm_keeps h)) h)

theorem cvRestore_keeps {n s} (h : Keeps s0 s) : Keeps s0 (cvRestore n s) := by
  unfold cvRestore
  dsimp only
  exact (Keeps.ite (State.startTest_keeps (State.setCvch_keeps h)) h)

theorem execCvRestore_keeps {n s} (h : Keeps s0 s) : KeepsO s0 (execCvRestore n s) := by
  unfold execCvRestore
  exact (KeepsO.heard (KeepsO.next (cvRestore_keeps h)) h)

theorem cvUnder_keeps {n s} (h : Keeps s0 s) : Keeps s0 (cvUnder n s) := by
  unfold cvUnder
  exact (State.raise_keeps (State.bump_keeps (State.setFld_keeps h)))

theorem cvFire_keeps {n s} (h : Keeps s0 s) : Keeps s0 (cvFire n s) := by
  unfold cvFire
  refine .ite (State.setFld_keeps (State.setCvch_keeps h)) ?_
  dsimp only
  refine .ite (cvUnder_keeps h) ?_
  split
  · rename_i e; exact State.setFld_keeps (State.setCvch_keeps (.pair_2 e (cvWord_keeps h)))
  · rename_i e; exact cvUnder_keeps (.pair_2 e (cvWord_keeps h))

theorem tmrFire_keeps {k s} (h : Keeps s0 s) : Keeps s0 (tmrFire k s) := by
  unfold tmrFire
  dsimp only
  exact (by
      split
      · exact h
      · exact (Keeps.ite
            h
            (Keeps.eachOf
              (fun _ _ h2 => (cvShow_keeps (cvValue_keeps (Keeps.when (fun _ h3 => (cvFire_keeps h3)) h2))))
              (State.setFld_keeps (State.setTmr_keeps h)))))

theorem execTimerFire_keeps {k s} (h : Keeps s0 s) : KeepsO s0 (execTimerFire k s) := by
  unfold execTimerFire
  exact (KeepsO.ticking (KeepsO.next (tmrFire_keeps h)) h)

theorem tmrStop_keeps {k s} (h : Keeps s0 s) : Keeps s0 (tmrStop k s) := by
  unfold tmrStop
  exact (State.setFld_keeps (State.setFld_keeps (State.setTmr_keeps h)))

theorem cvRefBack_keeps {s} (h : Keeps s0 s) : Keeps s0 (cvRefBack s) := by
  unfold cvRefBack
  dsimp only
  exact (Keeps.ite h (State.note_keeps h.data))

theorem cvRestoreEnd_keeps {n pass s} (h : Keeps s0 s) : Keeps s0 (cvRestoreEnd n pass s) := by
  unfold cvRestoreEnd
  dsimp only
  exact (Keeps.ite (cvShow_keeps (State.setCvch_keeps h)) (State.report_keeps h))

theorem cvRefNoted_keeps {back s} (h : Keeps s0 s) : Keeps s0 (cvRefNoted back s) := by
  unfold cvRefNoted
  dsimp only
  exact (Keeps.when (fun _ h1 => (State.report_keeps (State.raise_keeps h1))) (cvRefShow_keeps h.data))

theorem execTimerStop_keeps {k s} (h : Keeps s0 s) : KeepsO s0 (execTimerStop k s) := by
  unfold execTimerStop
  exact (KeepsO.heard (KeepsO.next (tmrStop_keeps h)) h)

theorem cvFail_keeps {n code s} (h : Keeps s0 s) : Keeps s0 (cvFail n code s) := by
  unfold cvFail
  dsimp only
  exact (Keeps.ite h (cvShow_keeps (State.report_keeps (State.setCvch_keeps h))))

theorem cvReading_keeps {n slot v s} (h : Keeps s0 s) : Keeps s0 (cvReading n slot v s) := by
  unfold cvReading
  dsimp only
  exact (Keeps.share (State.setCvch_keeps
          (Keeps.when (fun _ h1 => (State.bump_keeps h1)) (State.setOn_keeps (State.post_keeps h)))) fun h2 =>
      (Keeps.share (State.raise_keeps h2) fun h3 =>
        (Keeps.ite
          h
          (Keeps.ite
            (Keeps.ite (cvFail_keeps h3) (cvShow_keeps (State.report_keeps (State.setCvch_keeps h3))))
            (cvShow_keeps h2)))))

theorem cvLimits_keeps {limited s} (h : Keeps s0 s) : Keeps s0 (cvLimits limited s) := by
  unfold cvLimits
  dsimp only
  exact (Keeps.each (fun _ _ h1 => (State.setOn_keeps (State.setCvch_keeps h1))) h)

theorem execCvIlimTrip_keeps {n s} (h : Keeps s0 s) : KeepsO s0 (execCvIlimTrip n s) := by
  unfold execCvIlimTrip
  exact (KeepsO.ticking (KeepsO.next (Keeps.ite (cvFail_keeps (State.raise_keeps h)) h)) h)

theorem cvRefFail_keeps {s} (h : Keeps s0 s) : Keeps s0 (cvRefFail s) := by
  unfold cvRefFail
  dsimp only
  exact (State.note_keeps h.data)

theorem execCvVrefFail_keeps {s} (h : Keeps s0 s) : KeepsO s0 (execCvVrefFail s) := by
  unfold execCvVrefFail
  exact (KeepsO.ticking (KeepsO.next (cvRefFail_keeps h)) h)

theorem execCvVrefRecover_keeps {s} (h : Keeps s0 s) : KeepsO s0 (execCvVrefRecover s) := by
  unfold execCvVrefRecover
  exact (KeepsO.ticking (KeepsO.next (cvRefBack_keeps h)) h)

theorem execCvRefHoldEnd_keeps {s} (h : Keeps s0 s) : KeepsO s0 (execCvRefHoldEnd s) := by
  unfold execCvRefHoldEnd
  dsimp only
  exact (KeepsO.ticking
      (KeepsO.next
        (by
          split
          · exact h
          · exact (Keeps.ite h h.data)))
      h)

end Sys2Proof.Machine
end

