-- ==== Sys2Proof/Laws/KeepsSpk.lean ====
section
/-!
SUPPORT. Every operation of Machine/Spk.lean keeps the shell, and canonical maps stay canonical.
-/

namespace Sys2Proof.Machine

variable {s0 : State}

theorem spkTell_keeps {kind n arg s} (h : Keeps s0 s) : Keeps s0 (spkTell kind n arg s) := by
  unfold spkTell
  exact (State.note_keeps h)

theorem State.setSch_keeps {n x s} (h : Keeps s0 s) : Keeps s0 (State.setSch n x s) := by
  unfold State.setSch
  dsimp only
  exact h.data

theorem spkOff_keeps {n goal s} (h : Keeps s0 s) : Keeps s0 (spkOff n goal s) := by
  unfold spkOff
  dsimp only
  exact (State.setSch_keeps h)

theorem clockMute_keeps {s} (h : Keeps s0 s) : Keeps s0 (clockMute s) := by
  unfold clockMute
  dsimp only
  exact (Keeps.branch
      h.data
      (fun h1 =>
        (Keeps.each
          (fun _ _ h2 => (Keeps.ite (State.raise_keeps (State.setSch_keeps h2)) (Keeps.ite (spkOff_keeps h2) h2)))
          (Keeps.data (Keeps.when (fun _ h6 => (spkTell_keeps h6)) h1)))))

theorem clockMuteDue_keeps {s} (h : Keeps s0 s) : Keeps s0 (clockMuteDue s) := by
  unfold clockMuteDue
  exact (Keeps.ite (clockMute_keeps h) h)

theorem spkFast_keeps {n goal s} (h : Keeps s0 s) : Keeps s0 (spkFast n goal s) := by
  unfold spkFast
  dsimp only
  exact (Keeps.ite (State.setSch_keeps h) (spkOff_keeps h))

theorem spkTemp_keeps {n code s} (h : Keeps s0 s) : Keeps s0 (spkTemp n code s) := by
  unfold spkTemp
  dsimp only
  exact (Keeps.branchR
      (Keeps.when (fun _ h3 => (spkTell_keeps h3)) (State.setSch_keeps h))
      (fun h2 => (spkTell_keeps (spkFast_keeps h2))))

theorem spkSense_keeps {n w s} (h : Keeps s0 s) : Keeps s0 (spkSense n w s) := by
  unfold spkSense
  dsimp only
  exact (spkTemp_keeps (State.setSch_keeps (State.setSch_keeps h)))

theorem spkResults_keeps {n s} (h : Keeps s0 s) : Keeps s0 (spkResults n s) := by
  unfold spkResults
  dsimp only
  exact (Keeps.ite h (State.post_keeps (State.post_keeps h)))

theorem spkLimit_keeps {n s} (h : Keeps s0 s) : Keeps s0 (spkLimit n s) := by
  unfold spkLimit
  dsimp only
  exact (Keeps.when
      (fun _ h1 => (State.raise_keeps (State.bump_keeps h1)))
      (State.setOn_keeps (State.setOn_keeps (State.setOn_keeps (State.setOn_keeps (State.setSch_keeps h))))))

theorem spkRamps_keeps {n s} (h : Keeps s0 s) : Keeps s0 (spkRamps n s) := by
  unfold spkRamps
  dsimp only
  exact (Keeps.share (State.setSch_keeps h) fun h1 =>
      (Keeps.branch
        (spkOff_keeps h1)
        (fun h2 =>
          (Keeps.ite
            (State.setSch_keeps h1)
            (Keeps.ite
              (Keeps.ite h2 h1)
              (Keeps.ite
                (State.setSch_keeps h1)
                (by
                  split
                  · exact (Keeps.ite (State.setSch_keeps h1) h1)
                  · exact h1)))))))

theorem spkMuteGo_keeps {n s} (h : Keeps s0 s) : Keeps s0 (spkMuteGo n s) := by
  unfold spkMuteGo
  dsimp only
  exact (Keeps.ite (State.setSch_keeps h) (Keeps.ite h (State.setSch_keeps h)))

theorem spkPower_keeps {n s} (h : Keeps s0 s) : Keeps s0 (spkPower n s) := by
  unfold spkPower
  dsimp only
  exact (Keeps.share (State.setSch_keeps h) fun h1 =>
      (Keeps.ite
        (spkFast_keeps h1)
        (Keeps.ite
          (Keeps.ite h1 (Keeps.ite (Keeps.ite (State.setSch_keeps h1) h1) (State.setSch_keeps (spkOff_keeps h1))))
          (Keeps.ite (State.setSch_keeps h1) (Keeps.ite (State.setSch_keeps h1) (Keeps.ite h1 (Keeps.ite (spkOff_keeps h1) h1)))))))

theorem spkTick_keeps {sense s} (h : Keeps s0 s) : Keeps s0 (spkTick sense s) := by
  unfold spkTick
  dsimp only
  exact (Keeps.branch
      (Keeps.each
        (fun _ _ h2 => (State.setSch_keeps h2))
        (Keeps.each
          (fun _ _ h3 =>
            (Keeps.ite
              (State.setSch_keeps h3)
              (spkResults_keeps
                (spkLimit_keeps
                  (spkRamps_keeps
                    (spkMuteGo_keeps
                      (spkPower_keeps
                        (by
                          split
                          · exact (spkSense_keeps h3)
                          · exact h3))))))))
          h.data))
      (fun h1 => (Keeps.each (fun _ _ h6 => (State.setFld_keeps (State.setSch_keeps h6))) h1)))

theorem spkSenseFail_keeps {n s} (h : Keeps s0 s) : Keeps s0 (spkSenseFail n s) := by
  unfold spkSenseFail
  dsimp only
  exact (Keeps.branch (Keeps.when (fun _ h2 => (State.setSch_keeps h2)) h) (fun h1 => (spkTell_keeps (State.setSch_keeps h1))))

theorem spkPress_keeps {old s} (h : Keeps s0 s) : Keeps s0 (spkPress old s) := by
  unfold spkPress
  dsimp only
  exact (Keeps.branchR
      (Keeps.each
        (fun _ _ h3 =>
          (Keeps.ite
            h3
            (spkPower_keeps
              (Keeps.branch
                (Keeps.when (fun _ h6 => (State.setSch_keeps h6)) (Keeps.when (fun _ h7 => (State.setSch_keeps h7)) h3))
                (fun h5 => (Keeps.ite (State.setSch_keeps h5) (State.setSch_keeps h5)))))))
        h)
      (fun h2 => (clockMute_keeps h2)))

theorem spkMuteWrite_keeps {n m s} (h : Keeps s0 s) : Keeps s0 (spkMuteWrite n m s) := by
  unfold spkMuteWrite
  exact (State.setOn_keeps h)

theorem execSpkMute_keeps {n s} (h : Keeps s0 s) : KeepsO s0 (execSpkMute n s) := by
  unfold execSpkMute
  exact (KeepsO.heard (KeepsO.next (spkMuteWrite_keeps h)) h)

theorem spkRestore_keeps {n s} (h : Keeps s0 s) : Keeps s0 (spkRestore n s) := by
  unfold spkRestore
  dsimp only
  exact (Keeps.ite (State.setSch_keeps h) h)

theorem execSpkRestore_keeps {n s} (h : Keeps s0 s) : KeepsO s0 (execSpkRestore n s) := by
  unfold execSpkRestore
  exact (KeepsO.heard (KeepsO.next (spkRestore_keeps h)) h)

theorem spkSetZ_keeps {n z post s} (h : Keeps s0 s) : Keeps s0 (spkSetZ n z post s) := by
  unfold spkSetZ
  dsimp only
  exact (Keeps.when
      (fun _ h1 => (State.post_keeps h1))
      (State.setOn_keeps (State.setOn_keeps (State.setOn_keeps (State.setSch_keeps h)))))

theorem spkShut_keeps {n kind term fatal s} (h : Keeps s0 s) : Keeps s0 (spkShut n kind term fatal s) := by
  unfold spkShut
  dsimp only
  exact (Keeps.branch
      (spkTell_keeps (State.setSch_keeps (spkOff_keeps h)))
      (fun h1 =>
        (Keeps.ite
          (spkTell_keeps (State.setSch_keeps h1))
          (Keeps.ite (spkTell_keeps (State.setSch_keeps h1)) (State.setSch_keeps h1)))))

theorem spkKeepZ_keeps {n s} (h : Keeps s0 s) : Keeps s0 (spkKeepZ n s) := by
  unfold spkKeepZ
  exact (State.post_keeps h)

theorem spkNoLoad_keeps {n code s} (h : Keeps s0 s) : Keeps s0 (spkNoLoad n code s) := by
  unfold spkNoLoad
  dsimp only
  exact (spkTell_keeps (State.setSch_keeps (spkOff_keeps (spkKeepZ_keeps h))))

theorem spkToStart_keeps {n s} (h : Keeps s0 s) : Keeps s0 (spkToStart n s) := by
  unfold spkToStart
  dsimp only
  exact (Keeps.when (fun _ h1 => (State.startTest_keeps h1)) (State.setSch_keeps (spkSetZ_keeps h)))

theorem spkIdent_keeps {n rdc s} (h : Keeps s0 s) : Keeps s0 (spkIdent n rdc s) := by
  unfold spkIdent
  dsimp only
  exact (Keeps.share (State.raise_keeps h) fun h1 =>
      (Keeps.ite
        h
        (Keeps.ite
          (spkShut_keeps (spkKeepZ_keeps h1))
          (Keeps.ite
            (spkNoLoad_keeps h1)
            (Keeps.ite (spkNoLoad_keeps h1) (spkToStart_keeps (State.setSch_keeps (spkSetZ_keeps h1))))))))

theorem spkModel_keeps {n est quiet s} (h : Keeps s0 s) : Keeps s0 (spkModel n est quiet s) := by
  unfold spkModel
  dsimp only
  exact (Keeps.ite h (Keeps.when (fun _ h2 => (spkTell_keeps h2)) (State.setSch_keeps (spkSetZ_keeps h))))

theorem execSpkUnmute_keeps {n s} (h : Keeps s0 s) : KeepsO s0 (execSpkUnmute n s) := by
  unfold execSpkUnmute
  exact (KeepsO.heard (KeepsO.next (spkMuteWrite_keeps h)) h)

theorem spkStarted_keeps {n s} (h : Keeps s0 s) : Keeps s0 (spkStarted n s) := by
  unfold spkStarted
  dsimp only
  exact (Keeps.ite (State.setSch_keeps h) h)

theorem execSpkRetryCountReset_keeps {n s} (h : Keeps s0 s) : KeepsO s0 (execSpkRetryCountReset n s) := by
  unfold execSpkRetryCountReset
  dsimp only
  exact (KeepsO.ticking (KeepsO.next (Keeps.ite (State.setSch_keeps h) h)) h)

theorem spkStart_keeps {n s} (h : Keeps s0 s) : Keeps s0 (spkStart n s) := by
  unfold spkStart
  dsimp only
  exact (Keeps.ite h (Keeps.ite (spkToStart_keeps h) (State.setSch_keeps h)))

theorem execSpkStart_keeps {n s} (h : Keeps s0 s) : KeepsO s0 (execSpkStart n s) := by
  unfold execSpkStart
  exact (KeepsO.ticking (KeepsO.next (spkStart_keeps h)) h)

theorem spkNoted_keeps {kind n arg s} (h : Keeps s0 s) : Keeps s0 (spkNoted kind n arg s) := by
  unfold spkNoted
  dsimp only
  exact (Keeps.ite
      (State.report_keeps (State.raise_keeps (State.bump_keeps (State.setOn_keeps (State.setFld_keeps h)))))
      (State.report_keeps
        (by
          split
          · exact (State.raise_keeps h)
          · exact h)))

theorem spkClear_keeps {n s} (h : Keeps s0 s) : Keeps s0 (spkClear n s) := by
  unfold spkClear
  dsimp only
  exact (Keeps.ite (State.setSch_keeps h) h)

theorem execSpkClear_keeps {n s} (h : Keeps s0 s) : KeepsO s0 (execSpkClear n s) := by
  unfold execSpkClear
  exact (KeepsO.heard (KeepsO.next (spkClear_keeps h)) h)

theorem execClockMute_keeps {s} (h : Keeps s0 s) : KeepsO s0 (execClockMute s) := by
  unfold execClockMute
  exact (KeepsO.ticking (KeepsO.next (clockMuteDue_keeps h)) h)

theorem spkTake_keeps {s} (h : Keeps s0 s) : Keeps s0 (spkTake s) := by
  unfold spkTake
  dsimp only
  exact (Keeps.each
      (fun _ _ h1 =>
        (State.setOn_keeps
          (State.setFld_keeps
            (State.setFld_keeps (State.setFld_keeps (State.setFld_keeps (State.setFld_keeps (State.setFld_keeps h1))))))))
      h)

theorem spkReading_keeps {n slot v s} (h : Keeps s0 s) : Keeps s0 (spkReading n slot v s) := by
  unfold spkReading
  dsimp only
  exact (Keeps.share (State.raise_keeps
          (State.setSch_keeps (Keeps.when (fun _ h1 => (State.bump_keeps h1)) (State.setOn_keeps (State.post_keeps h))))) fun h2 =>
      (Keeps.ite
        h
        (Keeps.ite
          (Keeps.ite
            (State.setSch_keeps h2)
            (Keeps.ite (spkFast_keeps (State.report_keeps (State.setSch_keeps h2))) (State.report_keeps (State.setSch_keeps h2))))
          (State.setSch_keeps (Keeps.when (fun _ h10 => (State.bump_keeps h10)) (State.setOn_keeps (State.post_keeps h)))))))

theorem spkRestoreEnd_keeps {n pass s} (h : Keeps s0 s) : Keeps s0 (spkRestoreEnd n pass s) := by
  unfold spkRestoreEnd
  dsimp only
  exact (by
      split
      · exact h
      · exact (Keeps.ite
            (State.setSch_keeps h)
            (Keeps.ite (State.report_keeps (State.setSch_keeps h)) (State.report_keeps (spkOff_keeps h)))))

theorem spkPrecheck_keeps {n finding term s} (h : Keeps s0 s) : Keeps s0 (spkPrecheck n finding term s) := by
  unfold spkPrecheck
  dsimp only
  exact (Keeps.share (Keeps.when (fun _ h1 => (spkSenseFail_keeps h1)) h) fun h2 =>
      (Keeps.ite h (Keeps.ite (spkShut_keeps h) (Keeps.ite (State.setSch_keeps h2) (spkToStart_keeps h2)))))

theorem execSpkPrecheckDone_keeps {n finding term s} (h : Keeps s0 s) : KeepsO s0 (execSpkPrecheckDone n finding term s) := by
  unfold execSpkPrecheckDone
  exact (KeepsO.ticking (KeepsO.next (spkPrecheck_keeps h)) h)

theorem execSpkIdentDone_keeps {n rdc s} (h : Keeps s0 s) : KeepsO s0 (execSpkIdentDone n rdc s) := by
  unfold execSpkIdentDone
  exact (KeepsO.ticking (KeepsO.next (spkIdent_keeps h)) h)

theorem execSpkStartDone_keeps {n s} (h : Keeps s0 s) : KeepsO s0 (execSpkStartDone n s) := by
  unfold execSpkStartDone
  exact (KeepsO.ticking (KeepsO.next (spkStarted_keeps h)) h)

theorem execSpkShutdown_keeps {n kind term s} (h : Keeps s0 s) : KeepsO s0 (execSpkShutdown n kind term s) := by
  unfold execSpkShutdown
  dsimp only
  exact (KeepsO.ticking (KeepsO.next (Keeps.ite (spkShut_keeps h) h)) h)

theorem spkRetry_keeps {n s} (h : Keeps s0 s) : Keeps s0 (spkRetry n s) := by
  unfold spkRetry
  dsimp only
  exact (Keeps.ite h (State.setSch_keeps h))

theorem execSpkRetry_keeps {n s} (h : Keeps s0 s) : KeepsO s0 (execSpkRetry n s) := by
  unfold execSpkRetry
  exact (KeepsO.ticking (KeepsO.next (spkRetry_keeps h)) h)

theorem execLoadModelUpdate_keeps {n est quiet s} (h : Keeps s0 s) : KeepsO s0 (execLoadModelUpdate n est quiet s) := by
  unfold execLoadModelUpdate
  exact (KeepsO.ticking (KeepsO.next (spkModel_keeps h)) h)

theorem execSpkThermal_keeps {n code s} (h : Keeps s0 s) : KeepsO s0 (execSpkThermal n code s) := by
  unfold execSpkThermal
  exact (KeepsO.ticking (KeepsO.next (spkTemp_keeps h)) h)

theorem spkCooled_keeps {n s} (h : Keeps s0 s) : Keeps s0 (spkCooled n s) := by
  unfold spkCooled
  dsimp only
  exact (by
      split
      · exact (Keeps.ite (spkToStart_keeps (State.setSch_keeps h)) h)
      · exact h)

theorem execSpkThermalReturn_keeps {n s} (h : Keeps s0 s) : KeepsO s0 (execSpkThermalReturn n s) := by
  unfold execSpkThermalReturn
  exact (KeepsO.ticking (KeepsO.next (spkCooled_keeps h)) h)

theorem execSpkSenseFail_keeps {n s} (h : Keeps s0 s) : KeepsO s0 (execSpkSenseFail n s) := by
  unfold execSpkSenseFail
  exact (KeepsO.ticking (KeepsO.next (spkSenseFail_keeps h)) h)

theorem execSpkStageFail_keeps {n s} (h : Keeps s0 s) : KeepsO s0 (execSpkStageFail n s) := by
  unfold execSpkStageFail
  exact (KeepsO.ticking (KeepsO.next (Keeps.ite (spkShut_keeps h) h)) h)

theorem execSpkDcTrip_keeps {n s} (h : Keeps s0 s) : KeepsO s0 (execSpkDcTrip n s) := by
  unfold execSpkDcTrip
  dsimp only
  exact (KeepsO.ticking (KeepsO.next (Keeps.ite (spkTell_keeps (spkFast_keeps (State.setSch_keeps h))) h)) h)

theorem clockRelease_keeps {s} (h : Keeps s0 s) : Keeps s0 (clockRelease s) := by
  unfold clockRelease
  dsimp only
  exact (Keeps.ite h (Keeps.each (fun _ _ h2 => (Keeps.ite h2 (Keeps.ite (State.setSch_keeps h2) (State.setSch_keeps h2)))) h.data))

theorem execClockMuteRelease_keeps {s} (h : Keeps s0 s) : KeepsO s0 (execClockMuteRelease s) := by
  unfold execClockMuteRelease
  exact (KeepsO.ticking (KeepsO.next (clockRelease_keeps h)) h)

theorem spkLimited_keeps {n cyc s} (h : Keeps s0 s) : Keeps s0 (spkLimited n cyc s) := by
  unfold spkLimited
  dsimp only
  exact (Keeps.ite h (State.bump_keeps (State.setSch_keeps h)))

theorem execLimitedCycle_keeps {n cyc s} (h : Keeps s0 s) : KeepsO s0 (execLimitedCycle n cyc s) := by
  unfold execLimitedCycle
  exact (KeepsO.ticking (KeepsO.next (Keeps.ite (spkLimited_keeps (State.land_keeps h)) h)) h)

end Sys2Proof.Machine
end

