-- ==== Sys2Proof/Laws/KeepsBst.lean ====
section
/-!
SUPPORT. Every operation of Machine/Bst.lean keeps the shell, and canonical maps stay canonical.
-/

namespace Sys2Proof.Machine

variable {s0 : State}

theorem bstTell_keeps {inst code s} (h : Keeps s0 s) : Keeps s0 (bstTell inst code s) := by
  unfold bstTell
  exact (State.note_keeps h)

theorem bstTemp_keeps {code s} (h : Keeps s0 s) : Keeps s0 (bstTemp code s) := by
  unfold bstTemp
  dsimp only
  exact (Keeps.branchR (Keeps.when (fun _ h3 => (bstTell_keeps h3)) h.data) (fun h2 => (bstTell_keeps h2.data)))

theorem bstMeasure_keeps {w s} (h : Keeps s0 s) : Keeps s0 (bstMeasure w s) := by
  unfold bstMeasure
  dsimp only
  exact (bstTemp_keeps h.data)

theorem bstSense_keeps {w s} (h : Keeps s0 s) : Keeps s0 (bstSense w s) := by
  unfold bstSense
  dsimp only
  exact (by
      split
      · exact (bstMeasure_keeps h)
      · exact h.data)

theorem bstRun_keeps {s} (h : Keeps s0 s) : Keeps s0 (bstRun s) := by
  unfold bstRun
  dsimp only
  exact (Keeps.ite h.data (Keeps.ite h.data (Keeps.ite h.data h.data)))

theorem bstEnvelopes_keeps {s} (h : Keeps s0 s) : Keeps s0 (bstEnvelopes s) := by
  unfold bstEnvelopes
  dsimp only
  exact (Keeps.data (Keeps.each (fun _ _ h1 => h1.data) h))

theorem bstClipCount_keeps {s} (h : Keeps s0 s) : Keeps s0 (bstClipCount s) := by
  unfold bstClipCount
  exact (Keeps.ite h (State.raise_keeps (State.bump_keeps h)))

theorem bstClips_keeps {knee s} (h : Keeps s0 s) : Keeps s0 (bstClips knee s) := by
  unfold bstClips
  dsimp only
  exact (Keeps.each
      (fun _ _ h1 => (Keeps.when (fun _ h2 => (State.setFld_keeps h2)) (State.setSch_keeps h1)))
      (State.setFld_keeps h))

theorem bstCopy_keeps {s} (h : Keeps s0 s) : Keeps s0 (bstCopy s) := by
  unfold bstCopy
  dsimp only
  exact h.data

theorem bstShape_keeps {s} (h : Keeps s0 s) : Keeps s0 (bstShape s) := by
  unfold bstShape
  dsimp only
  exact (bstClipCount_keeps (bstClips_keeps (bstCopy_keeps (bstEnvelopes_keeps h))))

theorem bstTick_keeps {s} (h : Keeps s0 s) : Keeps s0 (bstTick s) := by
  unfold bstTick
  dsimp only
  exact (Keeps.branch
      (Keeps.branch (bstRun_keeps (bstShape_keeps h)).data (fun h2 => (State.post_keeps (State.post_keeps (State.post_keeps h2)))))
      (fun h1 => (State.setFld_keeps h1.data)))

theorem bstTestFail_keeps {s} (h : Keeps s0 s) : Keeps s0 (bstTestFail s) := by
  unfold bstTestFail
  dsimp only
  exact (Keeps.when (fun _ h1 => h1.data) h)

theorem bstFail_keeps {code s} (h : Keeps s0 s) : Keeps s0 (bstFail code s) := by
  unfold bstFail
  dsimp only
  exact (Keeps.branch (bstTestFail_keeps h) (fun h1 => (bstTell_keeps h1.data)))

theorem bstPhaseFail_keeps {k s} (h : Keeps s0 s) : Keeps s0 (bstPhaseFail k s) := by
  unfold bstPhaseFail
  dsimp only
  exact (Keeps.branch (bstTestFail_keeps h) (fun h1 => (Keeps.branchR (bstTell_keeps h1.data) (fun h3 => (bstFail_keeps h3)))))

theorem execBoostPhaseFail_keeps {k s} (h : Keeps s0 s) : KeepsO s0 (execBoostPhaseFail k s) := by
  unfold execBoostPhaseFail
  exact (KeepsO.ticking (KeepsO.next (bstPhaseFail_keeps h)) h)

theorem execBoostPrechargeDone_keeps {s} (h : Keeps s0 s) : KeepsO s0 (execBoostPrechargeDone s) := by
  unfold execBoostPrechargeDone
  dsimp only
  exact (KeepsO.ticking (KeepsO.next (Keeps.ite h.data h)) h)

theorem execPhaseShed_keeps {s} (h : Keeps s0 s) : KeepsO s0 (execPhaseShed s) := by
  unfold execPhaseShed
  dsimp only
  exact (KeepsO.ticking (KeepsO.next (Keeps.ite h.data h)) h)

theorem execBoostBypassEntry_keeps {s} (h : Keeps s0 s) : KeepsO s0 (execBoostBypassEntry s) := by
  unfold execBoostBypassEntry
  dsimp only
  exact (KeepsO.ticking (KeepsO.next (Keeps.ite h.data h)) h)

theorem execBoostThermal_keeps {code s} (h : Keeps s0 s) : KeepsO s0 (execBoostThermal code s) := by
  unfold execBoostThermal
  exact (KeepsO.ticking (KeepsO.next (bstTemp_keeps h)) h)

theorem execBoostStart_keeps {s} (h : Keeps s0 s) : KeepsO s0 (execBoostStart s) := by
  unfold execBoostStart
  dsimp only
  exact (KeepsO.ticking (KeepsO.next (Keeps.ite h.data h)) h)

theorem bstTakePower_keeps {s} (h : Keeps s0 s) : Keeps s0 (bstTakePower s) := by
  unfold bstTakePower
  dsimp only
  exact h.data

theorem bstCycle_keeps {s} (h : Keeps s0 s) : Keeps s0 (bstCycle s) := by
  unfold bstCycle
  dsimp only
  exact (Keeps.ite h.data h.data)

theorem State.setBst_keeps {x s} (h : Keeps s0 s) : Keeps s0 (State.setBst x s) := by
  unfold State.setBst
  exact h.data

theorem execBoostThermalReturn_keeps {s} (h : Keeps s0 s) : KeepsO s0 (execBoostThermalReturn s) := by
  unfold execBoostThermalReturn
  dsimp only
  exact (KeepsO.ticking
      (KeepsO.next
        (by
          split
          · exact (Keeps.ite h.data h)
          · exact h))
      h)

theorem bstRestore_keeps {s} (h : Keeps s0 s) : Keeps s0 (bstRestore s) := by
  unfold bstRestore
  dsimp only
  exact (Keeps.ite (State.startTest_keeps h.data) h)

theorem execBoostRestore_keeps {s} (h : Keeps s0 s) : KeepsO s0 (execBoostRestore s) := by
  unfold execBoostRestore
  exact (KeepsO.heard (KeepsO.next (bstRestore_keeps h)) h)

theorem bstReading_keeps {v s} (h : Keeps s0 s) : Keeps s0 (bstReading v s) := by
  unfold bstReading
  dsimp only
  exact (Keeps.share (State.raise_keeps
          (Keeps.data (Keeps.when (fun _ h1 => (State.bump_keeps h1)) (State.setOn_keeps (State.post_keeps h))))) fun h2 =>
      (Keeps.ite
        h
        (Keeps.ite
          (Keeps.ite (State.report_keeps h2).data (State.report_keeps h2).data)
          (Keeps.data (Keeps.when (fun _ h8 => (State.bump_keeps h8)) (State.setOn_keeps (State.post_keeps h)))))))

theorem bstNoted_keeps {inst code s} (h : Keeps s0 s) : Keeps s0 (bstNoted inst code s) := by
  unfold bstNoted
  dsimp only
  exact (State.report_keeps (State.raise_keeps h))

theorem bstRestoreEnd_keeps {pass s} (h : Keeps s0 s) : Keeps s0 (bstRestoreEnd pass s) := by
  unfold bstRestoreEnd
  dsimp only
  exact (Keeps.ite h.data (Keeps.ite (State.report_keeps h) (Keeps.ite (State.report_keeps h) (State.report_keeps h))))

theorem execBoostControlCycle_keeps {s} (h : Keeps s0 s) : KeepsO s0 (execBoostControlCycle s) := by
  unfold execBoostControlCycle
  exact (KeepsO.ticking (KeepsO.next (bstCycle_keeps h)) h)

theorem bstLimited_keeps {s} (h : Keeps s0 s) : Keeps s0 (bstLimited s) := by
  unfold bstLimited
  dsimp only
  exact (Keeps.data (Keeps.when (fun _ h1 => (State.report_keeps h1)) (State.raise_keeps (State.bump_keeps h))))

theorem bstTake_keeps {s} (h : Keeps s0 s) : Keeps s0 (bstTake s) := by
  unfold bstTake
  dsimp only
  exact (State.setOn_keeps
      (State.setOn_keeps
        (State.setOn_keeps
          (State.setFld_keeps
            (State.setFld_keeps
              (State.setFld_keeps
                (State.setFld_keeps
                  (Keeps.when
                    (fun _ h1 => (State.raise_keeps (State.bump_keeps h1)))
                    (Keeps.when (fun _ h2 => (bstLimited_keeps h2)) (State.setFld_keeps h.data))))))))))

theorem execBoostRailFault_keeps {kind s} (h : Keeps s0 s) : KeepsO s0 (execBoostRailFault kind s) := by
  unfold execBoostRailFault
  exact (KeepsO.ticking
      (KeepsO.next
        (Keeps.ite
          (bstFail_keeps h)
          (Keeps.ite (Keeps.when (fun _ h5 => (bstFail_keeps h5)) h) (Keeps.when (fun _ h6 => (bstFail_keeps h6)) h))))
      h)

end Sys2Proof.Machine
end

