-- ==== Sys2Proof/Laws/KeepsTime.lean ====
section
/-!
SUPPORT. Every operation of Machine/Time.lean keeps the shell, and canonical maps stay canonical.
-/

namespace Sys2Proof.Machine

variable {s0 : State}

theorem calShow_keeps {s} (h : Keeps s0 s) : Keeps s0 (calShow s) := by
  unfold calShow
  exact (State.setWord_keeps (State.setWord_keeps h))

theorem calPut_keeps {c ticks s} (h : Keeps s0 s) : Keeps s0 (calPut c ticks s) := by
  unfold calPut
  dsimp only
  exact (calShow_keeps (State.setOn_keeps (Keeps.when (fun _ h1 => (State.raise_keeps h1)) h.data)))

theorem calDerive_keeps {moved s} (h : Keeps s0 s) : Keeps s0 (calDerive moved s) := by
  unfold calDerive
  dsimp only
  exact (Keeps.share (State.setFld_keeps h) fun h1 =>
      (by
        split
        · exact h
        · exact (Keeps.ite
              (State.setWord_keeps (State.setWord_keeps (State.setFld_keeps h)))
              (Keeps.ite (calShow_keeps h1) (Keeps.ite (State.setFld_keeps (calPut_keeps h1)) (calPut_keeps h1))))))

theorem State.setZtx_keeps {n x s} (h : Keeps s0 s) : Keeps s0 (State.setZtx n x s) := by
  unfold State.setZtx
  dsimp only
  exact h.data

theorem timeTick_keeps {s} (h : Keeps s0 s) : Keeps s0 (timeTick s) := by
  unfold timeTick
  dsimp only
  exact (Keeps.branchR h.data (fun h2 => (calDerive_keeps h2)))

theorem timePress_keeps {old s} (h : Keeps s0 s) : Keeps s0 (timePress old s) := by
  unfold timePress
  dsimp only
  exact (Keeps.share (State.setFld_keeps h) fun h1 =>
      (Keeps.branchR
        (Keeps.ite (calPut_keeps (State.setFld_keeps h1)) (Keeps.ite (calDerive_keeps h1) h1))
        (fun h3 => (State.setOn_keeps h3))))

theorem tsStamp_keeps {p dir at_ pdu s} (h : Keeps s0 s) : Keeps s0 (tsStamp p dir at_ pdu s) := by
  unfold tsStamp
  dsimp only
  exact (Keeps.when (fun _ h1 => (State.bump_keeps h1)) (qWriteSig_keeps h.data))

theorem timeConvert_keeps {cyc s} (h : Keeps s0 s) : Keeps s0 (timeConvert cyc s) := by
  unfold timeConvert
  dsimp only
  exact h.data

theorem timeStale_keeps {s} (h : Keeps s0 s) : Keeps s0 (timeStale s) := by
  unfold timeStale
  exact (by
      split
      · exact h
      · exact (Keeps.ite h (State.raise_keeps (State.report_keeps (State.setFld_keeps (State.setFld_keeps h))))))

theorem execGptpStale_keeps {s} (h : Keeps s0 s) : KeepsO s0 (execGptpStale s) := by
  unfold execGptpStale
  exact (KeepsO.ticking (KeepsO.next (timeStale_keeps h)) h)

theorem timeApply_keeps {s} (h : Keeps s0 s) : Keeps s0 (timeApply s) := by
  unfold timeApply
  dsimp only
  exact (by
      split
      · exact h
      · exact (Keeps.ite h (Keeps.branchR (State.setFld_keeps (State.setFld_keeps h.data)) (fun h3 => (calDerive_keeps h3)))))

theorem leapSecond_keeps {s} (h : Keeps s0 s) : Keeps s0 (leapSecond s) := by
  unfold leapSecond
  dsimp only
  exact (by
      split
      · exact h
      · exact (Keeps.ite (Keeps.branchR (State.setFld_keeps (State.setFld_keeps h)) (fun h3 => (calDerive_keeps h3))) h))

theorem execLeapSecond_keeps {s} (h : Keeps s0 s) : KeepsO s0 (execLeapSecond s) := by
  unfold execLeapSecond
  exact (KeepsO.ticking (KeepsO.next (leapSecond_keeps h)) h)

theorem timeCommit_keeps {s} (h : Keeps s0 s) : Keeps s0 (timeCommit s) := by
  unfold timeCommit
  dsimp only
  exact h.data

theorem execTimeCommit_keeps {s} (h : Keeps s0 s) : KeepsO s0 (execTimeCommit s) := by
  unfold execTimeCommit
  exact (KeepsO.heard (KeepsO.next (timeCommit_keeps h)) h)

theorem execTimeConvert_keeps {cyc s} (h : Keeps s0 s) : KeepsO s0 (execTimeConvert cyc s) := by
  unfold execTimeConvert
  exact (KeepsO.heard (KeepsO.next (timeConvert_keeps h)) h)

theorem execTimeMapApply_keeps {s} (h : Keeps s0 s) : KeepsO s0 (execTimeMapApply s) := by
  unfold execTimeMapApply
  exact (KeepsO.ticking (KeepsO.next (timeApply_keeps h)) h)

theorem timeConverted_keeps {s} (h : Keeps s0 s) : Keeps s0 (timeConverted s) := by
  unfold timeConverted
  dsimp only
  exact (Keeps.share h.data fun h1 =>
      (by
        split
        · exact h
        · exact (by
              split
              · exact (State.post_keeps
                    (State.setWord_keeps
                      (State.setWord_keeps (State.setWord_keeps (State.setWord_keeps (State.setWord_keeps h1))))))
              · exact (Keeps.share (State.setWord_keeps (State.setWord_keeps (State.setWord_keeps h1))) fun h2 =>
                    (Keeps.ite
                      (State.post_keeps (State.setWord_keeps (State.setWord_keeps h2)))
                      (State.post_keeps (State.setWord_keeps (State.setWord_keeps h2))))))))

theorem execTimeConvertResult_keeps {s} (h : Keeps s0 s) : KeepsO s0 (execTimeConvertResult s) := by
  unfold execTimeConvertResult
  exact (KeepsO.ticking (KeepsO.next (timeConverted_keeps h)) h)

theorem calSecond_keeps {s} (h : Keeps s0 s) : Keeps s0 (calSecond s) := by
  unfold calSecond
  exact (Keeps.ite h (calPut_keeps h))

theorem execCalendarSecond_keeps {s} (h : Keeps s0 s) : KeepsO s0 (execCalendarSecond s) := by
  unfold execCalendarSecond
  exact (KeepsO.ticking (KeepsO.next (calSecond_keeps h)) h)

end Sys2Proof.Machine
end

