-- ==== Sys2Proof/Laws/KeepsNet.lean ====
section
/-!
SUPPORT. Every operation of Machine/Net.lean keeps the shell, and canonical maps stay canonical.
-/

namespace Sys2Proof.Machine

variable {s0 : State}

theorem State.setPrt_keeps {p x s} (h : Keeps s0 s) : Keeps s0 (State.setPrt p x s) := by
  unfold State.setPrt
  dsimp only
  exact h.data

theorem netDiscard_keeps {p q s} (h : Keeps s0 s) : Keeps s0 (netDiscard p q s) := by
  unfold netDiscard
  dsimp only
  exact (by
      split
      · exact h
      · exact (Keeps.ite (qPass_keeps h) (State.setPrt_keeps h)))

theorem txDrop_keeps {p t s} (h : Keeps s0 s) : Keeps s0 (txDrop p t s) := by
  unfold txDrop
  exact (by
      split
      · exact (Keeps.when (fun _ h1 => (netDiscard_keeps h1)) h)
      · exact h)

theorem portVerify_keeps {p s} (h : Keeps s0 s) : Keeps s0 (portVerify p s) := by
  unfold portVerify
  dsimp only
  exact (Keeps.share (State.setPrt_keeps h) fun h1 =>
      (Keeps.share (State.setFld_keeps h1) fun h2 =>
        (Keeps.ite (State.setFld_keeps h2) (Keeps.ite (State.setFld_keeps h2) (State.setFld_keeps (State.setFld_keeps h1))))))

theorem prePress_keeps {p s} (h : Keeps s0 s) : Keeps s0 (prePress p s) := by
  unfold prePress
  dsimp only
  exact (Keeps.ite h (Keeps.when (fun _ h2 => (portVerify_keeps h2)) (State.setPrt_keeps h)))

theorem portLose_keeps {p s} (h : Keeps s0 s) : Keeps s0 (portLose p s) := by
  unfold portLose
  dsimp only
  exact (prePress_keeps (State.bumpBy_keeps (State.setFld_keeps (txDrop_keeps (txDrop_keeps (State.setPrt_keeps h))))))

theorem brPut_keeps {b es s} (h : Keeps s0 s) : Keeps s0 (brPut b es s) := by
  unfold brPut
  dsimp only
  exact (State.setFld_keeps h.data)

theorem brDrop_keeps {f s} (h : Keeps s0 s) : Keeps s0 (brDrop f s) := by
  unfold brDrop
  exact (Keeps.eachOf (fun _ _ h1 => (brPut_keeps h1)) h)

theorem portLinkDown_keeps {p s} (h : Keeps s0 s) : Keeps s0 (portLinkDown p s) := by
  unfold portLinkDown
  dsimp only
  exact (Keeps.ite
      h
      (portVerify_keeps (brDrop_keeps (portLose_keeps (State.raise_keeps (State.report_keeps (State.setFld_keeps h)))))))

theorem netRelease_keeps {p s} (h : Keeps s0 s) : Keeps s0 (netRelease p s) := by
  unfold netRelease
  dsimp only
  exact (Keeps.ite h (State.setFld_keeps h))

theorem netAbort_keeps {p q express s} (h : Keeps s0 s) : Keeps s0 (netAbort p q express s) := by
  unfold netAbort
  dsimp only
  exact (qCancel_keeps (State.setPrt_keeps h).data)

theorem netGiveUp_keeps {p q express s} (h : Keeps s0 s) : Keeps s0 (netGiveUp p q express s) := by
  unfold netGiveUp
  exact (State.bump_keeps (netAbort_keeps h))

theorem netCopy_keeps {p c s} (h : Keeps s0 s) : Keeps s0 (netCopy p c s) := by
  unfold netCopy
  dsimp only
  exact (Keeps.ite
      (State.setPrt_keeps h)
      (Keeps.branch (qSubmit_keeps h) (fun h3 => (Keeps.ite (netGiveUp_keeps h3) (State.setPrt_keeps h3)))))

theorem netRetry_keeps {p s} (h : Keeps s0 s) : Keeps s0 (netRetry p s) := by
  unfold netRetry
  dsimp only
  exact (Keeps.eachOf
      (fun _ _ h1 => (Keeps.ite h1 (Keeps.ite h1 (State.setPrt_keeps (netCopy_keeps (State.setPrt_keeps h1))))))
      (State.setPrt_keeps h))

theorem portSetTok_keeps {p c v s} (h : Keeps s0 s) : Keeps s0 (portSetTok p c v s) := by
  unfold portSetTok
  dsimp only
  exact (State.setPrt_keeps h)

theorem portFill_keeps {p s} (h : Keeps s0 s) : Keeps s0 (portFill p s) := by
  unfold portFill
  dsimp only
  exact (Keeps.each (fun _ _ h1 => (Keeps.ite h1 (portSetTok_keeps h1))) h)

theorem netPurge_keeps {p q s} (h : Keeps s0 s) : Keeps s0 (netPurge p q s) := by
  unfold netPurge
  dsimp only
  exact (Keeps.ite h (qPass_keeps (State.setPrt_keeps h)))

theorem portDrain_keeps {p s} (h : Keeps s0 s) : Keeps s0 (portDrain p s) := by
  unfold portDrain
  dsimp only
  exact (Keeps.each
      (fun _ _ h1 => (Keeps.ite h1 (State.bumpBy_keeps (Keeps.each (fun _ _ h3 => (qPass_keeps h3)) (netPurge_keeps h1)))))
      h)

theorem netTick_keeps {s} (h : Keeps s0 s) : Keeps s0 (netTick s) := by
  unfold netTick
  dsimp only
  exact (Keeps.each
      (fun _ _ h1 =>
        (Keeps.branch
          (netRelease_keeps (netRetry_keeps (portFill_keeps (Keeps.when (fun _ h3 => (portLinkDown_keeps h3)) h1))))
          (fun h2 => (portDrain_keeps (portLose_keeps h2)))))
      h)

theorem tblResult_keeps {hit static port err age s} (h : Keeps s0 s) : Keeps s0 (tblResult hit static port err age s) := by
  unfold tblResult
  exact (State.post_keeps h)

theorem tblLookup_keeps {s} (h : Keeps s0 s) : Keeps s0 (tblLookup s) := by
  unfold tblLookup
  exact (by
      split <;> exact (tblResult_keeps h))

theorem brLearn_keeps {e s} (h : Keeps s0 s) : Keeps s0 (brLearn e s) := by
  unfold brLearn
  dsimp only
  exact (by
      split
      · exact (Keeps.ite (brPut_keeps h) (Keeps.ite (State.raise_keeps (State.bump_keeps h)) (State.bump_keeps (brPut_keeps h))))
      · exact (Keeps.ite
            (brPut_keeps h)
            (by
              split
              · exact (brPut_keeps h)
              · exact (State.raise_keeps (State.bump_keeps h)))))

theorem learnDrain_keeps {s} (h : Keeps s0 s) : Keeps s0 (learnDrain s) := by
  unfold learnDrain
  dsimp only
  exact (Keeps.each
      (fun _ _ h1 =>
        (by
          split
          · exact h1
          · exact (Keeps.ite h1 (brLearn_keeps h1.data))))
      h)

theorem modePress_keeps {p serial s} (h : Keeps s0 s) : Keeps s0 (modePress p serial s) := by
  unfold modePress
  dsimp only
  exact (Keeps.share (State.setFld_keeps
          (portLose_keeps
            (Keeps.when
              (fun _ h1 => (State.raise_keeps h1))
              (State.bumpBy_keeps (State.setPrt_keeps (Keeps.eachOf (fun _ _ h2 => (netAbort_keeps h2)) h)))))) fun h3 =>
      (Keeps.ite
        (portLinkDown_keeps h3)
        (Keeps.when (fun _ h6 => (State.raise_keeps h6)) (State.setOn_keeps (State.setFld_keeps h3)))))

theorem netPress_keeps {serial old s} (h : Keeps s0 s) : Keeps s0 (netPress serial old s) := by
  unfold netPress
  dsimp only
  exact (Keeps.each
      (fun _ _ h1 =>
        (Keeps.branchR (prePress_keeps (Keeps.when (fun _ h4 => (modePress_keeps h4)) h1)) (fun h3 => (brDrop_keeps h3))))
      h.data)

theorem netFilt_keeps {p s} (h : Keeps s0 s) : Keeps s0 (netFilt p s) := by
  unfold netFilt
  exact (State.bump_keeps h)

theorem netGive_keeps {p bad c d s} (h : Keeps s0 s) : Keeps s0 (netGive p bad c d s) := by
  unfold netGive
  dsimp only
  exact (by
      split
      · exact (Keeps.ite (netCopy_keeps h) (Keeps.ite (netCopy_keeps h) h))
      · exact (Keeps.ite h h.data)
      · exact (Keeps.ite h (netFilt_keeps h)))

theorem netDeliver_keeps {p stamp bad past f cf s} (h : Keeps s0 s) : Keeps s0 (netDeliver p stamp bad past f cf s) := by
  unfold netDeliver
  dsimp only
  exact (by
      split
      · exact (Keeps.when (fun _ h1 => (netFilt_keeps h1)) h)
      · exact (Keeps.when (fun _ h2 => (netGive_keeps h2)) (Keeps.eachOf (fun _ _ h3 => (netGive_keeps h3)) h)))

theorem netLearn_keeps {p sa stamp s} (h : Keeps s0 s) : Keeps s0 (netLearn p sa stamp s) := by
  unfold netLearn
  dsimp only
  exact (Keeps.ite (State.bump_keeps h) h.data)

theorem tblFlush_keeps {port s} (h : Keeps s0 s) : Keeps s0 (tblFlush port s) := by
  unfold tblFlush
  exact (tblResult_keeps (brDrop_keeps h))

theorem portCharge_keeps {p c n s} (h : Keeps s0 s) : Keeps s0 (portCharge p c n s) := by
  unfold portCharge
  dsimp only
  exact (Keeps.ite h (portSetTok_keeps h))

theorem portEnd_keeps {p s} (h : Keeps s0 s) : Keeps s0 (portEnd p s) := by
  unfold portEnd
  dsimp only
  exact (by
      split
      · exact h
      · exact (Keeps.share (Keeps.ite (portCharge_keeps (Keeps.ite (qPass_keeps h) h)) h) fun h3 =>
            (Keeps.ite
              h
              (Keeps.ite
                h
                (prePress_keeps
                  (Keeps.when
                    (fun _ h6 => (netRelease_keeps h6))
                    (State.setPrt_keeps (Keeps.ite (State.bump_keeps h3) (State.bump_keeps h3)))))))))

theorem netMPacket_keeps {p k s} (h : Keeps s0 s) : Keeps s0 (netMPacket p k s) := by
  unfold netMPacket
  dsimp only
  exact (Keeps.ite h (Keeps.ite (State.setPrt_keeps h) (Keeps.ite (State.setFld_keeps (State.setFld_keeps h)) h)))

theorem portLinkUp_keeps {p speed half s} (h : Keeps s0 s) : Keeps s0 (portLinkUp p speed half s) := by
  unfold portLinkUp
  dsimp only
  exact (Keeps.ite
      h
      (Keeps.ite
        (State.setFld_keeps h)
        (portVerify_keeps (State.raise_keeps (State.setFld_keeps (State.setFld_keeps (State.setFld_keeps h)))))))

theorem tblAdd_keeps {port s} (h : Keeps s0 s) : Keeps s0 (tblAdd port s) := by
  unfold tblAdd
  dsimp only
  exact (by
      split
      · exact (tblResult_keeps (brPut_keeps h))
      · exact (Keeps.ite
            (tblResult_keeps (brPut_keeps h))
            (by
              split
              · exact (tblResult_keeps (brPut_keeps h))
              · exact (tblResult_keeps h))))

theorem execEgressFrameEnd_keeps {cyc p s} (h : Keeps s0 s) : KeepsO s0 (execEgressFrameEnd cyc p s) := by
  unfold execEgressFrameEnd
  exact (KeepsO.ticking (KeepsO.next (portEnd_keeps (State.land_keeps h))) h)

theorem netCount_keeps {p stamp past fcs f cf s} (h : Keeps s0 s) : Keeps s0 (netCount p stamp past fcs f cf s) := by
  unfold netCount
  dsimp only
  exact (Keeps.when
      (fun _ h1 => (tsStamp_keeps h1))
      (Keeps.when (fun _ h2 => (netLearn_keeps h2)) (Keeps.ite (State.raise_keeps (State.bump_keeps h)) (State.bump_keeps h))))

theorem portVerifyTimer_keeps {p s} (h : Keeps s0 s) : Keeps s0 (portVerifyTimer p s) := by
  unfold portVerifyTimer
  dsimp only
  exact (Keeps.ite h (Keeps.ite (State.setPrt_keeps h) (State.raise_keeps (State.report_keeps (State.setFld_keeps h)))))

theorem execTableAddStatic_keeps {port s} (h : Keeps s0 s) : KeepsO s0 (execTableAddStatic port s) := by
  unfold execTableAddStatic
  exact (KeepsO.heard (KeepsO.next (tblAdd_keeps (learnDrain_keeps h))) h)

theorem learnApply_keeps {s} (h : Keeps s0 s) : Keeps s0 (learnApply s) := by
  unfold learnApply
  dsimp only
  exact (by
      split
      · exact h
      · exact (Keeps.ite h (brLearn_keeps h.data)))

theorem netExpire_keeps {p q express s} (h : Keeps s0 s) : Keeps s0 (netExpire p q express s) := by
  unfold netExpire
  dsimp only
  exact (by
      split
      · exact h
      · exact (Keeps.ite (netRetry_keeps (netGiveUp_keeps h)) h))

theorem portCountLate_keeps {p s} (h : Keeps s0 s) : Keeps s0 (portCountLate p s) := by
  unfold portCountLate
  dsimp only
  exact (Keeps.when (fun _ h1 => (State.report_keeps h1)) (State.raise_keeps (State.setPrt_keeps (State.bump_keeps h))))

theorem t1sBackoffEnd_keeps {s} (h : Keeps s0 s) : Keeps s0 (t1sBackoffEnd s) := by
  unfold t1sBackoffEnd
  dsimp only
  exact (by
      split
      · exact h
      · exact (Keeps.ite h (Keeps.ite (portCountLate_keeps (txDrop_keeps (State.setPrt_keeps h))) (State.setPrt_keeps h))))

theorem execT1sBackoffEnd_keeps {cyc s} (h : Keeps s0 s) : KeepsO s0 (execT1sBackoffEnd cyc s) := by
  unfold execT1sBackoffEnd
  exact (KeepsO.ticking (KeepsO.next (t1sBackoffEnd_keeps (State.land_keeps h))) h)

theorem t1sJabber_keeps {s} (h : Keeps s0 s) : Keeps s0 (t1sJabber s) := by
  unfold t1sJabber
  exact (Keeps.ite h (portLose_keeps (State.raise_keeps (State.report_keeps (State.setFld_keeps h)))))

theorem netAsOf_keeps {stamp s} (h : Keeps s0 s) : Keeps s0 (netAsOf stamp s) := by
  unfold netAsOf
  exact (by
      split
      · exact (Keeps.foldl (fun _ _ h1 => (State.setWord_keeps h1)) h)
      · exact h)

theorem brUe_keeps {mac s} (h : Keeps s0 s) : Keeps s0 (brUe mac s) := by
  unfold brUe
  exact (by
      split
      · exact h
      · exact (State.raise_keeps (State.report_keeps (brPut_keeps h))))

theorem netReceive_keeps {p w s} (h : Keeps s0 s) : Keeps s0 (netReceive p w s) := by
  unfold netReceive
  dsimp only
  exact (Keeps.share (Keeps.when
          (fun _ h1 => (netCount_keeps h1))
          (Keeps.when
            (fun _ h2 => (State.bump_keeps h2))
            (Keeps.when (fun _ h3 => (State.report_keeps h3)) (State.land_keeps h)))) fun h4 =>
      (Keeps.share (State.land_keeps h) fun h5 =>
        (Keeps.branch
          (State.raise_keeps (State.bump_keeps h5))
          (fun h6 =>
            (Keeps.ite
              h5
              (Keeps.ite
                (netMPacket_keeps h5)
                (Keeps.ite
                  (State.bump_keeps h5)
                  (Keeps.ite
                    (State.bump_keeps h5)
                    (Keeps.ite
                      h6
                      (by
                        split
                        · exact (Keeps.when (fun _ h15 => (netFilt_keeps h15)) h4)
                        · exact (netDeliver_keeps (Keeps.when (fun _ h16 => (brUe_keeps h16)) h4))))))))))))

theorem execRxWaitExpire_keeps {here q express s} (h : Keeps s0 s) : KeepsO s0 (execRxWaitExpire here q express s) := by
  unfold execRxWaitExpire
  exact (KeepsO.ticking (KeepsO.next (netExpire_keeps (State.land_keeps h))) h)

theorem brAge_keeps {s} (h : Keeps s0 s) : Keeps s0 (brAge s) := by
  unfold brAge
  dsimp only
  exact (Keeps.ite h (brDrop_keeps h))

theorem tblDelete_keeps {s} (h : Keeps s0 s) : Keeps s0 (tblDelete s) := by
  unfold tblDelete
  exact (by
      split
      · exact (tblResult_keeps (brPut_keeps h))
      · exact (tblResult_keeps h))

theorem tblCmd_keeps {cmd port s} (h : Keeps s0 s) : Keeps s0 (tblCmd cmd port s) := by
  unfold tblCmd
  dsimp only
  exact (Keeps.share (Keeps.when (fun _ h1 => (learnDrain_keeps h1)) h) fun h2 =>
      (Keeps.ite
        (tblLookup_keeps h2)
        (Keeps.ite
          (tblAdd_keeps h2)
          (Keeps.ite (tblDelete_keeps h2) (Keeps.ite (tblFlush_keeps h2) (Keeps.ite (tblFlush_keeps h2) h2))))))

theorem t1sCollision_keeps {late s} (h : Keeps s0 s) : Keeps s0 (t1sCollision late s) := by
  unfold t1sCollision
  dsimp only
  exact (Keeps.share (Keeps.when (fun _ h1 => (State.bump_keeps h1)) (State.bump_keeps h)) fun h2 =>
      (by
        split
        · exact h
        · exact (Keeps.ite h (Keeps.ite (State.bump_keeps (txDrop_keeps (State.setPrt_keeps h2))) (State.setPrt_keeps h2)))))

theorem execEthFrameReceive_keeps {p w s} (h : Keeps s0 s) : KeepsO s0 (execEthFrameReceive p w s) := by
  unfold execEthFrameReceive
  exact (KeepsO.ticking (KeepsO.next (netReceive_keeps h)) h)

theorem execLearnEventApply_keeps {cyc s} (h : Keeps s0 s) : KeepsO s0 (execLearnEventApply cyc s) := by
  unfold execLearnEventApply
  exact (KeepsO.ticking (KeepsO.next (learnApply_keeps (State.land_keeps h))) h)

theorem portPick_keeps {p eo k c s} (h : Keeps s0 s) : Keeps s0 (portPick p eo k c s).2 := by
  induction k generalizing c s with
  | zero => unfold portPick; exact h
  | succ k ih =>
    cases c with
    | zero => unfold portPick; exact h
    | succ c =>
      unfold portPick
      refine .ite_2 (ih h) ?_
      have hp := netPurge_keeps (p := p) (q := s.fld (F.PORT_EQ_QID p c)) h
      dsimp only
      split
      · exact ih hp
      · exact .ite_2 (ih hp) (.ite_2 (ih (State.bump_keeps (netDiscard_keeps hp)))
          (.ite_2 (ih hp) (.ite_2 (ih (portCountLate_keeps (netDiscard_keeps hp))) hp)))

theorem portBegin_keeps {p c q g s} (h : Keeps s0 s) : Keeps s0 (portBegin p c q g s) := by
  unfold portBegin
  dsimp only
  exact (State.setPrt_keeps (Keeps.branchR (Keeps.ite (portCharge_keeps (qPass_keeps h)) h) (fun h2 => (tsStamp_keeps h2))))

theorem portStart_keeps {p s} (h : Keeps s0 s) : Keeps s0 (portStart p s) := by
  unfold portStart
  refine .ite h ?_
  dsimp only
  split
  · rename_i e; exact portBegin_keeps (.pair_2 e (portPick_keeps (State.setPrt_keeps h)))
  · rename_i e
    have h := Keeps.pair_2 e (portPick_keeps (State.setPrt_keeps h))
    exact .ite (State.setPrt_keeps h) h

theorem execEgressFrameStart_keeps {cyc p s} (h : Keeps s0 s) : KeepsO s0 (execEgressFrameStart cyc p s) := by
  unfold execEgressFrameStart
  exact (KeepsO.ticking (KeepsO.next (portStart_keeps (State.land_keeps h))) h)

theorem portPreempt_keeps {p sent s} (h : Keeps s0 s) : Keeps s0 (portPreempt p sent s) := by
  unfold portPreempt
  dsimp only
  split
  · exact h
  · refine .ite h ?_
    split
    · rename_i e; exact portBegin_keeps (State.setPrt_keeps (.pair_2 e (portPick_keeps h)))
    · rename_i e; exact .when (fun _ h1 => State.setPrt_keeps h1) (.pair_2 e (portPick_keeps h))

theorem execExpressPreempt_keeps {here sent s} (h : Keeps s0 s) : KeepsO s0 (execExpressPreempt here sent s) := by
  unfold execExpressPreempt
  exact (KeepsO.ticking (KeepsO.next (portPreempt_keeps (State.land_keeps h))) h)

theorem execPreemptHold_keeps {here s} (h : Keeps s0 s) : KeepsO s0 (execPreemptHold here s) := by
  unfold execPreemptHold
  dsimp only
  exact (KeepsO.ticking (KeepsO.next (Keeps.branchR (State.land_keeps h) (fun h2 => (State.setFld_keeps h2)))) h)

theorem execVerifyTimer_keeps {p s} (h : Keeps s0 s) : KeepsO s0 (execVerifyTimer p s) := by
  unfold execVerifyTimer
  exact (KeepsO.ticking (KeepsO.next (portVerifyTimer_keeps h)) h)

theorem execEthLinkUp_keeps {p speed half s} (h : Keeps s0 s) : KeepsO s0 (execEthLinkUp p speed half s) := by
  unfold execEthLinkUp
  exact (KeepsO.ticking (KeepsO.next (portLinkUp_keeps h)) h)

theorem execEthLinkDown_keeps {p s} (h : Keeps s0 s) : KeepsO s0 (execEthLinkDown p s) := by
  unfold execEthLinkDown
  exact (KeepsO.ticking (KeepsO.next (portLinkDown_keeps h)) h)

theorem execT1sCollision_keeps {c s} (h : Keeps s0 s) : KeepsO s0 (execT1sCollision c s) := by
  unfold execT1sCollision
  exact (KeepsO.ticking (KeepsO.next (t1sCollision_keeps (State.land_keeps h))) h)

theorem execT1sJabber_keeps {s} (h : Keeps s0 s) : KeepsO s0 (execT1sJabber s) := by
  unfold execT1sJabber
  exact (KeepsO.ticking (KeepsO.next (t1sJabber_keeps h)) h)

theorem execT1sJabberEnd_keeps {s} (h : Keeps s0 s) : KeepsO s0 (execT1sJabberEnd s) := by
  unfold execT1sJabberEnd
  exact (KeepsO.ticking (KeepsO.next (State.setFld_keeps h)) h)

theorem execBridgeAgeingScan_keeps {s} (h : Keeps s0 s) : KeepsO s0 (execBridgeAgeingScan s) := by
  unfold execBridgeAgeingScan
  exact (KeepsO.ticking (KeepsO.next (brAge_keeps h)) h)

theorem execTableLookup_keeps {s} (h : Keeps s0 s) : KeepsO s0 (execTableLookup s) := by
  unfold execTableLookup
  exact (KeepsO.heard (KeepsO.next (tblLookup_keeps (learnDrain_keeps h))) h)

theorem execTableDelete_keeps {s} (h : Keeps s0 s) : KeepsO s0 (execTableDelete s) := by
  unfold execTableDelete
  exact (KeepsO.heard (KeepsO.next (tblDelete_keeps (learnDrain_keeps h))) h)

theorem execTableFlushPort_keeps {port s} (h : Keeps s0 s) : KeepsO s0 (execTableFlushPort port s) := by
  unfold execTableFlushPort
  exact (KeepsO.heard (KeepsO.next (tblFlush_keeps (learnDrain_keeps h))) h)

theorem execTableFlushAll_keeps {s} (h : Keeps s0 s) : KeepsO s0 (execTableFlushAll s) := by
  unfold execTableFlushAll
  exact (KeepsO.heard (KeepsO.next (tblFlush_keeps (learnDrain_keeps h))) h)

end Sys2Proof.Machine
end

