-- ==== Sys2Proof/Laws/KeepsZkl.lean ====
section
/-!
SUPPORT. Every operation of Machine/Zkl.lean keeps the shell, and canonical maps stay canonical.
-/

namespace Sys2Proof.Machine

variable {s0 : State}

theorem State.setZrx_keeps {r x s} (h : Keeps s0 s) : Keeps s0 (State.setZrx r x s) := by
  unfold State.setZrx
  dsimp only
  exact h.data

theorem zrxRestart_keeps {r s} (h : Keeps s0 s) : Keeps s0 (zrxRestart r s) := by
  unfold zrxRestart
  exact (Keeps.when (fun _ h1 => (State.setFld_keeps h1)) (State.setZrx_keeps h))

theorem ztxRestart_keeps {n s} (h : Keeps s0 s) : Keeps s0 (ztxRestart n s) := by
  unfold ztxRestart
  exact (State.setZtx_keeps h)

theorem zklConserve_keeps {inst s} (h : Keeps s0 s) : Keeps s0 (zklConserve inst s) := by
  unfold zklConserve
  dsimp only
  exact (Keeps.share (State.raise_keeps (State.report_keeps h)) fun h1 => (Keeps.ite (zrxRestart_keeps h1) (ztxRestart_keeps h1)))

theorem zrxValues_keeps {r k bad s} (h : Keeps s0 s) : Keeps s0 (zrxValues r k bad s) := by
  unfold zrxValues
  dsimp only
  exact (Keeps.when
      (fun _ h1 => (State.report_keeps h1))
      (Keeps.each (fun _ _ h2 => (State.produce_keeps h2)) (State.setZrx_keeps h)))

theorem zrxBegin_keeps {r d0 s} (h : Keeps s0 s) : Keeps s0 (zrxBegin r d0 s) := by
  unfold zrxBegin
  dsimp only
  exact (by
      split
      · exact (State.setFld_keeps (State.setZrx_keeps h))
      · exact (Keeps.ite
            h
            (Keeps.branch
              (State.bump_keeps h)
              (fun h2 =>
                (Keeps.ite
                  (State.setFld_keeps h2)
                  (Keeps.ite (State.raise_keeps (State.report_keeps (State.setFld_keeps (State.setZrx_keeps h2)))) h2))))))

theorem zrxTick_keeps {bad r s} (h : Keeps s0 s) : Keeps s0 (zrxTick bad r s) := by
  unfold zrxTick
  dsimp only
  exact (Keeps.ite
      h
      (by
        split
        · exact (Keeps.ite h (zrxValues_keeps h))
        · exact (Keeps.branch (Keeps.ite (zrxBegin_keeps h) h) (fun h3 => (zrxValues_keeps h3)))))

theorem zklLink_keeps {n s} (h : Keeps s0 s) : Keeps s0 (zklLink n s) := by
  unfold zklLink
  dsimp only
  exact (by
      split
      · exact h
      · exact (State.setZtx_keeps
            (Keeps.when (fun _ h1 => (State.bump_keeps h1)) (Keeps.eachOf (fun _ _ h2 => (State.bump_keeps (qClose_keeps h2))) h))))

theorem ctrlTake_keeps {n k acc s} (h : Keeps s0 s) : Keeps s0 (ctrlTake n k acc s).2 := by
  induction k generalizing acc s with
  | zero => exact h
  | succ k ih =>
    unfold ctrlTake
    dsimp only
    split
    · exact h
    · exact .ite_2 h (.ite_2 (ih (State.bump_keeps (qPass_keeps h))) (.ite_2 h (ih (qPass_keeps h))))

theorem zklPut_keeps {n p frame s} (h : Keeps s0 s) : Keeps s0 (zklPut n p frame s).1 := by
  unfold zklPut
  exact (Keeps.ite_1 h (qWrite_keeps h))

theorem zklAssemble_keeps {n d0 vals s} (h : Keeps s0 s) : Keeps s0 (zklAssemble n d0 vals s) := by
  unfold zklAssemble
  dsimp only
  exact (Keeps.share (State.setFld_keeps (zklLink_keeps h)) fun h1 =>
      (State.setZtx_keeps
        (Keeps.foldl_1
          (fun _ _ h2 => (Keeps.share (zklPut_keeps h2) fun h3 => (Keeps.ite_1 h3 (State.bump_keeps h3))))
          (Keeps.ite_2 (ctrlTake_keeps h1) h1))))

theorem ztxTick_keeps {n s} (h : Keeps s0 s) : Keeps s0 (ztxTick n s) := by
  unfold ztxTick
  dsimp only
  exact (Keeps.ite h (Keeps.ite h (Keeps.branchR (State.setZtx_keeps h) (fun h4 => (zklAssemble_keeps h4)))))

theorem zklTick_keeps {bad s} (h : Keeps s0 s) : Keeps s0 (zklTick bad s) := by
  unfold zklTick
  exact (Keeps.each (fun _ _ h1 => (zrxTick_keeps h1)) (Keeps.each (fun _ _ h2 => (ztxTick_keeps h2)) h))

theorem zklShow_keeps {s} (h : Keeps s0 s) : Keeps s0 (zklShow s) := by
  unfold zklShow
  dsimp only
  exact (Keeps.each
      (fun _ _ h1 => (Keeps.ite (State.setFld_keeps h1) (Keeps.ite (State.setFld_keeps h1) (Keeps.ite (State.setFld_keeps h1) h1))))
      (Keeps.each (fun _ _ h7 => (State.setFld_keeps h7)) h))

theorem zklPress_keeps {old s} (h : Keeps s0 s) : Keeps s0 (zklPress old s) := by
  unfold zklPress
  dsimp only
  exact (zklShow_keeps
      (Keeps.each
        (fun _ _ h1 =>
          (Keeps.ite (State.setFld_keeps (Keeps.each (fun _ _ h3 => (State.produce_keeps h3)) (State.setZrx_keeps h1))) h1))
        (Keeps.each
          (fun _ _ h4 =>
            (Keeps.ite
              (State.setZtx_keeps
                (Keeps.eachOf
                  (fun _ _ h6 =>
                    (by
                      split
                      · exact (Keeps.ite (qCancel_keeps h6) h6)
                      · exact h6))
                  h4))
              h4))
          h)))

theorem zklRestartAll_keeps {s} (h : Keeps s0 s) : Keeps s0 (zklRestartAll s) := by
  unfold zklRestartAll
  exact (Keeps.each (fun _ _ h1 => (zrxRestart_keeps h1)) (Keeps.each (fun _ _ h2 => (ztxRestart_keeps h2)) h))

theorem zklOwn_keeps {sa s} (h : Keeps s0 s) : Keeps s0 (zklOwn sa s) := by
  unfold zklOwn
  dsimp only
  exact (Keeps.ite
      (State.bump_keeps h)
      (Keeps.when (fun _ h3 => (State.report_keeps h3.data)) (State.raise_keeps (State.bump_keeps h))))

theorem ctrlGive_keeps {r tr k bs s} (h : Keeps s0 s) : Keeps s0 (ctrlGive r tr k bs s) := by
  induction k generalizing bs s with
  | zero => exact h
  | succ k ih => unfold ctrlGive; exact .ite h (ih (qWriteBytes_keeps h))

theorem zrxGood_keeps {tr r p d0 pay s} (h : Keeps s0 s) : Keeps s0 (zrxGood tr r p d0 pay s) := by
  unfold zrxGood
  dsimp only
  exact (Keeps.branchR (State.setZrx_keeps (State.setFld_keeps (State.bump_keeps h))) (fun h2 => (ctrlGive_keeps h2)))

theorem zklJudge_keeps {tr bytes bad shut s} (h : Keeps s0 s) : Keeps s0 (zklJudge tr bytes bad shut s) := by
  unfold zklJudge
  dsimp only
  exact (Keeps.branch
      (State.bump_keeps h)
      (fun h1 =>
        (by
          split
          · exact h1
          · exact (Keeps.ite
                (zklOwn_keeps h)
                (Keeps.ite
                  (State.bump_keeps h)
                  (Keeps.ite
                    (Keeps.branch (State.bump_keeps h) (fun h8 => (State.raise_keeps (State.report_keeps (State.setZrx_keeps h8)))))
                    (Keeps.ite
                      (State.bump_keeps h)
                      (Keeps.ite
                        (Keeps.when
                          (fun _ h13 => (State.raise_keeps (State.report_keeps h13)))
                          (State.setZrx_keeps (State.bump_keeps h)))
                        (Keeps.ite (State.bump_keeps h) (zrxGood_keeps h))))))))))

theorem domainUpdate_keeps {s} (h : Keeps s0 s) : Keeps s0 (domainUpdate s) := by
  unfold domainUpdate
  dsimp only
  exact (by
      split
      · exact h
      · exact (Keeps.share (State.post_keeps h) fun h1 =>
            (Keeps.ite
              h
              (Keeps.ite
                (State.setFld_keeps h1)
                (Keeps.branch
                  (State.setFld_keeps h1)
                  (fun h5 =>
                    (zklShow_keeps
                      (zklRestartAll_keeps
                        (Keeps.when
                          (fun _ h6 => (State.raise_keeps (State.report_keeps h6)))
                          (State.setFld_keeps (State.setFld_keeps (State.setFld_keeps h5.data))))))))))))

theorem execDomainTickUpdate_keeps {s} (h : Keeps s0 s) : KeepsO s0 (execDomainTickUpdate s) := by
  unfold execDomainTickUpdate
  exact (KeepsO.ticking (KeepsO.next (domainUpdate_keeps h)) h)

theorem execZklFrameLink_keeps {n s} (h : Keeps s0 s) : KeepsO s0 (execZklFrameLink n s) := by
  unfold execZklFrameLink
  exact (KeepsO.ticking (KeepsO.next (zklLink_keeps (State.land_keeps h))) h)

theorem zklRead_keeps {tr s} (h : Keeps s0 s) : Keeps s0 (zklRead tr s) := by
  unfold zklRead
  dsimp only
  exact (Keeps.ite
      h
      (by
        split
        · exact h
        · exact (Keeps.ite h (zklJudge_keeps (qPass_keeps h)))))

theorem execZklFrameJudge_keeps {xlate s} (h : Keeps s0 s) : KeepsO s0 (execZklFrameJudge xlate s) := by
  unfold execZklFrameJudge
  exact (KeepsO.ticking (KeepsO.next (zklRead_keeps h)) h)

end Sys2Proof.Machine
end

