-- ==== Sys2Proof/Laws/KeepsPlan.lean ====
section
/-!
SUPPORT. Every operation of Machine/Plan.lean keeps the shell, and canonical maps stay canonical.
-/

namespace Sys2Proof.Machine

variable {s0 : State}

theorem planShow_keeps {pl s} (h : Keeps s0 s) : Keeps s0 (planShow pl s) := by
  unfold planShow
  dsimp only
  exact (State.setFld_keeps
      (State.setFld_keeps
        (State.setFld_keeps
          (State.setFld_keeps
            (State.setFld_keeps
              (State.setFld_keeps
                (State.setFld_keeps
                  (State.setFld_keeps
                    (State.setFld_keeps
                      (State.setFld_keeps (State.setFld_keeps (Keeps.each (fun _ _ h1 => (State.setFld_keeps h1)) h)))))))))))).data

end Sys2Proof.Machine
end

