-- ==== Sys2Proof/Laws/KeepsSap.lean ====
section
/-!
SUPPORT. Every operation of Machine/Sap.lean keeps the shell, and canonical maps stay canonical.
-/

namespace Sys2Proof.Machine

variable {s0 : State}

theorem State.setPort_keeps {p x s} (h : Keeps s0 s) : Keeps s0 (State.setPort p x s) := by
  unfold State.setPort
  exact (Keeps.step h rfl fun c => { c with sap := SMap.wf_set _ _ c.sap })

theorem sapSetPs_keeps {p v s} (h : Keeps s0 s) : Keeps s0 (sapSetPs p v s) := by
  unfold sapSetPs
  exact (State.setFld_keeps h)

theorem sapStop_keeps {p s} (h : Keeps s0 s) : Keeps s0 (sapStop p s) := by
  unfold sapStop
  dsimp only
  exact (State.setFld_keeps
      (State.setFld_keeps
        (State.setFld_keeps (sapSetPs_keeps (State.setXing_keeps (State.setXing_keeps (State.setPort_keeps h)))))))

theorem sapWait_keeps {p s} (h : Keeps s0 s) : Keeps s0 (sapWait p s) := by
  unfold sapWait
  exact (Keeps.eachOf (fun _ _ h1 => (State.produce_keeps h1)) h)

theorem sapStart_keeps {p sense s} (h : Keeps s0 s) : Keeps s0 (sapStart p sense s) := by
  unfold sapStart
  dsimp only
  exact (State.setFld_keeps
      (State.setFld_keeps
        (State.setFld_keeps (sapSetPs_keeps (State.setXing_keeps (State.setXing_keeps (State.setPort_keeps h)))))))

theorem sapSendZero_keeps {p s} (h : Keeps s0 s) : Keeps s0 (sapSendZero p s) := by
  unfold sapSendZero
  dsimp only
  exact (State.setPort_keeps h)

theorem sapSend_keeps {p live s} (h : Keeps s0 s) : Keeps s0 (sapSend p live s) := by
  unfold sapSend
  dsimp only
  exact (State.setPort_keeps h)

theorem sapShow_keeps {p s} (h : Keeps s0 s) : Keeps s0 (sapShow p s) := by
  unfold sapShow
  dsimp only
  exact (Keeps.branch
      (State.setOn_keeps (State.setOn_keeps h))
      (fun h1 => (Keeps.when (fun _ h2 => (State.raise_keeps h2)) (sapSetPs_keeps h1))))

theorem sapEvent_keeps {p tx log s} (h : Keeps s0 s) : Keeps s0 (sapEvent p tx log s) := by
  unfold sapEvent
  dsimp only
  exact (sapShow_keeps (Keeps.when (fun _ h1 => (State.report_keeps h1)) (State.raise_keeps (State.setPort_keeps h))))

theorem sapTxTick_keeps {p s} (h : Keeps s0 s) : Keeps s0 (sapTxTick p s) := by
  unfold sapTxTick
  dsimp only
  exact (Keeps.share (xingMake_keeps h) fun h1 =>
      (Keeps.ite
        (Keeps.when (fun _ h4 => (sapSendZero_keeps h4)) h)
        (Keeps.ite
          h
          (Keeps.ite
            (Keeps.eachOf (fun _ _ h8 => (sapSend_keeps h8)) h1)
            (Keeps.eachOf
              (fun _ _ h9 => (Keeps.ite (sapEvent_keeps (State.bump_keeps (State.setXing_keeps h9))) (State.setXing_keeps h9)))
              h1)))))

theorem sapHeld_keeps {p k holds w s} (h : Keeps s0 s) : Keeps s0 (sapHeld p k holds w s).2 := by
  unfold sapHeld
  dsimp only
  exact (Keeps.ite_2 h (State.setPort_keeps h))

theorem sapRxTick_keeps {p s} (h : Keeps s0 s) : Keeps s0 (sapRxTick p s) := by
  unfold sapRxTick
  dsimp only
  exact (Keeps.ite
      (Keeps.eachOf (fun _ _ h3 => (State.produce_keeps h3)) (Keeps.when (fun _ h4 => (State.setXing_keeps h4)) h))
      (State.setXing_keeps
        (State.setPort_keeps
          (Keeps.eachOf
            (fun _ _ h5 => (State.produce_keeps (sapHeld_keeps (xingValue_keeps h5))))
            (State.setPort_keeps
              (Keeps.branchR
                (State.setXing_keeps (Keeps.ite_2 (State.skipFree_keeps h) h))
                (fun h7 => (sapEvent_keeps (State.bump_keeps h7)))))))))

theorem sapRate_keeps {p s} (h : Keeps s0 s) : Keeps s0 (sapRate p s) := by
  unfold sapRate
  dsimp only
  exact (Keeps.ite h (State.post_keeps (State.setPort_keeps (Keeps.when (fun _ h2 => (State.skipFree_keeps h2)) h))))

theorem sapReturn_keeps {p s} (h : Keeps s0 s) : Keeps s0 (sapReturn p s) := by
  unfold sapReturn
  dsimp only
  exact (Keeps.ite
      h
      (Keeps.ite
        (Keeps.ite (sapShow_keeps (sapSetPs_keeps (State.setPort_keeps h))) h)
        (Keeps.ite
          h
          (sapShow_keeps
            (State.setPort_keeps
              (Keeps.when (fun _ h6 => (State.setXing_keeps h6)) (Keeps.when (fun _ h7 => (State.setXing_keeps h7)) h)))))))

theorem sapConserve_keeps {p log s} (h : Keeps s0 s) : Keeps s0 (sapConserve p log s) := by
  unfold sapConserve
  dsimp only
  exact (Keeps.share (State.setPort_keeps (Keeps.when (fun _ h1 => (State.report_keeps h1)) h)) fun h2 =>
      (Keeps.ite (sapSetPs_keeps h2) (sapEvent_keeps (sapEvent_keeps h2))))

theorem sapCross_keeps {p s} (h : Keeps s0 s) : Keeps s0 (sapCross p s) := by
  unfold sapCross
  exact (achShow_keeps (achShow_keeps (State.setXing_keeps (State.setXing_keeps h))))

theorem sapDrive_keeps {p s} (h : Keeps s0 s) : Keeps s0 (sapDrive p s) := by
  unfold sapDrive
  dsimp only
  exact (sapShow_keeps (sapSetPs_keeps (State.setPort_keeps (sapCross_keeps (State.setFld_keeps h)))))

theorem sapDriveFrom_keeps {p m s} (h : Keeps s0 s) : Keeps s0 (sapDriveFrom p m s) := by
  unfold sapDriveFrom
  dsimp only
  exact (Keeps.ite (sapDrive_keeps h) (State.setPort_keeps h))

theorem sapDivider_keeps {p m s} (h : Keeps s0 s) : Keeps s0 (sapDivider p m s) := by
  unfold sapDivider
  dsimp only
  exact (Keeps.when (fun _ h1 => h1.data) h)

theorem sapRun_keeps {p s} (h : Keeps s0 s) : Keeps s0 (sapRun p s) := by
  unfold sapRun
  dsimp only
  exact (sapDivider_keeps
      (Keeps.when
        (fun _ h1 => (sapDriveFrom_keeps h1))
        (Keeps.when
          (fun _ h2 => (sapConserve_keeps h2))
          (sapRate_keeps (sapReturn_keeps (State.setXing_keeps (State.setXing_keeps (sapTxTick_keeps (sapRxTick_keeps h)))))))))

theorem sapTick_keeps {s} (h : Keeps s0 s) : Keeps s0 (sapTick s) := by
  unfold sapTick
  exact (Keeps.each
      (fun _ _ h1 =>
        (Keeps.ite
          h1
          (Keeps.ite
            (Keeps.ite h1 (sapStop_keeps h1))
            (Keeps.ite (Keeps.ite (sapWait_keeps h1) (sapStart_keeps h1)) (sapRun_keeps h1)))))
      h)

theorem sapMiscount_keeps {p s} (h : Keeps s0 s) : Keeps s0 (sapMiscount p s) := by
  unfold sapMiscount
  dsimp only
  exact (State.setPort_keeps h)

theorem sapPress_keeps {old s} (h : Keeps s0 s) : Keeps s0 (sapPress old s) := by
  unfold sapPress
  dsimp only
  exact (Keeps.each
      (fun _ _ h1 =>
        (Keeps.share (sapStop_keeps h1) fun h2 =>
          (Keeps.ite (Keeps.ite h2 h1) (Keeps.ite (Keeps.ite h1 (State.setXing_keeps h1)) (Keeps.ite h2 (sapStart_keeps h1))))))
      h)

theorem sapBadFrame_keeps {p s} (h : Keeps s0 s) : Keeps s0 (sapBadFrame p s) := by
  unfold sapBadFrame
  dsimp only
  exact (State.setXing_keeps (State.setPort_keeps (State.raise_keeps (State.bump_keeps h))))

theorem sapRestart_keeps {p s} (h : Keeps s0 s) : Keeps s0 (sapRestart p s) := by
  unfold sapRestart
  dsimp only
  exact (Keeps.ite (sapStart_keeps h) h)

theorem sapQualified_keeps {p s} (h : Keeps s0 s) : Keeps s0 (sapQualified p s) := by
  unfold sapQualified
  dsimp only
  exact (sapSetPs_keeps (sapCross_keeps (State.setPort_keeps h)))

theorem sapTxRequest_keeps {p s} (h : Keeps s0 s) : Keeps s0 (sapTxRequest p s) := by
  unfold sapTxRequest
  dsimp only
  exact (Keeps.ite
      h
      (Keeps.ite
        (sapSendZero_keeps h)
        (Keeps.ite
          (sapSend_keeps h)
          (by
            split
            · exact (sapSend_keeps (State.setXing_keeps h))
            · exact (sapSend_keeps (sapEvent_keeps (State.bump_keeps h)))))))

theorem execSapTxFrameRequest_keeps {p s} (h : Keeps s0 s) : KeepsO s0 (execSapTxFrameRequest p s) := by
  unfold execSapTxFrameRequest
  exact (KeepsO.ticking (KeepsO.next (sapTxRequest_keeps h)) h)

theorem sapHand_keeps {p f s} (h : Keeps s0 s) : Keeps s0 (sapHand p f s) := by
  unfold sapHand
  dsimp only
  exact (Keeps.share (State.setXing_keeps h) fun h1 =>
      (Keeps.ite (State.setPort_keeps h1) (sapEvent_keeps (State.bump_keeps (State.setPort_keeps h1)))))

theorem sapRampEnd_keeps {p tx s} (h : Keeps s0 s) : Keeps s0 (sapRampEnd p tx s) := by
  unfold sapRampEnd
  dsimp only
  exact (Keeps.ite (sapShow_keeps (State.setPort_keeps h)) h)

theorem sapSenseEnd_keeps {p edges s} (h : Keeps s0 s) : Keeps s0 (sapSenseEnd p edges s) := by
  unfold sapSenseEnd
  dsimp only
  exact (Keeps.ite
      h
      (Keeps.ite
        (sapSetPs_keeps (State.setFld_keeps h))
        (Keeps.ite
          (State.report_keeps (State.raise_keeps (State.bump_keeps (sapSetPs_keeps (State.setPort_keeps h)))))
          (sapDriveFrom_keeps h))))

theorem execSapSenseEnd_keeps {p edges s} (h : Keeps s0 s) : KeepsO s0 (execSapSenseEnd p edges s) := by
  unfold execSapSenseEnd
  exact (KeepsO.ticking (KeepsO.next (sapSenseEnd_keeps h)) h)

theorem sapLose_keeps {p s} (h : Keeps s0 s) : Keeps s0 (sapLose p s) := by
  unfold sapLose
  dsimp only
  exact (State.setPort_keeps (sapEvent_keeps (sapEvent_keeps h)))

theorem sapClockLoss_keeps {p s} (h : Keeps s0 s) : Keeps s0 (sapClockLoss p s) := by
  unfold sapClockLoss
  dsimp only
  exact (Keeps.ite h (sapLose_keeps (State.report_keeps (State.raise_keeps (State.bump_keeps h)))))

theorem sapFrame_keeps {p bits period line s} (h : Keeps s0 s) : Keeps s0 (sapFrame p bits period line s) := by
  unfold sapFrame
  dsimp only
  exact (Keeps.share (State.setPort_keeps h) fun h1 =>
      (Keeps.share (sapQualified_keeps h1) fun h2 =>
        (Keeps.ite
          h
          (Keeps.ite
            (State.setPort_keeps (State.setXing_keeps h))
            (Keeps.ite
              (Keeps.ite h2 (sapSetPs_keeps h1))
              (Keeps.ite
                (Keeps.ite h2 h1)
                (Keeps.ite
                  (sapHand_keeps h1)
                  (Keeps.branch
                    (sapBadFrame_keeps h1)
                    (fun h13 =>
                      (Keeps.ite
                        (sapSetPs_keeps (State.report_keeps (State.setPort_keeps h13)))
                        (sapLose_keeps (State.report_keeps h13))))))))))))

theorem execSapFrame_keeps {p bits period line s} (h : Keeps s0 s) : KeepsO s0 (execSapFrame p bits period line s) := by
  unfold execSapFrame
  exact (KeepsO.ticking (KeepsO.next (sapFrame_keeps h)) h)

theorem execSapClockLoss_keeps {p s} (h : Keeps s0 s) : KeepsO s0 (execSapClockLoss p s) := by
  unfold execSapClockLoss
  exact (KeepsO.ticking (KeepsO.next (sapClockLoss_keeps h)) h)

theorem sapFadeEnd_keeps {p tx s} (h : Keeps s0 s) : Keeps s0 (sapFadeEnd p tx s) := by
  unfold sapFadeEnd
  dsimp only
  exact (Keeps.ite (sapShow_keeps (State.setPort_keeps h)) h)

theorem execSapFadeEnd_keeps {p tx s} (h : Keeps s0 s) : KeepsO s0 (execSapFadeEnd p tx s) := by
  unfold execSapFadeEnd
  exact (KeepsO.ticking (KeepsO.next (sapFadeEnd_keeps h)) h)

theorem execSapRampEnd_keeps {p tx s} (h : Keeps s0 s) : KeepsO s0 (execSapRampEnd p tx s) := by
  unfold execSapRampEnd
  exact (KeepsO.ticking (KeepsO.next (sapRampEnd_keeps h)) h)

theorem execSapRestart_keeps {p s} (h : Keeps s0 s) : KeepsO s0 (execSapRestart p s) := by
  unfold execSapRestart
  exact (KeepsO.heard (KeepsO.next (sapRestart_keeps h)) h)

end Sys2Proof.Machine
end

