-- ==== Sys2Proof/Laws/KeepsSpd.lean ====
section
/-!
SUPPORT. Every operation of Machine/Spd.lean keeps the shell, and canonical maps stay canonical.
-/

namespace Sys2Proof.Machine

variable {s0 : State}

theorem spdoOut_keeps {n ws s} (h : Keeps s0 s) : Keeps s0 (spdoOut n ws s) := by
  unfold spdoOut
  dsimp only
  exact h.data

theorem spdoRun_keeps {n s} (h : Keeps s0 s) : Keeps s0 (spdoRun n s).2 := by
  unfold spdoRun
  dsimp only
  exact (Keeps.share (xingMake_keeps h) fun h1 =>
      (Keeps.ite_2
        (spdoOut_keeps h)
        (by
          split
          · exact (spdoOut_keeps h1)
          · exact h1)))

theorem spdoTick_keeps {s} (h : Keeps s0 s) : Keeps s0 (spdoTick s) := by
  unfold spdoTick
  dsimp only
  exact (Keeps.ite h.data (Keeps.data (Keeps.foldl_2 (fun _ _ h3 => (Keeps.ite_2 h3 (spdoRun_keeps h3))) h)))

theorem spdiSetPs_keeps {n v s} (h : Keeps s0 s) : Keeps s0 (spdiSetPs n v s) := by
  unfold spdiSetPs
  exact (State.setFld_keeps h)

theorem State.setSpdi_keeps {n x s} (h : Keeps s0 s) : Keeps s0 (State.setSpdi n x s) := by
  unfold State.setSpdi
  dsimp only
  exact h.data

theorem spdiOff_keeps {n s} (h : Keeps s0 s) : Keeps s0 (spdiOff n s) := by
  unfold spdiOff
  exact (State.setXing_keeps (State.setFld_keeps (State.setFld_keeps (spdiSetPs_keeps (State.setSpdi_keeps h)))))

theorem spdiSearch_keeps {n s} (h : Keeps s0 s) : Keeps s0 (spdiSearch n s) := by
  unfold spdiSearch
  dsimp only
  exact (achShow_keeps (State.setXing_keeps (State.setFld_keeps (spdiSetPs_keeps (State.setSpdi_keeps h)))))

theorem spdiEvent_keeps {n lost s} (h : Keeps s0 s) : Keeps s0 (spdiEvent n lost s) := by
  unfold spdiEvent
  dsimp only
  exact (Keeps.ite (spdiSetPs_keeps (State.setSpdi_keeps h)) (Keeps.ite (State.setSpdi_keeps h) h))

theorem spdiHeld_keeps {n k holds w s} (h : Keeps s0 s) : Keeps s0 (spdiHeld n k holds w s).2 := by
  unfold spdiHeld
  dsimp only
  exact (Keeps.ite_2 h (State.setSpdi_keeps h))

theorem spdiValues_keeps {n fs c s} (h : Keeps s0 s) : Keeps s0 (spdiValues n fs c s) := by
  unfold spdiValues
  dsimp only
  exact (Keeps.when
      (fun _ h1 => (State.setSpdi_keeps h1))
      (Keeps.each
        (fun _ _ h2 => (Keeps.ite (State.produce_keeps (spdiHeld_keeps (xingValue_keeps h2))) (State.produce_keeps h2)))
        h))

theorem spdiRate_keeps {n s} (h : Keeps s0 s) : Keeps s0 (spdiRate n s) := by
  unfold spdiRate
  dsimp only
  exact (Keeps.ite h (State.post_keeps (State.setSpdi_keeps (Keeps.when (fun _ h2 => (State.skipFree_keeps h2)) h))))

theorem spdiRamp_keeps {n fade s} (h : Keeps s0 s) : Keeps s0 (spdiRamp n fade s) := by
  unfold spdiRamp
  dsimp only
  exact (Keeps.share (State.setSpdi_keeps h) fun h1 => (Keeps.ite (State.raise_keeps (spdiSetPs_keeps h1)) (spdiSetPs_keeps h1)))

theorem spdiAdvance_keeps {n s} (h : Keeps s0 s) : Keeps s0 (spdiAdvance n s) := by
  unfold spdiAdvance
  dsimp only
  exact (Keeps.share (spdiSearch_keeps (Keeps.when (fun _ h1 => (State.setFld_keeps h1)) h)) fun h2 =>
      (Keeps.share (spdiRamp_keeps (Keeps.when (fun _ h3 => (State.setFld_keeps h3)) h)) fun h4 =>
        (Keeps.share (Keeps.when (fun _ h5 => (State.setFld_keeps h5)) h) fun h6 =>
          (Keeps.ite
            (Keeps.ite (Keeps.ite h4 (spdiSetPs_keeps h6)) h6)
            (Keeps.ite
              (Keeps.ite h4 h6)
              (Keeps.ite
                (Keeps.ite (Keeps.ite h4 (spdiSetPs_keeps h6)) h6)
                (Keeps.ite
                  (Keeps.ite (State.raise_keeps (spdiSetPs_keeps (State.setSpdi_keeps h6))) h6)
                  (Keeps.ite
                    (Keeps.ite h6 (Keeps.ite h2 (State.setSpdi_keeps (spdiSetPs_keeps h6))))
                    (Keeps.ite (Keeps.ite h2 (Keeps.ite (spdiRamp_keeps (State.setXing_keeps h6)) h6)) h6)))))))))

theorem spdiConserve_keeps {n log s} (h : Keeps s0 s) : Keeps s0 (spdiConserve n log s) := by
  unfold spdiConserve
  exact (Keeps.ite h (Keeps.when (fun _ h2 => (State.report_keeps h2)) (spdiSetPs_keeps h)))

theorem spdiRun_keeps {n s} (h : Keeps s0 s) : Keeps s0 (spdiRun n s) := by
  unfold spdiRun
  dsimp only
  exact (Keeps.when
      (fun _ h1 => (spdiConserve_keeps h1))
      (spdiRate_keeps
        (spdiAdvance_keeps
          (State.setXing_keeps
            (spdiValues_keeps (State.setSpdi_keeps (Keeps.when (fun _ h2 => (spdiEvent_keeps h2)) (State.setXing_keeps h))))))))

theorem spdiTick_keeps {s} (h : Keeps s0 s) : Keeps s0 (spdiTick s) := by
  unfold spdiTick
  exact (Keeps.each
      (fun _ _ h1 =>
        (Keeps.ite h1 (Keeps.ite (Keeps.ite h1 (spdiOff_keeps h1)) (Keeps.ite (spdiSearch_keeps h1) (spdiRun_keeps h1)))))
      h)

theorem spdiMiscount_keeps {n s} (h : Keeps s0 s) : Keeps s0 (spdiMiscount n s) := by
  unfold spdiMiscount
  dsimp only
  exact (State.setSpdi_keeps h)

theorem State.setBit_keeps {f k b s} (h : Keeps s0 s) : Keeps s0 (State.setBit f k b s) := by
  unfold State.setBit
  exact (State.setFld_keeps h)

theorem State.setMic_keeps {k x s} (h : Keeps s0 s) : Keeps s0 (State.setMic k x s) := by
  unfold State.setMic
  dsimp only
  exact h.data

theorem micValue_keeps {k tag wt s} (h : Keeps s0 s) : Keeps s0 (micValue k tag wt s) := by
  unfold micValue
  exact (audValue_keeps (audPush_keeps h))

theorem micRun_keeps {k s} (h : Keeps s0 s) : Keeps s0 (micRun k s) := by
  unfold micRun
  dsimp only
  exact (Keeps.share (micValue_keeps h) fun h1 =>
      (Keeps.ite
        (audFixed_keeps h)
        (Keeps.ite
          (State.setMic_keeps h1)
          (Keeps.ite
            (micValue_keeps h)
            (Keeps.ite (State.setMic_keeps h1) (Keeps.ite (audFixed_keeps h) (State.setMic_keeps (audFixed_keeps h))))))))

theorem micTake_keeps {k lines s} (h : Keeps s0 s) : Keeps s0 (micTake k lines s) := by
  unfold micTake
  dsimp only
  exact (State.setMic_keeps h)

theorem micTick_keeps {lines s} (h : Keeps s0 s) : Keeps s0 (micTick lines s) := by
  unfold micTick
  dsimp only
  exact (Keeps.each
      (fun _ _ h1 =>
        (Keeps.branch (State.setBit_keeps h1) (fun h2 => (Keeps.when (fun _ h3 => (micTake_keeps h3)) (micRun_keeps h2)))))
      h)

theorem pdmClkStart_keeps {c s} (h : Keeps s0 s) : Keeps s0 (pdmClkStart c s) := by
  unfold pdmClkStart
  dsimp only
  exact (Keeps.when (fun _ h1 => h1.data) h)

theorem micStaysOut_keeps {k s} (h : Keeps s0 s) : Keeps s0 (micStaysOut k s) := by
  unfold micStaysOut
  exact (State.setMic_keeps (pdmClkStart_keeps h))

theorem micRampIn_keeps {k s} (h : Keeps s0 s) : Keeps s0 (micRampIn k s) := by
  unfold micRampIn
  dsimp only
  exact (audStart_keeps (State.setMic_keeps h))

theorem micStart_keeps {k s} (h : Keeps s0 s) : Keeps s0 (micStart k s) := by
  unfold micStart
  dsimp only
  exact (Keeps.branchR (State.setMic_keeps (State.setBit_keeps (pdmClkStart_keeps h))) (fun h2 => (micRampIn_keeps h2)))

theorem micPress_keeps {old s} (h : Keeps s0 s) : Keeps s0 (micPress old s) := by
  unfold micPress
  dsimp only
  exact (Keeps.each
      (fun _ _ h1 =>
        (Keeps.ite
          (Keeps.ite h1 (Keeps.ite (micStaysOut_keeps h1) (micStart_keeps h1)))
          (Keeps.ite (Keeps.ite (State.setMic_keeps h1) (State.setMic_keeps h1)) h1)))
      h)

theorem spdoPress_keeps {old s} (h : Keeps s0 s) : Keeps s0 (spdoPress old s) := by
  unfold spdoPress
  dsimp only
  exact (Keeps.each
      (fun _ _ h1 => (Keeps.ite (spdoOut_keeps (State.setXing_keeps h1)) (Keeps.ite (State.setXing_keeps h1) h1)))
      (Keeps.ite h.data (Keeps.ite h.data h)))

theorem spdiPress_keeps {old s} (h : Keeps s0 s) : Keeps s0 (spdiPress old s) := by
  unfold spdiPress
  dsimp only
  exact (Keeps.each
      (fun _ _ h1 => (Keeps.ite h1 (Keeps.ite (spdiOff_keeps h1) (Keeps.when (fun _ h5 => (spdiSearch_keeps h5)) h1))))
      h)

theorem spdiNonAudio_keeps {n s} (h : Keeps s0 s) : Keeps s0 (spdiNonAudio n s) := by
  unfold spdiNonAudio
  dsimp only
  exact (Keeps.branchR
      (Keeps.branch (State.setSpdi_keeps h) (fun h3 => (State.raise_keeps (State.bump_keeps (State.setFld_keeps h3)))))
      (fun h2 => (spdiSetPs_keeps h2)))

theorem spdiHand_keeps {n ws s} (h : Keeps s0 s) : Keeps s0 (spdiHand n ws s) := by
  unfold spdiHand
  dsimp only
  exact (Keeps.share (State.setXing_keeps h) fun h1 =>
      (Keeps.ite (State.setSpdi_keeps h) (Keeps.ite (State.setSpdi_keeps h1) (spdiEvent_keeps (State.setSpdi_keeps h1)))))

theorem execPdmWakeEnd_keeps {k s} (h : Keeps s0 s) : KeepsO s0 (execPdmWakeEnd k s) := by
  unfold execPdmWakeEnd
  exact (KeepsO.ticking (KeepsO.next (Keeps.ite (micRampIn_keeps h) h)) h)

theorem micStuck_keeps {k s} (h : Keeps s0 s) : Keeps s0 (micStuck k s) := by
  unfold micStuck
  dsimp only
  exact (Keeps.ite h (State.report_keeps (State.raise_keeps (State.bump_keeps (State.setBit_keeps (State.setMic_keeps h))))))

theorem spdiLoss_keeps {n off s} (h : Keeps s0 s) : Keeps s0 (spdiLoss n off s) := by
  unfold spdiLoss
  dsimp only
  exact (Keeps.share (State.report_keeps (State.raise_keeps (State.bump_keeps h))) fun h1 =>
      (Keeps.ite h (Keeps.ite (spdiSearch_keeps h1) (spdiEvent_keeps h1))))

theorem spdiBlock_keeps {n s} (h : Keeps s0 s) : Keeps s0 (spdiBlock n s) := by
  unfold spdiBlock
  dsimp only
  exact (Keeps.branch
      (Keeps.when
        (fun _ h2 => (State.raise_keeps h2))
        (State.setOn_keeps (State.setOn_keeps (State.post_keeps (State.setSpdi_keeps h)))))
      (fun h1 => (Keeps.branch (qWriteSig_keeps h1) (fun h3 => (State.bump_keeps h3)))))

theorem spdiQualified_keeps {n code s} (h : Keeps s0 s) : Keeps s0 (spdiQualified n code s) := by
  unfold spdiQualified
  dsimp only
  exact (achShow_keeps (spdiSetPs_keeps (State.setSpdi_keeps (State.setXing_keeps h))))

theorem spdiWords_keeps {n wa wb s} (h : Keeps s0 s) : Keeps s0 (spdiWords n wa wb s).2 := by
  unfold spdiWords
  dsimp only
  exact (Keeps.branch_2 h (fun h1 => (Keeps.ite_2 (State.setSpdi_keeps h) (Keeps.ite_2 h h1))))

theorem spdiFrame_keeps {n f s} (h : Keeps s0 s) : Keeps s0 (spdiFrame n f s) := by
  unfold spdiFrame
  dsimp only
  exact (Keeps.share (Keeps.when
          (fun _ h1 => (spdiBlock_keeps h1))
          (Keeps.when
            (fun _ h2 => (spdiNonAudio_keeps h2))
            (State.bumpBy_keeps
              (State.bumpBy_keeps (State.setSpdi_keeps (Keeps.when (fun _ h3 => (State.setFld_keeps h3)) h)))))) fun h4 =>
      (Keeps.ite
        h
        (Keeps.ite
          (Keeps.when (fun _ h8 => (spdiQualified_keeps h8)) h4)
          (spdiAdvance_keeps (spdiHand_keeps (spdiWords_keeps h4))))))

theorem execSpdifFrame_keeps {n f s} (h : Keeps s0 s) : KeepsO s0 (execSpdifFrame n f s) := by
  unfold execSpdifFrame
  exact (KeepsO.ticking (KeepsO.next (spdiFrame_keeps h)) h)

theorem micRestart_keeps {k s} (h : Keeps s0 s) : Keeps s0 (micRestart k s) := by
  unfold micRestart
  exact (Keeps.ite h (Keeps.ite (micStart_keeps h) (State.setBit_keeps h)))

theorem spdiRestart_keeps {n s} (h : Keeps s0 s) : Keeps s0 (spdiRestart n s) := by
  unfold spdiRestart
  dsimp only
  exact (Keeps.ite (spdiSearch_keeps h) h)

theorem pdmWake_keeps {s} (h : Keeps s0 s) : Keeps s0 (pdmWake s) := by
  unfold pdmWake
  dsimp only
  exact (Keeps.when (fun _ h1 => h1.data) (Keeps.when (fun _ h2 => h2.data) h))

theorem execPdmStuck_keeps {k s} (h : Keeps s0 s) : KeepsO s0 (execPdmStuck k s) := by
  unfold execPdmStuck
  exact (KeepsO.ticking (KeepsO.next (micStuck_keeps h)) h)

theorem execPdmRestart_keeps {k s} (h : Keeps s0 s) : KeepsO s0 (execPdmRestart k s) := by
  unfold execPdmRestart
  exact (KeepsO.heard (KeepsO.next (micRestart_keeps h)) h)

theorem execSpdifClockLoss_keeps {n off s} (h : Keeps s0 s) : KeepsO s0 (execSpdifClockLoss n off s) := by
  unfold execSpdifClockLoss
  exact (KeepsO.ticking (KeepsO.next (spdiLoss_keeps h)) h)

theorem execSpdifRestart_keeps {n s} (h : Keeps s0 s) : KeepsO s0 (execSpdifRestart n s) := by
  unfold execSpdifRestart
  exact (KeepsO.heard (KeepsO.next (spdiRestart_keeps h)) h)

end Sys2Proof.Machine
end

