-- ==== Sys2Proof/Laws/KeepsSvc.lean ====
section
/-!
SUPPORT. Every operation of Machine/Svc.lean keeps the shell, and canonical maps stay canonical.
-/

namespace Sys2Proof.Machine

variable {s0 : State}

theorem svcSend_keeps {r s} (h : Keeps s0 s) : Keeps s0 (svcSend r s) := by
  unfold svcSend
  dsimp only
  exact h.data

theorem svcTakeOut_keeps {conv s} (h : Keeps s0 s) : Keeps s0 (svcTakeOut conv s) := by
  unfold svcTakeOut
  dsimp only
  exact (Keeps.ite h.data h.data)

theorem svcDeclare_keeps {v s} (h : Keeps s0 s) : Keeps s0 (svcDeclare v s) := by
  unfold svcDeclare
  dsimp only
  exact (Keeps.share h.data fun h1 =>
      (State.note_keeps
        (Keeps.branch
          (svcTakeOut_keeps h1)
          (fun h2 => (Keeps.ite (svcTakeOut_keeps h1) (Keeps.ite (svcTakeOut_keeps h2).data h.data))))))

theorem svcCheck_keeps {a b s} (h : Keeps s0 s) : Keeps s0 (svcCheck a b s) := by
  unfold svcCheck
  dsimp only
  exact (Keeps.branch
      (Keeps.when
        (fun _ h2 => (svcSend_keeps h2))
        (Keeps.when (fun _ h3 => (svcSend_keeps h3)) (State.setFld_keeps (State.setFld_keeps h))))
      (fun h1 =>
        (Keeps.ite h1.data (Keeps.branchR (State.raise_keeps (State.bump_keeps h1)).data (fun h7 => (svcDeclare_keeps h7))))))

theorem svcHold_keeps {conv slot kind idx ch left key s} (h : Keeps s0 s) : Keeps s0 (svcHold conv slot kind idx ch left key s) :=
    by
  unfold svcHold
  dsimp only
  exact (svcSend_keeps h.data)

theorem svcRotPast_keeps {conv i s} (h : Keeps s0 s) : Keeps s0 (svcRotPast conv i s) := by
  unfold svcRotPast
  dsimp only
  exact (Keeps.ite h.data h.data)

theorem svcSlotOut_keeps {conv slot s} (h : Keeps s0 s) : Keeps s0 (svcSlotOut conv slot s) := by
  unfold svcSlotOut
  dsimp only
  exact (Keeps.ite (Keeps.ite (svcHold_keeps h) h) (Keeps.ite (svcRotPast_keeps (svcHold_keeps h)) h))

theorem svcShow_keeps {s} (h : Keeps s0 s) : Keeps s0 (svcShow s) := by
  unfold svcShow
  dsimp only
  exact (State.setOn_keeps (State.setFld_keeps (State.setFld_keeps (State.setFld_keeps h))))

theorem svcTick_keeps {s} (h : Keeps s0 s) : Keeps s0 (svcTick s) := by
  unfold svcTick
  dsimp only
  exact (Keeps.share (Keeps.when (fun _ h1 => (State.setFld_keeps h1.data)) h) fun h2 =>
      (Keeps.ite (svcShow_keeps h2) (svcShow_keeps h2.data)))

theorem svcShowSlots_keeps {s} (h : Keeps s0 s) : Keeps s0 (svcShowSlots s) := by
  unfold svcShowSlots
  dsimp only
  exact (State.setInt_keeps
      (State.setInt_keeps
        (State.setInt_keeps
          (State.setInt_keeps (Keeps.each (fun _ _ h1 => (Keeps.each (fun _ _ h2 => (State.setFld_keeps h2)) h1)) h)))))

theorem svcPress_keeps {old s} (h : Keeps s0 s) : Keeps s0 (svcPress old s) := by
  unfold svcPress
  dsimp only
  exact (svcShow_keeps (svcShowSlots_keeps (Keeps.each (fun _ _ h1 => (Keeps.ite h1 h1.data)) h)))

theorem svcDeliverCheck_keeps {r s} (h : Keeps s0 s) : Keeps s0 (svcDeliverCheck r s) := by
  unfold svcDeliverCheck
  exact (State.post_keeps h)

theorem svcRestore_keeps {s} (h : Keeps s0 s) : Keeps s0 (svcRestore s) := by
  unfold svcRestore
  dsimp only
  exact (Keeps.ite
      h
      (svcShow_keeps
        (Keeps.when
          (fun _ h2 => (State.startTest_keeps h2))
          (Keeps.when (fun _ h3 => (State.startTest_keeps h3)) (Keeps.when (fun _ h4 => (State.startTest_keeps h4)) h.data)))))

theorem execSvcRestore_keeps {s} (h : Keeps s0 s) : KeepsO s0 (execSvcRestore s) := by
  unfold execSvcRestore
  exact (KeepsO.heard (KeepsO.next (svcRestore_keeps h)) h)

theorem svcKeep_keeps {key v s} (h : Keeps s0 s) : Keeps s0 (svcKeep key v s) := by
  unfold svcKeep
  dsimp only
  exact h.data

theorem svcVrefxLoss_keeps {s} (h : Keeps s0 s) : Keeps s0 (svcVrefxLoss s) := by
  unfold svcVrefxLoss
  dsimp only
  exact (Keeps.ite (State.note_keeps (State.setFld_keeps h.data)) h.data)

theorem svcNoted_keeps {s} (h : Keeps s0 s) : Keeps s0 (svcNoted s) := by
  unfold svcNoted
  dsimp only
  exact (svcShow_keeps h.data)

theorem execCheckSlot_keeps {a b s} (h : Keeps s0 s) : KeepsO s0 (execCheckSlot a b s) := by
  unfold execCheckSlot
  exact (KeepsO.ticking (KeepsO.next (svcCheck_keeps h)) h)

theorem svcRestoreEnd_keeps {k s} (h : Keeps s0 s) : Keeps s0 (svcRestoreEnd k s) := by
  unfold svcRestoreEnd
  dsimp only
  exact (Keeps.ite
      (Keeps.ite (svcShow_keeps h) (svcShow_keeps (State.report_keeps (State.bump_keeps h))))
      (Keeps.ite h.data (Keeps.ite h.data h.data)))

theorem svcConvert_keeps {conv slot kind idx ch ref left guard key raw s} (h : Keeps s0 s) : Keeps s0 (svcConvert conv slot kind
    idx ch ref left guard key raw s) := by
  unfold svcConvert
  dsimp only
  exact (svcSend_keeps
      (Keeps.when
        (fun _ h1 => (State.bump_keeps h1))
        (by
          split
          · exact h
          · exact (svcKeep_keeps h).data)))

theorem svcRotate_keeps {conv slot raw s} (h : Keeps s0 s) : Keeps s0 (svcRotate conv slot raw s) := by
  unfold svcRotate
  dsimp only
  exact (svcRotPast_keeps (svcConvert_keeps h))

theorem svcDrop_keeps {s} (h : Keeps s0 s) : Keeps s0 (svcDrop s) := by
  unfold svcDrop
  exact (State.raise_keeps (State.bump_keeps h))

theorem svcAsk_keeps {cyc conv ch ref left s} (h : Keeps s0 s) : Keeps s0 (svcAsk cyc conv ch ref left s) := by
  unfold svcAsk
  dsimp only
  exact (Keeps.share (Keeps.ite h h.data) fun h2 => (Keeps.ite (Keeps.ite h2.data h2.data) (svcDrop_keeps h2)))

theorem svcUnaccept_keeps {conv s} (h : Keeps s0 s) : Keeps s0 (svcUnaccept conv s) := by
  unfold svcUnaccept
  dsimp only
  exact (svcDrop_keeps h.data)

theorem svcUrgent_keeps {rank cyc conv ch ref left s} (h : Keeps s0 s) : Keeps s0 (svcUrgent rank cyc conv ch ref left s) := by
  unfold svcUrgent
  dsimp only
  exact (by
      split
      · exact (svcAsk_keeps h).data
      · exact (Keeps.ite (svcDrop_keeps h) (svcAsk_keeps (Keeps.ite (svcUnaccept_keeps h) h)).data))

theorem svcDeliverEntry_keeps {c r s} (h : Keeps s0 s) : Keeps s0 (svcDeliverEntry c r s) := by
  unfold svcDeliverEntry
  dsimp only
  exact (Keeps.each
      (fun _ _ h1 => (Keeps.ite (ctlInput_keeps (Keeps.when (fun _ h3 => (ctlStart_keeps h3)) h1)) h1))
      (State.post_keeps h))

theorem svcDeliverUrgent_keeps {r s} (h : Keeps s0 s) : Keeps s0 (svcDeliverUrgent r s) := by
  unfold svcDeliverUrgent
  exact (State.raise_keeps (State.bump_keeps (State.post_keeps h)))

theorem svcDeliver_keeps {r s} (h : Keeps s0 s) : Keeps s0 (svcDeliver r s) := by
  unfold svcDeliver
  exact (Keeps.ite
      (svcDeliverEntry_keeps h)
      (Keeps.ite (svcDeliverUrgent_keeps h) (Keeps.ite (State.post_keeps h) (svcDeliverCheck_keeps h))))

theorem svcSlot_keeps {conv slot raw s} (h : Keeps s0 s) : Keeps s0 (svcSlot conv slot raw s) := by
  unfold svcSlot
  dsimp only
  exact (Keeps.share (svcRotate_keeps h) fun h1 =>
      (Keeps.ite
        (Keeps.ite (svcConvert_keeps h) h)
        (by
          split
          · exact (Keeps.ite (svcConvert_keeps h) h)
          · exact (by
                split
                · exact (Keeps.ite (svcConvert_keeps h) h1)
                · exact h1))))

theorem execSvcConversion_keeps {conv slot code s} (h : Keeps s0 s) : KeepsO s0 (execSvcConversion conv slot code s) := by
  unfold execSvcConversion
  exact (KeepsO.ticking (KeepsO.next (Keeps.ite h (Keeps.ite (svcSlotOut_keeps h) (svcSlot_keeps h)))) h)

theorem execUrgentRequest_keeps {rank cyc conv ch form s} (h : Keeps s0 s) : KeepsO s0 (execUrgentRequest rank cyc conv ch form s)
    := by
  unfold execUrgentRequest
  exact (KeepsO.next (Keeps.ite h (svcUrgent_keeps (State.land_keeps h))))

theorem execVrefxLoss_keeps {s} (h : Keeps s0 s) : KeepsO s0 (execVrefxLoss s) := by
  unfold execVrefxLoss
  exact (KeepsO.ticking (KeepsO.next (svcVrefxLoss_keeps h)) h)

theorem svcSettled_keeps {r s} (h : Keeps s0 s) : Keeps s0 (svcSettled r s) := by
  unfold svcSettled
  dsimp only
  exact (Keeps.ite
      h
      (Keeps.ite
        (State.setFld_keeps h)
        (Keeps.ite (State.setFld_keeps h) (Keeps.ite (State.setFld_keeps h.data) (State.setFld_keeps h)))))

theorem execReferenceSettled_keeps {ref s} (h : Keeps s0 s) : KeepsO s0 (execReferenceSettled ref s) := by
  unfold execReferenceSettled
  exact (KeepsO.ticking (KeepsO.next (svcSettled_keeps h)) h)

end Sys2Proof.Machine
end

