-- ==== Sys2Proof/Laws/KeepsMbox.lean ====
section
/-!
SUPPORT. Every operation of Machine/Mbox.lean keeps the shell, and canonical maps stay canonical.
-/

namespace Sys2Proof.Machine

variable {s0 : State}

theorem mboxAck_keeps {s} (h : Keeps s0 s) : Keeps s0 (mboxAck s) := by
  unfold mboxAck
  exact (State.setFld_keeps h)

theorem execMboxAck_keeps {s} (h : Keeps s0 s) : KeepsO s0 (execMboxAck s) := by
  unfold execMboxAck
  exact (KeepsO.heard (KeepsO.next (mboxAck_keeps h)) h)

theorem mboxLost_keeps {s} (h : Keeps s0 s) : Keeps s0 (mboxLost s) := by
  unfold mboxLost
  exact (State.bump_keeps h)

theorem mboxLose_keeps {s} (h : Keeps s0 s) : Keeps s0 (mboxLose s) := by
  unfold mboxLose
  dsimp only
  exact (State.raise_keeps (State.setFld_keeps (State.setFld_keeps (Keeps.when (fun _ h1 => (mboxLost_keeps h1)) h))))

theorem mboxIgnored_keeps {s} (h : Keeps s0 s) : Keeps s0 (mboxIgnored s) := by
  unfold mboxIgnored
  exact (State.bump_keeps h)

theorem mboxSend_keeps {n s} (h : Keeps s0 s) : Keeps s0 (mboxSend n s) := by
  unfold mboxSend
  exact (Keeps.ite (mboxIgnored_keeps h) (Keeps.ite h (Keeps.ite (mboxLost_keeps h) (State.setFld_keeps (State.setFld_keeps h)))))

theorem execMboxSend_keeps {len s} (h : Keeps s0 s) : KeepsO s0 (execMboxSend len s) := by
  unfold execMboxSend
  exact (KeepsO.heard (KeepsO.next (mboxSend_keeps h)) h)

theorem execMboxPost_keeps {words s} (h : Keeps s0 s) : KeepsO s0 (execMboxPost words s) := by
  unfold execMboxPost
  dsimp only
  exact (KeepsO.ticking
      (KeepsO.next
        (Keeps.when
          (fun _ h1 =>
            (State.raise_keeps (State.setFld_keeps (State.setFld_keeps (Keeps.each (fun _ _ h2 => (State.setWord_keeps h2)) h1)))))
          h))
      h)

theorem execMboxTake_keeps {s} (h : Keeps s0 s) : KeepsO s0 (execMboxTake s) := by
  unfold execMboxTake
  exact (KeepsO.ticking (KeepsO.next (Keeps.when (fun _ h1 => (State.raise_keeps (State.setFld_keeps h1))) h)) h)

theorem execMcReady_keeps {s} (h : Keeps s0 s) : KeepsO s0 (execMcReady s) := by
  unfold execMcReady
  exact (KeepsO.ticking (KeepsO.next (Keeps.when (fun _ h1 => (State.raise_keeps (State.setFld_keeps h1))) h)) h)

end Sys2Proof.Machine
end

