-- ==== Sys2Proof/Laws/KeepsNvm.lean ====
section
/-!
SUPPORT. Every operation of Machine/Nvm.lean keeps the shell, and canonical maps stay canonical.
-/

namespace Sys2Proof.Machine

variable {s0 : State}

theorem jUnready_keeps {s} (h : Keeps s0 s) : Keeps s0 (jUnready s) := by
  unfold jUnready
  exact (State.setFld_keeps h)

theorem jPut_keeps {r s} (h : Keeps s0 s) : Keeps s0 (jPut r s) := by
  unfold jPut
  dsimp only
  exact h.data

theorem jSupersede_keeps {p s} (h : Keeps s0 s) : Keeps s0 (jSupersede p s) := by
  unfold jSupersede
  dsimp only
  exact h.data

theorem jWrite_keeps {typ id p body s} (h : Keeps s0 s) : Keeps s0 (jWrite typ id p body s) := by
  unfold jWrite
  dsimp only
  exact (State.setFld_keeps (jSupersede_keeps (jPut_keeps h)))

theorem bootRun_keeps {src slot key body s} (h : Keeps s0 s) : Keeps s0 (bootRun src slot key body s) := by
  unfold bootRun
  dsimp only
  exact (State.setFld_keeps
      (State.setFld_keeps
        (State.setFld_keeps
          (State.setOn_keeps (State.setFld_keeps (State.setFld_keeps (State.setFld_keeps (State.setFld_keeps h.data))))))))

theorem hostBoot_keeps {s} (h : Keeps s0 s) : Keeps s0 (hostBoot s) := by
  unfold hostBoot
  dsimp only
  exact (Keeps.share h.data fun h1 =>
      (by
        split
        · exact (bootRun_keeps h1)
        · exact (State.setFld_keeps h1)))

theorem jKeep_keeps {c s} (h : Keeps s0 s) : Keeps s0 (jKeep c s) := by
  unfold jKeep
  dsimp only
  exact h.data

theorem jBegin_keeps {c step s} (h : Keeps s0 s) : Keeps s0 (jBegin c step s) := by
  unfold jBegin
  exact (State.setFld_keeps (State.setFld_keeps (jKeep_keeps h)))

theorem jResult_keeps {r s} (h : Keeps s0 s) : Keeps s0 (jResult r s) := by
  unfold jResult
  exact (Keeps.when
      (fun _ h1 => (State.raise_keeps h1))
      (State.raise_keeps (State.post_keeps (Keeps.when (fun _ h2 => (State.bump_keeps h2)) h))))

theorem jMount_keeps {o s} (h : Keeps s0 s) : Keeps s0 (jMount o s) := by
  unfold jMount
  exact (by
      split
      · exact (jBegin_keeps h)
      · exact (jResult_keeps h))

theorem bootWait_keeps {result s} (h : Keeps s0 s) : Keeps s0 (bootWait result s) := by
  unfold bootWait
  dsimp only
  exact (Keeps.when (fun _ h1 => (State.report_keeps h1)) (State.raise_keeps (State.setFld_keeps (State.setFld_keeps h.data))))

theorem bootTick_keeps {s} (h : Keeps s0 s) : Keeps s0 (bootTick s) := by
  unfold bootTick
  dsimp only
  exact (Keeps.share (jMount_keeps h) fun h1 =>
      (Keeps.ite
        (Keeps.ite (hostBoot_keeps h) h)
        (Keeps.ite h (Keeps.ite (Keeps.ite h1.data (bootWait_keeps h1)) (Keeps.ite (Keeps.ite h.data (bootWait_keeps h)) h)))))

theorem jErase_keeps {p k s} (h : Keeps s0 s) : Keeps s0 (jErase p k s) := by
  unfold jErase
  dsimp only
  exact h.data

theorem jFree_keeps {s} (h : Keeps s0 s) : Keeps s0 (jFree s) := by
  unfold jFree
  exact (State.setFld_keeps h)

theorem jEnd_keeps {r s} (h : Keeps s0 s) : Keeps s0 (jEnd r s) := by
  unfold jEnd
  dsimp only
  exact (jResult_keeps (jFree_keeps (State.setFld_keeps (State.setFld_keeps h.data))))

theorem jMove_keeps {r p s} (h : Keeps s0 s) : Keeps s0 (jMove r p s) := by
  unfold jMove
  exact (State.bump_keeps (jWrite_keeps (jErase_keeps h)))

theorem jSettle_keeps {c s} (h : Keeps s0 s) : Keeps s0 (jSettle c s) := by
  unfold jSettle
  dsimp only
  exact (Keeps.share (jEnd_keeps h) fun h1 =>
      (Keeps.ite
        (jEnd_keeps h)
        (Keeps.ite
          (by
            split
            · exact (State.setFld_keeps (jKeep_keeps (jErase_keeps h)))
            · exact h1)
          (by
            split
            · exact (State.setFld_keeps (jKeep_keeps (jErase_keeps h)))
            · exact (by
                  split
                  · exact h1
                  · exact (jKeep_keeps (jMove_keeps h)))))))

theorem jTake_keeps {q k n s} (h : Keeps s0 s) : Keeps s0 (jTake q k n s).2 := by
  induction k generalizing n s with
  | zero => exact h
  | succ k ih =>
    unfold jTake
    split
    · exact h
    · exact .ite_2 (ih (qPass_keeps h)) (.ite_2 h (ih (qAdvance_keeps h)))

theorem jProgram_keeps {c s} (h : Keeps s0 s) : Keeps s0 (jProgram c s) := by
  unfold jProgram
  dsimp only
  exact (Keeps.when (fun _ h1 => (State.setFld_keeps h1)) (jKeep_keeps (jTake_keeps h)))

theorem nvmTick_keeps {s} (h : Keeps s0 s) : Keeps s0 (nvmTick s) := by
  unfold nvmTick
  dsimp only
  exact (by
      split
      · exact h
      · exact (Keeps.ite
            (Keeps.ite (jSettle_keeps h) (jProgram_keeps h))
            (Keeps.ite (Keeps.ite h (jKeep_keeps (qWriteBytes_keeps h))) h)))

theorem otpPush_keeps {i w s} (h : Keeps s0 s) : Keeps s0 (otpPush i w s) := by
  unfold otpPush
  dsimp only
  exact (Keeps.when (fun _ h1 => h1.data) h)

theorem jCutWrite_keeps {c p stage s} (h : Keeps s0 s) : Keeps s0 (jCutWrite c p stage s) := by
  unfold jCutWrite
  dsimp only
  exact (Keeps.ite h (Keeps.ite (jWrite_keeps h) (jPut_keeps h)))

theorem jDeletePair_keeps {t i s} (h : Keeps s0 s) : Keeps s0 (jDeletePair t i s) := by
  unfold jDeletePair
  exact (jSupersede_keeps h)

theorem jComplete_keeps {s} (h : Keeps s0 s) : Keeps s0 (jComplete s) := by
  unfold jComplete
  exact (jSupersede_keeps h)

theorem jCut_keeps {stage s} (h : Keeps s0 s) : Keeps s0 (jCut stage s) := by
  unfold jCut
  exact (by
      split
      · exact h
      · exact (Keeps.ite
            (by
              split
              · exact (jCutWrite_keeps h)
              · exact h) (Keeps.ite h (Keeps.ite (jDeletePair_keeps h) (Keeps.ite (jComplete_keeps h) h)))))

theorem nvmCollapse_keeps {stage s} (h : Keeps s0 s) : Keeps s0 (nvmCollapse stage s) := by
  unfold nvmCollapse
  dsimp only
  exact (jCut_keeps
      (by
        split
        · exact (otpPush_keeps h)
        · exact h)).data

theorem otpResult_keeps {r s} (h : Keeps s0 s) : Keeps s0 (otpResult r s) := by
  unfold otpResult
  exact (State.raise_keeps (State.post_keeps (Keeps.when (fun _ h1 => (State.bump_keeps h1)) h)))

theorem otpProgram_keeps {o s} (h : Keeps s0 s) : Keeps s0 (otpProgram o s) := by
  unfold otpProgram
  dsimp only
  exact (Keeps.ite
      (otpResult_keeps h)
      (Keeps.ite
        (otpResult_keeps h)
        (Keeps.ite (otpResult_keeps h) (Keeps.ite (otpResult_keeps h) (Keeps.ite (otpResult_keeps h) h.data)))))

theorem execOtpProgram_keeps {o s} (h : Keeps s0 s) : KeepsO s0 (execOtpProgram o s) := by
  unfold execOtpProgram
  exact (KeepsO.heardFrom (KeepsO.next (otpProgram_keeps h)) h)

theorem hloadStart_keeps {s} (h : Keeps s0 s) : Keeps s0 (hloadStart s) := by
  unfold hloadStart
  dsimp only
  exact (Keeps.when (fun _ h1 => (State.setFld_keeps h1.data)) h)

theorem execHloadStart_keeps {s} (h : Keeps s0 s) : KeepsO s0 (execHloadStart s) := by
  unfold execHloadStart
  exact (KeepsO.heard (KeepsO.next (hloadStart_keeps h)) h)

theorem jMounted_keeps {s} (h : Keeps s0 s) : Keeps s0 (jMounted s) := by
  unfold jMounted
  dsimp only
  exact (Keeps.share (State.bumpBy_keeps (Keeps.foldl (fun _ _ h1 => (State.report_keeps (State.bump_keeps h1))) h)) fun h2 =>
      (Keeps.ite (jEnd_keeps h2) (jEnd_keeps (State.setFld_keeps (jComplete_keeps h2)))))

theorem execJournalMount_keeps {o s} (h : Keeps s0 s) : KeepsO s0 (execJournalMount o s) := by
  unfold execJournalMount
  exact (KeepsO.heardFrom (KeepsO.next (jMount_keeps h)) h)

theorem otpEnd_keeps {lost s} (h : Keeps s0 s) : Keeps s0 (otpEnd lost s) := by
  unfold otpEnd
  dsimp only
  exact (by
      split
      · exact h
      · exact (Keeps.ite h (otpResult_keeps (otpPush_keeps h.data))))

theorem execOtpProgramDone_keeps {lost s} (h : Keeps s0 s) : KeepsO s0 (execOtpProgramDone lost s) := by
  unfold execOtpProgramDone
  exact (KeepsO.ticking (KeepsO.next (otpEnd_keeps h)) h)

theorem jRead_keeps {o t i s} (h : Keeps s0 s) : Keeps s0 (jRead o t i s) := by
  unfold jRead
  exact (by
      split
      · exact (by
            split
            · exact (jResult_keeps h)
            · exact (jBegin_keeps (State.setFld_keeps h)))
      · exact (jResult_keeps h))

theorem jDelete_keeps {o t i s} (h : Keeps s0 s) : Keeps s0 (jDelete o t i s) := by
  unfold jDelete
  exact (by
      split
      · exact (Keeps.ite (jResult_keeps h) (jBegin_keeps h))
      · exact (jResult_keeps h))

theorem jWriteCmd_keeps {o t i s} (h : Keeps s0 s) : Keeps s0 (jWriteCmd o t i s) := by
  unfold jWriteCmd
  dsimp only
  exact (by
      split
      · exact (Keeps.ite (jBegin_keeps h) (jResult_keeps h))
      · exact (jResult_keeps h))

theorem jCommand_keeps {o w s} (h : Keeps s0 s) : Keeps s0 (jCommand o w s) := by
  unfold jCommand
  dsimp only
  exact (by
      split
      · exact (jMount_keeps h)
      · exact (jRead_keeps h)
      · exact (jWriteCmd_keeps h)
      · exact (jDelete_keeps h)
      · exact h)

theorem hloadGo_keeps {s} (h : Keeps s0 s) : Keeps s0 (hloadGo s) := by
  unfold hloadGo
  dsimp only
  exact (Keeps.when (fun _ h1 => (Keeps.ite (hostBoot_keeps h1) h1.data)) h)

theorem hloadData_keeps {w s} (h : Keeps s0 s) : Keeps s0 (hloadData w s) := by
  unfold hloadData
  dsimp only
  exact (Keeps.when (fun _ h1 => (State.setFld_keeps h1.data)) h)

theorem execJournalRead_keeps {o t i s} (h : Keeps s0 s) : KeepsO s0 (execJournalRead o t i s) := by
  unfold execJournalRead
  exact (KeepsO.heardFrom (KeepsO.next (jRead_keeps h)) h)

theorem execJournalWrite_keeps {o t i s} (h : Keeps s0 s) : KeepsO s0 (execJournalWrite o t i s) := by
  unfold execJournalWrite
  exact (KeepsO.heardFrom (KeepsO.next (jWriteCmd_keeps h)) h)

theorem execJournalDelete_keeps {o t i s} (h : Keeps s0 s) : KeepsO s0 (execJournalDelete o t i s) := by
  unfold execJournalDelete
  exact (KeepsO.heardFrom (KeepsO.next (jDelete_keeps h)) h)

theorem jDone_keeps {s} (h : Keeps s0 s) : Keeps s0 (jDone s) := by
  unfold jDone
  dsimp only
  exact (by
      split
      · exact h
      · exact (Keeps.ite
            (jMounted_keeps h)
            (Keeps.ite
              (Keeps.ite (jEnd_keeps h) h)
              (Keeps.ite
                (by
                  split
                  · exact (Keeps.ite (jEnd_keeps (jWrite_keeps h)) h)
                  · exact h) (jEnd_keeps (State.setFld_keeps (jDeletePair_keeps h)))))))

theorem execJournalOpDone_keeps {s} (h : Keeps s0 s) : KeepsO s0 (execJournalOpDone s) := by
  unfold execJournalOpDone
  exact (KeepsO.ticking (KeepsO.next (jDone_keeps h)) h)

theorem execJournalWriteShort_keeps {s} (h : Keeps s0 s) : KeepsO s0 (execJournalWriteShort s) := by
  unfold execJournalWriteShort
  exact (KeepsO.ticking
      (KeepsO.next
        (by
          split
          · exact (Keeps.ite (jEnd_keeps (jCut_keeps h)) h)
          · exact h))
      h)

theorem execFlashTimeout_keeps {stage s} (h : Keeps s0 s) : KeepsO s0 (execFlashTimeout stage s) := by
  unfold execFlashTimeout
  exact (KeepsO.ticking (KeepsO.next (Keeps.when (fun _ h1 => (jEnd_keeps (State.report_keeps (jCut_keeps h1)))) h)) h)

theorem execBootStart_keeps {jedec s} (h : Keeps s0 s) : KeepsO s0 (execBootStart jedec s) := by
  unfold execBootStart
  dsimp only
  exact (Keeps.share (State.setOn_keeps
          (State.setFld_keeps
            (State.setFld_keeps (State.setOn_keeps (State.setWord_keeps (State.setWord_keeps h.data)))))) fun h1 =>
      (KeepsO.ticking (KeepsO.next (Keeps.ite h (Keeps.ite (bootTick_keeps h1.data) (bootWait_keeps h1)))) h))

theorem execBootImageCheck_keeps {s} (h : Keeps s0 s) : KeepsO s0 (execBootImageCheck s) := by
  unfold execBootImageCheck
  dsimp only
  exact (KeepsO.ticking
      (KeepsO.next
        (Keeps.ite
          h
          (by
            split
            · exact (bootWait_keeps h)
            · exact (by
                  split
                  · exact (bootRun_keeps h)
                  · exact (Keeps.share h.data fun h2 => (Keeps.ite (bootWait_keeps h2) (State.setFld_keeps h2)))))))
      h)

theorem execHloadData_keeps {data s} (h : Keeps s0 s) : KeepsO s0 (execHloadData data s) := by
  unfold execHloadData
  exact (KeepsO.heard (KeepsO.next (hloadData_keeps h)) h)

theorem execHloadGo_keeps {s} (h : Keeps s0 s) : KeepsO s0 (execHloadGo s) := by
  unfold execHloadGo
  exact (KeepsO.heard (KeepsO.next (hloadGo_keeps h)) h)

end Sys2Proof.Machine
end

