-- ==== Sys2Proof/Laws/KeepsPress.lean ====
section
/-!
SUPPORT. Every operation of Machine/Press.lean keeps the shell, and canonical maps stay canonical.
-/

namespace Sys2Proof.Machine

variable {s0 : State}

theorem dieClamps_keeps {old s} (h : Keeps s0 s) : Keeps s0 (dieClamps old s) := by
  unfold dieClamps
  dsimp only
  exact (Keeps.eachOf
      (fun _ _ h1 =>
        (by
          split
          · exact (State.setDie_keeps h1)
          · exact h1))
      h)

theorem sinksLatch_keeps {s} (h : Keeps s0 s) : Keeps s0 (sinksLatch s) := by
  unfold sinksLatch
  exact (bstTick_keeps (cvTick_keeps (Keeps.each (fun _ _ h1 => (outSend_keeps h1)) h)))

theorem hbLatch_keeps {s} (h : Keeps s0 s) : Keeps s0 (hbLatch s) := by
  unfold hbLatch
  dsimp only
  exact (Keeps.when (fun _ h1 => h1.data) h)

theorem clampStaged_keeps {page lo hi f s} (h : Keeps s0 s) : Keeps s0 (clampStaged page lo hi f s) := by
  unfold clampStaged
  dsimp only
  exact (Keeps.ite
      h
      (State.viol_keeps
        (Keeps.step h rfl fun c => { c with shadow := SMap.wf_set _ _ c.shadow, image := SMap.wf_set _ _ c.image })))

theorem pressClamps_keeps {s} (h : Keeps s0 s) : Keeps s0 (pressClamps s) := by
  unfold pressClamps
  dsimp only
  exact (clampStaged_keeps (clampStaged_keeps (clampStaged_keeps (Keeps.each (fun _ _ h1 => (clampStaged_keeps h1)) h))))

theorem pressCopy_keeps {s} (h : Keeps s0 s) : Keeps s0 (pressCopy s) := by
  unfold pressCopy
  dsimp only
  refine .ite h (.when (fun _ h1 => .each (fun _ _ h2 => .when (fun _ h3 => .eachOf (fun _ _ h4 => State.tell_keeps h4)
    (State.tell_keeps h3)) h2) (State.setFld_keeps h1)) (pressClamps_keeps (fxBanksShow_keeps (banksShow_keeps ?_))))
  exact .step h rfl fun c => { c with image := c.shadow, imageMc := c.shadowMc }

theorem reclamp_keeps {s} (h : Keeps s0 s) : Keeps s0 (reclamp s) := by
  unfold reclamp
  dsimp only
  exact (Keeps.when
      (fun _ h1 =>
        (Keeps.eachOf
          (fun _ _ h2 =>
            (by
              split
              · exact (Keeps.when (fun _ h3 => (State.tell_keeps h3)) h2)
              · exact h2))
          h1))
      (pressClamps_keeps h))

theorem hbUse_keeps {f s} (hf : ∀ s, Keeps s0 s → Keeps s0 (f s)) (h : Keeps s0 s) : Keeps s0 (hbUse f s) := by
  unfold hbUse
  dsimp only
  exact (Keeps.data
      (Keeps.foldl (fun _ _ h1 => (State.setWord_keeps h1)) (hf _ (Keeps.foldl (fun _ _ h2 => (State.setWord_keeps h2)) h))))

theorem inputsPress_keeps {old s} (h : Keeps s0 s) : Keeps s0 (inputsPress old s) := by
  unfold inputsPress
  dsimp only
  exact (State.setFld_keeps
      (State.setFld_keeps
        (Keeps.each
          (fun _ _ h1 =>
            (Keeps.ite
              (ctlFrozenShow_keeps (ctlStart_keeps (State.setFld_keeps (State.setCtl_keeps h1))))
              (State.setFld_keeps (ctlSwap_keeps h1))))
          (Keeps.each
            (fun _ _ h4 => (Keeps.ite (audSwap_keeps h4) (State.setFld_keeps (State.setFld_keeps h4))))
            (micPress_keeps
              (Keeps.each
                (fun _ _ h7 => (micbPress_keeps h7))
                (Keeps.each
                  (fun _ _ h8 => (Keeps.when (fun _ h9 => (ainMode_keeps h9)) (ainForce_keeps (ainPga_keeps h8))))
                  h)))))))

theorem qmgPress_keeps {old s} (h : Keeps s0 s) : Keeps s0 (qmgPress old s) := by
  unfold qmgPress
  dsimp only
  exact (State.setFld_keeps
      (State.setFld_keeps
        (State.setInt_keeps
          (Keeps.each
            (fun _ _ h1 => (Keeps.when (fun _ h2 => (winLose_keeps (qCancel_keeps h2))) h1))
            (Keeps.eachOf
              (fun _ _ h3 =>
                (State.setFld_keeps
                  (Keeps.when
                    (fun _ h4 => (qXoff_keeps h4))
                    (Keeps.when (fun _ h5 => (State.setFld_keeps h5)) (Keeps.when (fun _ h6 => (qDisable_keeps h6)) h3)))))
              h)))))

theorem pressBlocks_keeps {old s} (h : Keeps s0 s) : Keeps s0 (pressBlocks old s) := by
  unfold pressBlocks
  dsimp only
  exact (qmgPress_keeps
      (zklPress_keeps
        (netPress_keeps
          (timePress_keeps
            (spkPress_keeps
              (cvPress_keeps
                (jackPress_keeps
                  (outPress_keeps
                    (fxPress_keeps
                      (glidePress_keeps
                        (mixPress_keeps
                          (srcBind_keeps
                            (qsPress_keeps
                              (spdoPress_keeps
                                (spdiPress_keeps
                                  (sapPress_keeps
                                    (svcPress_keeps
                                      (inputsPress_keeps
                                        (Keeps.each
                                          (fun _ _ h1 => (Keeps.when (fun _ h2 => (fdivPress_keeps h2)) h1))
                                          (planShow_keeps h))))))))))))))))))))

theorem liveConfig_keeps {l s} (h : Keeps s0 s) : Keeps s0 (liveConfig l s) := by
  unfold liveConfig
  dsimp only
  exact (Keeps.eachOf (fun _ _ h1 => (State.tell_keeps h1)) h)

theorem diesPress_keeps {s} (h : Keeps s0 s) : Keeps s0 (diesPress s) := by
  unfold diesPress
  dsimp only
  exact (Keeps.each (fun _ _ h1 => (Keeps.ite (State.setDie_keeps h1) (liveConfig_keeps (State.setDie_keeps h1)))) h)

theorem pressIdle_keeps {s} (h : Keeps s0 s) : Keeps s0 (pressIdle s) := by
  unfold pressIdle
  dsimp only
  refine fxBanksShow_keeps (banksShow_keeps ?_)
  exact .step (State.setFld_keeps (f := F.PRESS_STAT_PSTATE) (v := 0) h) rfl fun c => { c with image := rfl, imageMc := rfl }

theorem pressResult_keeps {applied withdrawn vmask verdict s} (h : Keeps s0 s) : Keeps s0 (pressResult applied withdrawn vmask
    verdict s) := by
  unfold pressResult
  exact (State.raise_keeps (State.post_keeps h))

theorem pressLive_keeps {s} (h : Keeps s0 s) : Keeps s0 (pressLive s) := by
  unfold pressLive
  dsimp only
  exact (pressIdle_keeps
      (State.raise_keeps
        (State.bump_keeps
          (pressResult_keeps
            (Keeps.when
              (fun _ h1 => (State.setShadow_keeps h1))
              (sinksLatch_keeps
                (pressBlocks_keeps
                  (diesPress_keeps
                    (Keeps.foldl
                      (fun _ _ h2 => (Keeps.ite h2 (State.setWord_keeps h2)))
                      (dieClamps_keeps (pressClamps_keeps h)))).data)))))))

theorem pressApply_keeps {s} (h : Keeps s0 s) : Keeps s0 (pressApply s) := by
  unfold pressApply
  exact (Keeps.ite (hbUse_keeps (fun _ h2 => (pressLive_keeps h2)) h) h)

theorem pressJudge_keeps {f s} (h : Keeps s0 s) : Keeps s0 (pressJudge f s) := by
  unfold pressJudge
  dsimp only
  exact (Keeps.ite
      (pressIdle_keeps h)
      (Keeps.ite
        (pressIdle_keeps (State.raise_keeps (State.bump_keeps h)))
        (State.setFld_keeps (State.setFld_keeps (State.setFld_keeps h))).data))

theorem pressWarn_keeps {m s} (h : Keeps s0 s) : Keeps s0 (pressWarn m s) := by
  unfold pressWarn
  exact (by
      split <;> exact (State.setFld_keeps (State.setFld_keeps h)))

theorem pressPages_keeps {verdict first s} (h : Keeps s0 s) : Keeps s0 (pressPages verdict first s) := by
  unfold pressPages
  dsimp only
  exact (Keeps.eachOf (fun _ _ h1 => (State.setFld_keeps (State.setFld_keeps h1))) h)

theorem pressRecord_keeps {f m s} (h : Keeps s0 s) : Keeps s0 (pressRecord f m s) := by
  unfold pressRecord
  refine pressResult_keeps ?_
  split
  · refine State.setInt_keeps (State.setInt_keeps (State.setOn_keeps (State.setFld_keeps ?_)))
    split <;> exact State.setFld_keeps (State.setFld_keeps (pressWarn_keeps (State.setFld_keeps (pressPages_keeps h))))
  · refine State.setWord_keeps (State.setWord_keeps (State.setWord_keeps ?_))
    split <;> exact State.setFld_keeps (State.setFld_keeps (pressWarn_keeps (State.setFld_keeps (pressPages_keeps h))))

theorem collationDone_keeps {s} (h : Keeps s0 s) : Keeps s0 (collationDone s) := by
  unfold collationDone
  dsimp only
  exact (Keeps.ite h (pressJudge_keeps (pressRecord_keeps (reclamp_keeps h))))

theorem pressAccept_keeps {ok f s} (hf : ∀ s, Keeps s0 s → Keeps s0 (f s)) (h : Keeps s0 s) : Keeps s0 (pressAccept ok f s) := by
  unfold pressAccept
  exact (Keeps.ite (hf _ (State.setFld_keeps h)) (State.bump_keeps (State.setFld_keeps h)))

theorem pressStart_keeps {kind byMc s} (h : Keeps s0 s) : Keeps s0 (pressStart kind byMc s) := by
  unfold pressStart
  dsimp only
  exact (pressAccept_keeps (fun _ h1 => (State.setFld_keeps h1).data) h)

theorem tellDies_keeps {m s} (h : Keeps s0 s) : Keeps s0 (tellDies m s) := by
  unfold tellDies
  exact (Keeps.each (fun _ _ h1 => (State.tell_keeps h1)) h)

theorem pressWithdraw_keeps {s} (h : Keeps s0 s) : Keeps s0 (pressWithdraw s) := by
  unfold pressWithdraw
  exact (pressAccept_keeps (fun _ h1 => (pressIdle_keeps (pressResult_keeps (Keeps.when (fun _ h2 => (tellDies_keeps h2)) h1)))) h)

theorem pressRevert_keeps {s} (h : Keeps s0 s) : Keeps s0 (pressRevert s) := by
  unfold pressRevert
  refine pressAccept_keeps (fun s h => .step h rfl fun c => { c with shadow := ?_, shadowMc := rfl }) h
  exact SMap.wf_foldl (fun _ _ hm => SMap.wf_ite hm (SMap.wf_set _ _ hm)) rfl

theorem pressCmd_keeps {code byMc s} (h : Keeps s0 s) : Keeps s0 (pressCmd code byMc s) := by
  unfold pressCmd
  exact (Keeps.ite
      (pressStart_keeps h)
      (Keeps.ite (pressStart_keeps h) (Keeps.ite (pressWithdraw_keeps h) (Keeps.ite (pressRevert_keeps h) h))))

theorem execCollate_keeps {o s} (h : Keeps s0 s) : KeepsO s0 (execCollate o s) := by
  unfold execCollate
  exact (KeepsO.heardFrom (KeepsO.next (pressCmd_keeps h)) h)

theorem deferredApply_keeps {u s} (h : Keeps s0 s) : Keeps s0 (deferredApply u s) := by
  unfold deferredApply
  dsimp only
  exact (Keeps.share (Keeps.foldl (fun _ _ h1 => (State.setWord_keeps h1)) h.data) fun h2 =>
      (Keeps.ite
        h
        (Keeps.ite (svcPress_keeps h2) (Keeps.ite h2 (Keeps.ite (zklPress_keeps h2) (srcBind_keeps (sapPress_keeps h2)))))))

theorem execDeferredApply_keeps {unit s} (h : Keeps s0 s) : KeepsO s0 (execDeferredApply unit s) := by
  unfold execDeferredApply
  exact (KeepsO.ticking (KeepsO.next (deferredApply_keeps h)) h)

theorem pressCommit_keeps {s} (h : Keeps s0 s) : Keeps s0 (pressCommit s) := by
  unfold pressCommit
  dsimp only
  exact (Keeps.share (State.setFld_keeps h) fun h1 =>
      (Keeps.ite
        h
        (Keeps.ite
          (tellDies_keeps (State.setFld_keeps h1))
          (pressIdle_keeps
            (State.raise_keeps
              (State.raise_keeps
                (pressResult_keeps
                  (State.bump_keeps
                    (State.bump_keeps (Keeps.eachOf (fun _ _ h5 => (State.report_keeps h5)) (tellDies_keeps h1)))))))))))

theorem execRevert_keeps {s} (h : Keeps s0 s) : KeepsO s0 (execRevert s) := by
  unfold execRevert
  exact (KeepsO.heard (KeepsO.next (pressCmd_keeps h)) h)

theorem execWithdraw_keeps {s} (h : Keeps s0 s) : KeepsO s0 (execWithdraw s) := by
  unfold execWithdraw
  exact (KeepsO.heard (KeepsO.next (pressCmd_keeps h)) h)

theorem execPress_keeps {o s} (h : Keeps s0 s) : KeepsO s0 (execPress o s) := by
  unfold execPress
  exact (KeepsO.heardFrom (KeepsO.next (pressCmd_keeps h)) h)

theorem pressReply_keeps {l seq ok s} (h : Keeps s0 s) : Keeps s0 (pressReply l seq ok s) := by
  unfold pressReply
  dsimp only
  exact (Keeps.ite h.data h)

theorem execCollationDone_keeps {s} (h : Keeps s0 s) : KeepsO s0 (execCollationDone s) := by
  unfold execCollationDone
  exact (KeepsO.ticking (KeepsO.next (collationDone_keeps h)) h)

theorem pressAnnounce_keeps {s} (h : Keeps s0 s) : Keeps s0 (pressAnnounce s) := by
  unfold pressAnnounce
  dsimp only
  exact (Keeps.ite (Keeps.each (fun _ _ h2 => (State.tell_keeps h2)) (State.setFld_keeps h).data) h)

theorem execPressAnnounce_keeps {s} (h : Keeps s0 s) : KeepsO s0 (execPressAnnounce s) := by
  unfold execPressAnnounce
  exact (KeepsO.ticking (KeepsO.next (pressAnnounce_keeps h)) h)

theorem execPressCommitPoint_keeps {seq cyc s} (h : Keeps s0 s) : KeepsO s0 (execPressCommitPoint seq cyc s) := by
  unfold execPressCommitPoint
  exact (KeepsO.ticking (KeepsO.next (Keeps.when (fun _ h1 => (pressCommit_keeps (State.land_keeps h1))) h)) h)

theorem execPressApply_keeps {s} (h : Keeps s0 s) : KeepsO s0 (execPressApply s) := by
  unfold execPressApply
  exact (KeepsO.ticking (KeepsO.next (pressApply_keeps h)) h)

end Sys2Proof.Machine
end

