-- ==== Sys2Proof/Laws/KeepsFlt.lean ====
section
/-!
SUPPORT. Every operation of Machine/Flt.lean keeps the shell, and canonical maps stay canonical.
-/

namespace Sys2Proof.Machine

variable {s0 : State}

theorem mcEnter_keeps {s} (h : Keeps s0 s) : Keeps s0 (mcEnter s) := by
  unfold mcEnter
  dsimp only
  exact .eachOf (fun _ _ h1 => State.setFld_keeps h1) (jUnready_keeps (State.setFld_keeps (State.setFld_keeps (State.setFld_keeps
    (.step h rfl fun c => { c with latch := SMap.wf_filter _ c.latch })))))

theorem partShow_keeps {s} (h : Keeps s0 s) : Keeps s0 (partShow s) := by
  unfold partShow
  exact (State.setOn_keeps h)

theorem isolate_keeps {bits why s} (h : Keeps s0 s) : Keeps s0 (isolate bits why s) := by
  unfold isolate
  dsimp only
  exact (Keeps.eachOf
      (fun _ _ h1 =>
        (Keeps.branch
          (Keeps.when (fun _ h3 => (State.raise_keeps (State.bump_keeps (State.setFld_keeps h3)))) h1)
          (fun h2 => h2.data)))
      h)

theorem logShow_keeps {s} (h : Keeps s0 s) : Keeps s0 (logShow s) := by
  unfold logShow
  exact (State.setFld_keeps (State.setOn_keeps (State.setFld_keeps h)))

theorem logStore_keeps {r s} (h : Keeps s0 s) : Keeps s0 (logStore r s) := by
  unfold logStore
  dsimp only
  exact (Keeps.ite (State.raise_keeps (State.bump_keeps h)) (logShow_keeps (State.bump_keeps h.data)))

theorem logReport_keeps {r s} (h : Keeps s0 s) : Keeps s0 (logReport r s) := by
  unfold logReport
  dsimp only
  exact (Keeps.ite
      h.data
      (partShow_keeps
        (isolate_keeps (logStore_keeps (State.raise_keeps (State.setFld_keeps (State.bump_keeps (State.setFld_keeps h)))).data))))

theorem wdogExpire_keeps {s} (h : Keeps s0 s) : Keeps s0 (wdogExpire s) := by
  unfold wdogExpire
  dsimp only
  exact (Keeps.ite
      h
      (Keeps.when
        (fun _ h2 => (logReport_keeps h2))
        (logReport_keeps (State.raise_keeps (State.bump_keeps (State.setFld_keeps (mboxLose_keeps (mcEnter_keeps h)).data))))))

theorem fnShow_keeps {s} (h : Keeps s0 s) : Keeps s0 (fnShow s) := by
  unfold fnShow
  exact (State.setOn_keeps h)

theorem viewShow_keeps {s} (h : Keeps s0 s) : Keeps s0 (viewShow s) := by
  unfold viewShow
  dsimp only
  exact (State.setFld_keeps (State.setFld_keeps h))

theorem viewTick_keeps {s} (h : Keeps s0 s) : Keeps s0 (viewTick s) := by
  unfold viewTick
  dsimp only
  exact (Keeps.ite
      h
      (viewShow_keeps (Keeps.eachOf (fun _ _ h2 => (Keeps.ite h2 (Keeps.when (fun _ h4 => (State.setFld_keeps h4)) h2.data))) h)))

theorem logGranted_keeps {s} (h : Keeps s0 s) : Keeps s0 (logGranted s) := by
  unfold logGranted
  dsimp only
  exact (Keeps.ite (logShow_keeps h.data) h)

theorem fltTake_keeps {s} (h : Keeps s0 s) : Keeps s0 (fltTake s) := by
  unfold fltTake
  dsimp only
  exact (Keeps.eachOf (fun _ _ h1 => (logReport_keeps h1)) h.data)

theorem fltTick_keeps {s} (h : Keeps s0 s) : Keeps s0 (fltTick s) := by
  unfold fltTick
  exact (fnShow_keeps (viewTick_keeps (logGranted_keeps (fltTake_keeps h))))

theorem State.configFault_keeps {page detail s} (h : Keeps s0 s) : Keeps s0 (State.configFault page detail s) := by
  unfold State.configFault
  dsimp only
  exact (Keeps.ite h (State.report_keeps h).data)

theorem State.denied_keeps {page ofs s} (h : Keeps s0 s) : Keeps s0 (State.denied page ofs s) := by
  unfold State.denied
  exact (State.configFault_keeps (State.viol_keeps h))

theorem lockAll_keeps {s} (h : Keeps s0 s) : Keeps s0 (lockAll s) := by
  unfold lockAll
  exact (Keeps.ite h (Keeps.eachOf (fun _ _ h2 => (State.setFld_keeps h2)) (State.setFld_keeps h)))

theorem fnAck_keeps {s} (h : Keeps s0 s) : Keeps s0 (fnAck s) := by
  unfold fnAck
  exact (State.setFld_keeps h)

theorem logClr_keeps {s} (h : Keeps s0 s) : Keeps s0 (logClr s) := by
  unfold logClr
  dsimp only
  exact (logShow_keeps h.data)

theorem wdogKick_keeps {o s} (h : Keeps s0 s) : Keeps s0 (wdogKick o s) := by
  unfold wdogKick
  dsimp only
  exact (Keeps.ite h.data h)

theorem mcLeave_keeps {s} (h : Keeps s0 s) : Keeps s0 (mcLeave s) := by
  unfold mcLeave
  dsimp only
  exact (State.setFld_keeps (jUnready_keeps h.data))

theorem mcHold_keeps {x0 s} (h : Keeps s0 s) : Keeps s0 (mcHold x0 s) := by
  unfold mcHold
  dsimp only
  exact (Keeps.share (State.setOn_keeps h) fun h1 =>
      (Keeps.ite (Keeps.ite h1 (State.setFld_keeps (mcEnter_keeps h1))) (Keeps.ite (mcLeave_keeps h1) h1)))

theorem mcRun_keeps {s} (h : Keeps s0 s) : Keeps s0 (mcRun s) := by
  unfold mcRun
  dsimp only
  exact (Keeps.ite (mcLeave_keeps (State.setFld_keeps h)) h)

theorem isoSet_keeps {w bits s} (h : Keeps s0 s) : Keeps s0 (isoSet w bits s) := by
  unfold isoSet
  exact (isolate_keeps h)

theorem isoDrop_keeps {w b p s} (h : Keeps s0 s) : Keeps s0 (isoDrop w b p s) := by
  unfold isoDrop
  dsimp only
  exact (Keeps.when (fun _ h1 => (State.setFld_keeps h1)) h.data)

theorem isoClr_keeps {w bits s} (h : Keeps s0 s) : Keeps s0 (isoClr w bits s) := by
  unfold isoClr
  dsimp only
  exact (partShow_keeps (Keeps.each (fun _ _ h1 => (Keeps.ite h1 (Keeps.ite (State.bump_keeps h1) (isoDrop_keeps h1)))) h))

theorem fltHostOnly_keeps {o ofs f s} (hf : ∀ s, Keeps s0 s → Keeps s0 (f s)) (h : Keeps s0 s) : Keeps s0 (fltHostOnly o ofs f s)
    := by
  unfold fltHostOnly
  exact (Keeps.ite (State.denied_keeps h) (hf _ h))

theorem execFaultAck_keeps {o s} (h : Keeps s0 s) : KeepsO s0 (execFaultAck o s) := by
  unfold execFaultAck
  exact (KeepsO.heardFrom (KeepsO.next (fltHostOnly_keeps (fun _ h1 => (fnAck_keeps h1)) h)) h)

theorem isoReturn_keeps {t s} (h : Keeps s0 s) : Keeps s0 (isoReturn t s) := by
  unfold isoReturn
  dsimp only
  exact (Keeps.ite (Keeps.data (Keeps.eachOf (fun _ _ h2 => (isoDrop_keeps h2)) h)) h)

theorem logSend_keeps {s} (h : Keeps s0 s) : Keeps s0 (logSend s) := by
  unfold logSend
  dsimp only
  exact (Keeps.share (logGranted_keeps h) fun h1 =>
      (by
        split
        · exact h1
        · exact (Keeps.ite h1 (logGranted_keeps (qWriteBytes_keeps h1).data))))

theorem execLogRecordSend_keeps {s} (h : Keeps s0 s) : KeepsO s0 (execLogRecordSend s) := by
  unfold execLogRecordSend
  exact (KeepsO.ticking (KeepsO.next (logSend_keeps h)) h)

theorem execFltLockstepMismatch_keeps {s} (h : Keeps s0 s) : KeepsO s0 (execFltLockstepMismatch s) := by
  unfold execFltLockstepMismatch
  dsimp only
  exact (KeepsO.ticking (KeepsO.next (logReport_keeps (State.raise_keeps (State.setFld_keeps (State.setFld_keeps h.data))))) h)

theorem execIsolateClear_keeps {o w bits s} (h : Keeps s0 s) : KeepsO s0 (execIsolateClear o w bits s) := by
  unfold execIsolateClear
  exact (KeepsO.heardFrom (KeepsO.next (fltHostOnly_keeps (fun _ h1 => (isoClr_keeps h1)) h)) h)

theorem dieTemp_keeps {die code s} (h : Keeps s0 s) : Keeps s0 (dieTemp die code s) := by
  unfold dieTemp
  dsimp only
  exact (Keeps.when
      (fun _ h1 => (State.report_keeps h1))
      (Keeps.when (fun _ h2 => (State.raise_keeps (State.report_keeps h2))) (State.setOn_keeps (State.setFld_keeps h).data)))

theorem execWatchdogExpire_keeps {s} (h : Keeps s0 s) : KeepsO s0 (execWatchdogExpire s) := by
  unfold execWatchdogExpire
  exact (KeepsO.ticking (KeepsO.next (wdogExpire_keeps h)) h)

theorem execLogClear_keeps {o s} (h : Keeps s0 s) : KeepsO s0 (execLogClear o s) := by
  unfold execLogClear
  exact (KeepsO.heardFrom (KeepsO.next (fltHostOnly_keeps (fun _ h1 => (logClr_keeps h1)) h)) h)

theorem execIsolateSet_keeps {o w bits s} (h : Keeps s0 s) : KeepsO s0 (execIsolateSet o w bits s) := by
  unfold execIsolateSet
  exact (KeepsO.heardFrom (KeepsO.next (fltHostOnly_keeps (fun _ h1 => (isoSet_keeps h1)) h)) h)

theorem execIsolationAutoReturn_keeps {trigger s} (h : Keeps s0 s) : KeepsO s0 (execIsolationAutoReturn trigger s) := by
  unfold execIsolationAutoReturn
  exact (KeepsO.ticking (KeepsO.next (isoReturn_keeps h)) h)

theorem execLockAll_keeps {o s} (h : Keeps s0 s) : KeepsO s0 (execLockAll o s) := by
  unfold execLockAll
  exact (KeepsO.heardFrom (KeepsO.next (Keeps.ite h (fltHostOnly_keeps (fun _ h2 => (lockAll_keeps h2)) h))) h)

theorem execWatchdogKick_keeps {o s} (h : Keeps s0 s) : KeepsO s0 (execWatchdogKick o s) := by
  unfold execWatchdogKick
  exact (KeepsO.heardFrom (KeepsO.next (wdogKick_keeps h)) h)

theorem execMcResetRelease_keeps {s} (h : Keeps s0 s) : KeepsO s0 (execMcResetRelease s) := by
  unfold execMcResetRelease
  exact (KeepsO.ticking
      (KeepsO.next
        (by
          split
          · exact (Keeps.when (fun _ h1 => (mcLeave_keeps h1)) h)
          · exact h))
      h)

theorem execMcHold_keeps {o hold s} (h : Keeps s0 s) : KeepsO s0 (execMcHold o hold s) := by
  unfold execMcHold
  exact (KeepsO.heardFrom (KeepsO.next (Keeps.ite h (fltHostOnly_keeps (fun _ h2 => (mcHold_keeps h2)) h))) h)

theorem execMcRun_keeps {o s} (h : Keeps s0 s) : KeepsO s0 (execMcRun o s) := by
  unfold execMcRun
  exact (KeepsO.heardFrom (KeepsO.next (fltHostOnly_keeps (fun _ h1 => (mcRun_keeps h1)) h)) h)

theorem execViewMismatch_keeps {page s} (h : Keeps s0 s) : KeepsO s0 (execViewMismatch page s) := by
  unfold execViewMismatch
  dsimp only
  exact (KeepsO.ticking
      (KeepsO.next (Keeps.when (fun _ h1 => (viewShow_keeps (State.report_keeps (State.raise_keeps (State.setFld_keeps h1))))) h))
      h)

end Sys2Proof.Machine
end

