-- ==== Sys2Proof/Laws/KeepsLink.lean ====
section
/-!
SUPPORT. Every operation of Machine/Link.lean keeps the shell, and canonical maps stay canonical.
-/

namespace Sys2Proof.Machine

variable {s0 : State}

theorem setLstate_keeps {l v s} (h : Keeps s0 s) : Keeps s0 (setLstate l v s) := by
  unfold setLstate
  exact (State.setFld_keeps (State.setFld_keeps h))

theorem execLinkTrainingAnswer_keeps {l s} (h : Keeps s0 s) : KeepsO s0 (execLinkTrainingAnswer l s) := by
  unfold execLinkTrainingAnswer
  exact (KeepsO.ticking (KeepsO.next (Keeps.when (fun _ h1 => (setLstate_keeps h1)) h)) h)

theorem linkTick_keeps {s} (h : Keeps s0 s) : Keeps s0 (linkTick s) := by
  unfold linkTick
  dsimp only
  exact (Keeps.each (fun _ _ h1 => h1.data) h)

theorem linkDown_keeps {d code s} (h : Keeps s0 s) : Keeps s0 (linkDown d code s) := by
  unfold linkDown
  dsimp only
  exact (Keeps.share (State.setDir_keeps (State.setDir_keeps (setLstate_keeps h))) fun h1 =>
      (Keeps.ite h (logReport_keeps (State.bump_keeps (Keeps.ite h1.data h1.data)))))

theorem linkAdopt_keeps {l s} (h : Keeps s0 s) : Keeps s0 (linkAdopt l s) := by
  unfold linkAdopt
  dsimp only
  exact h.data

theorem tickCheck_keeps {d age cw s} (h : Keeps s0 s) : Keeps s0 (tickCheck d age cw s) := by
  unfold tickCheck
  dsimp only
  exact (Keeps.when (fun _ h1 => (linkAdopt_keeps (logReport_keeps h1))) h)

theorem inWindow_keeps {lo hi f s} (hf : ∀ s, Keeps s0 s → Keeps s0 (f s)) (h : Keeps s0 s) : Keeps s0 (inWindow lo hi f s) := by
  unfold inWindow
  exact (Keeps.when (fun _ h1 => (hf _ (State.land_keeps h1))) h)

theorem burstSend_keeps {d ctl quires cmds s} (h : Keeps s0 s) : Keeps s0 (burstSend d ctl quires cmds s) := by
  unfold burstSend
  dsimp only
  exact (State.setDir_keeps h)

theorem execDataBurstSend_keeps {d frame s} (h : Keeps s0 s) : KeepsO s0 (execDataBurstSend d frame s) := by
  unfold execDataBurstSend
  exact (KeepsO.ticking (KeepsO.next (Keeps.when (fun _ h1 => (inWindow_keeps (fun _ h2 => (burstSend_keeps h2)) h1)) h)) h)

theorem burstLost_keeps {d ctl s} (h : Keeps s0 s) : Keeps s0 (burstLost d ctl s) := by
  unfold burstLost
  dsimp only
  exact (State.setDir_keeps h)

theorem burstOriginal_keeps {d b s} (h : Keeps s0 s) : Keeps s0 (burstOriginal d b s) := by
  unfold burstOriginal
  dsimp only
  exact (Keeps.ite
      h
      (Keeps.ite
        (burstLost_keeps h)
        (Keeps.when
          (fun _ h4 => (Keeps.when (fun _ h5 => (tickClockErr_keeps h5)) (linkAdopt_keeps (State.report_keeps h4))))
          (tickCheck_keeps (State.setDir_keeps h)))))

theorem convClock_keeps {l s} (h : Keeps s0 s) : Keeps s0 (convClock l s) := by
  unfold convClock
  dsimp only
  exact (Keeps.when (fun _ h1 => h1.data) h)

theorem linkResults_keeps {s} (h : Keeps s0 s) : Keeps s0 (linkResults s) := by
  unfold linkResults
  dsimp only
  exact (State.setDir_keeps h.data)

theorem linkTake_keeps {d s} (h : Keeps s0 s) : Keeps s0 (linkTake d s).2 := by
  unfold linkTake
  dsimp only
  exact (Keeps.share (Keeps.when (fun _ h1 => (State.bump_keeps h1)) (State.setDir_keeps h)) fun h2 =>
      (Keeps.ite_2 h (Keeps.ite (linkDown_keeps h2) (Keeps.ite (linkDown_keeps h2) h2))))

theorem execControlBurstSend_keeps {d cyc s} (h : Keeps s0 s) : KeepsO s0 (execControlBurstSend d cyc s) := by
  unfold execControlBurstSend
  dsimp only
  exact (KeepsO.ticking
      (KeepsO.next
        (Keeps.when
          (fun _ h1 =>
            (inWindow_keeps
              (fun _ h2 => (burstSend_keeps (State.setDir_keeps (Keeps.when (fun _ h3 => (linkResults_keeps h3)) h2))))
              h1))
          h))
      h)

theorem burstReplayed_keeps {d b s} (h : Keeps s0 s) : Keeps s0 (burstReplayed d b s) := by
  unfold burstReplayed
  dsimp only
  exact (by
      split
      · exact (Keeps.when (fun _ h1 => (State.bump_keeps h1)) h)
      · exact (Keeps.ite
            (State.setDir_keeps h)
            (Keeps.ite (State.bump_keeps (State.setDir_keeps h)) (tickCheck_keeps (State.setDir_keeps h)))))

theorem execStitchBurstReceive_keeps {d b s} (h : Keeps s0 s) : KeepsO s0 (execStitchBurstReceive d b s) := by
  unfold execStitchBurstReceive
  exact (KeepsO.ticking (KeepsO.next (Keeps.when (fun _ h1 => (Keeps.ite (burstReplayed_keeps h1) (burstOriginal_keeps h1))) h)) h)

theorem execBurstWindowTimeout_keeps {d w s} (h : Keeps s0 s) : KeepsO s0 (execBurstWindowTimeout d w s) := by
  unfold execBurstWindowTimeout
  dsimp only
  exact (KeepsO.ticking
      (KeepsO.next
        (Keeps.when
          (fun _ h1 =>
            (Keeps.ite
              (Keeps.when (fun _ h4 => (burstLost_keeps (State.land_keeps h4))) h1)
              (Keeps.ite
                (Keeps.when (fun _ h7 => (burstLost_keeps (State.land_keeps h7))) h1)
                (Keeps.ite (State.land_keeps (State.setDir_keeps h1)) h1))))
          h))
      h)

theorem execRetryRequest_keeps {d bsn s} (h : Keeps s0 s) : KeepsO s0 (execRetryRequest d bsn s) := by
  unfold execRetryRequest
  dsimp only
  exact (Keeps.share (State.setDir_keeps h) fun h1 =>
      (KeepsO.ticking
        (KeepsO.next
          (Keeps.ite
            h
            (by
              split
              · exact h1
              · exact (Keeps.ite h1 (State.setDir_keeps h)))))
        h))

theorem execBurstReplay_keeps {d a s} (h : Keeps s0 s) : KeepsO s0 (execBurstReplay d a s) := by
  unfold execBurstReplay
  dsimp only
  exact (KeepsO.ticking
      (KeepsO.next (Keeps.when (fun _ h1 => (inWindow_keeps (fun _ h2 => (State.bumpBy_keeps (State.setDir_keeps h2))) h1)) h))
      h)

theorem dieApply_keeps {l s x} (h : Keeps s0 s) : Keeps s0 (dieApply l s x) := by
  unfold dieApply
  dsimp only
  exact (by
      split
      · exact (State.setDie_keeps h)
      · exact (State.setDie_keeps h)
      · exact (State.tell_keeps (State.setDie_keeps h))
      · exact (State.setDie_keeps h)
      · exact (State.setDie_keeps h)
      · exact h)

theorem dieTake_keeps {l t s} (h : Keeps s0 s) : Keeps s0 (dieTake l t s) := by
  unfold dieTake
  exact (Keeps.foldl (fun _ _ h1 => (dieApply_keeps h1)) h)

theorem execLanesTrained_keeps {l s} (h : Keeps s0 s) : KeepsO s0 (execLanesTrained l s) := by
  unfold execLanesTrained
  dsimp only
  exact (KeepsO.ticking
      (KeepsO.next
        (Keeps.when
          (fun _ h1 =>
            (Keeps.share (State.setDir_keeps (State.setDir_keeps (convClock_keeps h1))).data fun h2 =>
              (Keeps.ite (liveConfig_keeps (State.setDie_keeps (setLstate_keeps h2))) (setLstate_keeps h2))))
          h))
      h)

theorem execLiveConfigTransferDone_keeps {l s} (h : Keeps s0 s) : KeepsO s0 (execLiveConfigTransferDone l s) := by
  unfold execLiveConfigTransferDone
  exact (KeepsO.ticking (KeepsO.next (Keeps.when (fun _ h1 => (setLstate_keeps h1)) h)) h)

theorem execCreditSetReceive_keeps {d seq ok s} (h : Keeps s0 s) : KeepsO s0 (execCreditSetReceive d seq ok s) := by
  unfold execCreditSetReceive
  dsimp only
  exact (KeepsO.ticking (KeepsO.next (Keeps.when (fun _ h1 => (Keeps.ite (State.setDir_keeps h1) (linkDown_keeps h1))) h)) h)

theorem execEccWriteBack_keeps {s} (h : Keeps s0 s) : KeepsO s0 (execEccWriteBack s) := by
  unfold execEccWriteBack
  dsimp only
  exact (KeepsO.ticking (KeepsO.next h.data) h)

end Sys2Proof.Machine
end

