-- ==== Sys2Proof/Laws/KeepsPeri.lean ====
section
/-!
SUPPORT. Every operation of Machine/Peri.lean keeps the shell, and canonical maps stay canonical.
-/

namespace Sys2Proof.Machine

variable {s0 : State}

theorem i2cStore_keeps {k bs s} (h : Keeps s0 s) : Keeps s0 (i2cStore k bs s) := by
  unfold i2cStore
  dsimp only
  exact (Keeps.each (fun _ _ h1 => (State.setWord_keeps h1)) h)

theorem fcTick_keeps {s} (h : Keeps s0 s) : Keeps s0 (fcTick s) := by
  unfold fcTick
  exact (State.setFld_keeps h)

theorem i2cResult_keeps {k r nbyte s} (h : Keeps s0 s) : Keeps s0 (i2cResult k r nbyte s) := by
  unfold i2cResult
  dsimp only
  exact (Keeps.when (fun _ h1 => (State.raise_keeps (State.bump_keeps h1))) (State.raise_keeps (State.post_keeps h)))

theorem i2cGo_keeps {k addr rlen wlen held s} (h : Keeps s0 s) : Keeps s0 (i2cGo k addr rlen wlen held s) := by
  unfold i2cGo
  dsimp only
  exact (Keeps.ite
      (i2cResult_keeps h)
      (Keeps.ite (i2cResult_keeps h) (State.setFld_keeps (Keeps.step h rfl fun c => { c with i2c := SMap.wf_set _ _ c.i2c }))))

theorem execI2cTransaction_keeps {k addr rlen wlen held s} (h : Keeps s0 s) : KeepsO s0 (execI2cTransaction k addr rlen wlen held
    s) := by
  unfold execI2cTransaction
  exact (KeepsO.heard (KeepsO.next (i2cGo_keeps h)) h)

theorem gpioEdges_keeps {old new s} (h : Keeps s0 s) : Keeps s0 (gpioEdges old new s) := by
  unfold gpioEdges
  dsimp only
  exact (Keeps.when (fun _ h1 => (State.raise_keeps h1)) (State.setWord_keeps (State.setWord_keeps h)))

theorem gpioDrive_keeps {s} (h : Keeps s0 s) : Keeps s0 (gpioDrive s) := by
  unfold gpioDrive
  exact (gpioEdges_keeps h)

theorem i2cWork_keeps {k w s} (h : Keeps s0 s) : Keeps s0 (i2cWork k w s) := by
  unfold i2cWork
  dsimp only
  exact (Keeps.step h rfl fun c => { c with i2c := SMap.wf_set _ _ c.i2c })

theorem i2cClear_keeps {k sda s} (h : Keeps s0 s) : Keeps s0 (i2cClear k sda s) := by
  unfold i2cClear
  exact (Keeps.ite (State.setFld_keeps (i2cWork_keeps h)) (State.bump_keeps (State.setFld_keeps (i2cWork_keeps h))))

theorem i2cXfer_keeps {k w held sda s} (h : Keeps s0 s) : Keeps s0 (i2cXfer k w held sda s) := by
  unfold i2cXfer
  exact (Keeps.ite (Keeps.ite (i2cResult_keeps h) (i2cClear_keeps h)) (Keeps.ite (i2cGo_keeps h) h))

theorem execI2cBusClear_keeps {k sda s} (h : Keeps s0 s) : KeepsO s0 (execI2cBusClear k sda s) := by
  unfold execI2cBusClear
  exact (KeepsO.heard (KeepsO.next (i2cXfer_keeps h)) h)

theorem gpioFollow_keeps {s} (h : Keeps s0 s) : Keeps s0 (gpioFollow s) := by
  unfold gpioFollow
  exact (State.setWord_keeps h)

theorem i2cEnable_keeps {k en was sda s} (h : Keeps s0 s) : Keeps s0 (i2cEnable k en was sda s) := by
  unfold i2cEnable
  exact (Keeps.ite (i2cClear_keeps h) (Keeps.ite (State.setFld_keeps (i2cWork_keeps h)) h))

theorem execI2cBusClearDone_keeps {k freed s} (h : Keeps s0 s) : KeepsO s0 (execI2cBusClearDone k freed s) := by
  unfold execI2cBusClearDone
  dsimp only
  exact (KeepsO.ticking
      (KeepsO.next
        (Keeps.when
          (fun _ h1 =>
            (Keeps.share (i2cWork_keeps h1) fun h2 =>
              (Keeps.ite
                (i2cResult_keeps (State.setFld_keeps h2))
                (State.report_keeps (State.raise_keeps (i2cResult_keeps (State.setFld_keeps h2)))))))
          h))
      h)

theorem gpioSet_keeps {w s} (h : Keeps s0 s) : Keeps s0 (gpioSet w s) := by
  unfold gpioSet
  exact (gpioDrive_keeps (State.setWord_keeps h))

theorem gpioClr_keeps {w s} (h : Keeps s0 s) : Keeps s0 (gpioClr w s) := by
  unfold gpioClr
  exact (gpioDrive_keeps (State.setWord_keeps h))

theorem execI2cEnable_keeps {k sda s} (h : Keeps s0 s) : KeepsO s0 (execI2cEnable k sda s) := by
  unfold execI2cEnable
  exact (KeepsO.heard (KeepsO.next (i2cEnable_keeps (State.setFld_keeps h))) h)

theorem execI2cTransactionDone_keeps {k nack nbyte rx s} (h : Keeps s0 s) : KeepsO s0 (execI2cTransactionDone k nack nbyte rx s) :=
    by
  unfold execI2cTransactionDone
  dsimp only
  exact (KeepsO.ticking
      (KeepsO.next (Keeps.when (fun _ h1 => (i2cResult_keeps (State.setFld_keeps (i2cWork_keeps (i2cStore_keeps h1))))) h))
      h)

theorem i2cAbort_keeps {k r nbyte mid sda s} (h : Keeps s0 s) : Keeps s0 (i2cAbort k r nbyte mid sda s) := by
  unfold i2cAbort
  dsimp only
  exact (Keeps.share (i2cResult_keeps h) fun h1 => (Keeps.ite (i2cClear_keeps h1) (State.setFld_keeps (i2cWork_keeps h1))))

theorem execI2cArbLost_keeps {k nbyte mid sda s} (h : Keeps s0 s) : KeepsO s0 (execI2cArbLost k nbyte mid sda s) := by
  unfold execI2cArbLost
  exact (KeepsO.ticking (KeepsO.next (Keeps.when (fun _ h1 => (i2cAbort_keeps h1)) h)) h)

theorem execI2cTimeout_keeps {k nbyte mid sda s} (h : Keeps s0 s) : KeepsO s0 (execI2cTimeout k nbyte mid sda s) := by
  unfold execI2cTimeout
  dsimp only
  exact (KeepsO.ticking (KeepsO.next (Keeps.when (fun _ h1 => (i2cAbort_keeps h1)) h)) h)

theorem gpioDriven_keeps {n rise s} (h : Keeps s0 s) : Keeps s0 (gpioDriven n rise s) := by
  unfold gpioDriven
  dsimp only
  exact h.data

theorem execGpioEdge_keeps {n rise s} (h : Keeps s0 s) : KeepsO s0 (execGpioEdge n rise s) := by
  unfold execGpioEdge
  dsimp only
  exact (Keeps.share (gpioDriven_keeps h) fun h1 =>
      (KeepsO.next (Keeps.ite (gpioDrive_keeps h1) (Keeps.ite (gpioFollow_keeps h1) h1))))

theorem execGpioSet_keeps {bits s} (h : Keeps s0 s) : KeepsO s0 (execGpioSet bits s) := by
  unfold execGpioSet
  exact (KeepsO.heard (KeepsO.next (gpioSet_keeps h)) h)

theorem execGpioClr_keeps {bits s} (h : Keeps s0 s) : KeepsO s0 (execGpioClr bits s) := by
  unfold execGpioClr
  exact (KeepsO.heard (KeepsO.next (gpioClr_keeps h)) h)

theorem execI2cOtherStop_keeps {k s} (h : Keeps s0 s) : KeepsO s0 (execI2cOtherStop k s) := by
  unfold execI2cOtherStop
  exact (KeepsO.ticking (KeepsO.next (Keeps.when (fun _ h1 => (i2cWork_keeps h1)) h)) h)

end Sys2Proof.Machine
end

