-- ==== Sys2Proof/Laws/KeepsTick.lean ====
section
/-!
SUPPORT. Every operation of Machine/Tick.lean keeps the shell, and canonical maps stay canonical.
-/

namespace Sys2Proof.Machine

variable {s0 : State}

theorem tickQuires_keeps {l s} (h : Keeps s0 s) : Keeps s0 (tickQuires l s) := by
  unfold tickQuires
  dsimp only
  exact (Keeps.eachOf
      (fun _ _ h1 =>
        (Keeps.share (Keeps.ite h1 h1.data) fun h3 =>
          (Keeps.ite
            (Keeps.ite
              (State.bump_keeps h3)
              (State.report_keeps
                (State.raise_keeps
                  (State.bump_keeps
                    (by
                      split
                      · exact (State.setQueue_keeps h3)
                      · exact h3)))))
            (fxEcc_keeps h3))))
      h)

theorem tickCounts_keeps {l s} (h : Keeps s0 s) : Keeps s0 (tickCounts l s) := by
  unfold tickCounts
  exact (Keeps.eachOf
      (fun _ _ h1 =>
        (Keeps.ite
          (xingSlip_keeps h1)
          (Keeps.ite
            (sapMiscount_keeps h1)
            (Keeps.ite
              (spdiMiscount_keeps h1)
              (Keeps.ite (zklConserve_keeps h1) (Keeps.ite (qSlip_keeps h1) (State.raise_keeps (State.report_keeps h1))))))))
      h)

theorem srcChecks_keeps {s} (h : Keeps s0 s) : Keeps s0 (srcChecks s) := by
  unfold srcChecks
  dsimp only
  exact (Keeps.eachOf
      (fun _ _ h1 =>
        (Keeps.share (srcConserve_keeps h1) fun h2 =>
          (Keeps.ite
            h1
            (Keeps.ite (sapConserve_keeps h2) (Keeps.ite (sapConserve_keeps h2) (Keeps.ite (spdiConserve_keeps h2) h2))))))
      h)

theorem scrubPool_keeps {k s} (h : Keeps s0 s) : Keeps s0 (scrubPool k s) := by
  unfold scrubPool
  dsimp only
  exact (Keeps.eachOf (fun _ _ h1 => (fxEcc_keeps h1)) h.data)

theorem tickScrub_keeps {s} (h : Keeps s0 s) : Keeps s0 (tickScrub s) := by
  unfold tickScrub
  exact (mixScrub_keeps (Keeps.each (fun _ _ h1 => (scrubPool_keeps h1)) h))

theorem tickFinish_keeps {w s} (h : Keeps s0 s) : Keeps s0 (tickFinish w s) := by
  unfold tickFinish
  dsimp only
  exact (Keeps.share (spdoTick_keeps
          (spdiTick_keeps
            (sapTick_keeps
              (tickCounts_keeps
                (Keeps.eachOf
                  (fun _ _ h1 => (srcBufEcc_keeps h1))
                  (Keeps.eachOf
                    (fun _ _ h2 => (qTableError_keeps h2))
                    (Keeps.eachOf (fun _ _ h3 => (fchHistory_keeps h3)) (mixErrors_keeps (tickQuires_keeps h))))))))) fun h4 =>
      (tickScrub_keeps
        (zklTick_keeps
          (netTick_keeps
            (jackTick_keeps
              (evFlush_keeps
                (Keeps.data
                  (Keeps.when
                    (fun _ h5 => (ctlRamp_keeps h5))
                    (srcTick_keeps
                      (srcProbe_keeps
                        (micbTick_keeps
                          (Keeps.when
                            (fun _ h6 => (micTick_keeps h6))
                            (Keeps.ite
                              (nodesTick_keeps (srcChecks_keeps (qsTick_keeps h4)))
                              (fxHold_keeps (glideHold_keeps h4)))))))))))))))

theorem tickPromote_keeps {s} (h : Keeps s0 s) : Keeps s0 (tickPromote s) := by
  unfold tickPromote
  dsimp only
  exact .step h rfl fun c => { c with
    spine := SMap.wf_ite (SMap.wf_foldl (fun _ _ hm => SMap.wf_set _ _ hm) rfl) c.next
    next := SMap.wf_filter _ (SMap.wf_ite (SMap.wf_foldl (fun _ _ hm => SMap.wf_set _ _ hm) rfl) c.next) }

theorem portsLog_keeps {s} (h : Keeps s0 s) : Keeps s0 (portsLog s) := by
  unfold portsLog
  dsimp only
  exact (Keeps.data (Keeps.eachOf (fun _ _ h1 => (logReport_keeps h1)) (Keeps.eachOf (fun _ _ h2 => (logReport_keeps h2)) h)))

theorem tickWork_keeps {w s} (h : Keeps s0 s) : Keeps s0 (tickWork w s) := by
  unfold tickWork
  dsimp only
  exact (Keeps.share (winAskAll_keeps
          (qTickCheck_keeps
            (bootTick_keeps
              (nvmTick_keeps
                (fcTick_keeps
                  (timeTick_keeps
                    (svcTick_keeps
                      (Keeps.branch
                        (Keeps.when
                          (fun _ h2 => (pllRamped_keeps h2))
                          (Keeps.when
                            (fun _ h3 => (pllRamped_keeps h3))
                            (bstSense_keeps
                              (spkTick_keeps
                                (outReadbackLost_keeps
                                  (outTick_keeps (jackSend_keeps (State.tell_keeps (clockMuteDue_keeps h)))))))))
                        (fun h1 => (sinksLatch_keeps h1)))))))))) fun h4 =>
      (servoShow_keeps
        (hbLatch_keeps
          (pressCopy_keeps
            (cvRefShow_keeps
              (by
                split
                · exact (vMargin_keeps h4)
                · exact h4))))))

theorem tickMisses_keeps {w old s} (h : Keeps s0 s) : Keeps s0 (tickMisses w old s) := by
  unfold tickMisses
  dsimp only
  exact (Keeps.when (fun _ h1 => (spnTaps_keeps h1)) (spnErrors_keeps (Keeps.eachOf (fun _ _ h2 => (spnMiss_keeps h2)) h)))

theorem takeInputs_keeps {data lost s} (h : Keeps s0 s) : Keeps s0 (takeInputs data lost s) := by
  unfold takeInputs
  dsimp only
  exact (Keeps.each (fun _ _ h1 => (Keeps.when (fun _ h2 => (State.produce_keeps h2)) (ainTake_keeps h1))) h)

theorem takeAct_keeps {n s} (h : Keeps s0 s) : Keeps s0 (takeAct n s) := by
  unfold takeAct
  dsimp only
  exact (Keeps.ite
      h
      (Keeps.ite
        (outNoted_keeps h)
        (Keeps.ite (cvRefNoted_keeps h) (Keeps.ite (spkNoted_keeps h) (Keeps.ite (svcNoted_keeps h) (bstNoted_keeps h))))))

theorem takeRotation_keeps {r s} (h : Keeps s0 s) : Keeps s0 (takeRotation r s) := by
  unfold takeRotation
  dsimp only
  exact (Keeps.ite
      (outReading_keeps h)
      (Keeps.ite
        (cvReading_keeps h)
        (Keeps.ite
          (cvReading_keeps h)
          (Keeps.ite
            (spkReading_keeps h)
            (Keeps.ite
              (bstReading_keeps h)
              (Keeps.ite
                (State.post_keeps h)
                (Keeps.ite
                  (Keeps.ite (dieTemp_keeps h) h)
                  (Keeps.ite (Keeps.ite (dieTemp_keeps h) h) (Keeps.ite (Keeps.ite (dieTemp_keeps h) h) h)))))))))

theorem takeSvc_keeps {l s} (h : Keeps s0 s) : Keeps s0 (takeSvc l s) := by
  unfold takeSvc
  dsimp only
  exact (Keeps.eachOf (fun _ _ h1 => (Keeps.branchR (svcDeliver_keeps h1) (fun h3 => (takeRotation_keeps h3)))) h)

theorem takeNote_keeps {n s} (h : Keeps s0 s) : Keeps s0 (takeNote n s) := by
  unfold takeNote
  dsimp only
  exact (Keeps.eachOf
      (fun _ _ h1 => (logReport_keeps h1))
      (takeAct_keeps
        (Keeps.data
          (Keeps.eachOf (fun _ _ h2 => (State.raise_keeps h2)) (Keeps.eachOf (fun _ _ h3 => (State.setFld_keeps h3)) h)))).data)

theorem coreTake_keeps {l m s} (h : Keeps s0 s) : Keeps s0 (coreTake l m s) := by
  unfold coreTake
  exact (by
      split
      · exact (takeSvc_keeps h)
      · exact (jackTake_keeps h)
      · exact (cvLimits_keeps (outLimits_keeps h))
      · exact (takeNote_keeps h)
      · exact (pressReply_keeps h)
      · exact h)

theorem takeConv_keeps {t s} (h : Keeps s0 s) : Keeps s0 (takeConv t s) := by
  unfold takeConv
  dsimp only
  exact (Keeps.eachOf
      (fun _ _ h1 => (coreTake_keeps h1))
      (Keeps.when (fun _ h2 => (takeInputs_keeps h2)) (Keeps.when (fun _ h3 => (statTake_keeps h3)) h)))

theorem execTakePoint_keeps {cyc s} (h : Keeps s0 s) : KeepsO s0 (execTakePoint cyc s) := by
  unfold execTakePoint
  dsimp only
  exact (KeepsO.next
      (Keeps.when
        (fun _ h1 =>
          (jackForces_keeps
            (Keeps.each
              (fun _ _ h2 => (thrForces_keeps h2))
              (Keeps.eachOf
                (fun _ _ h3 => (coreTake_keeps h3))
                (takeConv_keeps
                  (Keeps.when
                    (fun _ h4 => (bstTake_keeps (spkTake_keeps h4)))
                    (Keeps.when
                      (fun _ h5 => (bstTakePower_keeps h5))
                      (dieTake_keeps
                        (dieTake_keeps
                          (linkTake_keeps (linkTake_keeps (linkTake_keeps (linkTake_keeps (State.land_keeps h1))))))))))))))
        h))

end Sys2Proof.Machine
end

