-- ==== Sys2Proof/Laws/KeepsSystem.lean ====
section
/-!
SUPPORT. Every operation of Machine/System.lean keeps the shell, and canonical maps stay canonical.
-/

namespace Sys2Proof.Machine

variable {s0 : State}

theorem causeSet_keeps {b s} (h : Keeps s0 s) : Keeps s0 (causeSet b s) := by
  unfold causeSet
  exact (State.setFld_keeps h)

theorem convUnpowered_keeps {s} (h : Keeps s0 s) : Keeps s0 (convUnpowered s) := by
  unfold convUnpowered
  dsimp only
  exact (State.setDie_keeps
      (Keeps.each
        (fun _ _ h1 => (State.setCvch_keeps h1))
        (Keeps.each (fun _ _ h2 => (outCut_keeps (State.setOch_keeps h2))) h))).data

theorem dieAlign_keeps {l s} (h : Keeps s0 s) : Keeps s0 (dieAlign l s) := by
  unfold dieAlign
  dsimp only
  exact h.data

theorem vserDown_keeps {s} (h : Keeps s0 s) : Keeps s0 (vserDown s) := by
  unfold vserDown
  dsimp only
  exact (Keeps.each
      (fun _ _ h1 => (portLinkDown_keeps h1))
      (Keeps.each
        (fun _ _ h2 => (setLstate_keeps (linkDown_keeps h2)))
        (State.report_keeps (State.bump_keeps (State.setFld_keeps h)))))

theorem vahLost_keeps {s} (h : Keeps s0 s) : Keeps s0 (vahLost s) := by
  unfold vahLost
  dsimp only
  exact (Keeps.branch h.data (fun h1 => (State.report_keeps (State.bump_keeps (State.setFld_keeps h1)))))

theorem pllcShow_keeps {band s} (h : Keeps s0 s) : Keeps s0 (pllcShow band s) := by
  unfold pllcShow
  dsimp only
  exact (Keeps.when
      (fun _ h1 => (vserDown_keeps h1))
      (pfVioShow_keeps (State.setOn_keeps (State.setOn_keeps (State.setFld_keeps (State.setFld_keeps (pllLock_keeps h)))))))

theorem restoreEnd_keeps {unit idx pass failed s} (h : Keeps s0 s) : Keeps s0 (restoreEnd unit idx pass failed s) := by
  unfold restoreEnd
  dsimp only
  exact (Keeps.ite
      (ainRestoreEnd_keeps h)
      (Keeps.ite
        (fchRestoreEnd_keeps h)
        (Keeps.ite
          (svcRestoreEnd_keeps (Keeps.ite h h.data))
          (Keeps.ite
            (spnRestoreEnd_keeps h)
            (Keeps.ite
              (mixRestoreEnd_keeps h)
              (Keeps.ite
                (fxRestoreEnd_keeps h)
                (Keeps.ite
                  (outRestoreEnd_keeps h)
                  (Keeps.ite
                    (cvRestoreEnd_keeps h)
                    (Keeps.ite (spkRestoreEnd_keeps h) (Keeps.ite (bstRestoreEnd_keeps h) h))))))))))

theorem powerUnpowered_keeps {s} (h : Keeps s0 s) : Keeps s0 (powerUnpowered s) := by
  unfold powerUnpowered
  dsimp only
  exact (State.setDie_keeps (Keeps.each (fun _ _ h1 => (spkOff_keeps h1)) h)).data

theorem execPllcSearchFail_keeps {s} (h : Keeps s0 s) : KeepsO s0 (execPllcSearchFail s) := by
  unfold execPllcSearchFail
  dsimp only
  exact (KeepsO.next (Keeps.when (fun _ h1 => (Keeps.when (fun _ h2 => (causeSet_keeps h2)) (State.setFld_keeps h1.data))) h))

theorem inputsFollow_keeps {had s} (h : Keeps s0 s) : Keeps s0 (inputsFollow had s) := by
  unfold inputsFollow
  exact (Keeps.ite (ainReturn_keeps h) (Keeps.each (fun _ _ h3 => (Keeps.ite h3 (ainRestart_keeps h3))) h))

theorem execPllLock_keeps {pll ok band s} (h : Keeps s0 s) : KeepsO s0 (execPllLock pll ok band s) := by
  unfold execPllLock
  dsimp only
  exact (KeepsO.ticking
      (KeepsO.next
        (Keeps.when
          (fun _ h1 => (dieAlign_keeps h1))
          (Keeps.when (fun _ h2 => (dieAlign_keeps h2)) (Keeps.when (fun _ h3 => (inputsFollow_keeps h3)) (pllResult_keeps h)))))
      h)

theorem execPllcUnlock_keeps {s} (h : Keeps s0 s) : KeepsO s0 (execPllcUnlock s) := by
  unfold execPllcUnlock
  dsimp only
  exact (KeepsO.next
      (Keeps.when
        (fun _ h1 =>
          (tickClockErr_keeps
            (State.report_keeps (State.setFld_keeps (State.setFld_keeps (setPll_keeps (State.bump_keeps h1)))).data)))
        h))

theorem pvinLost_keeps {s} (h : Keeps s0 s) : Keeps s0 (pvinLost s) := by
  unfold pvinLost
  dsimp only
  exact (Keeps.branch h.data (fun h1 => (State.report_keeps (State.bump_keeps (pvinOk_keeps h1)))))

theorem vahBack_keeps {s} (h : Keeps s0 s) : Keeps s0 (vahBack s) := by
  unfold vahBack
  dsimp only
  exact (Keeps.branch h.data (fun h1 => (ainReturn_keeps (State.setFld_keeps h1))))

theorem execPowerStateStepDone_keeps {s} (h : Keeps s0 s) : KeepsO s0 (execPowerStateStepDone s) := by
  unfold execPowerStateStepDone
  dsimp only
  exact (KeepsO.ticking
      (KeepsO.next (Keeps.ite h (Keeps.when (fun _ h2 => (pdmWake_keeps (fxWake_keeps (fchWake_keeps h2)))) (psStepDone_keeps h))))
      h)

theorem execGuardRestoreTestEnd_keeps {unit idx pass failed s} (h : Keeps s0 s) : KeepsO s0 (execGuardRestoreTestEnd unit idx pass
    failed s) := by
  unfold execGuardRestoreTestEnd
  exact (KeepsO.ticking
      (KeepsO.next
        (by
          split
          · exact (Keeps.ite (restoreEnd_keeps (State.endTest_keeps h)) h)
          · exact h))
      h)

theorem execSwapCrossfadeEnd_keeps {kind idx s} (h : Keeps s0 s) : KeepsO s0 (execSwapCrossfadeEnd kind idx s) := by
  unfold execSwapCrossfadeEnd
  exact (KeepsO.ticking
      (KeepsO.next
        (Keeps.ite (audSwapEnd_keeps h) (Keeps.ite (bqSwapEnd_keeps h) (Keeps.ite (convSwapEnd_keeps h) (shSwapEnd_keeps h)))))
      h)

end Sys2Proof.Machine
end

