-- ==== Sys2Proof/Laws/KeepsRead.lean ====
section
/-!
SUPPORT. Every operation of Machine/Read.lean keeps the shell, and canonical maps stay canonical.
-/

namespace Sys2Proof.Machine

variable {s0 : State}

theorem portNext_keeps {o a s} (h : Keeps s0 s) : Keeps s0 (portNext o a s) := by
  unfold portNext
  exact (Keeps.ite h (Keeps.step h rfl fun c => { c with portAddr := SMap.wf_set _ _ c.portAddr }))

theorem readPlain_keeps {o a s} (h : Keeps s0 s) : Keeps s0 (readPlain o a s) := by
  unfold readPlain
  refine State.answer_keeps (portNext_keeps ?_)
  dsimp only
  have h1 : Keeps s0 { s with
      fresh := if (SMap.get (fun _ => 0) s.fresh (regAddr a s)).testBit o.num then
          SMap.set (fun _ => 0) s.fresh (regAddr a s) (SMap.get (fun _ => 0) s.fresh (regAddr a s) - 2 ^ o.num) else s.fresh,
      latch := (latchGroup (regAddr a s)).foldl (fun l b => SMap.set (fun _ => 0) l (latchKey o b) (liveWord b s)) s.latch } :=
    .step h rfl fun c => { c with
      fresh := SMap.wf_ite (SMap.wf_set _ _ c.fresh) c.fresh
      latch := SMap.wf_foldl (fun _ _ hm => SMap.wf_set _ _ hm) c.latch }
  split
  · exact h1.data
  · exact h1

theorem readAt_keeps {o a s} (h : Keeps s0 s) : Keeps s0 (readAt o a s) := by
  unfold readAt
  dsimp only
  exact (Keeps.ite (State.answer_keeps (portNext_keeps (winRead_keeps h))) (readPlain_keeps h))

theorem execResultRegisterRead_keeps {o addr s} (h : Keeps s0 s) : KeepsO s0 (execResultRegisterRead o addr s) := by
  unfold execResultRegisterRead
  exact (KeepsO.heardFrom (KeepsO.next (readAt_keeps h)) h)

theorem execLatchedGroupRead_keeps {o addr s} (h : Keeps s0 s) : KeepsO s0 (execLatchedGroupRead o addr s) := by
  unfold execLatchedGroupRead
  exact (KeepsO.heardFrom (KeepsO.next (readPlain_keeps h)) h)

end Sys2Proof.Machine
end

