-- ==== Sys2Proof/Laws/KeepsHost.lean ====
section
/-!
SUPPORT. Every operation of Machine/Host.lean keeps the shell, and canonical maps stay canonical.
-/

namespace Sys2Proof.Machine

variable {s0 : State}

theorem bankRefuse_keeps {page inst ofs s} (h : Keeps s0 s) : Keeps s0 (bankRefuse page inst ofs s) := by
  unfold bankRefuse
  exact (State.raise_keeps (State.report_keeps (State.bump_keeps (State.viol_keeps h))))

theorem writeWindow_keeps {x s} (h : Keeps s0 s) : Keeps s0 (writeWindow x s) := by
  unfold writeWindow
  dsimp only
  exact (Keeps.ite
      (winWrite_keeps h)
      (Keeps.ite (Keeps.ite (winAbort_keeps h) (winClose_keeps h)) (Keeps.ite (Keeps.when (fun _ h8 => (winSkip_keeps h8)) h) h)))

theorem lockedWrite_keeps {page kind ofs s} (h : Keeps s0 s) : Keeps s0 (lockedWrite page kind ofs s) := by
  unfold lockedWrite
  exact (State.configFault_keeps (State.viol_keeps h))

theorem writeTypes_keeps {x s} (h : Keeps s0 s) : Keeps s0 (writeTypes x s) := by
  unfold writeTypes
  dsimp only
  exact (by
      split
      · exact h
      · exact (Keeps.branchR
            (Keeps.branch
              (State.setWord_keeps h)
              (fun h3 =>
                (Keeps.step h3 rfl fun c => { c with shadow := SMap.wf_set _ _ c.shadow, shadowMc := SMap.wf_set _ _ c.shadowMc })))
            (fun h2 => (lockedWrite_keeps h2))))

theorem writeFlt_keeps {x s} (h : Keeps s0 s) : Keeps s0 (writeFlt x s) := by
  unfold writeFlt
  dsimp only
  exact (Keeps.share (writeTypes_keeps h) fun h1 =>
      (Keeps.ite
        (Keeps.ite (State.denied_keeps h) h)
        (Keeps.ite
          (Keeps.ite h (Keeps.ite (lockedWrite_keeps h) (Keeps.ite (lockedWrite_keeps h) (lockAll_keeps h))))
          (Keeps.ite
            (Keeps.when (fun _ h14 => (fnAck_keeps h14)) h)
            (Keeps.ite
              (Keeps.when (fun _ h17 => (logClr_keeps h17)) h)
              (Keeps.ite
                (Keeps.when (fun _ h20 => (wdogKick_keeps h20)) h)
                (Keeps.ite
                  (Keeps.when (fun _ h23 => (mcRun_keeps h23)) (Keeps.when (fun _ h24 => (mcHold_keeps h24)) h1))
                  (by
                    split
                    · exact (isoSet_keeps h)
                    · exact (isoClr_keeps h)
                    · exact h1))))))))

theorem thrForceCodes_keeps {c w s} (h : Keeps s0 s) : Keeps s0 (thrForceCodes c w s) := by
  unfold thrForceCodes
  dsimp only
  exact (Keeps.each (fun _ _ h1 => (Keeps.when (fun _ h2 => (thrForceLand_keeps h2)) h1)) h)

theorem clampInF_keeps {f lo hi x} (h : Keeps s0 x.2) : Keeps s0 (clampInF f lo hi x).2 := by
  unfold clampInF
  dsimp only
  exact (Keeps.ite_2 h (State.setInt_keeps h))

theorem portError_keeps {cnt sat s} (h : Keeps s0 s) : Keeps s0 (portError cnt sat s) := by
  unfold portError
  exact (State.raise_keeps (State.bump_keeps h))

theorem execHpbStrobeConflict_keeps {s} (h : Keeps s0 s) : KeepsO s0 (execHpbStrobeConflict s) := by
  unfold execHpbStrobeConflict
  exact (KeepsO.heard (KeepsO.next (portError_keeps h)) h)

theorem writeOuts_keeps {x s} (h : Keeps s0 s) : Keeps s0 (writeOuts x s) := by
  unfold writeOuts
  dsimp only
  exact (Keeps.share (writeTypes_keeps h) fun h1 =>
      (by
        split
        · exact (Keeps.when (fun _ h2 => (outRestore_keeps h2)) (Keeps.when (fun _ h3 => (outMuteWrite_keeps h3)) h1))
        · exact (jackThrWrite_keeps h1)
        · exact (jackForceWrite_keeps h)
        · exact (by
              split
              · exact (Keeps.when (fun _ h4 => (tmrArm_keeps h4)) (Keeps.when (fun _ h5 => (tmrStop_keeps h5)) h))
              · exact (Keeps.when (fun _ h6 => (cvRestore_keeps h6)) h1)
              · exact h1)))

theorem writeBstBound_keeps {x s} (h : Keeps s0 s) : Keeps s0 (writeBstBound x s) := by
  unfold writeBstBound
  dsimp only
  exact (Keeps.branch (writeTypes_keeps h) (fun h1 => (State.viol_keeps (State.setShadow_keeps h1))))

theorem thrEnable_keeps {c k old s} (h : Keeps s0 s) : Keeps s0 (thrEnable c k old s) := by
  unfold thrEnable
  exact (Keeps.when (fun _ h1 => (thrReset_keeps h1)) h)

theorem writeFch_keeps {x s} (h : Keeps s0 s) : Keeps s0 (writeFch x s) := by
  unfold writeFch
  dsimp only
  exact (Keeps.ite
      (Keeps.when (fun _ h3 => (State.startTest_keeps h3)) h)
      (Keeps.branch
        (writeTypes_keeps h)
        (fun h4 =>
          (Keeps.ite
            (Keeps.ite (Keeps.ite (fchBankWrite_keeps h) h) h4)
            (Keeps.ite
              h
              (Keeps.ite (fchBankWrite_keeps h) (Keeps.ite (thrEnable_keeps h4) (Keeps.ite (thrForceCodes_keeps h) h4))))))))

theorem cntClear_keeps {p s} (h : Keeps s0 s) : Keeps s0 (cntClear p s) := by
  unfold cntClear
  exact (Keeps.eachOf (fun _ _ h1 => (Keeps.ite (State.setWord_keeps h1) h1)) h)

theorem lockWrite_keeps {o p one s} (h : Keeps s0 s) : Keeps s0 (lockWrite o p one s) := by
  unfold lockWrite
  dsimp only
  exact (Keeps.ite h (Keeps.ite (lockedWrite_keeps h) (Keeps.ite (lockedWrite_keeps h) (State.setFld_keeps h))))

theorem intTest_keeps {p s} (h : Keeps s0 s) : Keeps s0 (intTest p s) := by
  unfold intTest
  exact (State.raise_keeps h)

theorem writeIo_keeps {x s} (h : Keeps s0 s) : Keeps s0 (writeIo x s) := by
  unfold writeIo
  dsimp only
  exact (Keeps.share (writeTypes_keeps h) fun h1 =>
      (Keeps.ite
        (pressCmd_keeps h)
        (Keeps.ite
          (gpioSet_keeps h)
          (Keeps.ite
            (gpioClr_keeps h)
            (Keeps.ite
              (gpioDrive_keeps h1)
              (Keeps.ite
                (jCommand_keeps h)
                (Keeps.ite
                  (Keeps.when (fun _ h14 => (otpProgram_keeps h14)) h)
                  (Keeps.ite
                    (Keeps.when (fun _ h17 => (hloadGo_keeps h17)) (Keeps.when (fun _ h18 => (hloadStart_keeps h18)) h))
                    (Keeps.ite
                      (hloadData_keeps h)
                      (Keeps.ite
                        (Keeps.ite h (mboxSend_keeps h))
                        (Keeps.ite
                          (Keeps.when (fun _ h26 => (mboxAck_keeps h26)) h)
                          (Keeps.ite
                            (Keeps.ite (mboxIgnored_keeps h) h1)
                            (by
                              split
                              · exact (i2cEnable_keeps h1)
                              · exact (i2cXfer_keeps h)
                              · exact h1)))))))))))))

theorem writeFx_keeps {x s} (h : Keeps s0 s) : Keeps s0 (writeFx x s) := by
  unfold writeFx
  dsimp only
  exact (Keeps.ite
      (Keeps.each (fun _ _ h3 => (Keeps.when (fun _ h4 => (fxRestore_keeps h4)) h3)) h)
      (Keeps.ite
        (Keeps.when (fun _ h7 => (convPrep_keeps h7)) h)
        (Keeps.branch
          (writeTypes_keeps h)
          (fun h8 =>
            (Keeps.ite
              (Keeps.ite (bankRefuse_keeps h) h8)
              (Keeps.ite
                (writeTypes_keeps (dynParamWrite_keeps h))
                (Keeps.ite
                  (mkWrite_keeps h8)
                  (Keeps.ite
                    (shGainWrite_keeps h8)
                    (Keeps.ite (tapWrite_keeps h) (Keeps.ite (Keeps.ite (bankRefuse_keeps h) h8) h8))))))))))

theorem writeHeader_keeps {x s} (h : Keeps s0 s) : Keeps s0 (writeHeader x s) := by
  unfold writeHeader
  dsimp only
  exact (Keeps.share (writeTypes_keeps h) fun h1 =>
      (Keeps.ite
        (Keeps.ite (State.setFld_keeps h.data) h)
        (Keeps.ite
          (Keeps.branch
            (Keeps.when (fun _ h8 => (intTest_keeps h8)) h1)
            (fun h7 => (Keeps.ite (lockedWrite_keeps h7) (cntClear_keeps h7))))
          (Keeps.ite (lockWrite_keeps h) h1))))

theorem clampCount_keeps {a x} (h : Keeps s0 x.2) : Keeps s0 (clampCount a x) := by
  unfold clampCount
  exact (Keeps.when (fun _ h1 => (State.viol_keeps h1)) h)

theorem clampFld_keeps {f lo hi x} (h : Keeps s0 x.2) : Keeps s0 (clampFld f lo hi x).2 := by
  unfold clampFld
  dsimp only
  exact (Keeps.ite_2 h (State.setFld_keeps h))

theorem writeBound_keeps {x s} (h : Keeps s0 s) : Keeps s0 (writeBound x s) := by
  unfold writeBound
  dsimp only
  exact (Keeps.branch (writeTypes_keeps h) (fun h1 => (vBounds_keeps (clampCount_keeps (clampFld_keeps h1)))))

theorem writeClocks_keeps {x s} (h : Keeps s0 s) : Keeps s0 (writeClocks x s) := by
  unfold writeClocks
  dsimp only
  exact (Keeps.share (writeTypes_keeps h) fun h1 =>
      (Keeps.ite
        (psRequest_keeps h)
        (Keeps.ite
          (writeBound_keeps h)
          (Keeps.ite
            (vCfgAfter_keeps h1)
            (Keeps.ite
              (slewShow_keeps (refSelect_keeps (State.setFld_keeps h1)))
              (Keeps.ite
                (steerBound_keeps h1)
                (Keeps.ite
                  (Keeps.when
                    (fun _ h14 => (pllRelock_keeps h14))
                    (Keeps.when (fun _ h15 => (pllRelock_keeps h15)) (Keeps.when (fun _ h16 => (pllRelock_keeps h16)) h)))
                  (Keeps.ite (Keeps.when (fun _ h19 => (timeCommit_keeps h19)) h) (Keeps.ite (timeConvert_keeps h) h1)))))))))

theorem writeAin_keeps {x s} (h : Keeps s0 s) : Keeps s0 (writeAin x s) := by
  unfold writeAin
  dsimp only
  exact (Keeps.share (writeTypes_keeps h) fun h1 =>
      (Keeps.share (writeTypes_keeps h) fun h2 =>
        (Keeps.ite
          (Keeps.when (fun _ h5 => (matchStart_keeps h5)) h2)
          (Keeps.ite
            (clampCount_keeps (clampInF_keeps h1))
            (Keeps.ite
              (clampCount_keeps (clampInF_keeps h1))
              (Keeps.ite
                (Keeps.ite (State.setAch_keeps h2) h2)
                (Keeps.ite (Keeps.when (fun _ h14 => (ainRestore_keeps h14)) h2) h2)))))))

theorem writePorts_keeps {x s} (h : Keeps s0 s) : Keeps s0 (writePorts x s) := by
  unfold writePorts
  dsimp only
  exact (Keeps.share (writeTypes_keeps h) fun h1 =>
      (Keeps.ite
        (Keeps.when (fun _ h4 => (svcUrgent_keeps h4)) h)
        (Keeps.ite
          (Keeps.when (fun _ h7 => (svcRestore_keeps h7)) h)
          (Keeps.ite
            (Keeps.when (fun _ h10 => (sapRestart_keeps h10)) h)
            (Keeps.ite
              (Keeps.each (fun _ _ h13 => (Keeps.when (fun _ h14 => (micRestart_keeps h14)) h13)) h)
              (Keeps.ite
                (Keeps.when (fun _ h17 => (spdiRestart_keeps h17)) h)
                (Keeps.ite
                  (Keeps.when (fun _ h20 => (spnRestore_keeps h20)) h)
                  (Keeps.ite
                    (Keeps.when (fun _ h23 => (mixRestore_keeps h23)) h)
                    (by
                      split
                      · exact (Keeps.ite h1 (busMute_keeps h1))
                      · exact (Keeps.ite
                            (Keeps.when (fun _ h26 => (glideGo_keeps h26)) (Keeps.when (fun _ h27 => (glideStop_keeps h27)) h))
                            h1))))))))))

theorem writeZ_keeps {n x s} (h : Keeps s0 s) : Keeps s0 (writeZ n x s) := by
  unfold writeZ
  dsimp only
  exact (Keeps.branch
      (clampCount_keeps (clampFld_keeps (clampFld_keeps (writeTypes_keeps h))))
      (fun h1 => (Keeps.ite (State.setOn_keeps h1) (spkSetZ_keeps h1))))

theorem writeSpk_keeps {x s} (h : Keeps s0 s) : Keeps s0 (writeSpk x s) := by
  unfold writeSpk
  dsimp only
  exact (Keeps.share (writeTypes_keeps h) fun h1 =>
      (Keeps.ite
        (Keeps.when (fun _ h4 => (bstRestore_keeps h4)) h)
        (Keeps.ite
          (writeBstBound_keeps h)
          (Keeps.ite
            (Keeps.when
              (fun _ h9 => (spkRestore_keeps h9))
              (Keeps.when (fun _ h10 => (spkClear_keeps h10)) (Keeps.when (fun _ h11 => (spkMuteWrite_keeps h11)) h1)))
            (Keeps.ite (writeZ_keeps h) h1)))))

theorem queueCmd_keeps {c s} (h : Keeps s0 s) : Keeps s0 (queueCmd c s) := by
  unfold queueCmd
  exact (Keeps.ite
      (qCmdErr_keeps (qFlush_keeps h))
      (Keeps.ite
        (qCmdErr_keeps (qBmSet_keeps h))
        (Keeps.ite
          (qWithBm_keeps (fun _ _ h7 => (qBmRewind_keeps h7)) h)
          (Keeps.ite
            (qWithBm_keeps (fun _ _ h10 => (qRelease_keeps h10)) h)
            (Keeps.ite (qWithBm_keeps (fun _ _ h13 => (qBmClear_keeps h13)) h) (qCmdErr_keeps h))))))

theorem routeWrite_keeps {x s} (h : Keeps s0 s) : Keeps s0 (routeWrite x s) := by
  unfold routeWrite
  dsimp only
  exact (Keeps.branch
      (writeTypes_keeps h)
      (fun h1 =>
        (Keeps.ite
          (Keeps.ite (xpWrite_keeps h) (Keeps.ite (poolWrite_keeps h) (Keeps.ite (writeWindow_keeps h) h)))
          (Keeps.ite
            h
            (Keeps.ite
              (writeHeader_keeps h)
              (Keeps.ite
                (writeFlt_keeps h)
                (Keeps.ite
                  (writeClocks_keeps h)
                  (Keeps.ite
                    (writeIo_keeps h)
                    (Keeps.ite
                      (writeAin_keeps h)
                      (Keeps.ite
                        (writeFch_keeps h)
                        (Keeps.ite
                          (writePorts_keeps h)
                          (Keeps.ite
                            (writeFx_keeps h)
                            (Keeps.ite
                              (writeOuts_keeps h)
                              (Keeps.ite
                                (writeSpk_keeps h)
                                (Keeps.ite (queueCmd_keeps h) (Keeps.ite (tblCmd_keeps h) h1))))))))))))))))

theorem execVcoreBoundWrite_keeps {o k data s} (h : Keeps s0 s) : KeepsO s0 (execVcoreBoundWrite o k data s) := by
  unfold execVcoreBoundWrite
  exact (KeepsO.heardFrom (KeepsO.next (writeBound_keeps h)) h)

theorem tellWritten_keeps {a was s} (h : Keeps s0 s) : Keeps s0 (tellWritten a was s) := by
  unfold tellWritten
  exact (by
      split
      · exact (Keeps.ite h (State.tell_keeps h))
      · exact h)

theorem writeAt_keeps {o a w s} (h : Keeps s0 s) : Keeps s0 (writeAt o a w s) := by
  unfold writeAt
  exact (portNext_keeps (tellWritten_keeps (routeWrite_keeps h)))

theorem execRegisterWrite_keeps {o cyc addr data s} (h : Keeps s0 s) : KeepsO s0 (execRegisterWrite o cyc addr data s) := by
  unfold execRegisterWrite
  exact (KeepsO.heardFrom (KeepsO.next (writeAt_keeps (State.land_keeps h))) h)

theorem execCounterClear_keeps {o page s} (h : Keeps s0 s) : KeepsO s0 (execCounterClear o page s) := by
  unfold execCounterClear
  exact (KeepsO.heardFrom (KeepsO.next (Keeps.ite (writeHeader_keeps h) h)) h)

theorem execInterruptTest_keeps {page s} (h : Keeps s0 s) : KeepsO s0 (execInterruptTest page s) := by
  unfold execInterruptTest
  exact (KeepsO.heard (KeepsO.next (Keeps.ite (intTest_keeps h) h)) h)

theorem w1cClear_keeps {a bits again s} (h : Keeps s0 s) : Keeps s0 (w1cClear a bits again s) := by
  unfold w1cClear
  dsimp only
  exact (by
      split
      · exact h
      · exact (State.setWord_keeps h))

theorem execW1cClear_keeps {addr bits again s} (h : Keeps s0 s) : KeepsO s0 (execW1cClear addr bits again s) := by
  unfold execW1cClear
  exact (KeepsO.heard (KeepsO.next (w1cClear_keeps h)) h)

theorem execPageLock_keeps {o page s} (h : Keeps s0 s) : KeepsO s0 (execPageLock o page s) := by
  unfold execPageLock
  exact (KeepsO.heardFrom (KeepsO.next (Keeps.ite (lockWrite_keeps h) h)) h)

theorem execQsBadcmd_keeps {s} (h : Keeps s0 s) : KeepsO s0 (execQsBadcmd s) := by
  unfold execQsBadcmd
  exact (KeepsO.heard (KeepsO.next (portError_keeps h)) h)

theorem execQsPart_keeps {s} (h : Keeps s0 s) : KeepsO s0 (execQsPart s) := by
  unfold execQsPart
  exact (KeepsO.heard (KeepsO.next (portError_keeps h)) h)

theorem execI2ctPart_keeps {s} (h : Keeps s0 s) : KeepsO s0 (execI2ctPart s) := by
  unfold execI2ctPart
  exact (KeepsO.heard (KeepsO.next (portError_keeps h)) h)

end Sys2Proof.Machine
end

