-- ==== Sys2Proof/Laws/KeepsJtag.lean ====
section
/-!
SUPPORT. Every operation of Machine/Jtag.lean keeps the shell, and canonical maps stay canonical.
-/

namespace Sys2Proof.Machine

variable {s0 : State}

theorem jtagLoad_keeps {ir dr s} (h : Keeps s0 s) : Keeps s0 (jtagLoad ir dr s) := by
  unfold jtagLoad
  dsimp only
  exact h.data

theorem jtagSafe_keeps {s} (h : Keeps s0 s) : Keeps s0 (jtagSafe s) := by
  unfold jtagSafe
  dsimp only
  exact h.data

theorem execJtagIdcode_keeps {s} (h : Keeps s0 s) : KeepsO s0 (execJtagIdcode s) := by
  unfold execJtagIdcode
  exact (KeepsO.next (jtagLoad_keeps h))

theorem execJtagBypass_keeps {s} (h : Keeps s0 s) : KeepsO s0 (execJtagBypass s) := by
  unfold execJtagBypass
  exact (KeepsO.next (jtagLoad_keeps h))

theorem execJtagSamplePreload_keeps {cells preload s} (h : Keeps s0 s) : KeepsO s0 (execJtagSamplePreload cells preload s) := by
  unfold execJtagSamplePreload
  dsimp only
  exact (KeepsO.next (jtagLoad_keeps h).data)

theorem execJtagExtest_keeps {cells s} (h : Keeps s0 s) : KeepsO s0 (execJtagExtest cells s) := by
  unfold execJtagExtest
  exact (KeepsO.next (jtagSafe_keeps (jtagLoad_keeps h)))

theorem execJtagClamp_keeps {s} (h : Keeps s0 s) : KeepsO s0 (execJtagClamp s) := by
  unfold execJtagClamp
  exact (KeepsO.next (jtagSafe_keeps (jtagLoad_keeps h)))

theorem execJtagHighz_keeps {s} (h : Keeps s0 s) : KeepsO s0 (execJtagHighz s) := by
  unfold execJtagHighz
  exact (KeepsO.next (jtagSafe_keeps (jtagLoad_keeps h)))

end Sys2Proof.Machine
end

