-- ==== Sys2Proof/Laws/Start.lean ====
section
/-!
SUPPORT. What the operations that change the shell do to it: reset, supplies, start-up, the tick.
-/

namespace Sys2Proof.Machine

/-- An operation that keeps shell and maps keeps each part of the shell. -/
theorem Keeps.parts {s t : State} (k : Keeps s t) : t.phase = s.phase ∧ t.supplied = s.supplied ∧ t.resetLow = s.resetLow ∧
    t.railsDown = s.railsDown ∧ t.ports = s.ports ∧ t.tick = s.tick ∧ t.pending = s.pending := by
  simpa [State.shell] using k.shell

/-- An operation that keeps shell and maps keeps the invariant. -/
theorem State.Inv.of_keeps {s t : State} (h : s.Inv) (k : Keeps s t) : t.Inv := by
  obtain ⟨e1, e2, e3, e4, e5, e6, _⟩ := k.parts
  exact ⟨k.canonical h.canonical, by rw [e1, e3]; exact h.low, by rw [e1, e4]; exact h.rails, by rw [e1, e2]; exact h.supplied,
    by rw [e1, e6]; exact h.time, by rw [e1, e5]; exact h.ports⟩

/-- What a reset of the whole part leaves in the shell: the supplies, RESET_N, the rails and the queue stay. -/
theorem resetAll_shell (stage : Nat) (s : State) :
    (resetAll stage s).shell = ⟨.held, s.supplied, s.resetLow, s.railsDown, false, 0, s.pending⟩ := by
  have k := (nvmCollapse_keeps (stage := stage) (Keeps.refl s)).parts
  obtain ⟨_, e2, e3, e4, _, _, e7⟩ := k
  simp [resetAll, State.shell, State.setFld, State.setWord, State.reset, e2, e3, e4, e7]

/-- A reset of the whole part leaves canonical maps. -/
theorem resetAll_canonical {stage : Nat} {s : State} (h : s.Canonical) : (resetAll stage s).Canonical := by
  have c := (nvmCollapse_keeps (stage := stage) (Keeps.refl s)).canonical h
  unfold resetAll
  dsimp only
  refine (State.setFld_keeps (State.setWord_keeps (Keeps.refl _))).canonical ?_
  constructor <;> first | rfl | exact c.readData

/-- A reset of the whole part leaves the invariant. -/
theorem resetAll_inv {stage : Nat} {s : State} (h : s.Canonical) : (resetAll stage s).Inv := by
  have e := resetAll_shell stage s
  simp only [State.shell, Shell.mk.injEq] at e
  obtain ⟨e1, _, _, _, e5, e6, _⟩ := e
  exact ⟨resetAll_canonical h, by simp [e1], by simp [e1], by simp [e1], by simp [e6], by simp [e5]⟩

/-- Leaving reset: PLL_C starts to search where RESET_N is high and no rail of R88 is down. -/
theorem resetLeave_shell (por : PorIn) (s : State) :
    (resetLeave por s).shell = { s.shell with
      phase := if s.resetLow ∨ s.railsDown ≠ 0 ∨ s.phase ≠ .held then s.phase else .searching } := by
  unfold resetLeave
  split
  · rfl
  · unfold State.when
    split <;> simp [gpioFollow, State.shell, State.setOn, State.setFld, State.setWord]

theorem resetLeave_canonical {por : PorIn} {s : State} (h : s.Canonical) : (resetLeave por s).Canonical := by
  unfold resetLeave
  split
  · exact h
  · have k : Keeps s (s.when s.pwr.por (fun s =>
        ({ s with pwr := { s.pwr with por := false }, nvm := { s.nvm with trims := por.trims } }).setOn F.PWR_STATUS_IO_LEVEL por.io18)) :=
      .when (fun _ h1 => State.setOn_keeps h1.data) (Keeps.refl s)
    have c := k.canonical h
    exact (gpioFollow_keeps (Keeps.refl _)).canonical { c with }

/-- The ports answer once their tick has come. -/
theorem tickPorts_shell (s : State) :
    (tickPorts s).shell = { s.shell with ports := s.ports || decide (s.clk.portsTick ≤ s.tick) } := by
  unfold tickPorts
  by_cases hp : s.ports = true
  · simp [hp, State.shell]
  · by_cases ht : s.tick < s.clk.portsTick
    · have : ¬ s.clk.portsTick ≤ s.tick := by omega
      simp [hp, ht, this, State.shell]
    · have h1 : s.clk.portsTick ≤ s.tick := by omega
      simp only [hp, ht, decide_false, Bool.or_self, Bool.false_eq_true, if_false, (portsLog_keeps (Keeps.refl _)).shell]
      simp [h1, State.shell]

theorem tickPorts_canonical {s : State} (h : s.Canonical) : (tickPorts s).Canonical := by
  unfold tickPorts
  split
  · exact h
  · exact (portsLog_keeps (Keeps.refl _)).canonical { h with }

/-- The tick boundary counts the tick and may open the host ports. -/
theorem tickBoundary_inv {w : TickIn} {s t : State} (h : s.Inv) (e : execTickBoundary w s = .next t) :
    t.Inv ∧ t.pending = s.pending := by
  unfold execTickBoundary at e
  injection e with e
  unfold State.when at e
  split at e
  · next hr =>
    simp only [beq_iff_eq] at hr
    have k1 : Keeps s (tickPromote (linkTick (tickFinish w s))) := tickPromote_keeps (linkTick_keeps (tickFinish_keeps (.refl s)))
    have i1 := h.of_keeps k1
    obtain ⟨e1, e2, e3, e4, e5, e6, e7⟩ := k1.parts
    dsimp only at e
    generalize tickPromote (linkTick (tickFinish w s)) = u at *
    have i2 : State.Inv { u with tick := s.tick + 1, cyc := 0 } :=
      ⟨{ i1.canonical with }, i1.low, i1.rails, i1.supplied, fun x => absurd (e1.trans hr) x, i1.ports⟩
    have hp : ({ u with tick := s.tick + 1, cyc := 0 } : State).pending = s.pending := e7
    have hr2 : ({ u with tick := s.tick + 1, cyc := 0 } : State).phase = .running := e1.trans hr
    have ht : ({ u with tick := s.tick + 1, cyc := 0 } : State).tick ≠ 0 := Nat.succ_ne_zero _
    generalize ({ u with tick := s.tick + 1, cyc := 0 } : State) = v at *
    have k3 : Keeps v (tickWork w (tickMisses w (tickFinish w s) v)) := tickWork_keeps (tickMisses_keeps (.refl v))
    have i3 := i2.of_keeps k3
    obtain ⟨f1, f2, f3, f4, f5, f6, f7⟩ := k3.parts
    unfold tickStart at e
    generalize tickWork w (tickMisses w (tickFinish w s) v) = x at *
    have g := tickPorts_shell x
    simp only [State.shell, Shell.mk.injEq] at g
    obtain ⟨g1, g2, g3, g4, g5, g6, g7⟩ := g
    have i4 : (tickPorts x).Inv :=
      ⟨tickPorts_canonical i3.canonical, by rw [g1, g3]; exact i3.low, by rw [g1, g4]; exact i3.rails, by
        rw [g1, g2]; exact i3.supplied, by rw [g1, g6]; exact i3.time, fun _ => g1.trans (f1.trans hr2)⟩
    have k5 := fltTick_keeps (Keeps.refl (tickPorts x))
    exact ⟨by rw [← e]; exact i4.of_keeps k5, by rw [← e, k5.parts.2.2.2.2.2.2, g7, f7, hp]⟩
  · exact ⟨by rw [← e]; exact h, by rw [← e]⟩

end Sys2Proof.Machine
end

