-- ==== Sys2Proof/Laws/State.lean ====
section
/-!
SUPPORT. What each named update of the state leaves alone: one lemma for each field it does not touch.
-/

namespace Sys2Proof.Machine

variable (s : State)

/-! `State.setWord` -/

@[simp] theorem State.setWord_phase (a : Nat) (w : Word) : (s.setWord a w).phase = s.phase := by dsimp only [State.setWord]
@[simp] theorem State.setWord_supplied (a : Nat) (w : Word) : (s.setWord a w).supplied = s.supplied := by dsimp only [State.setWord]
@[simp] theorem State.setWord_resetLow (a : Nat) (w : Word) : (s.setWord a w).resetLow = s.resetLow := by dsimp only [State.setWord]
@[simp] theorem State.setWord_railsDown (a : Nat) (w : Word) : (s.setWord a w).railsDown = s.railsDown := by
  dsimp only [State.setWord]
@[simp] theorem State.setWord_ports (a : Nat) (w : Word) : (s.setWord a w).ports = s.ports := by dsimp only [State.setWord]
@[simp] theorem State.setWord_tick (a : Nat) (w : Word) : (s.setWord a w).tick = s.tick := by dsimp only [State.setWord]
@[simp] theorem State.setWord_cyc (a : Nat) (w : Word) : (s.setWord a w).cyc = s.cyc := by dsimp only [State.setWord]
@[simp] theorem State.setWord_shadow (a : Nat) (w : Word) : (s.setWord a w).shadow = s.shadow := by dsimp only [State.setWord]
@[simp] theorem State.setWord_shadowMc (a : Nat) (w : Word) : (s.setWord a w).shadowMc = s.shadowMc := by dsimp only [State.setWord]
@[simp] theorem State.setWord_image (a : Nat) (w : Word) : (s.setWord a w).image = s.image := by dsimp only [State.setWord]
@[simp] theorem State.setWord_imageMc (a : Nat) (w : Word) : (s.setWord a w).imageMc = s.imageMc := by dsimp only [State.setWord]
@[simp] theorem State.setWord_fresh (a : Nat) (w : Word) : (s.setWord a w).fresh = s.fresh := by dsimp only [State.setWord]
@[simp] theorem State.setWord_latch (a : Nat) (w : Word) : (s.setWord a w).latch = s.latch := by dsimp only [State.setWord]
@[simp] theorem State.setWord_readData (a : Nat) (w : Word) : (s.setWord a w).readData = s.readData := by dsimp only [State.setWord]
@[simp] theorem State.setWord_portAddr (a : Nat) (w : Word) : (s.setWord a w).portAddr = s.portAddr := by dsimp only [State.setWord]
@[simp] theorem State.setWord_link (a : Nat) (w : Word) : (s.setWord a w).link = s.link := by dsimp only [State.setWord]
@[simp] theorem State.setWord_press (a : Nat) (w : Word) : (s.setWord a w).press = s.press := by dsimp only [State.setWord]
@[simp] theorem State.setWord_flt (a : Nat) (w : Word) : (s.setWord a w).flt = s.flt := by dsimp only [State.setWord]
@[simp] theorem State.setWord_qmg (a : Nat) (w : Word) : (s.setWord a w).qmg = s.qmg := by dsimp only [State.setWord]
@[simp] theorem State.setWord_spine (a : Nat) (w : Word) : (s.setWord a w).spine = s.spine := by dsimp only [State.setWord]
@[simp] theorem State.setWord_next (a : Nat) (w : Word) : (s.setWord a w).next = s.next := by dsimp only [State.setWord]
@[simp] theorem State.setWord_tests (a : Nat) (w : Word) : (s.setWord a w).tests = s.tests := by dsimp only [State.setWord]
@[simp] theorem State.setWord_clk (a : Nat) (w : Word) : (s.setWord a w).clk = s.clk := by dsimp only [State.setWord]
@[simp] theorem State.setWord_pwr (a : Nat) (w : Word) : (s.setWord a w).pwr = s.pwr := by dsimp only [State.setWord]
@[simp] theorem State.setWord_ain (a : Nat) (w : Word) : (s.setWord a w).ain = s.ain := by dsimp only [State.setWord]
@[simp] theorem State.setWord_fch (a : Nat) (w : Word) : (s.setWord a w).fch = s.fch := by dsimp only [State.setWord]
@[simp] theorem State.setWord_svc (a : Nat) (w : Word) : (s.setWord a w).svc = s.svc := by dsimp only [State.setWord]
@[simp] theorem State.setWord_spn (a : Nat) (w : Word) : (s.setWord a w).spn = s.spn := by dsimp only [State.setWord]
@[simp] theorem State.setWord_mix (a : Nat) (w : Word) : (s.setWord a w).mix = s.mix := by dsimp only [State.setWord]
@[simp] theorem State.setWord_srcc (a : Nat) (w : Word) : (s.setWord a w).srcc = s.srcc := by dsimp only [State.setWord]
@[simp] theorem State.setWord_sap (a : Nat) (w : Word) : (s.setWord a w).sap = s.sap := by dsimp only [State.setWord]
@[simp] theorem State.setWord_spd (a : Nat) (w : Word) : (s.setWord a w).spd = s.spd := by dsimp only [State.setWord]
@[simp] theorem State.setWord_fx (a : Nat) (w : Word) : (s.setWord a w).fx = s.fx := by dsimp only [State.setWord]
@[simp] theorem State.setWord_jack (a : Nat) (w : Word) : (s.setWord a w).jack = s.jack := by dsimp only [State.setWord]
@[simp] theorem State.setWord_out (a : Nat) (w : Word) : (s.setWord a w).out = s.out := by dsimp only [State.setWord]
@[simp] theorem State.setWord_cv (a : Nat) (w : Word) : (s.setWord a w).cv = s.cv := by dsimp only [State.setWord]
@[simp] theorem State.setWord_spk (a : Nat) (w : Word) : (s.setWord a w).spk = s.spk := by dsimp only [State.setWord]
@[simp] theorem State.setWord_bst (a : Nat) (w : Word) : (s.setWord a w).bst = s.bst := by dsimp only [State.setWord]
@[simp] theorem State.setWord_time (a : Nat) (w : Word) : (s.setWord a w).time = s.time := by dsimp only [State.setWord]
@[simp] theorem State.setWord_net (a : Nat) (w : Word) : (s.setWord a w).net = s.net := by dsimp only [State.setWord]
@[simp] theorem State.setWord_zkl (a : Nat) (w : Word) : (s.setWord a w).zkl = s.zkl := by dsimp only [State.setWord]
@[simp] theorem State.setWord_nvm (a : Nat) (w : Word) : (s.setWord a w).nvm = s.nvm := by dsimp only [State.setWord]
@[simp] theorem State.setWord_i2c (a : Nat) (w : Word) : (s.setWord a w).i2c = s.i2c := by dsimp only [State.setWord]
@[simp] theorem State.setWord_gpio (a : Nat) (w : Word) : (s.setWord a w).gpio = s.gpio := by dsimp only [State.setWord]
@[simp] theorem State.setWord_jtag (a : Nat) (w : Word) : (s.setWord a w).jtag = s.jtag := by dsimp only [State.setWord]
@[simp] theorem State.setWord_free (a : Nat) (w : Word) : (s.setWord a w).free = s.free := by dsimp only [State.setWord]
@[simp] theorem State.setWord_pending (a : Nat) (w : Word) : (s.setWord a w).pending = s.pending := by dsimp only [State.setWord]

/-! `State.setFld` -/

@[simp] theorem State.setFld_phase (f : Fld) (v : Nat) : (s.setFld f v).phase = s.phase := by
  dsimp only [State.setFld, State.setWord]
@[simp] theorem State.setFld_supplied (f : Fld) (v : Nat) : (s.setFld f v).supplied = s.supplied := by
  dsimp only [State.setFld, State.setWord]
@[simp] theorem State.setFld_resetLow (f : Fld) (v : Nat) : (s.setFld f v).resetLow = s.resetLow := by
  dsimp only [State.setFld, State.setWord]
@[simp] theorem State.setFld_railsDown (f : Fld) (v : Nat) : (s.setFld f v).railsDown = s.railsDown := by
  dsimp only [State.setFld, State.setWord]
@[simp] theorem State.setFld_ports (f : Fld) (v : Nat) : (s.setFld f v).ports = s.ports := by
  dsimp only [State.setFld, State.setWord]
@[simp] theorem State.setFld_tick (f : Fld) (v : Nat) : (s.setFld f v).tick = s.tick := by dsimp only [State.setFld, State.setWord]
@[simp] theorem State.setFld_cyc (f : Fld) (v : Nat) : (s.setFld f v).cyc = s.cyc := by dsimp only [State.setFld, State.setWord]
@[simp] theorem State.setFld_shadow (f : Fld) (v : Nat) : (s.setFld f v).shadow = s.shadow := by
  dsimp only [State.setFld, State.setWord]
@[simp] theorem State.setFld_shadowMc (f : Fld) (v : Nat) : (s.setFld f v).shadowMc = s.shadowMc := by
  dsimp only [State.setFld, State.setWord]
@[simp] theorem State.setFld_image (f : Fld) (v : Nat) : (s.setFld f v).image = s.image := by
  dsimp only [State.setFld, State.setWord]
@[simp] theorem State.setFld_imageMc (f : Fld) (v : Nat) : (s.setFld f v).imageMc = s.imageMc := by
  dsimp only [State.setFld, State.setWord]
@[simp] theorem State.setFld_fresh (f : Fld) (v : Nat) : (s.setFld f v).fresh = s.fresh := by
  dsimp only [State.setFld, State.setWord]
@[simp] theorem State.setFld_latch (f : Fld) (v : Nat) : (s.setFld f v).latch = s.latch := by
  dsimp only [State.setFld, State.setWord]
@[simp] theorem State.setFld_readData (f : Fld) (v : Nat) : (s.setFld f v).readData = s.readData := by
  dsimp only [State.setFld, State.setWord]
@[simp] theorem State.setFld_portAddr (f : Fld) (v : Nat) : (s.setFld f v).portAddr = s.portAddr := by
  dsimp only [State.setFld, State.setWord]
@[simp] theorem State.setFld_link (f : Fld) (v : Nat) : (s.setFld f v).link = s.link := by dsimp only [State.setFld, State.setWord]
@[simp] theorem State.setFld_press (f : Fld) (v : Nat) : (s.setFld f v).press = s.press := by
  dsimp only [State.setFld, State.setWord]
@[simp] theorem State.setFld_flt (f : Fld) (v : Nat) : (s.setFld f v).flt = s.flt := by dsimp only [State.setFld, State.setWord]
@[simp] theorem State.setFld_qmg (f : Fld) (v : Nat) : (s.setFld f v).qmg = s.qmg := by dsimp only [State.setFld, State.setWord]
@[simp] theorem State.setFld_spine (f : Fld) (v : Nat) : (s.setFld f v).spine = s.spine := by
  dsimp only [State.setFld, State.setWord]
@[simp] theorem State.setFld_next (f : Fld) (v : Nat) : (s.setFld f v).next = s.next := by dsimp only [State.setFld, State.setWord]
@[simp] theorem State.setFld_tests (f : Fld) (v : Nat) : (s.setFld f v).tests = s.tests := by
  dsimp only [State.setFld, State.setWord]
@[simp] theorem State.setFld_clk (f : Fld) (v : Nat) : (s.setFld f v).clk = s.clk := by dsimp only [State.setFld, State.setWord]
@[simp] theorem State.setFld_pwr (f : Fld) (v : Nat) : (s.setFld f v).pwr = s.pwr := by dsimp only [State.setFld, State.setWord]
@[simp] theorem State.setFld_ain (f : Fld) (v : Nat) : (s.setFld f v).ain = s.ain := by dsimp only [State.setFld, State.setWord]
@[simp] theorem State.setFld_fch (f : Fld) (v : Nat) : (s.setFld f v).fch = s.fch := by dsimp only [State.setFld, State.setWord]
@[simp] theorem State.setFld_svc (f : Fld) (v : Nat) : (s.setFld f v).svc = s.svc := by dsimp only [State.setFld, State.setWord]
@[simp] theorem State.setFld_spn (f : Fld) (v : Nat) : (s.setFld f v).spn = s.spn := by dsimp only [State.setFld, State.setWord]
@[simp] theorem State.setFld_mix (f : Fld) (v : Nat) : (s.setFld f v).mix = s.mix := by dsimp only [State.setFld, State.setWord]
@[simp] theorem State.setFld_srcc (f : Fld) (v : Nat) : (s.setFld f v).srcc = s.srcc := by dsimp only [State.setFld, State.setWord]
@[simp] theorem State.setFld_sap (f : Fld) (v : Nat) : (s.setFld f v).sap = s.sap := by dsimp only [State.setFld, State.setWord]
@[simp] theorem State.setFld_spd (f : Fld) (v : Nat) : (s.setFld f v).spd = s.spd := by dsimp only [State.setFld, State.setWord]
@[simp] theorem State.setFld_fx (f : Fld) (v : Nat) : (s.setFld f v).fx = s.fx := by dsimp only [State.setFld, State.setWord]
@[simp] theorem State.setFld_jack (f : Fld) (v : Nat) : (s.setFld f v).jack = s.jack := by dsimp only [State.setFld, State.setWord]
@[simp] theorem State.setFld_out (f : Fld) (v : Nat) : (s.setFld f v).out = s.out := by dsimp only [State.setFld, State.setWord]
@[simp] theorem State.setFld_cv (f : Fld) (v : Nat) : (s.setFld f v).cv = s.cv := by dsimp only [State.setFld, State.setWord]
@[simp] theorem State.setFld_spk (f : Fld) (v : Nat) : (s.setFld f v).spk = s.spk := by dsimp only [State.setFld, State.setWord]
@[simp] theorem State.setFld_bst (f : Fld) (v : Nat) : (s.setFld f v).bst = s.bst := by dsimp only [State.setFld, State.setWord]
@[simp] theorem State.setFld_time (f : Fld) (v : Nat) : (s.setFld f v).time = s.time := by dsimp only [State.setFld, State.setWord]
@[simp] theorem State.setFld_net (f : Fld) (v : Nat) : (s.setFld f v).net = s.net := by dsimp only [State.setFld, State.setWord]
@[simp] theorem State.setFld_zkl (f : Fld) (v : Nat) : (s.setFld f v).zkl = s.zkl := by dsimp only [State.setFld, State.setWord]
@[simp] theorem State.setFld_nvm (f : Fld) (v : Nat) : (s.setFld f v).nvm = s.nvm := by dsimp only [State.setFld, State.setWord]
@[simp] theorem State.setFld_i2c (f : Fld) (v : Nat) : (s.setFld f v).i2c = s.i2c := by dsimp only [State.setFld, State.setWord]
@[simp] theorem State.setFld_gpio (f : Fld) (v : Nat) : (s.setFld f v).gpio = s.gpio := by dsimp only [State.setFld, State.setWord]
@[simp] theorem State.setFld_jtag (f : Fld) (v : Nat) : (s.setFld f v).jtag = s.jtag := by dsimp only [State.setFld, State.setWord]
@[simp] theorem State.setFld_free (f : Fld) (v : Nat) : (s.setFld f v).free = s.free := by dsimp only [State.setFld, State.setWord]
@[simp] theorem State.setFld_pending (f : Fld) (v : Nat) : (s.setFld f v).pending = s.pending := by
  dsimp only [State.setFld, State.setWord]

/-! `State.setOn` -/

@[simp] theorem State.setOn_phase (f : Fld) (b : Bool) : (s.setOn f b).phase = s.phase := by
  dsimp only [State.setOn, State.setFld, State.setWord]
@[simp] theorem State.setOn_supplied (f : Fld) (b : Bool) : (s.setOn f b).supplied = s.supplied := by
  dsimp only [State.setOn, State.setFld, State.setWord]
@[simp] theorem State.setOn_resetLow (f : Fld) (b : Bool) : (s.setOn f b).resetLow = s.resetLow := by
  dsimp only [State.setOn, State.setFld, State.setWord]
@[simp] theorem State.setOn_railsDown (f : Fld) (b : Bool) : (s.setOn f b).railsDown = s.railsDown := by
  dsimp only [State.setOn, State.setFld, State.setWord]
@[simp] theorem State.setOn_ports (f : Fld) (b : Bool) : (s.setOn f b).ports = s.ports := by
  dsimp only [State.setOn, State.setFld, State.setWord]
@[simp] theorem State.setOn_tick (f : Fld) (b : Bool) : (s.setOn f b).tick = s.tick := by
  dsimp only [State.setOn, State.setFld, State.setWord]
@[simp] theorem State.setOn_cyc (f : Fld) (b : Bool) : (s.setOn f b).cyc = s.cyc := by
  dsimp only [State.setOn, State.setFld, State.setWord]
@[simp] theorem State.setOn_shadow (f : Fld) (b : Bool) : (s.setOn f b).shadow = s.shadow := by
  dsimp only [State.setOn, State.setFld, State.setWord]
@[simp] theorem State.setOn_shadowMc (f : Fld) (b : Bool) : (s.setOn f b).shadowMc = s.shadowMc := by
  dsimp only [State.setOn, State.setFld, State.setWord]
@[simp] theorem State.setOn_image (f : Fld) (b : Bool) : (s.setOn f b).image = s.image := by
  dsimp only [State.setOn, State.setFld, State.setWord]
@[simp] theorem State.setOn_imageMc (f : Fld) (b : Bool) : (s.setOn f b).imageMc = s.imageMc := by
  dsimp only [State.setOn, State.setFld, State.setWord]
@[simp] theorem State.setOn_fresh (f : Fld) (b : Bool) : (s.setOn f b).fresh = s.fresh := by
  dsimp only [State.setOn, State.setFld, State.setWord]
@[simp] theorem State.setOn_latch (f : Fld) (b : Bool) : (s.setOn f b).latch = s.latch := by
  dsimp only [State.setOn, State.setFld, State.setWord]
@[simp] theorem State.setOn_readData (f : Fld) (b : Bool) : (s.setOn f b).readData = s.readData := by
  dsimp only [State.setOn, State.setFld, State.setWord]
@[simp] theorem State.setOn_portAddr (f : Fld) (b : Bool) : (s.setOn f b).portAddr = s.portAddr := by
  dsimp only [State.setOn, State.setFld, State.setWord]
@[simp] theorem State.setOn_link (f : Fld) (b : Bool) : (s.setOn f b).link = s.link := by
  dsimp only [State.setOn, State.setFld, State.setWord]
@[simp] theorem State.setOn_press (f : Fld) (b : Bool) : (s.setOn f b).press = s.press := by
  dsimp only [State.setOn, State.setFld, State.setWord]
@[simp] theorem State.setOn_flt (f : Fld) (b : Bool) : (s.setOn f b).flt = s.flt := by
  dsimp only [State.setOn, State.setFld, State.setWord]
@[simp] theorem State.setOn_qmg (f : Fld) (b : Bool) : (s.setOn f b).qmg = s.qmg := by
  dsimp only [State.setOn, State.setFld, State.setWord]
@[simp] theorem State.setOn_spine (f : Fld) (b : Bool) : (s.setOn f b).spine = s.spine := by
  dsimp only [State.setOn, State.setFld, State.setWord]
@[simp] theorem State.setOn_next (f : Fld) (b : Bool) : (s.setOn f b).next = s.next := by
  dsimp only [State.setOn, State.setFld, State.setWord]
@[simp] theorem State.setOn_tests (f : Fld) (b : Bool) : (s.setOn f b).tests = s.tests := by
  dsimp only [State.setOn, State.setFld, State.setWord]
@[simp] theorem State.setOn_clk (f : Fld) (b : Bool) : (s.setOn f b).clk = s.clk := by
  dsimp only [State.setOn, State.setFld, State.setWord]
@[simp] theorem State.setOn_pwr (f : Fld) (b : Bool) : (s.setOn f b).pwr = s.pwr := by
  dsimp only [State.setOn, State.setFld, State.setWord]
@[simp] theorem State.setOn_ain (f : Fld) (b : Bool) : (s.setOn f b).ain = s.ain := by
  dsimp only [State.setOn, State.setFld, State.setWord]
@[simp] theorem State.setOn_fch (f : Fld) (b : Bool) : (s.setOn f b).fch = s.fch := by
  dsimp only [State.setOn, State.setFld, State.setWord]
@[simp] theorem State.setOn_svc (f : Fld) (b : Bool) : (s.setOn f b).svc = s.svc := by
  dsimp only [State.setOn, State.setFld, State.setWord]
@[simp] theorem State.setOn_spn (f : Fld) (b : Bool) : (s.setOn f b).spn = s.spn := by
  dsimp only [State.setOn, State.setFld, State.setWord]
@[simp] theorem State.setOn_mix (f : Fld) (b : Bool) : (s.setOn f b).mix = s.mix := by
  dsimp only [State.setOn, State.setFld, State.setWord]
@[simp] theorem State.setOn_srcc (f : Fld) (b : Bool) : (s.setOn f b).srcc = s.srcc := by
  dsimp only [State.setOn, State.setFld, State.setWord]
@[simp] theorem State.setOn_sap (f : Fld) (b : Bool) : (s.setOn f b).sap = s.sap := by
  dsimp only [State.setOn, State.setFld, State.setWord]
@[simp] theorem State.setOn_spd (f : Fld) (b : Bool) : (s.setOn f b).spd = s.spd := by
  dsimp only [State.setOn, State.setFld, State.setWord]
@[simp] theorem State.setOn_fx (f : Fld) (b : Bool) : (s.setOn f b).fx = s.fx := by
  dsimp only [State.setOn, State.setFld, State.setWord]
@[simp] theorem State.setOn_jack (f : Fld) (b : Bool) : (s.setOn f b).jack = s.jack := by
  dsimp only [State.setOn, State.setFld, State.setWord]
@[simp] theorem State.setOn_out (f : Fld) (b : Bool) : (s.setOn f b).out = s.out := by
  dsimp only [State.setOn, State.setFld, State.setWord]
@[simp] theorem State.setOn_cv (f : Fld) (b : Bool) : (s.setOn f b).cv = s.cv := by
  dsimp only [State.setOn, State.setFld, State.setWord]
@[simp] theorem State.setOn_spk (f : Fld) (b : Bool) : (s.setOn f b).spk = s.spk := by
  dsimp only [State.setOn, State.setFld, State.setWord]
@[simp] theorem State.setOn_bst (f : Fld) (b : Bool) : (s.setOn f b).bst = s.bst := by
  dsimp only [State.setOn, State.setFld, State.setWord]
@[simp] theorem State.setOn_time (f : Fld) (b : Bool) : (s.setOn f b).time = s.time := by
  dsimp only [State.setOn, State.setFld, State.setWord]
@[simp] theorem State.setOn_net (f : Fld) (b : Bool) : (s.setOn f b).net = s.net := by
  dsimp only [State.setOn, State.setFld, State.setWord]
@[simp] theorem State.setOn_zkl (f : Fld) (b : Bool) : (s.setOn f b).zkl = s.zkl := by
  dsimp only [State.setOn, State.setFld, State.setWord]
@[simp] theorem State.setOn_nvm (f : Fld) (b : Bool) : (s.setOn f b).nvm = s.nvm := by
  dsimp only [State.setOn, State.setFld, State.setWord]
@[simp] theorem State.setOn_i2c (f : Fld) (b : Bool) : (s.setOn f b).i2c = s.i2c := by
  dsimp only [State.setOn, State.setFld, State.setWord]
@[simp] theorem State.setOn_gpio (f : Fld) (b : Bool) : (s.setOn f b).gpio = s.gpio := by
  dsimp only [State.setOn, State.setFld, State.setWord]
@[simp] theorem State.setOn_jtag (f : Fld) (b : Bool) : (s.setOn f b).jtag = s.jtag := by
  dsimp only [State.setOn, State.setFld, State.setWord]
@[simp] theorem State.setOn_free (f : Fld) (b : Bool) : (s.setOn f b).free = s.free := by
  dsimp only [State.setOn, State.setFld, State.setWord]
@[simp] theorem State.setOn_pending (f : Fld) (b : Bool) : (s.setOn f b).pending = s.pending := by
  dsimp only [State.setOn, State.setFld, State.setWord]

/-! `State.setInt` -/

@[simp] theorem State.setInt_phase (f : Fld) (v : Int) : (s.setInt f v).phase = s.phase := by
  dsimp only [State.setInt, State.setFld, State.setWord]
@[simp] theorem State.setInt_supplied (f : Fld) (v : Int) : (s.setInt f v).supplied = s.supplied := by
  dsimp only [State.setInt, State.setFld, State.setWord]
@[simp] theorem State.setInt_resetLow (f : Fld) (v : Int) : (s.setInt f v).resetLow = s.resetLow := by
  dsimp only [State.setInt, State.setFld, State.setWord]
@[simp] theorem State.setInt_railsDown (f : Fld) (v : Int) : (s.setInt f v).railsDown = s.railsDown := by
  dsimp only [State.setInt, State.setFld, State.setWord]
@[simp] theorem State.setInt_ports (f : Fld) (v : Int) : (s.setInt f v).ports = s.ports := by
  dsimp only [State.setInt, State.setFld, State.setWord]
@[simp] theorem State.setInt_tick (f : Fld) (v : Int) : (s.setInt f v).tick = s.tick := by
  dsimp only [State.setInt, State.setFld, State.setWord]
@[simp] theorem State.setInt_cyc (f : Fld) (v : Int) : (s.setInt f v).cyc = s.cyc := by
  dsimp only [State.setInt, State.setFld, State.setWord]
@[simp] theorem State.setInt_shadow (f : Fld) (v : Int) : (s.setInt f v).shadow = s.shadow := by
  dsimp only [State.setInt, State.setFld, State.setWord]
@[simp] theorem State.setInt_shadowMc (f : Fld) (v : Int) : (s.setInt f v).shadowMc = s.shadowMc := by
  dsimp only [State.setInt, State.setFld, State.setWord]
@[simp] theorem State.setInt_image (f : Fld) (v : Int) : (s.setInt f v).image = s.image := by
  dsimp only [State.setInt, State.setFld, State.setWord]
@[simp] theorem State.setInt_imageMc (f : Fld) (v : Int) : (s.setInt f v).imageMc = s.imageMc := by
  dsimp only [State.setInt, State.setFld, State.setWord]
@[simp] theorem State.setInt_fresh (f : Fld) (v : Int) : (s.setInt f v).fresh = s.fresh := by
  dsimp only [State.setInt, State.setFld, State.setWord]
@[simp] theorem State.setInt_latch (f : Fld) (v : Int) : (s.setInt f v).latch = s.latch := by
  dsimp only [State.setInt, State.setFld, State.setWord]
@[simp] theorem State.setInt_readData (f : Fld) (v : Int) : (s.setInt f v).readData = s.readData := by
  dsimp only [State.setInt, State.setFld, State.setWord]
@[simp] theorem State.setInt_portAddr (f : Fld) (v : Int) : (s.setInt f v).portAddr = s.portAddr := by
  dsimp only [State.setInt, State.setFld, State.setWord]
@[simp] theorem State.setInt_link (f : Fld) (v : Int) : (s.setInt f v).link = s.link := by
  dsimp only [State.setInt, State.setFld, State.setWord]
@[simp] theorem State.setInt_press (f : Fld) (v : Int) : (s.setInt f v).press = s.press := by
  dsimp only [State.setInt, State.setFld, State.setWord]
@[simp] theorem State.setInt_flt (f : Fld) (v : Int) : (s.setInt f v).flt = s.flt := by
  dsimp only [State.setInt, State.setFld, State.setWord]
@[simp] theorem State.setInt_qmg (f : Fld) (v : Int) : (s.setInt f v).qmg = s.qmg := by
  dsimp only [State.setInt, State.setFld, State.setWord]
@[simp] theorem State.setInt_spine (f : Fld) (v : Int) : (s.setInt f v).spine = s.spine := by
  dsimp only [State.setInt, State.setFld, State.setWord]
@[simp] theorem State.setInt_next (f : Fld) (v : Int) : (s.setInt f v).next = s.next := by
  dsimp only [State.setInt, State.setFld, State.setWord]
@[simp] theorem State.setInt_tests (f : Fld) (v : Int) : (s.setInt f v).tests = s.tests := by
  dsimp only [State.setInt, State.setFld, State.setWord]
@[simp] theorem State.setInt_clk (f : Fld) (v : Int) : (s.setInt f v).clk = s.clk := by
  dsimp only [State.setInt, State.setFld, State.setWord]
@[simp] theorem State.setInt_pwr (f : Fld) (v : Int) : (s.setInt f v).pwr = s.pwr := by
  dsimp only [State.setInt, State.setFld, State.setWord]
@[simp] theorem State.setInt_ain (f : Fld) (v : Int) : (s.setInt f v).ain = s.ain := by
  dsimp only [State.setInt, State.setFld, State.setWord]
@[simp] theorem State.setInt_fch (f : Fld) (v : Int) : (s.setInt f v).fch = s.fch := by
  dsimp only [State.setInt, State.setFld, State.setWord]
@[simp] theorem State.setInt_svc (f : Fld) (v : Int) : (s.setInt f v).svc = s.svc := by
  dsimp only [State.setInt, State.setFld, State.setWord]
@[simp] theorem State.setInt_spn (f : Fld) (v : Int) : (s.setInt f v).spn = s.spn := by
  dsimp only [State.setInt, State.setFld, State.setWord]
@[simp] theorem State.setInt_mix (f : Fld) (v : Int) : (s.setInt f v).mix = s.mix := by
  dsimp only [State.setInt, State.setFld, State.setWord]
@[simp] theorem State.setInt_srcc (f : Fld) (v : Int) : (s.setInt f v).srcc = s.srcc := by
  dsimp only [State.setInt, State.setFld, State.setWord]
@[simp] theorem State.setInt_sap (f : Fld) (v : Int) : (s.setInt f v).sap = s.sap := by
  dsimp only [State.setInt, State.setFld, State.setWord]
@[simp] theorem State.setInt_spd (f : Fld) (v : Int) : (s.setInt f v).spd = s.spd := by
  dsimp only [State.setInt, State.setFld, State.setWord]
@[simp] theorem State.setInt_fx (f : Fld) (v : Int) : (s.setInt f v).fx = s.fx := by
  dsimp only [State.setInt, State.setFld, State.setWord]
@[simp] theorem State.setInt_jack (f : Fld) (v : Int) : (s.setInt f v).jack = s.jack := by
  dsimp only [State.setInt, State.setFld, State.setWord]
@[simp] theorem State.setInt_out (f : Fld) (v : Int) : (s.setInt f v).out = s.out := by
  dsimp only [State.setInt, State.setFld, State.setWord]
@[simp] theorem State.setInt_cv (f : Fld) (v : Int) : (s.setInt f v).cv = s.cv := by
  dsimp only [State.setInt, State.setFld, State.setWord]
@[simp] theorem State.setInt_spk (f : Fld) (v : Int) : (s.setInt f v).spk = s.spk := by
  dsimp only [State.setInt, State.setFld, State.setWord]
@[simp] theorem State.setInt_bst (f : Fld) (v : Int) : (s.setInt f v).bst = s.bst := by
  dsimp only [State.setInt, State.setFld, State.setWord]
@[simp] theorem State.setInt_time (f : Fld) (v : Int) : (s.setInt f v).time = s.time := by
  dsimp only [State.setInt, State.setFld, State.setWord]
@[simp] theorem State.setInt_net (f : Fld) (v : Int) : (s.setInt f v).net = s.net := by
  dsimp only [State.setInt, State.setFld, State.setWord]
@[simp] theorem State.setInt_zkl (f : Fld) (v : Int) : (s.setInt f v).zkl = s.zkl := by
  dsimp only [State.setInt, State.setFld, State.setWord]
@[simp] theorem State.setInt_nvm (f : Fld) (v : Int) : (s.setInt f v).nvm = s.nvm := by
  dsimp only [State.setInt, State.setFld, State.setWord]
@[simp] theorem State.setInt_i2c (f : Fld) (v : Int) : (s.setInt f v).i2c = s.i2c := by
  dsimp only [State.setInt, State.setFld, State.setWord]
@[simp] theorem State.setInt_gpio (f : Fld) (v : Int) : (s.setInt f v).gpio = s.gpio := by
  dsimp only [State.setInt, State.setFld, State.setWord]
@[simp] theorem State.setInt_jtag (f : Fld) (v : Int) : (s.setInt f v).jtag = s.jtag := by
  dsimp only [State.setInt, State.setFld, State.setWord]
@[simp] theorem State.setInt_free (f : Fld) (v : Int) : (s.setInt f v).free = s.free := by
  dsimp only [State.setInt, State.setFld, State.setWord]
@[simp] theorem State.setInt_pending (f : Fld) (v : Int) : (s.setInt f v).pending = s.pending := by
  dsimp only [State.setInt, State.setFld, State.setWord]

/-! `State.raise` -/

@[simp] theorem State.raise_phase (p k : Nat) : (s.raise p k).phase = s.phase := by
  dsimp only [State.raise, State.setFld, State.setWord]
@[simp] theorem State.raise_supplied (p k : Nat) : (s.raise p k).supplied = s.supplied := by
  dsimp only [State.raise, State.setFld, State.setWord]
@[simp] theorem State.raise_resetLow (p k : Nat) : (s.raise p k).resetLow = s.resetLow := by
  dsimp only [State.raise, State.setFld, State.setWord]
@[simp] theorem State.raise_railsDown (p k : Nat) : (s.raise p k).railsDown = s.railsDown := by
  dsimp only [State.raise, State.setFld, State.setWord]
@[simp] theorem State.raise_ports (p k : Nat) : (s.raise p k).ports = s.ports := by
  dsimp only [State.raise, State.setFld, State.setWord]
@[simp] theorem State.raise_tick (p k : Nat) : (s.raise p k).tick = s.tick := by
  dsimp only [State.raise, State.setFld, State.setWord]
@[simp] theorem State.raise_cyc (p k : Nat) : (s.raise p k).cyc = s.cyc := by dsimp only [State.raise, State.setFld, State.setWord]
@[simp] theorem State.raise_shadow (p k : Nat) : (s.raise p k).shadow = s.shadow := by
  dsimp only [State.raise, State.setFld, State.setWord]
@[simp] theorem State.raise_shadowMc (p k : Nat) : (s.raise p k).shadowMc = s.shadowMc := by
  dsimp only [State.raise, State.setFld, State.setWord]
@[simp] theorem State.raise_image (p k : Nat) : (s.raise p k).image = s.image := by
  dsimp only [State.raise, State.setFld, State.setWord]
@[simp] theorem State.raise_imageMc (p k : Nat) : (s.raise p k).imageMc = s.imageMc := by
  dsimp only [State.raise, State.setFld, State.setWord]
@[simp] theorem State.raise_fresh (p k : Nat) : (s.raise p k).fresh = s.fresh := by
  dsimp only [State.raise, State.setFld, State.setWord]
@[simp] theorem State.raise_latch (p k : Nat) : (s.raise p k).latch = s.latch := by
  dsimp only [State.raise, State.setFld, State.setWord]
@[simp] theorem State.raise_readData (p k : Nat) : (s.raise p k).readData = s.readData := by
  dsimp only [State.raise, State.setFld, State.setWord]
@[simp] theorem State.raise_portAddr (p k : Nat) : (s.raise p k).portAddr = s.portAddr := by
  dsimp only [State.raise, State.setFld, State.setWord]
@[simp] theorem State.raise_link (p k : Nat) : (s.raise p k).link = s.link := by
  dsimp only [State.raise, State.setFld, State.setWord]
@[simp] theorem State.raise_press (p k : Nat) : (s.raise p k).press = s.press := by
  dsimp only [State.raise, State.setFld, State.setWord]
@[simp] theorem State.raise_flt (p k : Nat) : (s.raise p k).flt = s.flt := by dsimp only [State.raise, State.setFld, State.setWord]
@[simp] theorem State.raise_qmg (p k : Nat) : (s.raise p k).qmg = s.qmg := by dsimp only [State.raise, State.setFld, State.setWord]
@[simp] theorem State.raise_spine (p k : Nat) : (s.raise p k).spine = s.spine := by
  dsimp only [State.raise, State.setFld, State.setWord]
@[simp] theorem State.raise_next (p k : Nat) : (s.raise p k).next = s.next := by
  dsimp only [State.raise, State.setFld, State.setWord]
@[simp] theorem State.raise_tests (p k : Nat) : (s.raise p k).tests = s.tests := by
  dsimp only [State.raise, State.setFld, State.setWord]
@[simp] theorem State.raise_clk (p k : Nat) : (s.raise p k).clk = s.clk := by dsimp only [State.raise, State.setFld, State.setWord]
@[simp] theorem State.raise_pwr (p k : Nat) : (s.raise p k).pwr = s.pwr := by dsimp only [State.raise, State.setFld, State.setWord]
@[simp] theorem State.raise_ain (p k : Nat) : (s.raise p k).ain = s.ain := by dsimp only [State.raise, State.setFld, State.setWord]
@[simp] theorem State.raise_fch (p k : Nat) : (s.raise p k).fch = s.fch := by dsimp only [State.raise, State.setFld, State.setWord]
@[simp] theorem State.raise_svc (p k : Nat) : (s.raise p k).svc = s.svc := by dsimp only [State.raise, State.setFld, State.setWord]
@[simp] theorem State.raise_spn (p k : Nat) : (s.raise p k).spn = s.spn := by dsimp only [State.raise, State.setFld, State.setWord]
@[simp] theorem State.raise_mix (p k : Nat) : (s.raise p k).mix = s.mix := by dsimp only [State.raise, State.setFld, State.setWord]
@[simp] theorem State.raise_srcc (p k : Nat) : (s.raise p k).srcc = s.srcc := by
  dsimp only [State.raise, State.setFld, State.setWord]
@[simp] theorem State.raise_sap (p k : Nat) : (s.raise p k).sap = s.sap := by dsimp only [State.raise, State.setFld, State.setWord]
@[simp] theorem State.raise_spd (p k : Nat) : (s.raise p k).spd = s.spd := by dsimp only [State.raise, State.setFld, State.setWord]
@[simp] theorem State.raise_fx (p k : Nat) : (s.raise p k).fx = s.fx := by dsimp only [State.raise, State.setFld, State.setWord]
@[simp] theorem State.raise_jack (p k : Nat) : (s.raise p k).jack = s.jack := by
  dsimp only [State.raise, State.setFld, State.setWord]
@[simp] theorem State.raise_out (p k : Nat) : (s.raise p k).out = s.out := by dsimp only [State.raise, State.setFld, State.setWord]
@[simp] theorem State.raise_cv (p k : Nat) : (s.raise p k).cv = s.cv := by dsimp only [State.raise, State.setFld, State.setWord]
@[simp] theorem State.raise_spk (p k : Nat) : (s.raise p k).spk = s.spk := by dsimp only [State.raise, State.setFld, State.setWord]
@[simp] theorem State.raise_bst (p k : Nat) : (s.raise p k).bst = s.bst := by dsimp only [State.raise, State.setFld, State.setWord]
@[simp] theorem State.raise_time (p k : Nat) : (s.raise p k).time = s.time := by
  dsimp only [State.raise, State.setFld, State.setWord]
@[simp] theorem State.raise_net (p k : Nat) : (s.raise p k).net = s.net := by dsimp only [State.raise, State.setFld, State.setWord]
@[simp] theorem State.raise_zkl (p k : Nat) : (s.raise p k).zkl = s.zkl := by dsimp only [State.raise, State.setFld, State.setWord]
@[simp] theorem State.raise_nvm (p k : Nat) : (s.raise p k).nvm = s.nvm := by dsimp only [State.raise, State.setFld, State.setWord]
@[simp] theorem State.raise_i2c (p k : Nat) : (s.raise p k).i2c = s.i2c := by dsimp only [State.raise, State.setFld, State.setWord]
@[simp] theorem State.raise_gpio (p k : Nat) : (s.raise p k).gpio = s.gpio := by
  dsimp only [State.raise, State.setFld, State.setWord]
@[simp] theorem State.raise_jtag (p k : Nat) : (s.raise p k).jtag = s.jtag := by
  dsimp only [State.raise, State.setFld, State.setWord]
@[simp] theorem State.raise_free (p k : Nat) : (s.raise p k).free = s.free := by
  dsimp only [State.raise, State.setFld, State.setWord]
@[simp] theorem State.raise_pending (p k : Nat) : (s.raise p k).pending = s.pending := by
  dsimp only [State.raise, State.setFld, State.setWord]

/-! `State.land` -/

@[simp] theorem State.land_phase (c : Nat) : (s.land c).phase = s.phase := by dsimp only [State.land]
@[simp] theorem State.land_supplied (c : Nat) : (s.land c).supplied = s.supplied := by dsimp only [State.land]
@[simp] theorem State.land_resetLow (c : Nat) : (s.land c).resetLow = s.resetLow := by dsimp only [State.land]
@[simp] theorem State.land_railsDown (c : Nat) : (s.land c).railsDown = s.railsDown := by dsimp only [State.land]
@[simp] theorem State.land_ports (c : Nat) : (s.land c).ports = s.ports := by dsimp only [State.land]
@[simp] theorem State.land_tick (c : Nat) : (s.land c).tick = s.tick := by dsimp only [State.land]
@[simp] theorem State.land_regs (c : Nat) : (s.land c).regs = s.regs := by dsimp only [State.land]
@[simp] theorem State.land_shadow (c : Nat) : (s.land c).shadow = s.shadow := by dsimp only [State.land]
@[simp] theorem State.land_shadowMc (c : Nat) : (s.land c).shadowMc = s.shadowMc := by dsimp only [State.land]
@[simp] theorem State.land_image (c : Nat) : (s.land c).image = s.image := by dsimp only [State.land]
@[simp] theorem State.land_imageMc (c : Nat) : (s.land c).imageMc = s.imageMc := by dsimp only [State.land]
@[simp] theorem State.land_fresh (c : Nat) : (s.land c).fresh = s.fresh := by dsimp only [State.land]
@[simp] theorem State.land_latch (c : Nat) : (s.land c).latch = s.latch := by dsimp only [State.land]
@[simp] theorem State.land_readData (c : Nat) : (s.land c).readData = s.readData := by dsimp only [State.land]
@[simp] theorem State.land_portAddr (c : Nat) : (s.land c).portAddr = s.portAddr := by dsimp only [State.land]
@[simp] theorem State.land_link (c : Nat) : (s.land c).link = s.link := by dsimp only [State.land]
@[simp] theorem State.land_press (c : Nat) : (s.land c).press = s.press := by dsimp only [State.land]
@[simp] theorem State.land_flt (c : Nat) : (s.land c).flt = s.flt := by dsimp only [State.land]
@[simp] theorem State.land_qmg (c : Nat) : (s.land c).qmg = s.qmg := by dsimp only [State.land]
@[simp] theorem State.land_spine (c : Nat) : (s.land c).spine = s.spine := by dsimp only [State.land]
@[simp] theorem State.land_next (c : Nat) : (s.land c).next = s.next := by dsimp only [State.land]
@[simp] theorem State.land_tests (c : Nat) : (s.land c).tests = s.tests := by dsimp only [State.land]
@[simp] theorem State.land_clk (c : Nat) : (s.land c).clk = s.clk := by dsimp only [State.land]
@[simp] theorem State.land_pwr (c : Nat) : (s.land c).pwr = s.pwr := by dsimp only [State.land]
@[simp] theorem State.land_ain (c : Nat) : (s.land c).ain = s.ain := by dsimp only [State.land]
@[simp] theorem State.land_fch (c : Nat) : (s.land c).fch = s.fch := by dsimp only [State.land]
@[simp] theorem State.land_svc (c : Nat) : (s.land c).svc = s.svc := by dsimp only [State.land]
@[simp] theorem State.land_spn (c : Nat) : (s.land c).spn = s.spn := by dsimp only [State.land]
@[simp] theorem State.land_mix (c : Nat) : (s.land c).mix = s.mix := by dsimp only [State.land]
@[simp] theorem State.land_srcc (c : Nat) : (s.land c).srcc = s.srcc := by dsimp only [State.land]
@[simp] theorem State.land_sap (c : Nat) : (s.land c).sap = s.sap := by dsimp only [State.land]
@[simp] theorem State.land_spd (c : Nat) : (s.land c).spd = s.spd := by dsimp only [State.land]
@[simp] theorem State.land_fx (c : Nat) : (s.land c).fx = s.fx := by dsimp only [State.land]
@[simp] theorem State.land_jack (c : Nat) : (s.land c).jack = s.jack := by dsimp only [State.land]
@[simp] theorem State.land_out (c : Nat) : (s.land c).out = s.out := by dsimp only [State.land]
@[simp] theorem State.land_cv (c : Nat) : (s.land c).cv = s.cv := by dsimp only [State.land]
@[simp] theorem State.land_spk (c : Nat) : (s.land c).spk = s.spk := by dsimp only [State.land]
@[simp] theorem State.land_bst (c : Nat) : (s.land c).bst = s.bst := by dsimp only [State.land]
@[simp] theorem State.land_time (c : Nat) : (s.land c).time = s.time := by dsimp only [State.land]
@[simp] theorem State.land_net (c : Nat) : (s.land c).net = s.net := by dsimp only [State.land]
@[simp] theorem State.land_zkl (c : Nat) : (s.land c).zkl = s.zkl := by dsimp only [State.land]
@[simp] theorem State.land_nvm (c : Nat) : (s.land c).nvm = s.nvm := by dsimp only [State.land]
@[simp] theorem State.land_i2c (c : Nat) : (s.land c).i2c = s.i2c := by dsimp only [State.land]
@[simp] theorem State.land_gpio (c : Nat) : (s.land c).gpio = s.gpio := by dsimp only [State.land]
@[simp] theorem State.land_jtag (c : Nat) : (s.land c).jtag = s.jtag := by dsimp only [State.land]
@[simp] theorem State.land_free (c : Nat) : (s.land c).free = s.free := by dsimp only [State.land]
@[simp] theorem State.land_pending (c : Nat) : (s.land c).pending = s.pending := by dsimp only [State.land]
@[simp] theorem State.land_word (c : Nat) (x : Nat) : (s.land c).word x = s.word x := by dsimp only [State.word, State.land]
@[simp] theorem State.land_fld (c : Nat) (g : Fld) : (s.land c).fld g = s.fld g := by
  dsimp only [State.fld, State.word, State.land]

/-! `State.setShadow` -/

@[simp] theorem State.setShadow_phase (a : Nat) (w : Word) : (s.setShadow a w).phase = s.phase := by dsimp only [State.setShadow]
@[simp] theorem State.setShadow_supplied (a : Nat) (w : Word) : (s.setShadow a w).supplied = s.supplied := by
  dsimp only [State.setShadow]
@[simp] theorem State.setShadow_resetLow (a : Nat) (w : Word) : (s.setShadow a w).resetLow = s.resetLow := by
  dsimp only [State.setShadow]
@[simp] theorem State.setShadow_railsDown (a : Nat) (w : Word) : (s.setShadow a w).railsDown = s.railsDown := by
  dsimp only [State.setShadow]
@[simp] theorem State.setShadow_ports (a : Nat) (w : Word) : (s.setShadow a w).ports = s.ports := by dsimp only [State.setShadow]
@[simp] theorem State.setShadow_tick (a : Nat) (w : Word) : (s.setShadow a w).tick = s.tick := by dsimp only [State.setShadow]
@[simp] theorem State.setShadow_cyc (a : Nat) (w : Word) : (s.setShadow a w).cyc = s.cyc := by dsimp only [State.setShadow]
@[simp] theorem State.setShadow_regs (a : Nat) (w : Word) : (s.setShadow a w).regs = s.regs := by dsimp only [State.setShadow]
@[simp] theorem State.setShadow_shadowMc (a : Nat) (w : Word) : (s.setShadow a w).shadowMc = s.shadowMc := by
  dsimp only [State.setShadow]
@[simp] theorem State.setShadow_image (a : Nat) (w : Word) : (s.setShadow a w).image = s.image := by dsimp only [State.setShadow]
@[simp] theorem State.setShadow_imageMc (a : Nat) (w : Word) : (s.setShadow a w).imageMc = s.imageMc := by
  dsimp only [State.setShadow]
@[simp] theorem State.setShadow_fresh (a : Nat) (w : Word) : (s.setShadow a w).fresh = s.fresh := by dsimp only [State.setShadow]
@[simp] theorem State.setShadow_latch (a : Nat) (w : Word) : (s.setShadow a w).latch = s.latch := by dsimp only [State.setShadow]
@[simp] theorem State.setShadow_readData (a : Nat) (w : Word) : (s.setShadow a w).readData = s.readData := by
  dsimp only [State.setShadow]
@[simp] theorem State.setShadow_portAddr (a : Nat) (w : Word) : (s.setShadow a w).portAddr = s.portAddr := by
  dsimp only [State.setShadow]
@[simp] theorem State.setShadow_link (a : Nat) (w : Word) : (s.setShadow a w).link = s.link := by dsimp only [State.setShadow]
@[simp] theorem State.setShadow_press (a : Nat) (w : Word) : (s.setShadow a w).press = s.press := by dsimp only [State.setShadow]
@[simp] theorem State.setShadow_flt (a : Nat) (w : Word) : (s.setShadow a w).flt = s.flt := by dsimp only [State.setShadow]
@[simp] theorem State.setShadow_qmg (a : Nat) (w : Word) : (s.setShadow a w).qmg = s.qmg := by dsimp only [State.setShadow]
@[simp] theorem State.setShadow_spine (a : Nat) (w : Word) : (s.setShadow a w).spine = s.spine := by dsimp only [State.setShadow]
@[simp] theorem State.setShadow_next (a : Nat) (w : Word) : (s.setShadow a w).next = s.next := by dsimp only [State.setShadow]
@[simp] theorem State.setShadow_tests (a : Nat) (w : Word) : (s.setShadow a w).tests = s.tests := by dsimp only [State.setShadow]
@[simp] theorem State.setShadow_clk (a : Nat) (w : Word) : (s.setShadow a w).clk = s.clk := by dsimp only [State.setShadow]
@[simp] theorem State.setShadow_pwr (a : Nat) (w : Word) : (s.setShadow a w).pwr = s.pwr := by dsimp only [State.setShadow]
@[simp] theorem State.setShadow_ain (a : Nat) (w : Word) : (s.setShadow a w).ain = s.ain := by dsimp only [State.setShadow]
@[simp] theorem State.setShadow_fch (a : Nat) (w : Word) : (s.setShadow a w).fch = s.fch := by dsimp only [State.setShadow]
@[simp] theorem State.setShadow_svc (a : Nat) (w : Word) : (s.setShadow a w).svc = s.svc := by dsimp only [State.setShadow]
@[simp] theorem State.setShadow_spn (a : Nat) (w : Word) : (s.setShadow a w).spn = s.spn := by dsimp only [State.setShadow]
@[simp] theorem State.setShadow_mix (a : Nat) (w : Word) : (s.setShadow a w).mix = s.mix := by dsimp only [State.setShadow]
@[simp] theorem State.setShadow_srcc (a : Nat) (w : Word) : (s.setShadow a w).srcc = s.srcc := by dsimp only [State.setShadow]
@[simp] theorem State.setShadow_sap (a : Nat) (w : Word) : (s.setShadow a w).sap = s.sap := by dsimp only [State.setShadow]
@[simp] theorem State.setShadow_spd (a : Nat) (w : Word) : (s.setShadow a w).spd = s.spd := by dsimp only [State.setShadow]
@[simp] theorem State.setShadow_fx (a : Nat) (w : Word) : (s.setShadow a w).fx = s.fx := by dsimp only [State.setShadow]
@[simp] theorem State.setShadow_jack (a : Nat) (w : Word) : (s.setShadow a w).jack = s.jack := by dsimp only [State.setShadow]
@[simp] theorem State.setShadow_out (a : Nat) (w : Word) : (s.setShadow a w).out = s.out := by dsimp only [State.setShadow]
@[simp] theorem State.setShadow_cv (a : Nat) (w : Word) : (s.setShadow a w).cv = s.cv := by dsimp only [State.setShadow]
@[simp] theorem State.setShadow_spk (a : Nat) (w : Word) : (s.setShadow a w).spk = s.spk := by dsimp only [State.setShadow]
@[simp] theorem State.setShadow_bst (a : Nat) (w : Word) : (s.setShadow a w).bst = s.bst := by dsimp only [State.setShadow]
@[simp] theorem State.setShadow_time (a : Nat) (w : Word) : (s.setShadow a w).time = s.time := by dsimp only [State.setShadow]
@[simp] theorem State.setShadow_net (a : Nat) (w : Word) : (s.setShadow a w).net = s.net := by dsimp only [State.setShadow]
@[simp] theorem State.setShadow_zkl (a : Nat) (w : Word) : (s.setShadow a w).zkl = s.zkl := by dsimp only [State.setShadow]
@[simp] theorem State.setShadow_nvm (a : Nat) (w : Word) : (s.setShadow a w).nvm = s.nvm := by dsimp only [State.setShadow]
@[simp] theorem State.setShadow_i2c (a : Nat) (w : Word) : (s.setShadow a w).i2c = s.i2c := by dsimp only [State.setShadow]
@[simp] theorem State.setShadow_gpio (a : Nat) (w : Word) : (s.setShadow a w).gpio = s.gpio := by dsimp only [State.setShadow]
@[simp] theorem State.setShadow_jtag (a : Nat) (w : Word) : (s.setShadow a w).jtag = s.jtag := by dsimp only [State.setShadow]
@[simp] theorem State.setShadow_free (a : Nat) (w : Word) : (s.setShadow a w).free = s.free := by dsimp only [State.setShadow]
@[simp] theorem State.setShadow_pending (a : Nat) (w : Word) : (s.setShadow a w).pending = s.pending := by
  dsimp only [State.setShadow]
@[simp] theorem State.setShadow_word (a : Nat) (w : Word) (x : Nat) : (s.setShadow a w).word x = s.word x := by
  dsimp only [State.word, State.setShadow]
@[simp] theorem State.setShadow_fld (a : Nat) (w : Word) (g : Fld) : (s.setShadow a w).fld g = s.fld g := by
  dsimp only [State.fld, State.word, State.setShadow]

/-! `State.setSrc` -/

@[simp] theorem State.setSrc_phase (n : Nat) (w : Word) : (s.setSrc n w).phase = s.phase := by dsimp only [State.setSrc]
@[simp] theorem State.setSrc_supplied (n : Nat) (w : Word) : (s.setSrc n w).supplied = s.supplied := by dsimp only [State.setSrc]
@[simp] theorem State.setSrc_resetLow (n : Nat) (w : Word) : (s.setSrc n w).resetLow = s.resetLow := by dsimp only [State.setSrc]
@[simp] theorem State.setSrc_railsDown (n : Nat) (w : Word) : (s.setSrc n w).railsDown = s.railsDown := by dsimp only [State.setSrc]
@[simp] theorem State.setSrc_ports (n : Nat) (w : Word) : (s.setSrc n w).ports = s.ports := by dsimp only [State.setSrc]
@[simp] theorem State.setSrc_tick (n : Nat) (w : Word) : (s.setSrc n w).tick = s.tick := by dsimp only [State.setSrc]
@[simp] theorem State.setSrc_cyc (n : Nat) (w : Word) : (s.setSrc n w).cyc = s.cyc := by dsimp only [State.setSrc]
@[simp] theorem State.setSrc_regs (n : Nat) (w : Word) : (s.setSrc n w).regs = s.regs := by dsimp only [State.setSrc]
@[simp] theorem State.setSrc_shadow (n : Nat) (w : Word) : (s.setSrc n w).shadow = s.shadow := by dsimp only [State.setSrc]
@[simp] theorem State.setSrc_shadowMc (n : Nat) (w : Word) : (s.setSrc n w).shadowMc = s.shadowMc := by dsimp only [State.setSrc]
@[simp] theorem State.setSrc_image (n : Nat) (w : Word) : (s.setSrc n w).image = s.image := by dsimp only [State.setSrc]
@[simp] theorem State.setSrc_imageMc (n : Nat) (w : Word) : (s.setSrc n w).imageMc = s.imageMc := by dsimp only [State.setSrc]
@[simp] theorem State.setSrc_fresh (n : Nat) (w : Word) : (s.setSrc n w).fresh = s.fresh := by dsimp only [State.setSrc]
@[simp] theorem State.setSrc_latch (n : Nat) (w : Word) : (s.setSrc n w).latch = s.latch := by dsimp only [State.setSrc]
@[simp] theorem State.setSrc_readData (n : Nat) (w : Word) : (s.setSrc n w).readData = s.readData := by dsimp only [State.setSrc]
@[simp] theorem State.setSrc_portAddr (n : Nat) (w : Word) : (s.setSrc n w).portAddr = s.portAddr := by dsimp only [State.setSrc]
@[simp] theorem State.setSrc_link (n : Nat) (w : Word) : (s.setSrc n w).link = s.link := by dsimp only [State.setSrc]
@[simp] theorem State.setSrc_press (n : Nat) (w : Word) : (s.setSrc n w).press = s.press := by dsimp only [State.setSrc]
@[simp] theorem State.setSrc_flt (n : Nat) (w : Word) : (s.setSrc n w).flt = s.flt := by dsimp only [State.setSrc]
@[simp] theorem State.setSrc_qmg (n : Nat) (w : Word) : (s.setSrc n w).qmg = s.qmg := by dsimp only [State.setSrc]
@[simp] theorem State.setSrc_next (n : Nat) (w : Word) : (s.setSrc n w).next = s.next := by dsimp only [State.setSrc]
@[simp] theorem State.setSrc_tests (n : Nat) (w : Word) : (s.setSrc n w).tests = s.tests := by dsimp only [State.setSrc]
@[simp] theorem State.setSrc_clk (n : Nat) (w : Word) : (s.setSrc n w).clk = s.clk := by dsimp only [State.setSrc]
@[simp] theorem State.setSrc_pwr (n : Nat) (w : Word) : (s.setSrc n w).pwr = s.pwr := by dsimp only [State.setSrc]
@[simp] theorem State.setSrc_ain (n : Nat) (w : Word) : (s.setSrc n w).ain = s.ain := by dsimp only [State.setSrc]
@[simp] theorem State.setSrc_fch (n : Nat) (w : Word) : (s.setSrc n w).fch = s.fch := by dsimp only [State.setSrc]
@[simp] theorem State.setSrc_svc (n : Nat) (w : Word) : (s.setSrc n w).svc = s.svc := by dsimp only [State.setSrc]
@[simp] theorem State.setSrc_spn (n : Nat) (w : Word) : (s.setSrc n w).spn = s.spn := by dsimp only [State.setSrc]
@[simp] theorem State.setSrc_mix (n : Nat) (w : Word) : (s.setSrc n w).mix = s.mix := by dsimp only [State.setSrc]
@[simp] theorem State.setSrc_srcc (n : Nat) (w : Word) : (s.setSrc n w).srcc = s.srcc := by dsimp only [State.setSrc]
@[simp] theorem State.setSrc_sap (n : Nat) (w : Word) : (s.setSrc n w).sap = s.sap := by dsimp only [State.setSrc]
@[simp] theorem State.setSrc_spd (n : Nat) (w : Word) : (s.setSrc n w).spd = s.spd := by dsimp only [State.setSrc]
@[simp] theorem State.setSrc_fx (n : Nat) (w : Word) : (s.setSrc n w).fx = s.fx := by dsimp only [State.setSrc]
@[simp] theorem State.setSrc_jack (n : Nat) (w : Word) : (s.setSrc n w).jack = s.jack := by dsimp only [State.setSrc]
@[simp] theorem State.setSrc_out (n : Nat) (w : Word) : (s.setSrc n w).out = s.out := by dsimp only [State.setSrc]
@[simp] theorem State.setSrc_cv (n : Nat) (w : Word) : (s.setSrc n w).cv = s.cv := by dsimp only [State.setSrc]
@[simp] theorem State.setSrc_spk (n : Nat) (w : Word) : (s.setSrc n w).spk = s.spk := by dsimp only [State.setSrc]
@[simp] theorem State.setSrc_bst (n : Nat) (w : Word) : (s.setSrc n w).bst = s.bst := by dsimp only [State.setSrc]
@[simp] theorem State.setSrc_time (n : Nat) (w : Word) : (s.setSrc n w).time = s.time := by dsimp only [State.setSrc]
@[simp] theorem State.setSrc_net (n : Nat) (w : Word) : (s.setSrc n w).net = s.net := by dsimp only [State.setSrc]
@[simp] theorem State.setSrc_zkl (n : Nat) (w : Word) : (s.setSrc n w).zkl = s.zkl := by dsimp only [State.setSrc]
@[simp] theorem State.setSrc_nvm (n : Nat) (w : Word) : (s.setSrc n w).nvm = s.nvm := by dsimp only [State.setSrc]
@[simp] theorem State.setSrc_i2c (n : Nat) (w : Word) : (s.setSrc n w).i2c = s.i2c := by dsimp only [State.setSrc]
@[simp] theorem State.setSrc_gpio (n : Nat) (w : Word) : (s.setSrc n w).gpio = s.gpio := by dsimp only [State.setSrc]
@[simp] theorem State.setSrc_jtag (n : Nat) (w : Word) : (s.setSrc n w).jtag = s.jtag := by dsimp only [State.setSrc]
@[simp] theorem State.setSrc_free (n : Nat) (w : Word) : (s.setSrc n w).free = s.free := by dsimp only [State.setSrc]
@[simp] theorem State.setSrc_pending (n : Nat) (w : Word) : (s.setSrc n w).pending = s.pending := by dsimp only [State.setSrc]
@[simp] theorem State.setSrc_word (n : Nat) (w : Word) (x : Nat) : (s.setSrc n w).word x = s.word x := by
  dsimp only [State.word, State.setSrc]
@[simp] theorem State.setSrc_fld (n : Nat) (w : Word) (g : Fld) : (s.setSrc n w).fld g = s.fld g := by
  dsimp only [State.fld, State.word, State.setSrc]

/-! `State.produce` -/

@[simp] theorem State.produce_phase (n : Nat) (w : Word) : (s.produce n w).phase = s.phase := by dsimp only [State.produce]
@[simp] theorem State.produce_supplied (n : Nat) (w : Word) : (s.produce n w).supplied = s.supplied := by dsimp only [State.produce]
@[simp] theorem State.produce_resetLow (n : Nat) (w : Word) : (s.produce n w).resetLow = s.resetLow := by dsimp only [State.produce]
@[simp] theorem State.produce_railsDown (n : Nat) (w : Word) : (s.produce n w).railsDown = s.railsDown := by
  dsimp only [State.produce]
@[simp] theorem State.produce_ports (n : Nat) (w : Word) : (s.produce n w).ports = s.ports := by dsimp only [State.produce]
@[simp] theorem State.produce_tick (n : Nat) (w : Word) : (s.produce n w).tick = s.tick := by dsimp only [State.produce]
@[simp] theorem State.produce_cyc (n : Nat) (w : Word) : (s.produce n w).cyc = s.cyc := by dsimp only [State.produce]
@[simp] theorem State.produce_regs (n : Nat) (w : Word) : (s.produce n w).regs = s.regs := by dsimp only [State.produce]
@[simp] theorem State.produce_shadow (n : Nat) (w : Word) : (s.produce n w).shadow = s.shadow := by dsimp only [State.produce]
@[simp] theorem State.produce_shadowMc (n : Nat) (w : Word) : (s.produce n w).shadowMc = s.shadowMc := by dsimp only [State.produce]
@[simp] theorem State.produce_image (n : Nat) (w : Word) : (s.produce n w).image = s.image := by dsimp only [State.produce]
@[simp] theorem State.produce_imageMc (n : Nat) (w : Word) : (s.produce n w).imageMc = s.imageMc := by dsimp only [State.produce]
@[simp] theorem State.produce_fresh (n : Nat) (w : Word) : (s.produce n w).fresh = s.fresh := by dsimp only [State.produce]
@[simp] theorem State.produce_latch (n : Nat) (w : Word) : (s.produce n w).latch = s.latch := by dsimp only [State.produce]
@[simp] theorem State.produce_readData (n : Nat) (w : Word) : (s.produce n w).readData = s.readData := by dsimp only [State.produce]
@[simp] theorem State.produce_portAddr (n : Nat) (w : Word) : (s.produce n w).portAddr = s.portAddr := by dsimp only [State.produce]
@[simp] theorem State.produce_link (n : Nat) (w : Word) : (s.produce n w).link = s.link := by dsimp only [State.produce]
@[simp] theorem State.produce_press (n : Nat) (w : Word) : (s.produce n w).press = s.press := by dsimp only [State.produce]
@[simp] theorem State.produce_flt (n : Nat) (w : Word) : (s.produce n w).flt = s.flt := by dsimp only [State.produce]
@[simp] theorem State.produce_qmg (n : Nat) (w : Word) : (s.produce n w).qmg = s.qmg := by dsimp only [State.produce]
@[simp] theorem State.produce_spine (n : Nat) (w : Word) : (s.produce n w).spine = s.spine := by dsimp only [State.produce]
@[simp] theorem State.produce_tests (n : Nat) (w : Word) : (s.produce n w).tests = s.tests := by dsimp only [State.produce]
@[simp] theorem State.produce_clk (n : Nat) (w : Word) : (s.produce n w).clk = s.clk := by dsimp only [State.produce]
@[simp] theorem State.produce_pwr (n : Nat) (w : Word) : (s.produce n w).pwr = s.pwr := by dsimp only [State.produce]
@[simp] theorem State.produce_ain (n : Nat) (w : Word) : (s.produce n w).ain = s.ain := by dsimp only [State.produce]
@[simp] theorem State.produce_fch (n : Nat) (w : Word) : (s.produce n w).fch = s.fch := by dsimp only [State.produce]
@[simp] theorem State.produce_svc (n : Nat) (w : Word) : (s.produce n w).svc = s.svc := by dsimp only [State.produce]
@[simp] theorem State.produce_spn (n : Nat) (w : Word) : (s.produce n w).spn = s.spn := by dsimp only [State.produce]
@[simp] theorem State.produce_mix (n : Nat) (w : Word) : (s.produce n w).mix = s.mix := by dsimp only [State.produce]
@[simp] theorem State.produce_srcc (n : Nat) (w : Word) : (s.produce n w).srcc = s.srcc := by dsimp only [State.produce]
@[simp] theorem State.produce_sap (n : Nat) (w : Word) : (s.produce n w).sap = s.sap := by dsimp only [State.produce]
@[simp] theorem State.produce_spd (n : Nat) (w : Word) : (s.produce n w).spd = s.spd := by dsimp only [State.produce]
@[simp] theorem State.produce_fx (n : Nat) (w : Word) : (s.produce n w).fx = s.fx := by dsimp only [State.produce]
@[simp] theorem State.produce_jack (n : Nat) (w : Word) : (s.produce n w).jack = s.jack := by dsimp only [State.produce]
@[simp] theorem State.produce_out (n : Nat) (w : Word) : (s.produce n w).out = s.out := by dsimp only [State.produce]
@[simp] theorem State.produce_cv (n : Nat) (w : Word) : (s.produce n w).cv = s.cv := by dsimp only [State.produce]
@[simp] theorem State.produce_spk (n : Nat) (w : Word) : (s.produce n w).spk = s.spk := by dsimp only [State.produce]
@[simp] theorem State.produce_bst (n : Nat) (w : Word) : (s.produce n w).bst = s.bst := by dsimp only [State.produce]
@[simp] theorem State.produce_time (n : Nat) (w : Word) : (s.produce n w).time = s.time := by dsimp only [State.produce]
@[simp] theorem State.produce_net (n : Nat) (w : Word) : (s.produce n w).net = s.net := by dsimp only [State.produce]
@[simp] theorem State.produce_zkl (n : Nat) (w : Word) : (s.produce n w).zkl = s.zkl := by dsimp only [State.produce]
@[simp] theorem State.produce_nvm (n : Nat) (w : Word) : (s.produce n w).nvm = s.nvm := by dsimp only [State.produce]
@[simp] theorem State.produce_i2c (n : Nat) (w : Word) : (s.produce n w).i2c = s.i2c := by dsimp only [State.produce]
@[simp] theorem State.produce_gpio (n : Nat) (w : Word) : (s.produce n w).gpio = s.gpio := by dsimp only [State.produce]
@[simp] theorem State.produce_jtag (n : Nat) (w : Word) : (s.produce n w).jtag = s.jtag := by dsimp only [State.produce]
@[simp] theorem State.produce_free (n : Nat) (w : Word) : (s.produce n w).free = s.free := by dsimp only [State.produce]
@[simp] theorem State.produce_pending (n : Nat) (w : Word) : (s.produce n w).pending = s.pending := by dsimp only [State.produce]
@[simp] theorem State.produce_word (n : Nat) (w : Word) (x : Nat) : (s.produce n w).word x = s.word x := by
  dsimp only [State.word, State.produce]
@[simp] theorem State.produce_fld (n : Nat) (w : Word) (g : Fld) : (s.produce n w).fld g = s.fld g := by
  dsimp only [State.fld, State.word, State.produce]

/-! `State.report` -/

@[simp] theorem State.report_phase (c i a : Nat) : (s.report c i a).phase = s.phase := by dsimp only [State.report]
@[simp] theorem State.report_supplied (c i a : Nat) : (s.report c i a).supplied = s.supplied := by dsimp only [State.report]
@[simp] theorem State.report_resetLow (c i a : Nat) : (s.report c i a).resetLow = s.resetLow := by dsimp only [State.report]
@[simp] theorem State.report_railsDown (c i a : Nat) : (s.report c i a).railsDown = s.railsDown := by dsimp only [State.report]
@[simp] theorem State.report_ports (c i a : Nat) : (s.report c i a).ports = s.ports := by dsimp only [State.report]
@[simp] theorem State.report_tick (c i a : Nat) : (s.report c i a).tick = s.tick := by dsimp only [State.report]
@[simp] theorem State.report_cyc (c i a : Nat) : (s.report c i a).cyc = s.cyc := by dsimp only [State.report]
@[simp] theorem State.report_regs (c i a : Nat) : (s.report c i a).regs = s.regs := by dsimp only [State.report]
@[simp] theorem State.report_shadow (c i a : Nat) : (s.report c i a).shadow = s.shadow := by dsimp only [State.report]
@[simp] theorem State.report_shadowMc (c i a : Nat) : (s.report c i a).shadowMc = s.shadowMc := by dsimp only [State.report]
@[simp] theorem State.report_image (c i a : Nat) : (s.report c i a).image = s.image := by dsimp only [State.report]
@[simp] theorem State.report_imageMc (c i a : Nat) : (s.report c i a).imageMc = s.imageMc := by dsimp only [State.report]
@[simp] theorem State.report_fresh (c i a : Nat) : (s.report c i a).fresh = s.fresh := by dsimp only [State.report]
@[simp] theorem State.report_latch (c i a : Nat) : (s.report c i a).latch = s.latch := by dsimp only [State.report]
@[simp] theorem State.report_readData (c i a : Nat) : (s.report c i a).readData = s.readData := by dsimp only [State.report]
@[simp] theorem State.report_portAddr (c i a : Nat) : (s.report c i a).portAddr = s.portAddr := by dsimp only [State.report]
@[simp] theorem State.report_link (c i a : Nat) : (s.report c i a).link = s.link := by dsimp only [State.report]
@[simp] theorem State.report_press (c i a : Nat) : (s.report c i a).press = s.press := by dsimp only [State.report]
@[simp] theorem State.report_qmg (c i a : Nat) : (s.report c i a).qmg = s.qmg := by dsimp only [State.report]
@[simp] theorem State.report_spine (c i a : Nat) : (s.report c i a).spine = s.spine := by dsimp only [State.report]
@[simp] theorem State.report_next (c i a : Nat) : (s.report c i a).next = s.next := by dsimp only [State.report]
@[simp] theorem State.report_tests (c i a : Nat) : (s.report c i a).tests = s.tests := by dsimp only [State.report]
@[simp] theorem State.report_clk (c i a : Nat) : (s.report c i a).clk = s.clk := by dsimp only [State.report]
@[simp] theorem State.report_pwr (c i a : Nat) : (s.report c i a).pwr = s.pwr := by dsimp only [State.report]
@[simp] theorem State.report_ain (c i a : Nat) : (s.report c i a).ain = s.ain := by dsimp only [State.report]
@[simp] theorem State.report_fch (c i a : Nat) : (s.report c i a).fch = s.fch := by dsimp only [State.report]
@[simp] theorem State.report_svc (c i a : Nat) : (s.report c i a).svc = s.svc := by dsimp only [State.report]
@[simp] theorem State.report_spn (c i a : Nat) : (s.report c i a).spn = s.spn := by dsimp only [State.report]
@[simp] theorem State.report_mix (c i a : Nat) : (s.report c i a).mix = s.mix := by dsimp only [State.report]
@[simp] theorem State.report_srcc (c i a : Nat) : (s.report c i a).srcc = s.srcc := by dsimp only [State.report]
@[simp] theorem State.report_sap (c i a : Nat) : (s.report c i a).sap = s.sap := by dsimp only [State.report]
@[simp] theorem State.report_spd (c i a : Nat) : (s.report c i a).spd = s.spd := by dsimp only [State.report]
@[simp] theorem State.report_fx (c i a : Nat) : (s.report c i a).fx = s.fx := by dsimp only [State.report]
@[simp] theorem State.report_jack (c i a : Nat) : (s.report c i a).jack = s.jack := by dsimp only [State.report]
@[simp] theorem State.report_out (c i a : Nat) : (s.report c i a).out = s.out := by dsimp only [State.report]
@[simp] theorem State.report_cv (c i a : Nat) : (s.report c i a).cv = s.cv := by dsimp only [State.report]
@[simp] theorem State.report_spk (c i a : Nat) : (s.report c i a).spk = s.spk := by dsimp only [State.report]
@[simp] theorem State.report_bst (c i a : Nat) : (s.report c i a).bst = s.bst := by dsimp only [State.report]
@[simp] theorem State.report_time (c i a : Nat) : (s.report c i a).time = s.time := by dsimp only [State.report]
@[simp] theorem State.report_net (c i a : Nat) : (s.report c i a).net = s.net := by dsimp only [State.report]
@[simp] theorem State.report_zkl (c i a : Nat) : (s.report c i a).zkl = s.zkl := by dsimp only [State.report]
@[simp] theorem State.report_nvm (c i a : Nat) : (s.report c i a).nvm = s.nvm := by dsimp only [State.report]
@[simp] theorem State.report_i2c (c i a : Nat) : (s.report c i a).i2c = s.i2c := by dsimp only [State.report]
@[simp] theorem State.report_gpio (c i a : Nat) : (s.report c i a).gpio = s.gpio := by dsimp only [State.report]
@[simp] theorem State.report_jtag (c i a : Nat) : (s.report c i a).jtag = s.jtag := by dsimp only [State.report]
@[simp] theorem State.report_free (c i a : Nat) : (s.report c i a).free = s.free := by dsimp only [State.report]
@[simp] theorem State.report_pending (c i a : Nat) : (s.report c i a).pending = s.pending := by dsimp only [State.report]
@[simp] theorem State.report_word (c i a : Nat) (x : Nat) : (s.report c i a).word x = s.word x := by
  dsimp only [State.word, State.report]
@[simp] theorem State.report_fld (c i a : Nat) (g : Fld) : (s.report c i a).fld g = s.fld g := by
  dsimp only [State.fld, State.word, State.report]

/-! `State.answer` -/

@[simp] theorem State.answer_phase (o : Origin) (w : Word) : (s.answer o w).phase = s.phase := by dsimp only [State.answer]
@[simp] theorem State.answer_supplied (o : Origin) (w : Word) : (s.answer o w).supplied = s.supplied := by dsimp only [State.answer]
@[simp] theorem State.answer_resetLow (o : Origin) (w : Word) : (s.answer o w).resetLow = s.resetLow := by dsimp only [State.answer]
@[simp] theorem State.answer_railsDown (o : Origin) (w : Word) : (s.answer o w).railsDown = s.railsDown := by
  dsimp only [State.answer]
@[simp] theorem State.answer_ports (o : Origin) (w : Word) : (s.answer o w).ports = s.ports := by dsimp only [State.answer]
@[simp] theorem State.answer_tick (o : Origin) (w : Word) : (s.answer o w).tick = s.tick := by dsimp only [State.answer]
@[simp] theorem State.answer_cyc (o : Origin) (w : Word) : (s.answer o w).cyc = s.cyc := by dsimp only [State.answer]
@[simp] theorem State.answer_regs (o : Origin) (w : Word) : (s.answer o w).regs = s.regs := by dsimp only [State.answer]
@[simp] theorem State.answer_shadow (o : Origin) (w : Word) : (s.answer o w).shadow = s.shadow := by dsimp only [State.answer]
@[simp] theorem State.answer_shadowMc (o : Origin) (w : Word) : (s.answer o w).shadowMc = s.shadowMc := by dsimp only [State.answer]
@[simp] theorem State.answer_image (o : Origin) (w : Word) : (s.answer o w).image = s.image := by dsimp only [State.answer]
@[simp] theorem State.answer_imageMc (o : Origin) (w : Word) : (s.answer o w).imageMc = s.imageMc := by dsimp only [State.answer]
@[simp] theorem State.answer_fresh (o : Origin) (w : Word) : (s.answer o w).fresh = s.fresh := by dsimp only [State.answer]
@[simp] theorem State.answer_latch (o : Origin) (w : Word) : (s.answer o w).latch = s.latch := by dsimp only [State.answer]
@[simp] theorem State.answer_portAddr (o : Origin) (w : Word) : (s.answer o w).portAddr = s.portAddr := by dsimp only [State.answer]
@[simp] theorem State.answer_link (o : Origin) (w : Word) : (s.answer o w).link = s.link := by dsimp only [State.answer]
@[simp] theorem State.answer_press (o : Origin) (w : Word) : (s.answer o w).press = s.press := by dsimp only [State.answer]
@[simp] theorem State.answer_flt (o : Origin) (w : Word) : (s.answer o w).flt = s.flt := by dsimp only [State.answer]
@[simp] theorem State.answer_qmg (o : Origin) (w : Word) : (s.answer o w).qmg = s.qmg := by dsimp only [State.answer]
@[simp] theorem State.answer_spine (o : Origin) (w : Word) : (s.answer o w).spine = s.spine := by dsimp only [State.answer]
@[simp] theorem State.answer_next (o : Origin) (w : Word) : (s.answer o w).next = s.next := by dsimp only [State.answer]
@[simp] theorem State.answer_tests (o : Origin) (w : Word) : (s.answer o w).tests = s.tests := by dsimp only [State.answer]
@[simp] theorem State.answer_clk (o : Origin) (w : Word) : (s.answer o w).clk = s.clk := by dsimp only [State.answer]
@[simp] theorem State.answer_pwr (o : Origin) (w : Word) : (s.answer o w).pwr = s.pwr := by dsimp only [State.answer]
@[simp] theorem State.answer_ain (o : Origin) (w : Word) : (s.answer o w).ain = s.ain := by dsimp only [State.answer]
@[simp] theorem State.answer_fch (o : Origin) (w : Word) : (s.answer o w).fch = s.fch := by dsimp only [State.answer]
@[simp] theorem State.answer_svc (o : Origin) (w : Word) : (s.answer o w).svc = s.svc := by dsimp only [State.answer]
@[simp] theorem State.answer_spn (o : Origin) (w : Word) : (s.answer o w).spn = s.spn := by dsimp only [State.answer]
@[simp] theorem State.answer_mix (o : Origin) (w : Word) : (s.answer o w).mix = s.mix := by dsimp only [State.answer]
@[simp] theorem State.answer_srcc (o : Origin) (w : Word) : (s.answer o w).srcc = s.srcc := by dsimp only [State.answer]
@[simp] theorem State.answer_sap (o : Origin) (w : Word) : (s.answer o w).sap = s.sap := by dsimp only [State.answer]
@[simp] theorem State.answer_spd (o : Origin) (w : Word) : (s.answer o w).spd = s.spd := by dsimp only [State.answer]
@[simp] theorem State.answer_fx (o : Origin) (w : Word) : (s.answer o w).fx = s.fx := by dsimp only [State.answer]
@[simp] theorem State.answer_jack (o : Origin) (w : Word) : (s.answer o w).jack = s.jack := by dsimp only [State.answer]
@[simp] theorem State.answer_out (o : Origin) (w : Word) : (s.answer o w).out = s.out := by dsimp only [State.answer]
@[simp] theorem State.answer_cv (o : Origin) (w : Word) : (s.answer o w).cv = s.cv := by dsimp only [State.answer]
@[simp] theorem State.answer_spk (o : Origin) (w : Word) : (s.answer o w).spk = s.spk := by dsimp only [State.answer]
@[simp] theorem State.answer_bst (o : Origin) (w : Word) : (s.answer o w).bst = s.bst := by dsimp only [State.answer]
@[simp] theorem State.answer_time (o : Origin) (w : Word) : (s.answer o w).time = s.time := by dsimp only [State.answer]
@[simp] theorem State.answer_net (o : Origin) (w : Word) : (s.answer o w).net = s.net := by dsimp only [State.answer]
@[simp] theorem State.answer_zkl (o : Origin) (w : Word) : (s.answer o w).zkl = s.zkl := by dsimp only [State.answer]
@[simp] theorem State.answer_nvm (o : Origin) (w : Word) : (s.answer o w).nvm = s.nvm := by dsimp only [State.answer]
@[simp] theorem State.answer_i2c (o : Origin) (w : Word) : (s.answer o w).i2c = s.i2c := by dsimp only [State.answer]
@[simp] theorem State.answer_gpio (o : Origin) (w : Word) : (s.answer o w).gpio = s.gpio := by dsimp only [State.answer]
@[simp] theorem State.answer_jtag (o : Origin) (w : Word) : (s.answer o w).jtag = s.jtag := by dsimp only [State.answer]
@[simp] theorem State.answer_free (o : Origin) (w : Word) : (s.answer o w).free = s.free := by dsimp only [State.answer]
@[simp] theorem State.answer_pending (o : Origin) (w : Word) : (s.answer o w).pending = s.pending := by dsimp only [State.answer]
@[simp] theorem State.answer_word (o : Origin) (w : Word) (x : Nat) : (s.answer o w).word x = s.word x := by
  dsimp only [State.word, State.answer]
@[simp] theorem State.answer_fld (o : Origin) (w : Word) (g : Fld) : (s.answer o w).fld g = s.fld g := by
  dsimp only [State.fld, State.word, State.answer]

/-! `State.skipFree` -/

@[simp] theorem State.skipFree_phase (n : Nat) : (s.skipFree n).phase = s.phase := by dsimp only [State.skipFree]
@[simp] theorem State.skipFree_supplied (n : Nat) : (s.skipFree n).supplied = s.supplied := by dsimp only [State.skipFree]
@[simp] theorem State.skipFree_resetLow (n : Nat) : (s.skipFree n).resetLow = s.resetLow := by dsimp only [State.skipFree]
@[simp] theorem State.skipFree_railsDown (n : Nat) : (s.skipFree n).railsDown = s.railsDown := by dsimp only [State.skipFree]
@[simp] theorem State.skipFree_ports (n : Nat) : (s.skipFree n).ports = s.ports := by dsimp only [State.skipFree]
@[simp] theorem State.skipFree_tick (n : Nat) : (s.skipFree n).tick = s.tick := by dsimp only [State.skipFree]
@[simp] theorem State.skipFree_cyc (n : Nat) : (s.skipFree n).cyc = s.cyc := by dsimp only [State.skipFree]
@[simp] theorem State.skipFree_regs (n : Nat) : (s.skipFree n).regs = s.regs := by dsimp only [State.skipFree]
@[simp] theorem State.skipFree_shadow (n : Nat) : (s.skipFree n).shadow = s.shadow := by dsimp only [State.skipFree]
@[simp] theorem State.skipFree_shadowMc (n : Nat) : (s.skipFree n).shadowMc = s.shadowMc := by dsimp only [State.skipFree]
@[simp] theorem State.skipFree_image (n : Nat) : (s.skipFree n).image = s.image := by dsimp only [State.skipFree]
@[simp] theorem State.skipFree_imageMc (n : Nat) : (s.skipFree n).imageMc = s.imageMc := by dsimp only [State.skipFree]
@[simp] theorem State.skipFree_fresh (n : Nat) : (s.skipFree n).fresh = s.fresh := by dsimp only [State.skipFree]
@[simp] theorem State.skipFree_latch (n : Nat) : (s.skipFree n).latch = s.latch := by dsimp only [State.skipFree]
@[simp] theorem State.skipFree_readData (n : Nat) : (s.skipFree n).readData = s.readData := by dsimp only [State.skipFree]
@[simp] theorem State.skipFree_portAddr (n : Nat) : (s.skipFree n).portAddr = s.portAddr := by dsimp only [State.skipFree]
@[simp] theorem State.skipFree_link (n : Nat) : (s.skipFree n).link = s.link := by dsimp only [State.skipFree]
@[simp] theorem State.skipFree_press (n : Nat) : (s.skipFree n).press = s.press := by dsimp only [State.skipFree]
@[simp] theorem State.skipFree_flt (n : Nat) : (s.skipFree n).flt = s.flt := by dsimp only [State.skipFree]
@[simp] theorem State.skipFree_qmg (n : Nat) : (s.skipFree n).qmg = s.qmg := by dsimp only [State.skipFree]
@[simp] theorem State.skipFree_spine (n : Nat) : (s.skipFree n).spine = s.spine := by dsimp only [State.skipFree]
@[simp] theorem State.skipFree_next (n : Nat) : (s.skipFree n).next = s.next := by dsimp only [State.skipFree]
@[simp] theorem State.skipFree_tests (n : Nat) : (s.skipFree n).tests = s.tests := by dsimp only [State.skipFree]
@[simp] theorem State.skipFree_clk (n : Nat) : (s.skipFree n).clk = s.clk := by dsimp only [State.skipFree]
@[simp] theorem State.skipFree_pwr (n : Nat) : (s.skipFree n).pwr = s.pwr := by dsimp only [State.skipFree]
@[simp] theorem State.skipFree_ain (n : Nat) : (s.skipFree n).ain = s.ain := by dsimp only [State.skipFree]
@[simp] theorem State.skipFree_fch (n : Nat) : (s.skipFree n).fch = s.fch := by dsimp only [State.skipFree]
@[simp] theorem State.skipFree_svc (n : Nat) : (s.skipFree n).svc = s.svc := by dsimp only [State.skipFree]
@[simp] theorem State.skipFree_spn (n : Nat) : (s.skipFree n).spn = s.spn := by dsimp only [State.skipFree]
@[simp] theorem State.skipFree_mix (n : Nat) : (s.skipFree n).mix = s.mix := by dsimp only [State.skipFree]
@[simp] theorem State.skipFree_srcc (n : Nat) : (s.skipFree n).srcc = s.srcc := by dsimp only [State.skipFree]
@[simp] theorem State.skipFree_sap (n : Nat) : (s.skipFree n).sap = s.sap := by dsimp only [State.skipFree]
@[simp] theorem State.skipFree_spd (n : Nat) : (s.skipFree n).spd = s.spd := by dsimp only [State.skipFree]
@[simp] theorem State.skipFree_fx (n : Nat) : (s.skipFree n).fx = s.fx := by dsimp only [State.skipFree]
@[simp] theorem State.skipFree_jack (n : Nat) : (s.skipFree n).jack = s.jack := by dsimp only [State.skipFree]
@[simp] theorem State.skipFree_out (n : Nat) : (s.skipFree n).out = s.out := by dsimp only [State.skipFree]
@[simp] theorem State.skipFree_cv (n : Nat) : (s.skipFree n).cv = s.cv := by dsimp only [State.skipFree]
@[simp] theorem State.skipFree_spk (n : Nat) : (s.skipFree n).spk = s.spk := by dsimp only [State.skipFree]
@[simp] theorem State.skipFree_bst (n : Nat) : (s.skipFree n).bst = s.bst := by dsimp only [State.skipFree]
@[simp] theorem State.skipFree_time (n : Nat) : (s.skipFree n).time = s.time := by dsimp only [State.skipFree]
@[simp] theorem State.skipFree_net (n : Nat) : (s.skipFree n).net = s.net := by dsimp only [State.skipFree]
@[simp] theorem State.skipFree_zkl (n : Nat) : (s.skipFree n).zkl = s.zkl := by dsimp only [State.skipFree]
@[simp] theorem State.skipFree_nvm (n : Nat) : (s.skipFree n).nvm = s.nvm := by dsimp only [State.skipFree]
@[simp] theorem State.skipFree_i2c (n : Nat) : (s.skipFree n).i2c = s.i2c := by dsimp only [State.skipFree]
@[simp] theorem State.skipFree_gpio (n : Nat) : (s.skipFree n).gpio = s.gpio := by dsimp only [State.skipFree]
@[simp] theorem State.skipFree_jtag (n : Nat) : (s.skipFree n).jtag = s.jtag := by dsimp only [State.skipFree]
@[simp] theorem State.skipFree_pending (n : Nat) : (s.skipFree n).pending = s.pending := by dsimp only [State.skipFree]
@[simp] theorem State.skipFree_word (n : Nat) (x : Nat) : (s.skipFree n).word x = s.word x := by
  dsimp only [State.word, State.skipFree]
@[simp] theorem State.skipFree_fld (n : Nat) (g : Fld) : (s.skipFree n).fld g = s.fld g := by
  dsimp only [State.fld, State.word, State.skipFree]

/-! `State.setDir` -/

@[simp] theorem State.setDir_phase (d : Nat) (y : LinkDir) : (s.setDir d y).phase = s.phase := by dsimp only [State.setDir]
@[simp] theorem State.setDir_supplied (d : Nat) (y : LinkDir) : (s.setDir d y).supplied = s.supplied := by dsimp only [State.setDir]
@[simp] theorem State.setDir_resetLow (d : Nat) (y : LinkDir) : (s.setDir d y).resetLow = s.resetLow := by dsimp only [State.setDir]
@[simp] theorem State.setDir_railsDown (d : Nat) (y : LinkDir) : (s.setDir d y).railsDown = s.railsDown := by
  dsimp only [State.setDir]
@[simp] theorem State.setDir_ports (d : Nat) (y : LinkDir) : (s.setDir d y).ports = s.ports := by dsimp only [State.setDir]
@[simp] theorem State.setDir_tick (d : Nat) (y : LinkDir) : (s.setDir d y).tick = s.tick := by dsimp only [State.setDir]
@[simp] theorem State.setDir_cyc (d : Nat) (y : LinkDir) : (s.setDir d y).cyc = s.cyc := by dsimp only [State.setDir]
@[simp] theorem State.setDir_regs (d : Nat) (y : LinkDir) : (s.setDir d y).regs = s.regs := by dsimp only [State.setDir]
@[simp] theorem State.setDir_shadow (d : Nat) (y : LinkDir) : (s.setDir d y).shadow = s.shadow := by dsimp only [State.setDir]
@[simp] theorem State.setDir_shadowMc (d : Nat) (y : LinkDir) : (s.setDir d y).shadowMc = s.shadowMc := by dsimp only [State.setDir]
@[simp] theorem State.setDir_image (d : Nat) (y : LinkDir) : (s.setDir d y).image = s.image := by dsimp only [State.setDir]
@[simp] theorem State.setDir_imageMc (d : Nat) (y : LinkDir) : (s.setDir d y).imageMc = s.imageMc := by dsimp only [State.setDir]
@[simp] theorem State.setDir_fresh (d : Nat) (y : LinkDir) : (s.setDir d y).fresh = s.fresh := by dsimp only [State.setDir]
@[simp] theorem State.setDir_latch (d : Nat) (y : LinkDir) : (s.setDir d y).latch = s.latch := by dsimp only [State.setDir]
@[simp] theorem State.setDir_readData (d : Nat) (y : LinkDir) : (s.setDir d y).readData = s.readData := by dsimp only [State.setDir]
@[simp] theorem State.setDir_portAddr (d : Nat) (y : LinkDir) : (s.setDir d y).portAddr = s.portAddr := by dsimp only [State.setDir]
@[simp] theorem State.setDir_press (d : Nat) (y : LinkDir) : (s.setDir d y).press = s.press := by dsimp only [State.setDir]
@[simp] theorem State.setDir_flt (d : Nat) (y : LinkDir) : (s.setDir d y).flt = s.flt := by dsimp only [State.setDir]
@[simp] theorem State.setDir_qmg (d : Nat) (y : LinkDir) : (s.setDir d y).qmg = s.qmg := by dsimp only [State.setDir]
@[simp] theorem State.setDir_spine (d : Nat) (y : LinkDir) : (s.setDir d y).spine = s.spine := by dsimp only [State.setDir]
@[simp] theorem State.setDir_next (d : Nat) (y : LinkDir) : (s.setDir d y).next = s.next := by dsimp only [State.setDir]
@[simp] theorem State.setDir_tests (d : Nat) (y : LinkDir) : (s.setDir d y).tests = s.tests := by dsimp only [State.setDir]
@[simp] theorem State.setDir_clk (d : Nat) (y : LinkDir) : (s.setDir d y).clk = s.clk := by dsimp only [State.setDir]
@[simp] theorem State.setDir_pwr (d : Nat) (y : LinkDir) : (s.setDir d y).pwr = s.pwr := by dsimp only [State.setDir]
@[simp] theorem State.setDir_ain (d : Nat) (y : LinkDir) : (s.setDir d y).ain = s.ain := by dsimp only [State.setDir]
@[simp] theorem State.setDir_fch (d : Nat) (y : LinkDir) : (s.setDir d y).fch = s.fch := by dsimp only [State.setDir]
@[simp] theorem State.setDir_svc (d : Nat) (y : LinkDir) : (s.setDir d y).svc = s.svc := by dsimp only [State.setDir]
@[simp] theorem State.setDir_spn (d : Nat) (y : LinkDir) : (s.setDir d y).spn = s.spn := by dsimp only [State.setDir]
@[simp] theorem State.setDir_mix (d : Nat) (y : LinkDir) : (s.setDir d y).mix = s.mix := by dsimp only [State.setDir]
@[simp] theorem State.setDir_srcc (d : Nat) (y : LinkDir) : (s.setDir d y).srcc = s.srcc := by dsimp only [State.setDir]
@[simp] theorem State.setDir_sap (d : Nat) (y : LinkDir) : (s.setDir d y).sap = s.sap := by dsimp only [State.setDir]
@[simp] theorem State.setDir_spd (d : Nat) (y : LinkDir) : (s.setDir d y).spd = s.spd := by dsimp only [State.setDir]
@[simp] theorem State.setDir_fx (d : Nat) (y : LinkDir) : (s.setDir d y).fx = s.fx := by dsimp only [State.setDir]
@[simp] theorem State.setDir_jack (d : Nat) (y : LinkDir) : (s.setDir d y).jack = s.jack := by dsimp only [State.setDir]
@[simp] theorem State.setDir_out (d : Nat) (y : LinkDir) : (s.setDir d y).out = s.out := by dsimp only [State.setDir]
@[simp] theorem State.setDir_cv (d : Nat) (y : LinkDir) : (s.setDir d y).cv = s.cv := by dsimp only [State.setDir]
@[simp] theorem State.setDir_spk (d : Nat) (y : LinkDir) : (s.setDir d y).spk = s.spk := by dsimp only [State.setDir]
@[simp] theorem State.setDir_bst (d : Nat) (y : LinkDir) : (s.setDir d y).bst = s.bst := by dsimp only [State.setDir]
@[simp] theorem State.setDir_time (d : Nat) (y : LinkDir) : (s.setDir d y).time = s.time := by dsimp only [State.setDir]
@[simp] theorem State.setDir_net (d : Nat) (y : LinkDir) : (s.setDir d y).net = s.net := by dsimp only [State.setDir]
@[simp] theorem State.setDir_zkl (d : Nat) (y : LinkDir) : (s.setDir d y).zkl = s.zkl := by dsimp only [State.setDir]
@[simp] theorem State.setDir_nvm (d : Nat) (y : LinkDir) : (s.setDir d y).nvm = s.nvm := by dsimp only [State.setDir]
@[simp] theorem State.setDir_i2c (d : Nat) (y : LinkDir) : (s.setDir d y).i2c = s.i2c := by dsimp only [State.setDir]
@[simp] theorem State.setDir_gpio (d : Nat) (y : LinkDir) : (s.setDir d y).gpio = s.gpio := by dsimp only [State.setDir]
@[simp] theorem State.setDir_jtag (d : Nat) (y : LinkDir) : (s.setDir d y).jtag = s.jtag := by dsimp only [State.setDir]
@[simp] theorem State.setDir_free (d : Nat) (y : LinkDir) : (s.setDir d y).free = s.free := by dsimp only [State.setDir]
@[simp] theorem State.setDir_pending (d : Nat) (y : LinkDir) : (s.setDir d y).pending = s.pending := by dsimp only [State.setDir]
@[simp] theorem State.setDir_word (d : Nat) (y : LinkDir) (x : Nat) : (s.setDir d y).word x = s.word x := by
  dsimp only [State.word, State.setDir]
@[simp] theorem State.setDir_fld (d : Nat) (y : LinkDir) (g : Fld) : (s.setDir d y).fld g = s.fld g := by
  dsimp only [State.fld, State.word, State.setDir]

/-! `State.setDie` -/

@[simp] theorem State.setDie_phase (d : Nat) (y : DieSt) : (s.setDie d y).phase = s.phase := by dsimp only [State.setDie]
@[simp] theorem State.setDie_supplied (d : Nat) (y : DieSt) : (s.setDie d y).supplied = s.supplied := by dsimp only [State.setDie]
@[simp] theorem State.setDie_resetLow (d : Nat) (y : DieSt) : (s.setDie d y).resetLow = s.resetLow := by dsimp only [State.setDie]
@[simp] theorem State.setDie_railsDown (d : Nat) (y : DieSt) : (s.setDie d y).railsDown = s.railsDown := by
  dsimp only [State.setDie]
@[simp] theorem State.setDie_ports (d : Nat) (y : DieSt) : (s.setDie d y).ports = s.ports := by dsimp only [State.setDie]
@[simp] theorem State.setDie_tick (d : Nat) (y : DieSt) : (s.setDie d y).tick = s.tick := by dsimp only [State.setDie]
@[simp] theorem State.setDie_cyc (d : Nat) (y : DieSt) : (s.setDie d y).cyc = s.cyc := by dsimp only [State.setDie]
@[simp] theorem State.setDie_regs (d : Nat) (y : DieSt) : (s.setDie d y).regs = s.regs := by dsimp only [State.setDie]
@[simp] theorem State.setDie_shadow (d : Nat) (y : DieSt) : (s.setDie d y).shadow = s.shadow := by dsimp only [State.setDie]
@[simp] theorem State.setDie_shadowMc (d : Nat) (y : DieSt) : (s.setDie d y).shadowMc = s.shadowMc := by dsimp only [State.setDie]
@[simp] theorem State.setDie_image (d : Nat) (y : DieSt) : (s.setDie d y).image = s.image := by dsimp only [State.setDie]
@[simp] theorem State.setDie_imageMc (d : Nat) (y : DieSt) : (s.setDie d y).imageMc = s.imageMc := by dsimp only [State.setDie]
@[simp] theorem State.setDie_fresh (d : Nat) (y : DieSt) : (s.setDie d y).fresh = s.fresh := by dsimp only [State.setDie]
@[simp] theorem State.setDie_latch (d : Nat) (y : DieSt) : (s.setDie d y).latch = s.latch := by dsimp only [State.setDie]
@[simp] theorem State.setDie_readData (d : Nat) (y : DieSt) : (s.setDie d y).readData = s.readData := by dsimp only [State.setDie]
@[simp] theorem State.setDie_portAddr (d : Nat) (y : DieSt) : (s.setDie d y).portAddr = s.portAddr := by dsimp only [State.setDie]
@[simp] theorem State.setDie_press (d : Nat) (y : DieSt) : (s.setDie d y).press = s.press := by dsimp only [State.setDie]
@[simp] theorem State.setDie_flt (d : Nat) (y : DieSt) : (s.setDie d y).flt = s.flt := by dsimp only [State.setDie]
@[simp] theorem State.setDie_qmg (d : Nat) (y : DieSt) : (s.setDie d y).qmg = s.qmg := by dsimp only [State.setDie]
@[simp] theorem State.setDie_spine (d : Nat) (y : DieSt) : (s.setDie d y).spine = s.spine := by dsimp only [State.setDie]
@[simp] theorem State.setDie_next (d : Nat) (y : DieSt) : (s.setDie d y).next = s.next := by dsimp only [State.setDie]
@[simp] theorem State.setDie_tests (d : Nat) (y : DieSt) : (s.setDie d y).tests = s.tests := by dsimp only [State.setDie]
@[simp] theorem State.setDie_clk (d : Nat) (y : DieSt) : (s.setDie d y).clk = s.clk := by dsimp only [State.setDie]
@[simp] theorem State.setDie_pwr (d : Nat) (y : DieSt) : (s.setDie d y).pwr = s.pwr := by dsimp only [State.setDie]
@[simp] theorem State.setDie_ain (d : Nat) (y : DieSt) : (s.setDie d y).ain = s.ain := by dsimp only [State.setDie]
@[simp] theorem State.setDie_fch (d : Nat) (y : DieSt) : (s.setDie d y).fch = s.fch := by dsimp only [State.setDie]
@[simp] theorem State.setDie_svc (d : Nat) (y : DieSt) : (s.setDie d y).svc = s.svc := by dsimp only [State.setDie]
@[simp] theorem State.setDie_spn (d : Nat) (y : DieSt) : (s.setDie d y).spn = s.spn := by dsimp only [State.setDie]
@[simp] theorem State.setDie_mix (d : Nat) (y : DieSt) : (s.setDie d y).mix = s.mix := by dsimp only [State.setDie]
@[simp] theorem State.setDie_srcc (d : Nat) (y : DieSt) : (s.setDie d y).srcc = s.srcc := by dsimp only [State.setDie]
@[simp] theorem State.setDie_sap (d : Nat) (y : DieSt) : (s.setDie d y).sap = s.sap := by dsimp only [State.setDie]
@[simp] theorem State.setDie_spd (d : Nat) (y : DieSt) : (s.setDie d y).spd = s.spd := by dsimp only [State.setDie]
@[simp] theorem State.setDie_fx (d : Nat) (y : DieSt) : (s.setDie d y).fx = s.fx := by dsimp only [State.setDie]
@[simp] theorem State.setDie_jack (d : Nat) (y : DieSt) : (s.setDie d y).jack = s.jack := by dsimp only [State.setDie]
@[simp] theorem State.setDie_out (d : Nat) (y : DieSt) : (s.setDie d y).out = s.out := by dsimp only [State.setDie]
@[simp] theorem State.setDie_cv (d : Nat) (y : DieSt) : (s.setDie d y).cv = s.cv := by dsimp only [State.setDie]
@[simp] theorem State.setDie_spk (d : Nat) (y : DieSt) : (s.setDie d y).spk = s.spk := by dsimp only [State.setDie]
@[simp] theorem State.setDie_bst (d : Nat) (y : DieSt) : (s.setDie d y).bst = s.bst := by dsimp only [State.setDie]
@[simp] theorem State.setDie_time (d : Nat) (y : DieSt) : (s.setDie d y).time = s.time := by dsimp only [State.setDie]
@[simp] theorem State.setDie_net (d : Nat) (y : DieSt) : (s.setDie d y).net = s.net := by dsimp only [State.setDie]
@[simp] theorem State.setDie_zkl (d : Nat) (y : DieSt) : (s.setDie d y).zkl = s.zkl := by dsimp only [State.setDie]
@[simp] theorem State.setDie_nvm (d : Nat) (y : DieSt) : (s.setDie d y).nvm = s.nvm := by dsimp only [State.setDie]
@[simp] theorem State.setDie_i2c (d : Nat) (y : DieSt) : (s.setDie d y).i2c = s.i2c := by dsimp only [State.setDie]
@[simp] theorem State.setDie_gpio (d : Nat) (y : DieSt) : (s.setDie d y).gpio = s.gpio := by dsimp only [State.setDie]
@[simp] theorem State.setDie_jtag (d : Nat) (y : DieSt) : (s.setDie d y).jtag = s.jtag := by dsimp only [State.setDie]
@[simp] theorem State.setDie_free (d : Nat) (y : DieSt) : (s.setDie d y).free = s.free := by dsimp only [State.setDie]
@[simp] theorem State.setDie_pending (d : Nat) (y : DieSt) : (s.setDie d y).pending = s.pending := by dsimp only [State.setDie]
@[simp] theorem State.setDie_word (d : Nat) (y : DieSt) (x : Nat) : (s.setDie d y).word x = s.word x := by
  dsimp only [State.word, State.setDie]
@[simp] theorem State.setDie_fld (d : Nat) (y : DieSt) (g : Fld) : (s.setDie d y).fld g = s.fld g := by
  dsimp only [State.fld, State.word, State.setDie]

/-! `State.tell` -/

@[simp] theorem State.tell_phase (d b : Nat) (m : LinkMsg) : (s.tell d b m).phase = s.phase := by
  unfold State.tell State.when; split <;> rfl
@[simp] theorem State.tell_supplied (d b : Nat) (m : LinkMsg) : (s.tell d b m).supplied = s.supplied := by
  unfold State.tell State.when; split <;> rfl
@[simp] theorem State.tell_resetLow (d b : Nat) (m : LinkMsg) : (s.tell d b m).resetLow = s.resetLow := by
  unfold State.tell State.when; split <;> rfl
@[simp] theorem State.tell_railsDown (d b : Nat) (m : LinkMsg) : (s.tell d b m).railsDown = s.railsDown := by
  unfold State.tell State.when; split <;> rfl
@[simp] theorem State.tell_ports (d b : Nat) (m : LinkMsg) : (s.tell d b m).ports = s.ports := by
  unfold State.tell State.when; split <;> rfl
@[simp] theorem State.tell_tick (d b : Nat) (m : LinkMsg) : (s.tell d b m).tick = s.tick := by
  unfold State.tell State.when; split <;> rfl
@[simp] theorem State.tell_cyc (d b : Nat) (m : LinkMsg) : (s.tell d b m).cyc = s.cyc := by
  unfold State.tell State.when; split <;> rfl
@[simp] theorem State.tell_regs (d b : Nat) (m : LinkMsg) : (s.tell d b m).regs = s.regs := by
  unfold State.tell State.when; split <;> rfl
@[simp] theorem State.tell_shadow (d b : Nat) (m : LinkMsg) : (s.tell d b m).shadow = s.shadow := by
  unfold State.tell State.when; split <;> rfl
@[simp] theorem State.tell_shadowMc (d b : Nat) (m : LinkMsg) : (s.tell d b m).shadowMc = s.shadowMc := by
  unfold State.tell State.when; split <;> rfl
@[simp] theorem State.tell_image (d b : Nat) (m : LinkMsg) : (s.tell d b m).image = s.image := by
  unfold State.tell State.when; split <;> rfl
@[simp] theorem State.tell_imageMc (d b : Nat) (m : LinkMsg) : (s.tell d b m).imageMc = s.imageMc := by
  unfold State.tell State.when; split <;> rfl
@[simp] theorem State.tell_fresh (d b : Nat) (m : LinkMsg) : (s.tell d b m).fresh = s.fresh := by
  unfold State.tell State.when; split <;> rfl
@[simp] theorem State.tell_latch (d b : Nat) (m : LinkMsg) : (s.tell d b m).latch = s.latch := by
  unfold State.tell State.when; split <;> rfl
@[simp] theorem State.tell_readData (d b : Nat) (m : LinkMsg) : (s.tell d b m).readData = s.readData := by
  unfold State.tell State.when; split <;> rfl
@[simp] theorem State.tell_portAddr (d b : Nat) (m : LinkMsg) : (s.tell d b m).portAddr = s.portAddr := by
  unfold State.tell State.when; split <;> rfl
@[simp] theorem State.tell_press (d b : Nat) (m : LinkMsg) : (s.tell d b m).press = s.press := by
  unfold State.tell State.when; split <;> rfl
@[simp] theorem State.tell_flt (d b : Nat) (m : LinkMsg) : (s.tell d b m).flt = s.flt := by
  unfold State.tell State.when; split <;> rfl
@[simp] theorem State.tell_qmg (d b : Nat) (m : LinkMsg) : (s.tell d b m).qmg = s.qmg := by
  unfold State.tell State.when; split <;> rfl
@[simp] theorem State.tell_spine (d b : Nat) (m : LinkMsg) : (s.tell d b m).spine = s.spine := by
  unfold State.tell State.when; split <;> rfl
@[simp] theorem State.tell_next (d b : Nat) (m : LinkMsg) : (s.tell d b m).next = s.next := by
  unfold State.tell State.when; split <;> rfl
@[simp] theorem State.tell_tests (d b : Nat) (m : LinkMsg) : (s.tell d b m).tests = s.tests := by
  unfold State.tell State.when; split <;> rfl
@[simp] theorem State.tell_clk (d b : Nat) (m : LinkMsg) : (s.tell d b m).clk = s.clk := by
  unfold State.tell State.when; split <;> rfl
@[simp] theorem State.tell_pwr (d b : Nat) (m : LinkMsg) : (s.tell d b m).pwr = s.pwr := by
  unfold State.tell State.when; split <;> rfl
@[simp] theorem State.tell_ain (d b : Nat) (m : LinkMsg) : (s.tell d b m).ain = s.ain := by
  unfold State.tell State.when; split <;> rfl
@[simp] theorem State.tell_fch (d b : Nat) (m : LinkMsg) : (s.tell d b m).fch = s.fch := by
  unfold State.tell State.when; split <;> rfl
@[simp] theorem State.tell_svc (d b : Nat) (m : LinkMsg) : (s.tell d b m).svc = s.svc := by
  unfold State.tell State.when; split <;> rfl
@[simp] theorem State.tell_spn (d b : Nat) (m : LinkMsg) : (s.tell d b m).spn = s.spn := by
  unfold State.tell State.when; split <;> rfl
@[simp] theorem State.tell_mix (d b : Nat) (m : LinkMsg) : (s.tell d b m).mix = s.mix := by
  unfold State.tell State.when; split <;> rfl
@[simp] theorem State.tell_srcc (d b : Nat) (m : LinkMsg) : (s.tell d b m).srcc = s.srcc := by
  unfold State.tell State.when; split <;> rfl
@[simp] theorem State.tell_sap (d b : Nat) (m : LinkMsg) : (s.tell d b m).sap = s.sap := by
  unfold State.tell State.when; split <;> rfl
@[simp] theorem State.tell_spd (d b : Nat) (m : LinkMsg) : (s.tell d b m).spd = s.spd := by
  unfold State.tell State.when; split <;> rfl
@[simp] theorem State.tell_fx (d b : Nat) (m : LinkMsg) : (s.tell d b m).fx = s.fx := by
  unfold State.tell State.when; split <;> rfl
@[simp] theorem State.tell_jack (d b : Nat) (m : LinkMsg) : (s.tell d b m).jack = s.jack := by
  unfold State.tell State.when; split <;> rfl
@[simp] theorem State.tell_out (d b : Nat) (m : LinkMsg) : (s.tell d b m).out = s.out := by
  unfold State.tell State.when; split <;> rfl
@[simp] theorem State.tell_cv (d b : Nat) (m : LinkMsg) : (s.tell d b m).cv = s.cv := by
  unfold State.tell State.when; split <;> rfl
@[simp] theorem State.tell_spk (d b : Nat) (m : LinkMsg) : (s.tell d b m).spk = s.spk := by
  unfold State.tell State.when; split <;> rfl
@[simp] theorem State.tell_bst (d b : Nat) (m : LinkMsg) : (s.tell d b m).bst = s.bst := by
  unfold State.tell State.when; split <;> rfl
@[simp] theorem State.tell_time (d b : Nat) (m : LinkMsg) : (s.tell d b m).time = s.time := by
  unfold State.tell State.when; split <;> rfl
@[simp] theorem State.tell_net (d b : Nat) (m : LinkMsg) : (s.tell d b m).net = s.net := by
  unfold State.tell State.when; split <;> rfl
@[simp] theorem State.tell_zkl (d b : Nat) (m : LinkMsg) : (s.tell d b m).zkl = s.zkl := by
  unfold State.tell State.when; split <;> rfl
@[simp] theorem State.tell_nvm (d b : Nat) (m : LinkMsg) : (s.tell d b m).nvm = s.nvm := by
  unfold State.tell State.when; split <;> rfl
@[simp] theorem State.tell_i2c (d b : Nat) (m : LinkMsg) : (s.tell d b m).i2c = s.i2c := by
  unfold State.tell State.when; split <;> rfl
@[simp] theorem State.tell_gpio (d b : Nat) (m : LinkMsg) : (s.tell d b m).gpio = s.gpio := by
  unfold State.tell State.when; split <;> rfl
@[simp] theorem State.tell_jtag (d b : Nat) (m : LinkMsg) : (s.tell d b m).jtag = s.jtag := by
  unfold State.tell State.when; split <;> rfl
@[simp] theorem State.tell_free (d b : Nat) (m : LinkMsg) : (s.tell d b m).free = s.free := by
  unfold State.tell State.when; split <;> rfl
@[simp] theorem State.tell_pending (d b : Nat) (m : LinkMsg) : (s.tell d b m).pending = s.pending := by
  unfold State.tell State.when; split <;> rfl
@[simp] theorem State.tell_word (d b : Nat) (m : LinkMsg) (x : Nat) : (s.tell d b m).word x = s.word x := by simp [State.word]
@[simp] theorem State.tell_fld (d b : Nat) (m : LinkMsg) (g : Fld) : (s.tell d b m).fld g = s.fld g := by simp [State.fld]

/-! `State.note` -/

@[simp] theorem State.note_phase (d b : Nat) (n : DieNote) : (s.note d b n).phase = s.phase := by
  exact s.tell_phase d b (.note n)
@[simp] theorem State.note_supplied (d b : Nat) (n : DieNote) : (s.note d b n).supplied = s.supplied := by
  exact s.tell_supplied d b (.note n)
@[simp] theorem State.note_resetLow (d b : Nat) (n : DieNote) : (s.note d b n).resetLow = s.resetLow := by
  exact s.tell_resetLow d b (.note n)
@[simp] theorem State.note_railsDown (d b : Nat) (n : DieNote) : (s.note d b n).railsDown = s.railsDown := by
  exact s.tell_railsDown d b (.note n)
@[simp] theorem State.note_ports (d b : Nat) (n : DieNote) : (s.note d b n).ports = s.ports := by
  exact s.tell_ports d b (.note n)
@[simp] theorem State.note_tick (d b : Nat) (n : DieNote) : (s.note d b n).tick = s.tick := by
  exact s.tell_tick d b (.note n)
@[simp] theorem State.note_cyc (d b : Nat) (n : DieNote) : (s.note d b n).cyc = s.cyc := by
  exact s.tell_cyc d b (.note n)
@[simp] theorem State.note_regs (d b : Nat) (n : DieNote) : (s.note d b n).regs = s.regs := by
  exact s.tell_regs d b (.note n)
@[simp] theorem State.note_shadow (d b : Nat) (n : DieNote) : (s.note d b n).shadow = s.shadow := by
  exact s.tell_shadow d b (.note n)
@[simp] theorem State.note_shadowMc (d b : Nat) (n : DieNote) : (s.note d b n).shadowMc = s.shadowMc := by
  exact s.tell_shadowMc d b (.note n)
@[simp] theorem State.note_image (d b : Nat) (n : DieNote) : (s.note d b n).image = s.image := by
  exact s.tell_image d b (.note n)
@[simp] theorem State.note_imageMc (d b : Nat) (n : DieNote) : (s.note d b n).imageMc = s.imageMc := by
  exact s.tell_imageMc d b (.note n)
@[simp] theorem State.note_fresh (d b : Nat) (n : DieNote) : (s.note d b n).fresh = s.fresh := by
  exact s.tell_fresh d b (.note n)
@[simp] theorem State.note_latch (d b : Nat) (n : DieNote) : (s.note d b n).latch = s.latch := by
  exact s.tell_latch d b (.note n)
@[simp] theorem State.note_readData (d b : Nat) (n : DieNote) : (s.note d b n).readData = s.readData := by
  exact s.tell_readData d b (.note n)
@[simp] theorem State.note_portAddr (d b : Nat) (n : DieNote) : (s.note d b n).portAddr = s.portAddr := by
  exact s.tell_portAddr d b (.note n)
@[simp] theorem State.note_press (d b : Nat) (n : DieNote) : (s.note d b n).press = s.press := by
  exact s.tell_press d b (.note n)
@[simp] theorem State.note_flt (d b : Nat) (n : DieNote) : (s.note d b n).flt = s.flt := by
  exact s.tell_flt d b (.note n)
@[simp] theorem State.note_qmg (d b : Nat) (n : DieNote) : (s.note d b n).qmg = s.qmg := by
  exact s.tell_qmg d b (.note n)
@[simp] theorem State.note_spine (d b : Nat) (n : DieNote) : (s.note d b n).spine = s.spine := by
  exact s.tell_spine d b (.note n)
@[simp] theorem State.note_next (d b : Nat) (n : DieNote) : (s.note d b n).next = s.next := by
  exact s.tell_next d b (.note n)
@[simp] theorem State.note_tests (d b : Nat) (n : DieNote) : (s.note d b n).tests = s.tests := by
  exact s.tell_tests d b (.note n)
@[simp] theorem State.note_clk (d b : Nat) (n : DieNote) : (s.note d b n).clk = s.clk := by
  exact s.tell_clk d b (.note n)
@[simp] theorem State.note_pwr (d b : Nat) (n : DieNote) : (s.note d b n).pwr = s.pwr := by
  exact s.tell_pwr d b (.note n)
@[simp] theorem State.note_ain (d b : Nat) (n : DieNote) : (s.note d b n).ain = s.ain := by
  exact s.tell_ain d b (.note n)
@[simp] theorem State.note_fch (d b : Nat) (n : DieNote) : (s.note d b n).fch = s.fch := by
  exact s.tell_fch d b (.note n)
@[simp] theorem State.note_svc (d b : Nat) (n : DieNote) : (s.note d b n).svc = s.svc := by
  exact s.tell_svc d b (.note n)
@[simp] theorem State.note_spn (d b : Nat) (n : DieNote) : (s.note d b n).spn = s.spn := by
  exact s.tell_spn d b (.note n)
@[simp] theorem State.note_mix (d b : Nat) (n : DieNote) : (s.note d b n).mix = s.mix := by
  exact s.tell_mix d b (.note n)
@[simp] theorem State.note_srcc (d b : Nat) (n : DieNote) : (s.note d b n).srcc = s.srcc := by
  exact s.tell_srcc d b (.note n)
@[simp] theorem State.note_sap (d b : Nat) (n : DieNote) : (s.note d b n).sap = s.sap := by
  exact s.tell_sap d b (.note n)
@[simp] theorem State.note_spd (d b : Nat) (n : DieNote) : (s.note d b n).spd = s.spd := by
  exact s.tell_spd d b (.note n)
@[simp] theorem State.note_fx (d b : Nat) (n : DieNote) : (s.note d b n).fx = s.fx := by
  exact s.tell_fx d b (.note n)
@[simp] theorem State.note_jack (d b : Nat) (n : DieNote) : (s.note d b n).jack = s.jack := by
  exact s.tell_jack d b (.note n)
@[simp] theorem State.note_out (d b : Nat) (n : DieNote) : (s.note d b n).out = s.out := by
  exact s.tell_out d b (.note n)
@[simp] theorem State.note_cv (d b : Nat) (n : DieNote) : (s.note d b n).cv = s.cv := by
  exact s.tell_cv d b (.note n)
@[simp] theorem State.note_spk (d b : Nat) (n : DieNote) : (s.note d b n).spk = s.spk := by
  exact s.tell_spk d b (.note n)
@[simp] theorem State.note_bst (d b : Nat) (n : DieNote) : (s.note d b n).bst = s.bst := by
  exact s.tell_bst d b (.note n)
@[simp] theorem State.note_time (d b : Nat) (n : DieNote) : (s.note d b n).time = s.time := by
  exact s.tell_time d b (.note n)
@[simp] theorem State.note_net (d b : Nat) (n : DieNote) : (s.note d b n).net = s.net := by
  exact s.tell_net d b (.note n)
@[simp] theorem State.note_zkl (d b : Nat) (n : DieNote) : (s.note d b n).zkl = s.zkl := by
  exact s.tell_zkl d b (.note n)
@[simp] theorem State.note_nvm (d b : Nat) (n : DieNote) : (s.note d b n).nvm = s.nvm := by
  exact s.tell_nvm d b (.note n)
@[simp] theorem State.note_i2c (d b : Nat) (n : DieNote) : (s.note d b n).i2c = s.i2c := by
  exact s.tell_i2c d b (.note n)
@[simp] theorem State.note_gpio (d b : Nat) (n : DieNote) : (s.note d b n).gpio = s.gpio := by
  exact s.tell_gpio d b (.note n)
@[simp] theorem State.note_jtag (d b : Nat) (n : DieNote) : (s.note d b n).jtag = s.jtag := by
  exact s.tell_jtag d b (.note n)
@[simp] theorem State.note_free (d b : Nat) (n : DieNote) : (s.note d b n).free = s.free := by
  exact s.tell_free d b (.note n)
@[simp] theorem State.note_pending (d b : Nat) (n : DieNote) : (s.note d b n).pending = s.pending := by
  exact s.tell_pending d b (.note n)
@[simp] theorem State.note_word (d b : Nat) (n : DieNote) (x : Nat) : (s.note d b n).word x = s.word x := by simp [State.word]
@[simp] theorem State.note_fld (d b : Nat) (n : DieNote) (g : Fld) : (s.note d b n).fld g = s.fld g := by simp [State.fld]

/-! `State.startTest` -/

@[simp] theorem State.startTest_phase (u i k : Nat) : (s.startTest u i k).phase = s.phase := by dsimp only [State.startTest]
@[simp] theorem State.startTest_supplied (u i k : Nat) : (s.startTest u i k).supplied = s.supplied := by
  dsimp only [State.startTest]
@[simp] theorem State.startTest_resetLow (u i k : Nat) : (s.startTest u i k).resetLow = s.resetLow := by
  dsimp only [State.startTest]
@[simp] theorem State.startTest_railsDown (u i k : Nat) : (s.startTest u i k).railsDown = s.railsDown := by
  dsimp only [State.startTest]
@[simp] theorem State.startTest_ports (u i k : Nat) : (s.startTest u i k).ports = s.ports := by dsimp only [State.startTest]
@[simp] theorem State.startTest_tick (u i k : Nat) : (s.startTest u i k).tick = s.tick := by dsimp only [State.startTest]
@[simp] theorem State.startTest_cyc (u i k : Nat) : (s.startTest u i k).cyc = s.cyc := by dsimp only [State.startTest]
@[simp] theorem State.startTest_regs (u i k : Nat) : (s.startTest u i k).regs = s.regs := by dsimp only [State.startTest]
@[simp] theorem State.startTest_shadow (u i k : Nat) : (s.startTest u i k).shadow = s.shadow := by dsimp only [State.startTest]
@[simp] theorem State.startTest_shadowMc (u i k : Nat) : (s.startTest u i k).shadowMc = s.shadowMc := by
  dsimp only [State.startTest]
@[simp] theorem State.startTest_image (u i k : Nat) : (s.startTest u i k).image = s.image := by dsimp only [State.startTest]
@[simp] theorem State.startTest_imageMc (u i k : Nat) : (s.startTest u i k).imageMc = s.imageMc := by dsimp only [State.startTest]
@[simp] theorem State.startTest_fresh (u i k : Nat) : (s.startTest u i k).fresh = s.fresh := by dsimp only [State.startTest]
@[simp] theorem State.startTest_latch (u i k : Nat) : (s.startTest u i k).latch = s.latch := by dsimp only [State.startTest]
@[simp] theorem State.startTest_readData (u i k : Nat) : (s.startTest u i k).readData = s.readData := by
  dsimp only [State.startTest]
@[simp] theorem State.startTest_portAddr (u i k : Nat) : (s.startTest u i k).portAddr = s.portAddr := by
  dsimp only [State.startTest]
@[simp] theorem State.startTest_link (u i k : Nat) : (s.startTest u i k).link = s.link := by dsimp only [State.startTest]
@[simp] theorem State.startTest_press (u i k : Nat) : (s.startTest u i k).press = s.press := by dsimp only [State.startTest]
@[simp] theorem State.startTest_flt (u i k : Nat) : (s.startTest u i k).flt = s.flt := by dsimp only [State.startTest]
@[simp] theorem State.startTest_qmg (u i k : Nat) : (s.startTest u i k).qmg = s.qmg := by dsimp only [State.startTest]
@[simp] theorem State.startTest_spine (u i k : Nat) : (s.startTest u i k).spine = s.spine := by dsimp only [State.startTest]
@[simp] theorem State.startTest_next (u i k : Nat) : (s.startTest u i k).next = s.next := by dsimp only [State.startTest]
@[simp] theorem State.startTest_clk (u i k : Nat) : (s.startTest u i k).clk = s.clk := by dsimp only [State.startTest]
@[simp] theorem State.startTest_pwr (u i k : Nat) : (s.startTest u i k).pwr = s.pwr := by dsimp only [State.startTest]
@[simp] theorem State.startTest_ain (u i k : Nat) : (s.startTest u i k).ain = s.ain := by dsimp only [State.startTest]
@[simp] theorem State.startTest_fch (u i k : Nat) : (s.startTest u i k).fch = s.fch := by dsimp only [State.startTest]
@[simp] theorem State.startTest_svc (u i k : Nat) : (s.startTest u i k).svc = s.svc := by dsimp only [State.startTest]
@[simp] theorem State.startTest_spn (u i k : Nat) : (s.startTest u i k).spn = s.spn := by dsimp only [State.startTest]
@[simp] theorem State.startTest_mix (u i k : Nat) : (s.startTest u i k).mix = s.mix := by dsimp only [State.startTest]
@[simp] theorem State.startTest_srcc (u i k : Nat) : (s.startTest u i k).srcc = s.srcc := by dsimp only [State.startTest]
@[simp] theorem State.startTest_sap (u i k : Nat) : (s.startTest u i k).sap = s.sap := by dsimp only [State.startTest]
@[simp] theorem State.startTest_spd (u i k : Nat) : (s.startTest u i k).spd = s.spd := by dsimp only [State.startTest]
@[simp] theorem State.startTest_fx (u i k : Nat) : (s.startTest u i k).fx = s.fx := by dsimp only [State.startTest]
@[simp] theorem State.startTest_jack (u i k : Nat) : (s.startTest u i k).jack = s.jack := by dsimp only [State.startTest]
@[simp] theorem State.startTest_out (u i k : Nat) : (s.startTest u i k).out = s.out := by dsimp only [State.startTest]
@[simp] theorem State.startTest_cv (u i k : Nat) : (s.startTest u i k).cv = s.cv := by dsimp only [State.startTest]
@[simp] theorem State.startTest_spk (u i k : Nat) : (s.startTest u i k).spk = s.spk := by dsimp only [State.startTest]
@[simp] theorem State.startTest_bst (u i k : Nat) : (s.startTest u i k).bst = s.bst := by dsimp only [State.startTest]
@[simp] theorem State.startTest_time (u i k : Nat) : (s.startTest u i k).time = s.time := by dsimp only [State.startTest]
@[simp] theorem State.startTest_net (u i k : Nat) : (s.startTest u i k).net = s.net := by dsimp only [State.startTest]
@[simp] theorem State.startTest_zkl (u i k : Nat) : (s.startTest u i k).zkl = s.zkl := by dsimp only [State.startTest]
@[simp] theorem State.startTest_nvm (u i k : Nat) : (s.startTest u i k).nvm = s.nvm := by dsimp only [State.startTest]
@[simp] theorem State.startTest_i2c (u i k : Nat) : (s.startTest u i k).i2c = s.i2c := by dsimp only [State.startTest]
@[simp] theorem State.startTest_gpio (u i k : Nat) : (s.startTest u i k).gpio = s.gpio := by dsimp only [State.startTest]
@[simp] theorem State.startTest_jtag (u i k : Nat) : (s.startTest u i k).jtag = s.jtag := by dsimp only [State.startTest]
@[simp] theorem State.startTest_free (u i k : Nat) : (s.startTest u i k).free = s.free := by dsimp only [State.startTest]
@[simp] theorem State.startTest_pending (u i k : Nat) : (s.startTest u i k).pending = s.pending := by dsimp only [State.startTest]
@[simp] theorem State.startTest_word (u i k : Nat) (x : Nat) : (s.startTest u i k).word x = s.word x := by
  dsimp only [State.word, State.startTest]
@[simp] theorem State.startTest_fld (u i k : Nat) (g : Fld) : (s.startTest u i k).fld g = s.fld g := by
  dsimp only [State.fld, State.word, State.startTest]

/-! `State.endTest` -/

@[simp] theorem State.endTest_phase (u i : Nat) : (s.endTest u i).phase = s.phase := by dsimp only [State.endTest]
@[simp] theorem State.endTest_supplied (u i : Nat) : (s.endTest u i).supplied = s.supplied := by dsimp only [State.endTest]
@[simp] theorem State.endTest_resetLow (u i : Nat) : (s.endTest u i).resetLow = s.resetLow := by dsimp only [State.endTest]
@[simp] theorem State.endTest_railsDown (u i : Nat) : (s.endTest u i).railsDown = s.railsDown := by dsimp only [State.endTest]
@[simp] theorem State.endTest_ports (u i : Nat) : (s.endTest u i).ports = s.ports := by dsimp only [State.endTest]
@[simp] theorem State.endTest_tick (u i : Nat) : (s.endTest u i).tick = s.tick := by dsimp only [State.endTest]
@[simp] theorem State.endTest_cyc (u i : Nat) : (s.endTest u i).cyc = s.cyc := by dsimp only [State.endTest]
@[simp] theorem State.endTest_regs (u i : Nat) : (s.endTest u i).regs = s.regs := by dsimp only [State.endTest]
@[simp] theorem State.endTest_shadow (u i : Nat) : (s.endTest u i).shadow = s.shadow := by dsimp only [State.endTest]
@[simp] theorem State.endTest_shadowMc (u i : Nat) : (s.endTest u i).shadowMc = s.shadowMc := by dsimp only [State.endTest]
@[simp] theorem State.endTest_image (u i : Nat) : (s.endTest u i).image = s.image := by dsimp only [State.endTest]
@[simp] theorem State.endTest_imageMc (u i : Nat) : (s.endTest u i).imageMc = s.imageMc := by dsimp only [State.endTest]
@[simp] theorem State.endTest_fresh (u i : Nat) : (s.endTest u i).fresh = s.fresh := by dsimp only [State.endTest]
@[simp] theorem State.endTest_latch (u i : Nat) : (s.endTest u i).latch = s.latch := by dsimp only [State.endTest]
@[simp] theorem State.endTest_readData (u i : Nat) : (s.endTest u i).readData = s.readData := by dsimp only [State.endTest]
@[simp] theorem State.endTest_portAddr (u i : Nat) : (s.endTest u i).portAddr = s.portAddr := by dsimp only [State.endTest]
@[simp] theorem State.endTest_link (u i : Nat) : (s.endTest u i).link = s.link := by dsimp only [State.endTest]
@[simp] theorem State.endTest_press (u i : Nat) : (s.endTest u i).press = s.press := by dsimp only [State.endTest]
@[simp] theorem State.endTest_flt (u i : Nat) : (s.endTest u i).flt = s.flt := by dsimp only [State.endTest]
@[simp] theorem State.endTest_qmg (u i : Nat) : (s.endTest u i).qmg = s.qmg := by dsimp only [State.endTest]
@[simp] theorem State.endTest_spine (u i : Nat) : (s.endTest u i).spine = s.spine := by dsimp only [State.endTest]
@[simp] theorem State.endTest_next (u i : Nat) : (s.endTest u i).next = s.next := by dsimp only [State.endTest]
@[simp] theorem State.endTest_clk (u i : Nat) : (s.endTest u i).clk = s.clk := by dsimp only [State.endTest]
@[simp] theorem State.endTest_pwr (u i : Nat) : (s.endTest u i).pwr = s.pwr := by dsimp only [State.endTest]
@[simp] theorem State.endTest_ain (u i : Nat) : (s.endTest u i).ain = s.ain := by dsimp only [State.endTest]
@[simp] theorem State.endTest_fch (u i : Nat) : (s.endTest u i).fch = s.fch := by dsimp only [State.endTest]
@[simp] theorem State.endTest_svc (u i : Nat) : (s.endTest u i).svc = s.svc := by dsimp only [State.endTest]
@[simp] theorem State.endTest_spn (u i : Nat) : (s.endTest u i).spn = s.spn := by dsimp only [State.endTest]
@[simp] theorem State.endTest_mix (u i : Nat) : (s.endTest u i).mix = s.mix := by dsimp only [State.endTest]
@[simp] theorem State.endTest_srcc (u i : Nat) : (s.endTest u i).srcc = s.srcc := by dsimp only [State.endTest]
@[simp] theorem State.endTest_sap (u i : Nat) : (s.endTest u i).sap = s.sap := by dsimp only [State.endTest]
@[simp] theorem State.endTest_spd (u i : Nat) : (s.endTest u i).spd = s.spd := by dsimp only [State.endTest]
@[simp] theorem State.endTest_fx (u i : Nat) : (s.endTest u i).fx = s.fx := by dsimp only [State.endTest]
@[simp] theorem State.endTest_jack (u i : Nat) : (s.endTest u i).jack = s.jack := by dsimp only [State.endTest]
@[simp] theorem State.endTest_out (u i : Nat) : (s.endTest u i).out = s.out := by dsimp only [State.endTest]
@[simp] theorem State.endTest_cv (u i : Nat) : (s.endTest u i).cv = s.cv := by dsimp only [State.endTest]
@[simp] theorem State.endTest_spk (u i : Nat) : (s.endTest u i).spk = s.spk := by dsimp only [State.endTest]
@[simp] theorem State.endTest_bst (u i : Nat) : (s.endTest u i).bst = s.bst := by dsimp only [State.endTest]
@[simp] theorem State.endTest_time (u i : Nat) : (s.endTest u i).time = s.time := by dsimp only [State.endTest]
@[simp] theorem State.endTest_net (u i : Nat) : (s.endTest u i).net = s.net := by dsimp only [State.endTest]
@[simp] theorem State.endTest_zkl (u i : Nat) : (s.endTest u i).zkl = s.zkl := by dsimp only [State.endTest]
@[simp] theorem State.endTest_nvm (u i : Nat) : (s.endTest u i).nvm = s.nvm := by dsimp only [State.endTest]
@[simp] theorem State.endTest_i2c (u i : Nat) : (s.endTest u i).i2c = s.i2c := by dsimp only [State.endTest]
@[simp] theorem State.endTest_gpio (u i : Nat) : (s.endTest u i).gpio = s.gpio := by dsimp only [State.endTest]
@[simp] theorem State.endTest_jtag (u i : Nat) : (s.endTest u i).jtag = s.jtag := by dsimp only [State.endTest]
@[simp] theorem State.endTest_free (u i : Nat) : (s.endTest u i).free = s.free := by dsimp only [State.endTest]
@[simp] theorem State.endTest_pending (u i : Nat) : (s.endTest u i).pending = s.pending := by dsimp only [State.endTest]
@[simp] theorem State.endTest_word (u i : Nat) (x : Nat) : (s.endTest u i).word x = s.word x := by
  dsimp only [State.word, State.endTest]
@[simp] theorem State.endTest_fld (u i : Nat) (g : Fld) : (s.endTest u i).fld g = s.fld g := by
  dsimp only [State.fld, State.word, State.endTest]

end Sys2Proof.Machine
end

