-- ==== Sys2Proof/WellFormed.lean ====
section
/-!
DEFINITION. Which operands of a command name something the part has: the numbers and lists whose range the syntax leaves open.
A command that is not well formed is no event of the part; `exec` does not ask, so claims that need it say so.
-/

namespace Sys2Proof

/-- A received burst of direction `d` (R18, R72): a data burst of its fixed size or a control burst within its maximum; the receiving
die's frame boundary is off by less than a tick. -/
def BurstIn.wf (d : Fin 4) (b : BurstIn) : Bool :=
  decide (b.phase < 5120)
    && (if b.cw.getLsbD 64 then decide (b.quires.length ≤ if d.val < 2 then 32 else 16)
        else b.quires.length == [14, 64, 3, 9].getD d.val 0)

/-- A quire of one of the three pools (R36): 0 cells, 1 effects, 2 delay. -/
def poolQuire (pool q : Nat) : Bool := decide (pool < 3) && decide (q < [1048576, 786432, 524288].getD pool 0)

/-- The units that a count check counts, by its kind (R529). -/
def countUnits : Nat → Nat
  | 0 => 72
  | 1 => 16
  | 2 => 4
  | 3 => 320
  | 4 => 5
  | 5 => 1
  | _ => 0

/-- What a tick finds: spine sources (R239), lanes and sinks (R241), crosspoints (R251), receive channels (R239), quires (R36),
buffered channels (R236), delay lines of 48 audio and 32 control channels (R145), queues (R397), units counted (R529), eight speakers,
twelve jack codes (R312), limited outputs and CV channels, eight PDM lines (R203). -/
def TickIn.wf (w : TickIn) : Bool :=
  w.missed.all (· < 0x900) && w.slots.all (fun e => decide (e.1 < 384) && e.2.all (· < 0x900))
    && w.crosspoints.all (· < 384 * 192) && w.playout.all (· < 256)
    && w.quires.all (fun e => poolQuire e.1 e.2.1) && w.buffers.all (fun e => decide (e.1 < 1024))
    && w.history.all (fun e => decide (e.1 < 80)) && w.tables.all (fun e => decide (e.1 < 4096))
    && w.counts.all (fun e => decide (e.2 < countUnits e.1)) && decide (w.sense.length ≤ 8)
    && decide (w.jacks.length ≤ 12) && w.outLimited.all (· < 20) && w.cvLimited.all (· < 16)
    && decide (w.pdm.length ≤ 8)

/-- OTP items without a VALID word, each with the index of a page (R496, R554). -/
def PorIn.wf (p : PorIn) : Bool := p.trims.all (fun t => decide (t.2 < 290))

/-- A command whose operands name things the part has. -/
def Instr.wf : Instr → Bool
  | .tickBoundary w => w.wf
  -- the converter die sends a quire per modulator (R18)
  | .dataBurstSend _ frame => decide (frame.length ≤ 64)
  | .stitchBurstReceive d b => b.wf d
  | .resetRelease p => p.wf
  | .railRecover _ p => p.wf
  -- the producers of R405 have ranks 1 to 5
  | .cellRequest _ rank _ _ _ => decide (1 ≤ rank) && decide (rank ≤ 5)
  | .signatureClose _ rank _ _ _ => decide (1 ≤ rank) && decide (rank ≤ 5)
  -- a frame has at most 32 slots of 32 bits; its line starts up to 31 bits early and ends one bit after it (R181)
  | .sapFrame _ bits _ line => decide (line.length = bits + 1) && decide (line.length ≤ 2048)
  -- a message has 1 to 64 words (R501)
  | .mboxPost ws => decide (1 ≤ ws.length) && decide (ws.length ≤ 64)
  -- the result of a transaction holds the bytes read, at most 32 (R568)
  | .i2cTransactionDone _ _ _ rx => decide (rx.length ≤ 32)
  | _ => true

end Sys2Proof
end

