-- ==== Sys2Proof/Tests/Slice0.lean ====
section
/-!
SUPPORT. Tests of the model: witnesses for the hypotheses of the statements, ill-formed terms, single steps on small states.
-/

open Sys2Proof Sys2Proof.Machine

set_option linter.unusedVariables false
set_option maxRecDepth 40000
set_option Elab.async false

namespace Sys2Proof.Tests

/-- A part whose tick runs and whose ports answer. -/
def base : State := { State.reset with phase := .running, ports := true, tick := 5, resetLow := false }

/-- The state after a command. -/
def after (c : Host.Outcome State Fault Refusal) : State := match c with | .next t => t | _ => State.reset

/-- Each outcome is a next state. -/
def answers (cs : List (Host.Outcome State Fault Refusal)) : Bool := cs.all (fun c => match c with | .next _ => true | _ => false)

namespace W01

def cm (n : Nat) : LinkMsg := .commit n
def lk := { base.setFld (F.FLT_LINK_B_LSTATE 2) 1 with cyc := 5 }
def lkd (x : LinkDir) := lk.setDir 3 x
def mkIn (d : Nat) (c : Nat) (cyc : Fin 5120) (b : Burst) (rep : Bool) (s : State) (extra : List Quire) : BurstIn := { cyc := cyc, quires := (if b.ctl then b.cmds.map cmdQuire else b.quires) ++ extra, cw := catchword d b rep, phase := 3 }
def bo (s : State) (ctl : Bool) : Burst := { tick := s.tick % 2^32, ctl := ctl, bsn := (s.dir 3).expect, quires := if ctl then [] else [7,8], cmds := if ctl then [4,9] else [] }
def cl := lkd { expect := 77 }
def recv3 : BurstIn := mkIn 3 0 100 (bo cl false) false cl []
def recv3c : BurstIn := mkIn 3 0 2100 (bo cl true) false cl []
def old : Burst := { tick := (cl.tick - 1) % 2^32, ctl := true, bsn := 7, cmds := [3] }
def clt := { lkd { lost := [(7,base.tick,true),(5,base.tick,false)] } with tick := base.tick + 1 }

/-- The conditions of every clause of `Obligations.LinkCommandsComplete` are met together. -/
theorem test_hyps_LinkCommandsComplete :
    (∃ (s : State) (d : Fin 4) (frame : List Quire), s.phase = .running ∧ linkRuns (d.val / 2) s = true ∧ linkSupplied (d.val
        / 2) s = true ∧ burstSent d.val false s = false ∧ s.cyc ≤ 1023) ∧
    (∃ (s : State) (d : Fin 4) (cyc : Fin 5120), s.phase = .running ∧ linkRuns (d.val / 2) s = true ∧ linkSupplied (d.val /
        2) s = true ∧ burstSent d.val true s = false ∧ s.cyc ≤ 3071 ∧ cyc.val ≤ 3071) ∧
    (∃ (s : State) (d : Fin 4) (b : BurstIn), s.phase = .running ∧ linkRuns (d.val / 2) s = true ∧ linkSupplied (d.val / 2) s
        = true ∧ Quire.bits b.cw 65 65 = 0 ∧ burstSeen d.val (decide (2048 ≤ b.cyc.val)) s = false ∧ burstWhole d.val b =
        true ∧ Quire.bits b.cw 63 32 = (s.dir d).expect ∧ (Quire.bits b.cw 64 64 == 1) = decide (2048 ≤ b.cyc.val) ∧
        ((Quire.bits b.cw 31 0 : Nat) : Int) = recvTick d.val s % 2 ^ 32 ∧ b.phase ≤ 16) ∧
    (∃ (s : State) (d : Fin 4) (b : BurstIn), s.phase = .running ∧ linkRuns (d.val / 2) s = true ∧ linkSupplied (d.val / 2) s
        = true ∧ Quire.bits b.cw 65 65 = 0 ∧ burstSeen d.val (decide (2048 ≤ b.cyc.val)) s = false ∧ (burstWhole d.val b =
        false ∨ Quire.bits b.cw 63 32 ≠ (s.dir d).expect ∨ (Quire.bits b.cw 64 64 == 1) ≠ decide (2048 ≤ b.cyc.val))) ∧
    (∃ (s : State) (d : Fin 4) (b : BurstIn) (tk : Nat) (ctl : Bool), s.phase = .running ∧ linkRuns (d.val / 2) s = true ∧
        linkSupplied (d.val / 2) s = true ∧ Quire.bits b.cw 65 65 = 1 ∧ burstWhole d.val b = true ∧ (s.dir d).lost.find? (fun
        e => e.1 == Quire.bits b.cw 63 32) = some (Quire.bits b.cw 63 32, tk, ctl) ∧ (s.tick ≤ tk ∨ (s.tick = tk + 1 ∧
        b.cyc.val < 2048)) ∧ ((Quire.bits b.cw 31 0 + (s.tick - tk) : Nat) : Int) % 2 ^ 32 = recvTick d.val s % 2 ^ 32) ∧
    (∃ (s : State) (d : Fin 4) (ctl : Bool), s.phase = .running ∧ linkRuns (d.val / 2) s = true ∧ linkSupplied (d.val / 2) s
        = true ∧ burstSeen d.val ctl s = false) ∧
    (∃ (s : State) (d : Fin 4), s.phase = .running ∧ linkRuns (d.val / 2) s = true ∧ linkSupplied (d.val / 2) s = true) ∧
    (∃ (s : State) (d : Fin 4), s.phase = .running) ∧
    (∃ (s : State) (d : Fin 4) (bsn : Fin 4294967296) (b : Burst), s.phase = .running ∧ bsn.val ∈ (s.dir d).want ∧ (s.dir
        d).retry.find? (fun x => x.bsn == bsn.val) = some b ∧ b.replays < 2 ∧ (∀ e ∈ (s.dir d).asked, e.1 ≠ bsn.val)) ∧
    (∃ (s : State) (d : Fin 4) (a : Bool), s.phase = .running ∧ linkRuns (d.val / 2) s = true ∧ linkSupplied (d.val / 2) s =
        true ∧ s.cyc ≤ (if a then 2047 else 4095)) ∧
    (∃ (s : State) (l : Fin 2), s.phase = .running ∧ lstate l s = 2 ∧ s.on F.PWR_STATUS_VSER_OK = true ∧ linkSupplied l.val s
        = true) ∧
    (∃ (s : State) (l : Fin 2), s.phase = .running ∧ lstate l s = 0 ∧ s.on F.PWR_STATUS_VSER_OK = true ∧ linkSupplied l.val s
        = true) ∧
    (∃ (s : State) (l : Fin 2), s.phase = .running ∧ lstate l s = 3 ∧ linkDelivered l.val s = true) ∧
    (∃ (s : State) (d : Fin 4) (seq : Nat), s.phase = .running ∧ linkRuns (d.val / 2) s = true ∧ (s.dir d).acked ≤ seq ∧
        (s.dir d).cmdSeq = seq + ((s.dir d).cmds.filter (fun c => decide (seq < c.seq))).length) ∧
    (∃ (s : State) (d : Fin 4) (seq : Nat) (ok : Bool), s.phase = .running ∧ linkRuns (d.val / 2) s = true ∧ (ok = false ∨
        seq < (s.dir d).acked ∨ (s.dir d).cmdSeq ≠ seq + ((s.dir d).cmds.filter (fun c => decide (seq < c.seq))).length)) ∧
    (∃ (s : State), s.phase = .running) :=
  ⟨⟨lk, 3, [], by decide⟩,
   ⟨(lkd {cmds := [⟨1,3,cm 7⟩], cmdSeq := 1, wait := [(3,cm 8),(99999999,cm 9),(4,cm 10)]}), 3, 3071, by decide⟩,
   ⟨cl, 3, recv3, by decide⟩,
   ⟨cl, 3, {recv3 with quires := [1]}, by decide⟩,
   ⟨clt, 3, (mkIn 3 0 2047 {old with tick := base.tick} true clt []), base.tick, true, by decide⟩,
   ⟨cl, 3, true, by decide⟩,
   ⟨(lkd { lost := [(7,base.tick,true),(5,base.tick,false)], want := [5]}), 3, by decide⟩,
   ⟨lk, 3, by decide⟩,
   ⟨(lkd { want := [7], retry := [{tick := 5, ctl := false, bsn := 7}] }), 3, 7, {tick := 5, ctl := false, bsn := 7}, by decide⟩,
   ⟨(lkd { retry := [{tick := 5, ctl := false, bsn := 7}], asked := [(7,false,base.tick),(9,true,5)] }), 3, false, by decide⟩,
   ⟨((base.setFld (F.FLT_LINK_B_LSTATE 2) 2).setFld F.PWR_STATUS_VSER_OK 1), 1, by decide⟩,
   ⟨(base.setFld F.PWR_STATUS_VSER_OK 1 |>.setFld (F.FLT_LINK_B_LSTATE 2) 0), 1, by decide⟩,
   ⟨((base.setFld (F.FLT_LINK_B_LSTATE 2) 3).setDir 2 {}), 1, by decide⟩,
   ⟨(lkd { acked := 1, cmdSeq := 3, cmds := [⟨2,3,cm 0⟩,⟨3,4,cm 0⟩] }), 3, 2, by decide⟩,
   ⟨(lkd { acked := 1, cmdSeq := 3, cmds := [⟨2,3,cm 0⟩,⟨3,4,cm 0⟩] }), 3, 2, false, by decide⟩,
   ⟨base, by decide⟩⟩

/-- The hypotheses of the frame statements about these commands: each answers a next state here. -/
theorem test_answers_LinkCommandsComplete :
    answers [exec (.dataBurstSend 3 []) lk,
      exec (.controlBurstSend 3 3071) (lkd {cmds := [⟨1,3,cm 7⟩], cmdSeq := 1, wait := [(3,cm 8),(99999999,cm 9),(4,cm 10)]}),
      exec (.stitchBurstReceive 3 recv3) cl,
      exec (.burstWindowTimeout 3 (if true then 2 else 0)) cl,
      exec (.retryRequest 3 7) (lkd { want := [7], retry := [{tick := 5, ctl := false, bsn := 7}] }),
      exec (.burstReplay 3 false) (lkd { retry := [{tick := 5, ctl := false, bsn := 7}], asked := [(7,false,base.tick),(9,true,5)] }),
      exec (.linkTrainingAnswer 1) ((base.setFld (F.FLT_LINK_B_LSTATE 2) 2).setFld F.PWR_STATUS_VSER_OK 1),
      exec (.lanesTrained 1) (base.setFld F.PWR_STATUS_VSER_OK 1 |>.setFld (F.FLT_LINK_B_LSTATE 2) 0),
      exec (.liveConfigTransferDone 1) ((base.setFld (F.FLT_LINK_B_LSTATE 2) 3).setDir 2 {}),
      exec (.creditSetReceive 3 2 true) (lkd { acked := 1, cmdSeq := 3, cmds := [⟨2,3,cm 0⟩,⟨3,4,cm 0⟩] }),
      exec .eccWriteBack base] = true := by decide +kernel

end W01

namespace W02

def w0 : TickIn := ⟨[], [], 0, [], 0, [], [], [], [], [], [], [], none, [], none, [], [], []⟩
def wb := (base.setFld F.FLT_STAT_PARTWIDE 0)
def wc : State := { wb with clk := { wb.clk with lostC := false }, link := { wb.link with adopt := [] } }
def lk := base.setFld (F.FLT_LINK_B_LSTATE 2) 1
def bD : Burst := {tick := base.tick - 1, ctl := false, bsn := 0, quires := [3]}
def bC : Burst := {tick := base.tick - 1, ctl := true, bsn := 0, cmds := [3, 1, 2]}

/-- The conditions of every clause of `Obligations.TickCommandsComplete` are met together. -/
theorem test_hyps_TickCommandsComplete :
    (∃ (s : State) (w : TickIn), s.phase = .running) ∧
    (∃ (s : State) (w : TickIn), s.phase = .running ∧ w.missed = [] ∧ w.slots = [] ∧ (tickFinish w s).on F.FLT_STAT_PARTWIDE
        = false ∧ (tickFinish w s).clk.lostC = false ∧ SMap.get (fun _ => false) (tickFinish w s).link.adopt 0 = false) ∧
    (∃ (s : State) (cyc : Fin 5120) (l : Fin 2) (b : Burst), s.phase = .running ∧ linkRuns l s = true ∧ linkSupplied l s =
        true ∧ (s.dir (2 * l)).due ≤ s.tick ∧ (s.dir (2 * l)).got.find? (fun b => b.ctl == false && b.tick + 1 == s.tick) =
        some b) ∧
    (∃ (s : State) (cyc : Fin 5120) (l : Fin 2), s.phase = .running ∧ linkRuns l s = true ∧ linkSupplied l s = true ∧ (s.dir
        (2 * l)).due ≤ s.tick ∧ (s.dir (2 * l)).got.find? (fun b => b.ctl == false && b.tick + 1 == s.tick) = none) ∧
    (∃ (s : State) (cyc : Fin 5120) (l : Fin 2) (b : Burst), s.phase = .running ∧ linkRuns l s = true ∧ linkSupplied l s =
        true ∧ (s.dir (2 * l)).due ≤ s.tick ∧ (s.dir (2 * l)).got.find? (fun b => b.ctl == true && b.tick + 1 == s.tick) =
        some b) :=
  ⟨⟨base, (w0), by decide⟩,
   ⟨wc, w0, by decide⟩,
   ⟨(lk.setDir 2 { got := [bC, bD] }), 2050, 1, bD, by decide⟩,
   ⟨(lk.setDir 2 { got := [bC] }), 2050, 1, by decide⟩,
   ⟨(lk.setDir 2 { got := [bC], applied := 1, cmds := [⟨1,0,.commit 1⟩, ⟨2,5,.commit 1⟩, ⟨3,5,.commit 2⟩] }), 2050, 1, bC, by decide⟩⟩

/-- The hypotheses of the frame statements about these commands: each answers a next state here. -/
theorem test_answers_TickCommandsComplete :
    answers [exec (.tickBoundary (w0)) base,
      exec (.takePoint 2050) (lk.setDir 2 { got := [bC, bD] })] = true := by decide +kernel

end W02

namespace W03

def por : PorIn := ⟨true, []⟩
def R0 := State.reset
def sr := {R0 with phase := .searching, resetLow := false}

/-- The conditions of every clause of `Obligations.ResetCommandsComplete` are met together. -/
theorem test_hyps_ResetCommandsComplete :
    (∃ (s : State) (por : PorIn), s.phase = .held ∧ s.railsDown = 0) ∧
    (∃ (s : State) (por : PorIn), s.phase = .held ∧ s.railsDown ≠ 0) ∧
    (∃ (s : State) (die : Fin 3) (stage : Fin 5), die ≠ 0) ∧
    (∃ (s : State) (band : Fin 64) (after : Nat), s.phase = .searching) ∧
    (∃ (s : State), s.phase = .searching) ∧
    (∃ (s : State), s.phase = .running ∧ pllLocked 0 s = true) ∧
    (∃ (s : State) (rail : Rail) (stage : Fin 5), (rail = .vcore ∨ rail = .vddio ∨ rail = .vdda)) ∧
    (∃ (s : State) (cold : Bool) (stage : Fin 5), s.phase = .running ∧ s.on F.PWR_STATUS_VAH_OK = true) ∧
    (∃ (s : State) (cold : Bool) (stage : Fin 5), s.phase = .running ∧ s.pwr.pvin = true) ∧
    (∃ (s : State) (cold : Bool) (stage : Fin 5), s.phase = .running ∧ s.on F.PWR_STATUS_VSER_OK = true) ∧
    (∃ (s : State) (rail : Rail) (por : PorIn), s.phase = .held ∧ s.resetLow = false ∧ (rail = .vcore ∧ s.railsDown = 1 ∨
        rail = .vddio ∧ s.railsDown = 4 ∨ rail = .vdda ∧ s.railsDown = 8)) ∧
    (∃ (s : State) (por : PorIn), s.phase = .running ∧ s.on F.PWR_STATUS_VSER_OK = false) ∧
    (∃ (s : State) (por : PorIn), s.phase = .running ∧ s.on F.PWR_STATUS_VAH_OK = false) ∧
    (∃ (s : State) (por : PorIn), s.phase = .running) :=
  ⟨⟨R0, por, by decide⟩,
   ⟨{R0 with railsDown := 4}, por, by decide⟩,
   ⟨base, 1, 1, by decide⟩,
   ⟨sr, 5, 20, by decide⟩,
   ⟨{sr with clk := {searches := 63}}, by decide⟩,
   ⟨(base.setFld (F.CLK_PLL_STAT_LOCK 0) 1), by decide⟩,
   ⟨base, .vdda, 0, by decide⟩,
   ⟨(base.setFld F.PWR_STATUS_VAH_OK 1), false, 0, by decide⟩,
   ⟨base, false, 0, by decide⟩,
   ⟨(base.setFld F.PWR_STATUS_VSER_OK 1), false, 0, by decide⟩,
   ⟨{R0 with railsDown := 8, resetLow := false}, .vdda, por, by decide⟩,
   ⟨(base.setFld F.PWR_STATUS_VSER_OK 0), por, by decide⟩,
   ⟨(base.setFld F.PWR_STATUS_VAH_OK 0), por, by decide⟩,
   ⟨base, por, by decide⟩⟩

/-- The hypotheses of the frame statements about these commands: each answers a next state here. -/
theorem test_answers_ResetCommandsComplete :
    answers [exec (.resetAssert 1) base,
      exec (.resetRelease por) R0,
      exec (.dieSupplyLoss 0 1) base,
      exec (.pllcLock 5 20) sr,
      exec .pllcSearchFail {sr with clk := {searches := 63}},
      exec .pllcUnlock (base.setFld (F.CLK_PLL_STAT_LOCK 0) 1),
      exec (.railUndervoltage .vdda false 0) base,
      exec (.railRecover .vdda por) {R0 with railsDown := 8, resetLow := false}] = true := by decide +kernel

end W03

namespace W04

def ref := (base.setFld F.CLK_STATUS_REF_OK 1).setFld F.CLK_STATUS_REF_ACT 2 |>.setFld F.CLK_REF_CFG_SLEW_RATE 1

/-- The conditions of every clause of `Obligations.ClockCommandsComplete` are met together. -/
theorem test_hyps_ClockCommandsComplete :
    (∃ (s : State) (edges : Nat) (x : Bool), s.phase = .running ∧ windowGood edges 3072 = true ∧ x = false ∧ s.clk.refGood =
        15 ∧ s.fld F.CLK_STATUS_REF_OK = 0 ∧ s.fld F.CLK_STATUS_REF_ACT = 2 ∧ s.on F.CLK_REF_CFG_SLEW_RATE = true ∧
        s.clk.waitPair = false) ∧
    (∃ (s : State) (edges : Nat) (x : Bool), s.phase = .running ∧ windowGood edges 3072 = true ∧ x = false ∧ s.clk.refGood <
        15) ∧
    (∃ (s : State) (edges : Nat) (x : Bool), s.phase = .running ∧ windowGood edges 3125 = true ∧ s.clk.nrefGood = 15 ∧ s.on
        F.CLK_STATUS_NREF_OK = false) ∧
    (∃ (s : State), s.phase = .running ∧ s.fld F.CLK_STATUS_REF_ACT ≠ 2) ∧
    (∃ (s : State), s.phase = .running ∧ s.fld F.CLK_STATUS_REF_ACT = 2 ∧ s.on F.CLK_STATUS_REF_OK = true) ∧
    (∃ (s : State), s.phase = .running ∧ s.on F.CLK_STATUS_SLEWING = true ∧ s.on F.CLK_STATUS_REF_OK = true ∧ s.fld
        F.CLK_STATUS_REF_ACT = 2 ∧ s.on F.CLK_REF_CFG_SLEW_RATE = true) ∧
    (∃ (s : State), s.phase = .running ∧ s.clk.waitPair = true ∧ s.on F.CLK_STATUS_PRELOCK = true ∧ 1 ≤ s.fld
        F.PWR_STATUS_PS_ACT) ∧
    (∃ (s : State) (pll : Fin 3) (band : Fin 64), s.phase = .running ∧ pllState (pll + 1) s = 1) ∧
    (∃ (s : State) (pll : Fin 3) (band : Fin 64), s.phase = .running ∧ pllState (pll + 1) s = 1 ∧ SMap.get (fun _ => false)
        s.clk.auto (pll + 1) = false) ∧
    (∃ (s : State) (sel : Fin 2), s.ports = true ∧ s.fld F.CLK_REF_CFG_REF_SEL ≠ sel) ∧
    (∃ (s : State) (pll : Fin 3), s.phase = .running ∧ pllLocked (pll + 1) s = true) ∧
    (∃ (s : State), s.ports = true ∧ pllState 1 s ≠ 1 ∧ pllState 1 s ≠ 4 ∧ pllKept 1 s = false) ∧
    (∃ (s : State), s.ports = true ∧ pllState 2 s ≠ 1 ∧ pllState 2 s ≠ 4 ∧ pllKept 2 s = false) ∧
    (∃ (s : State), s.ports = true ∧ pllState 3 s ≠ 1 ∧ pllState 3 s ≠ 4) ∧
    (∃ (s : State) (cyc : Fin 5120) (err : Int), s.phase = .running ∧ s.on F.CLK_SERVO_CFG_SERVO_EN = true ∧ s.tick % 1024 =
        0 ∧ servoHold s = false) ∧
    (∃ (s : State) (cyc : Fin 5120) (err : Int), s.phase = .running ∧ s.on F.CLK_SERVO_CFG_SERVO_EN = true ∧ s.tick % 1024 =
        0 ∧ servoHold s = true) ∧
    (∃ (s : State), s.phase = .running ∧ s.on F.CLK_STATUS_NREF_OK = true) :=
  ⟨⟨({base with clk := {refGood := 15}}.setFld F.CLK_STATUS_REF_ACT 2 |>.setFld F.CLK_REF_CFG_SLEW_RATE 1 |>.setFld F.CLK_STATUS_REF_OK 0), 1024, false, by decide⟩,
   ⟨({base with clk := {refGood := 14}}), 1024, false, by decide⟩,
   ⟨({base with clk := {nrefGood := 15}}), 1042, false, by decide⟩,
   ⟨(base.setFld F.CLK_STATUS_REF_ACT 1), by decide⟩,
   ⟨ref, by decide⟩,
   ⟨(ref.setFld F.CLK_STATUS_SLEWING 1), by decide⟩,
   ⟨(({base with clk := {waitPair := true}}.setFld F.CLK_STATUS_PRELOCK 1).setFld F.PWR_STATUS_PS_ACT 1), by decide⟩,
   ⟨({base with clk := {pll := [(1,1)]}}), 0, 33, by decide⟩,
   ⟨({base with clk := {pll := [(3,1)]}}), 2, 33, by decide⟩,
   ⟨base, 1, by decide⟩,
   ⟨(base.setFld (F.CLK_PLL_STAT_LOCK 2) 1), 1, by decide⟩,
   ⟨((setPll 1 0 false base).setFld F.CLK_STATUS_PRELOCK 0 |>.setFld F.PWR_STATUS_PS_ACT 1), by decide⟩,
   ⟨((setPll 2 0 false base).setFld F.CLK_STATUS_PRELOCK 0 |>.setFld F.PWR_STATUS_PS_ACT 1), by decide⟩,
   ⟨(setPll 3 2 false base), by decide⟩,
   ⟨({base with tick := 1024}.setFld F.CLK_SERVO_CFG_SERVO_EN 1 |>.setFld F.CLK_SERVO_CFG_SERVO_SRC 1 |>.setFld F.CLK_STATUS_HOLDOVER 0 |>.setFld F.CLK_STATUS_PRELOCK 0 |>.setFld F.TIME_STAT_GPTP_RDY 1), 77, 5, by decide⟩,
   ⟨({base with tick := 1024}.setFld F.CLK_SERVO_CFG_SERVO_EN 1), 77, 5, by decide⟩,
   ⟨(base.setFld F.CLK_STATUS_NREF_OK 1), by decide⟩⟩

/-- The hypotheses of the frame statements about these commands: each answers a next state here. -/
theorem test_answers_ClockCommandsComplete :
    answers [exec (.refQualWindow false 1024 false) ({base with clk := {refGood := 15}}.setFld F.CLK_STATUS_REF_ACT 2 |>.setFld F.CLK_REF_CFG_SLEW_RATE 1 |>.setFld F.CLK_STATUS_REF_OK 0),
      exec (.refLoss false) (base.setFld F.CLK_STATUS_REF_ACT 1),
      exec .ioscSlewDone (ref.setFld F.CLK_STATUS_SLEWING 1),
      exec .refSwitch (({base with clk := {waitPair := true}}.setFld F.CLK_STATUS_PRELOCK 1).setFld F.PWR_STATUS_PS_ACT 1),
      exec (.pllLock 0 true 33) ({base with clk := {pll := [(1,1)]}}),
      exec (.refSelChange 1) base,
      exec (.pllUnlock 1) (base.setFld (F.CLK_PLL_STAT_LOCK 2) 1),
      exec .relockM ((setPll 1 0 false base).setFld F.CLK_STATUS_PRELOCK 0 |>.setFld F.PWR_STATUS_PS_ACT 1),
      exec .relockP ((setPll 2 0 false base).setFld F.CLK_STATUS_PRELOCK 0 |>.setFld F.PWR_STATUS_PS_ACT 1),
      exec .relockN (setPll 3 2 false base),
      exec (.servoSample 77 5) ({base with tick := 1024}.setFld F.CLK_SERVO_CFG_SERVO_EN 1 |>.setFld F.CLK_SERVO_CFG_SERVO_SRC 1 |>.setFld F.CLK_STATUS_HOLDOVER 0 |>.setFld F.CLK_STATUS_PRELOCK 0 |>.setFld F.TIME_STAT_GPTP_RDY 1),
      exec .nrefLoss (base.setFld F.CLK_STATUS_NREF_OK 1)] = true := by decide +kernel

end W04

namespace W05

def vl := ((base.setFld F.PWR_VLOOP_CFG_LOOP_EN 1).setFld F.PWR_VLOOP_CFG_AVS_DIV 1).setFld F.PWR_VLOOP_CFG_PERIOD 1 |>.setFld F.PWR_VLOOP_CFG_STEP 1

/-- The conditions of every clause of `Obligations.PowerCommandsComplete` are met together. -/
theorem test_hyps_PowerCommandsComplete :
    (∃ (s : State), s.phase = .running ∧ s.pwr.pvinHigh = false) ∧
    (∃ (s : State), s.phase = .running) ∧
    (∃ (s : State) (full : Bool), s.phase = .running) ∧
    (∃ (s : State) (low : Bool), s.phase = .running ∧ s.on F.PWR_STATUS_IO_LEVEL = true ∧ s.pwr.vioLow ≠ low ∧ s.pwr.vioNew =
        false) ∧
    (∃ (s : State) (req : Fin 4), s.ports = true ∧ req ≠ 3 ∧ s.on F.PWR_STATUS_PS_BUSY = false ∧ s.fld F.PWR_STATUS_PS_ACT ≠
        req) ∧
    (∃ (s : State) (req : Fin 4), s.ports = true ∧ req ≠ 3 ∧ s.on F.PWR_STATUS_PS_BUSY = true) ∧
    (∃ (s : State) (n : Fin 3), s.phase = .running ∧ s.pwr.step = some n.val ∧ psMayEnd s = true) ∧
    (∃ (s : State) (m : Nat), s.phase = .running ∧ vMaySend s = true ∧ s.fld F.PWR_VLOOP_CFG_PERIOD ≠ 0 ∧ s.fld
        F.PWR_VLOOP_CFG_STEP ≠ 0 ∧ s.tick % (16 * s.fld F.PWR_VLOOP_CFG_PERIOD) = 0 ∧ s.pwr.minMargin = some m ∧ s.pwr.await
        ≤ s.tick ∧ m + 2 < max (s.fld F.PWR_MARGIN_CFG_MARGIN_TGT) (s.fld F.PWR_MARGIN_CFG_MARGIN_EMERG + 2) ∧ vClamp (vNow s
        + 5 * s.fld F.PWR_VLOOP_CFG_STEP) s ≠ vNow s) ∧
    (∃ (s : State) (v : Nat) (rest : List (Option Nat)) (complete : Bool) (mv ma : Nat), s.phase = .running ∧ s.pwr.avs =
        some v :: rest) ∧
    (∃ (s : State) (rest : List (Option Nat)) (complete : Bool) (mv ma : Nat), s.phase = .running ∧ s.pwr.avs = none :: rest) ∧
    (∃ (s : State) (complete : Bool) (mv ma : Nat), s.phase = .running ∧ s.pwr.avs ≠ [] ∧ s.pwr.avsFails = 3) ∧
    (∃ (s : State) (o : Origin) (k : Fin 4) (data : Word), s.hears o = true ∧ 2 ≤ k.val) ∧
    (∃ (s : State) (o : Origin) (k : Fin 4) (data : Word), s.hears o = true ∧ k.val < 2 ∧ o ≠ .mc ∧ s.on (F.pgLock Pg.pwr) =
        false) :=
  ⟨⟨base, by decide⟩,
   ⟨base, by decide⟩,
   ⟨base, true, by decide⟩,
   ⟨(base.setFld F.PWR_STATUS_IO_LEVEL 1), true, by decide⟩,
   ⟨base, 1, by decide⟩,
   ⟨(base.setFld F.PWR_STATUS_PS_BUSY 1), 2, by decide⟩,
   ⟨({base with pwr := {step := some 1}}.setFld F.PWR_STATE_REQ_PS_REQ 2), 1, by decide⟩,
   ⟨{vl with tick := 16, pwr := {minMargin := some 1}}, 1, by decide⟩,
   ⟨{base with pwr := {avs := [some 800]}}, 800, [], true, 1, 1, by decide⟩,
   ⟨{base with pwr := {avs := [none]}}, [], true, 800, 100, by decide⟩,
   ⟨{base with pwr := {avs := [none], avsFails := 3}}, true, 800, 100, by decide⟩,
   ⟨base, .mc, 2, 900, by decide⟩,
   ⟨base, .qspi, 0, 901, by decide⟩⟩

/-- The hypotheses of the frame statements about these commands: each answers a next state here. -/
theorem test_answers_PowerCommandsComplete :
    answers [exec .pvinOvervoltage base,
      exec .pvinOvRecover base,
      exec (.pvinFullChange true) base,
      exec (.pfVioChange true) (base.setFld F.PWR_STATUS_IO_LEVEL 1),
      exec (.powerStateRequest 1) base,
      exec .powerStateStepDone ({base with pwr := {step := some 1}}.setFld F.PWR_STATE_REQ_PS_REQ 2),
      exec .vloopSample {vl with tick := 16, pwr := {minMargin := some 1}},
      exec (.avsTransactionDone true true 1 1) {base with pwr := {avs := [some 800]}},
      exec (.vcoreBoundWrite .mc 2 900) base] = true := by decide +kernel

end W05

namespace W06

def sa (x : AinCh) := base.setAch 3 x

/-- The conditions of every clause of `Obligations.AnalogInputCommandsComplete` are met together. -/
theorem test_hyps_AnalogInputCommandsComplete :
    (∃ (s : State) (n : Fin 32), s.phase = .running ∧ (s.ach n).seq = 2 ∧ (s.ach n).due ≤ s.tick) ∧
    (∃ (s : State) (n : Fin 32), s.phase = .running ∧ (s.ach n).seq = 1 ∧ rampRests (s.ach n).w = true ∧ s.fld
        (F.AIN_CFG_MODE n) ≠ 0) ∧
    (∃ (s : State) (n : Fin 32), s.phase = .running ∧ (s.ach n).seq = 3 ∧ rampRests (s.ach n).w = true) ∧
    (∃ (s : State) (k : Fin 8), s.phase = .running ∧ s.on (F.AIN_MICB_CFG_MICB_EN k) = true ∧ SMap.get (fun _ => false)
        s.ain.micbOff k = false) ∧
    (∃ (s : State) (words : List (Fin 64 × BitVec 16)), s.phase = .running ∧ linkRuns 0 s = true) ∧
    (∃ (s : State) (n : Fin 32), s.phase = .running ∧ (s.ach n).choice = 1 ∧ (s.ach n).toL ≤ 1 ∧ mergeHold n s ≤ (s.ach
        n).hold ∧ (s.ach n).hOut = false ∧ (s.ach n).disagree = false ∧ s.fld (F.AIN_CFG_PATH_FORCE n) = 0) ∧
    (∃ (s : State) (n : Fin 32) (cyc : Fin 5120) (ge de : Int), s.phase = .running ∧ (matchState n s = 1 ∨ matchState n s =
        2) ∧ (s.ach n).qual < 128) ∧
    (∃ (s : State) (n : Fin 32) (cyc : Fin 5120) (ge de : Int), s.phase = .running ∧ matchState n s = 1 ∧ (s.ach n).conv = 7
        ∧ 128 ≤ (s.ach n).qual ∧ (s.ach n).ofsAt ≠ some (s.tick * 5120 + max s.cyc cyc) ∧ ge.natAbs < 50 ∧ de.natAbs < 20) ∧
    (∃ (s : State) (n : Fin 32) (cyc : Fin 5120) (ge de : Int), s.phase = .running ∧ matchState n s = 2 ∧ (s.ach n).diverge =
        3 ∧ 128 ≤ (s.ach n).qual ∧ (s.ach n).ofsAt ≠ some (s.tick * 5120 + max s.cyc cyc) ∧ (500 < ge.natAbs ∨ 200 <
        de.natAbs)) ∧
    (∃ (s : State) (n : Fin 32), s.ports = true ∧ ainOut n s = true ∧ 3 ≤ ainPageState n s ∧ s.on F.FLT_STAT_PARTWIDE =
        false) ∧
    (∃ (s : State) (u i : Fin 64) (pass : Bool) (failed : List Nat) (r : RTest), s.phase = .running ∧ s.testOf u i = some r ∧
        r.due ≤ s.tick) ∧
    (∃ (s : State) (i : Fin 64) (failed : List Nat) (r : RTest), s.phase = .running ∧ s.testOf 0x11 i = some r ∧ r.due ≤
        s.tick ∧ i.val < 32) :=
  ⟨⟨(sa {seq := 2, due := 5}), 3, by decide⟩,
   ⟨((sa {seq := 1}).setFld (F.AIN_CFG_MODE 3) 2), 3, by decide⟩,
   ⟨(sa {seq := 3, w := {up := true}}), 3, by decide⟩,
   ⟨(base.setFld (F.AIN_MICB_CFG_MICB_EN 3) 1), 3, by decide⟩,
   ⟨(base.setFld (F.FLT_LINK_B_LSTATE 0) 1), [(7,2),(63,9),(7,1)], by decide⟩,
   ⟨((sa {choice := 1, hold := 100000}).setFld (F.AIN_MERGE_HOLD 3) 1 |>.setFld (F.AIN_CFG_PATH_FORCE 3) 0), 3, by decide⟩,
   ⟨((sa {qual := 127}).setFld (F.AIN_MATCH_STAT_STATE 3) 1), 3, 9, 0, 0, by decide⟩,
   ⟨((sa {conv := 7, qual := 128, ofsAt := some 5}).setFld (F.AIN_MATCH_STAT_STATE 3) 1), 3, 128, 49, 19, by decide⟩,
   ⟨((sa {diverge := 3, qual := 128}).setFld (F.AIN_MATCH_STAT_STATE 3) 2), 3, 128, (-501), 19, by decide⟩,
   ⟨((sa {hOut := true, mode := 1, testBad := true}).setFld F.FLT_STAT_PARTWIDE 0 |>.setFld (F.CLK_PLL_STAT_LOCK 1) 1), 3, by decide⟩,
   ⟨{base with tests := [⟨0x19,0,0,5⟩], tick := 5}, 0x19, 0, true, [], ⟨0x19,0,0,5⟩, by decide⟩,
   ⟨{sa {hOut := true, failed := true} with tests := [⟨0x11,3,0,5⟩], tick := 5}, 3, [], ⟨0x11,3,0,5⟩, by decide⟩⟩

/-- The hypotheses of the frame statements about these commands: each answers a next state here. -/
theorem test_answers_AnalogInputCommandsComplete :
    answers [exec (.ainModeStepDone 3) (sa {seq := 2, due := 5}),
      exec (.micbOc 3) (base.setFld (F.AIN_MICB_CFG_MICB_EN 3) 1),
      exec (.modulatorStatus [(7,2),(63,9),(7,1)]) (base.setFld (F.FLT_LINK_B_LSTATE 0) 1),
      exec (.mergeReturn 3) ((sa {choice := 1, hold := 100000}).setFld (F.AIN_MERGE_HOLD 3) 1 |>.setFld (F.AIN_CFG_PATH_FORCE 3) 0),
      exec (.matchBlock 3 9 0 0) ((sa {qual := 127}).setFld (F.AIN_MATCH_STAT_STATE 3) 1),
      exec (.ainRestore 3) ((sa {hOut := true, mode := 1, testBad := true}).setFld F.FLT_STAT_PARTWIDE 0 |>.setFld (F.CLK_PLL_STAT_LOCK 1) 1),
      exec (.guardRestoreTestEnd 0x19 0 true []) {base with tests := [⟨0x19,0,0,5⟩], tick := 5}] = true := by decide +kernel

end W06

namespace W07

def sc (x : CtlCh) := base.setCtl 3 x

/-- The conditions of every clause of `Obligations.FilterCommandsComplete` are met together. -/
theorem test_hyps_FilterCommandsComplete :
    (∃ (s : State) (c : Fin 32), s.phase = .running ∧ (s.ctl c).on = true ∧ psAwake s = true ∧ (s.ctl c).expect + 4 ≤ s.tick) ∧
    (∃ (s : State) (c : Fin 32) (k : Fin 2) (f : Nat), s.phase = .running ∧ ((s.ctl c).comp k).since = some f ∧ s.on
        (F.FCH_THR_EN c k) = true ∧ s.fld (thrState c k) = 0 ∧ s.fld (thrAmbig c k) = 0 ∧ s.fld (F.FCH_TCFG_DECIDE_T c) ≠ 0 ∧
        f + 192 * s.fld (F.FCH_TCFG_DECIDE_T c) ≤ s.tick) ∧
    (∃ (s : State) (c : Fin 32) (w : Word) (at_ : Int) (fl : Nat), s.phase = .running ∧ (s.ctl c).peak = some (0, w, at_,
        fl)) ∧
    (∃ (s : State) (c : Fin 32) (k : Fin 2), s.ports = true ∧ 2048 ≤ s.cyc ∧ s.on (F.FCH_THR_EN c k) = true) ∧
    (∃ (s : State) (c : Fin 32) (k : Fin 2), s.ports = true ∧ s.cyc < 2048) ∧
    (∃ (s : State) (ch : Fin 48) (bank : Fin 2) (data : Word), s.ports = true ∧ audBankLocked ch bank s = false) ∧
    (∃ (s : State) (ch : Fin 48) (bank : Fin 2) (data : Word), s.ports = true ∧ ch.val < 32 ∧ ctlBankLocked ch bank s =
        false) ∧
    (∃ (s : State) (ch : Fin 48) (bank : Fin 2) (data : Word), s.ports = true ∧ audBankLocked ch bank s = true) ∧
    (∃ (s : State) (idx : Fin 1024), s.phase = .running ∧ idx.val < 48 ∧ (s.aud idx).xfade = true ∧ rampRests (s.aud idx).xf
        = true) ∧
    (∃ (s : State) (c : Fin 32) (b : Fin 2), s.phase = .running ∧ (s.ctl c).swap = some b.val ∧ (s.ctl c).n % max (ctlRatio
        (s.fld (F.FCH_CBANK_PRESET c 0))) (ctlRatio (s.fld (F.FCH_CBANK_PRESET c 1))) = 0) ∧
    (∃ (s : State) (mac : Fin 9) (src : Fin 80), s.phase = .running ∧ s.fch.eng.bad = [] ∧ s.fch.eng.faulted = false) ∧
    (∃ (s : State) (mac m : Fin 9) (src : Fin 80), s.phase = .running ∧ s.fch.eng.bad = [m.val] ∧ s.fch.eng.faulted = false ∧
        mac ≠ m) ∧
    (∃ (s : State), s.ports = true ∧ s.fch.eng.bad ≠ []) :=
  ⟨⟨({sc {on := true, expect := 1} with tick := 9}.setFld F.PWR_STATUS_PS_ACT 1), 3, by decide⟩,
   ⟨({ (sc { c1 := { since := some 0 }, t := 100000}) with tick := 192 }.setFld (F.FCH_THR_EN 3 1) 1 |>.setFld (F.FCH_TCFG_DECIDE_T 3) 1), 3, 1, 0, by decide⟩,
   ⟨(sc {peak := some (0, 5, 7, 6)}), 3, 5, 7, 6, by decide⟩,
   ⟨({base with cyc := 2048}.setFld (F.FCH_THR_EN 3 1) 1), 3, 1, by decide⟩,
   ⟨{base with cyc := 2047}, 3, 1, by decide⟩,
   ⟨base, 47, 1, 0xFFFFFFFF, by decide⟩,
   ⟨base, 31, 1, 0xFFFFFFFF, by decide⟩,
   ⟨(base.setAud 47 {xfade := true}), 47, 1, 0xFFFFFFFF, by decide⟩,
   ⟨(base.setAud 47 {xfade := true}), 47, by decide⟩,
   ⟨(base.setCtl 31 {swap := some 1}), 31, 1, by decide⟩,
   ⟨base, 8, 50, by decide⟩,
   ⟨{base with fch := {eng := {bad := [3]}}}, 8, 3, 50, by decide⟩,
   ⟨{base with fch := {eng := {bad := [3]}}}, by decide⟩⟩

/-- The hypotheses of the frame statements about these commands: each answers a next state here. -/
theorem test_answers_FilterCommandsComplete :
    answers [exec (.controlSampleLate 3) ({sc {on := true, expect := 1} with tick := 9}.setFld F.PWR_STATUS_PS_ACT 1),
      exec (.comparatorAmbig 3 1) ({ (sc { c1 := { since := some 0 }, t := 100000}) with tick := 192 }.setFld (F.FCH_THR_EN 3 1) 1 |>.setFld (F.FCH_TCFG_DECIDE_T 3) 1),
      exec (.peakCapture 3) (sc {peak := some (0, 5, 7, 6)}),
      exec (.comparatorForceLow 3 1) ({base with cyc := 2048}.setFld (F.FCH_THR_EN 3 1) 1),
      exec (.fchBankWrite false 47 1 0xFFFFFFFF) base,
      exec (.swapCrossfadeEnd 0 47) (base.setAud 47 {xfade := true}),
      exec (.controlSwapSwitch 31) (base.setCtl 31 {swap := some 1}),
      exec (.fchResidue 8 50) base,
      exec .fchRestore {base with fch := {eng := {bad := [3]}}}] = true := by decide +kernel

end W07

namespace W08

def se := (base.setFld F.SVC_SEQ_LEN_SVA_LEN 1).setFld F.SVC_SEQ_LEN_SVB_LEN 2 |>.setFld F.PWR_STATUS_VAH_OK 1
def sr := { se with svc := { se.svc with outA := false, outB := false, susp := false } }
def sd := { sr.setFld (F.SV_ENT_DIV 0 0) 0 |>.setFld (F.SV_ENT_REF 0 0) 0 |>.setFld (F.SV_ENT_ALIGN 0 0) 1 with tick := 8 }
def sg := (sd.setFld (F.SV_ENT_GUARD 0 0) 1).setFld (F.SV_ENT_GSLOT 0 0) 5 |>.setFld (F.SV_ENT_CH 0 0) 0x12
def sg' : State := { sg with svc := { sg.svc with outA := true, outTickA := 3 } }
def su : SvcUrg := ⟨8, 20, 5, 1, true⟩
def ck := { sr.setFld F.SVC_CHECK_CFG_PLAUS_LIM 8 with tick := 8 }
def ur := {sr with tick := 8, svc := {sr.svc with urgLast := none, urgA := none, urgFrame := 1}}
def rf := {(base.setFld F.PWR_STATUS_VAH_OK 1) with svc := {base.svc with supAt := some 3, intFrom := some 195, extAt := none}, tick := 195}

/-- The conditions of every clause of `Obligations.SupervisoryCommandsComplete` are met together. -/
theorem test_hyps_SupervisoryCommandsComplete :
    (∃ (s : State) (conv : Fin 2) (slot : Fin 21) (raw : Int), s.phase = .running ∧ slot.val ≠ 0 ∧ svcOut conv s = false ∧
        svcPos s.tick slot < svcLen conv s ∧ svcDue conv (svcPos s.tick slot) (s.tick / 4) s = true ∧ svcHeldBy (s.fld
        (F.SV_ENT_CH conv (svcPos s.tick slot))) (s.fld (F.SV_ENT_REF conv (svcPos s.tick slot))) s = false) ∧
    (∃ (s : State) (conv : Fin 2) (slot : Fin 21) (raw : Int), s.phase = .running ∧ slot.val ≠ 0 ∧ svcOut conv s = false ∧
        svcPos s.tick slot < svcLen conv s ∧ svcDue conv (svcPos s.tick slot) (s.tick / 4) s = true ∧ svcHeldBy (s.fld
        (F.SV_ENT_CH conv (svcPos s.tick slot))) (s.fld (F.SV_ENT_REF conv (svcPos s.tick slot))) s = true) ∧
    (∃ (s : State) (conv : Fin 2) (slot : Fin 21) (raw : Int), s.phase = .running ∧ slot.val ≠ 0 ∧ svcOut conv s = false ∧
        svcPos s.tick slot < svcLen conv s ∧ svcDue conv (svcPos s.tick slot) (s.tick / 4) s = false) ∧
    (∃ (s : State) (conv : Fin 2) (slot : Fin 21) (raw : Int) (e : Nat), s.phase = .running ∧ slot.val ≠ 0 ∧ svcOut conv s =
        false ∧ svcOut (1 - conv.val) s = true ∧ svcLen conv s ≤ svcPos s.tick slot ∧ svcGuardAt conv (svcPos s.tick slot) s
        = some e ∧ svcDue (1 - conv.val) e (s.tick / 4) s = true ∧ (if conv = 0 then s.svc.outTickB else s.svc.outTickA) ≤ 4
        * (s.tick / 4) + e / 20 ∧ svcHeldBy (s.fld (F.SV_ENT_CH (1 - conv.val) e)) (s.fld (F.SV_ENT_REF (1 - conv.val) e)) s
        = false) ∧
    (∃ (s : State) (conv : Fin 2) (slot : Fin 21) (raw : Int) (u : SvcUrg), s.phase = .running ∧ slot.val ≠ 0 ∧ svcOut conv s
        = false ∧ svcOut (1 - conv.val) s = false ∧ svcLen conv s ≤ svcPos s.tick slot ∧ svcUrg conv s = some u ∧ u.tick =
        s.tick ∧ u.slot = slot ∧ svcHeldBy u.ch u.ref s = false) ∧
    (∃ (s : State) (conv : Fin 2) (slot : Fin 21) (raw : Int), s.phase = .running ∧ slot.val ≠ 0 ∧ svcOut conv s = false ∧
        svcOut (1 - conv.val) s = false ∧ svcLen conv s ≤ svcPos s.tick slot ∧ svcUrg conv s = none ∧ svcHeldBy (svcRotCh
        (svcRotNext conv s)) 0 s = false) ∧
    (∃ (s : State) (conv : Fin 2) (slot : Fin 21) (raw : Int), s.phase = .running ∧ slot.val ≠ 0 ∧ svcOut conv s = true ∧
        svcPos s.tick slot < svcLen conv s ∧ svcDue conv (svcPos s.tick slot) (s.tick / 4) s = true ∧ s.on (F.SV_ENT_GUARD
        conv (svcPos s.tick slot)) = false) ∧
    (∃ (s : State) (a b : Fin 65536), s.phase = .running ∧ s.fld F.SVC_CHECK_CFG_PLAUS_LIM ≠ 0 ∧ s.svc.outA = false ∧
        s.svc.outB = false ∧ svcVerdict true true a b ((2 * (s.tick % 8) + 1) * 4096 : Nat) (max 8 (s.fld
        F.SVC_CHECK_CFG_PLAUS_LIM) : Nat) = 0) ∧
    (∃ (s : State) (a b : Fin 65536), s.phase = .running ∧ s.fld F.SVC_CHECK_CFG_PLAUS_LIM ≠ 0 ∧ s.svc.outA = false ∧
        s.svc.outB = false ∧ svcVerdict true true a b ((2 * (s.tick % 8) + 1) * 4096 : Nat) (max 8 (s.fld
        F.SVC_CHECK_CFG_PLAUS_LIM) : Nat) = 1 ∧ s.svc.verdict = 1 ∧ s.svc.verdictTick + 1 = s.tick ∧ s.svc.susp = false) ∧
    (∃ (s : State) (rank : Fin 3) (cyc : Fin 5120) (conv : Fin 2) (ch : Fin 128) (form : ConvForm), s.phase = .running ∧
        (rank.val = 1 → s.ports = true) ∧ svcRival cyc conv s = none ∧ cyc.val / 240 ≤ 19 ∧ svcLen conv s ≤ svcPos s.tick
        (cyc.val / 240 + 1) ∧ svcOut 0 s = false ∧ svcOut 1 s = false ∧ cyc.val + 8 ≤ 240 * (cyc.val / 240 + 1) ∧ svcUrg conv
        s = none ∧ s.svc.urgFrame ≠ s.tick / 4 ∧ ch.val < 0x58 ∧ form.ref.val < 3 ∧ (ch.val < 0x18 ∨ form.ref = 0)) ∧
    (∃ (s : State) (rank : Fin 3) (cyc : Fin 5120) (conv : Fin 2) (ch : Fin 128) (form : ConvForm), s.phase = .running ∧
        (rank.val = 1 → s.ports = true) ∧ svcRival cyc conv s = none ∧ 240 * (cyc.val / 240 + 1) < cyc.val + 8) ∧
    (∃ (s : State) (rank : Fin 3) (cyc : Fin 5120) (conv : Fin 2) (ch : Fin 128) (form : ConvForm) (r : Nat) (ok : Bool),
        s.phase = .running ∧ (rank.val = 1 → s.ports = true) ∧ svcRival cyc conv s = some (r, ok) ∧ r ≤ rank.val) ∧
    (∃ (s : State), s.phase = .running ∧ s.on F.SVC_STAT_EXT_OK = true) ∧
    (∃ (s : State) (ref : Fin 4), s.phase = .running ∧ svcMaySettle ref s = true) ∧
    (∃ (s : State) (ref : Fin 4), s.phase = .running ∧ svcMaySettle ref s = false) ∧
    (∃ (s : State), s.ports = true ∧ s.on F.FLT_STAT_PARTWIDE = false ∧ (svcPageState s = 3 ∨ svcPageState s = 4)) :=
  ⟨⟨sd, 0, 1, 100000, by decide⟩,
   ⟨(sd.setFld F.PWR_STATUS_VAH_OK 0), 0, 1, 100000, by decide⟩,
   ⟨{sd.setFld (F.SV_ENT_DIV 0 0) 3 with tick := 12}, 0, 1, 100000, by decide⟩,
   ⟨sg', 1, 6, (-40000), 0, by decide⟩,
   ⟨{sd with svc := {sd.svc with urgA := some su, extLost := false}}, 0, 20, 70000, su, by decide⟩,
   ⟨{sd with svc := {sd.svc with urgB := none}}, 1, 20, 100000, by decide⟩,
   ⟨{sd.setFld (F.SV_ENT_GUARD 0 0) 0 with svc := { sd.svc with outA := true }}, 0, 1, 4, by decide⟩,
   ⟨ck, 4100, 4090, by decide⟩,
   ⟨{ck with svc := {ck.svc with verdict := 1, verdictTick := 7}}, 4200, 4090, by decide⟩,
   ⟨ur, 2, 472, 0, 23, ⟨2, true⟩, by decide⟩,
   ⟨ur, 1, 233, 0, 23, ⟨2, true⟩, by decide⟩,
   ⟨{ur with svc := {ur.svc with urgLast := some (0,8,232,1,true)}}, 1, 232, 0, 23, ⟨2, true⟩, 1, true, by decide⟩,
   ⟨(base.setFld F.SVC_STAT_EXT_OK 1), by decide⟩,
   ⟨rf, 3, by decide⟩,
   ⟨{rf with tick := 194}, 3, by decide⟩,
   ⟨((base.setFld F.SVC_STAT_INT_A_OK 1).setFld F.SVC_STAT_INT_B_OK 1 |>.setFld F.FLT_STAT_PARTWIDE 0 |> fun s => {s with svc := {s.svc with outA := true, seenA := true, seenB := false, susp := true}}), by decide⟩⟩

/-- The hypotheses of the frame statements about these commands: each answers a next state here. -/
theorem test_answers_SupervisoryCommandsComplete :
    answers [exec (.svcConversion 0 1 100000) sd,
      exec (.checkSlot 4100 4090) ck,
      exec (.urgentRequest 2 472 0 23 ⟨2, true⟩) ur,
      exec .vrefxLoss (base.setFld F.SVC_STAT_EXT_OK 1),
      exec (.referenceSettled 3) rf,
      exec .svcRestore ((base.setFld F.SVC_STAT_INT_A_OK 1).setFld F.SVC_STAT_INT_B_OK 1 |>.setFld F.FLT_STAT_PARTWIDE 0 |> fun s => {s with svc := {s.svc with outA := true, seenA := true, seenB := false, susp := true}})] = true := by decide +kernel

end W08

namespace W09

def bt := {base with tick := 100}
def mo (s : State) := { s.setFld (F.SAP_CFG_MODE 15) 0 with tick := 100 }
def pp (n : Nat) (s : State := bt) := (s.setFld (F.SAP_STAT_PSTATE 15) n).setFld F.CLK_STATUS_PRELOCK 0
def fol (s : State) := (s.setFld (F.SAP_STAT_MODE_ACT 15) 1).setFld (F.SAP_CFG_SLOTS 15) 2
def line := List.replicate 65 true
def ctl (s : State) := (s.setFld (F.SAP_STAT_MODE_ACT 15) 0).setFld (F.SAP_CFG_SLOTS 15) 2
def r48 (s : State) := (s.setFld (F.SAP_CFG_SWIDTH 15) 2).setFld (F.SAP_CFG_PRATE 15) 0 |>.setFld (F.SAP_CFG_WLEN 15) 1

/-- The conditions of every clause of `Obligations.SerialPortCommandsComplete` are met together. -/
theorem test_hyps_SerialPortCommandsComplete :
    (∃ (s : State) (p : Fin 16) (edges : Bool), s.phase = .running ∧ sapPs p s = 1 ∧ (s.port p).drive = false ∧ (s.port
        p).start + 16 ≤ s.tick ∧ s.on F.CLK_STATUS_PRELOCK = false ∧ (s.fld (F.SAP_CFG_MODE p) = 1 ∨ (s.fld (F.SAP_CFG_MODE
        p) = 2 ∧ edges = true))) ∧
    (∃ (s : State) (p : Fin 16), s.phase = .running ∧ sapPs p s = 1 ∧ (s.port p).drive = false ∧ (s.port p).start + 16 ≤
        s.tick ∧ s.on F.CLK_STATUS_PRELOCK = false ∧ s.fld (F.SAP_CFG_MODE p) = 0 ∧ (s.port p).sense = true) ∧
    (∃ (s : State) (p : Fin 16), s.phase = .running ∧ sapPs p s = 1 ∧ (s.port p).drive = false ∧ (s.port p).start + 16 ≤
        s.tick ∧ s.on F.CLK_STATUS_PRELOCK = false ∧ s.fld (F.SAP_CFG_MODE p) = 0 ∧ (s.port p).conserve = false ∧ (s.port
        p).rx.fade ≠ 0 ∧ (s.port p).tx.fade ≠ 0 ∧ xingBoundary (tickKind (s.fld (F.SAP_CFG_PRATE p))) s.tick = true) ∧
    (∃ (s : State) (p : Fin 16), s.phase = .running ∧ sapPs p s = 1 ∧ (s.port p).drive = false ∧ (s.port p).start + 16 ≤
        s.tick ∧ s.on F.CLK_STATUS_PRELOCK = false ∧ s.fld (F.SAP_CFG_MODE p) = 0 ∧ xingBoundary (tickKind (s.fld
        (F.SAP_CFG_PRATE p))) s.tick = false) ∧
    (∃ (s : State) (p : Fin 16) (bits period : Nat) (line : List Bool), s.phase = .running ∧ sapCtl p s = true ∧ 2 ≤ sapPs p
        s ∧ sapPs p s < 9) ∧
    (∃ (s : State) (p : Fin 16) (bits period : Nat) (line : List Bool), s.phase = .running ∧ sapCtl p s = false ∧ (sapPs p s
        = 2 ∨ sapPs p s = 3) ∧ sapGood p bits period s = true) ∧
    (∃ (s : State) (p : Fin 16) (bits period : Nat) (line : List Bool), s.phase = .running ∧ sapCtl p s = false ∧ 4 ≤ sapPs p
        s ∧ sapPs p s < 9 ∧ (s.port p).requal = false ∧ sapGood p bits period s = true ∧ (s.xing p).buf.length + (s.xing
        p).inbox.length < 128) ∧
    (∃ (s : State) (p : Fin 16) (bits period : Nat) (line : List Bool), s.phase = .running ∧ sapCtl p s = false ∧ 4 ≤ sapPs p
        s ∧ sapPs p s < 9 ∧ (s.port p).requal = false ∧ sapGood p bits period s = false ∧ (s.port p).badRun < 7) ∧
    (∃ (s : State) (p : Fin 16), s.phase = .running ∧ sapCtl p s = false ∧ 5 ≤ sapPs p s ∧ sapPs p s ≤ 7 ∧ (s.port p).requal
        = false) ∧
    (∃ (s : State) (p : Fin 16) (f : List Word) (rest : List (List Word)), s.phase = .running ∧ sapCtl p s = false ∧ 5 ≤
        sapPs p s ∧ sapPs p s < 9 ∧ (s.port p).tx.ph = 0 ∧ (s.xing (16 + p)).buf = f :: rest) ∧
    (∃ (s : State) (p : Fin 16), s.phase = .running ∧ sapCtl p s = false ∧ 5 ≤ sapPs p s ∧ sapPs p s < 9 ∧ (s.port p).tx.ph =
        0 ∧ (s.xing (16 + p)).buf = []) ∧
    (∃ (s : State) (p : Fin 16) (tx : Bool), s.phase = .running ∧ (if tx then (s.port p).tx else (s.port p).rx).ph = 1 ∧
        rampRests (if tx then (s.port p).tx else (s.port p).rx).w = true) ∧
    (∃ (s : State) (p : Fin 16) (tx : Bool), s.phase = .running ∧ (if tx then (s.port p).tx else (s.port p).rx).ph = 3 ∧
        rampRests (if tx then (s.port p).tx else (s.port p).rx).w = true ∧ (if tx then (s.port p).rx else (s.port p).tx).ph =
        0 ∧ (s.port p).conserve = false ∧ sapPs p s = 6) ∧
    (∃ (s : State) (p : Fin 16), s.ports = true ∧ 7 ≤ sapPs p s ∧ sapPs p s ≤ 10 ∧ s.isolated 2 p = false) :=
  ⟨⟨((pp 1 (bt.setPort 15 {})).setFld (F.SAP_CFG_MODE 15) 1), 15, true, by decide⟩,
   ⟨(mo (pp 1 (bt.setPort 15 {}))), 15, by decide⟩,
   ⟨(mo (pp 1 (bt.setPort 15 {rx := {fade := 3}, tx := {fade := 1}}))), 15, by decide⟩,
   ⟨{(mo (pp 1 (bt.setPort 15 {rx := {fade := 3}, tx := {fade := 1}}))).setFld (F.SAP_CFG_PRATE 15) 4 with tick := 101}, 15, by decide⟩,
   ⟨(ctl (pp 5)), 15, (line.length - 1), 0, line, by decide⟩,
   ⟨(r48 (fol (pp 3 (bt.setPort 15 {goodRun := 15})))), 15, (line.length - 1), 20480, line, by decide⟩,
   ⟨(r48 (fol (pp 5 (bt.setPort 15 {})))), 15, (line.length - 1), 20480, line, by decide⟩,
   ⟨(r48 (fol (pp 5 (bt.setPort 15 {badRun := 6})))), 15, line.length, 20480, (true :: line), by decide⟩,
   ⟨(fol (pp 7 (bt.setPort 15 {}))), 15, by decide⟩,
   ⟨((fol (pp 5 (bt.setPort 15 {tx := {ph := 0}}))).setXing 31 {buf := [[1,2]]}), 15, [1,2], [], by decide⟩,
   ⟨((fol (pp 5 (bt.setPort 15 {tx := {ph := 0}})))), 15, by decide⟩,
   ⟨((fol (pp 5 (bt.setPort 15 {tx := {ph := 1}})))), 15, true, by decide⟩,
   ⟨((fol (pp 6 (bt.setPort 15 {tx := {ph := 3, w := {up := true}}, rx := {ph := 0}})))), 15, true, by decide⟩,
   ⟨((pp 10).setWord (Adr.FLT_ISO 2) 0), 15, by decide⟩⟩

/-- The hypotheses of the frame statements about these commands: each answers a next state here. -/
theorem test_answers_SerialPortCommandsComplete :
    answers [exec (.sapSenseEnd 15 true) ((pp 1 (bt.setPort 15 {})).setFld (F.SAP_CFG_MODE 15) 1),
      exec (.sapFrame 15 (line.length - 1) 0 line) (ctl (pp 5)),
      exec (.sapClockLoss 15) (fol (pp 7 (bt.setPort 15 {}))),
      exec (.sapTxFrameRequest 15) ((fol (pp 5 (bt.setPort 15 {tx := {ph := 0}}))).setXing 31 {buf := [[1,2]]}),
      exec (.sapFadeEnd 15 true) ((fol (pp 5 (bt.setPort 15 {tx := {ph := 1}})))),
      exec (.sapRampEnd 15 true) ((fol (pp 6 (bt.setPort 15 {tx := {ph := 3, w := {up := true}}, rx := {ph := 0}})))),
      exec (.sapRestart 15) ((pp 10).setWord (Adr.FLT_ISO 2) 0)] = true := by decide +kernel

end W09

namespace W10

def f0 : SpdifIn := ⟨5120, true, true, 0x0000500, 0x1000001⟩
def mi (x : Mic) := (base.setFld F.PDM_CFG_MIC_EN 0x8000).setMic 15 x
def ps (n : Nat) (x : Spdi := {}) := (base.setFld (F.SPDI_STAT_PSTATE 3) n).setSpdi 3 x |>.setFld (F.SPDI_STAT_RATE 3) 2

/-- The conditions of every clause of `Obligations.PdmAndSpdifCommandsComplete` are met together. -/
theorem test_hyps_PdmAndSpdifCommandsComplete :
    (∃ (s : State) (k : Fin 16), s.phase = .running ∧ (s.mic k).ph = 1 ∧ (s.mic k).due ≤ s.tick) ∧
    (∃ (s : State) (k : Fin 16), s.phase = .running ∧ micOn k s = true ∧ (s.mic k).ph ≠ 0 ∧ (s.mic k).ph ≠ 5 ∧ (s.mic k).run
        = 4096) ∧
    (∃ (s : State) (k : Fin 16), s.ports = true ∧ s.bit F.PDM_STAT_STUCK k = true ∧ micOn k s = true ∧ s.fld F.PDM_CFG_WAKE ≠
        0) ∧
    (∃ (s : State) (k : Fin 16), s.ports = true ∧ s.bit F.PDM_STAT_STUCK k = true ∧ micOn k s = false) ∧
    (∃ (s : State) (n : Fin 4) (f : SpdifIn), s.phase = .running ∧ spdiPs n s = 1 ∧ f.preambles = true ∧ rateWithin
        (rateNearest f.period) f.period = true ∧ s.fld (F.SPDI_STAT_RATE n) = rateNearest f.period ∧ (s.spdi n).goodRun < 15) ∧
    (∃ (s : State) (n : Fin 4) (f : SpdifIn), s.phase = .running ∧ spdiPs n s = 1 ∧ f.preambles = true ∧ rateWithin
        (rateNearest f.period) f.period = true ∧ s.fld (F.SPDI_STAT_RATE n) = rateNearest f.period ∧ 15 ≤ (s.spdi n).goodRun) ∧
    (∃ (s : State) (n : Fin 4) (f : SpdifIn), s.phase = .running ∧ spdiPs n s = 4 ∧ s.on (F.SPDI_STAT_NA n) = false ∧
        (subAudio f.a / 256 ≠ 0xF872 ∨ subAudio f.b / 256 ≠ 0x4E1F) ∧ subC f.a = false ∧ subC f.b = false ∧ (s.spdi n).lost =
        false ∧ (s.xing (32 + n)).buf.length + (s.xing (32 + n)).inbox.length < 128) ∧
    (∃ (s : State) (n : Fin 4), s.phase = .running ∧ (spdiPs n s = 4 ∨ spdiPs n s = 5) ∧ (s.spdi n).lost = false) ∧
    (∃ (s : State) (n : Fin 4), s.phase = .running ∧ (spdiPs n s = 2 ∨ spdiPs n s = 3) ∧ (s.spdi n).lost = false) ∧
    (∃ (s : State) (n : Fin 4), s.ports = true ∧ 7 ≤ spdiPs n s ∧ spdiPs n s ≤ 9) :=
  ⟨⟨{mi {ph := 1, due := 5, run := 8} with tick := 5}, 15, by decide⟩,
   ⟨(mi {ph := 1, due := 5, run := 4096}), 15, by decide⟩,
   ⟨((mi {ph := 5}).setFld F.PDM_CFG_WAKE 1 |>.setFld F.PDM_STAT_STUCK 0x8000), 15, by decide⟩,
   ⟨((mi {ph := 5}).setFld F.PDM_CFG_MIC_EN 1 |>.setFld F.PDM_STAT_STUCK 0x8000), 15, by decide⟩,
   ⟨(ps 1), 3, f0, by decide⟩,
   ⟨(ps 1 {goodRun := 15}), 3, f0, by decide⟩,
   ⟨((ps 4 {prevA := 7}).setFld (F.SPDI_STAT_NA 3) 0), 3, {f0 with a := 1}, by decide⟩,
   ⟨(ps 5), 3, by decide⟩,
   ⟨(ps 3), 3, by decide⟩,
   ⟨(ps 9), 3, by decide⟩⟩

/-- The hypotheses of the frame statements about these commands: each answers a next state here. -/
theorem test_answers_PdmAndSpdifCommandsComplete :
    answers [exec (.pdmWakeEnd 15) {mi {ph := 1, due := 5, run := 8} with tick := 5},
      exec (.pdmStuck 15) (mi {ph := 1, due := 5, run := 4096}),
      exec (.pdmRestart 15) ((mi {ph := 5}).setFld F.PDM_CFG_WAKE 1 |>.setFld F.PDM_STAT_STUCK 0x8000),
      exec (.spdifFrame 3 f0) (ps 1),
      exec (.spdifClockLoss 3 false) (ps 5),
      exec (.spdifRestart 3) (ps 9)] = true := by decide +kernel

end W10

namespace W11

def xx (x : Xing) := {base with tick := 64}.setXing 35 x

/-- The conditions of every clause of `Obligations.ConversionCommandsComplete` are met together. -/
theorem test_hyps_ConversionCommandsComplete :
    (∃ (s : State) (k : Fin 36) (ratio : Fin 8388608) (err : Int), s.phase = .running ∧ (s.xing k).kind = 5 ∧ (s.xing
        k).lstate = 1 ∧ s.tick % 64 = 0 ∧ err.natAbs ≤ 16) ∧
    (∃ (s : State) (k : Fin 36) (ratio : Fin 8388608) (err : Int), s.phase = .running ∧ (s.xing k).kind = 5 ∧ (s.xing
        k).lstate = 2 ∧ s.tick % 64 = 0 ∧ 128 < err.natAbs ∧ 1 ≤ (s.xing k).offRun) ∧
    (∃ (s : State) (int : Bool) (mac : Fin 9) (chan : Fin 1024) (id : Fin 8192), s.phase = .running ∧ (if int then
        s.srcc.engI else s.srcc.engA).bad = [] ∧ (if int then s.srcc.engI else s.srcc.engA).faulted = false) ∧
    (∃ (s : State) (int : Bool) (mac m : Fin 9) (chan : Fin 1024) (id : Fin 8192), s.phase = .running ∧ m ≠ mac ∧ (if int
        then s.srcc.engI else s.srcc.engA).bad = [m.val] ∧ (if int then s.srcc.engI else s.srcc.engA).faulted = false) ∧
    (∃ (s : State), s.ports = true ∧ spnPageState s = 3) :=
  ⟨⟨(xx {kind := 5, lstate := 1, goodRun := 15}), 35, 4194304, 16, by decide⟩,
   ⟨(xx {kind := 5, lstate := 2, offRun := 1}), 35, 4194304, (-129), by decide⟩,
   ⟨base, true, 8, 1023, 16, by decide⟩,
   ⟨{base with srcc := {engA := {bad := [0]}}}, false, 8, 0, 1023, 4096, by decide⟩,
   ⟨(base.setFld F.SPN_STAT_LANE_OUT 4), by decide⟩⟩

/-- The hypotheses of the frame statements about these commands: each answers a next state here. -/
theorem test_answers_ConversionCommandsComplete :
    answers [exec (.ratioUpdate 35 4194304 16) (xx {kind := 5, lstate := 1, goodRun := 15}),
      exec (.srcResidue true 8 1023 16) base,
      exec .spnRestore (base.setFld F.SPN_STAT_LANE_OUT 4)] = true := by decide +kernel

end W11

namespace W12

/-- The conditions of every clause of `Obligations.MixerCommandsComplete` are met together. -/
theorem test_hyps_MixerCommandsComplete :
    (∃ (s : State) (cyc : Fin 5120) (lane : Fin 384) (bus : Fin 192) (data : Word), s.ports = true) ∧
    (∃ (s : State) (cyc : Fin 5120) (n : Fin 256), s.ports = true ∧ s.fld (F.MIX_GL_XP_LANE n) ≤ 383 ∧ s.fld (F.MIX_GL_XP_BUS
        n) ≤ 191 ∧ s.fld (F.MIX_GL_TIME_STAGED n) = 0 ∧ glideBusy n s = false ∧ glideOn (xpIdx (s.fld (F.MIX_GL_XP_LANE n))
        (s.fld (F.MIX_GL_XP_BUS n))) s = none) ∧
    (∃ (s : State) (cyc : Fin 5120) (n : Fin 256), s.ports = true ∧ glideBusy n s = true) ∧
    (∃ (s : State) (n : Fin 256) (g : Glide), s.phase = .running ∧ s.glideOf n = some g ∧ g.t0 + max 1 g.time < s.tick) ∧
    (∃ (s : State) (cyc : Fin 5120) (b : Fin 192), s.ports = true) ∧
    (∃ (s : State) (cyc : Fin 5120) (b : Fin 192), s.ports = true) ∧
    (∃ (s : State) (mac : Fin 17) (cyc : Fin 5120), s.phase = .running) ∧
    (∃ (s : State), s.ports = true ∧ s.mix.eng.bad ≠ []) :=
  ⟨⟨{base with mix := {bad := [(xpIdx 383 191, true)]}}, 5000, 383, 191, 77, by decide⟩,
   ⟨((base.setFld (F.MIX_GL_XP_LANE 255) 383).setFld (F.MIX_GL_XP_BUS 255) 191), 5, 255, by decide⟩,
   ⟨{base with mix := {glide := [(255, some ⟨3,0,5,9,1⟩)]}}, 5, 255, by decide⟩,
   ⟨{base with mix := {glide := [(255, some ⟨3,0,5,0,3⟩)]}}, 255, ⟨3,0,5,0,3⟩, by decide⟩,
   ⟨base, 5, 191, by decide⟩,
   ⟨base, 5, 191, by decide⟩,
   ⟨base, 5, 16, by decide⟩,
   ⟨{base with mix := {eng := {bad := [3]}}}, by decide⟩⟩

/-- The hypotheses of the frame statements about these commands: each answers a next state here. -/
theorem test_answers_MixerCommandsComplete :
    answers [exec (.crosspointWrite 5000 383 191 77) {base with mix := {bad := [(xpIdx 383 191, true)]}},
      exec (.glideGo 5 255) ((base.setFld (F.MIX_GL_XP_LANE 255) 383).setFld (F.MIX_GL_XP_BUS 255) 191),
      exec (.glideStop 5 255) {base with mix := {glide := [(255, some ⟨3,0,5,9,1⟩)]}},
      exec (.glideDone 255) {base with mix := {glide := [(255, some ⟨3,0,5,0,3⟩)]}},
      exec (.busMute 5 191) base,
      exec (.busUnmute 5 191) base,
      exec (.mixResidue 5 16) base,
      exec .mixRestore {base with mix := {eng := {bad := [3]}}}] = true := by decide +kernel

end W12

namespace W13

def gl := {base.setFld (F.CV_SET_LEN 0 0) 1 with fx := {order := [0x780]}}

/-- The conditions of every clause of `Obligations.EffectsCommandsComplete` are met together. -/
theorem test_hyps_EffectsCommandsComplete :
    (∃ (s : State) (cyc : Fin 5120) (n : Fin 256) (d : Fin 1073741824), s.ports = true) ∧
    (∃ (s : State) (n : Fin 256), s.phase = .running ∧ (s.tapSt n).t0 + (s.tapSt n).time ≤ s.tick) ∧
    (∃ (s : State) (first : Fin 128) (n : Fin 256), s.ports = true ∧ first.val + n.val ≤ 128 ∧ 0 < n.val ∧ s.fx.cur = none ∧
        s.fx.prep = [] ∧ (∀ g, g < 128 → granuleLocked g s = false)) ∧
    (∃ (s : State) (first : Fin 128) (n : Fin 256), s.ports = true ∧ 128 < first.val + n.val) ∧
    (∃ (s : State) (g : Fin 128) (due : Nat), s.phase = .running ∧ s.fx.cur = some (g.val, due) ∧ due ≤ s.tick ∧ s.fx.prep =
        []) ∧
    (∃ (s : State) (cyc : Fin 5120) (w : Fin 524288) (data : Word), s.ports = true ∧ s.fld F.FX_WIN_BANK = 0 ∧ granuleLocked
        (w.val / 0x1000) s = false) ∧
    (∃ (s : State) (cyc : Fin 5120) (w : Fin 524288) (data : Word), s.ports = true ∧ s.fld F.FX_WIN_BANK = 1 ∧ 4 * w.val <
        0x20000 ∧ 4 * w.val % 0x20 < 0x14 ∧ sectLocked (4 * w.val / 0x40) (4 * w.val / 0x20 % 2) s = false) ∧
    (∃ (s : State) (cyc : Fin 5120) (w : Fin 524288) (data : Word), s.ports = true ∧ s.fld F.FX_WIN_BANK = 0 ∧ granuleLocked
        (w.val / 0x1000) s = true) ∧
    (∃ (s : State) (e : Fin 6) (u : Fin 9) (cyc : Fin 5120), s.phase = .running ∧ (s.fxEng e).bad = [] ∧ (s.fxEng e).faulted
        = false) ∧
    (∃ (s : State) (c : Fin 32) (n : Fin 1024) (u : Fin 2), s.phase = .running ∧ (s.fxEng 4).bad = [] ∧ (s.fxEng 4).faulted =
        false) ∧
    (∃ (s : State) (e : Fin 6), s.ports = true ∧ (s.fxEng e).bad ≠ []) ∧
    (∃ (s : State) (n : Fin 1024), s.phase = .running ∧ n.val < 128 ∧ (s.bqXf n).on = true ∧ rampRests (s.bqXf n).xf = true) ∧
    (∃ (s : State) (c : Fin 1024), s.phase = .running ∧ c.val < 32 ∧ (s.conv c).xf.on = true ∧ rampRests (s.conv c).xf.xf =
        true) ∧
    (∃ (s : State) (h : Fin 1024), s.phase = .running ∧ h.val < 64 ∧ (s.shaper h).xf.on = true ∧ rampRests (s.shaper h).xf.xf
        = true) :=
  ⟨⟨base, 5, 255, 1000, by decide⟩,
   ⟨{base with tick := 99999999}, 255, by decide⟩,
   ⟨base, 126, 2, by decide⟩,
   ⟨base, 127, 2, by decide⟩,
   ⟨{base with fx := {cur := some (127, 5)}, tick := 5}, 127, 5, by decide⟩,
   ⟨base, 5, 524287, 77, by decide⟩,
   ⟨(base.setFld F.FX_WIN_BANK 1), 5, 4, 77, by decide⟩,
   ⟨gl, 5, 0, 77, by decide⟩,
   ⟨base, 5, 8, 5, by decide⟩,
   ⟨base, 31, 1023, 1, by decide⟩,
   ⟨{base with fx := {eng := [(5, {bad := [1]})]}}, 5, by decide⟩,
   ⟨{base with fx := {bq := [(127, {on := true})]}}, 127, by decide⟩,
   ⟨(base.setConv 31 {xf := {on := true}}), 31, by decide⟩,
   ⟨{base with fx := {sh := [(63, {xf := {on := true}})]}}, 63, by decide⟩⟩

/-- The hypotheses of the frame statements about these commands: each answers a next state here. -/
theorem test_answers_EffectsCommandsComplete :
    answers [exec (.tapDelayWrite 5 255 1000) base,
      exec (.tapGlideEnd 255) {base with tick := 99999999},
      exec (.convPrep 126 2) base,
      exec (.granuleReady 127) {base with fx := {cur := some (127, 5)}, tick := 5},
      exec (.effectPoolWrite 5 524287 77) base,
      exec (.fxResidue 5 8 5) base,
      exec (.partitionResidue 31 1023 1) base,
      exec (.fxRestore 5) {base with fx := {eng := [(5, {bad := [1]})]}},
      exec (.swapCrossfadeEnd 1 127) {base with fx := {bq := [(127, {on := true})]}}] = true := by decide +kernel

end W13

namespace W14

def och (x : OutCh) : State := ((({ base with tests := [⟨0x1B,19,0,7⟩] }).setOch 19 x).setFld (F.OUT_CFG_CORE_FORCE 19) 0).setFld (F.FLT_LINK_B_LSTATE 0) 1
def ou := (((base.setFld F.PWR_STATUS_PS_ACT 2).setOch 19 {phase := 4, mute := {}}).setOn (F.OUT_CTRL_MUTE 19) true)
def orr := (((base.setFld F.PWR_STATUS_PS_ACT 2).setOn (F.OUT_CFG_EN 19) true).setOch 19 {fault := 0x66C8}).setWord (Adr.FLT_ISO 0) 0

/-- The conditions of every clause of `Obligations.OutputCommandsComplete` are met together. -/
theorem test_hyps_OutputCommandsComplete :
    (∃ (s : State) (core : Fin 40) (o : Nat), s.phase = .running ∧ core.val = 2 * o ∧ (s.och o).aBad = false ∧ (s.och o).bBad
        = false ∧ s.fld (F.OUT_CFG_CORE_FORCE o) ≠ 1 ∧ s.fld (F.OUT_CFG_CORE_FORCE o) ≠ 2) ∧
    (∃ (s : State) (core : Fin 40) (o : Nat), s.phase = .running ∧ core.val = 2 * o + 1 ∧ (s.och o).aBad = false ∧ (s.och
        o).bBad = false ∧ s.fld (F.OUT_CFG_CORE_FORCE o) ≠ 1 ∧ s.fld (F.OUT_CFG_CORE_FORCE o) ≠ 2) ∧
    (∃ (s : State) (core : Fin 40) (o : Nat), s.phase = .running ∧ core.val = 2 * o ∧ (s.och o).aBad = false ∧ (s.och o).bBad
        = true ∧ (s.och o).dead = false) ∧
    (∃ (s : State) (o : Fin 20), s.phase = .running ∧ (s.och o).aBad = false ∧ (s.och o).bBad = false) ∧
    (∃ (s : State) (o : Fin 20), s.phase = .running ∧ (s.och o).dead = false) ∧
    (∃ (s : State) (o : Fin 20), s.phase = .running ∧ 1920 ≤ (s.och o).ilimRun ∧ outFaulted (s.och o) = false) ∧
    (∃ (s : State) (o : Fin 20), s.phase = .running ∧ 19200 ≤ (s.och o).dcRun ∧ outFaulted (s.och o) = false) ∧
    (∃ (s : State) (o : Fin 20), s.ports = true) ∧
    (∃ (s : State) (o : Fin 20), s.ports = true) ∧
    (∃ (s : State) (o : Fin 20), s.ports = true ∧ (outState o s = 3 ∨ outState o s = 4)) ∧
    (∃ (s : State) (o : Fin 20), s.phase = .running ∧ (s.och o).sw = 1 ∧ (s.och o).swDue ≤ s.tick) :=
  ⟨⟨(och {}), 38, 19, by decide⟩,
   ⟨(och {}), 39, 19, by decide⟩,
   ⟨(och {bBad := true, phase := 4, switch := true}), 38, 19, by decide⟩,
   ⟨(och {switch := true}), 19, by decide⟩,
   ⟨(och {}), 19, by decide⟩,
   ⟨(och {ilimRun := 1920}), 19, by decide⟩,
   ⟨(och {dcRun := 19200}), 19, by decide⟩,
   ⟨(och {}), 19, by decide⟩,
   ⟨ou, 19, by decide⟩,
   ⟨orr, 19, by decide⟩,
   ⟨{base.setOch 19 {sw := 1, swDue := 5, swTo := (3,1)} with tick := 5}, 19, by decide⟩⟩

/-- The hypotheses of the frame statements about these commands: each answers a next state here. -/
theorem test_answers_OutputCommandsComplete :
    answers [exec (.dacCoreFail 38) (och {}),
      exec (.coreDisagree 19) (och {switch := true}),
      exec (.outputStageFail 19) (och {}),
      exec (.outputIlimTrip 19) (och {ilimRun := 1920}),
      exec (.outputDcTrip 19) (och {dcRun := 19200}),
      exec (.outputMute 19) (och {}),
      exec (.outputUnmute 19) ou,
      exec (.outputRestore 19) orr,
      exec (.outputPresetSwitch 19) {base.setOch 19 {sw := 1, swDue := 5, swTo := (3,1)} with tick := 5}] = true := by decide +kernel

end W14

namespace W15

def ja := (((base.setOn (F.JK_CFG_EN 11) true).setFld (F.JK_CFG_DECIDE 11) 1).setJk 11 {start := some (-3000000)})

/-- The conditions of every clause of `Obligations.JackCommandsComplete` are met together. -/
theorem test_hyps_JackCommandsComplete :
    (∃ (s : State) (j : Fin 12) (t0 : Int), s.phase = .running ∧ s.on (F.JK_CFG_EN j) = true ∧ s.fld (F.JK_CFG_DECIDE j) ≠ 0
        ∧ (s.jk j).start = some t0 ∧ t0 + msCyc (s.fld (F.JK_CFG_DECIDE j)) ≤ ((s.tick * 5120 + s.cyc : Nat) : Int) ∧ s.fld
        (F.JK_STAT_STATE j) = 0 ∧ s.fld (F.JK_STAT_AMBIG j) = 0) ∧
    (∃ (s : State) (cyc : Fin 5120) (j : Fin 12), s.ports = true ∧ max s.cyc cyc < 2048) ∧
    (∃ (s : State) (cyc : Fin 5120) (j : Fin 12), s.ports = true ∧ 2048 ≤ max s.cyc cyc ∧ s.on (F.JK_CFG_EN j) = true) ∧
    (∃ (s : State) (o : Fin 28) (d : Nat), s.phase = .running ∧ (s.bind o).wait = some d ∧ d ≤ s.tick ∧ jackPremute o s =
        false) ∧
    (∃ (s : State) (o : Fin 20), s.phase = .running ∧ (s.och o).phase = 1 ∧ (s.och o).due ≤ s.tick) ∧
    (∃ (s : State) (o : Fin 20), s.phase = .running ∧ (s.och o).phase = 2 ∧ (s.och o).due ≤ s.tick) ∧
    (∃ (s : State) (o : Fin 20), s.phase = .running ∧ (s.och o).phase = 3 ∧ rampRests (s.och o).pop = true) ∧
    (∃ (s : State) (o : Fin 20), s.phase = .running ∧ (s.och o).phase = 5 ∧ rampRests (s.och o).pop = true) ∧
    (∃ (s : State) (o : Fin 20), s.phase = .running ∧ (s.och o).phase = 6 ∧ (s.och o).due ≤ s.tick ∧ outWants o s = false) :=
  ⟨⟨ja, 11, (-3000000), by decide⟩,
   ⟨base, 2047, 11, by decide⟩,
   ⟨ja, 2048, 11, by decide⟩,
   ⟨(base.setBind 27 {wait := some 5}), 27, 5, by decide⟩,
   ⟨(base.setOch 19 {phase := 1, due := 5}), 19, by decide⟩,
   ⟨(base.setOch 19 {phase := 2, due := 5}), 19, by decide⟩,
   ⟨(base.setOch 19 {phase := 3, pop := {pos := 4, len := 4, up := true}}), 19, by decide⟩,
   ⟨(base.setOch 19 {phase := 5, pop := {pos := 0, len := 4}}), 19, by decide⟩,
   ⟨(base.setOch 19 {phase := 6, due := 5, switch := true}), 19, by decide⟩⟩

/-- The hypotheses of the frame statements about these commands: each answers a next state here. -/
theorem test_answers_JackCommandsComplete :
    answers [exec (.jackAmbig 11) ja,
      exec (.jackForceRemoved 2047 11) base,
      exec (.plugWaitEnd 27) (base.setBind 27 {wait := some 5}),
      exec (.powerUpRampStep 19) (base.setOch 19 {phase := 1, due := 5}),
      exec (.powerDownRampStep 19) (base.setOch 19 {phase := 5, pop := {pos := 0, len := 4}})] = true := by decide +kernel

end W15

namespace W16

def cvx := ((((((base.setTmr 3 {period := 7, next := some 5}).setFld F.PWR_STATUS_PS_ACT 2).setOn (F.CV_CFG_EN 15) true).setOn (F.CV_CFG_SRC 15) true).setFld (F.CV_CFG_TIMER 15) 3).setCvch 15 {rep := 2})

/-- The conditions of every clause of `Obligations.ControlVoltageCommandsComplete` are met together. -/
theorem test_hyps_ControlVoltageCommandsComplete :
    (∃ (s : State) (k : Fin 4) (start : Nat), s.ports = true ∧ start = s.fld (F.TMR_START_HI_START_HI k) * 2 ^ 32 + s.fld
        (F.TMR_START_LO_START_LO k)) ∧
    (∃ (s : State) (k : Fin 4), s.ports = true) ∧
    (∃ (s : State) (k : Fin 4) (d : Nat), s.phase = .running ∧ (s.tmr k).next = some d ∧ d ≤ s.tick) ∧
    (∃ (s : State) (n : Fin 16), s.phase = .running ∧ 1920 ≤ (s.cvch n).ilimRun ∧ (s.cvch n).fault = 0) ∧
    (∃ (s : State), s.phase = .running) ∧
    (∃ (s : State), s.phase = .running ∧ s.cv.refAt + 1920 ≤ s.tick) ∧
    (∃ (s : State) (d : Nat), s.phase = .running ∧ s.cv.refHold = some d ∧ d ≤ s.tick) ∧
    (∃ (s : State) (n : Fin 16), s.ports = true ∧ cvState n s = 4) :=
  ⟨⟨(base.setFld (F.TMR_PERIOD_PERIOD 3) 7), 3, 0, by decide⟩,
   ⟨base, 3, by decide⟩,
   ⟨cvx, 3, 5, by decide⟩,
   ⟨(base.setCvch 15 {ilimRun := 1920, v := 6}), 15, by decide⟩,
   ⟨base, by decide⟩,
   ⟨{base with tick := 5000}, by decide⟩,
   ⟨{base with cv := {refHold := some 5}}, 5, by decide⟩,
   ⟨(((base.setFld F.PWR_STATUS_PS_ACT 2).setOn (F.CV_CFG_EN 15) true).setCvch 15 {fault := 0x6742}), 15, by decide⟩⟩

/-- The hypotheses of the frame statements about these commands: each answers a next state here. -/
theorem test_answers_ControlVoltageCommandsComplete :
    answers [exec (.timerArm 3) (base.setFld (F.TMR_PERIOD_PERIOD 3) 7),
      exec (.timerStop 3) base,
      exec (.timerFire 3) cvx,
      exec (.cvIlimTrip 15) (base.setCvch 15 {ilimRun := 1920, v := 6}),
      exec .cvVrefFail base,
      exec .cvVrefRecover {base with tick := 5000},
      exec .cvRefHoldEnd {base with cv := {refHold := some 5}},
      exec (.cvRestore 15) (((base.setFld F.PWR_STATUS_PS_ACT 2).setOn (F.CV_CFG_EN 15) true).setCvch 15 {fault := 0x6742})] = true := by decide +kernel

end W16

namespace W17

def sp := ((((base.setFld (F.SPK_CFG_EN 7) 1).setFld F.PWR_STATUS_PVIN_OK 1).setFld F.PWR_STATE_REQ_PS_REQ 2).setFld F.BST_STAT_BSTATE 2).setFld (F.FLT_LINK_B_LSTATE 2) 1
def sq (x : SpkCh) := sp.setSch 7 x
def sp2 := {((sp.setFld (F.CLK_PLL_STAT_LOCK 2) 1).setOn F.BST_CFG_EN true) with supplied := 7}

/-- The conditions of every clause of `Obligations.SpeakerCommandsComplete` are met together. -/
theorem test_hyps_SpeakerCommandsComplete :
    (∃ (s : State) (n : Fin 8) (l : Nat), spkLead n s = l ∧ s.phase = .running ∧ (s.sch l).cs = 1 ∧ spkMayStart l s = true) ∧
    (∃ (s : State) (n : Fin 8) (l : Nat) (term : Bool), spkLead n s = l ∧ s.phase = .running ∧ (s.sch l).cs = 2 ∧ (s.sch
        l).due ≤ s.tick) ∧
    (∃ (s : State) (n : Fin 8) (l : Nat) (term : Bool), spkLead n s = l ∧ s.phase = .running ∧ (s.sch l).cs = 2 ∧ (s.sch
        l).due ≤ s.tick) ∧
    (∃ (s : State) (n : Fin 8) (l : Nat) (k : Fin 5) (term : Bool), spkLead n s = l ∧ s.phase = .running ∧ (s.sch l).cs = 2 ∧
        (s.sch l).due ≤ s.tick ∧ 1 ≤ k.val ∧ k.val ≤ 3 ∧ (s.sch l).rest = none ∧ (s.sch l).retries < s.dieFld 1
        (F.SPK_HB_I_HB_RETRY l)) ∧
    (∃ (s : State) (n : Fin 8) (l : Nat) (rdc : Nat), spkLead n s = l ∧ s.phase = .running ∧ (s.sch l).cs = 3 ∧ (s.sch l).due
        ≤ s.tick ∧ (if spkPair l s then 2 * rdc else rdc) < 50 ∧ (s.sch l).rest = none ∧ (s.sch l).retries < s.dieFld 1
        (F.SPK_HB_I_HB_RETRY l)) ∧
    (∃ (s : State) (n : Fin 8) (l : Nat) (rdc : Nat), spkLead n s = l ∧ s.phase = .running ∧ (s.sch l).cs = 3 ∧ (s.sch l).due
        ≤ s.tick ∧ (if spkPair l s then 2 * rdc else rdc) < 150 ∧ 50 ≤ (if spkPair l s then 2 * rdc else rdc)) ∧
    (∃ (s : State) (n : Fin 8) (l : Nat) (rdc : Nat), spkLead n s = l ∧ s.phase = .running ∧ (s.sch l).cs = 3 ∧ (s.sch l).due
        ≤ s.tick ∧ 6400 < (if spkPair l s then 2 * rdc else rdc)) ∧
    (∃ (s : State) (n : Fin 8) (l : Nat) (rdc : Nat), spkLead n s = l ∧ s.phase = .running ∧ (s.sch l).cs = 3 ∧ (s.sch l).due
        ≤ s.tick ∧ 150 ≤ (if spkPair l s then 2 * rdc else rdc) ∧ (if spkPair l s then 2 * rdc else rdc) ≤ 6400) ∧
    (∃ (s : State) (n : Fin 8) (l : Nat), spkLead n s = l ∧ s.phase = .running ∧ (s.sch l).cs = 4 ∧ (s.sch l).stop = 0 ∧
        (s.sch l).rest = none ∧ rampFull (s.sch l).pop = true) ∧
    (∃ (s : State) (n : Fin 8) (l : Nat) (k : Fin 4) (term : Bool), spkLead n s = l ∧ s.phase = .running ∧ spkSwitching
        (s.sch l) = true ∧ 8 ≤ (s.sch l).lim ∧ (s.sch l).rest = none) ∧
    (∃ (s : State) (n : Fin 8) (l : Nat), spkLead n s = l ∧ s.phase = .running ∧ (s.sch l).cs = 6 ∧ (s.sch l).due ≤ s.tick ∧
        spkMayStart l s = true) ∧
    (∃ (s : State) (n : Fin 8) (l : Nat), spkLead n s = l ∧ s.phase = .running ∧ (s.sch l).cs = 5 ∧ (s.sch l).runSince +
        1920000 ≤ s.tick) ∧
    (∃ (s : State) (n : Fin 8) (l : Nat), spkLead n s = l ∧ s.ports = true ∧ (s.sch l).cs = 7) ∧
    (∃ (s : State) (n : Fin 8) (l : Nat) (e : Nat) (quiet : Bool), spkLead n s = l ∧ s.phase = .running ∧ (s.sch l).cs = 5) ∧
    (∃ (s : State) (n : Fin 8) (l : Nat) (code : Fin 256), spkLead n s = l ∧ s.phase = .running) ∧
    (∃ (s : State) (n : Fin 8) (l : Nat) (c : Nat), spkLead n s = l ∧ s.phase = .running ∧ (s.sch l).cool = some c ∧ c +
        192000 ≤ s.tick ∧ (s.sch l).cs = 8 ∧ spkMayStart l s = true) ∧
    (∃ (s : State) (n : Fin 8) (l : Nat), spkLead n s = l ∧ s.phase = .running ∧ (s.sch l).openLoop = false) ∧
    (∃ (s : State) (n : Fin 8) (l : Nat), spkLead n s = l ∧ s.phase = .running ∧ spkSwitching (s.sch l) = true) ∧
    (∃ (s : State) (n : Fin 8) (l : Nat), spkLead n s = l ∧ s.phase = .running ∧ 9600 ≤ (s.sch l).dcRun ∧ (s.sch l).dcTrip =
        false) ∧
    (∃ (s : State) (n : Fin 8) (l : Nat), spkLead n s = l ∧ s.ports = true) ∧
    (∃ (s : State) (n : Fin 8) (l : Nat), spkLead n s = l ∧ s.ports = true) ∧
    (∃ (s : State) (n : Fin 8) (l : Nat), spkLead n s = l ∧ s.ports = true ∧ (s.sch l).cs = 10 ∨ ((s.sch l).cs = 5 ∧ ((s.sch
        l).openLoop = true ∨ (s.sch l).rbFault = true)) ∧ (s.sch l).rest = none ∧ s.isolated 1 (16 + l) = false) ∧
    (∃ (s : State) (n : Fin 8) (l : Nat), spkLead n s = l ∧ s.phase = .running ∧ s.clk.tickErr = true ∧ s.on
        (F.SPK_CFG_CLKMUTE 0) = true) ∧
    (∃ (s : State) (n : Fin 8) (l : Nat), spkLead n s = l ∧ s.phase = .running ∧ s.clk.tickErr = true ∧ s.on
        (F.SPK_CFG_CLKMUTE 0) = false) ∧
    (∃ (s : State) (n : Fin 8) (l : Nat), spkLead n s = l ∧ s.phase = .running ∧ s.clk.tickErr = false) ∧
    (∃ (s : State) (n : Fin 8) (l : Nat), spkLead n s = l ∧ s.phase = .running ∧ s.spk.cmute = true ∧ 128 ≤ s.spk.good) ∧
    (∃ (s : State) (n : Fin 8) (l : Nat) (cyc : Fin 5120), spkLead n s = l ∧ s.phase = .running ∧ spkSwitching (s.sch l) =
        true ∧ 160 * l ≤ s.tick * 5120 + cyc ∧ (s.sch l).limAt ≠ some ((s.tick * 5120 + cyc - 160 * l) / 1280)) :=
  ⟨⟨(sp2.setSch 7 {cs := 1}), 7, 7, by decide⟩,
   ⟨(sq {cs := 2, due := 5}), 7, 7, false, by decide⟩,
   ⟨(sq {cs := 2, due := 5}), 7, 7, false, by decide⟩,
   ⟨(sq {cs := 2, due := 5, retries := 4}), 7, 7, 2, true, by decide⟩,
   ⟨(sq {cs := 3, due := 5, retries := 3}), 7, 7, 49, by decide⟩,
   ⟨((sq {cs := 3, due := 5, retries := 4}).setFld (F.SPK_CFG_LID 7) 2), 7, 7, 149, by decide⟩,
   ⟨((sq {cs := 3, due := 5, retries := 4}).setFld (F.SPK_CFG_LID 7) 2), 7, 7, 6401, by decide⟩,
   ⟨((sq {cs := 3, due := 5, retries := 4}).setFld (F.SPK_CFG_LID 7) 2), 7, 7, 6400, by decide⟩,
   ⟨(sq {cs := 4, due := 5, pop := {pos := 2, len := 2, up := true}}), 7, 7, by decide⟩,
   ⟨(sq {cs := 5, lim := 8}), 7, 7, 3, true, by decide⟩,
   ⟨(sp2.setSch 7 {cs := 6, due := 5}), 7, 7, by decide⟩,
   ⟨({sq {cs := 5, retries := 1} with tick := 1920000}), 7, 7, by decide⟩,
   ⟨(sq {cs := 7, retries := 1}), 7, 7, by decide⟩,
   ⟨(sq {cs := 5, z := 65536}), 7, 7, 1, false, by decide⟩,
   ⟨(sq {cs := 5}), 7, 7, 255, by decide⟩,
   ⟨{sp2.setSch 7 {cs := 8, cool := some 0} with tick := 192000}, 7, 7, 0, by decide⟩,
   ⟨(sq {cs := 5}), 7, 7, by decide⟩,
   ⟨(sq {cs := 5}), 7, 7, by decide⟩,
   ⟨(sq {cs := 5, dcRun := 9600}), 7, 7, by decide⟩,
   ⟨(sq {cs := 5}), 7, 7, by decide⟩,
   ⟨((sq {cs := 5, mute := {}, pop := rampAt1, jack := rampAt1}).setFld (F.SPK_CTRL_MUTE 7) 1), 7, 7, by decide⟩,
   ⟨(sq {cs := 10}), 7, 7, by decide⟩,
   ⟨{((sq {cs := 5}).setFld (F.SPK_CFG_CLKMUTE 0) 1) with clk := {(sq {}).clk with tickErr := true}}, 7, 7, by decide⟩,
   ⟨{((sq {cs := 5}).setFld (F.SPK_CFG_CLKMUTE 0) 0) with clk := {(sq {}).clk with tickErr := true}}, 7, 7, by decide⟩,
   ⟨(sq {cs := 5}), 7, 7, by decide⟩,
   ⟨{sq {cs := 9} with spk := {(sq {cs := 9}).spk with cmute := true, good := 128}}, 7, 7, by decide⟩,
   ⟨(sq {cs := 5, limAt := some 19, lim := 3}), 7, 7, 1120, by decide⟩⟩

/-- The hypotheses of the frame statements about these commands: each answers a next state here. -/
theorem test_answers_SpeakerCommandsComplete :
    answers [exec (.spkStart 7) (sp2.setSch 7 {cs := 1}),
      exec (.spkPrecheckDone 7 0 false) (sq {cs := 2, due := 5}),
      exec (.spkIdentDone 7 49) (sq {cs := 3, due := 5, retries := 3}),
      exec (.spkStartDone 7) (sq {cs := 4, due := 5, pop := {pos := 2, len := 2, up := true}}),
      exec (.spkShutdown 7 3 true) (sq {cs := 5, lim := 8}),
      exec (.spkRetry 7) (sp2.setSch 7 {cs := 6, due := 5}),
      exec (.spkRetryCountReset 7) ({sq {cs := 5, retries := 1} with tick := 1920000}),
      exec (.spkClear 7) (sq {cs := 7, retries := 1}),
      exec (.loadModelUpdate 7 1 false) (sq {cs := 5, z := 65536}),
      exec (.spkThermal 7 255) (sq {cs := 5}),
      exec (.spkThermalReturn 7) {sp2.setSch 7 {cs := 8, cool := some 0} with tick := 192000},
      exec (.spkSenseFail 7) (sq {cs := 5}),
      exec (.spkStageFail 7) (sq {cs := 5}),
      exec (.spkDcTrip 7) (sq {cs := 5, dcRun := 9600}),
      exec (.spkMute 7) (sq {cs := 5}),
      exec (.spkUnmute 7) ((sq {cs := 5, mute := {}, pop := rampAt1, jack := rampAt1}).setFld (F.SPK_CTRL_MUTE 7) 1),
      exec (.spkRestore 7) (sq {cs := 10}),
      exec .clockMute {((sq {cs := 5}).setFld (F.SPK_CFG_CLKMUTE 0) 1) with clk := {(sq {}).clk with tickErr := true}},
      exec .clockMuteRelease {sq {cs := 9} with spk := {(sq {cs := 9}).spk with cmute := true, good := 128}},
      exec (.limitedCycle 7 1120) (sq {cs := 5, limAt := some 19, lim := 3})] = true := by decide +kernel

end W17

namespace W18

def bo := {((((base.setFld F.BST_CFG_EN 1).setFld F.PWR_STATUS_PVIN_OK 1).setFld F.PWR_STATE_REQ_PS_REQ 2).setFld (F.CLK_PLL_STAT_LOCK 2) 1).setFld (F.FLT_LINK_B_LSTATE 2) 1 with supplied := 7}

/-- The conditions of every clause of `Obligations.BoostCommandsComplete` are met together. -/
theorem test_hyps_BoostCommandsComplete :
    (∃ (s : State), s.phase = .running ∧ (s.bst.st = 2 ∨ s.bst.st = 3)) ∧
    (∃ (s : State), s.phase = .running ∧ s.bst.st ≠ 2 ∧ s.bst.st ≠ 3) ∧
    (∃ (s : State), s.phase = .running ∧ s.bst.st = 3 ∧ 64 ≤ s.bst.lowRun) ∧
    (∃ (s : State) (k : Nat), s.phase = .running ∧ 64 ≤ s.bst.shedRun ∧ ((List.range 4).filter (fun j => s.bst.active / 2 ^ j
        % 2 == 1)).length = k + 2) ∧
    (∃ (s : State), s.phase = .running ∧ s.bst.st = 0 ∧ s.on F.BST_CFG_EN = true ∧ (bstMayRun s = true ∨ s.bst.stopped =
        false) ∧ s.isolated 1 24 = false) ∧
    (∃ (s : State), s.phase = .running ∧ s.bst.st = 1 ∧ s.bst.due ≠ 0 ∧ s.bst.due ≤ s.tick) ∧
    (∃ (s : State) (k : Fin 4), s.phase = .running ∧ s.bst.out / 2 ^ k.val % 2 = 0) ∧
    (∃ (s : State) (kind : Fin 3), s.phase = .running ∧ s.bst.st ≠ 5 ∧ (kind = 1 → s.bst.st ≠ 1) ∧ (kind = 2 → (bstService
        s).length < 2)) ∧
    (∃ (s : State) (code : Fin 256), s.phase = .running) ∧
    (∃ (s : State) (c : Nat), s.phase = .running ∧ s.bst.cool = some c ∧ s.bst.heldT = true ∧ c + 192000 ≤ s.tick) ∧
    (∃ (s : State), s.ports = true ∧ (s.bst.st = 5 ∨ s.bst.out ≠ 0 ∨ s.bst.heldR = true) ∧ s.isolated 1 24 = false) :=
  ⟨⟨{base with bst := {st := 2}}, by decide⟩,
   ⟨base, by decide⟩,
   ⟨{base with bst := {st := 3, lowRun := 64, active := 3}}, by decide⟩,
   ⟨{base with bst := {st := 3, shedRun := 64, active := 7}}, 1, by decide⟩,
   ⟨{bo with bst := {stopped := true}}, by decide⟩,
   ⟨{base with bst := {st := 1, due := 5}}, by decide⟩,
   ⟨{base with bst := {st := 3, out := 1, active := 12}}, 3, by decide⟩,
   ⟨{base with bst := {st := 3, active := 12, out := 7}}, 2, by decide⟩,
   ⟨{base with bst := {st := 1}}, 189, by decide⟩,
   ⟨{base with tick := 192000, bst := {st := 4, heldT := true, cool := some 0}}, 0, by decide⟩,
   ⟨{base with bst := {st := 5}}, by decide⟩⟩

/-- The hypotheses of the frame statements about these commands: each answers a next state here. -/
theorem test_answers_BoostCommandsComplete :
    answers [exec .boostControlCycle {base with bst := {st := 2}},
      exec .boostBypassEntry {base with bst := {st := 3, lowRun := 64, active := 3}},
      exec .phaseShed {base with bst := {st := 3, shedRun := 64, active := 7}},
      exec .boostStart {bo with bst := {stopped := true}},
      exec .boostPrechargeDone {base with bst := {st := 1, due := 5}},
      exec (.boostPhaseFail 3) {base with bst := {st := 3, out := 1, active := 12}},
      exec (.boostRailFault 2) {base with bst := {st := 3, active := 12, out := 7}},
      exec (.boostThermal 189) {base with bst := {st := 1}},
      exec .boostThermalReturn {base with tick := 192000, bst := {st := 4, heldT := true, cool := some 0}},
      exec .boostRestore {base with bst := {st := 5}}] = true := by decide +kernel

end W18

namespace W19

def qb := ((((base.setFld (F.QMG_QCFG_EN 4095) 1).setFld (F.QMG_QCFG_RES 4095) 4).setFld F.QMG_QSEL_QID 4095).setFld (F.WP_CFG_WEN 63) 1).setFld (F.WP_CFG_WQID 63) 4095
def qr := (qb.setFld (F.WP_CFG_REN 63) 1).setFld (F.WP_CFG_RQID 63) 4095
def pp : Prod := ⟨4, 7, 63⟩
def p1 : Prod := ⟨1, 7, 63⟩
def full := (qb.setFld (F.QMG_QCFG_RES 4095) 0).setFld F.QMG_SHARED_SHARED 0
def og : Sig := {prod := pp, tick := 1, cyc := 2, words := [1,2,3], len := 12, cells := [9]}
def cg : Sig := {og with closed := true}
def bigg : Sig := {prod := pp, tick := 1, cyc := 2, words := List.replicate 64 1, len := 256, cells := [9]}
def wt : Wait := ⟨pp, 4095, 3, [7], none⟩
def wu : Wait := ⟨⟨4, 7, 62⟩, 4095, 3, [7], none⟩

/-- The conditions of every clause of `Obligations.QueueCommandsComplete` are met together. -/
theorem test_hyps_QueueCommandsComplete :
    (∃ (s : State) (q : Fin 4096) (rank kind unit : Nat) (w : Word) (ws : List Word), s.phase = .running ∧ s.on
        (F.QMG_QCFG_EN q) = false ∧ qWaits q ⟨rank, kind, unit⟩ s = false) ∧
    (∃ (s : State) (q : Fin 4096) (p : Prod) (w : Word), s.phase = .running ∧ s.on (F.QMG_QCFG_EN q) = true ∧ (s.queue
        q).ended.contains p = false ∧ qWaits q p s = false ∧ qOpenOf (s.queue q) p = none ∧ s.fld (F.QMG_QCT_CT q) = 0 ∧
        qMayGrant q p.rank s = true) ∧
    (∃ (s : State) (q : Fin 4096) (p : Prod) (w : Word) (ws : List Word), s.phase = .running ∧ s.on (F.QMG_QCFG_EN q) = true
        ∧ (s.queue q).ended.contains p = false ∧ qWaits q p s = false ∧ qOpenOf (s.queue q) p = none ∧ qMayGrant q p.rank s =
        false ∧ p.rank = 1) ∧
    (∃ (s : State) (q : Fin 4096) (p : Prod) (w : Word) (ws : List Word), s.phase = .running ∧ s.on (F.QMG_QCFG_EN q) = true
        ∧ (s.queue q).ended.contains p = false ∧ qWaits q p s = false ∧ qOpenOf (s.queue q) p = none ∧ qMayGrant q p.rank s =
        false ∧ p.rank ≠ 1) ∧
    (∃ (s : State) (q : Fin 4096) (p : Prod) (ws : List Word) (v : Wait), s.phase = .running ∧ (s.qmg.waits.filter (fun x =>
        x.queue == q.val && x.prod == p)).getLast? = some v ∧ v.close = none) ∧
    (∃ (s : State) (r : Wait) (g : Sig) (v : Word), s.phase = .running ∧ qFirstWait s = some r ∧ r.words = [v] ∧ r.close =
        none ∧ (s.queue r.queue).ended.contains r.prod = false ∧ qOpenOf (s.queue r.queue) r.prod = some g ∧ g.words.length =
        64 * g.cells.length ∧ g.words.length < 16384) ∧
    (∃ (s : State) (q : Fin 4096) (p : Prod) (drop : Fin 4) (g : Sig), s.phase = .running ∧ s.on (F.QMG_QCFG_EN q) = true ∧
        (s.queue q).ended.contains p = false ∧ qWaits q p s = false ∧ (s.queue q).opens.find? (fun h => h.prod == p) = some g
        ∧ (s.queue q).sigs.any (fun h => !h.closed && h.prod == p) = false ∧ 0 < g.words.length ∧ g.words.length < 16384) ∧
    (∃ (s : State) (q : Fin 4096) (g : Sig), s.phase = .running ∧ qHead s q = some g ∧ (s.queue q).rd < sigAvail g ∧
        g.bad.contains ((s.queue q).rd / 16) = false) ∧
    (∃ (s : State), s.ports = true ∧ (∀ g, g ∈ (s.queue (qSel s)).sigs → g.closed = true)) ∧
    (∃ (s : State), s.ports = true ∧ (s.queue (qSel s)).bm = false) ∧
    (∃ (s : State), s.ports = true ∧ (s.queue (qSel s)).bm = true) ∧
    (∃ (s : State), s.ports = true ∧ (s.queue (qSel s)).bm = true) ∧
    (∃ (s : State), s.ports = true ∧ (s.queue (qSel s)).bm = true) ∧
    (∃ (s : State), s.phase = .running ∧ s.qmg.sweep = true ∧ s.qmg.sweepAt + 256 ≤ s.tick) ∧
    (∃ (s : State) (w : Fin 64) (data : Word) (q : Nat), s.ports = true ∧ winWq s w = q ∧ s.on (F.WP_CFG_WEN w) = true ∧ s.on
        (F.QMG_QCFG_EN q) = true ∧ (s.queue q).ended.contains (winProd w) = false ∧ qOpenOf (s.queue q) (winProd w) = none ∧
        s.fld (F.QMG_QCT_CT q) = 0 ∧ qMayGrant q 4 s = true) ∧
    (∃ (s : State) (w : Fin 64) (data : Word), s.ports = true ∧ s.on (F.WP_CFG_WEN w) = false) ∧
    (∃ (s : State) (w : Fin 64) (drop : Fin 4) (q c : Nat) (g : Sig), s.ports = true ∧ winWq s w = q ∧ (s.queue
        q).ended.contains (winProd w) = false ∧ (s.queue q).opens.find? (fun h => h.prod == winProd w) = some g ∧ (s.queue
        q).sigs.any (fun h => !h.closed && h.prod == winProd w) = false ∧ g.cells = [c] ∧ 0 < g.words.length ∧ g.words.length
        ≤ 64) ∧
    (∃ (s : State) (w : Fin 64) (q : Nat) (g : Sig), s.ports = true ∧ winWq s w = q ∧ (s.queue q).opens.find? (fun h =>
        h.prod == winProd w) = some g ∧ (s.queue q).sigs.any (fun h => !h.closed && h.prod == winProd w) = false) ∧
    (∃ (s : State) (w : Fin 64) (o : Origin) (g : Sig), s.hears o = true ∧ s.on (F.WP_CFG_REN w) = true ∧ qHead s (winRq s w)
        = some g ∧ (s.queue (winRq s w)).rd < sigAvail g ∧ g.bad.contains ((s.queue (winRq s w)).rd / 16) = false) ∧
    (∃ (s : State) (w : Fin 64) (o : Origin), s.hears o = true ∧ s.on (F.WP_CFG_REN w) = false) ∧
    (∃ (s : State) (w : Fin 64) (g : Sig), s.ports = true ∧ s.on (F.WP_CFG_REN w) = true ∧ qHead s (winRq s w) = some g ∧
        g.closed = true ∧ g.len ≤ 65535) :=
  ⟨⟨base, 4095, 4, 7, 63, 1, [], by decide⟩,
   ⟨qb, 4095, pp, 1, by decide⟩,
   ⟨full, 4095, p1, 1, [], by decide⟩,
   ⟨full, 4095, pp, 1, [], by decide⟩,
   ⟨{qb with qmg := {waits := [wt], queues := []}}, 4095, pp, [1, 2], wt, by decide⟩,
   ⟨{qb with qmg := {waits := [⟨pp, 4095, 3, [7], none⟩], queues := [(4095, {opens := [bigg], occ := 1})]}}, ⟨pp, 4095, 3, [7], none⟩, bigg, 7, by decide⟩,
   ⟨(qb.setQueue 4095 {opens := [og], occ := 1}), 4095, pp, 3, og, by decide⟩,
   ⟨(qb.setQueue 4095 {sigs := [cg], occ := 1}), 4095, cg, by decide⟩,
   ⟨(qb.setQueue 4095 {sigs := [cg], behind := [cg], opens := [og], bm := true, occ := 3}), by decide⟩,
   ⟨(qb.setQueue 4095 {sigs := [cg], occ := 3}), by decide⟩,
   ⟨(qb.setQueue 4095 {sigs := [cg], behind := [cg], bm := true, rd := 4, occ := 3}), by decide⟩,
   ⟨(qb.setQueue 4095 {sigs := [cg], behind := [cg], bm := true, rd := 4, occ := 3}), by decide⟩,
   ⟨(qb.setQueue 4095 {sigs := [cg], behind := [cg], bm := true, rd := 4, occ := 3}), by decide⟩,
   ⟨{qb with tick := 256, qmg := {sweep := true, queues := [(4095, {opens := [bigg], occ := 1})]}}, by decide⟩,
   ⟨qb, 63, 5, 4095, by decide⟩,
   ⟨base, 63, 5, by decide⟩,
   ⟨(qb.setQueue 4095 {opens := [og], occ := 1}), 63, 3, 4095, 9, og, by decide⟩,
   ⟨(qb.setQueue 4095 {opens := [og], occ := 1}), 63, 4095, og, by decide⟩,
   ⟨(qr.setQueue 4095 {sigs := [cg], occ := 1, rd := 8}), 63, .i2ct, cg, by decide⟩,
   ⟨base, 63, .i2ct, by decide⟩,
   ⟨(qr.setQueue 4095 {sigs := [cg], occ := 1, rd := 8}), 63, cg, by decide⟩⟩

/-- The hypotheses of the frame statements about these commands: each answers a next state here. -/
theorem test_answers_QueueCommandsComplete :
    answers [exec (.cellRequest 4095 4 7 63 (1 :: [])) base,
      exec .cellGrant {qb with qmg := {waits := [⟨pp, 4095, 3, [7], none⟩], queues := [(4095, {opens := [bigg], occ := 1})]}},
      exec (.signatureClose 4095 pp.rank pp.kind pp.unit 3) (qb.setQueue 4095 {opens := [og], occ := 1}),
      exec (.queueRead 4095 0) (qb.setQueue 4095 {sigs := [cg], occ := 1}),
      exec .queueFlush (qb.setQueue 4095 {sigs := [cg], behind := [cg], opens := [og], bm := true, occ := 3}),
      exec .bookmarkSet (qb.setQueue 4095 {sigs := [cg], occ := 3}),
      exec .bookmarkRewind (qb.setQueue 4095 {sigs := [cg], behind := [cg], bm := true, rd := 4, occ := 3}),
      exec .bookmarkRelease (qb.setQueue 4095 {sigs := [cg], behind := [cg], bm := true, rd := 4, occ := 3}),
      exec .bookmarkClear (qb.setQueue 4095 {sigs := [cg], behind := [cg], bm := true, rd := 4, occ := 3}),
      exec .qmgSweepDone {qb with tick := 256, qmg := {sweep := true, queues := [(4095, {opens := [bigg], occ := 1})]}},
      exec (.windowWrite 63 5) qb,
      exec (.windowClose 63 3) (qb.setQueue 4095 {opens := [og], occ := 1}),
      exec (.windowAbort 63) (qb.setQueue 4095 {opens := [og], occ := 1}),
      exec (.windowRead 63 .i2ct 0) (qr.setQueue 4095 {sigs := [cg], occ := 1, rd := 8}),
      exec (.windowSkip 63) (qr.setQueue 4095 {sigs := [cg], occ := 1, rd := 8})] = true := by decide +kernel

end W19

namespace W20

def raw (a : Nat) (w : Word) (s : State) : State :=
  { s with regs := s.regs.filter (fun e => e.1 < a) ++ (a, w) :: s.regs.filter (fun e => a < e.1) }
def np := raw Adr.NET_MAC_HI 0 (raw Adr.NET_MAC_LO 7 (((((base.setFld (F.PORT_STAT_LINK 3) 1).setFld (F.PORT_CFG_MODE 3) 1).setFld (F.PORT_CFG_FWD 3) 1).setFld (F.PORT_RXQ_LOCAL_EN 3) 1).setFld F.NET_BR_CFG_LEARN_EN 0))
def npm := np.setPrt 3 {}
def ein (n : Nat) (fcs : Bool) : EthIn := ⟨7, 5, [0,0,0,0,0,7] ++ List.replicate n 0, 0, fcs, true, true, true⟩
def tagd := (netTag 3 (ein 60 true).bytes np).getD []
def npb : State := (npm.land 7).bump (F.PORT_CNT0_RX_OK 3) (F.PORT_CNT0_RX_OK_SAT 3)
def le : LearnEv := ⟨5, 3, 3⟩
def be : BrEnt := ⟨5, 3, false, 1, 1⟩
def sg : Sig := {prod := ⟨4,7,63⟩, tick := 1, cyc := 2, words := List.replicate 20 1, len := 80, cells := [9], closed := true}
def ne := (((np.setQueue 4095 {sigs := [sg], occ := 1}).setFld (F.PORT_EQ_QID 3 7) 4095).setFld (F.PORT_EQ_EN 3 7) 1)
def ne2 := (ne.setFld F.NET_CLASS_EXP_MASK 0xC0).setFld (F.PORT_STAT_PRE_ACT 3) 1
def tf : TxFrame := {cls := 1, q := 5, bytes := [], cut := false, stamp := 3}
def ne3 := ne.setFld (F.PORT_SHAPE_RATE 3 7) 0xFFFF
def ne4 := ne2.setFld (F.PORT_SHAPE_RATE 3 7) 0xFFFF
def nv := {(ne4.setFld (F.PORT_STAT_VSTATE 3) 1).setPrt 3 {pre := 0xC0000100} with tick := 192}
def lu := ((base.setFld (F.PORT_CFG_MODE 3) 2).setFld (F.CLK_PLL_STAT_LOCK 3) 1).setFld F.PWR_STATUS_VSER_OK 1
def tb := {np.setFld F.NET_TBL_MAC_LO_TBL_MAC_LO 5 with net := {table := [(5, [be])]}}
def tb0 := np.setFld F.NET_TBL_MAC_LO_TBL_MAC_LO 5

/-- The conditions of every clause of `Obligations.NetworkCommandsComplete` are met together. -/
theorem test_hyps_NetworkCommandsComplete :
    (∃ (s : State) (p : Fin 5) (w : EthIn), s.phase = .running ∧ NetTakes p w s ∧ w.bytes.length + 4 < 64) ∧
    (∃ (s : State) (p : Fin 5) (w : EthIn), s.phase = .running ∧ (rxStamp w s < 5120 * (s.prt p).modeAt ∨ (NetTakes p w s ∧
        64 ≤ w.bytes.length + 4 ∧ w.bytes.length + 4 ≤ (rxCfg w s).fld (F.PORT_CFG_MAX_LEN p) ∧ fifoSize p (rxExpress p w s)
        s < fifoUsed p (rxExpress p w s) s + w.bytes.length))) ∧
    (∃ (s : State) (p : Fin 5) (w : EthIn), s.phase = .running ∧ NetTakes p w s ∧ NetFits p w s ∧ w.tableOk = true ∧ (w.fcsOk
        = false ∨ w.fifoOk = false) ∧ (∀ q ∈ (rxCfg w s).netQueues, s.fld (F.QMG_QCT_CT q) = 0)) ∧
    (∃ (s : State) (p : Fin 5) (w : EthIn) (f : List Byte) (b c : State), s.phase = .running ∧ NetTakes p w s ∧ NetFits p w s
        ∧ w.fcsOk = true ∧ w.fifoOk = true ∧ w.tableOk = true ∧ s.on F.NET_BR_CFG_LEARN_EN = false ∧ netTag p w.bytes (rxCfg
        w s) = some f ∧ b = (s.land w.cyc).bump (F.PORT_CNT0_RX_OK p) (F.PORT_CNT0_RX_OK_SAT p) ∧ c = netAsOf (rxStamp w s) b
        ∧ frameNum f 0 6 = ownMac c ∧ frameNum f 16 2 ≠ 0x88F7 ∧ frameNum f 16 2 ≠ c.fld F.ZKL_ETYPE_ETYPE ∧ c.on
        (F.PORT_RXQ_LOCAL_EN p) = true) ∧
    (∃ (s : State) (w : PortAt 5) (p : Fin 5) (q : Fin 4096) (x : Bool) (c : RxCopy), s.phase = .running ∧ w.p = p ∧ (s.prt
        p).wait.find? (rxSame q x) = some c ∧ netWaiting p q x s = true ∧ s.fld (F.PORT_CFG_RX_WAIT p) * 98304 ≤ 100 *
        (instant s.tick (max s.cyc w.cyc) - c.wait) ∧ (s.prt p).fifo = []) ∧
    (∃ (s : State) (cyc : Fin 5120) (e : LearnEv), s.phase = .running ∧ learnFirst s.net.learn = some e ∧ e.stamp + 256 ≤
        instant s.tick (max s.cyc cyc)) ∧
    (∃ (s : State) (cyc : Fin 5120) (p : Fin 5) (q : Nat) (g : Sig), s.phase = .running ∧ portUp p s = true ∧ (s.prt p).tx =
        none ∧ (s.prt p).held = none ∧ s.on (F.PORT_STAT_HOLD p) = false ∧ s.on (F.PORT_EQ_EN p 7) = true ∧ portMay p 7
        (s.land cyc) = true ∧ s.fld (F.PORT_EQ_QID p 7) = q ∧ (s.prt p).purge.contains q = false ∧ qHead s q = some g ∧
        g.trunc = false ∧ g.err = false ∧ portLate p 7 (instant g.tick g.cyc) (s.land cyc) = false) ∧
    (∃ (s : State) (cyc : Fin 5120) (p : Fin 5) (f : TxFrame), s.phase = .running ∧ (s.prt p).tx = some f ∧ f.back = none ∧
        f.cut = false) ∧
    (∃ (s : State) (w : PortAt 4) (p : Fin 4) (sent : Nat) (f : TxFrame) (q : Nat) (g : Sig), s.phase = .running ∧ w.p = p ∧
        portUp p s = true ∧ s.on (F.PORT_STAT_PRE_ACT p) = true ∧ (s.prt p).tx = some f ∧ netExpress f.cls s = false ∧ (s.prt
        p).held = none ∧ 64 * (1 + (s.prt p).pre.bits 29 28) ≤ sent ∧ sent + 64 ≤ txLeft f s ∧ netExpress 7 s = true ∧ s.on
        (F.PORT_EQ_EN p 7) = true ∧ portMay p 7 (s.land w.cyc) = true ∧ s.fld (F.PORT_EQ_QID p 7) = q ∧ (s.prt
        p).purge.contains q = false ∧ qHead s q = some g ∧ g.trunc = false ∧ g.err = false ∧ portLate p 7 (instant g.tick
        g.cyc) (s.land w.cyc) = false) ∧
    (∃ (s : State) (w : PortAt 4), s.phase = .running) ∧
    (∃ (s : State) (p : Fin 4), s.phase = .running ∧ s.fld (F.PORT_STAT_VSTATE p) = 1 ∧ (s.prt p).pre.bits 15 8 ≠ 0 ∧ (s.prt
        p).verAt + 192 * (s.prt p).pre.bits 15 8 ≤ s.tick) ∧
    (∃ (s : State) (p : Fin 4) (speed : Fin 3) (half : Bool), s.phase = .running ∧ s.fld (F.PORT_CFG_MODE p) ≠ 0 ∧ portIso p
        s = false ∧ pllLocked 3 s = true ∧ s.on F.PWR_STATUS_VSER_OK = true ∧ s.on (F.PORT_STAT_LINK p) = false ∧ (s.fld
        (F.PORT_CFG_MODE p) ≠ 1 ∨ half = false)) ∧
    (∃ (s : State) (p : Fin 4) (speed : Fin 3), s.phase = .running ∧ s.fld (F.PORT_CFG_MODE p) = 1 ∧ portIso p s = false ∧
        pllLocked 3 s = true ∧ s.on F.PWR_STATUS_VSER_OK = true ∧ s.on (F.PORT_STAT_LINK p) = false) ∧
    (∃ (s : State) (p : Fin 4), s.phase = .running ∧ s.on (F.PORT_STAT_LINK p) = true) ∧
    (∃ (s : State) (c : CollisionIn) (f : TxFrame) (r : Nat), s.phase = .running ∧ (s.prt 4).tx = some f ∧ f.back = none ∧
        f.att < 15 ∧ r = (lfsrNext (s.prt 4).lfsr).toNat % 2 ^ min (f.att + 1) 10) ∧
    (∃ (s : State) (c : CollisionIn) (f : TxFrame), s.phase = .running ∧ (s.prt 4).tx = some f ∧ f.back = none ∧ 15 ≤ f.att ∧
        (netExpress f.cls s = false ∨ s.fld (F.PORT_EQ_DEADLINE 4 f.cls) = 0)) ∧
    (∃ (s : State) (cyc : Fin 5120) (f : TxFrame) (b : Nat), s.phase = .running ∧ (s.prt 4).tx = some f ∧ f.back = some b ∧ b
        ≤ instant s.tick (max s.cyc cyc)) ∧
    (∃ (s : State), s.phase = .running ∧ s.on (F.PORT_STAT_JABBER 4) = false ∧ s.fld (F.PORT_CFG_MODE 4) = 1) ∧
    (∃ (s : State), s.phase = .running) ∧
    (∃ (s : State), s.phase = .running ∧ s.fld F.NET_BR_CFG_AGE ≠ 0) ∧
    (∃ (s : State) (e : BrEnt), s.ports = true ∧ brFind (tblMac s) (learnDrain s) = some e ∧ e.port < 8) ∧
    (∃ (s : State), s.ports = true ∧ brFind (tblMac s) (learnDrain s) = none) ∧
    (∃ (s : State) (port : Fin 8), s.ports = true ∧ (brFind (tblMac s) (learnDrain s)).isSome = true ∨ (brBucket (tblMac s)
        (learnDrain s)).length < 4 ∨ (brBucket (tblMac s) (learnDrain s)).all (·.static) = false) ∧
    (∃ (s : State) (port : Fin 8), s.ports = true ∧ brFind (tblMac s) (learnDrain s) = none ∧ 4 ≤ (brBucket (tblMac s)
        (learnDrain s)).length ∧ (brBucket (tblMac s) (learnDrain s)).all (·.static) = true) ∧
    (∃ (s : State) (e : BrEnt), s.ports = true ∧ brFind (tblMac s) (learnDrain s) = some e ∧ e.port < 8) ∧
    (∃ (s : State) (port : Fin 8), s.ports = true) ∧
    (∃ (s : State), s.ports = true) :=
  ⟨⟨npm, 3, (ein 50 true), by decide +kernel⟩,
   ⟨(np.setPrt 3 {modeAt := 900000}), 3, (ein 50 true), by decide⟩,
   ⟨npm, 3, (ein 60 false), by decide +kernel⟩,
   ⟨npm, 3, (ein 60 true), tagd, npb, (netAsOf (rxStamp (ein 60 true) npm) npb), by decide +kernel⟩,
   ⟨{np with qmg := {waits := [⟨netProd 3 true, 4095, 3, [7], none⟩]}, net := {ports := [(3, {wait := [⟨4095, true, [1], false, 1, 0⟩]})]}, tick := 900000}, ⟨7, 3⟩, 3, 4095, true, ⟨4095, true, [1], false, 1, 0⟩, by decide⟩,
   ⟨{np with net := {learn := [le]}}, 7, le, by decide⟩,
   ⟨ne3, 7, 3, 4095, sg, by decide⟩,
   ⟨(ne4.setPrt 3 {tx := some {tf with cls := 7}}), 7, 3, {tf with cls := 7}, by decide⟩,
   ⟨(ne4.setPrt 3 {tx := some {tf with bytes := List.replicate 200 1}}), ⟨7, 3⟩, 3, 64, {tf with bytes := List.replicate 200 1}, 4095, sg, by decide⟩,
   ⟨(ne4.setPrt 3 {pre := 0x80000001}), ⟨7, 3⟩, by decide⟩,
   ⟨nv, 3, by decide⟩,
   ⟨lu, 3, 0, true, by decide⟩,
   ⟨(lu.setFld (F.PORT_CFG_MODE 3) 1), 3, 0, by decide⟩,
   ⟨{np with net := {table := [(5, [be])], ports := [(3, {tx := some tf})]}}, 3, by decide⟩,
   ⟨(np.setPrt 4 {tx := some tf, lfsr := 7}), ⟨7, true⟩, tf, (((lfsrNext 7).toNat) % 2), by decide, by decide, by decide, by decide, rfl⟩,
   ⟨(np.setPrt 4 {tx := some {tf with att := 15}}), ⟨7, true⟩, {tf with att := 15}, by decide⟩,
   ⟨(np.setPrt 4 {tx := some {tf with back := some 3}}), 7, {tf with back := some 3}, 3, by decide⟩,
   ⟨(np.setFld (F.PORT_CFG_MODE 4) 1), by decide⟩,
   ⟨np, by decide⟩,
   ⟨{np.setFld F.NET_BR_CFG_AGE 1 with tick := 400000, net := {table := [(5, [be])]}}, by decide⟩,
   ⟨tb, be, by decide⟩,
   ⟨tb0, by decide⟩,
   ⟨tb0, 7, by decide⟩,
   ⟨{tb0 with net := {table := [(5, List.replicate 4 {be with static := true, mac := 0})]}}, 7, by decide⟩,
   ⟨tb, be, by decide⟩,
   ⟨tb, 3, by decide⟩,
   ⟨tb, by decide⟩⟩

/-- The hypotheses of the frame statements about these commands: each answers a next state here. -/
theorem test_answers_NetworkCommandsComplete :
    answers [exec (.ethFrameReceive 3 (ein 50 true)) npm,
      exec (.rxWaitExpire ⟨7, 3⟩ 4095 true) {np with qmg := {waits := [⟨netProd 3 true, 4095, 3, [7], none⟩]}, net := {ports := [(3, {wait := [⟨4095, true, [1], false, 1, 0⟩]})]}, tick := 900000},
      exec (.learnEventApply 7) {np with net := {learn := [le]}},
      exec (.egressFrameStart 7 3) ne3,
      exec (.egressFrameEnd 7 3) (ne4.setPrt 3 {tx := some {tf with cls := 7}}),
      exec (.expressPreempt ⟨7, 3⟩ 64) (ne4.setPrt 3 {tx := some {tf with bytes := List.replicate 200 1}}),
      exec (.preemptHold ⟨7, 3⟩) (ne4.setPrt 3 {pre := 0x80000001}),
      exec (.verifyTimer 3) nv,
      exec (.ethLinkUp 3 0 true) lu,
      exec (.ethLinkDown 3) {np with net := {table := [(5, [be])], ports := [(3, {tx := some tf})]}},
      exec (.t1sCollision ⟨7, true⟩) (np.setPrt 4 {tx := some tf, lfsr := 7}),
      exec (.t1sBackoffEnd 7) (np.setPrt 4 {tx := some {tf with back := some 3}}),
      exec .t1sJabber (np.setFld (F.PORT_CFG_MODE 4) 1),
      exec .t1sJabberEnd np,
      exec .bridgeAgeingScan {np.setFld F.NET_BR_CFG_AGE 1 with tick := 400000, net := {table := [(5, [be])]}},
      exec .tableLookup tb,
      exec (.tableAddStatic 7) tb0,
      exec .tableDelete tb,
      exec (.tableFlushPort 3) tb,
      exec .tableFlushAll tb] = true := by decide +kernel

end W20

namespace W21

def tm : TMap := ⟨0, 1700000000, 0, 0, 0, 0⟩
def b1 := {base with tick := 1024}
def tk0 := roundRat (3 * mapNs tm 1024 0) (15625 * mapScale)
def te := 3 * mapNs tm 1024 0 - tk0 * 15625 * mapScale
def tm2 : TMap := ⟨0, 1700000000, 2500, 0, 0, 0⟩
def tk2 := roundRat (3 * mapNs tm2 1024 0) (15625 * mapScale)
def te2 := 3 * mapNs tm2 1024 0 - tk2 * 15625 * mapScale
def tu := gSec (mapNs tm 3 4) - base.fld F.TIME_UTC_UTC_OFS - epoch2000
def zp := ztxProd 63 3
def og : Sig := {prod := zp, tick := 1, cyc := 2, words := [1,2,3], len := 12, cells := [9]}
def zb := (((base.setFld (F.TX_CFG_PORTS 63) 8).setZtx 63 {send := some (11, [3])}).setQueue 0 {opens := [og], occ := 1})
def zbad : Sig := {prod := zp, tick := 1, cyc := 2, words := List.replicate 20 0, len := 80, cells := [9], closed := true}
def zq := (base.setFld F.ZKL_RXQ_EN 1)
def pduH : List Byte := [16, 0, 0, 1] ++ leBytes 2 9 ++ [7, 0] ++ leBytes 4 1 ++ leBytes 8 100 ++ leBytes 2 8 ++ leBytes 2 8 ++ [1,2,3,4,5,6,7,8]
def zgood : Sig := {prod := zp, tick := 1, cyc := 2, words := packBytes (List.replicate 18 0 ++ pduH ++ zklCatch 1 100 8 pduH), len := 18 + 32 + 16, cells := [9], closed := true}
def zr := ((((((zq.setFld (F.RX_CFG_EN 63) 1).setFld (F.RX_ID_SRC_NODE 63) 9).setFld (F.RX_ID_STREAM 63) 7).setFld (F.RX_CFG_CHANS 63) 1).setQueue 0 {sigs := [zgood], occ := 1}))
def zr2 := {zr with tick := 100}

/-- The conditions of every clause of `Obligations.TimeCommandsComplete` are met together. -/
theorem test_hyps_TimeCommandsComplete :
    (∃ (s : State), s.ports = true) ∧
    (∃ (s : State) (m : TMap), s.phase = .running ∧ s.time.pend = some m ∧ s.tick % 1024 = 0 ∧ m.commit ≠ s.tick) ∧
    (∃ (s : State) (m : TMap), s.phase = .running ∧ s.time.map = some m ∧ s.on F.TIME_STAT_GPTP_RDY = true ∧ m.commit +
        384000 ≤ s.tick) ∧
    (∃ (s : State) (m : TMap) (k e : Int), s.phase = .running ∧ s.time.map = some m ∧ s.tick % 1024 = 0 ∧ k = roundRat (3 *
        mapNs m s.tick 0) (15625 * mapScale) ∧ e = 3 * mapNs m s.tick 0 - k * 15625 * mapScale ∧ e ≤ 3000 * mapScale ∧ -(3000
        * mapScale) ≤ e) ∧
    (∃ (s : State) (m : TMap) (k e : Int), s.phase = .running ∧ s.time.map = some m ∧ s.tick % 1024 = 0 ∧ k = roundRat (3 *
        mapNs m s.tick 0) (15625 * mapScale) ∧ e = 3 * mapNs m s.tick 0 - k * 15625 * mapScale ∧ (3000 * mapScale < e ∨ e <
        -(3000 * mapScale))) ∧
    (∃ (s : State) (cyc : Fin 8192), s.ports = true) ∧
    (∃ (s : State) (tick cyc : Nat), s.phase = .running ∧ s.time.cvt = some (tick, cyc) ∧ s.time.map = none) ∧
    (∃ (s : State) (tick cyc : Nat) (m : TMap) (u : Int), s.phase = .running ∧ s.time.cvt = some (tick, cyc) ∧ s.time.map =
        some m ∧ m.apply ≤ tick ∧ u = gSec (mapNs m tick cyc) - s.fld F.TIME_UTC_UTC_OFS - epoch2000 ∧ 0 ≤ u ∧ u ≤ calEnd) ∧
    (∃ (s : State), s.phase = .running ∧ 192000 ≤ s.time.calTick ∧ s.on F.TIME_STAT_CAL_END = false ∧ calFollows s = false) ∧
    (∃ (s : State) (m : TMap), s.phase = .running ∧ s.time.map = some m ∧ s.on F.TIME_STAT_LEAP_PEND = true ∧ leapAt s ≤ gSec
        (mapNs m s.tick s.cyc)) ∧
    (∃ (s : State) (n : Fin 64) (len p q : Nat) (g : Sig), s.phase = .running ∧ (s.ztx n).send = some (len, [p]) ∧ s.fld
        (F.TX_CFG_PORTS n) ≠ 0 ∧ ztxQueue n p s = q ∧ (s.queue q).ended.contains (ztxProd n p) = false ∧ (s.queue
        q).opens.find? (fun h => h.prod == ztxProd n p) = some g ∧ (s.queue q).sigs.any (fun h => !h.closed && h.prod ==
        ztxProd n p) = false ∧ 0 < g.words.length ∧ g.words.length < 16384) ∧
    (∃ (s : State) (tr : Bool) (g : Sig) (u : List Byte), s.phase = .running ∧ s.on F.ZKL_RXQ_EN = true ∧ qHead s (s.fld
        F.ZKL_RXQ_RXQ) = some g ∧ g.closed = true ∧ g.shut < s.tick ∧ u = (sigBytes g).drop 18 ∧ (leNum (u.take 1) / 16 ≠ 1 ∨
        leNum ((u.drop 2).take 1) ≠ s.fld F.ZKL_NODE_DOMAIN)) ∧
    (∃ (s : State) (tr : Bool) (g : Sig) (u : List Byte) (r c d0 p gath : Nat), s.phase = .running ∧ s.on F.ZKL_RXQ_EN = true
        ∧ qHead s (s.fld F.ZKL_RXQ_RXQ) = some g ∧ g.closed = true ∧ g.shut < s.tick ∧ g.trunc = false ∧ g.err = false ∧ u =
        (sigBytes g).drop 18 ∧ leNum (u.take 1) = 16 ∧ leNum ((u.drop 2).take 1) = s.fld F.ZKL_NODE_DOMAIN ∧ zrxOf (leNum
        ((u.drop 4).take 2) % 16384) (leNum ((u.drop 6).take 1)) s = some r ∧ leNum ((u.drop 4).take 2) % 16384 ≠ s.fld
        F.ZKL_NODE_NODE_ID ∧ s.on (F.RX_CFG_KIND r) = false ∧ gath = gathTicks (s.fld (F.RX_CFG_GATH r)) ∧ leNum ((u.drop
        1).take 1) % 4 = s.fld (F.RX_CFG_GATH r) ∧ leNum ((u.drop 3).take 1) = s.fld (F.RX_CFG_CHANS r) ∧ leNum ((u.drop
        22).take 2) = 4 * gath * s.fld (F.RX_CFG_CHANS r) ∧ c = 24 + leNum ((u.drop 22).take 2) ∧ leNum ((u.drop c).take 4) =
        (crc32 (u.take c)).toNat ∧ leNum ((u.drop (c + 4)).take 4) = leNum ((u.drop 8).take 4) ∧ leNum ((u.drop (c + 8)).take
        4) = leNum ((u.drop 12).take 4) ∧ leNum ((u.drop (c + 12)).take 2) = leNum ((u.drop 22).take 2) ∧ d0 = leNum ((u.drop
        12).take 8) ∧ d0 % gath = 0 ∧ p = leNum ((u.drop 20).take 2) ∧ gath + s.fld (F.RX_CFG_HOPB r) + 3 ≤ p ∧ (s.zrx
        r).store.any (fun e => e.1 == (d0 : Int)) = false ∧ (g.shut : Int) ≤ d0 + ((s.zrx r).p.getD p : Nat) - 3 -
        s.time.dofs ∧ (d0 : Int) + ((s.zrx r).p.getD p : Nat) ≤ domTick s.tick s + 128) :=
  ⟨⟨base, by decide⟩,
   ⟨{b1 with time := {pend := some tm}}, tm, by decide⟩,
   ⟨{base.setFld F.TIME_STAT_GPTP_RDY 1 with tick := 384000, time := {map := some tm}}, tm, by decide⟩,
   ⟨{b1 with time := {map := some tm}}, tm, tk0, te, by decide⟩,
   ⟨{b1 with time := {map := some tm2}}, tm2, tk2, te2, by decide⟩,
   ⟨base, 5119, by decide⟩,
   ⟨{base with time := {cvt := some (3,4)}}, 3, 4, by decide⟩,
   ⟨{base with time := {cvt := some (3,4), map := some tm}}, 3, 4, tm, tu, by decide⟩,
   ⟨{base with time := {cal := 86399, calTick := 192000}}, by decide⟩,
   ⟨{(base.setFld F.TIME_STAT_LEAP_PEND 1).setFld F.TIME_LEAP_OFS_LEAP_OFS 38 with time := {map := some tm}}, tm, by decide⟩,
   ⟨zb, 63, 11, 3, 0, og, by decide⟩,
   ⟨(zq.setQueue 0 {sigs := [zbad], occ := 1}), true, zbad, (List.drop 18 (sigBytes zbad)), by decide⟩,
   ⟨zr2, true, zgood, (List.drop 18 (sigBytes zgood)), 63, 32, 100, 8, 2, by decide +kernel⟩⟩

/-- The hypotheses of the frame statements about these commands: each answers a next state here. -/
theorem test_answers_TimeCommandsComplete :
    answers [exec .timeCommit base,
      exec .timeMapApply {b1 with time := {pend := some tm}},
      exec .gptpStale {base.setFld F.TIME_STAT_GPTP_RDY 1 with tick := 384000, time := {map := some tm}},
      exec .domainTickUpdate {b1 with time := {map := some tm}},
      exec (.timeConvert 5119) base,
      exec .timeConvertResult {base with time := {cvt := some (3,4)}},
      exec .calendarSecond {base with time := {cal := 86399, calTick := 192000}},
      exec .leapSecond {(base.setFld F.TIME_STAT_LEAP_PEND 1).setFld F.TIME_LEAP_OFS_LEAP_OFS 38 with time := {map := some tm}},
      exec (.zklFrameLink 63) zb,
      exec (.zklFrameJudge true) (zq.setQueue 0 {sigs := [zbad], occ := 1})] = true := by decide +kernel

end W21

namespace W22

/-- The conditions of every clause of `Obligations.HostCommandsComplete` are met together. -/
theorem test_hyps_HostCommandsComplete :
    (∃ (s : State) (o : Origin) (cyc : Fin 5120) (data : Word), s.hears o = true) ∧
    (∃ (s : State) (o : Origin) (cyc : Fin 5120) (data : Word), s.hears o = true) ∧
    (∃ (s : State) (o : Origin) (addr : Fin 16777216), s.hears o = true ∧ (¬(0x800000 ≤ addr.val ∧ addr.val < 0x840000 ∧
        0x800 ≤ addr.val % 0x1000 ∧ addr.val % 0x1000 < 0xC00))) ∧
    (∃ (s : State) (o : Origin), s.hears o = true) ∧
    (∃ (s : State) (o : Origin), s.hears o = true) ∧
    (∃ (s : State) (o : Origin) (page : Fin 290), s.hears o = true ∧ pageInUse page = true ∧ (o = .mc → page.val ≠ Pg.flt)) ∧
    (∃ (s : State) (page : Fin 290), s.ports = true ∧ pageInUse page = true) ∧
    (∃ (s : State) (addr : Fin 16777216) (bits again : Word) (r : RegRow), s.ports = true ∧ rowOf (regAddr addr s) = some r) ∧
    (∃ (s : State) (o : Origin) (page : Fin 290), s.hears o = true ∧ pageInUse page = true ∧ o ≠ .mc ∧ s.on (F.pgLock page) =
        false) ∧
    (∃ (s : State) (page : Fin 290), s.hears .mc = true ∧ pageInUse page = true ∧ s.on (F.pgLock page) = false) ∧
    (∃ (s : State), s.ports = true) ∧
    (∃ (s : State), s.ports = true) ∧
    (∃ (s : State), s.ports = true) ∧
    (∃ (s : State), s.ports = true) :=
  ⟨⟨base, .mc, 5, 77, by decide⟩,
   ⟨base, .i2ct, 5, 0xFFFFFFFF, by decide⟩,
   ⟨{base with fresh := [(Adr.PRESS_RES, 15)]}, .qspi, 0x1054, by decide⟩,
   ⟨{base with fresh := [(Adr.PRESS_RES, 15)]}, .qspi, by decide⟩,
   ⟨base, .mc, by decide⟩,
   ⟨(base.setFld F.PRESS_CNT_PRESS_CNT 5), .hpb, 1, by decide⟩,
   ⟨base, 289, by decide⟩,
   ⟨base, 0x121010, 5, 4, ((rowOf 0x121010).getD ⟨"",0,[],[]⟩), by decide⟩,
   ⟨base, .hpb, 289, by decide⟩,
   ⟨base, 289, by decide⟩,
   ⟨base, by decide⟩,
   ⟨base, by decide⟩,
   ⟨base, by decide⟩,
   ⟨base, by decide⟩⟩

/-- The hypotheses of the frame statements about these commands: each answers a next state here. -/
theorem test_answers_HostCommandsComplete :
    answers [exec (.registerWrite .mc 5 ⟨Adr.ID_SCRATCH, by decide⟩ 77) base,
      exec (.resultRegisterRead .qspi 0x1054) {base with fresh := [(Adr.PRESS_RES, 15)]},
      exec (.latchedGroupRead .mc ⟨Adr.CLK_TICK_LO, by decide⟩) base,
      exec (.counterClear .hpb 1) (base.setFld F.PRESS_CNT_PRESS_CNT 5),
      exec (.interruptTest 289) base,
      exec (.w1cClear 0x121010 5 4) base,
      exec (.pageLock .hpb 289) base,
      exec .hpbStrobeConflict base,
      exec .qsBadcmd base,
      exec .qsPart base,
      exec .i2ctPart base] = true := by decide +kernel

end W22

namespace W23

/-- The conditions of every clause of `Obligations.MailboxCommandsComplete` are met together. -/
theorem test_hyps_MailboxCommandsComplete :
    (∃ (s : State) (len : Fin 128), s.ports = true ∧ s.on F.MBOX_STAT_H2M_FULL = false ∧ len ≠ 0) ∧
    (∃ (s : State) (len : Fin 128), s.ports = true ∧ s.on F.MBOX_STAT_H2M_FULL = true) ∧
    (∃ (s : State), s.phase = .running ∧ s.on F.MBOX_STAT_H2M_FULL = true) ∧
    (∃ (s : State) (words : List Word), s.phase = .running ∧ s.on F.MBOX_STAT_M2H_FULL = false ∧ words.length ≤ 64) ∧
    (∃ (s : State), s.ports = true) ∧
    (∃ (s : State), s.phase = .running ∧ s.fld F.FLT_STAT_MC_STATE = 1) :=
  ⟨⟨base, 127, by decide⟩,
   ⟨(base.setFld F.MBOX_STAT_H2M_FULL 1), 127, by decide⟩,
   ⟨(base.setFld F.MBOX_STAT_H2M_FULL 1), by decide⟩,
   ⟨base, [1,2,3], by decide⟩,
   ⟨(base.setFld F.MBOX_STAT_M2H_FULL 1), by decide⟩,
   ⟨(base.setFld F.FLT_STAT_MC_STATE 1), by decide⟩⟩

/-- The hypotheses of the frame statements about these commands: each answers a next state here. -/
theorem test_answers_MailboxCommandsComplete :
    answers [exec (.mboxSend 127) base,
      exec .mboxTake (base.setFld F.MBOX_STAT_H2M_FULL 1),
      exec (.mboxPost [1,2,3]) base,
      exec .mboxAck (base.setFld F.MBOX_STAT_M2H_FULL 1),
      exec .mcReady (base.setFld F.FLT_STAT_MC_STATE 1)] = true := by decide +kernel

end W23

namespace W24

def pk (k : Nat) (st : Nat) := {base.setFld F.PRESS_STAT_PSTATE st with press := {kind := k, imaged := true, s := 5}}
def fnd (s : State) := collate (reclamp s) (overlay (reclamp s))
def up := ((pk 2 3).setFld (F.FLT_LINK_B_LSTATE 0) 1).setFld (F.FLT_LINK_B_LSTATE 2) 1
def lt (a : Nat) (w : Word) := {base with tick := 8, press := {later := [(a, w)]}}

/-- The conditions of every clause of `Obligations.PressCommandsComplete` are met together. -/
theorem test_hyps_PressCommandsComplete :
    (∃ (s : State) (o : Origin), s.hears o = true ∧ s.press.kind = 0) ∧
    (∃ (s : State) (o : Origin), s.hears o = true ∧ s.press.kind = 0) ∧
    (∃ (s : State) (o : Origin), s.hears o = true ∧ s.press.kind ≠ 0) ∧
    (∃ (s : State), s.ports = true ∧ s.press.kind ≠ 0 ∧ (s.fld F.PRESS_STAT_PSTATE ≤ 2 ∨ (s.fld F.PRESS_STAT_PSTATE = 3 ∧
        commitPast s = false))) ∧
    (∃ (s : State), s.ports = true ∧ (s.press.kind = 0 ∨ 4 ≤ s.fld F.PRESS_STAT_PSTATE ∨ (s.fld F.PRESS_STAT_PSTATE = 3 ∧
        commitPast s = true))) ∧
    (∃ (s : State), s.ports = true ∧ s.press.kind = 0 ∧ SMap.wf resetWord s.regs = true) ∧
    (∃ (s : State) (f : Findings), s.phase = .running ∧ s.press.kind = 1 ∧ s.press.imaged = true ∧ s.fld F.PRESS_STAT_PSTATE
        = 1 ∧ f = collate (reclamp s) (overlay (reclamp s))) ∧
    (∃ (s : State) (f : Findings), s.phase = .running ∧ s.press.kind = 2 ∧ s.press.imaged = true ∧ s.fld F.PRESS_STAT_PSTATE
        = 1 ∧ f = collate (reclamp s) (overlay (reclamp s))) ∧
    (∃ (s : State), s.phase = .running ∧ s.press.kind = 2 ∧ s.fld F.PRESS_STAT_PSTATE = 2 ∧ s.press.s ≤ s.tick + 16) ∧
    (∃ (s : State) (cyc : Fin 5120), s.phase = .running ∧ s.press.kind = 2 ∧ s.fld F.PRESS_STAT_PSTATE = 3 ∧ s.press.s ≤
        s.tick + 7 ∧ (∀ l : Fin 2, s.linkUp l = false ∨ (s.fld F.PRESS_STAT_DIE_SKIP).testBit l = true ∨ pressAnswer l s =
        1)) ∧
    (∃ (s : State) (l : Fin 2) (cyc : Fin 5120), s.phase = .running ∧ s.press.kind = 2 ∧ s.fld F.PRESS_STAT_PSTATE = 3 ∧
        s.press.s ≤ s.tick + 7 ∧ s.linkUp l = true ∧ (s.fld F.PRESS_STAT_DIE_SKIP).testBit l = false ∧ pressAnswer l s ≠ 1) ∧
    (∃ (s : State), s.phase = .running ∧ s.press.kind = 2 ∧ s.fld F.PRESS_STAT_PSTATE = 4 ∧ s.press.s ≤ s.tick) ∧
    (∃ (s : State) (a : Nat) (w : Word), s.phase = .running ∧ s.press.later = [(a, w)] ∧ laterUnit a = some 17 ∧
        s.spd.txFrame % 192 = 0) ∧
    (∃ (s : State) (u : Fin 82) (a : Nat) (w : Word), s.phase = .running ∧ s.press.later.filter (fun e => laterUnit e.1 ==
        some u.val) = [(a, w)] ∧ laterDue u s = true) :=
  ⟨⟨base, .mc, by decide⟩,
   ⟨(base.setFld F.PRESS_TGT_HI_TGT_HI 3), .hpb, by decide⟩,
   ⟨(pk 1 1), .hpb, by decide⟩,
   ⟨{(pk 2 3) with tick := 0, cyc := 0, press := {kind := 2, s := 7}}, by decide⟩,
   ⟨(pk 2 3), by decide⟩,
   ⟨(base.setFld (F.OUT_CFG_EN 3) 1), by decide⟩,
   ⟨(pk 1 1), (fnd (pk 1 1)), by decide, by decide, by decide, by decide, rfl⟩,
   ⟨(pk 2 1), (fnd (pk 2 1)), by decide, by decide, by decide, by decide, rfl⟩,
   ⟨(pk 2 2), by decide⟩,
   ⟨{up with press := {up.press with replies := [(0, 1), (1, 1)]}}, 2050, by decide⟩,
   ⟨{up with press := {up.press with replies := [(0, 2), (1, 1)]}}, 0, 3, by decide⟩,
   ⟨(pk 2 4), by decide⟩,
   ⟨{base with press := {later := [(Adr.SPDO_CS 0 0, 7)]}}, (Adr.SPDO_CS 0 0), 7, by decide⟩,
   ⟨(lt Adr.SVC_SEQ_LEN 7), 0, Adr.SVC_SEQ_LEN, 7, by decide⟩⟩

/-- The hypotheses of the frame statements about these commands: each answers a next state here. -/
theorem test_answers_PressCommandsComplete :
    answers [exec (.collate .mc) base,
      exec (.press .hpb) (base.setFld F.PRESS_TGT_HI_TGT_HI 3),
      exec .withdraw {(pk 2 3) with tick := 0, cyc := 0, press := {kind := 2, s := 7}},
      exec .revert (base.setFld (F.OUT_CFG_EN 3) 1),
      exec .collationDone (pk 1 1),
      exec .pressAnnounce (pk 2 2),
      exec (.pressCommitPoint {up with press := {up.press with replies := [(0, 1), (1, 1)]}}.press.seq 2050) {up with press := {up.press with replies := [(0, 1), (1, 1)]}},
      exec .pressApply (pk 2 4),
      exec (.deferredApply 17) {base with press := {later := [(Adr.SPDO_CS 0 0, 7)]}}] = true := by decide +kernel

end W24

namespace W25

def lr : LogRec := {tick := 3, code := 0x4081}
def lq := {(((base.setFld F.FLT_LOG_CFG_LOGQ_EN 1).setFld F.FLT_LOG_CFG_LOGQ 4095).setFld (F.QMG_QCFG_EN 4095) 1).setFld (F.QMG_QCFG_RES 4095) 1 with flt := {log := [lr]}}
def is := {base.setFld ⟨Adr.FLT_ISO 2, 25, 25⟩ 1 with flt := {why := [(89, [{code := 0x4C01, auto := true}])]}}
def is2 := (is.setFld (F.FLT_LINK_B_LSTATE 0) 1)

/-- The conditions of every clause of `Obligations.FaultCommandsComplete` are met together. -/
theorem test_hyps_FaultCommandsComplete :
    (∃ (s : State), s.phase = .running ∧ s.flt.log = [] ∧ s.flt.last = none) ∧
    (∃ (s : State) (q : Nat) (r : LogRec), s.phase = .running ∧ s.on F.FLT_LOG_CFG_LOGQ_EN = true ∧ s.flt.logWait = false ∧
        s.flt.log.find? (fun r => !r.sent) = some r ∧ r.tick < s.tick ∧ s.fld F.FLT_LOG_CFG_LOGQ = q ∧ s.on (F.QMG_QCFG_EN q)
        = true ∧ (s.queue q).ended.contains logProd = false ∧ qOpenOf (s.queue q) logProd = none ∧ s.fld (F.QMG_QCT_CT q) = 0
        ∧ qMayGrant q 5 s = true ∧ s.qmg.waits.any (fun w => w.prod == logProd) = false) ∧
    (∃ (s : State) (o : Origin), s.hears o = true ∧ o ≠ .mc) ∧
    (∃ (s : State) (o : Origin), s.hears o = true ∧ o ≠ .mc) ∧
    (∃ (s : State) (o : Origin) (w : Fin 3) (bits : Word) (b : Nat), s.hears o = true ∧ o ≠ .mc ∧ b < isoWidth w ∧
        bits.getLsbD b = true ∧ SMap.get (fun _ => []) s.flt.why (32 * w + b) = []) ∧
    (∃ (s : State) (o : Origin) (w : Fin 3) (bits : Word) (b : Nat), s.hears o = true ∧ o ≠ .mc ∧ b < isoWidth w ∧
        bits.getLsbD b = true ∧ (SMap.get (fun _ => []) s.flt.why (32 * w + b)).any (fun x => isoPersists x s) = false) ∧
    (∃ (s : State) (k : Fin 6) (c : Nat), s.phase = .running ∧ autoCode k = c ∧ s.on F.FLT_ISO_CFG_AUTO_RET = true ∧
        s.flt.why.any (fun e => e.2.any (fun w => w.code == c && w.auto)) = true ∧ isoPersists { code := c } s = false ∧
        (s.flt.returns.filter (fun e => e.1 == c && decide (s.tick - e.2 < 1920000))).length < s.fld F.FLT_ISO_CFG_RET_MAX) ∧
    (∃ (s : State) (o : Origin), s.hears o = true ∧ o ≠ .mc ∧ s.on F.FLT_LOCKALL_LOCKALL = false) ∧
    (∃ (s : State), s.hears .mc = true) ∧
    (∃ (s : State) (o : Origin), s.hears o = true ∧ o ≠ .mc) ∧
    (∃ (s : State), s.phase = .running ∧ s.fld F.FLT_STAT_MC_STATE = 1 ∧ s.flt.kickTick + 192 ≤ s.tick) ∧
    (∃ (s : State) (u : Nat), s.phase = .running ∧ s.flt.mcUntil = some u ∧ u ≤ s.tick ∧ s.fld F.FLT_STAT_MC_STATE = 2) ∧
    (∃ (s : State) (o : Origin), s.hears o = true ∧ o ≠ .mc ∧ s.fld F.FLT_STAT_MC_STATE ≤ 2) ∧
    (∃ (s : State) (o : Origin), s.hears o = true ∧ o ≠ .mc ∧ s.fld F.FLT_STAT_MC_STATE = 4) ∧
    (∃ (s : State) (o : Origin), s.hears o = true ∧ o ≠ .mc ∧ (s.fld F.FLT_STAT_MC_STATE = 3 ∨ s.fld F.FLT_STAT_MC_STATE =
        4)) ∧
    (∃ (s : State) (page : Fin 290), s.phase = .running ∧ viewRuns s = true ∧ 2 < SMap.get (fun _ => 0) s.flt.viewTicks page
        ∧ s.on (F.pgViewMismatch page) = false) :=
  ⟨⟨base, by decide⟩,
   ⟨lq, 4095, lr, by decide⟩,
   ⟨(base.setFld F.FLT_PEND_PEND 5), .hpb, by decide⟩,
   ⟨lq, .hpb, by decide⟩,
   ⟨base, .hpb, 2, 0xFFFFFFFF, 25, by decide⟩,
   ⟨is2, .hpb, 2, 0xFFFFFFFF, 25, by decide⟩,
   ⟨is2, 0, 0x4C01, by decide⟩,
   ⟨base, .hpb, by decide⟩,
   ⟨base, by decide⟩,
   ⟨base, .i2ct, by decide⟩,
   ⟨{base.setFld F.FLT_STAT_MC_STATE 1 with tick := 192}, by decide⟩,
   ⟨{base.setFld F.FLT_STAT_MC_STATE 2 with flt := {mcUntil := some 5}}, 5, by decide⟩,
   ⟨base, .hpb, by decide⟩,
   ⟨(base.setFld F.FLT_STAT_MC_STATE 4), .hpb, by decide⟩,
   ⟨(base.setFld F.FLT_STAT_MC_STATE 3), .hpb, by decide⟩,
   ⟨{(base.setFld F.FLT_VIEW_CFG_VIEW_EN 1).setFld F.MBOX_STAT_MC_RDY 1 with flt := {viewTicks := [(289, 3)]}}, 289, by decide⟩⟩

/-- The hypotheses of the frame statements about these commands: each answers a next state here. -/
theorem test_answers_FaultCommandsComplete :
    answers [exec .fltLockstepMismatch base,
      exec .logRecordSend lq,
      exec (.faultAck .hpb) (base.setFld F.FLT_PEND_PEND 5),
      exec (.logClear .hpb) lq,
      exec (.isolateSet .hpb 2 0xFFFFFFFF) base,
      exec (.isolateClear .hpb 2 0xFFFFFFFF) is2,
      exec (.isolationAutoReturn 0) is2,
      exec (.lockAll .hpb) base,
      exec (.watchdogKick .mc) base,
      exec .watchdogExpire {base.setFld F.FLT_STAT_MC_STATE 1 with tick := 192},
      exec .mcResetRelease {base.setFld F.FLT_STAT_MC_STATE 2 with flt := {mcUntil := some 5}},
      exec (.mcHold .hpb true) base,
      exec (.mcRun .hpb) (base.setFld F.FLT_STAT_MC_STATE 3),
      exec (.viewMismatch 289) {(base.setFld F.FLT_VIEW_CFG_VIEW_EN 1).setFld F.MBOX_STAT_MC_RDY 1 with flt := {viewTicks := [(289, 3)]}}] = true := by decide +kernel

end W25

namespace W26

def nb := {((base.setFld F.NVM_STAT_FL_PRESENT 1).setFld F.NVM_JGEOM_SECTORS 256).setFld F.FLT_STAT_MC_STATE 3 with tick := 192000}
def nr := nb.setFld F.NVM_STAT_JNL_RDY 1
def bd : List Byte := leBytes 4 3 ++ leBytes 4 4 ++ leBytes 4 0 ++ leBytes 4 0 ++ [1,2,3,4] ++ List.replicate 64 0
def rc : JRec := jRecord 0 7 9 5 [1,2,3] 3 3
def rb : JRec := jRecord 0 1 1 5 bd bd.length 3
def wc : JCmd := { cmd := 3, typ := 7, id := 9, len := 3, place := some 4, got := [1,2,3] }
def br := {nb with nvm := {boot := 3, left := [1], recs := [rb]}}
def rbad : JRec := jRecord 0 1 1 5 [1,2,3] 3 3

/-- The conditions of every clause of `Obligations.StorageCommandsComplete` are met together. -/
theorem test_hyps_StorageCommandsComplete :
    (∃ (s : State) (o : Origin) (i : Nat), s.hears o = true ∧ s.fld F.NVM_OTP_SEL_ITEM = i ∧ s.nvm.otpBusy = none ∧ pfVioOn s
        = false ∧ (o = .mc → 18 < i) ∧ otpKindOk s i (s.word Adr.NVM_OTP_DATA) = true ∧ (otpWords s i).length < 4) ∧
    (∃ (s : State) (lost : BitVec 40) (i : Nat) (v : Word) (due : Nat) (w : OtpWord), s.phase = .running ∧ s.nvm.otpBusy =
        some (i, v, due) ∧ due ≤ s.tick ∧ w = otpWord v &&& ~~~lost) ∧
    (∃ (s : State) (o : Origin), s.hears o = true ∧ jTurned o 1 0 s = 0) ∧
    (∃ (s : State) (o : Origin) (ty i : Fin 256) (r : JRec), s.hears o = true ∧ jTurned o 2 ty s = 0 ∧ jCurrent s ty i = some
        r) ∧
    (∃ (s : State) (o : Origin) (ty i : Fin 256), s.hears o = true ∧ jTurned o 3 ty s = 0 ∧ jRoom s (s.fld F.NVM_JLEN_LEN) =
        true) ∧
    (∃ (s : State) (o : Origin) (ty i : Fin 256), s.hears o = true ∧ jTurned o 4 ty s = 0 ∧ jCurrent s ty i ≠ none) ∧
    (∃ (s : State) (c : JCmd), s.phase = .running ∧ s.nvm.cmd = some c ∧ c.cmd = 1 ∧ pfVioOn s = false) ∧
    (∃ (s : State) (c : JCmd) (p : Nat), s.phase = .running ∧ s.nvm.cmd = some c ∧ c.cmd = 3 ∧ c.place = some p ∧ s.fld
        F.NVM_STAT_OPSTEP = 5) ∧
    (∃ (s : State) (c : JCmd), s.phase = .running ∧ s.nvm.cmd = some c ∧ c.cmd = 3 ∧ c.place ≠ none ∧ c.got.length < c.len ∧
        c.wait + 192000 ≤ s.tick) ∧
    (∃ (s : State) (stage : Fin 4) (c : JCmd), s.phase = .running ∧ s.nvm.cmd = some c ∧ (c.cmd = 3 ∨ c.cmd = 4) ∧ c.began +
        960 ≤ s.tick) ∧
    (∃ (s : State), s.phase = .running ∧ s.nvm.boot = 1) ∧
    (∃ (s : State) (jedec : BitVec 24) (c : Nat), s.phase = .running ∧ s.nvm.boot = 1 ∧ s.on F.PWR_STATUS_IO_LEVEL = true ∧ c
        = jedec.toNat % 256 ∧ jedec ≠ 0 ∧ jedec ≠ 0xFFFFFF ∧ 0x14 ≤ c ∧ c ≤ 0x18 ∧ otpLast (otpWords s 0) = none ∧ s.on
        F.NVM_FL_CFG_HOST_BOOT = false ∧ s.on F.NVM_STAT_BUSY = false ∧ s.fld F.FLT_STAT_MC_STATE ≤ 1) ∧
    (∃ (s : State) (i : Fin 2) (rest : List Nat) (r : JRec) (k : Fin 4), s.phase = .running ∧ s.nvm.boot = 3 ∧ s.nvm.early ≤
        s.tick ∧ s.nvm.left = i.val :: rest ∧ jCurrent s 1 i = some r ∧ bootJudge s r.body = (1, k.val)) ∧
    (∃ (s : State) (i : Nat) (r : JRec) (v k : Nat), s.phase = .running ∧ s.nvm.boot = 3 ∧ s.nvm.early ≤ s.tick ∧ s.nvm.left
        = [i] ∧ jCurrent s 1 i = some r ∧ bootJudge s r.body = (v, k) ∧ v ≠ 1) ∧
    (∃ (s : State), s.ports = true ∧ hostWaits s = true) ∧
    (∃ (s : State) (w : Word), s.ports = true ∧ hostWaits s = true) ∧
    (∃ (s : State) (v k : Nat), s.ports = true ∧ hostWaits s = true ∧ s.nvm.early ≤ s.tick ∧ bootJudge s (unpackWords
        s.nvm.hload.reverse) = (v, k)) ∧
    (∃ (s : State), s.ports = true ∧ hostWaits s = true ∧ s.tick < s.nvm.early) :=
  ⟨⟨(base.setFld F.NVM_OTP_SEL_ITEM 63), .mc, 63, by decide⟩,
   ⟨{base with nvm := {otpBusy := some (5, 7, 3)}}, 0, 5, 7, 3, (otpWord 7), by decide⟩,
   ⟨nb, .hpb, by decide⟩,
   ⟨{nr with nvm := {recs := [rc]}}, .hpb, 7, 9, rc, by decide, by decide, by decide +kernel⟩,
   ⟨(nr.setFld F.NVM_JLEN_LEN 77), .hpb, 254, 255, by decide⟩,
   ⟨{nr with nvm := {recs := [rc]}}, .hpb, 7, 9, by decide, by decide, by decide +kernel⟩,
   ⟨{nb with nvm := {cmd := some { cmd := 1, typ := 0, id := 0, len := 0 }}}, { cmd := 1, typ := 0, id := 0, len := 0 }, by decide⟩,
   ⟨{nb.setFld F.NVM_STAT_OPSTEP 5 with nvm := {recs := [rc], cmd := some wc}}, wc, 4, by decide⟩,
   ⟨{nb with nvm := {recs := [rc], cmd := some {wc with got := []}}}, {wc with got := []}, by decide⟩,
   ⟨{nb with nvm := {recs := [rc], cmd := some {wc with got := []}}}, 0, {wc with got := []}, by decide⟩,
   ⟨{base with nvm := {boot := 1}}, by decide⟩,
   ⟨{base.setFld F.PWR_STATUS_IO_LEVEL 1 with nvm := {boot := 1}}, 0xEF4018, 0x18, by decide⟩,
   ⟨br, 1, [], rb, 0, by decide, by decide, by decide, by decide +kernel, by decide +kernel⟩,
   ⟨{nb with nvm := {boot := 3, left := [1], recs := [rbad]}}, 1, rbad, 5, 0, by decide, by decide, by decide, by decide +kernel, by decide +kernel, by decide⟩,
   ⟨(base.setFld F.NVM_BOOT_STAT_WAIT_HOST 1), by decide⟩,
   ⟨(base.setFld F.NVM_BOOT_STAT_WAIT_HOST 1), 5, by decide⟩,
   ⟨(base.setFld F.NVM_BOOT_STAT_WAIT_HOST 1), 5, 0, by decide⟩,
   ⟨{base.setFld F.NVM_BOOT_STAT_WAIT_HOST 1 with nvm := {early := 1000000}}, by decide⟩⟩

/-- The hypotheses of the frame statements about these commands: each answers a next state here. -/
theorem test_answers_StorageCommandsComplete :
    answers [exec (.otpProgram .mc) (base.setFld F.NVM_OTP_SEL_ITEM 63),
      exec (.otpProgramDone 0) {base with nvm := {otpBusy := some (5, 7, 3)}},
      exec (.journalMount .hpb) nb,
      exec (.journalRead .hpb 7 9) {nr with nvm := {recs := [rc]}},
      exec (.journalWrite .hpb 254 255) (nr.setFld F.NVM_JLEN_LEN 77),
      exec (.journalDelete .hpb 7 9) {nr with nvm := {recs := [rc]}},
      exec .journalOpDone {nb with nvm := {cmd := some { cmd := 1, typ := 0, id := 0, len := 0 }}},
      exec .journalWriteShort {nb with nvm := {recs := [rc], cmd := some {wc with got := []}}},
      exec (.flashTimeout 0) {nb with nvm := {recs := [rc], cmd := some {wc with got := []}}},
      exec (.bootStart 0) {base with nvm := {boot := 1}},
      exec .bootImageCheck br,
      exec .hloadStart (base.setFld F.NVM_BOOT_STAT_WAIT_HOST 1),
      exec (.hloadData 5) (base.setFld F.NVM_BOOT_STAT_WAIT_HOST 1),
      exec .hloadGo (base.setFld F.NVM_BOOT_STAT_WAIT_HOST 1)] = true := by decide +kernel

end W26

namespace W27

def ie := base.setFld (F.I2C_CFG_EN 3) 1
def iw (w : Nat) := {ie.setFld (F.I2C_CFG_TOUT 3) 1 with i2c := [(3, {work := w, rlen := 32})]}

/-- The conditions of every clause of `Obligations.PeripheralCommandsComplete` are met together. -/
theorem test_hyps_PeripheralCommandsComplete :
    (∃ (s : State) (k : Fin 4) (addr : Fin 128) (rlen wlen : Fin 64) (held : Bool), s.ports = true ∧ s.on (F.I2C_CFG_EN k) =
        true ∧ s.fld (F.I2C_STAT_STATE k) ≠ 2 ∧ s.fld (F.I2C_STAT_STATE k) ≠ 3) ∧
    (∃ (s : State) (k : Fin 4) (nbyte : Fin 64) (rx : List Byte), s.phase = .running ∧ (s.i2cAt k).work = 2) ∧
    (∃ (s : State) (k : Fin 4) (nack : Fin 3) (nbyte : Fin 64) (rx : List Byte), s.phase = .running ∧ (s.i2cAt k).work = 2 ∧
        nack ≠ 0) ∧
    (∃ (s : State) (k : Fin 4) (nbyte : Fin 64) (mid sda : Bool), s.phase = .running ∧ (s.i2cAt k).work = 2) ∧
    (∃ (s : State) (k : Fin 4) (nbyte : Fin 64) (mid sda : Bool), s.phase = .running ∧ (s.i2cAt k).work = 1 ∧ s.on
        (F.I2C_CFG_TOUT k) = true) ∧
    (∃ (s : State) (k : Fin 4) (sda : Bool), s.ports = true ∧ s.on (F.I2C_CFG_EN k) = true ∧ s.fld (F.I2C_STAT_STATE k) ≠ 2) ∧
    (∃ (s : State) (k : Fin 4), s.phase = .running ∧ (s.i2cAt k).work = 3) ∧
    (∃ (s : State) (k : Fin 4) (sda : Bool), s.ports = true ∧ s.on (F.I2C_CFG_EN k) = false) ∧
    (∃ (s : State) (k : Fin 4), s.phase = .running ∧ (s.i2cAt k).work = 1) ∧
    (∃ (s : State) (n : Fin 32) (rise : Bool), s.phase = .running) ∧
    (∃ (s : State) (bits : Word), s.ports = true) ∧
    (∃ (s : State) (bits : Word), s.ports = true) :=
  ⟨⟨ie, 3, 127, 63, 63, true, by decide⟩,
   ⟨(iw 2), 3, 63, (leBytes 32 123456789123456789123456789123456789123456789123456789), by decide⟩,
   ⟨(iw 2), 3, 2, 63, [3], by decide⟩,
   ⟨(iw 2), 3, 63, true, false, by decide⟩,
   ⟨(iw 1), 3, 63, true, false, by decide⟩,
   ⟨ie, 3, true, by decide⟩,
   ⟨(iw 3), 3, by decide⟩,
   ⟨base, 3, false, by decide⟩,
   ⟨(iw 1), 3, by decide⟩,
   ⟨(base.setFld F.GPIO_RISE_RISE 0x80000000), 31, true, by decide⟩,
   ⟨(base.setFld F.GPIO_DIR_DIR 0x80000000), 0xC0000000, by decide⟩,
   ⟨((base.setFld F.GPIO_DIR_DIR 0x80000000).setFld F.GPIO_OUT_OUT 0x80000001), 0xC0000000, by decide⟩⟩

/-- The hypotheses of the frame statements about these commands: each answers a next state here. -/
theorem test_answers_PeripheralCommandsComplete :
    answers [exec (.i2cTransaction 3 127 63 63 true) ie,
      exec (.i2cTransactionDone 3 0 63 (leBytes 32 123456789123456789123456789123456789123456789123456789)) (iw 2),
      exec (.i2cArbLost 3 63 true false) (iw 2),
      exec (.i2cTimeout 3 63 true false) (iw 1),
      exec (.i2cBusClear 3 true) ie,
      exec (.i2cBusClearDone 3 true) (iw 3),
      exec (.i2cEnable 3 false) base,
      exec (.i2cOtherStop 3) (iw 1),
      exec (.gpioEdge 31 true) (base.setFld F.GPIO_RISE_RISE 0x80000000),
      exec (.gpioSet 0xC0000000) (base.setFld F.GPIO_DIR_DIR 0x80000000),
      exec (.gpioClr 0xC0000000) ((base.setFld F.GPIO_DIR_DIR 0x80000000).setFld F.GPIO_OUT_OUT 0x80000001)] = true := by decide +kernel

end W27

namespace Global

/-- A register write waiting in the queue. -/
def qd : State := { base with pending := [.registerWrite .hpb 100 0x000054 0x1234, .revert] }

theorem test_hyps_CommandsCompleteInOrder : ∃ (s : State) (c : Instr) (rest : List Instr), s.pending = c :: rest :=
  ⟨qd, .registerWrite .hpb 100 0x000054 0x1234, [.revert], by decide⟩

theorem test_hyps_StepTakesTheFrontCommand : ∃ s : State, s.pending = [] := ⟨base, by decide⟩

theorem test_canonical_base : base.Canonical := by constructor <;> decide

theorem test_hyps_StepKeepsInvariant : ∃ s t : State, s.Inv ∧ step s = .next t :=
  ⟨qd, after (step qd), ⟨by constructor <;> decide, by decide, by decide, by decide, by decide, by decide⟩, rfl⟩

theorem test_hyps_SilentPortsDoNothing : ∃ (c : Instr) (s : State), fromPorts c = true ∧ s.ports = false :=
  ⟨.registerWrite .hpb 5119 0x000054 0x1234, State.reset, by decide⟩

theorem test_hyps_NoEventBeforeTheTick : ∃ (c : Instr) (s : State), insideEvent c = true ∧ s.phase ≠ .running :=
  ⟨.vloopSample, State.reset, by decide⟩

theorem test_hyps_WriteByAccessType : ∃ (o : Origin) (s : State), s.hears o = true := ⟨.mc, base, by decide⟩

theorem test_hyps_LockedWrites :
    (∃ (o : Origin) (s : State), s.hears o = true ∧ o ≠ .mc ∧ s.fld (F.pgLock Pg.press) = 0) ∧
    (∃ (o : Origin) (data : Word) (s : State), s.hears o = true ∧ s.flt.configLogged.contains (Pg.press, s.tick) = false ∧
      s.fld F.PRESS_CFG_MC_PRESS ≠ data.bits 0 0 ∧ o ≠ .mc ∧ s.fld (F.pgLock Pg.press) = 1) ∧
    (∃ (o : Origin) (data : Word) (s : State), s.hears o = true ∧ s.flt.configLogged.contains (Pg.press, s.tick) = false ∧
      s.fld F.PRESS_CFG_MC_PRESS ≠ data.bits 0 0 ∧ o = .mc) :=
  ⟨⟨.i2ct, base, by decide⟩, ⟨.qspi, 0xFFFFFFFE, base.setFld (F.pgLock Pg.press) 1, by decide⟩,
   ⟨.mc, 0, base, by decide⟩⟩

/-- The management controller writes the LOCK bit of the press page; a register with LK fields. -/
theorem test_hyps_ControllerChangesNoLock :
    (∃ (cyc : Fin 5120) (addr : Fin 16777216) (data : Word) (s t : State), exec (.registerWrite .mc cyc addr data) s = .next t) ∧
    (∃ (a : Nat) (r : RegRow), rowOf a = some r) :=
  ⟨⟨5119, 0x001000, 0x80000000, base, _, rfl⟩, ⟨0x00104C, _, rfl⟩⟩

theorem test_hyps_ResultIsFreshOncePerOrigin : ∃ (o p : Origin) (a b : Nat) (s : State), p ≠ o ∧ b ≠ a ∧ s.hears o = true ∧
    SMap.get (fun _ => 0) s.fresh Adr.CLK_SERVO_ERR < 16 ∧ (s.word Adr.CLK_SERVO_ERR).bits 31 31 = 0 :=
  ⟨.qspi, .hpb, 0, 1, base.post Adr.CLK_SERVO_ERR 7, by decide⟩

/-- A counter of the whole low part of a word, and its SAT flag in bit 31; a counter at the top of a word, and its flag below. -/
theorem test_hyps_CountersSaturate : ∀ p ∈ [((⟨16, 30, 0⟩ : Fld), (⟨16, 31, 31⟩ : Fld)), (⟨16, 31, 1⟩, ⟨16, 0, 0⟩)],
    p.2.addr = p.1.addr ∧ p.1.lo ≤ p.1.hi ∧ p.1.hi < 32 ∧ p.2.lo = p.2.hi ∧ p.2.hi < 32 ∧ (p.2.hi < p.1.lo ∨ p.1.hi < p.2.hi) := by
  decide

theorem test_hyps_SampleHoldsValueAndTag :
    (∃ v w : Word, v ≠ w ∧ v.extractLsb' 4 28 = w.extractLsb' 4 28) ∧ (∃ v w : Word, v ≠ w ∧ v.extractLsb' 0 4 = w.extractLsb' 0 4) :=
  ⟨⟨0x7FFFFFF0, 0x7FFFFFFF, by decide⟩, ⟨0x80000000, 0x7FFFFFF0, by decide⟩⟩

theorem test_hyps_RoundsToEvenAndSaturates :
    (∃ tag : Nat, tag < 16) ∧ (∃ (x : Int) (n : Nat), (2 * (x - roundEven x n * 2 ^ n)).natAbs = 2 ^ n) :=
  ⟨⟨15, by decide⟩, ⟨-3, 1, by decide⟩⟩

/-- The last page in use. -/
theorem test_hyps_ResetValues : ∃ p : Fin 290, pageInUse p = true := ⟨289, by decide⟩

theorem test_hyps_RevertRestoresTheShadow : ∃ s : State, s.Canonical ∧ s.ports = true ∧ s.press.kind = 0 :=
  ⟨base, test_canonical_base, by decide⟩

end Global

namespace W28

/-- The hypotheses of the frame statements about these commands: each answers a next state here. -/
theorem test_answers_JtagCommandsComplete :
    answers [exec .jtagBypass base,
      exec .jtagIdcode base,
      exec (.jtagSamplePreload [true] [false]) base,
      exec (.jtagExtest [true]) base,
      exec .jtagClamp base,
      exec .jtagHighz base] = true := by decide +kernel

end W28

namespace Smoke

/-- A tick that finds nothing wrong. -/
def tk : TickIn := ⟨[], [], 0, [], 0, [], [], [], [], [], [], [], none, [], none, [], [], []⟩

/-- A data burst of the power die. -/
def bu : BurstIn := ⟨List.replicate 9 0, 0, 5119, 5119⟩

theorem test_wf_accepts : [Instr.tickBoundary { tk with missed := [0x8FF], crosspoints := [73727], quires := [(2, 524287, true)] },
    .tickBoundary { tk with counts := [(5, 0)], pdm := List.replicate 8 (0, 65535) },
    .stitchBurstReceive 3 bu, .cellRequest 4095 5 7 63 [], .sapFrame 15 2047 5120 (List.replicate 2048 false), .mboxPost [0],
    .dataBurstSend 1 (List.replicate 64 0)].all Instr.wf = true := by
  decide

/-- One ill-formed term for each check of `Instr.wf`. -/
theorem test_wf_refuses : [Instr.tickBoundary { tk with missed := [0x900] },
    .tickBoundary { tk with slots := [(384, [])] }, .tickBoundary { tk with slots := [(0, [0x900])] },
    .tickBoundary { tk with crosspoints := [73728] }, .tickBoundary { tk with playout := [256] },
    .tickBoundary { tk with quires := [(3, 0, true)] }, .tickBoundary { tk with quires := [(2, 524288, true)] },
    .tickBoundary { tk with buffers := [(1024, 0, true)] }, .tickBoundary { tk with history := [(80, 0, true)] },
    .tickBoundary { tk with tables := [(4096, true)] }, .tickBoundary { tk with counts := [(0, 72)] },
    .tickBoundary { tk with counts := [(5, 1)] }, .tickBoundary { tk with sense := List.replicate 9 (SenseIn.mk 0 0 0 0) },
    .tickBoundary { tk with jacks := List.replicate 13 0 }, .tickBoundary { tk with outLimited := [20] },
    .tickBoundary { tk with cvLimited := [16] }, .tickBoundary { tk with pdm := List.replicate 9 (0, 0) },
    .dataBurstSend 1 (List.replicate 65 0), .stitchBurstReceive 3 { bu with quires := [] },
    .stitchBurstReceive 3 { bu with phase := 5120 }, .stitchBurstReceive 3 ⟨List.replicate 17 0, (1 : BitVec 128) <<< 64, 0, 0⟩,
    .stitchBurstReceive 1 ⟨List.replicate 33 0, (1 : BitVec 128) <<< 64, 0, 0⟩,
    .resetRelease ⟨true, [(0, 290)]⟩, .railRecover .vcore ⟨true, [(0, 290)]⟩, .cellRequest 0 0 1 0 [], .cellRequest 0 6 1 0 [],
    .signatureClose 0 0 1 0 0, .signatureClose 0 6 1 0 0, .sapFrame 0 2048 5120 (List.replicate 2049 false), .sapFrame 0 7 5120 [true], .mboxPost [],
    .mboxPost (List.replicate 65 0), .i2cTransactionDone 0 0 0 (List.replicate 33 0)].all (fun i => !i.wf) = true := by
  decide

end Smoke

namespace Steps

/-- R500: SCRATCH takes what is written. -/
theorem test_step_scratch : (after (step Global.qd)).word Adr.ID_SCRATCH = 0x1234 := by decide

/-- The command behind waits (queue first in, first out). -/
theorem test_step_rest : (after (step Global.qd)).pending = [.revert] := by decide

/-- R27: PART. -/
theorem test_reset_part : State.reset.word Adr.ID_PART = 0x00009632 := by decide

/-- R49: a miss of mixer bus 4 (source 0x404) is logged as 0x467C with instance 0x404. -/
theorem test_miss_code : (spnMiss 0x404 (srcBlock 0x404) base base).flt.reports.any (fun r => r.code == 0x467C && r.inst == 0x404) = true := by
  decide +kernel

/-- R30: −1.0 times −1.0 saturates and sets T_CLP. -/
theorem test_sample_saturates : sample (2 ^ 27) 0 = 0x7FFFFFF0#32 ||| BitVec.ofNat 32 tCLP := by decide

/-- R30: ties go to even. -/
theorem test_round_ties : (roundEven 3 1, roundEven 5 1, roundEven (-3) 1, roundEven (-5) 1) = (2, 2, -2, -2) := by decide

end Steps

end Sys2Proof.Tests
end

/-!
The counter update of R10: what `State.bumpBy` can do, and what follows for the counter, its SAT flag and the rest of the state.
-/

namespace Sys2Proof.Machine

/-- A field is less than 2 to the power of its width. -/
theorem State.fld_lt (s : State) (f : Fld) : s.fld f < 2 ^ f.width := Word.bits_lt _ _ _

/-- A field takes a number of its width as it is. -/
theorem State.fld_setFld_of_lt (s : State) {f : Fld} {v : Nat} (h : f.hi < 32) (hv : v < 2 ^ f.width) : (s.setFld f v).fld f = v := by
  rw [State.fld_setFld_same s v h, Nat.mod_eq_of_lt hv]

/-- A field write stores in the register words alone. -/
theorem State.setFld_eraseRegs (s : State) (f : Fld) (v : Nat) :
    { s.setFld f v with regs := [] } = { s with regs := [] } := by
  dsimp only [State.setFld, State.setWord]

/-- What a count can do: nothing to add, a sum below all ones, or saturation. -/
theorem State.bumpBy_cases (n : Nat) (cnt sat : Fld) (s : State) :
    (n = 0 ∧ s.bumpBy n cnt sat = s) ∨
    (n ≠ 0 ∧ s.fld cnt + n < 2 ^ cnt.width - 1 ∧ s.bumpBy n cnt sat = s.setFld cnt (s.fld cnt + n)) ∨
    (n ≠ 0 ∧ 2 ^ cnt.width - 1 ≤ s.fld cnt + n ∧
      s.bumpBy n cnt sat = (s.setFld cnt (2 ^ cnt.width - 1)).setFld sat 1) := by
  by_cases hn : n = 0
  · exact .inl ⟨hn, by simp [State.bumpBy, hn]⟩
  · by_cases hm : 2 ^ cnt.width - 1 ≤ s.fld cnt + n
    · exact .inr (.inr ⟨hn, hm, by simp only [State.bumpBy, hn, hm, if_true, if_false]⟩)
    · exact .inr (.inl ⟨hn, Nat.lt_of_not_le hm, by simp only [State.bumpBy, hn, hm, if_false]⟩)

/-- The counter holds the sum, or all ones where the sum does not fit. -/
theorem State.fld_bumpBy_counter {n : Nat} {cnt sat : Fld} (s : State) (hc : cnt.hi < 32)
    (hd : sat.hi < cnt.lo ∨ cnt.hi < sat.lo) :
    (s.bumpBy n cnt sat).fld cnt = min (2 ^ cnt.width - 1) (s.fld cnt + n) := by
  have hlt := s.fld_lt cnt
  obtain ⟨rfl, e⟩ | ⟨-, hm, e⟩ | ⟨-, hm, e⟩ := s.bumpBy_cases n cnt sat <;> rw [e]
  · omega
  · rw [State.fld_setFld_of_lt s hc (by omega), Nat.min_eq_right (Nat.le_of_lt hm)]
  · rw [State.fld_setFld_bits _ _ hd, State.fld_setFld_of_lt s hc (by omega), Nat.min_eq_left hm]

/-- The SAT flag is set exactly by a count that reaches all ones; else it stays. -/
theorem State.fld_bumpBy_sat {n : Nat} {cnt sat : Fld} (s : State) (h1 : sat.lo = sat.hi) (hs : sat.hi < 32)
    (hd : sat.hi < cnt.lo ∨ cnt.hi < sat.lo) :
    (s.bumpBy n cnt sat).fld sat = if n ≠ 0 ∧ 2 ^ cnt.width - 1 ≤ s.fld cnt + n then 1 else s.fld sat := by
  obtain ⟨hn, e⟩ | ⟨hn, hm, e⟩ | ⟨hn, hm, e⟩ := s.bumpBy_cases n cnt sat <;> rw [e]
  · rw [if_neg (fun h => h.1 hn)]
  · rw [if_neg (fun h => Nat.not_le_of_lt hm h.2), State.fld_setFld_bits s _ hd.symm]
  · have hw : sat.width = 1 := by rw [Fld.width]; omega
    rw [if_pos ⟨hn, hm⟩, State.fld_setFld_of_lt _ hs (by rw [hw]; decide)]

/-- No word of another register changes. -/
theorem State.word_bumpBy_other {n a : Nat} {cnt sat : Fld} (s : State) (hsat : sat.addr = cnt.addr) (ha : a ≠ cnt.addr) :
    (s.bumpBy n cnt sat).word a = s.word a := by
  obtain ⟨-, e⟩ | ⟨-, -, e⟩ | ⟨-, -, e⟩ := s.bumpBy_cases n cnt sat <;> rw [e]
  · exact State.word_setFld_other s _ ha
  · rw [State.word_setFld_other _ _ (hsat ▸ ha), State.word_setFld_other s _ ha]

/-- A field that shares no bit with the counter or its SAT flag keeps its value. -/
theorem State.fld_bumpBy_other {n : Nat} {cnt sat f : Fld} (s : State) (hc : f.hi < cnt.lo ∨ cnt.hi < f.lo)
    (hs : f.hi < sat.lo ∨ sat.hi < f.lo) : (s.bumpBy n cnt sat).fld f = s.fld f := by
  obtain ⟨-, e⟩ | ⟨-, -, e⟩ | ⟨-, -, e⟩ := s.bumpBy_cases n cnt sat <;> rw [e]
  · exact State.fld_setFld_bits s _ hc.symm
  · rw [State.fld_setFld_bits _ _ hs.symm, State.fld_setFld_bits s _ hc.symm]

/-- A count stores in the register words alone. -/
theorem State.bumpBy_eraseRegs (n : Nat) (cnt sat : Fld) (s : State) :
    { s.bumpBy n cnt sat with regs := [] } = { s with regs := [] } := by
  obtain ⟨-, e⟩ | ⟨-, -, e⟩ | ⟨-, -, e⟩ := s.bumpBy_cases n cnt sat <;> rw [e]
  · exact State.setFld_eraseRegs s _ _
  · exact (State.setFld_eraseRegs _ _ _).trans (State.setFld_eraseRegs s _ _)

end Sys2Proof.Machine

namespace Sys2Proof

open Machine

/-- Settles O11: the law of the counter update that every event counter goes through, from the three cases of a count (R10). -/
theorem countersSaturate : Obligations.CountersSaturate := by
  intro n cnt sat s hsat _ hc h1 hs hd
  rw [← h1] at hd
  exact ⟨s.fld_bumpBy_counter hc (by omega), s.fld_bumpBy_sat h1 hs (by omega),
    fun _ ha => s.word_bumpBy_other hsat ha, fun _ _ _ _ hfc hfs => s.fld_bumpBy_other hfc hfs, s.bumpBy_eraseRegs n cnt sat⟩

end Sys2Proof

/-!
The sample word of R29: its value is the two's-complement reading of bits 31:4, its tag the number in bits 3:0.
-/

namespace Sys2Proof

/-- A field of a word, as a bit vector of its own width. -/
theorem Word.bits_eq_extractLsb' (w : Word) (hi lo : Nat) :
    w.bits hi lo = (w.extractLsb' lo (hi + 1 - lo)).toNat := by
  rw [Word.bits, BitVec.extractLsb'_toNat]

/-- The model's two's-complement reading of `n` bits is that of bit vectors. -/
theorem signed_toNat {n : Nat} (x : BitVec n) : signed n x.toNat = x.toInt := by
  rw [signed, Nat.mod_eq_of_lt x.isLt, BitVec.toInt_eq_toNat_cond, Int.natCast_pow, Int.cast_ofNat_Int]

end Sys2Proof

namespace Sys2Proof.Machine

/-- The value is read from bits 31:4 alone. -/
theorem sval_eq_toInt (w : Word) : sval w = (w.extractLsb' 4 28).toInt := by
  rw [sval, Word.bits_eq_extractLsb', signed_toNat]

/-- The tag is read from bits 3:0 alone. -/
theorem stag_eq_toNat (w : Word) : stag w = (w.extractLsb' 0 4).toNat := Word.bits_eq_extractLsb' w 3 0

/-- No value is below -1.0. -/
theorem le_sval (w : Word) : -(2 ^ 27) ≤ sval w := sval_eq_toInt w ▸ BitVec.le_toInt _

/-- Every value is below +1.0. -/
theorem sval_lt (w : Word) : sval w < 2 ^ 27 := sval_eq_toInt w ▸ BitVec.toInt_lt

end Sys2Proof.Machine

namespace Sys2Proof

open Machine

/-- Settles O12: value and tag are readings of two disjoint bit ranges; the table's six rows are evaluated (R29). -/
theorem sampleHoldsValueAndTag : Obligations.SampleHoldsValueAndTag := by
  refine ⟨fun w => ⟨sval_eq_toInt w, le_sval w, sval_lt w, stag_eq_toNat w⟩, fun v w h => ?_, fun v w h => ?_, by decide⟩
  · rw [sval_eq_toInt, sval_eq_toInt, h]
  · rw [stag_eq_toNat, stag_eq_toNat, h]

end Sys2Proof

/-!
REVERT: the shadow it builds from the live words agrees with them in every staged bit (R503, R505).
-/

namespace Sys2Proof.Machine

/-- An address below the rising keys of a map reads as an unlisted one. -/
theorem SMap.get_of_rising {α : Type} (d : Nat → α) {m : SMap α} {lo a : Nat} (hm : SMap.rising lo m = true) (ha : a < lo) :
    SMap.get d m a = d a := by
  induction m generalizing lo with
  | nil => rfl
  | cons e m ih =>
    obtain ⟨k, v⟩ := e
    simp only [SMap.rising, Bool.and_eq_true, decide_eq_true_eq] at hm
    obtain ⟨hk, hm⟩ := hm
    rw [SMap.get, if_neg (by omega), ih hm (by omega)]

/-- A read at one address uses no other address of what unlisted keys read as. -/
theorem SMap.get_congr_default {α : Type} {d d' : Nat → α} {a : Nat} (m : SMap α) (h : d a = d' a) :
    SMap.get d m a = SMap.get d' m a := by
  induction m with
  | nil => exact h
  | cons e m ih => rw [SMap.get, SMap.get, ih]

/-- Merging takes every staged bit from the first word. -/
theorem stMerge_and_stMask (a : Nat) (img live : Word) : stMerge a img live &&& stMask a = img &&& stMask a := by
  rw [stMerge, BitVec.and_or_distrib_right]
  simp [BitVec.and_assoc]

/-- Words that agree in the staged bits differ in no staged bit. -/
theorem stMask_and_xor {a : Nat} {v w : Word} (h : v &&& stMask a = w &&& stMask a) : stMask a &&& (v ^^^ w) = 0 := by
  have hd : (v ^^^ w) &&& stMask a = (v &&& stMask a) ^^^ (w &&& stMask a) := by
    ext i hi
    simp only [BitVec.getElem_and, BitVec.getElem_xor, Bool.and_xor_distrib_right]
  rw [BitVec.and_comm, hd, h]
  exact BitVec.xor_self

/-- What REVERT does with one live word: a register with staged bits puts them into its shadow. -/
def revertWord (m : SMap Word) (e : Nat × Word) : SMap Word :=
  if stMask e.1 = 0 then m else SMap.set resetWord m e.1 (stMerge e.1 e.2 (resetWord e.1))

/-- The shadow holds the staged bits of the live word. -/
theorem get_revertWord_same (m : SMap Word) (a : Nat) (v : Word) :
    SMap.get resetWord (revertWord m (a, v)) a &&& stMask a = v &&& stMask a := by
  by_cases h : stMask a = 0
  · simp [h]
  · simp only [revertWord, if_neg h, SMap.get_set_same, stMerge_and_stMask]

/-- The shadow of no other register changes. -/
theorem get_revertWord_other (m : SMap Word) {a k : Nat} (v : Word) (h : a ≠ k) :
    SMap.get resetWord (revertWord m (k, v)) a = SMap.get resetWord m a := by
  by_cases hk : stMask k = 0
  · simp only [revertWord, if_pos hk]
  · simp only [revertWord, if_neg hk, SMap.get_set_other _ _ _ h]

/-- REVERT over live words in rising order: the shadow takes the staged bits of each listed register and keeps the others. -/
theorem get_foldl_revertWord {lo : Nat} {regs : SMap Word} (m : SMap Word) (a : Nat) (h : SMap.rising lo regs = true) :
    SMap.get resetWord (regs.foldl revertWord m) a &&& stMask a = SMap.get (SMap.get resetWord m) regs a &&& stMask a := by
  induction regs generalizing m lo with
  | nil => rfl
  | cons e regs ih =>
    obtain ⟨k, v⟩ := e
    simp only [SMap.rising, Bool.and_eq_true, decide_eq_true_eq] at h
    obtain ⟨-, h⟩ := h
    rw [List.foldl_cons, ih _ h, SMap.get]
    split
    · next hka => rw [← hka, SMap.get_of_rising _ h (Nat.lt_succ_self k), get_revertWord_same]
    · next hka => rw [SMap.get_congr_default regs (get_revertWord_other m v (Ne.symm hka))]

/-- What REVERT makes of the shadows (R505). -/
def State.revertShadow (s : State) : State := { s with shadow := s.regs.foldl revertWord [], shadowMc := [] }

/-- The host ports carry REVERT to the press block (R505). -/
theorem exec_revert {s : State} (h : s.ports = true) : exec .revert s = .next (pressRevert s) := if_pos h

/-- REVERT while no press is under way is accepted (R505, R506). -/
theorem pressRevert_of_idle {s : State} (h : s.press.kind = 0) :
    pressRevert s = (s.setFld F.PRESS_STAT_CMD_ERR 0).revertShadow := by
  simp only [pressRevert, pressAccept, h, beq_self_eq_true, if_true]
  rfl

/-- After REVERT each shadow agrees with its live word in every staged bit (R505). -/
theorem State.revertShadow_agrees {s : State} (h : SMap.wf resetWord s.regs = true) (a : Nat) :
    SMap.get resetWord s.revertShadow.shadow a &&& stMask a = s.word a &&& stMask a := by
  simp only [SMap.wf, Bool.and_eq_true] at h
  exact get_foldl_revertWord [] a h.1

/-- A page whose shadows agree with their live words, without a deferred word and with no press under way, shows no PEND. -/
theorem pagePend_of_agrees {s : State} {p : Nat} (h : ∀ a, SMap.get resetWord s.shadow a &&& stMask a = s.word a &&& stMask a)
    (hl : s.press.later.any (fun e => pageKey e.1 / 4096 == p) = false) (hk : s.press.kind = 0) : pagePend p s = false := by
  have hs (a : Nat) : stMask a &&& (SMap.get resetWord s.shadow a ^^^ s.word a) = 0 := stMask_and_xor (h a)
  simp [pagePend, hs, hl, hk]

end Sys2Proof.Machine

namespace Sys2Proof

open Machine

/-- Settles O15: the fold over the live words stages each of them, and agreeing shadows leave PEND to the deferred words (R505). -/
theorem revertRestoresTheShadow : Obligations.RevertRestoresTheShadow := by
  intro s hs hp hk
  have hw : SMap.wf resetWord (s.setFld F.PRESS_STAT_CMD_ERR 0).regs = true := SMap.wf_set _ _ hs.regs
  have ht := State.revertShadow_agrees hw
  refine ⟨(s.setFld F.PRESS_STAT_CMD_ERR 0).revertShadow, ?_, ht, fun p hl => pagePend_of_agrees ht hl hk, rfl⟩
  rw [exec_revert hp, pressRevert_of_idle hk]

end Sys2Proof

/-!
One step of the part: every command answers, what gates a command, and what a step keeps (R68, R69, R88, R479, R575).
-/

namespace Sys2Proof.Machine

/-! A gate that is shut answers the state it was given. -/

theorem State.ticking_of_not_running {s : State} (h : s.phase ≠ .running) (r) : s.ticking r = .next s :=
  if_neg (by simpa using h)

theorem State.heard_of_silent {s : State} (h : s.ports = false) (r) : s.heard r = .next s := if_neg (by simp [h])

theorem State.heardFrom_of_silent {s : State} {o : Origin} (h : s.ports = false) (ho : o ≠ .mc) (r) : s.heardFrom o r = .next s :=
  if_neg (by simp [State.hears, ho, h])

/-! A gate that is open lets the command through. -/

theorem State.ticking_of_running {s : State} (h : s.phase = .running) (r) : s.ticking r = r := if_pos (by simp [h])

theorem State.heard_of_ports {s : State} (h : s.ports = true) (r) : s.heard r = r := if_pos h

theorem State.heardFrom_of_hears {s : State} {o : Origin} (h : s.hears o = true) (r) : s.heardFrom o r = r := if_pos h

/-! Every command answers a next state (R485). -/

/-- The outcome is a next state. -/
def Answers (r : Host.Outcome State Fault Refusal) : Prop := ∃ t, r = .next t

theorem Answers.next (s : State) : Answers (.next s) := ⟨s, rfl⟩

theorem Answers.ite {c : Prop} {_d : Decidable c} {a b} (ha : Answers a) (hb : Answers b) : Answers (if c then a else b) := by
  split <;> assumption

theorem Answers.ticking (s t : State) : Answers (s.ticking (.next t)) := .ite (.next t) (.next s)

theorem Answers.heard (s t : State) : Answers (s.heard (.next t)) := .ite (.next t) (.next s)

theorem Answers.heardFrom (s t : State) (o : Origin) : Answers (s.heardFrom o (.next t)) := .ite (.next t) (.next s)

/-- Every command answers a next state: it goes through at most one gate. -/
theorem exec_answers (c : Instr) (s : State) : Answers (exec c s) := by
  cases c
  case tickBoundary | takePoint | resetAssert | resetRelease | dieSupplyLoss | pllcLock | pllcSearchFail | pllcUnlock
      | railUndervoltage | railRecover | pvinOvervoltage | pvinFullChange | pfVioChange | urgentRequest | gpioEdge |
      jtagBypass | jtagIdcode | jtagSamplePreload | jtagExtest | jtagClamp | jtagHighz | pvinOvRecover =>
    exact .next _
  case vcoreBoundWrite | windowRead | registerWrite | resultRegisterRead | latchedGroupRead | counterClear | pageLock
      | collate | press | faultAck | logClear | isolateSet | isolateClear | lockAll | watchdogKick | mcHold | mcRun |
      otpProgram | journalMount | journalRead | journalWrite | journalDelete =>
    exact .heardFrom s _ _
  case refSelChange | relockM | relockP | relockN | powerStateRequest | ainRestore | comparatorForceLow |
      comparatorForceHigh | comparatorRelease | fchBankWrite | fchRestore | svcRestore | sapRestart | pdmRestart |
      spdifRestart | spnRestore | crosspointWrite | glideGo | glideStop | busMute | busUnmute | mixRestore |
      tapDelayWrite | convPrep | effectPoolWrite | fxRestore | outputMute | outputUnmute | outputRestore |
      jackForceRemoved | jackForceInserted | jackForceRelease | timerArm | timerStop | cvRestore | spkClear | spkMute
      | spkUnmute | spkRestore | boostRestore | queueFlush | bookmarkSet | bookmarkRewind | bookmarkRelease |
      bookmarkClear | windowWrite | windowClose | windowAbort | windowSkip | tableLookup | tableAddStatic |
      tableDelete | tableFlushPort | tableFlushAll | timeCommit | timeConvert | interruptTest | w1cClear |
      hpbStrobeConflict | qsBadcmd | qsPart | i2ctPart | mboxSend | mboxAck | withdraw | revert | hloadStart |
      hloadData | hloadGo | i2cTransaction | i2cBusClear | i2cEnable | gpioSet | gpioClr =>
    exact .heard s _
  all_goals exact .ticking s _

/-- No event inside the part has an effect before the tick runs (R68, R69). -/
theorem exec_inside_of_not_running {c : Instr} {s : State} (h : insideEvent c = true) (hp : s.phase ≠ .running) :
    exec c s = .next s := by
  have hr : (s.phase == .running) = false := by simpa using hp
  cases c
  case tickBoundary | takePoint => exact congrArg _ (if_neg (by simp [hp]))
  case pllcUnlock => exact congrArg _ (if_neg (by simp [hp]))
  all_goals cases h
  all_goals exact State.ticking_of_not_running hp _

/-- No command over the ports has an effect while they do not answer (R69, R479). -/
theorem exec_fromPorts_of_silent {c : Instr} {s : State} (h : fromPorts c = true) (hp : s.ports = false) : exec c s = .next s := by
  cases c
  case urgentRequest rank _ _ _ _ =>
    have hr : rank.val = 1 := of_decide_eq_true h
    exact congrArg _ (if_pos (by simp [hr, hp]))
  case vcoreBoundWrite | windowRead | registerWrite | resultRegisterRead | latchedGroupRead | counterClear | pageLock
      | collate | press | faultAck | logClear | isolateSet | isolateClear | lockAll | watchdogKick | mcHold | mcRun |
      otpProgram | journalMount | journalRead | journalWrite | journalDelete =>
    exact State.heardFrom_of_silent hp (of_decide_eq_true h) _
  all_goals cases h
  all_goals exact State.heard_of_silent hp _

/-! What a step does to the shell: reset, supplies, start-up and the tick change it, no other command does. -/

/-- The commands that change more of the shell than a meaning of `Keeps` may. -/
def movesShell : Instr → Bool
  | .tickBoundary .. | .resetAssert .. | .resetRelease .. | .dieSupplyLoss .. | .pllcLock .. | .railUndervoltage .. | .railRecover .. =>
    true
  | _ => false

/-- Every other command keeps the shell and canonical maps. -/
theorem exec_keeps {c : Instr} {s : State} (h : movesShell c = false) : KeepsO s (exec c s) := by
  cases c with
  | tickBoundary => cases h
  | dataBurstSend => exact execDataBurstSend_keeps (.refl s)
  | controlBurstSend => exact execControlBurstSend_keeps (.refl s)
  | stitchBurstReceive => exact execStitchBurstReceive_keeps (.refl s)
  | burstWindowTimeout => exact execBurstWindowTimeout_keeps (.refl s)
  | retryRequest => exact execRetryRequest_keeps (.refl s)
  | burstReplay => exact execBurstReplay_keeps (.refl s)
  | takePoint => exact execTakePoint_keeps (.refl s)
  | linkTrainingAnswer => exact execLinkTrainingAnswer_keeps (.refl s)
  | lanesTrained => exact execLanesTrained_keeps (.refl s)
  | liveConfigTransferDone => exact execLiveConfigTransferDone_keeps (.refl s)
  | creditSetReceive => exact execCreditSetReceive_keeps (.refl s)
  | eccWriteBack => exact execEccWriteBack_keeps (.refl s)
  | resetAssert => cases h
  | resetRelease => cases h
  | dieSupplyLoss => cases h
  | pllcLock => cases h
  | pllcSearchFail => exact execPllcSearchFail_keeps (.refl s)
  | refQualWindow => exact execRefQualWindow_keeps (.refl s)
  | refLoss => exact execRefLoss_keeps (.refl s)
  | ioscSlewDone => exact execIoscSlewDone_keeps (.refl s)
  | refSwitch => exact execRefSwitch_keeps (.refl s)
  | pllLock => exact execPllLock_keeps (.refl s)
  | refSelChange => exact execRefSelChange_keeps (.refl s)
  | pllUnlock => exact execPllUnlock_keeps (.refl s)
  | pllcUnlock => exact execPllcUnlock_keeps (.refl s)
  | relockM => exact execRelockM_keeps (.refl s)
  | relockP => exact execRelockP_keeps (.refl s)
  | relockN => exact execRelockN_keeps (.refl s)
  | servoSample => exact execServoSample_keeps (.refl s)
  | railUndervoltage => cases h
  | railRecover => cases h
  | pvinOvervoltage => exact execPvinOvervoltage_keeps (.refl s)
  | pvinFullChange => exact execPvinFullChange_keeps (.refl s)
  | pfVioChange => exact execPfVioChange_keeps (.refl s)
  | powerStateRequest => exact execPowerStateRequest_keeps (.refl s)
  | powerStateStepDone => exact execPowerStateStepDone_keeps (.refl s)
  | vloopSample => exact execVloopSample_keeps (.refl s)
  | avsTransactionDone => exact execAvsTransactionDone_keeps (.refl s)
  | vcoreBoundWrite => exact execVcoreBoundWrite_keeps (.refl s)
  | ainModeStepDone => exact execAinModeStepDone_keeps (.refl s)
  | micbOc => exact execMicbOc_keeps (.refl s)
  | modulatorStatus => exact execModulatorStatus_keeps (.refl s)
  | mergeReturn => exact execMergeReturn_keeps (.refl s)
  | matchBlock => exact execMatchBlock_keeps (.refl s)
  | ainRestore => exact execAinRestore_keeps (.refl s)
  | guardRestoreTestEnd => exact execGuardRestoreTestEnd_keeps (.refl s)
  | controlSampleLate => exact execControlSampleLate_keeps (.refl s)
  | comparatorAmbig => exact execComparatorAmbig_keeps (.refl s)
  | peakCapture => exact execPeakCapture_keeps (.refl s)
  | comparatorForceLow => exact execComparatorForceLow_keeps (.refl s)
  | comparatorForceHigh => exact execComparatorForceHigh_keeps (.refl s)
  | comparatorRelease => exact execComparatorRelease_keeps (.refl s)
  | fchBankWrite => exact execFchBankWrite_keeps (.refl s)
  | swapCrossfadeEnd => exact execSwapCrossfadeEnd_keeps (.refl s)
  | controlSwapSwitch => exact execControlSwapSwitch_keeps (.refl s)
  | fchResidue => exact execFchResidue_keeps (.refl s)
  | fchRestore => exact execFchRestore_keeps (.refl s)
  | svcConversion => exact execSvcConversion_keeps (.refl s)
  | checkSlot => exact execCheckSlot_keeps (.refl s)
  | urgentRequest => exact execUrgentRequest_keeps (.refl s)
  | vrefxLoss => exact execVrefxLoss_keeps (.refl s)
  | referenceSettled => exact execReferenceSettled_keeps (.refl s)
  | svcRestore => exact execSvcRestore_keeps (.refl s)
  | sapSenseEnd => exact execSapSenseEnd_keeps (.refl s)
  | sapFrame => exact execSapFrame_keeps (.refl s)
  | sapClockLoss => exact execSapClockLoss_keeps (.refl s)
  | sapTxFrameRequest => exact execSapTxFrameRequest_keeps (.refl s)
  | sapFadeEnd => exact execSapFadeEnd_keeps (.refl s)
  | sapRampEnd => exact execSapRampEnd_keeps (.refl s)
  | sapRestart => exact execSapRestart_keeps (.refl s)
  | pdmWakeEnd => exact execPdmWakeEnd_keeps (.refl s)
  | pdmStuck => exact execPdmStuck_keeps (.refl s)
  | pdmRestart => exact execPdmRestart_keeps (.refl s)
  | spdifFrame => exact execSpdifFrame_keeps (.refl s)
  | spdifClockLoss => exact execSpdifClockLoss_keeps (.refl s)
  | spdifRestart => exact execSpdifRestart_keeps (.refl s)
  | ratioUpdate => exact execRatioUpdate_keeps (.refl s)
  | srcResidue => exact execSrcResidue_keeps (.refl s)
  | spnRestore => exact execSpnRestore_keeps (.refl s)
  | crosspointWrite => exact execCrosspointWrite_keeps (.refl s)
  | glideGo => exact execGlideGo_keeps (.refl s)
  | glideStop => exact execGlideStop_keeps (.refl s)
  | glideDone => exact execGlideDone_keeps (.refl s)
  | busMute => exact execBusMute_keeps (.refl s)
  | busUnmute => exact execBusUnmute_keeps (.refl s)
  | mixResidue => exact execMixResidue_keeps (.refl s)
  | mixRestore => exact execMixRestore_keeps (.refl s)
  | tapDelayWrite => exact execTapDelayWrite_keeps (.refl s)
  | tapGlideEnd => exact execTapGlideEnd_keeps (.refl s)
  | convPrep => exact execConvPrep_keeps (.refl s)
  | granuleReady => exact execGranuleReady_keeps (.refl s)
  | effectPoolWrite => exact execEffectPoolWrite_keeps (.refl s)
  | fxResidue => exact execFxResidue_keeps (.refl s)
  | partitionResidue => exact execPartitionResidue_keeps (.refl s)
  | fxRestore => exact execFxRestore_keeps (.refl s)
  | dacCoreFail => exact execDacCoreFail_keeps (.refl s)
  | coreDisagree => exact execCoreDisagree_keeps (.refl s)
  | outputStageFail => exact execOutputStageFail_keeps (.refl s)
  | outputIlimTrip => exact execOutputIlimTrip_keeps (.refl s)
  | outputDcTrip => exact execOutputDcTrip_keeps (.refl s)
  | outputMute => exact execOutputMute_keeps (.refl s)
  | outputUnmute => exact execOutputUnmute_keeps (.refl s)
  | outputRestore => exact execOutputRestore_keeps (.refl s)
  | outputPresetSwitch => exact execOutputPresetSwitch_keeps (.refl s)
  | jackAmbig => exact execJackAmbig_keeps (.refl s)
  | jackForceRemoved => exact execJackForceRemoved_keeps (.refl s)
  | jackForceInserted => exact execJackForceInserted_keeps (.refl s)
  | jackForceRelease => exact execJackForceRelease_keeps (.refl s)
  | plugWaitEnd => exact execPlugWaitEnd_keeps (.refl s)
  | powerUpRampStep => exact execPowerUpRampStep_keeps (.refl s)
  | powerDownRampStep => exact execPowerDownRampStep_keeps (.refl s)
  | timerArm => exact execTimerArm_keeps (.refl s)
  | timerStop => exact execTimerStop_keeps (.refl s)
  | timerFire => exact execTimerFire_keeps (.refl s)
  | cvIlimTrip => exact execCvIlimTrip_keeps (.refl s)
  | cvVrefFail => exact execCvVrefFail_keeps (.refl s)
  | cvVrefRecover => exact execCvVrefRecover_keeps (.refl s)
  | cvRefHoldEnd => exact execCvRefHoldEnd_keeps (.refl s)
  | cvRestore => exact execCvRestore_keeps (.refl s)
  | spkStart => exact execSpkStart_keeps (.refl s)
  | spkPrecheckDone => exact execSpkPrecheckDone_keeps (.refl s)
  | spkIdentDone => exact execSpkIdentDone_keeps (.refl s)
  | spkStartDone => exact execSpkStartDone_keeps (.refl s)
  | spkShutdown => exact execSpkShutdown_keeps (.refl s)
  | spkRetry => exact execSpkRetry_keeps (.refl s)
  | spkRetryCountReset => exact execSpkRetryCountReset_keeps (.refl s)
  | spkClear => exact execSpkClear_keeps (.refl s)
  | loadModelUpdate => exact execLoadModelUpdate_keeps (.refl s)
  | spkThermal => exact execSpkThermal_keeps (.refl s)
  | spkThermalReturn => exact execSpkThermalReturn_keeps (.refl s)
  | spkSenseFail => exact execSpkSenseFail_keeps (.refl s)
  | spkStageFail => exact execSpkStageFail_keeps (.refl s)
  | spkDcTrip => exact execSpkDcTrip_keeps (.refl s)
  | spkMute => exact execSpkMute_keeps (.refl s)
  | spkUnmute => exact execSpkUnmute_keeps (.refl s)
  | spkRestore => exact execSpkRestore_keeps (.refl s)
  | clockMute => exact execClockMute_keeps (.refl s)
  | clockMuteRelease => exact execClockMuteRelease_keeps (.refl s)
  | boostControlCycle => exact execBoostControlCycle_keeps (.refl s)
  | boostBypassEntry => exact execBoostBypassEntry_keeps (.refl s)
  | phaseShed => exact execPhaseShed_keeps (.refl s)
  | boostStart => exact execBoostStart_keeps (.refl s)
  | boostPrechargeDone => exact execBoostPrechargeDone_keeps (.refl s)
  | boostPhaseFail => exact execBoostPhaseFail_keeps (.refl s)
  | boostRailFault => exact execBoostRailFault_keeps (.refl s)
  | boostThermal => exact execBoostThermal_keeps (.refl s)
  | boostThermalReturn => exact execBoostThermalReturn_keeps (.refl s)
  | boostRestore => exact execBoostRestore_keeps (.refl s)
  | cellRequest => exact execCellRequest_keeps (.refl s)
  | cellGrant => exact execCellGrant_keeps (.refl s)
  | signatureClose => exact execSignatureClose_keeps (.refl s)
  | queueRead => exact execQueueRead_keeps (.refl s)
  | queueFlush => exact execQueueFlush_keeps (.refl s)
  | bookmarkSet => exact execBookmarkSet_keeps (.refl s)
  | bookmarkRewind => exact execBookmarkRewind_keeps (.refl s)
  | bookmarkRelease => exact execBookmarkRelease_keeps (.refl s)
  | bookmarkClear => exact execBookmarkClear_keeps (.refl s)
  | qmgSweepDone => exact execQmgSweepDone_keeps (.refl s)
  | windowWrite => exact execWindowWrite_keeps (.refl s)
  | windowClose => exact execWindowClose_keeps (.refl s)
  | windowAbort => exact execWindowAbort_keeps (.refl s)
  | windowRead => exact execWindowRead_keeps (.refl s)
  | windowSkip => exact execWindowSkip_keeps (.refl s)
  | ethFrameReceive => exact execEthFrameReceive_keeps (.refl s)
  | rxWaitExpire => exact execRxWaitExpire_keeps (.refl s)
  | learnEventApply => exact execLearnEventApply_keeps (.refl s)
  | egressFrameStart => exact execEgressFrameStart_keeps (.refl s)
  | expressPreempt => exact execExpressPreempt_keeps (.refl s)
  | preemptHold => exact execPreemptHold_keeps (.refl s)
  | verifyTimer => exact execVerifyTimer_keeps (.refl s)
  | ethLinkUp => exact execEthLinkUp_keeps (.refl s)
  | ethLinkDown => exact execEthLinkDown_keeps (.refl s)
  | t1sCollision => exact execT1sCollision_keeps (.refl s)
  | t1sBackoffEnd => exact execT1sBackoffEnd_keeps (.refl s)
  | t1sJabber => exact execT1sJabber_keeps (.refl s)
  | t1sJabberEnd => exact execT1sJabberEnd_keeps (.refl s)
  | bridgeAgeingScan => exact execBridgeAgeingScan_keeps (.refl s)
  | tableLookup => exact execTableLookup_keeps (.refl s)
  | tableAddStatic => exact execTableAddStatic_keeps (.refl s)
  | tableDelete => exact execTableDelete_keeps (.refl s)
  | tableFlushPort => exact execTableFlushPort_keeps (.refl s)
  | tableFlushAll => exact execTableFlushAll_keeps (.refl s)
  | timeCommit => exact execTimeCommit_keeps (.refl s)
  | timeMapApply => exact execTimeMapApply_keeps (.refl s)
  | gptpStale => exact execGptpStale_keeps (.refl s)
  | domainTickUpdate => exact execDomainTickUpdate_keeps (.refl s)
  | zklFrameLink => exact execZklFrameLink_keeps (.refl s)
  | zklFrameJudge => exact execZklFrameJudge_keeps (.refl s)
  | timeConvert => exact execTimeConvert_keeps (.refl s)
  | timeConvertResult => exact execTimeConvertResult_keeps (.refl s)
  | calendarSecond => exact execCalendarSecond_keeps (.refl s)
  | leapSecond => exact execLeapSecond_keeps (.refl s)
  | registerWrite => exact execRegisterWrite_keeps (.refl s)
  | resultRegisterRead => exact execResultRegisterRead_keeps (.refl s)
  | latchedGroupRead => exact execLatchedGroupRead_keeps (.refl s)
  | counterClear => exact execCounterClear_keeps (.refl s)
  | interruptTest => exact execInterruptTest_keeps (.refl s)
  | w1cClear => exact execW1cClear_keeps (.refl s)
  | pageLock => exact execPageLock_keeps (.refl s)
  | hpbStrobeConflict => exact execHpbStrobeConflict_keeps (.refl s)
  | qsBadcmd => exact execQsBadcmd_keeps (.refl s)
  | qsPart => exact execQsPart_keeps (.refl s)
  | i2ctPart => exact execI2ctPart_keeps (.refl s)
  | mboxSend => exact execMboxSend_keeps (.refl s)
  | mboxTake => exact execMboxTake_keeps (.refl s)
  | mboxPost => exact execMboxPost_keeps (.refl s)
  | mboxAck => exact execMboxAck_keeps (.refl s)
  | collate => exact execCollate_keeps (.refl s)
  | press => exact execPress_keeps (.refl s)
  | withdraw => exact execWithdraw_keeps (.refl s)
  | revert => exact execRevert_keeps (.refl s)
  | collationDone => exact execCollationDone_keeps (.refl s)
  | pressAnnounce => exact execPressAnnounce_keeps (.refl s)
  | pressCommitPoint => exact execPressCommitPoint_keeps (.refl s)
  | pressApply => exact execPressApply_keeps (.refl s)
  | deferredApply => exact execDeferredApply_keeps (.refl s)
  | fltLockstepMismatch => exact execFltLockstepMismatch_keeps (.refl s)
  | logRecordSend => exact execLogRecordSend_keeps (.refl s)
  | faultAck => exact execFaultAck_keeps (.refl s)
  | logClear => exact execLogClear_keeps (.refl s)
  | isolateSet => exact execIsolateSet_keeps (.refl s)
  | isolateClear => exact execIsolateClear_keeps (.refl s)
  | isolationAutoReturn => exact execIsolationAutoReturn_keeps (.refl s)
  | lockAll => exact execLockAll_keeps (.refl s)
  | watchdogKick => exact execWatchdogKick_keeps (.refl s)
  | watchdogExpire => exact execWatchdogExpire_keeps (.refl s)
  | mcResetRelease => exact execMcResetRelease_keeps (.refl s)
  | mcHold => exact execMcHold_keeps (.refl s)
  | mcRun => exact execMcRun_keeps (.refl s)
  | viewMismatch => exact execViewMismatch_keeps (.refl s)
  | otpProgram => exact execOtpProgram_keeps (.refl s)
  | otpProgramDone => exact execOtpProgramDone_keeps (.refl s)
  | journalMount => exact execJournalMount_keeps (.refl s)
  | journalRead => exact execJournalRead_keeps (.refl s)
  | journalWrite => exact execJournalWrite_keeps (.refl s)
  | journalDelete => exact execJournalDelete_keeps (.refl s)
  | journalOpDone => exact execJournalOpDone_keeps (.refl s)
  | journalWriteShort => exact execJournalWriteShort_keeps (.refl s)
  | flashTimeout => exact execFlashTimeout_keeps (.refl s)
  | bootStart => exact execBootStart_keeps (.refl s)
  | bootImageCheck => exact execBootImageCheck_keeps (.refl s)
  | hloadStart => exact execHloadStart_keeps (.refl s)
  | hloadData => exact execHloadData_keeps (.refl s)
  | hloadGo => exact execHloadGo_keeps (.refl s)
  | i2cTransaction => exact execI2cTransaction_keeps (.refl s)
  | i2cTransactionDone => exact execI2cTransactionDone_keeps (.refl s)
  | i2cArbLost => exact execI2cArbLost_keeps (.refl s)
  | i2cTimeout => exact execI2cTimeout_keeps (.refl s)
  | i2cBusClear => exact execI2cBusClear_keeps (.refl s)
  | i2cEnable => exact execI2cEnable_keeps (.refl s)
  | gpioEdge => exact execGpioEdge_keeps (.refl s)
  | gpioSet => exact execGpioSet_keeps (.refl s)
  | gpioClr => exact execGpioClr_keeps (.refl s)
  | jtagBypass => exact execJtagBypass_keeps (.refl s)
  | jtagIdcode => exact execJtagIdcode_keeps (.refl s)
  | jtagSamplePreload => exact execJtagSamplePreload_keeps (.refl s)
  | jtagExtest => exact execJtagExtest_keeps (.refl s)
  | jtagClamp => exact execJtagClamp_keeps (.refl s)
  | jtagHighz => exact execJtagHighz_keeps (.refl s)
  | limitedCycle => exact execLimitedCycle_keeps (.refl s)
  | pvinOvRecover => exact execPvinOvRecover_keeps (.refl s)
  | nrefLoss => exact execNrefLoss_keeps (.refl s)
  | egressFrameEnd => exact execEgressFrameEnd_keeps (.refl s)
  | mcReady => exact execMcReady_keeps (.refl s)
  | i2cBusClearDone => exact execI2cBusClearDone_keeps (.refl s)
  | i2cOtherStop => exact execI2cOtherStop_keeps (.refl s)

/-- A meaning of `Keeps` leaves the queue. -/
theorem Keeps.pending {s t : State} (k : Keeps s t) : t.pending = s.pending := k.parts.2.2.2.2.2.2

/-! The commands that change the shell leave the queue. -/

theorem resetAll_pending (stage : Nat) (s : State) : (resetAll stage s).pending = s.pending :=
  congrArg Shell.pending (resetAll_shell stage s)

theorem resetLeave_pending (por : PorIn) (s : State) : (resetLeave por s).pending = s.pending :=
  congrArg Shell.pending (resetLeave_shell por s)

theorem tickPorts_pending (s : State) : (tickPorts s).pending = s.pending := congrArg Shell.pending (tickPorts_shell s)

theorem tickStart_pending (w : TickIn) (s : State) : (tickStart w s).pending = s.pending := by
  unfold tickStart
  exact (fltTick_keeps (.refl _)).pending.trans ((tickPorts_pending _).trans (tickWork_keeps (.refl s)).pending)

theorem execTickBoundary_pending {w : TickIn} {s t : State} (e : execTickBoundary w s = .next t) : t.pending = s.pending := by
  unfold execTickBoundary at e
  injection e with e
  rw [← e]
  unfold State.when
  split
  · have k : Keeps s (tickPromote (linkTick (tickFinish w s))) := tickPromote_keeps (linkTick_keeps (tickFinish_keeps (.refl s)))
    dsimp only
    generalize tickPromote (linkTick (tickFinish w s)) = u at k ⊢
    exact (tickStart_pending w _).trans ((tickMisses_keeps (.refl _)).pending.trans k.pending)
  · rfl

/-- A rail's fall is a reset of the whole part, and the cause of it in the registers. -/
theorem railReset_keeps {bit cause : Nat} {cold : Bool} {stage : Nat} {s : State} :
    Keeps (resetAll stage { s with railsDown := s.railsDown ||| 2 ^ bit }) (railReset bit cause cold stage s) := by
  unfold railReset
  dsimp only
  exact .ite (State.setWord_keeps (State.setFld_keeps (.refl _))).data (causeSet_keeps (Keeps.refl _).data)

theorem execPllcLock_pending {band : Fin 64} {after : Nat} {s t : State} (e : execPllcLock band after s = .next t) :
    t.pending = s.pending := by
  injection e with e
  rw [← e, State.when]
  split
  · exact (pvinOk_keeps (.refl _)).pending.trans (pllcShow_keeps (.refl s)).pending
  · rfl

theorem execRailUndervoltage_pending {rail : Rail} {cold : Bool} {stage : Fin 5} {s t : State}
    (e : execRailUndervoltage rail cold stage s = .next t) : t.pending = s.pending := by
  injection e with e
  rw [← e]
  cases rail with
  | vcore | vddio | vdda => exact railReset_keeps.pending.trans (resetAll_pending _ _)
  | vser => exact (Keeps.when (fun _ h1 => vserDown_keeps h1) (.refl _)).pending
  | vah => exact (vahLost_keeps (.refl s)).pending
  | pvin => exact (pvinLost_keeps (.refl s)).pending

theorem execRailRecover_pending {rail : Rail} {por : PorIn} {s t : State} (e : execRailRecover rail por s = .next t) :
    t.pending = s.pending := by
  injection e with e
  rw [← e]
  cases rail with
  | vcore | vddio | vdda => exact resetLeave_pending por _
  | vser => exact (State.setFld_pending _ _ _).trans (resetLeave_pending por _)
  | vah => exact (vahBack_keeps (.refl s)).pending
  | pvin => exact (Keeps.when (fun _ h1 => pvinOk_keeps h1) (Keeps.refl s).data).pending

theorem execDieSupplyLoss_pending {die : Fin 3} {stage : Fin 5} {s t : State} (e : execDieSupplyLoss die stage s = .next t) :
    t.pending = s.pending := by
  injection e with e
  rw [← e]
  split
  · exact resetAll_pending _ _
  split
  · exact (convUnpowered_keeps (.refl _)).pending
  · exact (powerUnpowered_keeps (.refl _)).pending

/-- Every command leaves the commands that wait. -/
theorem exec_pending {c : Instr} {s t : State} (e : exec c s = .next t) : t.pending = s.pending := by
  by_cases hm : movesShell c = true
  · cases c
    case tickBoundary => exact execTickBoundary_pending e
    case resetAssert stage =>
      injection e with e
      rw [← e]
      exact resetAll_pending _ s
    case resetRelease por =>
      injection e with e
      exact e ▸ resetLeave_pending por _
    case dieSupplyLoss => exact execDieSupplyLoss_pending e
    case pllcLock => exact execPllcLock_pending e
    case railUndervoltage => exact execRailUndervoltage_pending e
    case railRecover => exact execRailRecover_pending e
    all_goals cases hm
  · exact ((exec_keeps (by simpa using hm)).out t e).pending

/-! The commands that change the shell keep the invariant. -/

/-- A part in reset meets the invariant: its other clauses speak of a part outside reset. -/
theorem State.Inv.of_held {s : State} (c : s.Canonical) (hp : s.phase = .held) (ht : s.tick = 0) (ho : s.ports = false) : s.Inv :=
  ⟨c, fun h => absurd hp h, fun h => absurd hp h, fun h => absurd hp h, fun _ => ht, fun h => by simp [ho] at h⟩

theorem execResetAssert_inv {stage : Fin 5} {s t : State} (h : s.Inv) (e : execResetAssert stage s = .next t) : t.Inv := by
  injection e with e
  have k : Keeps (resetAll stage.val s) (causeSet 1 (resetAll stage.val s)) := causeSet_keeps (.refl _)
  have c := k.canonical (resetAll_canonical h.canonical)
  have f := k.shell.trans (resetAll_shell stage.val s)
  simp only [State.shell, Shell.mk.injEq] at f
  obtain ⟨hp, _, _, _, ho, ht, _⟩ := f
  exact e ▸ .of_held { c with } hp ht ho

/-- Leaving reset keeps the invariant: it needs RESET_N high and no rail down (R88). -/
theorem resetLeave_inv {por : PorIn} {s : State} (h : s.Inv) (hs : s.supplied % 2 = 1) : (resetLeave por s).Inv := by
  have e := resetLeave_shell por s
  simp only [State.shell, Shell.mk.injEq] at e
  obtain ⟨hp, hsup, hlow, hrails, ho, ht, -⟩ := e
  by_cases hc : s.resetLow ∨ s.railsDown ≠ 0 ∨ s.phase ≠ .held
  · rw [if_pos hc] at hp
    exact ⟨resetLeave_canonical h.canonical, by rw [hp, hlow]; exact h.low, by rw [hp, hrails]; exact h.rails, by
      rw [hp, hsup]; exact h.supplied, by rw [hp, ht]; exact h.time, by rw [hp, ho]; exact h.ports⟩
  · rw [if_neg hc] at hp
    simp only [not_or, Bool.not_eq_true, ne_eq, Decidable.not_not] at hc
    obtain ⟨hl, hr, hh⟩ := hc
    exact ⟨resetLeave_canonical h.canonical, fun _ => hlow.trans hl, fun _ => by rw [hrails, hr]; rfl, fun _ => hsup ▸ hs,
      fun _ => ht.trans (h.time (by simp [hh])), fun x => by simpa [hh] using h.ports (ho ▸ x)⟩

theorem execResetRelease_inv {por : PorIn} {s t : State} (h : s.Inv) (e : execResetRelease por s = .next t) : t.Inv := by
  injection e with e
  have i : State.Inv { s with resetLow := false, supplied := 7 } :=
    ⟨{ h.canonical with }, fun _ => rfl, h.rails, fun _ => show 7 % 2 = 1 from rfl, h.time, h.ports⟩
  rw [← e]
  exact resetLeave_inv i (show 7 % 2 = 1 from rfl)

/-- Only the loss of die 0, the core die, clears bit 0 of the supplies. -/
theorem supplied_odd_of_loss {n d : Nat} (h : n % 2 = 1) (hd : d = 1 ∨ d = 2) : (n &&& (7 - 2 ^ d)) % 2 = 1 := by
  have hb : (n &&& (7 - 2 ^ d)) % 2 = n % 2 &&& (7 - 2 ^ d) % 2 := Nat.and_mod_two_pow (n := 1)
  rw [hb, h]
  obtain rfl | rfl := hd <;> rfl

theorem execDieSupplyLoss_inv {die : Fin 3} {stage : Fin 5} {s t : State} (h : s.Inv)
    (e : execDieSupplyLoss die stage s = .next t) : t.Inv := by
  injection e with e
  have c : State.Canonical { s with supplied := s.supplied &&& (7 - 2 ^ die.val) } := { h.canonical with }
  rw [← e]
  split
  · exact resetAll_inv c
  · next h0 =>
    have i : State.Inv { s with supplied := s.supplied &&& (7 - 2 ^ die.val) } :=
      ⟨c, h.low, h.rails, fun hn => supplied_odd_of_loss (h.supplied hn) (by omega), h.time, h.ports⟩
    split
    · exact i.of_keeps (convUnpowered_keeps (.refl _))
    · exact i.of_keeps (powerUnpowered_keeps (.refl _))

theorem execPllcLock_inv {band : Fin 64} {after : Nat} {s t : State} (h : s.Inv) (e : execPllcLock band after s = .next t) :
    t.Inv := by
  injection e with e
  rw [← e, State.when]
  split
  · next hs =>
    have hn : s.phase ≠ .held := by rw [beq_iff_eq.mp hs]; simp
    have k := pllcShow_keeps (band := band.val) (Keeps.refl s)
    have c := k.canonical h.canonical
    obtain ⟨-, e2, e3, e4, -, -, -⟩ := k.parts
    have i (clk : ClkSt) (nvm : NvmSt) :
        State.Inv { pllcShow band.val s with phase := .running, tick := 0, cyc := 0, clk := clk, nvm := nvm } :=
      ⟨{ c with }, fun _ => e3.trans (h.low hn), fun _ => e4 ▸ h.rails hn, fun _ => e2 ▸ h.supplied hn, fun x => absurd rfl x, fun _ => rfl⟩
    exact (i _ _).of_keeps (pvinOk_keeps (.refl _))
  · exact h

theorem railReset_inv {bit cause : Nat} {cold : Bool} {stage : Nat} {s : State} (h : s.Inv) :
    (railReset bit cause cold stage s).Inv := by
  have i : (resetAll stage { s with railsDown := s.railsDown ||| 2 ^ bit }).Inv := resetAll_inv { h.canonical with }
  exact i.of_keeps railReset_keeps

/-- VSER is no rail that holds the part in reset (R88). -/
theorem and_reset_rails_or_vser (n : Nat) : (n ||| 2) &&& 13 = n &&& 13 := by
  rw [Nat.and_or_distrib_right]
  exact Nat.or_zero _

theorem vserLost_inv {s : State} (h : s.Inv) : (vserLost s).Inv := by
  have i : State.Inv { s with railsDown := s.railsDown ||| 2 } :=
    ⟨{ h.canonical with }, h.low, fun hn => (and_reset_rails_or_vser _).trans (h.rails hn), h.supplied, h.time, h.ports⟩
  exact i.of_keeps (.when (fun _ h1 => vserDown_keeps h1) (.refl _))

theorem execRailUndervoltage_inv {rail : Rail} {cold : Bool} {stage : Fin 5} {s t : State} (h : s.Inv)
    (e : execRailUndervoltage rail cold stage s = .next t) : t.Inv := by
  injection e with e
  rw [← e]
  cases rail with
  | vcore | vddio | vdda => exact railReset_inv h
  | vser => exact vserLost_inv h
  | vah => exact h.of_keeps (vahLost_keeps (.refl s))
  | pvin => exact h.of_keeps (pvinLost_keeps (.refl s))

/-- A rail that is up again leaves the other rails as they were. -/
theorem and_reset_rails_and {n : Nat} (m : Nat) (h : n &&& 13 = 0) : n &&& m &&& 13 = 0 := by
  rw [Nat.and_assoc, Nat.and_comm m, ← Nat.and_assoc, h, Nat.zero_and]

theorem railUp_inv {bit : Nat} {por : PorIn} {s : State} (h : s.Inv) : (railUp bit por s).Inv := by
  have i : State.Inv { s with railsDown := s.railsDown &&& (15 - 2 ^ bit), supplied := 7 } :=
    ⟨{ h.canonical with }, h.low, fun hn => and_reset_rails_and _ (h.rails hn), fun _ => show 7 % 2 = 1 from rfl, h.time, h.ports⟩
  exact resetLeave_inv i (show 7 % 2 = 1 from rfl)

theorem execRailRecover_inv {rail : Rail} {por : PorIn} {s t : State} (h : s.Inv) (e : execRailRecover rail por s = .next t) :
    t.Inv := by
  injection e with e
  rw [← e]
  cases rail with
  | vcore | vddio | vdda => exact railUp_inv h
  | vser => exact (railUp_inv h).of_keeps (State.setFld_keeps (.refl _))
  | vah => exact h.of_keeps (vahBack_keeps (.refl s))
  | pvin => exact h.of_keeps (.when (fun _ h1 => pvinOk_keeps h1) (Keeps.refl s).data)

/-- Every command keeps the invariant. -/
theorem exec_inv {c : Instr} {s t : State} (h : s.Inv) (e : exec c s = .next t) : t.Inv := by
  by_cases hm : movesShell c = true
  · cases c
    case tickBoundary => exact (tickBoundary_inv h e).1
    case resetAssert => exact execResetAssert_inv h e
    case resetRelease => exact execResetRelease_inv h e
    case dieSupplyLoss => exact execDieSupplyLoss_inv h e
    case pllcLock => exact execPllcLock_inv h e
    case railUndervoltage => exact execRailUndervoltage_inv h e
    case railRecover => exact execRailRecover_inv h e
    all_goals cases hm
  · exact h.of_keeps ((exec_keeps (by simpa using hm)).out t e)

/-- A step of a part with a command waiting. -/
theorem step_of_pending {s : State} {c : Instr} {rest : List Instr} (h : s.pending = c :: rest) :
    step s = exec c { s with pending := rest } := by rw [step, h]

/-- A step of a part with nothing waiting. -/
theorem step_of_idle {s : State} (h : s.pending = []) : step s = .next s := by rw [step, h]

/-- The registers stand at their reset values after reset, PWR_RST_CAUSE apart. -/
theorem State.word_reset {a : Nat} (h : a ≠ Adr.PWR_RST_CAUSE) : State.reset.word a = resetWord a := if_neg (Ne.symm h)

/-- The header of a page in use, word by word (R497). -/
theorem rowOf_header {p o : Nat} (hp : pageInUse p = true) (ho : o < 0x028) :
    rowOf (p * 4096 + o) = headerRows.find? (fun r => r.base == o) := by
  have h1 : (p * 4096 + o) >>> 12 = p := by rw [Nat.shiftRight_eq_div_pow]; omega
  have h2 : (p * 4096 + o) % 0x1000 = o := by omega
  simp only [rowOf, inHeader, h1, h2, hp, Bool.true_and, decide_eq_true ho, if_true]

end Sys2Proof.Machine

namespace Sys2Proof

open Machine

/-- Settles O4: no command but reset, supplies, start-up and the tick touches the shell; those seven are followed one by one
(R68, R88, R479, R575). -/
theorem stepKeepsInvariant : Obligations.StepKeepsInvariant := by
  intro s t h e
  cases hq : s.pending with
  | nil =>
    rw [step_of_idle hq] at e
    injection e with e
    exact e ▸ h
  | cons c rest =>
    rw [step_of_pending hq] at e
    have i : State.Inv { s with pending := rest } := ⟨{ h.canonical with }, h.low, h.rails, h.supplied, h.time, h.ports⟩
    exact exec_inv i e

/-- Settles O2: each command answers, and none touches the queue (R485). -/
theorem commandsCompleteInOrder : Obligations.CommandsCompleteInOrder := by
  intro s c rest hq
  obtain ⟨t, e⟩ := exec_answers c { s with pending := rest }
  exact ⟨t, (step_of_pending hq).trans e, exec_pending e⟩

/-- Settles O5: each of these commands goes through the gate of the ports, which is shut (R69, R479). -/
theorem silentPortsDoNothing : Obligations.SilentPortsDoNothing :=
  fun _ s hc hp => ⟨s, exec_fromPorts_of_silent hc hp, rfl⟩

/-- Settles O6: each of these commands goes through the gate of the tick, which is shut (R68, R69). -/
theorem noEventBeforeTheTick : Obligations.NoEventBeforeTheTick :=
  fun _ s hc hp => ⟨s, exec_inside_of_not_running hc hp, rfl⟩

/-- Settles O1: a step is the front command on the rest of the queue; an empty queue idles. -/
theorem stepTakesTheFrontCommand : Obligations.StepTakesTheFrontCommand :=
  ⟨fun _ _ _ => step_of_pending rfl, fun _ => step_of_idle⟩

end Sys2Proof

/-!
The part after reset: its invariant and the reset values the spec states (R27, R69, R479, R496, R497, R500, R551, R576).
-/

namespace Sys2Proof.Machine

/-- PG_ID holds the page's revision, number and block code (R27, R497). -/
theorem resetWord_pgId {p : Nat} (hp : pageInUse p = true) : resetWord (p * 4096) = pgIdWord p := by
  have h1 : (p * 4096) >>> 12 = p := by rw [Nat.shiftRight_eq_div_pow]; omega
  simp [resetWord, inHeader, h1, hp]

/-- The other header words of a page come from the rows of R497. -/
theorem resetWord_header {p o : Nat} {r : RegRow} (hp : pageInUse p = true) (h0 : 0 < o) (ho : o < 0x028)
    (hr : headerRows.find? (fun r => r.base == o) = some r) : resetWord (p * 4096 + o) = r.resetWord := by
  have h1 : (p * 4096 + o) % 0x1000 = o := by omega
  have h2 : ¬ (p * 4096 + o = 0x110040) ∧ ¬ (p * 4096 + o = 0x110044) := by omega
  simp [resetWord, h1, h2.1, h2.2, Nat.ne_of_gt h0, rowOf_header hp ho, hr]

/-- Each PG_ID shows revision 1 and the block code of its page. -/
theorem pgIdWord_fields {p : Nat} (h : p < 290) : (pgIdWord p).bits 23 16 = 1 ∧ (pgIdWord p).bits 5 0 = blockCode p := by
  have hi : pageInstance p < 32 := by
    unfold pageInstance
    split
    · omega
    · split <;> omega
  have hb : blockCode p < 64 := by
    unfold blockCode
    split
    · omega
    · split <;> omega
  simp only [pgIdWord, Word.bits, BitVec.toNat_ofNat, Nat.shiftRight_eq_div_pow]
  omega

/-- A header word after reset. -/
theorem State.word_reset_header {p o : Nat} {r : RegRow} (hp : pageInUse p = true) (h0 : 0 < o) (ho : o < 0x028)
    (hr : headerRows.find? (fun r => r.base == o) = some r) : State.reset.word (p * 4096 + o) = r.resetWord :=
  (State.word_reset (by unfold Adr.PWR_RST_CAUSE; omega)).trans (resetWord_header hp h0 ho hr)

/-- The only word that differs from its reset value after reset is PWR_RST_CAUSE. -/
theorem State.reset_canonical : State.reset.Canonical where
  regs := by decide
  shadow := rfl
  shadowMc := rfl
  image := rfl
  imageMc := rfl
  fresh := rfl
  latch := rfl
  readData := rfl
  portAddr := rfl
  spine := rfl
  next := rfl
  sap := rfl
  out := rfl
  i2c := rfl

end Sys2Proof.Machine

namespace Sys2Proof

open Machine

/-- Settles O3: the part is held in reset, its maps are empty but for one register. -/
theorem resetMeetsInvariant : Obligations.ResetMeetsInvariant := .of_held State.reset_canonical rfl rfl rfl

/-- Settles O14: the identification registers from the table, each page's header from the rows of R497. -/
theorem resetValues : Obligations.ResetValues := by
  refine ⟨by decide, by decide, by decide, by decide, rfl, rfl, rfl, fun p hp => ?_⟩
  have hid : State.reset.word (p.val * 4096) = pgIdWord p :=
    (State.word_reset (by unfold Adr.PWR_RST_CAUSE; omega)).trans (resetWord_pgId hp)
  refine ⟨?_, ?_, ?_, ?_⟩
  · exact (congrArg (Word.bits · 23 16) hid).trans (pgIdWord_fields p.isLt).1
  · exact (congrArg (Word.bits · 5 0) hid).trans (pgIdWord_fields p.isLt).2
  · exact congrArg (Word.bits · 6 4) (State.word_reset_header (o := 0x004) hp (by decide) (by decide) rfl)
  · exact congrArg (Word.bits · 0 0) (State.word_reset_header (o := 0x01C) hp (by decide) (by decide) rfl)

end Sys2Proof

/-!
The shared arithmetic of R29 and R30: rounding to nearest even, saturation and its tag.
-/

namespace Sys2Proof

/-- Rounding answers the quotient below or the one above, whichever is nearer, the even one of two equally near. -/
theorem roundEven_cases (x : Int) (n : Nat) :
    (2 * (x % 2 ^ n) ≤ 2 ^ n ∧ (2 * (x % 2 ^ n) = 2 ^ n → x / 2 ^ n % 2 = 0) ∧ roundEven x n = x / 2 ^ n) ∨
    (2 ^ n ≤ 2 * (x % 2 ^ n) ∧ (2 * (x % 2 ^ n) = 2 ^ n → x / 2 ^ n % 2 = 1) ∧ roundEven x n = x / 2 ^ n + 1) := by
  simp only [roundEven]
  generalize (2 : Int) ^ n = d
  split
  · omega
  · split
    · omega
    · split <;> omega

/-- A rounded number is at most half a unit off, and even where it is half a unit off (R30). -/
theorem roundEven_nearest (x : Int) (n : Nat) : (2 * (x - roundEven x n * 2 ^ n)).natAbs ≤ 2 ^ n ∧
    ((2 * (x - roundEven x n * 2 ^ n)).natAbs = 2 ^ n → roundEven x n % 2 = 0) := by
  have hd : ((2 ^ n : Nat) : Int) = (2 : Int) ^ n := by push_cast; rfl
  have hx : 2 ^ n * (x / 2 ^ n) + x % 2 ^ n = x := Int.mul_ediv_add_emod x (2 ^ n)
  have hp : (0 : Int) < 2 ^ n := Int.pow_pos (by decide)
  have h0 : 0 ≤ x % (2 : Int) ^ n := Int.emod_nonneg _ (by omega)
  have h1 : x % (2 : Int) ^ n < 2 ^ n := Int.emod_lt_of_pos _ hp
  obtain ⟨hr, he, e⟩ | ⟨hr, he, e⟩ := roundEven_cases x n
  · have hk : x - roundEven x n * 2 ^ n = x % 2 ^ n := by rw [e, Int.mul_comm]; omega
    rw [hk, e]
    generalize x % (2 : Int) ^ n = r at *
    generalize (2 : Int) ^ n = d at *
    omega
  · have hk : x - roundEven x n * 2 ^ n = x % 2 ^ n - 2 ^ n := by
      rw [e, Int.add_mul, Int.one_mul, Int.mul_comm]; omega
    rw [hk, e]
    generalize x % (2 : Int) ^ n = r at *
    generalize (2 : Int) ^ n = d at *
    omega

/-- A number of `n` bits comes back from its two's-complement form. -/
theorem signed_unsigned {n : Nat} {v : Int} (h0 : -(2 ^ n) ≤ 2 * v) (h1 : 2 * v < 2 ^ n) : signed n (unsigned n v) = v := by
  have hd : ((2 ^ n : Nat) : Int) = (2 : Int) ^ n := by push_cast; rfl
  have hp : (0 : Int) < 2 ^ n := Int.pow_pos (by decide)
  have hm : ((v % 2 ^ n).toNat : Int) = v % 2 ^ n := Int.toNat_of_nonneg (Int.emod_nonneg _ (Int.ne_of_gt hp))
  have hu : unsigned n v < 2 ^ n := by
    have : v % 2 ^ n < 2 ^ n := Int.emod_lt_of_pos _ hp
    unfold unsigned
    omega
  simp only [signed, Nat.mod_eq_of_lt hu]
  unfold unsigned at hu ⊢
  have hv : v % 2 ^ n = v ∨ v % 2 ^ n = v + 2 ^ n := by
    by_cases hs : 0 ≤ v
    · exact .inl (Int.emod_eq_of_lt hs (by omega))
    · exact .inr (by rw [← Int.add_emod_right, Int.emod_eq_of_lt (by omega) (by omega)])
  split <;> omega

/-- A clamped number lies in the range it is clamped to. -/
theorem clampInt_mem {lo hi : Int} (h : lo ≤ hi) (v : Int) : lo ≤ clampInt lo hi v ∧ clampInt lo hi v ≤ hi := by
  unfold clampInt
  omega

end Sys2Proof

namespace Sys2Proof.Machine

/-- The word of a 28-bit value above a tag. -/
theorem bits_valueTag {c t : Nat} (hc : c < 2 ^ 28) (ht : t < 16) :
    Word.bits (BitVec.ofNat 32 (c * 16 + t)) 31 4 = c ∧ Word.bits (BitVec.ofNat 32 (c * 16 + t)) 3 0 = t := by
  simp only [Word.bits, BitVec.toNat_ofNat, Nat.shiftRight_eq_div_pow]
  omega

/-- A sample holds its value, saturated, and its tag, with T_CLP where it saturated (R30). -/
theorem sval_stag_sample {v : Int} {tag : Nat} (h : tag < 16) : sval (sample v tag) = clampInt (-(2 ^ 27)) (2 ^ 27 - 1) v ∧
    stag (sample v tag) = if clampInt (-(2 ^ 27)) (2 ^ 27 - 1) v = v then tag else tag ||| tCLP := by
  obtain ⟨h0, h1⟩ := clampInt_mem (lo := -(2 ^ 27)) (hi := 2 ^ 27 - 1) (by omega) v
  have hu : unsigned 28 (clampInt (-(2 ^ 27)) (2 ^ 27 - 1) v) < 2 ^ 28 := by
    have := Int.emod_lt_of_pos (clampInt (-(2 ^ 27)) (2 ^ 27 - 1) v) (show (0 : Int) < 2 ^ 28 by omega)
    unfold unsigned
    omega
  have ht : (if clampInt (-(2 ^ 27)) (2 ^ 27 - 1) v = v then tag else tag ||| tCLP) < 16 := by
    split
    · exact h
    · exact Nat.or_lt_two_pow (n := 4) h (by decide)
  obtain ⟨e1, e2⟩ := bits_valueTag hu ht
  simp only [sval, stag, sample, Nat.mod_eq_of_lt ht, e1, e2]
  exact ⟨signed_unsigned (by omega) (by omega), trivial⟩

theorem stag_lt (w : Word) : stag w < 16 := Word.bits_lt w 3 0

end Sys2Proof.Machine

namespace Sys2Proof

open Machine

/-- Settles O13: rounding by its two cases, a sample as value above tag, a weighted sample as the sample of the rounded product. -/
theorem roundsToEvenAndSaturates : Obligations.RoundsToEvenAndSaturates := by
  refine ⟨roundEven_nearest, fun v tag h => sval_stag_sample h, fun k w => (sval_stag_sample (stag_lt w)).1, fun k w => ?_⟩
  rw [weigh, (sval_stag_sample (stag_lt w)).1, (sval_stag_sample (stag_lt w)).2]

end Sys2Proof

/-!
Rules for registers that later proofs share: fields by their bits, counters, events, flags; a part of the state that no register
update touches.
-/

namespace Sys2Proof.Machine

variable (s : State)

/-- A field that shares no bit with the one written reads as before: another register, or other bits. -/
theorem State.fld_setFld_apart {a b hi lo hi' lo' : Nat} (v : Nat) (h : b ≠ a ∨ hi < lo' ∨ hi' < lo) :
    (s.setFld ⟨a, hi, lo⟩ v).fld ⟨b, hi', lo'⟩ = s.fld ⟨b, hi', lo'⟩ := by
  obtain h | h := h
  · exact State.fld_setFld_addr s v h
  · exact State.fld_setFld_bits s v h

/-- A field just written, its bits spelled out. -/
theorem State.fld_setFld_self {a hi lo : Nat} (v : Nat) (h : hi < 32) : (s.setFld ⟨a, hi, lo⟩ v).fld ⟨a, hi, lo⟩ = v % 2 ^ (hi + 1 - lo) :=
  State.fld_setFld_same s v h

/-- Another register's word. -/
theorem State.word_setFld_apart {a b hi lo : Nat} (v : Nat) (h : b ≠ a) : (s.setFld ⟨a, hi, lo⟩ v).word b = s.word b :=
  State.word_setFld_other s v h

/-- A counter holds the sum, or all ones (R10), its bits spelled out. -/
theorem State.fld_bump_self {a b hi lo hi' lo' : Nat} (hc : hi < 32) (hw : lo ≤ hi) (hd : b ≠ a ∨ hi' < lo ∨ hi < lo') :
    (s.bump ⟨a, hi, lo⟩ ⟨b, hi', lo'⟩).fld ⟨a, hi, lo⟩ = min (2 ^ (hi + 1 - lo) - 1) (s.fld ⟨a, hi, lo⟩ + 1) :=
  State.fld_bump s hc (by simp only [Fld.width]; omega) hd

/-- A field that shares no bit with a counter or its SAT flag reads as before. -/
theorem State.fld_bump_apart {a b c hi lo hi' lo' h l : Nat} (h1 : c ≠ a ∨ hi < l ∨ h < lo) (h2 : c ≠ b ∨ hi' < l ∨ h < lo') :
    (s.bump ⟨a, hi, lo⟩ ⟨b, hi', lo'⟩).fld ⟨c, h, l⟩ = s.fld ⟨c, h, l⟩ := by
  obtain ⟨-, e⟩ | ⟨-, -, e⟩ | ⟨-, -, e⟩ := s.bumpBy_cases 1 ⟨a, hi, lo⟩ ⟨b, hi', lo'⟩ <;> rw [State.bump, e]
  · exact State.fld_setFld_apart s _ h1
  · rw [State.fld_setFld_apart _ _ h2, State.fld_setFld_apart s _ h1]

/-- Another register's word. -/
theorem State.word_bump_apart {a b c hi lo hi' lo' : Nat} (h1 : c ≠ a) (h2 : c ≠ b) :
    (s.bump ⟨a, hi, lo⟩ ⟨b, hi', lo'⟩).word c = s.word c := by
  obtain ⟨-, e⟩ | ⟨-, -, e⟩ | ⟨-, -, e⟩ := s.bumpBy_cases 1 ⟨a, hi, lo⟩ ⟨b, hi', lo'⟩ <;> rw [State.bump, e]
  · exact State.word_setFld_apart s _ h1
  · rw [State.word_setFld_apart _ _ h2, State.word_setFld_apart s _ h1]

/-- A count stores in the registers alone. -/
theorem State.bump_eraseRegs (cnt sat : Fld) : { s.bump cnt sat with regs := [] } = { s with regs := [] } :=
  State.bumpBy_eraseRegs 1 cnt sat s

/-! `State.bump` -/

@[simp] theorem State.bump_phase (c t : Fld) : (s.bump c t).phase = s.phase := (congrArg State.phase (s.bump_eraseRegs c t) :)
@[simp] theorem State.bump_supplied (c t : Fld) : (s.bump c t).supplied = s.supplied := (congrArg State.supplied (s.bump_eraseRegs c t) :)
@[simp] theorem State.bump_resetLow (c t : Fld) : (s.bump c t).resetLow = s.resetLow := (congrArg State.resetLow (s.bump_eraseRegs c t) :)
@[simp] theorem State.bump_railsDown (c t : Fld) : (s.bump c t).railsDown = s.railsDown := (congrArg State.railsDown (s.bump_eraseRegs c t) :)
@[simp] theorem State.bump_ports (c t : Fld) : (s.bump c t).ports = s.ports := (congrArg State.ports (s.bump_eraseRegs c t) :)
@[simp] theorem State.bump_tick (c t : Fld) : (s.bump c t).tick = s.tick := (congrArg State.tick (s.bump_eraseRegs c t) :)
@[simp] theorem State.bump_cyc (c t : Fld) : (s.bump c t).cyc = s.cyc := (congrArg State.cyc (s.bump_eraseRegs c t) :)
@[simp] theorem State.bump_shadow (c t : Fld) : (s.bump c t).shadow = s.shadow := (congrArg State.shadow (s.bump_eraseRegs c t) :)
@[simp] theorem State.bump_shadowMc (c t : Fld) : (s.bump c t).shadowMc = s.shadowMc := (congrArg State.shadowMc (s.bump_eraseRegs c t) :)
@[simp] theorem State.bump_image (c t : Fld) : (s.bump c t).image = s.image := (congrArg State.image (s.bump_eraseRegs c t) :)
@[simp] theorem State.bump_imageMc (c t : Fld) : (s.bump c t).imageMc = s.imageMc := (congrArg State.imageMc (s.bump_eraseRegs c t) :)
@[simp] theorem State.bump_fresh (c t : Fld) : (s.bump c t).fresh = s.fresh := (congrArg State.fresh (s.bump_eraseRegs c t) :)
@[simp] theorem State.bump_latch (c t : Fld) : (s.bump c t).latch = s.latch := (congrArg State.latch (s.bump_eraseRegs c t) :)
@[simp] theorem State.bump_readData (c t : Fld) : (s.bump c t).readData = s.readData := (congrArg State.readData (s.bump_eraseRegs c t) :)
@[simp] theorem State.bump_portAddr (c t : Fld) : (s.bump c t).portAddr = s.portAddr := (congrArg State.portAddr (s.bump_eraseRegs c t) :)
@[simp] theorem State.bump_link (c t : Fld) : (s.bump c t).link = s.link := (congrArg State.link (s.bump_eraseRegs c t) :)
@[simp] theorem State.bump_press (c t : Fld) : (s.bump c t).press = s.press := (congrArg State.press (s.bump_eraseRegs c t) :)
@[simp] theorem State.bump_flt (c t : Fld) : (s.bump c t).flt = s.flt := (congrArg State.flt (s.bump_eraseRegs c t) :)
@[simp] theorem State.bump_qmg (c t : Fld) : (s.bump c t).qmg = s.qmg := (congrArg State.qmg (s.bump_eraseRegs c t) :)
@[simp] theorem State.bump_spine (c t : Fld) : (s.bump c t).spine = s.spine := (congrArg State.spine (s.bump_eraseRegs c t) :)
@[simp] theorem State.bump_next (c t : Fld) : (s.bump c t).next = s.next := (congrArg State.next (s.bump_eraseRegs c t) :)
@[simp] theorem State.bump_tests (c t : Fld) : (s.bump c t).tests = s.tests := (congrArg State.tests (s.bump_eraseRegs c t) :)
@[simp] theorem State.bump_clk (c t : Fld) : (s.bump c t).clk = s.clk := (congrArg State.clk (s.bump_eraseRegs c t) :)
@[simp] theorem State.bump_pwr (c t : Fld) : (s.bump c t).pwr = s.pwr := (congrArg State.pwr (s.bump_eraseRegs c t) :)
@[simp] theorem State.bump_ain (c t : Fld) : (s.bump c t).ain = s.ain := (congrArg State.ain (s.bump_eraseRegs c t) :)
@[simp] theorem State.bump_fch (c t : Fld) : (s.bump c t).fch = s.fch := (congrArg State.fch (s.bump_eraseRegs c t) :)
@[simp] theorem State.bump_svc (c t : Fld) : (s.bump c t).svc = s.svc := (congrArg State.svc (s.bump_eraseRegs c t) :)
@[simp] theorem State.bump_spn (c t : Fld) : (s.bump c t).spn = s.spn := (congrArg State.spn (s.bump_eraseRegs c t) :)
@[simp] theorem State.bump_mix (c t : Fld) : (s.bump c t).mix = s.mix := (congrArg State.mix (s.bump_eraseRegs c t) :)
@[simp] theorem State.bump_srcc (c t : Fld) : (s.bump c t).srcc = s.srcc := (congrArg State.srcc (s.bump_eraseRegs c t) :)
@[simp] theorem State.bump_sap (c t : Fld) : (s.bump c t).sap = s.sap := (congrArg State.sap (s.bump_eraseRegs c t) :)
@[simp] theorem State.bump_spd (c t : Fld) : (s.bump c t).spd = s.spd := (congrArg State.spd (s.bump_eraseRegs c t) :)
@[simp] theorem State.bump_fx (c t : Fld) : (s.bump c t).fx = s.fx := (congrArg State.fx (s.bump_eraseRegs c t) :)
@[simp] theorem State.bump_jack (c t : Fld) : (s.bump c t).jack = s.jack := (congrArg State.jack (s.bump_eraseRegs c t) :)
@[simp] theorem State.bump_out (c t : Fld) : (s.bump c t).out = s.out := (congrArg State.out (s.bump_eraseRegs c t) :)
@[simp] theorem State.bump_cv (c t : Fld) : (s.bump c t).cv = s.cv := (congrArg State.cv (s.bump_eraseRegs c t) :)
@[simp] theorem State.bump_spk (c t : Fld) : (s.bump c t).spk = s.spk := (congrArg State.spk (s.bump_eraseRegs c t) :)
@[simp] theorem State.bump_bst (c t : Fld) : (s.bump c t).bst = s.bst := (congrArg State.bst (s.bump_eraseRegs c t) :)
@[simp] theorem State.bump_time (c t : Fld) : (s.bump c t).time = s.time := (congrArg State.time (s.bump_eraseRegs c t) :)
@[simp] theorem State.bump_net (c t : Fld) : (s.bump c t).net = s.net := (congrArg State.net (s.bump_eraseRegs c t) :)
@[simp] theorem State.bump_zkl (c t : Fld) : (s.bump c t).zkl = s.zkl := (congrArg State.zkl (s.bump_eraseRegs c t) :)
@[simp] theorem State.bump_nvm (c t : Fld) : (s.bump c t).nvm = s.nvm := (congrArg State.nvm (s.bump_eraseRegs c t) :)
@[simp] theorem State.bump_i2c (c t : Fld) : (s.bump c t).i2c = s.i2c := (congrArg State.i2c (s.bump_eraseRegs c t) :)
@[simp] theorem State.bump_gpio (c t : Fld) : (s.bump c t).gpio = s.gpio := (congrArg State.gpio (s.bump_eraseRegs c t) :)
@[simp] theorem State.bump_jtag (c t : Fld) : (s.bump c t).jtag = s.jtag := (congrArg State.jtag (s.bump_eraseRegs c t) :)
@[simp] theorem State.bump_free (c t : Fld) : (s.bump c t).free = s.free := (congrArg State.free (s.bump_eraseRegs c t) :)
@[simp] theorem State.bump_pending (c t : Fld) : (s.bump c t).pending = s.pending := (congrArg State.pending (s.bump_eraseRegs c t) :)

end Sys2Proof.Machine

namespace Sys2Proof

open Machine

/-- Settles O43: each JTAG instruction loads the instruction and the data register it selects (R600). -/
theorem jtagCommandsComplete : Obligations.JtagCommandsComplete := by
  intro s cells preload
  refine ⟨⟨_, rfl, rfl⟩, ⟨_, rfl, rfl, rfl, fun i hi => ?_⟩, ⟨_, rfl, rfl⟩, ⟨_, rfl, rfl⟩, ⟨_, rfl, rfl⟩, ⟨_, rfl, rfl⟩⟩
  simp [jtagLoad, shiftBits, idcode, List.getD_eq_getElem?_getD, hi]

end Sys2Proof

/-!
Result registers: what a posted result leaves in its register and in the FRESH marks, and what a read of it answers (R492).
-/

namespace Sys2Proof.Machine

variable (s : State)

/-- A result leaves every FRESH mark but its own. -/
theorem State.fresh_post (a : Nat) (v : Word) : (s.post a v).fresh = SMap.set (fun _ => 0) s.fresh a 15 := rfl

/-- SEQ counts modulo 256, the value stands whole under it, FRESH is no bit of the word (R492). -/
theorem State.bits_word_post (a : Nat) (v : Word) :
    ((s.post a v).word a).bits 30 23 = ((s.word a).bits 30 23 + 1) % 256 ∧ ((s.post a v).word a).bits 22 0 = v.bits 22 0 ∧
    ((s.post a v).word a).bits 31 31 = 0 := by
  rw [State.word_post_same]
  refine ⟨?_, ?_, Word.bits_put_same _ _ _ (by decide)⟩
  · rw [Word.bits_put_other _ _ (by decide), Word.bits_put_same _ _ _ (by decide)]
    exact Nat.mod_mod _ _
  · rw [Word.bits_put_other _ _ (by decide), Word.bits_put_other _ _ (by decide)]

/-- A register word whose bit 31 is clear is the word with bit 31 cleared. -/
theorem Word.put_31_zero {w : Word} (h : w.bits 31 31 = 0) : w.put 31 31 0 = w := by
  have h31 : w.getLsbD 31 = false := by
    have h0 := Word.testBit_bits w 31 31 0
    rw [h] at h0
    simpa only [Nat.zero_testBit, Nat.add_zero, decide_true, Bool.true_and, Nat.reduceAdd, Nat.reduceSub, Nat.zero_lt_one] using h0.symm
  apply BitVec.eq_of_getLsbD_eq
  intro i hi
  rw [Word.getLsbD_put _ _ _ _ _ hi]
  split
  · next h1 =>
    obtain rfl : i = 31 := by omega
    rw [h31, Nat.zero_testBit]
  · rfl

/-- CLK_SERVO_ERR is a plain register: nothing latched, staged or write-only stands in it, no block makes its word. -/
theorem readWord_servoErr (o : Origin) : readWord o Adr.CLK_SERVO_ERR s =
    if (SMap.get (fun _ => 0) s.fresh Adr.CLK_SERVO_ERR).testBit o.num then (s.word Adr.CLK_SERVO_ERR).put 31 31 1
    else s.word Adr.CLK_SERVO_ERR := by
  have ha : regAddr Adr.CLK_SERVO_ERR s = Adr.CLK_SERVO_ERR := rfl
  have hl : isLatched Adr.CLK_SERVO_ERR = false := by decide
  have hst : stMask Adr.CLK_SERVO_ERR = 0 := by decide
  have hwo : woMask Adr.CLK_SERVO_ERR = 0 := by decide
  have hw : liveWord Adr.CLK_SERVO_ERR s = s.word Adr.CLK_SERVO_ERR := rfl
  have h1 : ¬ (0x400000 ≤ Adr.CLK_SERVO_ERR ∧ Adr.CLK_SERVO_ERR < 0x448000) := by decide
  have h2 : ¬ (0x600000 ≤ Adr.CLK_SERVO_ERR ∧ Adr.CLK_SERVO_ERR < 0x800000) := by decide
  have hall (w : Word) : w &&& ~~~(0 : Word) = w := BitVec.and_allOnes
  have hnone (w v : Word) : w ||| v &&& (0 : Word) = w := by simp
  simp only [readWord, ha, h1, h2, hl, hst, hwo, hw, hall, hnone, ite_self, if_false, Bool.false_eq_true]

/-- Reading clears the mark of the reader and keeps the others'. -/
theorem testBit_clear_mark {m : Nat} (hm : m < 16) {n k : Fin 4} (h : m.testBit n = true) :
    (m - 2 ^ n.val).testBit k = if k = n then false else m.testBit k := by
  have : ∀ m : Fin 16, ∀ n k : Fin 4, m.val.testBit n = true → (m.val - 2 ^ n.val).testBit k = if k = n then false else m.val.testBit k := by
    decide
  exact this ⟨m, hm⟩ n k h

/-- What a read that consumes nothing leaves: FRESH marks, latches and registers apart from the reader's own. -/
theorem readPlain_fresh (o : Origin) (a : Nat) : (readPlain o a s).fresh =
    if (SMap.get (fun _ => 0) s.fresh (regAddr a s)).testBit o.num then
      SMap.set (fun _ => 0) s.fresh (regAddr a s) (SMap.get (fun _ => 0) s.fresh (regAddr a s) - 2 ^ o.num) else s.fresh := by
  simp only [readPlain, State.answer, portNext]
  split <;> split <;> rfl

theorem readPlain_regs (o : Origin) (a : Nat) : (readPlain o a s).regs = s.regs := by
  simp only [readPlain, State.answer, portNext]
  split <;> split <;> rfl

theorem readPlain_readData (o : Origin) (a : Nat) :
    SMap.get (fun _ => 0) (readPlain o a s).readData o.num = readWord o a s := by
  simp [readPlain, State.answer]

end Sys2Proof.Machine

namespace Sys2Proof

/-- The number of an origin is one of four. -/
theorem Origin.num_lt (o : Origin) : o.num < 4 := by cases o <;> decide

theorem Origin.num_inj {o p : Origin} (h : o.num = p.num) : o = p := by cases o <;> cases p <;> first | rfl | cases h

open Machine

/-- Settles O10: a result by the bits it puts, a read by the mark it takes (R492). -/
theorem resultIsFreshOncePerOrigin : Obligations.ResultIsFreshOncePerOrigin := by
  refine ⟨fun a v s => ?_, fun o s ho hm h31 => ?_⟩
  · obtain ⟨h1, h2, h3⟩ := s.bits_word_post a v
    refine ⟨h1, h2, h3, ?_, fun b hb => State.word_post_other s v hb, fun b hb => ?_⟩ <;> rw [State.fresh_post]
    · exact SMap.get_set_same _ _ _ _
    · exact SMap.get_set_other _ _ _ hb
  · have hclear (k : Origin) : (SMap.get (fun _ => 0) (readPlain o Adr.CLK_SERVO_ERR s).fresh Adr.CLK_SERVO_ERR).testBit k.num =
        if k = o then false else (SMap.get (fun _ => 0) s.fresh Adr.CLK_SERVO_ERR).testBit k.num := by
      rw [readPlain_fresh, show regAddr Adr.CLK_SERVO_ERR s = Adr.CLK_SERVO_ERR from rfl]
      by_cases hf : (SMap.get (fun _ => 0) s.fresh Adr.CLK_SERVO_ERR).testBit o.num = true
      · have := testBit_clear_mark hm (n := ⟨o.num, o.num_lt⟩) (k := ⟨k.num, k.num_lt⟩) hf
        rw [if_pos hf, SMap.get_set_same, this]
        by_cases hk : k = o
        · rw [if_pos hk, if_pos (by rw [hk])]
        · rw [if_neg hk, if_neg fun e => hk (Origin.num_inj (Fin.mk.inj e))]
      · rw [if_neg hf]
        split
        · next e => rw [e]; simpa using hf
        · rfl
    refine ⟨_, State.heardFrom_of_hears ho _, ?_, ?_, fun p hp => ?_, readPlain_regs s o _⟩
    · refine (readPlain_readData s o Adr.CLK_SERVO_ERR).trans ((readWord_servoErr s o).trans ?_)
      split
      · rfl
      · exact (Word.put_31_zero h31).symm
    · exact (hclear o).trans (if_pos rfl)
    · exact (hclear p).trans (if_neg hp)

end Sys2Proof

/-!
Rules for a state written out field by field, as an update of one part leaves it: registers and fields read from its register map alone.
-/

namespace Sys2Proof.Machine

/-- A register word depends on the register map alone. -/
@[simp] theorem State.word_mk {x0 x1 x2 x3 x4 x5 x6 r x8 x9 x10 x11 x12 x13 x14 x15 x16 x17 x18 x19 x20 x21 x22 x23 x24 x25 x26 x27 x28 x29 x30 x31 x32 x33 x34 x35 x36 x37 x38 x39 x40 x41 x42 x43 x44 x45 x46 x47} (a : Nat) :
    (State.mk x0 x1 x2 x3 x4 x5 x6 r x8 x9 x10 x11 x12 x13 x14 x15 x16 x17 x18 x19 x20 x21 x22 x23 x24 x25 x26 x27 x28 x29 x30 x31 x32 x33 x34 x35 x36 x37 x38 x39 x40 x41 x42 x43 x44 x45 x46 x47).word a = SMap.get resetWord r a := rfl

/-- A field of a register map, and whether it is set. -/
def fldOf (r : SMap Word) (f : Fld) : Nat := (SMap.get resetWord r f.addr).bits f.hi f.lo
def onOf (r : SMap Word) (f : Fld) : Bool := fldOf r f != 0

@[simp] theorem fldOf_regs (s : State) (f : Fld) : fldOf s.regs f = s.fld f := rfl

@[simp] theorem onOf_regs (s : State) (f : Fld) : onOf s.regs f = s.on f := rfl

/-- A field depends on the register map alone. -/
@[simp] theorem State.fld_mk {x0 x1 x2 x3 x4 x5 x6 r x8 x9 x10 x11 x12 x13 x14 x15 x16 x17 x18 x19 x20 x21 x22 x23 x24 x25 x26 x27 x28 x29 x30 x31 x32 x33 x34 x35 x36 x37 x38 x39 x40 x41 x42 x43 x44 x45 x46 x47} (f : Fld) :
    (State.mk x0 x1 x2 x3 x4 x5 x6 r x8 x9 x10 x11 x12 x13 x14 x15 x16 x17 x18 x19 x20 x21 x22 x23 x24 x25 x26 x27 x28 x29 x30 x31 x32 x33 x34 x35 x36 x37 x38 x39 x40 x41 x42 x43 x44 x45 x46 x47).fld f = fldOf r f := rfl

@[simp] theorem State.on_mk {x0 x1 x2 x3 x4 x5 x6 r x8 x9 x10 x11 x12 x13 x14 x15 x16 x17 x18 x19 x20 x21 x22 x23 x24 x25 x26 x27 x28 x29 x30 x31 x32 x33 x34 x35 x36 x37 x38 x39 x40 x41 x42 x43 x44 x45 x46 x47} (f : Fld) :
    (State.mk x0 x1 x2 x3 x4 x5 x6 r x8 x9 x10 x11 x12 x13 x14 x15 x16 x17 x18 x19 x20 x21 x22 x23 x24 x25 x26 x27 x28 x29 x30 x31 x32 x33 x34 x35 x36 x37 x38 x39 x40 x41 x42 x43 x44 x45 x46 x47).on f = onOf r f := rfl

@[simp] theorem State.get_regs (s : State) (a : Nat) : SMap.get resetWord s.regs a = s.word a := rfl

@[simp] theorem State.bits_word (s : State) (a hi lo : Nat) : (s.word a).bits hi lo = s.fld ⟨a, hi, lo⟩ := rfl

/-- A command that answers `t` completes with what holds of `t`. -/
@[simp] theorem completes_next {t : State} {P : State → Prop} : Completes (.next t) P ↔ P t :=
  ⟨fun ⟨_, e, h⟩ => by cases e; exact h, fun h => ⟨t, rfl, h⟩⟩

theorem completes_ticking {s t : State} {P : State → Prop} (h : s.phase = .running) : Completes (s.ticking (.next t)) P ↔ P t := by
  rw [State.ticking_of_running h, completes_next]

theorem completes_heard {s t : State} {P : State → Prop} (h : s.ports = true) : Completes (s.heard (.next t)) P ↔ P t := by
  rw [State.heard_of_ports h, completes_next]

theorem completes_heardFrom {s t : State} {o : Origin} {P : State → Prop} (h : s.hears o = true) :
    Completes (s.heardFrom o (.next t)) P ↔ P t := by
  rw [State.heardFrom_of_hears h, completes_next]

theorem State.when_true (f : State → State) (s : State) : s.when true f = f s := rfl

theorem State.when_false (f : State → State) (s : State) : s.when false f = s := rfl

theorem State.when_of {c : Bool} (h : c = true) (f : State → State) (s : State) : s.when c f = f s := if_pos h

theorem State.when_of_not {c : Bool} (h : c = false) (f : State → State) (s : State) : s.when c f = s := if_neg (by simp [h])

variable (s : State)

/-! Directions of the stitch links. -/

@[simp] theorem State.dir_setDir_same (d : Nat) (x : LinkDir) : (s.setDir d x).dir d = x := SMap.get_set_same _ _ _ _

theorem State.dir_setDir_other {d e : Nat} (x : LinkDir) (h : e ≠ d) : (s.setDir d x).dir e = s.dir e := SMap.get_set_other _ _ _ h

end Sys2Proof.Machine

/-!
What a change of the state leaves alone: registers outside a set, and whatever a reading of the rest of the state shows. One rule for
each way a meaning is composed, and for each named operation.
-/

namespace Sys2Proof.Machine

/-- From `s0` to `s` only registers in `ws` change, and nothing that `E` reads of the rest of the state. -/
structure Only {β : Type} (ws : Nat → Prop) (E : State → β) (s0 s : State) : Prop where
  word : ∀ a, ¬ ws a → s.word a = s0.word a
  rest : E { s with regs := [] } = E { s0 with regs := [] }

section

variable {β : Type} {ws : Nat → Prop} {E : State → β} {s0 s : State}

theorem Only.refl (s : State) : Only ws E s s := ⟨fun _ _ => rfl, rfl⟩

theorem Only.trans {t : State} (h : Only ws E s0 s) (k : Only ws E s t) : Only ws E s0 t :=
  ⟨fun a ha => (k.word a ha).trans (h.word a ha), k.rest.trans h.rest⟩

/-- A field outside the registers that change. -/
theorem Only.fld (h : Only ws E s0 s) {f : Fld} (hf : ¬ ws f.addr) : s.fld f = s0.fld f := by
  rw [State.fld, h.word _ hf, State.fld]

/-- An update of what `E` does not read. -/
theorem Only.update {t : State} (h : Only ws E s0 s) (hr : t.regs = s.regs) (he : E { t with regs := [] } = E { s with regs := [] }) :
    Only ws E s0 t :=
  h.trans ⟨fun a _ => by rw [State.word, hr, State.word], he⟩

theorem Only.ite {c : Prop} {_d : Decidable c} {a b : State} (ha : Only ws E s0 a) (hb : Only ws E s0 b) :
    Only ws E s0 (if c then a else b) := by
  split <;> assumption

theorem Only.when {c : Bool} {f : State → State} (hf : ∀ s, Only ws E s0 s → Only ws E s0 (f s)) (h : Only ws E s0 s) :
    Only ws E s0 (s.when c f) := by
  unfold State.when
  exact .ite (hf s h) h

theorem Only.foldl {α : Type} {f : State → α → State} {l : List α} (hf : ∀ s, ∀ a ∈ l, Only ws E s0 s → Only ws E s0 (f s a))
    (h : Only ws E s0 s) : Only ws E s0 (l.foldl f s) := by
  induction l generalizing s with
  | nil => exact h
  | cons a t ih => exact ih (fun s b hb => hf s b (.tail _ hb)) (hf s a (.head _) h)

theorem Only.each {n : Nat} {f : Nat → State → State} (hf : ∀ k < n, ∀ s, Only ws E s0 s → Only ws E s0 (f k s)) (h : Only ws E s0 s) :
    Only ws E s0 (s.each n f) :=
  .foldl (fun s k hk => hf k (List.mem_range.mp hk) s) h

theorem Only.eachOf {α : Type} {l : List α} {f : α → State → State} (hf : ∀ k ∈ l, ∀ s, Only ws E s0 s → Only ws E s0 (f k s))
    (h : Only ws E s0 s) : Only ws E s0 (s.eachOf l f) :=
  .foldl (fun s k hk => hf k hk s) h

theorem State.setWord_only {a : Nat} {w : Word} (ha : ws a) (h : Only ws E s0 s) : Only ws E s0 (s.setWord a w) :=
  h.trans ⟨fun _ hb => State.word_setWord_other s w (fun e => hb (e ▸ ha)), rfl⟩

theorem State.setFld_only {f : Fld} {v : Nat} (hf : ws f.addr) (h : Only ws E s0 s) : Only ws E s0 (s.setFld f v) :=
  State.setWord_only hf h

theorem State.setOn_only {f : Fld} {b : Bool} (hf : ws f.addr) (h : Only ws E s0 s) : Only ws E s0 (s.setOn f b) :=
  State.setFld_only hf h

theorem State.setInt_only {f : Fld} {v : Int} (hf : ws f.addr) (h : Only ws E s0 s) : Only ws E s0 (s.setInt f v) :=
  State.setFld_only hf h

theorem State.raise_only {p k : Nat} (hf : ws (p * 4096 + 16)) (h : Only ws E s0 s) : Only ws E s0 (s.raise p k) :=
  State.setFld_only hf h

theorem State.bumpBy_only {n : Nat} {cnt sat : Fld} (hc : ws cnt.addr) (hs : ws sat.addr) (h : Only ws E s0 s) :
    Only ws E s0 (s.bumpBy n cnt sat) := by
  obtain ⟨-, e⟩ | ⟨-, -, e⟩ | ⟨-, -, e⟩ := s.bumpBy_cases n cnt sat <;> rw [e]
  · exact h
  · exact State.setFld_only hc h
  · exact State.setFld_only hs (State.setFld_only hc h)

theorem State.bump_only {cnt sat : Fld} (hc : ws cnt.addr) (hs : ws sat.addr) (h : Only ws E s0 s) : Only ws E s0 (s.bump cnt sat) :=
  State.bumpBy_only hc hs h

theorem State.report_only {c i a : Nat} (hE : ∀ (u : State) r, E { u with flt := { u.flt with reports := r } } = E u)
    (h : Only ws E s0 s) : Only ws E s0 (s.report c i a) :=
  h.update rfl (hE { s with regs := [] } _)

theorem State.setDir_only {d : Nat} {x : LinkDir} (hE : ∀ (u : State) m, E { u with link := { u.link with dirs := m } } = E u)
    (h : Only ws E s0 s) : Only ws E s0 (s.setDir d x) :=
  h.update rfl (hE { s with regs := [] } _)

theorem State.tell_only {d from_ : Nat} {m : LinkMsg} (hE : ∀ (u : State) m, E { u with link := { u.link with dirs := m } } = E u)
    (h : Only ws E s0 s) : Only ws E s0 (s.tell d from_ m) :=
  .when (fun _ h => State.setDir_only hE h) h

theorem State.note_only {d from_ : Nat} {n : DieNote} (hE : ∀ (u : State) m, E { u with link := { u.link with dirs := m } } = E u)
    (h : Only ws E s0 s) : Only ws E s0 (s.note d from_ n) :=
  State.tell_only hE h

end

/-! The fault manager's log. -/

section

variable {β : Type} {ws : Nat → Prop} {E : State → β} {s0 s : State}

/-- The registers in which logging a report can show (R532-R537): the log, the classes pending, isolation, the events of page FLT, PG_FAULT
of the pages. -/
def LogRegs (ws : Nat → Prop) : Prop :=
  ws Adr.FLT_PEND ∧ ws Adr.FLT_LOG_CNT ∧ ws Adr.FLT_LOG_STAT ∧ ws Adr.FLT_STAT ∧ ws Adr.FLT_ISO_CNT ∧ ws (Pg.flt * 4096 + 16) ∧
  (∀ w < 3, ws (Adr.FLT_ISO w)) ∧ ∀ p, ws (p * 4096 + 12)

/-- A reading that shows nothing of the fault manager. -/
def HidesFlt (E : State → β) : Prop := ∀ (u : State) f, E { u with flt := f } = E u

theorem HidesFlt.only {t : State} (hE : HidesFlt E) (h : Only ws E s0 s) (f : FltSt) (e : t = { s with flt := f }) : Only ws E s0 t :=
  e ▸ h.update rfl (hE { s with regs := [] } f)

theorem logShow_only (hw : LogRegs ws) (h : Only ws E s0 s) : Only ws E s0 (logShow s) := by
  obtain ⟨-, -, hl, -⟩ := hw
  unfold logShow
  exact State.setFld_only hl (State.setOn_only hl (State.setFld_only hl h))

theorem logStore_only {r : LogRec} (hw : LogRegs ws) (hE : HidesFlt E) (h : Only ws E s0 s) : Only ws E s0 (logStore r s) := by
  obtain ⟨-, hc, -, -, -, hp, -⟩ := id hw
  unfold logStore
  dsimp only
  exact .ite (State.raise_only hp (State.bump_only hc hc h)) (logShow_only hw (State.bump_only hc hc (hE.only h _ rfl)))

theorem isolate_only {bits : List (Nat × Nat)} {why : IsoWhy} (hb : ∀ e ∈ bits, e.1 < 3) (hw : LogRegs ws) (hE : HidesFlt E)
    (h : Only ws E s0 s) : Only ws E s0 (isolate bits why s) := by
  obtain ⟨-, -, -, -, hc, hp, hi, -⟩ := id hw
  unfold isolate
  refine .eachOf (fun e he s h1 => ?_) h
  have h2 := Only.when (c := (SMap.get (fun _ => []) s.flt.why (32 * e.1 + e.2)).isEmpty)
    (f := fun s => ((s.setFld ⟨Adr.FLT_ISO e.1, e.2, e.2⟩ 1).bump F.FLT_ISO_CNT_ISO_CNT F.FLT_ISO_CNT_IS_SAT).raise Pg.flt 1)
    (fun s h2 => State.raise_only hp (State.bump_only hc hc (State.setFld_only (hi e.1 (hb e he)) h2))) h1
  exact .ite h2 (hE.only h2 _ rfl)

theorem partShow_only (hw : LogRegs ws) (h : Only ws E s0 s) : Only ws E s0 (partShow s) := by
  obtain ⟨-, -, -, hs, -⟩ := hw
  exact State.setOn_only hs h

/-- What a report isolates are outputs of the three isolation words (R537, R551). -/
theorem isoTrigger_word {code inst action : Nat} {s : State} : ∀ e ∈ (isoTrigger code inst action s).1, e.1 < 3 := by
  have hall : ∀ e ∈ isoAll, e.1 < 3 := by decide
  have hsinks : ∀ e ∈ isoSinks, e.2.1 < 3 := by
    simp only [isoSinks, List.mem_append, List.mem_map, List.mem_range]
    rintro e ((((⟨_, _, rfl⟩ | ⟨_, _, rfl⟩) | ⟨_, _, rfl⟩) | ⟨_, _, rfl⟩) | ⟨_, _, rfl⟩) <;> simp
  have hmap : ∀ e ∈ isoSinks.map (·.2), e.1 < 3 := List.forall_mem_map.mpr hsinks
  have hdep (b : Nat) : ∀ e ∈ isoDep b s, e.1 < 3 :=
    List.forall_mem_map.mpr fun x hx => hsinks x (List.mem_filter.mp hx).1
  have hnone : ∀ e ∈ ([] : List (Nat × Nat)), e.1 < 3 := fun _ h => nomatch h
  have hite {c : Prop} [Decidable c] {a b : List (Nat × Nat) × Bool} (ha : ∀ e ∈ a.1, e.1 < 3) (hb : ∀ e ∈ b.1, e.1 < 3) :
      ∀ e ∈ (if c then a else b).1, e.1 < 3 := by
    split
    · exact ha
    · exact hb
  have hpage : ∀ e ∈ (if spnPageState s = 4 then isoSinks.map (·.2) else []), e.1 < 3 := by
    split
    · exact hmap
    · exact hnone
  exact hite hall (hite hpage (hite (hdep 1) (hite (hdep 2) (hite (hdep 3) (hite (hdep _) (hite (hdep 9) (hite (by decide)
    (hite (by decide) hnone))))))))

theorem logReport_only {r : Report} (hw : LogRegs ws) (hE : HidesFlt E) (h : Only ws E s0 s) : Only ws E s0 (logReport r s) := by
  obtain ⟨hpend, -, -, -, -, hp, -, hl⟩ := id hw
  unfold logReport
  dsimp only
  refine .ite (hE.only h _ rfl) ?_
  refine partShow_only hw (isolate_only isoTrigger_word hw hE (logStore_only hw hE (hE.only ?_ _ rfl)))
  exact State.raise_only hp (State.setFld_only hpend (State.bump_only (hl _) (hl _) (State.setFld_only (hl _) h)))

end

end Sys2Proof.Machine

/-!
The commands of the stitch links (R15-R25, R37, R530).
-/

namespace Sys2Proof.Machine

/-- The registers in which the fault manager shows a report. -/
def IsLogReg (a : Nat) : Prop :=
  a ∈ [Adr.FLT_PEND, Adr.FLT_LOG_CNT, Adr.FLT_LOG_STAT, Adr.FLT_STAT, Adr.FLT_ISO_CNT, Pg.flt * 4096 + 16] ∨
  (∃ w < 3, a = Adr.FLT_ISO w) ∨ ∃ p, a = p * 4096 + 12

theorem logRegs_isLogReg : LogRegs IsLogReg :=
  ⟨.inl (by decide), .inl (by decide), .inl (by decide), .inl (by decide), .inl (by decide), .inl (by decide),
    fun w hw => .inr (.inl ⟨w, hw, rfl⟩), fun p => .inr (.inr ⟨p, rfl⟩)⟩

/-- Logging a report keeps every register but the log's own. -/
theorem logReport_fld {r : Report} {s : State} {f : Fld} (h : ¬ IsLogReg f.addr) : (logReport r s).fld f = s.fld f :=
  (logReport_only (E := fun _ => ()) logRegs_isLogReg (fun _ _ => rfl) (.refl s)).fld h

/-- The registers of a link are none of the log's. -/
theorem not_isLogReg_link {d : Nat} (hd : d < 4) : ¬ IsLogReg (Adr.FLT_LINK_B d) := by
  simp only [IsLogReg, List.mem_cons, List.not_mem_nil, or_false, Adr.FLT_LINK_B, Adr.FLT_PEND, Adr.FLT_LOG_CNT, Adr.FLT_LOG_STAT,
    Adr.FLT_STAT, Adr.FLT_ISO_CNT, Adr.FLT_ISO, Pg.flt]
  rintro (h | ⟨w, hw, h⟩ | ⟨p, h⟩) <;> omega

/-- Both directions of a link show its LSTATE. -/
theorem lstate_setLstate (s : State) (l v : Nat) : lstate l (setLstate l v s) = v % 4 := by
  have hb := State.fld_setFld_apart (a := Adr.FLT_LINK_B (2 * l + 1)) (b := Adr.FLT_LINK_B (2 * l)) (hi := 1) (lo := 0) (hi' := 1)
    (lo' := 0) (s.setFld (F.FLT_LINK_B_LSTATE (2 * l)) v) v (.inl (by unfold Adr.FLT_LINK_B; omega))
  exact hb.trans (State.fld_setFld_self s v (by decide))

theorem linkRuns_iff {l : Nat} {s : State} : linkRuns l s = true ↔ lstate l s = 1 ∨ lstate l s = 3 := by simp [linkRuns]

/-- What LINK_DOWN leaves in the link's registers: LSTATE 2, and a count in the direction that it names (R25, R530). -/
theorem linkDown_shows {d code : Nat} {s : State} (hd : d < 4) (h : linkRuns (d / 2) s = true) :
    lstate (d / 2) (linkDown d code s) = 2 ∧ (linkDown d code s).fld (F.FLT_LINK_B_DOWN_CNT d) =
      min (2 ^ (F.FLT_LINK_B_DOWN_CNT d).width - 1) (s.fld (F.FLT_LINK_B_DOWN_CNT d) + 1) := by
  have ha : ∀ f : Fld, f.addr = Adr.FLT_LINK_B d ∨ f.addr = Adr.FLT_LINK_B (2 * (d / 2)) → ¬ IsLogReg f.addr := by
    rintro f (e | e) <;> rw [e]
    · exact not_isLogReg_link hd
    · exact not_isLogReg_link (by omega)
  unfold linkDown
  simp only [h, Bool.not_true, Bool.false_eq_true, if_false, lstate]
  rw [logReport_fld (ha _ (.inr rfl)), logReport_fld (ha _ (.inl rfl))]
  have hl := lstate_setLstate s (d / 2) 2
  simp only [lstate, F.FLT_LINK_B_LSTATE] at hl
  constructor
  · split <;> simp [F.FLT_LINK_B_LSTATE, F.FLT_LINK_B_DOWN_CNT, F.FLT_LINK_B_DN_SAT, State.fld_bump_apart, hl]
  · split <;> simp [F.FLT_LINK_B_DOWN_CNT, F.FLT_LINK_B_DN_SAT, State.fld_bump_self, Fld.width, setLstate, F.FLT_LINK_B_LSTATE,
      State.fld_setFld_apart]

/-- The quires that join a control burst carry what waits, in order, under the numbers that follow (R24). -/
theorem numbered_cmds (q t : Nat) (l : List (Nat × LinkMsg)) :
    let new := ((List.range l.length).zip l).map (fun e => ({ seq := q + 1 + e.1, first := t, what := e.2.2 } : Cmd))
    new.length = l.length ∧ new.map (·.what) = l.map (·.2) ∧ new.map (·.seq) = (List.range l.length).map (fun k => q + 1 + k) := by
  refine ⟨by simp, ?_, ?_⟩
  · rw [List.map_map, show ((fun c : Cmd => c.what) ∘ fun e : Nat × Nat × LinkMsg => (⟨q + 1 + e.1, t, e.2.2⟩ : Cmd)) =
      (fun e => e.2) ∘ Prod.snd from rfl, ← List.map_map, List.map_snd_zip (by simp)]
  · rw [List.map_map, show ((fun c : Cmd => c.seq) ∘ fun e : Nat × Nat × LinkMsg => (⟨q + 1 + e.1, t, e.2.2⟩ : Cmd)) =
      (fun k => q + 1 + k) ∘ Prod.fst from rfl, ← List.map_map, List.map_fst_zip (by simp)]

@[simp] theorem State.bumpBy_link (n : Nat) (c t : Fld) (s : State) : (s.bumpBy n c t).link = s.link :=
  (congrArg State.link (s.bumpBy_eraseRegs n c t) :)
@[simp] theorem State.bumpBy_dir (n : Nat) (c t : Fld) (s : State) (d : Nat) : (s.bumpBy n c t).dir d = s.dir d := by
  rw [State.dir, State.bumpBy_link, State.dir]
theorem tickCheck_of_match {d age : Nat} {cw : Quire} {s : State}
    (h : ((Quire.bits cw 31 0 + age : Nat) : Int) % 2 ^ 32 = recvTick d s % 2 ^ 32) : tickCheck d age cw s = s := by
  unfold tickCheck
  exact State.when_of_not (decide_eq_false (fun k => k h)) _ s

/-- Messages that a link is told change nothing of a direction but what waits. -/
structure Tells (s t : State) : Prop where
  word : ∀ a, t.word a = s.word a
  tick : t.tick = s.tick
  off : t.link.off = s.link.off
  expect : ∀ d, (t.dir d).expect = (s.dir d).expect
  due : ∀ d, (t.dir d).due = (s.dir d).due

theorem State.tell_tells {s0 s : State} {d from_ : Nat} {m : LinkMsg} (h : Tells s0 s) : Tells s0 (s.tell d from_ m) := by
  unfold State.tell State.when
  split
  · have hd (e : Nat) : ((s.setDir d { s.dir d with wait := (s.dir d).wait ++ [(from_, m)] }).dir e).expect = (s.dir e).expect ∧
        ((s.setDir d { s.dir d with wait := (s.dir d).wait ++ [(from_, m)] }).dir e).due = (s.dir e).due := by
      by_cases he : e = d
      · subst he; simp
      · simp [State.dir_setDir_other, he]
    exact ⟨h.word, h.tick, h.off, fun e => (hd e).1.trans (h.expect e), fun e => (hd e).2.trans (h.due e)⟩
  · exact h

theorem liveConfig_tells (l : Nat) (s : State) : Tells s (liveConfig l s) := by
  unfold liveConfig
  exact List.foldlRecOn _ _ ⟨fun _ => rfl, rfl, rfl, fun _ => rfl, fun _ => rfl⟩ fun _ h _ _ => State.tell_tells h

/-- A direction starts with the sender's next number, two ticks on (R25). -/
def startDir (d : Nat) (s : State) : State :=
  s.setDir d { s.dir d with expect := (s.dir d).bsn, applied := (s.dir d).cmdSeq, acked := (s.dir d).cmdSeq, due := s.tick + 2 }

theorem startDir_same (d : Nat) (s : State) : ((startDir d s).dir d).expect = (s.dir d).bsn ∧ ((startDir d s).dir d).due = s.tick + 2 := by
  simp [startDir]

theorem startDir_other {d e : Nat} (s : State) (h : e ≠ d) : (startDir d s).dir e = s.dir e := State.dir_setDir_other s _ h

/-- A link whose lanes have trained, before it is trained or up: both directions start, and the die counts as the core die does
(R15, R25). -/
def aligned (l : Nat) (s : State) : State :=
  let s := startDir (2 * l + 1) (startDir (2 * l) (convClock l s))
  { s with link := { s.link with off := SMap.set (fun _ => (0 : Int)) s.link.off l 0 } }

theorem aligned_dirs (l d : Nat) (s : State) :
    (aligned l s).dir d = (startDir (2 * l + 1) (startDir (2 * l) (convClock l s))).dir d := rfl

theorem aligned_tick (l : Nat) (s : State) : (aligned l s).tick = (convClock l s).tick := rfl

theorem convClock_shows (l : Nat) (s : State) : (convClock l s).link = s.link ∧ (convClock l s).tick = s.tick := by
  unfold convClock State.when
  split <;> exact ⟨rfl, rfl⟩

theorem aligned_off (l : Nat) (s : State) : SMap.get (fun _ => (0 : Int)) (aligned l s).link.off l = 0 :=
  SMap.get_set_same (fun _ => (0 : Int)) _ l 0

theorem aligned_wasDown (l : Nat) (s : State) : (aligned l s).link.wasDown = s.link.wasDown := by
  rw [show (aligned l s).link.wasDown = (convClock l s).link.wasDown from rfl, (convClock_shows l s).1]

theorem setLstate_dir (l v d : Nat) (s : State) : (setLstate l v s).dir d = s.dir d := by
  simp only [State.dir, setLstate, State.setFld_link]

theorem setLstate_recvTick (l v d : Nat) (s : State) : recvTick d (setLstate l v s) = recvTick d s := by
  simp only [recvTick, setLstate, State.setFld_link, State.setFld_tick]

theorem aligned_dir {l d : Nat} (s : State) (hd : d / 2 = l) :
    ((aligned l s).dir d).expect = (s.dir d).bsn ∧ ((aligned l s).dir d).due = s.tick + 2 := by
  obtain ⟨hlink, htick⟩ := convClock_shows l s
  have hdir (e : Nat) : (convClock l s).dir e = s.dir e := by rw [State.dir, hlink, State.dir]
  rw [aligned_dirs]
  obtain rfl | rfl : d = 2 * l + 1 ∨ d = 2 * l := by omega
  · obtain ⟨he, hdue⟩ := startDir_same (2 * l + 1) (startDir (2 * l) (convClock l s))
    exact ⟨by rw [he, startDir_other _ (by omega), hdir], by rw [hdue, ← htick]; rfl⟩
  · obtain ⟨he, hdue⟩ := startDir_same (2 * l) (convClock l s)
    rw [startDir_other _ (by omega)]
    exact ⟨by rw [he, hdir], by rw [hdue, htick]⟩

theorem execLanesTrained_of {l : Fin 2} {s : State} (hr : s.phase = .running) (hl : lstate l s = 0)
    (hv : s.on F.PWR_STATUS_VSER_OK = true) (hs : linkSupplied l.val s = true) :
    exec (.lanesTrained l) s = .next (if SMap.get (fun _ => false) s.link.wasDown l then
      liveConfig l.val ((setLstate l.val 3 (aligned l s)).setDie l.val { cfg := ((aligned l s).die l.val).cfg })
      else setLstate l.val 1 (aligned l s)) := by
  rw [← aligned_wasDown]
  simp only [exec, execLanesTrained, State.ticking_of_running hr, hl, hv, hs, Bool.and_self, beq_self_eq_true, State.when_true]
  rfl

end Sys2Proof.Machine

namespace Sys2Proof

open Machine

/-- Settles O16, command by command, from what each leaves in its direction of the link. -/
theorem linkCommandsComplete : Obligations.LinkCommandsComplete := by
  intro s hr
  have hdir (c d : Nat) : (s.land c).dir d = s.dir d := rfl
  refine ⟨?_, ?_, ?_, ?_, ?_, ?_, ?_, ?_, ?_, ?_, ?_, ?_, ?_, ?_, ?_, ?_⟩
  · -- DATA_BURST_SEND
    intro d frame hl hs hb hc
    simp only [exec, execDataBurstSend, completes_ticking hr, State.when, inWindow, hl, hs, hb, hc, Bool.and_self, Bool.not_false, decide_true, if_true]
    exact State.dir_setDir_same _ _ _
  · -- CONTROL_BURST_SEND
    intro d cyc hl hs hb hc hc'
    have hx : ((s.land (max 2048 cyc.val)).when (d.val == 1) linkResults).dir d = (s.when (d.val == 1) linkResults).dir d := by
      unfold State.when; split <;> rfl
    have ht : ((s.land (max 2048 cyc.val)).when (d.val == 1) linkResults).tick = s.tick := by
      unfold State.when; split <;> rfl
    simp only [exec, execControlBurstSend, completes_ticking hr, State.when_of, inWindow, hl, hs, hb, hc, hc', Bool.and_self, Bool.not_false, decide_true, hx, ht, burstSend, State.dir_setDir_same, State.setDir_tick]
    generalize (s.when (d.val == 1) linkResults).dir d = x
    obtain ⟨hlen, hwhat, hseq⟩ := numbered_cmds x.cmdSeq s.tick
      ((x.wait.filter (fun e => decide (e.1 ≤ s.tick))).take (ctlRoom d.val - ((linkAgain x s.tick).take (ctlRoom d.val)).length))
    exact ⟨trivial, by rw [hlen], by rw [List.map_append, hwhat], by rw [List.map_append, hseq]⟩
  · -- STITCH_BURST_RECEIVE, an original burst taken
    intro d b hl hs h65 hb hw he hk ht hp
    have hm (x : LinkDir) : tickCheck d.val 0 b.cw (s.setDir d.val x) = s.setDir d.val x :=
      tickCheck_of_match (show _ = recvTick d.val s % 2 ^ 32 by rw [Nat.add_zero, ht, Int.emod_emod])
    have hp' : decide (16 < b.phase) = false := decide_eq_false (Nat.not_lt.mpr hp)
    simp [exec, execStitchBurstReceive, completes_ticking hr, State.when_of, hl, hs, h65, burstOriginal, hb, hw, he, hk, hm, hp',
      State.when_of_not]
  · -- an original burst declared lost
    intro d b hl hs h65 hb hw
    have hbad : (!burstWhole d.val b || Quire.bits b.cw 63 32 != (s.dir d).expect ||
        (Quire.bits b.cw 64 64 == 1) != decide (2048 ≤ b.cyc.val)) = true := by
      simpa only [Bool.or_eq_true, bne_iff_ne, Bool.not_eq_true', or_assoc] using hw
    simp only [exec, execStitchBurstReceive, completes_ticking hr, State.when_of, hl, hs, h65, burstOriginal, hb, hbad, if_true, if_neg (by decide : ¬ (0 : Nat) = 1), Bool.and_self, Bool.false_eq_true, if_false]
    exact State.dir_setDir_same _ _ _
  · -- a replay
    intro d b tk ctl hl hs h65 hw hf ht hc
    have hm (x : LinkDir) : tickCheck d.val (s.tick - tk) b.cw (s.setDir d.val x) = s.setDir d.val x :=
      tickCheck_of_match (show _ = recvTick d.val s % 2 ^ 32 from hc)
    have hlate : ¬ (tk + 1 < s.tick ∨ tk + 1 = s.tick ∧ 2048 ≤ b.cyc.val) := by omega
    simp [exec, execStitchBurstReceive, completes_ticking hr, State.when_of, hl, hs, h65, burstReplayed, hf, hw, hlate, hm]
  · -- BURST_WINDOW_TIMEOUT, windows D and C
    intro d ctl hl hs hb
    cases ctl <;> simp [exec, execBurstWindowTimeout, completes_ticking hr, State.when, hl, hs,  hb, burstLost, hdir]
  · -- window B
    intro d hl hs
    have hx (x : LinkDir) : ((s.setDir d x).land 4160).dir d = x := State.dir_setDir_same _ _ _
    simp [exec, execBurstWindowTimeout, completes_ticking hr, State.when, hl, hs, hx, show ((3 : Fin 4) : Nat) = 3 from rfl]
  · -- window A
    intro d
    simp [exec, execBurstWindowTimeout, completes_ticking hr, State.when]
  · -- RETRY_REQUEST
    intro d bsn b hw hb hr2 ha
    have hn : ((s.dir d).asked.any fun e => e.1 == bsn.val) = false := by simpa using ha
    simp [exec, execRetryRequest, completes_ticking hr, hw, hb, hn, Nat.not_le.mpr hr2]
  · -- BURST_REPLAY
    intro d a hl hs hc
    have hrep := fun (u : State) n => State.fld_bumpBy_counter (n := n) (cnt := F.FLT_LINK_A_LINK_REPLAY d) (sat := F.FLT_LINK_A_RP_SAT d) u
      (show 30 < 32 by decide) (.inr (show 30 < 31 by decide))
    simp [exec, execBurstReplay, completes_ticking hr, State.when, hl, hs, inWindow, hc, hdir, hrep]
  · -- LINK_TRAINING_ANSWER
    intro l hl hv hs
    simp only [exec, execLinkTrainingAnswer, completes_ticking hr, State.when, hl, hv, hs]
    exact lstate_setLstate s l 0
  · -- LANES_TRAINED
    intro l hl hv hs
    have hrecv (d : Fin 4) (hd : d.val / 2 = l.val) : recvTick d.val (aligned l.val s) = s.tick := by
      simp [recvTick, hd, aligned_off, aligned_tick, convClock_shows]
    rw [execLanesTrained_of hr hl hv hs, completes_next]
    split
    · have ht := liveConfig_tells l.val ((setLstate l.val 3 (aligned l s)).setDie l.val { cfg := ((aligned l s).die l.val).cfg })
      refine ⟨?_, fun d hd => ⟨?_, ?_, ?_⟩⟩
      · rw [lstate, State.fld, ht.word]
        exact lstate_setLstate _ l.val 3
      · rw [recvTick, ht.tick, ht.off]
        exact (setLstate_recvTick l.val 3 d (aligned l s)).trans (hrecv d hd)
      · rw [ht.expect]
        exact (congrArg LinkDir.expect (setLstate_dir l.val 3 d (aligned l s))).trans (aligned_dir s hd).1
      · rw [ht.due]
        exact (congrArg LinkDir.due (setLstate_dir l.val 3 d (aligned l s))).trans (aligned_dir s hd).2
    · refine ⟨lstate_setLstate _ l.val 1, fun d hd => ?_⟩
      rw [setLstate_recvTick, setLstate_dir]
      exact ⟨hrecv d hd, aligned_dir s hd⟩
  · -- LIVE_CONFIG_TRANSFER_DONE
    intro l hl hd
    simp only [exec, execLiveConfigTransferDone, completes_ticking hr, State.when, hl, hd]
    exact lstate_setLstate s l 1
  · -- CREDIT_SET_RECEIVE, the count agrees
    intro d seq hl ha hc
    simp [exec, execCreditSetReceive, completes_ticking hr, State.when, hl, ha, hc]
  · -- the count does not agree
    intro d seq ok hl hc
    have hno : ¬ ((ok && decide ((s.dir d).acked ≤ seq) && (s.dir d).cmdSeq == seq + ((s.dir d).cmds.filter (fun c => decide (seq < c.seq))).length) = true) := by
      simp only [Bool.and_eq_true, decide_eq_true_eq, beq_iff_eq, not_and]
      obtain rfl | h | h := hc
      · simp
      · omega
      · exact fun _ => h
    simp only [exec, execCreditSetReceive, completes_ticking hr, State.when_of hl, if_neg hno]
    exact linkDown_shows d.isLt hl
  · -- ECC_WRITE_BACK
    rw [exec, execEccWriteBack, completes_ticking hr]

end Sys2Proof

/-!
Rules for fields by name: a field just written, and one that shares no bit with it.
-/

namespace Sys2Proof.Machine

/-- Two fields share no bit. -/
abbrev Fld.Apart (f g : Fld) : Prop := f.hi < g.lo ∨ g.hi < f.lo ∨ g.addr ≠ f.addr

/-- A field of one bit. -/
abbrev Fld.Flag (f : Fld) : Prop := f.lo = f.hi ∧ f.hi < 32

section

variable (s : State) {f g : Fld}

@[simp] theorem State.fld_setFld_off (v : Nat) (h : f.Apart g) : (s.setFld f v).fld g = s.fld g :=
  State.fld_setFld_apart s v (or_rotate.mpr h)

@[simp] theorem State.on_setFld_off (v : Nat) (h : f.Apart g) : (s.setFld f v).on g = s.on g := by
  rw [State.on, State.fld_setFld_off s v h, State.on]

@[simp] theorem State.int_setFld_off (v : Nat) (h : f.Apart g) : (s.setFld f v).int g = s.int g := by
  rw [State.int, State.fld_setFld_off s v h, State.int]

@[simp] theorem State.fld_setOn_off (b : Bool) (h : f.Apart g) : (s.setOn f b).fld g = s.fld g := State.fld_setFld_off s _ h

@[simp] theorem State.on_setOn_off (b : Bool) (h : f.Apart g) : (s.setOn f b).on g = s.on g := State.on_setFld_off s _ h

@[simp] theorem State.int_setOn_off (b : Bool) (h : f.Apart g) : (s.setOn f b).int g = s.int g := State.int_setFld_off s _ h

@[simp] theorem State.fld_setInt_off (v : Int) (h : f.Apart g) : (s.setInt f v).fld g = s.fld g := State.fld_setFld_off s _ h

@[simp] theorem State.on_setInt_off (v : Int) (h : f.Apart g) : (s.setInt f v).on g = s.on g := State.on_setFld_off s _ h

@[simp] theorem State.fld_bump_off {c : Fld} (h1 : f.Apart c) (h2 : g.Apart c) : (s.bump f g).fld c = s.fld c :=
  State.fld_bump_apart s (or_rotate.mpr h1) (or_rotate.mpr h2)

@[simp] theorem State.on_bump_off {c : Fld} (h1 : f.Apart c) (h2 : g.Apart c) : (s.bump f g).on c = s.on c := by
  rw [State.on, State.fld_bump_off s h1 h2, State.on]

@[simp] theorem State.fld_raise_off {p k : Nat} (h : (F.pgInt p k).Apart g) : (s.raise p k).fld g = s.fld g := State.fld_setFld_off s _ h

@[simp] theorem State.on_raise_off {p k : Nat} (h : (F.pgInt p k).Apart g) : (s.raise p k).on g = s.on g := State.on_setFld_off s _ h

/-- A one-bit field just written. -/
@[simp] theorem State.fld_setFld_one (h : f.Flag) : (s.setFld f 1).fld f = 1 := by
  rw [State.fld_setFld_same s 1 h.2, Fld.width, h.1]
  simp

@[simp] theorem State.on_setFld_one (h : f.Flag) : (s.setFld f 1).on f = true := by
  rw [State.on, State.fld_setFld_one s h]
  rfl

@[simp] theorem State.fld_setFld_zero (h : f.hi < 32) : (s.setFld f 0).fld f = 0 := by
  rw [State.fld_setFld_same s 0 h, Nat.zero_mod]

@[simp] theorem State.on_setFld_zero (h : f.hi < 32) : (s.setFld f 0).on f = false := by
  rw [State.on, State.fld_setFld_zero s h]
  rfl

@[simp] theorem State.fld_setOn_self (b : Bool) (h : f.Flag) : (s.setOn f b).fld f = b.toNat := by
  cases b
  · exact State.fld_setFld_zero s h.2
  · exact State.fld_setFld_one s h

@[simp] theorem State.on_setOn_self (b : Bool) (h : f.Flag) : (s.setOn f b).on f = b := by
  rw [State.on, State.fld_setOn_self s b h]
  cases b <;> rfl

/-- A number that fits a field, written into it. -/
@[simp] theorem State.fld_setFld_fits {v : Nat} (h : f.hi < 32) (hv : v < 2 ^ f.width) : (s.setFld f v).fld f = v := by
  rw [State.fld_setFld_same s v h, Nat.mod_eq_of_lt hv]

/-- A counter just raised holds one more, or all ones (R10). -/
theorem State.fld_bump_counter (hc : f.hi < 32) (hw : f.lo ≤ f.hi) (hd : f.Apart g) :
    (s.bump f g).fld f = min (2 ^ f.width - 1) (s.fld f + 1) :=
  State.fld_bump s hc (by unfold Fld.width; omega) (by
    obtain h | h | h := hd
    · exact .inr (.inr h)
    · exact .inr (.inl h)
    · exact .inl h)

theorem State.on_iff : s.on f = true ↔ s.fld f ≠ 0 := by simp [State.on]

theorem State.not_on_iff : s.on f = false ↔ s.fld f = 0 := by simp [State.on]

@[simp] theorem State.on_report (c i a : Nat) : (s.report c i a).on f = s.on f := by simp [State.on]

/-! `State.post` -/

@[simp] theorem State.post_phase (a : Nat) (w : Word) : (s.post a w).phase = s.phase := by dsimp only [State.post, State.setWord]
@[simp] theorem State.post_supplied (a : Nat) (w : Word) : (s.post a w).supplied = s.supplied := by dsimp only [State.post, State.setWord]
@[simp] theorem State.post_resetLow (a : Nat) (w : Word) : (s.post a w).resetLow = s.resetLow := by dsimp only [State.post, State.setWord]
@[simp] theorem State.post_railsDown (a : Nat) (w : Word) : (s.post a w).railsDown = s.railsDown := by dsimp only [State.post, State.setWord]
@[simp] theorem State.post_ports (a : Nat) (w : Word) : (s.post a w).ports = s.ports := by dsimp only [State.post, State.setWord]
@[simp] theorem State.post_tick (a : Nat) (w : Word) : (s.post a w).tick = s.tick := by dsimp only [State.post, State.setWord]
@[simp] theorem State.post_cyc (a : Nat) (w : Word) : (s.post a w).cyc = s.cyc := by dsimp only [State.post, State.setWord]
@[simp] theorem State.post_shadow (a : Nat) (w : Word) : (s.post a w).shadow = s.shadow := by dsimp only [State.post, State.setWord]
@[simp] theorem State.post_shadowMc (a : Nat) (w : Word) : (s.post a w).shadowMc = s.shadowMc := by dsimp only [State.post, State.setWord]
@[simp] theorem State.post_image (a : Nat) (w : Word) : (s.post a w).image = s.image := by dsimp only [State.post, State.setWord]
@[simp] theorem State.post_imageMc (a : Nat) (w : Word) : (s.post a w).imageMc = s.imageMc := by dsimp only [State.post, State.setWord]
@[simp] theorem State.post_latch (a : Nat) (w : Word) : (s.post a w).latch = s.latch := by dsimp only [State.post, State.setWord]
@[simp] theorem State.post_readData (a : Nat) (w : Word) : (s.post a w).readData = s.readData := by dsimp only [State.post, State.setWord]
@[simp] theorem State.post_portAddr (a : Nat) (w : Word) : (s.post a w).portAddr = s.portAddr := by dsimp only [State.post, State.setWord]
@[simp] theorem State.post_link (a : Nat) (w : Word) : (s.post a w).link = s.link := by dsimp only [State.post, State.setWord]
@[simp] theorem State.post_press (a : Nat) (w : Word) : (s.post a w).press = s.press := by dsimp only [State.post, State.setWord]
@[simp] theorem State.post_flt (a : Nat) (w : Word) : (s.post a w).flt = s.flt := by dsimp only [State.post, State.setWord]
@[simp] theorem State.post_qmg (a : Nat) (w : Word) : (s.post a w).qmg = s.qmg := by dsimp only [State.post, State.setWord]
@[simp] theorem State.post_spine (a : Nat) (w : Word) : (s.post a w).spine = s.spine := by dsimp only [State.post, State.setWord]
@[simp] theorem State.post_next (a : Nat) (w : Word) : (s.post a w).next = s.next := by dsimp only [State.post, State.setWord]
@[simp] theorem State.post_tests (a : Nat) (w : Word) : (s.post a w).tests = s.tests := by dsimp only [State.post, State.setWord]
@[simp] theorem State.post_clk (a : Nat) (w : Word) : (s.post a w).clk = s.clk := by dsimp only [State.post, State.setWord]
@[simp] theorem State.post_pwr (a : Nat) (w : Word) : (s.post a w).pwr = s.pwr := by dsimp only [State.post, State.setWord]
@[simp] theorem State.post_ain (a : Nat) (w : Word) : (s.post a w).ain = s.ain := by dsimp only [State.post, State.setWord]
@[simp] theorem State.post_fch (a : Nat) (w : Word) : (s.post a w).fch = s.fch := by dsimp only [State.post, State.setWord]
@[simp] theorem State.post_svc (a : Nat) (w : Word) : (s.post a w).svc = s.svc := by dsimp only [State.post, State.setWord]
@[simp] theorem State.post_spn (a : Nat) (w : Word) : (s.post a w).spn = s.spn := by dsimp only [State.post, State.setWord]
@[simp] theorem State.post_mix (a : Nat) (w : Word) : (s.post a w).mix = s.mix := by dsimp only [State.post, State.setWord]
@[simp] theorem State.post_srcc (a : Nat) (w : Word) : (s.post a w).srcc = s.srcc := by dsimp only [State.post, State.setWord]
@[simp] theorem State.post_sap (a : Nat) (w : Word) : (s.post a w).sap = s.sap := by dsimp only [State.post, State.setWord]
@[simp] theorem State.post_spd (a : Nat) (w : Word) : (s.post a w).spd = s.spd := by dsimp only [State.post, State.setWord]
@[simp] theorem State.post_fx (a : Nat) (w : Word) : (s.post a w).fx = s.fx := by dsimp only [State.post, State.setWord]
@[simp] theorem State.post_jack (a : Nat) (w : Word) : (s.post a w).jack = s.jack := by dsimp only [State.post, State.setWord]
@[simp] theorem State.post_out (a : Nat) (w : Word) : (s.post a w).out = s.out := by dsimp only [State.post, State.setWord]
@[simp] theorem State.post_cv (a : Nat) (w : Word) : (s.post a w).cv = s.cv := by dsimp only [State.post, State.setWord]
@[simp] theorem State.post_spk (a : Nat) (w : Word) : (s.post a w).spk = s.spk := by dsimp only [State.post, State.setWord]
@[simp] theorem State.post_bst (a : Nat) (w : Word) : (s.post a w).bst = s.bst := by dsimp only [State.post, State.setWord]
@[simp] theorem State.post_time (a : Nat) (w : Word) : (s.post a w).time = s.time := by dsimp only [State.post, State.setWord]
@[simp] theorem State.post_net (a : Nat) (w : Word) : (s.post a w).net = s.net := by dsimp only [State.post, State.setWord]
@[simp] theorem State.post_zkl (a : Nat) (w : Word) : (s.post a w).zkl = s.zkl := by dsimp only [State.post, State.setWord]
@[simp] theorem State.post_nvm (a : Nat) (w : Word) : (s.post a w).nvm = s.nvm := by dsimp only [State.post, State.setWord]
@[simp] theorem State.post_i2c (a : Nat) (w : Word) : (s.post a w).i2c = s.i2c := by dsimp only [State.post, State.setWord]
@[simp] theorem State.post_gpio (a : Nat) (w : Word) : (s.post a w).gpio = s.gpio := by dsimp only [State.post, State.setWord]
@[simp] theorem State.post_jtag (a : Nat) (w : Word) : (s.post a w).jtag = s.jtag := by dsimp only [State.post, State.setWord]
@[simp] theorem State.post_free (a : Nat) (w : Word) : (s.post a w).free = s.free := by dsimp only [State.post, State.setWord]
@[simp] theorem State.post_pending (a : Nat) (w : Word) : (s.post a w).pending = s.pending := by dsimp only [State.post, State.setWord]

theorem State.fld_post_other {a : Nat} {f : Fld} (w : Word) (h : f.addr ≠ a) : (s.post a w).fld f = s.fld f := by
  rw [State.fld, State.word_post_other s w h, State.fld]

theorem State.on_post_other {a : Nat} {f : Fld} (w : Word) (h : f.addr ≠ a) : (s.post a w).on f = s.on f := by
  rw [State.on, State.fld_post_other s w h, State.on]

end

end Sys2Proof.Machine

/-!
The analog inputs as their converter side returns or restarts (R107, R118, R126): which registers and parts change.
-/

namespace Sys2Proof.Machine

section

variable {β : Type} {ws : Nat → Prop} {E : State → β} {s0 s : State}

/-- A reading that shows nothing of the analog inputs or of the filter chain. -/
def HidesInputs (E : State → β) : Prop := ∀ (u : State) a f, E { u with ain := a, fch := f } = E u

theorem State.setAch_only {n : Nat} {x : AinCh} (hE : HidesInputs E) (h : Only ws E s0 s) : Only ws E s0 (s.setAch n x) :=
  h.update rfl (hE { s with regs := [] } _ s.fch)

theorem audStart_only {d : Nat} (hE : HidesInputs E) (h : Only ws E s0 s) : Only ws E s0 (audStart d s) :=
  h.update rfl (hE { s with regs := [] } s.ain _)

theorem guardShow_only {n : Nat} (hw : ws (Adr.AIN_STATUS n)) (h : Only ws E s0 s) : Only ws E s0 (guardShow n s) := by
  unfold guardShow
  exact State.setFld_only hw h

theorem matchEnter_only {n v : Nat} (hE : HidesInputs E) (hw : ws (Adr.AIN_MATCH_STAT n)) (hi : ws (Pg.ain n * 4096 + 16))
    (h : Only ws E s0 s) : Only ws E s0 (matchEnter n v s) := by
  unfold matchEnter
  exact .when (fun s h1 => State.raise_only hi h1) (State.setFld_only hw (State.setAch_only hE h))

theorem matchAcquire_only {n : Nat} (hE : HidesInputs E) (hw : ws (Adr.AIN_MATCH_STAT n)) (hi : ws (Pg.ain n * 4096 + 16))
    (h : Only ws E s0 s) : Only ws E s0 (matchAcquire n s) := by
  unfold matchAcquire matchSeek
  exact matchEnter_only hE hw hi h

theorem ainRestart_only {n : Nat} (hE : HidesInputs E) (hw : ws (Adr.AIN_STATUS n)) (h : Only ws E s0 s) :
    Only ws E s0 (ainRestart n s) := by
  unfold ainRestart
  exact guardShow_only hw (State.setAch_only hE h)

/-- The pages of the analog inputs. -/
def InputPages (a : Nat) : Prop := 0x10000 ≤ a ∧ a < 0x30000

theorem ainReturn_only (hE : HidesInputs E) (h : Only InputPages E s0 s) : Only InputPages E s0 (ainReturn s) := by
  unfold ainReturn
  refine .each (fun n hn s h => .ite h (audStart_only hE (matchAcquire_only hE ?_ ?_ h))) h <;>
    simp only [InputPages, Adr.AIN_MATCH_STAT, Pg.ain] <;> omega

theorem inputsFollow_only {had : Bool} (hE : HidesInputs E) (h : Only InputPages E s0 s) :
    Only InputPages E s0 (inputsFollow had s) := by
  unfold inputsFollow
  refine .ite (ainReturn_only hE h) (.each (fun n hn s h => .ite h (ainRestart_only hE ?_ h)) h)
  simp only [InputPages, Adr.AIN_STATUS]
  omega

end

end Sys2Proof.Machine

/-!
The commands of references, PLLs and the servo (R66-R83).
-/

namespace Sys2Proof.Machine

/-- The end of a search that locked (R66). -/
theorem pllLock_shows {i band : Nat} {s : State} :
    pllLocked i (pllLock i band s) = true ∧ (pllLock i band s).fld (F.CLK_PLL_STAT_BAND i) = pllBand i band s % 64 ∧
    pllState i (pllLock i band s) = 2 := by
  simp (disch := simp +arith [Fld.Apart, Fld.Flag, F.CLK_PLL_STAT_LOCK, F.CLK_PLL_STAT_LOCK_FAIL, F.CLK_PLL_STAT_BAND, pllBit,
    Adr.CLK_PLL_STAT, Adr.CLK_STATUS]) [pllLock, pllLocked, pllSearched, setPll, pllState, SMap.get_set_same,
    State.fld_setFld_same]
  rfl

/-- The band shown is the one that the search stopped at, between the bounds (R66). -/
theorem pllBand_between {i band : Nat} {s : State} (hb : band < 64) (h : s.fld (F.CLK_PLL_CFG_BAND_FLOOR i) ≤ s.fld (F.CLK_PLL_CFG_BAND_CEIL i)) :
    pllBand i band s % 64 = clampNat (s.fld (F.CLK_PLL_CFG_BAND_FLOOR i)) (s.fld (F.CLK_PLL_CFG_BAND_CEIL i)) band := by
  have hc : s.fld (F.CLK_PLL_CFG_BAND_CEIL i) < 64 := s.fld_lt _
  unfold pllBand clampNat
  dsimp only
  split <;> omega

/-- The end of a search that failed for good (R66, R75). -/
theorem pllFail_shows {i band : Nat} {s : State} :
    pllState i (pllFail i band s) = 3 ∧ (pllFail i band s).fld (F.CLK_PLL_STAT_LOCK_FAIL i) = 1 ∧
    (∀ j, pllLocked j (pllFail i band s) = pllLocked j s) ∧ Reported s (pllFail i band s) (0x2108 + i) 0 0 := by
  simp (disch := simp +arith [Fld.Apart, Fld.Flag, F.CLK_PLL_STAT_LOCK_FAIL, F.CLK_PLL_STAT_LOCK, F.CLK_PLL_STAT_PINNED, F.CLK_PLL_STAT_AT_CEIL,
    F.CLK_PLL_STAT_AT_FLOOR]) [Reported, pllFail, pllLocked, pllSearched, setPll, pllState, SMap.get_set_same]

/-- A search begins (R66). -/
theorem pllStart_shows {i : Nat} {auto : Bool} {s : State} :
    pllLocked i (pllStart i auto s) = false ∧ pllState i (pllStart i auto s) = 1 ∧
    ∀ f : Fld, f.addr ≠ Adr.CLK_STATUS → (F.CLK_PLL_STAT_LOCK i).Apart f → (pllStart i auto s).fld f = s.fld f := by
  refine ⟨?_, ?_, fun f h1 h2 => ?_⟩
  · simp +arith (disch := simp +arith [Fld.Apart, F.CLK_PLL_STAT_LOCK, pllBit, Adr.CLK_PLL_STAT, Adr.CLK_STATUS]) [pllStart, pllLocked, setPll]
  · simp [pllStart, pllState, setPll, SMap.get_set_same]
  · rw [pllStart, State.fld_setFld_off _ _ (.inr (.inr h1)), State.fld_mk, fldOf_regs, State.fld_setFld_off _ _ h2]
    rfl

/-- A PLL away from lock waits for the ramps, PLL_N searches at once (R75). -/
theorem pllAway_shows {i : Nat} {auto : Bool} {s : State} :
    pllLocked i (pllAway i auto s) = false ∧ pllState i (pllAway i auto s) = (if i = 3 then 1 else 4) ∧
    ∀ f : Fld, f.addr ≠ Adr.CLK_STATUS → (F.CLK_PLL_STAT_LOCK i).Apart f → (pllAway i auto s).fld f = s.fld f := by
  obtain ⟨hl, hs, hf⟩ := pllStart_shows (i := i) (auto := auto) (s := s)
  unfold pllAway
  split
  · exact ⟨hl, hs, hf⟩
  · exact ⟨hl, by simp [pllState, setPll, SMap.get_set_same], hf⟩

/-- A RELOCK bit written while the PLL neither locks nor is kept off (R75). -/
theorem pllRelock_shows {i : Nat} {s : State} (h1 : pllState i s ≠ 1) (h4 : pllState i s ≠ 4) (hk : pllKept i s = false) :
    pllState i (pllRelock i s) = (if i = 3 then 1 else 4) ∧ pllLocked i (pllRelock i s) = false ∧
    (pllRelock i s).fld (F.CLK_PLL_STAT_LOCK_FAIL i) = 0 := by
  obtain ⟨hl, hs, -⟩ := pllAway_shows (i := i) (auto := false) (s := s)
  have hf : (F.CLK_PLL_STAT_LOCK_FAIL i).Apart (F.CLK_PLL_STAT_LOCK i) := .inr (.inl (show 8 < 12 by decide))
  rw [pllRelock, if_neg (by simp [h1, h4, hk])]
  exact ⟨by rw [pllState, State.setFld_clk, ← pllState, hs], (State.on_setFld_off _ _ hf).trans hl,
    State.fld_setFld_zero _ (show 12 < 32 by decide)⟩

@[simp] theorem pllAway_flt {i : Nat} {auto : Bool} {s : State} : (pllAway i auto s).flt = s.flt := by
  by_cases h : i = 3 <;> simp [pllAway, pllStart, setPll, h]

/-- An unlock is counted and logged, and the PLL relocks on its own (R75). -/
theorem pllUnlock_shows {i : Nat} {s : State} (hl : pllLocked i s = true) :
    pllLocked i (pllUnlock i s) = false ∧ pllState i (pllUnlock i s) = (if i = 3 then 1 else 4) ∧
    Counted s (pllUnlock i s) (F.CLK_PLL_STAT_UNLOCK_CNT i) ∧ Reported s (pllUnlock i s) (0x2103 + i) 0 0 := by
  have hc : (F.CLK_PLL_STAT_UNLOCK_CNT i).Apart (F.CLK_PLL_STAT_UNLOCK_SAT i) := .inl (show 30 < 31 by decide)
  obtain ⟨hlock, hstate, hfld⟩ := pllAway_shows (i := i) (auto := true)
    (s := s.bump (F.CLK_PLL_STAT_UNLOCK_CNT i) (F.CLK_PLL_STAT_UNLOCK_SAT i))
  have hcnt := (hfld (F.CLK_PLL_STAT_UNLOCK_CNT i)
    (by simp +arith [F.CLK_PLL_STAT_UNLOCK_CNT, Adr.CLK_PLL_STAT, Adr.CLK_STATUS]) (.inl (show 8 < 16 by decide))).trans
    (State.fld_bump_counter s (show 30 < 32 by decide) (show 16 ≤ 30 by decide) hc)
  unfold pllUnlock State.when
  simp only [hl, Bool.not_true, Bool.false_eq_true, if_false]
  split <;> exact ⟨hlock, hstate, hcnt, by simp [Reported, tickClockErr]⟩

theorem servoShow_hold (s : State) :
    (servoShow s).fld F.CLK_SERVO_STAT_HOLD = (s.on F.CLK_SERVO_CFG_SERVO_EN && servoHold s).toNat := by
  simp (disch := decide) [servoShow]

theorem servoShow_steer (s : State) : (servoShow s).fld F.CLK_STEER_STEER = s.fld F.CLK_STEER_STEER := by
  simp (disch := decide) [servoShow]

theorem servoShow_clk (s : State) : (servoShow s).clk = s.clk := by
  simp [servoShow]

/-- Whether the servo holds does not depend on what it shows itself. -/
theorem servoHold_congr {s t : State}
    (h : ∀ a, a ≠ Adr.CLK_SERVO_ERR → a ≠ Adr.CLK_STEER → a ≠ Adr.CLK_SERVO_STAT → t.word a = s.word a) : servoHold t = servoHold s := by
  have hf (f : Fld) (h1 : f.addr ≠ Adr.CLK_SERVO_ERR) (h2 : f.addr ≠ Adr.CLK_STEER) (h3 : f.addr ≠ Adr.CLK_SERVO_STAT) :
      t.fld f = s.fld f := by rw [State.fld, h _ h1 h2 h3, State.fld]
  have hsap (p : Nat) : t.fld (F.SAP_STAT_PSTATE p) = s.fld (F.SAP_STAT_PSTATE p) :=
    hf _ (by simp +arith [F.SAP_STAT_PSTATE, Adr.SAP_STAT, Adr.CLK_SERVO_ERR]) (by simp +arith [F.SAP_STAT_PSTATE, Adr.SAP_STAT, Adr.CLK_STEER])
      (by simp +arith [F.SAP_STAT_PSTATE, Adr.SAP_STAT, Adr.CLK_SERVO_STAT])
  have hspd (p : Nat) : t.fld (F.SPDI_STAT_PSTATE p) = s.fld (F.SPDI_STAT_PSTATE p) :=
    hf _ (by simp +arith [F.SPDI_STAT_PSTATE, Adr.SPDI_STAT, Adr.CLK_SERVO_ERR]) (by simp +arith [F.SPDI_STAT_PSTATE, Adr.SPDI_STAT, Adr.CLK_STEER])
      (by simp +arith [F.SPDI_STAT_PSTATE, Adr.SPDI_STAT, Adr.CLK_SERVO_STAT])
  unfold servoHold servoReady State.on
  simp (disch := decide) only [hf, hsap, hspd]

theorem clampNat_between {lo hi v : Nat} (h : lo ≤ hi) : lo ≤ clampNat lo hi v ∧ clampNat lo hi v ≤ hi := by
  unfold clampNat
  omega

theorem steerClamp_lt (v : Nat) (s : State) : steerClamp v s < 2 ^ 24 := by
  have hlo : s.fld F.CLK_STEER_FLOOR_STEER_FLOOR < 2 ^ 24 := s.fld_lt _
  have hhi : s.fld F.CLK_STEER_CEIL_STEER_CEIL < 2 ^ 24 := s.fld_lt _
  unfold steerClamp clampNat
  dsimp only
  split <;> omega

/-- A phase sample while the servo runs (R81-R83). -/
theorem servoSample_shows {err : Int} {s : State} (hen : s.on F.CLK_SERVO_CFG_SERVO_EN = true) (ht : s.tick % 1024 = 0)
    (hh : servoHold s = false) :
    (servoSample err s).fld F.CLK_SERVO_STAT_HOLD = 0 ∧
    (servoSample err s).clk.servoGood = (if -100 ≤ servoPhase err s ∧ servoPhase err s ≤ 100 then min 16 (s.clk.servoGood + 1) else 0) ∧
    (∃ v, s.fld F.CLK_STEER_STEER - s.fld F.CLK_SERVO_CFG_STEER_SLEW ≤ v ∧
      v ≤ s.fld F.CLK_STEER_STEER + s.fld F.CLK_SERVO_CFG_STEER_SLEW ∧ (servoSample err s).fld F.CLK_STEER_STEER = steerClamp v s) := by
  have hpost (f : Fld) (w : Word) (h : f.addr ≠ Adr.CLK_SERVO_ERR) := State.fld_post_other s w h
  have hrep (c : Bool) (u : State) (f : Fld) : (u.when c (State.report 0x210D 0 0)).fld f = u.fld f := by
    unfold State.when; split <;> simp
  have hclk (c : Bool) (u : State) : (u.when c (State.report 0x210D 0 0)).clk = u.clk := by
    unfold State.when; split <;> simp
  have hclamp (v : Nat) (w : Word) : steerClamp v (s.post Adr.CLK_SERVO_ERR w) = steerClamp v s := by
    simp (disch := decide) only [steerClamp, hpost]
  rw [servoSample, if_neg (by simp [hen, ht]), if_neg (by simp [hh])]
  dsimp only
  simp only [hrep, hclk, servoShow_hold, servoShow_steer, servoShow_clk]
  refine ⟨?_, ?_, ?_⟩
  · rw [servoHold_congr (s := s), hh, Bool.and_false]
    · rfl
    · intro a h1 h2 h3
      rw [State.setOn, State.word_setFld_other _ _ h3, State.word_setFld_other _ _ h2]
      exact State.word_post_other s _ h1
  · simp
  · refine ⟨_, ?_, ?_, (State.fld_setOn_off _ _ (by decide)).trans ((State.fld_setFld_fits _ (by decide) ?_).trans (hclamp _ _))⟩
    · rw [hpost _ _ (by decide), hpost _ _ (by decide)]
      exact (clampNat_between (by omega)).1
    · rw [hpost _ _ (by decide), hpost _ _ (by decide)]
      exact (clampNat_between (by omega)).2
    · exact hclamp _ _ ▸ steerClamp_lt _ s

/-- A phase sample while the servo holds (R83). -/
theorem servoSample_hold {err : Int} {s : State} (hen : s.on F.CLK_SERVO_CFG_SERVO_EN = true) (ht : s.tick % 1024 = 0)
    (hh : servoHold s = true) :
    (servoSample err s).fld F.CLK_SERVO_STAT_HOLD = 1 ∧ (servoSample err s).fld F.CLK_STEER_STEER = s.fld F.CLK_STEER_STEER := by
  rw [servoSample, if_neg (by simp [hen, ht]), if_pos hh, servoShow_hold, servoShow_steer]
  have hc : servoHold ({ s with clk := { s.clk with servoGood := 0 } }.setFld F.CLK_SERVO_STAT_LOCKED 0) = true := 
    (servoHold_congr (fun a _ _ h => State.word_setFld_other _ _ h)).trans hh
  simp (disch := decide) [hc, hen]

end Sys2Proof.Machine
namespace Sys2Proof
open Machine
/-- Settles O19, command by command: what a search, an unlock, a relock and a phase sample leave, and the fields that a lost or switched
reference shows. -/
theorem clockCommandsComplete : Obligations.ClockCommandsComplete := by
  intro s
  refine ⟨?_, ?_, ?_, ?_, ?_, ?_, ?_, ?_, ?_, ?_, ?_, ?_, ?_, ?_, ?_, ?_, ?_⟩
  · intro edges x hr hw hx hg hok hact hslew hwait
    subst hx
    cases hsel : s.on F.CLK_REF_CFG_REF_SEL <;>
      simp (disch := decide) [exec, execRefQualWindow, completes_ticking hr, refWindow, hw, hg, slewShow, State.when, hact, hslew, hwait, hsel]
  · intro edges x hr hw hx hg
    subst hx
    have hn : min 16 (s.clk.refGood + 1) = s.clk.refGood + 1 := by omega
    have hlt : s.clk.refGood + 1 < 16 := by omega
    cases hsel : s.on F.CLK_REF_CFG_REF_SEL <;>
      simp (disch := decide) [exec, execRefQualWindow, completes_ticking hr, refWindow, hw, hn, hlt, State.when, hsel]
  · intro edges x hr hw hg hok
    by_cases hp : SMap.get (fun _ => 0) s.clk.pll 3 = 0 <;>
      simp (disch := decide) [exec, execRefQualWindow, completes_ticking hr, nrefWindow, hw, hg, State.when, hok, hp, pllState, pllStart,
        setPll, pllBit, SMap.get_set_same]
  · intro hr hact
    simp (disch := decide) [exec, execRefLoss, Reported, completes_ticking hr, refLost, hact, State.when, holdover, refRestart, tickClockErr]
  · intro hr hact hok
    simp (disch := decide) [exec, execRefLoss, Reported, completes_ticking hr, refLost, hact, hok, State.when, refRestart, tickClockErr]
  · intro hr hsl hok hact hrate
    simp (disch := decide) [exec, execIoscSlewDone, completes_ticking hr, slewShow, hsl, hok, hact, hrate]
  · intro hr hwait hpre hps
    have hsel (t : State) : (t.setFld F.CLK_STATUS_REF_ACT (s.fld F.CLK_REF_CFG_REF_SEL)).fld F.CLK_STATUS_REF_ACT = s.fld F.CLK_REF_CFG_REF_SEL :=
      State.fld_setFld_fits t (by decide) (Nat.lt_trans (s.fld_lt F.CLK_REF_CFG_REF_SEL) (by decide))
    simp (disch := decide) [exec, execRefSwitch, completes_ticking hr, refSwitch, hwait, hpre, hps, State.when, pllState, pllStart, setPll,
      pllBit, SMap.get_set_same, SMap.get_set_other, hsel]
  · intro pll band hr hp
    obtain ⟨hl, hb, hs⟩ := pllLock_shows (i := pll.val + 1) (band := band) (s := s)
    simp only [exec, execPllLock, completes_ticking hr, pllResult, hp, ne_eq, not_true_eq_false, if_true, if_false]
    generalize pllLock (pll.val + 1) band.val s = t at hl hb hs
    have hE : HidesInputs State.clk := fun _ _ _ => rfl
    have hdie {u : State} {l : Nat} (h : Only InputPages State.clk t u) : Only InputPages State.clk t (dieAlign l u) := h.update rfl rfl
    generalize ho : (((t.when _ _).when _ _).when _ _) = u
    have hu : Only InputPages State.clk t u := ho ▸ .when (fun _ h => hdie h) (.when (fun _ h => hdie h)
      (.when (fun _ h => inputsFollow_only hE h) (.refl t)))
    have hf (f : Fld) (h : f.addr = Adr.CLK_PLL_STAT (pll.val + 1)) : u.fld f = t.fld f :=
      hu.fld (by rw [h]; simp only [InputPages, Adr.CLK_PLL_STAT]; omega)
    refine ⟨?_, ?_, fun hle => ?_⟩
    · rw [pllLocked, State.on, hf _ rfl]
      exact hl
    · rw [pllState, show u.clk = t.clk from hu.rest]
      exact hs
    · rw [hf _ rfl, hb, pllBand_between band.isLt hle]
  · intro pll band hr hp ha
    obtain ⟨hs, hf, hl, hrep⟩ := pllFail_shows (i := pll.val + 1) (band := band) (s := s)
    simpa [exec, execPllLock, completes_ticking hr, pllResult, hp, ha, hl, State.when_of_not] using ⟨hs, hf, hrep⟩
  · intro sel hp hs
    have hv : sel.val % 2 = sel.val := by omega
    have hw (t : State) : (t.setFld F.CLK_REF_CFG_REF_SEL sel.val).fld F.CLK_REF_CFG_REF_SEL = sel.val :=
      State.fld_setFld_fits t (by decide) sel.isLt
    by_cases hact : s.fld F.CLK_STATUS_REF_ACT = 2 <;>
      simp (disch := decide) [exec, execRefSelChange, completes_heard hp, refSelect, hs, hv, hw, hact, holdover, refRestart]
  · intro pll hr hl
    have h2 : pll = 2 ↔ pll.val + 1 = 3 := by omega
    simp only [exec, execPllUnlock, completes_ticking hr, h2]
    exact pllUnlock_shows hl
  · intro hp h1 h4 hk
    rw [exec, execRelockM, completes_heard hp]
    exact pllRelock_shows h1 h4 hk
  · intro hp h1 h4 hk
    rw [exec, execRelockP, completes_heard hp]
    exact pllRelock_shows h1 h4 hk
  · intro hp h1 h4
    rw [exec, execRelockN, completes_heard hp]
    exact pllRelock_shows h1 h4 rfl
  · intro cyc err hr hen ht hh
    rw [exec, execServoSample, completes_ticking hr]
    exact servoSample_shows hen ht hh
  · intro cyc err hr hen ht hh
    rw [exec, execServoSample, completes_ticking hr]
    exact servoSample_hold hen ht hh
  · intro hr hok
    simp (disch := decide) [exec, execNrefLoss, Reported, completes_ticking hr, nrefWindow, State.when, windowGood, hok]
end Sys2Proof

/-!
What a port that loses its link, and a stitch link that goes down, leave alone (R25, R421, R437).
-/

namespace Sys2Proof.Machine

section

variable {β : Type} {ws : Nat → Prop} {E : State → β} {s0 s : State}

/-- A reading that shows nothing of the queues, the network and the fault manager. -/
def HidesNet (E : State → β) : Prop := ∀ (u : State) q n f, E { u with qmg := q, net := n, flt := f } = E u

/-- The registers of the queue manager and the network lie among those that change. -/
def NetRegs (ws : Nat → Prop) : Prop := ∀ a, 0x100000 ≤ a → ws a

/-- An address made of a base in those pages and an offset. -/
theorem NetRegs.add {b : Nat} (hw : NetRegs ws) (hb : 0x100000 ≤ b) (k : Nat) : ws (b + k) := hw _ (Nat.le_add_right_of_le hb)

variable (hw : NetRegs ws) (hE : HidesNet E)

include hE in
theorem HidesNet.qmg_only (h : Only ws E s0 s) (q : QmgSt) : Only ws E s0 { s with qmg := q } :=
  h.update rfl (hE { s with regs := [] } q s.net s.flt)

include hE in
theorem HidesNet.net_only (h : Only ws E s0 s) (n : NetSt) : Only ws E s0 { s with net := n } :=
  h.update rfl (hE { s with regs := [] } s.qmg n s.flt)

include hE in
theorem State.setQueue_only {q : Nat} {x : Queue} (h : Only ws E s0 s) : Only ws E s0 (s.setQueue q x) := hE.qmg_only h _

include hE in
theorem State.setPrt_only {p : Nat} {x : PortSt} (h : Only ws E s0 s) : Only ws E s0 (s.setPrt p x) := hE.net_only h _

include hw in
theorem qXoff_only {q : Nat} (h : Only ws E s0 s) : Only ws E s0 (qXoff q s) := by
  have hq : ws (Adr.QMG_QSTAT q) := hw.add (by decide) _
  have hp : ws (Pg.qmg * 4096 + 16) := hw _ (by decide)
  unfold qXoff
  exact .ite (.ite (State.raise_only hp (State.setFld_only hq h)) h) (.ite (State.raise_only hp (State.setFld_only hq h)) h)

include hw hE

theorem qFree_only {q : Nat} {cells : List Nat} (h : Only ws E s0 s) : Only ws E s0 (qFree q cells s) := by
  unfold qFree
  exact .ite h (qXoff_only hw (hE.qmg_only (State.setQueue_only hE h) _))

theorem qSettle_only {q : Nat} (h : Only ws E s0 s) : Only ws E s0 (qSettle q s) := by
  unfold qSettle
  dsimp only
  split
  · exact h
  · exact qFree_only hw hE (State.setQueue_only hE h)

theorem netDiscard_only {p q : Nat} (h : Only ws E s0 s) : Only ws E s0 (netDiscard p q s) := by
  unfold netDiscard
  split
  · exact h
  · exact .ite (qSettle_only hw hE (State.setQueue_only hE h)) (State.setPrt_only hE h)

theorem txDrop_only {p : Nat} {t : Option TxFrame} (h : Only ws E s0 s) : Only ws E s0 (txDrop p t s) := by
  unfold txDrop
  split
  · exact .when (fun s h => netDiscard_only hw hE h) h
  · exact h

theorem portVerify_only {p : Nat} (h : Only ws E s0 s) : Only ws E s0 (portVerify p s) := by
  have hp : ws (Adr.PORT_STAT p) := hw.add (by decide) _
  have h1 (x : PortSt) := State.setPrt_only (p := p) (x := x) hE h
  unfold portVerify
  exact .ite (State.setFld_only hp (State.setFld_only hp (h1 _))) (.ite (State.setFld_only hp (State.setFld_only hp (h1 _)))
    (State.setFld_only hp (State.setFld_only hp (h1 _))))

theorem prePress_only {p : Nat} (h : Only ws E s0 s) : Only ws E s0 (prePress p s) := by
  unfold prePress
  exact .ite h (.when (fun s h => portVerify_only hw hE h) (State.setPrt_only hE h))

theorem portLose_only {p : Nat} (h : Only ws E s0 s) : Only ws E s0 (portLose p s) := by
  have hp : ws (Adr.PORT_STAT p) := hw.add (by decide) _
  have hc : ws (Adr.PORT_CNT5 p) := hw.add (by decide) _
  unfold portLose
  exact prePress_only hw hE (State.bumpBy_only hc hc (State.setFld_only hp (txDrop_only hw hE (txDrop_only hw hE
    (State.setPrt_only hE h)))))

theorem brDrop_only {f : BrEnt → Bool} (h : Only ws E s0 s) : Only ws E s0 (brDrop f s) := by
  have hb : ws Adr.NET_BR_STAT := hw _ (by decide)
  unfold brDrop brPut
  exact .eachOf (fun e _ s h => State.setFld_only hb (hE.net_only h _)) h

theorem portLinkDown_only {p : Nat} (h : Only ws E s0 s) : Only ws E s0 (portLinkDown p s) := by
  have hp : ws (Adr.PORT_STAT p) := hw.add (by decide) _
  have hi : ws (Pg.port p * 4096 + 16) := hw _ (by unfold Pg.port; omega)
  unfold portLinkDown
  exact .ite h (portVerify_only hw hE (brDrop_only hw hE (portLose_only hw hE (State.raise_only hi (State.report_only
    (fun u r => hE u u.qmg u.net _) (State.setFld_only hp h))))))

end

section

variable {β : Type} {ws : Nat → Prop} {E : State → β} {s0 s : State}

/-- A reading that shows nothing of the stitch links, the supervisory converters and the fault manager. -/
def HidesLinks (E : State → β) : Prop := ∀ (u : State) l v f, E { u with link := l, svc := v, flt := f } = E u

theorem setLstate_only {l v : Nat} (h0 : ws (Adr.FLT_LINK_B (2 * l))) (h1 : ws (Adr.FLT_LINK_B (2 * l + 1))) (h : Only ws E s0 s) :
    Only ws E s0 (setLstate l v s) :=
  State.setFld_only h1 (State.setFld_only h0 h)

theorem linkDown_only {d code : Nat} (hw : LogRegs ws) (hE : HidesLinks E) (h0 : ws (Adr.FLT_LINK_B (2 * (d / 2))))
    (h1 : ws (Adr.FLT_LINK_B (2 * (d / 2) + 1))) (h : Only ws E s0 s) : Only ws E s0 (linkDown d code s) := by
  have hd : ws (Adr.FLT_LINK_B d) := by
    obtain e | e : d = 2 * (d / 2) ∨ d = 2 * (d / 2) + 1 := by omega
    · rw [e]; exact h0
    · rw [e]; exact h1
  have hlink {u : State} (h : Only ws E s0 u) (l : LinkSt) : Only ws E s0 { u with link := l } :=
    h.update rfl (hE { u with regs := [] } l u.svc u.flt)
  have hdir {u : State} {e : Nat} {x : LinkDir} (h : Only ws E s0 u) : Only ws E s0 (u.setDir e x) := hlink h _
  have hsvc {u : State} (h : Only ws E s0 u) (v : SvcSt) : Only ws E s0 { u with svc := v } :=
    h.update rfl (hE { u with regs := [] } u.link v u.flt)
  unfold linkDown
  refine .ite h (logReport_only hw (fun u f => hE u u.link u.svc f) (State.bump_only hd hd (.ite (hsvc ?_ _) ?_))) <;>
    exact hlink (hdir (hdir (setLstate_only h0 h1 h))) _

end

end Sys2Proof.Machine

/-!
Reset, loss of a die's supply, lock of PLL_C and the rails (R25, R39, R42, R68, R69, R76, R85-R93, R575, R576).
-/

namespace Sys2Proof.Machine

variable (s : State)

/-! What a reset leaves. -/

theorem jCut_only {β : Type} {E : State → β} {s0 s : State} {stage : Nat} (hE : ∀ (u : State) r, E { u with nvm := { u.nvm with recs := r } } = E u)
    (h : Only (· = Adr.NVM_JSEQ) E s0 s) : Only (· = Adr.NVM_JSEQ) E s0 (jCut stage s) := by
  have hrec {u : State} (h : Only (· = Adr.NVM_JSEQ) E s0 u) (r : List JRec) :
      Only (· = Adr.NVM_JSEQ) E s0 { u with nvm := { u.nvm with recs := r } } := h.update rfl (hE { u with regs := [] } r)
  have hwrite {c : JCmd} {p : Nat} : Only (· = Adr.NVM_JSEQ) E s0 (jCutWrite c p stage s) := by
    unfold jCutWrite jWrite jSupersede jPut
    exact .ite h (.ite (State.setFld_only rfl (hrec (hrec h _) _)) (hrec h _))
  unfold jCut
  split
  · exact h
  · refine .ite ?_ (.ite h (.ite (hrec h _) (.ite (hrec h _) h)))
    split
    · exact hwrite
    · exact h

theorem nvmCollapse_word {stage a : Nat} (h : a ≠ Adr.NVM_JSEQ) : (nvmCollapse stage s).word a = s.word a := by
  have hj (u : State) : (jCut stage u).word a = u.word a := (jCut_only (E := fun _ => ()) (fun _ _ => rfl) (.refl u)).word a h
  have ho (i : Nat) (w : OtpWord) : (otpPush i w s).word a = s.word a := by
    unfold otpPush State.when
    split <;> rfl
  unfold nvmCollapse
  refine (hj _).trans ?_
  split
  · exact ho _ _
  · rfl

theorem nvmCollapse_otp {stage : Nat} {s : State} (h : s.nvm.otpBusy = none) : (nvmCollapse stage s).nvm.otp = s.nvm.otp := by
  unfold nvmCollapse
  simp only [h]
  exact (jCut_only (E := fun u => u.nvm.otp) (fun _ _ => rfl) (.refl s)).rest

/-- Registers that no reset keeps read their reset values; PWR_RST_CAUSE keeps its word, PWR_STATUS its IO_LEVEL (R576). -/
theorem resetAll_word {stage a : Nat} (h1 : a ≠ Adr.PWR_RST_CAUSE) (h2 : a ≠ Adr.PWR_STATUS) : (resetAll stage s).word a = resetWord a := by
  unfold resetAll
  rw [State.word_setFld_other _ _ h2, State.word_setWord_other _ _ h1]
  rfl

theorem resetAll_cause {stage : Nat} : (resetAll stage s).word Adr.PWR_RST_CAUSE = s.word Adr.PWR_RST_CAUSE := by
  unfold resetAll
  rw [State.word_setFld_other _ _ (by decide), State.word_setWord_same, nvmCollapse_word s (by decide)]

theorem resetAll_left {stage : Nat} : ResetLeft s (resetAll stage s) := by
  have hsh := resetAll_shell stage s
  simp only [State.shell, Shell.mk.injEq] at hsh
  obtain ⟨h1, -, -, -, h2, h3, h4⟩ := hsh
  refine ⟨h1, h3, ?_, h2, h4, fun a => resetAll_word s, ?_⟩
  · simp [resetAll, State.reset]
  · simp [resetAll, State.reset]

/-- A cause latched on top of a reset. -/
theorem ResetLeft.causeSet {s t : State} {b : Nat} (h : ResetLeft s t) : ResetLeft s (causeSet b t) := by
  obtain ⟨h1, h2, h3, h4, h5, hw, h6⟩ := h
  refine ⟨by simpa [Machine.causeSet] using h1, by simpa [Machine.causeSet] using h2, by simpa [Machine.causeSet] using h3,
    by simpa [Machine.causeSet] using h4, by simpa [Machine.causeSet] using h5, fun a ha hb => ?_, by simpa [Machine.causeSet] using h6⟩
  rw [Machine.causeSet, State.word_setFld_other _ _ ha, hw a ha hb]

/-- What lies behind the supplies, and the pins, are no part of what a reset leaves. -/
theorem ResetLeft.data {s t : State} {clk pwr jtag low down} (h : ResetLeft s t) :
    ResetLeft s { t with clk := clk, pwr := pwr, jtag := jtag, resetLow := low, railsDown := down } := h

/-- Of the state before, only the queue matters. -/
theorem ResetLeft.of_pending {s u t : State} (h : ResetLeft u t) (e : u.pending = s.pending) : ResetLeft s t := by
  unfold ResetLeft at *
  rwa [← e]

theorem ResetLeft.cold {s t : State} {v : Nat} {w : Word} (h : ResetLeft s t) :
    ResetLeft s ((t.setFld F.PWR_STATUS_IO_LEVEL v).setWord Adr.PWR_RST_CAUSE w) := by
  obtain ⟨h1, h2, h3, h4, h5, hw, h6⟩ := h
  refine ⟨by simpa using h1, by simpa using h2, by simpa using h3, by simpa using h4, by simpa using h5, fun a ha hb => ?_, by simpa using h6⟩
  rw [State.word_setWord_other _ _ ha, State.word_setFld_other _ _ hb, hw a ha hb]

theorem causeSet_cause (b : Nat) (s : State) : (causeSet b s).word Adr.PWR_RST_CAUSE = (s.word Adr.PWR_RST_CAUSE).put b b 1 := by
  simp [causeSet, State.setFld]

/-- A supplied die of a part held in reset shows its reset column, a die without supply the unpowered one (R39). -/
theorem State.pin_of_held {s : State} (p : Pin) (c : PinAt) (h : s.phase = .held) :
    s.pin p c = if s.supplied.testBit p.die then p.inReset else p.unpowered := by
  cases hs : s.supplied.testBit p.die <;> simp [State.pin, h, hs]

theorem State.pin_of_unsupplied {s : State} (p : Pin) (c : PinAt) (h : s.supplied.testBit p.die = false) : s.pin p c = p.unpowered := by
  simp [State.pin, h]

theorem resetAll_phase (stage : Nat) (s : State) : (resetAll stage s).phase = .held := congrArg Shell.phase (resetAll_shell stage s)

theorem resetAll_supplied (stage : Nat) (s : State) : (resetAll stage s).supplied = s.supplied :=
  congrArg Shell.supplied (resetAll_shell stage s)

theorem resetAll_railsDown (stage : Nat) (s : State) : (resetAll stage s).railsDown = s.railsDown :=
  congrArg Shell.railsDown (resetAll_shell stage s)

theorem resetAll_otp (stage : Nat) (s : State) : (resetAll stage s).nvm.otp = (nvmCollapse stage s).nvm.otp := by
  simp [resetAll]

/-- The supply of a die goes with its bit. -/
theorem supply_lost (x : Nat) (die : Fin 3) : (x &&& (7 - 2 ^ die.val)).testBit die.val = false := by
  have h : (7 - 2 ^ die.val).testBit die.val = false := by decide +revert
  rw [Nat.testBit_and, h, Bool.and_false]

/-- Leaving reset with RESET_N high and the rails up (R68, R86, R582). -/
theorem resetLeave_of {por : PorIn} {s : State} (hl : s.resetLow = false) (hd : s.railsDown = 0) (hp : s.phase = .held) :
    (resetLeave por s).phase = .searching ∧ (resetLeave por s).resetLow = false ∧ (resetLeave por s).railsDown = 0 ∧
    (resetLeave por s).supplied = s.supplied ∧ (resetLeave por s).nvm.boot = 1 ∧ (resetLeave por s).pwr.por = false ∧
    (resetLeave por s).fld F.PWR_STATUS_IO_LEVEL = if s.pwr.por then (if por.io18 then 1 else 0) else s.fld F.PWR_STATUS_IO_LEVEL := by
  have hio (u : State) : (gpioFollow u).fld F.PWR_STATUS_IO_LEVEL = u.fld F.PWR_STATUS_IO_LEVEL :=
    State.fld_setWord_other u _ (by decide)
  rw [resetLeave, if_neg (by simp [hl, hd, hp])]
  cases hpor : s.pwr.por
  · refine ⟨?_, ?_, ?_, ?_, ?_, ?_, (hio _).trans ?_⟩ <;> simp [State.when, gpioFollow, hl, hd, hpor]
  · refine ⟨?_, ?_, ?_, ?_, ?_, ?_, (hio _).trans ?_⟩ <;> simp (disch := decide) [State.when, gpioFollow, hl, hd, Bool.toNat]

/-- While RESET_N is low or a rail is down the part stays as it is. -/
theorem resetLeave_stays {por : PorIn} {s : State} (h : s.resetLow = true ∨ s.railsDown ≠ 0) : resetLeave por s = s := by
  rw [resetLeave, if_pos (h.imp_right .inl)]

/-- What changes as VSER falls: the links, the ports and the network, and what is logged (R90). -/
def VserRegs (a : Nat) : Prop := 0x100000 ≤ a ∨ IsLogReg a ∨ ∃ d < 4, a = Adr.FLT_LINK_B d

theorem vserRegs_log : LogRegs VserRegs := by
  obtain ⟨h1, h2, h3, h4, h5, h6, h7, h8⟩ := logRegs_isLogReg
  exact ⟨.inr (.inl h1), .inr (.inl h2), .inr (.inl h3), .inr (.inl h4), .inr (.inl h5), .inr (.inl h6), fun w hw => .inr (.inl (h7 w hw)),
    fun p => .inr (.inl (h8 p))⟩

theorem vserRegs_link {d : Nat} (h : d < 4) : VserRegs (Adr.FLT_LINK_B d) := .inr (.inr ⟨d, h, rfl⟩)

/-- A register of the pages PWR and CLK but for their PG_FAULT. -/
theorem not_vserRegs {a : Nat} (h1 : 0x3010 ≤ a) (h2 : a < 0x5000) (h3 : a % 4096 ≠ 12) : ¬ VserRegs a := by
  simp only [VserRegs, IsLogReg, List.mem_cons, List.not_mem_nil, or_false, Adr.FLT_LINK_B, Adr.FLT_PEND, Adr.FLT_LOG_CNT, Adr.FLT_LOG_STAT,
    Adr.FLT_STAT, Adr.FLT_ISO_CNT, Adr.FLT_ISO, Pg.flt]
  rintro (h | (h | ⟨w, hw, h⟩ | ⟨p, h⟩) | ⟨d, hd, h⟩) <;> omega

section

variable {β : Type} {E : State → β} {s0 s : State}

/-- A reading that shows nothing of the links, the network, the queues and the fault manager. -/
def HidesVser (E : State → β) : Prop := ∀ (u : State) q n l v f, E { u with qmg := q, net := n, link := l, svc := v, flt := f } = E u

/-- One link forced down. -/
theorem vserLink_only {l : Nat} (hl : l < 2) (hE : HidesVser E) (h : Only VserRegs E s0 s) :
    Only VserRegs E s0 (setLstate l 2 (linkDown (2 * l + 1) 0x4C01 s)) := by
  have h0 : VserRegs (Adr.FLT_LINK_B (2 * l)) := vserRegs_link (by omega)
  have h1 : VserRegs (Adr.FLT_LINK_B (2 * l + 1)) := vserRegs_link (by omega)
  have hd : (2 * l + 1) / 2 = l := by omega
  exact setLstate_only h0 h1 (linkDown_only vserRegs_log (fun u l v f => hE u u.qmg u.net l v f) (by rwa [hd]) (by rwa [hd]) h)

theorem vserPorts_only (hE : HidesVser E) (h : Only VserRegs E s0 s) : Only VserRegs E s0 (s.each 4 portLinkDown) :=
  .each (fun _ _ _ h => portLinkDown_only (fun _ h => .inl h) (fun u q n f => hE u q n u.link u.svc f) h) h

end

/-- The ports that lose their link change no register of a stitch link. -/
theorem lstate_ports (l : Nat) (s : State) (hl : l < 2) : lstate l (s.each 4 portLinkDown) = lstate l s := by
  have h : Only (fun a => 0x100000 ≤ a) (fun _ => ()) s (s.each 4 portLinkDown) :=
    .each (fun _ _ _ h => portLinkDown_only (fun _ h => h) (fun _ _ _ _ => rfl) h) (.refl s)
  exact h.fld (by simp only [F.FLT_LINK_B_LSTATE, Adr.FLT_LINK_B]; omega)

/-- The second link forced down leaves the first as it is. -/
theorem lstate_otherDown (s : State) : lstate 0 (setLstate 1 2 (linkDown 3 0x4C01 s)) = lstate 0 s := by
  have hlog : LogRegs (fun a => IsLogReg a ∨ a = Adr.FLT_LINK_B 2 ∨ a = Adr.FLT_LINK_B 3) := by
    obtain ⟨h1, h2, h3, h4, h5, h6, h7, h8⟩ := logRegs_isLogReg
    exact ⟨.inl h1, .inl h2, .inl h3, .inl h4, .inl h5, .inl h6, fun w hw => .inl (h7 w hw), fun p => .inl (h8 p)⟩
  have h := setLstate_only (l := 1) (v := 2) (.inr (.inl rfl)) (.inr (.inr rfl)) (linkDown_only (E := fun _ => ()) (d := 3) (code := 0x4C01) hlog
    (fun _ _ _ _ => rfl) (.inr (.inl rfl)) (.inr (.inr rfl)) (.refl s))
  exact h.fld (by
    rintro (h | h | h)
    · exact not_isLogReg_link (d := 0) (by decide) h
    · exact absurd h (by decide)
    · exact absurd h (by decide))

/-- VSER_OK cleared, the fall counted and logged (R90). -/
def vserShow (s : State) : State :=
  ((s.setFld F.PWR_STATUS_VSER_OK 0).bump F.PWR_EVT_CNT_VSER_UV_CNT F.PWR_EVT_CNT_VSER_UV_SAT).report 0x10C2 0 2

theorem vserDown_eq (s : State) : vserDown s =
    (setLstate 1 2 (linkDown 3 0x4C01 (setLstate 0 2 (linkDown 1 0x4C01 (vserShow s))))).each 4 portLinkDown := rfl

theorem vserDown_only {β : Type} {E : State → β} (hE : HidesVser E) (s : State) : Only VserRegs E (vserShow s) (vserDown s) := by
  rw [vserDown_eq]
  exact vserPorts_only hE (vserLink_only (l := 1) (by decide) hE (vserLink_only (l := 0) (by decide) hE (.refl _)))

/-- VSER falls while the part runs: both links are down, one more fall is counted (R90). -/
theorem vserDown_shows (s : State) :
    (vserDown s).fld F.PWR_STATUS_VSER_OK = 0 ∧ lstate 0 (vserDown s) = 2 ∧ lstate 1 (vserDown s) = 2 ∧
    (vserDown s).railsDown = s.railsDown ∧ Counted s (vserDown s) F.PWR_EVT_CNT_VSER_UV_CNT := by
  have ho : Only VserRegs State.railsDown (vserShow s) (vserDown s) := vserDown_only (fun _ _ _ _ _ _ => rfl) s
  refine ⟨?_, ?_, ?_, ?_, ?_⟩
  · rw [ho.fld (not_vserRegs (by decide) (by decide) (by decide))]
    simp (disch := decide) [vserShow]
  · rw [vserDown_eq, lstate_ports 0 _ (by decide), lstate_otherDown]
    exact lstate_setLstate _ 0 2
  · rw [vserDown_eq, lstate_ports 1 _ (by decide)]
    exact lstate_setLstate _ 1 2
  · rw [show (vserDown s).railsDown = (vserShow s).railsDown from ho.rest]
    simp [vserShow]
  · rw [Counted, ho.fld (not_vserRegs (by decide) (by decide) (by decide))]
    simp (disch := decide) [vserShow, State.fld_bump_counter]

/-- The registers of page CLK take no part in a fall of VSER. -/
theorem vserDown_clk {f : Fld} (s : State) (h1 : 0x4010 ≤ f.addr) (h2 : f.addr < 0x5000) : (vserDown s).fld f = s.fld f := by
  have ho : Only VserRegs (fun _ => ()) (vserShow s) (vserDown s) := vserDown_only (fun _ _ _ _ _ _ => rfl) s
  have hf (g : Fld) (hg : g.addr < 0x4000) : g.Apart f := .inr (.inr (by omega))
  rw [ho.fld (not_vserRegs (by omega) h2 (by omega)), vserShow, State.report_fld,
    State.fld_bump_off _ (hf _ (by decide)) (hf _ (by decide)), State.fld_setFld_off _ _ (hf _ (by decide))]

/-- What PLL_C shows once it has locked (R68, R69), whatever VSER does. -/
theorem pllcShow_shows (band : Nat) (s : State) :
    (pllcShow band s).fld (F.CLK_PLL_STAT_LOCK 0) = 1 ∧ (pllcShow band s).fld F.CLK_STATUS_PRELOCK = 1 ∧
    (pllcShow band s).fld F.CLK_STATUS_REF_ACT = 2 ∧ (pllcShow band s).fld (F.CLK_PLL_STAT_BAND 0) = pllBand 0 band s % 64 := by
  obtain ⟨hlock, hband, -⟩ := pllLock_shows (i := 0) (band := band) (s := s)
  have hvio (u : State) (f : Fld) (h : F.PWR_STATUS_PF_VIO.Apart f) : (pfVioShow u).fld f = u.fld f := by
    rw [pfVioShow, State.fld_mk]
    unfold State.when
    split <;> simp [State.fld_setOn_off _ _ h]
  have hv (c : Bool) (u : State) (f : Fld) (h1 : 0x4010 ≤ f.addr) (h2 : f.addr < 0x5000) : (u.when c vserDown).fld f = u.fld f := by
    unfold State.when
    split
    · exact vserDown_clk u h1 h2
    · rfl
  have hone : (pllLock 0 band s).fld (F.CLK_PLL_STAT_LOCK 0) = 1 := by
    have hlt : (pllLock 0 band s).fld (F.CLK_PLL_STAT_LOCK 0) < 2 := State.fld_lt _ _
    have hne := (State.on_iff _).mp hlock
    omega
  simp (disch := decide) [pllcShow, hv, hvio, hband, hone]

/-- The last rail of R88 that was down is up. -/
theorem railUp_last {bit : Nat} {por : PorIn} {s : State} (hp : s.phase = .held) (hl : s.resetLow = false)
    (hd : s.railsDown &&& (15 - 2 ^ bit) = 0) :
    Completes (.next (railUp bit por s)) (fun t => t.phase = .searching ∧ t.railsDown = 0 ∧ t.supplied = 7) := by
  obtain ⟨h1, -, h2, h3, -⟩ := resetLeave_of (por := por) (s := { s with railsDown := s.railsDown &&& (15 - 2 ^ bit), supplied := 7 }) hl hd hp
  rw [completes_next, railUp]
  exact ⟨h1, h2, h3⟩

/-- A rail that falls while VDDIO holds (R90, R93). -/
theorem railReset_warm (bit cause stage : Nat) (s : State) : Completes (.next (railReset bit cause false stage s)) (fun t =>
    ResetLeft s t ∧ t.railsDown ≠ 0 ∧ t.word Adr.PWR_RST_CAUSE = (s.word Adr.PWR_RST_CAUSE).put cause cause 1) := by
  rw [completes_next, railReset, if_neg (by decide)]
  refine ⟨ResetLeft.of_pending (ResetLeft.causeSet (ResetLeft.data (resetAll_left _))) rfl, ?_, ?_⟩
  · simp [causeSet, resetAll_railsDown]
  · rw [causeSet_cause]
    exact congrArg (fun w => Word.put w cause cause 1) (resetAll_cause _)

end Sys2Proof.Machine

namespace Sys2Proof

open Machine

/-- Settles O18, command by command: what a reset leaves, how reset is left, and what a fall of VSER and the lock of PLL_C show. -/
theorem resetCommandsComplete : Obligations.ResetCommandsComplete := by
  intro s
  refine ⟨?_, ?_, ?_, ?_, ?_, ?_, ?_, ?_, ?_, ?_, ?_, ?_, ?_, ?_, ?_, ?_, ?_⟩
  · intro stage
    rw [exec, execResetAssert, completes_next]
    refine ⟨ResetLeft.data (ResetLeft.causeSet (resetAll_left s)), rfl, ?_, rfl, fun p c => ?_, fun h => ?_⟩
    · exact (causeSet_cause 1 _).trans (by rw [resetAll_cause])
    · rw [State.pin_of_held p c (by simp [causeSet, resetAll_phase])]
      simp [causeSet, resetAll_supplied]
    · simp [causeSet, resetAll_otp, nvmCollapse_otp h]
  · intro por hp hr
    rw [exec, execResetRelease, completes_next]
    obtain ⟨h1, h2, -, h3, h4, h5, h6⟩ := resetLeave_of (por := por) (s := { s with resetLow := false, supplied := 7 }) rfl hr hp
    exact ⟨h1, h2, h3, h4, h5, h6⟩
  · intro por hp hr
    rw [exec, execResetRelease, completes_next, resetLeave_stays (s := { s with resetLow := false, supplied := 7 }) (.inr hr)]
    exact ⟨hp, rfl⟩
  · intro stage
    have he : exec (.dieSupplyLoss 0 stage) s = .next (resetAll stage.val { s with supplied := s.supplied &&& (7 - 2 ^ (0 : Fin 3).val) }) := rfl
    have hb := supply_lost s.supplied 0
    rw [he, completes_next, resetAll_supplied]
    refine ⟨ResetLeft.of_pending (resetAll_left _) rfl, ?_, resetAll_cause _, fun p c hp => State.pin_of_unsupplied p c ?_⟩
    · exact Nat.mod_two_ne_one.mp (of_decide_eq_false (Nat.testBit_zero _ ▸ hb))
    · rw [resetAll_supplied, hp]
      exact hb
  · intro die stage hd
    have h0 : die.val ≠ 0 := fun h => hd (Fin.ext h)
    have hk : Keeps { s with supplied := s.supplied &&& (7 - 2 ^ die.val) }
        (if die.val = 1 then convUnpowered { s with supplied := s.supplied &&& (7 - 2 ^ die.val) } 
          else powerUnpowered { s with supplied := s.supplied &&& (7 - 2 ^ die.val) }) :=
      .ite (convUnpowered_keeps (.refl _)) (powerUnpowered_keeps (.refl _))
    obtain ⟨e1, e2, -, -, -, e3, -⟩ := hk.parts
    rw [exec, execDieSupplyLoss, completes_next, if_neg h0]
    refine ⟨?_, e1, e3, fun p c hp => State.pin_of_unsupplied p c ?_⟩
    · rw [e2]
      exact supply_lost s.supplied die
    · rw [e2, hp]
      exact supply_lost s.supplied die
  · intro band after hp
    obtain ⟨h1, h2, h3, h4⟩ := pllcShow_shows band.val s
    change Completes (.next (s.when (s.phase == .searching) _)) _
    rw [completes_next, State.when_of (by simp [hp]), pvinOk]
    refine ⟨?_, ?_, ?_, ?_, ?_, ?_, fun hle => ?_⟩ <;> simp (disch := decide) [h1, h2, h3, h4]
    exact pllBand_between band.isLt hle
  · intro hp
    by_cases hn : 63 ≤ s.clk.searches
    · have hn' : ¬ s.clk.searches < 63 := by omega
      have hm : min 64 (s.clk.searches + 1) = 64 := by omega
      simp (disch := decide) [exec, execPllcSearchFail, completes_next, hp, State.when, causeSet, hn, hn', hm]
    · have hn' : s.clk.searches < 63 := by omega
      have hm : min 64 (s.clk.searches + 1) = s.clk.searches + 1 := by omega
      have h63 : ¬ s.clk.searches = 63 := by omega
      simp (disch := decide) [exec, execPllcSearchFail, completes_next, hp, State.when, hn, hn', hm, h63, State.word_setFld_other]
  · intro hr hl
    have hl' : s.on (F.CLK_PLL_STAT_LOCK 0) = true := hl
    simp (disch := decide) [exec, execPllcUnlock, completes_next, hr, hl', State.when, tickClockErr, setPll, pllLocked, pllBit, Counted, Reported, State.fld_bump_counter]
  · intro rail stage hrail
    obtain rfl | rfl | rfl := hrail
    · exact railReset_warm 0 2 stage.val s
    · exact railReset_warm 2 3 stage.val s
    · exact railReset_warm 3 4 stage.val s
  · intro stage
    rw [exec, execRailUndervoltage, completes_next, railReset, if_pos rfl]
    exact ⟨ResetLeft.of_pending (ResetLeft.data (ResetLeft.cold (resetAll_left _))) rfl, by rw [State.word_mk]; exact State.word_setWord_same _ _ _, rfl⟩
  · intro cold stage hr hv
    simp (disch := decide) [exec, execRailUndervoltage, vahLost, hr, hv, Counted, Reported, State.fld_bump_counter]
  · intro cold stage hr hv
    simp (disch := decide) [exec, execRailUndervoltage, pvinLost, pvinOk, hr, hv, Counted, Reported, State.fld_bump_counter]
  · intro cold stage hr hv
    obtain ⟨h1, h2, h3, h4, h5⟩ := vserDown_shows { s with railsDown := s.railsDown ||| 2 }
    change Completes (.next (vserLost s)) _
    rw [completes_next, vserLost, State.when_of (by simp [hr, hv])]
    exact ⟨h1, h2, h3, h4, h5⟩
  · intro rail por hp hl hrail
    obtain ⟨rfl, hd⟩ | ⟨rfl, hd⟩ | ⟨rfl, hd⟩ := hrail
    · exact railUp_last (bit := 0) hp hl (by rw [hd]; rfl)
    · exact railUp_last (bit := 2) hp hl (by rw [hd]; rfl)
    · exact railUp_last (bit := 3) hp hl (by rw [hd]; rfl)
  · intro por hr hv
    rw [exec, execRailRecover, completes_next]
    exact State.fld_setFld_one _ (by decide)
  · intro por hr hv
    rw [exec, execRailRecover, completes_next]
    have ho : Only InputPages State.pwr ({ s with pwr := { s.pwr with vah := true } }.setFld F.PWR_STATUS_VAH_OK 1) (vahBack s) := by
      rw [vahBack, if_neg (by simp [hr, hv])]
      exact ainReturn_only (fun _ _ _ => rfl) (.refl _)
    refine ⟨?_, congrArg PwrSt.vah ho.rest⟩
    rw [ho.fld (by simp only [InputPages]; decide)]
    exact State.fld_setFld_one _ (by decide)
  · intro por hr
    cases hh : s.pwr.pvinHigh <;> simp (disch := decide) [exec, execRailRecover, hr, State.when, pvinOk, hh]

end Sys2Proof

/-!
The commands of supplies, power states and the core voltage loop (R90-R102).
-/

namespace Sys2Proof.Machine

/-! The control filters as they start. -/

theorem thrState_addr (c k : Nat) : (thrState c k).addr = Adr.FCH_CSTAT c := by unfold thrState; split <;> rfl

theorem thrAmbig_addr (c k : Nat) : (thrAmbig c k).addr = Adr.FCH_CSTAT c := by unfold thrAmbig; split <;> rfl

theorem thrForced_addr (c k : Nat) : (thrForced c k).addr = Adr.FCH_CSTAT c := by unfold thrForced; split <;> rfl

section

variable {β : Type} {ws : Nat → Prop} {E : State → β} {s0 s : State}

/-- A reading that shows nothing of the filter chain or of the values of the next tick. -/
def HidesFilters (E : State → β) : Prop := ∀ (u : State) f n, E { u with fch := f, next := n } = E u

/-- The page of the control filters. -/
def FilterPages (a : Nat) : Prop := 0x30000 ≤ a

variable (hE : HidesFilters E)

include hE in
theorem State.setCtl_only {c : Nat} {x : CtlCh} (h : Only ws E s0 s) : Only ws E s0 (s.setCtl c x) :=
  h.update rfl (hE { s with regs := [] } _ s.next)

include hE in
theorem State.produce_only {n : Nat} {w : Word} (h : Only ws E s0 s) : Only ws E s0 (s.produce n w) :=
  h.update rfl (hE { s with regs := [] } s.fch _)

include hE in
theorem ctlStart_only {c : Nat} (hw : ws (Adr.FCH_CSTAT c)) (hc : ws (Adr.FCH_CCFG c)) (h : Only ws E s0 s) :
    Only ws E s0 (ctlStart c s) := by
  have hreset {k : Nat} {u : State} (h : Only ws E s0 u) : Only ws E s0 (thrReset c k u) := by
    unfold thrReset
    exact State.setFld_only (thrForced_addr c k ▸ hw) (State.setFld_only (thrAmbig_addr c k ▸ hw)
      (State.setFld_only (thrState_addr c k ▸ hw) (State.setCtl_only hE h)))
  have hland {u : State} (h : Only ws E s0 u) : Only ws E s0 (ctlSwapLand c u) := by
    unfold ctlSwapLand ctlFrozenShow
    split
    · exact h
    · exact State.setOn_only hw (State.setFld_only hc (State.setFld_only hw (State.setCtl_only hE h)))
  have h1 (x : CtlCh) := State.setFld_only (f := F.FCH_CSTAT_STALL c) (v := 0) hw
    (hreset (k := 1) (hreset (k := 0) (State.setCtl_only (c := c) (x := x) hE (hland h))))
  unfold ctlStart
  exact .ite (h1 _) (State.produce_only hE (h1 _))

include hE in
theorem fchWake_only (h : Only FilterPages E s0 s) : Only FilterPages E s0 (fchWake s) := by
  have haud {d : Nat} {u : State} (h : Only FilterPages E s0 u) : Only FilterPages E s0 (audStart d u) :=
    h.update rfl (hE { u with regs := [] } _ u.next)
  unfold fchWake
  refine .each (fun c _ s h => .when (fun s h => ctlStart_only hE ?_ ?_ h) h) (.each (fun _ _ s h => haud h) h) <;>
    simp only [FilterPages, Adr.FCH_CSTAT, Adr.FCH_CCFG] <;> omega

end

/-- What leaving STANDBY sets off changes nothing of the power state (R94, R95). -/
theorem wake_only (s : State) : Only FilterPages State.pwr s (pdmWake (fxWake (fchWake s))) := by
  have hfch : Only FilterPages State.pwr s (fchWake s) := fchWake_only (fun _ _ _ => rfl) (.refl s)
  have hfx : Only FilterPages State.pwr s (fxWake (fchWake s)) := hfch.update rfl rfl
  have hclk {c : Bool} {u : State} (h : Only FilterPages State.pwr s u) : Only FilterPages State.pwr s (u.when (pdmClkOn c u) (fun s =>
      { s with clk := { s.clk with fdivStart := SMap.set (fun _ => 0) s.clk.fdivStart (16 + c.toNat) (s.tick * 5120) } })) :=
    .when (fun s h => h.update rfl rfl) h
  exact hclk (hclk hfx)

/-! Power states (R94-R96). -/

/-- The registers of page CLK. -/
def ClockRegs (a : Nat) : Prop := 0x4000 ≤ a

theorem pllStart_only {i : Nat} {auto : Bool} {s0 s : State} (h : Only ClockRegs State.pwr s0 s) :
    Only ClockRegs State.pwr s0 (pllStart i auto s) := by
  have hp : ClockRegs (Adr.CLK_PLL_STAT i) := Nat.le_add_right_of_le (by decide)
  have hs : ClockRegs Adr.CLK_STATUS := by unfold ClockRegs; decide
  have h1 : Only ClockRegs State.pwr s0 (setPll i 1 auto s) := h.update rfl rfl
  unfold pllStart
  exact State.setFld_only hs ((State.setFld_only hp h1).update rfl rfl)

theorem pllStop_only {i : Nat} {s0 s : State} (h : Only ClockRegs State.pwr s0 s) : Only ClockRegs State.pwr s0 (pllStop i s) := by
  have hp : ClockRegs (Adr.CLK_PLL_STAT i) := Nat.le_add_right_of_le (by decide)
  have hs : ClockRegs Adr.CLK_STATUS := by unfold ClockRegs; decide
  unfold pllStop
  exact State.setFld_only hs (State.setFld_only hp (h.update rfl rfl))

/-- The state with the step towards the requested state under way (R95). -/
def psMoved (s : State) : State :=
  { s with pwr := { s.pwr with step := some (psNext (s.fld F.PWR_STATUS_PS_ACT) (s.fld F.PWR_STATE_REQ_PS_REQ)) } }.setFld
    F.PWR_STATUS_PS_BUSY 1

/-- A step towards another state starts; PLL_M and PLL_P may start with it. -/
theorem psStart_moves {s : State} (h : s.fld F.PWR_STATUS_PS_ACT ≠ s.fld F.PWR_STATE_REQ_PS_REQ) :
    Only ClockRegs State.pwr (psMoved s) (psStart s) := by
  rw [psStart, if_neg h]
  exact .when (fun s h => pllStart_only (pllStart_only h)) (.refl _)

/-- What the start of a step towards the requested state leaves. -/
theorem psStart_shows (s : State) :
    (psStart s).fld F.PWR_STATE_REQ_PS_REQ = s.fld F.PWR_STATE_REQ_PS_REQ ∧ (psStart s).fld F.PWR_STATUS_PS_ACT = s.fld F.PWR_STATUS_PS_ACT ∧
    (if s.fld F.PWR_STATUS_PS_ACT = s.fld F.PWR_STATE_REQ_PS_REQ then (psStart s).pwr.step = none ∧ (psStart s).fld F.PWR_STATUS_PS_BUSY = 0
     else (psStart s).pwr.step = some (psNext (s.fld F.PWR_STATUS_PS_ACT) (s.fld F.PWR_STATE_REQ_PS_REQ)) ∧
       (psStart s).fld F.PWR_STATUS_PS_BUSY = 1) := by
  by_cases h : s.fld F.PWR_STATUS_PS_ACT = s.fld F.PWR_STATE_REQ_PS_REQ
  · simp (disch := decide) [psStart, h]
  · have ho := psStart_moves h
    have hf (f : Fld) (hf : f.addr < 0x4000) : (psStart s).fld f = (psMoved s).fld f := ho.fld (by unfold ClockRegs; omega)
    rw [if_neg h, hf _ (by decide), hf _ (by decide), hf _ (by decide), show (psStart s).pwr = (psMoved s).pwr from ho.rest]
    simp (disch := decide) [psMoved]

/-- A request for another state, no step under way, starts the step towards it (R96). -/
theorem psRequest_starts {v : Nat} {s : State} (hv : v < 4) (h3 : v % 4 ≠ 3) (hb : s.on F.PWR_STATUS_PS_BUSY = false)
    (ha : s.fld F.PWR_STATUS_PS_ACT ≠ v) :
    (psRequest v s).fld F.PWR_STATE_REQ_PS_REQ = v ∧ (psRequest v s).fld F.PWR_STATUS_PS_BUSY = 1 ∧
    (psRequest v s).pwr.step = some (psNext (s.fld F.PWR_STATUS_PS_ACT) v) := by
  have hreq : (s.setFld F.PWR_STATE_REQ_PS_REQ v).fld F.PWR_STATE_REQ_PS_REQ = v := State.fld_setFld_fits s (by decide) hv
  have hact : (s.setFld F.PWR_STATE_REQ_PS_REQ v).fld F.PWR_STATUS_PS_ACT = s.fld F.PWR_STATUS_PS_ACT := by simp (disch := decide)
  have hbusy : (s.setFld F.PWR_STATE_REQ_PS_REQ v).on F.PWR_STATUS_PS_BUSY = false := by simp (disch := decide) [hb]
  obtain ⟨h1, -, h2⟩ := psStart_shows (s.setFld F.PWR_STATE_REQ_PS_REQ v)
  rw [hreq, hact, if_neg ha] at h2
  simp only [psRequest, if_neg h3, hbusy, Bool.false_eq_true, if_false]
  exact ⟨h1.trans hreq, h2.2, h2.1⟩

/-- The end of a step reaches its state; the part moves on or rests (R95). -/
theorem psStepDone_shows {n : Nat} {s : State} (hn : n < 4) (hs : s.pwr.step = some n) :
    (psStepDone s).fld F.PWR_STATUS_PS_ACT = n ∧
    (if n = s.fld F.PWR_STATE_REQ_PS_REQ then (psStepDone s).pwr.step = none ∧ (psStepDone s).fld F.PWR_STATUS_PS_BUSY = 0
     else (psStepDone s).pwr.step = some (psNext n (s.fld F.PWR_STATE_REQ_PS_REQ)) ∧ (psStepDone s).fld F.PWR_STATUS_PS_BUSY = 1) := by
  have ho : Only ClockRegs State.pwr (s.setFld F.PWR_STATUS_PS_ACT n)
      ((s.setFld F.PWR_STATUS_PS_ACT n).when (n == 0) (fun s => pllStop 2 (pllStop 1 s))) :=
    .when (fun s h => pllStop_only (pllStop_only h)) (.refl _)
  rw [psStepDone, hs]
  dsimp only
  generalize (s.setFld F.PWR_STATUS_PS_ACT n).when (n == 0) (fun s => pllStop 2 (pllStop 1 s)) = u at *
  have hact : u.fld F.PWR_STATUS_PS_ACT = n := (ho.fld (by unfold ClockRegs; decide)).trans (State.fld_setFld_fits s (by decide) hn)
  have hreq : u.fld F.PWR_STATE_REQ_PS_REQ = s.fld F.PWR_STATE_REQ_PS_REQ := (ho.fld (by unfold ClockRegs; decide)).trans (by simp (disch := decide))
  obtain ⟨-, h1, h2⟩ := psStart_shows u
  rw [hact] at h1
  rw [hact, hreq] at h2
  exact ⟨h1, h2⟩

/-! The core voltage loop (R98-R101). -/

/-- A target sent stands as VSET and at the end of what the bus has to send. -/
theorem vSend_shows {v : Nat} {s : State} (hv : v < 4096) :
    (vSend v false s).fld F.PWR_VLOOP_STAT_VSET = v ∧
    (vSend v false s).pwr = { s.pwr with avs := s.pwr.avs ++ [some v], lastWrite := s.tick, await := s.tick + 384 } := by
  have hw (u : State) : (u.setFld F.PWR_VLOOP_STAT_VSET v).fld F.PWR_VLOOP_STAT_VSET = v := State.fld_setFld_fits u (by decide) hv
  simp (disch := decide) [vSend, vFlags, hw]

/-- A target fits its field. -/
theorem vClamp_lt (v : Nat) (s : State) : vClamp v s < 4096 := by
  have h1 : s.fld F.PWR_HB_VMIN_HB_VMIN < 4096 := s.fld_lt _
  have h2 : s.fld F.PWR_HB_VMAX_HB_VMAX < 4096 := s.fld_lt _
  unfold vClamp vFloor vCeil clampNat
  split <;> omega

/-- The loop's target and its bounds do not depend on the margin shown. -/
theorem vClamp_congr {s t : State} (h : ∀ a, a ≠ Adr.PWR_MARGIN → t.word a = s.word a) :
    (∀ v, vClamp v t = vClamp v s) ∧ vNow t = vNow s := by
  have hf (f : Fld) (hf : f.addr ≠ Adr.PWR_MARGIN) : t.fld f = s.fld f := by rw [State.fld, h _ hf, State.fld]
  unfold vClamp vNow vFloor vCeil
  simp (disch := decide) only [hf, implies_true, and_self]

/-- A sample below the target raises it (R98). -/
theorem vSample_raises {m : Nat} {s : State} (hm : vMaySend s = true) (hp : s.fld F.PWR_VLOOP_CFG_PERIOD ≠ 0)
    (hst : s.fld F.PWR_VLOOP_CFG_STEP ≠ 0) (ht : s.tick % (16 * s.fld F.PWR_VLOOP_CFG_PERIOD) = 0) (hmin : s.pwr.minMargin = some m)
    (haw : s.pwr.await ≤ s.tick)
    (hlt : m + 2 < max (s.fld F.PWR_MARGIN_CFG_MARGIN_TGT) (s.fld F.PWR_MARGIN_CFG_MARGIN_EMERG + 2))
    (hne : vClamp (vNow s + 5 * s.fld F.PWR_VLOOP_CFG_STEP) s ≠ vNow s) :
    ∃ u : State, vSample s = vSend (vClamp (vNow s + 5 * s.fld F.PWR_VLOOP_CFG_STEP) s) false u ∧ u.tick = s.tick ∧
      u.pwr.minMargin = none ∧ u.pwr.avs = s.pwr.avs ++ [none] := by
  simp only [vMaySend, Bool.and_eq_true, Bool.not_eq_true'] at hm
  obtain ⟨⟨hen, hdiv⟩, hfail⟩ := hm
  have hruns : vRuns s = true := by simp [vRuns, hen, hdiv, State.on_iff, hp, hst]
  have hfail' (w : Word) (pwr : PwrSt) : (State.post Adr.PWR_MARGIN w { s with pwr := pwr }).on F.PWR_VLOOP_STAT_AVS_FAIL = false :=
    (State.on_post_other _ w (by decide)).trans hfail
  have hcong (w : Word) (pwr pwr' : PwrSt) := vClamp_congr (s := s) (t := { State.post Adr.PWR_MARGIN w { s with pwr := pwr } with pwr := pwr' })
    (fun a ha => State.word_post_other { s with pwr := pwr } w ha)
  have hfld (f : Fld) (w : Word) (pwr : PwrSt) (hf : f.addr ≠ Adr.PWR_MARGIN) :
      (State.post Adr.PWR_MARGIN w { s with pwr := pwr }).fld f = s.fld f := State.fld_post_other { s with pwr := pwr } w hf
  rw [vSample, if_neg (by simp [hruns, ht]), hmin]
  dsimp only
  have htick (w : Word) (pwr : PwrSt) : (State.post Adr.PWR_MARGIN w { s with pwr := pwr }).tick = s.tick := State.post_tick ..
  have hpwr (w : Word) (pwr : PwrSt) : (State.post Adr.PWR_MARGIN w { s with pwr := pwr }).pwr = pwr := State.post_pwr ..
  specialize hcong (BitVec.ofNat 32 (m % 2 ^ 23)) { s.pwr with minMargin := none }
  specialize hfail' (BitVec.ofNat 32 (m % 2 ^ 23)) { s.pwr with minMargin := none }
  specialize htick (BitVec.ofNat 32 (m % 2 ^ 23)) { s.pwr with minMargin := none }
  specialize hpwr (BitVec.ofNat 32 (m % 2 ^ 23)) { s.pwr with minMargin := none }
  generalize State.post Adr.PWR_MARGIN (BitVec.ofNat 32 (m % 2 ^ 23)) { s with pwr := { s.pwr with minMargin := none } } = p at *
  have hv (pwr : PwrSt) (v : Nat) : vClamp v { p with pwr := pwr } = vClamp v s := (hcong pwr).1 v
  have hn (pwr : PwrSt) : vNow { p with pwr := pwr } = vNow s := (hcong pwr).2
  rw [hfail', Bool.not_false, State.when_true, if_neg (by simp [htick, hpwr, haw]), if_pos hlt]
  simp only [hv, hn, if_neg hne]
  exact ⟨_, rfl, htick, congrArg PwrSt.minMargin hpwr, by simp [hpwr]⟩

/-- The bits a write may change hold the word's afterwards. -/
theorem Word.bits_blend {old w m : Word} {hi lo : Nat} (hm : ∀ i, lo ≤ i → i ≤ hi → m.getLsbD i = true) :
    ((old &&& ~~~m) ||| (w &&& m)).bits hi lo = w.bits hi lo := by
  refine Nat.eq_of_testBit_eq fun i => ?_
  simp only [Word.testBit_bits]
  by_cases h : i < hi + 1 - lo
  · have hb := hm (lo + i) (by omega) (by omega)
    have h32 : lo + i < 32 := BitVec.lt_of_getLsbD hb
    simp [h, hb]
  · simp [h]

/-- The status of the loop follows its bounds; nothing else is written. -/
theorem vBounds_only (s : State) : Only (· = Adr.PWR_VLOOP_STAT) (fun _ => ()) s (vBounds s) := by
  have hflags {u : State} (h : Only (· = Adr.PWR_VLOOP_STAT) (fun _ => ()) s u) : Only (· = Adr.PWR_VLOOP_STAT) (fun _ => ()) s (vFlags u) := by
    unfold vFlags
    exact State.setOn_only rfl (State.setOn_only rfl (State.setOn_only rfl h))
  unfold vBounds vSend
  exact .ite (hflags (State.setFld_only rfl (.update (.refl s) rfl rfl))) (hflags (.refl s))

theorem State.fld_viol_other {p k ofs : Nat} {f : Fld} (s : State) (h : f.addr ≠ p * 0x1000 + 0x020) :
    (s.viol p k ofs).fld f = s.fld f := by
  unfold State.viol
  rw [State.fld_setFld_off _ _ (.inr (.inr h)), State.fld_setFld_off _ _ (.inr (.inr h)), State.fld_bump_off _ (.inr (.inr h)) (.inr (.inr h))]

/-- A bound of the core voltage (R101). -/
abbrev boundFld (k : Fin 4) : Fld := ⟨Adr.PWR_HB_VMIN + 4 * k, 11, 0⟩

/-- What a write that no lock holds leaves in a register without staged and sticky fields (R488). -/
theorem writeTypes_open {x : Wr} {r : RegRow} {m : Word} {s : State} (hr : rowOf x.a = some r)
    (hst : r.mask (fun t => decide (t = .st)) = 0) (hw1c : r.mask (fun t => decide (t = .w1c)) = 0)
    (hm : r.mask (fun t => decide (t = .rw)) ||| r.mask (fun t => decide (t = .lk)) = m)
    (h : r.mask (fun t => decide (t = .lk)) = 0 ∨ (x.o ≠ .mc ∧ s.on (F.pgLock (pageKey x.a >>> 12)) = false)) :
    writeTypes x s = s.setWord x.a ((s.word x.a &&& ~~~m) ||| (x.w &&& m)) := by
  have hheld : (r.mask (fun t => decide (t = .lk)) != 0 && (x.o == .mc || s.on (F.pgLock (pageKey x.a >>> 12)))) = false := by
    rcases h with h | ⟨ho, hl⟩
    · simp [h]
    · simp [ho, hl]
  have hnone (v : Word) : v &&& ~~~(x.w &&& 0) = v := by
    rw [show (x.w &&& 0) = 0#32 from BitVec.and_zero, BitVec.not_zero, BitVec.and_allOnes]
  unfold writeTypes
  rw [hr]
  dsimp only
  rw [hst, if_pos (Eq.refl (0 : Word)), hheld, hw1c, if_neg (by simp), if_neg (by simp), hm, hnone]

theorem row_bound (k : Fin 4) : ∃ r, rowOf (Adr.PWR_HB_VMIN + 4 * k) = some r ∧ r.mask (fun t => decide (t = .st)) = 0 ∧
    r.mask (fun t => decide (t = .w1c)) = 0 ∧
    r.mask (fun t => decide (t = .rw)) ||| r.mask (fun t => decide (t = .lk)) = 0xFFF ∧
    (2 ≤ k.val → r.mask (fun t => decide (t = .lk)) = 0) := by
  match k with
  | 0 => exact ⟨_, rfl, by decide, by decide, by decide, by decide⟩
  | 1 => exact ⟨_, rfl, by decide, by decide, by decide, by decide⟩
  | 2 => exact ⟨_, rfl, by decide, by decide, by decide, by decide⟩
  | 3 => exact ⟨_, rfl, by decide, by decide, by decide, by decide⟩

/-- A bound no lock holds takes the word's bits (R488). -/
theorem writeTypes_bound {o : Origin} {k : Fin 4} {w : Word} {s : State}
    (h : 2 ≤ k.val ∨ (o ≠ .mc ∧ s.on (F.pgLock Pg.pwr) = false)) :
    writeTypes ⟨o, Adr.PWR_HB_VMIN + 4 * k, w⟩ s =
      s.setWord (boundFld k).addr ((s.word (boundFld k).addr &&& ~~~0xFFF) ||| (w &&& 0xFFF)) := by
  obtain ⟨r, hr, hst, hw1c, hm, hlk⟩ := row_bound k
  have hpage : pageKey (Adr.PWR_HB_VMIN + 4 * k) >>> 12 = Pg.pwr := by clear h hr hlk; revert k; decide
  exact writeTypes_open hr hst hw1c hm (h.imp hlk (hpage ▸ id))

/-- A bound written stands within its limits (R11, R101). -/
theorem clampFld_shows {f : Fld} {lo hi : Nat} {s : State} (hf : f.hi < 32) (hlo : lo < 2 ^ f.width) (hhi : hi < 2 ^ f.width) :
    (clampFld f lo hi (false, s)).2.fld f = clampNat lo hi (s.fld f) := by
  have hfit : clampNat lo hi (s.fld f) < 2 ^ f.width := by unfold clampNat; omega
  unfold clampFld
  dsimp only
  split
  case isTrue h => exact h.symm
  case isFalse h => exact State.fld_setFld_fits s hf hfit

/-- What a write of a bound that no lock holds leaves in it. -/
theorem bound_lands {k : Fin 4} {lo hi : Nat} {u : State} (hlo : lo < 4096) (hhi : hi < 4096) :
    (vBounds (clampCount (Adr.PWR_HB_VMIN + 4 * k) (clampFld (boundFld k) lo hi (false, u)))).fld (boundFld k) =
      clampNat lo hi (u.fld (boundFld k)) := by
  have hk := k.isLt
  have hs : clampNat lo hi (u.fld (boundFld k)) = (clampFld (boundFld k) lo hi (false, u)).2.fld (boundFld k) :=
    (clampFld_shows (f := boundFld k) (by simp) hlo hhi).symm
  rw [(vBounds_only _).fld (by simp [Adr.PWR_HB_VMIN, Adr.PWR_VLOOP_STAT]; omega), hs, clampCount]
  cases (clampFld (boundFld k) lo hi (false, u)).1
  · rfl
  · exact State.fld_viol_other _ (by clear hs hk; revert k; decide)

/-- VCORE_BOUND_WRITE by whom no lock holds leaves the word's bits within the limits. -/
theorem writeBound_shows {o : Origin} {k : Fin 4} {w : Word} {s : State} (h : 2 ≤ k.val ∨ (o ≠ .mc ∧ s.on (F.pgLock Pg.pwr) = false)) :
    (writeBound ⟨o, Adr.PWR_HB_VMIN + 4 * k, w⟩ s).fld (boundFld k) =
      clampNat (if k.val < 2 then 700 else s.fld F.PWR_HB_VMIN_HB_VMIN) (if k.val < 2 then 900 else s.fld F.PWR_HB_VMAX_HB_VMAX) (w.bits 11 0) := by
  have hk : (Adr.PWR_HB_VMIN + 4 * k.val - Adr.PWR_HB_VMIN) / 4 = k.val := by omega
  have hheld : (decide (k.val < 2) && (o == .mc || s.on (F.pgLock Pg.pwr))) = false := by
    rcases h with h | ⟨ho, hl⟩
    · simp [show ¬ k.val < 2 by omega]
    · simp [ho, hl]
  have hlo : (if k.val < 2 then 700 else s.fld F.PWR_HB_VMIN_HB_VMIN) < 4096 := by
    have : s.fld F.PWR_HB_VMIN_HB_VMIN < 4096 := s.fld_lt _
    split <;> omega
  have hhi : (if k.val < 2 then 900 else s.fld F.PWR_HB_VMAX_HB_VMAX) < 4096 := by
    have : s.fld F.PWR_HB_VMAX_HB_VMAX < 4096 := s.fld_lt _
    split <;> omega
  have hself : (s.setWord (boundFld k).addr ((s.word (boundFld k).addr &&& ~~~0xFFF) ||| (w &&& 0xFFF))).fld (boundFld k) = w.bits 11 0 := by
    rw [State.fld, State.word_setWord_same]
    have hmask : ∀ i : Fin 12, (0xFFF : Word).getLsbD i.val = true := by decide
    exact Word.bits_blend (hi := 11) (lo := 0) fun i _ hi => hmask ⟨i, by omega⟩
  have hother (f : Fld) (hf : f = F.PWR_HB_VMIN_HB_VMIN ∨ f = F.PWR_HB_VMAX_HB_VMAX) (hk2 : ¬ k.val < 2) (w : Word) :
      (s.setWord (boundFld k).addr w).fld f = s.fld f := by
    refine congrArg (fun w => w.bits f.hi f.lo) (State.word_setWord_other _ _ ?_)
    rcases hf with rfl | rfl <;> simp [F.PWR_HB_VMIN_HB_VMIN, F.PWR_HB_VMAX_HB_VMAX, Adr.PWR_HB_VMIN, Adr.PWR_HB_VMAX] <;> omega
  simp only [writeBound, hk, hheld, Bool.false_eq_true, if_false, writeTypes_bound h]
  by_cases hk2 : k.val < 2
  · simp only [if_pos hk2]
    rw [bound_lands (by decide) (by decide), hself]
  · simp only [if_neg hk2] at hlo hhi ⊢
    rw [hother _ (.inl rfl) hk2, hother _ (.inr rfl) hk2, bound_lands hlo hhi, hself]

/-- What a read over AVSBus leaves: the two results, and a report at most (R103). -/
theorem avsDone_reads {complete : Bool} {mv ma : Nat} {rest : List (Option Nat)} {s : State} (h : s.pwr.avs = none :: rest) :
    (avsDone true complete mv ma s).pwr.avs = rest ∧
    ((avsDone true complete mv ma s).word Adr.PWR_VCORE_MEAS).bits 22 0 = mv % 2 ^ 23 ∧
    ((avsDone true complete mv ma s).word Adr.PWR_ICORE_MEAS).bits 22 0 = ma % 2 ^ 23 := by
  have hlog (b : Bool) (u : State) :
      (u.when b (State.report 0x10CC 0 0)).pwr = u.pwr ∧ (u.when b (State.report 0x10CC 0 0)).word = u.word := by
    cases b <;> exact ⟨rfl, rfl⟩
  have hbits (n : Nat) : Word.bits (BitVec.ofNat 32 (n % 2 ^ 23)) 22 0 = n % 2 ^ 23 := by simp [Word.bits]
  simp only [avsDone, h, if_true, hlog, State.post_pwr]
  refine ⟨trivial, ?_, ?_⟩
  · rw [State.word_post_other _ _ (by decide), (State.bits_word_post _ _ _).2.1, hbits]
  · rw [(State.bits_word_post _ _ _).2.1, hbits]

end Sys2Proof.Machine

namespace Sys2Proof

open Machine

/-- Settles O20, command by command: the steps between power states, what the loop sends over AVSBus, and the bounds as a write
leaves them. -/
theorem powerCommandsComplete : Obligations.PowerCommandsComplete := by
  intro s
  refine ⟨?_, ?_, ?_, ?_, ?_, ?_, ?_, ?_, ?_, ?_, ?_, ?_, ?_⟩
  · intro hr hh
    simp (disch := decide) [exec, execPvinOvervoltage, State.when, hr, hh, pvinOk, Counted, Reported, State.fld_bump_counter]
  · intro hr
    cases hp : s.pwr.pvin <;> simp (disch := decide) [exec, execPvinOvRecover, State.when, hr, pvinOk, hp]
  · intro full hr
    cases full <;> simp (disch := decide) [exec, execPvinFullChange, State.when, hr]
  · intro low hr hio hl hn
    have hone (u : State) (b : Bool) : (u.setOn F.PWR_STATUS_PF_VIO b).on F.PWR_STATUS_PF_VIO = b := State.on_setOn_self u b (by decide)
    cases low <;> simp (disch := decide) [exec, execPfVioChange, pfVio, pfVioShow, State.when, hr, hio, hn, hone] at hl ⊢
    simp [hl, hone]
  · intro req hp h3 hb ha
    have hv : req.val % 4 ≠ 3 := fun h => h3 (Fin.ext (by omega))
    rw [exec, execPowerStateRequest, completes_heard hp]
    exact psRequest_starts req.isLt hv hb ha
  · intro req hp h3 hb
    have hw (u : State) : (u.setFld F.PWR_STATE_REQ_PS_REQ req.val).fld F.PWR_STATE_REQ_PS_REQ = req.val :=
      State.fld_setFld_fits u (by decide) req.isLt
    have hv : req.val % 4 ≠ 3 := fun h => h3 (Fin.ext (by omega))
    simp (disch := decide) [exec, execPowerStateRequest, completes_heard hp, psRequest, hv, hb, hw]
  · intro n hr hs he
    obtain ⟨hact, hnext⟩ := psStepDone_shows (by omega) hs
    rw [exec, execPowerStateStepDone, completes_ticking hr, if_neg (by simp [he])]
    have ho : Only FilterPages State.pwr (psStepDone s) ((psStepDone s).when (decide (s.fld F.PWR_STATUS_PS_ACT = 0))
        (fun s => pdmWake (fxWake (fchWake s)))) := by
      cases decide (s.fld F.PWR_STATUS_PS_ACT = 0)
      · exact .refl _
      · exact wake_only _
    dsimp only
    rw [ho.fld (by unfold FilterPages; decide), ho.fld (by unfold FilterPages; decide), ho.rest]
    exact ⟨hact, hnext⟩
  · intro m hr hm hp hst ht hmin haw hlt hne
    obtain ⟨u, he, htick, hmarg, havs⟩ := vSample_raises hm hp hst ht hmin haw hlt hne
    rw [exec, execVloopSample, completes_ticking hr, he]
    obtain ⟨h1, h2⟩ := vSend_shows (s := u) (vClamp_lt (vNow s + 5 * s.fld F.PWR_VLOOP_CFG_STEP) s)
    simp [h1, h2, htick, hmarg, havs]
  · intro v rest complete mv ma hr ha
    simp [exec, execAvsTransactionDone, completes_ticking hr, avsDone, ha]
  · intro rest complete mv ma hr ha
    rw [exec, execAvsTransactionDone, completes_ticking hr]
    exact avsDone_reads ha
  · intro complete mv ma hr ha hf
    obtain ⟨t, rest, he⟩ := List.exists_cons_of_ne_nil ha
    simp (disch := decide) [exec, execAvsTransactionDone, completes_ticking hr, avsDone, he, hf, Reported]
  · intro o k data ho hk
    have h := writeBound_shows (w := data) (.inl hk : 2 ≤ k.val ∨ (o ≠ .mc ∧ s.on (F.pgLock Pg.pwr) = false))
    rw [if_neg (by omega), if_neg (by omega)] at h
    simpa only [exec, execVcoreBoundWrite, completes_heardFrom ho] using h
  · intro o k data ho hk hmc hl
    have h := writeBound_shows (k := k) (w := data) (.inr ⟨hmc, hl⟩)
    rw [if_pos hk, if_pos hk] at h
    simpa only [exec, execVcoreBoundWrite, completes_heardFrom ho] using h
end Sys2Proof

/-!
What a command leaves alone, as the frame of its update: an entry of a map that is set and then set aside leaves the map without it.
-/

namespace Sys2Proof.Machine

section

variable {α : Type}

theorem SMap.erase_eq_filter (m : SMap α) (k : Nat) : SMap.erase m k = m.filter (fun e => e.1 != k) := by
  induction m with
  | nil => rfl
  | cons e t ih => by_cases h : e.1 = k <;> simp [SMap.erase, h, ih]

theorem SMap.foldl_erase_eq_filter (ks : List Nat) (m : SMap α) : ks.foldl SMap.erase m = m.filter (fun e => !ks.contains e.1) := by
  induction ks generalizing m with
  | nil => exact (List.filter_eq_self.mpr fun _ _ => rfl).symm
  | cons j t ih =>
    rw [List.foldl_cons, ih, SMap.erase_eq_filter, List.filter_filter]
    refine List.filter_congr fun e _ => ?_
    by_cases h : e.1 = j <;> simp [h]

/-- What a set leaves of the entries under keys other than its own. -/
theorem SMap.filter_set [DecidableEq α] (d : Nat → α) (m : SMap α) (k : Nat) (v : α) {p : Nat × α → Bool} (hp : ∀ w, p (k, w) = false) :
    (SMap.set d m k v).filter p = m.filter p := by
  have herase : (SMap.erase m k).filter p = m.filter p := by
    rw [SMap.erase_eq_filter, List.filter_filter]
    refine List.filter_congr fun e _ => ?_
    by_cases h : e.1 = k
    · have hpe : p e = false := by rw [← hp e.2, ← h]
      rw [hpe, Bool.false_and]
    · simp [h]
  have hinsert (m : SMap α) : (SMap.insert m k v).filter p = m.filter p := by
    induction m with
    | nil => simp [SMap.insert, hp]
    | cons e t ih => by_cases h : k < e.1 <;> simp [SMap.insert, h, hp, List.filter_cons, ih]
  unfold SMap.set
  split
  · exact herase
  · rw [hinsert, herase]

/-- An entry written and then set aside. -/
@[simp] theorem SMap.erase_set [DecidableEq α] (d : Nat → α) (m : SMap α) (k : Nat) (v : α) :
    SMap.erase (SMap.set d m k v) k = SMap.erase m k := by
  simp only [SMap.erase_eq_filter]
  exact SMap.filter_set d m k v fun _ => by simp

/-- An entry written and then set aside with others. -/
theorem SMap.foldl_erase_set [DecidableEq α] {ks : List Nat} (d : Nat → α) (m : SMap α) {k : Nat} (v : α) (hk : k ∈ ks) :
    ks.foldl SMap.erase (SMap.set d m k v) = ks.foldl SMap.erase m := by
  simp only [SMap.foldl_erase_eq_filter]
  exact SMap.filter_set d m k v fun _ => by simp [hk]

end

section

variable {i : Instr} {s u : State} {ws : List Nat} {aside : State → State}

/-- The frame of an event inside the part. -/
theorem Frames.ticking (he : exec i s = s.ticking (.next u)) (h : Only (· ∈ ws) aside s u) : Frames i s ws aside := by
  intro t ht
  rw [he] at ht
  by_cases hr : s.phase = .running
  · rw [State.ticking_of_running hr] at ht
    cases ht
    exact ⟨h.word, h.rest⟩
  · rw [State.ticking_of_not_running hr] at ht
    cases ht
    exact ⟨fun _ _ => rfl, rfl⟩

/-- The frame of a command over a host port. -/
theorem Frames.heard (he : exec i s = s.heard (.next u)) (h : Only (· ∈ ws) aside s u) : Frames i s ws aside := by
  intro t ht
  rw [he] at ht
  by_cases hp : s.ports = true
  · rw [State.heard_of_ports hp] at ht
    cases ht
    exact ⟨h.word, h.rest⟩
  · rw [State.heard_of_silent (Bool.eq_false_iff.mpr hp)] at ht
    cases ht
    exact ⟨fun _ _ => rfl, rfl⟩

end

section

variable {β : Type} {ws : Nat → Prop} {E : State → β} {s0 s : State}

/-- One branch goes on from the other. -/
theorem Only.branch {c : Prop} {_d : Decidable c} {a b : State} (ha : Only ws E s0 a) (hb : Only ws E s0 a → Only ws E s0 b) :
    Only ws E s0 (if c then a else b) := .ite ha (hb ha)

theorem Only.branchR {c : Prop} {_d : Decidable c} {a b : State} (hb : Only ws E s0 b) (ha : Only ws E s0 b → Only ws E s0 a) :
    Only ws E s0 (if c then a else b) := .ite (ha hb) hb

/-- A reading that does not show the FRESH mark of the register at `a`. -/
def HidesFresh (a : Nat) (E : State → β) : Prop := ∀ (u : State) m, E { u with fresh := SMap.set (fun _ => 0) u.fresh a m } = E u

/-- A reading that does not show the reports on their way. -/
def HidesReports (E : State → β) : Prop := ∀ (u : State) r, E { u with flt := { u.flt with reports := r } } = E u

/-- A reading that does not show the restore test of a unit. -/
def HidesTest (unit idx : Nat) (E : State → β) : Prop := ∀ (u : State) k, E (u.startTest unit idx k) = E u

theorem State.post_only {a : Nat} {w : Word} (ha : ws a) (hE : HidesFresh a E) (h : Only ws E s0 s) : Only ws E s0 (s.post a w) := by
  unfold State.post
  exact (State.setWord_only ha h).update rfl (hE { s with regs := [] } 15)

theorem State.startTest_only {unit idx k : Nat} (hE : HidesTest unit idx E) (h : Only ws E s0 s) :
    Only ws E s0 (s.startTest unit idx k) :=
  h.update rfl (hE { s with regs := [] } k)

/-- Tests set aside, a new one among them. -/
theorem filter_startTest {s : State} {unit idx k : Nat} {p : RTest → Bool} (hp : ∀ r : RTest, r.unit = unit → r.idx = idx → p r = false) :
    (s.startTest unit idx k).tests.filter p = s.tests.filter p := by
  have hnew : p ⟨unit, idx, k, s.tick + 1024⟩ = false := hp _ rfl rfl
  have hold : (s.tests.filter (fun t => !(t.unit == unit && t.idx == idx))).filter p = s.tests.filter p := by
    rw [List.filter_filter]
    refine List.filter_congr fun r _ => ?_
    by_cases h : r.unit = unit ∧ r.idx = idx
    · rw [hp r h.1 h.2, Bool.false_and]
    · rw [show (r.unit == unit && r.idx == idx) = false by simpa using h, Bool.not_false, Bool.and_true]
  rw [State.startTest, List.filter_append, hold, List.filter_cons, hnew]
  simp

end

/-- Fields told apart by evaluation, whatever register of an array they lie in. -/
theorem Fld.apart_sure {f g : Fld} (h : decide (f.Apart g) = true) : f.Apart g := of_decide_eq_true h

theorem Fld.flag_sure {f : Fld} (h : decide f.Flag = true) : f.Flag := of_decide_eq_true h

/-- What an update under a condition keeps, whichever way the condition falls. -/
theorem State.when_keeps {γ : Type} (g : State → γ) {c : Bool} {f : State → State} {s : State} (h : g (f s) = g s) :
    g (s.when c f) = g s := by
  cases c
  · rfl
  · exact h

section

variable (s : State)

@[simp] theorem State.int_setInt_off {f g : Fld} (v : Int) (h : f.Apart g) : (s.setInt f v).int g = s.int g :=
  State.int_setFld_off s _ h

/-- An interrupt raised. -/
@[simp] theorem State.fld_raise_self {p k : Nat} (hk : k < 32) : (s.raise p k).fld (F.pgInt p k) = 1 := State.fld_setFld_one s ⟨rfl, hk⟩

theorem State.fld_raise_other {p k : Nat} {f : Fld} (h : f.addr ≠ p * 4096 + 16) : (s.raise p k).fld f = s.fld f :=
  State.fld_raise_off s (.inr (.inr h))

/-- A test just started is the one its unit has. -/
@[simp] theorem State.testOf_startTest (unit idx k : Nat) :
    (s.startTest unit idx k).testOf unit idx = some ⟨unit, idx, k, s.tick + 1024⟩ := by
  have hold : (s.tests.filter (fun t => !(t.unit == unit && t.idx == idx))).find? (fun t => t.unit == unit && t.idx == idx) = none := by
    rw [List.find?_eq_none]
    intro t ht
    simpa [Classical.or_iff_not_imp_left] using (List.mem_filter.mp ht).2
  rw [State.testOf, State.startTest, List.find?_append, hold]
  simp

/-- A test just ended is gone. -/
@[simp] theorem State.testOf_endTest (unit idx : Nat) : (s.endTest unit idx).testOf unit idx = none := by
  rw [State.testOf, State.endTest, List.find?_eq_none]
  intro t ht
  simpa [Classical.or_iff_not_imp_left] using (List.mem_filter.mp ht).2

theorem State.testOf_congr {s t : State} (h : t.tests = s.tests) (unit idx : Nat) : t.testOf unit idx = s.testOf unit idx := by
  rw [State.testOf, h, State.testOf]

end

end Sys2Proof.Machine

/-!
The analog inputs (R107-R125): what each of their operations changes, and what their commands leave.
-/

namespace Sys2Proof.Machine

section

variable {β : Type} {ws : Nat → Prop} {E : State → β} {s0 s : State} {n : Nat}

/-- A reading that does not show analog input `n`. -/
def HidesAch (n : Nat) (E : State → β) : Prop := ∀ (u : State) x, E (u.setAch n x) = E u

/-- A reading that does not show audio channel `d` of the filter chain. -/
def HidesAud (d : Nat) (E : State → β) : Prop := ∀ (u : State) x, E (u.setAud d x) = E u

/-- The registers in which the match loop of input `n` shows its state. -/
def MatchRegs (n : Nat) (ws : Nat → Prop) : Prop := ws (Adr.AIN_MATCH_STAT n) ∧ ws (Pg.ain n * 4096 + 16)

theorem HidesAch.only (hE : HidesAch n E) (x : AinCh) (h : Only ws E s0 s) : Only ws E s0 (s.setAch n x) :=
  h.update rfl (hE { s with regs := [] } x)

theorem HidesAud.only (hE : HidesAud n E) (x : AudCh) (h : Only ws E s0 s) : Only ws E s0 (s.setAud n x) :=
  h.update rfl (hE { s with regs := [] } x)

variable (hE : HidesAch n E)

include hE

theorem matchSeek_only {v : Nat} (hw : MatchRegs n ws) (h : Only ws E s0 s) : Only ws E s0 (matchSeek n v s) := by
  obtain ⟨hs, hi⟩ := hw
  unfold matchSeek matchEnter
  exact .when (fun s h1 => State.raise_only hi h1) (State.setFld_only hs (hE.only _ h))

theorem matchStart_only (hw : MatchRegs n ws) (h : Only ws E s0 s) : Only ws E s0 (matchStart n s) := matchSeek_only hE hw h

theorem ainStepDone_only (hA : HidesAud n E) (hw : MatchRegs n ws) (h : Only ws E s0 s) : Only ws E s0 (ainStepDone n s) := by
  unfold ainStepDone audStart
  exact .ite (.ite (matchStart_only hE hw (hE.only _ h)) (matchStart_only hE hw (hE.only _ h)))
    (.ite (hA.only _ (hE.only _ h)) (.ite (hE.only _ h) h))

theorem matchRest_only {ax : Nat} {v : Int} (hR : HidesReports E) (hw : MatchRegs n ws) (h : Only ws E s0 s) :
    Only ws E s0 (matchRest n ax v s) := by
  obtain ⟨hs, hi⟩ := hw
  unfold matchRest
  have h1 (x : AinCh) (c d : Bool) := Only.when (c := c) (fun s h => State.report_only (c := 0x3446) (i := n) (a := 0) hR h)
    (Only.when (c := d) (fun s h => State.raise_only (k := 3) hi h) (hE.only x h))
  exact .ite (State.setOn_only hs (State.setOn_only hs (State.setOn_only hs (h1 ..))))
    (State.setOn_only hs (State.setOn_only hs (State.setOn_only hs (h1 ..))))

/-- The registers of the offsets that the loop of input `n` learns and of the trims it shows. -/
def TrimRegs (n row : Nat) (ws : Nat → Prop) : Prop :=
  ws (Adr.AIN_MATCH_OFS n row) ∧ ws (Adr.AIN_MATCH_GAIN n) ∧ ws (Adr.AIN_MATCH_DLY n)

theorem matchAxis_only {ax : Nat} {err : Int} (hR : HidesReports E) (hG : HidesFresh (Adr.AIN_MATCH_GAIN n) E)
    (hD : HidesFresh (Adr.AIN_MATCH_DLY n) E) (hw : MatchRegs n ws) (ht : TrimRegs n (matchRow (s.ach n).mode) ws) (h : Only ws E s0 s) :
    Only ws E s0 (matchAxis n ax err s) := by
  obtain ⟨ho, hg, hd⟩ := ht
  unfold matchAxis
  exact matchRest_only hE hR hw (.ite (State.post_only hg hG (State.setInt_only ho h)) (State.post_only hd hD (State.setInt_only ho h)))

end

@[simp] theorem State.ach_setAch (s : State) (n : Nat) (x : AinCh) : (s.setAch n x).ach n = x := SMap.get_set_same _ _ _ _

/-- An analog input is read from its part of the state alone. -/
theorem State.ach_congr {s t : State} (h : t.ain = s.ain) (n : Nat) : t.ach n = s.ach n := by rw [State.ach, h, State.ach]

@[simp] theorem State.ach_setFld (s : State) (n : Nat) (f : Fld) (v : Nat) : (s.setFld f v).ach n = s.ach n := State.ach_congr (by simp) n

@[simp] theorem State.ach_raise (s : State) (n p k : Nat) : (s.raise p k).ach n = s.ach n := State.ach_congr (by simp) n

@[simp] theorem State.ach_setAud (s : State) (n d : Nat) (x : AudCh) : (s.setAud d x).ach n = s.ach n := State.ach_congr rfl n

/-- What a change of the match loop's state keeps of its input (R118). -/
theorem matchSeek_ach (n v : Nat) (s : State) : (matchSeek n v s).ach n = { s.ach n with conv := 0, diverge := 0 } := by
  have hwhen (b : Bool) (u : State) : (u.when b (State.raise (Pg.ain n) 5)).ach n = u.ach n := by
    cases b
    · rfl
    · exact State.ach_raise u n (Pg.ain n) 5
  rw [matchSeek, matchEnter, hwhen, State.ach_setFld, State.ach_setAch]

@[simp] theorem matchStart_ach (n : Nat) (s : State) : (matchStart n s).ach n = { s.ach n with conv := 0, diverge := 0 } := matchSeek_ach n _ s

@[simp] theorem State.ach_setOn (s : State) (n : Nat) (f : Fld) (b : Bool) : (s.setOn f b).ach n = s.ach n := State.ach_setFld s n f _

@[simp] theorem State.ach_setInt (s : State) (n : Nat) (f : Fld) (v : Int) : (s.setInt f v).ach n = s.ach n := State.ach_setFld s n f _

@[simp] theorem State.ach_post (s : State) (n a : Nat) (w : Word) : (s.post a w).ach n = s.ach n := State.ach_congr (by simp) n

@[simp] theorem State.setAch_fld (n : Nat) (x : AinCh) (s : State) (f : Fld) : (s.setAch n x).fld f = s.fld f := rfl

@[simp] theorem State.setAch_tick (n : Nat) (x : AinCh) (s : State) : (s.setAch n x).tick = s.tick := rfl

@[simp] theorem State.setAch_cyc (n : Nat) (x : AinCh) (s : State) : (s.setAch n x).cyc = s.cyc := rfl

/-- From `s0` to `s` the match loop of input `n` stays in its state: what a block counts by, STATE and IDLE stand (R117, R118). -/
structure LoopKeeps (n : Nat) (s0 s : State) : Prop where
  qual : (s.ach n).qual = (s0.ach n).qual
  conv : (s.ach n).conv = (s0.ach n).conv
  diverge : (s.ach n).diverge = (s0.ach n).diverge
  state : matchState n s = matchState n s0
  idle : s.fld (F.AIN_MATCH_STAT_IDLE n) = s0.fld (F.AIN_MATCH_STAT_IDLE n)

section

variable {n : Nat} {s0 s t : State}

theorem LoopKeeps.refl (n : Nat) (s : State) : LoopKeeps n s s := ⟨rfl, rfl, rfl, rfl, rfl⟩

theorem LoopKeeps.trans (h : LoopKeeps n s0 s) (k : LoopKeeps n s t) : LoopKeeps n s0 t :=
  ⟨k.qual.trans h.qual, k.conv.trans h.conv, k.diverge.trans h.diverge, k.state.trans h.state, k.idle.trans h.idle⟩

/-- A change that touches neither the input nor its AIN_MATCH_STAT. -/
theorem LoopKeeps.apart (h : LoopKeeps n s0 s) (ha : t.ach n = s.ach n) (hf : ∀ f : Fld, f.addr = Adr.AIN_MATCH_STAT n → t.fld f = s.fld f) :
    LoopKeeps n s0 t :=
  h.trans ⟨congrArg AinCh.qual ha, congrArg AinCh.conv ha, congrArg AinCh.diverge ha, hf _ rfl, hf _ rfl⟩

theorem LoopKeeps.when {c : Bool} {f : State → State} (hf : LoopKeeps n s0 s → LoopKeeps n s0 (f s)) (h : LoopKeeps n s0 s) :
    LoopKeeps n s0 (s.when c f) := by
  cases c
  · exact h
  · exact hf h

/-- A field of AIN_MATCH_STAT other than STATE and IDLE. -/
theorem LoopKeeps.setOn {f : Fld} {b : Bool} (h1 : f.Apart (F.AIN_MATCH_STAT_STATE n)) (h2 : f.Apart (F.AIN_MATCH_STAT_IDLE n))
    (h : LoopKeeps n s0 s) : LoopKeeps n s0 (s.setOn f b) :=
  h.trans ⟨by simp, by simp, by simp, State.fld_setOn_off s b h1, State.fld_setOn_off s b h2⟩

theorem matchRest_loop {ax : Nat} {v : Int} (h : LoopKeeps n s0 s) : LoopKeeps n s0 (matchRest n ax v s) := by
  have hset (x : AinCh) (hx : x.qual = (s.ach n).qual ∧ x.conv = (s.ach n).conv ∧ x.diverge = (s.ach n).diverge) : LoopKeeps n s0 (s.setAch n x) :=
    h.trans ⟨by simp [hx], by simp [hx], by simp [hx], rfl, rfl⟩
  have hraise {u : State} (h : LoopKeeps n s0 u) : LoopKeeps n s0 (u.raise (Pg.ain n) 3) :=
    h.apart (State.ach_raise ..) fun f hf => State.fld_raise_other _ (by simp only [hf, Adr.AIN_MATCH_STAT, Pg.ain]; omega)
  have hreport {u : State} (h : LoopKeeps n s0 u) : LoopKeeps n s0 (u.report 0x3446 n 0) := h.apart rfl fun _ _ => rfl
  unfold matchRest
  split
  case isTrue hax =>
    exact .setOn (Fld.apart_sure rfl) (Fld.apart_sure rfl) (.setOn (Fld.apart_sure rfl) (Fld.apart_sure rfl)
      (.setOn (Fld.apart_sure rfl) (Fld.apart_sure rfl) (.when hreport (.when hraise (hset _ ⟨rfl, rfl, rfl⟩)))))
  case isFalse hax =>
    exact .setOn (Fld.apart_sure rfl) (Fld.apart_sure rfl) (.setOn (Fld.apart_sure rfl) (Fld.apart_sure rfl)
      (.setOn (Fld.apart_sure rfl) (Fld.apart_sure rfl) (.when hreport (.when hraise (hset _ ⟨rfl, rfl, rfl⟩)))))

end

/-- The gain offset of a trim that lies a bit above the factory's. -/
theorem unsigned_learned (f : Int) : unsigned 16 (signed 16 (unsigned 16 (f + 2048)) - f) = 2048 := by
  obtain ⟨m, hm, hf⟩ : ∃ m, unsigned 16 (f + 2048) = m ∧ (m : Int) = (f + 2048) % 65536 := ⟨_, rfl, by simp only [unsigned]; omega⟩
  rw [hm]
  have hs : signed 16 m % 65536 = (m : Int) % 65536 := by
    simp only [signed]
    split <;> omega
  simp only [unsigned]
  omega

/-- Bit 11 of a word whose low half is 2048. -/
theorem State.fld_bit11 {a : Nat} {s : State} (h : s.fld ⟨a, 15, 0⟩ = 2048) : s.fld ⟨a, 11, 11⟩ = 1 := by
  simp only [State.fld, Word.bits, Nat.shiftRight_eq_div_pow] at h ⊢
  omega

section

variable {s : State} {n : Nat}

theorem matchFactory_congr {t : State} {ax : Nat} (ha : (t.ach n).mode = (s.ach n).mode) (hf : t.fld (F.AIN_CFG_PGA n) = s.fld (F.AIN_CFG_PGA n)) :
    matchFactory n ax t = matchFactory n ax s := by rw [matchFactory, ha, hf, matchFactory]

/-- Crossed bounds hold the trim at the lower one (R119). -/
theorem matchMove_crossed {ax : Nat} {err : Int} (h : matchHi n ax s ≤ matchLo n ax s) : matchMove n ax err s = matchLo n ax s := by
  simp only [matchMove, if_pos h]

/-- In a mode that no MODE field holds, the offset that a block learns lands in AIN_MATCH_STAT: bit 11 of it shows as IDLE (R120). -/
theorem matchAxis_offMode {err : Int} (hm : (s.ach n).mode = 4)
    (hlo : matchLo n 0 s = signed 16 (unsigned 16 (matchFactory n 0 s + 2048))) (hhi : matchHi n 0 s = matchLo n 0 s) :
    (matchAxis n 0 err s).fld (F.AIN_MATCH_STAT_IDLE n) = 1 := by
  have hv : matchMove n 0 err s = matchLo n 0 s := matchMove_crossed (Int.le_of_eq hhi)
  have hofs : F.AIN_MATCH_OFS_GOFS n 3 = ⟨Adr.AIN_MATCH_STAT n, 15, 0⟩ :=
    congrArg (Fld.mk · 15 0) (by simp only [Adr.AIN_MATCH_OFS, Adr.AIN_MATCH_STAT]; omega)
  rw [matchAxis, hm, if_pos rfl]
  refine ((matchRest_loop (LoopKeeps.refl n _)).idle).trans ?_
  rw [State.fld_post_other _ _ (by simp only [F.AIN_MATCH_STAT_IDLE, Adr.AIN_MATCH_GAIN, Adr.AIN_MATCH_STAT]; omega)]
  refine State.fld_bit11 ?_
  rw [hv, hlo, State.setInt]
  show State.fld (State.setFld (F.AIN_MATCH_OFS_GOFS n 3) _ s) ⟨Adr.AIN_MATCH_STAT n, 15, 0⟩ = 2048
  have hfit : unsigned 16 (signed 16 (unsigned 16 (matchFactory n 0 s + 2048)) - matchFactory n 0 s) = 2048 := unsigned_learned _
  rw [hofs]
  exact (State.fld_setFld_fits s (f := ⟨Adr.AIN_MATCH_STAT n, 15, 0⟩) (of_decide_eq_true rfl) (hfit.symm ▸ by simp : _ < 2 ^ 16)).trans hfit

theorem matchAxis_delay_loop {err : Int} : LoopKeeps n s (matchAxis n 1 err s) := by
  unfold matchAxis
  refine matchRest_loop ((LoopKeeps.refl n s).trans ?_)
  rw [if_neg (by decide)]
  have hpost {w : Word} (u : State) : LoopKeeps n u (u.post (Adr.AIN_MATCH_DLY n) w) :=
    (LoopKeeps.refl n u).apart (by simp) fun f hf => State.fld_post_other _ _ (by
      simp only [hf, Adr.AIN_MATCH_DLY, Adr.AIN_MATCH_STAT]; omega)
  refine .trans ?_ (hpost _)
  exact ⟨by simp, by simp, by simp, State.fld_setFld_off _ _ (Fld.apart_sure rfl), State.fld_setFld_off _ _ (Fld.apart_sure rfl)⟩

theorem matchEnter_idle (v : Nat) : (matchEnter n v s).fld (F.AIN_MATCH_STAT_IDLE n) = s.fld (F.AIN_MATCH_STAT_IDLE n) := by
  refine (State.when_keeps (State.fld · _) (State.fld_raise_other _ ?_)).trans (State.fld_setFld_off _ _ (Fld.apart_sure rfl))
  simp only [F.AIN_MATCH_STAT_IDLE, Adr.AIN_MATCH_STAT, Pg.ain]
  omega

theorem matchBlock_offMode {ge de : Int} (hm : (s.ach n).mode = 4) (hq : 128 ≤ (s.ach n).qual)
    (ho : (s.ach n).ofsAt ≠ some (s.tick * 5120 + s.cyc)) (hs : matchState n s = 2)
    (hlo : matchLo n 0 s = signed 16 (unsigned 16 (matchFactory n 0 s + 2048))) (hhi : matchHi n 0 s = matchLo n 0 s) :
    (matchBlock n ge de s).fld (F.AIN_MATCH_STAT_IDLE n) = 1 := by
  have h0 : ¬ (matchState n s = 0 ∨ matchState n s = 3) := by omega
  have hq' : ¬ (s.ach n).qual < 128 := by omega
  simp only [matchBlock, if_neg h0, if_neg hq']
  rw [if_neg (show ¬ (s.ach n).ofsAt = some ((s.setAch n { s.ach n with qual := 0 }).tick * 5120 +
    (s.setAch n { s.ach n with qual := 0 }).cyc) from ho)]
  generalize hu : (s.setAch n { s.ach n with qual := 0 }).setFld (F.AIN_MATCH_STAT_IDLE n) 0 = u
  have hkeep (f : Fld) (hf : f.addr ≠ Adr.AIN_MATCH_STAT n) : u.fld f = s.fld f := by
    rw [← hu, State.fld_setFld_off _ _ (.inr (.inr hf)), State.setAch_fld]
  have hm' : (u.ach n).mode = 4 := by simp [← hu, hm]
  have hlo' : matchLo n 0 u = matchLo n 0 s := by
    simp only [matchLo, if_true, State.int]
    rw [hkeep _ (by simp only [F.AIN_MATCH_GFLOOR_GFLOOR, Adr.AIN_MATCH_GFLOOR, Adr.AIN_MATCH_STAT]; omega)]
  have hhi' : matchHi n 0 u = matchHi n 0 s := by
    simp only [matchHi, if_true, State.int]
    rw [hkeep _ (by simp only [F.AIN_MATCH_GCEIL_GCEIL, Adr.AIN_MATCH_GCEIL, Adr.AIN_MATCH_STAT]; omega)]
  have hf' : matchFactory n 0 u = matchFactory n 0 s :=
    matchFactory_congr (hm'.trans hm.symm) (hkeep _ (by simp only [F.AIN_CFG_PGA, Adr.AIN_CFG, Adr.AIN_MATCH_STAT]; omega))
  have hidle := matchAxis_offMode (err := ge) hm' (by rw [hlo', hlo, hf']) (by rw [hlo', hhi', hhi])
  have hboth := (matchAxis_delay_loop (err := de)).idle.trans hidle
  have hend (x : AinCh) (c d : Prop) [Decidable c] [Decidable d] (t : State) (ht : t.fld (F.AIN_MATCH_STAT_IDLE n) = 1) :
      (if c then matchEnter n 2 (t.setAch n x) else if d then matchEnter n 1 (t.setAch n x) else t.setAch n x).fld
        (F.AIN_MATCH_STAT_IDLE n) = 1 := by
    split
    · rw [matchEnter_idle, State.setAch_fld, ht]
    · split
      · rw [matchEnter_idle, State.setAch_fld, ht]
      · rw [State.setAch_fld, ht]
  exact hend _ _ _ _ hboth

end

/-- Input 0 in MATCHED, one block from divergence, in a mode that no MODE field holds. Its gain bounds cross. -/
def offModeState : State :=
  let f := Config.real "factoryTrim" [0, 0, 4, (State.reset.fld (F.AIN_CFG_PGA 0) : Int)]
  ((({ State.reset with phase := .running }.setAch 0 { mode := 4, diverge := 3, qual := 128 }).setFld (F.AIN_MATCH_STAT_STATE 0) 2).setInt
    (F.AIN_MATCH_GFLOOR_GFLOOR 0) (f + 2048)).setInt (F.AIN_MATCH_GCEIL_GCEIL 0) (f + 2048)

theorem offModeState_ach : offModeState.ach 0 = { mode := 4, diverge := 3, qual := 128 } := by
  rw [offModeState, State.ach_setInt, State.ach_setInt, State.ach_setFld, State.ach_setAch]

theorem offModeState_shows : matchState 0 offModeState = 2 ∧
    matchLo 0 0 offModeState = signed 16 (unsigned 16 (matchFactory 0 0 offModeState + 2048)) ∧
    matchHi 0 0 offModeState = matchLo 0 0 offModeState := by
  have hpga : offModeState.fld (F.AIN_CFG_PGA 0) = State.reset.fld (F.AIN_CFG_PGA 0) := by
    rw [offModeState, State.fld_setInt_off _ _ (by decide), State.fld_setInt_off _ _ (by decide), State.fld_setFld_off _ _ (by decide)]
    rfl
  have hf : matchFactory 0 0 offModeState = Config.real "factoryTrim" [0, 0, 4, (State.reset.fld (F.AIN_CFG_PGA 0) : Int)] := by
    rw [matchFactory, offModeState_ach, hpga]
    rfl
  have hfit (v : Int) : unsigned 16 v < 2 ^ 16 := by simp only [unsigned]; omega
  have hset (u : State) (f : Fld) (v : Int) (hf : f.lo = 0 ∧ f.hi = 15) : (u.setInt f v).int f = signed 16 (unsigned 16 v) := by
    obtain ⟨a, hi, lo⟩ := f
    obtain ⟨rfl, rfl⟩ := hf
    exact congrArg (signed 16) (State.fld_setFld_fits u (by simp) (hfit v))
  refine ⟨?_, ?_, ?_⟩
  · rw [matchState, offModeState, State.fld_setInt_off _ _ (by decide), State.fld_setInt_off _ _ (by decide)]
    exact State.fld_setFld_fits _ (by decide) (by decide)
  · rw [hf, matchLo, if_pos rfl, offModeState, State.int_setInt_off _ _ (by decide)]
    exact hset _ _ _ ⟨rfl, rfl⟩
  · rw [matchLo, matchHi, if_pos rfl, if_pos rfl, offModeState, hset _ _ _ ⟨rfl, rfl⟩, State.int_setInt_off _ _ (by decide), hset _ _ _ ⟨rfl, rfl⟩]

end Sys2Proof.Machine

namespace Sys2Proof

open Machine

/-- Refutes O21: its clause of MATCH_BLOCK in MATCHED says that IDLE clears, for every state. In `offModeState` the channel's mode is 4; the row of
its learned offsets is then the word AIN_MATCH_STAT, and the offset that the block writes there shows as IDLE. -/
theorem not_analogInputCommandsComplete : ¬ Obligations.AnalogInputCommandsComplete := by
  intro h
  obtain ⟨-, -, -, -, -, -, -, -, hfar, -⟩ := h offModeState
  obtain ⟨hs, hlo, hhi⟩ := offModeState_shows
  have hrun : offModeState.phase = .running := by simp [offModeState, State.setAch]
  obtain ⟨t, he, hidle, -⟩ := hfar 0 0 501 0 hrun hs (by simp [offModeState_ach]) (by simp [offModeState_ach])
    (by simp [offModeState_ach]) (by decide)
  rw [exec, execMatchBlock, State.ticking_of_running hrun] at he
  cases he
  have hach : (offModeState.land 0).ach 0 = { mode := 4, diverge := 3, qual := 128 } := offModeState_ach
  have hset := matchBlock_offMode (s := offModeState.land 0) (n := 0) (ge := 501) (de := 0) (congrArg AinCh.mode hach) (Nat.le_of_eq (congrArg AinCh.qual hach).symm) (by simp [hach]) hs hlo hhi
  exact absurd (hset.symm.trans hidle) (by decide)
end Sys2Proof

/-!
The filter chain (R131-R157): what an output value of a control channel keeps, and what the commands leave.
-/

namespace Sys2Proof.Machine

variable {c : Nat} {s0 s t : State}

@[simp] theorem State.ctl_setCtl (s : State) (c : Nat) (x : CtlCh) : (s.setCtl c x).ctl c = x := SMap.get_set_same _ _ _ _

/-- A control channel is read from its part of the state alone. -/
theorem State.ctl_congr (h : t.fch = s.fch) (c : Nat) : t.ctl c = s.ctl c := by rw [State.ctl, h, State.ctl]

@[simp] theorem State.ctl_setFld (s : State) (c : Nat) (f : Fld) (v : Nat) : (s.setFld f v).ctl c = s.ctl c := State.ctl_congr (by simp) c

@[simp] theorem State.ctl_setOn (s : State) (c : Nat) (f : Fld) (b : Bool) : (s.setOn f b).ctl c = s.ctl c := State.ctl_congr (by simp) c

@[simp] theorem State.ctl_raise (s : State) (c p k : Nat) : (s.raise p k).ctl c = s.ctl c := State.ctl_congr (by simp) c

@[simp] theorem State.ctl_bump (s : State) (c : Nat) (f g : Fld) : (s.bump f g).ctl c = s.ctl c := State.ctl_congr (by simp) c

@[simp] theorem State.ctl_post (s : State) (c a : Nat) (w : Word) : (s.post a w).ctl c = s.ctl c := State.ctl_congr (by simp) c

@[simp] theorem State.setCtl_fld (s : State) (c : Nat) (x : CtlCh) (f : Fld) : (s.setCtl c x).fld f = s.fld f := rfl

/-- From `s0` to `s` the count of a control channel's samples stands, with what it shows of a stall (R131). -/
structure CountKeeps (c : Nat) (s0 s : State) : Prop where
  n : (s.ctl c).n = (s0.ctl c).n
  expect : (s.ctl c).expect = (s0.ctl c).expect
  replaced : (s.ctl c).replaced = (s0.ctl c).replaced
  stall : s.fld (F.FCH_CSTAT_STALL c) = s0.fld (F.FCH_CSTAT_STALL c)
  count : s.fld (F.FCH_CCNT_STALL_CNT c) = s0.fld (F.FCH_CCNT_STALL_CNT c)
  int : s.fld (F.pgInt (Pg.fchCtl c) 3) = s0.fld (F.pgInt (Pg.fchCtl c) 3)

theorem CountKeeps.refl (c : Nat) (s : State) : CountKeeps c s s := ⟨rfl, rfl, rfl, rfl, rfl, rfl⟩

theorem CountKeeps.trans (h : CountKeeps c s0 s) (k : CountKeeps c s t) : CountKeeps c s0 t :=
  ⟨k.n.trans h.n, k.expect.trans h.expect, k.replaced.trans h.replaced, k.stall.trans h.stall, k.count.trans h.count, k.int.trans h.int⟩

theorem CountKeeps.ite {p : Prop} {_d : Decidable p} {a b : State} (ha : CountKeeps c s0 a) (hb : CountKeeps c s0 b) :
    CountKeeps c s0 (if p then a else b) := by
  split <;> assumption

theorem CountKeeps.when {b : Bool} {f : State → State} (hf : ∀ s, CountKeeps c s0 s → CountKeeps c s0 (f s)) (h : CountKeeps c s0 s) :
    CountKeeps c s0 (s.when b f) := .ite (hf s h) h

/-- Another part of the channel changes. -/
theorem CountKeeps.ctl {x : CtlCh} (hn : x.n = (s.ctl c).n) (he : x.expect = (s.ctl c).expect) (hr : x.replaced = (s.ctl c).replaced)
    (h : CountKeeps c s0 s) : CountKeeps c s0 (s.setCtl c x) :=
  h.trans ⟨by simp [hn], by simp [he], by simp [hr], rfl, rfl, rfl⟩

/-- Registers apart from those that show the stall. -/
theorem CountKeeps.regs (hf : t.fch = s.fch) (h1 : t.fld (F.FCH_CSTAT_STALL c) = s.fld (F.FCH_CSTAT_STALL c))
    (h2 : t.fld (F.FCH_CCNT_STALL_CNT c) = s.fld (F.FCH_CCNT_STALL_CNT c))
    (h3 : t.fld (F.pgInt (Pg.fchCtl c) 3) = s.fld (F.pgInt (Pg.fchCtl c) 3)) (h : CountKeeps c s0 s) : CountKeeps c s0 t :=
  have hc := State.ctl_congr hf c
  h.trans ⟨by rw [hc], by rw [hc], by rw [hc], h1, h2, h3⟩

/-- The registers of a control channel and of its page's interrupts are different ones. -/
theorem ctlRegs_apart (c : Nat) : Adr.FCH_CSTAT c ≠ Adr.FCH_CCNT c ∧ Adr.FCH_CSTAT c ≠ Adr.FCH_CVAL c ∧ Adr.FCH_CCNT c ≠ Adr.FCH_CVAL c ∧
    Adr.FCH_CSTAT c ≠ Pg.fchCtl c * 4096 + 16 ∧ Adr.FCH_CCNT c ≠ Pg.fchCtl c * 4096 + 16 ∧ Adr.FCH_CVAL c ≠ Pg.fchCtl c * 4096 + 16 := by
  simp only [Adr.FCH_CSTAT, Adr.FCH_CCNT, Adr.FCH_CVAL, Pg.fchCtl]
  omega

/-- A field of FCH_CSTAT other than STALL. -/
theorem CountKeeps.stat {f : Fld} {v : Nat} (ha : f.addr = Adr.FCH_CSTAT c) (hf : f.Apart (F.FCH_CSTAT_STALL c)) (h : CountKeeps c s0 s) :
    CountKeeps c s0 (s.setFld f v) := by
  obtain ⟨hcnt, -, -, hint, -⟩ := ctlRegs_apart c
  exact h.regs (by simp) (State.fld_setFld_off _ _ hf) (State.fld_setFld_off _ _ (.inr (.inr (ha ▸ hcnt.symm))))
    (State.fld_setFld_off _ _ (.inr (.inr (ha ▸ hint.symm))))

/-- A counter of FCH_CCNT other than STALL_CNT. -/
theorem CountKeeps.bump {f g : Fld} (ha : f.addr = Adr.FCH_CCNT c) (hb : g.addr = Adr.FCH_CCNT c) (hf : f.Apart (F.FCH_CCNT_STALL_CNT c))
    (hg : g.Apart (F.FCH_CCNT_STALL_CNT c)) (h : CountKeeps c s0 s) : CountKeeps c s0 (s.bump f g) := by
  obtain ⟨hcnt, -, -, -, hint, -⟩ := ctlRegs_apart c
  exact h.regs (by simp) (State.fld_bump_off _ (.inr (.inr (ha ▸ hcnt))) (.inr (.inr (hb ▸ hcnt)))) (State.fld_bump_off _ hf hg)
    (State.fld_bump_off _ (.inr (.inr (ha ▸ hint.symm))) (.inr (.inr (hb ▸ hint.symm))))

theorem CountKeeps.raise {k : Nat} (hk : k ≠ 3) (h : CountKeeps c s0 s) : CountKeeps c s0 (s.raise (Pg.fchCtl c) k) := by
  obtain ⟨-, -, -, hstat, hcnt, -⟩ := ctlRegs_apart c
  exact h.regs (by simp) (State.fld_raise_other _ hstat) (State.fld_raise_other _ hcnt)
    (State.fld_raise_off _ (by simp only [Fld.Apart, F.pgInt]; omega))

theorem thrFld_apart (c k : Nat) : (thrState c k).Apart (F.FCH_CSTAT_STALL c) ∧ (thrAmbig c k).Apart (F.FCH_CSTAT_STALL c) ∧
    (thrForced c k).Apart (F.FCH_CSTAT_STALL c) := by
  unfold thrState thrAmbig thrForced
  split <;> exact ⟨Fld.apart_sure rfl, Fld.apart_sure rfl, Fld.apart_sure rfl⟩

theorem evPost_count {stamp : Int} {kind flags : Nat} {val : Word} (h : CountKeeps c s0 s) : CountKeeps c s0 (evPost c stamp kind flags val s) := by
  unfold evPost
  exact .raise (by decide) (.bump rfl rfl (Fld.apart_sure rfl) (Fld.apart_sure rfl)
    (h.trans ⟨rfl, rfl, rfl, rfl, rfl, rfl⟩))

theorem peakClose_count (h : CountKeeps c s0 s) : CountKeeps c s0 (peakClose c s) := by
  unfold peakClose
  dsimp only
  split
  · exact h
  · exact evPost_count (.ctl rfl rfl rfl h)

/-- What a channel counts by stands with another state of a comparator. -/
theorem CtlCh.setComp_count (x : CtlCh) (k : Nat) (v : CompSt) :
    (x.setComp k v).n = x.n ∧ (x.setComp k v).expect = x.expect ∧ (x.setComp k v).replaced = x.replaced := by
  unfold CtlCh.setComp
  split <;> exact ⟨rfl, rfl, rfl⟩

theorem setComp_count {k : Nat} {v : CompSt} (h : CountKeeps c s0 s) : CountKeeps c s0 (s.setCtl c ((s.ctl c).setComp k v)) := by
  obtain ⟨hn, he, hr⟩ := (s.ctl c).setComp_count k v
  exact .ctl hn he hr h

theorem thrEval_count {k : Nat} {y : Word} {u : Int} {b : Nat} (h : CountKeeps c s0 s) : CountKeeps c s0 (thrEval c k y u b s) := by
  obtain ⟨hstate, hambig, hforced⟩ := thrFld_apart c k
  have hmove (goal : Nat) (v : CompSt) : CountKeeps c s0 ((((s.setCtl c ((s.ctl c).setComp k v)).setFld (thrState c k) goal).setFld
      (thrForced c k) 0).setFld (thrAmbig c k) 0) :=
    .stat (thrAmbig_addr c k) hambig (.stat (thrForced_addr c k) hforced (.stat (thrState_addr c k) hstate (setComp_count h)))
  unfold thrEval
  refine .ite h (.ite (.ite (evPost_count (hmove ..)) (.ite (evPost_count (hmove ..)) (setComp_count h))) (.ite ?_
    (.ite (.when (fun _ h => evPost_count h) (hmove ..)) (setComp_count h))))
  exact .ite (.ctl rfl rfl rfl (peakClose_count (.when (fun _ h => evPost_count h) (hmove ..)))) (.when (fun _ h => evPost_count h) (hmove ..))

theorem peakTake_count {b : Nat} {y : Word} {u : Int} (h : CountKeeps c s0 s) : CountKeeps c s0 (peakTake c b y u s) := by
  unfold peakTake
  dsimp only
  split
  · exact .ctl rfl rfl rfl h
  · exact h

theorem valueTake_count {b : Nat} {y : Word} {u : Int} (h : CountKeeps c s0 s) : CountKeeps c s0 (valueTake c b y u s) := by
  unfold valueTake
  exact .ite (evPost_count (.ctl rfl rfl rfl h)) h

theorem fchPut_count {n : Nat} {w : Word} (h : CountKeeps c s0 s) : CountKeeps c s0 (fchPut n w s) := by
  unfold fchPut
  exact .ite h (h.trans ⟨rfl, rfl, rfl, rfl, rfl, rfl⟩)

theorem ctlOutput_count {tag : Nat} {u : Int} (h : CountKeeps c s0 s) : CountKeeps c s0 (ctlOutput c tag u s) := by
  have hpost {w : Word} {s : State} (h : CountKeeps c s0 s) : CountKeeps c s0 (s.post (Adr.FCH_CVAL c) w) := by
    obtain ⟨-, hstat, hcnt, -, -, hint⟩ := ctlRegs_apart c
    exact h.regs (by simp) (State.fld_post_other _ _ hstat) (State.fld_post_other _ _ hcnt) (State.fld_post_other _ _ hint.symm)
  have hshow {w : Word} {b : Bool} {v : Word} {s : State} (h : CountKeeps c s0 s) :
      CountKeeps c s0 (fchPut (0x040 + c) v (((s.post (Adr.FCH_CVAL c) w)).setOn (F.FCH_CSTAT_UNS c) b)) :=
    fchPut_count (.stat rfl (Fld.apart_sure rfl) (hpost h))
  have hgood {w : Word} : CountKeeps c s0 (s.when (!s.fch.eng.faulted) (fun s => s.setCtl c { s.ctl c with good := w })) :=
    .when (fun _ h => .ctl rfl rfl rfl h) h
  unfold ctlOutput
  exact .ite (.ctl rfl rfl rfl (hshow hgood))
    (.ctl rfl rfl rfl (valueTake_count (peakTake_count (thrEval_count (thrEval_count (hshow hgood))))))

/-- A sample taken while a stall of this tick is shown: one more, the stall shown as before (R131). -/
theorem ctlTake_count {w : Word} {u : Int} (hs : s.tick < (s.ctl c).stallTick + 4) :
    ((ctlTake c w u s).ctl c).n = (s.ctl c).n + 1 ∧ ((ctlTake c w u s).ctl c).replaced = (s.ctl c).replaced ∧
    (ctlTake c w u s).fld (F.FCH_CSTAT_STALL c) = s.fld (F.FCH_CSTAT_STALL c) ∧
    (ctlTake c w u s).fld (F.FCH_CCNT_STALL_CNT c) = s.fld (F.FCH_CCNT_STALL_CNT c) ∧
    (ctlTake c w u s).fld (F.pgInt (Pg.fchCtl c) 3) = s.fld (F.pgInt (Pg.fchCtl c) 3) := by
  have hbase {t : State} (x : CtlCh) (hn : x.n = (s.ctl c).n + 1) (hr : x.replaced = (s.ctl c).replaced) (h : CountKeeps c (s.setCtl c x) t) :
      (t.ctl c).n = (s.ctl c).n + 1 ∧ (t.ctl c).replaced = (s.ctl c).replaced ∧ t.fld (F.FCH_CSTAT_STALL c) = s.fld (F.FCH_CSTAT_STALL c) ∧
      t.fld (F.FCH_CCNT_STALL_CNT c) = s.fld (F.FCH_CCNT_STALL_CNT c) ∧
      t.fld (F.pgInt (Pg.fchCtl c) 3) = s.fld (F.pgInt (Pg.fchCtl c) 3) :=
    ⟨by rw [h.n, State.ctl_setCtl, hn], by rw [h.replaced, State.ctl_setCtl, hr], h.stall, h.count, h.int⟩
  have hspike (x : CtlCh) (b : Bool) : CountKeeps c (s.setCtl c x)
      ((s.setCtl c x).when b (State.bump (F.FCH_CCNT_SPIKE_CNT c) (F.FCH_CCNT_SP_SAT c))) :=
    .when (fun _ h => .bump rfl rfl (Fld.apart_sure rfl) (Fld.apart_sure rfl) h) (.refl c _)
  have hstall (x : CtlCh) (b : Bool) : CountKeeps c (s.setCtl c x) (((s.setCtl c x).when b (State.bump (F.FCH_CCNT_SPIKE_CNT c)
      (F.FCH_CCNT_SP_SAT c))).when (((s.setCtl c x).when b (State.bump (F.FCH_CCNT_SPIKE_CNT c) (F.FCH_CCNT_SP_SAT c))).on
        (F.FCH_CSTAT_STALL c) && decide ((s.ctl c).stallTick + 4 ≤ ((s.setCtl c x).when b (State.bump (F.FCH_CCNT_SPIKE_CNT c)
          (F.FCH_CCNT_SP_SAT c))).tick)) (State.setFld (F.FCH_CSTAT_STALL c) 0)) := by
    have htick : ((s.setCtl c x).when b (State.bump (F.FCH_CCNT_SPIKE_CNT c) (F.FCH_CCNT_SP_SAT c))).tick = s.tick :=
      State.when_keeps State.tick (by simp)
    rw [htick, decide_eq_false (by omega), Bool.and_false, State.when_false]
    exact hspike x b
  unfold ctlTake
  dsimp only
  refine hbase _ ?_ ?_ (.ite (ctlOutput_count (hstall _ _)) (hstall _ _))
  · rfl
  · rfl

/-- A sample that is replaced (R131). -/
theorem ctlLate_shows (ho : (s.ctl c).on = true) (ha : psAwake s = true) (he : (s.ctl c).expect + 4 ≤ s.tick) :
    (ctlLate c s).fld (F.FCH_CSTAT_STALL c) = 1 ∧ (ctlLate c s).fld (F.pgInt (Pg.fchCtl c) 3) = 1 ∧ ((ctlLate c s).ctl c).n = (s.ctl c).n + 1 ∧
    ((ctlLate c s).ctl c).expect = (s.ctl c).expect + 4 ∧ ((ctlLate c s).ctl c).replaced = (s.ctl c).replaced ++ [ctlNextAt c s] ∧
    Counted s (ctlLate c s) (F.FCH_CCNT_STALL_CNT c) := by
  obtain ⟨hcnt, -, -, hint, hcint, -⟩ := ctlRegs_apart c
  have hon : (!(s.ctl c).on || !psAwake s || decide (s.tick < (s.ctl c).expect + 4)) = false := by simp [ho, ha, he]
  have hwhen (b : Bool) (i : Nat) (u : State) : (u.when b (State.report 0x44C3 i 2)).fld = u.fld ∧
      (u.when b (State.report 0x44C3 i 2)).ctl c = u.ctl c ∧ (u.when b (State.report 0x44C3 i 2)).tick = u.tick := by
    cases b <;> exact ⟨rfl, rfl, rfl⟩
  unfold ctlLate
  dsimp only
  rw [hon, if_neg (by decide)]
  generalize hu : State.when _ _ _ = u
  obtain ⟨hfld, hctl, htick⟩ := hwhen (!(s.ctl c).stalled) (0x040 + c) ((((s.setCtl c { s.ctl c with
    stalled := true, stallTick := s.tick, replaced := (s.ctl c).replaced ++ [ctlNextAt c s] }).bump (F.FCH_CCNT_STALL_CNT c)
      (F.FCH_CCNT_ST_SAT c)).setFld (F.FCH_CSTAT_STALL c) 1).raise (Pg.fchCtl c) 3)
  rw [hu] at hfld hctl htick
  simp only [State.ctl_raise, State.ctl_setFld, State.ctl_bump, State.ctl_setCtl] at hctl
  replace htick : u.tick = s.tick := htick.trans (by simp [State.setCtl])
  obtain ⟨hn, hr, hs, hk, hi⟩ := ctlTake_count (c := c) (w := addTag ((s.ctl c).hist.headD 0) tSUB) (u := ctlNextAt c s) (s := u)
    (by rw [hctl, htick]; exact Nat.lt_add_of_pos_right (by decide))
  refine ⟨hs.trans ?_, hi.trans ?_, ?_, ?_, ?_, hk.trans ?_⟩
  · rw [hfld, State.fld_raise_other _ hint]
    exact State.fld_setFld_one _ (Fld.flag_sure rfl)
  · rw [hfld, State.fld_raise_self _ (by decide)]
  · rw [State.ctl_setCtl, hn, hctl]
  · rw [State.ctl_setCtl]
  · rw [State.ctl_setCtl, hr, hctl]
  · rw [hfld, State.fld_raise_other _ hcint, State.fld_setFld_off _ _ (.inr (.inr hcnt.symm)),
      State.fld_bump_counter _ (of_decide_eq_true rfl) (of_decide_eq_true rfl) (Fld.apart_sure rfl)]
    rfl

/-- An event posted changes nothing of FCH_CSTAT. -/
theorem evPost_fld {stamp : Int} {kind flags : Nat} {val : Word} {f : Fld} (hf : f.addr = Adr.FCH_CSTAT c) :
    (evPost c stamp kind flags val s).fld f = s.fld f := by
  obtain ⟨hcnt, -, -, hint, -⟩ := ctlRegs_apart c
  unfold evPost
  rw [State.fld_raise_other _ (hf ▸ hint), State.fld_bump_off _ (.inr (.inr (hf ▸ hcnt))) (.inr (.inr (hf ▸ hcnt)))]
  rfl

@[simp] theorem evPost_events (c : Nat) (stamp : Int) (kind flags : Nat) (val : Word) (s : State) :
    (evPost c stamp kind flags val s).fch.events = s.fch.events ++ [⟨c, stamp, kind, flags, val⟩] := by
  simp [evPost]

@[simp] theorem evPost_ctl (d : Nat) (stamp : Int) (kind flags : Nat) (val : Word) (s : State) :
    (evPost d stamp kind flags val s).ctl c = s.ctl c := by
  simp only [evPost, State.ctl_raise, State.ctl_bump]
  rfl

@[simp] theorem State.setCtl_regs (s : State) (c : Nat) (x : CtlCh) : (s.setCtl c x).regs = s.regs := rfl

@[simp] theorem State.setCtl_events (s : State) (c : Nat) (x : CtlCh) : (s.setCtl c x).fch.events = s.fch.events := rfl

@[simp] theorem CtlCh.comp_setComp (x : CtlCh) (k : Nat) (v : CompSt) : (x.setComp k v).comp k = v := by
  unfold CtlCh.comp CtlCh.setComp
  split <;> rfl

/-- The fields of a comparator share no bit. -/
theorem thrFlds_apart (c k : Nat) : (thrState c k).Apart (thrAmbig c k) ∧ (thrForced c k).Apart (thrAmbig c k) ∧
    (thrState c k).Apart (thrForced c k) := by
  unfold thrState thrAmbig thrForced
  split <;> exact ⟨Fld.apart_sure rfl, Fld.apart_sure rfl, Fld.apart_sure rfl⟩

theorem Fld.Apart.symm {f g : Fld} (h : f.Apart g) : g.Apart f := by
  obtain h | h | h := h
  · exact .inr (.inl h)
  · exact .inl h
  · exact .inr (.inr h.symm)

theorem thrFlds_fit (c k : Nat) : (thrState c k).hi < 32 ∧ (thrState c k).width = 2 ∧ (thrAmbig c k).Flag ∧ (thrForced c k).Flag := by
  unfold thrState thrAmbig thrForced
  split <;> exact ⟨of_decide_eq_true rfl, rfl, Fld.flag_sure rfl, Fld.flag_sure rfl⟩

/-- A force leaves its code, shown as forced (R149). -/
theorem thrForce_shows {v k : Nat} (he : s.on (F.FCH_THR_EN c k) = true) (hv : v = 1 ∨ v = 2) :
    (thrForce c k v s).fld (thrState c k) = v ∧ (thrForce c k v s).fld (thrForced c k) = 1 ∧ (thrForce c k v s).fld (thrAmbig c k) = 0 := by
  obtain ⟨hsa, hfa, hsf⟩ := thrFlds_apart c k
  obtain ⟨hs32, hs2, ha, hf⟩ := thrFlds_fit c k
  have hv3 : v ≠ 3 := by omega
  simp only [thrForce, he, hv3, Bool.not_true, Bool.false_eq_true, if_false]
  refine ⟨?_, ?_, ?_⟩
  · rw [State.fld_setFld_off _ _ hsa.symm, State.fld_setFld_off _ _ hsf.symm]
    exact State.fld_setFld_fits _ hs32 (by rw [hs2]; omega)
  · rw [State.fld_setFld_off _ _ hfa.symm]
    exact State.fld_setFld_one _ hf
  · exact State.fld_setFld_zero _ ha.2

/-- A release undecides the comparator (R147, R149). -/
theorem thrReset_shows (k : Nat) : (thrReset c k s).fld (thrState c k) = 0 ∧ (thrReset c k s).fld (thrForced c k) = 0 ∧
    (thrReset c k s).fld (thrAmbig c k) = 0 ∧ (((thrReset c k s).ctl c).comp k).since = none := by
  obtain ⟨hsa, hfa, hsf⟩ := thrFlds_apart c k
  obtain ⟨hs32, hs2, ha, hf⟩ := thrFlds_fit c k
  unfold thrReset
  refine ⟨?_, ?_, ?_, ?_⟩
  · rw [State.fld_setFld_off _ _ hsf.symm, State.fld_setFld_off _ _ hsa.symm]
    exact State.fld_setFld_zero _ hs32
  · exact State.fld_setFld_zero _ hf.2
  · rw [State.fld_setFld_off _ _ hfa]
    exact State.fld_setFld_zero _ ha.2
  · simp

@[simp] theorem State.aud_setAud (s : State) (d : Nat) (x : AudCh) : (s.setAud d x).aud d = x := SMap.get_set_same _ _ _ _

theorem State.aud_congr (h : t.fch = s.fch) (d : Nat) : t.aud d = s.aud d := by rw [State.aud, h, State.aud]

/-- Whether a press freezes a decimator's bank depends on the press, the image and three fields (R140). -/
theorem audPressing_congr {d : Nat} (hp : t.press = s.press) (hi : t.image = s.image) (hb : audBank d t = audBank d s)
    (ha : d < 32 → t.fld (F.AIN_CFG_MODE d) = s.fld (F.AIN_CFG_MODE d)) (hm : t.fld F.PDM_CFG_MIC_EN = s.fld F.PDM_CFG_MIC_EN) :
    audPressing d t = audPressing d s := by
  have hu : audUsed d t = audUsed d s := by
    unfold audUsed
    split
    next h => rw [State.on, ha h, State.on]
    next => rw [hm]
  simp only [audPressing, audImage, imageFld, hp, hi, hu, hb]

/-- The end of a swap crossfade: the outgoing bank is released (R141). -/
theorem audSwapEnd_shows {d : Nat} (hx : (s.aud d).xfade = true) (hw : rampRests (s.aud d).xf = true) :
    (audSwapEnd d s).aud d = { s.aud d with xfade := false } ∧ (audSwapEnd d s).fld (F.FCH_ASTAT_XFADE d) = 0 ∧
    (audSwapEnd d s).on (F.FCH_ASTAT_FROZEN d) = audPressing d s ∧ (audSwapEnd d s).fld (F.pgInt (Pg.fchAudio d) 1) = 1 := by
  have hint : Adr.FCH_ASTAT d ≠ Pg.fchAudio d * 4096 + 16 := by simp only [Adr.FCH_ASTAT, Pg.fchAudio]; omega
  have he : audSwapEnd d s = (audFrozenShow d ((s.setAud d { s.aud d with xfade := false }).setFld (F.FCH_ASTAT_XFADE d) 0)).raise (Pg.fchAudio d) 1 := by
    simp [audSwapEnd, hx, hw]
  have hshow : audFrozenShow d ((s.setAud d { s.aud d with xfade := false }).setFld (F.FCH_ASTAT_XFADE d) 0) =
      ((s.setAud d { s.aud d with xfade := false }).setFld (F.FCH_ASTAT_XFADE d) 0).setOn (F.FCH_ASTAT_FROZEN d) (audPressing d s) := by
    rw [audFrozenShow, State.aud_congr (s := s.setAud d { s.aud d with xfade := false }) (by simp) d, State.aud_setAud, Bool.false_or]
    congr 1
    refine audPressing_congr (by simp [State.setAud]) (by simp [State.setAud]) ?_ (fun _ => ?_) ?_
    · exact State.fld_setFld_off _ _ (Fld.apart_sure rfl)
    · exact State.fld_setFld_off _ _ (.inr (.inr (by simp only [F.AIN_CFG_MODE, F.FCH_ASTAT_XFADE, Adr.AIN_CFG, Adr.FCH_ASTAT]; omega)))
    · exact State.fld_setFld_off _ _ (.inr (.inr (by simp only [F.PDM_CFG_MIC_EN, F.FCH_ASTAT_XFADE, Adr.PDM_CFG, Adr.FCH_ASTAT]; omega)))
  rw [he, hshow]
  refine ⟨?_, ?_, ?_, State.fld_raise_self _ (by decide)⟩
  · rw [State.aud_congr (s := s.setAud d { s.aud d with xfade := false }) (by simp) d, State.aud_setAud]
  · rw [State.fld_raise_other _ hint, State.fld_setOn_off _ _ (Fld.apart_sure rfl)]
    exact State.fld_setFld_zero _ (of_decide_eq_true rfl)
  · rw [State.on, State.fld_raise_other _ hint, ← State.on]
    exact State.on_setOn_self _ _ (Fld.flag_sure rfl)

/-- A swap that lands is live, both banks released (R142). -/
theorem ctlSwapLand_shows {b : Nat} (hb : b < 2) (hs : (s.ctl c).swap = some b) :
    (ctlSwapLand c s).ctl c = { s.ctl c with swap := none } ∧ (ctlSwapLand c s).fld (F.FCH_CSTAT_LIVE_BANK c) = b ∧
    (ctlSwapLand c s).fld (F.FCH_CCFG_ACT_BANK c) = b ∧ (s.press.banksFrozen = false → (ctlSwapLand c s).fld (F.FCH_CSTAT_FROZEN c) = 0) := by
  have hcfg : Adr.FCH_CSTAT c ≠ Adr.FCH_CCFG c := by simp only [Adr.FCH_CSTAT, Adr.FCH_CCFG]; omega
  have hbit (f : Fld) (u : State) (hf : f.lo = f.hi ∧ f.hi < 32) : (u.setFld f b).fld f = b :=
    State.fld_setFld_fits u hf.2 (by rw [Fld.width, hf.1, Nat.add_sub_cancel_left]; omega)
  simp only [ctlSwapLand, hs, ctlFrozenShow]
  refine ⟨by simp, ?_, ?_, fun hp => ?_⟩
  · rw [State.fld_setOn_off _ _ (Fld.apart_sure rfl), State.fld_setFld_off _ _ (.inr (.inr hcfg))]
    exact hbit _ _ (Fld.flag_sure rfl)
  · rw [State.fld_setOn_off _ _ (.inr (.inr hcfg.symm))]
    exact hbit _ _ (Fld.flag_sure rfl)
  · rw [State.fld_setOn_self _ _ (Fld.flag_sure rfl)]
    have hpress : (((s.setCtl c { s.ctl c with swap := none }).setFld (F.FCH_CSTAT_LIVE_BANK c) b).setFld (F.FCH_CCFG_ACT_BANK c) b).press =
        s.press := by simp [State.setCtl]
    simp only [ctlPressing, hpress, hp, Bool.false_and, Bool.or_false, State.ctl_setFld, State.ctl_setCtl]
    rfl

/-- A write to a live or frozen audio bank is refused, counted and reported (R140). -/
theorem bankWrite_refused {d b : Nat} {w : Word} (hb : b < 2) (hl : audBankLocked d b s = true) :
    (fchBankWrite false d b w s).word (Adr.FCH_ABANK d b) = s.word (Adr.FCH_ABANK d b) ∧
    Counted s (fchBankWrite false d b w s) (F.FCH_ACNT_BANK_WR_CNT d) ∧ (fchBankWrite false d b w s).fld (F.pgInt (Pg.fchAudio d) 0) = 1 ∧
    Reported s (fchBankWrite false d b w s) 0x84C4 (0x010 + d) 0 := by
  have hregs : Adr.FCH_ABANK d b ≠ Adr.FCH_ACNT d ∧ Adr.FCH_ABANK d b ≠ Pg.fchAudio d * 4096 + 16 ∧
      Adr.FCH_ABANK d b ≠ Pg.fchAudio d * 4096 + 32 ∧ Adr.FCH_ACNT d ≠ Pg.fchAudio d * 4096 + 16 ∧ Adr.FCH_ACNT d ≠ Pg.fchAudio d * 4096 + 32 := by
    simp only [Adr.FCH_ABANK, Adr.FCH_ACNT, Pg.fchAudio]
    omega
  obtain ⟨hcnt, hint, hviol, hcint, hcviol⟩ := hregs
  simp only [fchBankWrite, hl, Bool.false_eq_true, if_false, if_true]
  refine ⟨?_, ?_, State.fld_raise_self _ (by decide), ?_⟩
  · have ho : Only (fun a => a = Adr.FCH_ACNT d ∨ a = Pg.fchAudio d * 4096 + 16 ∨ a = Pg.fchAudio d * 4096 + 32) (fun _ => ()) s
        ((((s.viol (Pg.fchAudio d) 5 (Adr.FCH_ABANK d b % 4096)).bump (F.FCH_ACNT_BANK_WR_CNT d) (F.FCH_ACNT_BW_SAT d)).report 0x84C4
          (0x010 + d) 0).raise (Pg.fchAudio d) 0) := by
      unfold State.viol
      exact State.raise_only (.inr (.inl rfl)) (State.report_only (fun _ _ => rfl) (State.bump_only (.inl rfl) (.inl rfl)
        (State.setFld_only (.inr (.inr rfl)) (State.setFld_only (.inr (.inr rfl)) (State.bump_only (.inr (.inr rfl)) (.inr (.inr rfl)) (.refl s))))))
    exact ho.word _ (by simp only [hcnt, hint, hviol, or_self, not_false_eq_true])
  · rw [Counted, State.fld_raise_other _ hcint, State.report_fld,
      State.fld_bump_counter _ (of_decide_eq_true rfl) (of_decide_eq_true rfl) (Fld.apart_sure rfl), State.fld_viol_other _ hcviol]
  · simp [State.viol, Reported]

end Sys2Proof.Machine

namespace Sys2Proof

open Machine

/-- Settles O22, command by command: a late sample is taken like any other and keeps the stall it shows, an event posted touches no
comparator, a swap that ends frees its banks. -/
theorem filterCommandsComplete : Obligations.FilterCommandsComplete := by
  intro s
  refine ⟨?_, ?_, ?_, ?_, ?_, ?_, ?_, ?_, ?_, ?_, ?_, ?_, ?_⟩
  · intro c hr ho ha he
    rw [exec, execControlSampleLate, completes_ticking hr]
    exact ctlLate_shows ho ha he
  · intro c k f hr hsince he hs ha ht hf
    obtain ⟨-, -, -, hint, -⟩ := ctlRegs_apart c
    obtain ⟨hsa, -⟩ := thrFlds_apart c k
    obtain ⟨-, -, hflag, -⟩ := thrFlds_fit c k
    have hon : s.on (thrAmbig c k) = false := (State.not_on_iff s).mpr ha
    simp only [exec, execComparatorAmbig, completes_ticking hr, hsince]
    rw [if_pos (by simp [he, hs, hon, ht, hf])]
    refine ⟨?_, ?_, State.fld_raise_self _ (by decide), by simp⟩
    · rw [State.fld_raise_other _ (thrAmbig_addr c k ▸ hint), evPost_fld (thrAmbig_addr c k)]
      exact State.fld_setFld_one _ hflag
    · rw [State.fld_raise_other _ (thrState_addr c k ▸ hint), evPost_fld (thrState_addr c k), State.fld_setFld_off _ _ hsa.symm, hs]
  · intro c w at_ fl hr hp
    simp [exec, execPeakCapture, completes_ticking hr, hp, peakClose]
  · intro c k hp hc he
    have h3 : thrForce c k 3 s = thrReset c k s := by simp [thrForce, he]
    simp only [exec, execComparatorForceLow, execComparatorForceHigh, execComparatorRelease, completes_heard hp, thrForceLand, Nat.not_lt.mpr hc,
      if_false, h3]
    exact ⟨thrForce_shows he (.inl rfl), thrForce_shows he (.inr rfl), thrReset_shows k⟩
  · intro c k hp hc
    simp [exec, execComparatorForceLow, execComparatorForceHigh, execComparatorRelease, completes_heard hp, thrForceLand, hc]
  · intro ch bank data hp hl
    simp [exec, execFchBankWrite, completes_heard hp, fchBankWrite, hl]
    exact fun a ha => State.word_setWord_other _ _ ha
  · intro ch bank data hp hc hl
    simp [exec, execFchBankWrite, completes_heard hp, fchBankWrite, hl, Nat.mod_eq_of_lt hc]
    exact fun a ha => State.word_setWord_other _ _ ha
  · intro ch bank data hp hl
    rw [exec, execFchBankWrite, completes_heard hp]
    exact bankWrite_refused bank.isLt hl
  · intro idx hr hi hx hw
    rw [exec, execSwapCrossfadeEnd, completes_ticking hr]
    exact audSwapEnd_shows hx hw
  · intro c b hr hs hn
    rw [exec, execControlSwapSwitch, completes_ticking hr, ctlSwitch, if_pos hn]
    exact ctlSwapLand_shows b.isLt hs
  · intro mac src hr hb hf
    have hmac (u : State) : (u.setFld F.FCH_GUARD_GUARD_MAC mac).fld F.FCH_GUARD_GUARD_MAC = mac :=
      State.fld_setFld_fits u (by decide) (Nat.lt_of_lt_of_le mac.isLt (by decide))
    simp (disch := decide) [exec, execFchResidue, completes_ticking hr, fchResidue, engineFail, engineGuarded, fchGuardShow, hb, hf, Counted, Reported,
      hmac, State.fld_bump_counter]
  · intro mac m src hr hb hf hne
    have hval : mac.val ≠ m.val := fun h => hne (Fin.ext h)
    simp (disch := decide) [exec, execFchResidue, completes_ticking hr, fchResidue, engineFail, engineGuarded, fchGuardShow, hb, hf, hval, Counted,
      State.fld_bump_counter]
  · intro hp hb
    simp [exec, execFchRestore, completes_heard hp, engineMayRestore, hb]
end Sys2Proof

/-!
The supervisory converters (R159-R175): what a slot sends, what a check finds, and which requests are accepted.
-/

namespace Sys2Proof.Machine

section

variable {conv slot kind idx ch ref : Nat} {left guard : Bool} {key : Option Nat} {raw : Int} {s : State}

/-- The value that a conversion sends (R164, R165). -/
def svcValue (conv ch ref : Nat) (guard : Bool) (key : Option Nat) (raw : Int) (s : State) : SvcVal :=
  if svcHeldBy ch ref s then
    { (key.map (SMap.get (fun _ => ({} : SvcVal)) s.svc.good)).getD {} with tick := s.tick, sub := true, uns := false }
  else { tick := s.tick, code := (svcCode ch raw).1, sub := guard, uns := svcUnsettled conv ref s, clp := (svcCode ch raw).2 }

/-- A conversion sends one result and leaves the rotation where it stands. -/
theorem svcConvert_shows :
    (svcConvert conv slot kind idx ch ref left guard key raw s).svc.flight = s.svc.flight ++ [⟨svcDueTick slot s,
      if kind = 0 then key.getD 0 / 64 else conv, slot, kind, idx, ch, left, (key.map (SMap.get (fun _ => false) s.svc.marks)).getD false,
      svcValue conv ch ref guard key raw s⟩] ∧
    (svcConvert conv slot kind idx ch ref left guard key raw s).svc.rotA = s.svc.rotA ∧
    (svcConvert conv slot kind idx ch ref left guard key raw s).svc.rotB = s.svc.rotB := by
  have hwhen (b : Bool) (u : State) : (u.when b (State.bump F.SVC_CHK_CNT_OVR_CNT F.SVC_CHK_CNT_OVR_SAT)).svc = u.svc ∧
      (u.when b (State.bump F.SVC_CHK_CNT_OVR_CNT F.SVC_CHK_CNT_OVR_SAT)).tick = u.tick := by
    cases b <;> simp [State.when]
  cases key <;> simp only [svcConvert, svcSend, svcDueTick, svcKeep, svcValue, hwhen, Option.map_none, Option.map_some, Option.getD_none, Option.getD_some, and_self]

/-- The rotation of a converter stands past an index; what has been sent stands. -/
theorem svcRotPast_shows {i : Nat} : (svcRotPast conv i s).svc.flight = s.svc.flight ∧
    (if conv = 0 then (svcRotPast conv i s).svc.rotA else (svcRotPast conv i s).svc.rotB) = i + 1 := by
  unfold svcRotPast
  split <;> exact ⟨rfl, rfl⟩

/-- Both converters' check codes on their way, the expected code shown (R171). -/
def svcSent (a b : Nat) (s : State) : State :=
  let u := (s.setFld F.SVC_CHECK_EXP_LEVEL (s.tick % 8)).setFld F.SVC_CHECK_EXP_EXP ((2 * (s.tick % 8) + 1) * 4096)
  svcSend ⟨u.tick + 1, 1, 0, 3, 0, 0, false, false, { tick := u.tick, code := (b : Int), uns := svcUnsettled 1 0 u }⟩
    (svcSend ⟨u.tick + 1, 0, 0, 3, 0, 0, false, false, { tick := u.tick, code := (a : Int), uns := svcUnsettled 0 0 u }⟩ u)

/-- What a check leaves before its verdict: two results more. -/
theorem svcSent_shows (a b : Nat) (s : State) : ∃ ra rb : SvcRes, (ra.conv, ra.kind, ra.v.code) = (0, 3, (a : Int)) ∧
    (rb.conv, rb.kind, rb.v.code) = (1, 3, (b : Int)) ∧ (svcSent a b s).svc = { s.svc with flight := s.svc.flight ++ [ra] ++ [rb] } ∧
    (svcSent a b s).tick = s.tick ∧ (svcSent a b s).fld F.SVC_CHECK_EXP_LEVEL = s.tick % 8 ∧
    (svcSent a b s).fld F.SVC_CHECK_EXP_EXP = (2 * (s.tick % 8) + 1) * 4096 ∧
    (svcSent a b s).fld F.SVC_CHK_CNT_CHECK_MIS = s.fld F.SVC_CHK_CNT_CHECK_MIS ∧
    (svcSent a b s).fld F.SVC_CHECK_CFG_PLAUS_LIM = s.fld F.SVC_CHECK_CFG_PLAUS_LIM ∧ (svcSent a b s).tests = s.tests ∧
    (svcSent a b s).link = s.link ∧ (svcSent a b s).linkHolds 0 = s.linkHolds 0 := by
  have hlevel (u : State) : (u.setFld F.SVC_CHECK_EXP_LEVEL (s.tick % 8)).fld F.SVC_CHECK_EXP_LEVEL = s.tick % 8 :=
    State.fld_setFld_fits u (by decide) (Nat.lt_of_lt_of_le (Nat.mod_lt _ (by decide)) (by decide))
  have hexp (u : State) : (u.setFld F.SVC_CHECK_EXP_EXP ((2 * (s.tick % 8) + 1) * 4096)).fld F.SVC_CHECK_EXP_EXP = (2 * (s.tick % 8) + 1) * 4096 :=
    State.fld_setFld_fits u (by decide) (show _ < 65536 by omega)
  let u := (s.setFld F.SVC_CHECK_EXP_LEVEL (s.tick % 8)).setFld F.SVC_CHECK_EXP_EXP ((2 * (s.tick % 8) + 1) * 4096)
  refine ⟨⟨u.tick + 1, 0, 0, 3, 0, 0, false, false, ⟨u.tick, a, false, svcUnsettled 0 0 u, false⟩⟩,
    ⟨u.tick + 1, 1, 0, 3, 0, 0, false, false, ⟨u.tick, b, false, svcUnsettled 1 0 u, false⟩⟩, rfl, rfl, ?_, ?_, ?_, ?_, ?_, ?_, ?_, ?_, ?_⟩
  · simp only [svcSent, svcSend, State.setFld_svc]
    rfl
  · simp [svcSent, svcSend]
  · simp (disch := decide) [svcSent, svcSend, hlevel]
  · simp (disch := decide) [svcSent, svcSend, hexp]
  · simp (disch := decide) [svcSent, svcSend]
  · simp (disch := decide) [svcSent, svcSend]
  · simp (disch := decide) [svcSent, svcSend]
  · simp (disch := decide) [svcSent, svcSend]
  · simp (disch := decide) [svcSent, svcSend, State.linkHolds]

/-- A result of a change that leaves the links is noted for the other die (R24). -/
theorem State.note_noted {s u : State} {d b : Nat} {n : DieNote} (hl : u.link = s.link)
    (hf : u.fld (F.FLT_LINK_B_LSTATE (2 * (d / 2))) = s.fld (F.FLT_LINK_B_LSTATE (2 * (d / 2)))) : Noted s (u.note d b n) d b n := by
  intro hh
  have hu : u.linkHolds (d / 2) = true := by rw [State.linkHolds, hf, hl]; exact hh
  rw [State.note, State.tell, State.when, if_pos hu]
  simp only [State.dir, State.setDir, hl, SMap.get_set_same]

/-- What a check makes of verdict `v` (R172). -/
def svcJudge (v : Nat) (s : State) : State :=
  if v = 0 then { s with svc := { s.svc with verdict := 0, passA := if s.svc.outA then s.svc.passA else s.tick,
                                              passB := if s.svc.outB then s.svc.passB else s.tick } }
  else
    let s := (s.bump F.SVC_CHK_CNT_CHECK_MIS F.SVC_CHK_CNT_MIS_SAT).raise Pg.svc 4
    let again := s.svc.verdict == v && s.svc.verdictTick + 1 == s.tick
    let testing := svcTesting 0 s || svcTesting 1 s || svcTesting 2 s
    let s := { s with svc := { s.svc with verdict := v, verdictTick := s.tick, missed := s.svc.missed || testing } }
    let already := (v == 1 && s.svc.outA) || (v == 2 && s.svc.outB) || (v == 4 && s.svc.outA && s.svc.outB)
    if again && !s.svc.susp && !already then svcDeclare v s else s

/-- A check with neither converter out (R171). -/
theorem svcCheck_both {a b : Nat} (hl : s.fld F.SVC_CHECK_CFG_PLAUS_LIM ≠ 0) (ha : s.svc.outA = false) (hb : s.svc.outB = false) :
    svcCheck a b s = svcJudge (svcVerdict true true a b ((2 * (s.tick % 8) + 1) * 4096 : Nat) (max 8 (s.fld F.SVC_CHECK_CFG_PLAUS_LIM) : Nat))
      (svcSent a b s) := by
  obtain ⟨-, -, -, -, -, -, -, -, -, hlim, -⟩ := svcSent_shows a b s
  rw [← hlim] at hl ⊢
  unfold svcCheck
  simp only [ha, hb, Bool.not_false, Bool.true_or, State.when, if_true]
  exact if_neg hl

/-- Verdict A_BAD for the second time in a row takes converter A out (R172, R173). -/
theorem svcJudge_twice (ha : s.svc.outA = false) (hb : s.svc.outB = false) (h1 : s.svc.verdict = 1) (h2 : s.svc.verdictTick + 1 = s.tick)
    (h3 : s.svc.susp = false) : ∃ w : State, svcJudge 1 s = w.note 1 s.tick { events := [(Pg.svc, 0)], reports := [⟨0x3501, 0, 1, 0⟩], act := (8, 0, 0) } ∧
      w.svc.outA = true ∧ w.svc.outB = false ∧ w.svc.outTickA = s.tick ∧ w.link = s.link ∧
      w.regs = ((s.bump F.SVC_CHK_CNT_CHECK_MIS F.SVC_CHK_CNT_MIS_SAT).raise Pg.svc 4).regs := by
  refine ⟨_, by simp only [svcJudge, svcDeclare, if_true, if_false, Nat.one_ne_zero, State.raise_svc, State.bump_svc, State.raise_tick, State.bump_tick, h1, h2, h3, ha, hb,
    beq_self_eq_true, Bool.and_self, Bool.not_false, Bool.or_self, svcOut, svcTakeOut]; rfl, ?_⟩
  simp

/-- A dropped request is counted and raises its event; the converters keep what they have. -/
theorem svcDrop_shows (s : State) : Counted s (svcDrop s) F.SVC_URG_CNT_URG_DROP ∧ (svcDrop s).fld (F.pgInt Pg.svc 2) = 1 ∧
    (svcDrop s).svc = s.svc := by
  refine ⟨?_, ?_, ?_⟩
  · simp (disch := decide) [svcDrop, Counted, State.fld_bump_counter]
  · rw [svcDrop, State.fld_raise_self _ (by decide)]
  · simp [svcDrop]

/-- A request that cannot be served in its slot is dropped (R169). -/
theorem svcAsk_late {cyc : Nat} (h : 240 * (cyc / 240 + 1) < cyc + 8) : ∃ v : SvcSt, svcAsk cyc conv ch ref left s = svcDrop { s with svc := v } ∧
    v.urgA = s.svc.urgA ∧ v.urgB = s.svc.urgB := by
  have hlate : decide (cyc + 8 ≤ 240 * (cyc / 240 + 1)) = false := decide_eq_false (Nat.not_le.mpr h)
  unfold svcAsk
  simp only [hlate, Bool.and_false, Bool.false_and, Bool.false_eq_true, if_false]
  split
  · exact ⟨s.svc, rfl, rfl, rfl⟩
  · exact ⟨_, rfl, rfl, rfl⟩

/-- A request without a rival is asked for, and remembered. -/
theorem svcUrgent_alone {rank cyc : Nat} (h : svcRival cyc conv s = none) : ∃ n, svcUrgent rank cyc conv ch ref left s =
    { svcAsk cyc conv ch ref left s with svc := { (svcAsk cyc conv ch ref left s).svc with urgLast := n } } := by
  rw [svcUrgent, h]
  exact ⟨_, rfl⟩

/-- A request in time, for a free slot of a converter without another urgent conversion, is accepted (R169). -/
theorem svcAsk_accepts {cyc : Nat} {conv : Fin 2} (hs : cyc / 240 ≤ 19) (hl : svcLen conv s ≤ svcPos s.tick (cyc / 240 + 1)) (h0 : svcOut 0 s = false)
    (h1 : svcOut 1 s = false) (hc : cyc + 8 ≤ 240 * (cyc / 240 + 1)) (hu : svcUrg conv s = none) (hf : s.svc.urgFrame ≠ s.tick / 4)
    (hknown : (decide (ch < 0x58 ∧ ref < 3) && (decide (ch < 0x18) || ref == 0)) = true) :
    svcUrg conv (svcAsk cyc conv ch ref left s) = some ⟨s.tick, cyc / 240 + 1, ch, ref, left⟩ ∧ (svcAsk cyc conv ch ref left s).regs = s.regs := by
  have hs' : decide (cyc / 240 ≤ 19) = true := decide_eq_true hs
  have hc' := decide_eq_true hc
  have hlen (u : SvcSt) : svcLen conv { s with svc := u } = svcLen conv s := rfl
  have hout (u : Nat) : svcOut u { s with svc := { s.svc with urgFrame := s.tick / 4, urgCntA := 0, urgCntB := 0 } } = svcOut u s := rfl
  have hurg : svcUrg conv { s with svc := { s.svc with urgFrame := s.tick / 4, urgCntA := 0, urgCntB := 0 } } = svcUrg conv s := rfl
  have hno : svcOut (1 - conv) s = false := match conv with
    | 0 => h1
    | 1 => h0
  have hyes : svcOut conv s = false := match conv with
    | 0 => h0
    | 1 => h1
  unfold svcAsk
  simp only [if_neg hf, hlen, hout, hurg, hu, hs', hc', hno, hyes, decide_eq_true hl, hknown]
  match conv with
  | 0 => exact ⟨rfl, rfl⟩
  | 1 => exact ⟨rfl, rfl⟩

/-- The tests that a restore starts, before they are shown. -/
def svcRestoreTests (s : State) : State :=
  let s := { s with svc := { s.svc with missed := false } }
  let s := (s.when s.svc.outA (State.startTest 0x14 0 0)).when s.svc.outB (State.startTest 0x14 1 0)
  s.when s.svc.susp (State.startTest 0x14 2 0)

/-- A test started for another index leaves the test of an index. -/
theorem State.testOf_startTest_other {unit idx i k : Nat} (h : i ≠ idx) : (s.startTest unit i k).testOf unit idx = s.testOf unit idx := by
  rw [State.testOf, State.startTest, List.find?_append, List.find?_filter]
  have hsame : (fun t : RTest => decide ((!(t.unit == unit && t.idx == i)) = true ∧ (t.unit == unit && t.idx == idx) = true)) =
      fun t => t.unit == unit && t.idx == idx := by
    funext t
    by_cases ht : t.idx = idx <;> by_cases hu : t.unit = unit <;> simp [ht, hu, h.symm]
  rw [hsame, State.testOf]
  simp [h]

/-- What is shown of the converters stands in the page alone. -/
theorem svcShow_shows (s : State) : (svcShow s).svc = s.svc ∧ (svcShow s).tests = s.tests ∧
    (svcTesting 0 s = true → svcSeen 0 s = true → (svcShow s).fld F.SVC_STAT_SVA_STATE = 3) := by
  refine ⟨?_, ?_, fun ht hs => ?_⟩
  · simp [svcShow]
  · simp [svcShow]
  · simp (disch := decide) [svcShow, ht, hs]

/-- A restore starts a test of what is out (R175). -/
theorem svcRestoreStart_shows (s : State) :
    let t := svcShow (svcRestoreTests s)
    t.svc.missed = false ∧ (s.svc.outA = true → t.testOf 0x14 0 = some ⟨0x14, 0, 0, s.tick + 1024⟩) ∧
      (s.svc.outB = true → t.testOf 0x14 1 = some ⟨0x14, 1, 0, s.tick + 1024⟩) ∧
      (s.svc.susp = true → t.testOf 0x14 2 = some ⟨0x14, 2, 0, s.tick + 1024⟩) ∧
      (s.svc.outA = true → s.svc.seenA = true → t.fld F.SVC_STAT_SVA_STATE = 3) := by
  obtain ⟨hsvc, htests, hstate⟩ := svcShow_shows (svcRestoreTests s)
  simp only [hsvc, State.testOf_congr htests]
  have h2 (k : Nat) (hk : 2 ≠ k) (u : State) (c : Bool) : (u.when c (State.startTest 0x14 2 0)).testOf 0x14 k = u.testOf 0x14 k :=
    State.when_keeps (·.testOf 0x14 k) (State.testOf_startTest_other hk)
  have h1 (k : Nat) (hk : 1 ≠ k) (u : State) (c : Bool) : (u.when c (State.startTest 0x14 1 0)).testOf 0x14 k = u.testOf 0x14 k :=
    State.when_keeps (·.testOf 0x14 k) (State.testOf_startTest_other hk)
  have hv (k : Nat) (u : State) (c : Bool) : (u.when c (State.startTest 0x14 k 0)).svc = u.svc := State.when_keeps (·.svc) rfl
  have ht (k : Nat) (u : State) (c : Bool) : (u.when c (State.startTest 0x14 k 0)).tick = u.tick := State.when_keeps (·.tick) rfl
  have h0 (h : s.svc.outA = true) : (svcRestoreTests s).testOf 0x14 0 = some ⟨0x14, 0, 0, s.tick + 1024⟩ := by
    simp [svcRestoreTests, h2, h1, State.when_true, h]
  refine ⟨?_, h0, fun h => ?_, fun h => ?_, fun ha hs => hstate ?_ ?_⟩
  · simp [svcRestoreTests, hv]
  · simp [svcRestoreTests, h2, hv, ht, State.when_true, h]
  · simp [svcRestoreTests, hv, ht, State.when_true, h]
  · rw [svcTesting, h0 ha]
    rfl
  · simpa [svcSeen, svcRestoreTests, hv] using hs

/-- A request is heard while the tick runs, one of the host while its ports answer. -/
theorem urgent_goes {rank : Fin 3} (hr : s.phase = .running) (hp : rank.val = 1 → s.ports = true) :
    ¬(decide (rank.val = 1) && !s.ports || s.phase != .running) = true := by
  by_cases h : rank.val = 1
  · simp [hr, hp h]
  · simp [hr, h]

end

end Sys2Proof.Machine

namespace Sys2Proof

open Machine

/-- Settles O23, each clause by what its command does in the state that the clause gives: a slot converts, holds or leaves, a check slot
goes by the verdict of its two codes, a request is accepted or dropped, a restore starts its tests. -/
theorem supervisoryCommandsComplete : Obligations.SupervisoryCommandsComplete := by
  intro s
  refine ⟨?_, ?_, ?_, ?_, ?_, ?_, ?_, ?_, ?_, ?_, ?_, ?_, ?_, ?_, ?_, ?_⟩
  · intro conv slot raw hr h0 ho hp hd hh
    simp only [exec, execSvcConversion, completes_ticking hr, if_neg h0, ho, svcSlot, if_pos hp, hd, Bool.false_eq_true, if_false, if_true]
    simp [svcConvert_shows, svcValue, hh]
  · intro conv slot raw hr h0 ho hp hd hh
    simp only [exec, execSvcConversion, completes_ticking hr, if_neg h0, ho, svcSlot, if_pos hp, hd, Bool.false_eq_true, if_false, if_true]
    simp [svcConvert_shows, svcValue, hh]
  · intro conv slot raw hr h0 ho hp hd
    simp [exec, execSvcConversion, completes_ticking hr, h0, ho, svcSlot, hp, hd]
  · intro conv slot raw e hr h0 ho ho' hp hg hd ht hh
    have ht' : (if 1 - conv.val = 0 then s.svc.outTickA else s.svc.outTickB) ≤ 4 * (s.tick / 4) + e / 20 :=
      match conv, ht with
      | 0, ht => ht
      | 1, ht => ht
    simp [exec, execSvcConversion, completes_ticking hr, h0, ho, svcSlot, Nat.not_lt.mpr hp, ho', hg, hd, if_pos ht', svcConvert_shows, svcValue, hh]
  · intro conv slot raw u hr h0 ho ho' hp hu ht hs hh
    simp [exec, execSvcConversion, completes_ticking hr, h0, ho, svcSlot, Nat.not_lt.mpr hp, ho', hu, ht, hs, svcConvert_shows, svcValue, hh]
  · intro conv slot raw hr h0 ho ho' hp hu hh
    have hconv : (conv = 0) = (conv.val = 0) := propext Fin.ext_iff
    simp only [exec, execSvcConversion, completes_ticking hr, if_neg h0, ho, Bool.false_eq_true, if_false, svcSlot, if_neg (Nat.not_lt.mpr hp), ho', hu,
      svcRotate, svcRotPast_shows, hconv, svcConvert_shows, svcValue, hh, and_true]
    simp
  · intro conv slot raw hr h0 ho hp hd hg
    simp [exec, execSvcConversion, completes_ticking hr, h0, ho, svcSlotOut, hp, hd, hg, svcHold, svcSend]
  · intro a b hr hl ha hb hv
    obtain ⟨ra, rb, hra, hrb, hsvc, htick, hlevel, hexp, -⟩ := svcSent_shows a b s
    rw [exec, execCheckSlot, completes_ticking hr, svcCheck_both hl ha hb, hv, svcJudge, if_pos rfl, hsvc]
    simp only [ha, hb, htick, Bool.false_eq_true, if_false, true_and, List.map_append, List.map_cons, List.map_nil, hra, hrb, List.append_assoc, List.cons_append, List.nil_append, and_true]
    exact ⟨hlevel, hexp⟩
  · intro a b hr hl ha hb hv h1 h2 h3
    obtain ⟨ra, rb, -, -, hsvc, htick, -, -, hmis, -, -, hlink, hholds⟩ := svcSent_shows a b s
    obtain ⟨w, hw, houtA, houtB, hat, hwl, hregs⟩ := svcJudge_twice (s := svcSent a b s) (by rw [hsvc]; exact ha) (by rw [hsvc]; exact hb)
      (by rw [hsvc]; exact h1) (by rw [hsvc, htick]; exact h2) (by rw [hsvc]; exact h3)
    have hfld (f : Fld) : (State.note 1 s.tick { events := [(Pg.svc, 0)], reports := [⟨0x3501, 0, 1, 0⟩], act := (8, 0, 0) } w).fld f =
        (((svcSent a b s).bump F.SVC_CHK_CNT_CHECK_MIS F.SVC_CHK_CNT_MIS_SAT).raise Pg.svc 4).fld f := by
      rw [← fldOf_regs, State.note_regs, hregs, fldOf_regs]
    rw [exec, execCheckSlot, completes_ticking hr, svcCheck_both hl ha hb, hv, hw, htick]
    refine ⟨by simpa using houtA, by simpa using houtB, by simpa [htick] using hat, ?_, ?_, State.note_noted (hwl.trans hlink) ?_⟩
    · simp [hfld]
    · rw [Counted, hfld, ← hmis]
      simp (disch := decide) [State.fld_bump_counter]
    · rw [← fldOf_regs, hregs, fldOf_regs]
      simp (disch := decide) [svcSent, svcSend]
  · intro rank cyc conv ch form hr hp hv hs hl h0 h1 hc hu hf hch href hk
    have hgo := urgent_goes hr hp
    have hknown : (decide (ch.val < 0x58 ∧ form.ref.val < 3) && (decide (ch.val < 0x18) || form.ref.val == 0)) = true := by
      rcases hk with hk | hk
      · simp [hch, href, hk]
      · simp [hch, hk]
    obtain ⟨hurg, hregs⟩ := svcAsk_accepts (s := s.land cyc) (left := form.left) hs hl h0 h1 hc hu hf hknown
    obtain ⟨n, ht⟩ := svcUrgent_alone (rank := rank) (ch := ch) (ref := form.ref) (left := form.left) (s := s.land cyc) hv
    rw [exec, execUrgentRequest, if_neg (urgent_goes hr hp), completes_next, ht]
    exact ⟨hurg, hregs⟩
  · intro rank cyc conv ch form hr hp hv hc
    obtain ⟨v, hask, hA, hB⟩ := svcAsk_late (conv := conv) (ch := ch) (ref := form.ref) (left := form.left) (s := s.land cyc) hc
    obtain ⟨n, ht⟩ := svcUrgent_alone (rank := rank) (ch := ch) (ref := form.ref) (left := form.left) (s := s.land cyc) hv
    obtain ⟨hcnt, hint, hsvc⟩ := svcDrop_shows { s.land cyc with svc := v }
    rw [exec, execUrgentRequest, if_neg (urgent_goes hr hp), completes_next, ht, hask]
    refine ⟨hcnt, hint, ?_⟩
    simp only [svcUrg, hsvc, hA, hB, State.land_svc]
  · intro rank cyc conv ch form r ok hr hp hv hle
    obtain ⟨hcnt, hint, hsvc⟩ := svcDrop_shows (s.land cyc)
    rw [exec, execUrgentRequest, if_neg (urgent_goes hr hp), completes_next, svcUrgent, show svcRival _ _ (s.land _) = some (r, ok) from hv]
    simp only [if_pos hle]
    refine ⟨hcnt, hint, ?_⟩
    simp only [svcUrg, hsvc, State.land_svc]
  · intro hr he
    rw [exec, execVrefxLoss, completes_ticking hr, svcVrefxLoss, if_pos (by exact he)]
    refine ⟨?_, ?_, ?_, State.note_noted ?_ ?_⟩
    all_goals simp (disch := decide)
  · intro ref hr hm
    match ref, hm with
    | 0, hm => simp (disch := decide) [exec, execReferenceSettled, completes_ticking hr, svcSettled, show svcMaySettle 0 s = true from hm]
    | 1, hm => simp (disch := decide) [exec, execReferenceSettled, completes_ticking hr, svcSettled, show svcMaySettle 1 s = true from hm]
    | 2, hm => simp (disch := decide) [exec, execReferenceSettled, completes_ticking hr, svcSettled, show svcMaySettle 2 s = true from hm]
    | 3, hm => simp (disch := decide) [exec, execReferenceSettled, completes_ticking hr, svcSettled, show ((3 : Fin 4) : Nat) = 3 from rfl, show svcMaySettle 3 s = true from hm]
  · intro ref hr hm
    simp [exec, execReferenceSettled, completes_ticking hr, svcSettled, hm]
  · intro hp hw hs
    have hgo : ¬((svcPageState s ≠ 3 ∧ svcPageState s ≠ 4) ∨ s.on F.FLT_STAT_PARTWIDE = true) := by
      rw [hw]; rcases hs with h | h <;> simp [h]
    rw [exec, execSvcRestore, completes_heard hp, svcRestore, if_neg hgo]
    exact svcRestoreStart_shows s
end Sys2Proof

/-!
Crossings and their channels as the engines show them (R222-R238).
-/

namespace Sys2Proof.Machine

section

variable {β : Type} {ws : Nat → Prop} {E : State → β} {s0 s : State} {k : Nat}

/-- A reading that does not show crossing `k`. -/
def HidesXing (k : Nat) (E : State → β) : Prop := ∀ (u : State) x, E (u.setXing k x) = E u

theorem HidesXing.only (hE : HidesXing k E) (x : Xing) (h : Only ws E s0 s) : Only ws E s0 (s.setXing k x) :=
  h.update rfl (hE { s with regs := [] } x)

@[simp] theorem State.xing_setXing (s : State) (k : Nat) (x : Xing) : (s.setXing k x).xing k = x := SMap.get_set_same _ _ _ _

theorem State.xing_setXing_other (s : State) {j k : Nat} (x : Xing) (h : j ≠ k) : (s.setXing k x).xing j = s.xing j :=
  SMap.get_set_other _ _ _ h

/-- Every channel of the engines belongs to the crossing that it belonged to. -/
def AchKeys (s0 s : State) : Prop := ∀ i, achKey (s.word (Adr.SRC_ACH i)) = achKey (s0.word (Adr.SRC_ACH i))

theorem AchKeys.of_regs (h : s.regs = s0.regs) : AchKeys s0 s := fun i => by rw [State.word, h, State.word]

theorem AchKeys.trans {t : State} (h : AchKeys s0 s) (k : AchKeys s t) : AchKeys s0 t := fun i => (k i).trans (h i)

/-- A field outside the unit, kind and direction of the channels. -/
theorem AchKeys.setFld {f : Fld} {v : Nat} (hf : 29 < f.lo ∨ f.hi < 16 ∨ ∀ i, f.addr ≠ Adr.SRC_ACH i) (h : AchKeys s0 s) :
    AchKeys s0 (s.setFld f v) := by
  refine h.trans fun i => ?_
  have hkeeps (hi lo : Nat) (hlo : 16 ≤ lo) (hhi : hi ≤ 29) :
      ((s.setFld f v).word (Adr.SRC_ACH i)).bits hi lo = (s.word (Adr.SRC_ACH i)).bits hi lo := by
    refine State.fld_setFld_off s v (g := ⟨Adr.SRC_ACH i, hi, lo⟩) ?_
    rcases hf with hf | hf | hf
    · exact .inr (.inl (by show hi < f.lo; omega))
    · exact .inl (by show f.hi < lo; omega)
    · exact .inr (.inr (hf i).symm)
  rw [achKey, achKey, hkeeps 23 16 (by decide) (by decide), hkeeps 27 24 (by decide) (by decide), hkeeps 29 29 (by decide) (by decide)]

/-- Showing a crossing writes the channels that belong to it. -/
theorem achShow_only (hk : AchKeys s0 s) (hw : ∀ a ∈ s0.achRegs k, ws a) (h : Only ws E s0 s) :
    Only ws E s0 (achShow k s) ∧ AchKeys s0 (achShow k s) := by
  unfold achShow
  refine List.foldlRecOn (motive := fun u => Only ws E s0 u ∧ AchKeys s0 u) _ _ ⟨h, hk⟩ fun u hu i hi => ?_
  dsimp only
  split
  case isTrue hc =>
    have ha : ws (Adr.SRC_ACH i) := hw _ (by
      rw [State.achRegs, List.mem_filter, beq_iff_eq, ← hu.2 i]
      exact ⟨List.mem_map_of_mem hi, hc.2⟩)
    exact ⟨State.setInt_only ha (State.setFld_only ha hu.1),
      (hu.2.setFld (.inl (of_decide_eq_true rfl))).setFld (.inr (.inl (of_decide_eq_true rfl)))⟩
  case isFalse => exact hu

end

end Sys2Proof.Machine

/-!
The serial audio ports (R180-R202): what each of their operations changes, and what their commands leave.
-/

namespace Sys2Proof.Machine

section

variable {β : Type} {ws : Nat → Prop} {E : State → β} {s0 s : State} {p : Nat}

/-- A reading that does not show serial port `p`. -/
def HidesPort (p : Nat) (E : State → β) : Prop := ∀ (u : State) x, E (u.setPort p x) = E u

theorem HidesPort.only (hE : HidesPort p E) (x : SapPort) (h : Only ws E s0 s) : Only ws E s0 (s.setPort p x) :=
  h.update rfl (hE { s with regs := [] } x)

/-- The registers in which serial port `p` shows its state. -/
def SapRegs (p : Nat) (ws : Nat → Prop) : Prop := ws (Adr.SAP_STAT p) ∧ ws (Pg.sap p * 4096 + 16)

theorem sapSetPs_only {v : Nat} (hw : SapRegs p ws) (h : Only ws E s0 s) : Only ws E s0 (sapSetPs p v s) :=
  State.setFld_only hw.1 h

theorem sapShow_only (hw : SapRegs p ws) (h : Only ws E s0 s) : Only ws E s0 (sapShow p s) := by
  unfold sapShow
  exact .branch (State.setOn_only hw.1 (State.setOn_only hw.1 h)) fun h1 =>
    .when (fun _ h2 => State.raise_only hw.2 h2) (sapSetPs_only hw h1)

theorem sapCross_only (hX : HidesXing p E) (hX' : HidesXing (16 + p) E) (hk : AchKeys s0 s) (hc : ∀ a ∈ s0.achRegs p, ws a)
    (hc' : ∀ a ∈ s0.achRegs (16 + p), ws a) (h : Only ws E s0 s) : Only ws E s0 (sapCross p s) := by
  unfold sapCross
  have h0 := hX'.only (sapXing p true s) (hX.only (sapXing p false s) h)
  have hk0 : AchKeys s0 ((s.setXing p (sapXing p false s)).setXing (16 + p) (sapXing p true s)) := hk.trans (.of_regs rfl)
  obtain ⟨h1, hk1⟩ := achShow_only hk0 hc h0
  exact (achShow_only hk1 hc' h1).1

section

variable (hE : HidesPort p E) (hw : SapRegs p ws)

include hE hw

theorem sapEvent_only {tx log : Bool} (hR : log = true → HidesReports E) (h : Only ws E s0 s) : Only ws E s0 (sapEvent p tx log s) := by
  unfold sapEvent
  refine sapShow_only hw ?_
  cases log
  · exact State.raise_only hw.2 (hE.only _ h)
  · exact .when (fun _ h1 => State.report_only (hR rfl) h1) (State.raise_only hw.2 (hE.only _ h))

theorem sapLose_only (h : Only ws E s0 s) : Only ws E s0 (sapLose p s) := by
  unfold sapLose
  exact hE.only _ (sapEvent_only hE hw nofun (sapEvent_only hE hw nofun h))

theorem sapClockLoss_only (hR : HidesReports E) (hc : ws (Adr.SAP_CNT_ERR p)) (h : Only ws E s0 s) : Only ws E s0 (sapClockLoss p s) := by
  unfold sapClockLoss
  exact .ite h (sapLose_only hE hw (State.report_only hR (State.raise_only hw.2 (State.bump_only hc hc h))))

theorem sapFadeEnd_only {tx : Bool} (h : Only ws E s0 s) : Only ws E s0 (sapFadeEnd p tx s) := by
  unfold sapFadeEnd
  exact .ite (sapShow_only hw (hE.only _ h)) h

theorem sapRampEnd_only {tx : Bool} (h : Only ws E s0 s) : Only ws E s0 (sapRampEnd p tx s) := by
  unfold sapRampEnd
  exact .ite (sapShow_only hw (hE.only _ h)) h

omit hw in
theorem sapStart_only {sense : Bool} (hs : ws (Adr.SAP_STAT p)) (hX : HidesXing p E) (hX' : HidesXing (16 + p) E) (h : Only ws E s0 s) :
    Only ws E s0 (sapStart p sense s) := by
  unfold sapStart sapSetPs
  exact State.setFld_only hs (State.setFld_only hs (State.setFld_only hs (State.setFld_only hs (hX'.only _ (hX.only _ (hE.only _ h))))))

theorem sapDriveFrom_only {m : Nat} (hX : HidesXing p E) (hX' : HidesXing (16 + p) E) (hk : AchKeys s0 s) (hp : p < 16)
    (hc : ∀ a ∈ s0.achRegs p, ws a) (hc' : ∀ a ∈ s0.achRegs (16 + p), ws a) (h : Only ws E s0 s) :
    Only ws E s0 (sapDriveFrom p m s) := by
  unfold sapDriveFrom sapDrive
  have hapart : ∀ i, (F.SAP_STAT_MODE_ACT p).addr ≠ Adr.SRC_ACH i := by
    intro i
    simp only [F.SAP_STAT_MODE_ACT, Adr.SAP_STAT, Adr.SRC_ACH]
    omega
  exact .ite (sapShow_only hw (sapSetPs_only hw (hE.only _ (sapCross_only hX hX' (hk.setFld (.inr (.inr hapart))) hc hc'
    (State.setFld_only hw.1 h))))) (hE.only _ h)

theorem sapSenseEnd_only {edges : Bool} (hR : HidesReports E) (hX : HidesXing p E) (hX' : HidesXing (16 + p) E) (hk : AchKeys s0 s)
    (hp : p < 16) (hc : ∀ a ∈ s0.achRegs p, ws a) (hc' : ∀ a ∈ s0.achRegs (16 + p), ws a) (he : ws (Adr.SAP_CNT_ERR p))
    (h : Only ws E s0 s) : Only ws E s0 (sapSenseEnd p edges s) := by
  unfold sapSenseEnd
  exact .ite h (.ite (sapSetPs_only hw (State.setFld_only hw.1 h))
    (.ite (State.report_only hR (State.raise_only hw.2 (State.bump_only he he (sapSetPs_only hw (hE.only _ h)))))
      (sapDriveFrom_only hE hw hX hX' hk hp hc hc' h)))

theorem sapQualified_only (hX : HidesXing p E) (hX' : HidesXing (16 + p) E) (hk : AchKeys s0 s)
    (hc : ∀ a ∈ s0.achRegs p, ws a) (hc' : ∀ a ∈ s0.achRegs (16 + p), ws a) (h : Only ws E s0 s) : Only ws E s0 (sapQualified p s) := by
  unfold sapQualified
  exact sapSetPs_only hw (sapCross_only hX hX' (hk.trans (.of_regs rfl)) hc hc' (hE.only _ h))

theorem sapHand_only {f : List Word} (hR : HidesReports E) (hX : HidesXing p E) (hr : ws (Adr.SAP_CNT_RX p)) (h : Only ws E s0 s) :
    Only ws E s0 (sapHand p f s) := by
  unfold sapHand
  exact .ite (hE.only _ (hX.only _ h)) (sapEvent_only hE hw (fun _ => hR) (State.bump_only hr hr (hE.only _ (hX.only _ h))))

theorem sapBadFrame_only (hX : HidesXing p E) (he : ws (Adr.SAP_CNT_ERR p)) (h : Only ws E s0 s) : Only ws E s0 (sapBadFrame p s) := by
  unfold sapBadFrame
  exact hX.only _ (hE.only _ (State.raise_only hw.2 (State.bump_only he he h)))

theorem sapFrame_only {bits period : Nat} {line : List Bool} (hR : HidesReports E) (hX : HidesXing p E) (hX' : HidesXing (16 + p) E)
    (hk : AchKeys s0 s) (hc : ∀ a ∈ s0.achRegs p, ws a) (hc' : ∀ a ∈ s0.achRegs (16 + p), ws a) (he : ws (Adr.SAP_CNT_ERR p))
    (hr : ws (Adr.SAP_CNT_RX p)) (h : Only ws E s0 s) : Only ws E s0 (sapFrame p bits period line s) := by
  have hport (x : SapPort) : Only ws E s0 (s.setPort p x) := hE.only x h
  have hqual (x : SapPort) : Only ws E s0 (sapQualified p (s.setPort p x)) :=
    sapQualified_only hE hw hX hX' (hk.trans (.of_regs rfl)) hc hc' (hport x)
  unfold sapFrame
  exact .ite h (.ite (hE.only _ (hX.only _ h)) (.ite (.ite (hqual _) (sapSetPs_only hw (hport _))) (.ite (.ite (hqual _) (hport _))
    (.ite (sapHand_only hE hw hR hX hr (hport _)) (.branch (sapBadFrame_only hE hw hX he (hport _)) fun h1 =>
      .ite (sapSetPs_only hw (State.report_only hR (hE.only _ h1))) (sapLose_only hE hw (State.report_only hR h1)))))))

omit hw in
theorem sapSend_only {live : Option (List Word)} (h : Only ws E s0 s) : Only ws E s0 (sapSend p live s) := by
  unfold sapSend
  exact hE.only _ h

theorem sapTxRequest_only (hR : HidesReports E) (hX' : HidesXing (16 + p) E) (ht : ws (Adr.SAP_CNT_TX p)) (h : Only ws E s0 s) :
    Only ws E s0 (sapTxRequest p s) := by
  unfold sapTxRequest sapSendZero
  refine .ite h (.ite (hE.only _ h) (.ite (sapSend_only hE h) ?_))
  split
  · exact sapSend_only hE (hX'.only _ h)
  · exact sapSend_only hE (sapEvent_only hE hw (fun _ => hR) (State.bump_only ht ht h))

omit hw in
theorem sapRestart_only (hs : ws (Adr.SAP_STAT p)) (hX : HidesXing p E) (hX' : HidesXing (16 + p) E) (h : Only ws E s0 s) : Only ws E s0 (sapRestart p s) := by
  unfold sapRestart
  exact .ite (sapStart_only hE hs hX hX' h) h

end

end

end Sys2Proof.Machine

namespace Sys2Proof.Machine

section

variable {s : State} {p k : Nat}

/-- What a reading without the registers shows stands. -/
theorem Only.same {β : Type} {ws : Nat → Prop} {E : State → β} {s0 : State} (h : Only ws E s0 s) (hE : ∀ u : State, E { u with regs := [] } = E u) :
    E s = E s0 := by
  rw [← hE s, h.rest, hE]

/-- An event that is raised stays so when others are raised. -/
theorem State.raise_still {q j : Nat} (hk : k < 32) (h : s.fld (F.pgInt q k) = 1) : (s.raise q j).fld (F.pgInt q k) = 1 := by
  by_cases hj : j = k
  · rw [hj]; exact State.fld_raise_self s hk
  · rw [State.fld_raise_off s (by show j < k ∨ k < j ∨ _; omega), h]

/-- What holds of a state and is kept by an update holds after the update under a condition. -/
theorem State.when_holds {P : State → Prop} {c : Bool} {f : State → State} (h0 : P s) (h1 : P s → P (f s)) : P (s.when c f) := by
  cases c
  · exact h0
  · exact h1 h0

/-- A counter raised, and an event raised after it. -/
theorem State.counted_raise {cnt sat : Fld} {q j : Nat} (hc : cnt.hi < 32 ∧ cnt.lo ≤ cnt.hi ∧ cnt.Apart sat) (hf : cnt.addr ≠ q * 4096 + 16) :
    Counted s ((s.bump cnt sat).raise q j) cnt := by
  obtain ⟨hhi, hlo, hd⟩ := hc
  rw [Counted, State.fld_raise_other _ hf, State.fld_bump_counter s hhi hlo hd]

theorem State.report_reported {u : State} {c i a : Nat} (h : u.flt = s.flt) : Reported s (u.report c i a) c i a := by
  rw [Reported, State.report, h]

@[simp] theorem State.port_setPort (s : State) (p : Nat) (x : SapPort) : (s.setPort p x).port p = x := SMap.get_set_same _ _ _ _

@[simp] theorem State.port_setXing (s : State) (k : Nat) (x : Xing) : (s.setXing k x).port p = s.port p := rfl
@[simp] theorem State.xing_setPort (s : State) (p : Nat) (x : SapPort) : (s.setPort p x).xing k = s.xing k := rfl
@[simp] theorem State.regs_setPort (s : State) (p : Nat) (x : SapPort) : (s.setPort p x).regs = s.regs := rfl
@[simp] theorem State.regs_setXing (s : State) (k : Nat) (x : Xing) : (s.setXing k x).regs = s.regs := rfl
@[simp] theorem State.fld_setPort (s : State) (p : Nat) (x : SapPort) (f : Fld) : (s.setPort p x).fld f = s.fld f := rfl
@[simp] theorem State.fld_setXing (s : State) (k : Nat) (x : Xing) (f : Fld) : (s.setXing k x).fld f = s.fld f := rfl

theorem State.port_congr {t : State} (h : t.sap = s.sap) (p : Nat) : t.port p = s.port p := by rw [State.port, h, State.port]

theorem State.xing_congr {t : State} (h : t.srcc = s.srcc) (k : Nat) : t.xing k = s.xing k := by rw [State.xing, h, State.xing]

@[simp] theorem State.port_sapSetPs (v : Nat) : (sapSetPs p v s).port p = s.port p := State.port_congr (State.setFld_sap ..) p

@[simp] theorem sapPs_setPs {v : Nat} (h : v < 16) : sapPs p (sapSetPs p v s) = v := State.fld_setFld_fits s (of_decide_eq_true rfl) h

/-- What showing a port leaves: the ports, the crossings, the reports, and every event that is raised. -/
theorem sapShow_leaves (p : Nat) (s : State) : (sapShow p s).sap = s.sap ∧ (sapShow p s).srcc = s.srcc ∧ (sapShow p s).flt = s.flt := by
  have h {β : Type} (E : State → β) : Only (fun _ => True) E s (sapShow p s) := sapShow_only ⟨trivial, trivial⟩ (.refl s)
  exact ⟨(h State.sap).same fun _ => rfl, (h State.srcc).same fun _ => rfl, (h State.flt).same fun _ => rfl⟩

/-- The registers that showing port `p` writes. -/
def sapWs (p a : Nat) : Prop := a = Adr.SAP_STAT p ∨ a = Pg.sap p * 4096 + 16

theorem sapShow_fld {f : Fld} (hf : ¬ sapWs p f.addr) : (sapShow p s).fld f = s.fld f :=
  (sapShow_only (E := fun _ => ()) ⟨.inl rfl, .inr rfl⟩ (.refl s)).fld hf

/-- PSTATE of a port that runs, as its sides stand (R200). -/
def sapShown (x : SapPort) : Nat :=
  if x.rx.ph == 1 || (x.tx.ph == 1 && !x.requal) then 7 else if x.conserve then 10
    else if x.rx.ph == 2 || x.tx.ph == 2 then 8 else if x.rx.ph = 3 ∨ x.tx.ph = 3 then 6 else 5

theorem sapShow_running (hlo : 5 ≤ sapPs p s) (hhi : sapPs p s < 9) :
    sapPs p (sapShow p s) = sapShown (s.port p) ∧
    (sapShown (s.port p) = 5 → sapPs p s ≠ 5 → (sapShow p s).fld (F.pgInt (Pg.sap p) 4) = 1) := by
  have hrun : ¬(sapPs p s < 5 ∨ sapPs p s = 9 ∨ sapPs p s = 10) := by omega
  have hlt : sapShown (s.port p) < 16 := by
    unfold sapShown
    split
    · decide
    split
    · decide
    split
    · decide
    split <;> decide
  unfold sapShow
  dsimp only
  rw [if_neg hrun]
  change sapPs p (State.when (sapShown (s.port p) == 5 && sapPs p s != 5) _ (sapSetPs p (sapShown (s.port p)) _)) = _ ∧
    (_ → _ → (State.when (sapShown (s.port p) == 5 && sapPs p s != 5) _ (sapSetPs p (sapShown (s.port p)) _)).fld _ = 1)
  refine ⟨?_, fun h5 hn => ?_⟩
  · unfold State.when
    split
    · rw [sapPs, State.fld_raise_other _ (by simp only [F.SAP_STAT_PSTATE, Adr.SAP_STAT, Pg.sap]; omega)]
      exact sapPs_setPs hlt
    · exact sapPs_setPs hlt
  · rw [State.when_of (by simp [h5, hn])]
    exact State.fld_raise_self _ (by decide)

theorem sapShow_act : (sapShow p s).fld (F.SAP_STAT_MODE_ACT p) = s.fld (F.SAP_STAT_MODE_ACT p) := by
  have hraise (j : Nat) (u : State) : (u.raise (Pg.sap p) j).fld (F.SAP_STAT_MODE_ACT p) = u.fld (F.SAP_STAT_MODE_ACT p) :=
    State.fld_raise_other _ (by simp only [F.SAP_STAT_MODE_ACT, Adr.SAP_STAT, Pg.sap]; omega)
  unfold sapShow
  dsimp only
  split
  · rw [State.fld_setOn_off _ _ (Fld.apart_sure rfl), State.fld_setOn_off _ _ (Fld.apart_sure rfl)]
  · rw [State.when_keeps (·.fld (F.SAP_STAT_MODE_ACT p)) (hraise 4 _), sapSetPs, State.fld_setFld_off _ _ (Fld.apart_sure rfl),
      State.fld_setOn_off _ _ (Fld.apart_sure rfl), State.fld_setOn_off _ _ (Fld.apart_sure rfl)]

theorem sapShow_still {j : Nat} (hj : j < 32) (h : s.fld (F.pgInt (Pg.sap p) j) = 1) : (sapShow p s).fld (F.pgInt (Pg.sap p) j) = 1 := by
  have hap (f : Fld) (hf : f.addr = Adr.SAP_STAT p) : f.Apart (F.pgInt (Pg.sap p) j) := .inr (.inr (by
    rw [hf]; simp only [F.pgInt, Pg.sap, Adr.SAP_STAT]; omega))
  have h1 (a b : Bool) : (((s.setOn (F.SAP_STAT_RX_EVT p) a).setOn (F.SAP_STAT_TX_EVT p) b)).fld (F.pgInt (Pg.sap p) j) = 1 := by
    rw [State.fld_setOn_off _ _ (hap (F.SAP_STAT_TX_EVT p) rfl), State.fld_setOn_off _ _ (hap (F.SAP_STAT_RX_EVT p) rfl), h]
  unfold sapShow
  dsimp only
  split
  · exact h1 _ _
  · refine State.when_holds (P := fun u => u.fld (F.pgInt (Pg.sap p) j) = 1) ?_ (State.raise_still hj)
    rw [sapSetPs, State.fld_setFld_off _ _ (hap (F.SAP_STAT_PSTATE p) rfl)]
    exact h1 _ _

/-- An event of a side leaves the events that are raised. -/
theorem sapEvent_still (tx log : Bool) {j : Nat} (hj : j < 32) (h : s.fld (F.pgInt (Pg.sap p) j) = 1) :
    (sapEvent p tx log s).fld (F.pgInt (Pg.sap p) j) = 1 :=
  sapShow_still hj (State.when_holds (P := fun u => u.fld (F.pgInt (Pg.sap p) j) = 1) (State.raise_still hj h) fun h => h)

/-- An event of a side leaves what is counted. -/
theorem sapEvent_fld (tx log : Bool) {f : Fld} (hf : ¬ sapWs p f.addr) : (sapEvent p tx log s).fld f = s.fld f := by
  have h : Only (sapWs p) (fun _ => ()) s (sapEvent p tx log s) :=
    sapEvent_only (fun _ _ => rfl) ⟨.inl rfl, .inr rfl⟩ (fun _ _ _ => rfl) (.refl s)
  exact h.fld hf

/-- An event that is not logged reports nothing. -/
theorem sapEvent_flt (tx : Bool) : (sapEvent p tx false s).flt = s.flt := by
  have h : Only (fun _ => True) State.flt s (sapEvent p tx false s) :=
    sapEvent_only (fun _ _ => rfl) ⟨trivial, trivial⟩ (fun h => absurd h (by decide)) (.refl s)
  exact h.same fun _ => rfl

/-- An event raises event 0 of the page, and its side takes it. -/
theorem sapEvent_takes (tx log : Bool) : (sapEvent p tx log s).fld (F.pgInt (Pg.sap p) 0) = 1 ∧
    ((sapEvent p tx log s).port p).tx.ph = (if tx then sideEvent (sapFadeCfg p s) (sapFadeN (sapFadeCfg p s) p s) (s.port p).tx else (s.port p).tx).ph := by
  refine ⟨sapShow_still (by decide) (State.when_holds (P := fun u => u.fld (F.pgInt (Pg.sap p) 0) = 1) (State.fld_raise_self _ (by decide)) fun h => h), ?_⟩
  have hsap (c : Bool) (u : State) : (u.when c (State.report 0x4543 p 0)).sap = u.sap := State.when_keeps (·.sap) rfl
  unfold sapEvent
  rw [State.port_congr (sapShow_leaves p _).1, State.port_congr (hsap _ _), State.port_congr (State.raise_sap ..), State.port_setPort]
  cases tx <;> rfl

/-- The registers of a crossing's channels are those of the engines' channels. -/
theorem achRegs_ach {a : Nat} (h : a ∈ s.achRegs k) : ∃ i, a = Adr.SRC_ACH i := by
  rw [State.achRegs, List.mem_filter, List.mem_map] at h
  obtain ⟨⟨i, -, e⟩, -⟩ := h
  exact ⟨i, e.symm⟩

/-- Starting both crossings writes the channels of the engines and the crossings alone. -/
theorem sapCross_shows (p : Nat) (s : State) : (sapCross p s).sap = s.sap ∧ ∀ f : Fld, (∀ i, f.addr ≠ Adr.SRC_ACH i) → (sapCross p s).fld f = s.fld f := by
  have h {β : Type} {E : State → β} (hX : ∀ k, HidesXing k E) : Only (fun a => ∃ i, a = Adr.SRC_ACH i) E s (sapCross p s) :=
    sapCross_only (hX _) (hX _) (.of_regs rfl)
      (fun _ ha => achRegs_ach ha) (fun _ ha => achRegs_ach ha) (.refl s)
  exact ⟨(h (E := State.sap) fun _ _ _ => rfl).same fun _ => rfl,
    fun f hf => (h (E := fun _ => ()) fun _ _ _ => rfl).fld fun ⟨i, e⟩ => hf i e⟩

theorem sideRamp_ph {n : Nat} {d : Side} (h : n ≠ 0) : (sideRamp n d).ph = 3 := by
  rw [sideRamp, if_neg h]

/-- A port set to ramp in on both sides shows it (R190, R200). -/
theorem sapRamps_shows {x : SapPort} (hc : x.conserve = false) (hrx : x.rx.ph = 3) (htx : x.tx.ph = 3) (ha : s.fld (F.SAP_STAT_MODE_ACT p) = 0) :
    let t := sapShow p (sapSetPs p 6 (s.setPort p x))
    sapPs p t = 6 ∧ t.fld (F.SAP_STAT_MODE_ACT p) = 0 ∧ (t.port p).rx.ph = 3 ∧ (t.port p).tx.ph = 3 := by
  have hps : sapPs p (sapSetPs p 6 (s.setPort p x)) = 6 := sapPs_setPs (by decide)
  have hfin : (sapSetPs p 6 (s.setPort p x)).port p = x := by rw [State.port_sapSetPs, State.port_setPort]
  obtain ⟨hshown, -⟩ := sapShow_running (p := p) (s := sapSetPs p 6 (s.setPort p x)) (by omega) (by omega)
  refine ⟨?_, ?_, ?_, ?_⟩
  · rw [hshown, hfin, sapShown]
    simp [hrx, htx, hc]
  · rw [sapShow_act, sapSetPs, State.fld_setFld_off _ _ (Fld.apart_sure rfl), State.fld_setPort, ha]
  · rw [State.port_congr (sapShow_leaves p _).1, hfin, hrx]
  · rw [State.port_congr (sapShow_leaves p _).1, hfin, htx]

/-- A port with fades that starts to drive its clocks ramps in on both sides (R190, R191). -/
theorem sapDrive_shows (hp : p < 16) (hc : (s.port p).conserve = false) (hf : (s.port p).rx.fade ≠ 0) (hf' : (s.port p).tx.fade ≠ 0) :
    sapPs p (sapDrive p s) = 6 ∧ (sapDrive p s).fld (F.SAP_STAT_MODE_ACT p) = 0 ∧ ((sapDrive p s).port p).rx.ph = 3 ∧
    ((sapDrive p s).port p).tx.ph = 3 := by
  obtain ⟨hsap, hflds⟩ := sapCross_shows p (s.setFld (F.SAP_STAT_MODE_ACT p) 0)
  have hport : (sapCross p (s.setFld (F.SAP_STAT_MODE_ACT p) 0)).port p = s.port p := State.port_congr (hsap.trans (State.setFld_sap ..)) p
  have hact := hflds (F.SAP_STAT_MODE_ACT p) (fun i => by simp only [F.SAP_STAT_MODE_ACT, Adr.SAP_STAT, Adr.SRC_ACH]; omega)
  rw [State.fld_setFld_zero s (of_decide_eq_true rfl)] at hact
  unfold sapDrive
  generalize sapCross p (s.setFld (F.SAP_STAT_MODE_ACT p) 0) = u at hport hact
  refine sapRamps_shows (by rw [hport]; exact hc) (sideRamp_ph ?_) (sideRamp_ph ?_) hact
  · rw [hport, sapFade]; omega
  · rw [hport, sapFadeN, if_neg hf']; omega

/-- A qualified clock lets the converters lock (R187). -/
theorem sapQualified_shows (p : Nat) (s : State) : sapPs p (sapQualified p s) = 4 ∧ ((sapQualified p s).port p).goodRun = 0 := by
  refine ⟨sapPs_setPs (by decide), ?_⟩
  rw [sapQualified, State.port_sapSetPs, State.port_congr (sapCross_shows p _).1, State.port_setPort]

/-- A bad frame is counted, raises its event and leaves a copy of the frame before it in its place (R188). -/
theorem sapBadFrame_shows (p : Nat) (s : State) :
    Counted s (sapBadFrame p s) (F.SAP_CNT_ERR_FS_ERR p) ∧ (sapBadFrame p s).fld (F.pgInt (Pg.sap p) 2) = 1 ∧
    (sapBadFrame p s).port p = { s.port p with rxDisc := (s.port p).rxDisc + 1 } ∧
    ((sapBadFrame p s).xing p).inbox = (s.xing p).inbox ++
      [((s.xing p).inbox.getLastD ((s.xing p).buf.getLastD (s.xing p).last)).map (fun w => addTag w tSUB)] := by
  have hcnt : Counted s ((s.bump (F.SAP_CNT_ERR_FS_ERR p) (F.SAP_CNT_ERR_FE_SAT p)).raise (Pg.sap p) 2) (F.SAP_CNT_ERR_FS_ERR p) :=
    State.counted_raise (of_decide_eq_true rfl) (by simp only [F.SAP_CNT_ERR_FS_ERR, Adr.SAP_CNT_ERR, Pg.sap]; omega)
  have hint : ((s.bump (F.SAP_CNT_ERR_FS_ERR p) (F.SAP_CNT_ERR_FE_SAT p)).raise (Pg.sap p) 2).fld (F.pgInt (Pg.sap p) 2) = 1 :=
    State.fld_raise_self _ (by decide)
  have hport : ((s.bump (F.SAP_CNT_ERR_FS_ERR p) (F.SAP_CNT_ERR_FE_SAT p)).raise (Pg.sap p) 2).port p = s.port p := State.port_congr (by simp) p
  have hxing : ((s.bump (F.SAP_CNT_ERR_FS_ERR p) (F.SAP_CNT_ERR_FE_SAT p)).raise (Pg.sap p) 2).xing p = s.xing p := State.xing_congr (by simp) p
  unfold sapBadFrame
  generalize (s.bump (F.SAP_CNT_ERR_FS_ERR p) (F.SAP_CNT_ERR_FE_SAT p)).raise (Pg.sap p) 2 = u at hcnt hint hport hxing
  refine ⟨hcnt, hint, ?_, ?_⟩
  · simp [hport]
  · simp [hxing]

theorem sapBadFrame_after (x : SapPort) :
    Counted s (sapBadFrame p (s.setPort p x)) (F.SAP_CNT_ERR_FS_ERR p) ∧ (sapBadFrame p (s.setPort p x)).fld (F.pgInt (Pg.sap p) 2) = 1 ∧
    ((sapBadFrame p (s.setPort p x)).port p).badRun = x.badRun ∧ ((sapBadFrame p (s.setPort p x)).xing p).inbox = (s.xing p).inbox ++
      [((s.xing p).inbox.getLastD ((s.xing p).buf.getLastD (s.xing p).last)).map (fun w => addTag w tSUB)] := by
  obtain ⟨hcnt, hint, hport, hinbox⟩ := sapBadFrame_shows p (s.setPort p x)
  exact ⟨hcnt, hint, by rw [hport, State.port_setPort], hinbox⟩

/-- A lost clock counted and reported stays so while both sides fade (R189). -/
theorem sapLose_shows {c : Fld} {j : Nat} (hj : j < 32) (hc : ¬ sapWs p c.addr) (h : s.fld (F.pgInt (Pg.sap p) j) = 1) :
    ((sapLose p s).port p).requal = true ∧ ((sapLose p s).port p).goodRun = 0 ∧ (sapLose p s).fld c = s.fld c ∧
    (sapLose p s).fld (F.pgInt (Pg.sap p) j) = 1 ∧ (sapLose p s).flt = s.flt := by
  have hint := sapEvent_still true false hj (sapEvent_still false false hj h)
  have hfld : (sapEvent p true false (sapEvent p false false s)).fld c = s.fld c := (sapEvent_fld true false hc).trans (sapEvent_fld false false hc)
  have hflt : (sapEvent p true false (sapEvent p false false s)).flt = s.flt := (sapEvent_flt true).trans (sapEvent_flt false)
  unfold sapLose
  generalize sapEvent p true false (sapEvent p false false s) = u at hflt hint hfld
  exact ⟨by rw [State.port_setPort], by rw [State.port_setPort], hfld, hint, hflt⟩

theorem map_sideOut_running {d : Side} (h : d.ph = 0) (f : List Word) : f.map (sideOut d) = f := by
  rw [show sideOut d = id by funext w; rw [sideOut, if_pos h, id], List.map_id]

/-- A live frame of a side that runs goes out as it is (R195). -/
theorem sapSend_running {f : List Word} (h : (s.port p).tx.ph = 0) :
    ((sapSend p (some f) s).port p).pins = sapPins p (sapMasked p f s) s ∧ ((sapSend p (some f) s).port p).sent = f := by
  unfold sapSend
  rw [State.port_setPort]
  simp [h, map_sideOut_running h]

theorem sideStep_ph (d : Side) : (sideStep d).ph = d.ph := by
  unfold sideStep
  split <;> rfl

/-- A frame that goes out leaves the registers, and its side in its phase. -/
theorem sapSend_leaves (live : Option (List Word)) : (sapSend p live s).regs = s.regs ∧ ((sapSend p live s).port p).tx.ph = (s.port p).tx.ph := by
  refine ⟨rfl, ?_⟩
  unfold sapSend
  rw [State.port_setPort]
  exact sideStep_ph _

/-- A started port senses its clock pins (R190). -/
theorem sapStart_shows (p : Nat) (sense : Bool) (s : State) :
    sapPs p (sapStart p sense s) = 1 ∧ ((sapStart p sense s).port p).start = s.tick ∧ ((sapStart p sense s).port p).sense = sense ∧
    (sapStart p sense s).fld (F.SAP_STAT_MODE_ACT p) = s.fld (F.SAP_CFG_MODE p) := by
  have hmode : s.fld (F.SAP_CFG_MODE p) < 2 ^ (F.SAP_STAT_MODE_ACT p).width := State.fld_lt s (F.SAP_CFG_MODE p)
  have hport (x : SapPort) (y z : Xing) (v w a b : Nat) : ((((sapSetPs p v (((s.setPort p x).setXing p y).setXing (16 + p) z)).setFld
      (F.SAP_STAT_MODE_ACT p) w).setFld (F.SAP_STAT_RX_EVT p) a).setFld (F.SAP_STAT_TX_EVT p) b).port p = x := by
    rw [State.port_congr (State.setFld_sap ..), State.port_congr (State.setFld_sap ..), State.port_congr (State.setFld_sap ..),
      State.port_sapSetPs, State.port_setXing, State.port_setXing, State.port_setPort]
  unfold sapStart
  refine ⟨?_, ?_, ?_, ?_⟩
  · rw [sapPs, State.fld_setFld_off _ _ (Fld.apart_sure rfl), State.fld_setFld_off _ _ (Fld.apart_sure rfl),
      State.fld_setFld_off _ _ (Fld.apart_sure rfl)]
    exact sapPs_setPs (by decide)
  · rw [hport]
  · rw [hport]
  · rw [State.fld_setFld_off _ _ (Fld.apart_sure rfl), State.fld_setFld_off _ _ (Fld.apart_sure rfl),
      State.fld_setFld_fits _ (of_decide_eq_true rfl) hmode]

/-- A ramp-in that ends while the other side runs lets the port run (R194-R196). -/
theorem sapRan_shows {x : SapPort} (hrx : x.rx.ph = 0) (htx : x.tx.ph = 0) (hc : x.conserve = false) (hps : sapPs p s = 6) :
    let t := sapShow p (s.setPort p x)
    t.port p = x ∧ sapPs p t = 5 ∧ t.fld (F.pgInt (Pg.sap p) 4) = 1 := by
  have hps' : sapPs p (s.setPort p x) = 6 := hps
  have hrun : sapShown x = 5 := by simp [sapShown, hrx, htx, hc]
  obtain ⟨hshown, hint⟩ := sapShow_running (p := p) (s := s.setPort p x) (by omega) (by omega)
  rw [State.port_setPort, hrun] at hshown hint
  exact ⟨by rw [State.port_congr (sapShow_leaves p _).1, State.port_setPort], hshown, hint rfl (by omega)⟩

end

end Sys2Proof.Machine

namespace Sys2Proof
open Machine

/-- Settles O48: each command of the serial audio ports writes its own port, its two crossings and the registers that show them. -/
theorem serialPortFrames : Obligations.SerialPortFrames := by
  intro s
  have hx (p : Nat) (x : Xing) (m : SMap Xing) : [p, 16 + p].foldl SMap.erase (SMap.set (fun _ => {}) m p x) = [p, 16 + p].foldl SMap.erase m :=
    SMap.foldl_erase_set _ _ _ (by simp)
  have hx' (p : Nat) (x : Xing) (m : SMap Xing) :
      [p, 16 + p].foldl SMap.erase (SMap.set (fun _ => {}) m (16 + p) x) = [p, 16 + p].foldl SMap.erase m :=
    SMap.foldl_erase_set _ _ _ (by simp)
  refine ⟨fun p edges => .ticking rfl (sapSenseEnd_only (fun _ _ => ?_) ⟨?_, ?_⟩ (fun _ _ => rfl) (fun _ _ => ?_) (fun _ _ => ?_) (.of_regs rfl) p.isLt
      (fun a ha => ?_) (fun a ha => ?_) ?_ (.refl s)),
    fun p bits period line => .ticking rfl (sapFrame_only (fun _ _ => ?_) ⟨?_, ?_⟩ (fun _ _ => rfl) (fun _ _ => ?_) (fun _ _ => ?_) (.of_regs rfl)
      (fun a ha => ?_) (fun a ha => ?_) ?_ ?_ (.refl s)),
    fun p => .ticking rfl (sapClockLoss_only (fun _ _ => ?_) ⟨?_, ?_⟩ (fun _ _ => rfl) ?_ (.refl s)),
    fun p => .ticking rfl (sapTxRequest_only (fun _ _ => ?_) ⟨?_, ?_⟩ (fun _ _ => rfl) (fun _ _ => ?_) ?_ (.refl s)),
    fun p tx => .ticking rfl (sapFadeEnd_only (fun _ _ => ?_) ⟨?_, ?_⟩ (.refl s)),
    fun p tx => .ticking rfl (sapRampEnd_only (fun _ _ => ?_) ⟨?_, ?_⟩ (.refl s)),
    fun p => .heard rfl (sapRestart_only (fun _ _ => ?_) ?_ (fun _ _ => ?_) (fun _ _ => ?_) (.refl s))⟩
  all_goals simp [State.setPort, State.setXing, F.pgInt, *, -List.foldl_cons]
end Sys2Proof

namespace Sys2Proof
open Machine
/-- Settles O24, each clause by what its command does with the port and its crossings in the state that the clause gives; what the command
shows beside stays apart from the fields that the clause reads. -/
theorem serialPortCommandsComplete : Obligations.SerialPortCommandsComplete := by
  intro s p
  refine ⟨?_, ?_, ?_, ?_, ?_, ?_, ?_, ?_, ?_, ?_, ?_, ?_, ?_, ?_⟩
  · intro edges hr h1 hd ht hl hm
    rw [exec, execSapSenseEnd, completes_ticking hr]
    simp only [sapSenseEnd, h1, hd, hl, Nat.not_lt.mpr ht, hm, ne_eq, not_true_eq_false, Bool.false_eq_true, or_self, if_false, if_true]
    exact ⟨sapPs_setPs (by decide), by
      rw [sapSetPs, State.fld_setFld_off _ _ (Fld.apart_sure rfl), State.fld_setFld_fits _ (of_decide_eq_true rfl) (of_decide_eq_true rfl)]⟩
  · intro hr h1 hd ht hl hm hs
    rw [exec, execSapSenseEnd, completes_ticking hr]
    have hone : ¬(s.fld (F.SAP_CFG_MODE p) = 1 ∨ s.fld (F.SAP_CFG_MODE p) = 2 ∧ true = true) := by omega
    have hgo : ¬(sapPs p s ≠ 1 ∨ (s.port p).drive = true ∨ s.tick < (s.port p).start + 16 ∨ s.on F.CLK_STATUS_PRELOCK = true) := by
      simp [h1, hd, hl]; omega
    rw [sapSenseEnd, if_neg hgo, if_neg hone, if_pos (by rw [hs]; rfl)]
    have herr : (F.SAP_CNT_ERR_CONTEND_CNT p).addr ≠ Pg.sap p * 4096 + 16 := by
      simp only [F.SAP_CNT_ERR_CONTEND_CNT, Adr.SAP_CNT_ERR, Pg.sap]; omega
    have hps (f : Fld) (hf : f.addr = Adr.SAP_CNT_ERR p) : (F.SAP_STAT_PSTATE p).Apart f :=
      .inr (.inr (by rw [hf]; simp only [F.SAP_STAT_PSTATE, Adr.SAP_STAT, Adr.SAP_CNT_ERR]; omega))
    refine ⟨?_, ?_, ?_, State.report_reported (by simp [sapSetPs]; rfl)⟩
    · rw [sapPs, State.report_fld, State.fld_raise_other _ (by simp only [F.SAP_STAT_PSTATE, Adr.SAP_STAT, Pg.sap]; omega),
        State.fld_bump_off _ ((hps _ rfl).symm) ((hps _ rfl).symm)]
      exact sapPs_setPs (by decide)
    · rw [Counted, State.report_fld, State.counted_raise (of_decide_eq_true rfl) herr, sapSetPs, State.fld_setFld_off _ _ (hps _ rfl), State.fld_setPort]
    · rw [State.report_fld, State.fld_raise_self _ (by decide)]
  · intro hr h1 hd ht hl hm hc hf hf' hb
    rw [exec, execSapSenseEnd, completes_ticking hr]
    simp only [sapSenseEnd, h1, hd, hl, Nat.not_lt.mpr ht, hm, ne_eq, not_true_eq_false, Bool.false_eq_true, or_self, if_false, reduceCtorEq, Nat.zero_ne_one, and_false, Bool.false_and, sapDriveFrom, hb, if_true]
    exact sapDrive_shows p.isLt hc hf hf'
  · intro hr h1 hd ht hl hm hb
    rw [exec, execSapSenseEnd, completes_ticking hr]
    simp [sapSenseEnd, h1, hd, hl, Nat.not_lt.mpr ht, hm, sapDriveFrom, hb]
    exact h1
  · intro bits period line hr hc hlo hhi
    rw [exec, execSapFrame, completes_ticking hr]
    have hn : ¬(sapPs p s = 0 ∨ sapPs p s = 1 ∨ 9 ≤ sapPs p s) := by omega
    simp [sapFrame, hn, hc]
  · intro bits period line hr hc hps hg
    rw [exec, execSapFrame, completes_ticking hr]
    have hn : ¬(sapPs p s = 0 ∨ sapPs p s = 1 ∨ 9 ≤ sapPs p s) := by omega
    by_cases h15 : 15 ≤ (s.port p).goodRun
    · simp only [sapFrame, hn, hc, hps, hg, if_true, if_false, Bool.false_eq_true, show min 16 ((s.port p).goodRun + 1) = 16 by omega, h15]
      exact sapQualified_shows p _
    · simp only [sapFrame, hn, hc, hps, hg, if_true, if_false, Bool.false_eq_true,
        show min 16 ((s.port p).goodRun + 1) = (s.port p).goodRun + 1 by omega, show ¬(s.port p).goodRun + 1 = 16 by omega, h15]
      exact ⟨sapPs_setPs (by decide), by rw [State.port_sapSetPs, State.port_setPort]⟩
  · intro bits period line hr hc hlo hhi hq hg hroom
    rw [exec, execSapFrame, completes_ticking hr]
    have hn : ¬(sapPs p s = 0 ∨ sapPs p s = 1 ∨ 9 ≤ sapPs p s) := by omega
    have hps : ¬(sapPs p s = 2 ∨ sapPs p s = 3) := by omega
    simp [sapFrame, hn, hc, hps, hq, hg, sapHand, xingGive, Nat.not_le.mpr hroom]
  · intro bits period line hr hc hlo hhi hq hg hb
    rw [exec, execSapFrame, completes_ticking hr]
    have hn : ¬(sapPs p s = 0 ∨ sapPs p s = 1 ∨ 9 ≤ sapPs p s) := by omega
    have hps : ¬(sapPs p s = 2 ∨ sapPs p s = 3) := by omega
    simp only [sapFrame, hn, hc, hps, hq, hg, if_true, if_false, Bool.false_eq_true, ne_eq, show ¬(s.port p).badRun + 1 = 8 by omega,
      not_false_eq_true]
    exact sapBadFrame_after _
  · intro hr hc hlo hhi hq
    rw [exec, execSapClockLoss, completes_ticking hr]
    have hn : ¬(sapCtl p s = true ∨ sapPs p s < 5 ∨ 7 < sapPs p s ∨ (s.port p).requal = true) := by simp [hc, hq]; omega
    rw [sapClockLoss, if_neg hn]
    have herr : (F.SAP_CNT_ERR_CLK_LOSS p).addr ≠ Pg.sap p * 4096 + 16 := by
      simp only [F.SAP_CNT_ERR_CLK_LOSS, Adr.SAP_CNT_ERR, Pg.sap]; omega
    have hstat : (F.SAP_CNT_ERR_CLK_LOSS p).addr ≠ Adr.SAP_STAT p := by
      simp only [F.SAP_CNT_ERR_CLK_LOSS, Adr.SAP_CNT_ERR, Adr.SAP_STAT]; omega
    obtain ⟨hreq, hgood, hcnt, hint, hflt⟩ := sapLose_shows (p := p) (c := F.SAP_CNT_ERR_CLK_LOSS p) (j := 1) (by decide) (not_or.mpr ⟨hstat, herr⟩)
      (s := ((s.bump (F.SAP_CNT_ERR_CLK_LOSS p) (F.SAP_CNT_ERR_CL_SAT p)).raise (Pg.sap p) 1).report 0x2541 p 0)
      (by rw [State.report_fld, State.fld_raise_self _ (by decide)])
    refine ⟨hreq, hgood, ?_, hint, ?_⟩
    · rw [Counted, hcnt, State.report_fld, State.counted_raise (of_decide_eq_true rfl) herr]
    · rw [Reported, hflt]
      exact State.report_reported (by simp)
  · intro f rest hr hc hlo hhi ht hf
    rw [exec, execSapTxFrameRequest, completes_ticking hr]
    have hn : ¬(sapCtl p s = true ∨ sapPs p s < 2 ∨ sapPs p s = 9) := by simp [hc]; omega
    have hn' : ¬(sapPs p s < 5 ∨ sapPs p s = 10) := by omega
    have hp : ¬((s.port p).tx.ph = 1 ∨ (s.port p).tx.ph = 2) := by omega
    rw [sapTxRequest, if_neg hn, if_neg hn', if_neg hp]
    simp only [hf]
    obtain ⟨hpins, hsent⟩ := sapSend_running (f := f) (p := p) (s := s.setXing (16 + p) { s.xing (16 + p) with buf := rest }) ht
    exact ⟨hpins, hsent, congrArg Xing.buf (State.xing_setXing s (16 + p) { s.xing (16 + p) with buf := rest })⟩
  · intro hr hc hlo hhi ht hf
    rw [exec, execSapTxFrameRequest, completes_ticking hr]
    have hn : ¬(sapCtl p s = true ∨ sapPs p s < 2 ∨ sapPs p s = 9) := by simp [hc]; omega
    have hn' : ¬(sapPs p s < 5 ∨ sapPs p s = 10) := by omega
    have hp : ¬((s.port p).tx.ph = 1 ∨ (s.port p).tx.ph = 2) := by omega
    rw [sapTxRequest, if_neg hn, if_neg hn', if_neg hp]
    simp only [hf]
    have hint : (F.SAP_CNT_TX_TX_UNDER p).addr ≠ Pg.sap p * 4096 + 16 := by
      simp only [F.SAP_CNT_TX_TX_UNDER, Adr.SAP_CNT_TX, Pg.sap]; omega
    have hstat : (F.SAP_CNT_TX_TX_UNDER p).addr ≠ Adr.SAP_STAT p := by
      simp only [F.SAP_CNT_TX_TX_UNDER, Adr.SAP_CNT_TX, Adr.SAP_STAT]; omega
    obtain ⟨hraised, hph⟩ := sapEvent_takes (p := p) (s := s.bump (F.SAP_CNT_TX_TX_UNDER p) (F.SAP_CNT_TX_TU_SAT p)) true true
    obtain ⟨hregs, hph'⟩ := sapSend_leaves (p := p) (s := sapEvent p true true (s.bump (F.SAP_CNT_TX_TX_UNDER p) (F.SAP_CNT_TX_TU_SAT p))) none
    have hport : (s.bump (F.SAP_CNT_TX_TX_UNDER p) (F.SAP_CNT_TX_TU_SAT p)).port p = s.port p := State.port_congr (State.bump_sap ..) p
    rw [Counted, ← fldOf_regs, ← fldOf_regs, hregs, fldOf_regs, fldOf_regs, hph', hph, hport, if_pos rfl, sideEvent, if_pos ht]
    refine ⟨?_, rfl, ?_⟩
    · rw [sapEvent_fld _ _ (not_or.mpr ⟨hstat, hint⟩), State.fld_bump_counter s (of_decide_eq_true rfl) (of_decide_eq_true rfl) (of_decide_eq_true rfl)]
    · rw [← fldOf_regs, hregs, fldOf_regs, hraised]
  · intro tx hr ht hw
    have hport (x : SapPort) : (sapShow p (s.setPort p x)).port p = x := by rw [State.port_congr (sapShow_leaves p _).1, State.port_setPort]
    cases tx
    · rw [exec, execSapFadeEnd, completes_ticking hr, sapFadeEnd]
      simp only [Bool.false_eq_true, if_false] at ht hw
      simp [hport, ht, hw]
    · rw [exec, execSapFadeEnd, completes_ticking hr, sapFadeEnd]
      simp only [if_true] at ht hw
      simp [hport, ht, hw]
  · intro tx hr ht hw ho hc hps
    rw [exec, execSapRampEnd, completes_ticking hr, sapRampEnd]
    cases tx
    · simp only [Bool.false_eq_true, if_false] at ht hw ho ⊢
      obtain ⟨hport, hrest⟩ := sapRan_shows (s := s) (p := p) (x := { s.port p with rx := { (s.port p).rx with ph := 0, logged := false } }) rfl ho hc hps
      rw [if_pos ⟨ht, hw⟩, hport]
      exact ⟨rfl, hrest⟩
    · simp only [if_true] at ht hw ho ⊢
      obtain ⟨hport, hrest⟩ := sapRan_shows (s := s) (p := p) (x := { s.port p with tx := { (s.port p).tx with ph := 0, logged := false } }) ho rfl hc hps
      rw [if_pos ⟨ht, hw⟩, hport]
      exact ⟨rfl, hrest⟩
  · intro hp hlo hhi hi
    rw [exec, execSapRestart, completes_heard hp]
    have hgo : (7 ≤ sapPs p s ∧ sapPs p s ≤ 10 ∧ (!s.isolated 2 p) = true) := ⟨hlo, hhi, by simp [hi]⟩
    rw [sapRestart, if_pos hgo]
    exact sapStart_shows p true s
end Sys2Proof

/-!
The queue manager (R397-R420): a producer's write changes its queue's registers, the counters of the page and what the queue manager and the
write-backs keep.
-/

namespace Sys2Proof.Machine

section

variable {β : Type} {ws : Nat → Prop} {E : State → β} {s0 s : State} {q : Nat} {p : Prod}

/-- A reading that does not show the queue manager. -/
def HidesQmg (E : State → β) : Prop := ∀ (u : State) m, E { u with qmg := m } = E u

/-- A reading that does not show the write-backs that wait. -/
def HidesBacks (E : State → β) : Prop := ∀ (u : State) w, E { u with link := { u.link with eccWait := w } } = E u

theorem HidesQmg.only {t : State} (hE : HidesQmg E) (h : Only ws E s0 s) (m : QmgSt) (e : t = { s with qmg := m }) : Only ws E s0 t :=
  e ▸ h.update rfl (hE { s with regs := [] } m)

/-- The registers that a write into queue `q` can change (R410). -/
def QueueRegs (q : Nat) (ws : Nat → Prop) : Prop :=
  ws (Adr.QMG_QSTAT q) ∧ ws (Adr.QMG_QCNT q) ∧ ws Adr.QMG_CNT2 ∧ ws (Pg.qmg * 4096 + 16)

theorem State.dropBack_only {pool i : Nat} (hB : HidesBacks E) (h : Only ws E s0 s) : Only ws E s0 (s.dropBack pool i) :=
  h.update rfl (hB { s with regs := [] } _)

section

variable (hQ : HidesQmg E)

include hQ

theorem State.setQueue_onlyQueue {x : Queue} (h : Only ws E s0 s) : Only ws E s0 (s.setQueue q x) := hQ.only h _ rfl

theorem qLink_onlyQueue (h : Only ws E s0 s) : Only ws E s0 (qLink q p s) := by
  unfold qLink
  dsimp only
  split
  · exact h
  · exact State.setQueue_onlyQueue hQ h

theorem qCutThrough_onlyQueue (h : Only ws E s0 s) : Only ws E s0 (qCutThrough q s) := by
  unfold qCutThrough
  refine .ite h ?_
  split
  · exact qLink_onlyQueue hQ h
  · exact h

theorem qOpen_onlyQueue (h : Only ws E s0 s) : Only ws E s0 (qOpen q p s) := by
  unfold qOpen
  dsimp only
  split
  · exact h
  · exact State.setQueue_onlyQueue hQ h

end

section

variable (hw : QueueRegs q ws)

include hw

theorem qXoff_onlyQueue (h : Only ws E s0 s) : Only ws E s0 (qXoff q s) := by
  obtain ⟨hs, -, -, hi⟩ := hw
  unfold qXoff
  exact .ite (.ite (State.raise_only hi (State.setFld_only hs h)) h) (.ite (State.raise_only hi (State.setFld_only hs h)) h)

variable (hQ : HidesQmg E)

include hQ

theorem qWait_onlyQueue {xs : List Word} {close : Option Nat} (h : Only ws E s0 s) : Only ws E s0 (qWait q p xs close s) := by
  obtain ⟨hs, -, hc, -⟩ := hw
  unfold qWait
  exact hQ.only (State.bump_only hc hc (State.setFld_only hs h)) _ rfl

theorem qJoin_onlyQueue {xs : List Word} {close : Option Nat} (h : Only ws E s0 s) : Only ws E s0 (qJoin q p close xs s) := by
  unfold qJoin
  dsimp only
  split
  · exact .ite (qWait_onlyQueue hw hQ h) (hQ.only h _ rfl)
  · exact h

theorem qFree_onlyQueue {cells : List Nat} (h : Only ws E s0 s) : Only ws E s0 (qFree q cells s) := by
  unfold qFree
  exact .ite h (qXoff_onlyQueue hw (hQ.only (State.setQueue_onlyQueue hQ h) _ rfl))

theorem qSettle_onlyQueue (h : Only ws E s0 s) : Only ws E s0 (qSettle q s) := by
  unfold qSettle
  dsimp only
  split
  · exact h
  · exact qFree_onlyQueue hw hQ (State.setQueue_onlyQueue hQ h)

theorem qClose_onlyQueue {drop : Nat} (h : Only ws E s0 s) : Only ws E s0 (qClose q p drop s) := by
  have hc := hw.2.1
  unfold qClose
  refine .ite (State.setQueue_onlyQueue hQ h) ?_
  split
  · exact h
  · exact qCutThrough_onlyQueue hQ (.branchR (.when (fun _ h1 => State.bump_only hc hc h1) (State.setQueue_onlyQueue hQ h)) fun h1 => qSettle_onlyQueue hw hQ h1)

theorem qGrant_onlyQueue (h : Only ws E s0 s) : Only ws E s0 (qGrant q p s) := by
  unfold qGrant
  exact qXoff_onlyQueue hw (State.setFld_only hw.1 (State.setQueue_onlyQueue hQ (hQ.only h _ rfl)))

theorem qCancel_onlyQueue {stay : Bool} (h : Only ws E s0 s) : Only ws E s0 (qCancel q p stay s) := by
  unfold qCancel
  dsimp only
  split
  · exact qFree_onlyQueue hw hQ (State.setQueue_onlyQueue hQ h)
  · exact .ite (qCutThrough_onlyQueue hQ (qSettle_onlyQueue hw hQ (State.setQueue_onlyQueue hQ h))) h

theorem qOverrun_onlyQueue {stay : Bool} (h : Only ws E s0 s) : Only ws E s0 (qOverrun q p stay s) := by
  have hcancel := qCancel_onlyQueue (p := p) (stay := stay) hw hQ h
  obtain ⟨hs, hc, hc2, hi⟩ := hw
  unfold qOverrun
  exact State.raise_only hi (State.bump_only hc2 hc2 (State.bump_only hc hc (State.setFld_only hs hcancel)))

variable (hB : HidesBacks E)

include hB

omit hw in
theorem qAppend_onlyQueue {w : Word} (h : Only ws E s0 s) : Only ws E s0 (qAppend q p w s) := by
  unfold qAppend
  refine qCutThrough_onlyQueue hQ (State.setQueue_onlyQueue hQ ?_)
  split
  · exact State.dropBack_only hB h
  · exact h

theorem qWrite_onlyQueue {close : Option Nat} {xs : List Word} (h : Only ws E s0 s) : Only ws E s0 (qWrite q p close xs s).1 := by
  have hdisc (n : Nat) {u : State} (hu : Only ws E s0 u) : Only ws E s0 (u.bumpBy n (F.QMG_QCNT_DISC q) (F.QMG_QCNT_DS_SAT q)) :=
    State.bumpBy_only hw.2.1 hw.2.1 hu
  have hite {c : Prop} {_d : Decidable c} {x y : State × Bool} (hx : Only ws E s0 x.1) (hy : Only ws E s0 y.1) :
      Only ws E s0 (if c then x else y).1 := by split <;> assumption
  induction xs generalizing s with
  | nil =>
    unfold qWrite
    split
    · exact h
    · exact hite (hdisc 1 h) (hite (qClose_onlyQueue hw hQ h) (hite (qClose_onlyQueue hw hQ (qGrant_onlyQueue hw hQ (qOpen_onlyQueue hQ h)))
        (hite (qOverrun_onlyQueue hw hQ h) (qWait_onlyQueue hw hQ h))))
  | cons w xs ih =>
    have ho := qOpen_onlyQueue (q := q) (p := p) hQ h
    unfold qWrite
    refine hite (hdisc 1 h) (hite (ih (hdisc 1 h)) ?_)
    dsimp only
    split
    · exact ho
    · exact hite (ih (hdisc 1 ho)) (hite (ih (qAppend_onlyQueue hQ hB ho)) (hite (ih (qAppend_onlyQueue hQ hB (qGrant_onlyQueue hw hQ ho)))
        (hite (hdisc _ (qOverrun_onlyQueue hw hQ ho)) (qWait_onlyQueue hw hQ ho))))

theorem qSubmit_onlyQueue {close : Option Nat} {xs : List Word} (h : Only ws E s0 s) : Only ws E s0 (qSubmit q p close xs s).1 := by
  unfold qSubmit
  split
  · exact qJoin_onlyQueue hw hQ h
  · exact qWrite_onlyQueue hw hQ hB h

theorem qWriteSig_onlyQueue {xs : List Word} {len : Nat} (h : Only ws E s0 s) : Only ws E s0 (qWriteSig q p xs len s).1 := by
  unfold qWriteSig
  exact qSubmit_onlyQueue hw hQ hB h

end

end

end Sys2Proof.Machine

/-!
PDM microphones and S/PDIF receivers (R203-R216): what their commands leave of a microphone or a receiver.
-/

namespace Sys2Proof.Machine

section

variable {s : State} {n k : Nat}

@[simp] theorem State.mic_setMic (s : State) (k : Nat) (x : Mic) : (s.setMic k x).mic k = x := SMap.get_set_same _ _ _ _

@[simp] theorem State.fld_setMic (s : State) (k : Nat) (x : Mic) (f : Fld) : (s.setMic k x).fld f = s.fld f := rfl

@[simp] theorem State.spdi_setSpdi (s : State) (n : Nat) (x : Spdi) : (s.setSpdi n x).spdi n = x := SMap.get_set_same _ _ _ _

theorem State.mic_congr {t : State} (h : t.spd = s.spd) (k : Nat) : t.mic k = s.mic k := by rw [State.mic, h, State.mic]

theorem State.spdi_congr {t : State} (h : t.spd = s.spd) (n : Nat) : t.spdi n = s.spdi n := by rw [State.spdi, h, State.spdi]

@[simp] theorem State.setBit_spd (f : Fld) (k : Nat) (b : Bool) : (s.setBit f k b).spd = s.spd := State.setFld_spd ..

@[simp] theorem State.setBit_flt (f : Fld) (k : Nat) (b : Bool) : (s.setBit f k b).flt = s.flt := State.setFld_flt ..

@[simp] theorem State.fld_setSpdi (s : State) (n : Nat) (x : Spdi) (f : Fld) : (s.setSpdi n x).fld f = s.fld f := rfl
@[simp] theorem State.xing_setSpdi (s : State) (n : Nat) (x : Spdi) (k : Nat) : (s.setSpdi n x).xing k = s.xing k := rfl
@[simp] theorem State.spdi_setXing (s : State) (k : Nat) (x : Xing) (n : Nat) : (s.setXing k x).spdi n = s.spdi n := rfl

/-- A bit written into a field that holds it. -/
theorem State.bit_setBit {f : Fld} (hf : f.hi < 32) (hk : k < f.width) (b : Bool) : (s.setBit f k b).bit f k = b := by
  have hbit (v : Nat) : (v / 2 ^ k % 2 == 1) = v.testBit k := by rw [Nat.testBit_eq_decide_div_mod_eq]; rfl
  have hlt := State.fld_lt s f
  have hpow : 2 ^ k < 2 ^ f.width := Nat.pow_lt_pow_right (by decide) hk
  cases b
  · have hfit : s.fld f &&& (2 ^ f.width - 1 - 2 ^ k) < 2 ^ f.width := Nat.lt_of_le_of_lt Nat.and_le_left hlt
    rw [State.bit, State.setBit, if_neg (by decide), State.fld_setFld_fits s hf hfit, hbit, Nat.testBit_and,
      Nat.sub_sub, Nat.add_comm 1, Nat.testBit_two_pow_sub_succ hpow]
    simp
  · have hfit : s.fld f ||| 2 ^ k < 2 ^ f.width := Nat.or_lt_two_pow hlt hpow
    rw [State.bit, State.setBit, if_pos rfl, State.fld_setFld_fits s hf hfit, hbit, Nat.testBit_or]
    simp

theorem State.bit_congr {t : State} {f : Fld} (h : t.fld f = s.fld f) (k : Nat) : t.bit f k = s.bit f k := by
  rw [State.bit, h, State.bit]

/-- A clock of the microphones that starts changes no register and no microphone. -/
theorem pdmClkStart_leaves (c : Bool) (s : State) : (pdmClkStart c s).regs = s.regs ∧ (pdmClkStart c s).spd = s.spd ∧ (pdmClkStart c s).tick = s.tick := by
  unfold pdmClkStart
  exact ⟨State.when_keeps (·.regs) rfl, State.when_keeps (·.spd) rfl, State.when_keeps (·.tick) rfl⟩

/-- What a frame that a receiver takes leaves as it is: its rate, its run of good frames, whether its event is a loss, its crossing. -/
structure RxKeeps (n : Nat) (s t : State) : Prop where
  rate : t.fld (F.SPDI_STAT_RATE n) = s.fld (F.SPDI_STAT_RATE n)
  ps : spdiPs n t = spdiPs n s
  run : (t.spdi n).goodRun = (s.spdi n).goodRun
  lost : (t.spdi n).lost = (s.spdi n).lost
  xing : t.xing (32 + n) = s.xing (32 + n)

/-- The same with what is not yet told of non-audio content. -/
structure RxStays (n : Nat) (s t : State) : Prop extends RxKeeps n s t where
  na : t.fld (F.SPDI_STAT_NA n) = s.fld (F.SPDI_STAT_NA n)
  err : t.fld (F.SPDI_CNT1_PAR_ERR n) = s.fld (F.SPDI_CNT1_PAR_ERR n)

theorem RxKeeps.trans {t u : State} (h : RxKeeps n s t) (k : RxKeeps n t u) : RxKeeps n s u :=
  ⟨k.rate.trans h.rate, k.ps.trans h.ps, k.run.trans h.run, k.lost.trans h.lost, k.xing.trans h.xing⟩

theorem RxStays.trans {t u : State} (h : RxStays n s t) (k : RxStays n t u) : RxStays n s u :=
  ⟨h.toRxKeeps.trans k.toRxKeeps, k.na.trans h.na, k.err.trans h.err⟩

/-- The fields that `RxStays` reads. -/
def rxFlds (n : Nat) : List Fld := [F.SPDI_STAT_RATE n, F.SPDI_STAT_PSTATE n, F.SPDI_STAT_NA n, F.SPDI_CNT1_PAR_ERR n]

theorem rxFlds_addr {f : Fld} (hf : f ∈ rxFlds n) : f.addr = Adr.SPDI_STAT n ∨ f.addr = Adr.SPDI_CNT1 n := by
  simp only [rxFlds, List.mem_cons, List.not_mem_nil, or_false] at hf
  obtain rfl | rfl | rfl | rfl := hf
  · exact .inl rfl
  · exact .inl rfl
  · exact .inl rfl
  · exact .inr rfl

theorem rxFlds_apart {g : Fld} (hg : g.addr = Adr.SPDI_STAT n) (hlo : 8 ≤ g.lo) (hne : g.lo ≠ 10 ∧ (g.lo < 10 → g.hi < 10)) :
    ∀ f ∈ rxFlds n, g.Apart f := by
  have hcnt : Adr.SPDI_CNT1 n ≠ g.addr := by rw [hg]; simp only [Adr.SPDI_CNT1, Adr.SPDI_STAT]; omega
  intro f hf
  simp only [rxFlds, List.mem_cons, List.not_mem_nil, or_false] at hf
  obtain rfl | rfl | rfl | rfl := hf
  · exact .inr (.inl (show 7 < g.lo by omega))
  · exact .inr (.inl (show 3 < g.lo by omega))
  · by_cases h : g.lo < 10
    · exact .inl (hne.2 h)
    · exact .inr (.inl (show 10 < g.lo by omega))
  · exact .inr (.inr hcnt)

/-- Fields beside those of the receiver that count. -/
theorem RxStays.regs {t : State} (hf : ∀ f ∈ rxFlds n, t.fld f = s.fld f) (hs : t.spd = s.spd) (hx : t.srcc = s.srcc) : RxStays n s t := by
  simp only [rxFlds, List.mem_cons, List.not_mem_nil, or_false, forall_eq_or_imp, forall_eq] at hf
  obtain ⟨h1, h2, h3, h4⟩ := hf
  exact ⟨⟨h1, h2, by rw [State.spdi_congr hs], by rw [State.spdi_congr hs], State.xing_congr hx _⟩, h3, h4⟩

theorem RxStays.setSpdi {x : Spdi} (hr : x.goodRun = (s.spdi n).goodRun) (hl : x.lost = (s.spdi n).lost) : RxStays n s (s.setSpdi n x) :=
  ⟨⟨rfl, rfl, by rw [State.spdi_setSpdi, hr], by rw [State.spdi_setSpdi, hl], rfl⟩, rfl, rfl⟩

theorem RxStays.refl (n : Nat) (s : State) : RxStays n s s := ⟨⟨rfl, rfl, rfl, rfl, rfl⟩, rfl, rfl⟩

theorem RxStays.ite {c : Prop} {_d : Decidable c} {a b : State} (ha : RxStays n s a) (hb : RxStays n s b) : RxStays n s (if c then a else b) := by
  split <;> assumption

theorem RxStays.when {c : Bool} {g : State → State} (h : RxStays n s (g s)) : RxStays n s (s.when c g) := by
  cases c
  · exact .refl n s
  · exact h

/-- A signature written whole leaves the registers outside the queue manager, the receivers and the crossings. -/
theorem qWriteSig_apart {q : Nat} {p : Prod} {xs : List Word} {len : Nat} :
    (∀ f : Fld, f.addr < 0x100000 → (qWriteSig q p xs len s).1.fld f = s.fld f) ∧
    (qWriteSig q p xs len s).1.spd = s.spd ∧ (qWriteSig q p xs len s).1.srcc = s.srcc := by
  have h {β : Type} {E : State → β} (hQ : HidesQmg E) (hB : HidesBacks E) : Only (fun a => 0x100000 ≤ a) E s (qWriteSig q p xs len s).1 :=
    qWriteSig_onlyQueue ⟨by simp only [Adr.QMG_QSTAT]; omega, by simp only [Adr.QMG_QCNT]; omega, by decide, by decide⟩ hQ hB (.refl s)
  exact ⟨fun f hf => (h (E := fun _ => ()) (fun _ _ => rfl) fun _ _ => rfl).fld (by omega),
    (h (E := State.spd) (fun _ _ => rfl) fun _ _ => rfl).same fun _ => rfl, (h (E := State.srcc) (fun _ _ => rfl) fun _ _ => rfl).same fun _ => rfl⟩

/-- The end of a block tells of its channel status and hands on its user bits (R212, R216). -/
theorem spdiBlock_stays (hn : n < 4) : RxStays n s (spdiBlock n s) := by
  have hoff {a : Nat} (ha : a ≠ Adr.SPDI_STAT n) (ha' : a ≠ Adr.SPDI_CNT1 n) : ∀ f ∈ rxFlds n, f.addr ≠ a := by
    intro f hf e
    obtain h | h := rxFlds_addr hf
    · exact ha (e ▸ h)
    · exact ha' (e ▸ h)
  have hpost (u : State) (w : Word) : RxStays n u (u.post (Adr.SPDI_BLK n) w) :=
    .regs (fun f hf => State.fld_post_other u w (hoff (by simp only [Adr.SPDI_BLK, Adr.SPDI_STAT]; omega)
      (by simp only [Adr.SPDI_BLK, Adr.SPDI_CNT1]; omega) f hf)) (State.post_spd ..) (State.post_srcc ..)
  have hset (u : State) (g : Fld) (hg : ∀ f ∈ rxFlds n, g.Apart f) (b : Bool) : RxStays n u (u.setOn g b) :=
    .regs (fun f hf => State.fld_setOn_off u b (hg f hf)) (State.setOn_spd ..) (State.setOn_srcc ..)
  have hraise (u : State) (k : Nat) : RxStays n u (u.raise (Pg.spdi n) k) :=
    .regs (fun f hf => State.fld_raise_other u (hoff (by simp only [Pg.spdi, Adr.SPDI_STAT]; omega)
      (by simp only [Pg.spdi, Adr.SPDI_CNT1]; omega) f hf)) (State.raise_spd ..) (State.raise_srcc ..)
  have hbump (u : State) : RxStays n u (u.bump (F.SPDI_CNT2_U_OVR n) (F.SPDI_CNT2_UO_SAT n)) :=
    .regs (fun f hf => (State.bump_only (ws := fun a => a = Adr.SPDI_CNT2 n) (E := fun _ => ()) rfl rfl (.refl u)).fld
      (hoff (by simp only [Adr.SPDI_CNT2, Adr.SPDI_STAT]; omega) (by simp only [Adr.SPDI_CNT2, Adr.SPDI_CNT1]; omega) f hf))
      (State.bump_spd ..) (State.bump_srcc ..)
  have hsig (u : State) (q : Nat) (p : Prod) (xs : List Word) (len : Nat) : RxStays n u (qWriteSig q p xs len u).1 := by
    obtain ⟨hf, hs, hx⟩ := qWriteSig_apart (q := q) (p := p) (xs := xs) (len := len) (s := u)
    refine .regs (fun f hf' => hf f ?_) hs hx
    obtain h | h := rxFlds_addr hf'
    · rw [h]; simp only [Adr.SPDI_STAT]; omega
    · rw [h]; simp only [Adr.SPDI_CNT1]; omega
  have hshown (x : Spdi) (w : Word) (a b c : Bool) (hr : x.goodRun = (s.spdi n).goodRun) (hl : x.lost = (s.spdi n).lost) :
      RxStays n s (State.when c (State.raise (Pg.spdi n) 2)
        (((State.post (Adr.SPDI_BLK n) w (s.setSpdi n x)).setOn (F.SPDI_STAT_PRO n) a).setOn (F.SPDI_STAT_NA_BIT n) b)) :=
    (RxStays.setSpdi hr hl).trans <| (hpost _ _).trans <| (hset _ (F.SPDI_STAT_PRO n) (rxFlds_apart rfl (of_decide_eq_true rfl) (of_decide_eq_true rfl)) a).trans <|
      (hset _ (F.SPDI_STAT_NA_BIT n) (rxFlds_apart rfl (of_decide_eq_true rfl) (of_decide_eq_true rfl)) b).trans (.when (hraise _ 2))
  unfold spdiBlock
  exact .ite (hshown _ _ _ _ _ (by rfl) (by rfl)) (.ite ((hshown _ _ _ _ _ (by rfl) (by rfl)).trans (hsig _ _ _ _ _))
    (((hshown _ _ _ _ _ (by rfl) (by rfl)).trans (hsig _ _ _ _ _)).trans (hbump _)))

theorem RxKeeps.refl (n : Nat) (s : State) : RxKeeps n s s := (RxStays.refl n s).toRxKeeps

theorem RxKeeps.when {c : Bool} {g : State → State} (h : RxKeeps n s (g s)) : RxKeeps n s (s.when c g) := by
  cases c
  · exact .refl n s
  · exact h

/-- Registers beside SPDI_STAT. -/
theorem RxKeeps.other {t : State} (ws : Nat → Prop) (h : Only ws (fun u => (u.spd, u.srcc)) s t) (hw : ¬ ws (Adr.SPDI_STAT n)) : RxKeeps n s t := by
  have hboth := h.same fun _ => rfl
  have hs : t.spd = s.spd := congrArg (·.1) hboth
  have hx : t.srcc = s.srcc := congrArg (·.2) hboth
  exact ⟨h.fld hw, h.fld hw, by rw [State.spdi_congr hs], by rw [State.spdi_congr hs], State.xing_congr hx _⟩

/-- Non-audio content of a receiver that searches (R214). -/
theorem spdiNonAudio_searching (h : spdiPs n s = 1) : RxKeeps n s (spdiNonAudio n s) := by
  have hset (x : Spdi) (hr : x.goodRun = (s.spdi n).goodRun) (hl : x.lost = (s.spdi n).lost) : RxKeeps n s (s.setSpdi n x) :=
    (RxStays.setSpdi hr hl).toRxKeeps
  have hna (u : State) : RxKeeps n u (((u.setFld (F.SPDI_STAT_NA n) 1).bump (F.SPDI_CNT2_NA_CNT n) (F.SPDI_CNT2_NA_SAT n)).raise (Pg.spdi n) 0) := by
    have h1 : RxKeeps n u (u.setFld (F.SPDI_STAT_NA n) 1) :=
      ⟨State.fld_setFld_off u _ (Fld.apart_sure rfl), State.fld_setFld_off u _ (Fld.apart_sure rfl), by rw [State.spdi_congr (State.setFld_spd ..)],
        by rw [State.spdi_congr (State.setFld_spd ..)], State.xing_congr (State.setFld_srcc ..) _⟩
    exact h1.trans (.other (fun a => a ≠ Adr.SPDI_STAT n) (State.raise_only (by simp only [Pg.spdi, Adr.SPDI_STAT]; omega)
      (State.bump_only (by simp only [F.SPDI_CNT2_NA_CNT, Adr.SPDI_CNT2, Adr.SPDI_STAT]; omega)
        (by simp only [F.SPDI_CNT2_NA_SAT, Adr.SPDI_CNT2, Adr.SPDI_STAT]; omega) (.refl _))) (by simp))
  have hafter : RxKeeps n s (if (s.setSpdi n { s.spdi n with clean := 0, blocks := 0 }).on (F.SPDI_STAT_NA n) then
      s.setSpdi n { s.spdi n with clean := 0, blocks := 0 }
    else (((s.setSpdi n { s.spdi n with clean := 0, blocks := 0 }).setFld (F.SPDI_STAT_NA n) 1).bump (F.SPDI_CNT2_NA_CNT n)
      (F.SPDI_CNT2_NA_SAT n)).raise (Pg.spdi n) 0) := by
    split
    · exact hset _ (by rfl) (by rfl)
    · exact (hset _ (by rfl) (by rfl)).trans (hna _)
  unfold spdiNonAudio
  dsimp only
  rw [if_neg (by rw [hafter.ps, h]; decide)]
  exact hafter

/-- A frame's bits taken and counted, and what they tell of the content and of the block. -/
def spdiTaken (n : Nat) (f : SpdifIn) (na blk : Bool) (x : Spdi) (s : State) : State :=
  let s := s.setSpdi n x
  let s := s.bumpBy ((subParFails f.a).toNat + (subParFails f.b).toNat) (F.SPDI_CNT1_PAR_ERR n) (F.SPDI_CNT1_PE_SAT n)
  let s := s.bumpBy ((subV f.a).toNat + (subV f.b).toNat) (F.SPDI_CNT1_VALID_CNT n) (F.SPDI_CNT1_V_SAT n)
  (s.when na (spdiNonAudio n)).when blk (spdiBlock n)

/-- The parity failures and invalid words counted beside the state of the receiver. -/
theorem spdiCounted_keeps (a b : Nat) (s : State) : RxKeeps n s
    ((s.bumpBy a (F.SPDI_CNT1_PAR_ERR n) (F.SPDI_CNT1_PE_SAT n)).bumpBy b (F.SPDI_CNT1_VALID_CNT n) (F.SPDI_CNT1_V_SAT n)) :=
  .other (fun c => c = Adr.SPDI_CNT1 n) (State.bumpBy_only rfl rfl (State.bumpBy_only rfl rfl (.refl s)))
    (by simp only [Adr.SPDI_CNT1, Adr.SPDI_STAT]; omega)

theorem spdiTaken_searching {f : SpdifIn} {na blk : Bool} {x : Spdi} (hn : n < 4) (h : spdiPs n s = 1) :
    RxKeeps n (s.setSpdi n x) (spdiTaken n f na blk x s) := by
  have hcnt := spdiCounted_keeps (n := n) ((subParFails f.a).toNat + (subParFails f.b).toNat) ((subV f.a).toNat + (subV f.b).toNat) (s.setSpdi n x)
  exact hcnt.trans ((RxKeeps.when (spdiNonAudio_searching (hcnt.ps.trans h))).trans (RxKeeps.when (spdiBlock_stays hn).toRxKeeps))

/-- The same without non-audio content: NA stays, and the parity failures are counted (R211). -/
theorem spdiTaken_audio {f : SpdifIn} {blk : Bool} {x : Spdi} (hn : n < 4) :
    RxKeeps n (s.setSpdi n x) (spdiTaken n f false blk x s) ∧
    (spdiTaken n f false blk x s).fld (F.SPDI_STAT_NA n) = s.fld (F.SPDI_STAT_NA n) ∧
    (spdiTaken n f false blk x s).fld (F.SPDI_CNT1_PAR_ERR n) = min (2 ^ (F.SPDI_CNT1_PAR_ERR n).width - 1)
      (s.fld (F.SPDI_CNT1_PAR_ERR n) + ((subParFails f.a).toNat + (subParFails f.b).toNat)) := by
  have hcnt := spdiCounted_keeps (n := n) ((subParFails f.a).toNat + (subParFails f.b).toNat) ((subV f.a).toNat + (subV f.b).toNat) (s.setSpdi n x)
  have hblk (u : State) : RxStays n u (u.when blk (spdiBlock n)) := .when (spdiBlock_stays hn)
  have hna (a b : Nat) (u : State) : ((u.bumpBy a (F.SPDI_CNT1_PAR_ERR n) (F.SPDI_CNT1_PE_SAT n)).bumpBy b (F.SPDI_CNT1_VALID_CNT n)
      (F.SPDI_CNT1_V_SAT n)).fld (F.SPDI_STAT_NA n) = u.fld (F.SPDI_STAT_NA n) :=
    (State.bumpBy_only (ws := fun c => c = Adr.SPDI_CNT1 n) (E := fun _ => ()) rfl rfl (State.bumpBy_only rfl rfl (.refl u))).fld
      (by simp only [F.SPDI_STAT_NA, Adr.SPDI_CNT1, Adr.SPDI_STAT]; omega)
  refine ⟨hcnt.trans (hblk _).toRxKeeps, (hblk _).na.trans (hna _ _ _), (hblk _).err.trans ?_⟩
  rw [State.when_false, State.fld_bumpBy_other _ (of_decide_eq_true rfl) (of_decide_eq_true rfl),
    State.fld_bumpBy_counter _ (of_decide_eq_true rfl) (of_decide_eq_true rfl), State.fld_setSpdi]

theorem spdiBits_leaves (f : SpdifIn) (x : Spdi) : (spdiBits f x).goodRun = x.goodRun ∧ (spdiBits f x).lost = x.lost := by
  have hite {c : Bool} {a b : Spdi} (ha : a.goodRun = x.goodRun ∧ a.lost = x.lost) (hb : b.goodRun = x.goodRun ∧ b.lost = x.lost) :
      (if c then a else b).goodRun = x.goodRun ∧ (if c then a else b).lost = x.lost := by
    cases c
    · exact hb
    · exact ha
  have hfirst := hite (c := f.first) (a := { x with synced := true, frame := 0, csA := [], csB := [], uA := [], uB := [] }) (b := x) ⟨rfl, rfl⟩ ⟨rfl, rfl⟩
  exact hite hfirst hfirst

/-- A good frame at the rate of a receiver that searches (R209, R210). -/
theorem spdiFrame_searching {f : SpdifIn} (hn : n < 4) (hps : spdiPs n s = 1) (hpre : f.preambles = true) (hin : rateWithin (rateNearest f.period) f.period = true)
    (hrate : s.fld (F.SPDI_STAT_RATE n) = rateNearest f.period) : ∃ u : State, spdiPs n u = 1 ∧ u.fld (F.SPDI_STAT_RATE n) = rateNearest f.period ∧
      (u.spdi n).goodRun = min 16 ((s.spdi n).goodRun + 1) ∧
      spdiFrame n f s = u.when (min 16 ((s.spdi n).goodRun + 1) == 16) (spdiQualified n (rateNearest f.period)) := by
  have hlt : rateNearest f.period < 2 ^ (F.SPDI_STAT_RATE n).width := hrate ▸ State.fld_lt s (F.SPDI_STAT_RATE n)
  have hps' : spdiPs n (s.setFld (F.SPDI_STAT_RATE n) (rateNearest f.period)) = 1 := (State.fld_setFld_off s _ (Fld.apart_sure rfl)).trans hps
  have hkeeps (na blk : Bool) (x : Spdi) := spdiTaken_searching (f := f) (na := na) (blk := blk) (x := x) hn hps'
  have hmain (na blk : Bool) (x : Spdi) (hx : x.goodRun = min 16 ((s.spdi n).goodRun + 1)) :
      let u := spdiTaken n f na blk x (s.setFld (F.SPDI_STAT_RATE n) (rateNearest f.period))
      spdiPs n u = 1 ∧ u.fld (F.SPDI_STAT_RATE n) = rateNearest f.period ∧ (u.spdi n).goodRun = min 16 ((s.spdi n).goodRun + 1) :=
    ⟨(hkeeps na blk x).ps.trans hps', (hkeeps na blk x).rate.trans (State.fld_setFld_fits s (of_decide_eq_true rfl) hlt),
      (hkeeps na blk x).run.trans (by rw [State.spdi_setSpdi, hx])⟩
  have hgo : ¬(spdiPs n s = 0 ∨ spdiPs n s = 9) := by omega
  have heq : ∃ (na blk : Bool) (x : Spdi), x.goodRun = min 16 ((s.spdi n).goodRun + 1) ∧ spdiFrame n f s =
      (spdiTaken n f na blk x (s.setFld (F.SPDI_STAT_RATE n) (rateNearest f.period))).when (min 16 ((s.spdi n).goodRun + 1) == 16)
        (spdiQualified n (rateNearest f.period)) := by
    refine ⟨?_, ?_, ?_, ?_, ?_⟩
    rotate_left 4
    · unfold spdiFrame
      dsimp only
      rw [if_neg hgo]
      simp only [hps, hpre, hin, hrate, if_true, beq_self_eq_true, Bool.and_self, Bool.or_true, Bool.not_true, Bool.false_eq_true, if_false, State.when_true]
      rfl
    · exact (spdiBits_leaves ..).1
  obtain ⟨na, blk, x, hx, heq⟩ := heq
  obtain ⟨hp, hr, hg⟩ := hmain na blk x hx
  exact ⟨_, hp, hr, hg, heq⟩

/-- Showing a crossing leaves the fields outside the channels of the engines, the receivers and the crossings. -/
theorem achShow_apart (k : Nat) (s : State) : (∀ f : Fld, f.addr < 0x070100 → (achShow k s).fld f = s.fld f) ∧
    (achShow k s).spd = s.spd ∧ (achShow k s).srcc = s.srcc ∧ (achShow k s).flt = s.flt := by
  have h {β : Type} (E : State → β) : Only (fun a => 0x070100 ≤ a) E s (achShow k s) :=
    (achShow_only (.of_regs rfl) (fun a ha => by
      obtain ⟨i, rfl⟩ := achRegs_ach ha
      simp only [Adr.SRC_ACH]
      omega) (.refl s)).1
  exact ⟨fun f hf => (h fun _ => ()).fld (by omega), (h State.spd).same fun _ => rfl, (h State.srcc).same fun _ => rfl, (h State.flt).same fun _ => rfl⟩

/-- A receiver that has found its rate starts its crossing in ACQUIRE (R210, R228). -/
theorem spdiQualified_shows (hn : n < 4) (code : Nat) (s : State) : spdiPs n (spdiQualified n code s) = 2 ∧
    ((spdiQualified n code s).xing (32 + n)).kind = 5 ∧ ((spdiQualified n code s).xing (32 + n)).lstate = 1 := by
  have hx (x : Spdi) (c : Xing) : (spdiSetPs n 2 ((s.setXing (32 + n) c).setSpdi n x)).xing (32 + n) = c := by
    rw [spdiSetPs, State.xing_congr (State.setFld_srcc ..), State.xing_setSpdi, State.xing_setXing]
  unfold spdiQualified
  refine ⟨?_, ?_, ?_⟩
  · rw [spdiPs, (achShow_apart _ _).1 _ (by simp only [F.SPDI_STAT_PSTATE, Adr.SPDI_STAT]; omega), spdiSetPs,
      State.fld_setFld_fits _ (of_decide_eq_true rfl) (of_decide_eq_true rfl)]
  · rw [State.xing_congr (achShow_apart _ _).2.2.1, hx]
    rfl
  · rw [State.xing_congr (achShow_apart _ _).2.2.1, hx]
    rfl

/-- A receiver that searches again (R210). -/
theorem spdiSearch_shows (hn : n < 4) (s : State) : spdiPs n (spdiSearch n s) = 1 ∧ (spdiSearch n s).fld (F.SPDI_STAT_RATE n) = 15 ∧
    (spdiSearch n s).xing (32 + n) = {} ∧ ((spdiSearch n s).spdi n).goodRun = 0 ∧
    ∀ f : Fld, f.addr < 0x070100 → f.addr ≠ Adr.SPDI_STAT n → (spdiSearch n s).fld f = s.fld f := by
  have hstat : Adr.SPDI_STAT n < 0x070100 := by simp only [Adr.SPDI_STAT]; omega
  unfold spdiSearch
  refine ⟨?_, ?_, ?_, ?_, fun f hf hne => ?_⟩
  · rw [spdiPs, (achShow_apart _ _).1 _ hstat, State.fld_setXing, State.fld_setFld_off _ _ (Fld.apart_sure rfl), spdiSetPs,
      State.fld_setFld_fits _ (of_decide_eq_true rfl) (of_decide_eq_true rfl)]
  · rw [(achShow_apart _ _).1 _ hstat, State.fld_setXing, State.fld_setFld_fits _ (of_decide_eq_true rfl) (of_decide_eq_true rfl)]
  · rw [State.xing_congr (achShow_apart _ _).2.2.1, State.xing_setXing]
  · rw [State.spdi_congr (achShow_apart _ _).2.1, State.spdi_setXing, State.spdi_congr (State.setFld_spd ..), spdiSetPs,
      State.spdi_congr (State.setFld_spd ..), State.spdi_setSpdi]
  · rw [(achShow_apart _ _).1 _ hf, State.fld_setXing, State.fld_setFld_off _ _ (.inr (.inr hne)), spdiSetPs,
      State.fld_setFld_off _ _ (.inr (.inr hne)), State.fld_setSpdi]

/-- A frame of a receiver in RUN without non-audio content (R209-R213). -/
theorem spdiFrame_running {f : SpdifIn} (hps : spdiPs n s = 4) (hpair : subAudio f.a / 256 ≠ 0xF872 ∨ subAudio f.b / 256 ≠ 0x4E1F)
    (ha : subC f.a = false) (hb : subC f.b = false) : ∃ (blk : Bool) (x : Spdi), x.lost = (s.spdi n).lost ∧
      spdiFrame n f s = (let w := spdiWords n (subframe f.a (s.spdi n).prevA) (subframe f.b (s.spdi n).prevB) (spdiTaken n f false blk x s)
        spdiAdvance n (spdiHand n w.1 w.2)) := by
  have hgo : ¬(spdiPs n s = 0 ∨ spdiPs n s = 9) := by omega
  have hno : (subAudio f.a / 256 == 0xF872 && subAudio f.b / 256 == 0x4E1F) = false := by
    obtain h | h := hpair <;> simp [h]
  refine ⟨?_, ?_, ?_, ?_⟩
  rotate_left 3
  · unfold spdiFrame
    dsimp only
    rw [if_neg hgo]
    simp only [hps, hno, ha, hb, Nat.reduceEqDiff, Nat.reduceBEq, if_false, Bool.false_and, Bool.or_false, Bool.and_false, State.when_false]
    rfl
  · exact (spdiBits_leaves ..).2

/-- A frame that a receiver without a loss passes to a crossing with room (R210). -/
theorem spdiHand_room {xs : List Word} (hl : (s.spdi n).lost = false) (hroom : (s.xing (32 + n)).buf.length + (s.xing (32 + n)).inbox.length < 128) :
    ((spdiHand n xs s).xing (32 + n)).inbox = (s.xing (32 + n)).inbox ++ [xs] ∧ (spdiHand n xs s).regs = s.regs := by
  unfold spdiHand xingGive
  simp only [if_neg (Nat.not_le.mpr hroom), hl, Bool.false_eq_true, if_false, if_true, State.xing_setSpdi, State.xing_setXing, true_and]
  rfl

/-- A receiver in RUN stays as it is, NA apart (R216). -/
theorem spdiAdvance_running (hps : spdiPs n s = 4) : spdiAdvance n s = s.when (spdiMayStart n s) (State.setFld (F.SPDI_STAT_NA n) 0) := by
  simp [spdiAdvance, hps]

/-- A loss counted, raised and reported. -/
def spdiLossTold (n : Nat) (s : State) : State :=
  ((s.bump (F.SPDI_CNT2_LOSS_CNT n) (F.SPDI_CNT2_LS_SAT n)).raise (Pg.spdi n) 1).report 0x2582 n 0

theorem spdiLossTold_shows (n : Nat) (s : State) : spdiPs n (spdiLossTold n s) = spdiPs n s ∧
    Counted s (spdiLossTold n s) (F.SPDI_CNT2_LOSS_CNT n) ∧ (spdiLossTold n s).fld (F.pgInt (Pg.spdi n) 1) = 1 ∧
    Reported s (spdiLossTold n s) 0x2582 n 0 := by
  refine ⟨?_, ?_, ?_, State.report_reported (by simp)⟩
  · rw [spdiPs, spdiLossTold, State.report_fld, State.fld_raise_other _ (by simp only [F.SPDI_STAT_PSTATE, Adr.SPDI_STAT, Pg.spdi]; omega)]
    exact (State.bump_only (ws := fun a => a = Adr.SPDI_CNT2 n) (E := fun _ => ()) rfl rfl (.refl s)).fld
      (by simp only [F.SPDI_STAT_PSTATE, Adr.SPDI_CNT2, Adr.SPDI_STAT]; omega)
  · rw [Counted, spdiLossTold, State.report_fld, State.counted_raise (of_decide_eq_true rfl)
      (by simp only [F.SPDI_CNT2_LOSS_CNT, Adr.SPDI_CNT2, Pg.spdi]; omega)]
  · rw [spdiLossTold, State.report_fld, State.fld_raise_self _ (by decide)]

end

end Sys2Proof.Machine

namespace Sys2Proof
open Machine
/-- Settles O25: a microphone starts, is declared stuck and restarts as its bits say; a frame of a receiver is taken, told of and handed
on beside the fields that say where the receiver stands; a loss is told of before the receiver fades or searches. -/
theorem pdmAndSpdifCommandsComplete : Obligations.PdmAndSpdifCommandsComplete := by
  intro s
  refine ⟨?_, ?_, ?_, ?_, ?_, ?_, ?_, ?_, ?_, ?_⟩
  · intro k hr h1 hd
    rw [exec, execPdmWakeEnd, completes_ticking hr, if_pos ⟨h1, hd⟩]
    exact ⟨State.mic_setMic .., by rw [micRampIn, audStart, State.aud_setAud]; rfl, rfl⟩
  · intro k hr hm h0 h5 hrun
    have hgo : ¬((!micOn k s) = true ∨ (s.mic k).ph = 0 ∨ (s.mic k).ph = 5 ∨ (s.mic k).run < 4096) := by simp [hm, h0, h5, hrun]
    rw [exec, execPdmStuck, completes_ticking hr, micStuck, if_neg hgo]
    refine ⟨?_, ?_, ?_, ?_, State.report_reported (by simp; rfl)⟩
    · rw [State.mic_congr (State.report_spd ..), State.mic_congr (State.raise_spd ..), State.mic_congr (State.bump_spd ..),
        State.mic_congr (State.setBit_spd ..), State.mic_setMic]
    · rw [State.bit_congr (State.report_fld ..), State.bit_congr (State.fld_raise_off _ (by decide)),
        State.bit_congr (State.fld_bump_off _ (by decide) (by decide)), State.bit_setBit (by decide) (by exact k.isLt)]
    · rw [Counted, State.report_fld, State.counted_raise (by decide) (by decide), State.setBit, State.fld_setFld_off _ _ (by decide)]
      rfl
    · rw [State.report_fld, State.fld_raise_self _ (by decide)]
  · intro k hp hs hm hw
    obtain ⟨hregs, hspd, htick⟩ := pdmClkStart_leaves (micClk k s) s
    have hfld (g : Fld) (hg : F.PDM_STAT_STUCK.Apart g) : ((pdmClkStart (micClk k s) s).setBit F.PDM_STAT_STUCK k false).fld g = s.fld g := by
      rw [State.setBit, State.fld_setFld_off _ _ hg, ← fldOf_regs, hregs, fldOf_regs]
    have hwake := hfld F.PDM_CFG_WAKE (by decide)
    have hclk : micClk k ((pdmClkStart (micClk k s) s).setBit F.PDM_STAT_STUCK k false) = micClk k s :=
      State.bit_congr (hfld F.PDM_CFG_CLKSEL (by decide)) _
    rw [exec, execPdmRestart, completes_heard hp, micRestart, if_neg (by simp [hs]), if_pos hm, micStart]
    simp only [hwake, if_neg hw, hclk]
    refine ⟨?_, ?_⟩
    · rw [State.mic_setMic]
      simp [State.setBit, htick]
    · rw [State.bit_congr (State.fld_setMic ..), State.bit_setBit (by decide) (by exact k.isLt)]
  · intro k hp hs hm
    rw [exec, execPdmRestart, completes_heard hp, micRestart, if_neg (by simp [hs]), if_neg (by simp [hm])]
    exact ⟨by rw [State.bit_setBit (by decide) (by exact k.isLt)], State.mic_congr (State.setBit_spd ..) k⟩
  · intro n f hr hps hpre hin hrate hrun
    obtain ⟨u, hp, hru, hg, heq⟩ := spdiFrame_searching n.isLt hps hpre hin hrate
    rw [exec, execSpdifFrame, completes_ticking hr, heq, State.when_of_not (by simp; omega)]
    exact ⟨hp, by omega, hru⟩
  · intro n f hr hps hpre hin hrate hrun
    obtain ⟨u, -, -, -, heq⟩ := spdiFrame_searching n.isLt hps hpre hin hrate
    rw [exec, execSpdifFrame, completes_ticking hr, heq, State.when_of (by simp; omega)]
    exact spdiQualified_shows n.isLt _ u
  · intro n f hr hps hna hpair ha hb hl hroom
    obtain ⟨blk, x, hx, heq⟩ := spdiFrame_running hps hpair ha hb
    obtain ⟨hkeeps, hnau, herr⟩ := spdiTaken_audio (s := s) (f := f) (blk := blk) (x := x) n.isLt
    rw [exec, execSpdifFrame, completes_ticking hr, heq]
    have hps' := hkeeps.ps.trans hps
    have hxing : (spdiTaken n f false blk x s).xing (32 + n) = s.xing (32 + n) := hkeeps.xing
    have hlost := hkeeps.lost
    rw [State.spdi_setSpdi, hx, hl] at hlost
    generalize spdiTaken n f false blk x s = u at hps' hnau herr hxing hlost
    have hwords (a b : Word) : spdiWords n a b u = ([a, b], u) := by
      simp [spdiWords, State.on, hnau, hps', (State.not_on_iff s).mp hna]
    simp only [hwords]
    obtain ⟨hinbox, hregs⟩ := spdiHand_room (xs := [subframe f.a (s.spdi n).prevA, subframe f.b (s.spdi n).prevB]) hlost
      (by rw [hxing]; exact hroom)
    have hps2 : spdiPs n (spdiHand n [subframe f.a (s.spdi n).prevA, subframe f.b (s.spdi n).prevB] u) = 4 := by
      rw [spdiPs, ← fldOf_regs, hregs, fldOf_regs]; exact hps'
    rw [hxing] at hinbox
    rw [spdiAdvance_running hps2]
    refine ⟨?_, ?_⟩
    · rw [State.when_keeps (fun v => (v.xing (32 + n.val)).inbox) (by rw [State.xing_congr (State.setFld_srcc ..)]), hinbox]
    · rw [State.when_keeps (·.fld (F.SPDI_CNT1_PAR_ERR n))
        (State.fld_setFld_off _ _ (.inr (.inr (by simp only [F.SPDI_STAT_NA, F.SPDI_CNT1_PAR_ERR, Adr.SPDI_CNT1, Adr.SPDI_STAT]; omega)))),
        ← fldOf_regs, hregs, fldOf_regs, herr]
  · intro n hr hps hl
    obtain ⟨hps', hcnt, hint, hrep⟩ := spdiLossTold_shows n s
    have hgo : ¬(spdiPs n s < 2 ∨ spdiPs n s = 9 ∨ (s.spdi n).lost = true ∨ (false = true ∧ (s.spdi n).offRun < 16)) := by
      simp [hl]; omega
    rw [exec, execSpdifClockLoss, completes_ticking hr, spdiLoss, if_neg hgo]
    dsimp only
    rw [if_neg (by omega), ← spdiLossTold]
    generalize spdiLossTold n s = u at hps' hcnt hint hrep
    rw [spdiEvent, if_pos (by rw [hps']; exact hps)]
    have hcntd : (F.SPDI_STAT_PSTATE n).Apart (F.SPDI_CNT2_LOSS_CNT n) :=
      .inr (.inr (by simp only [F.SPDI_CNT2_LOSS_CNT, F.SPDI_STAT_PSTATE, Adr.SPDI_CNT2, Adr.SPDI_STAT]; omega))
    have hintd : (F.SPDI_STAT_PSTATE n).Apart (F.pgInt (Pg.spdi n) 1) :=
      .inr (.inr (by simp only [F.SPDI_STAT_PSTATE, F.pgInt, Pg.spdi, Adr.SPDI_STAT]; omega))
    refine ⟨State.fld_setFld_fits _ (of_decide_eq_true rfl) (of_decide_eq_true rfl), ?_, ?_, ?_, ?_⟩
    · rw [spdiSetPs, State.spdi_congr (State.setFld_spd ..), State.spdi_setSpdi, Bool.or_true]
    · rw [Counted, spdiSetPs, State.fld_setFld_off _ _ hcntd, State.fld_setSpdi, hcnt]
    · rw [spdiSetPs, State.fld_setFld_off _ _ hintd, State.fld_setSpdi, hint]
    · rw [Reported, spdiSetPs, State.setFld_flt]
      exact hrep
  · intro n hr hps hl
    obtain ⟨hps', hcnt, hint, hrep⟩ := spdiLossTold_shows n s
    have hgo : ¬(spdiPs n s < 2 ∨ spdiPs n s = 9 ∨ (s.spdi n).lost = true ∨ (false = true ∧ (s.spdi n).offRun < 16)) := by
      simp [hl]; omega
    rw [exec, execSpdifClockLoss, completes_ticking hr, spdiLoss, if_neg hgo]
    dsimp only
    rw [if_pos (by omega), ← spdiLossTold]
    obtain ⟨h1, h2, -, -, h5⟩ := spdiSearch_shows n.isLt (spdiLossTold n s)
    refine ⟨h1, h2, ?_⟩
    rw [Counted, h5 _ (by simp only [F.SPDI_CNT2_LOSS_CNT, Adr.SPDI_CNT2]; omega)
      (by simp only [F.SPDI_CNT2_LOSS_CNT, Adr.SPDI_CNT2, Adr.SPDI_STAT]; omega)]
    exact hcnt
  · intro n hp hlo hhi
    rw [exec, execSpdifRestart, completes_heard hp, spdiRestart, if_pos ⟨hlo, hhi⟩]
    obtain ⟨h1, h2, h3, h4, -⟩ := spdiSearch_shows n.isLt s
    exact ⟨h1, h2, h3, h4⟩
end Sys2Proof

/-!
Rate conversion and the spine (R227, R228, R236, R249): a group's state after an update of its ratio, an engine after a residue mismatch.
-/

namespace Sys2Proof.Machine

section

variable {s : State} {k : Nat}

/-- A group's crossing replaced, shown and, under probe, told of; a lost lock is counted and raised (R228, R238). -/
def ratioShown (k : Nat) (x : Xing) (lost c : Bool) (w : Word) (s : State) : State :=
  (achShow k ((s.setXing k x).when lost (fun s => (s.bump F.SRC_CNT2_UNLOCK_CNT F.SRC_CNT2_UL_SAT).raise Pg.src 0))).when c (State.post Adr.SRC_RATIO w)

theorem ratioShown_xing (x : Xing) (lost c : Bool) (w : Word) : (ratioShown k x lost c w s).xing k = x := by
  have hpost (u : State) : (u.when c (State.post Adr.SRC_RATIO w)).srcc = u.srcc := State.when_keeps (·.srcc) (State.post_srcc ..)
  have hlost : ((s.setXing k x).when lost (fun s => (s.bump F.SRC_CNT2_UNLOCK_CNT F.SRC_CNT2_UL_SAT).raise Pg.src 0)).srcc = (s.setXing k x).srcc :=
    State.when_keeps (·.srcc) (by simp)
  rw [ratioShown, State.xing_congr (hpost _), State.xing_congr (achShow_apart _ _).2.2.1, State.xing_congr hlost, State.xing_setXing]

theorem ratioShown_lost (x : Xing) (c : Bool) (w : Word) : Counted s (ratioShown k x true c w s) F.SRC_CNT2_UNLOCK_CNT ∧
    (ratioShown k x true c w s).fld (F.pgInt Pg.src 0) = 1 := by
  have hfld (f : Fld) (hf : f.addr < 0x070100) (hp : f.addr ≠ Adr.SRC_RATIO) : (ratioShown k x true c w s).fld f =
      (((s.setXing k x).bump F.SRC_CNT2_UNLOCK_CNT F.SRC_CNT2_UL_SAT).raise Pg.src 0).fld f := by
    rw [ratioShown, State.when_keeps (·.fld f) (State.fld_post_other _ _ hp), (achShow_apart _ _).1 f hf, State.when_true]
  refine ⟨?_, ?_⟩
  · rw [Counted, hfld _ (by decide) (by decide), State.counted_raise (by decide) (by decide), State.fld_setXing]
  · rw [hfld _ (by decide) (by decide), State.fld_raise_self _ (by decide)]

/-- An update near the target of a group in ACQUIRE (R228). -/
theorem ratioUpdate_acquiring {ratio : Nat} {err : Int} (hk : (s.xing k).kind = 5) (hl : (s.xing k).lstate = 1) (ht : s.tick % 64 = 0)
    (he : err.natAbs ≤ 16) : (ratioUpdate k ratio err s).xing k = { s.xing k with
      num := ratioEstimate k ratio s, den := 2 ^ 22, err := err, lstate := if 15 ≤ (s.xing k).goodRun then 2 else 1,
      goodRun := if 15 ≤ (s.xing k).goodRun then 0 else (s.xing k).goodRun + 1, offRun := 0 } := by
  have hgo : ¬((s.xing k).kind ≠ 5 ∨ ((s.xing k).lstate ≠ 1 ∧ (s.xing k).lstate ≠ 2) ∨ s.tick % 64 ≠ 0) := by omega
  have hnear : decide (err.natAbs ≤ 16) = true := decide_eq_true he
  have hfar : decide (128 < err.natAbs) = false := decide_eq_false (by omega)
  unfold ratioUpdate
  rw [if_neg hgo]
  by_cases h15 : 15 ≤ (s.xing k).goodRun
  · simp only [hnear, hfar, hl, if_true, if_false, Bool.false_eq_true, show min 16 ((s.xing k).goodRun + 1) = 16 by omega, h15]
    exact ratioShown_xing ..
  · simp only [hnear, hfar, hl, if_true, if_false, Bool.false_eq_true, show min 16 ((s.xing k).goodRun + 1) = (s.xing k).goodRun + 1 by omega, h15,
      show ¬(s.xing k).goodRun + 1 = 16 by omega, ne_eq, not_true_eq_false]
    exact ratioShown_xing ..

/-- The second update in a row far off the target of a group in LOCKED (R228). -/
theorem ratioUpdate_losing {ratio : Nat} {err : Int} (hk : (s.xing k).kind = 5) (hl : (s.xing k).lstate = 2) (ht : s.tick % 64 = 0)
    (he : 128 < err.natAbs) (ho : 1 ≤ (s.xing k).offRun) : ∃ c w, ratioUpdate k ratio err s = ratioShown k { s.xing k with
      num := ratioEstimate k ratio s, den := 2 ^ 22, err := err, lstate := 1, goodRun := 0, offRun := 0 } true c w s := by
  have hgo : ¬((s.xing k).kind ≠ 5 ∨ ((s.xing k).lstate ≠ 1 ∧ (s.xing k).lstate ≠ 2) ∨ s.tick % 64 ≠ 0) := by omega
  have hnear : decide (err.natAbs ≤ 16) = false := decide_eq_false (by omega)
  have hfar : decide (128 < err.natAbs) = true := decide_eq_true he
  unfold ratioUpdate
  rw [if_neg hgo]
  simp only [hnear, hfar, hl, if_true, if_false, Bool.false_eq_true, ge_iff_le, show 2 ≤ (s.xing k).offRun + 1 by omega, decide_true, Bool.and_self,
    ne_eq, Nat.reduceEqDiff, not_false_eq_true]
  exact ⟨_, _, rfl⟩

/-- The engine of R236 that `int` names, and the state with it replaced. -/
def srcEng (int : Bool) (s : State) : Engine := if int then s.srcc.engI else s.srcc.engA

/-- A mismatch told beside its engine, which becomes `e`: the value withheld, the count and the report (R236). -/
def srcTold (int : Bool) (e : Engine) (id inst act : Nat) (s : State) : State :=
  let s := { s with srcc := if int then { s.srcc with engI := e } else { s.srcc with engA := e } }
  ((s.when (decide (id < 0x1000)) (State.produce id (addTag (s.src id) tSUB))).bump F.SRC_CNT1_RES_CNT F.SRC_CNT1_RES_SAT).report 0x55C1 inst act

theorem srcTold_shows (int : Bool) (e : Engine) (id inst act : Nat) (s : State) : srcEng int (srcTold int e id inst act s) = e ∧
    srcEng (!int) (srcTold int e id inst act s) = srcEng (!int) s ∧ (id < 0x1000 → (srcTold int e id inst act s).srcNext id = addTag (s.src id) tSUB) ∧
    Counted s (srcTold int e id inst act s) F.SRC_CNT1_RES_CNT ∧ Reported s (srcTold int e id inst act s) 0x55C1 inst act := by
  have hwhen (c : Bool) (w : Word) (u : State) : (u.when c (State.produce id w)).srcc = u.srcc ∧ (u.when c (State.produce id w)).regs = u.regs ∧
      (u.when c (State.produce id w)).flt = u.flt := ⟨State.when_keeps (·.srcc) rfl, State.when_keeps (·.regs) rfl, State.when_keeps (·.flt) rfl⟩
  have heng (i : Bool) (u : State) : srcEng i ((u.bump F.SRC_CNT1_RES_CNT F.SRC_CNT1_RES_SAT).report 0x55C1 inst act) = srcEng i u := by simp [srcEng]
  unfold srcTold
  refine ⟨?_, ?_, fun h => ?_, ?_, State.report_reported (by rw [State.bump_flt, (hwhen _ _ _).2.2])⟩
  · rw [heng, srcEng, (hwhen _ _ _).1]
    cases int <;> rfl
  · rw [heng, srcEng, (hwhen _ _ _).1]
    cases int <;> rfl
  · simp [State.srcNext, decide_eq_true h, State.when_true, State.produce, State.src]
  · rw [Counted, State.report_fld, State.fld_bump_counter _ (by decide) (by decide) (by decide), ← fldOf_regs, (hwhen _ _ _).2.1, fldOf_regs]
    rfl

/-- A mismatch of a unit with the guard spare: the guard takes over (R145). -/
theorem engineFail_first {g : Engine} (u n : Nat) (hb : g.bad = []) (hf : g.faulted = false) :
    engineFail u n g = ({ g with bad := [u] }, .takeover) := by
  simp [engineFail, hb, hf]

/-- A mismatch of a second unit: the engine goes FAULTED (R145). -/
theorem engineFail_second {g : Engine} {m u : Nat} (n : Nat) (hne : m ≠ u) (hb : g.bad = [m]) (hf : g.faulted = false) :
    engineFail u n g = ({ g with bad := [m, u], faulted := true, w := rampGo false n g.w }, .fault) := by
  simp [engineFail, hb, hf, hne.symm]

theorem srcResidue_first {int : Bool} {mac chan id : Nat} (hb : (srcEng int s).bad = []) (hf : (srcEng int s).faulted = false) :
    srcResidue int mac chan id s = srcTold int { srcEng int s with bad := [mac], held := id :: (srcEng int s).held } id
      (chan + if int then 0x8000 else 0) 1 s := by
  unfold srcResidue
  rw [← srcEng]
  dsimp only
  rw [engineFail_first _ _ hb hf]
  rfl

theorem srcResidue_second {int : Bool} {mac m chan id : Nat} (hne : m ≠ mac) (hb : (srcEng int s).bad = [m]) (hf : (srcEng int s).faulted = false) :
    srcResidue int mac chan id s = srcTold int { srcEng int s with
      bad := [m, mac], faulted := true, w := rampGo false 16 (srcEng int s).w, held := id :: (srcEng int s).held } id
      (chan + if int then 0x8000 else 0) 4 s := by
  unfold srcResidue
  rw [← srcEng]
  dsimp only
  rw [engineFail_second _ hne hb hf]
  rfl

/-- An engine that is FAULTED shows in the page's state (R236). -/
theorem srcPageState_faulted {int : Bool} (h : (srcEng int s).faulted = true) : srcPageState s = 4 := by
  cases int
  · simp [srcPageState, show s.srcc.engA.faulted = true from h]
  · simp [srcPageState, show s.srcc.engI.faulted = true from h]

end

end Sys2Proof.Machine

namespace Sys2Proof
open Machine
/-- Settles O26: a group's crossing after an update near and far off its target, an engine after its first and its second mismatch, a lane's
test started. -/
theorem conversionCommandsComplete : Obligations.ConversionCommandsComplete := by
  intro s
  refine ⟨?_, ?_, ?_, ?_, ?_⟩
  · intro k ratio err hr hk hl ht he
    rw [exec, execRatioUpdate, completes_ticking hr, ratioUpdate_acquiring hk hl ht he]
    exact ⟨rfl, rfl, rfl, rfl, rfl⟩
  · intro k ratio err hr hk hl ht he ho
    obtain ⟨c, w, heq⟩ := ratioUpdate_losing (ratio := ratio) hk hl ht he ho
    obtain ⟨hcnt, hint⟩ := ratioShown_lost (s := s) (k := k) { s.xing k with
      num := ratioEstimate k ratio s, den := 2 ^ 22, err := err, lstate := 1, goodRun := 0, offRun := 0 } c w
    rw [exec, execRatioUpdate, completes_ticking hr, heq, ratioShown_xing]
    exact ⟨rfl, rfl, rfl, hcnt, hint⟩
  · intro int mac chan id hr hb hf
    obtain ⟨he, ho, hn, hc, hrep⟩ := srcTold_shows int { srcEng int s with bad := [mac.val], held := id.val :: (srcEng int s).held } id
      (chan + if int then 0x8000 else 0) 1 s
    rw [exec, execSrcResidue, completes_ticking hr, srcResidue_first hb hf]
    refine ⟨congrArg Engine.bad he, (congrArg Engine.faulted he).trans hf, ?_, hn, hc, hrep⟩
    cases int
    · exact ho
    · exact ho
  · intro int mac m chan id hr hne hb hf
    obtain ⟨he, -, -, -, hrep⟩ := srcTold_shows int { srcEng int s with
      bad := [m.val, mac.val], faulted := true, w := rampGo false 16 (srcEng int s).w, held := id.val :: (srcEng int s).held } id
      (chan + if int then 0x8000 else 0) 4 s
    rw [exec, execSrcResidue, completes_ticking hr, srcResidue_second (fun h => hne (Fin.ext h)) hb hf]
    exact ⟨congrArg Engine.faulted he, srcPageState_faulted (int := int) (congrArg Engine.faulted he), hrep⟩
  · intro hp hs
    rw [exec, execSpnRestore, completes_heard hp, spnRestore, if_pos hs]
    exact ⟨State.testOf_startTest .., rfl⟩
end Sys2Proof

/-!
The mixer (R253-R259): what a write to a crosspoint, a glide's start and end, a mute and a residue mismatch leave behind.
-/

namespace Sys2Proof.Machine

section

variable {s : State}

@[simp] theorem glideCount_mix (s : State) : (glideCount s).mix = s.mix := rfl

theorem glideCount_fld {f : Fld} (h : f.addr ≠ Adr.MIX_GLSTAT) : (glideCount s).fld f = s.fld f := State.fld_setFld_off _ _ (.inr (.inr h))

theorem State.fld_mix (m : MixSt) (f : Fld) : ({ s with mix := m } : State).fld f = s.fld f := rfl

/-- A glide's end leaves its slot idle (R256). -/
theorem glideEnd_shows (n : Nat) (hn : n < 256) : (glideEnd n s).glideOf n = none ∧ glideBusy n (glideEnd n s) = false ∧
    (glideEnd n s).fld (F.MIX_GL_CTRL_ACTIVE n) = 0 := by
  have hof : (glideEnd n s).glideOf n = none := by
    unfold glideEnd
    cases h : s.glideOf n with
    | none => exact h
    | some g => exact SMap.get_set_same (fun _ => none) s.mix.glide n none
  have harmed : SMap.get (fun _ => false) (glideEnd n s).mix.armed n = false := SMap.get_set_same (fun _ => false) _ n false
  have hadr : (F.MIX_GL_CTRL_ACTIVE n).addr ≠ Adr.MIX_GLSTAT := by simp only [F.MIX_GL_CTRL_ACTIVE, Adr.MIX_GL_CTRL, Adr.MIX_GLSTAT]; omega
  refine ⟨hof, by rw [glideBusy, hof, harmed]; rfl, ?_⟩
  unfold glideEnd
  dsimp only
  rw [glideCount_fld hadr, State.fld_setFld_off _ _ (Fld.apart_sure rfl), State.fld_setFld_off _ _ (Fld.apart_sure rfl),
    State.fld_setFld_zero _ (Fld.flag_sure rfl).2]

/-- An abort counts beside the glide's end (R256). -/
theorem glideAbort_shows (n : Nat) (hn : n < 256) : (glideAbort n s).glideOf n = none ∧ glideBusy n (glideAbort n s) = false ∧
    (glideAbort n s).fld (F.MIX_GL_CTRL_ACTIVE n) = 0 := by
  obtain ⟨hof, hbusy, hact⟩ := glideEnd_shows (s := s) n hn
  have hadr : (F.MIX_GL_CTRL_ACTIVE n).addr ≠ Adr.MIX_GLSTAT := by simp only [F.MIX_GL_CTRL_ACTIVE, Adr.MIX_GL_CTRL, Adr.MIX_GLSTAT]; omega
  unfold glideAbort
  rw [State.fld_bump_off _ (.inr (.inr hadr)) (.inr (.inr hadr)), glideBusy, State.glideOf, State.bump_mix]
  exact ⟨hof, hbusy, hact⟩

/-- A write puts its data into its crosspoint, and where no glide moves it no other changes (R253). -/
theorem xpWrite_shows (i : Nat) (w : Word) : SMap.get (fun _ => 0) (xpWrite i w s).mix.xp i = w ∧
    SMap.get (fun _ => false) (xpWrite i w s).mix.bad i = false ∧
    (glideOn i s = none → ∀ j, j ≠ i → SMap.get (fun _ => 0) (xpWrite i w s).mix.xp j = SMap.get (fun _ => 0) s.mix.xp j) := by
  refine ⟨SMap.get_set_same (fun _ => 0) _ i w, SMap.get_set_same (fun _ => false) _ i false, fun h j hj => ?_⟩
  unfold xpWrite
  rw [h]
  exact SMap.get_set_other (fun _ => 0) s.mix.xp w hj

/-- The glide that GO starts from the registers of slot `n` (R255). -/
def glideAsked (n t0 : Nat) (s : State) : Glide :=
  let i := xpIdx (s.fld (F.MIX_GL_XP_LANE n)) (s.fld (F.MIX_GL_XP_BUS n))
  ⟨i, (SMap.get (fun _ => (0 : Word)) s.mix.xp i).toInt, s.int (F.MIX_GL_TGT_TARGET n), s.fld (F.MIX_GL_TIME_TIME n), t0⟩

/-- A glide starts on a crosspoint that no other moves (R255). -/
theorem glideStart_shows (n t0 : Nat) (hn : n < 256) (h : glideOn (xpIdx (s.fld (F.MIX_GL_XP_LANE n)) (s.fld (F.MIX_GL_XP_BUS n))) s = none) :
    (glideStart n t0 s).fld (F.MIX_GL_CTRL_ACTIVE n) = 1 ∧ (glideStart n t0 s).glideOf n = some (glideAsked n t0 s) := by
  have hadr : (F.MIX_GL_CTRL_ACTIVE n).addr ≠ Adr.MIX_GLSTAT := by simp only [F.MIX_GL_CTRL_ACTIVE, Adr.MIX_GL_CTRL, Adr.MIX_GLSTAT]; omega
  unfold glideStart
  dsimp only
  rw [h, xpNow, h]
  refine ⟨?_, SMap.get_set_same (fun _ => none) s.mix.glide n (some (glideAsked n t0 s))⟩
  rw [glideCount_fld hadr, State.fld_setFld_off _ _ (Fld.apart_sure rfl), State.fld_setFld_off _ _ (Fld.apart_sure rfl),
    State.fld_setFld_one _ (Fld.flag_sure rfl)]

/-- A write of GO in a slot that is idle starts its glide from the next tick (R255). -/
theorem glideGo_shows (n : Nat) (hn : n < 256) (hl : s.fld (F.MIX_GL_XP_LANE n) ≤ 383) (hb : s.fld (F.MIX_GL_XP_BUS n) ≤ 191)
    (hst : s.fld (F.MIX_GL_TIME_STAGED n) = 0) (hi : glideBusy n s = false)
    (h : glideOn (xpIdx (s.fld (F.MIX_GL_XP_LANE n)) (s.fld (F.MIX_GL_XP_BUS n))) s = none) :
    (glideGo n s).fld (F.MIX_GL_CTRL_ACTIVE n) = 1 ∧ (glideGo n s).glideOf n = some (glideAsked n s.tick s) := by
  have hoff (f : Fld) (hf : f.addr = Adr.MIX_GL_XP n ∨ f.addr = Adr.MIX_GL_TGT n ∨ f.addr = Adr.MIX_GL_TIME n) :
      (s.setFld (F.MIX_GL_CTRL_ERR n) 0).fld f = s.fld f := by
    refine State.fld_setFld_off _ _ (.inr (.inr ?_))
    simp only [F.MIX_GL_CTRL_ERR, Adr.MIX_GL_CTRL, Adr.MIX_GL_XP, Adr.MIX_GL_TGT, Adr.MIX_GL_TIME] at hf ⊢
    omega
  have hlane := hoff (F.MIX_GL_XP_LANE n) (.inl rfl)
  have hbus := hoff (F.MIX_GL_XP_BUS n) (.inl rfl)
  have hasked : glideAsked n s.tick (s.setFld (F.MIX_GL_CTRL_ERR n) 0) = glideAsked n s.tick s := by
    rw [glideAsked, glideAsked, hlane, hbus, hoff (F.MIX_GL_TIME_TIME n) (.inr (.inr rfl)), State.int, hoff (F.MIX_GL_TGT_TARGET n) (.inr (.inl rfl))]
    rfl
  have hrun : glideGo n s = glideStart n s.tick (s.setFld (F.MIX_GL_CTRL_ERR n) 0) := by
    have hgo : ¬(383 < s.fld (F.MIX_GL_XP_LANE n) ∨ 191 < s.fld (F.MIX_GL_XP_BUS n)) := by omega
    unfold glideGo
    dsimp only
    rw [if_neg hgo, State.when_of_not hi]
    have hon : (s.setFld (F.MIX_GL_CTRL_ERR n) 0).on (F.MIX_GL_TIME_STAGED n) = false := by
      rw [State.on, hoff (F.MIX_GL_TIME_STAGED n) (.inr (.inr rfl)), hst]
      rfl
    rw [if_neg (by rw [hon]; decide), State.setFld_tick]
  rw [hrun, ← hasked]
  exact glideStart_shows n s.tick hn (by rw [hlane, hbus]; exact h)

/-- A glide that has applied its final step leaves its slot idle and tells the host (R255). -/
theorem glideDone_over (n : Nat) (hn : n < 256) {g : Glide} (h : s.glideOf n = some g) (ht : g.t0 + max 1 g.time < s.tick) :
    (glideDone n s).glideOf n = none ∧ (glideDone n s).fld (F.pgInt Pg.mix 3) = 1 := by
  rw [glideDone, h]
  dsimp only
  rw [if_pos ht]
  refine ⟨?_, State.fld_raise_self _ (by decide)⟩
  rw [State.glideOf, State.raise_mix]
  exact (glideEnd_shows n hn).1

theorem State.bus_setBus (b : Nat) (x : BusSt) (s : State) : (s.setBus b x).bus b = x := SMap.get_set_same ..

theorem rampGo_up (up : Bool) (len : Nat) (r : Ramp) : (rampGo up len r).up = up := by
  unfold rampGo
  split
  · assumption
  · split <;> rfl

/-- A mismatch withheld and told, the engine's state becoming `e` (R258). -/
def mixTold (e : Engine) (j a : Nat) (s : State) : State :=
  (mixGuardShow (({ s with mix := { s.mix with eng := e } } : State).bump F.MIX_CNT_RES_CNT F.MIX_CNT_RES_SAT)).report 0x5641 j a

theorem mixTold_shows (e : Engine) (j a : Nat) (s : State) : Counted s (mixTold e j a s) F.MIX_CNT_RES_CNT ∧ (mixTold e j a s).mix.eng = e := by
  refine ⟨?_, by simp [mixTold, mixGuardShow]⟩
  rw [Counted, mixTold, State.report_fld, mixGuardShow, State.fld_setFld_off _ _ (by decide), State.fld_setOn_off _ _ (by decide),
    State.fld_bump_counter _ (by decide) (by decide) (by decide)]
  rfl

/-- A residue mismatch counts, and the first one puts the guard MAC in its place (R258, R259). -/
theorem mixResidue_shows (j c : Nat) : Counted s (mixResidue j c s) F.MIX_CNT_RES_CNT ∧ (s.mix.eng.faulted = false → s.mix.eng.bad = [] →
    (mixResidue j c s).mix.eng.bad = [j] ∧ (mixResidue j c s).fld (F.pgInt Pg.mix 1) = 1) := by
  obtain ⟨e, act, he⟩ : ∃ e act, engineFail j 16 s.mix.eng = (e, act) := ⟨_, _, rfl⟩
  obtain ⟨l, hl⟩ : ∃ l, mixResidue j c s = match act with
    | .takeover => (mixTold { e with held := l } j (if act = .takeover then 1 else 2) s).raise Pg.mix 1
    | .fault => (mixTold { e with held := l } j (if act = .takeover then 1 else 2) s).report 0x5642 0 4
    | .none => mixTold { e with held := l } j (if act = .takeover then 1 else 2) s := by
    unfold mixResidue
    dsimp only
    rw [he]
    exact ⟨_, rfl⟩
  obtain ⟨hc, heng⟩ := mixTold_shows { e with held := l } j (if act = .takeover then 1 else 2) s
  refine ⟨?_, fun hf hb => ?_⟩
  · rw [hl]
    cases act with
    | none => exact hc
    | takeover => exact (State.fld_raise_other _ (by decide)).trans hc
    | fault => exact (State.report_fld ..).trans hc
  · rw [engineFail_first _ _ hb hf] at he
    cases he
    rw [hl]
    refine ⟨?_, State.fld_raise_self _ (by decide)⟩
    rw [State.raise_mix, heng]

/-- A write of MUTE stands, and acts from the bus's next computation (R257). -/
theorem busMute_shows (b : Nat) (hb : b < 192) (on : Bool) : (busMute b on s).fld (F.MIX_BUS_MUTE b) = on.toNat ∧
    if mixRank b s ≠ 0 ∧ mixFirst (mixRank b s) s ≤ s.cyc then ((busMute b on s).bus b).late = some on else ((busMute b on s).bus b).w.up = !on := by
  have hfirst : mixFirst (mixRank b s) (s.setOn (F.MIX_BUS_MUTE b) on) = mixFirst (mixRank b s) s := by
    rw [mixFirst, State.fld_setOn_off _ _ (.inr (.inr (by simp only [F.SPN_SCHED_MIX_START, Adr.SPN_SCHED, F.MIX_BUS_MUTE, Adr.MIX_BUS]; omega))), mixFirst]
  have hadr : (F.MIX_BUS_MUTE b).addr ≠ (F.MIX_BSTAT_MSTATE b).addr := by
    simp only [F.MIX_BSTAT_MSTATE, Adr.MIX_BSTAT, F.MIX_BUS_MUTE, Adr.MIX_BUS]; omega
  have hmute : (s.setOn (F.MIX_BUS_MUTE b) on).fld (F.MIX_BUS_MUTE b) = on.toNat := State.fld_setOn_self _ _ (Fld.flag_sure rfl)
  unfold busMute
  dsimp only
  rw [hfirst]
  by_cases h : mixRank b s ≠ 0 ∧ mixFirst (mixRank b s) s ≤ s.cyc
  · rw [if_pos h, if_pos (by exact h), State.bus_setBus]
    exact ⟨hmute, rfl⟩
  · rw [if_neg h, if_neg (by exact h)]
    refine ⟨(State.fld_setFld_off _ _ (.inr (.inr hadr))).trans hmute, ?_⟩
    rw [State.bus, State.setFld_mix, ← State.bus, State.bus_setBus]
    exact rampGo_up ..

end

end Sys2Proof.Machine

namespace Sys2Proof

open Machine

/-- Settles O27: a crosspoint written, a glide started, stopped and ended, a bus muted and unmuted, a mismatch counted and the mixer's test started. -/
theorem mixerCommandsComplete : Obligations.MixerCommandsComplete := by
  refine ⟨?_, ?_, ?_, ?_, ?_, ?_, ?_, ?_⟩
  · intro s cyc lane bus data hp
    rw [exec, execCrosspointWrite, completes_heard hp]
    exact xpWrite_shows (s := s.land cyc) _ data
  · intro s cyc n hp hl hb hst hi h
    rw [exec, execGlideGo, completes_heard hp]
    exact glideGo_shows (s := s.land cyc) n n.isLt hl hb hst hi h
  · intro s cyc n hp h
    rw [exec, execGlideStop, completes_heard hp, glideStop, State.when_of (by exact h)]
    exact glideAbort_shows n n.isLt
  · intro s n g hr h ht
    rw [exec, execGlideDone, completes_ticking hr]
    exact glideDone_over n n.isLt h ht
  · intro s cyc b hp
    rw [exec, execBusMute, completes_heard hp]
    exact busMute_shows (s := s.land cyc) b b.isLt true
  · intro s cyc b hp
    rw [exec, execBusUnmute, completes_heard hp]
    exact busMute_shows (s := s.land cyc) b b.isLt false
  · intro s mac cyc hr
    rw [exec, execMixResidue, completes_ticking hr]
    exact mixResidue_shows (s := s.land cyc) mac cyc
  · intro s hp hb
    have hmay : engineMayRestore s.mix.eng = true := by simp [engineMayRestore, hb]
    rw [exec, execMixRestore, completes_heard hp, mixRestore, if_pos hmay]
    exact State.testOf_startTest ..
end Sys2Proof

/-!
The effects engines (R278): a tap's delay written before its line computes.
-/

namespace Sys2Proof.Machine

/-- Tap 0 half way through a glide from 0 to 100 over 10 ticks; its line computes from cycle 100 of the tick on. -/
def midGlideState : State :=
  { State.reset with
    ports := true, tick := 5
    fx := { State.reset.fx with
      tap := [(0, { frm := 0, den := 1, goal := 100, time := 10, t0 := 0 })]
      place := [(0x600 + State.reset.fld (F.TAP_CFG_LINE 0), { start := 100 })] } }

/-- In cycle 0 a write of the tap's delay still counts for this tick: its new glide starts from the value of the tick before, 400 / 10
and not 500 / 10 (R278). -/
theorem midGlideState_write : ((tapWrite 0 0 midGlideState).tapSt 0).frm = 400 ∧ (tapD (midGlideState.tapSt 0) midGlideState.tick).1 = 500 := by
  have hline : SMap.get (fun _ => ({} : FxPlace)) midGlideState.fx.place (0x600 + midGlideState.fld (F.TAP_CFG_LINE 0)) = { start := 100 } :=
    if_pos rfl
  refine ⟨?_, rfl⟩
  unfold tapWrite
  dsimp only
  rw [hline, State.tapSt, State.setFld_fx, SMap.get_set_same]
  split <;> rfl

end Sys2Proof.Machine

namespace Sys2Proof

open Machine

/-- Refutes O28: its clause of TAP_DELAY_WRITE starts the new glide from the value of the tick at hand. In `midGlideState` the write comes before the line computes, and the model starts it from the value of the tick before. -/
theorem not_effectsCommandsComplete : ¬ Obligations.EffectsCommandsComplete := by
  intro h
  obtain ⟨htap, -⟩ := h midGlideState
  obtain ⟨hnew, hold⟩ := midGlideState_write
  obtain ⟨t, he, -, htap⟩ := htap 0 0 0 rfl
  rw [exec, execTapDelayWrite, State.heard_of_ports rfl] at he
  cases he
  have hsame := congrArg TapSt.frm htap
  exact absurd (hnew.symm.trans (hsame.trans hold)) (by decide)
end Sys2Proof

/-!
Line and headphone outputs (R294, R299, R301-R305, R310, R312, R324): what a core or a stage that fails, a trip, a mute and a restore leave behind.
-/

namespace Sys2Proof.Machine

section

variable {s : State} {o : Nat}

theorem State.och_setOch (o : Nat) (x : OutCh) (s : State) : (s.setOch o x).och o = x := SMap.get_set_same ..

theorem State.och_congr {t : State} (h : t.out = s.out) (o : Nat) : t.och o = s.och o := by rw [State.och, h, State.och]

theorem State.och_startTest (s : State) (o unit idx k : Nat) : (s.startTest unit idx k).och o = s.och o := rfl

/-- The same state but for its outputs. -/
def OutsOnly (s t : State) : Prop := ∃ m, t = { s with out := m }

theorem OutsOnly.refl (s : State) : OutsOnly s s := ⟨s.out, rfl⟩

theorem OutsOnly.setOch {t : State} (h : OutsOnly s t) (o : Nat) (x : OutCh) : OutsOnly s (t.setOch o x) := by
  obtain ⟨m, rfl⟩ := h
  exact ⟨_, rfl⟩

theorem OutsOnly.trans {t u : State} (h : OutsOnly s t) (k : OutsOnly t u) : OutsOnly s u := by
  obtain ⟨m, rfl⟩ := h
  obtain ⟨n, rfl⟩ := k
  exact ⟨n, rfl⟩

/-- All of the state but the outputs. -/
theorem OutsOnly.eq {t : State} (h : OutsOnly s t) : t = { s with out := t.out } := by
  obtain ⟨m, rfl⟩ := h
  rfl

theorem outWeights_outs (s : State) (o : Nat) : OutsOnly s (outWeights o s) := by
  unfold outWeights
  dsimp only
  split
  · exact (OutsOnly.refl s).setOch ..
  · split
    · exact (OutsOnly.refl s).setOch ..
    · exact .refl s

/-- A failed check while a test runs is kept for the test's end (R305). -/
theorem outTestFail_shows : OutsOnly s (outTestFail o s) ∧
    (outTestFail o s).och o = { s.och o with testBad := (s.och o).testBad || (s.testOf 0x1B o).isSome } := by
  unfold outTestFail
  cases h : (s.testOf 0x1B o).isSome with
  | true => exact ⟨(OutsOnly.refl s).setOch .., by rw [State.when_true, State.och_setOch, Bool.or_true]⟩
  | false => exact ⟨.refl s, by rw [State.when_false, Bool.or_false]⟩

theorem outCut_shows : OutsOnly s (outCut o s) ∧ (outCut o s).och o = { s.och o with pop := {}, phase := 0, switch := false } :=
  ⟨(OutsOnly.refl s).setOch .., State.och_setOch ..⟩

/-- A note sent beside a change that leaves registers and links. -/
theorem State.note_noted_regs {u : State} {d b : Nat} {n : DieNote} (hl : u.link = s.link) (hr : u.regs = s.regs) : Noted s (u.note d b n) d b n :=
  State.note_noted hl (by rw [← fldOf_regs, hr, fldOf_regs])

/-- The state of an output without core or stage, before the core die is told (R303). -/
def outDead (o : Nat) (s : State) : State := (outCut o (s.setOch o { s.och o with dead := true })).endTest 0x1B o

/-- An output that dies has no signal and no test, and is told of (R303, R305). -/
theorem outDie_shows {code : Nat} (h : (s.och o).dead = false) :
    (outDie o code s).och o = { s.och o with dead := true, pop := {}, phase := 0, switch := false } ∧ (outDie o code s).testOf 0x1B o = none ∧
    Noted s (outDie o code s) 1 (s.tick + 1) { act := (3, o, code) } := by
  have hcut : (outCut o (s.setOch o { s.och o with dead := true })).och o = { s.och o with dead := true, pop := {}, phase := 0, switch := false } := by
    rw [outCut_shows.2, State.och_setOch]
  have hdie : outDie o code s = (outDead o s).note 1 (s.tick + 1) { act := (3, o, code) } := by
    rw [outDie, if_neg (by rw [h]; decide)]
    rfl
  rw [hdie]
  refine ⟨(State.och_congr (State.note_out ..) o).trans hcut, ?_, State.note_noted_regs (by rfl) (by rfl)⟩
  rw [State.testOf_congr (State.note_tests ..), outDead, State.testOf_endTest]

/-- A stage that fails takes its output (R303). -/
theorem outStageFail_shows (h : (s.och o).dead = false) : ((outDie o 0x66C5 (outTestFail o s)).och o).dead = true ∧
    ((outDie o 0x66C5 (outTestFail o s)).och o).switch = false ∧ ((outDie o 0x66C5 (outTestFail o s)).och o).phase = 0 ∧
    Noted s (outDie o 0x66C5 (outTestFail o s)) 1 (s.tick + 1) { act := (3, o, 0x66C5) } := by
  obtain ⟨houts, hx⟩ := outTestFail_shows (s := s) (o := o)
  generalize outTestFail o s = v at houts hx
  obtain ⟨m, rfl⟩ := houts
  obtain ⟨hoch, -, hnote⟩ := outDie_shows (code := 0x66C5) (show (State.och { s with out := m } o).dead = false by rw [hx]; exact h)
  rw [hoch]
  exact ⟨rfl, rfl, rfl, hnote⟩

/-- Output `x` with core `core` marked as failed. -/
def coreMarked (core : Nat) (x : OutCh) : OutCh := if core = 0 then { x with aBad := true } else { x with bBad := true }

theorem State.linkHolds_note (s : State) (d b l : Nat) (n : DieNote) : (s.note d b n).linkHolds l = s.linkHolds l := by
  rw [State.note, State.tell]
  exact State.when_keeps (·.linkHolds l) rfl

/-- A core marked as failed: the weights follow and the core die is told (R301). -/
def coreTold (o core : Nat) (s : State) : State :=
  (outWeights o (s.setOch o (coreMarked core (s.och o)))).note 1 (s.tick + 1) { act := (1, o, core) }

/-- Whether a failed core leaves output `x` without a signal, under CORE_FORCE `f` (R303). -/
def coreLast (f : Nat) (x : OutCh) : Bool := (x.aBad && x.bBad) || (f == 1 && x.aBad) || (f == 2 && x.bBad)

theorem coreTold_regs (core : Nat) (s : State) : (coreTold o core s).regs = s.regs ∧ (coreTold o core s).tests = s.tests ∧
    (coreTold o core s).tick = s.tick := by
  obtain ⟨m, hm⟩ := outWeights_outs (s.setOch o (coreMarked core (s.och o))) o
  rw [coreTold, State.note_regs, State.note_tests, State.note_tick, hm]
  exact ⟨rfl, rfl, rfl⟩

/-- A core that fails is marked and told of; an output that has no core left dies (R301, R303). -/
theorem outCoreFail_marks {core : Nat} (h : (if core = 0 then (s.och o).aBad else (s.och o).bBad) = false) :
    outCoreFail o core s = (coreTold o core (outTestFail o s)).when
      (coreLast (s.fld (F.OUT_CFG_CORE_FORCE o)) (coreMarked core ((outTestFail o s).och o))) (outDie o 0x66C4) := by
  obtain ⟨houts, hx⟩ := outTestFail_shows (s := s) (o := o)
  have hmark : ¬(if core = 0 then ((outTestFail o s).och o).aBad else ((outTestFail o s).och o).bBad) = true := by
    rw [hx]
    simp [h]
  have hforce : (coreTold o core (outTestFail o s)).fld (F.OUT_CFG_CORE_FORCE o) = s.fld (F.OUT_CFG_CORE_FORCE o) := by
    rw [← fldOf_regs, (coreTold_regs core _).1, houts.eq]
    rfl
  rw [← hforce]
  unfold outCoreFail
  dsimp only
  rw [if_neg hmark]
  have htick : (outWeights o ((outTestFail o s).setOch o (coreMarked core ((outTestFail o s).och o)))).tick = (outTestFail o s).tick := by
    rw [(outWeights_outs _ o).eq]
    rfl
  rw [← coreMarked, htick]
  rfl

theorem coreTold_noted (core : Nat) (s : State) : Noted s (coreTold o core s) 1 (s.tick + 1) { act := (1, o, core) } := by
  obtain ⟨m, hm⟩ := outWeights_outs (s.setOch o (coreMarked core (s.och o))) o
  exact State.note_noted_regs (by rw [hm]; rfl) (by rw [hm]; rfl)

theorem coreTold_och (core : Nat) (s : State) : (coreTold o core s).och o = (outWeights o (s.setOch o (coreMarked core (s.och o)))).och o :=
  State.och_congr (State.note_out ..) o

/-- A failed core has no weight (R301). -/
theorem outWeights_och (h1 : s.fld (F.OUT_CFG_CORE_FORCE o) ≠ 1) (h2 : s.fld (F.OUT_CFG_CORE_FORCE o) ≠ 2) : (outWeights o s).och o =
    if (s.och o).bBad then { s.och o with wA := 128, wB := 0 } else if (s.och o).aBad then { s.och o with wA := 0, wB := 128 } else s.och o := by
  unfold outWeights
  dsimp only
  rw [decide_eq_false h1, decide_eq_false h2, Bool.false_or, Bool.false_or]
  split
  · exact State.och_setOch ..
  · split
    · exact State.och_setOch ..
    · rfl

/-- What the weights leave of an output. -/
theorem outWeights_keepsOch (s : State) (o : Nat) : ∃ a b, (outWeights o s).och o = { s.och o with wA := a, wB := b } := by
  unfold outWeights
  dsimp only
  split
  · exact ⟨_, _, State.och_setOch ..⟩
  · split
    · exact ⟨_, _, State.och_setOch ..⟩
    · exact ⟨_, _, rfl⟩

/-- The first core of an output that fails, under no force of its own (R301). -/
theorem outCoreFail_first {core : Nat} (ha : (s.och o).aBad = false) (hb : (s.och o).bBad = false) (h1 : s.fld (F.OUT_CFG_CORE_FORCE o) ≠ 1)
    (h2 : s.fld (F.OUT_CFG_CORE_FORCE o) ≠ 2) :
    (outCoreFail o core s).och o = { coreMarked core (s.och o) with
      wA := if core = 0 then 0 else 128, wB := if core = 0 then 128 else 0
      testBad := (s.och o).testBad || (s.testOf 0x1B o).isSome } ∧
    Noted s (outCoreFail o core s) 1 (s.tick + 1) { act := (1, o, core) } := by
  obtain ⟨houts, hx⟩ := outTestFail_shows (s := s) (o := o)
  rw [outCoreFail_marks (by simp [ha, hb])]
  generalize outTestFail o s = v at houts hx
  obtain ⟨m, rfl⟩ := houts
  have hlast : coreLast (s.fld (F.OUT_CFG_CORE_FORCE o)) (coreMarked core (State.och { s with out := m } o)) = false := by
    rw [hx, coreLast, beq_false_of_ne h1, beq_false_of_ne h2]
    by_cases hc : core = 0
    · simp [coreMarked, hc, hb]
    · simp [coreMarked, hc, ha]
  rw [hlast, State.when_false]
  refine ⟨?_, coreTold_noted core { s with out := m }⟩
  rw [coreTold_och, outWeights_och (by exact h1) (by exact h2), State.och_setOch, hx]
  by_cases hc : core = 0
  · simp [coreMarked, hc, hb]
  · simp [coreMarked, hc]

/-- The second core of an output that fails takes its signal (R303). -/
theorem outCoreFail_last (ha : (s.och o).aBad = false) (hb : (s.och o).bBad = true) (hd : (s.och o).dead = false) :
    ((outCoreFail o 0 s).och o).aBad = true ∧ ((outCoreFail o 0 s).och o).dead = true ∧ ((outCoreFail o 0 s).och o).switch = false ∧
    ((outCoreFail o 0 s).och o).phase = 0 ∧ (outCoreFail o 0 s).testOf 0x1B o = none ∧
    (s.linkHolds 0 = true → ((outCoreFail o 0 s).dir 1).wait = (s.dir 1).wait ++
      [(s.tick + 1, .note { act := (1, o, 0) }), (s.tick + 1, .note { act := (3, o, 0x66C4) })]) := by
  obtain ⟨houts, hx⟩ := outTestFail_shows (s := s) (o := o)
  rw [outCoreFail_marks (by simp [ha])]
  generalize outTestFail o s = v at houts hx
  obtain ⟨m, rfl⟩ := houts
  have hlast : coreLast (s.fld (F.OUT_CFG_CORE_FORCE o)) (coreMarked 0 (State.och { s with out := m } o)) = true := by
    rw [hx]
    simp [coreLast, coreMarked, hb]
  rw [hlast, State.when_true]
  obtain ⟨hregs, -, htick⟩ := coreTold_regs (o := o) 0 { s with out := m }
  have hnote := coreTold_noted (o := o) 0 { s with out := m }
  obtain ⟨a, b, hoch⟩ := outWeights_keepsOch (State.setOch o (coreMarked 0 (State.och { s with out := m } o)) { s with out := m }) o
  rw [← coreTold_och, State.och_setOch, hx] at hoch
  have hwas : (coreTold o 0 { s with out := m }).linkHolds 0 = s.linkHolds 0 := by
    rw [coreTold, State.linkHolds_note, (outWeights_outs _ o).eq]
    rfl
  generalize coreTold o 0 { s with out := m } = u at hregs htick hnote hoch hwas
  obtain ⟨hdead, htest, htold⟩ := outDie_shows (code := 0x66C4) (show (u.och o).dead = false by rw [hoch]; exact hd)
  rw [hdead, hoch]
  refine ⟨rfl, rfl, rfl, rfl, htest, fun hh => ?_⟩
  rw [htold (hwas.trans hh), hnote hh, htick, List.append_assoc]
  rfl

/-- DIFF with no core check failed (R302, R303). -/
theorem outDiff_shows (ha : (s.och o).aBad = false) (hb : (s.och o).bBad = false) :
    ((outDiff o s).och o).dead = ((s.och o).dead || s.dieFld 0 (F.OUT_CFG_DIS_ACT o) != 0) ∧
    ((outDiff o s).och o).switch = ((s.och o).switch && s.dieFld 0 (F.OUT_CFG_DIS_ACT o) == 0) ∧
    Noted s (outDiff o s) 1 (s.tick + 1) { act := (2, o, s.dieFld 0 (F.OUT_CFG_DIS_ACT o)) } ∧ (outDiff o s).regs = s.regs := by
  obtain ⟨houts, hx⟩ := outTestFail_shows (s := s) (o := o)
  have hbad : ¬(((outTestFail o s).och o).aBad || ((outTestFail o s).och o).bBad) = true := by simp [hx, ha, hb]
  have hdie : (outTestFail o s).dieFld 0 (F.OUT_CFG_DIS_ACT o) = s.dieFld 0 (F.OUT_CFG_DIS_ACT o) := by
    rw [houts.eq]
    rfl
  unfold outDiff
  dsimp only
  rw [if_neg hbad, hdie]
  generalize outTestFail o s = v at houts hx
  obtain ⟨m, rfl⟩ := houts
  generalize s.dieFld 0 (F.OUT_CFG_DIS_ACT o) = act
  by_cases hact : act = 0
  · subst hact
    refine ⟨?_, ?_, State.note_noted_regs rfl rfl, State.note_regs ..⟩
    · rw [State.och_congr (State.note_out ..) o, bne_self_eq_false, State.when_false, hx, Bool.or_false]
    · rw [State.och_congr (State.note_out ..) o, bne_self_eq_false, State.when_false, hx, beq_self_eq_true, Bool.and_true]
  · have hne : (act != 0) = true := by simp [hact]
    have heq : (act == 0) = false := by simp [hact]
    rw [hne, heq, State.when_true, Bool.or_true, Bool.and_false]
    refine ⟨?_, ?_, State.note_noted_regs rfl rfl, State.note_regs ..⟩
    · rw [State.och_congr (State.note_out ..) o, outCut_shows.2, State.och_setOch]
    · rw [State.och_congr (State.note_out ..) o, outCut_shows.2]

theorem outShow_fld {f : Fld} (h : (F.OUT_STAT_OSTATE o).Apart f) (hm : (F.OUT_STAT_MSTATE o).Apart f) (hg : (F.OUT_STAT_GUARD o).Apart f)
    (hs : f.addr ≠ Adr.OUT_SUMMARY) : (outShow o s).fld f = s.fld f := by
  unfold outShow
  dsimp only
  rw [State.fld_setOn_off _ _ (.inr (.inr hs)), State.fld_setFld_off _ _ hg, State.fld_setFld_off _ _ hm, State.fld_setFld_off _ _ h]

/-- A field of another register than OUT_STAT and OUT_SUMMARY. -/
theorem outShow_fld_off {f : Fld} (h : f.addr ≠ Adr.OUT_STAT o) (hs : f.addr ≠ Adr.OUT_SUMMARY) : (outShow o s).fld f = s.fld f :=
  outShow_fld (.inr (.inr h)) (.inr (.inr h)) (.inr (.inr h)) hs

@[simp] theorem outShow_out (o : Nat) (s : State) : (outShow o s).out = s.out := by simp [outShow]

@[simp] theorem outShow_flt (o : Nat) (s : State) : (outShow o s).flt = s.flt := by simp [outShow]

/-- An output that trips and was not FAULTED (R304, R310). -/
theorem outTrip_shows {code : Nat} (h : outFaulted (s.och o) = false) :
    (outTrip o code s).och o = { s.och o with fault := code, trip := rampGo false (8 * s.fld (F.OUT_CTRL_RAMP o)) (s.och o).trip } ∧
    Reported s (outTrip o code s) code o 4 ∧
    ∀ f : Fld, (F.OUT_STAT_OSTATE o).Apart f → (F.OUT_STAT_MSTATE o).Apart f → (F.OUT_STAT_GUARD o).Apart f → f.addr ≠ Adr.OUT_SUMMARY →
      (outTrip o code s).fld f = s.fld f := by
  unfold outTrip
  dsimp only
  rw [if_neg (by rw [h]; decide)]
  refine ⟨?_, ?_, fun f h hm hg hs => outShow_fld h hm hg hs⟩
  · rw [State.och_congr (outShow_out ..), State.och_congr (State.report_out ..), State.och_setOch]
  · rw [Reported, outShow_flt]
    rfl

/-- The trip of an output after changes that leave the outputs, the reports and its RAMP. -/
theorem outTrip_after {t : State} {code : Nat} (ho : t.out = s.out) (hr : t.flt = s.flt)
    (hramp : t.fld (F.OUT_CTRL_RAMP o) = s.fld (F.OUT_CTRL_RAMP o)) (h : outFaulted (s.och o) = false) :
    (outTrip o code t).och o = { s.och o with fault := code, trip := rampGo false (8 * s.fld (F.OUT_CTRL_RAMP o)) (s.och o).trip } ∧
    Reported s (outTrip o code t) code o 4 ∧
    ∀ f : Fld, (F.OUT_STAT_OSTATE o).Apart f → (F.OUT_STAT_MSTATE o).Apart f → (F.OUT_STAT_GUARD o).Apart f → f.addr ≠ Adr.OUT_SUMMARY →
      (outTrip o code t).fld f = t.fld f := by
  obtain ⟨hx, hrep, hfld⟩ := outTrip_shows (s := t) (o := o) (code := code) (by rw [State.och_congr ho]; exact h)
  rw [Reported, hr] at hrep
  exact ⟨by rw [hx, State.och_congr ho, hramp], hrep, hfld⟩

theorem outAdr_apart (o k : Nat) : Adr.OUT_CTRL o ≠ Pg.out * 4096 + 16 ∧ (F.pgInt Pg.out k).addr ≠ Adr.OUT_STAT o ∧
    Adr.OUT_CTRL o ≠ Adr.OUT_STAT o ∧ Adr.OUT_STAT o ≠ Adr.OUT_SUMMARY := by
  simp only [Adr.OUT_CTRL, Pg.out, F.pgInt, Adr.OUT_STAT, Adr.OUT_SUMMARY]
  omega

section

variable {ws : Nat → Prop} {γ : Type} {E : State → γ} {s0 : State}

theorem outShow_only (hs : ws (Adr.OUT_STAT o)) (hsum : ws Adr.OUT_SUMMARY) (h : Only ws E s0 s) : Only ws E s0 (outShow o s) :=
  State.setOn_only hsum (State.setFld_only hs (State.setFld_only hs (State.setFld_only hs h)))

theorem outMuteWrite_only {m : Bool} (hc : ws (Adr.OUT_CTRL o)) (hs : ws (Adr.OUT_STAT o)) (hsum : ws Adr.OUT_SUMMARY) (h : Only ws E s0 s) :
    Only ws E s0 (outMuteWrite o m s) :=
  outShow_only hs hsum (State.setOn_only hc h)

/-- What outranks MUTE = 0 reads the isolations and the power state alone among the registers (R312, R324). -/
theorem outHeld_congr {t : State} (h : Only ws id s t) (hiso : ¬ ws (Adr.FLT_ISO 0)) (hps : ¬ ws Adr.PWR_STATUS) : outHeld o t = outHeld o s := by
  have hout : t.out = s.out := (congrArg State.out h.rest :)
  have hjack : t.jack = s.jack := (congrArg State.jack h.rest :)
  have hpwr : t.pwr = s.pwr := (congrArg State.pwr h.rest :)
  unfold outHeld psTarget State.isolated jackHolds State.bind
  rw [State.och_congr hout, hjack, hpwr, h.word _ hiso, h.fld hps]

end

/-- A write of MUTE stands, and what decides on the weight is as it was (R312). -/
theorem outMuteWrite_shows (ho : o < 20) (m : Bool) : (outMuteWrite o m s).fld (F.OUT_CTRL_MUTE o) = m.toNat ∧ (outMuteWrite o m s).out = s.out ∧
    (outMuteWrite o m s).fld (F.OUT_CTRL_RAMP o) = s.fld (F.OUT_CTRL_RAMP o) ∧ outHeld o (outMuteWrite o m s) = outHeld o s := by
  have hstat : Adr.OUT_CTRL o ≠ Adr.OUT_STAT o := by simp only [Adr.OUT_CTRL, Adr.OUT_STAT]; omega
  have hsum : Adr.OUT_CTRL o ≠ Adr.OUT_SUMMARY := by simp only [Adr.OUT_CTRL, Adr.OUT_SUMMARY]; omega
  have honly : Only (fun a => Adr.OUT_SUMMARY ≤ a ∧ a < 0x0B0700) id s (outMuteWrite o m s) :=
    outMuteWrite_only (by simp only [Adr.OUT_CTRL, Adr.OUT_SUMMARY]; omega) (by simp only [Adr.OUT_STAT, Adr.OUT_SUMMARY]; omega) (by decide) (.refl s)
  refine ⟨?_, ?_, ?_, outHeld_congr honly (by decide) (by decide)⟩
  · rw [outMuteWrite, outShow_fld_off hstat hsum, State.fld_setOn_self _ _ (Fld.flag_sure rfl)]
  · rw [outMuteWrite, outShow_out, State.setOn_out]
  · rw [outMuteWrite, outShow_fld_off hstat hsum, State.fld_setOn_off _ _ (Fld.apart_sure rfl)]

/-- A restore test, which leaves nothing of the earlier one, starts with the switch of a FAULTED output closed (R305). -/
theorem outRestore_shows (h : outState o s = 3 ∨ outState o s = 4) :
    (outRestore o s).testOf 0x1B o = some ⟨0x1B, o, 0, s.tick + 1024⟩ ∧ ((outRestore o s).och o).testBad = false ∧
    (outState o s = 4 → ((outRestore o s).och o).switch = false ∧ ((outRestore o s).och o).phase = 0) := by
  have hgo : ¬(outState o s ≠ 3 ∧ outState o s ≠ 4) := by omega
  unfold outRestore
  dsimp only
  rw [if_neg hgo]
  by_cases h4 : outState o s = 4
  · rw [beq_iff_eq.mpr h4, State.when_true]
    obtain ⟨houts, hx⟩ := outCut_shows (s := s.setOch o { s.och o with testBad := false }) (o := o)
    have hoch : (State.startTest 0x1B o 0 (outCut o (s.setOch o { s.och o with testBad := false }))).och o =
        { s.och o with testBad := false, pop := {}, phase := 0, switch := false } := by
      rw [State.och_startTest, hx, State.och_setOch]
    rw [hoch]
    refine ⟨?_, rfl, fun _ => ⟨rfl, rfl⟩⟩
    rw [State.testOf_startTest, houts.eq]
    rfl
  · rw [beq_false_of_ne h4, State.when_false]
    exact ⟨State.testOf_startTest .., by rw [State.och_startTest, State.och_setOch], fun h => absurd h h4⟩

/-- The weight follows MUTE at the next tick (R312, R324). -/
theorem outMuteGo_down (h : s.fld (F.OUT_CTRL_MUTE o) = 1) :
    ((outMuteGo o s).och o).mute = rampGo false (8 * s.fld (F.OUT_CTRL_RAMP o)) (s.och o).mute := by
  unfold outMuteGo
  dsimp only
  rw [if_pos ((State.on_iff s).mpr (by omega)), State.och_setOch]

theorem outMuteGo_held (h : s.fld (F.OUT_CTRL_MUTE o) = 0) (hh : outHeld o s = true) : ((outMuteGo o s).och o).mute = (s.och o).mute := by
  unfold outMuteGo
  dsimp only
  rw [if_neg (by rw [(State.not_on_iff s).mpr h]; decide), if_pos (by rw [hh, Bool.or_true])]

theorem outMuteGo_up (h : s.fld (F.OUT_CTRL_MUTE o) = 0) (hh : outHeld o s = false) (hu : (s.och o).mute.up = false) :
    ((outMuteGo o s).och o).mute = rampGo true (8 * s.fld (F.OUT_CTRL_RAMP o)) (s.och o).mute := by
  unfold outMuteGo
  dsimp only
  rw [if_neg (by rw [(State.not_on_iff s).mpr h]; decide), if_neg (by rw [hh, hu]; decide), State.och_setOch]

/-- The switch to a preset at its tick (R299). -/
theorem outSwitch_shows (h1 : (s.och o).sw = 1) (hd : (s.och o).swDue ≤ s.tick) : (outSwitch o s).och o = { s.och o with
    preset := (s.och o).swTo.1, level := (s.och o).swTo.2, hist := [], sw := 2, swW := { pos := 0, len := 32, up := true } } := by
  unfold outSwitch
  dsimp only
  rw [if_pos ⟨h1, hd⟩, State.och_setOch, outApply, State.och_setOch]

section

variable {β : Type} {ws : Nat → Prop} {E : State → β} {s0 : State}

/-- The tests but those of a unit, beside a new test of that unit. -/
theorem tests_startTest_aside (s : State) (unit idx k : Nat) : (s.startTest unit idx k).tests.filter (fun r => !r.unit == unit || !r.idx == idx) =
    s.tests.filter (fun r => !r.unit == unit || !r.idx == idx) :=
  filter_startTest fun r hu hi => by simp [hu, hi]

/-- A reading that does not show output `o`. -/
def HidesOch (o : Nat) (E : State → β) : Prop := ∀ (u : State) x, E (u.setOch o x) = E u

/-- A reading that does not show what the links carry. -/
def HidesDirs (E : State → β) : Prop := ∀ (u : State) m, E { u with link := { u.link with dirs := m } } = E u

/-- A reading that does not show the end of a restore test. -/
def HidesTestEnd (unit idx : Nat) (E : State → β) : Prop := ∀ u : State, E (u.endTest unit idx) = E u

theorem HidesOch.only (hE : HidesOch o E) (x : OutCh) (h : Only ws E s0 s) : Only ws E s0 (s.setOch o x) :=
  h.update rfl (hE { s with regs := [] } x)

theorem State.endTest_only {unit idx : Nat} (hE : HidesTestEnd unit idx E) (h : Only ws E s0 s) : Only ws E s0 (s.endTest unit idx) :=
  h.update rfl (hE { s with regs := [] })

variable (hE : HidesOch o E)

include hE

theorem outTestFail_only (h : Only ws E s0 s) : Only ws E s0 (outTestFail o s) := .when (fun _ h => hE.only _ h) h

theorem outDie_only {code : Nat} (hL : HidesDirs E) (hT : HidesTestEnd 0x1B o E) (h : Only ws E s0 s) : Only ws E s0 (outDie o code s) :=
  .ite h (State.note_only hL (State.endTest_only hT (hE.only _ (hE.only _ h))))

theorem outWeights_only (h : Only ws E s0 s) : Only ws E s0 (outWeights o s) := .ite (hE.only _ h) (.ite (hE.only _ h) h)

theorem outCoreFail_only {core : Nat} (hL : HidesDirs E) (hT : HidesTestEnd 0x1B o E) (h : Only ws E s0 s) : Only ws E s0 (outCoreFail o core s) := by
  unfold outCoreFail
  exact .branch (outTestFail_only hE h) fun h => .when (fun _ h => outDie_only hE hL hT h) (State.note_only hL (outWeights_only hE (hE.only _ h)))

theorem outDiff_only (hL : HidesDirs E) (h : Only ws E s0 s) : Only ws E s0 (outDiff o s) := by
  unfold outDiff
  exact .branch (outTestFail_only hE h) fun h => State.note_only hL (.when (fun _ h => hE.only _ (hE.only _ h)) h)

theorem outTrip_only {code : Nat} (hR : HidesReports E) (hs : ws (Adr.OUT_STAT o)) (hsum : ws Adr.OUT_SUMMARY) (h : Only ws E s0 s) :
    Only ws E s0 (outTrip o code s) :=
  .ite h (outShow_only hs hsum (State.report_only hR (hE.only _ h)))

theorem outRestore_only (hT : HidesTest 0x1B o E) (h : Only ws E s0 s) : Only ws E s0 (outRestore o s) :=
  .ite h (State.startTest_only hT (.when (fun _ h => hE.only _ h) (hE.only _ h)))

theorem outSwitch_only (h : Only ws E s0 s) : Only ws E s0 (outSwitch o s) := .ite (hE.only _ (hE.only _ h)) h

theorem outUpStep_only (hs : ws (Adr.OUT_STAT o)) (hsum : ws Adr.OUT_SUMMARY) (h : Only ws E s0 s) : Only ws E s0 (outUpStep o s) := by
  unfold outUpStep
  exact .ite (hE.only _ h) (.ite (hE.only _ h) (.ite (outShow_only hs hsum (hE.only _ h)) h))

theorem outPower_only (h : Only ws E s0 s) : Only ws E s0 (outPower o s) := by
  unfold outPower
  exact .ite (hE.only _ (hE.only _ h)) (.ite (.ite (hE.only _ h) h) (.ite (.ite (hE.only _ h) h)
    (.ite (hE.only _ h) (.ite (hE.only _ h) (.ite (hE.only _ h) h)))))

theorem outDownStep_only (h : Only ws E s0 s) : Only ws E s0 (outDownStep o s) :=
  .ite (hE.only _ h) (.ite (outPower_only hE (hE.only _ h)) h)

end

end

end Sys2Proof.Machine

namespace Sys2Proof

open Machine

/-- Settles O29, each clause by what its command does with its output: a core, the stage or both lost, a trip, a mute, a restore and a preset taken into use. -/
theorem outputCommandsComplete : Obligations.OutputCommandsComplete := by
  intro s
  refine ⟨?_, ?_, ?_, ?_, ?_, ?_, ?_, ?_, ?_, ?_, ?_⟩
  · intro core o hr hc ha hb h1 h2
    have hcore : core.val / 2 = o ∧ core.val % 2 = 0 := by omega
    rw [exec, execDacCoreFail, completes_ticking hr, hcore.1, hcore.2]
    exact outCoreFail_first ha hb h1 h2
  · intro core o hr hc ha hb h1 h2
    have hcore : core.val / 2 = o ∧ core.val % 2 = 1 := by omega
    rw [exec, execDacCoreFail, completes_ticking hr, hcore.1, hcore.2]
    exact outCoreFail_first ha hb h1 h2
  · intro core o hr hc ha hb hd
    have hcore : core.val / 2 = o ∧ core.val % 2 = 0 := by omega
    rw [exec, execDacCoreFail, completes_ticking hr, hcore.1, hcore.2]
    exact outCoreFail_last ha hb hd
  · intro o hr ha hb
    rw [exec, execCoreDisagree, completes_ticking hr]
    exact outDiff_shows ha hb
  · intro o hr hd
    rw [exec, execOutputStageFail, completes_ticking hr]
    exact outStageFail_shows hd
  · intro o hr hl hf
    rw [exec, execOutputIlimTrip, completes_ticking hr, if_pos ⟨hl, by rw [hf]; rfl⟩]
    obtain ⟨hctrl, hint, -⟩ := outAdr_apart o 4
    obtain ⟨hx, hrep, hfld⟩ := outTrip_after (t := s.raise Pg.out 4) (code := 0x66C8) (by simp) (by simp) (State.fld_raise_other _ hctrl) hf
    rw [hx, hfld _ (.inr (.inr hint)) (.inr (.inr hint)) (.inr (.inr hint)) (by decide), State.fld_raise_self _ (by decide)]
    exact ⟨rfl, rfl, rfl, hrep⟩
  · intro o hr hl hf
    rw [exec, execOutputDcTrip, completes_ticking hr, if_pos ⟨hl, by rw [hf]; rfl⟩]
    obtain ⟨hctrl, hint, hstat, hsum⟩ := outAdr_apart o 3
    obtain ⟨hx, hrep, hfld⟩ := outTrip_after (t := (s.raise Pg.out 3).setFld (F.OUT_STAT_DC_TRIP o) 1) (code := 0x66C7) (by simp) (by simp)
      ((State.fld_setFld_off _ _ (.inr (.inr hstat))).trans (State.fld_raise_other _ hctrl)) hf
    rw [hx, hfld _ (Fld.apart_sure rfl) (Fld.apart_sure rfl) (Fld.apart_sure rfl) hsum, State.fld_setFld_one _ (Fld.flag_sure rfl),
      hfld _ (.inr (.inr hint)) (.inr (.inr hint)) (.inr (.inr hint)) (by decide), State.fld_setFld_off _ _ (.inr (.inr hint)),
      State.fld_raise_self _ (by decide)]
    exact ⟨rfl, rfl, rfl, rfl, hrep⟩
  · intro o hp
    obtain ⟨hmute, hout, hramp, -⟩ := outMuteWrite_shows (s := s) o.isLt true
    rw [exec, execOutputMute, completes_heard hp]
    exact ⟨hmute, hout, by rw [outMuteGo_down hmute, hramp, State.och_congr hout]⟩
  · intro o hp
    obtain ⟨hmute, hout, hramp, hheld⟩ := outMuteWrite_shows (s := s) o.isLt false
    rw [exec, execOutputUnmute, completes_heard hp]
    refine ⟨hmute, hout, fun hh => ?_, fun hh hu => ?_⟩
    · rw [outMuteGo_held hmute (hheld.trans hh), State.och_congr hout]
    · rw [outMuteGo_up hmute (hheld.trans hh) (by rw [State.och_congr hout]; exact hu), hramp, State.och_congr hout]
  · intro o hp h
    rw [exec, execOutputRestore, completes_heard hp]
    exact outRestore_shows h
  · intro o hr h1 hd
    rw [exec, execOutputPresetSwitch, completes_ticking hr]
    exact outSwitch_shows h1 hd

/-- Settles O51, by what each command of an output may change. -/
theorem outputFrames : Obligations.OutputFrames := by
  intro s
  refine ⟨fun core => .ticking rfl (outCoreFail_only (fun _ _ => ?_) (fun _ _ => ?_) (fun _ => ?_) (.refl s)),
    fun o => .ticking rfl (outDiff_only (fun _ _ => ?_) (fun _ _ => ?_) (.refl s)),
    fun o => .ticking rfl (outDie_only (fun _ _ => ?_) (fun _ _ => ?_) (fun _ => ?_) (outTestFail_only (fun _ _ => ?_) (.refl s))),
    fun o => .ticking rfl (.ite (outTrip_only (fun _ _ => ?_) (fun _ _ => ?_) ?_ ?_ (State.raise_only ?_ (.refl s))) (.refl s)),
    fun o => .ticking rfl (.ite (outTrip_only (fun _ _ => ?_) (fun _ _ => ?_) ?_ ?_ (State.setFld_only ?_ (State.raise_only ?_ (.refl s)))) (.refl s)),
    fun o => .heard rfl (outMuteWrite_only ?_ ?_ ?_ (.refl s)),
    fun o => .heard rfl (outMuteWrite_only ?_ ?_ ?_ (.refl s)),
    fun o => .heard rfl (outRestore_only (fun _ _ => ?_) (fun _ _ => ?_) (.refl s)),
    fun o => .ticking rfl (outSwitch_only (fun _ _ => ?_) (.refl s)),
    fun o => .ticking rfl (outShow_only ?_ ?_ (outUpStep_only (fun _ _ => ?_) ?_ ?_ (.refl s))),
    fun o => .ticking rfl (outShow_only ?_ ?_ (outDownStep_only (fun _ _ => ?_) (.refl s)))⟩
  all_goals simp [State.setOch, State.endTest, F.pgInt, F.OUT_STAT_DC_TRIP, tests_startTest_aside]
end Sys2Proof

/-!
Jack sense and the pop ramps (R319, R320, R323, R325-R327): what an ambiguity, a force, a plug wait and the steps of a ramp leave behind.
-/

namespace Sys2Proof.Machine

section

variable {s : State} {j o : Nat}

theorem State.jk_setJk (j : Nat) (x : Jack) (s : State) : (s.setJk j x).jk j = x := SMap.get_set_same ..

theorem State.fld_setJk (j : Nat) (x : Jack) (f : Fld) (s : State) : (s.setJk j x).fld f = s.fld f := rfl

theorem State.bind_setBind (o : Nat) (x : Bind) (s : State) : (s.setBind o x).bind o = x := SMap.get_set_same ..

/-- The bindings follow their jacks: no register changes (R323). -/
theorem jackFollow_regs (o : Nat) (s : State) : (jackFollow o s).regs = s.regs := by
  unfold jackFollow
  dsimp only
  repeat' split
  all_goals rfl

theorem jackFollowAll_regs (s : State) : (jackFollowAll s).regs = s.regs :=
  List.foldlRecOn (motive := fun u : State => u.regs = s.regs) _ _ rfl fun u hu o _ => (jackFollow_regs o u).trans hu

theorem jackFollowAll_fld (s : State) (f : Fld) : (jackFollowAll s).fld f = s.fld f := by rw [← fldOf_regs, jackFollowAll_regs, fldOf_regs]

/-- A force that waits for the take point (R320). -/
theorem jackForceWrite_early {v : Nat} (hv : v ≠ 0) (hc : s.cyc < 2048) : ((jackForceWrite j v s).jk j).force = some v ∧
    (jackForceWrite j v s).regs = s.regs := by
  rw [jackForceWrite, if_neg hv, if_pos hc, State.jk_setJk]
  exact ⟨rfl, rfl⟩

/-- A force after the take point acts at once (R320). -/
theorem jackForceWrite_late {v : Nat} (hv : v ≠ 0) (hc : 2048 ≤ s.cyc) (f : Fld) : (jackForceWrite j v s).fld f = (jackForce j v s).fld f := by
  rw [jackForceWrite, if_neg hv, if_neg (by omega), jackFollowAll_fld]

/-- A forced state (R320). -/
theorem jackForce_shows {v : Nat} (he : s.on (F.JK_CFG_EN j) = true) (hv : v = 1 ∨ v = 2) :
    (jackForce j v s).fld (F.JK_STAT_STATE j) = v ∧ (jackForce j v s).fld (F.JK_STAT_FORCED j) = 1 := by
  have hforce : jackForce j v s = ((jackMove j v ((s.tick * 5120 + s.cyc : Nat) : Int) s).setJk j
      { (jackMove j v ((s.tick * 5120 + s.cyc : Nat) : Int) s).jk j with side := 0 }).setFld (F.JK_STAT_FORCED j) 1 := by
    rw [jackForce, if_neg (by rw [he]; decide), if_neg (by omega)]
  rw [hforce]
  refine ⟨?_, State.fld_setFld_one _ (Fld.flag_sure rfl)⟩
  rw [State.fld_setFld_off _ _ (Fld.apart_sure rfl), State.fld_setJk, jackMove]
  rw [State.fld_setFld_off _ _ (Fld.apart_sure rfl), State.fld_setFld_off _ _ (Fld.apart_sure rfl),
    State.fld_setFld_fits _ (of_decide_eq_true rfl) (by rw [show (F.JK_STAT_STATE j).width = 2 from rfl]; omega)]

/-- A released force leaves the jack undecided (R320). -/
theorem jackForce_release (he : s.on (F.JK_CFG_EN j) = true) :
    (jackForce j 3 s).fld (F.JK_STAT_STATE j) = 0 ∧ (jackForce j 3 s).fld (F.JK_STAT_FORCED j) = 0 := by
  rw [jackForce, if_neg (by rw [he]; decide), if_pos rfl, jackUndecide]
  rw [State.fld_setFld_off _ _ (Fld.apart_sure rfl), State.fld_setFld_off _ _ (Fld.apart_sure rfl), State.fld_setFld_zero _ (of_decide_eq_true rfl),
    State.fld_setFld_zero _ (of_decide_eq_true rfl)]
  exact ⟨rfl, rfl⟩

/-- The event of an ambiguity is kept, counted and raised, and nothing else that shows on the jack changes (R319, R327). -/
theorem jackPost_ambig (stamp : Int) (level : Nat) (hj : j < 12) :
    (jackPost j 4 stamp level s).jack.events = s.jack.events ++ [⟨j, stamp, 4, 0, BitVec.ofNat 32 level⟩] ∧
    Counted s (jackPost j 4 stamp level s) F.JACK_CNT_EV_CNT ∧ (jackPost j 4 stamp level s).fld (F.pgInt Pg.jack 3) = 1 ∧
    ∀ f : Fld, f.addr = Adr.JK_STAT j → (jackPost j 4 stamp level s).fld f = s.fld f := by
  have hstat : Adr.JK_STAT j ≠ Adr.JACK_CNT ∧ Adr.JK_STAT j ≠ Pg.jack * 4096 + 16 := by
    simp only [Adr.JK_STAT, Adr.JACK_CNT, Pg.jack]
    omega
  refine ⟨by simp [jackPost, State.when_false], ?_, State.fld_raise_self _ (by decide), fun f hf => ?_⟩
  · exact State.counted_raise (by decide) (by decide)
  · exact (State.fld_raise_other _ (by rw [hf]; exact hstat.2)).trans
      (State.fld_bump_off _ (.inr (.inr (by rw [hf]; exact hstat.1))) (.inr (.inr (by rw [hf]; exact hstat.1))))

/-- An output that rests unpowered and is not wanted stays so (R325). -/
theorem outPower_off (hp : (s.och o).phase = 0) (hs : (s.och o).switch = false) (hw : outWants o s = false) :
    ((outPower o s).och o).phase = 0 ∧ ((outPower o s).och o).switch = false := by
  have hcut (u : State) : ((outCut o u).och o).phase = 0 ∧ ((outCut o u).och o).switch = false := by
    rw [outCut_shows.2]
    exact ⟨rfl, rfl⟩
  unfold outPower
  dsimp only
  by_cases hv : (!s.on F.PWR_STATUS_VAH_OK) = true
  · rw [if_pos hv]
    exact hcut _
  · rw [if_neg hv]
    by_cases hf : outFaulted (s.och o) = true
    · rw [if_pos hf]
      by_cases ht : rampRests (s.och o).trip = true
      · rw [if_pos ht]
        exact hcut _
      · rw [if_neg ht]
        exact ⟨hp, hs⟩
    · rw [if_neg hf, if_neg (by rw [hw]; decide), if_neg (by omega), if_neg (by omega), if_neg (by omega)]
      exact ⟨hp, hs⟩

theorem outWants_setOch {x : OutCh} (h : outFaulted x = outFaulted (s.och o)) : outWants o (s.setOch o x) = outWants o s := by
  unfold outWants
  rw [State.och_setOch, h]
  rfl

end

end Sys2Proof.Machine

namespace Sys2Proof

open Machine

/-- Settles O30, each clause by its branch of the command: an ambiguity told, a force that waits or acts, the end of a plug wait and the steps of the two ramps. -/
theorem jackCommandsComplete : Obligations.JackCommandsComplete := by
  intro s
  refine ⟨?_, ?_, ?_, ?_, ?_, ?_, ?_, ?_, ?_⟩
  · intro j t0 hr he hd hs ht hst ha
    have hdue : (s.fld (F.JK_CFG_DECIDE j) != 0 && decide (t0 + msCyc (s.fld (F.JK_CFG_DECIDE j)) ≤ ((s.tick * 5120 + s.cyc : Nat) : Int)) &&
        jackState j s == 0 && s.on (F.JK_CFG_EN j) && !s.on (F.JK_STAT_AMBIG j)) = true := by
      rw [decide_eq_true ht, he, (State.not_on_iff s).mpr ha, jackState, hst]
      simp [hd]
    rw [exec, execJackAmbig]
    dsimp only
    rw [completes_ticking hr, hs, if_pos hdue]
    obtain ⟨hev, hcnt, hint, hfld⟩ := jackPost_ambig (s := s.setFld (F.JK_STAT_AMBIG j) 1) (s.jk j).lastT (s.fld (F.JK_LVL_LEVEL j)) j.isLt
    refine ⟨?_, ?_, hint, ?_, ?_⟩
    · rw [hfld _ rfl, State.fld_setFld_one _ (Fld.flag_sure rfl)]
    · rw [hfld _ rfl, State.fld_setFld_off _ _ (Fld.apart_sure rfl), hst]
    · rw [Counted, hcnt, State.fld_setFld_off _ _ (.inr (.inr (by simp only [F.JK_STAT_AMBIG, Adr.JK_STAT, F.JACK_CNT_EV_CNT, Adr.JACK_CNT]; omega)))]
    · exact hev.trans (by simp)
  · intro cyc j hp hc
    refine ⟨?_, ?_, ?_⟩
    · rw [exec, execJackForceRemoved, completes_heard hp]
      exact jackForceWrite_early (by decide) hc
    · rw [exec, execJackForceInserted, completes_heard hp]
      exact jackForceWrite_early (by decide) hc
    · rw [exec, execJackForceRelease, completes_heard hp]
      exact jackForceWrite_early (by decide) hc
  · intro cyc j hp hc he
    refine ⟨?_, ?_, ?_⟩
    · rw [exec, execJackForceRemoved, completes_heard hp, jackForceWrite_late (by decide) hc, jackForceWrite_late (by decide) hc]
      exact jackForce_shows he (.inl rfl)
    · rw [exec, execJackForceInserted, completes_heard hp, jackForceWrite_late (by decide) hc, jackForceWrite_late (by decide) hc]
      exact jackForce_shows he (.inr rfl)
    · rw [exec, execJackForceRelease, completes_heard hp, jackForceWrite_late (by decide) hc, jackForceWrite_late (by decide) hc]
      exact jackForce_release he
  · intro o d hr hw hd hpre
    rw [exec, execPlugWaitEnd, completes_ticking hr, hw]
    simp only [Nat.not_lt.mpr hd, hpre, if_false, Bool.false_eq_true, State.bind_setBind]
  · intro o hr h1 hd
    rw [exec, execPowerUpRampStep, completes_ticking hr, State.och_congr (outShow_out ..), outUpStep]
    dsimp only
    rw [if_pos ⟨h1, hd⟩, State.och_setOch]
  · intro o hr h2 hd
    rw [exec, execPowerUpRampStep, completes_ticking hr, State.och_congr (outShow_out ..), outUpStep]
    dsimp only
    rw [if_neg (by omega), if_pos ⟨h2, hd⟩, State.och_setOch]
  · intro o hr h3 hd
    rw [exec, execPowerUpRampStep, completes_ticking hr, State.och_congr (outShow_out ..), outUpStep]
    dsimp only
    rw [if_neg (by omega), if_neg (by omega), if_pos ⟨h3, hd⟩, State.och_congr (outShow_out ..), State.och_setOch]
  · intro o hr h5 hd
    rw [exec, execPowerDownRampStep, completes_ticking hr, State.och_congr (outShow_out ..), outDownStep]
    dsimp only
    rw [if_pos ⟨h5, hd⟩, State.och_setOch]
  · intro o hr h6 hd hw
    rw [exec, execPowerDownRampStep, completes_ticking hr, State.och_congr (outShow_out ..), outDownStep,
      if_neg (by omega), if_pos ⟨h6, hd⟩]
    refine outPower_off (by rw [State.och_setOch]) (by rw [State.och_setOch]) ?_
    rw [outWants_setOch (by rfl), hw]
end Sys2Proof

/-!
The control-voltage outputs (R335, R336, R338, R341): what a fire of a timer does to the channels bound to it, and what trips, excursions and
restores leave behind.
-/

namespace Sys2Proof.Machine

section

variable {β : Type} {ws : Nat → Prop} {E : State → β} {s0 s : State} {n q : Nat}

/-- A reading that does not show what a consumer of queue `q` changes: the queue and the free list. -/
def HidesCells (q : Nat) (E : State → β) : Prop := ∀ (u : State) x r a b c, E { u with qmg := { u.qmg with
  queues := SMap.set (fun _ => {}) u.qmg.queues q x, returned := r, freeList := a, freeState := b, heldTotal := c } } = E u

theorem HidesCells.setQueue (hE : HidesCells q E) (x : Queue) (h : Only ws E s0 s) : Only ws E s0 (s.setQueue q x) :=
  h.update rfl (hE { s with regs := [] } x ..)

theorem qXoff_onlyShown (hs : ws (Adr.QMG_QSTAT q)) (hi : ws (Pg.qmg * 4096 + 16)) (h : Only ws E s0 s) : Only ws E s0 (qXoff q s) :=
  .ite (.ite (State.raise_only hi (State.setFld_only hs h)) h) (.ite (State.raise_only hi (State.setFld_only hs h)) h)

/-- A queue after cells left it. -/
theorem qFree_onlyCells {cells : List Nat} (hE : HidesCells q E) (hs : ws (Adr.QMG_QSTAT q)) (hi : ws (Pg.qmg * 4096 + 16)) (h : Only ws E s0 s) :
    Only ws E s0 (qFree q cells s) := by
  unfold qFree
  exact .ite h (qXoff_onlyShown hs hi (h.update rfl (hE { s with regs := [] } ..)))

theorem qSettle_onlyCells (hE : HidesCells q E) (hs : ws (Adr.QMG_QSTAT q)) (hi : ws (Pg.qmg * 4096 + 16)) (h : Only ws E s0 s) :
    Only ws E s0 (qSettle q s) := by
  unfold qSettle
  dsimp only
  split
  · exact h
  · exact qFree_onlyCells hE hs hi (hE.setQueue _ h)

theorem cvWord_only {fuel : Nat} (hE : HidesCells q E) (hs : ws (Adr.QMG_QSTAT q)) (hi : ws (Pg.qmg * 4096 + 16)) (hc : ws (Adr.CV_CNT2 n))
    (h : Only ws E s0 s) : Only ws E s0 (cvWord n q fuel s).2 := by
  have hadv (k : Nat) {u : State} (h : Only ws E s0 u) : Only ws E s0 (qAdvance q k u) := qSettle_onlyCells hE hs hi (hE.setQueue _ h)
  have hpass {u : State} (h : Only ws E s0 u) : Only ws E s0 (qPass q u) := qSettle_onlyCells hE hs hi (hE.setQueue _ h)
  have hite {c : Prop} {_d : Decidable c} {x y : Option Word × State} (hx : Only ws E s0 x.2) (hy : Only ws E s0 y.2) :
      Only ws E s0 (if c then x else y).2 := by split <;> assumption
  induction fuel generalizing s with
  | zero => exact h
  | succ k ih =>
    unfold cvWord
    split
    · exact h
    · exact hite (hadv 4 h) (hite h (hite (ih (hpass h)) (ih (State.bump_only hc hc (hadv _ h)))))

/-- A reading that does not show channel `n`. -/
def HidesCvch (n : Nat) (E : State → β) : Prop := ∀ (u : State) x, E (u.setCvch n x) = E u

theorem HidesCvch.only (hE : HidesCvch n E) (x : CvCh) (h : Only ws E s0 s) : Only ws E s0 (s.setCvch n x) :=
  h.update rfl (hE { s with regs := [] } x)

/-- The registers in which channel `n` shows its state. -/
def CvRegs (n : Nat) (ws : Nat → Prop) : Prop :=
  ws (Adr.CV_STAT n) ∧ ws (Adr.CV_VOUT n) ∧ ws (Adr.CV_CNT1 n) ∧ ws (Adr.CV_CNT2 n) ∧ ws Adr.CV_SUMMARY ∧ ws (Pg.cv * 4096 + 16)

theorem cvShow_only (hs : ws (Adr.CV_STAT n)) (hsum : ws Adr.CV_SUMMARY) (h : Only ws E s0 s) : Only ws E s0 (cvShow n s) :=
  State.setOn_only hsum (State.setOn_only hs (State.setFld_only hs h))

section

variable (hE : HidesCvch n E) (hw : CvRegs n ws)

include hE hw

theorem cvPut_only {v : Int} (hF : HidesFresh (Adr.CV_VOUT n) E) (h : Only ws E s0 s) : Only ws E s0 (cvPut n v s) := by
  obtain ⟨-, hv, -⟩ := hw
  exact .when (fun _ h => State.post_only hv hF h) (hE.only _ h)

theorem cvValue_only (hF : HidesFresh (Adr.CV_VOUT n) E) (h : Only ws E s0 s) : Only ws E s0 (cvValue n s) := by
  obtain ⟨hs, -, hc, -, -, hi⟩ := id hw
  have hclamp := State.setFld_only (v := 0) (f := F.CV_STAT_CLAMP n) hs h
  unfold cvValue
  dsimp only
  exact .ite (cvPut_only hE hw hF (State.setFld_only hs hclamp)) (.ite (cvPut_only hE hw hF (State.setFld_only hs h))
    (.ite (cvPut_only hE hw hF (State.setOn_only hs hclamp)) (cvPut_only hE hw hF (State.setOn_only hs
      (.when (fun _ h => State.raise_only hi (State.bump_only hc hc h)) (State.setOn_only hs h))))))

omit hE in
theorem cvUnder_only (h : Only ws E s0 s) : Only ws E s0 (cvUnder n s) := by
  obtain ⟨hs, -, -, hc, -, hi⟩ := hw
  exact State.raise_only hi (State.bump_only hc hc (State.setFld_only hs h))

theorem cvFire_only (hq : s.fld (F.CV_CFG_QID n) = q) (hQ : HidesCells q E) (hqs : ws (Adr.QMG_QSTAT q)) (hqi : ws (Pg.qmg * 4096 + 16))
    (h : Only ws E s0 s) : Only ws E s0 (cvFire n s) := by
  obtain ⟨hs, -, -, hc, -⟩ := id hw
  subst hq
  have hword := cvWord_only (fuel := (s.queue (s.fld (F.CV_CFG_QID n))).sigs.length + 1) hQ hqs hqi hc h
  unfold cvFire
  refine .ite (State.setFld_only hs (hE.only _ h)) ?_
  dsimp only
  refine .ite (cvUnder_only hw h) ?_
  split
  case h_1 e => exact State.setFld_only hs (hE.only _ (by rw [e] at hword; exact hword))
  case h_2 e => exact cvUnder_only hw (by rw [e] at hword; exact hword)

end

/-- One channel's part of a fire (R335, R336). -/
def fireStep (n : Nat) (s : State) : State := cvShow n (cvValue n (s.when ((s.cvch n).fault == 0) (cvFire n)))

theorem fireStep_only (hE : HidesCvch n E) (hw : CvRegs n ws) (hF : HidesFresh (Adr.CV_VOUT n) E) (hq : s.fld (F.CV_CFG_QID n) = q)
    (hQ : HidesCells q E) (hqs : ws (Adr.QMG_QSTAT q)) (hqi : ws (Pg.qmg * 4096 + 16)) (h : Only ws E s0 s) : Only ws E s0 (fireStep n s) :=
  cvShow_only hw.1 hw.2.2.2.2.1 (cvValue_only hE hw hF (.ite (cvFire_only hE hw hq hQ hqs hqi h) h))

end

/-- What channel `n` shows and keeps stays, its values aside. -/
structure ChanStays (n : Nat) (s t : State) : Prop where
  rep : (t.cvch n).rep = (s.cvch n).rep
  code : (t.cvch n).code = (s.cvch n).code
  avail : (t.cvch n).avail = (s.cvch n).avail
  fault : (t.cvch n).fault = (s.cvch n).fault
  under : t.fld (F.CV_STAT_UNDER n) = s.fld (F.CV_STAT_UNDER n)
  underrun : t.fld (F.CV_CNT2_UNDERRUN n) = s.fld (F.CV_CNT2_UNDERRUN n)
  told : s.fld (F.pgInt Pg.cv 2) = 1 → t.fld (F.pgInt Pg.cv 2) = 1

section

variable {s t u : State} {n : Nat}

theorem ChanStays.refl (n : Nat) (s : State) : ChanStays n s s := ⟨rfl, rfl, rfl, rfl, rfl, rfl, id⟩

theorem ChanStays.trans (h : ChanStays n s t) (k : ChanStays n t u) : ChanStays n s u :=
  ⟨k.rep.trans h.rep, k.code.trans h.code, k.avail.trans h.avail, k.fault.trans h.fault, k.under.trans h.under, k.underrun.trans h.underrun,
    fun hi => k.told (h.told hi)⟩

/-- A field apart from those that the relation reads. -/
theorem ChanStays.setFld (h : ChanStays n s t) {f : Fld} {v : Nat} (hu : f.Apart (F.CV_STAT_UNDER n)) (hc : f.Apart (F.CV_CNT2_UNDERRUN n))
    (hi : f.Apart (F.pgInt Pg.cv 2)) : ChanStays n s (t.setFld f v) :=
  h.trans ⟨by rw [State.cvch, State.setFld_cv, State.cvch], by rw [State.cvch, State.setFld_cv, State.cvch],
    by rw [State.cvch, State.setFld_cv, State.cvch], by rw [State.cvch, State.setFld_cv, State.cvch], State.fld_setFld_off _ _ hu,
    State.fld_setFld_off _ _ hc, fun h => (State.fld_setFld_off _ _ hi).trans h⟩

theorem ChanStays.of_cv (hch : t.cvch n = s.cvch n) (hf : ∀ f : Fld, f.addr = Adr.CV_STAT n ∨ f.addr = Adr.CV_CNT2 n → t.fld f = s.fld f)
    (hi : s.fld (F.pgInt Pg.cv 2) = 1 → t.fld (F.pgInt Pg.cv 2) = 1) : ChanStays n s t :=
  ⟨by rw [hch], by rw [hch], by rw [hch], by rw [hch], hf _ (.inl rfl), hf _ (.inr rfl), hi⟩

/-- A change that leaves the channel and the registers that the relation reads. -/
theorem ChanStays.only {ws : Nat → Prop} (k : Only ws (fun u => u.cvch n) s t) (hs : ¬ ws (Adr.CV_STAT n))
    (hc : ¬ ws (Adr.CV_CNT2 n)) (hi : ¬ ws (Pg.cv * 4096 + 16)) : ChanStays n s t :=
  .of_cv k.rest (fun f hf => k.fld (by obtain h | h := hf <;> rw [h] <;> assumption)) fun h => (k.fld hi).trans h

theorem cvAdr_apart (m n : Nat) : Adr.CV_STAT n ≠ Adr.CV_CNT2 m ∧ Adr.CV_STAT n ≠ Adr.CV_CNT1 m ∧ Adr.CV_CNT2 n ≠ Adr.CV_CNT1 m ∧
    Adr.CV_CNT2 n ≠ Adr.CV_STAT m ∧ Adr.CV_STAT n ≠ Adr.CV_VOUT m ∧ Adr.CV_CNT2 n ≠ Adr.CV_VOUT m ∧ Adr.CV_STAT n ≠ Pg.cv * 4096 + 16 ∧
    Adr.CV_CNT2 n ≠ Pg.cv * 4096 + 16 ∧ Adr.CV_STAT n ≠ Adr.CV_SUMMARY ∧ Adr.CV_CNT2 n ≠ Adr.CV_SUMMARY ∧
    Pg.cv * 4096 + 16 ≠ Adr.CV_STAT m ∧ Pg.cv * 4096 + 16 ≠ Adr.CV_CNT1 m ∧ Pg.cv * 4096 + 16 ≠ Adr.CV_CNT2 m ∧ Pg.cv * 4096 + 16 ≠ Adr.CV_VOUT m := by
  simp only [Adr.CV_STAT, Adr.CV_CNT1, Adr.CV_CNT2, Adr.CV_VOUT, Adr.CV_SUMMARY, Pg.cv]
  omega

theorem ChanStays.raise (h : ChanStays n s t) (k : Nat) : ChanStays n s (t.raise Pg.cv k) := by
  obtain ⟨-, -, -, -, -, -, hs, hc, -⟩ := cvAdr_apart n n
  refine h.trans (.of_cv (by rw [State.cvch, State.raise_cv, State.cvch]) (fun f hf => State.fld_raise_other _ ?_) fun h => State.raise_still (by decide) h)
  obtain h | h := hf <;> rw [h] <;> assumption

/-- The clip counter of any channel. -/
theorem ChanStays.clip (h : ChanStays n s t) (m : Nat) : ChanStays n s (t.bump (F.CV_CNT1_HB_CLIP_CNT m) (F.CV_CNT1_HC_SAT m)) := by
  obtain ⟨-, hs, hc, -, -, -, -, -, -, -, -, hi, -⟩ := cvAdr_apart m n
  refine h.trans (.of_cv (by rw [State.cvch, State.bump_cv, State.cvch]) (fun f hf => State.fld_bump_off _ ?_ ?_) fun h =>
    (State.fld_bump_off _ (.inr (.inr hi)) (.inr (.inr hi))).trans h)
  all_goals exact .inr (.inr (by obtain h | h := hf <;> rw [h] <;> assumption))

theorem ChanStays.setCvch_other (h : ChanStays n s t) {m : Nat} (hm : n ≠ m) (x : CvCh) : ChanStays n s (t.setCvch m x) :=
  h.trans (.of_cv (SMap.get_set_other _ _ _ hm) (fun _ _ => rfl) id)

/-- A value put into any channel. -/
theorem ChanStays.put (h : ChanStays n s t) (m : Nat) (v : Int) : ChanStays n s (cvPut m v t) := by
  obtain ⟨-, -, -, -, hs, hc, -, -, -, -, -, -, -, hi⟩ := cvAdr_apart m n
  have hpost (u : State) (hu : ChanStays n s u) (w : Word) : ChanStays n s (u.post (Adr.CV_VOUT m) w) :=
    hu.trans (.of_cv (by rw [State.cvch, State.post_cv, State.cvch])
      (fun f hf => State.fld_post_other _ _ (by obtain h | h := hf <;> rw [h] <;> assumption)) fun h => (State.fld_post_other _ _ hi).trans h)
  have hset : ChanStays n s (t.setCvch m { t.cvch m with
      v := v, dac := cvCode m v t, hist := (v :: (t.cvch m).hist).take 8
      change := if decide (100 * t.fld (F.CV_RB_CFG_RB_LIM m) < (v - (t.cvch m).v).natAbs) then some t.tick else (t.cvch m).change }) := by
    by_cases hm : n = m
    · subst hm
      have hch {x : CvCh} : (t.setCvch n x).cvch n = x := SMap.get_set_same ..
      exact h.trans ⟨by rw [hch], by rw [hch], by rw [hch], by rw [hch], rfl, rfl, id⟩
    · exact h.setCvch_other hm _
  unfold cvPut
  exact State.when_holds (P := ChanStays n s) hset fun h => hpost _ h _

/-- The fields of a channel's values and state, of any channel. -/
theorem ChanStays.stat (h : ChanStays n s t) {f : Fld} {m v : Nat} (hf : f.addr = Adr.CV_STAT m) (hu : f.hi < 7) : ChanStays n s (t.setFld f v) := by
  obtain ⟨-, -, -, hc, -, -, -, -, -, -, hi, -⟩ := cvAdr_apart m n
  exact h.setFld (.inl hu) (.inr (.inr (by rw [hf]; exact hc))) (.inr (.inr (by rw [hf]; exact hi)))

theorem ChanStays.value (h : ChanStays n s t) (m : Nat) : ChanStays n s (cvValue m t) := by
  have hclamp (v : Nat) {u : State} (h : ChanStays n s u) : ChanStays n s (u.setFld (F.CV_STAT_CLAMP m) v) := h.stat rfl (of_decide_eq_true rfl)
  have hslew (v : Nat) {u : State} (h : ChanStays n s u) : ChanStays n s (u.setFld (F.CV_STAT_SLEWING m) v) := h.stat rfl (of_decide_eq_true rfl)
  have hif {c : Prop} {_d : Decidable c} {a b : State} (ha : ChanStays n s a) (hb : ChanStays n s b) : ChanStays n s (if c then a else b) := by
    split <;> assumption
  unfold cvValue
  dsimp only
  refine hif ((hslew _ (hclamp _ h)).put ..) (hif ((hslew _ h).put ..) (hif ((hslew _ (hclamp _ h)).put ..) ((hslew _ ?_).put ..)))
  exact State.when_holds (P := ChanStays n s) (hclamp _ h) fun h => (h.clip m).raise 3

theorem ChanStays.shown (h : ChanStays n s t) (m : Nat) : ChanStays n s (cvShow m t) := by
  obtain ⟨-, -, -, -, -, -, -, -, hs, hc, -⟩ := cvAdr_apart m n
  unfold cvShow
  exact ((h.stat rfl (of_decide_eq_true rfl)).stat rfl (of_decide_eq_true rfl)).setFld (.inr (.inr hs)) (.inr (.inr hc)) (.inr (.inr (of_decide_eq_true rfl)))

/-- A word taken from a channel's queue leaves the other channels. -/
theorem cvWord_stays {m q fuel : Nat} (hm : n ≠ m) (hq : q < 4096) : ChanStays n s (cvWord m q fuel s).2 := by
  have honly : Only (fun a => a = Adr.QMG_QSTAT q ∨ a = Pg.qmg * 4096 + 16 ∨ a = Adr.CV_CNT2 m) (fun u => u.cvch n) s (cvWord m q fuel s).2 :=
    cvWord_only (fun _ _ _ _ _ _ => rfl) (.inl rfl) (.inr (.inl rfl)) (.inr (.inr rfl)) (.refl s)
  refine .only honly ?_ ?_ ?_
  all_goals simp only [Adr.CV_STAT, Adr.CV_CNT2, Adr.QMG_QSTAT, Pg.qmg, Pg.cv]; omega

/-- A fire that reaches another channel. -/
theorem cvFire_stays {m : Nat} (hm : n ≠ m) : ChanStays n s (cvFire m s) := by
  have hss : Adr.CV_STAT n ≠ Adr.CV_STAT m := by simp only [Adr.CV_STAT]; omega
  have hcc : Adr.CV_CNT2 n ≠ Adr.CV_CNT2 m := by simp only [Adr.CV_CNT2]; omega
  obtain ⟨hsc, -, -, hcs, -, -, -, -, -, -, his, -, hic, -⟩ := cvAdr_apart m n
  have hflag (v : Nat) {u : State} (h : ChanStays n s u) : ChanStays n s (u.setFld (F.CV_STAT_UNDER m) v) :=
    h.setFld (.inr (.inr hss)) (.inr (.inr hcs)) (.inr (.inr his))
  have hunder {u : State} (h : ChanStays n s u) : ChanStays n s (cvUnder m u) :=
    ChanStays.raise ((hflag 1 h).trans (.of_cv (by rw [State.cvch, State.bump_cv, State.cvch])
      (fun f hf => State.fld_bump_off _ (.inr (.inr (by obtain h | h := hf <;> rw [h] <;> assumption))) (.inr (.inr (by obtain h | h := hf <;> rw [h] <;> assumption))))
      fun h => (State.fld_bump_off _ (.inr (.inr hic)) (.inr (.inr hic))).trans h)) 2
  have hq : s.fld (F.CV_CFG_QID m) < 4096 := s.fld_lt _
  have hword := cvWord_stays (s := s) (fuel := (s.queue (s.fld (F.CV_CFG_QID m))).sigs.length + 1) hm hq
  unfold cvFire
  dsimp only
  split
  · exact hflag 0 ((ChanStays.refl n s).setCvch_other hm _)
  · split
    · exact hunder (.refl n s)
    · split
      case h_1 e => exact hflag 0 ((show ChanStays n s _ by rw [e] at hword; exact hword).setCvch_other hm _)
      case h_2 e => exact hunder (by rw [e] at hword; exact hword)

theorem fireStep_stays {m : Nat} (hm : n ≠ m) : ChanStays n s (fireStep m s) :=
  ((State.when_holds (P := ChanStays n s) (.refl n s) fun _ => cvFire_stays hm).value m).shown m

theorem fireSteps_stay {l : List Nat} (hn : n ∉ l) : ChanStays n s (s.eachOf l fireStep) :=
  List.foldlRecOn (motive := ChanStays n s) _ _ (.refl n s) fun _ h _ hm => h.trans (fireStep_stays (fun e => hn (e ▸ hm)))

/-- A fire that reaches the channel itself while a word repeats (R335). -/
theorem fireStep_repeats {r : Nat} (hr : (s.cvch n).rep = r + 1) (hf : (s.cvch n).fault = 0) :
    ((fireStep n s).cvch n).rep = r ∧ ((fireStep n s).cvch n).code = (s.cvch n).code ∧ (fireStep n s).fld (F.CV_STAT_UNDER n) = 0 := by
  have hfire : s.when ((s.cvch n).fault == 0) (cvFire n) = (s.setCvch n { s.cvch n with rep := r }).setFld (F.CV_STAT_UNDER n) 0 := by
    rw [hf, beq_self_eq_true, State.when_true, cvFire]
    dsimp only
    rw [if_pos (by omega), hr, Nat.add_sub_cancel]
  have h := ((ChanStays.refl n ((s.setCvch n { s.cvch n with rep := r }).setFld (F.CV_STAT_UNDER n) 0)).value n).shown n
  have hch : ((s.setCvch n { s.cvch n with rep := r }).setFld (F.CV_STAT_UNDER n) 0).cvch n = { s.cvch n with rep := r } := by
    rw [State.cvch, State.setFld_cv]
    exact SMap.get_set_same ..
  rw [fireStep, hfire]
  exact ⟨h.rep.trans (by rw [hch]), h.code.trans (by rw [hch]), h.under.trans (State.fld_setFld_zero _ (of_decide_eq_true rfl))⟩

/-- A fire that finds no word for the channel itself (R335). -/
theorem fireStep_under (hr : (s.cvch n).rep = 0) (ha : (s.cvch n).avail = false) (hf : (s.cvch n).fault = 0) :
    ((fireStep n s).cvch n).code = (s.cvch n).code ∧ (fireStep n s).fld (F.CV_STAT_UNDER n) = 1 ∧
    Counted s (fireStep n s) (F.CV_CNT2_UNDERRUN n) ∧ (fireStep n s).fld (F.pgInt Pg.cv 2) = 1 := by
  have hfire : s.when ((s.cvch n).fault == 0) (cvFire n) = cvUnder n s := by
    rw [hf, beq_self_eq_true, State.when_true, cvFire]
    dsimp only
    rw [if_neg (by omega), if_pos (by rw [ha]; rfl)]
  obtain ⟨hsc, -, -, -, -, -, hs, hc, -⟩ := cvAdr_apart n n
  have h := ((ChanStays.refl n (cvUnder n s)).value n).shown n
  rw [fireStep, hfire]
  refine ⟨h.code.trans (by simp [cvUnder, State.cvch]), h.under.trans ?_, h.underrun.trans ?_, h.told (State.fld_raise_self _ (by decide))⟩
  · rw [cvUnder, State.fld_raise_other _ hs, State.fld_bump_off _ (.inr (.inr hsc)) (.inr (.inr hsc)), State.fld_setFld_one _ (Fld.flag_sure rfl)]
  · rw [cvUnder, State.counted_raise (of_decide_eq_true rfl) hc, State.fld_setFld_off _ _ (.inr (.inr hsc.symm))]

/-- The channels bound to timer `k` whose values wait for its fire (R335). -/
def boundTo (k : Nat) (s : State) : List Nat := (List.range 16).filter (fun n => cvWaits n s && s.fld (F.CV_CFG_TIMER n) == k)

theorem tmrFire_due {k d : Nat} (hn : (s.tmr k).next = some d) (hd : d ≤ s.tick) : tmrFire k s =
    ((s.setTmr k { s.tmr k with next := some (d + (s.tmr k).period) }).setFld (F.TMR_CTRL_RUNNING k) 1).eachOf (boundTo k s) fireStep := by
  unfold tmrFire
  dsimp only
  rw [hn]
  dsimp only
  rw [if_neg (by omega)]
  rfl

/-- What a fire leaves in a timer: no channel's part touches it (R336). -/
theorem fireSteps_timer {k : Nat} (hk : k < 4) {l : List Nat} :
    (s.eachOf l fireStep).tmr k = s.tmr k ∧ (s.eachOf l fireStep).fld (F.TMR_CTRL_RUNNING k) = s.fld (F.TMR_CTRL_RUNNING k) := by
  have honly : Only (fun a => a ≠ Adr.TMR_CTRL k) (fun u => u.tmr k) s (s.eachOf l fireStep) := by
    refine .eachOf (fun m _ u h => ?_) (.refl s)
    have hq : u.fld (F.CV_CFG_QID m) < 4096 := u.fld_lt _
    refine fireStep_only (fun _ _ => rfl) ?_ (fun _ _ => rfl) rfl (fun _ _ _ _ _ _ => rfl) ?_ (by simp only [Pg.qmg, Adr.TMR_CTRL]; omega) h
    · simp only [CvRegs, Adr.CV_STAT, Adr.CV_VOUT, Adr.CV_CNT1, Adr.CV_CNT2, Adr.CV_SUMMARY, Pg.cv, Adr.TMR_CTRL]
      omega
    · simp only [Adr.QMG_QSTAT, Adr.TMR_CTRL]
      omega
  exact ⟨honly.rest, honly.fld (fun h => h rfl)⟩

/-- Each bound channel's part of a fire acts on what the channel was before the fire (R335). -/
theorem fireSteps_split {k n : Nat} (hn : n ∈ boundTo k s) (u : State) : ∃ v, ChanStays n u v ∧ ChanStays n (fireStep n v) (u.eachOf (boundTo k s) fireStep) := by
  obtain ⟨l, r, hl⟩ := List.append_of_mem hn
  have hnd : (boundTo k s).Nodup := List.nodup_range.filter _
  rw [hl, (List.perm_middle (a := n) (l₁ := l) (l₂ := r)).nodup_iff, List.nodup_cons, List.mem_append, not_or] at hnd
  refine ⟨u.eachOf l fireStep, fireSteps_stay hnd.1.1, ?_⟩
  rw [hl]
  show ChanStays n _ ((l ++ n :: r).foldl (fun s k => fireStep k s) u)
  rw [List.foldl_append, List.foldl_cons]
  exact fireSteps_stay hnd.1.2

theorem State.fld_setTmr (s : State) (k : Nat) (x : Tmr) (f : Fld) : (s.setTmr k x).fld f = s.fld f := rfl

theorem State.tmr_setTmr (s : State) (k : Nat) (x : Tmr) : (s.setTmr k x).tmr k = x := SMap.get_set_same ..

theorem State.tmr_setFld (s : State) (k : Nat) (f : Fld) (v : Nat) : (s.setFld f v).tmr k = s.tmr k := by rw [State.tmr, State.setFld_cv, State.tmr]

/-- ARM, early or late (R336). -/
theorem tmrArm_shows {k start : Nat} (hk : k < 4) (hstart : start = s.fld (F.TMR_START_HI_START_HI k) * 2 ^ 32 + s.fld (F.TMR_START_LO_START_LO k)) :
    (tmrArm k s).fld (F.TMR_CTRL_ARMED k) = 1 ∧ (tmrArm k s).fld (F.TMR_CTRL_RUNNING k) = 0 ∧
    (if s.tick < start then (tmrArm k s).fld (F.TMR_CTRL_LATE_CNT k) = s.fld (F.TMR_CTRL_LATE_CNT k)
      else Counted s (tmrArm k s) (F.TMR_CTRL_LATE_CNT k) ∧ (tmrArm k s).fld (F.pgInt Pg.cv 5) = 1) ∧
    (tmrArm k s).tmr k = { period := s.fld (F.TMR_PERIOD_PERIOD k)
                           next := if s.fld (F.TMR_PERIOD_PERIOD k) = 0 then none else some (max start (s.tick + 1)) } := by
  have hctrl : (F.TMR_CTRL_LATE_CNT k).addr ≠ Pg.cv * 4096 + 16 := by simp only [F.TMR_CTRL_LATE_CNT, Adr.TMR_CTRL, Pg.cv]; omega
  have hint : (F.pgInt Pg.cv 5).addr ≠ Adr.TMR_CTRL k := by simp only [F.pgInt, Adr.TMR_CTRL, Pg.cv]; omega
  have hcnt (u : State) : ((u.setFld (F.TMR_CTRL_ARMED k) 1).setFld (F.TMR_CTRL_RUNNING k) 0).fld (F.TMR_CTRL_LATE_CNT k) =
      u.fld (F.TMR_CTRL_LATE_CNT k) := by
    rw [State.fld_setFld_off _ _ (Fld.apart_sure rfl), State.fld_setFld_off _ _ (Fld.apart_sure rfl)]
  have htick : (s.when (decide (start ≤ s.tick)) (fun s => (s.bump (F.TMR_CTRL_LATE_CNT k) (F.TMR_CTRL_LT_SAT k)).raise Pg.cv 5)).tick = s.tick :=
    State.when_keeps (·.tick) (by simp)
  unfold tmrArm
  dsimp only
  rw [← hstart, hcnt, State.tmr_setFld, State.tmr_setFld, State.tmr_setTmr, State.fld_setTmr, htick]
  refine ⟨?_, State.fld_setFld_zero _ (of_decide_eq_true rfl), ?_, ?_⟩
  · rw [State.fld_setFld_off _ _ (Fld.apart_sure rfl), State.fld_setFld_one _ (Fld.flag_sure rfl)]
  · by_cases hlate : start ≤ s.tick
    · rw [if_neg (by omega), decide_eq_true hlate, State.when_true]
      refine ⟨by rw [Counted, hcnt, State.fld_setTmr, State.counted_raise (of_decide_eq_true rfl) hctrl], ?_⟩
      rw [State.fld_setFld_off _ _ (.inr (.inr hint)), State.fld_setFld_off _ _ (.inr (.inr hint)), State.fld_setTmr]
      exact State.fld_raise_self _ (by decide)
    · rw [if_pos (by omega), decide_eq_false hlate, State.when_false]
  · by_cases hlate : start ≤ s.tick
    · rw [decide_eq_true hlate, if_pos rfl, Nat.max_eq_right (by omega)]
    · rw [decide_eq_false hlate, if_neg Bool.false_ne_true, Nat.max_eq_left (by omega)]

/-- A timer's fire leaves it running to its next instant (R336). -/
theorem tmrFire_shows {k d : Nat} (hk : k < 4) (hn : (s.tmr k).next = some d) (hd : d ≤ s.tick) :
    (tmrFire k s).fld (F.TMR_CTRL_RUNNING k) = 1 ∧ ((tmrFire k s).tmr k).next = some (d + (s.tmr k).period) := by
  rw [tmrFire_due hn hd, (fireSteps_timer hk).1, (fireSteps_timer hk).2, State.tmr_setFld, State.tmr_setTmr]
  exact ⟨State.fld_setFld_one _ (Fld.flag_sure rfl), rfl⟩

/-- What a fire makes of a channel bound to its timer (R335). -/
theorem tmrFire_channel {k d n : Nat} (hk : k < 4) (hnext : (s.tmr k).next = some d) (hd : d ≤ s.tick) (hn : n < 16) (hw : cvWaits n s = true)
    (ht : s.fld (F.CV_CFG_TIMER n) = k) (hf : (s.cvch n).fault = 0) :
    (∀ r : Nat, (s.cvch n).rep = r + 1 → ((tmrFire k s).cvch n).rep = r ∧ ((tmrFire k s).cvch n).code = (s.cvch n).code ∧
      (tmrFire k s).fld (F.CV_STAT_UNDER n) = 0) ∧
    ((s.cvch n).rep = 0 → (s.cvch n).avail = false → ((tmrFire k s).cvch n).code = (s.cvch n).code ∧ (tmrFire k s).fld (F.CV_STAT_UNDER n) = 1 ∧
      Counted s (tmrFire k s) (F.CV_CNT2_UNDERRUN n) ∧ (tmrFire k s).fld (F.pgInt Pg.cv 2) = 1) := by
  have hmem : n ∈ boundTo k s := by
    rw [boundTo, List.mem_filter, List.mem_range]
    exact ⟨hn, by rw [hw, ht, beq_self_eq_true]; rfl⟩
  have hset : ChanStays n s ((s.setTmr k { s.tmr k with next := some (d + (s.tmr k).period) }).setFld (F.TMR_CTRL_RUNNING k) 1) := by
    have htmr : ChanStays n s (s.setTmr k { s.tmr k with next := some (d + (s.tmr k).period) }) := .of_cv rfl (fun _ _ => rfl) id
    refine htmr.setFld ?_ ?_ ?_
    all_goals exact .inr (.inr (by simp only [F.CV_STAT_UNDER, Adr.CV_STAT, F.CV_CNT2_UNDERRUN, Adr.CV_CNT2, F.pgInt, Pg.cv, F.TMR_CTRL_RUNNING, Adr.TMR_CTRL]; omega))
  rw [tmrFire_due hnext hd]
  obtain ⟨v, hbefore, hafter⟩ := fireSteps_split hmem ((s.setTmr k { s.tmr k with next := some (d + (s.tmr k).period) }).setFld (F.TMR_CTRL_RUNNING k) 1)
  have hv := hset.trans hbefore
  refine ⟨fun r hr => ?_, fun hr ha => ?_⟩
  · obtain ⟨hrep, hcode, hunder⟩ := fireStep_repeats (hv.rep.trans hr) (hv.fault.trans hf)
    exact ⟨hafter.rep.trans hrep, hafter.code.trans (hcode.trans hv.code), hafter.under.trans hunder⟩
  · obtain ⟨hcode, hunder, hcnt, hint⟩ := fireStep_under (hv.rep.trans hr) (hv.avail.trans ha) (hv.fault.trans hf)
    rw [Counted, hv.underrun] at hcnt
    exact ⟨hafter.code.trans (hcode.trans hv.code), hafter.under.trans hunder, hafter.underrun.trans hcnt, hafter.told hint⟩

theorem State.cvch_setCvch (n : Nat) (x : CvCh) (s : State) : (s.setCvch n x).cvch n = x := SMap.get_set_same ..

theorem State.cvch_congr {t : State} (h : t.cv = s.cv) (n : Nat) : t.cvch n = s.cvch n := by rw [State.cvch, h, State.cvch]

/-- A channel that trips and was not FAULTED goes to code 0 (R341). -/
theorem cvFail_shows {n code : Nat} {t : State} (ht : t.cv = s.cv) (hflt : t.flt = s.flt) (h : (s.cvch n).fault = 0) :
    (cvFail n code t).cvch n = { s.cvch n with fault := code, v := 0, dac := 0 } ∧ Reported s (cvFail n code t) code n 4 ∧
    ∀ f : Fld, f.addr ≠ Adr.CV_STAT n → f.addr ≠ Adr.CV_SUMMARY → (cvFail n code t).fld f = t.fld f := by
  have hshow (u : State) : (cvShow n u).cv = u.cv ∧ (cvShow n u).flt = u.flt := by simp [cvShow]
  have hch : t.cvch n = s.cvch n := State.cvch_congr ht n
  have hfail : cvFail n code t = cvShow n ((t.setCvch n { s.cvch n with fault := code, v := 0, dac := 0 }).report code n 4) := by
    rw [cvFail, hch]
    exact if_neg (by simp [h])
  rw [hfail]
  refine ⟨?_, ?_, fun f hs hsum => ?_⟩
  · rw [State.cvch_congr (hshow _).1, State.cvch_congr (State.report_cv ..), State.cvch_setCvch]
  · rw [Reported, (hshow _).2, ← hflt]
    rfl
  · rw [cvShow, State.fld_setOn_off _ _ (.inr (.inr hsum)), State.fld_setOn_off _ _ (.inr (.inr hs)), State.fld_setFld_off _ _ (.inr (.inr hs))]
    rfl

end

section

variable {β : Type} {ws : Nat → Prop} {E : State → β} {s0 s : State} {j k n o : Nat}

/-- A reading that does not show jack `j`. -/
def HidesJk (j : Nat) (E : State → β) : Prop := ∀ (u : State) x, E (u.setJk j x) = E u

/-- A reading that does not show the bindings. -/
def HidesBinds (E : State → β) : Prop := ∀ (u : State) o x, E (u.setBind o x) = E u

/-- A reading that does not show the events of the jacks that wait. -/
def HidesJackEvents (E : State → β) : Prop := ∀ (u : State) l, E { u with jack := { u.jack with events := l } } = E u

/-- A reading that does not show timer `k`. -/
def HidesTmr (k : Nat) (E : State → β) : Prop := ∀ (u : State) x, E (u.setTmr k x) = E u

theorem HidesJk.only (hE : HidesJk j E) (x : Jack) (h : Only ws E s0 s) : Only ws E s0 (s.setJk j x) :=
  h.update rfl (hE { s with regs := [] } x)

theorem HidesBinds.only (hE : HidesBinds E) (x : Bind) (h : Only ws E s0 s) : Only ws E s0 (s.setBind o x) :=
  h.update rfl (hE { s with regs := [] } o x)

theorem HidesTmr.only (hE : HidesTmr k E) (x : Tmr) (h : Only ws E s0 s) : Only ws E s0 (s.setTmr k x) :=
  h.update rfl (hE { s with regs := [] } x)

/-- A reading that does not show what direction `d` carries. -/
def HidesDir (d : Nat) (E : State → β) : Prop := ∀ (u : State) x, E (u.setDir d x) = E u

theorem State.note_onlyDir {d b : Nat} {n : DieNote} (hE : HidesDir d E) (h : Only ws E s0 s) : Only ws E s0 (s.note d b n) :=
  .when (fun u h => h.update rfl (hE { u with regs := [] } _)) h

theorem jackFollowAll_only (hE : HidesBinds E) (h : Only ws E s0 s) : Only ws E s0 (jackFollowAll s) := by
  refine .each (fun o _ s h => ?_) h
  unfold jackFollow
  exact .ite (.ite (hE.only _ h) (hE.only _ h)) (.ite (hE.only _ h) (.ite (hE.only _ h) (.ite (hE.only _ h) h)))

theorem jackUndecide_only (hE : HidesJk j E) (hs : ws (Adr.JK_STAT j)) (h : Only ws E s0 s) : Only ws E s0 (jackUndecide j s) :=
  State.setFld_only hs (State.setFld_only hs (State.setFld_only hs (hE.only _ h)))

theorem jackForce_only {v : Nat} (hE : HidesJk j E) (hs : ws (Adr.JK_STAT j)) (h : Only ws E s0 s) : Only ws E s0 (jackForce j v s) := by
  have hmove (t : Int) : Only ws E s0 (jackMove j v t s) := State.setFld_only hs (State.setFld_only hs (State.setFld_only hs (hE.only _ h)))
  unfold jackForce
  exact .ite h (.ite (jackUndecide_only hE hs h) (State.setFld_only hs (hE.only _ (hmove _))))

theorem jackForceWrite_only {v : Nat} (hE : HidesJk j E) (hB : HidesBinds E) (hs : ws (Adr.JK_STAT j)) (h : Only ws E s0 s) :
    Only ws E s0 (jackForceWrite j v s) :=
  .ite h (.ite (hE.only _ h) (jackFollowAll_only hB (jackForce_only hE hs h)))

theorem jackPost_only {stamp : Int} {level : Nat} (hE : HidesJackEvents E) (hc : ws Adr.JACK_CNT) (hi : ws (Pg.jack * 4096 + 16))
    (h : Only ws E s0 s) : Only ws E s0 (jackPost j 4 stamp level s) := by
  unfold jackPost
  exact State.raise_only hi (State.bump_only hc hc (h.update rfl (hE { s with regs := [] } _)))

theorem tmrArm_only (hE : HidesTmr k E) (hs : ws (Adr.TMR_CTRL k)) (hi : ws (Pg.cv * 4096 + 16)) (h : Only ws E s0 s) : Only ws E s0 (tmrArm k s) :=
  State.setFld_only hs (State.setFld_only hs (hE.only _ (.when (fun _ h => State.raise_only hi (State.bump_only hs hs h)) h)))

theorem cvFail_only {code : Nat} (hE : HidesCvch n E) (hR : HidesReports E) (hs : ws (Adr.CV_STAT n)) (hsum : ws Adr.CV_SUMMARY)
    (h : Only ws E s0 s) : Only ws E s0 (cvFail n code s) :=
  .ite h (cvShow_only hs hsum (State.report_only hR (hE.only _ h)))

/-- A fire of timer `k`: the queues that it may read are those that its channels name in the state before (R335). -/
theorem tmrFire_only (hT : HidesTmr k E) (hE : ∀ m < 16, HidesCvch m E) (hF : ∀ m < 16, HidesFresh (Adr.CV_VOUT m) E)
    (hQ : ∀ m < 16, HidesCells (s0.fld (F.CV_CFG_QID m)) E) (hk : ws (Adr.TMR_CTRL k)) (hw : ∀ m < 16, CvRegs m ws)
    (hqs : ∀ m < 16, ws (Adr.QMG_QSTAT (s0.fld (F.CV_CFG_QID m)))) (hqi : ws (Pg.qmg * 4096 + 16)) (hcfg : ∀ m < 16, ¬ ws (Adr.CV_CFG m))
    (h : Only ws E s0 s) : Only ws E s0 (tmrFire k s) := by
  unfold tmrFire
  dsimp only
  split
  · exact h
  · refine .ite h (.eachOf (fun m hm u h => ?_) (State.setFld_only hk (hT.only _ h)))
    have h16 : m < 16 := List.mem_range.mp (List.mem_filter.mp hm).1
    exact fireStep_only (hE m h16) (hw m h16) (hF m h16) (h.fld (hcfg m h16)) (hQ m h16) (hqs m h16) hqi h

end

end Sys2Proof.Machine

namespace Sys2Proof

open Machine

/-- Settles O31: a timer armed, stopped and fired, with what the fire makes of each bound channel; a trip, the excursions of VREF_CV and a restore. -/
theorem controlVoltageCommandsComplete : Obligations.ControlVoltageCommandsComplete := by
  intro s
  refine ⟨?_, ?_, ?_, ?_, ?_, ?_, ?_, ?_⟩
  · intro k start hp hstart
    rw [exec, execTimerArm, completes_heard hp]
    exact tmrArm_shows k.isLt hstart
  · intro k hp
    rw [exec, execTimerStop, completes_heard hp, tmrStop]
    refine ⟨?_, State.fld_setFld_zero _ (of_decide_eq_true rfl), ?_⟩
    · rw [State.fld_setFld_off _ _ (Fld.apart_sure rfl), State.fld_setFld_zero _ (of_decide_eq_true rfl)]
    · rw [State.tmr_setFld, State.tmr_setFld, State.tmr_setTmr]
  · intro k d hr hn hd
    rw [exec, execTimerFire, completes_ticking hr]
    obtain ⟨hrun, hnext⟩ := tmrFire_shows k.isLt hn hd
    exact ⟨hrun, hnext, fun n hw ht hf => tmrFire_channel k.isLt hn hd n.isLt hw ht hf⟩
  · intro n hr hl hf
    obtain ⟨hch, hrep, hfld⟩ := cvFail_shows (s := s) (t := s.raise Pg.cv 1) (code := 0x6742) (by simp) (by simp) hf
    obtain ⟨-, -, -, -, -, -, -, -, -, -, hint, -⟩ := cvAdr_apart n n
    rw [exec, execCvIlimTrip, completes_ticking hr, if_pos ⟨hl, hf⟩]
    exact ⟨hch, (hfld _ hint (by decide)).trans (State.fld_raise_self _ (by decide)), hrep⟩
  · intro hr
    rw [exec, execCvVrefFail, completes_ticking hr, cvRefFail]
    exact ⟨State.note_cv .., State.note_noted_regs (by rfl) (by rfl)⟩
  · intro hr hd
    rw [exec, execCvVrefRecover, completes_ticking hr, cvRefBack]
    cases hb : s.cv.refBad with
    | false => rfl
    | true =>
      rw [if_pos rfl, if_neg (by simp; omega)]
      exact ⟨State.note_cv .., State.note_noted_regs (by rfl) (by rfl)⟩
  · intro d hr hh hd
    rw [exec, execCvRefHoldEnd, completes_ticking hr, hh]
    exact if_neg (by omega)
  · intro n hp h4
    rw [exec, execCvRestore, completes_heard hp, cvRestore, if_pos h4]
    exact ⟨State.testOf_startTest .., State.cvch_setCvch ..⟩

/-- Settles O52, by what each command of a jack, a timer or a channel may change. -/
theorem jackAndControlVoltageFrames : Obligations.JackAndControlVoltageFrames := by
  intro s
  have hforce {j v : Nat} {c : Nat} (hj : j < 12) : Only (· ∈ [Adr.JK_STAT j])
      (fun u : State => { u with cyc := 0, jack := { u.jack with j := SMap.erase u.jack.j j, bind := [] } }) s (jackForceWrite j v (s.land c)) :=
    jackForceWrite_only (fun _ _ => by simp [State.setJk]) (fun _ _ _ => rfl) (by simp) (.update (.refl s) rfl rfl)
  have hmem (f : Nat → Nat) {m : Nat} (hm : m < 16) : f m ∈ (List.range 16).map f := List.mem_map_of_mem (List.mem_range.mpr hm)
  have hnote {u : State} {n : DieNote} {ws : List Nat} {aside : State → State} (hD : HidesDir 1 aside) (h : Only (· ∈ ws) aside s u) :
      Only (· ∈ ws) aside s (u.note 1 (s.tick + 1) n) := State.note_onlyDir hD h
  refine ⟨fun j => .ticking rfl (.ite (jackPost_only (fun _ _ => ?_) ?_ ?_ (State.setFld_only ?_ (.refl s))) (.refl s)),
    fun cyc j => .heard rfl (hforce j.isLt), fun cyc j => .heard rfl (hforce j.isLt), fun cyc j => .heard rfl (hforce j.isLt), fun o => .ticking rfl ?plug,
    fun k => .heard rfl (tmrArm_only (fun _ _ => ?_) ?_ ?_ (.refl s)),
    fun k => .heard rfl (State.setFld_only ?_ (State.setFld_only ?_ (HidesTmr.only (fun _ _ => ?_) _ (.refl s)))),
    fun k => .ticking rfl (tmrFire_only (fun _ _ => ?_) (fun m hm _ _ => ?_) (fun m hm _ _ => ?fresh) (fun m hm _ _ _ _ _ _ => ?cells) ?ctrl
      (fun m hm => ?regs) (fun m hm => ?queues) ?qint (fun m hm => ?cfg) (.refl s)),
    fun n => .ticking rfl (.ite (cvFail_only (fun _ _ => ?_) (fun _ _ => ?_) ?_ ?_ (State.raise_only ?_ (.refl s))) (.refl s)),
    .ticking rfl (hnote (fun _ _ => ?_) (.update (.refl s) rfl rfl)), .ticking rfl (.ite (.refl s) (hnote (fun _ _ => ?_) (.update (.refl s) rfl rfl))),
    .ticking rfl ?hold,
    fun n => .heard rfl (.ite (State.startTest_only (fun _ _ => ?_) (HidesCvch.only (fun _ _ => ?_) _ (.refl s))) (.refl s))⟩
  case plug =>
    split
    · exact .refl s
    · exact .ite (.refl s) (.ite (.update (.refl s) rfl (by simp [State.setBind])) (.update (.refl s) rfl (by simp [State.setBind])))
  case hold =>
    split
    · exact .refl s
    · exact .ite (.refl s) (.update (.refl s) rfl rfl)
  case fresh =>
    dsimp only
    rw [SMap.foldl_erase_set _ _ _ (hmem Adr.CV_VOUT hm)]
  case cells =>
    dsimp only
    rw [SMap.foldl_erase_set _ _ _ (hmem (fun n => s.fld (F.CV_CFG_QID n)) hm)]
  case ctrl => simp only [List.mem_append, List.mem_cons, true_or]
  case qint => simp only [List.mem_append, List.mem_cons, F.pgInt, true_or, or_true]
  case regs =>
    simp only [CvRegs, List.mem_append, List.mem_cons, F.pgInt, hmem Adr.CV_STAT hm, hmem Adr.CV_VOUT hm, hmem Adr.CV_CNT1 hm, hmem Adr.CV_CNT2 hm,
      true_or, or_true, and_self]
  case queues => exact List.mem_append_right _ (hmem (fun n => Adr.QMG_QSTAT (s.fld (F.CV_CFG_QID n))) hm)
  case cfg =>
    simp only [List.mem_append, List.mem_cons, List.mem_map, List.mem_range, List.not_mem_nil, or_false, Adr.CV_CFG, Adr.TMR_CTRL, F.pgInt, Pg.cv,
      Pg.qmg, Adr.CV_SUMMARY, Adr.CV_STAT, Adr.CV_VOUT, Adr.CV_CNT1, Adr.CV_CNT2, Adr.QMG_QSTAT]
    rintro ((((((h | h | h | h) | ⟨a, -, h⟩) | ⟨a, -, h⟩) | ⟨a, -, h⟩) | ⟨a, -, h⟩) | ⟨a, -, h⟩)
    all_goals omega
  all_goals simp [State.setTmr, State.setCvch, State.setDir, F.pgInt, F.JK_STAT_AMBIG, F.TMR_CTRL_RUNNING, F.TMR_CTRL_ARMED, tests_startTest_aside]
end Sys2Proof

/-!
The speaker channels (R366, R370): a sense converter that fails while a restore test runs.
-/

namespace Sys2Proof.Machine

/-- Channel 0 in a restore that started from FAULTED, its loop closed. -/
def restoringState : State :=
  { State.reset with phase := .running, spk := { State.reset.spk with ch := [(0, { rest := some 10 })] } }

/-- The failure of the sense converter opens the loop and makes the test fail (R366, R370). -/
theorem restoringState_senseFail : ((spkSenseFail 0 restoringState).sch 0).testBad = true ∧ (restoringState.sch 0).testBad = false := by
  have hrest : (restoringState.sch 0).rest.isSome = true := rfl
  refine ⟨?_, rfl⟩
  unfold spkSenseFail
  dsimp only
  rw [hrest, State.when_true, if_neg (by decide), spkTell, State.sch, State.note_spk]
  rfl

end Sys2Proof.Machine

namespace Sys2Proof

open Machine

/-- Refutes O32: its clause of SPK_SENSE_FAIL says that the channel changes in its loop alone. In `restoringState` a restore is under way, and the model marks its test as failed beside. -/
theorem not_speakerCommandsComplete : ¬ Obligations.SpeakerCommandsComplete := by
  intro h
  obtain ⟨-, -, -, -, -, -, -, -, -, -, -, -, -, -, -, -, hsense, -⟩ := h restoringState 0 0 rfl
  obtain ⟨hbad, hgood⟩ := restoringState_senseFail
  obtain ⟨t, he, hch, -⟩ := hsense rfl rfl
  rw [exec, execSpkSenseFail, State.ticking_of_running rfl] at he
  cases he
  exact absurd (hbad.symm.trans ((congrArg SpkCh.testBad hch).trans hgood)) (by decide)
end Sys2Proof

/-!
The boost (R380, R381, R385, R387-R391): its rail model, its phases, its guards and its restore.
-/

namespace Sys2Proof.Machine

section

variable {s : State}

/-- A failed check while a test runs is kept for the test's end (R391). -/
theorem bstTestFail_shows (s : State) :
    bstTestFail s = { s with bst := { s.bst with testBad := s.bst.testBad || (s.testOf 0x1F 0).isSome } } := by
  unfold bstTestFail
  cases (s.testOf 0x1F 0).isSome with
  | true => rw [State.when_true, Bool.or_true]
  | false => rw [State.when_false, Bool.or_false]

/-- FAULTED, told of (R389). -/
theorem bstFail_shows {code : Nat} (h : s.bst.st ≠ 5) :
    (bstFail code s).bst = { s.bst with st := 5, fault := code, active := 0, testBad := s.bst.testBad || (s.testOf 0x1F 0).isSome } ∧
    Noted s (bstFail code s) 3 (s.tick + 1) { act := (7, 0, code) } := by
  have hst : ¬ (bstTestFail s).bst.st = 5 := by rw [bstTestFail_shows]; exact h
  unfold bstFail
  dsimp only
  rw [if_neg hst, bstTestFail_shows, bstTell]
  exact ⟨State.note_bst .., State.note_noted_regs (by rfl) (by rfl)⟩

theorem bstFail_testBad {code : Nat} (h : s.bst.testBad = true) : (bstFail code s).bst.testBad = true := by
  unfold bstFail
  dsimp only
  rw [bstTestFail_shows, h, Bool.true_or]
  split
  · rfl
  · rw [bstTell, State.note_bst]

/-- What FAULTED leaves of the phases. -/
theorem bstFail_phases (code k : Nat) (s : State) : (bstFail code s).bst.out = s.bst.out ∧
    (s.bst.active / 2 ^ k % 2 = 0 → (bstFail code s).bst.active / 2 ^ k % 2 = 0) := by
  by_cases h : s.bst.st = 5
  · have hfail : bstFail code s = bstTestFail s := by
      unfold bstFail
      exact if_pos (by rw [bstTestFail_shows]; exact h)
    rw [hfail, bstTestFail_shows]
    exact ⟨rfl, id⟩
  · rw [(bstFail_shows h).1]
    exact ⟨rfl, fun _ => by simp⟩

/-- Phase `k` out of service, the other phases as they were, and told of (R388). -/
def phaseOut (k : Nat) (s : State) : State :=
  let s := { s with bst := { s.bst with out := s.bst.out + 2 ^ k, testBad := s.bst.testBad || (s.testOf 0x1F 0).isSome } }
  bstTell k 0x67C1 { s with bst := { s.bst with active := bstMask ((bstService s).filter (fun j => s.bst.active / 2 ^ j % 2 == 1)) } }

/-- A phase in service that fails (R388). -/
theorem bstPhaseFail_out {k : Nat} (h : s.bst.out / 2 ^ k % 2 = 0) :
    bstPhaseFail k s = if (bstService (phaseOut k s)).length < 2 then bstFail 0x67C2 (phaseOut k s) else phaseOut k s := by
  unfold bstPhaseFail
  rw [bstTestFail_shows]
  exact if_neg (by rw [h]; decide)

/-- A mask holds no phase but those it is made of. -/
theorem bstMask_bit {k : Nat} (hk : k < 4) {p : Nat → Bool} (h : p k = false) : bstMask ((List.range 4).filter p) / 2 ^ k % 2 = 0 := by
  have hmask : ∀ a b c d : Bool, ∀ j : Fin 4, [a, b, c, d][j] = false →
      bstMask ((if a then [0] else []) ++ ((if b then [1] else []) ++ ((if c then [2] else []) ++ if d then [3] else []))) / 2 ^ j.val % 2 = 0 := by
    decide
  have hfilter : (List.range 4).filter p =
      (if p 0 then [0] else []) ++ ((if p 1 then [1] else []) ++ ((if p 2 then [2] else []) ++ if p 3 then [3] else [])) := by
    rw [show List.range 4 = [0] ++ ([1] ++ ([2] ++ [3])) from rfl, List.filter_append, List.filter_append, List.filter_append]
    simp only [List.filter_cons, List.filter_nil]
  rw [hfilter]
  refine hmask _ _ _ _ ⟨k, hk⟩ ?_
  obtain rfl | rfl | rfl | rfl : k = 0 ∨ k = 1 ∨ k = 2 ∨ k = 3 := by omega
  all_goals exact h

theorem phaseOut_shows {k : Nat} (hk : k < 4) (h : s.bst.out / 2 ^ k % 2 = 0) :
    (phaseOut k s).bst.out = s.bst.out + 2 ^ k ∧ (phaseOut k s).bst.active / 2 ^ k % 2 = 0 ∧ (phaseOut k s).bst.st = s.bst.st ∧
    Noted s (phaseOut k s) 3 (s.tick + 1) { act := (7, k, 0x67C1) } := by
  have hout : (s.bst.out + 2 ^ k) / 2 ^ k % 2 = 1 := by
    rw [Nat.add_div_right _ (Nat.two_pow_pos k)]
    omega
  unfold phaseOut bstTell
  dsimp only
  rw [State.note_bst]
  refine ⟨rfl, ?_, rfl, State.note_noted_regs (by rfl) (by rfl)⟩
  dsimp only
  rw [bstService, List.filter_filter]
  refine bstMask_bit hk ?_
  rw [hout]
  exact Bool.and_false _

/-- The phases in service are read from the boost alone. -/
theorem bstService_congr {t : State} (h : t.bst.out = s.bst.out) : bstService t = bstService s := by rw [bstService, h, bstService]

/-- The temperature in use, before what it makes the boost do (R390). -/
def bstHeated (code : Nat) (s : State) : State :=
  { s with bst := { s.bst with temp := code, hot := decide (110 < (code : Int) - 64),
                               cool := if (code : Int) - 64 < 105 then some (s.bst.cool.getD s.tick) else none } }

/-- The temperature told of as it passes the threshold of derating (R390). -/
def bstWarned (code : Nat) (s : State) : State :=
  (bstHeated code s).when (!s.bst.hot && decide (110 < (code : Int) - 64)) (bstTell 0 0xA7C7)

theorem bstWarned_bst (code : Nat) (s : State) : (bstWarned code s).bst = (bstHeated code s).bst :=
  State.when_keeps (·.bst) (State.note_bst ..)

/-- A temperature that holds the boost in FALLBACK (R390). -/
theorem bstTemp_holds {code : Nat} (hc : 189 ≤ code) (hh : s.bst.heldT = false) (hst : 1 ≤ s.bst.st ∧ s.bst.st ≤ 4) :
    (bstTemp code s).bst = { (bstHeated code s).bst with st := if s.bst.st = 1 then 1 else 4, heldT := true, active := 0 } := by
  have hhold : 125 ≤ (code : Int) - 64 ∧ (!s.bst.heldT) = true ∧ 1 ≤ s.bst.st ∧ s.bst.st ≤ 4 := ⟨by omega, by rw [hh]; rfl, hst⟩
  have htemp : bstTemp code s = bstTell 0 0xA7C8 { bstWarned code s with
      bst := { (bstWarned code s).bst with st := if s.bst.st = 1 then 1 else 4, heldT := true, active := 0 } } := if_pos hhold
  rw [htemp, bstTell, State.note_bst, bstWarned_bst]

/-- A temperature that leaves the boost's state (R390). -/
theorem bstTemp_stays {code : Nat} (h : ¬(189 ≤ code ∧ s.bst.heldT = false ∧ 1 ≤ s.bst.st ∧ s.bst.st ≤ 4)) :
    (bstTemp code s).bst = (bstHeated code s).bst := by
  have hhold : ¬(125 ≤ (code : Int) - 64 ∧ (!s.bst.heldT) = true ∧ 1 ≤ s.bst.st ∧ s.bst.st ≤ 4) := fun ⟨hc, hh, hst⟩ =>
    h ⟨by omega, by simpa using hh, hst⟩
  have htemp : bstTemp code s = bstWarned code s := if_neg hhold
  rw [htemp, bstWarned_bst]

/-- A phase that fails makes a restore test under way fail (R391). -/
theorem bstPhaseFail_testBad {k : Nat} (ht : (s.testOf 0x1F 0).isSome = true) (h : s.bst.out / 2 ^ k % 2 = 0) : (bstPhaseFail k s).bst.testBad = true := by
  have hout : (phaseOut k s).bst.testBad = true := by
    unfold phaseOut bstTell
    dsimp only
    rw [State.note_bst]
    dsimp only
    rw [ht, Bool.or_true]
  rw [bstPhaseFail_out h]
  split
  · exact bstFail_testBad hout
  · exact hout

end

/-- The boost with every phase in service, its restore test under way. -/
def boostTestState : State :=
  { State.reset with phase := .running, tests := [⟨0x1F, 0, 0, 1024⟩] }

end Sys2Proof.Machine

namespace Sys2Proof

open Machine

/-- Settles O33, each clause by its branch of the command; a phase, the rail and the temperature by what they make of the boost. -/
theorem boostCommandsComplete : Obligations.BoostCommandsComplete := by
  intro s
  refine ⟨?_, ?_, ?_, ?_, ?_, ?_, ?_, ?_, ?_, ?_, ?_⟩
  · intro hr hst
    rw [exec, execBoostControlCycle, completes_ticking hr, bstCycle]
    dsimp only
    rw [if_pos hst]
    refine ⟨rfl, ?_, fun h => if_pos (fun h3 => absurd (h.symm.trans h3) (by decide))⟩
    dsimp only
    simp only [decide_eq_true_eq]
  · intro hr h2 h3
    rw [exec, execBoostControlCycle, completes_ticking hr, bstCycle]
    exact if_neg (by omega)
  · intro hr h3 hl
    rw [exec, execBoostBypassEntry, completes_ticking hr]
    exact if_pos ⟨h3, hl⟩
  · intro k hr hs hk
    rw [exec, execPhaseShed]
    dsimp only
    rw [completes_ticking hr, hk]
    exact if_pos ⟨hs, by omega⟩
  · intro hr h0 he hm hi
    rw [exec, execBoostStart, completes_ticking hr]
    exact if_pos ⟨h0, he, hm.imp_right (fun h => by rw [h]; rfl), by rw [hi]; rfl⟩
  · intro hr h1 hd ht
    rw [exec, execBoostPrechargeDone, completes_ticking hr]
    exact if_pos ⟨h1, hd, ht⟩
  · intro k hr h
    rw [exec, execBoostPhaseFail, completes_ticking hr, bstPhaseFail_out h]
    obtain ⟨hout, hact, hst, hnote⟩ := phaseOut_shows k.isLt h
    by_cases hfew : (bstService (phaseOut k s)).length < 2
    · rw [if_pos hfew]
      have hb (h5 : (phaseOut k s).bst.st ≠ 5) := (bstFail_shows (code := 0x67C2) h5).1
      obtain ⟨hkeep, hbit⟩ := bstFail_phases 0x67C2 k (phaseOut k s)
      refine ⟨hkeep.trans hout, hbit hact, fun h2 => absurd h2 (by rw [bstService_congr hkeep]; omega), fun _ h5 => ?_⟩
      rw [hb (by rw [hst]; exact h5)]
      exact ⟨rfl, rfl⟩
    · rw [if_neg hfew]
      exact ⟨hout, hact, fun _ => ⟨hst, hnote⟩, fun h => absurd h hfew⟩
  · intro kind hr h5 h1 h2
    rw [exec, execBoostRailFault, completes_ticking hr]
    have hrun : (if kind.val = 0 then bstFail 0x67C3 s else if kind.val = 1 then s.when (s.bst.st != 1) (bstFail 0x67C4)
        else s.when (decide ((bstService s).length < 2)) (bstFail 0x67C2)) =
        bstFail (if kind = 0 then 0x67C3 else if kind = 1 then 0x67C4 else 0x67C2) s := by
      match kind with
      | 0 => rfl
      | 1 => exact State.when_of (bne_iff_ne.mpr (h1 rfl)) _ _
      | 2 => exact State.when_of (decide_eq_true (h2 rfl)) _ _
    obtain ⟨hb, hn⟩ := bstFail_shows (code := if kind = 0 then 0x67C3 else if kind = 1 then 0x67C4 else 0x67C2) h5
    rw [hrun]
    exact ⟨hb, by rw [hb]; exact hn⟩
  · intro code hr
    rw [exec, execBoostThermal, completes_ticking hr]
    by_cases hheld : 189 ≤ code.val ∧ s.bst.heldT = false ∧ 1 ≤ s.bst.st ∧ s.bst.st ≤ 4
    · rw [bstTemp_holds hheld.1 hheld.2.1 hheld.2.2]
      refine ⟨rfl, ?_, fun h2 _ _ => ⟨if_neg (by omega), rfl, rfl⟩, fun h1 _ _ => ⟨if_pos h1, rfl⟩, fun h => absurd hheld.1 (by omega)⟩
      exact decide_eq_decide.mpr (by omega)
    · rw [bstTemp_stays hheld]
      refine ⟨rfl, ?_, fun h2 hh hc => absurd ⟨hc, hh, by omega, by omega⟩ hheld, fun h1 hh hc => absurd ⟨hc, hh, by omega, by omega⟩ hheld, fun _ => rfl⟩
      exact decide_eq_decide.mpr (by omega)
  · intro c hr hc hh hd
    rw [exec, execBoostThermalReturn, completes_ticking hr, hc]
    dsimp only
    rw [if_pos ⟨hh, hd⟩]
    exact ⟨rfl, by simp⟩
  · intro hp h hi
    rw [exec, execBoostRestore, completes_heard hp, bstRestore, if_pos ⟨h, by rw [hi]; rfl⟩]
    exact ⟨State.testOf_startTest .., rfl⟩

/-- Refutes O53: its clause of BOOST_PHASE_FAIL does not set aside whether the restore test fails. In `boostTestState` a test is under way, and
the failing phase makes it fail. -/
theorem not_speakerAndBoostFrames : ¬ Obligations.SpeakerAndBoostFrames := by
  intro h
  obtain ⟨-, -, -, -, -, -, -, -, -, -, -, -, -, -, -, -, -, -, -, -, -, -, -, -, -, hphase, -⟩ := h boostTestState
  have hbad : (bstPhaseFail 0 boostTestState).bst.testBad = true := bstPhaseFail_testBad rfl rfl
  have hgood : boostTestState.bst.testBad = false := rfl
  obtain ⟨-, hrest⟩ := hphase 0 _ rfl
  exact absurd (hbad.symm.trans ((congrArg (fun u : State => u.bst.testBad) hrest).trans hgood)) (by decide)
end Sys2Proof

/-!
The queue manager (R400, R405): the shared part counted in a state whose map of queues is not in its canonical form.
-/

namespace Sys2Proof.Machine

/-- Queue 0 listed twice: it holds one cell, and the entry behind counts 8 cells in the shared part of 4. -/
def listedTwiceState : State :=
  ((({ State.reset with phase := .running, qmg := { State.reset.qmg with queues := [(0, { occ := 1 }), (0, { occ := 8 })] } }.setFld
    (F.QMG_QCFG_EN 0) 1).setFld (F.QMG_QCFG_MAXC 0) 4).setFld (F.QMG_QCFG_RES 0) 0).setFld F.QMG_SHARED_SHARED 4

/-- The second entry stands in the shared part of the count, so no cell is free for queue 0. -/
theorem listedTwiceState_noCell : qMayGrant 0 1 listedTwiceState = false := by decide

/-- The refused word leaves the entry in force with its one cell, below its maximum: FULL stays 0. -/
theorem listedTwiceState_notFull : (qSubmit 0 ⟨1, 0, 0⟩ none [0] listedTwiceState).1.fld (F.QMG_QSTAT_FULL 0) = 0 := by decide

end Sys2Proof.Machine

namespace Sys2Proof

open Machine

/-- Refutes O34: its clause of a refused CELL_REQUEST says that FULL stands afterwards. In `listedTwiceState` the map of queues holds queue 0 twice: the second entry fills the shared part, so no cell is granted (R400), while the entry in force stands below its maximum and FULL is settled to 0 (R405). -/
theorem not_queueCommandsComplete : ¬ Obligations.QueueCommandsComplete := by
  intro h
  obtain ⟨-, -, hover, -⟩ := h listedTwiceState
  obtain ⟨t, he, hfull, -⟩ :=
    hover 0 ⟨1, 0, 0⟩ 0 [] rfl (by decide) rfl rfl rfl listedTwiceState_noCell rfl
  rw [exec, execCellRequest, State.ticking_of_running rfl] at he
  cases he
  exact absurd (hfull.symm.trans listedTwiceState_notFull) (by decide)

end Sys2Proof

/-!
The stitch links (R15, R22): a burst of the die behind link 1 that arrives with its phase out of bounds.
-/

namespace Sys2Proof.Machine

/-- Link 1 runs and its PLL is locked. -/
def linkOneState : State :=
  ({ State.reset with phase := .running }.setFld (F.FLT_LINK_B_LSTATE 2) 1).setFld (F.CLK_PLL_STAT_LOCK 2) 1

/-- A whole data burst of direction 2 in sequence, its phase out of bounds. -/
def strayBurst : BurstIn :=
  { quires := [], cw := catchword 2 { tick := 0, ctl := false, bsn := 0, quires := [], cmds := [] } false, cyc := 0, phase := 17 }

/-- The burst marks the clock of the die behind link 1 as in error (R22). -/
theorem linkOneState_strayBurst :
    (linkOneState.when (linkRuns 1 linkOneState && linkSupplied 1 linkOneState) (fun s =>
      if Quire.bits strayBurst.cw 65 65 = 1 then burstReplayed 2 strayBurst s else burstOriginal 2 strayBurst s)).clk.tickErr = true := by
  decide

end Sys2Proof.Machine

namespace Sys2Proof

open Machine

/-- Refutes O44: the frame of STITCH_BURST_RECEIVE sets aside the links and the fault manager alone. In `linkOneState` a data burst whose phase is out of bounds puts the clock of the die behind link 1 in error (R22), which stands with the clocks. -/
theorem not_linkFrames : ¬ Obligations.LinkFrames := by
  intro h
  obtain ⟨-, -, hreceive, -⟩ := h linkOneState
  obtain ⟨-, hrest⟩ := hreceive 2 strayBurst _ (by rw [exec, execStitchBurstReceive, State.ticking_of_running rfl])
  have hclk := congrArg (fun u : State => u.clk.tickErr) hrest
  exact absurd (linkOneState_strayBurst.symm.trans hclk) (by decide)

end Sys2Proof

/-!
The frames of the analog inputs and the supervisory converters.
-/

namespace Sys2Proof.Machine

section

variable {β : Type} {ws : Nat → Prop} {E : State → β} {s0 s : State}

/-- A reading that does not show the supervisory converters. -/
def HidesSvc (E : State → β) : Prop := ∀ (u : State) x, E { u with svc := x } = E u

/-- A block of the match loop leaves the mode of its input. -/
theorem matchRest_mode (n ax : Nat) (v : Int) (s : State) : ((matchRest n ax v s).ach n).mode = (s.ach n).mode := by
  have hwhen (c d : Bool) (x : AinCh) : (((s.setAch n x).when c (State.raise (Pg.ain n) 3)).when d (State.report 0x3446 n 0)).ach n = x := by
    rw [State.when_keeps (·.ach n) (State.ach_congr rfl n), State.when_keeps (·.ach n) (State.ach_raise _ n _ _), State.ach_setAch]
  unfold matchRest
  dsimp only
  split <;> simp only [State.ach_setOn, hwhen]

theorem matchAxis_mode (n ax : Nat) (err : Int) (s : State) : ((matchAxis n ax err s).ach n).mode = (s.ach n).mode := by
  unfold matchAxis
  dsimp only
  rw [matchRest_mode]
  split <;> simp

theorem matchBlock_only {n : Nat} {ge de : Int} (hE : HidesAch n E) (hR : HidesReports E) (hG : HidesFresh (Adr.AIN_MATCH_GAIN n) E)
    (hD : HidesFresh (Adr.AIN_MATCH_DLY n) E) (hm : MatchRegs n ws) (hw : TrimRegs n (matchRow (s.ach n).mode) ws) (h : Only ws E s0 s) :
    Only ws E s0 (matchBlock n ge de s) := by
  have haxis {ax : Nat} {err : Int} {u : State} (hu : (u.ach n).mode = (s.ach n).mode) (h : Only ws E s0 u) : Only ws E s0 (matchAxis n ax err u) :=
    matchAxis_only hE hR hG hD hm (hu ▸ hw) h
  have hrest {ax : Nat} {v : Int} {u : State} (h : Only ws E s0 u) : Only ws E s0 (matchRest n ax v u) := matchRest_only hE hR hm h
  obtain ⟨hs, hi⟩ := id hm
  have henter {v : Nat} {u : State} (h : Only ws E s0 u) : Only ws E s0 (matchEnter n v u) :=
    .when (fun _ h => State.raise_only hi h) (State.setFld_only hs (hE.only _ h))
  have h1 := hE.only { s.ach n with qual := 0 } h
  unfold matchBlock
  dsimp only
  refine .ite h1 (.ite (hrest (hrest (State.setFld_only hs h1))) (.ite (State.setFld_only hs h1) ?_))
  have h2 (x : AinCh) := hE.only x (haxis (ax := 1) (err := de) (by rw [matchAxis_mode]; simp) (haxis (ax := 0) (err := ge) (by simp)
    (State.setFld_only (f := F.AIN_MATCH_STAT_IDLE n) (v := 0) hs h1)))
  exact .ite (henter (h2 _)) (.ite (henter (h2 _)) (h2 _))

variable (hE : HidesSvc E)

include hE

theorem HidesSvc.only (x : SvcSt) (h : Only ws E s0 s) : Only ws E s0 { s with svc := x } := h.update rfl (hE { s with regs := [] } x)

theorem svcConvert_only {conv slot kind idx ch ref : Nat} {left guard : Bool} {key : Option Nat} {raw : Int} (hc : ws Adr.SVC_CHK_CNT)
    (h : Only ws E s0 s) : Only ws E s0 (svcConvert conv slot kind idx ch ref left guard key raw s) := by
  unfold svcConvert svcSend svcKeep
  cases key with
  | none => exact hE.only _ (.when (fun _ h => State.bump_only hc hc h) h)
  | some k => exact hE.only _ (.when (fun _ h => State.bump_only hc hc h) (hE.only _ (hE.only _ h)))

theorem svcHold_only {conv slot kind idx ch key : Nat} {left : Bool} (h : Only ws E s0 s) :
    Only ws E s0 (svcHold conv slot kind idx ch left key s) :=
  hE.only _ (hE.only _ h)

theorem svcRotPast_only {conv i : Nat} (h : Only ws E s0 s) : Only ws E s0 (svcRotPast conv i s) := .ite (hE.only _ h) (hE.only _ h)

theorem svcRotate_only {conv slot : Nat} {raw : Int} (hc : ws Adr.SVC_CHK_CNT) (h : Only ws E s0 s) : Only ws E s0 (svcRotate conv slot raw s) :=
  svcRotPast_only hE (svcConvert_only hE hc h)

theorem svcSlot_only {conv slot : Nat} {raw : Int} (hc : ws Adr.SVC_CHK_CNT) (h : Only ws E s0 s) : Only ws E s0 (svcSlot conv slot raw s) := by
  unfold svcSlot
  dsimp only
  refine .ite (.ite (svcConvert_only hE hc h) h) ?_
  split
  · exact .ite (svcConvert_only hE hc h) h
  · split
    · exact .ite (svcConvert_only hE hc h) (svcRotate_only hE hc h)
    · exact svcRotate_only hE hc h

theorem svcSlotOut_only {conv slot : Nat} (h : Only ws E s0 s) : Only ws E s0 (svcSlotOut conv slot s) :=
  .ite (.ite (svcHold_only hE h) h) (.ite (svcRotPast_only hE (svcHold_only hE h)) h)

theorem svcTakeOut_only {conv : Nat} (h : Only ws E s0 s) : Only ws E s0 (svcTakeOut conv s) := .ite (hE.only _ h) (hE.only _ h)

theorem svcDeclare_only {v : Nat} (hD : HidesDir 1 E) (h : Only ws E s0 s) : Only ws E s0 (svcDeclare v s) := by
  unfold svcDeclare
  refine State.note_onlyDir hD (.ite (svcTakeOut_only hE (hE.only _ h)) (.ite (svcTakeOut_only hE (hE.only _ h)) (.ite ?_ (hE.only _ (hE.only _ h)))))
  exact hE.only _ (svcTakeOut_only hE (svcTakeOut_only hE (hE.only _ h)))

theorem svcCheck_only {a b : Nat} (hD : HidesDir 1 E) (hx : ws Adr.SVC_CHECK_EXP) (hc : ws Adr.SVC_CHK_CNT) (hi : ws (Pg.svc * 4096 + 16))
    (h : Only ws E s0 s) : Only ws E s0 (svcCheck a b s) := by
  unfold svcCheck
  dsimp only
  have hsend (r : SvcRes) (u : State) (h : Only ws E s0 u) : Only ws E s0 (svcSend r u) := hE.only _ h
  have hput (c d : Bool) (x y : SvcRes) : Only ws E s0 ((((s.setFld F.SVC_CHECK_EXP_LEVEL (s.tick % 8)).setFld F.SVC_CHECK_EXP_EXP
      ((2 * (s.tick % 8) + 1) * 4096)).when c (svcSend x)).when d (svcSend y)) :=
    .when (hsend y) (.when (hsend x) (State.setFld_only (f := F.SVC_CHECK_EXP_EXP) hx (State.setFld_only (f := F.SVC_CHECK_EXP_LEVEL) hx h)))
  refine .ite (hput ..) (.ite (hE.only _ (hput ..)) (.ite (svcDeclare_only hE hD ?_) ?_))
  all_goals exact hE.only _ (State.raise_only hi (State.bump_only hc hc (hput ..)))

omit hE in
theorem svcDrop_only (hu : ws Adr.SVC_URG_CNT) (hi : ws (Pg.svc * 4096 + 16)) (h : Only ws E s0 s) : Only ws E s0 (svcDrop s) :=
  State.raise_only hi (State.bump_only hu hu h)

theorem svcAsk_only {cyc conv ch ref : Nat} {left : Bool} (hu : ws Adr.SVC_URG_CNT) (hi : ws (Pg.svc * 4096 + 16)) (h : Only ws E s0 s) :
    Only ws E s0 (svcAsk cyc conv ch ref left s) := by
  unfold svcAsk
  exact .ite (.ite (hE.only _ (.ite h (hE.only _ h))) (hE.only _ (.ite h (hE.only _ h)))) (svcDrop_only hu hi (.ite h (hE.only _ h)))

theorem svcUrgent_only {rank cyc conv ch ref : Nat} {left : Bool} (hu : ws Adr.SVC_URG_CNT) (hi : ws (Pg.svc * 4096 + 16)) (h : Only ws E s0 s) :
    Only ws E s0 (svcUrgent rank cyc conv ch ref left s) := by
  have hun : Only ws E s0 (svcUnaccept conv s) := svcDrop_only hu hi (hE.only _ h)
  unfold svcUrgent
  dsimp only
  split
  · exact hE.only _ (svcAsk_only hE hu hi h)
  · exact .ite (svcDrop_only hu hi h) (hE.only _ (svcAsk_only hE hu hi (.ite hun h)))

omit hE in
theorem svcShow_only (hs : ws Adr.SVC_STAT) (h : Only ws E s0 s) : Only ws E s0 (svcShow s) :=
  State.setOn_only (f := F.SVC_STAT_CHECK_SUSP) hs (State.setFld_only (f := F.SVC_STAT_GUARD) hs
    (State.setFld_only (f := F.SVC_STAT_SVB_STATE) hs (State.setFld_only (f := F.SVC_STAT_SVA_STATE) hs h)))

theorem svcRestore_only (hT : ∀ k, HidesTest 0x14 k E) (hs : ws Adr.SVC_STAT) (h : Only ws E s0 s) : Only ws E s0 (svcRestore s) := by
  unfold svcRestore
  have hstart (k : Nat) (u : State) (h : Only ws E s0 u) : Only ws E s0 (u.startTest 0x14 k 0) := State.startTest_only (hT k) h
  exact .ite h (svcShow_only hs (.when (hstart 2) (.when (hstart 1) (.when (hstart 0) (hE.only _ h)))))

theorem svcVrefxLoss_only (hD : HidesDir 1 E) (hs : ws Adr.SVC_STAT) (h : Only ws E s0 s) : Only ws E s0 (svcVrefxLoss s) :=
  .ite (State.note_onlyDir hD (State.setFld_only (f := F.SVC_STAT_EXT_OK) hs (hE.only _ (hE.only _ h)))) (hE.only _ h)

theorem svcSettled_only {r : Nat} (hs : ws Adr.SVC_STAT) (h : Only ws E s0 s) : Only ws E s0 (svcSettled r s) :=
  .ite h (.ite (State.setFld_only hs h) (.ite (State.setFld_only hs h) (.ite (State.setFld_only hs (hE.only _ h)) (State.setFld_only hs h))))

end

end Sys2Proof.Machine

namespace Sys2Proof

open Machine

/-- Settles O46: what each operation of the inputs and converters changes is followed through its steps. -/
theorem analogInputAndSupervisoryFrames : Obligations.AnalogInputAndSupervisoryFrames := by
  intro s
  refine ⟨fun n => .ticking rfl (ainStepDone_only (fun _ _ => ?_) (fun _ _ => ?_) ?_ (.refl s)),
    fun k => .ticking rfl (.ite (State.report_only (fun _ _ => ?_) (State.raise_only ?_ (State.setFld_only ?_ (.update (.refl s) rfl ?micb)))) (.refl s)),
    fun words => .ticking rfl (.each (fun q _ u h => .when (fun _ h => .update h rfl ?dirs) h) (.refl s)),
    fun n => .ticking rfl (.ite (HidesAch.only (fun _ _ => ?_) _ (.refl s)) (.refl s)),
    fun n cyc ge de => .ticking rfl (matchBlock_only (fun _ _ => ?_) (fun _ _ => ?_) (fun _ _ => ?gain) (fun _ _ => ?delay) ?_ ?trims (.update (.refl s) rfl rfl)),
    fun n => .heard rfl (.ite (State.startTest_only (fun _ _ => ?_) (HidesAch.only (fun _ _ => ?_) _ (.refl s))) (.refl s)),
    fun conv slot code => .ticking rfl (.ite (.refl s) (.ite (svcSlotOut_only (fun _ _ => ?_) (.refl s)) (svcSlot_only (fun _ _ => ?_) ?_ (.refl s)))),
    fun a b => .ticking rfl (svcCheck_only (fun _ _ => ?_) (fun _ _ => ?_) ?_ ?_ ?_ (.refl s)),
    fun rank cyc conv ch form => ?urgent,
    .ticking rfl (svcVrefxLoss_only (fun _ _ => ?_) (fun _ _ => ?_) ?_ (.refl s)),
    fun ref => .ticking rfl (svcSettled_only (fun _ _ => ?_) ?_ (.refl s)),
    .heard rfl (svcRestore_only (fun _ _ => ?_) (fun _ _ _ => ?tests) ?_ (.refl s))⟩
  case urgent =>
    intro t ht
    cases ht
    have h : Only (· ∈ [Adr.SVC_URG_CNT, (F.pgInt Pg.svc 0).addr]) (fun u : State => { u with cyc := 0, svc := {} }) s
        (if rank.val = 1 && !s.ports || s.phase != .running then s
          else svcUrgent rank.val cyc.val conv.val ch.val form.ref.val form.left (s.land cyc.val)) :=
      .ite (.refl s) (svcUrgent_only (fun _ _ => rfl) (by simp) (by simp [F.pgInt]) (.update (.refl s) rfl rfl))
    exact ⟨h.word, h.rest⟩
  case micb => simp
  case dirs => simp [State.setDir]
  case tests =>
    rename_i idx u k
    have hold := filter_startTest (s := u) (unit := 0x14) (idx := idx) (k := k) (p := fun r : RTest => r.unit != 0x14) fun r hr _ => by simp [hr]
    simp [hold]
  case trims =>
    change TrimRegs n (matchRow (s.ach n).mode) _
    simp [TrimRegs]
  case gain | delay =>
    dsimp only
    rw [SMap.foldl_erase_set _ _ _ (by simp)]
  all_goals simp [State.setAch, State.setAud, State.setDir, MatchRegs, F.pgInt, Pg.svc, F.AIN_MICB_STAT_MICB_OC, tests_startTest_aside]
end Sys2Proof

/-!
The fault log (R534): a record written to a queue in which another producer's signature is due for cut-through.
-/

namespace Sys2Proof.Machine

/-- The log holds one record of tick 0, and its queue 0 an open signature of another producer that has reached its CT bytes. -/
def dueSignatureState : State :=
  ((({ State.reset with
      phase := .running, tick := 1, flt := { State.reset.flt with log := [{ tick := 0, cyc := 0, flags := 0, code := 1, inst := 0, action := 0 }] },
      qmg := { State.reset.qmg with queues := [(0, { opens := [{ prod := ⟨5, 11, 0⟩, tick := 0, cyc := 0, ct := 4, len := 4, words := [0] }] })] } }.setFld
    F.FLT_LOG_CFG_LOGQ_EN 1).setFld (F.QMG_QCFG_EN 0) 1).setFld (F.QMG_QCFG_RES 0) 1).setFld F.FLT_LOG_CFG_LOGQ 0

example : qMayGrant 0 5 dueSignatureState = true := by decide

/-- The first word of the record links the other signature before the record's own (R404). -/
theorem dueSignatureState_linksOther : ((logSend dueSignatureState).queue 0).sigs[0]?.map (·.closed) = some false := by decide

end Sys2Proof.Machine

namespace Sys2Proof

open Machine

/-- Refutes O40: its clause of LOG_RECORD_SEND says that the record is the next signature of its queue. In `dueSignatureState` another producer's open signature has reached its CT bytes, and the first word of the record links that one first (R404). -/
theorem not_faultCommandsComplete : ¬ Obligations.FaultCommandsComplete := by
  intro h
  obtain ⟨-, hsend, -⟩ := h dueSignatureState
  obtain ⟨t, he, -, -, -, hrec⟩ := hsend 0 _ rfl (by decide) rfl rfl (by decide) (by decide) (by decide) rfl rfl (by decide) (by decide) rfl
  rw [exec, execLogRecordSend, State.ticking_of_running rfl] at he
  cases he
  have hclosed := congrArg (Option.map (fun g : Bool × List Word × Nat => g.1)) hrec
  rw [Option.map_map] at hclosed
  exact absurd (dueSignatureState_linksOther.symm.trans hclosed) (by decide)

end Sys2Proof

/-!
The press (R517, R519): the headband that a press takes back after it has gone live.
-/

namespace Sys2Proof.Machine

/-- A committed press is due, and the headband kept for it names the register of the press itself. -/
def keptStatState : State :=
  { State.reset with phase := .running, press := { State.reset.press with kind := 2, hb := [(Adr.PRESS_STAT, 0)] } }.setFld F.PRESS_STAT_PSTATE 4

/-- The words kept for the headband come back whatever the press did in between. -/
theorem hbUse_word {f : State → State} {s : State} {a : Nat} {w : Word} (h : s.press.hb = [(a, w)]) : (hbUse f s).word a = s.word a := by
  unfold hbUse
  rw [h]
  exact State.word_setWord_same _ _ _

end Sys2Proof.Machine

namespace Sys2Proof

open Machine

/-- Refutes O39: its clause of PRESS_APPLY says that PSTATE is 0 afterwards. In `keptStatState` the words kept for the headband name PRESS_STAT, which therefore comes back with PSTATE 4 (R519). -/
theorem not_pressCommandsComplete : ¬ Obligations.PressCommandsComplete := by
  intro h
  obtain ⟨-, -, -, -, -, -, -, -, -, -, -, happly, -⟩ := h keptStatState
  obtain ⟨t, he, -, -, hidle, -⟩ := happly rfl rfl (by decide) (by decide)
  have hdue : pressDue keptStatState = true := by decide
  rw [exec, execPressApply, State.ticking_of_running rfl, pressApply, if_pos hdue] at he
  have hword : t.word Adr.PRESS_STAT = keptStatState.word Adr.PRESS_STAT := by
    obtain rfl := (Host.Outcome.next.inj he).symm
    exact hbUse_word (f := pressLive) (w := 0) rfl
  have hkept : t.fld F.PRESS_STAT_PSTATE = 4 := by
    rw [State.fld, show (F.PRESS_STAT_PSTATE).addr = Adr.PRESS_STAT from rfl, hword]
    decide
  exact absurd (hkept.symm.trans hidle) (by decide)

end Sys2Proof

/-!
The management controller (R487, R545): a write to a crosspoint whose glide the state lists under a number that no glide has.
-/

namespace Sys2Proof.Machine

/-- The register of glide 7936, one of the 256 glides' layout carried on, would be the one that holds the slew limit of CV output 0. -/
theorem strayGlide_register : Adr.MIX_GL_CTRL 7936 = Adr.CV_HB_SLEW 0 := rfl

/-- Crosspoint 0 glides under number 7936, and the slew limit of CV output 0 is 0x8000. -/
def strayGlideState : State :=
  { State.reset with
    phase := .running, ports := true,
    mix := { State.reset.mix with glide := [(7936, some { xp := 0, g0 := 0, target := 0, time := 1, t0 := 0 })] } }.setWord
    (Adr.CV_HB_SLEW 0) 0x8000

/-- The controller's write to crosspoint 0 ends the glide and clears the bit that stands where its ACTIVE would. -/
theorem strayGlideState_write : (writeAt .mc 0x400000 0 (strayGlideState.land 0)).word (Adr.CV_HB_SLEW 0) = 0 := by decide

/-- The limit is locked to the host. -/
theorem cvHbSlew_locked : (rowOf (Adr.CV_HB_SLEW 0)).map (fun r => r.mask (fun k => decide (k = .lk ∨ k = .otw))) = some 0xFFFF#32 := by decide

end Sys2Proof.Machine

namespace Sys2Proof

open Machine

/-- Refutes O9: in `strayGlideState` the map of glides lists one under number 7936. Its end, at the controller's write to its crosspoint, clears ACTIVE of that number, a bit of the locked slew limit of CV output 0. -/
theorem not_controllerChangesNoLock : ¬ Obligations.ControllerChangesNoLock := by
  intro h
  obtain ⟨r, hr, hmask⟩ := Option.map_eq_some_iff.mp cvHbSlew_locked
  have he : exec (.registerWrite .mc 0 ⟨0x400000, by decide⟩ 0) strayGlideState = .next (writeAt .mc 0x400000 0 (strayGlideState.land 0)) := by
    rw [exec, execRegisterWrite]
    exact State.heardFrom_of_hears rfl _
  obtain ⟨hlock, -⟩ := h 0 ⟨0x400000, by decide⟩ 0 strayGlideState _ he
  have hslew := hlock (Adr.CV_HB_SLEW 0) r hr
  rw [hmask, strayGlideState_write, strayGlideState, State.word_setWord_same] at hslew
  exact absurd hslew (by decide)

end Sys2Proof

/-!
The register path (R488): a staged write over a map of registers that lists a word equal to its reset value.
-/

namespace Sys2Proof.Machine

/-- The host ports answer, and the map of registers lists OUT_CFG of output 0 with its reset value. -/
def listedResetState : State :=
  { State.reset with phase := .running, ports := true, regs := [(Adr.OUT_CFG 0, resetWord (Adr.OUT_CFG 0))] }

/-- The write, which lands in the shadow, puts the live word back and so takes it off the list. -/
theorem listedResetState_write : (writeAt .hpb (Adr.OUT_CFG 0) 0 (listedResetState.land 0)).regs = [] := by decide

end Sys2Proof.Machine

namespace Sys2Proof

open Machine

/-- Refutes O37: its clause of a write to a staged register says that the map of live registers stays as it is. In `listedResetState` that map lists the register with its reset value, and the write takes the entry off. -/
theorem not_hostCommandsComplete : ¬ Obligations.HostCommandsComplete := by
  intro h
  obtain ⟨-, hstaged, -⟩ := h listedResetState
  obtain ⟨t, he, hregs, -⟩ := hstaged .hpb 0 0 rfl
  rw [exec, execRegisterWrite, State.heardFrom_of_hears rfl] at he
  obtain rfl := (Host.Outcome.next.inj he).symm
  exact absurd (listedResetState_write.symm.trans hregs) (by decide)

end Sys2Proof

/-!
Control peripherals (R567-R570): what a result, a bus clear and received bytes of an I2C controller leave, and the levels and edges of the GPIO pins.
-/

namespace Sys2Proof.Machine

section

variable {s : State} {k : Nat}

theorem State.i2cAt_congr {t : State} (h : t.i2c = s.i2c) (k : Nat) : t.i2cAt k = s.i2cAt k := by rw [State.i2cAt, h, State.i2cAt]

theorem i2cWork_i2cAt (k w : Nat) (s : State) : (i2cWork k w s).i2cAt k = { s.i2cAt k with work := w } := SMap.get_set_same ..

theorem i2cWork_fld (k w : Nat) (s : State) (f : Fld) : (i2cWork k w s).fld f = s.fld f := rfl

/-! A result (R568, R574). -/

theorem i2cResult_i2cAt (k r n : Nat) (s : State) : (i2cResult k r n s).i2cAt k = s.i2cAt k :=
  State.i2cAt_congr (by
    unfold i2cResult
    rw [State.when_keeps (·.i2c) (by simp)]
    simp) k

theorem i2cResult_flt (k r n : Nat) (s : State) : (i2cResult k r n s).flt = s.flt := by
  unfold i2cResult
  rw [State.when_keeps (·.flt) (by simp)]
  simp

theorem i2cResult_fld {f : Fld} (r n : Nat) (s : State) (h1 : f.addr ≠ Adr.I2C_RES k) (h2 : f.addr ≠ Adr.I2C_CNT k)
    (h3 : f.addr ≠ Pg.peri * 4096 + 16) : (i2cResult k r n s).fld f = s.fld f := by
  unfold i2cResult
  rw [State.when_keeps (·.fld f) (by rw [State.fld_raise_other _ h3, State.fld_bump_off _ (.inr (.inr h2)) (.inr (.inr h2))]),
    State.fld_raise_other _ h3, State.fld_post_other _ _ h1]

theorem i2cResult_state (r n : Nat) (s : State) : (i2cResult k r n s).fld (F.I2C_STAT_STATE k) = s.fld (F.I2C_STAT_STATE k) :=
  i2cResult_fld r n s (by simp only [F.I2C_STAT_STATE, Adr.I2C_STAT, Adr.I2C_RES]; omega)
    (by simp only [F.I2C_STAT_STATE, Adr.I2C_STAT, Adr.I2C_CNT]; omega) (by simp only [F.I2C_STAT_STATE, Adr.I2C_STAT, Pg.peri]; omega)

/-- The numbers that the result register shows. -/
theorem i2cResult_shows {r n : Nat} (s : State) (hr : r < 8) (hn : n < 64) : (i2cResult k r n s).fld (F.I2C_RES_RESULT k) = r ∧
    (i2cResult k r n s).fld (F.I2C_RES_NBYTE k) = n ∧ (i2cResult k r n s).fld (F.pgInt Pg.peri 1) = 1 := by
  have hw : (s.post (Adr.I2C_RES k) (((0 : Word).put 2 0 r).put 13 8 n)).word (Adr.I2C_RES k) = _ := State.word_post_same ..
  have hput : ((((((0 : Word).put 2 0 r).put 13 8 n).put 30 23 (((s.word (Adr.I2C_RES k)).bits 30 23 + 1) % 256)).put 31 31 0).bits 2 0 = r ∧
      (((((0 : Word).put 2 0 r).put 13 8 n).put 30 23 (((s.word (Adr.I2C_RES k)).bits 30 23 + 1) % 256)).put 31 31 0).bits 13 8 = n) := by
    constructor
    · rw [Word.bits_put_other _ _ (by decide), Word.bits_put_other _ _ (by decide), Word.bits_put_other _ _ (by decide),
        Word.bits_put_same _ _ _ (by decide)]
      exact Nat.mod_eq_of_lt hr
    · rw [Word.bits_put_other _ _ (by decide), Word.bits_put_other _ _ (by decide), Word.bits_put_same _ _ _ (by decide)]
      exact Nat.mod_eq_of_lt hn
  have hres {f : Fld} (hf : f.addr = Adr.I2C_RES k) : (i2cResult k r n s).fld f =
      (s.post (Adr.I2C_RES k) (((0 : Word).put 2 0 r).put 13 8 n)).fld f := by
    have h1 : f.addr ≠ Pg.peri * 4096 + 16 := by rw [hf]; simp only [Adr.I2C_RES, Pg.peri]; omega
    have h2 : f.addr ≠ Adr.I2C_CNT k := by rw [hf]; simp only [Adr.I2C_RES, Adr.I2C_CNT]; omega
    unfold i2cResult
    rw [State.when_keeps (·.fld f) (by rw [State.fld_raise_other _ h1, State.fld_bump_off _ (.inr (.inr h2)) (.inr (.inr h2))]),
      State.fld_raise_other _ h1]
  refine ⟨?_, ?_, ?_⟩
  · rw [hres rfl, State.fld]
    exact (congrArg (·.bits 2 0) hw).trans hput.1
  · rw [hres rfl, State.fld]
    exact (congrArg (·.bits 13 8) hw).trans hput.2
  · unfold i2cResult
    refine State.when_holds (P := fun u => u.fld (F.pgInt Pg.peri 1) = 1) (State.fld_raise_self _ (by decide)) fun h => ?_
    refine State.raise_still (by decide) ?_
    rw [State.fld_bump_off _ (.inr (.inr (by simp only [F.pgInt, Pg.peri, F.I2C_CNT_ERR_CNT, Adr.I2C_CNT]; omega)))
      (.inr (.inr (by simp only [F.pgInt, Pg.peri, F.I2C_CNT_ER_SAT, Adr.I2C_CNT]; omega)))]
    exact h

theorem i2cCnt_ne_int (k : Nat) : Adr.I2C_CNT k ≠ Pg.peri * 4096 + 16 := by simp only [Adr.I2C_CNT, Pg.peri]; omega

theorem i2cCnt_ne_res (k : Nat) : Adr.I2C_CNT k ≠ Adr.I2C_RES k := by simp only [Adr.I2C_CNT, Adr.I2C_RES]; omega

/-- An error is counted and raised. -/
theorem i2cResult_error {r : Nat} (n : Nat) (s : State) (h0 : r ≠ 0) (h7 : r ≠ 7) :
    Counted s (i2cResult k r n s) (F.I2C_CNT_ERR_CNT k) ∧ (i2cResult k r n s).fld (F.pgInt Pg.peri 2) = 1 := by
  rw [i2cResult, State.when_of (by simp [h0, h7])]
  refine ⟨?_, State.fld_raise_self _ (by decide)⟩
  have h := State.counted_raise (s := (s.post (Adr.I2C_RES k) (((0 : Word).put 2 0 r).put 13 8 n)).raise Pg.peri 1) (q := Pg.peri) (j := 2)
    (cnt := F.I2C_CNT_ERR_CNT k) (sat := F.I2C_CNT_ER_SAT k) (of_decide_eq_true rfl) (i2cCnt_ne_int k)
  rw [Counted] at h ⊢
  rw [h, State.fld_raise_other _ (i2cCnt_ne_int k), State.fld_post_other _ _ (i2cCnt_ne_res k)]

/-- OK is no error. -/
theorem i2cResult_ok (n : Nat) (s : State) : (i2cResult k 0 n s).fld (F.I2C_CNT_ERR_CNT k) = s.fld (F.I2C_CNT_ERR_CNT k) := by
  rw [i2cResult, State.when_of_not (by decide), State.fld_raise_other _ (i2cCnt_ne_int k), State.fld_post_other _ _ (i2cCnt_ne_res k)]

/-! The bus clear (R569). -/

theorem i2cClear_shows (k : Nat) (sda : Bool) (s : State) : ((i2cClear k sda s).i2cAt k).work = (if sda then 0 else 3) ∧
    (i2cClear k sda s).fld (F.I2C_STAT_STATE k) = (if sda then 1 else 2) := by
  cases sda
  · rw [i2cClear, if_neg (by decide), State.i2cAt_congr (State.bump_i2c ..), State.i2cAt_congr (State.setFld_i2c ..), i2cWork_i2cAt]
    refine ⟨rfl, ?_⟩
    rw [State.fld_bump_off _ (Fld.Apart.symm (.inr (.inr (by simp only [F.I2C_STAT_STATE, Adr.I2C_STAT, F.I2C_CNT_CLR_CNT, Adr.I2C_CNT]; omega))))
      (.inr (.inr (by simp only [F.I2C_STAT_STATE, Adr.I2C_STAT, F.I2C_CNT_CL_SAT, Adr.I2C_CNT]; omega))),
      State.fld_setFld_fits _ (of_decide_eq_true rfl) (of_decide_eq_true rfl)]
    rfl
  · rw [i2cClear, if_pos rfl, State.i2cAt_congr (State.setFld_i2c ..), i2cWork_i2cAt]
    exact ⟨rfl, State.fld_setFld_fits _ (of_decide_eq_true rfl) (of_decide_eq_true rfl)⟩

theorem i2cClear_counts (k : Nat) (s : State) : Counted s (i2cClear k false s) (F.I2C_CNT_CLR_CNT k) := by
  rw [i2cClear, if_neg (by decide), Counted, State.fld_bump_counter _ (of_decide_eq_true rfl) (of_decide_eq_true rfl) (Fld.apart_sure rfl),
    State.fld_setFld_addr _ _ (by simp only [F.I2C_STAT_STATE, Adr.I2C_STAT, F.I2C_CNT_CLR_CNT, Adr.I2C_CNT]; omega), i2cWork_fld]

theorem i2cClear_fld {f : Fld} (sda : Bool) (s : State) (h1 : f.addr ≠ Adr.I2C_STAT k) (h2 : (F.I2C_CNT_CLR_CNT k).Apart f)
    (h3 : (F.I2C_CNT_CL_SAT k).Apart f) : (i2cClear k sda s).fld f = s.fld f := by
  cases sda
  · rw [i2cClear, if_neg (by decide), State.fld_bump_off _ h2 h3, State.fld_setFld_addr _ _ h1, i2cWork_fld]
  · rw [i2cClear, if_pos rfl, State.fld_setFld_addr _ _ h1, i2cWork_fld]

/-- The controller rests. -/
theorem i2cIdle_shows (k : Nat) (s : State) : (((i2cWork k 0 s).setFld (F.I2C_STAT_STATE k) 1).i2cAt k).work = 0 ∧
    ((i2cWork k 0 s).setFld (F.I2C_STAT_STATE k) 1).fld (F.I2C_STAT_STATE k) = 1 := by
  rw [State.i2cAt_congr (State.setFld_i2c ..), i2cWork_i2cAt]
  exact ⟨rfl, State.fld_setFld_fits _ (of_decide_eq_true rfl) (of_decide_eq_true rfl)⟩

/-- A transaction aborted (R568): its result, then the bus clear in mid-byte, else rest. -/
theorem i2cAbort_shows {r n : Nat} (mid sda : Bool) (s : State) (hr : r < 8) (hn : n < 64) (h0 : r ≠ 0) (h7 : r ≠ 7) :
    (i2cAbort k r n mid sda s).fld (F.I2C_RES_RESULT k) = r ∧ (i2cAbort k r n mid sda s).fld (F.I2C_RES_NBYTE k) = n ∧
    Counted s (i2cAbort k r n mid sda s) (F.I2C_CNT_ERR_CNT k) ∧ (i2cAbort k r n mid sda s).fld (F.pgInt Pg.peri 2) = 1 ∧
    (i2cAbort k r n mid sda s).fld (F.I2C_STAT_STATE k) = (if mid = true ∧ sda = false then 2 else 1) ∧
    ((i2cAbort k r n mid sda s).i2cAt k).work = (if mid = true ∧ sda = false then 3 else 0) := by
  obtain ⟨hres, hnum, -⟩ := i2cResult_shows (k := k) s hr hn
  obtain ⟨herr, hint⟩ := i2cResult_error (k := k) n s h0 h7
  have hkept {f : Fld} (h1 : f.addr ≠ Adr.I2C_STAT k) (h2 : (F.I2C_CNT_CLR_CNT k).Apart f) (h3 : (F.I2C_CNT_CL_SAT k).Apart f) :
      (i2cAbort k r n mid sda s).fld f = (i2cResult k r n s).fld f := by
    rw [i2cAbort]
    cases mid
    · exact State.fld_setFld_addr _ _ h1
    · exact i2cClear_fld sda _ h1 h2 h3
  have hstat {a : Nat} (i : Nat) (h : a < i) (e : i = 0x714C + 128 * k) : a ≠ Adr.I2C_STAT k := by simp only [Adr.I2C_STAT]; omega
  refine ⟨?_, ?_, ?_, ?_, ?_, ?_⟩
  · rw [hkept (hstat _ (by simp only [F.I2C_RES_RESULT, Adr.I2C_RES]; omega) rfl)
      (.inr (.inr (by simp only [F.I2C_RES_RESULT, Adr.I2C_RES, F.I2C_CNT_CLR_CNT, Adr.I2C_CNT]; omega)))
      (.inr (.inr (by simp only [F.I2C_RES_RESULT, Adr.I2C_RES, F.I2C_CNT_CL_SAT, Adr.I2C_CNT]; omega))), hres]
  · rw [hkept (hstat _ (by simp only [F.I2C_RES_NBYTE, Adr.I2C_RES]; omega) rfl)
      (.inr (.inr (by simp only [F.I2C_RES_NBYTE, Adr.I2C_RES, F.I2C_CNT_CLR_CNT, Adr.I2C_CNT]; omega)))
      (.inr (.inr (by simp only [F.I2C_RES_NBYTE, Adr.I2C_RES, F.I2C_CNT_CL_SAT, Adr.I2C_CNT]; omega))), hnum]
  · rw [Counted, hkept (by simp only [F.I2C_CNT_ERR_CNT, Adr.I2C_CNT, Adr.I2C_STAT]; omega) (Fld.apart_sure rfl) (Fld.apart_sure rfl), herr]
  · rw [hkept (hstat _ (by simp only [F.pgInt, Pg.peri]; omega) rfl)
      (.inr (.inr (by simp only [F.pgInt, Pg.peri, F.I2C_CNT_CLR_CNT, Adr.I2C_CNT]; omega)))
      (.inr (.inr (by simp only [F.pgInt, Pg.peri, F.I2C_CNT_CL_SAT, Adr.I2C_CNT]; omega))), hint]
  · cases mid
    · exact (i2cIdle_shows k _).2
    · refine (i2cClear_shows k sda _).2.trans ?_
      cases sda <;> rfl
  · cases mid
    · exact (i2cIdle_shows k _).1
    · refine (i2cClear_shows k sda _).1.trans ?_
      cases sda <;> rfl

/-! Received bytes (R568). -/

/-- Byte `j` of a list put into its word of I2C_RX. -/
def i2cByte (k : Nat) (bs : List Byte) (j : Nat) (s : State) : State :=
  s.setWord (Adr.I2C_RX k (j / 4)) ((s.word (Adr.I2C_RX k (j / 4))).put (8 * (j % 4) + 7) (8 * (j % 4)) (bs.getD j 0).toNat)

theorem i2cStore_eq (k : Nat) (bs : List Byte) (s : State) : i2cStore k bs s = s.each (min 32 bs.length) (i2cByte k bs) := rfl

theorem i2cStore_only {β : Type} {ws : Nat → Prop} {E : State → β} {s0 : State} {bs : List Byte} (hw : ∀ j < 8, ws (Adr.I2C_RX k j))
    (h : Only ws E s0 s) : Only ws E s0 (i2cStore k bs s) :=
  Only.each (fun j hj _ hu => State.setWord_only (hw (j / 4) (by omega)) hu) h

theorem i2cStore_i2c (k : Nat) (bs : List Byte) (s : State) : (i2cStore k bs s).i2c = s.i2c :=
  (i2cStore_only (ws := fun _ => True) (E := State.i2c) (fun _ _ => trivial) (.refl s)).same fun _ => rfl

theorem i2cStore_fld {f : Fld} {bs : List Byte} (h : ∀ j < 8, f.addr ≠ Adr.I2C_RX k j) : (i2cStore k bs s).fld f = s.fld f :=
  (i2cStore_only (ws := fun a => ∃ j < 8, a = Adr.I2C_RX k j) (E := fun _ => ()) (fun j hj => ⟨j, hj, rfl⟩) (.refl s)).fld
    fun ⟨j, hj, e⟩ => h j hj e

/-- The byte lands in its place. -/
theorem i2cByte_same (k : Nat) (bs : List Byte) (j : Nat) (s : State) :
    ((i2cByte k bs j s).word (Adr.I2C_RX k (j / 4))).bits (8 * (j % 4) + 7) (8 * (j % 4)) = (bs.getD j 0).toNat := by
  rw [i2cByte, State.word_setWord_same, Word.bits_put_same _ _ _ (by omega), show 8 * (j % 4) + 7 + 1 - 8 * (j % 4) = 8 by omega]
  exact Nat.mod_eq_of_lt (bs.getD j 0).isLt

/-- A byte leaves every other place as it is. -/
theorem i2cByte_other (k : Nat) (bs : List Byte) {i j : Nat} (h : i ≠ j) (s : State) :
    ((i2cByte k bs j s).word (Adr.I2C_RX k (i / 4))).bits (8 * (i % 4) + 7) (8 * (i % 4)) =
      (s.word (Adr.I2C_RX k (i / 4))).bits (8 * (i % 4) + 7) (8 * (i % 4)) := by
  rw [i2cByte]
  by_cases hq : i / 4 = j / 4
  · rw [hq, State.word_setWord_same, Word.bits_put_other _ _ (by omega)]
  · rw [State.word_setWord_other _ _ (by simp only [Adr.I2C_RX]; omega)]

/-- Every byte stored stands in its place. -/
theorem i2cByte_each (k : Nat) (bs : List Byte) (s : State) (n : Nat) : ∀ j < n,
    ((s.each n (i2cByte k bs)).word (Adr.I2C_RX k (j / 4))).bits (8 * (j % 4) + 7) (8 * (j % 4)) = (bs.getD j 0).toNat := by
  induction n with
  | zero => intro j hj; omega
  | succ n ih =>
    intro j hj
    rw [State.each, List.range_succ, List.foldl_append]
    by_cases hn : j = n
    · rw [hn]; exact i2cByte_same k bs n _
    · exact (i2cByte_other k bs hn _).trans (ih j (by omega))

/-! The pins (R570). -/

theorem gpioEdges_gpio (old new : Word) (s : State) : (gpioEdges old new s).gpio = s.gpio := by
  unfold gpioEdges
  exact (State.when_keeps (·.gpio) (by simp)).trans (by simp)

theorem gpioEdges_word {old new : Word} {a : Nat} (s : State) (ha : a ≠ Pg.peri * 4096 + 16) : (gpioEdges old new s).word a =
    ((s.setWord Adr.GPIO_IN new).setWord Adr.GPIO_EVT (s.word Adr.GPIO_EVT |||
      ((new &&& ~~~old &&& s.word Adr.GPIO_RISE) ||| (old &&& ~~~new &&& s.word Adr.GPIO_FALL)))).word a := by
  unfold gpioEdges
  exact State.when_keeps (·.word a) (State.word_setFld_other _ _ ha)

/-- The pins drive GPIO_IN alone, and enabled edges GPIO_EVT. -/
theorem gpioDrive_in (s : State) : (gpioDrive s).word Adr.GPIO_IN = gpioLevel s := by
  rw [gpioDrive, gpioEdges_word _ (by decide), State.word_setWord_other _ _ (by decide), State.word_setWord_same]

theorem gpioDrive_evt (s : State) : (gpioDrive s).word Adr.GPIO_EVT = s.word Adr.GPIO_EVT |||
    ((gpioLevel s &&& ~~~s.word Adr.GPIO_IN &&& s.word Adr.GPIO_RISE) ||| (s.word Adr.GPIO_IN &&& ~~~gpioLevel s &&& s.word Adr.GPIO_FALL)) := by
  rw [gpioDrive, gpioEdges_word _ (by decide), State.word_setWord_same]

theorem gpioDrive_out (s : State) : (gpioDrive s).word Adr.GPIO_OUT = s.word Adr.GPIO_OUT := by
  rw [gpioDrive, gpioEdges_word _ (by decide), State.word_setWord_other _ _ (by decide), State.word_setWord_other _ _ (by decide)]

/-- An edge sets the EVT bit where its direction is enabled. -/
theorem gpioDrive_evt_bit (s : State) {j : Nat} (hj : j < 32) : ((gpioDrive s).word Adr.GPIO_EVT).getLsbD j =
    ((s.word Adr.GPIO_EVT).getLsbD j || ((s.word Adr.GPIO_IN).getLsbD j != (gpioLevel s).getLsbD j &&
      (s.word (if (gpioLevel s).getLsbD j then Adr.GPIO_RISE else Adr.GPIO_FALL)).getLsbD j)) := by
  rw [gpioDrive_evt]
  simp only [BitVec.getLsbD_or, BitVec.getLsbD_and, BitVec.getLsbD_not, hj, decide_true, Bool.true_and]
  cases (gpioLevel s).getLsbD j <;> cases (s.word Adr.GPIO_IN).getLsbD j <;> simp

/-- An input pin that is driven from outside shows its driver. -/
theorem gpioLevel_driven {n : Nat} (hn : n < 32) (rise : Bool) (s : State) (hd : (s.word Adr.GPIO_DIR).getLsbD n = false) :
    (gpioLevel (gpioDriven n rise s)).getLsbD n = rise := by
  have hdir : ((gpioDriven n rise s).word Adr.GPIO_DIR).getLsbD n = false := hd
  have hdriven : (gpioDriven n rise s).gpio.driven.getLsbD n = true := by
    rw [gpioDriven, Word.getLsbD_put _ _ _ _ _ hn, if_pos ⟨Nat.le_refl _, Nat.le_refl _⟩, Nat.sub_self]
    rfl
  have hlevel : (gpioDriven n rise s).gpio.level.getLsbD n = rise := by
    rw [gpioDriven, Word.getLsbD_put _ _ _ _ _ hn, if_pos ⟨Nat.le_refl _, Nat.le_refl _⟩, Nat.sub_self]
    cases rise <;> rfl
  simp only [gpioLevel, BitVec.getLsbD_or, BitVec.getLsbD_and, BitVec.getLsbD_not, hn, decide_true, Bool.true_and, hdir, hdriven, hlevel]
  simp

/-- An output pin shows GPIO_OUT. -/
theorem gpioLevel_output (s : State) : gpioLevel s &&& s.word Adr.GPIO_DIR = s.word Adr.GPIO_OUT &&& s.word Adr.GPIO_DIR := by
  apply BitVec.eq_of_getLsbD_eq
  intro i hi
  simp only [gpioLevel, BitVec.getLsbD_or, BitVec.getLsbD_and, BitVec.getLsbD_not, hi, decide_true, Bool.true_and]
  cases (s.word Adr.GPIO_DIR).getLsbD i <;> simp

/-- A new GPIO_OUT stands, and the pins follow it. -/
theorem gpioDrive_setOut (w : Word) (s : State) : (gpioDrive (s.setWord Adr.GPIO_OUT w)).word Adr.GPIO_OUT = w ∧
    (gpioDrive (s.setWord Adr.GPIO_OUT w)).word Adr.GPIO_IN = gpioLevel (s.setWord Adr.GPIO_OUT w) ∧
    (gpioDrive (s.setWord Adr.GPIO_OUT w)).word Adr.GPIO_IN &&& s.word Adr.GPIO_DIR = w &&& s.word Adr.GPIO_DIR := by
  have hout := gpioLevel_output (s.setWord Adr.GPIO_OUT w)
  rw [State.word_setWord_same, State.word_setWord_other (a := Adr.GPIO_OUT) (b := Adr.GPIO_DIR) _ _ (by decide)] at hout
  rw [gpioDrive_out, gpioDrive_in, State.word_setWord_same]
  exact ⟨rfl, rfl, hout⟩

end

end Sys2Proof.Machine

namespace Sys2Proof

open Machine

/-- Settles O42, each clause by what its command leaves: a GO, a result, an abort, the bus clear, and the pins that an edge or a write of GPIO_OUT moves. -/
theorem peripheralCommandsComplete : Obligations.PeripheralCommandsComplete := by
  intro s
  refine ⟨?_, ?_, ?_, ?_, ?_, ?_, ?_, ?_, ?_, ?_, ?_, ?_⟩
  · intro k addr rlen wlen held hp he h2 h3
    rw [exec, execI2cTransaction, completes_heard hp, i2cGo]
    rw [if_neg (by simp [he, h2]), if_neg h3]
    refine ⟨(State.i2cAt_congr (State.setFld_i2c ..) _).trans (SMap.get_set_same ..), ?_⟩
    exact State.fld_setFld_fits _ (of_decide_eq_true rfl) (of_decide_eq_true rfl)
  · intro k nbyte rx hr hw
    rw [exec, execI2cTransactionDone, completes_ticking hr, State.when_of (by rw [hw]; rfl)]
    obtain ⟨hres, hnum, hint⟩ := i2cResult_shows (k := k) (n := nbyte)
      ((i2cWork k 0 (i2cStore k (rx.take (s.i2cAt k).rlen) s)).setFld (F.I2C_STAT_STATE k) 1) (show 0 < 8 by decide) nbyte.isLt
    obtain ⟨hwork, hstate⟩ := i2cIdle_shows k (i2cStore k (rx.take (s.i2cAt k).rlen) s)
    refine ⟨?_, ?_, hres, hnum, hint, ?_, fun j hj hjr hjl => ?_⟩
    · exact (congrArg I2cSt.work (i2cResult_i2cAt ..)).trans hwork
    · exact (i2cResult_state ..).trans hstate
    · refine (i2cResult_ok ..).trans ?_
      rw [State.fld_setFld_addr _ _ (by simp only [F.I2C_CNT_ERR_CNT, Adr.I2C_CNT, F.I2C_STAT_STATE, Adr.I2C_STAT]; omega), i2cWork_fld,
        i2cStore_fld fun j hj => by simp only [F.I2C_CNT_ERR_CNT, Adr.I2C_CNT, Adr.I2C_RX]; omega]
    · have hj8 : j / 4 < 8 := by omega
      rw [State.bits_word]
      refine (i2cResult_fld _ _ _ (by simp only [Adr.I2C_RX, Adr.I2C_RES]; omega) (by simp only [Adr.I2C_RX, Adr.I2C_CNT]; omega)
        (by simp only [Adr.I2C_RX, Pg.peri]; omega)).trans ?_
      rw [State.fld_setFld_addr _ _ (by simp only [F.I2C_STAT_STATE, Adr.I2C_STAT, Adr.I2C_RX]; omega), i2cWork_fld, ← State.bits_word, i2cStore_eq,
        i2cByte_each _ _ _ _ j (by rw [List.length_take]; omega), List.getD_eq_getElem?_getD, List.getElem?_take, if_pos hjl,
        ← List.getD_eq_getElem?_getD]
  · intro k nack nbyte rx hr hw hn
    rw [exec, execI2cTransactionDone, completes_ticking hr, State.when_of (by rw [hw]; rfl)]
    have h0 : nack.val ≠ 0 := fun e => hn (Fin.ext e)
    obtain ⟨hres, hnum, -⟩ := i2cResult_shows (k := k) (r := nack) (n := nbyte)
      ((i2cWork k 0 (i2cStore k (rx.take (s.i2cAt k).rlen) s)).setFld (F.I2C_STAT_STATE k) 1) (by omega) nbyte.isLt
    obtain ⟨herr, hint⟩ := i2cResult_error (k := k) (r := nack) nbyte
      ((i2cWork k 0 (i2cStore k (rx.take (s.i2cAt k).rlen) s)).setFld (F.I2C_STAT_STATE k) 1) h0 (by omega)
    obtain ⟨hwork, hstate⟩ := i2cIdle_shows k (i2cStore k (rx.take (s.i2cAt k).rlen) s)
    refine ⟨?_, ?_, hres, hnum, ?_, hint⟩
    · exact (congrArg I2cSt.work (i2cResult_i2cAt ..)).trans hwork
    · exact (i2cResult_state ..).trans hstate
    · rw [Counted] at herr ⊢
      rw [herr, State.fld_setFld_addr _ _ (by simp only [F.I2C_CNT_ERR_CNT, Adr.I2C_CNT, F.I2C_STAT_STATE, Adr.I2C_STAT]; omega), i2cWork_fld,
        i2cStore_fld fun j hj => by simp only [F.I2C_CNT_ERR_CNT, Adr.I2C_CNT, Adr.I2C_RX]; omega]
  · intro k nbyte mid sda hr hw
    rw [exec, execI2cArbLost, completes_ticking hr, State.when_of (by rw [hw]; rfl)]
    exact i2cAbort_shows mid sda s (by decide) nbyte.isLt (by decide) (by decide)
  · intro k nbyte mid sda hr hw ht
    rw [exec, execI2cTimeout]
    dsimp only
    rw [completes_ticking hr, hw, ht, State.when_of (by decide), show (mid && 1 == 2) = false by cases mid <;> rfl]
    obtain ⟨hres, -, herr, -, hstate, hwork⟩ :=
      i2cAbort_shows (k := k) (r := 4) (n := nbyte) false sda s (by decide) nbyte.isLt (by decide) (by decide)
    exact ⟨hres, herr, hstate, hwork⟩
  · intro k sda hp he h2
    rw [exec, execI2cBusClear, completes_heard hp, i2cXfer, if_pos (by decide), if_neg (by simp [he, h2])]
    obtain ⟨hwork, hstate⟩ := i2cClear_shows k sda s
    refine ⟨hwork, hstate, ?_⟩
    rintro rfl
    exact i2cClear_counts k s
  · intro k hr hw
    refine ⟨?_, ?_⟩
    · rw [exec, execI2cBusClearDone, completes_ticking hr, State.when_of (by rw [hw]; rfl)]
      obtain ⟨hwork, hstate⟩ := i2cIdle_shows k s
      dsimp only
      rw [if_pos rfl]
      exact ⟨(congrArg I2cSt.work (i2cResult_i2cAt ..)).trans hwork, (i2cResult_state ..).trans hstate,
        (i2cResult_shows _ (by decide) (by decide)).1⟩
    · rw [exec, execI2cBusClearDone, completes_ticking hr, State.when_of (by rw [hw]; rfl)]
      dsimp only
      rw [if_neg (by decide)]
      have hres := (i2cResult_shows (k := k) (r := 5) (n := 0) ((i2cWork k 0 s).setFld (F.I2C_STAT_STATE k) 3) (by decide) (by decide)).1
      refine ⟨?_, ?_, ?_, ?_, State.report_reported ?_⟩
      · rw [State.i2cAt_congr (State.report_i2c ..), State.i2cAt_congr (State.raise_i2c ..), i2cResult_i2cAt,
          State.i2cAt_congr (State.setFld_i2c ..), i2cWork_i2cAt]
      · rw [State.report_fld, State.fld_raise_other _ (by simp only [F.I2C_STAT_STATE, Adr.I2C_STAT, Pg.peri]; omega), i2cResult_state,
          State.fld_setFld_fits _ (of_decide_eq_true rfl) (of_decide_eq_true rfl)]
      · rw [State.report_fld, State.fld_raise_other _ (by simp only [F.I2C_RES_RESULT, Adr.I2C_RES, Pg.peri]; omega), hres]
      · rw [State.report_fld, State.fld_raise_self _ (by decide)]
      · rw [State.raise_flt, i2cResult_flt, State.setFld_flt]
        rfl
  · intro k sda hp he
    rw [exec, execI2cEnable, completes_heard hp, he, i2cEnable, if_pos (by decide)]
    obtain ⟨hwork, hstate⟩ := i2cClear_shows k sda (s.setFld (F.I2C_CFG_EN k) 1)
    refine ⟨?_, hwork, hstate⟩
    rw [i2cClear_fld _ _ (by simp only [F.I2C_CFG_EN, Adr.I2C_CFG, Adr.I2C_STAT]; omega)
      (.inr (.inr (by simp only [F.I2C_CFG_EN, Adr.I2C_CFG, F.I2C_CNT_CLR_CNT, Adr.I2C_CNT]; omega)))
      (.inr (.inr (by simp only [F.I2C_CFG_EN, Adr.I2C_CFG, F.I2C_CNT_CL_SAT, Adr.I2C_CNT]; omega))),
      State.fld_setFld_one _ (Fld.flag_sure rfl)]
  · intro k hr hw
    rw [exec, execI2cOtherStop, completes_ticking hr, State.when_of (by rw [hw]; rfl)]
    exact ⟨i2cWork_i2cAt .., rfl⟩
  · intro n rise hr
    rw [exec, execGpioEdge]
    rw [completes_next, if_pos (show (gpioDriven n rise s).phase = .running from hr), gpioDrive_in]
    exact ⟨gpioEdges_gpio .., rfl, gpioLevel_driven n.isLt rise s, fun j hj => gpioDrive_evt_bit (gpioDriven n rise s) hj⟩
  · intro bits hp
    rw [exec, execGpioSet, completes_heard hp, gpioSet]
    exact gpioDrive_setOut ..
  · intro bits hp
    rw [exec, execGpioClr, completes_heard hp, gpioClr]
    exact gpioDrive_setOut ..

end Sys2Proof

/-!
The mailbox (R501, R502): what a message sent, taken, posted and acknowledged leaves.
-/

namespace Sys2Proof.Machine

/-- A word of a message posted to M2H_DATA. -/
def mboxWord (words : List Word) (i : Nat) (s : State) : State := s.setWord (Adr.M2H_DATA i) (words.getD i 0)

/-- Every word posted stands in its register. -/
theorem mboxWord_each (words : List Word) (s : State) (n : Nat) : ∀ i < n,
    (s.each n (mboxWord words)).word (Adr.M2H_DATA i) = words.getD i 0 := by
  induction n with
  | zero => intro i hi; omega
  | succ n ih =>
    intro i hi
    rw [State.each, List.range_succ, List.foldl_append]
    by_cases hn : i = n
    · rw [hn]; exact State.word_setWord_same ..
    · exact (State.word_setWord_other _ _ (by simp only [Adr.M2H_DATA]; omega)).trans (ih i (by omega))

end Sys2Proof.Machine

namespace Sys2Proof

open Machine

/-- Settles O38, each clause by its branch of the command; a posted message stands word by word. -/
theorem mailboxCommandsComplete : Obligations.MailboxCommandsComplete := by
  intro s
  refine ⟨?_, ?_, ?_, ?_, ?_, ?_⟩
  · intro len hp hf hlen
    have h0 : len.val ≠ 0 := fun e => hlen (Fin.ext e)
    have hsend : mboxSend len s = if s.flt.wdResets.contains s.tick then mboxLost s
        else (s.setFld F.MBOX_H2M_LEN_H2M_LEN (min 64 len)).setFld F.MBOX_STAT_H2M_FULL 1 := by
      rw [mboxSend, hf, if_neg (by decide), if_neg h0]
    rw [exec, execMboxSend, completes_heard hp, hsend]
    by_cases hw : s.tick ∈ s.flt.wdResets
    · rw [if_pos hw, if_pos (List.contains_iff_mem.mpr hw), mboxLost]
      exact ⟨by rw [State.on_bump_off _ (by decide) (by decide), hf], State.fld_bump_counter s (by decide) (by decide) (by decide)⟩
    · rw [if_neg hw, if_neg fun e => hw (List.contains_iff_mem.mp e)]
      refine ⟨?_, State.fld_setFld_one _ (by decide), ?_⟩
      · rw [State.fld_setFld_off _ _ (by decide), State.fld_setFld_fits _ (by decide) (by rw [show F.MBOX_H2M_LEN_H2M_LEN.width = 7 from rfl]; omega)]
      · rw [State.word_setFld_other _ _ (by decide), State.word_setFld_other _ _ (by decide)]
  · intro len hp hf
    rw [exec, execMboxSend, completes_heard hp, mboxSend, if_pos hf, mboxIgnored]
    exact ⟨State.fld_bump_off _ (by decide) (by decide), by rw [State.on_bump_off _ (by decide) (by decide), hf],
      State.fld_bump_counter s (by decide) (by decide) (by decide)⟩
  · intro hr hf
    rw [exec, execMboxTake, completes_ticking hr, State.when_of hf]
    refine ⟨?_, State.fld_raise_self _ (by decide)⟩
    rw [State.fld_raise_other _ (by decide), State.fld_setFld_zero _ (by decide)]
  · intro words hr hf hlen
    rw [exec, execMboxPost, completes_ticking hr, State.when_of (by rw [hf]; rfl), Nat.min_eq_right hlen]
    refine ⟨fun i hi => ?_, ?_, ?_, State.fld_raise_self _ (by decide)⟩
    · have ha : Adr.M2H_DATA i ≠ Pg.mbox * 4096 + 16 ∧ Adr.M2H_DATA i ≠ F.MBOX_STAT_M2H_FULL.addr ∧ Adr.M2H_DATA i ≠ F.MBOX_M2H_LEN_M2H_LEN.addr := by
        simp only [Adr.M2H_DATA, Pg.mbox, F.MBOX_STAT_M2H_FULL, Adr.MBOX_STAT, F.MBOX_M2H_LEN_M2H_LEN, Adr.MBOX_M2H_LEN]
        omega
      obtain ⟨h1, h2, h3⟩ := ha
      refine (State.word_setFld_other _ _ h1).trans ((State.word_setFld_other _ _ h2).trans ((State.word_setFld_other _ _ h3).trans ?_))
      exact mboxWord_each words s _ i hi
    · rw [State.fld_raise_other _ (by decide), State.fld_setFld_off _ _ (by decide),
        State.fld_setFld_fits _ (by decide) (by rw [show F.MBOX_M2H_LEN_M2H_LEN.width = 7 from rfl]; omega)]
    · rw [State.fld_raise_other _ (by decide), State.fld_setFld_one _ (by decide)]
  · intro hp
    rw [exec, execMboxAck, completes_heard hp, mboxAck]
  · intro hr hm
    rw [exec, execMcReady, completes_ticking hr, State.when_of (by rw [hm]; rfl)]
    refine ⟨?_, State.fld_raise_self _ (by decide)⟩
    rw [State.fld_raise_other _ (by decide), State.fld_setFld_one _ (by decide)]

end Sys2Proof

/-!
Non-volatile storage (R552-R566): what a programmed OTP word, a command of the journal and its end, the boot ROM and a host load leave.
-/

namespace Sys2Proof.Machine

section

variable {s : State}

/-- A field under SEQ of a result just posted is the value's own. -/
theorem State.fld_post_low (a : Nat) (v : Word) {hi : Nat} (lo : Nat) (h : hi < 23) (s : State) :
    (s.post a v).fld ⟨a, hi, lo⟩ = v.bits hi lo := by
  rw [← State.bits_word, State.word_post_same, Word.bits_put_other _ _ (.inr (by omega)), Word.bits_put_other _ _ (.inr (by omega))]

theorem Word.bits_low_ofNat (r : Nat) : Word.bits (BitVec.ofNat 32 r) 2 0 = r % 8 := by
  rw [Word.bits, BitVec.toNat_ofNat, Nat.shiftRight_zero]
  omega

/-! OTP (R552, R553, R556). -/

/-- A programmed word reads back as its data. -/
theorem otpData_otpWord (v : Word) : otpData (otpWord v) = some v := by
  have hd : (otpWord v).extractLsb' 0 32 = v := by
    rw [otpWord]
    exact BitVec.extractLsb'_append_eq_right
  rw [otpData, hd, if_pos rfl]

theorem otpData_zero : otpData 0 = none := by decide

theorem otpWord_ne_zero (v : Word) : otpWord v ≠ 0 := fun e => by
  have h := otpData_otpWord v
  rw [e, otpData_zero] at h
  cases h

theorem otpLast_push (ws : List OtpWord) (v : Word) : otpLast (ws ++ [otpWord v]) = some v := by
  rw [otpLast, List.filterMap_append, List.filterMap_cons, otpData_otpWord]
  simp

/-- A word lands in its item unless it reads all 0 (R553). -/
theorem otpPush_words (i : Nat) (w : OtpWord) (s : State) :
    otpWords (otpPush i w s) i = if w = 0 then otpWords s i else otpWords s i ++ [w] := by
  by_cases hw : w = 0
  · rw [if_pos hw, otpPush, State.when_of_not (by simp [hw])]
  · rw [if_neg hw, otpPush, State.when_of (bne_iff_ne.mpr hw)]
    exact SMap.get_set_same ..

theorem otpPush_busy (i : Nat) (w : OtpWord) (s : State) : (otpPush i w s).nvm.otpBusy = s.nvm.otpBusy :=
  State.when_keeps (·.nvm.otpBusy) rfl

theorem otpResult_nvm (r : Nat) (s : State) : (otpResult r s).nvm = s.nvm := by
  rw [otpResult, State.raise_nvm, State.post_nvm]
  exact State.when_keeps (·.nvm) (by simp)

theorem otpResult_shows {r : Nat} (hr : r < 8) (s : State) : (otpResult r s).fld F.NVM_OTP_RES_RESULT = r ∧
    (otpResult r s).fld (F.pgInt Pg.nvm 2) = 1 := by
  refine ⟨?_, State.fld_raise_self _ (by decide)⟩
  rw [otpResult, State.fld_raise_other _ (by decide)]
  exact (State.fld_post_low Adr.NVM_OTP_RES _ 0 (by decide) _).trans ((Word.bits_low_ofNat r).trans (Nat.mod_eq_of_lt hr))

/-! Commands of the journal (R560-R563). -/

theorem jBegin_shows (c : JCmd) {step : Nat} (h : step < 8) (s : State) : (jBegin c step s).fld F.NVM_STAT_BUSY = 1 ∧
    (jBegin c step s).fld F.NVM_STAT_OPSTEP = step ∧ (jBegin c step s).nvm = { s.nvm with cmd := some c } := by
  refine ⟨?_, State.fld_setFld_fits _ (by decide) h, ?_⟩
  · rw [jBegin, State.fld_setFld_off _ _ (by decide), State.fld_setFld_one _ (by decide)]
  · rw [jBegin, State.setFld_nvm, State.setFld_nvm]
    rfl

theorem jBegin_fld (c : JCmd) (step : Nat) (s : State) {f : Fld} (hb : F.NVM_STAT_BUSY.Apart f) (ho : F.NVM_STAT_OPSTEP.Apart f) :
    (jBegin c step s).fld f = s.fld f := by
  rw [jBegin, State.fld_setFld_off _ _ ho, State.fld_setFld_off _ _ hb]
  rfl

/-! A command that nothing turns away starts (R563). -/

section

variable {o : Origin} {t i : Nat}

theorem jMount_starts (ht : jTurned o 1 0 s = 0) : jMount o s = jBegin { cmd := 1, typ := 0, id := 0, len := 0, began := s.tick } 7 s := by
  rw [jMount, ht]
  rfl

theorem jRead_starts {r : JRec} (ht : jTurned o 2 t s = 0) (hc : jCurrent s t i = some r) : jRead o t i s =
    jBegin { cmd := 2, typ := t, id := i, len := r.len, out := jChunks (r.body.length + 1) r.body } 6 (s.setFld F.NVM_JSEQ_JSEQ r.seq) := by
  rw [jRead, ht, hc]
  rfl

theorem jWriteCmd_starts (ht : jTurned o 3 t s = 0) (hr : jRoom s (s.fld F.NVM_JLEN_LEN) = true) : jWriteCmd o t i s =
    jBegin { cmd := 3, typ := t, id := i, len := s.fld F.NVM_JLEN_LEN, began := s.tick, wait := s.tick } 1 s := by
  unfold jWriteCmd
  dsimp only
  rw [ht, if_pos hr]
  rfl

theorem jDelete_starts (ht : jTurned o 4 t s = 0) (hc : jCurrent s t i ≠ none) : jDelete o t i s =
    jBegin { cmd := 4, typ := t, id := i, len := 0, began := s.tick } 5 s := by
  unfold jDelete
  rw [ht, if_neg fun h => hc (Option.isNone_iff_eq_none.mp h)]
  rfl

end

theorem jResult_nvm (r : Nat) (s : State) : (jResult r s).nvm = s.nvm := by
  rw [jResult]
  refine (State.when_keeps (·.nvm) (State.raise_nvm ..)).trans ?_
  rw [State.raise_nvm, State.post_nvm]
  exact State.when_keeps (·.nvm) (by simp)

theorem jResult_flt (r : Nat) (s : State) : (jResult r s).flt = s.flt := by
  rw [jResult]
  refine (State.when_keeps (·.flt) (State.raise_flt ..)).trans ?_
  rw [State.raise_flt, State.post_flt]
  exact State.when_keeps (·.flt) (by simp)

theorem jResult_fld (r : Nat) (s : State) {f : Fld} (h1 : f.addr ≠ Adr.NVM_JRES) (h2 : f.addr ≠ Adr.NVM_CNT1)
    (h3 : f.addr ≠ Pg.nvm * 4096 + 16) : (jResult r s).fld f = s.fld f := by
  rw [jResult]
  refine (State.when_keeps (·.fld f) (State.fld_raise_other _ h3)).trans ?_
  rw [State.fld_raise_other _ h3, State.fld_post_other _ _ h1]
  exact State.when_keeps (·.fld f) (State.fld_bump_off _ (.inr (.inr h2)) (.inr (.inr h2)))

theorem jResult_shows {r : Nat} (hr : r < 8) (s : State) : (jResult r s).fld F.NVM_JRES_RESULT = r ∧
    (jResult r s).fld (F.pgInt Pg.nvm 0) = 1 ∧ (r ≠ 0 → (jResult r s).fld (F.pgInt Pg.nvm 1) = 1) := by
  refine ⟨?_, ?_, fun h => ?_⟩
  · rw [jResult]
    refine (State.when_keeps (·.fld F.NVM_JRES_RESULT) (State.fld_raise_other _ (by decide))).trans ?_
    rw [State.fld_raise_other _ (by decide)]
    exact (State.fld_post_low Adr.NVM_JRES _ 0 (by decide) _).trans ((Word.bits_low_ofNat r).trans (Nat.mod_eq_of_lt hr))
  · rw [jResult]
    exact State.when_holds (P := fun u => u.fld (F.pgInt Pg.nvm 0) = 1) (State.fld_raise_self _ (by decide)) (State.raise_still (by decide))
  · rw [jResult, State.when_of (by simp [h])]
    exact State.fld_raise_self _ (by decide)

/-- What the end of a command leaves: no command, the engine idle, its result. -/
theorem jEnd_shows {r : Nat} (hr : r < 8) (s : State) : (jEnd r s).nvm = { s.nvm with cmd := none } ∧ (jEnd r s).flt = s.flt ∧
    (jEnd r s).fld F.NVM_STAT_BUSY = 0 ∧ (jEnd r s).fld F.NVM_STAT_OPSTEP = 0 ∧ (jEnd r s).fld F.NVM_JRES_RESULT = r ∧
    (jEnd r s).fld (F.pgInt Pg.nvm 0) = 1 ∧ (r ≠ 0 → (jEnd r s).fld (F.pgInt Pg.nvm 1) = 1) := by
  obtain ⟨hres, hint, herr⟩ := jResult_shows hr
    (jFree (({ s with nvm := { s.nvm with cmd := none } }.setFld F.NVM_STAT_BUSY 0).setFld F.NVM_STAT_OPSTEP 0))
  refine ⟨?_, ?_, ?_, ?_, hres, hint, herr⟩
  · rw [jEnd, jResult_nvm, jFree, State.setFld_nvm, State.setFld_nvm, State.setFld_nvm]
  · rw [jEnd, jResult_flt, jFree, State.setFld_flt, State.setFld_flt, State.setFld_flt]
  · rw [jEnd, jResult_fld _ _ (by decide) (by decide) (by decide), jFree, State.fld_setFld_off _ _ (by decide),
      State.fld_setFld_off _ _ (by decide), State.fld_setFld_zero _ (by decide)]
  · rw [jEnd, jResult_fld _ _ (by decide) (by decide) (by decide), jFree, State.fld_setFld_off _ _ (by decide),
      State.fld_setFld_zero _ (by decide)]

/-- A register outside the engine's state and results stays at the end of a command. -/
theorem jEnd_fld (r : Nat) (s : State) {f : Fld} (h1 : f.addr ≠ Adr.NVM_JRES) (h2 : f.addr ≠ Adr.NVM_CNT1)
    (h3 : f.addr ≠ Pg.nvm * 4096 + 16) (h4 : f.addr ≠ Adr.NVM_JFREE) (hb : F.NVM_STAT_BUSY.Apart f) (ho : F.NVM_STAT_OPSTEP.Apart f) :
    (jEnd r s).fld f = s.fld f := by
  rw [jEnd, jResult_fld _ _ h1 h2 h3, jFree, State.fld_setFld_addr _ _ h4, State.fld_setFld_off _ _ ho, State.fld_setFld_off _ _ hb]
  rfl

/-- Bad records counted and told: NVM_CNT2 alone changes. -/
theorem jBad_only {β : Type} {E : State → β} {s0 : State} (hE : HidesReports E) (l : List JRec) (h : Only (· = Adr.NVM_CNT2) E s0 s) :
    Only (· = Adr.NVM_CNT2) E s0 (l.foldl (fun s _ => (s.bump F.NVM_CNT2_CRC_BAD F.NVM_CNT2_CB_SAT).report 0x4202 0 0) s) :=
  Only.foldl (fun _ _ _ hu => State.report_only hE (State.bump_only rfl rfl hu)) h

/-- A mount without PF_VIO ends with the journal ready (R561). -/
theorem jMounted_shows (hv : pfVioOn s = false) : (jMounted s).nvm.cmd = none ∧ (jMounted s).fld F.NVM_STAT_BUSY = 0 ∧
    (jMounted s).fld F.NVM_STAT_OPSTEP = 0 ∧ (jMounted s).fld F.NVM_STAT_JNL_RDY = 1 ∧ (jMounted s).fld F.NVM_JRES_RESULT = 0 ∧
    (jMounted s).fld (F.pgInt Pg.nvm 0) = 1 := by
  have hpf (l : List JRec) (n : Nat) : pfVioOn ((l.foldl (fun s _ => (s.bump F.NVM_CNT2_CRC_BAD F.NVM_CNT2_CB_SAT).report 0x4202 0 0) s).bumpBy n
      F.NVM_CNT1_TORN_CNT F.NVM_CNT1_TN_SAT) = false := by
    rw [pfVioOn, State.not_on_iff] at hv ⊢
    have hb := jBad_only (E := fun _ => ()) (fun _ _ => rfl) l (.refl s)
    have ht (u : State) : Only (· = Adr.NVM_CNT1) (fun _ => ()) u (u.bumpBy n F.NVM_CNT1_TORN_CNT F.NVM_CNT1_TN_SAT) :=
      State.bumpBy_only rfl rfl (.refl u)
    rw [(ht _).fld (by decide), hb.fld (by decide), hv]
  unfold jMounted
  dsimp only
  rw [hpf, Bool.and_false, if_neg (by decide)]
  generalize (jComplete _ : State) = u
  obtain ⟨hnvm, -, hbusy, hstep, hres, hint, -⟩ := jEnd_shows (r := 0) (by decide) (u.setFld F.NVM_STAT_JNL_RDY 1)
  refine ⟨by rw [hnvm], hbusy, hstep, ?_, hres, hint⟩
  rw [jEnd_fld _ _ (by decide) (by decide) (by decide) (by decide) (by decide) (by decide), State.fld_setFld_one _ (by decide)]

/-- A record just written stands, with the next SEQ (R560, R561). -/
theorem jWrite_shows (typ id p : Nat) (body : List Byte) (s : State) :
    jRecord (jBase s + p) typ id (jNextSeq s) body body.length 3 ∈ (jWrite typ id p body s).nvm.recs ∧
    (jWrite typ id p body s).fld F.NVM_JSEQ_JSEQ = jNextSeq s % 2 ^ 32 := by
  refine ⟨?_, State.fld_setFld_same _ _ (by decide)⟩
  rw [jWrite, State.setFld_nvm]
  refine List.mem_map.mpr ⟨_, List.mem_append_right _ (List.mem_singleton_self _), if_neg ?_⟩
  have hseq : (jRecord (jBase s + p) typ id (jNextSeq s) body body.length 3).seq = jNextSeq s := rfl
  simp [hseq]

theorem jCut_flt (stage : Nat) (s : State) : (jCut stage s).flt = s.flt :=
  (jCut_only (E := State.flt) (fun _ _ => rfl) (.refl s)).same fun _ => rfl

/-- A write or a delete cut off before its first step leaves the records (R560). -/
theorem jCut_none {c : JCmd} (hc : s.nvm.cmd = some c) (h : c.cmd = 3 ∨ c.cmd = 4) : jCut 0 s = s := by
  rw [jCut, hc]
  dsimp only
  obtain h | h := h
  · rw [if_pos h]
    cases c.place with
    | none => rfl
    | some p =>
      show jCutWrite c p 0 s = s
      unfold jCutWrite
      dsimp only
      rw [Nat.zero_min, Nat.zero_min, if_pos rfl]
  · rw [if_neg (by omega), if_pos (by decide)]

/-! The boot ROM and the host load (R564-R566). -/

/-- What waiting for the host shows. -/
theorem bootWait_shows (r : Nat) (s : State) : (bootWait r s).nvm = { s.nvm with boot := 4, hload := [] } ∧
    (bootWait r s).fld F.NVM_BOOT_STAT_RESULT = r % 8 ∧ (bootWait r s).fld F.NVM_BOOT_STAT_WAIT_HOST = 1 ∧
    (bootWait r s).fld (F.pgInt Pg.nvm 3) = 1 := by
  unfold bootWait
  refine ⟨?_, ?_, ?_, ?_⟩
  · refine (State.when_keeps (·.nvm) (State.report_nvm ..)).trans ?_
    rw [State.raise_nvm, State.setFld_nvm, State.setFld_nvm]
  · refine (State.when_keeps (·.fld F.NVM_BOOT_STAT_RESULT) (State.report_fld ..)).trans ?_
    rw [State.fld_raise_other _ (by decide), State.fld_setFld_off _ _ (by decide), State.fld_setFld_same _ _ (by decide)]
    rfl
  · refine (State.when_keeps (·.fld F.NVM_BOOT_STAT_WAIT_HOST) (State.report_fld ..)).trans ?_
    rw [State.fld_raise_other _ (by decide), State.fld_setFld_one _ (by decide)]
  · exact (State.when_keeps (·.fld (F.pgInt Pg.nvm 3)) (State.report_fld ..)).trans (State.fld_raise_self _ (by decide))

theorem bootWait_fld (r : Nat) (s : State) {f : Fld} (h1 : f.addr ≠ Adr.NVM_BOOT_STAT) (h2 : f.addr ≠ Pg.nvm * 4096 + 16) :
    (bootWait r s).fld f = s.fld f := by
  unfold bootWait
  refine (State.when_keeps (·.fld f) (State.report_fld ..)).trans ?_
  rw [State.fld_raise_other _ h2, State.fld_setFld_addr _ _ h1, State.fld_setFld_addr _ _ h1]
  rfl

/-- What the start of an accepted image shows. -/
theorem bootRun_shows {src slot key : Nat} (hsrc : src < 4) (hslot : slot < 2) (hkey : key < 4) (body : List Byte) (s : State) :
    (bootRun src slot key body s).nvm.boot = 0 ∧ (bootRun src slot key body s).fld F.FLT_STAT_MC_STATE = 1 ∧
    (bootRun src slot key body s).fld F.NVM_BOOT_STAT_RESULT = 1 ∧ (bootRun src slot key body s).fld F.NVM_BOOT_STAT_SRC = src ∧
    (bootRun src slot key body s).fld F.NVM_BOOT_STAT_SLOT = slot ∧ (bootRun src slot key body s).fld F.NVM_BOOT_STAT_KEY = key ∧
    (bootRun src slot key body s).fld F.NVM_BOOT_STAT_WAIT_HOST = 0 ∧
    (bootRun src slot key body s).fld F.NVM_BOOT_VER_VERSION = bootVersion body % 2 ^ 32 := by
  unfold bootRun
  dsimp only
  refine ⟨?_, State.fld_setFld_fits _ (by decide) (by decide), ?_, ?_, ?_, ?_, ?_, ?_⟩
  · simp only [State.setFld_nvm, State.setOn_nvm]
  · simp (disch := decide) only [State.fld_setFld_off, State.fld_setOn_off]
    exact State.fld_setFld_fits _ (by decide) (by decide)
  · simp (disch := decide) only [State.fld_setFld_off, State.fld_setOn_off]
    exact State.fld_setFld_fits _ (by decide) hsrc
  · simp (disch := decide) only [State.fld_setFld_off, State.fld_setOn_off]
    exact State.fld_setFld_fits _ (by decide) hslot
  · simp (disch := decide) only [State.fld_setFld_off, State.fld_setOn_off]
    exact State.fld_setFld_fits _ (by decide) hkey
  · simp (disch := decide) only [State.fld_setFld_off]
    exact State.fld_setFld_zero _ (by decide)
  · rw [State.fld_setFld_off _ _ (by decide), State.fld_setFld_same _ _ (by decide)]
    rfl

/-- The host's image judged: refused, the ROM waits on. -/
theorem hostBoot_refused {v k : Nat} (h : bootJudge s (unpackWords s.nvm.hload.reverse) = (v, k)) (hv : v ≠ 1) :
    hostBoot s = { s with nvm := { s.nvm with boot := 4 } }.setFld F.NVM_BOOT_STAT_RESULT v := by
  have hj : bootJudge { s with nvm := { s.nvm with boot := 4 } } (unpackWords s.nvm.hload.reverse) = (v, k) := h
  unfold hostBoot
  dsimp only
  rw [hj]
  split
  next heq => exact absurd (congrArg Prod.fst heq) hv
  next heq => cases heq; rfl

/-- The host's image judged: accepted, it starts. -/
theorem hostBoot_accepted {k : Nat} (h : bootJudge s (unpackWords s.nvm.hload.reverse) = (1, k)) :
    hostBoot s = bootRun 2 0 k (unpackWords s.nvm.hload.reverse) { s with nvm := { s.nvm with boot := 4 } } := by
  have hj : bootJudge { s with nvm := { s.nvm with boot := 4 } } (unpackWords s.nvm.hload.reverse) = (1, k) := h
  unfold hostBoot
  dsimp only
  rw [hj]
  rfl

/-- The key that a verdict names is one of two, or none. -/
theorem bootJudge_key (s : State) (body : List Byte) : (bootJudge s body).2 < 4 := by
  have hver : bootVerify s body < 4 := by
    unfold bootVerify
    dsimp only
    repeat' split
    all_goals decide
  unfold bootJudge
  dsimp only
  split
  · decide
  · split
    · decide
    · split
      · decide
      · split
        · decide
        · exact hver

/-- The ROM's first step mounts the journal, where the engine and the controller allow it (R564). -/
theorem bootTick_mounts (hb : s.nvm.boot = 2) (hbusy : s.on F.NVM_STAT_BUSY = false) (hmc : s.fld F.FLT_STAT_MC_STATE ≤ 1)
    (hp : jPresent s = true) : ∃ c, bootTick s = { jBegin c 7 s with nvm := { (jBegin c 7 s).nvm with boot := 5 } } := by
  have hturn : jTurned .mc 1 0 s = 0 := by
    rw [jTurned, if_neg (by simp [hbusy, jAllowed, hmc]), if_neg (by simp [hp]), if_neg (by simp)]
  have hmount := jMount_starts hturn
  refine ⟨{ cmd := 1, typ := 0, id := 0, len := 0, began := s.tick }, ?_⟩
  rw [bootTick, if_neg (by omega), if_neg (by rw [hbusy]; decide), if_pos hb]
  dsimp only
  rw [hmount, if_pos ((State.on_iff _).mpr (by rw [(jBegin_shows _ (by decide) s).1]; decide))]

/-- The registers and the copy of the OTP with which the ROM starts: a flash of `n` sectors, or none, and a journal of `size` sectors from
`base` (R555, R557). -/
def bootState (found : Bool) (n base size : Nat) (err : Bool) (s : State) : State :=
  ((((({ s with nvm := { s.nvm with used := s.nvm.otp, flash := if found then some n else none, sigBad := false, left := [] } }.setWord
    Adr.NVM_BOOT_STAT 0).setWord Adr.NVM_BOOT_VER 0).setOn F.NVM_STAT_FL_PRESENT found).setFld F.NVM_JGEOM_BASE base).setFld
      F.NVM_JGEOM_SECTORS size).setOn F.NVM_STAT_JGEOM_ERR err

section

variable (found : Bool) (n base size : Nat) (err : Bool) (s : State)

theorem bootState_nvm : (bootState found n base size err s).nvm =
    { s.nvm with used := s.nvm.otp, flash := if found then some n else none, sigBad := false, left := [] } := by
  simp only [bootState, State.setOn_nvm, State.setFld_nvm, State.setWord_nvm]

theorem bootState_found : (bootState found n base size err s).on F.NVM_STAT_FL_PRESENT = found := by
  rw [bootState, State.on_setOn_off _ _ (by decide), State.on_setFld_off _ _ (by decide), State.on_setFld_off _ _ (by decide),
    State.on_setOn_self _ _ (by decide)]

theorem bootState_size (h : size < 8192) : (bootState found n base size err s).fld F.NVM_JGEOM_SECTORS = size := by
  rw [bootState, State.fld_setOn_off _ _ (by decide), State.fld_setFld_fits _ (by decide) h]

theorem bootState_base (h : base < 4096) : (bootState found n base size err s).fld F.NVM_JGEOM_BASE = base := by
  rw [bootState, State.fld_setOn_off _ _ (by decide), State.fld_setFld_off _ _ (by decide), State.fld_setFld_fits _ (by decide) h]

theorem bootState_err : (bootState found n base size err s).on F.NVM_STAT_JGEOM_ERR = err := State.on_setOn_self _ _ (by decide)

theorem bootState_fld {f : Fld} (h1 : f.addr ≠ Adr.NVM_BOOT_STAT) (h2 : f.addr ≠ Adr.NVM_BOOT_VER)
    (h3 : f.addr ≠ Adr.NVM_JGEOM) (h4 : F.NVM_STAT_FL_PRESENT.Apart f) (h5 : F.NVM_STAT_JGEOM_ERR.Apart f) :
    (bootState found n base size err s).fld f = s.fld f := by
  rw [bootState, State.fld_setOn_off _ _ h5, State.fld_setFld_addr _ _ h3, State.fld_setFld_addr _ _ h3, State.fld_setOn_off _ _ h4,
    State.fld_setWord_other _ _ h2, State.fld_setWord_other _ _ h1]
  rfl

end

/-- The ROM takes up the journal if there is one and the host does not boot, else it waits for the host (R564). -/
def bootTurn (host : Bool) (s : State) : State :=
  if jPresent s && !host then bootTick { s with nvm := { s.nvm with boot := 2 } } else bootWait 2 s

/-- Whether a flash answers with this JEDEC ID, and its sectors (R557). -/
def bootFound (jedec : BitVec 24) (s : State) : Bool :=
  s.on F.PWR_STATUS_IO_LEVEL && jedec.toNat != 0 && jedec.toNat != 0xFFFFFF && decide (0x14 ≤ jedec.toNat % 256 ∧ jedec.toNat % 256 ≤ 0x18)

def bootSectors (jedec : BitVec 24) (s : State) : Nat := if bootFound jedec s then 2 ^ (jedec.toNat % 256) / 4096 else 0

/-- The journal's base and size: from item 0, else the whole flash (R555, R557). -/
def bootBase : Option Word → Nat
  | some w => w.bits 11 0
  | none => 0

def bootSize (n : Nat) : Option Word → Nat
  | some w => w.bits 28 16
  | none => n

/-- The state in which the ROM turns to the journal. -/
def bootStarted (jedec : BitVec 24) (s : State) : State :=
  bootState (bootFound jedec s) (bootSectors jedec s) (bootBase (otpLast (otpWords s 0))) (bootSize (bootSectors jedec s) (otpLast (otpWords s 0)))
    ((otpLast (otpWords s 0)).isSome && (decide (4096 < bootBase (otpLast (otpWords s 0)) + bootSize (bootSectors jedec s) (otpLast (otpWords s 0))) ||
      (bootFound jedec s && decide (bootSectors jedec s < bootBase (otpLast (otpWords s 0)) + bootSize (bootSectors jedec s) (otpLast (otpWords s 0)))))) s

theorem execBootStart_eq {jedec : BitVec 24} (hr : s.phase = .running) (hb : s.nvm.boot = 1) : execBootStart jedec s =
    .next (bootTurn ((otpLast (otpWords s 0)).any (fun w => w.getLsbD 31) || (bootStarted jedec s).on F.NVM_FL_CFG_HOST_BOOT) (bootStarted jedec s)) := by
  rw [execBootStart, State.ticking_of_running hr, if_neg (not_not_intro hb)]
  rfl

/-- No flash: the ROM waits for the host. -/
theorem bootTurn_absent (host : Bool) (hp : s.on F.NVM_STAT_FL_PRESENT = false) : bootTurn host s = bootWait 2 s := by
  rw [bootTurn, if_neg (by simp [jPresent, hp])]

/-- A journal that the ROM may mount: the mount is under way (R564). -/
theorem bootTurn_mounts (hp : jPresent s = true) (hbusy : s.on F.NVM_STAT_BUSY = false) (hmc : s.fld F.FLT_STAT_MC_STATE ≤ 1) :
    (bootTurn false s).nvm.boot = 5 ∧ (bootTurn false s).nvm.used = s.nvm.used ∧ (bootTurn false s).fld F.NVM_STAT_BUSY = 1 ∧
    ∀ f : Fld, F.NVM_STAT_BUSY.Apart f → F.NVM_STAT_OPSTEP.Apart f → (bootTurn false s).fld f = s.fld f := by
  obtain ⟨cmd, htick⟩ := bootTick_mounts (s := { s with nvm := { s.nvm with boot := 2 } }) rfl hbusy hmc hp
  obtain ⟨hb1, -, hnvm⟩ := jBegin_shows cmd (show 7 < 8 by decide) { s with nvm := { s.nvm with boot := 2 } }
  rw [bootTurn, if_pos (by rw [hp]; rfl), htick]
  refine ⟨rfl, ?_, hb1, fun f hb ho => ?_⟩
  · dsimp only
    rw [hnvm]
  · exact jBegin_fld cmd 7 { s with nvm := { s.nvm with boot := 2 } } hb ho

/-- An image check of the last candidate that fails leaves the ROM to the host. -/
theorem execBootImageCheck_fails {r : JRec} {i v k : Nat} (hr : s.phase = .running) (hb : s.nvm.boot = 3) (he : s.nvm.early ≤ s.tick)
    (hl : s.nvm.left = [i]) (hc : jCurrent s 1 i = some r) (hj : bootJudge s r.body = (v, k)) (hv : v ≠ 1) :
    execBootImageCheck s = .next (bootWait v { s with nvm := { s.nvm with left := [], sigBad := s.nvm.sigBad || v == 3 } }) := by
  rw [execBootImageCheck, State.ticking_of_running hr, if_neg (by omega), hl]
  dsimp only
  rw [hc]
  dsimp only
  rw [hj]
  split
  next heq => exact absurd (congrArg Prod.fst heq) hv
  next heq => cases heq; rfl

end

end Sys2Proof.Machine

namespace Sys2Proof

open Machine

/-- Settles O41, each clause by its branch of the command: the OTP, the start and the end of a command of the journal, the steps of the ROM and the host load. -/
theorem storageCommandsComplete : Obligations.StorageCommandsComplete := by
  intro s
  refine ⟨?_, ?_, ?_, ?_, ?_, ?_, ?_, ?_, ?_, ?_, ?_, ?_, ?_, ?_, ?_, ?_, ?_, ?_⟩
  · intro o i ho hi hb hv hmc hk hl
    rw [exec, execOtpProgram, completes_heardFrom ho]
    unfold otpProgram
    dsimp only
    rw [hi, if_neg (by rw [hb]; decide), if_neg (by rw [hv]; decide), if_neg fun h => absurd (hmc h.1) (by omega), if_neg (by rw [hk]; decide),
      if_neg (by omega)]
  · intro lost i v due w hr hb hd hw
    have hend : otpEnd lost s = otpResult (if (otpData w).isSome then 0 else 5) (otpPush i w { s with nvm := { s.nvm with otpBusy := none } }) := by
      rw [otpEnd, hb]
      dsimp only
      rw [if_neg (by omega), hw]
    obtain ⟨hres, hint⟩ := otpResult_shows (r := if (otpData w).isSome then 0 else 5) (by split <;> decide)
      (otpPush i w { s with nvm := { s.nvm with otpBusy := none } })
    have hwords : otpWords (otpEnd lost s) i = if w = 0 then otpWords s i else otpWords s i ++ [w] := by
      rw [otpWords, hend, otpResult_nvm]
      exact otpPush_words i w _
    rw [exec, execOtpProgramDone, completes_ticking hr]
    refine ⟨hwords, ?_, by rw [hend]; exact hres, by rw [hend]; exact hint, fun h0 => ?_⟩
    · rw [hend, otpResult_nvm, otpPush_busy]
    · have hw0 : w = otpWord v := by rw [hw, h0]; exact BitVec.and_allOnes
      rw [hwords, hw0, if_neg (otpWord_ne_zero v), otpLast_push]
  · intro o ho ht
    rw [exec, execJournalMount, completes_heardFrom ho, jMount_starts ht]
    obtain ⟨hbusy, hstep, hnvm⟩ := jBegin_shows { cmd := 1, typ := 0, id := 0, len := 0, began := s.tick } (show 7 < 8 by decide) s
    exact ⟨hbusy, hstep, by rw [hnvm], by rw [hnvm]⟩
  · intro o ty i r ho ht hc
    rw [exec, execJournalRead, completes_heardFrom ho, jRead_starts ht hc]
    obtain ⟨hbusy, hstep, hnvm⟩ := jBegin_shows { cmd := 2, typ := ty, id := i, len := r.len, out := jChunks (r.body.length + 1) r.body }
      (show 6 < 8 by decide) (s.setFld F.NVM_JSEQ_JSEQ r.seq)
    refine ⟨hbusy, hstep, ?_, by rw [hnvm]⟩
    rw [jBegin_fld _ _ _ (by decide) (by decide), State.fld_setFld_same _ _ (by decide)]
    rfl
  · intro o ty i ho ht hroom
    rw [exec, execJournalWrite, completes_heardFrom ho, jWriteCmd_starts ht hroom]
    obtain ⟨hbusy, hstep, hnvm⟩ := jBegin_shows
      { cmd := 3, typ := ty, id := i, len := s.fld F.NVM_JLEN_LEN, began := s.tick, wait := s.tick } (show 1 < 8 by decide) s
    exact ⟨hbusy, hstep, by rw [hnvm]⟩
  · intro o ty i ho ht hc
    rw [exec, execJournalDelete, completes_heardFrom ho, jDelete_starts ht hc]
    obtain ⟨hbusy, hstep, hnvm⟩ := jBegin_shows { cmd := 4, typ := ty, id := i, len := 0, began := s.tick } (show 5 < 8 by decide) s
    exact ⟨hbusy, hstep, by rw [hnvm]⟩
  · intro c hr hc h1 hv
    rw [exec, execJournalOpDone, completes_ticking hr, jDone, hc]
    dsimp only
    rw [if_pos h1]
    exact jMounted_shows hv
  · intro c p hr hc h3 hp hs
    rw [exec, execJournalOpDone, completes_ticking hr, jDone, hc]
    dsimp only
    rw [if_neg (by omega), if_neg (by omega), if_pos h3, hp]
    dsimp only
    rw [if_pos hs]
    obtain ⟨hnvm, -, hbusy, -, hres, -⟩ := jEnd_shows (r := 0) (by decide) (jWrite c.typ c.id p c.got s)
    obtain ⟨hrec, hseq⟩ := jWrite_shows c.typ c.id p c.got s
    refine ⟨by rw [hnvm], hbusy, hres, ?_, by rw [hnvm]; exact hrec⟩
    rw [jEnd_fld _ _ (by decide) (by decide) (by decide) (by decide) (by decide) (by decide), hseq]
  · intro c hr hc h3 hp hl hw
    rw [exec, execJournalWriteShort, completes_ticking hr, hc]
    dsimp only
    rw [if_pos ⟨h3, Option.isSome_iff_ne_none.mpr hp, hl, hw⟩]
    obtain ⟨hnvm, -, hbusy, -, hres, -, herr⟩ := jEnd_shows (r := 7) (by decide) (jCut 1 s)
    exact ⟨by rw [hnvm], hbusy, hres, herr (by decide)⟩
  · intro stage c hr hc hk hw
    have hprog : jPrograms s = true := by
      rw [jPrograms, hc]
      obtain h | h := hk <;> simp [h, hw]
    rw [exec, execFlashTimeout, completes_ticking hr, State.when_of hprog]
    obtain ⟨hnvm, hflt, hbusy, -, hres, -⟩ := jEnd_shows (r := 5) (by decide) ((jCut stage s).report 0x4204 0 0)
    refine ⟨by rw [hnvm], hbusy, hres, ?_, fun h0 => ?_⟩
    · rw [Reported, hflt]
      exact State.report_reported (jCut_flt stage s)
    · rw [hnvm, State.report_nvm, h0]
      exact congrArg (·.nvm.recs) (jCut_none hc hk)
  · intro hr hb
    have hf : bootFound 0 s = false := by simp [bootFound]
    have hfound : (bootStarted 0 s).on F.NVM_STAT_FL_PRESENT = false := (bootState_found ..).trans hf
    rw [exec, execBootStart_eq hr hb, completes_next, bootTurn_absent _ hfound]
    obtain ⟨hnvm, hres, hwait, hint⟩ := bootWait_shows 2 (bootStarted 0 s)
    refine ⟨?_, ?_, ?_, hres, hwait, hint⟩
    · rw [bootWait_fld _ _ (by decide) (by decide)]
      exact (State.not_on_iff _).mp hfound
    · rw [hnvm, bootStarted, bootState_nvm]
    · rw [hnvm]
  · intro jedec c hr hb hio hc h0 h1 hlo hhi hcfg hhost hbusy hmc
    have hf : bootFound jedec s = true := by
      have h0' : jedec.toNat ≠ 0 := fun e => h0 (BitVec.eq_of_toNat_eq e)
      have h1' : jedec.toNat ≠ 0xFFFFFF := fun e => h1 (BitVec.eq_of_toNat_eq e)
      simp only [bootFound, hio, bne_iff_ne.mpr h0', bne_iff_ne.mpr h1', Bool.true_and, decide_eq_true_eq]
      omega
    have hn : bootSectors jedec s = 2 ^ c / 4096 := by rw [bootSectors, if_pos hf, hc]
    have hsize : 0 < 2 ^ c / 4096 ∧ 2 ^ c / 4096 < 8192 := by
      have hall : ∀ k : Fin 32, 20 ≤ k.val → k.val ≤ 24 → 0 < 2 ^ k.val / 4096 ∧ 2 ^ k.val / 4096 < 8192 := by decide
      exact hall ⟨c, by omega⟩ hlo hhi
    have hstart : bootStarted jedec s = bootState true (2 ^ c / 4096) 0 (2 ^ c / 4096) false s := by
      rw [bootStarted, hcfg, hf, hn]
      rfl
    have hfound := bootState_found true (2 ^ c / 4096) 0 (2 ^ c / 4096) false s
    have hsz := bootState_size true (2 ^ c / 4096) 0 (2 ^ c / 4096) false s hsize.2
    have herr := bootState_err true (2 ^ c / 4096) 0 (2 ^ c / 4096) false s
    have hnvm := bootState_nvm true (2 ^ c / 4096) 0 (2 ^ c / 4096) false s
    have hkept {f : Fld} := bootState_fld true (2 ^ c / 4096) 0 (2 ^ c / 4096) false s (f := f)
    have hbase := bootState_base true (2 ^ c / 4096) 0 (2 ^ c / 4096) false s (by decide)
    rw [exec, execBootStart_eq hr hb, completes_next, hstart, hcfg, Option.any_none, Bool.false_or]
    generalize bootState true (2 ^ c / 4096) 0 (2 ^ c / 4096) false s = u at *
    have hh : u.on F.NVM_FL_CFG_HOST_BOOT = false := by
      rw [State.not_on_iff, hkept (by decide) (by decide) (by decide) (by decide) (by decide), (State.not_on_iff s).mp hhost]
    obtain ⟨hboot, hused, hb1, hstay⟩ := bootTurn_mounts (s := u) (by simp [jPresent, hfound, herr, jSize, hsz, hsize.1])
      (by rw [State.not_on_iff, hkept (by decide) (by decide) (by decide) (by decide) (by decide), (State.not_on_iff s).mp hbusy])
      (by rw [hkept (by decide) (by decide) (by decide) (by decide) (by decide)]; exact hmc)
    rw [hh]
    refine ⟨?_, ?_, ?_, ?_, ?_, hboot, hb1⟩
    · rw [hstay _ (by decide) (by decide)]
      have h0 := (State.on_iff u).mp hfound
      have hlt := u.fld_lt F.NVM_STAT_FL_PRESENT
      rw [show F.NVM_STAT_FL_PRESENT.width = 1 from rfl] at hlt
      omega
    · rw [hstay _ (by decide) (by decide), hsz]
    · rw [hstay _ (by decide) (by decide), hbase]
    · rw [hstay _ (by decide) (by decide), (State.not_on_iff u).mp herr]
    · rw [hused, hnvm]
  · intro i rest r k hr hb he hl hc hj
    rw [exec, execBootImageCheck, completes_ticking hr, if_neg (by omega), hl]
    dsimp only
    rw [hc]
    dsimp only
    rw [hj]
    obtain ⟨hboot, hmc, hres, hsrc, hslot, hkey, -, hver⟩ := bootRun_shows (src := 1) (by decide) i.isLt k.isLt r.body s
    exact ⟨hmc, hboot, hres, hsrc, hslot, hkey, hver⟩
  · intro i r v k hr hb he hl hc hj hv
    rw [exec, execBootImageCheck_fails hr hb he hl hc hj hv, completes_next]
    obtain ⟨hnvm, hres, hwait, -⟩ := bootWait_shows v { s with nvm := { s.nvm with left := [], sigBad := s.nvm.sigBad || v == 3 } }
    have hmc := bootWait_fld v { s with nvm := { s.nvm with left := [], sigBad := s.nvm.sigBad || v == 3 } } (f := F.FLT_STAT_MC_STATE)
      (by decide) (by decide)
    exact ⟨by rw [hnvm], hres, hwait, hmc⟩
  · intro hp hw
    rw [exec, execHloadStart, completes_heard hp, hloadStart, State.when_of hw]
    exact ⟨by rw [State.setFld_nvm], State.fld_setFld_zero _ (by decide)⟩
  · intro w hp hw
    rw [exec, execHloadData, completes_heard hp, hloadData, State.when_of hw]
    refine ⟨by rw [State.setFld_nvm], ?_⟩
    rw [Counted, State.fld_setFld_fits _ (by decide) (by rw [show F.NVM_HLOAD_CNT_HLOAD_CNT.width = 18 from rfl]; omega)]
    rfl
  · intro v k hp hw he hj
    rw [exec, execHloadGo, completes_heard hp, hloadGo, State.when_of hw, if_pos he]
    refine ⟨?_, ?_, fun hv => ?_⟩
    · by_cases hv : v = 1
      · rw [hv] at hj ⊢
        have hk : k < 4 := by rw [← show (bootJudge s (unpackWords s.nvm.hload.reverse)).2 = k by rw [hj]]; exact bootJudge_key s _
        rw [hostBoot_accepted hj, (bootRun_shows (by decide) (by decide) hk _ _).2.2.1]
      · rw [hostBoot_refused hj hv, State.fld_setFld_same _ _ (by decide)]
        rfl
    · rintro rfl
      have hk : k < 4 := by rw [← show (bootJudge s (unpackWords s.nvm.hload.reverse)).2 = k by rw [hj]]; exact bootJudge_key s _
      obtain ⟨hboot, hmc, -, hsrc, -, -, hwait, -⟩ := bootRun_shows (src := 2) (slot := 0) (by decide) (by decide) hk
        (unpackWords s.nvm.hload.reverse) { s with nvm := { s.nvm with boot := 4 } }
      rw [hostBoot_accepted hj]
      exact ⟨hmc, hsrc, hwait, hboot⟩
    · rw [hostBoot_refused hj hv, State.setFld_nvm, State.on_setFld_off _ _ (by decide)]
      exact ⟨rfl, hw⟩
  · intro hp hw he
    rw [exec, execHloadGo, completes_heard hp, hloadGo, State.when_of hw, if_neg (by omega)]

end Sys2Proof

/-!
The time base (R451-R454, R466-R470) and the Zinkor Link (R457, R460): the calendar as it is put and derived, a conversion's result, the domain
ticks, a linked frame and a judged one.
-/

namespace Sys2Proof.Machine

theorem find?_congr_mem {α : Type} {p q : α → Bool} {l : List α} (h : ∀ a ∈ l, p a = q a) : l.find? p = l.find? q := by
  induction l with
  | nil => rfl
  | cons a t ih =>
    rw [List.find?_cons, List.find?_cons, h a List.mem_cons_self, ih fun b hb => h b (List.mem_cons_of_mem a hb)]

section

variable {s : State}

/-! The calendar (R467-R469). -/

/-- A field that the calendar does not show in. -/
def CalApart (f : Fld) : Prop :=
  f.addr ≠ Adr.TIME_CAL_DATE ∧ f.addr ≠ Adr.TIME_CAL_TIME ∧ f.addr ≠ Pg.time * 4096 + 16 ∧ F.TIME_STAT_CAL_OUT.Apart f ∧ F.TIME_STAT_CAL_END.Apart f

/-- What an update of the calendar leaves: fields it does not show in, and of the time base all but the calendar's second. -/
structure CalStays (s t : State) : Prop where
  fld : ∀ f, CalApart f → t.fld f = s.fld f
  time : { t.time with cal := 0, calTick := 0 } = { s.time with cal := 0, calTick := 0 }

theorem CalStays.refl (s : State) : CalStays s s := ⟨fun _ _ => rfl, rfl⟩

theorem CalStays.trans {t u : State} (h : CalStays s t) (k : CalStays t u) : CalStays s u :=
  ⟨fun f hf => (k.fld f hf).trans (h.fld f hf), k.time.trans h.time⟩

theorem CalStays.map {t : State} (h : CalStays s t) : t.time.map = s.time.map := (congrArg TimeSt.map h.time :)
theorem CalStays.prev {t : State} (h : CalStays s t) : t.time.prev = s.time.prev := (congrArg TimeSt.prev h.time :)
theorem CalStays.pend {t : State} (h : CalStays s t) : t.time.pend = s.time.pend := (congrArg TimeSt.pend h.time :)

theorem calOut_stays (v : Nat) (s : State) : CalStays s (s.setFld F.TIME_STAT_CAL_OUT v) :=
  ⟨fun _ ⟨_, _, _, h, _⟩ => State.fld_setFld_off s v h, by rw [State.setFld_time]⟩

theorem calWords_stays (a b : Word) (s : State) : CalStays s ((s.setWord Adr.TIME_CAL_DATE a).setWord Adr.TIME_CAL_TIME b) :=
  ⟨fun _ ⟨h1, h2, _⟩ => (State.fld_setWord_other _ _ h2).trans (State.fld_setWord_other _ _ h1), by rw [State.setWord_time, State.setWord_time]⟩

theorem calLeap_stays (v : Nat) (s : State) : CalStays s (s.setFld ⟨Adr.TIME_CAL_TIME, 7, 0⟩ v) :=
  ⟨fun _ ⟨_, h2, _⟩ => State.fld_setFld_addr _ _ h2, by rw [State.setFld_time]⟩

theorem calShow_stays (s : State) : CalStays s (calShow s) := calWords_stays ..

theorem calPut_stays (c ticks : Nat) (s : State) : CalStays s (calPut c ticks s) := by
  unfold calPut
  dsimp only
  refine CalStays.trans ?_ (calShow_stays _)
  refine ⟨fun f ⟨_, _, h3, _, h5⟩ => ?_, ?_⟩
  · rw [State.fld_setOn_off _ _ h5, State.when_keeps (·.fld f) (State.fld_raise_other _ h3)]
    rfl
  · rw [State.setOn_time, State.when_keeps (·.time) (State.raise_time ..)]

theorem calDerive_stays (moved : Bool) (s : State) : CalStays s (calDerive moved s) := by
  unfold calDerive
  split
  · exact .refl s
  · dsimp only
    split
    · exact (calOut_stays 1 s).trans (calWords_stays 0 0 _)
    · split
      · exact (calOut_stays 0 s).trans (calShow_stays _)
      · split
        · exact ((calOut_stays 0 s).trans (calPut_stays ..)).trans (calLeap_stays ..)
        · exact (calOut_stays 0 s).trans (calPut_stays ..)

/-- The calendar put to a second shows it (R467, R469). -/
theorem calPut_shows (c ticks : Nat) (s : State) : (calPut c ticks s).time.cal = min calEnd c ∧ (calPut c ticks s).time.calTick = ticks ∧
    (calPut c ticks s).word Adr.TIME_CAL_DATE = calDate (calPut c ticks s).time.cal ∧
    (calPut c ticks s).word Adr.TIME_CAL_TIME = calTime (calPut c ticks s).time.cal ∧
    (calPut c ticks s).fld F.TIME_STAT_CAL_END = if calEnd ≤ c then 1 else 0 := by
  have htime : (calPut c ticks s).time = { s.time with cal := min calEnd c, calTick := ticks } := by
    unfold calPut calShow
    dsimp only
    rw [State.setWord_time, State.setWord_time, State.setOn_time, State.when_keeps (·.time) (State.raise_time ..)]
  refine ⟨by rw [htime], by rw [htime], ?_, ?_, ?_⟩
  · unfold calPut calShow
    dsimp only
    rw [State.word_setWord_other _ _ (by decide), State.word_setWord_same, State.setWord_time, State.setWord_time]
  · unfold calPut calShow
    dsimp only
    rw [State.word_setWord_same, State.setWord_time, State.setWord_time]
  · unfold calPut calShow
    dsimp only
    rw [State.fld_setWord_other _ _ (by decide), State.fld_setWord_other _ _ (by decide), State.fld_setOn_self _ _ (by decide)]
    split <;> simp [*]

/-! Conversions (R466). -/

/-- The result words of a conversion. -/
def cvtPut (sec : Int) (ns date time st : Nat) (s : State) : State :=
  (((((s.setWord Adr.TIME_CVT_SEC_LO (BitVec.ofNat 32 (unsigned 48 sec % 2 ^ 32))).setWord Adr.TIME_CVT_SEC_HI
    (BitVec.ofNat 32 (unsigned 48 sec / 2 ^ 32))).setWord Adr.TIME_CVT_NS (BitVec.ofNat 32 ns)).setWord Adr.TIME_CVT_DATE
    (BitVec.ofNat 32 date)).setWord Adr.TIME_CVT_TIME (BitVec.ofNat 32 time)).post Adr.TIME_CVT_ST (BitVec.ofNat 32 st)

theorem cvtPut_time (sec : Int) (ns date time st : Nat) (s : State) : (cvtPut sec ns date time st s).time = s.time := by
  simp only [cvtPut, State.post_time, State.setWord_time]

/-- What the result words show. -/
theorem cvtPut_shows (sec : Int) (ns date time st : Nat) (s : State) :
    (cvtPut sec ns date time st s).word Adr.TIME_CVT_SEC_LO = BitVec.ofNat 32 (unsigned 48 sec % 2 ^ 32) ∧
    (cvtPut sec ns date time st s).word Adr.TIME_CVT_NS = BitVec.ofNat 32 ns ∧
    (cvtPut sec ns date time st s).word Adr.TIME_CVT_DATE = BitVec.ofNat 32 date ∧
    (cvtPut sec ns date time st s).word Adr.TIME_CVT_TIME = BitVec.ofNat 32 time ∧
    ∀ k < 23, (cvtPut sec ns date time st s).fld ⟨Adr.TIME_CVT_ST, k, k⟩ = Word.bits (BitVec.ofNat 32 st) k k := by
  refine ⟨?_, ?_, ?_, ?_, fun k hk => State.fld_post_low _ _ _ hk _⟩
  · rw [cvtPut, State.word_post_other _ _ (by decide), State.word_setWord_other _ _ (by decide), State.word_setWord_other _ _ (by decide),
      State.word_setWord_other _ _ (by decide), State.word_setWord_other _ _ (by decide), State.word_setWord_same]
  · rw [cvtPut, State.word_post_other _ _ (by decide), State.word_setWord_other _ _ (by decide), State.word_setWord_other _ _ (by decide),
      State.word_setWord_same]
  · rw [cvtPut, State.word_post_other _ _ (by decide), State.word_setWord_other _ _ (by decide), State.word_setWord_same]
  · rw [cvtPut, State.word_post_other _ _ (by decide), State.word_setWord_same]

theorem timeConverted_unmapped {tick cyc : Nat} (hc : s.time.cvt = some (tick, cyc)) (hm : s.time.map = none) :
    timeConverted s = cvtPut 0 0 0 0 8 { s with time := { s.time with cvt := none } } := by
  rw [timeConverted, hc]
  dsimp only
  rw [hm]
  rfl

theorem timeConverted_mapped {tick cyc : Nat} {m : TMap} {u : Int} (hc : s.time.cvt = some (tick, cyc)) (hm : s.time.map = some m)
    (ha : m.apply ≤ tick) (hu : u = gSec (mapNs m tick cyc) - s.fld F.TIME_UTC_UTC_OFS - epoch2000) (h0 : 0 ≤ u) (h1 : u ≤ calEnd) :
    timeConverted s = cvtPut (gSec (mapNs m tick cyc)) (gNs (mapNs m tick cyc)).toNat (calDate u.toNat).toNat (calTime u.toNat).toNat 0
      { s with time := { s.time with cvt := none } } := by
  have hold : decide (tick < m.apply) = false := decide_eq_false (by omega)
  rw [timeConverted, hc]
  dsimp only
  rw [hm]
  dsimp only
  rw [hold]
  rw [hu] at h0 h1 ⊢
  rw [if_neg (show ¬ false = true by decide)]
  split
  next h => exact absurd h (not_or.mpr ⟨Int.not_lt.mpr h0, Int.not_lt.mpr h1⟩)
  next => rw [← hm]; rfl

/-! Domain ticks (R453, R454): every stream and slot starts again. -/

/-- A register outside those in which streams and slots show their state. -/
def ZklApart (f : Fld) : Prop := ∀ i < 64, f.addr ≠ Adr.TX_TSTATE i ∧ f.addr ≠ Adr.RX_STAT i

theorem zklShow_only {β : Type} {E : State → β} {s0 : State} (h : Only (fun a => ∃ i < 64, a = Adr.TX_TSTATE i ∨ a = Adr.RX_STAT i) E s0 s) :
    Only (fun a => ∃ i < 64, a = Adr.TX_TSTATE i ∨ a = Adr.RX_STAT i) E s0 (zklShow s) := by
  unfold zklShow
  refine Only.each (fun r hr u hu => ?_) (Only.each (fun n hn u hu => State.setFld_only ⟨n, hn, .inl rfl⟩ hu) h)
  have hset (v : Nat) : Only (fun a => ∃ i < 64, a = Adr.TX_TSTATE i ∨ a = Adr.RX_STAT i) E s0 (u.setFld (F.RX_STAT_RSTATE r) v) :=
    State.setFld_only ⟨r, hr, .inr rfl⟩ hu
  exact .ite (hset _) (.ite (hset _) (.ite (hset _) hu))

theorem zklRestartAll_only {β : Type} {E : State → β} {s0 : State} (hE : ∀ (u : State) z, E { u with zkl := z } = E u)
    (h : Only (fun a => ∃ i < 64, a = Adr.TX_TSTATE i ∨ a = Adr.RX_STAT i) E s0 s) :
    Only (fun a => ∃ i < 64, a = Adr.TX_TSTATE i ∨ a = Adr.RX_STAT i) E s0 (zklRestartAll s) := by
  unfold zklRestartAll
  refine Only.each (fun r hr u hu => ?_) (Only.each (fun n _ u hu => hu.update rfl (hE { u with regs := [] } _)) h)
  exact Only.when (fun _ hv => State.setFld_only ⟨r, hr, .inr rfl⟩ hv) (hu.update rfl (hE { u with regs := [] } _))

/-- Streams and slots started again and shown: the time base and the reports stay. -/
theorem zklAgain_stays (s : State) : (zklShow (zklRestartAll s)).time = s.time ∧ (zklShow (zklRestartAll s)).flt = s.flt ∧
    ∀ f, ZklApart f → (zklShow (zklRestartAll s)).fld f = s.fld f := by
  have h {β : Type} {E : State → β} (hE : ∀ (u : State) z, E { u with zkl := z } = E u) :
      Only (fun a => ∃ i < 64, a = Adr.TX_TSTATE i ∨ a = Adr.RX_STAT i) E s (zklShow (zklRestartAll s)) :=
    zklShow_only (zklRestartAll_only hE (.refl s))
  refine ⟨(h (E := State.time) fun _ _ => rfl).same fun _ => rfl, (h (E := State.flt) fun _ _ => rfl).same fun _ => rfl, fun f hf => ?_⟩
  refine (h (E := fun _ => ()) fun _ _ => rfl).fld ?_
  rintro ⟨i, hi, h1 | h1⟩
  · exact (hf i hi).1 h1
  · exact (hf i hi).2 h1

theorem zklApart_time {f : Fld} (h : f.addr < 0x120000) : ZklApart f := fun i _ => by
  simp only [Adr.TX_TSTATE, Adr.RX_STAT]
  omega

/-- A domain offset taken (R453): before the first one nothing is told. -/
def dofsTake (d : Int) (s : State) : State :=
  let s1 := (({ s with time := { s.time with dofs := d } }.setFld (F.TIME_DOFS_DOFS 0) (unsigned 64 d % 2 ^ 32)).setFld (F.TIME_DOFS_DOFS 1)
    (unsigned 64 d / 2 ^ 32)).setFld F.TIME_STAT_DOFS_SET 1
  zklShow (zklRestartAll (s1.when (s.on F.TIME_STAT_DOFS_SET) fun s => (s.report 0x2142 0 0).raise Pg.time 1))

theorem unsigned_lt (n : Nat) (v : Int) : unsigned n v < 2 ^ n := by
  have hpos : (0 : Int) < 2 ^ n := Int.pow_pos (by decide)
  have h := Int.emod_lt_of_pos v hpos
  have h0 := Int.emod_nonneg v (Int.ne_of_gt hpos)
  rw [unsigned]
  rw [Int.toNat_lt h0, Int.natCast_pow]
  exact h

theorem dofsTake_shows (d : Int) (s : State) : (dofsTake d s).time = { s.time with dofs := d } ∧
    (dofsTake d s).fld F.TIME_STAT_DOFS_SET = 1 ∧ (dofsTake d s).fld F.TIME_STAT_DOFS_OK = s.fld F.TIME_STAT_DOFS_OK ∧
    (dofsTake d s).fld (F.TIME_DOFS_DOFS 0) + (dofsTake d s).fld (F.TIME_DOFS_DOFS 1) * 2 ^ 32 = unsigned 64 d ∧
    (dofsTake d s).flt.reports = s.flt.reports ++ if s.on F.TIME_STAT_DOFS_SET then [⟨0x2142, 0, 0, 0⟩] else [] := by
  have hlt := unsigned_lt 64 d
  unfold dofsTake
  dsimp only
  obtain ⟨htime, hflt, hfld⟩ := zklAgain_stays
    (((({ s with time := { s.time with dofs := d } }.setFld (F.TIME_DOFS_DOFS 0) (unsigned 64 d % 2 ^ 32)).setFld
    (F.TIME_DOFS_DOFS 1) (unsigned 64 d / 2 ^ 32)).setFld F.TIME_STAT_DOFS_SET 1).when (s.on F.TIME_STAT_DOFS_SET)
      fun s => (s.report 0x2142 0 0).raise Pg.time 1)
  have hwhen {f : Fld} (u : State) (h : f.addr ≠ Pg.time * 4096 + 16) : (u.when (s.on F.TIME_STAT_DOFS_SET)
      fun s => (s.report 0x2142 0 0).raise Pg.time 1).fld f = u.fld f :=
    State.when_keeps (·.fld f) (by rw [State.fld_raise_other _ h, State.report_fld])
  refine ⟨?_, ?_, ?_, ?_, ?_⟩
  · rw [htime, State.when_keeps (·.time) (by simp), State.setFld_time, State.setFld_time, State.setFld_time]
  · rw [hfld _ (zklApart_time (by decide)), hwhen _ (by decide), State.fld_setFld_one _ (by decide)]
  · rw [hfld _ (zklApart_time (by decide)), hwhen _ (by decide), State.fld_setFld_off _ _ (by decide), State.fld_setFld_off _ _ (by decide),
      State.fld_setFld_off _ _ (by decide)]
    rfl
  · rw [hfld _ (zklApart_time (by decide)), hwhen _ (by decide), State.fld_setFld_off _ _ (by decide), State.fld_setFld_off _ _ (by decide),
      State.fld_setFld_fits _ (by decide) (show unsigned 64 d % 2 ^ 32 < 2 ^ (F.TIME_DOFS_DOFS 0).width from Nat.mod_lt _ (by decide)),
      hfld _ (zklApart_time (by decide)), hwhen _ (by decide),
      State.fld_setFld_off _ _ (by decide), State.fld_setFld_fits _ (by decide) (by rw [show (F.TIME_DOFS_DOFS 1).width = 32 from rfl]; omega)]
    omega
  · rw [hflt]
    cases s.on F.TIME_STAT_DOFS_SET
    · rw [State.when_false, State.setFld_flt, State.setFld_flt, State.setFld_flt]
      simp
    · rw [State.when_true, State.raise_flt, State.report, State.setFld_flt, State.setFld_flt, State.setFld_flt]
      simp

/-- The domain ticks judged (R453): PHASE told, and within 3 µs DOFS holds or is taken anew. -/
theorem domainUpdate_within {m : TMap} {k e : Int} (hm : s.time.map = some m) (ht : s.tick % 1024 = 0)
    (hk : k = roundRat (3 * mapNs m s.tick 0) (15625 * mapScale)) (he : e = 3 * mapNs m s.tick 0 - k * 15625 * mapScale)
    (h1 : e ≤ 3000 * mapScale) (h2 : -(3000 * mapScale) ≤ e) : ∃ w, domainUpdate s =
      if s.on F.TIME_STAT_DOFS_SET = true ∧ s.time.dofs = k - s.tick then (s.post Adr.TIME_PHASE w).setFld F.TIME_STAT_DOFS_OK 1
      else dofsTake (k - s.tick) ((s.post Adr.TIME_PHASE w).setFld F.TIME_STAT_DOFS_OK 1) := by
  refine ⟨BitVec.ofNat 32 (unsigned 23 (roundRat e (3 * mapScale))), ?_⟩
  have hset (w : Word) : ((s.post Adr.TIME_PHASE w).setFld F.TIME_STAT_DOFS_OK 1).on F.TIME_STAT_DOFS_SET = s.on F.TIME_STAT_DOFS_SET := by
    rw [State.on_setFld_off _ _ (by decide), State.on_post_other _ _ (by decide)]
  unfold domainUpdate
  rw [hm]
  dsimp only
  rw [if_neg (by omega), ← hk, ← he, if_neg (by omega), hset, State.post_tick, State.setFld_time, State.post_time, Bool.not_not]
  by_cases hsame : s.on F.TIME_STAT_DOFS_SET = true ∧ s.time.dofs = k - s.tick
  · rw [if_pos hsame, if_pos (by rw [hsame.1, hsame.2]; simp)]
  · rw [if_neg hsame, if_neg fun h => hsame ?_]
    · unfold dofsTake
      dsimp only
      rw [hset, State.setFld_time, State.post_time]
    · rw [Bool.and_eq_true, beq_iff_eq] at h
      exact ⟨h.1, h.2.symm⟩

theorem domainUpdate_beyond {m : TMap} {k e : Int} (hm : s.time.map = some m) (ht : s.tick % 1024 = 0)
    (hk : k = roundRat (3 * mapNs m s.tick 0) (15625 * mapScale)) (he : e = 3 * mapNs m s.tick 0 - k * 15625 * mapScale)
    (h : 3000 * mapScale < e ∨ e < -(3000 * mapScale)) : ∃ w, domainUpdate s = (s.post Adr.TIME_PHASE w).setFld F.TIME_STAT_DOFS_OK 0 := by
  refine ⟨BitVec.ofNat 32 (unsigned 23 (roundRat e (3 * mapScale))), ?_⟩
  unfold domainUpdate
  rw [hm]
  dsimp only
  rw [if_neg (by omega), ← hk, ← he, if_pos h]

/-! The queue of a linked frame (R403, R457). -/

theorem State.queue_setQueue (q : Nat) (x : Queue) (s : State) : (s.setQueue q x).queue q = x := SMap.get_set_same ..

/-- A signature linked behind those of the queue leaves them. -/
theorem qCutThrough_sigs (q : Nat) (s : State) : ∃ l, ((qCutThrough q s).queue q).sigs = (s.queue q).sigs ++ l := by
  unfold qCutThrough
  dsimp only
  split
  · exact ⟨[], (List.append_nil _).symm⟩
  · split
    next g _ =>
      unfold qLink
      dsimp only
      split
      · exact ⟨[], (List.append_nil _).symm⟩
      next g' _ => exact ⟨[g'], by rw [State.queue_setQueue]⟩
    · exact ⟨[], (List.append_nil _).symm⟩

/-- The signature as it is closed with DROP. -/
def sigClosed (drop : Nat) (g : Sig) (s : State) : Sig :=
  { g with closed := true, shut := s.tick, len := 4 * g.words.length - drop, words := sigPad drop g.words }

/-- A signature of a producer closed stands behind those of its queue. -/
theorem qClose_sigs {q drop : Nat} {p : Prod} {g : Sig} (he : (s.queue q).ended.contains p = false)
    (hg : (s.queue q).opens.find? (fun h => h.prod == p) = some g) (hl : (s.queue q).sigs.any (fun h => !h.closed && h.prod == p) = false)
    (h0 : 0 < g.words.length) (h1 : g.words.length < 16384) (hd : drop < 4) :
    ∃ l, ((qClose q p drop s).queue q).sigs = (s.queue q).sigs ++ sigClosed drop g s :: l := by
  have hopen : qOpenOf (s.queue q) p = some g := by rw [qOpenOf, hg]
  have hpast : decide (g.words.length = 16384 ∧ drop % 4 = 0) = false := decide_eq_false (by omega)
  have hclose : qClose q p drop s = qCutThrough q (s.setQueue q { s.queue q with
      opens := (s.queue q).opens.filter (fun h => !(h.prod == p)), sigs := (s.queue q).sigs ++ [sigClosed drop g s] }) := by
    unfold qClose
    dsimp only
    rw [if_neg (by rw [he]; decide), hopen]
    dsimp only
    rw [hl, hpast, if_neg (by decide), if_neg (by decide), if_neg (by decide), if_neg (by omega), if_neg (by decide),
      State.when_false, Nat.mod_eq_of_lt hd, decide_eq_false (by omega), Bool.or_false]
    rfl
  obtain ⟨l, hl⟩ := qCutThrough_sigs q (s.setQueue q { s.queue q with
      opens := (s.queue q).opens.filter (fun h => !(h.prod == p)), sigs := (s.queue q).sigs ++ [sigClosed drop g s] })
  refine ⟨l, ?_⟩
  rw [hclose, hl, State.queue_setQueue, List.append_assoc]
  rfl

theorem State.queue_congr {t : State} (h : t.qmg = s.qmg) (q : Nat) : t.queue q = s.queue q := by rw [State.queue, h, State.queue]

/-- Closing a signature changes registers of the queue manager alone. -/
theorem qClose_fld {q drop : Nat} {p : Prod} {f : Fld} (h1 : f.addr < 0x1000000) (h2 : f.addr ≠ Adr.QMG_CNT2) (h3 : f.addr ≠ Pg.qmg * 4096 + 16) :
    (qClose q p drop s).fld f = s.fld f := by
  have h : Only (fun a => a = Adr.QMG_QSTAT q ∨ a = Adr.QMG_QCNT q ∨ a = Adr.QMG_CNT2 ∨ a = Pg.qmg * 4096 + 16) (fun _ => ())
      s (qClose q p drop s) :=
    qClose_onlyQueue ⟨.inl rfl, .inr (.inl rfl), .inr (.inr (.inl rfl)), .inr (.inr (.inr rfl))⟩ (fun _ _ => rfl) (.refl s)
  refine h.fld ?_
  rintro (h | h | h | h)
  · simp only [Adr.QMG_QSTAT] at h; omega
  · simp only [Adr.QMG_QCNT] at h; omega
  · exact h2 h
  · exact h3 h

/-- A frame linked on its one port (R457). -/
theorem zklLink_one {n len p : Nat} (hs : (s.ztx n).send = some (len, [p])) (hn : n < 64) (hp : s.fld (F.TX_CFG_PORTS n) ≠ 0) : zklLink n s =
    ((qClose (ztxQueue n p s) (ztxProd n p) ((4 - len % 4) % 4) s).bump (F.TX_CNT_FRAMES n) (F.TX_CNT_FR_SAT n)).setZtx n
      { s.ztx n with send := none } := by
  have hports : ((qClose (ztxQueue n p s) (ztxProd n p) ((4 - len % 4) % 4) s).bump (F.TX_CNT_FRAMES n) (F.TX_CNT_FR_SAT n)).fld (F.TX_CFG_PORTS n) =
      s.fld (F.TX_CFG_PORTS n) := by
    rw [State.fld_bump_off _ (.inr (.inr (by simp only [F.TX_CFG_PORTS, Adr.TX_CFG, F.TX_CNT_FRAMES, Adr.TX_CNT]; omega)))
      (.inr (.inr (by simp only [F.TX_CFG_PORTS, Adr.TX_CFG, F.TX_CNT_FR_SAT, Adr.TX_CNT]; omega)))]
    exact qClose_fld (by simp only [F.TX_CFG_PORTS, Adr.TX_CFG]; omega) (by simp only [F.TX_CFG_PORTS, Adr.TX_CFG, Adr.QMG_CNT2]; omega)
      (by simp only [F.TX_CFG_PORTS, Adr.TX_CFG, Pg.qmg]; omega)
  unfold zklLink
  dsimp only
  rw [hs]
  dsimp only
  rw [show s.eachOf [p] (fun p s => (qClose (ztxQueue n p s) (ztxProd n p) ((4 - len % 4) % 4) s).bump (F.TX_CNT_FRAMES n) (F.TX_CNT_FR_SAT n)) =
    (qClose (ztxQueue n p s) (ztxProd n p) ((4 - len % 4) % 4) s).bump (F.TX_CNT_FRAMES n) (F.TX_CNT_FR_SAT n) from rfl,
    State.when_of_not (by rw [hports]; exact beq_eq_false_iff_ne.mpr hp)]

/-! Frames judged (R460). -/

theorem qPass_onlyCells {β : Type} {ws : Nat → Prop} {E : State → β} {s0 : State} {q : Nat} (hE : HidesCells q E) (hs : ws (Adr.QMG_QSTAT q))
    (hi : ws (Pg.qmg * 4096 + 16)) (h : Only ws E s0 s) : Only ws E s0 (qPass q s) :=
  qSettle_onlyCells hE hs hi (hE.setQueue _ h)

/-- A signature passed: registers of the queue manager alone change, and state of its own. -/
theorem qPass_fld {q : Nat} {f : Fld} (h1 : f.addr < 0x1000000) (h2 : f.addr ≠ Pg.qmg * 4096 + 16) : (qPass q s).fld f = s.fld f := by
  refine (qPass_onlyCells (ws := fun a => a = Adr.QMG_QSTAT q ∨ a = Pg.qmg * 4096 + 16) (E := fun _ => ()) (fun _ _ _ _ _ _ => rfl) (.inl rfl) (.inr rfl)
    (.refl s)).fld ?_
  rintro (h | h)
  · simp only [Adr.QMG_QSTAT] at h; omega
  · exact h2 h

theorem qPass_same {β : Type} {q : Nat} (E : State → β) (hE : HidesCells q E) (hr : ∀ u : State, E { u with regs := [] } = E u) :
    E (qPass q s) = E s :=
  (qPass_onlyCells (ws := fun _ => True) hE trivial trivial (.refl s)).same hr

/-- A frame of another version or domain is no slot's. -/
theorem zklJudge_nomatch {tr bad : Bool} {bytes : List Byte} {shut : Nat}
    (h : leNum ((bytes.drop 18).take 1) / 16 ≠ 1 ∨ leNum (((bytes.drop 18).drop 2).take 1) ≠ s.fld F.ZKL_NODE_DOMAIN) :
    zklJudge tr bytes bad shut s = s.bump F.ZKL_CNT_NOMATCH F.ZKL_CNT_NM_SAT := by
  have h' : leNum (((bytes.drop 18).drop 0).take 1) / 16 ≠ 1 ∨ 1 < leNum (((bytes.drop 18).drop 0).take 1) % 16 ∨
      leNum (((bytes.drop 18).drop 2).take 1) ≠ s.fld F.ZKL_NODE_DOMAIN := by
    rw [List.drop_zero]
    exact h.imp_right .inr
  unfold zklJudge
  dsimp only
  rw [if_pos h']

/-- The slot that a stream's frames go to depends on the slots' registers alone. -/
theorem zrxOf_congr {t : State} {node stream : Nat} (h : ∀ f : Fld, f.addr < 0x122000 → 0x121000 ≤ f.addr → f.addr ≠ Pg.qmg * 4096 + 16 →
    t.fld f = s.fld f) : zrxOf node stream t = zrxOf node stream s := by
  unfold zrxOf
  refine find?_congr_mem fun r hr => ?_
  have hr := List.mem_range.mp hr
  rw [State.on, State.on, h (F.RX_CFG_EN r) (by simp only [F.RX_CFG_EN, Adr.RX_CFG]; omega) (by simp only [F.RX_CFG_EN, Adr.RX_CFG]; omega)
    (by simp only [F.RX_CFG_EN, Adr.RX_CFG, Pg.qmg]; omega), h (F.RX_ID_SRC_NODE r) (by simp only [F.RX_ID_SRC_NODE, Adr.RX_ID]; omega)
    (by simp only [F.RX_ID_SRC_NODE, Adr.RX_ID]; omega) (by simp only [F.RX_ID_SRC_NODE, Adr.RX_ID, Pg.qmg]; omega),
    h (F.RX_ID_STREAM r) (by simp only [F.RX_ID_STREAM, Adr.RX_ID]; omega)
    (by simp only [F.RX_ID_STREAM, Adr.RX_ID]; omega) (by simp only [F.RX_ID_STREAM, Adr.RX_ID, Pg.qmg]; omega)]

theorem zrxOf_lt {node stream r : Nat} (h : zrxOf node stream s = some r) : r < 64 := List.mem_range.mp (List.mem_of_find?_eq_some h)

/-- A good frame of an audio slot lands in the playout store (R459, R460). -/
theorem zrxGood_audio {tr : Bool} {r p : Nat} {d0 : Int} {pay : List Byte} (hk : s.on (F.RX_CFG_KIND r) = false) :
    Counted s (zrxGood tr r p d0 pay s) (F.RX_CNT1_GOOD r) ∧ (zrxGood tr r p d0 pay s).fld (F.RX_STAT_P r) = p % 2 ^ 16 ∧
    ((zrxGood tr r p d0 pay s).zrx r).p = some ((s.zrx r).p.getD p) ∧ (d0, packBytes pay) ∈ ((zrxGood tr r p d0 pay s).zrx r).store := by
  have hctl : ((s.bump (F.RX_CNT1_GOOD r) (F.RX_CNT1_GD_SAT r)).setFld (F.RX_STAT_P r) p).on (F.RX_CFG_KIND r) = false := by
    rw [State.on_setFld_off _ _ (.inr (.inr (by simp only [F.RX_CFG_KIND, Adr.RX_CFG, F.RX_STAT_P, Adr.RX_STAT]; omega))),
      State.on_bump_off _ (.inr (.inr (by simp only [F.RX_CFG_KIND, Adr.RX_CFG, F.RX_CNT1_GOOD, Adr.RX_CNT1]; omega)))
      (.inr (.inr (by simp only [F.RX_CFG_KIND, Adr.RX_CFG, F.RX_CNT1_GD_SAT, Adr.RX_CNT1]; omega))), hk]
  have hzkl : ((s.bump (F.RX_CNT1_GOOD r) (F.RX_CNT1_GD_SAT r)).setFld (F.RX_STAT_P r) p).zrx r = s.zrx r := by
    rw [State.zrx, State.setFld_zkl, State.bump_zkl, State.zrx]
  have hgood : zrxGood tr r p d0 pay s = ((s.bump (F.RX_CNT1_GOOD r) (F.RX_CNT1_GD_SAT r)).setFld (F.RX_STAT_P r) p).setZrx r
      { s.zrx r with p := some ((s.zrx r).p.getD p), store := (s.zrx r).store.filter (fun e => d0 - 128 < e.1) ++ [(d0, packBytes pay)] } := by
    unfold zrxGood
    dsimp only
    rw [hctl, hzkl, if_neg (by decide), if_neg (by decide)]
  have hfld (f : Fld) (x : ZRx) (u : State) : (u.setZrx r x).fld f = u.fld f := rfl
  have hget (x : ZRx) (u : State) : (u.setZrx r x).zrx r = x := SMap.get_set_same ..
  rw [hgood, Counted, hfld, hfld, hget]
  refine ⟨?_, State.fld_setFld_same _ _ (of_decide_eq_true rfl), rfl, List.mem_append_right _ (List.mem_singleton_self _)⟩
  rw [State.fld_setFld_addr _ _ (by simp only [F.RX_CNT1_GOOD, Adr.RX_CNT1, F.RX_STAT_P, Adr.RX_STAT]; omega),
    State.fld_bump_counter _ (of_decide_eq_true rfl) (of_decide_eq_true rfl) (Fld.apart_sure rfl)]

/-- A frame that every row but the last passes is good (R460). -/
theorem zklJudge_good {tr : Bool} {bytes u : List Byte} {shut r c d0 p gath : Nat} (hu : u = bytes.drop 18) (hver : leNum (u.take 1) = 16)
    (hdom : leNum ((u.drop 2).take 1) = s.fld F.ZKL_NODE_DOMAIN)
    (hslot : zrxOf (leNum ((u.drop 4).take 2) % 16384) (leNum ((u.drop 6).take 1)) s = some r)
    (hown : leNum ((u.drop 4).take 2) % 16384 ≠ s.fld F.ZKL_NODE_NODE_ID) (hkind : s.on (F.RX_CFG_KIND r) = false)
    (hgath : gath = gathTicks (s.fld (F.RX_CFG_GATH r))) (hg : leNum ((u.drop 1).take 1) % 4 = s.fld (F.RX_CFG_GATH r))
    (hch : leNum ((u.drop 3).take 1) = s.fld (F.RX_CFG_CHANS r)) (hlen : leNum ((u.drop 22).take 2) = 4 * gath * s.fld (F.RX_CFG_CHANS r))
    (hc : c = 24 + leNum ((u.drop 22).take 2)) (hcrc : leNum ((u.drop c).take 4) = (crc32 (u.take c)).toNat)
    (h1 : leNum ((u.drop (c + 4)).take 4) = leNum ((u.drop 8).take 4)) (h2 : leNum ((u.drop (c + 8)).take 4) = leNum ((u.drop 12).take 4))
    (h3 : leNum ((u.drop (c + 12)).take 2) = leNum ((u.drop 22).take 2)) (hd : d0 = leNum ((u.drop 12).take 8)) (hd0 : d0 % gath = 0)
    (hp : p = leNum ((u.drop 20).take 2)) (hlow : gath + s.fld (F.RX_CFG_HOPB r) + 3 ≤ p)
    (hdup : (s.zrx r).store.any (fun e => e.1 == (d0 : Int)) = false)
    (hlate : (shut : Int) ≤ d0 + ((s.zrx r).p.getD p : Nat) - 3 - s.time.dofs)
    (hearly : (d0 : Int) + ((s.zrx r).p.getD p : Nat) ≤ domTick s.tick s + 128) :
    zklJudge tr bytes false shut s = zrxGood tr r p d0 ((u.drop 24).take (leNum ((u.drop 22).take 2))) s := by
  have hmod : ((d0 : Int) % (gath : Int) != 0) = false := by
    rw [← Int.natCast_emod, hd0]
    rfl
  unfold zklJudge
  dsimp only
  rw [← hu]
  refine (if_neg ?_).trans ?_
  · rw [List.drop_zero, hver, hdom]
    omega
  · rw [hslot]
    refine (if_neg hown).trans ((if_neg ?_).trans ((if_neg ?_).trans ((if_neg ?_).trans ((if_neg ?_).trans ((if_neg ?_).trans ?_)))))
    · rw [hkind, ← hd, ← hgath, ← hc, hcrc, h1, h2, h3, hg, hch, if_neg (show ¬ false = true by decide), if_neg (show ¬ false = true by decide),
        ← hlen, hmod]
      simp
    · rw [← hgath, ← hp]
      omega
    · rw [← hd, hdup]
      decide
    · rw [← hd, ← hp]
      omega
    · rw [← hd, ← hp]
      omega
    · rw [← hd, ← hp]

/-- The frame at the head of the queue is judged with the queue past it. -/
theorem zklRead_judges {tr : Bool} {g : Sig} (he : s.on F.ZKL_RXQ_EN = true) (hg : qHead s (s.fld F.ZKL_RXQ_RXQ) = some g) (hcl : g.closed = true)
    (hs : g.shut < s.tick) : zklRead tr s = zklJudge tr (sigBytes g) (g.trunc || g.err) g.shut (qPass (s.fld F.ZKL_RXQ_RXQ) s) := by
  unfold zklRead
  dsimp only
  rw [if_neg (by rw [he]; decide), hg]
  dsimp only
  rw [if_neg (by rw [hcl, decide_eq_false (by omega)]; decide)]

end

end Sys2Proof.Machine

namespace Sys2Proof

open Machine

/-- Settles O36, each clause by its branch of the command: a map, a conversion and the calendar by what they put, the domain ticks by the rule of DOFS, a frame by the queue it is linked into or judged from. -/
theorem timeCommandsComplete : Obligations.TimeCommandsComplete := by
  intro s
  refine ⟨?_, ?_, ?_, ?_, ?_, ?_, ?_, ?_, ?_, ?_, ?_, ?_, ?_⟩
  · intro hp
    rw [exec, execTimeCommit, completes_heard hp]
    exact ⟨rfl, rfl, rfl⟩
  · intro m hr hm ht hc
    have happly : CalStays ((({ s with time := { s.time with map := some { m with apply := s.tick }, prev := s.time.map, pend := none } }).setFld
        F.TIME_STAT_GPTP_RDY 1).setFld F.TIME_STAT_STALE 0) (timeApply s) := by
      rw [timeApply, hm]
      dsimp only
      rw [if_neg (by omega)]
      split
      · exact calDerive_stays ..
      · exact .refl _
    rw [exec, execTimeMapApply, completes_ticking hr, happly.map, happly.prev, happly.pend, happly.fld _ ?_, happly.fld _ ?_, State.setFld_time,
      State.setFld_time]
    · refine ⟨rfl, rfl, rfl, ?_, State.fld_setFld_zero _ (by decide)⟩
      rw [State.fld_setFld_off _ _ (by decide), State.fld_setFld_one _ (by decide)]
    · exact ⟨by decide, by decide, by decide, by decide, by decide⟩
    · exact ⟨by decide, by decide, by decide, by decide, by decide⟩
  · intro m hr hm hrdy hc
    rw [exec, execGptpStale, completes_ticking hr, timeStale, hm]
    dsimp only
    rw [if_neg (by rw [hrdy, decide_eq_false (by omega)]; decide)]
    refine ⟨?_, ?_, ?_, State.fld_raise_self _ (by decide), ?_⟩
    · rw [State.fld_raise_other _ (by decide), State.report_fld, State.fld_setFld_off _ _ (by decide), State.fld_setFld_zero _ (by decide)]
    · rw [State.fld_raise_other _ (by decide), State.report_fld, State.fld_setFld_one _ (by decide)]
    · rw [State.raise_time, State.report_time, State.setFld_time, State.setFld_time]
    · rw [Reported, State.raise_flt]
      exact State.report_reported (by rw [State.setFld_flt, State.setFld_flt])
  · intro m k e hr hm ht hk he h1 h2
    obtain ⟨w, hd⟩ := domainUpdate_within hm ht hk he h1 h2
    rw [exec, execDomainTickUpdate, completes_ticking hr, hd]
    have hset : ((s.post Adr.TIME_PHASE w).setFld F.TIME_STAT_DOFS_OK 1).on F.TIME_STAT_DOFS_SET = s.on F.TIME_STAT_DOFS_SET := by
      rw [State.on_setFld_off _ _ (by decide), State.on_post_other _ _ (by decide)]
    obtain ⟨htime, hone, hok, hdofs, hrep⟩ := dofsTake_shows (k - s.tick) ((s.post Adr.TIME_PHASE w).setFld F.TIME_STAT_DOFS_OK 1)
    rw [State.fld_setFld_one _ (by decide)] at hok
    rw [hset, State.setFld_flt, State.post_flt] at hrep
    by_cases hsame : s.on F.TIME_STAT_DOFS_SET = true ∧ s.time.dofs = k - s.tick
    · rw [if_pos hsame]
      refine ⟨State.fld_setFld_one _ (by decide), fun _ _ => ?_, fun h => ?_⟩
      · rw [State.setFld_time, State.post_time]
      · obtain h | h := h
        · rw [hsame.1] at h; cases h
        · exact absurd hsame.2 h
    · rw [if_neg hsame]
      exact ⟨hok, fun h3 h4 => absurd ⟨h3, h4⟩ hsame, fun _ => ⟨by rw [htime], hone, hdofs, hrep⟩⟩
  · intro m k e hr hm ht hk he h
    obtain ⟨w, hd⟩ := domainUpdate_beyond hm ht hk he h
    rw [exec, execDomainTickUpdate, completes_ticking hr, hd]
    exact ⟨State.fld_setFld_zero _ (by decide), by rw [State.setFld_time, State.post_time]⟩
  · intro cyc hp
    rw [exec, execTimeConvert, completes_heard hp]
    exact ⟨rfl, rfl⟩
  · intro tick cyc hr hc hm
    rw [exec, execTimeConvertResult, completes_ticking hr, timeConverted_unmapped hc hm]
    obtain ⟨hlo, hns, -, -, hst⟩ := cvtPut_shows 0 0 0 0 8 { s with time := { s.time with cvt := none } }
    exact ⟨by rw [cvtPut_time], hst 3 (by decide), hlo, hns⟩
  · intro tick cyc m u hr hc hm ha hu h0 h1
    rw [exec, execTimeConvertResult, completes_ticking hr, timeConverted_mapped hc hm ha hu h0 h1]
    obtain ⟨hlo, hns, hdate, htime, hst⟩ := cvtPut_shows (gSec (mapNs m tick cyc)) (gNs (mapNs m tick cyc)).toNat (calDate u.toNat).toNat
      (calTime u.toNat).toNat 0 { s with time := { s.time with cvt := none } }
    refine ⟨by rw [cvtPut_time], hst 3 (by decide), hst 1 (by decide), hst 2 (by decide), ?_, hns, ?_, ?_⟩
    · rw [State.fld]
      refine (congrArg (fun w : Word => w.bits 31 0) hlo).trans ?_
      rw [Word.bits, BitVec.toNat_ofNat, Nat.shiftRight_zero, Nat.mod_mod, Nat.mod_mod]
    · rw [hdate, BitVec.ofNat_toNat, BitVec.setWidth_eq]
    · rw [htime, BitVec.ofNat_toNat, BitVec.setWidth_eq]
  · intro hr hc he hf
    rw [exec, execCalendarSecond, completes_ticking hr, calSecond, if_neg (by rw [decide_eq_false (by omega), he, hf]; decide)]
    exact calPut_shows ..
  · intro m hr hm hl ha
    have hleap : CalStays ((s.setFld F.TIME_UTC_UTC_OFS (s.fld F.TIME_LEAP_OFS_LEAP_OFS)).setFld F.TIME_STAT_LEAP_PEND 0) (leapSecond s) := by
      rw [leapSecond, hm]
      dsimp only
      rw [hl, decide_eq_true ha, if_pos (by decide)]
      split
      · exact calDerive_stays ..
      · exact .refl _
    rw [exec, execLeapSecond, completes_ticking hr, hleap.fld _ ⟨by decide, by decide, by decide, by decide, by decide⟩,
      hleap.fld _ ⟨by decide, by decide, by decide, by decide, by decide⟩]
    refine ⟨?_, State.fld_setFld_zero _ (by decide)⟩
    rw [State.fld_setFld_off _ _ (by decide), State.fld_setFld_fits _ (by decide)
      (show s.fld F.TIME_LEAP_OFS_LEAP_OFS < 2 ^ F.TIME_UTC_UTC_OFS.width from s.fld_lt F.TIME_LEAP_OFS_LEAP_OFS)]
  · intro n len p q g hr hs hp hq he hg hl h0 h1
    have hdrop : (4 - len % 4) % 4 < 4 := Nat.mod_lt _ (by decide)
    have hcount : (F.TX_CNT_FRAMES n).addr < 0x1000000 := by simp only [F.TX_CNT_FRAMES, Adr.TX_CNT]; omega
    have hnum : (F.TX_CNT_FRAMES n).addr ≠ Adr.QMG_CNT2 ∧ (F.TX_CNT_FRAMES n).addr ≠ Pg.qmg * 4096 + 16 := by
      simp only [F.TX_CNT_FRAMES, Adr.TX_CNT, Adr.QMG_CNT2, Pg.qmg]; omega
    obtain ⟨l, hsigs⟩ := qClose_sigs (s := s.land (s.fld (F.TX_TIME_TXOFS n))) (q := q) he hg hl h0 h1 hdrop
    have hlink := zklLink_one (s := s.land (s.fld (F.TX_TIME_TXOFS n))) hs n.isLt hp
    rw [show ztxQueue n p (s.land (s.fld (F.TX_TIME_TXOFS n))) = q from hq] at hlink
    rw [exec, execZklFrameLink, completes_ticking hr, hlink]
    have hqueue (u : State) (x : ZTx) : ((u.bump (F.TX_CNT_FRAMES n) (F.TX_CNT_FR_SAT n)).setZtx n x).queue q = u.queue q :=
      State.queue_congr (State.bump_qmg ..) q
    have hsig' := (congrArg Queue.sigs (hqueue (qClose q (ztxProd n p) ((4 - len % 4) % 4) (s.land (s.fld (F.TX_TIME_TXOFS n))))
      { (s.land (s.fld (F.TX_TIME_TXOFS n))).ztx n with send := none })).trans hsigs
    refine ⟨?_, ?_, ?_, ?_⟩
    · exact congrArg ZTx.send (SMap.get_set_same ..)
    · rw [Counted]
      refine (State.fld_bump_counter _ (of_decide_eq_true rfl) (of_decide_eq_true rfl) (Fld.apart_sure rfl)).trans ?_
      rw [qClose_fld hcount hnum.1 hnum.2]
      rfl
    · rw [hsig']
      exact List.take_left
    · rw [hsig']
      exact (List.getElem?_append_right (Nat.le_refl _)).trans (by rw [Nat.sub_self]; rfl)
  · intro tr g u hr he hg hcl hs hu h
    rw [exec, execZklFrameJudge, completes_ticking hr, zklRead_judges he hg hcl hs, zklJudge_nomatch ?_]
    · refine ⟨?_, ?_⟩
      · rw [Counted, State.fld_bump_counter _ (by decide) (by decide) (by decide), qPass_fld (by decide) (by decide)]
      · rw [State.bump_zkl]
        exact qPass_same State.zkl (fun _ _ _ _ _ _ => rfl) fun _ => rfl
    · rw [qPass_fld (by decide) (by decide), ← hu]
      exact h
  · intro tr g u r c d0 p gath hr he hg hcl hs htr herr hu hver hdom hslot hown hkind hgath hgc hch hlen hc hcrc h1 h2 h3 hd hd0 hp hlow hdup
      hlate hearly
    have hr64 := zrxOf_lt hslot
    have hpass {f : Fld} (h1 : f.addr < 0x122000) (h2 : f.addr ≠ Pg.qmg * 4096 + 16) : (qPass (s.fld F.ZKL_RXQ_RXQ) s).fld f = s.fld f :=
      qPass_fld (by omega) h2
    have hcfg {f : Fld} (h : f.addr = Adr.RX_CFG r) : (qPass (s.fld F.ZKL_RXQ_RXQ) s).fld f = s.fld f :=
      hpass (by rw [h]; simp only [Adr.RX_CFG]; omega) (by rw [h]; simp only [Adr.RX_CFG, Pg.qmg]; omega)
    have hzkl : (qPass (s.fld F.ZKL_RXQ_RXQ) s).zrx r = s.zrx r := by
      rw [State.zrx, qPass_same State.zkl (fun _ _ _ _ _ _ => rfl) fun _ => rfl, State.zrx]
    have htime := qPass_same (s := s) (q := s.fld F.ZKL_RXQ_RXQ) State.time (fun _ _ _ _ _ _ => rfl) fun _ => rfl
    have htick := qPass_same (s := s) (q := s.fld F.ZKL_RXQ_RXQ) State.tick (fun _ _ _ _ _ _ => rfl) fun _ => rfl
    rw [exec, execZklFrameJudge, completes_ticking hr, zklRead_judges he hg hcl hs, htr, herr, Bool.or_false]
    rw [zklJudge_good (s := qPass (s.fld F.ZKL_RXQ_RXQ) s) (c := c) (d0 := d0) (p := p) (gath := gath) (r := r) hu hver ?_ ?_ ?_ ?_ ?_ ?_ ?_ ?_
      hc hcrc h1 h2 h3 hd hd0 hp ?_ ?_ ?_ ?_]
    · obtain ⟨hgood, hpp, hpx, hstore⟩ :=
        zrxGood_audio (tr := tr) (r := r) (p := p) (d0 := d0) (pay := (u.drop 24).take (leNum ((u.drop 22).take 2)))
        (s := qPass (s.fld F.ZKL_RXQ_RXQ) s) (by rw [State.not_on_iff, hcfg rfl, ← State.not_on_iff, hkind])
      rw [hzkl] at hpx
      refine ⟨?_, hpp, hpx, hstore⟩
      rw [Counted] at hgood ⊢
      rw [hgood, hpass (by simp only [F.RX_CNT1_GOOD, Adr.RX_CNT1]; omega) (by simp only [F.RX_CNT1_GOOD, Adr.RX_CNT1, Pg.qmg]; omega)]
    · rw [hpass (by decide) (by decide), hdom]
    · rw [zrxOf_congr fun f h _ h2 => hpass h h2, hslot]
    · rw [hpass (by decide) (by decide)]; exact hown
    · rw [State.not_on_iff, hcfg rfl, ← State.not_on_iff, hkind]
    · rw [hcfg rfl, hgath]
    · rw [hcfg rfl, hgc]
    · rw [hcfg rfl, hch]
    · rw [hcfg rfl, hlen]
    · rw [hcfg rfl]; exact hlow
    · rw [hzkl]; exact hdup
    · rw [hzkl, htime]; exact hlate
    · rw [hzkl, domTick, htick, htime]; exact hearly

end Sys2Proof

/-!
The bridge table (R441-R444): what an entry put, a learn event and the table commands leave in it.
-/

namespace Sys2Proof.Machine

section

variable {s : State}

/-! A bucket replaced. -/

theorem brPut_bucket (mac : Nat) (es : List BrEnt) (s : State) : brBucket mac (brPut (macBin mac) es s) = es := by
  rw [brBucket, brPut]
  dsimp only
  rw [State.setFld_net]
  exact SMap.get_set_same ..

theorem brPut_other {b : Nat} (c : Nat) (es : List BrEnt) (s : State) (h : b ≠ c) :
    SMap.get (fun _ => []) (brPut c es s).net.table b = SMap.get (fun _ => []) s.net.table b := by
  rw [brPut]
  dsimp only
  rw [State.setFld_net]
  exact SMap.get_set_other _ _ _ h

theorem brPut_fld {b : Nat} {es : List BrEnt} {f : Fld} (h : f.addr ≠ Adr.NET_BR_STAT) : (brPut b es s).fld f = s.fld f := by
  rw [brPut]
  exact State.fld_setFld_addr _ _ h

theorem brPut_learn (b : Nat) (es : List BrEnt) (s : State) : (brPut b es s).net.learn = s.net.learn := by
  rw [brPut]
  dsimp only
  rw [State.setFld_net]

theorem brPut_ports (b : Nat) (es : List BrEnt) (s : State) : (brPut b es s).net.ports = s.net.ports := by
  rw [brPut]
  dsimp only
  rw [State.setFld_net]

theorem brPut_flt (b : Nat) (es : List BrEnt) (s : State) : (brPut b es s).flt = s.flt := by
  rw [brPut]
  dsimp only
  rw [State.setFld_flt]

theorem brFind_congr {t : State} (h : t.net = s.net) (mac : Nat) : brFind mac t = brFind mac s := by
  rw [brFind, brBucket, h, brFind, brBucket]

theorem brBucket_congr {t : State} (h : t.net = s.net) (mac : Nat) : brBucket mac t = brBucket mac s := by rw [brBucket, h, brBucket]

/-- An entry of an address put in the place of the one it had. -/
theorem find_replaced {mac : Nat} {y : BrEnt} (hy : y.mac = mac) {es : List BrEnt} {x : BrEnt} (hx : es.find? (fun e => e.mac == mac) = some x) :
    (es.map (fun z => if z.mac == mac then y else z)).find? (fun e => e.mac == mac) = some y := by
  induction es with
  | nil => cases hx
  | cons a t ih =>
    rw [List.map_cons]
    by_cases ha : (a.mac == mac) = true
    · rw [if_pos ha, List.find?_cons_of_pos (by simpa using hy)]
    · rw [List.find?_cons_of_neg (p := fun e : BrEnt => e.mac == mac) ha] at hx
      rw [if_neg ha, List.find?_cons_of_neg (p := fun e : BrEnt => e.mac == mac) ha, ih hx]

/-- The entry found put in its place again. -/
theorem find_exchanged {mac : Nat} {y : BrEnt} (hy : y.mac = mac) {es : List BrEnt} {x : BrEnt} (hx : es.find? (fun e => e.mac == mac) = some x) :
    (es.map (fun z => if z == x then y else z)).find? (fun e => e.mac == mac) = some y := by
  induction es with
  | nil => cases hx
  | cons a t ih =>
    rw [List.map_cons]
    by_cases ha : (a.mac == mac) = true
    · rw [List.find?_cons_of_pos (p := fun e : BrEnt => e.mac == mac) ha] at hx
      cases hx
      rw [if_pos (beq_self_eq_true _), List.find?_cons_of_pos (by simpa using hy)]
    · rw [List.find?_cons_of_neg (p := fun e : BrEnt => e.mac == mac) ha] at hx
      have hne : (a == x) = false := by
        rw [beq_eq_false_iff_ne]
        rintro rfl
        exact ha (List.find?_some (p := fun e : BrEnt => e.mac == mac) hx)
      rw [hne, if_neg (by decide), List.find?_cons_of_neg (p := fun e : BrEnt => e.mac == mac) ha, ih hx]

/-- A new entry in the place of a member, where its address has none. -/
theorem find_displaced {mac : Nat} {y x : BrEnt} (hy : y.mac = mac) {es : List BrEnt} (hx : x ∈ es)
    (hn : es.find? (fun e => e.mac == mac) = none) : (es.map (fun z => if z == x then y else z)).find? (fun e => e.mac == mac) = some y := by
  induction es with
  | nil => cases hx
  | cons a t ih =>
    rw [List.map_cons]
    have ha : ¬ (a.mac == mac) = true := fun h => by rw [List.find?_cons_of_pos (p := fun e : BrEnt => e.mac == mac) h] at hn; cases hn
    rw [List.find?_cons_of_neg (p := fun e : BrEnt => e.mac == mac) ha] at hn
    by_cases hax : (a == x) = true
    · rw [if_pos hax, List.find?_cons_of_pos (by simpa using hy)]
    · rw [if_neg hax, List.find?_cons_of_neg (p := fun e : BrEnt => e.mac == mac) ha]
      refine ih ?_ hn
      obtain rfl | h := List.mem_cons.mp hx
      · exact absurd (beq_self_eq_true x) hax
      · exact h

theorem find_appended {mac : Nat} {y : BrEnt} (hy : y.mac = mac) {es : List BrEnt} (hn : es.find? (fun e => e.mac == mac) = none) :
    (es ++ [y]).find? (fun e => e.mac == mac) = some y := by
  rw [List.find?_append, hn, Option.none_or, List.find?_cons_of_pos (by simpa using hy)]

/-! Entries dropped from the whole table (R443-R445). -/

/-- The buckets of a list of keys have lost what is dropped; the others stay. -/
theorem brDrop_buckets (f : BrEnt → Bool) (l : SMap (List BrEnt)) (s : State) (b : Nat) :
    (b ∈ l.map (·.1) → ∀ x ∈ SMap.get (fun _ => []) (s.eachOf l (fun e s => brPut e.1 (e.2.filter (fun x => !f x)) s)).net.table b, f x = false) ∧
    (b ∉ l.map (·.1) → SMap.get (fun _ => []) (s.eachOf l (fun e s => brPut e.1 (e.2.filter (fun x => !f x)) s)).net.table b =
      SMap.get (fun _ => []) s.net.table b) := by
  induction l generalizing s with
  | nil => exact ⟨fun h => (List.not_mem_nil h).elim, fun _ => rfl⟩
  | cons e t ih =>
    obtain ⟨hin, hout⟩ := ih (brPut e.1 (e.2.filter (fun x => !f x)) s)
    refine ⟨fun h => ?_, fun h => ?_⟩
    · by_cases ht : b ∈ t.map (·.1)
      · exact hin ht
      · have hb : b = e.1 := (List.mem_cons.mp h).resolve_right ht
        intro x hx
        rw [State.eachOf, List.foldl_cons] at hx
        have hx' := (hout ht) ▸ hx
        rw [hb, brPut] at hx'
        dsimp only at hx'
        rw [State.setFld_net, SMap.get_set_same] at hx'
        simpa using (List.mem_filter.mp hx').2
    · rw [List.map_cons, List.mem_cons, not_or] at h
      exact (hout h.2).trans (brPut_other _ _ _ h.1)

theorem get_unlisted {α : Type} {d : Nat → α} {l : SMap α} {b : Nat} (h : b ∉ l.map (·.1)) : SMap.get d l b = d b := by
  induction l with
  | nil => rfl
  | cons e t ih =>
    rw [List.map_cons, List.mem_cons, not_or] at h
    rw [SMap.get, if_neg (Ne.symm h.1), ih h.2]

/-- What the table still finds was not to be dropped. -/
theorem brDrop_find {f : BrEnt → Bool} {mac : Nat} {e : BrEnt} (h : brFind mac (brDrop f s) = some e) : f e = false := by
  have hmem : e ∈ SMap.get (fun _ => []) (brDrop f s).net.table (macBin mac) := List.mem_of_find?_eq_some h
  obtain ⟨hin, hout⟩ := brDrop_buckets f s.net.table s (macBin mac)
  by_cases hb : macBin mac ∈ s.net.table.map (·.1)
  · exact hin hb e hmem
  · rw [brDrop, hout hb, get_unlisted hb] at hmem
    cases hmem

theorem brDrop_onlyStat {β : Type} {E : State → β} {s0 : State} {f : BrEnt → Bool}
    (hE : ∀ (u : State) m, E { u with net := { u.net with table := m } } = E u)
    (h : Only (· = Adr.NET_BR_STAT) E s0 s) : Only (· = Adr.NET_BR_STAT) E s0 (brDrop f s) := by
  unfold brDrop brPut
  exact .eachOf (fun e _ u hu => State.setFld_only rfl (hu.update rfl (hE { u with regs := [] } _))) h

/-! A learn event (R442, R443). -/

section

variable {e : LearnEv} {x : BrEnt}

theorem brLearn_new (hf : brFind e.mac s = none) (hl : (brBucket e.mac s).length < 4) :
    brFind e.mac (brLearn e s) = some ⟨e.mac, e.port, false, e.stamp, e.stamp⟩ := by
  have hfind : (brBucket e.mac s).find? (fun x => x.mac == e.mac) = none := hf
  unfold brLearn
  dsimp only
  rw [hfind]
  dsimp only
  rw [if_pos hl, brFind, brPut_bucket]
  refine find_appended ?_ hfind
  rfl

theorem brLearn_same (hf : brFind e.mac s = some x) (hp : x.port = e.port) : brFind e.mac (brLearn e s) = some { x with tr := e.stamp } := by
  have hfind : (brBucket e.mac s).find? (fun x => x.mac == e.mac) = some x := hf
  have hmac : x.mac = e.mac := by simpa using List.find?_some hfind
  unfold brLearn
  dsimp only
  rw [hfind]
  dsimp only
  rw [if_pos hp, brFind, brPut_bucket]
  refine find_replaced ?_ hfind
  exact hmac

theorem brLearn_moved (hf : brFind e.mac s = some x) (hp : x.port ≠ e.port) (hs : x.static = false) (ht : x.tl + moveHold s ≤ e.stamp) :
    brFind e.mac (brLearn e s) = some { x with port := e.port, tl := e.stamp, tr := e.stamp } ∧ Counted s (brLearn e s) F.NET_BR_CNT1_MOVES := by
  have hfind : (brBucket e.mac s).find? (fun x => x.mac == e.mac) = some x := hf
  have hmac : x.mac = e.mac := by simpa using List.find?_some hfind
  unfold brLearn
  dsimp only
  rw [hfind]
  dsimp only
  rw [if_neg hp, if_neg (by rw [hs, decide_eq_false (by omega)]; decide)]
  refine ⟨?_, ?_⟩
  · rw [brFind_congr (State.bump_net ..), brFind, brPut_bucket]
    refine find_replaced ?_ hfind
    exact hmac
  · rw [Counted, State.fld_bump_counter _ (by decide) (by decide) (by decide), brPut_fld (by decide)]

theorem brLearn_contested (hf : brFind e.mac s = some x) (hp : x.port ≠ e.port) (h : x.static = true ∨ e.stamp < x.tl + moveHold s) :
    (brLearn e s).net.table = s.net.table ∧ Counted s (brLearn e s) F.NET_BR_CNT1_CONTESTED ∧ (brLearn e s).fld (F.pgInt Pg.net 0) = 1 := by
  have hfind : (brBucket e.mac s).find? (fun x => x.mac == e.mac) = some x := hf
  unfold brLearn
  dsimp only
  rw [hfind]
  dsimp only
  rw [if_neg hp, if_pos (by rw [Bool.or_eq_true, decide_eq_true_eq]; exact h)]
  exact ⟨by rw [State.raise_net, State.bump_net], State.counted_raise (by decide) (by decide), State.fld_raise_self _ (by decide)⟩

end

/-- The registers in which the bridge counts and tells. -/
abbrev BrRegs (a : Nat) : Prop := a = Adr.NET_BR_STAT ∨ a = Adr.NET_BR_CNT1 ∨ a = Adr.NET_BR_CNT2 ∨ a = Pg.net * 4096 + 16

/-- A learn event changes registers of the bridge, and nothing of the state but its table. -/
theorem brLearn_only {β : Type} {E : State → β} {s0 : State} {e : LearnEv} (hE : ∀ (u : State) m, E { u with net := { u.net with table := m } } = E u)
    (h : Only BrRegs E s0 s) :
    Only BrRegs E s0 (brLearn e s) := by
  have hput (b : Nat) (es : List BrEnt) : Only BrRegs E s0 (brPut b es s) := State.setFld_only (.inl rfl) (h.update rfl (hE { s with regs := [] } _))
  have h1 : BrRegs Adr.NET_BR_CNT1 := .inr (.inl rfl)
  have h2 : BrRegs Adr.NET_BR_CNT2 := .inr (.inr (.inl rfl))
  unfold brLearn
  dsimp only
  split
  · exact .ite (hput _ _) (.ite (State.raise_only (.inr (.inr (.inr rfl))) (State.bump_only h1 h1 h)) (State.bump_only h1 h1 (hput _ _)))
  · refine .ite (hput _ _) ?_
    split
    · exact hput _ _
    · exact State.raise_only (.inr (.inr (.inr rfl))) (State.bump_only h2 h2 h)

/-- The learn events of a tick: the addresses of the table's registers stay, and the time. -/
theorem learnDrain_only {β : Type} {E : State → β} (hE : ∀ (u : State) n, E { u with net := n } = E u) (s : State) :
    Only BrRegs E s (learnDrain s) := by
  refine Only.each (fun _ _ u hu => ?_) (.refl s)
  split
  · exact hu
  · exact .ite hu (brLearn_only (fun _ _ => hE _ _) (hu.update rfl (hE { u with regs := [] } _)))

theorem learnDrain_tblMac (s : State) : tblMac (learnDrain s) = tblMac s := by
  have h := learnDrain_only (E := fun _ => ()) (fun _ _ => rfl) s
  rw [tblMac, h.fld (by decide), h.fld (by decide), tblMac]

theorem learnDrain_now (s : State) : instant (learnDrain s).tick (learnDrain s).cyc = instant s.tick s.cyc := by
  rw [(learnDrain_only (E := State.tick) (fun _ _ => rfl) s).same fun _ => rfl, (learnDrain_only (E := State.cyc) (fun _ _ => rfl) s).same fun _ => rfl]

/-! The table commands (R444). -/

/-- A step of the search for the entry refreshed longest ago. -/
def brOlder (m : Option BrEnt) (x : BrEnt) : Option BrEnt :=
  match m with
  | none => some x
  | some y => if x.tr < y.tr then some x else some y

theorem brOldest_eq (es : List BrEnt) : brOldest es = es.foldl brOlder none := rfl

theorem brOlder_some (es : List BrEnt) (y : BrEnt) : ∃ z ∈ y :: es, es.foldl brOlder (some y) = some z := by
  induction es generalizing y with
  | nil => exact ⟨y, List.mem_singleton_self y, rfl⟩
  | cons a t ih =>
    rw [List.foldl_cons, brOlder]
    split
    · obtain ⟨z, hz, e⟩ := ih a
      exact ⟨z, List.mem_cons_of_mem _ hz, e⟩
    · obtain ⟨z, hz, e⟩ := ih y
      refine ⟨z, ?_, e⟩
      obtain rfl | h := List.mem_cons.mp hz
      · exact List.mem_cons_self
      · exact List.mem_cons_of_mem _ (List.mem_cons_of_mem _ h)

/-- Among entries there is an oldest one. -/
theorem brOldest_mem {es : List BrEnt} (h : es ≠ []) : ∃ z ∈ es, brOldest es = some z := by
  cases es with
  | nil => exact absurd rfl h
  | cons a t => exact brOlder_some t a

theorem tblResult_net (hit static : Bool) (port : Nat) (err : Bool) (age : Nat) (s : State) : (tblResult hit static port err age s).net = s.net :=
  State.post_net ..

/-- What the result register of the table shows. -/
theorem tblResult_shows (hit static : Bool) {port : Nat} (err : Bool) (age : Nat) (s : State) (hp : port < 8) :
    (tblResult hit static port err age s).fld F.NET_TBL_RES_HIT = hit.toNat ∧
    (tblResult hit static port err age s).fld F.NET_TBL_RES_STATIC = static.toNat ∧
    (tblResult hit static port err age s).fld F.NET_TBL_RES_PORT = port ∧
    (tblResult hit static port err age s).fld F.NET_TBL_RES_ERR = err.toNat ∧
    (tblResult hit static port err age s).fld F.NET_TBL_RES_AGE_S = min 65535 age := by
  have hlow (hi lo : Nat) (h : hi < 23) : (tblResult hit static port err age s).fld ⟨Adr.NET_TBL_RES, hi, lo⟩ = _ :=
    State.fld_post_low Adr.NET_TBL_RES _ lo h s
  refine ⟨(hlow 22 22 (by decide)).trans ?_, (hlow 21 21 (by decide)).trans ?_, (hlow 20 18 (by decide)).trans ?_,
    (hlow 17 17 (by decide)).trans ?_, (hlow 15 0 (by decide)).trans ?_⟩
  all_goals
    rw [Word.bits, BitVec.toNat_ofNat, Nat.shiftRight_eq_div_pow]
    cases hit <;> cases static <;> cases err <;> simp only [if_true, if_false, Bool.false_eq_true, Bool.toNat, cond_true, cond_false] <;> omega

theorem tblLookup_hit {e : BrEnt} (h : brFind (tblMac s) s = some e) :
    tblLookup s = tblResult true e.static e.port false ((instant s.tick s.cyc - e.tr) / (192000 * 5120)) s := by
  rw [tblLookup, h]

theorem tblLookup_miss (h : brFind (tblMac s) s = none) : tblLookup s = tblResult false false 0 false 0 s := by rw [tblLookup, h]

/-- A static entry found, or added where there is room: it is the one its address now has. -/
theorem tblAdd_shows {port : Nat} (hp : port < 8) (h : (brFind (tblMac s) s).isSome = true ∨ (brBucket (tblMac s) s).length < 4 ∨
      (brBucket (tblMac s) s).all (·.static) = false) :
    brFind (tblMac s) (tblAdd port s) = some ⟨tblMac s, port, true, instant s.tick s.cyc, instant s.tick s.cyc⟩ ∧
    (tblAdd port s).fld F.NET_TBL_RES_ERR = 0 := by
  have hok (es : List BrEnt)
      (hes : es.find? (fun e => e.mac == tblMac s) = some ⟨tblMac s, port, true, instant s.tick s.cyc, instant s.tick s.cyc⟩) :
      brFind (tblMac s) (tblResult false true port false 0 (brPut (macBin (tblMac s)) es s)) =
        some ⟨tblMac s, port, true, instant s.tick s.cyc, instant s.tick s.cyc⟩ ∧
      (tblResult false true port false 0 (brPut (macBin (tblMac s)) es s)).fld F.NET_TBL_RES_ERR = 0 := by
    refine ⟨?_, (tblResult_shows false true false 0 _ hp).2.2.2.1⟩
    rw [brFind_congr (tblResult_net ..), brFind, brPut_bucket, hes]
  unfold tblAdd
  dsimp only
  split
  next e hf =>
    refine hok _ (find_exchanged ?_ hf)
    rfl
  next hf =>
    split
    · refine hok _ (find_appended ?_ hf)
      rfl
    next hl =>
      have hall : (brBucket (tblMac s) s).all (·.static) = false := by
        obtain h | h | h := h
        · rw [brFind, hf] at h; cases h
        · exact absurd h hl
        · exact h
      have hne : (brBucket (tblMac s) s).filter (fun e => !e.static) ≠ [] := by
        obtain ⟨z, hz, hs⟩ := List.all_eq_false.mp hall
        exact List.ne_nil_of_mem (List.mem_filter.mpr ⟨hz, by simpa using hs⟩)
      obtain ⟨z, hz, hold⟩ := brOldest_mem hne
      rw [hold]
      refine hok _ (find_displaced ?_ (List.mem_filter.mp hz).1 hf)
      rfl

/-- A bucket full of static entries takes no other. -/
theorem tblAdd_full {port : Nat} (hf : brFind (tblMac s) s = none) (hl : 4 ≤ (brBucket (tblMac s) s).length)
    (ha : (brBucket (tblMac s) s).all (·.static) = true) : tblAdd port s = tblResult false false 0 true 0 s := by
  have hfind : (brBucket (tblMac s) s).find? (fun e => e.mac == tblMac s) = none := hf
  have hnil : (brBucket (tblMac s) s).filter (fun e => !e.static) = [] := by
    rw [List.filter_eq_nil_iff]
    intro x hx
    simpa using List.all_eq_true.mp ha x hx
  unfold tblAdd
  dsimp only
  rw [hfind]
  dsimp only
  rw [if_neg (by omega), hnil]
  rfl

theorem tblDelete_hit {e : BrEnt} (h : brFind (tblMac s) s = some e) : tblDelete s =
    tblResult true e.static e.port false 0 (brPut (macBin (tblMac s)) ((brBucket (tblMac s) s).erase e) s) := by
  rw [tblDelete, h]

/-- What a flush leaves in the table. -/
theorem tblFlush_find {port : Option Nat} {mac : Nat} {e : BrEnt} (h : brFind mac (tblFlush port s) = some e) :
    e.static = true ∨ ∃ p, port = some p ∧ e.port ≠ p := by
  rw [tblFlush, brFind_congr (tblResult_net ..)] at h
  have hd := brDrop_find h
  cases port with
  | none => exact .inl (by simpa using hd)
  | some p =>
    by_cases hs : e.static = true
    · exact .inl hs
    · exact .inr ⟨p, rfl, by simpa [hs] using hd⟩

end

end Sys2Proof.Machine

/-!
The Ethernet ports (R421-R440): what a frame discarded, a link lost and a verification leave alone.
-/

namespace Sys2Proof.Machine

section

variable {s : State} {p q : Nat}

@[simp] theorem State.prt_setPrt (p : Nat) (x : PortSt) (s : State) : (s.setPrt p x).prt p = x := SMap.get_set_same ..

@[simp] theorem State.fld_setPrt (p : Nat) (x : PortSt) (f : Fld) (s : State) : (s.setPrt p x).fld f = s.fld f := rfl

@[simp] theorem State.on_setPrt (p : Nat) (x : PortSt) (f : Fld) (s : State) : (s.setPrt p x).on f = s.on f := rfl

theorem State.prt_congr {t : State} (h : t.net = s.net) (p : Nat) : t.prt p = s.prt p := by rw [State.prt, h, State.prt]

/-- Settings of preemption and the frames to discard are all that changes: neither the table nor the frames in flight. -/
def HidesVerify {β : Type} (p : Nat) (E : State → β) : Prop :=
  ∀ (u : State) (x : PortSt), x.tx = (u.prt p).tx → x.held = (u.prt p).held → E (u.setPrt p x) = E u

/-- The registers in which a port's frames can show when they are lost: its status and drops, the queues'. -/
structure LoseRegs (p : Nat) (ws : Nat → Prop) : Prop where
  stat : ws (Adr.PORT_STAT p)
  drop : ws (Adr.PORT_CNT5 p)
  int : ws (Pg.qmg * 4096 + 16)
  queues : ∀ a, 0x1000000 ≤ a → ws a

section

variable {β : Type} {ws : Nat → Prop} {E : State → β} {s0 : State} (hP : HidesVerify p E)

include hP

theorem HidesVerify.only {x : PortSt} (h : Only ws E s0 s) (ht : x.tx = (s.prt p).tx) (hh : x.held = (s.prt p).held) :
    Only ws E s0 (s.setPrt p x) :=
  h.update rfl (hP { s with regs := [] } x ht hh)

theorem portVerify_onlyStat (hs : ws (Adr.PORT_STAT p)) (h : Only ws E s0 s) : Only ws E s0 (portVerify p s) := by
  have h1 := hP.only (x := { s.prt p with verifies := 0, verAt := s.tick, mps := [] }) h rfl rfl
  unfold portVerify
  exact .ite (State.setFld_only hs (State.setFld_only hs h1)) (.ite (State.setFld_only hs (State.setFld_only hs h1))
    (State.setFld_only hs (State.setFld_only hs h1)))

theorem prePress_onlyStat (hs : ws (Adr.PORT_STAT p)) (h : Only ws E s0 s) : Only ws E s0 (prePress p s) := by
  unfold prePress
  exact .ite h (.when (fun _ h => portVerify_onlyStat hP hs h) (hP.only h rfl rfl))

theorem netDiscard_onlyPurge (hQ : HidesQmg E) (hi : ws (Pg.qmg * 4096 + 16)) (hq : ∀ a, 0x1000000 ≤ a → ws a) (h : Only ws E s0 s) :
    Only ws E s0 (netDiscard p q s) := by
  unfold netDiscard
  split
  · exact h
  · exact .ite (qPass_onlyCells (fun u _ _ _ _ _ => hQ u _) (hq _ (by rw [Adr.QMG_QSTAT]; omega)) hi h) (hP.only h rfl rfl)

theorem txDrop_onlyPurge {t : Option TxFrame} (hQ : HidesQmg E) (hi : ws (Pg.qmg * 4096 + 16)) (hq : ∀ a, 0x1000000 ≤ a → ws a)
    (h : Only ws E s0 s) : Only ws E s0 (txDrop p t s) := by
  unfold txDrop
  split
  · exact .when (fun _ h => netDiscard_onlyPurge hP hQ hi hq h) h
  · exact h

theorem portLose_onlyLost (hQ : HidesQmg E) (hw : LoseRegs p ws) (h : Only ws E s0 (s.setPrt p { s.prt p with tx := none, held := none })) :
    Only ws E s0 (portLose p s) := by
  unfold portLose
  exact prePress_onlyStat hP hw.stat (State.bumpBy_only hw.drop hw.drop (State.setFld_only hw.stat
    (txDrop_onlyPurge hP hQ hw.int hw.queues (txDrop_onlyPurge hP hQ hw.int hw.queues h))))

end

theorem hidesVerify_flt : HidesVerify p State.flt := fun _ _ _ _ => rfl
theorem hidesVerify_table : HidesVerify p (fun u => u.net.table) := fun _ _ _ _ => rfl
theorem hidesVerify_tx : HidesVerify p (fun u => (u.prt p).tx) := fun _ _ h _ => (congrArg PortSt.tx (State.prt_setPrt ..)).trans h
theorem hidesVerify_held : HidesVerify p (fun u => (u.prt p).held) := fun _ _ _ h => (congrArg PortSt.held (State.prt_setPrt ..)).trans h

/-- The least registers of `LoseRegs`. -/
abbrev LostIn (p a : Nat) : Prop := a = Adr.PORT_STAT p ∨ a = Adr.PORT_CNT5 p ∨ a = Pg.qmg * 4096 + 16 ∨ 0x1000000 ≤ a

theorem lostIn_regs (p : Nat) : LoseRegs p (LostIn p) := ⟨.inl rfl, .inr (.inl rfl), .inr (.inr (.inl rfl)), fun _ h => .inr (.inr (.inr h))⟩

/-- A field of the port's status that verification does not write. -/
theorem portVerify_fld {f : Fld} (h1 : (F.PORT_STAT_PRE_ACT p).Apart f) (h2 : (F.PORT_STAT_VSTATE p).Apart f) :
    (portVerify p s).fld f = s.fld f := by
  unfold portVerify
  dsimp only
  split
  · rw [State.fld_setFld_off _ _ h2, State.fld_setFld_off _ _ h1, State.fld_setPrt]
  · split <;> rw [State.fld_setFld_off _ _ h2, State.fld_setFld_off _ _ h1, State.fld_setPrt]

theorem prePress_fld {f : Fld} (h1 : (F.PORT_STAT_PRE_ACT p).Apart f) (h2 : (F.PORT_STAT_VSTATE p).Apart f) :
    (prePress p s).fld f = s.fld f := by
  unfold prePress
  dsimp only
  split
  · rfl
  · exact State.when_keeps (·.fld f) (portVerify_fld h1 h2)

theorem State.fld_bumpBy_elsewhere {n : Nat} {cnt sat f : Fld} (hc : f.addr ≠ cnt.addr) (hs : sat.addr = cnt.addr) :
    (s.bumpBy n cnt sat).fld f = s.fld f :=
  (State.bumpBy_only (ws := (· = cnt.addr)) (E := fun _ => ()) rfl hs (.refl s)).fld hc

/-- A field of the port's status that is neither HOLD nor one of verification. -/
theorem portLose_stat {f : Fld} (hf : f.addr = Adr.PORT_STAT p) (hp : p < 5) (h1 : (F.PORT_STAT_PRE_ACT p).Apart f)
    (h2 : (F.PORT_STAT_VSTATE p).Apart f) (h3 : (F.PORT_STAT_HOLD p).Apart f) : (portLose p s).fld f = s.fld f := by
  have hdrop (t : Option TxFrame) (u : State) : (txDrop p t u).fld f = u.fld f :=
    (txDrop_onlyPurge (p := p) (ws := fun a => a = Pg.qmg * 4096 + 16 ∨ 0x1000000 ≤ a) (E := fun _ => ()) (fun _ _ _ _ => rfl) (fun _ _ => rfl)
      (.inl rfl) (fun _ h => .inr h) (.refl u)).fld (by rw [hf]; simp only [Adr.PORT_STAT, Pg.qmg]; omega)
  have hc : f.addr ≠ (F.PORT_CNT5_TX_DOWN_DROP p).addr := by rw [hf]; simp only [Adr.PORT_STAT, F.PORT_CNT5_TX_DOWN_DROP, Adr.PORT_CNT5]; omega
  unfold portLose
  rw [prePress_fld h1 h2, State.fld_bumpBy_elsewhere (sat := F.PORT_CNT5_TX_DOWN_DROP_SAT p) hc rfl, State.fld_setFld_off _ _ h3, hdrop, hdrop, State.fld_setPrt]

/-- A port that lost its frames sends none, and holds none back. -/
theorem portLose_flight : ((portLose p s).prt p).tx = none ∧ ((portLose p s).prt p).held = none := by
  refine ⟨((portLose_onlyLost hidesVerify_tx (fun _ _ => rfl) (lostIn_regs p) (.refl _)).same fun _ => rfl).trans ?_,
    ((portLose_onlyLost hidesVerify_held (fun _ _ => rfl) (lostIn_regs p) (.refl _)).same fun _ => rfl).trans ?_⟩
  all_goals rw [State.prt_setPrt]

theorem portLose_flt : (portLose p s).flt = s.flt :=
  (portLose_onlyLost (p := p) hidesVerify_flt (fun _ _ => rfl) (lostIn_regs p) (.refl _)).same fun _ => rfl

theorem portLose_fld {f : Fld} (h : ¬ LostIn p f.addr) : (portLose p s).fld f = s.fld f :=
  (portLose_onlyLost (p := p) (E := fun _ => ()) (fun _ _ _ _ => rfl) (fun _ _ => rfl) (lostIn_regs p)
    (.update (.refl s) rfl rfl)).fld h

/-! A link up and down (R421, R437). -/

theorem raised_port_int {p k : Nat} (hp : p < 5) : ¬ LostIn p (F.pgInt (Pg.port p) k).addr := by
  simp only [LostIn, F.pgInt, Adr.PORT_STAT, Adr.PORT_CNT5, Pg.port, Pg.qmg]
  omega

theorem brDrop_fld {f : BrEnt → Bool} {g : Fld} (h : g.addr ≠ Adr.NET_BR_STAT) : (brDrop f s).fld g = s.fld g :=
  (brDrop_onlyStat (E := fun _ => ()) (fun _ _ => rfl) (.refl s)).fld h

theorem brDrop_same {β : Type} (E : State → β) (f : BrEnt → Bool) (hE : ∀ (u : State) m, E { u with net := { u.net with table := m } } = E u)
    (hr : ∀ u : State, E { u with regs := [] } = E u) : E (brDrop f s) = E s :=
  (brDrop_onlyStat hE (.refl s)).same hr

theorem portVerify_same {β : Type} {E : State → β} (hP : HidesVerify p E) (hr : ∀ u : State, E { u with regs := [] } = E u) :
    E (portVerify p s) = E s :=
  (portVerify_onlyStat (ws := fun _ => True) hP trivial (.refl s)).same hr

/-- What a link that was up leaves when it goes down (R437). -/
theorem portLinkDown_lost (hp : p < 4) (hl : s.on (F.PORT_STAT_LINK p) = true) :
    (portLinkDown p s).fld (F.PORT_STAT_LINK p) = 0 ∧ ((portLinkDown p s).prt p).tx = none ∧ ((portLinkDown p s).prt p).held = none ∧
    (portLinkDown p s).fld (F.pgInt (Pg.port p) 0) = 1 ∧ Reported s (portLinkDown p s) 0x7841 p 0 ∧
    ∀ mac e, brFind mac (portLinkDown p s) = some e → e.static = true ∨ e.port ≠ p := by
  have hint : Adr.PORT_STAT p ≠ Pg.port p * 4096 + 16 := by simp only [Adr.PORT_STAT, Pg.port]; omega
  unfold portLinkDown
  rw [hl, Bool.not_true, if_neg (by decide)]
  dsimp only
  generalize hu : ((s.setFld (F.PORT_STAT_LINK p) 0).report 0x7841 p 0).raise (Pg.port p) 0 = u
  have hlink : u.fld (F.PORT_STAT_LINK p) = 0 := by
    rw [← hu, State.fld_raise_off _ (.inr (.inr hint)), State.report_fld, State.fld_setFld_zero _ (of_decide_eq_true rfl)]
  have hintu : u.fld (F.pgInt (Pg.port p) 0) = 1 := by rw [← hu, State.fld_raise_self _ (by decide)]
  have hflt : u.flt.reports = s.flt.reports ++ [⟨0x7841, p, 0, 0⟩] := by
    rw [← hu, State.raise_flt]
    exact State.report_reported (State.setFld_flt ..)
  have hdrop := portLose_flight (s := u) (p := p)
  refine ⟨?_, ?_, ?_, ?_, ?_, fun mac e he => ?_⟩
  · rw [portVerify_fld (Fld.apart_sure rfl) (Fld.apart_sure rfl), brDrop_fld (by simp only [F.PORT_STAT_LINK, Adr.PORT_STAT, Adr.NET_BR_STAT]; omega),
      portLose_stat rfl (by omega) (Fld.apart_sure rfl) (Fld.apart_sure rfl) (Fld.apart_sure rfl), hlink]
  · refine (portVerify_same hidesVerify_tx fun _ => rfl).trans (.trans ?_ hdrop.1)
    exact brDrop_same (fun v => (v.prt p).tx) _ (fun _ _ => rfl) fun _ => rfl
  · refine (portVerify_same hidesVerify_held fun _ => rfl).trans (.trans ?_ hdrop.2)
    exact brDrop_same (fun v => (v.prt p).held) _ (fun _ _ => rfl) fun _ => rfl
  · rw [portVerify_fld (.inr (.inr hint.symm)) (.inr (.inr hint.symm)), brDrop_fld (by simp only [F.pgInt, Pg.port, Adr.NET_BR_STAT]; omega),
      portLose_fld (raised_port_int (by omega)), hintu]
  · refine .trans (congrArg FltSt.reports ?_) hflt
    refine (portVerify_same hidesVerify_flt fun _ => rfl).trans (.trans ?_ (portLose_flt (p := p)))
    exact brDrop_same State.flt _ (fun _ _ => rfl) fun _ => rfl
  · have htable := portVerify_same (p := p) (s := brDrop (fun e => !e.static && e.port == p) (portLose p u)) hidesVerify_table fun _ => rfl
    rw [brFind, brBucket, htable] at he
    have := brDrop_find he
    cases h : e.static
    · exact .inr (by simpa [h] using this)
    · exact .inl rfl

/-- A link that comes up shows its speed (R421). -/
theorem portLinkUp_shows {speed : Nat} {half : Bool} (hp : p < 4) (hm : s.fld (F.PORT_CFG_MODE p) ≠ 0) (hi : portIso p s = false)
    (hpll : pllLocked 3 s = true) (hv : s.on F.PWR_STATUS_VSER_OK = true) (hl : s.on (F.PORT_STAT_LINK p) = false) :
    portLinkUp p speed half s =
      if s.fld (F.PORT_CFG_MODE p) = 1 ∧ half then s.setFld (F.PORT_STAT_DUPLEX_ERR p) 1
      else portVerify p (((((s.setFld (F.PORT_STAT_LINK p) 1).setFld (F.PORT_STAT_SPEED p)
        (if s.fld (F.PORT_CFG_MODE p) = 1 then speed % 3 else s.fld (F.PORT_CFG_MODE p))).setFld (F.PORT_STAT_DUPLEX_ERR p) 0).raise (Pg.port p) 0)) := by
  unfold portLinkUp
  dsimp only
  rw [if_neg ?_]
  rw [hi, hpll, hv, hl, decide_eq_false (by omega), beq_eq_false_iff_ne.mpr hm]
  decide

/-! The 10BASE-T1S port (R438-R440). -/

theorem t1sJabber_shows (hj : s.on (F.PORT_STAT_JABBER 4) = false) (hm : s.fld (F.PORT_CFG_MODE 4) = 1) :
    (t1sJabber s).fld (F.PORT_STAT_JABBER 4) = 1 ∧ ((t1sJabber s).prt 4).tx = none ∧ (t1sJabber s).fld (F.pgInt (Pg.port 4) 5) = 1 ∧
    Reported s (t1sJabber s) 0x7846 4 0 := by
  unfold t1sJabber
  rw [if_neg (by rw [hj, hm]; decide)]
  generalize hu : ((s.setFld (F.PORT_STAT_JABBER 4) 1).report 0x7846 4 0).raise (Pg.port 4) 5 = u
  refine ⟨?_, portLose_flight.1, ?_, ?_⟩
  · rw [portLose_stat rfl (by decide) (by decide) (by decide) (by decide), ← hu, State.fld_raise_off _ (by decide), State.report_fld,
      State.fld_setFld_one _ (by decide)]
  · rw [portLose_fld (raised_port_int (by decide)), ← hu, State.fld_raise_self _ (by decide)]
  · rw [Reported, portLose_flt, ← hu, State.raise_flt]
    exact State.report_reported (State.setFld_flt ..)

/-- A discarded frame in flight leaves the port's registers. -/
theorem txDrop_fld {t : Option TxFrame} {f : Fld} (h1 : f.addr < 0x1000000) (h2 : f.addr ≠ Pg.qmg * 4096 + 16) : (txDrop p t s).fld f = s.fld f :=
  (txDrop_onlyPurge (p := p) (ws := fun a => a = Pg.qmg * 4096 + 16 ∨ 0x1000000 ≤ a) (E := fun _ => ()) (fun _ _ _ _ => rfl) (fun _ _ => rfl)
    (.inl rfl) (fun _ h => .inr h) (.refl s)).fld (by omega)

theorem txDrop_same {β : Type} {E : State → β} {t : Option TxFrame} (hP : HidesVerify p E) (hQ : HidesQmg E)
    (hr : ∀ u : State, E { u with regs := [] } = E u) : E (txDrop p t s) = E s :=
  (txDrop_onlyPurge (ws := fun _ => True) hP hQ trivial (fun _ _ => trivial) (.refl s)).same hr

/-- A collision as T1S0 counts it. -/
def collided (late : Bool) (s : State) : State :=
  (s.bump (F.PORT_CNT6_COLL 4) (F.PORT_CNT6_COLL_SAT 4)).when late (State.bump (F.PORT_CNT6_LATE_COLL 4) (F.PORT_CNT6_LATE_COLL_SAT 4))

theorem collided_counts (late : Bool) (s : State) :
    Counted s (collided late s) (F.PORT_CNT6_COLL 4) ∧ (late = true → Counted s (collided late s) (F.PORT_CNT6_LATE_COLL 4)) := by
  refine ⟨?_, fun h => ?_⟩
  · rw [Counted, collided, State.when_keeps (·.fld (F.PORT_CNT6_COLL 4)) (State.fld_bump_off _ (of_decide_eq_true rfl) (of_decide_eq_true rfl)),
      State.fld_bump_counter _ (of_decide_eq_true rfl) (of_decide_eq_true rfl) (of_decide_eq_true rfl)]
  · rw [Counted, collided, h, State.when_true, State.fld_bump_counter _ (of_decide_eq_true rfl) (of_decide_eq_true rfl) (of_decide_eq_true rfl),
      State.fld_bump_off _ (of_decide_eq_true rfl) (of_decide_eq_true rfl)]

theorem collided_fld {late : Bool} {f : Fld} (h : f.addr ≠ Adr.PORT_CNT6 4) : (collided late s).fld f = s.fld f := by
  rw [collided, State.when_keeps (·.fld f) (State.fld_bump_off _ (.inr (.inr h)) (.inr (.inr h))), State.fld_bump_off _ (.inr (.inr h)) (.inr (.inr h))]

/-- EXP_MASK has a bit for each of the eight classes. -/
theorem netExpress_class {c : Nat} (h : netExpress c s = true) : c < 8 := by
  refine Nat.lt_of_not_le fun hc => ?_
  have hlt : s.fld F.NET_CLASS_EXP_MASK < 2 ^ c := Nat.lt_of_lt_of_le (s.fld_lt F.NET_CLASS_EXP_MASK) (Nat.pow_le_pow_right (by decide) hc)
  rw [netExpress, Nat.div_eq_of_lt hlt] at h
  exact absurd h (by decide)

section

variable {f : TxFrame} {late : Bool} (htx : (s.prt 4).tx = some f) (hb : f.back = none)

include htx hb

/-- A frame that collided is sent again after its back-off (R438). -/
theorem t1sCollision_again (ha : f.att < 15) : t1sCollision late s = (collided late s).setPrt 4 { s.prt 4 with
    lfsr := lfsrNext (s.prt 4).lfsr
    tx := some { f with
      att := f.att + 1
      back := some (instant s.tick s.cyc + bitTimes (32 + 512 * ((lfsrNext (s.prt 4).lfsr).toNat % 2 ^ min (f.att + 1) 10))) } } := by
  have htick : (collided late s).tick = s.tick := (State.when_keeps State.tick (State.bump_tick ..)).trans (State.bump_tick ..)
  have hcyc : (collided late s).cyc = s.cyc := (State.when_keeps State.cyc (State.bump_cyc ..)).trans (State.bump_cyc ..)
  unfold t1sCollision
  dsimp only
  rw [htx]
  dsimp only
  rw [hb, if_neg (by decide), if_neg (by rw [decide_eq_false (by omega), Bool.false_and]; decide)]
  rw [← collided, htick, hcyc]

/-- After 16 collisions it is given up, unless a deadline keeps it (R438). -/
theorem t1sCollision_excess (ha : 15 ≤ f.att) (hk : netExpress f.cls s = false ∨ s.fld (F.PORT_EQ_DEADLINE 4 f.cls) = 0) :
    t1sCollision late s = (txDrop 4 (some f) ((collided late s).setPrt 4 { s.prt 4 with tx := none })).bump (F.PORT_CNT7_EXCESS 4)
      (F.PORT_CNT7_EXCESS_SAT 4) := by
  have hkeep : (netExpress f.cls (collided late s) && (collided late s).fld (F.PORT_EQ_DEADLINE 4 f.cls) != 0) = false := by
    rw [netExpress, collided_fld (by decide), ← netExpress]
    cases he : netExpress f.cls s
    · rfl
    · have hcls := netExpress_class he
      have hdl : s.fld (F.PORT_EQ_DEADLINE 4 f.cls) = 0 := hk.resolve_left (by rw [he]; decide)
      rw [collided_fld (by simp only [F.PORT_EQ_DEADLINE, Adr.PORT_EQ, Adr.PORT_CNT6]; omega), hdl]
      rfl
  unfold t1sCollision
  dsimp only
  rw [htx]
  dsimp only
  rw [hb, if_neg (by decide), ← collided, hkeep, if_pos (by rw [decide_eq_true (by omega)]; decide)]

end

/-- A frame past its deadline is counted (R436). -/
theorem portCountLate_counts (p : Nat) (s : State) : Counted s (portCountLate p s) (F.PORT_CNT5_TX_LATE p) := by
  unfold portCountLate
  dsimp only
  rw [Counted, State.when_keeps (·.fld (F.PORT_CNT5_TX_LATE p)) (State.report_fld ..),
    State.fld_raise_other _ (by simp only [F.PORT_CNT5_TX_LATE, Adr.PORT_CNT5, Pg.port]; omega), State.fld_setPrt,
    State.fld_bump_counter _ (of_decide_eq_true rfl) (of_decide_eq_true rfl) (Fld.apart_sure rfl)]

theorem portCountLate_tx (p : Nat) (s : State) : ((portCountLate p s).prt p).tx = (s.prt p).tx := by
  unfold portCountLate
  dsimp only
  rw [State.when_keeps (fun u => (u.prt p).tx) rfl, State.prt_congr (State.raise_net ..), State.prt_setPrt]

end

end Sys2Proof.Machine

/-!
Frames received (R422-R431): what a frame dropped, a bad frame and a frame for the part itself do.
-/

namespace Sys2Proof.Machine

section

variable {s : State} {p : Nat} {w : EthIn}

theorem State.eachOf_same {α : Type} {l : List α} {f : α → State → State} (h : ∀ k ∈ l, f k s = s) : s.eachOf l f = s := by
  induction l with
  | nil => rfl
  | cons a t ih =>
    rw [State.eachOf, List.foldl_cons, h a List.mem_cons_self]
    exact ih fun k hk => h k (List.mem_cons_of_mem _ hk)

/-- A frame dropped for want of room, or from before a press of the port's MODE (R424, R445). -/
theorem netDrop_shows (p : Nat) (s : State) {t : State}
    (ht : t = (s.bump (F.PORT_CNT2_RX_FIFO_DROP p) (F.PORT_CNT2_RX_FIFO_DROP_SAT p)).raise (Pg.port p) 3) :
    Counted s t (F.PORT_CNT2_RX_FIFO_DROP p) ∧ t.fld (F.pgInt (Pg.port p) 3) = 1 ∧ t.qmg = s.qmg ∧ t.net = s.net := by
  subst ht
  refine ⟨State.counted_raise ⟨of_decide_eq_true rfl, of_decide_eq_true rfl, Fld.apart_sure rfl⟩ ?_, State.fld_raise_self _ (by decide), ?_, ?_⟩
  · simp only [F.PORT_CNT2_RX_FIFO_DROP, Adr.PORT_CNT2, Pg.port]
    omega
  · rw [State.raise_qmg, State.bump_qmg]
  · rw [State.raise_net, State.bump_net]

theorem netReceive_stale (h : rxStamp w s < 5120 * (s.prt p).modeAt) : netReceive p w s =
    ((s.land w.cyc).bump (F.PORT_CNT2_RX_FIFO_DROP p) (F.PORT_CNT2_RX_FIFO_DROP_SAT p)).raise (Pg.port p) 3 := by
  unfold netReceive
  exact if_pos h

section

variable (ht : NetTakes p w s)

include ht

/-- The port that takes a frame is up and in use. -/
theorem NetTakes.ready : ¬ (!portUp p (s.land w.cyc) || (s.land w.cyc).fld (F.PORT_CFG_MODE p) == 0 ||
    (rxCfg w s).fld (F.PORT_CFG_FWD p) == 0) = true := by
  obtain ⟨-, hup, hcfg, hfwd, -, -⟩ := ht
  rw [show portUp p (s.land w.cyc) = true from hup, beq_eq_false_iff_ne.mpr (show (s.land w.cyc).fld (F.PORT_CFG_MODE p) ≠ 0 from hcfg),
    beq_eq_false_iff_ne.mpr hfwd]
  decide

theorem NetTakes.whole : ¬ w.mp ≠ 0 ∧ ¬ (!w.mergeOk) = true := by
  obtain ⟨-, -, -, -, hmp, hmerge⟩ := ht
  exact ⟨fun k => k hmp, by rw [hmerge]; decide⟩

theorem netReceive_runt (hn : w.bytes.length + 4 < 64) :
    netReceive p w s = (s.land w.cyc).bump (F.PORT_CNT1_RX_RUNT p) (F.PORT_CNT1_RX_RUNT_SAT p) := by
  unfold netReceive
  exact (if_neg (Nat.not_lt.mpr ht.1)).trans ((if_neg ht.ready).trans ((if_neg ht.whole.1).trans ((if_neg ht.whole.2).trans (if_pos hn))))

omit ht in
/-- A length within MAX_LEN, as the receiver tests it at the start delimiter. -/
theorem rx_short (hl : w.bytes.length + 4 ≤ (rxCfg w s).fld (F.PORT_CFG_MAX_LEN p)) :
    decide ((netAsOf (instant (s.land w.cyc).tick (s.land w.cyc).cyc - w.since) (s.land w.cyc)).fld (F.PORT_CFG_MAX_LEN p) <
      w.bytes.length + 4) = false := decide_eq_false (Nat.not_lt.mpr hl)

theorem netReceive_full (hn : 64 ≤ w.bytes.length + 4) (hl : w.bytes.length + 4 ≤ (rxCfg w s).fld (F.PORT_CFG_MAX_LEN p))
    (hf : fifoSize p (rxExpress p w s) s < fifoUsed p (rxExpress p w s) s + w.bytes.length) :
    netReceive p w s = ((s.land w.cyc).bump (F.PORT_CNT2_RX_FIFO_DROP p) (F.PORT_CNT2_RX_FIFO_DROP_SAT p)).raise (Pg.port p) 3 := by
  unfold netReceive
  refine (if_neg (Nat.not_lt.mpr ht.1)).trans ((if_neg ht.ready).trans ((if_neg ht.whole.1).trans ((if_neg ht.whole.2).trans
    ((if_neg (Nat.not_lt.mpr hn)).trans ?_))))
  dsimp only
  rw [rx_short hl, if_neg Bool.false_ne_true]
  exact if_pos hf

/-- The state with a whole frame's checks counted (R423). -/
def rxCounted (p : Nat) (w : EthIn) (s : State) : State :=
  (((s.land w.cyc).when (!w.fifoOk) (State.report 0x4844 p 0)).when (!w.fcsOk)
    (State.bump (F.PORT_CNT0_RX_FCS p) (F.PORT_CNT0_RX_FCS_SAT p))).when (!(!w.fcsOk || !w.fifoOk))
    (netCount p (rxStamp w s) false w.fcsOk w.bytes (rxCfg w s))

section

variable (hf : NetFits p w s)

include hf

theorem netReceive_filtered (h : netTag p w.bytes (rxCfg w s) = none) :
    netReceive p w s = (rxCounted p w s).when (!(!w.fcsOk || !w.fifoOk)) (netFilt p) := by
  obtain ⟨hn, hl, hroom⟩ := hf
  unfold netReceive
  refine (if_neg (Nat.not_lt.mpr ht.1)).trans ((if_neg ht.ready).trans ((if_neg ht.whole.1).trans ((if_neg ht.whole.2).trans
    ((if_neg (Nat.not_lt.mpr hn)).trans ?_))))
  dsimp only
  rw [rx_short hl, if_neg Bool.false_ne_true, Bool.false_or]
  refine (if_neg (Nat.not_lt.mpr hroom)).trans ?_
  rw [show netTag p w.bytes (netAsOf (instant (s.land w.cyc).tick (s.land w.cyc).cyc - w.since) (s.land w.cyc)) = none from h]
  rfl

theorem netReceive_delivered {f : List Byte} (h : netTag p w.bytes (rxCfg w s) = some f) (hw : w.tableOk = true) :
    netReceive p w s = netDeliver p (rxStamp w s) (!w.fcsOk || !w.fifoOk) false f (netAsOf (rxStamp w s) (rxCounted p w s)) (rxCounted p w s) := by
  obtain ⟨hn, hl, hroom⟩ := hf
  unfold netReceive
  refine (if_neg (Nat.not_lt.mpr ht.1)).trans ((if_neg ht.ready).trans ((if_neg ht.whole.1).trans ((if_neg ht.whole.2).trans
    ((if_neg (Nat.not_lt.mpr hn)).trans ?_))))
  dsimp only
  rw [rx_short hl, if_neg Bool.false_ne_true, Bool.false_or]
  refine (if_neg (Nat.not_lt.mpr hroom)).trans ?_
  rw [show netTag p w.bytes (netAsOf (instant (s.land w.cyc).tick (s.land w.cyc).cyc - w.since) (s.land w.cyc)) = some f from h, hw]
  rfl

end

end

/-! A frame that its end shows bad (R423). -/

/-- A bad frame for a queue without cut-through leaves nothing there. -/
theorem netGive_bad {c : RxCopy} {d : RxDest} (h : ∀ q, d = .queue q → s.fld (F.QMG_QCT_CT q) = 0) : netGive p true c d s = s := by
  cases d with
  | queue q =>
    unfold netGive
    dsimp only
    rw [Bool.not_true, if_neg Bool.false_ne_true, if_neg ?_]
    unfold netCut
    dsimp only
    rw [h q rfl]
    exact Bool.false_ne_true
  | gptp => rfl
  | filt => rfl

/-- The ports that a route names are ports of the part. -/
theorem netRoute_ports {da : Nat} {loc : Bool} {l : List Nat} (h : netRoute p da s = some (loc, l)) : ∀ d ∈ l, d < 5 := by
  have hfwd (m : List Nat) : ∀ d ∈ (if s.fld (F.PORT_CFG_FWD p) ≠ 2 then [] else
      m.filter (fun k => decide (k < 5) && k != p && s.fld (F.PORT_CFG_FWD k) == 2)), d < 5 := by
    intro d hd
    split at hd
    · cases hd
    · have := (List.mem_filter.mp hd).2
      simp only [Bool.and_eq_true, decide_eq_true_eq] at this
      exact this.1.1
  unfold netRoute at h
  dsimp only at h
  split at h
  · cases h; simp
  · split at h
    · cases h; simp
    · split at h
      · cases h; exact hfwd _
      · split at h
        · cases h; exact hfwd _
        · split at h
          · split at h
            · cases h
            · cases h; exact hfwd _
          · cases h; exact hfwd _

/-- A bad frame leaves nothing where no queue that it goes to is cut through. -/
theorem netDeliver_bad {stamp : Nat} {f : List Byte} {cf : State} (hl : ∀ q, netLocal p f cf = .queue q → s.fld (F.QMG_QCT_CT q) = 0)
    (hd : ∀ d < 5, ∀ c < 8, s.fld (F.QMG_QCT_CT (cf.fld (F.PORT_EQ_QID d c))) = 0) : netDeliver p stamp true false f cf s = s := by
  unfold netDeliver
  dsimp only
  split
  · rfl
  next loc ports hroute =>
    have hports : s.eachOf ports (fun d s => netGive p true ⟨0, netExpress (netClass (frameNum f 14 2 / 8192) cf) cf, f, false, stamp, 0⟩
        (netForward d (netClass (frameNum f 14 2 / 8192) cf) cf) s) = s := by
      refine State.eachOf_same fun d hdm => netGive_bad fun q hq => ?_
      unfold netForward at hq
      split at hq
      · cases hq
        exact hd d (netRoute_ports hroute d hdm) _ (Nat.mod_lt _ (by decide))
      · cases hq
    rw [hports]
    exact State.when_keeps id (netGive_bad hl)

/-- The words that a frame takes depend on the register's own word and on the words kept from before a press. -/
theorem netAsOf_word {u : State} {stamp a : Nat} (hn : u.net = s.net) (h : u.word a = s.word a) :
    (netAsOf stamp u).word a = (netAsOf stamp s).word a := by
  have hfold (l : List (Nat × Word)) (u v : State) (h : u.word a = v.word a) :
      (l.foldl (fun t w => t.setWord w.1 w.2) u).word a = (l.foldl (fun t w => t.setWord w.1 w.2) v).word a := by
    induction l generalizing u v with
    | nil => exact h
    | cons e t ih =>
      refine ih _ _ ?_
      by_cases he : a = e.1
      · rw [he, State.word_setWord_same, State.word_setWord_same]
      · rw [State.word_setWord_other _ _ he, State.word_setWord_other _ _ he, h]
  unfold netAsOf
  rw [hn]
  split
  · exact hfold _ _ _ h
  · exact h

theorem netLocal_queue {f : List Byte} {cf : State} {q : Nat} (h : netLocal p f cf = .queue q) :
    q = cf.fld F.ZKL_RXQ_RXQ ∨ q = cf.fld (F.PORT_RXQ_RXQ p) := by
  unfold netLocal at h
  dsimp only at h
  split at h
  · split at h
    · cases h; exact .inl rfl
    · cases h
  · split at h
    · cases h
    · split at h
      · cases h; exact .inr rfl
      · cases h

theorem netQueues_rxq {cf : State} (hp : p < 5) : cf.fld (F.PORT_RXQ_RXQ p) ∈ cf.netQueues :=
  List.mem_append_right _ (List.mem_flatMap.mpr ⟨p, List.mem_range.mpr hp, List.mem_cons_self⟩)

theorem netQueues_eq {cf : State} {d c : Nat} (hd : d < 5) (hc : c < 8) : cf.fld (F.PORT_EQ_QID d c) ∈ cf.netQueues :=
  List.mem_append_right _ (List.mem_flatMap.mpr ⟨d, List.mem_range.mpr hd, List.mem_cons_of_mem _ (List.mem_append_left _
    (List.mem_map.mpr ⟨c, List.mem_range.mpr hc, rfl⟩))⟩)

theorem netQueues_zkl {cf : State} : cf.fld F.ZKL_RXQ_RXQ ∈ cf.netQueues := List.mem_append_left _ (List.mem_append_left _ List.mem_cons_self)

/-- What a bad frame of an accepted length leaves: it is counted, or reported, and goes nowhere (R423). -/
theorem netReceive_bad (hp : p < 5) (ht : NetTakes p w s) (hf : NetFits p w s) (hw : w.tableOk = true) (hbad : w.fcsOk = false ∨ w.fifoOk = false)
    (hq : ∀ q ∈ (rxCfg w s).netQueues, s.fld (F.QMG_QCT_CT q) = 0) :
    netReceive p w s = ((s.land w.cyc).when (!w.fifoOk) (State.report 0x4844 p 0)).when (!w.fcsOk)
      (State.bump (F.PORT_CNT0_RX_FCS p) (F.PORT_CNT0_RX_FCS_SAT p)) := by
  have hb : (!w.fcsOk || !w.fifoOk) = true := by obtain h | h := hbad <;> rw [h] <;> simp
  have hcount : rxCounted p w s = ((s.land w.cyc).when (!w.fifoOk) (State.report 0x4844 p 0)).when (!w.fcsOk)
      (State.bump (F.PORT_CNT0_RX_FCS p) (F.PORT_CNT0_RX_FCS_SAT p)) := by
    rw [rxCounted, hb]
    rfl
  have honly : Only (· = Adr.PORT_CNT0 p) State.net (s.land w.cyc) (rxCounted p w s) := by
    rw [hcount]
    exact .when (fun _ h => State.bump_only rfl rfl h) (.when (fun _ h => State.report_only (fun _ _ => rfl) h) (.refl _))
  have hfld {f : Fld} (h : f.addr ≠ Adr.PORT_CNT0 p) : (netAsOf (rxStamp w s) (rxCounted p w s)).fld f = (rxCfg w s).fld f := by
    rw [State.fld, netAsOf_word (honly.same fun _ => rfl) (honly.word _ h), State.fld]
  have hct (q : Nat) : (rxCounted p w s).fld (F.QMG_QCT_CT q) = s.fld (F.QMG_QCT_CT q) :=
    honly.fld (by simp only [F.QMG_QCT_CT, Adr.QMG_QCT, Adr.PORT_CNT0]; omega)
  cases htag : netTag p w.bytes (rxCfg w s) with
  | none => rw [netReceive_filtered ht hf htag, hb, hcount]; rfl
  | some f =>
    rw [netReceive_delivered ht hf htag hw, hb, netDeliver_bad, hcount]
    · intro q h
      obtain rfl | rfl := netLocal_queue h
      · rw [hct, hfld (by simp only [F.ZKL_RXQ_RXQ, Adr.ZKL_RXQ, Adr.PORT_CNT0]; omega)]
        exact hq _ netQueues_zkl
      · rw [hct, hfld (by simp only [F.PORT_RXQ_RXQ, Adr.PORT_RXQ, Adr.PORT_CNT0]; omega)]
        exact hq _ (netQueues_rxq hp)
    · intro d hd c hc
      rw [hct, hfld (by simp only [F.PORT_EQ_QID, Adr.PORT_EQ, Adr.PORT_CNT0]; omega)]
      exact hq _ (netQueues_eq hd hc)

/-! A good frame for the part itself (R428, R429). -/

/-- The type of a frame is the one it had before it was tagged. -/
theorem netTag_type {f b : List Byte} {cf : State} (h : netTag p b cf = some f) (hb : 12 ≤ b.length) :
    frameNum f 16 2 = frameNum b (12 + (if frameNum b 12 2 = 0x8100 then 4 else 0)) 2 := by
  have htype (tag rest : List Byte) (ht : tag.length = 4) : frameNum (b.take 12 ++ tag ++ rest) 16 2 = beNum (rest.take 2) := by
    rw [frameNum, List.drop_left' (by rw [List.length_append, List.length_take, ht, Nat.min_eq_left hb])]
  unfold netTag at h
  dsimp only at h
  split at h
  next hn =>
    rw [if_neg hn]
    split at h
    · cases h
    · cases h
      exact htype _ _ rfl
  next hn =>
    rw [if_pos (Decidable.not_not.mp hn)]
    split at h
    · cases h
    · split at h
      · cases h
        exact htype _ _ rfl
      · split at h
        · cases h
        · cases h
          rfl

/-- A good frame that is no gPTP frame is counted, and nothing else while addresses are not learned. -/
theorem netCount_plain {stamp : Nat} {b : List Byte} {cf : State} (hl : s.on F.NET_BR_CFG_LEARN_EN = false)
    (ht : frameNum b (12 + (if frameNum b 12 2 = 0x8100 then 4 else 0)) 2 ≠ 0x88F7) :
    netCount p stamp false true b cf s = s.bump (F.PORT_CNT0_RX_OK p) (F.PORT_CNT0_RX_OK_SAT p) := by
  have hlearn : (s.bump (F.PORT_CNT0_RX_OK p) (F.PORT_CNT0_RX_OK_SAT p)).on F.NET_BR_CFG_LEARN_EN = false := by
    rw [State.on_bump_off _ ?_ ?_, hl]
    all_goals
      refine .inr (.inr ?_)
      simp only [F.NET_BR_CFG_LEARN_EN, Adr.NET_BR_CFG, F.PORT_CNT0_RX_OK, F.PORT_CNT0_RX_OK_SAT, Adr.PORT_CNT0]
      omega
  unfold netCount
  dsimp only
  rw [if_neg Bool.false_ne_true, hlearn, Bool.false_and, Bool.false_and, Bool.false_and, State.when_false,
    State.when_of_not (beq_eq_false_iff_ne.mpr ht)]

/-- A frame for the part's own address stays in the part. -/
theorem netRoute_own {da : Nat} (h : da = ownMac s) : netRoute p da s = some (true, []) := by
  unfold netRoute
  dsimp only
  rw [if_pos h, ite_self]

/-- A good frame for the part itself goes to the port's receive queue. -/
theorem netDeliver_own {stamp : Nat} {f : List Byte} {cf : State} (hown : frameNum f 0 6 = ownMac cf) (hg : frameNum f 16 2 ≠ 0x88F7)
    (hz : frameNum f 16 2 ≠ cf.fld F.ZKL_ETYPE_ETYPE) (hl : cf.on (F.PORT_RXQ_LOCAL_EN p) = true) :
    netDeliver p stamp false false f cf s =
      netCopy p ⟨cf.fld (F.PORT_RXQ_RXQ p), netExpress (netClass (frameNum f 14 2 / 8192) cf) cf, f, false, stamp, 0⟩ s := by
  have hloc : netLocal p f cf = .queue (cf.fld (F.PORT_RXQ_RXQ p)) := by
    unfold netLocal
    dsimp only
    rw [if_neg hz, if_neg hg, if_pos hl]
  unfold netDeliver
  dsimp only
  rw [netRoute_own hown, hloc]
  rfl

theorem netReceive_own {f : List Byte} (ht : NetTakes p w s) (hf : NetFits p w s) (hfcs : w.fcsOk = true) (hfifo : w.fifoOk = true)
    (hw : w.tableOk = true) (hl : s.on F.NET_BR_CFG_LEARN_EN = false) (htag : netTag p w.bytes (rxCfg w s) = some f) {b c : State}
    (hb : b = (s.land w.cyc).bump (F.PORT_CNT0_RX_OK p) (F.PORT_CNT0_RX_OK_SAT p)) (hc : c = netAsOf (rxStamp w s) b)
    (hown : frameNum f 0 6 = ownMac c) (hg : frameNum f 16 2 ≠ 0x88F7) (hz : frameNum f 16 2 ≠ c.fld F.ZKL_ETYPE_ETYPE)
    (hon : c.on (F.PORT_RXQ_LOCAL_EN p) = true) :
    netReceive p w s = netCopy p ⟨c.fld (F.PORT_RXQ_RXQ p), netExpress (netClass (frameNum f 14 2 / 8192) c) c, f, false, rxStamp w s, 0⟩ b := by
  have hcount : rxCounted p w s = b := by
    rw [rxCounted, hfcs, hfifo, hb]
    refine netCount_plain (s := s.land w.cyc) (show s.on F.NET_BR_CFG_LEARN_EN = false from hl) ?_
    rw [← netTag_type htag (by have := hf.1; omega)]
    exact hg
  rw [netReceive_delivered ht hf htag hw, hcount, hfcs, hfifo, ← hc]
  exact netDeliver_own hown hg hz hon

end

end Sys2Proof.Machine

/-!
Frames that wait, and frames sent (R425, R432-R436).
-/

namespace Sys2Proof.Machine

section

variable {s : State} {p q : Nat}

/-! A copy given up at the waiting limit (R425). -/

theorem qCancel_onlyCells {β : Type} {ws : Nat → Prop} {E : State → β} {s0 : State} {pr : Prod} {stay : Bool} (hE : HidesCells q E)
    (hs : ws (Adr.QMG_QSTAT q)) (hi : ws (Pg.qmg * 4096 + 16)) (h : Only ws E s0 s) : Only ws E s0 (qCancel q pr stay s) := by
  have hcut {u : State} (h : Only ws E s0 u) : Only ws E s0 (qCutThrough q u) := by
    unfold qCutThrough
    refine .ite h ?_
    split
    · unfold qLink
      dsimp only
      split
      · exact h
      · exact hE.setQueue _ h
    · exact h
  unfold qCancel
  dsimp only
  split
  · exact qFree_onlyCells hE hs hi (hE.setQueue _ h)
  · exact .ite (hcut (qSettle_onlyCells hE hs hi (hE.setQueue _ h))) h

theorem netRetry_empty (h : (s.prt p).fifo = []) :
    netRetry p s = s.setPrt p { s.prt p with wait := (s.prt p).wait.filter (fun c => netWaiting p c.q c.express s) } := by
  unfold netRetry
  dsimp only
  rw [h]
  rfl

/-- What is left of a copy given up: nothing waits for its queue, and it is counted. -/
theorem netExpire_due {x : Bool} {c : RxCopy} (hf : (s.prt p).wait.find? (rxSame q x) = some c) (hw : netWaiting p q x s = true)
    (hd : s.fld (F.PORT_CFG_RX_WAIT p) * 98304 ≤ 100 * (instant s.tick s.cyc - c.wait)) (he : (s.prt p).fifo = []) (hp : p < 5) :
    netWaiting p q x (netExpire p q x s) = false ∧ Counted s (netExpire p q x s) (F.PORT_CNT2_RX_WAIT_DROP p) := by
  have hexp : netExpire p q x s = netRetry p (netGiveUp p q x s) := by
    unfold netExpire
    rw [hf]
    dsimp only
    rw [hw, decide_eq_true hd]
    rfl
  have habort {β : Type} {E : State → β} (hE : HidesCells q E) := qCancel_onlyCells (ws := fun a => a = Adr.QMG_QSTAT q ∨ a = Pg.qmg * 4096 + 16)
    (pr := netProd p x) (stay := false) hE (.inl rfl) (.inr rfl) (.refl
      { s.setPrt p { s.prt p with wait := (s.prt p).wait.filter (fun c => !rxSame q x c) } with
        qmg := { s.qmg with waits := s.qmg.waits.filter (fun w => !(w.queue == q && w.prod == netProd p x)) } })
  have hwaits : (netAbort p q x s).qmg.waits = s.qmg.waits.filter (fun w => !(w.queue == q && w.prod == netProd p x)) :=
    (habort (E := fun u => u.qmg.waits) fun _ _ _ _ _ _ => rfl).same fun _ => rfl
  have hfifo : ((netGiveUp p q x s).prt p).fifo = [] := by
    rw [netGiveUp, State.prt_congr (State.bump_net ..)]
    refine ((habort (E := fun u => (u.prt p).fifo) fun _ _ _ _ _ _ => rfl).same fun _ => rfl).trans ?_
    exact (congrArg PortSt.fifo (State.prt_setPrt ..)).trans he
  have hcnt : (netAbort p q x s).fld (F.PORT_CNT2_RX_WAIT_DROP p) = s.fld (F.PORT_CNT2_RX_WAIT_DROP p) :=
    (habort (E := fun _ => ()) fun _ _ _ _ _ _ => rfl).fld (by
      simp only [F.PORT_CNT2_RX_WAIT_DROP, Adr.PORT_CNT2, Adr.QMG_QSTAT, Pg.qmg]
      omega)
  rw [hexp, netRetry_empty hfifo]
  refine ⟨?_, ?_⟩
  · rw [netWaiting, qWaits, show ∀ (u : State) (y : PortSt), (u.setPrt p y).qmg = u.qmg from fun _ _ => rfl, netGiveUp, State.bump_qmg, hwaits,
      List.any_filter]
    refine List.any_eq_false.mpr fun v _ => ?_
    cases v.queue == q && v.prod == netProd p x <;> decide
  · rw [Counted, State.fld_setPrt, netGiveUp, State.fld_bump_counter _ (of_decide_eq_true rfl) (of_decide_eq_true rfl) (Fld.apart_sure rfl), hcnt]

/-! A frame picked and started (R427, R432-R436, R465). -/

theorem portFuel_pos (p : Nat) (s : State) : ∃ k, portFuel p s = k + 1 := by
  have hfold (l : List Nat) (n : Nat) : n ≤ l.foldl (fun n c => n + (s.queue (s.fld (F.PORT_EQ_QID p c))).sigs.length) n := by
    induction l generalizing n with
    | nil => exact Nat.le_refl _
    | cons a t ih => exact Nat.le_trans (Nat.le_add_right ..) (ih _)
  obtain ⟨k, hk⟩ := Nat.exists_eq_add_of_le (hfold (List.range 8) 17)
  exact ⟨16 + k, by rw [portFuel, hk]; omega⟩

theorem netPurge_none (h : (s.prt p).purge.contains q = false) : netPurge p q s = s := by
  unfold netPurge
  dsimp only
  rw [h, if_pos (by simp)]

/-- The head of the queue of class 7, where it may start, is picked. -/
theorem portPick_first {only : Bool} {k : Nat} {g : Sig} (hen : s.on (F.PORT_EQ_EN p 7) = true) (hq : s.fld (F.PORT_EQ_QID p 7) = q)
    (hpurge : (s.prt p).purge.contains q = false) (hh : qHead s q = some g) (htrunc : g.trunc = false) (herr : g.err = false)
    (honly : only = true → netExpress 7 s = true) (hmay : portMay p 7 s = true) (hlate : portLate p 7 (instant g.tick g.cyc) s = false) :
    portPick p only (k + 1) 8 s = (some (7, q, g), s) := by
  have ho : (only && !netExpress 7 s) = false := by
    cases only
    · rfl
    · rw [honly rfl]; rfl
  unfold portPick
  dsimp only
  rw [hen, Bool.not_true, if_neg Bool.false_ne_true, hq, netPurge_none hpurge, hh]
  dsimp only
  rw [if_neg (by rw [hpurge]; decide), htrunc, herr, if_neg (by decide), ho, hmay, if_neg (by decide), hlate, if_neg Bool.false_ne_true]

theorem portCharge_same {β : Type} {E : State → β} {c n : Nat} (hP : HidesVerify p E) : E (portCharge p c n s) = E s := by
  unfold portCharge
  dsimp only
  split
  · rfl
  · exact hP _ _ rfl rfl

theorem tsStamp_net {d k : Nat} {pdu : List Byte} : (tsStamp p d k pdu s).net = s.net := by
  unfold tsStamp
  dsimp only
  refine (State.when_keeps State.net (State.bump_net ..)).trans ?_
  exact (qWriteSig_onlyQueue (ws := fun _ => True) (E := State.net) ⟨trivial, trivial, trivial, trivial⟩ (fun _ _ => rfl) (fun _ _ => rfl)
    (.refl _)).same fun _ => rfl

/-- A picked frame is the one in flight. -/
theorem portBegin_tx (p c q : Nat) (g : Sig) (s : State) : ((portBegin p c q g s).prt p).tx =
    some { cls := c, q := q, bytes := if g.closed then netUntag p (sigBytes g) s else [], cut := !g.closed, stamp := instant g.tick g.cyc } := by
  unfold portBegin
  dsimp only
  rw [State.prt_setPrt]

/-- A frame held back stays so. -/
theorem portBegin_held (p c q : Nat) (g : Sig) (s : State) : ((portBegin p c q g s).prt p).held = (s.prt p).held := by
  have hcharge (n : Nat) : ((portCharge p c n (qPass q s)).prt p).held = (s.prt p).held :=
    (portCharge_same hidesVerify_held).trans (qPass_same (fun u => (u.prt p).held) (fun _ _ _ _ _ _ => rfl) fun _ => rfl)
  unfold portBegin
  dsimp only
  rw [State.prt_setPrt]
  have hif {P : Prop} [Decidable P] {a b : State} (ha : (a.prt p).held = (s.prt p).held) (hb : (b.prt p).held = (s.prt p).held) :
      ((if P then a else b).prt p).held = (s.prt p).held := by split <;> assumption
  have hstart := hif (P := g.closed = true) (hcharge (sentLen (netUntag p (sigBytes g) s).length)) rfl
  refine hif ?_ hstart
  rw [State.prt_congr tsStamp_net]
  exact hstart

theorem portStart_first {g : Sig} (hup : portUp p s = true) (htx : (s.prt p).tx = none) (hheld : (s.prt p).held = none)
    (hhold : s.on (F.PORT_STAT_HOLD p) = false) (hen : s.on (F.PORT_EQ_EN p 7) = true) (hmay : portMay p 7 s = true)
    (hq : s.fld (F.PORT_EQ_QID p 7) = q) (hpurge : (s.prt p).purge.contains q = false) (hh : qHead s q = some g)
    (htrunc : g.trunc = false) (herr : g.err = false) (hlate : portLate p 7 (instant g.tick g.cyc) s = false) :
    portStart p s = portBegin p 7 q g (s.setPrt p { s.prt p with mps := [] }) := by
  obtain ⟨k, hk⟩ := portFuel_pos p s
  have hmay' : portMay p 7 (s.setPrt p { s.prt p with mps := [] }) = true := by
    rw [← hmay, portMay, portMay, portTok, portTok, State.prt_setPrt]
    rfl
  have hpick := portPick_first (only := false) (k := k) (s := s.setPrt p { s.prt p with mps := [] }) hen hq (by rw [State.prt_setPrt]; exact hpurge) hh
    htrunc herr (fun h => by cases h) hmay' hlate
  unfold portStart
  dsimp only
  refine (if_neg (by rw [hup, htx]; decide)).trans ?_
  dsimp only at hpick
  rw [show ((s.prt p).held.isSome || s.on (F.PORT_STAT_HOLD p)) = false by rw [hheld, hhold]; rfl, hk, hpick]

/-- The fragment in flight ends for an express frame that may start (R433). -/
theorem portPreempt_first {g : Sig} {f : TxFrame} {sent : Nat} (hup : portUp p s = true) (hact : s.on (F.PORT_STAT_PRE_ACT p) = true)
    (htx : (s.prt p).tx = some f) (hf : netExpress f.cls s = false) (hheld : (s.prt p).held = none)
    (hleast : 64 * (1 + (s.prt p).pre.bits 29 28) ≤ sent) (hleft : sent + 64 ≤ txLeft f s) (hexp : netExpress 7 s = true)
    (hen : s.on (F.PORT_EQ_EN p 7) = true) (hmay : portMay p 7 s = true) (hq : s.fld (F.PORT_EQ_QID p 7) = q)
    (hpurge : (s.prt p).purge.contains q = false) (hh : qHead s q = some g) (htrunc : g.trunc = false) (herr : g.err = false)
    (hlate : portLate p 7 (instant g.tick g.cyc) s = false) :
    portPreempt p sent s = portBegin p 7 q g (s.setPrt p { s.prt p with
      tx := none, held := some { f with sent := f.sent + sent, frag := f.frag + 1 } }) := by
  obtain ⟨k, hk⟩ := portFuel_pos p s
  unfold portPreempt
  dsimp only
  rw [htx]
  dsimp only
  rw [hup, hact, hf, hheld, decide_eq_false (by omega), decide_eq_false (by omega), if_neg (by decide), hk,
    portPick_first hen hq hpurge hh htrunc herr (fun _ => hexp) hmay hlate]

/-! A frame sent to its end (R433, R434). -/

/-- Whether an express frame is due depends on the streams' registers, not on a port's counters. -/
theorem netHoldDue_congr {u : State} (hp : p < 5) (hz : u.zkl = s.zkl) (ht : u.tick = s.tick) (hc : u.cyc = s.cyc) (htime : u.time = s.time)
    (hpre : (u.prt p).pre = (s.prt p).pre) (hf : ∀ f : Fld, f.addr ≠ Adr.PORT_CNT4 p → u.fld f = s.fld f) : netHoldDue p u = netHoldDue p s := by
  have hnet (f : Fld) (h : f.addr < 0x111000 ∨ 0x120000 ≤ f.addr) : u.fld f = s.fld f := hf f (by simp only [Adr.PORT_CNT4]; omega)
  have hcfg (n : Nat) (f : Fld) (h : f.addr = Adr.TX_CFG n) : u.fld f = s.fld f := hnet f (.inr (by rw [h, Adr.TX_CFG]; omega))
  have hstart (n : Nat) : ztxStart n u = ztxStart n s := by
    unfold ztxStart
    dsimp only
    rw [State.ztx, hz, ← State.ztx, domTick, htime, ht, ← domTick, State.on, hcfg n (F.TX_CFG_GATH n) rfl, hcfg n (F.TX_CFG_EN n) rfl, ← State.on,
      hnet (F.TX_TIME_TXOFS n) (.inr (by simp only [F.TX_TIME_TXOFS, Adr.TX_TIME]; omega))]
  unfold netHoldDue
  dsimp only
  rw [hpre]
  congr 2
  funext n
  rw [hcfg n (F.TX_CFG_PORTS n) rfl, hcfg n (F.TX_CFG_PCP n) rfl, netClass, hnet F.NET_CLASS_PCP_MAP (.inl (by decide)), netExpress, hnet F.NET_CLASS_EXP_MASK (.inl (by decide)),
    hstart, ht, hc]
  rfl

theorem netExpressWaits_congr {u : State} (hq : u.qmg = s.qmg) (hf : ∀ f : Fld, f.addr ≠ Adr.PORT_CNT4 p → u.fld f = s.fld f) (hp : p < 5) :
    netExpressWaits p u = netExpressWaits p s := by
  have hexp (c : Nat) : netExpress c u = netExpress c s := by
    rw [netExpress, hf _ (by simp only [F.NET_CLASS_EXP_MASK, Adr.NET_CLASS, Adr.PORT_CNT4]; omega), netExpress]
  unfold netExpressWaits
  congr 1
  funext c
  rw [hexp]
  cases he : netExpress c s
  · rfl
  · have hc := netExpress_class he
    rw [State.on, hf _ (by simp only [F.PORT_EQ_EN, Adr.PORT_EQ, Adr.PORT_CNT4]; omega), ← State.on,
      hf _ (by simp only [F.PORT_EQ_QID, Adr.PORT_EQ, Adr.PORT_CNT4]; omega), qHead, State.queue_congr hq, ← qHead]

/-- The state with a frame sent whole counted and off the port. -/
def portSent (p : Nat) (s : State) : State :=
  (s.bump (F.PORT_CNT4_TX_OK p) (F.PORT_CNT4_TX_OK_SAT p)).setPrt p
    { (s.bump (F.PORT_CNT4_TX_OK p) (F.PORT_CNT4_TX_OK_SAT p)).prt p with tx := none }

theorem portEnd_whole {f : TxFrame} (htx : (s.prt p).tx = some f) (hb : f.back = none) (hc : f.cut = false) :
    portEnd p s = prePress p ((portSent p s).when (netExpress f.cls (portSent p s)) (netRelease p)) := by
  unfold portEnd
  dsimp only
  rw [htx]
  dsimp only
  rw [hb, hc, if_neg (by decide), if_neg (by simp), if_neg (by simp), if_neg (by simp)]
  rfl

theorem portSent_fld {f : Fld} (h : f.addr ≠ Adr.PORT_CNT4 p) : (portSent p s).fld f = s.fld f := by
  rw [portSent, State.fld_setPrt, State.fld_bump_off _ (.inr (.inr h)) (.inr (.inr h))]

theorem netRelease_fld {f : Fld} (h : (F.PORT_STAT_HOLD p).Apart f) : (netRelease p s).fld f = s.fld f := by
  have hif {P : Prop} [Decidable P] : (if P then s else s.setFld (F.PORT_STAT_HOLD p) 0).fld f = s.fld f := by
    split
    · rfl
    · exact State.fld_setFld_off _ _ h
  unfold netRelease
  exact hif

theorem netRelease_net : (netRelease p s).net = s.net := by
  have hif {P : Prop} [Decidable P] : (if P then s else s.setFld (F.PORT_STAT_HOLD p) 0).net = s.net := by
    split
    · rfl
    · exact State.setFld_net ..
  unfold netRelease
  exact hif

/-- A hold without an express frame in flight, due or waiting is released (R433). -/
theorem netRelease_free (htx : (s.prt p).tx = none) (hd : netHoldDue p s = false) (hw : netExpressWaits p s = false) :
    (netRelease p s).fld (F.PORT_STAT_HOLD p) = 0 := by
  unfold netRelease
  dsimp only
  rw [htx, hd, hw]
  cases hh : s.on (F.PORT_STAT_HOLD p)
  · exact (State.not_on_iff s).mp hh
  · exact State.fld_setFld_zero _ (of_decide_eq_true rfl)

theorem portEnd_shows {f : TxFrame} (hp : p < 5) (htx : (s.prt p).tx = some f) (hb : f.back = none) (hc : f.cut = false) :
    ((portEnd p s).prt p).tx = none ∧ Counted s (portEnd p s) (F.PORT_CNT4_TX_OK p) ∧
    (netExpress f.cls s = true → netHoldDue p s = false → netExpressWaits p s = false → (portEnd p s).fld (F.PORT_STAT_HOLD p) = 0) := by
  have hsent : ((portSent p s).prt p).tx = none := by rw [portSent, State.prt_setPrt]
  rw [portEnd_whole htx hb hc]
  refine ⟨?_, ?_, fun he hd hw => ?_⟩
  · refine ((prePress_onlyStat (ws := fun _ => True) hidesVerify_tx trivial (.refl _)).same fun _ => rfl).trans ?_
    rw [State.when_keeps (fun u => (u.prt p).tx) (congrArg PortSt.tx (State.prt_congr netRelease_net p)), hsent]
  · have ho (g : Fld) (hg : g.addr = Adr.PORT_STAT p) : g.Apart (F.PORT_CNT4_TX_OK p) :=
      .inr (.inr (by rw [hg]; simp only [F.PORT_CNT4_TX_OK, Adr.PORT_CNT4, Adr.PORT_STAT]; omega))
    rw [Counted, prePress_fld (ho _ rfl) (ho _ rfl), State.when_keeps (·.fld (F.PORT_CNT4_TX_OK p)) (netRelease_fld (ho _ rfl)), portSent,
      State.fld_setPrt, State.fld_bump_counter _ (of_decide_eq_true rfl) (of_decide_eq_true rfl) (Fld.apart_sure rfl)]
  · have hfld (g : Fld) (h : g.addr ≠ Adr.PORT_CNT4 p) : (portSent p s).fld g = s.fld g := portSent_fld h
    have hexp : netExpress f.cls (portSent p s) = true := by
      rw [netExpress, hfld _ (by simp only [F.NET_CLASS_EXP_MASK, Adr.NET_CLASS, Adr.PORT_CNT4]; omega), ← netExpress, he]
    rw [prePress_fld (Fld.apart_sure rfl) (Fld.apart_sure rfl), State.when_of hexp]
    refine netRelease_free hsent ?_ ?_
    · rw [netHoldDue_congr (u := portSent p s) hp (State.bump_zkl ..) (State.bump_tick ..) (State.bump_cyc ..) (State.bump_time ..) ?_ hfld, hd]
      rw [portSent, State.prt_setPrt, State.prt_congr (State.bump_net ..)]
    · rw [netExpressWaits_congr (u := portSent p s) (State.bump_qmg ..) hfld hp, hw]

/-! Verification (R433). -/

theorem portVerifyTimer_due (hv : s.fld (F.PORT_STAT_VSTATE p) = 1) (ht : (s.prt p).pre.bits 15 8 ≠ 0)
    (hd : (s.prt p).verAt + 192 * (s.prt p).pre.bits 15 8 ≤ s.tick) : portVerifyTimer p s =
      if (s.prt p).verifies < 3 then
        s.setPrt p { s.prt p with verifies := (s.prt p).verifies + 1, verAt := s.tick, mps := (s.prt p).mps ++ [1] }
      else ((s.setFld (F.PORT_STAT_VSTATE p) 3).report 0x7842 p 0).raise (Pg.port p) 1 := by
  unfold portVerifyTimer
  exact if_neg (by omega)

end

end Sys2Proof.Machine

/-!
The commands of the Ethernet ports and the bridge (R421-R446).
-/

namespace Sys2Proof.Machine

/-- A learn event that is due is applied. -/
theorem learnApply_due {s : State} {e : LearnEv} (hf : learnFirst s.net.learn = some e) (hd : e.stamp + 256 ≤ instant s.tick s.cyc) :
    learnApply s = brLearn e { s with net := { s.net with learn := s.net.learn.erase e } } := by
  unfold learnApply
  rw [hf]
  exact if_neg (Nat.not_lt.mpr hd)

theorem brLearn_learn (e : LearnEv) (s : State) : (brLearn e s).net.learn = s.net.learn :=
  (brLearn_only (E := fun u => u.net.learn) (fun _ _ => rfl) (.refl s)).same fun _ => rfl

/-- A back-off that is over: a frame past its deadline is dropped, another one is sent again (R436, R438). -/
theorem t1sBackoffEnd_due {s : State} {f : TxFrame} {b : Nat} (htx : (s.prt 4).tx = some f) (hb : f.back = some b) (hd : b ≤ instant s.tick s.cyc) :
    t1sBackoffEnd s = if portLate 4 f.cls f.stamp s then portCountLate 4 (txDrop 4 (some f) (s.setPrt 4 { s.prt 4 with tx := none }))
      else s.setPrt 4 { s.prt 4 with tx := some { f with back := none } } := by
  unfold t1sBackoffEnd
  dsimp only
  rw [htx]
  dsimp only
  rw [hb]
  exact if_neg (Nat.not_lt.mpr hd)

/-- What the scan leaves in the table (R443). -/
theorem brAge_find {s : State} {mac : Nat} {e : BrEnt} (ha : s.fld F.NET_BR_CFG_AGE ≠ 0) (h : brFind mac (brAge s) = some e) :
    e.static = true ∨ instant s.tick s.cyc ≤ e.tr + s.fld F.NET_BR_CFG_AGE * 192000 * 5120 := by
  unfold brAge at h
  dsimp only at h
  rw [if_neg ha] at h
  have hd := brDrop_find h
  cases hs : e.static
  · rw [hs, Bool.not_false, Bool.true_and, decide_eq_false_iff_not, Nat.not_lt] at hd
    exact .inr hd
  · exact .inl rfl

end Sys2Proof.Machine

namespace Sys2Proof

open Machine


/-- Settles O35: each command by the lemma that says what its clause's case does: a received frame after its port's tests, a pick of the first class, the
bridge table's search and the port's loss of its frames. -/
theorem networkCommandsComplete : Obligations.NetworkCommandsComplete := by
  intro s
  refine ⟨?_, ?_, ?_, ?_, ?_, ?_, ?_, ?_, ?_, ?_, ?_, ?_, ?_, ?_, ?_, ?_, ?_, ?_, ?_, ?_, ?_, ?_, ?_, ?_, ?_, ?_, ?_⟩
  · intro p w hr ht hn
    rw [exec, execEthFrameReceive, completes_ticking hr, netReceive_runt ht hn]
    refine ⟨?_, ?_, ?_⟩
    · exact State.fld_bump_counter _ (of_decide_eq_true rfl) (of_decide_eq_true rfl) (Fld.apart_sure rfl)
    · exact State.bump_qmg ..
    · exact State.bump_net ..
  · intro p w hr h
    rw [exec, execEthFrameReceive, completes_ticking hr]
    have hdrop : netReceive p.val w s =
        ((s.land w.cyc).bump (F.PORT_CNT2_RX_FIFO_DROP p) (F.PORT_CNT2_RX_FIFO_DROP_SAT p)).raise (Pg.port p) 3 := by
      obtain h | ⟨ht, hn, hl, hf⟩ := h
      · exact netReceive_stale h
      · exact netReceive_full ht hn hl hf
    rw [hdrop]
    exact netDrop_shows p.val (s.land w.cyc) rfl
  · intro p w hr ht hf hw hbad hq
    rw [exec, execEthFrameReceive, completes_ticking hr, netReceive_bad p.isLt ht hf hw hbad hq]
    refine ⟨fun hfcs => ?_, fun hfifo => ?_, ?_, ?_⟩
    · rw [Counted, State.when_of (by rw [hfcs]; rfl),
        State.fld_bump_counter _ (of_decide_eq_true rfl) (of_decide_eq_true rfl) (Fld.apart_sure rfl),
        State.when_keeps (·.fld (F.PORT_CNT0_RX_FCS p)) (State.report_fld ..)]
      rfl
    · rw [Reported, State.when_keeps State.flt (State.bump_flt ..), State.when_of (by rw [hfifo]; rfl)]
      rfl
    · rw [State.when_keeps State.qmg (State.bump_qmg ..), State.when_keeps State.qmg (State.report_qmg ..)]
      rfl
    · rw [State.when_keeps State.net (State.bump_net ..), State.when_keeps State.net rfl]
      rfl
  · intro p w f b c hr ht hf hfcs hfifo hw hl htag hb hc hown hg hz hon
    rw [exec, execEthFrameReceive, completes_ticking hr, netReceive_own ht hf hfcs hfifo hw hl htag hb hc hown hg hz hon]
  · intro w p q x c hr hwp hfind hwait hdue hfifo
    subst hwp
    rw [exec, execRxWaitExpire, completes_ticking hr]
    exact netExpire_due (s := s.land w.cyc) hfind hwait hdue hfifo w.p.isLt
  · intro cyc e hr hf hd
    rw [exec, execLearnEventApply, completes_ticking hr, learnApply_due (s := s.land cyc) hf hd]
    refine ⟨brLearn_learn .., fun hn hl => ?_, fun x hx hp => ?_, fun x hx hp hs ht => ?_, fun x hx hp h => ?_⟩
    · exact brLearn_new hn hl
    · exact brLearn_same hx hp
    · exact brLearn_moved hx hp hs ht
    · exact brLearn_contested hx hp h
  · intro cyc p q g hr hup htx hheld hhold hen hmay hq hpurge hh htrunc herr hlate
    rw [exec, execEgressFrameStart, completes_ticking hr,
      portStart_first (s := s.land cyc) hup htx hheld hhold hen hmay hq hpurge hh htrunc herr hlate]
    exact portBegin_tx ..
  · intro cyc p f hr htx hb hc
    rw [exec, execEgressFrameEnd, completes_ticking hr]
    exact portEnd_shows (s := s.land cyc) p.isLt htx hb hc
  · intro w p sent f q g hr hwp hup hact htx hf hheld hleast hleft hexp hen hmay hq hpurge hh htrunc herr hlate
    subst hwp
    rw [exec, execExpressPreempt, completes_ticking hr,
      portPreempt_first (s := s.land w.cyc) hup hact htx hf hheld hleast hleft hexp hen hmay hq hpurge hh htrunc herr hlate]
    refine ⟨(portBegin_held ..).trans ?_, portBegin_tx ..⟩
    rw [State.prt_setPrt]
  · intro w hr
    rw [exec, execPreemptHold, completes_ticking hr]
  · intro p hr hv ht hd
    rw [exec, execVerifyTimer, completes_ticking hr, portVerifyTimer_due hv ht hd]
    split
    · exact ⟨State.prt_setPrt .., rfl⟩
    · refine ⟨?_, State.fld_raise_self _ (by decide), ?_⟩
      · rw [State.fld_raise_other _ (by simp only [F.PORT_STAT_VSTATE, Adr.PORT_STAT, Pg.port]; omega), State.report_fld,
          State.fld_setFld_fits _ (of_decide_eq_true rfl) (of_decide_eq_true rfl)]
      · rw [Reported, State.raise_flt]
        exact State.report_reported (State.setFld_flt ..)
  · intro p speed half hr hm hi hpll hv hl hh
    have hint : Adr.PORT_STAT p ≠ Pg.port p * 4096 + 16 := by simp only [Adr.PORT_STAT, Pg.port]; omega
    have hfree : ¬ (s.fld (F.PORT_CFG_MODE p) = 1 ∧ half = true) := fun h => hh.elim (fun k => k h.1) fun k => by rw [k] at h; cases h.2
    rw [exec, execEthLinkUp, completes_ticking hr, portLinkUp_shows p.isLt hm hi hpll hv hl, if_neg hfree]
    refine ⟨?_, ?_, ?_, ?_⟩
    · rw [portVerify_fld (Fld.apart_sure rfl) (Fld.apart_sure rfl), State.fld_raise_off _ (.inr (.inr hint)),
        State.fld_setFld_off _ _ (Fld.apart_sure rfl), State.fld_setFld_off _ _ (Fld.apart_sure rfl), State.fld_setFld_one _ (Fld.flag_sure rfl)]
    · rw [portVerify_fld (.inr (.inr hint.symm)) (.inr (.inr hint.symm)), State.fld_raise_self _ (by decide)]
    · rw [portVerify_fld (Fld.apart_sure rfl) (Fld.apart_sure rfl), State.fld_raise_off _ (.inr (.inr hint)),
        State.fld_setFld_zero _ (of_decide_eq_true rfl)]
    · rw [portVerify_fld (Fld.apart_sure rfl) (Fld.apart_sure rfl), State.fld_raise_off _ (.inr (.inr hint)),
        State.fld_setFld_off _ _ (Fld.apart_sure rfl), Nat.mod_eq_of_lt speed.isLt, State.fld_setFld_fits _ (of_decide_eq_true rfl) ?_]
      have hmode := s.fld_lt (F.PORT_CFG_MODE p)
      rw [show (F.PORT_CFG_MODE p).width = 2 from rfl] at hmode
      rw [show (F.PORT_STAT_SPEED p).width = 2 from rfl]
      split <;> omega
  · intro p speed hr hm hi hpll hv hl
    rw [exec, execEthLinkUp, completes_ticking hr, portLinkUp_shows p.isLt (by rw [hm]; decide) hi hpll hv hl, if_pos ⟨hm, rfl⟩]
  · intro p hr hl
    rw [exec, execEthLinkDown, completes_ticking hr]
    exact portLinkDown_lost p.isLt hl
  · intro c f r hr htx hb ha hr'
    rw [exec, execT1sCollision, completes_ticking hr, t1sCollision_again (s := s.land c.cyc) htx hb ha]
    obtain ⟨hcoll, hlate⟩ := collided_counts c.late (s.land c.cyc)
    refine ⟨hcoll, hlate, ?_, ?_⟩
    · rw [State.prt_setPrt]; rfl
    · rw [State.prt_setPrt, hr']; rfl
  · intro c f hr htx hb ha hk
    rw [exec, execT1sCollision, completes_ticking hr, t1sCollision_excess (s := s.land c.cyc) htx hb ha hk]
    refine ⟨?_, ?_, ?_⟩
    · rw [Counted, State.fld_bump_off _ (of_decide_eq_true rfl) (of_decide_eq_true rfl), txDrop_fld (by decide) (by decide), State.fld_setPrt]
      exact (collided_counts c.late (s.land c.cyc)).1
    · rw [Counted, State.fld_bump_counter _ (of_decide_eq_true rfl) (of_decide_eq_true rfl) (of_decide_eq_true rfl),
        txDrop_fld (by decide) (by decide), State.fld_setPrt, collided_fld (by decide)]
      rfl
    · rw [State.prt_congr (State.bump_net ..)]
      refine (txDrop_same hidesVerify_tx (fun _ _ => rfl) fun _ => rfl).trans ?_
      rw [State.prt_setPrt]
  · intro cyc f b hr htx hb hd
    rw [exec, execT1sBackoffEnd, completes_ticking hr, t1sBackoffEnd_due (s := s.land cyc) htx hb hd]
    split
    · refine ⟨?_, ?_⟩
      · rw [portCountLate_tx]
        refine (txDrop_same hidesVerify_tx (fun _ _ => rfl) fun _ => rfl).trans ?_
        rw [State.prt_setPrt]
      · have := portCountLate_counts 4 (txDrop 4 (some f) ((s.land cyc).setPrt 4 { (s.land cyc).prt 4 with tx := none }))
        rw [Counted, txDrop_fld (by decide) (by decide), State.fld_setPrt] at this
        exact this
    · exact ⟨congrArg PortSt.tx (State.prt_setPrt ..), rfl⟩
  · intro hr hj hm
    rw [exec, execT1sJabber, completes_ticking hr]
    exact t1sJabber_shows hj hm
  · intro hr
    rw [exec, execT1sJabberEnd, completes_ticking hr]
  · intro hr ha
    rw [exec, execBridgeAgeingScan, completes_ticking hr]
    intro mac e he
    exact brAge_find ha he
  · intro e hp hf he
    rw [exec, execTableLookup, completes_heard hp, tblLookup_hit (by rw [learnDrain_tblMac, hf])]
    obtain ⟨h1, h2, h3, h4, h5⟩ :=
      tblResult_shows true e.static false ((instant (learnDrain s).tick (learnDrain s).cyc - e.tr) / (192000 * 5120)) (learnDrain s) he
    refine ⟨h1, h2.trans ?_, h3, h4, tblResult_net .., h5.trans ?_⟩
    · cases e.static <;> rfl
    · rw [learnDrain_now]
  · intro hp hf
    rw [exec, execTableLookup, completes_heard hp, tblLookup_miss (by rw [learnDrain_tblMac, hf])]
    obtain ⟨h1, -, -, h4, -⟩ := tblResult_shows false false false 0 (learnDrain s) (by decide : 0 < 8)
    exact ⟨h1, h4, tblResult_net ..⟩
  · intro port hp h
    rw [exec, execTableAddStatic, completes_heard hp]
    obtain ⟨h1, h2⟩ := tblAdd_shows (s := learnDrain s) port.isLt (by rw [learnDrain_tblMac]; exact h)
    rw [learnDrain_tblMac, learnDrain_now] at h1
    exact ⟨h1, h2⟩
  · intro port hp hf hl ha
    rw [exec, execTableAddStatic, completes_heard hp, tblAdd_full (by rw [learnDrain_tblMac, hf]) (by rw [learnDrain_tblMac]; exact hl)
      (by rw [learnDrain_tblMac]; exact ha)]
    obtain ⟨-, -, -, h4, -⟩ := tblResult_shows false false true 0 (learnDrain s) (by decide : 0 < 8)
    exact ⟨tblResult_net .., h4⟩
  · intro e hp hf he
    rw [exec, execTableDelete, completes_heard hp, tblDelete_hit (by rw [learnDrain_tblMac, hf]), learnDrain_tblMac]
    obtain ⟨h1, -⟩ := tblResult_shows true e.static false 0
      (brPut (macBin (tblMac s)) ((brBucket (tblMac s) (learnDrain s)).erase e) (learnDrain s)) he
    refine ⟨?_, h1⟩
    rw [brBucket_congr (tblResult_net ..), brPut_bucket]
  · intro port hp
    rw [exec, execTableFlushPort, completes_heard hp]
    obtain ⟨-, -, -, h4, -⟩ := tblResult_shows false false false 0
      (brDrop (fun e => !e.static && e.port == port.val) (learnDrain s)) (by decide : 0 < 8)
    refine ⟨h4, fun mac e he => ?_⟩
    obtain h | ⟨p, hpp, h⟩ := tblFlush_find he
    · exact .inl h
    · cases hpp
      exact .inr h
  · intro hp
    rw [exec, execTableFlushAll, completes_heard hp]
    obtain ⟨-, -, -, h4, -⟩ := tblResult_shows false false false 0 (brDrop (fun e => !e.static && true) (learnDrain s)) (by decide : 0 < 8)
    refine ⟨h4, fun mac e he => ?_⟩
    obtain h | ⟨p, hpp, h⟩ := tblFlush_find he
    · exact h
    · cases hpp

end Sys2Proof

/-!
What the work of a tick and of a take point leaves alone (R20, R23, R45): the cycle count, the values presented, the tick from which the host
ports answer, and what the links last took.
-/

namespace Sys2Proof.Machine

/-- The cycle count, the values presented, the tick from which the ports answer, and what each direction of a link last took. -/
def steady (s : State) : Nat × SMap Word × Nat × (Nat → List Quire × Nat × Nat) :=
  (s.cyc, s.spine, s.clk.portsTick, fun d => ((s.dir d).data, (s.dir d).subst, (s.dir d).applied))

/-- A change of the state that leaves these as they are. -/
abbrev Steady (s t : State) : Prop := Only (fun _ => True) steady s t

/-! What `steady` does not read, and that any register may change. -/

theorem steady_qmg : HidesQmg steady := fun _ _ => rfl
theorem steady_backs : HidesBacks steady := fun _ _ => rfl
theorem steady_net : HidesNet steady := fun _ _ _ _ => rfl
theorem allLog : LogRegs (fun _ => True) := ⟨trivial, trivial, trivial, trivial, trivial, trivial, fun _ _ => trivial, fun _ => trivial⟩
theorem allQueue {q : Nat} : QueueRegs q (fun _ => True) := ⟨trivial, trivial, trivial, trivial⟩
theorem allNet : NetRegs (fun _ => True) := fun _ _ => trivial

section

variable {s0 : State}

theorem Only.ite_1 {α β : Type} {ws : Nat → Prop} {E : State → β} {c : Prop} {_d : Decidable c} {a b : State × α} (ha : Only ws E s0 a.1)
    (hb : Only ws E s0 b.1) : Only ws E s0 (if c then a else b).1 := by split <;> assumption

theorem Only.ite_2 {α β : Type} {ws : Nat → Prop} {E : State → β} {c : Prop} {_d : Decidable c} {a b : α × State} (ha : Only ws E s0 a.2)
    (hb : Only ws E s0 b.2) : Only ws E s0 (if c then a else b).2 := by split <;> assumption

theorem Only.ite_2_2 {α β γ : Type} {ws : Nat → Prop} {E : State → β} {c : Prop} {_d : Decidable c} {a b : α × γ × State}
    (ha : Only ws E s0 a.2.2) (hb : Only ws E s0 b.2.2) : Only ws E s0 (if c then a else b).2.2 := by split <;> assumption

theorem Only.foldl_1 {α β γ : Type} {ws : Nat → Prop} {E : State → β} {f : State × γ → α → State × γ} {l : List α} {p : State × γ}
    (hf : ∀ p a, Only ws E s0 p.1 → Only ws E s0 (f p a).1) (h : Only ws E s0 p.1) : Only ws E s0 (l.foldl f p).1 := by
  induction l generalizing p with
  | nil => exact h
  | cons a t ih => exact ih (hf p a h)

theorem Only.foldl_2 {α β γ : Type} {ws : Nat → Prop} {E : State → β} {f : γ × State → α → γ × State} {l : List α} {p : γ × State}
    (hf : ∀ p a, Only ws E s0 p.2 → Only ws E s0 (f p a).2) (h : Only ws E s0 p.2) : Only ws E s0 (l.foldl f p).2 := by
  induction l generalizing p with
  | nil => exact h
  | cons a t ih => exact ih (hf p a h)

theorem State.dir_setDir (d e : Nat) (x : LinkDir) (s : State) : (s.setDir d x).dir e = if e = d then x else s.dir e := by
  by_cases h : e = d
  · rw [h, if_pos rfl]
    exact SMap.get_set_same ..
  · rw [if_neg h]
    exact SMap.get_set_other _ _ _ h

/-- What the blocks keep to themselves may take any value. -/
theorem Steady.own {shadow shadowMc image imageMc fresh latch readData portAddr press flt qmg next tests pwr ain fch svc spn mix srcc sap spd fx jack
    out cv spk bst time net zkl nvm i2c gpio jtag free} {s : State} (h : Steady s0 s) : Steady s0 { s with
      shadow := shadow, shadowMc := shadowMc, image := image, imageMc := imageMc, fresh := fresh, latch := latch, readData := readData,
      portAddr := portAddr, press := press, flt := flt, qmg := qmg, next := next, tests := tests, pwr := pwr, ain := ain, fch := fch, svc := svc,
      spn := spn, mix := mix, srcc := srcc, sap := sap, spd := spd, fx := fx, jack := jack, out := out, cv := cv, spk := spk, bst := bst,
      time := time, net := net, zkl := zkl, nvm := nvm, i2c := i2c, gpio := gpio, jtag := jtag, free := free } :=
  h.update rfl rfl

/-- So may the clocks, but for the tick from which the ports answer. -/
theorem Steady.clocks {refGood nrefGood waitPair searches pll relock auto had servoGood atBound fdivStart lostC tickErr cause} {s : State}
    (h : Steady s0 s) : Steady s0 { s with clk := { s.clk with
      refGood := refGood, nrefGood := nrefGood, waitPair := waitPair, searches := searches, pll := pll, relock := relock, auto := auto,
      had := had, servoGood := servoGood, atBound := atBound, fdivStart := fdivStart, lostC := lostC, tickErr := tickErr, cause := cause } } :=
  h.update rfl rfl

/-- All these, and what the links hold beside their directions. -/
theorem Steady.data {shadow shadowMc image imageMc fresh latch readData portAddr press flt qmg next tests pwr ain fch svc spn mix srcc sap spd fx jack
    out cv spk bst time net zkl nvm i2c gpio jtag free dies wasDown off adopt realigned scrub eccWait refGood nrefGood waitPair searches pll relock
    auto had servoGood atBound fdivStart lostC tickErr cause} {s : State} (h : Steady s0 s) : Steady s0 { s with
      shadow := shadow, shadowMc := shadowMc, image := image, imageMc := imageMc, fresh := fresh, latch := latch, readData := readData,
      portAddr := portAddr, press := press, flt := flt, qmg := qmg, next := next, tests := tests, pwr := pwr, ain := ain, fch := fch, svc := svc,
      spn := spn, mix := mix, srcc := srcc, sap := sap, spd := spd, fx := fx, jack := jack, out := out, cv := cv, spk := spk, bst := bst,
      time := time, net := net, zkl := zkl, nvm := nvm, i2c := i2c, gpio := gpio, jtag := jtag, free := free,
      link := { s.link with
        dies := dies, wasDown := wasDown, off := off, adopt := adopt, realigned := realigned, scrub := scrub, eccWait := eccWait },
      clk := { s.clk with
        refGood := refGood, nrefGood := nrefGood, waitPair := waitPair, searches := searches, pll := pll, relock := relock, auto := auto,
        had := had, servoGood := servoGood, atBound := atBound, fdivStart := fdivStart, lostC := lostC, tickErr := tickErr, cause := cause } } :=
  h.update rfl rfl

/-- A direction replaced by one that took the same. -/
theorem State.setDir_steady {d x s} (hd : x.data = (s.dir d).data) (hs : x.subst = (s.dir d).subst) (ha : x.applied = (s.dir d).applied)
    (h : Steady s0 s) : Steady s0 (State.setDir d x s) := by
  refine h.update rfl ?_
  refine congrArg (fun g => (s.cyc, s.spine, s.clk.portsTick, g)) (funext fun e => ?_)
  change (((s.setDir d x).dir e).data, ((s.setDir d x).dir e).subst, ((s.setDir d x).dir e).applied) = _
  rw [State.dir_setDir]
  split
  next he => rw [he, hd, hs, ha]; rfl
  · rfl

theorem State.setWord_steady {a w s} (h : Steady s0 s) : Steady s0 (State.setWord a w s) := State.setWord_only trivial h
theorem State.setFld_steady {f v s} (h : Steady s0 s) : Steady s0 (State.setFld f v s) := State.setFld_only trivial h
theorem State.setOn_steady {f b s} (h : Steady s0 s) : Steady s0 (State.setOn f b s) := State.setOn_only trivial h
theorem State.setInt_steady {f v s} (h : Steady s0 s) : Steady s0 (State.setInt f v s) := State.setInt_only trivial h
theorem State.raise_steady {p k s} (h : Steady s0 s) : Steady s0 (State.raise p k s) := State.raise_only trivial h
theorem State.bump_steady {c g s} (h : Steady s0 s) : Steady s0 (State.bump c g s) := State.bump_only trivial trivial h
theorem State.bumpBy_steady {n c g s} (h : Steady s0 s) : Steady s0 (State.bumpBy n c g s) := State.bumpBy_only trivial trivial h
theorem State.report_steady {c i a s} (h : Steady s0 s) : Steady s0 (State.report c i a s) := State.report_only (fun _ _ => rfl) h
theorem State.post_steady {a w s} (h : Steady s0 s) : Steady s0 (State.post a w s) := State.post_only trivial (fun _ _ => rfl) h
theorem State.dropBack_steady {k q s} (h : Steady s0 s) : Steady s0 (State.dropBack k q s) := State.dropBack_only steady_backs h
theorem logReport_steady {r s} (h : Steady s0 s) : Steady s0 (logReport r s) := logReport_only allLog (fun _ _ => rfl) h

theorem State.tell_steady {d from_ m s} (h : Steady s0 s) : Steady s0 (State.tell d from_ m s) :=
  .when (fun _ h => State.setDir_steady rfl rfl rfl h) h

theorem State.note_steady {d from_ n s} (h : Steady s0 s) : Steady s0 (State.note d from_ n s) := State.tell_steady h

/-- A link that goes down keeps what was last taken (R25). -/
theorem linkDown_steady {d code s} (h : Steady s0 s) : Steady s0 (linkDown d code s) := by
  unfold linkDown
  dsimp only
  refine .ite h (logReport_steady (State.bump_steady ?_))
  split
  all_goals exact Steady.data (State.setDir_steady rfl rfl rfl (State.setDir_steady rfl rfl rfl (setLstate_only trivial trivial h)))

/-! What the consumers of a take point do (R23, R46, R113, R161, R316). -/

theorem State.setOch_steady {o x s} (h : Steady s0 s) : Steady s0 (State.setOch o x s) := by
  unfold State.setOch
  exact Steady.data h

theorem outTestFail_steady {o s} (h : Steady s0 s) : Steady s0 (outTestFail o s) := by
  unfold outTestFail
  exact Only.when (fun _ h1 => State.setOch_steady h1) h

theorem outLimits_steady {limited s} (h : Steady s0 s) : Steady s0 (outLimits limited s) := by
  unfold outLimits
  exact Only.each (fun _ _ _ h1 => (Only.when (fun _ h2 => State.bump_steady h2) (Only.when (fun _ h3 => outTestFail_steady h3) (State.setOn_steady
    (State.setOch_steady h1))))) h

theorem cvRefShow_steady {s} (h : Steady s0 s) : Steady s0 (cvRefShow s) := by
  unfold cvRefShow
  exact State.setOn_steady h

theorem cvRefNoted_steady {back s} (h : Steady s0 s) : Steady s0 (cvRefNoted back s) := by
  unfold cvRefNoted
  exact Only.when (fun _ h1 => State.report_steady (State.raise_steady h1)) (cvRefShow_steady (Steady.data h))

theorem outNoted_steady {kind o arg s} (h : Steady s0 s) : Steady s0 (outNoted kind o arg s) := by
  unfold outNoted
  exact outShow_only trivial trivial (Only.ite (State.raise_steady (State.report_steady (State.bump_steady (State.setOch_steady h)))) (Only.ite
    (Only.branch (State.bump_steady h) (fun h5 => (Only.branchR (State.setOch_steady (State.raise_steady (State.report_steady h5))) (fun h7 =>
    State.setOch_steady h7)))) (State.report_steady (State.setOch_steady h))))

theorem spkNoted_steady {kind n arg s} (h : Steady s0 s) : Steady s0 (spkNoted kind n arg s) := by
  unfold spkNoted
  exact (Only.ite
      (State.report_steady (State.raise_steady (State.bump_steady (State.setOn_steady (State.setFld_steady h)))))
      (State.report_steady
        (by
          split
          · exact (State.raise_steady h)
          · exact h)))

theorem bstNoted_steady {inst code s} (h : Steady s0 s) : Steady s0 (bstNoted inst code s) := by
  unfold bstNoted
  exact State.report_steady (State.raise_steady h)

theorem svcNoted_steady {s} (h : Steady s0 s) : Steady s0 (svcNoted s) := by
  unfold svcNoted
  exact svcShow_only trivial (Steady.data h)

theorem takeAct_steady {n s} (h : Steady s0 s) : Steady s0 (takeAct n s) := by
  unfold takeAct
  exact Only.ite h (Only.ite (outNoted_steady h) (Only.ite (cvRefNoted_steady h) (Only.ite (spkNoted_steady h) (Only.ite (svcNoted_steady h)
    (bstNoted_steady h)))))

theorem takeNote_steady {n s} (h : Steady s0 s) : Steady s0 (takeNote n s) := by
  unfold takeNote
  exact Only.eachOf (fun _ _ _ h1 => logReport_steady h1) (Steady.data (takeAct_steady (Steady.data (Only.eachOf (fun _ _ _ h2 => State.raise_steady
    h2) (Only.eachOf (fun _ _ _ h3 => State.setFld_steady h3) h)))))

theorem State.setJk_steady {j x s} (h : Steady s0 s) : Steady s0 (State.setJk j x s) := by
  unfold State.setJk
  exact Steady.data h

theorem jackMove_steady {j st stamp s} (h : Steady s0 s) : Steady s0 (jackMove j st stamp s) := by
  unfold jackMove
  exact State.setFld_steady (State.setFld_steady (State.setFld_steady (State.setJk_steady h)))

theorem jackSetThr_steady {j v s} (h : Steady s0 s) : Steady s0 (jackSetThr j v s) := by
  unfold jackSetThr
  exact State.setOn_steady (State.setOn_steady (State.setOn_steady (State.setFld_steady h)))

theorem jackUpdate_steady {j s} (h : Steady s0 s) : Steady s0 (jackUpdate j s) := by
  unfold jackUpdate
  exact Only.when (fun _ h1 => State.raise_steady (State.report_steady h1)) (State.setJk_steady (Only.branch (State.setOn_steady h) (fun h2 =>
    jackSetThr_steady h2)))

theorem jackLoop_steady {j level side stamp s} (h : Steady s0 s) : Steady s0 (jackLoop j level side stamp s) := by
  unfold jackLoop
  exact Only.branch (Only.ite h (Only.ite (State.setFld_steady (State.setJk_steady h)) (State.setFld_steady (State.setJk_steady h)))) (fun h1 =>
    (Only.ite (State.setJk_steady h1) (jackUpdate_steady (State.setJk_steady h1))))

theorem jackPost_steady {j kind stamp level s} (h : Steady s0 s) : Steady s0 (jackPost j kind stamp level s) := by
  unfold jackPost
  exact Only.when (fun _ h1 => State.bump_steady h1) (Only.when (fun _ h2 => State.bump_steady h2) (State.raise_steady (State.bump_steady
    (Steady.data h))))

theorem jackSample_steady {j level stamp s} (h : Steady s0 s) : Steady s0 (jackSample j level stamp s) := by
  unfold jackSample
  exact Only.branch (State.setJk_steady (State.post_steady h)) (fun h1 => (jackLoop_steady (Only.branch (State.setJk_steady h1) (fun h2 =>
    jackMove_steady (jackPost_steady h2)))))

theorem jackTake_steady {t codes s} (h : Steady s0 s) : Steady s0 (jackTake t codes s) := by
  unfold jackTake
  exact Only.each (fun _ _ _ h1 => jackSample_steady h1) h

theorem pressReply_steady {l seq ok s} (h : Steady s0 s) : Steady s0 (pressReply l seq ok s) := by
  unfold pressReply
  exact Only.ite (Steady.data h) h

theorem svcDeliverUrgent_steady {r s} (h : Steady s0 s) : Steady s0 (svcDeliverUrgent r s) := by
  unfold svcDeliverUrgent
  exact State.raise_steady (State.bump_steady (State.post_steady h))

theorem State.setCtl_steady {c x s} (h : Steady s0 s) : Steady s0 (State.setCtl c x s) := by
  unfold State.setCtl
  exact Steady.data h

theorem thrReset_steady {c k s} (h : Steady s0 s) : Steady s0 (thrReset c k s) := by
  unfold thrReset
  exact State.setFld_steady (State.setFld_steady (State.setFld_steady (State.setCtl_steady h)))

theorem State.produce_steady {n w s} (h : Steady s0 s) : Steady s0 (State.produce n w s) := by
  unfold State.produce
  exact Steady.data h

theorem ctlFrozenShow_steady {c s} (h : Steady s0 s) : Steady s0 (ctlFrozenShow c s) := by
  unfold ctlFrozenShow
  exact State.setOn_steady h

theorem ctlSwapLand_steady {c s} (h : Steady s0 s) : Steady s0 (ctlSwapLand c s) := by
  unfold ctlSwapLand
  split
  · exact h
  · exact ctlFrozenShow_steady (State.setFld_steady (State.setFld_steady (State.setCtl_steady h)))

theorem ctlStart_steady {c s} (h : Steady s0 s) : Steady s0 (ctlStart c s) := by
  unfold ctlStart
  exact Only.branch (State.setFld_steady (thrReset_steady (thrReset_steady (State.setCtl_steady (ctlSwapLand_steady h))))) (fun h1 =>
    State.produce_steady h1)

theorem evPost_steady {c stamp kind flags val s} (h : Steady s0 s) : Steady s0 (evPost c stamp kind flags val s) := by
  unfold evPost
  exact State.raise_steady (State.bump_steady (Steady.data h))

theorem peakClose_steady {c s} (h : Steady s0 s) : Steady s0 (peakClose c s) := by
  unfold peakClose
  dsimp only
  split
  · exact h
  · exact evPost_steady (State.setCtl_steady h)

theorem thrEval_steady {c k y t b s} (h : Steady s0 s) : Steady s0 (thrEval c k y t b s) := by
  unfold thrEval
  exact Keeps.share (State.setFld_steady (State.setFld_steady (State.setFld_steady (State.setCtl_steady h)))) fun h1 => (Keeps.share
    (State.setCtl_steady h) fun h2 => (Keeps.share (State.setFld_steady (State.setFld_steady (State.setFld_steady h2))) fun h3 => (Only.ite h
    (Only.ite (Only.ite (evPost_steady h3) (Only.ite (evPost_steady h1) h2)) (Only.ite (Only.branchR (Only.when (fun _ h14 => evPost_steady h14) h3)
    (fun h13 => State.setCtl_steady (peakClose_steady h13))) (Only.ite (Only.when (fun _ h16 => evPost_steady h16) h1) h2))))))

theorem peakTake_steady {c b y t s} (h : Steady s0 s) : Steady s0 (peakTake c b y t s) := by
  unfold peakTake
  dsimp only
  split
  · exact State.setCtl_steady h
  · exact h

theorem fchPut_steady {src w s} (h : Steady s0 s) : Steady s0 (fchPut src w s) := by
  unfold fchPut
  exact Only.ite h (State.produce_steady h)

theorem valueTake_steady {c b y t s} (h : Steady s0 s) : Steady s0 (valueTake c b y t s) := by
  unfold valueTake
  exact Only.ite (evPost_steady (State.setCtl_steady h)) h

theorem ctlOutput_steady {c tag t s} (h : Steady s0 s) : Steady s0 (ctlOutput c tag t s) := by
  unfold ctlOutput
  exact Keeps.share (fchPut_steady (State.setOn_steady (State.post_steady (Only.when (fun _ h1 => State.setCtl_steady h1) h)))) fun h2 => (Only.ite
    (State.setCtl_steady h2) (State.setCtl_steady (valueTake_steady (peakTake_steady (thrEval_steady (thrEval_steady h2))))))

theorem ctlTake_steady {c w t s} (h : Steady s0 s) : Steady s0 (ctlTake c w t s) := by
  unfold ctlTake
  exact Only.branchR (Only.when (fun _ h3 => State.setFld_steady h3) (Only.when (fun _ h4 => State.bump_steady h4) (State.setCtl_steady h))) (fun h2
    => ctlOutput_steady h2)

theorem ctlInput_steady {c w tick cyc s} (h : Steady s0 s) : Steady s0 (ctlInput c w tick cyc s) := by
  unfold ctlInput
  exact Only.ite h (Only.ite (State.setCtl_steady h) (ctlTake_steady (State.setCtl_steady h)))

theorem svcDeliverEntry_steady {c r s} (h : Steady s0 s) : Steady s0 (svcDeliverEntry c r s) := by
  unfold svcDeliverEntry
  exact Only.each (fun _ _ _ h1 => (Only.ite (ctlInput_steady (Only.when (fun _ h3 => ctlStart_steady h3) h1)) h1)) (State.post_steady h)

theorem svcDeliverCheck_steady {r s} (h : Steady s0 s) : Steady s0 (svcDeliverCheck r s) := by
  unfold svcDeliverCheck
  exact State.post_steady h

theorem svcDeliver_steady {r s} (h : Steady s0 s) : Steady s0 (svcDeliver r s) := by
  unfold svcDeliver
  exact Only.ite (svcDeliverEntry_steady h) (Only.ite (svcDeliverUrgent_steady h) (Only.ite (State.post_steady h) (svcDeliverCheck_steady h)))

theorem dieTemp_steady {die code s} (h : Steady s0 s) : Steady s0 (dieTemp die code s) := by
  unfold dieTemp
  exact Only.when (fun _ h1 => State.report_steady h1) (Only.when (fun _ h2 => State.raise_steady (State.report_steady h2)) (State.setOn_steady
    (Steady.data (State.setFld_steady h))))

theorem State.setSch_steady {n x s} (h : Steady s0 s) : Steady s0 (State.setSch n x s) := by
  unfold State.setSch
  exact Steady.data h

theorem spkOff_steady {n goal s} (h : Steady s0 s) : Steady s0 (spkOff n goal s) := by
  unfold spkOff
  exact State.setSch_steady h

theorem spkFast_steady {n goal s} (h : Steady s0 s) : Steady s0 (spkFast n goal s) := by
  unfold spkFast
  exact Only.ite (State.setSch_steady h) (spkOff_steady h)

theorem spkReading_steady {n slot v s} (h : Steady s0 s) : Steady s0 (spkReading n slot v s) := by
  unfold spkReading
  exact Keeps.share (State.raise_steady (State.setSch_steady (Only.when (fun _ h1 => State.bump_steady h1) (State.setOn_steady (State.post_steady
    h))))) fun h2 => (Only.ite h (Only.ite (Only.ite (State.setSch_steady h2) (Only.ite (spkFast_steady (State.report_steady (State.setSch_steady
    h2))) (State.report_steady (State.setSch_steady h2)))) (State.setSch_steady (Only.when (fun _ h10 => State.bump_steady h10) (State.setOn_steady
    (State.post_steady h))))))

theorem outTrip_steady {o code s} (h : Steady s0 s) : Steady s0 (outTrip o code s) := by
  unfold outTrip
  exact Only.ite h (outShow_only trivial trivial (State.report_steady (State.setOch_steady h)))

theorem outReading_steady {o slot v s} (h : Steady s0 s) : Steady s0 (outReading o slot v s) := by
  unfold outReading
  exact Keeps.share (State.setOch_steady (Only.when (fun _ h1 => State.bump_steady h1) (State.setOn_steady (State.post_steady h)))) fun h2 =>
    (Keeps.share (State.raise_steady h2) fun h3 => (Only.ite h (Only.ite (Only.ite (outTrip_steady h3) (outShow_only trivial trivial
    (State.report_steady (State.setOch_steady h3)))) (outShow_only trivial trivial h2))))

theorem State.setCvch_steady {n x s} (h : Steady s0 s) : Steady s0 (State.setCvch n x s) := by
  unfold State.setCvch
  exact Steady.data h

theorem cvFail_steady {n code s} (h : Steady s0 s) : Steady s0 (cvFail n code s) := by
  unfold cvFail
  exact Only.ite h (cvShow_only trivial trivial (State.report_steady (State.setCvch_steady h)))

theorem cvReading_steady {n slot v s} (h : Steady s0 s) : Steady s0 (cvReading n slot v s) := by
  unfold cvReading
  exact Keeps.share (State.setCvch_steady (Only.when (fun _ h1 => State.bump_steady h1) (State.setOn_steady (State.post_steady h)))) fun h2 =>
    (Keeps.share (State.raise_steady h2) fun h3 => (Only.ite h (Only.ite (Only.ite (cvFail_steady h3) (cvShow_only trivial trivial
    (State.report_steady (State.setCvch_steady h3)))) (cvShow_only trivial trivial h2))))

theorem bstReading_steady {v s} (h : Steady s0 s) : Steady s0 (bstReading v s) := by
  unfold bstReading
  exact Keeps.share (State.raise_steady (Steady.data (Only.when (fun _ h1 => State.bump_steady h1) (State.setOn_steady (State.post_steady h))))) fun
    h2 => (Only.ite h (Only.ite (Only.ite (Steady.data (State.report_steady h2)) (Steady.data (State.report_steady h2))) (Steady.data (Only.when
    (fun _ h8 => State.bump_steady h8) (State.setOn_steady (State.post_steady h))))))

theorem takeRotation_steady {r s} (h : Steady s0 s) : Steady s0 (takeRotation r s) := by
  unfold takeRotation
  exact Only.ite (outReading_steady h) (Only.ite (cvReading_steady h) (Only.ite (cvReading_steady h) (Only.ite (spkReading_steady h) (Only.ite
    (bstReading_steady h) (Only.ite (State.post_steady h) (Only.ite (Only.ite (dieTemp_steady h) h) (Only.ite (Only.ite (dieTemp_steady h) h)
    (Only.ite (Only.ite (dieTemp_steady h) h) h))))))))

theorem takeSvc_steady {l s} (h : Steady s0 s) : Steady s0 (takeSvc l s) := by
  unfold takeSvc
  exact Only.eachOf (fun _ _ _ h1 => (Only.branchR (svcDeliver_steady h1) (fun h3 => takeRotation_steady h3))) h

theorem cvLimits_steady {limited s} (h : Steady s0 s) : Steady s0 (cvLimits limited s) := by
  unfold cvLimits
  exact Only.each (fun _ _ _ h1 => State.setOn_steady (State.setCvch_steady h1)) h

theorem coreTake_steady {l m s} (h : Steady s0 s) : Steady s0 (coreTake l m s) := by
  unfold coreTake
  split
  · exact takeSvc_steady h
  · exact jackTake_steady h
  · exact cvLimits_steady (outLimits_steady h)
  · exact takeNote_steady h
  · exact pressReply_steady h
  · exact h

theorem bstLimited_steady {s} (h : Steady s0 s) : Steady s0 (bstLimited s) := by
  unfold bstLimited
  exact Steady.data (Only.when (fun _ h1 => State.report_steady h1) (State.raise_steady (State.bump_steady h)))

theorem bstTake_steady {s} (h : Steady s0 s) : Steady s0 (bstTake s) := by
  unfold bstTake
  exact State.setOn_steady (State.setOn_steady (State.setOn_steady (State.setFld_steady (State.setFld_steady (State.setFld_steady
    (State.setFld_steady (Only.when (fun _ h1 => State.raise_steady (State.bump_steady h1)) (Only.when (fun _ h2 => bstLimited_steady h2)
    (State.setFld_steady (Steady.data h))))))))))

theorem bstTakePower_steady {s} (h : Steady s0 s) : Steady s0 (bstTakePower s) := by
  unfold bstTakePower
  exact Steady.data h

theorem thrForce_steady {c k v s} (h : Steady s0 s) : Steady s0 (thrForce c k v s) := by
  unfold thrForce
  exact Only.ite h (Only.ite (thrReset_steady h) (State.setFld_steady (State.setFld_steady (State.setFld_steady (State.setCtl_steady h)))))

theorem thrForces_steady {c s} (h : Steady s0 s) : Steady s0 (thrForces c s) := by
  unfold thrForces
  exact (Only.each
      (fun _ _ _ h1 =>
        (by
          split
          · exact h1
          · exact (thrForce_steady (State.setCtl_steady h1))))
      h)

theorem statTake_steady {words s} (h : Steady s0 s) : Steady s0 (statTake words s) := by
  unfold statTake
  exact Steady.data h

theorem State.setAch_steady {n x s} (h : Steady s0 s) : Steady s0 (State.setAch n x s) := by
  unfold State.setAch
  exact Steady.data h

theorem chanFail_steady {n code s} (h : Steady s0 s) : Steady s0 (chanFail n code s) := by
  unfold chanFail
  exact Only.ite h (State.report_steady (guardShow_only trivial (State.setAch_steady h)))

theorem matchEnter_steady {n v s} (h : Steady s0 s) : Steady s0 (matchEnter n v s) := by
  unfold matchEnter
  exact Only.when (fun _ h1 => State.raise_steady h1) (State.setFld_steady (State.setAch_steady h))

theorem matchSeek_steady {n v s} (h : Steady s0 s) : Steady s0 (matchSeek n v s) := by
  unfold matchSeek
  exact matchEnter_steady h

theorem pathOut_steady {n low s} (h : Steady s0 s) : Steady s0 (pathOut n low s) := by
  unfold pathOut
  exact Keeps.share (matchSeek_steady (State.raise_steady (State.report_steady (State.bump_steady (State.setAch_steady h))))) fun h1 => (Only.ite h
    (Only.ite (chanFail_steady h1) (guardShow_only trivial h1)))

theorem ainStatus_steady {n sh sl s} (h : Steady s0 s) : Steady s0 (ainStatus n sh sl s) := by
  unfold ainStatus
  exact Only.when (fun _ h1 => pathOut_steady h1) (Only.when (fun _ h2 => pathOut_steady h2) (Only.when (fun _ h3 => chanFail_steady h3) h))

theorem statTests_steady {n sh sl s} (h : Steady s0 s) : Steady s0 (statTests n sh sl s) := by
  unfold statTests
  exact Only.when (fun _ h1 => State.setAch_steady h1) h

theorem mergeChoose_steady {n w0 next s} (h : Steady s0 s) : Steady s0 (mergeChoose n w0 next s) := by
  unfold mergeChoose
  exact Only.ite (State.bump_steady (State.setAch_steady h)) (Only.ite (State.setAch_steady h) (Only.ite (State.setAch_steady h)
    (State.setAch_steady h)))

theorem mergeSample_steady {n w0 next acc} (h : Steady s0 acc.2) : Steady s0 (mergeSample n w0 next acc).2 := by
  unfold mergeSample
  exact Only.branch (State.setAch_steady (mergeChoose_steady h)) (fun h1 => Only.ite (State.bump_steady h1) (chanFail_steady h1))

theorem ainMerge_steady {n new s} (h : Steady s0 s) : Steady s0 (ainMerge n new s).2 := by
  unfold ainMerge
  exact State.setAch_steady (Only.foldl_2 (fun _ _ h1 => mergeSample_steady h1) h)

theorem State.setAud_steady {d x s} (h : Steady s0 s) : Steady s0 (State.setAud d x s) := by
  unfold State.setAud
  exact Steady.data h

theorem audPush_steady {d vs s} (h : Steady s0 s) : Steady s0 (audPush d vs s) := by
  unfold audPush
  exact State.setAud_steady h

theorem pathDisagree_steady {n hs ls s} (h : Steady s0 s) : Steady s0 (pathDisagree n hs ls s) := by
  unfold pathDisagree
  exact Keeps.share (State.report_steady (State.raise_steady (State.bump_steady (State.setAch_steady h)))) fun h1 => (Only.ite (Only.ite
    (guardShow_only trivial (State.setAch_steady h1)) (State.setAch_steady h1)) (State.setAch_steady h))

theorem audStep_steady {d s} (h : Steady s0 s) : Steady s0 (audStep d s) := by
  unfold audStep
  exact State.setAud_steady h

theorem audFixed_steady {d w s} (h : Steady s0 s) : Steady s0 (audFixed d w s) := by
  unfold audFixed
  exact fchPut_steady (State.setOn_steady (audStep_steady h))

theorem audValue_steady {d tag wt s} (h : Steady s0 s) : Steady s0 (audValue d tag wt s) := by
  unfold audValue
  exact fchPut_steady (State.setOn_steady (State.setAud_steady (audStep_steady h)))

theorem ainValue_steady {n tag s} (h : Steady s0 s) : Steady s0 (ainValue n tag s) := by
  unfold ainValue
  exact Keeps.share (State.setAch_steady h) fun h1 => (Only.ite (audFixed_steady h1) (Only.ite (audFixed_steady h1) (Only.ite (audFixed_steady h1)
    (Only.ite (audFixed_steady h1) (Only.ite (audFixed_steady h1) (audValue_steady h1))))))

theorem matchCount_steady {n new s} (h : Steady s0 s) : Steady s0 (matchCount n new s) := by
  unfold matchCount
  exact State.setAch_steady h

theorem ainTake_steady {n hs ls s} (h : Steady s0 s) : Steady s0 (ainTake n hs ls s) := by
  unfold ainTake
  exact Keeps.share (Only.when (fun _ h1 => ainStatus_steady h1) (Only.when (fun _ h2 => statTests_steady h2) (matchCount_steady
    (State.setAch_steady h)))) fun h3 => (Keeps.share (ainValue_steady (Only.when (fun _ h4 => State.raise_steady (State.bump_steady h4))
    (State.setFld_steady (State.setOn_steady (audPush_steady (Only.ite_2 (ainMerge_steady h3) (State.setAch_steady h3))))))) fun h7 => Only.ite
    (pathDisagree_steady h7) (State.setAch_steady h7))

theorem takeInputs_steady {data lost s} (h : Steady s0 s) : Steady s0 (takeInputs data lost s) := by
  unfold takeInputs
  exact Only.each (fun _ _ _ h1 => (Only.when (fun _ h2 => State.produce_steady h2) (ainTake_steady h1))) h

theorem takeConv_steady {t s} (h : Steady s0 s) : Steady s0 (takeConv t s) := by
  unfold takeConv
  exact Only.eachOf (fun _ _ _ h1 => coreTake_steady h1) (Only.when (fun _ h2 => takeInputs_steady h2) (Only.when (fun _ h3 => statTake_steady h3)
    h))

theorem State.setDie_steady {l x s} (h : Steady s0 s) : Steady s0 (State.setDie l x s) := by
  unfold State.setDie
  exact Steady.data h

theorem dieApply_steady {l s x} (h : Steady s0 s) : Steady s0 (dieApply l s x) := by
  unfold dieApply
  split
  · exact State.setDie_steady h
  · exact State.setDie_steady h
  · exact State.tell_steady (State.setDie_steady h)
  · exact State.setDie_steady h
  · exact State.setDie_steady h
  · exact h

theorem dieTake_steady {l t s} (h : Steady s0 s) : Steady s0 (dieTake l t s) := by
  unfold dieTake
  exact Only.foldl (fun _ _ _ h1 => dieApply_steady h1) h

theorem State.setBind_steady {o x s} (h : Steady s0 s) : Steady s0 (State.setBind o x s) := by
  unfold State.setBind
  exact Steady.data h

theorem jackFollow_steady {o s} (h : Steady s0 s) : Steady s0 (jackFollow o s) := by
  unfold jackFollow
  exact Only.ite (Only.ite (State.setBind_steady h) (State.setBind_steady h)) (Only.ite (State.setBind_steady h) (Only.ite (State.setBind_steady h)
    (Only.ite (State.setBind_steady h) h)))

theorem jackFollowAll_steady {s} (h : Steady s0 s) : Steady s0 (jackFollowAll s) := by
  unfold jackFollowAll
  exact Only.each (fun _ _ _ h1 => jackFollow_steady h1) h

theorem jackUndecide_steady {j s} (h : Steady s0 s) : Steady s0 (jackUndecide j s) := by
  unfold jackUndecide
  exact State.setFld_steady (State.setFld_steady (State.setFld_steady (State.setJk_steady h)))

theorem jackForce_steady {j v s} (h : Steady s0 s) : Steady s0 (jackForce j v s) := by
  unfold jackForce
  exact Only.ite h (Only.ite (jackUndecide_steady h) (State.setFld_steady (State.setJk_steady (jackMove_steady h))))

theorem jackForces_steady {s} (h : Steady s0 s) : Steady s0 (jackForces s) := by
  unfold jackForces
  exact (jackFollowAll_steady
      (Only.each
        (fun _ _ _ h1 =>
          (by
            split
            · exact h1
            · exact (jackForce_steady (State.setJk_steady h1))))
        h))

theorem spkTake_steady {s} (h : Steady s0 s) : Steady s0 (spkTake s) := by
  unfold spkTake
  exact Only.each (fun _ _ _ h1 => (State.setOn_steady (State.setFld_steady (State.setFld_steady (State.setFld_steady (State.setFld_steady
    (State.setFld_steady (State.setFld_steady h1)))))))) h

/-! The work that starts with a tick (R46). -/

theorem hbLatch_steady {s} (h : Steady s0 s) : Steady s0 (hbLatch s) := by
  unfold hbLatch
  exact Only.when (fun _ h1 => Steady.data h1) h

theorem qSweepStart_steady {s} (h : Steady s0 s) : Steady s0 (qSweepStart s) := by
  unfold qSweepStart
  exact State.setFld_steady (Steady.data h)

theorem qTickCheck_steady {s} (h : Steady s0 s) : Steady s0 (qTickCheck s) := by
  unfold qTickCheck
  exact Keeps.share (State.raise_steady (State.bump_steady (State.report_steady h))) fun h1 => (Only.ite h (Only.ite (Steady.data h) (Only.ite
    (Steady.data h1) (qSweepStart_steady (Steady.data h1)))))

theorem audFrozenShow_steady {d s} (h : Steady s0 s) : Steady s0 (audFrozenShow d s) := by
  unfold audFrozenShow
  exact State.setOn_steady h

theorem banksShow_steady {s} (h : Steady s0 s) : Steady s0 (banksShow s) := by
  unfold banksShow
  exact Only.each (fun _ _ _ h1 => ctlFrozenShow_steady h1) (Only.each (fun _ _ _ h2 => audFrozenShow_steady h2) h)

theorem frozenShow_steady {fld act fading on will live s} (h : Steady s0 s) : Steady s0 (frozenShow fld act fading on will live s) := by
  unfold frozenShow
  exact State.setOn_steady h

theorem convFrozenShow_steady {c s} (h : Steady s0 s) : Steady s0 (convFrozenShow c s) := by
  unfold convFrozenShow
  exact frozenShow_steady h

theorem bqFrozenShow_steady {n s} (h : Steady s0 s) : Steady s0 (bqFrozenShow n s) := by
  unfold bqFrozenShow
  exact frozenShow_steady h

theorem fxBanksShow_steady {s} (h : Steady s0 s) : Steady s0 (fxBanksShow s) := by
  unfold fxBanksShow
  exact Only.each (fun _ _ _ h1 => convFrozenShow_steady h1) (Only.each (fun _ _ _ h2 => bqFrozenShow_steady h2) h)

theorem State.viol_steady {page kind ofs s} (h : Steady s0 s) : Steady s0 (State.viol page kind ofs s) := by
  unfold State.viol
  exact State.setFld_steady (State.setFld_steady (State.bump_steady h))

theorem clampStaged_steady {page lo hi f s} (h : Steady s0 s) : Steady s0 (clampStaged page lo hi f s) := by
  unfold clampStaged
  exact Only.ite h (State.viol_steady (Steady.data h))

theorem pressClamps_steady {s} (h : Steady s0 s) : Steady s0 (pressClamps s) := by
  unfold pressClamps
  exact clampStaged_steady (clampStaged_steady (clampStaged_steady (Only.each (fun _ _ _ h1 => clampStaged_steady h1) h)))

theorem pressCopy_steady {s} (h : Steady s0 s) : Steady s0 (pressCopy s) := by
  unfold pressCopy
  refine .ite h (.when (fun _ h1 => .each (fun _ _ _ h2 => .when (fun _ h3 => .eachOf (fun _ _ _ h4 => State.tell_steady h4)
    (State.tell_steady h3)) h2) (State.setFld_steady h1)) (pressClamps_steady (fxBanksShow_steady (banksShow_steady ?_))))
  exact Steady.data h

theorem bstTell_steady {inst code s} (h : Steady s0 s) : Steady s0 (bstTell inst code s) := by
  unfold bstTell
  exact State.note_steady h

theorem bstTemp_steady {code s} (h : Steady s0 s) : Steady s0 (bstTemp code s) := by
  unfold bstTemp
  exact Only.branchR (Only.when (fun _ h3 => bstTell_steady h3) (Steady.data h)) (fun h2 => bstTell_steady (Steady.data h2))

theorem bstMeasure_steady {w s} (h : Steady s0 s) : Steady s0 (bstMeasure w s) := by
  unfold bstMeasure
  exact bstTemp_steady (Steady.data h)

theorem bstSense_steady {w s} (h : Steady s0 s) : Steady s0 (bstSense w s) := by
  unfold bstSense
  split
  · exact bstMeasure_steady h
  · exact Steady.data h

theorem vFlags_steady {s} (h : Steady s0 s) : Steady s0 (vFlags s) := by
  unfold vFlags
  exact State.setOn_steady (State.setOn_steady (State.setOn_steady h))

theorem vSend_steady {v first s} (h : Steady s0 s) : Steady s0 (vSend v first s) := by
  unfold vSend
  exact vFlags_steady (State.setFld_steady (Steady.data h))

theorem vMargin_steady {m s} (h : Steady s0 s) : Steady s0 (vMargin m s) := by
  unfold vMargin
  exact Only.branchR (Steady.data h) (fun h2 => (Only.ite (State.report_steady h2) (Only.ite h2 (State.report_steady (State.bump_steady
    (vSend_steady h2))))))

theorem calShow_steady {s} (h : Steady s0 s) : Steady s0 (calShow s) := by
  unfold calShow
  exact State.setWord_steady (State.setWord_steady h)

theorem calPut_steady {c ticks s} (h : Steady s0 s) : Steady s0 (calPut c ticks s) := by
  unfold calPut
  exact calShow_steady (State.setOn_steady (Only.when (fun _ h1 => State.raise_steady h1) (Steady.data h)))

theorem calDerive_steady {moved s} (h : Steady s0 s) : Steady s0 (calDerive moved s) := by
  unfold calDerive
  exact (Keeps.share (State.setFld_steady h) fun h1 =>
      (by
        split
        · exact h
        · exact (Only.ite
              (State.setWord_steady (State.setWord_steady (State.setFld_steady h)))
              (Only.ite (calShow_steady h1) (Only.ite (State.setFld_steady (calPut_steady h1)) (calPut_steady h1))))))

theorem timeTick_steady {s} (h : Steady s0 s) : Steady s0 (timeTick s) := by
  unfold timeTick
  exact Only.branchR (Steady.data h) (fun h2 => calDerive_steady h2)

theorem winAsk_steady {w s} (h : Steady s0 s) : Steady s0 (winAsk w s) := by
  unfold winAsk
  split
  · exact Only.ite (Only.ite (qGrant_onlyQueue allQueue steady_qmg h) (State.setFld_steady h)) h
  · exact h

theorem winAskAll_steady {s} (h : Steady s0 s) : Steady s0 (winAskAll s) := by
  unfold winAskAll
  exact Only.each (fun _ _ _ h1 => winAsk_steady h1) h

theorem fcTick_steady {s} (h : Steady s0 s) : Steady s0 (fcTick s) := by
  unfold fcTick
  exact State.setFld_steady h

theorem outMuteGo_steady {o s} (h : Steady s0 s) : Steady s0 (outMuteGo o s) := by
  unfold outMuteGo
  exact Only.ite (State.setOch_steady h) (Only.ite h (State.setOch_steady h))

theorem outCut_steady {o s} (h : Steady s0 s) : Steady s0 (outCut o s) := by
  unfold outCut
  exact State.setOch_steady h

theorem outPower_steady {o s} (h : Steady s0 s) : Steady s0 (outPower o s) := by
  unfold outPower
  exact Only.ite (outCut_steady (State.setOch_steady h)) (Only.ite (Only.ite (outCut_steady h) h) (Only.ite (Only.ite (State.setOch_steady h) h)
    (Only.ite (State.setOch_steady h) (Only.ite (State.setOch_steady h) (Only.ite (State.setOch_steady h) h)))))

theorem outSwitchGo_steady {o p s} (h : Steady s0 s) : Steady s0 (outSwitchGo o p s) := by
  unfold outSwitchGo
  exact State.setOch_steady h

theorem outRamps_steady {o s} (h : Steady s0 s) : Steady s0 (outRamps o s) := by
  unfold outRamps
  exact (Only.branchR
      (State.setOch_steady h)
      (fun h2 =>
        (by
          split
          · exact (Only.ite (State.setOch_steady h2) (outSwitchGo_steady h2))
          · exact (State.setOch_steady h2))))

theorem outTick_steady {s} (h : Steady s0 s) : Steady s0 (outTick s) := by
  unfold outTick
  exact Only.each (fun _ _ _ h1 => (outShow_only trivial trivial (State.setOch_steady (outPower_steady (outRamps_steady (outMuteGo_steady h1)))))) h

theorem jackSend_steady {codes s} (h : Steady s0 s) : Steady s0 (jackSend codes s) := by
  unfold jackSend
  exact Only.when (fun _ h1 => State.tell_steady h1) h

theorem spkTell_steady {kind n arg s} (h : Steady s0 s) : Steady s0 (spkTell kind n arg s) := by
  unfold spkTell
  exact State.note_steady h

theorem clockMute_steady {s} (h : Steady s0 s) : Steady s0 (clockMute s) := by
  unfold clockMute
  exact Only.branch (Steady.data h) (fun h1 => (Only.each (fun _ _ _ h2 => (Only.ite (State.raise_steady (State.setSch_steady h2)) (Only.ite
    (spkOff_steady h2) h2))) (Steady.data (Only.when (fun _ h6 => spkTell_steady h6) h1))))

theorem clockMuteDue_steady {s} (h : Steady s0 s) : Steady s0 (clockMuteDue s) := by
  unfold clockMuteDue
  exact Only.ite (clockMute_steady h) h

theorem spkTemp_steady {n code s} (h : Steady s0 s) : Steady s0 (spkTemp n code s) := by
  unfold spkTemp
  exact Only.branchR (Only.when (fun _ h3 => spkTell_steady h3) (State.setSch_steady h)) (fun h2 => spkTell_steady (spkFast_steady h2))

theorem spkSense_steady {n w s} (h : Steady s0 s) : Steady s0 (spkSense n w s) := by
  unfold spkSense
  exact spkTemp_steady (State.setSch_steady (State.setSch_steady h))

theorem spkLimit_steady {n s} (h : Steady s0 s) : Steady s0 (spkLimit n s) := by
  unfold spkLimit
  exact Only.when (fun _ h1 => State.raise_steady (State.bump_steady h1)) (State.setOn_steady (State.setOn_steady (State.setOn_steady
    (State.setOn_steady (State.setSch_steady h)))))

theorem spkRamps_steady {n s} (h : Steady s0 s) : Steady s0 (spkRamps n s) := by
  unfold spkRamps
  exact (Keeps.share (State.setSch_steady h) fun h1 =>
      (Only.branch
        (spkOff_steady h1)
        (fun h2 =>
          (Only.ite
            (State.setSch_steady h1)
            (Only.ite
              (Only.ite h2 h1)
              (Only.ite
                (State.setSch_steady h1)
                (by
                  split
                  · exact (Only.ite (State.setSch_steady h1) h1)
                  · exact h1)))))))

theorem spkPower_steady {n s} (h : Steady s0 s) : Steady s0 (spkPower n s) := by
  unfold spkPower
  exact Keeps.share (State.setSch_steady h) fun h1 => (Only.ite (spkFast_steady h1) (Only.ite (Only.ite h1 (Only.ite (Only.ite (State.setSch_steady
    h1) h1) (State.setSch_steady (spkOff_steady h1)))) (Only.ite (State.setSch_steady h1) (Only.ite (State.setSch_steady h1) (Only.ite h1 (Only.ite
    (spkOff_steady h1) h1))))))

theorem spkResults_steady {n s} (h : Steady s0 s) : Steady s0 (spkResults n s) := by
  unfold spkResults
  exact Only.ite h (State.post_steady (State.post_steady h))

theorem spkMuteGo_steady {n s} (h : Steady s0 s) : Steady s0 (spkMuteGo n s) := by
  unfold spkMuteGo
  exact Only.ite (State.setSch_steady h) (Only.ite h (State.setSch_steady h))

theorem spkTick_steady {sense s} (h : Steady s0 s) : Steady s0 (spkTick sense s) := by
  unfold spkTick
  exact (Only.branch
      (Only.each
        (fun _ _ _ h2 => (State.setSch_steady h2))
        (Only.each
          (fun _ _ _ h3 =>
            (Only.ite
              (State.setSch_steady h3)
              (spkResults_steady
                (spkLimit_steady
                  (spkRamps_steady
                    (spkMuteGo_steady
                      (spkPower_steady
                        (by
                          split
                          · exact (spkSense_steady h3)
                          · exact h3))))))))
          (Steady.data h)))
      (fun h1 => (Only.each (fun _ _ _ h6 => (State.setFld_steady (State.setSch_steady h6))) h1)))

theorem servoShow_steady {s} (h : Steady s0 s) : Steady s0 (servoShow s) := by
  unfold servoShow
  exact State.setOn_steady (State.setOn_steady (State.setOn_steady (State.setOn_steady h)))

theorem svcTick_steady {s} (h : Steady s0 s) : Steady s0 (svcTick s) := by
  unfold svcTick
  exact Keeps.share (Only.when (fun _ h1 => State.setFld_steady (Steady.data h1)) h) fun h2 => (Only.ite (svcShow_only trivial h2) (svcShow_only
    trivial (Steady.data h2)))

theorem setPll_steady {i v auto s} (h : Steady s0 s) : Steady s0 (setPll i v auto s) := by
  unfold setPll
  exact Steady.data h

theorem pllRamped_steady {i s} (h : Steady s0 s) : Steady s0 (pllRamped i s) := by
  unfold pllRamped
  exact Only.ite (setPll_steady h) h

theorem jKeep_steady {c s} (h : Steady s0 s) : Steady s0 (jKeep c s) := by
  unfold jKeep
  exact Steady.data h

theorem qWriteBytes_steady {q p bs s} (h : Steady s0 s) : Steady s0 (qWriteBytes q p bs s).1 := by
  unfold qWriteBytes
  exact qWriteSig_onlyQueue allQueue steady_qmg steady_backs h

theorem jPut_steady {r s} (h : Steady s0 s) : Steady s0 (jPut r s) := by
  unfold jPut
  exact Steady.data h

theorem jSupersede_steady {p s} (h : Steady s0 s) : Steady s0 (jSupersede p s) := by
  unfold jSupersede
  exact Steady.data h

theorem jWrite_steady {typ id p body s} (h : Steady s0 s) : Steady s0 (jWrite typ id p body s) := by
  unfold jWrite
  exact State.setFld_steady (jSupersede_steady (jPut_steady h))

theorem jErase_steady {p k s} (h : Steady s0 s) : Steady s0 (jErase p k s) := by
  unfold jErase
  exact Steady.data h

theorem jMove_steady {r p s} (h : Steady s0 s) : Steady s0 (jMove r p s) := by
  unfold jMove
  exact State.bump_steady (jWrite_steady (jErase_steady h))

theorem jFree_steady {s} (h : Steady s0 s) : Steady s0 (jFree s) := by
  unfold jFree
  exact State.setFld_steady h

theorem jResult_steady {r s} (h : Steady s0 s) : Steady s0 (jResult r s) := by
  unfold jResult
  exact Only.when (fun _ h1 => State.raise_steady h1) (State.raise_steady (State.post_steady (Only.when (fun _ h2 => State.bump_steady h2) h)))

theorem jEnd_steady {r s} (h : Steady s0 s) : Steady s0 (jEnd r s) := by
  unfold jEnd
  exact jResult_steady (jFree_steady (State.setFld_steady (State.setFld_steady (Steady.data h))))

theorem jSettle_steady {c s} (h : Steady s0 s) : Steady s0 (jSettle c s) := by
  unfold jSettle
  dsimp only
  exact (Keeps.share (jEnd_steady h) fun h1 =>
      (Only.ite
        (jEnd_steady h)
        (Only.ite
          (by
            split
            · exact (State.setFld_steady (jKeep_steady (jErase_steady h)))
            · exact h1)
          (by
            split
            · exact (State.setFld_steady (jKeep_steady (jErase_steady h)))
            · exact (by
                  split
                  · exact h1
                  · exact (jKeep_steady (jMove_steady h)))))))

theorem qAdvance_steady {q n s} (h : Steady s0 s) : Steady s0 (qAdvance q n s) := by
  unfold qAdvance
  exact qSettle_onlyQueue allQueue steady_qmg (State.setQueue_onlyQueue steady_qmg h)

theorem qPass_steady {q s} (h : Steady s0 s) : Steady s0 (qPass q s) := by
  unfold qPass
  exact qSettle_onlyQueue allQueue steady_qmg (State.setQueue_onlyQueue steady_qmg h)

theorem jTake_steady {q k n s} (h : Steady s0 s) : Steady s0 (jTake q k n s).2 := by
  induction k generalizing n s with
  | zero => exact h
  | succ k ih =>
    unfold jTake
    split
    · exact h
    · exact .ite_2 (ih (qPass_steady h)) (.ite_2 h (ih (qAdvance_steady h)))

theorem jProgram_steady {c s} (h : Steady s0 s) : Steady s0 (jProgram c s) := by
  unfold jProgram
  dsimp only
  exact Only.when (fun _ h1 => State.setFld_steady h1) (jKeep_steady (jTake_steady h))

theorem nvmTick_steady {s} (h : Steady s0 s) : Steady s0 (nvmTick s) := by
  unfold nvmTick
  split
  · exact h
  · exact (Only.ite
        (Only.ite (jSettle_steady h) (jProgram_steady h))
        (Only.ite (Only.ite h (jKeep_steady (qWriteBytes_steady h))) h))

theorem bootRun_steady {src slot key body s} (h : Steady s0 s) : Steady s0 (bootRun src slot key body s) := by
  unfold bootRun
  exact State.setFld_steady (State.setFld_steady (State.setFld_steady (State.setOn_steady (State.setFld_steady (State.setFld_steady
    (State.setFld_steady (State.setFld_steady (Steady.data h))))))))

theorem hostBoot_steady {s} (h : Steady s0 s) : Steady s0 (hostBoot s) := by
  unfold hostBoot
  dsimp only
  exact (Keeps.share (Steady.data h) fun h1 =>
      (by
        split
        · exact (bootRun_steady h1)
        · exact (State.setFld_steady h1)))

theorem bootWait_steady {result s} (h : Steady s0 s) : Steady s0 (bootWait result s) := by
  unfold bootWait
  exact Only.when (fun _ h1 => State.report_steady h1) (State.raise_steady (State.setFld_steady (State.setFld_steady (Steady.data h))))

theorem jBegin_steady {c step s} (h : Steady s0 s) : Steady s0 (jBegin c step s) := by
  unfold jBegin
  exact State.setFld_steady (State.setFld_steady (jKeep_steady h))

theorem jMount_steady {o s} (h : Steady s0 s) : Steady s0 (jMount o s) := by
  unfold jMount
  split
  · exact jBegin_steady h
  · exact jResult_steady h

theorem bootTick_steady {s} (h : Steady s0 s) : Steady s0 (bootTick s) := by
  unfold bootTick
  exact Keeps.share (jMount_steady h) fun h1 => (Only.ite (Only.ite (hostBoot_steady h) h) (Only.ite h (Only.ite (Only.ite (Steady.data h1)
    (bootWait_steady h1)) (Only.ite (Only.ite (Steady.data h) (bootWait_steady h)) h))))

theorem outReadbackLost_steady {s} (h : Steady s0 s) : Steady s0 (outReadbackLost s) := by
  unfold outReadbackLost
  exact Only.ite h (Only.each (fun _ _ _ h2 => State.setFld_steady (State.setOch_steady h2)) h)

theorem bstClipCount_steady {s} (h : Steady s0 s) : Steady s0 (bstClipCount s) := by
  unfold bstClipCount
  exact Only.ite h (State.raise_steady (State.bump_steady h))

theorem bstClips_steady {knee s} (h : Steady s0 s) : Steady s0 (bstClips knee s) := by
  unfold bstClips
  exact Only.each (fun _ _ _ h1 => (Only.when (fun _ h2 => State.setFld_steady h2) (State.setSch_steady h1))) (State.setFld_steady h)

theorem bstEnvelopes_steady {s} (h : Steady s0 s) : Steady s0 (bstEnvelopes s) := by
  unfold bstEnvelopes
  exact Steady.data (Only.each (fun _ _ _ h1 => Steady.data h1) h)

theorem bstCopy_steady {s} (h : Steady s0 s) : Steady s0 (bstCopy s) := by
  unfold bstCopy
  exact Steady.data h

theorem bstShape_steady {s} (h : Steady s0 s) : Steady s0 (bstShape s) := by
  unfold bstShape
  exact bstClipCount_steady (bstClips_steady (bstCopy_steady (bstEnvelopes_steady h)))

theorem bstRun_steady {s} (h : Steady s0 s) : Steady s0 (bstRun s) := by
  unfold bstRun
  exact Only.ite (Steady.data h) (Only.ite (Steady.data h) (Only.ite (Steady.data h) (Steady.data h)))

theorem bstTick_steady {s} (h : Steady s0 s) : Steady s0 (bstTick s) := by
  unfold bstTick
  exact Only.branch (Only.branch (Steady.data (bstRun_steady (bstShape_steady h))) (fun h2 => (State.post_steady (State.post_steady
    (State.post_steady h2))))) (fun h1 => State.setFld_steady (Steady.data h1))

theorem outSend_steady {o s} (h : Steady s0 s) : Steady s0 (outSend o s) := by
  unfold outSend
  exact Only.branchR (State.setOch_steady (State.setOch_steady (Only.when (fun _ h3 => State.raise_steady (State.bump_steady h3)) h))) (fun h2 =>
    State.post_steady h2)

theorem cvPut_steady {n v s} (h : Steady s0 s) : Steady s0 (cvPut n v s) := by
  unfold cvPut
  exact Only.when (fun _ h1 => State.post_steady h1) (State.setCvch_steady h)

theorem cvValue_steady {n s} (h : Steady s0 s) : Steady s0 (cvValue n s) := by
  unfold cvValue
  exact Keeps.share (State.setFld_steady h) fun h1 => (Only.ite (cvPut_steady (State.setFld_steady h1)) (Only.ite (cvPut_steady (State.setFld_steady
    h)) (Only.ite (cvPut_steady (State.setOn_steady h1)) (cvPut_steady (State.setOn_steady (Only.when (fun _ h8 => State.raise_steady
    (State.bump_steady h8)) (State.setOn_steady h)))))))

theorem cvTick_steady {s} (h : Steady s0 s) : Steady s0 (cvTick s) := by
  unfold cvTick
  exact Only.branch (Only.each (fun _ _ _ h2 => (Only.ite (State.setCvch_steady h2) (cvShow_only trivial trivial (cvValue_steady h2)))) h) (fun h1
    => (Only.each (fun _ _ _ h5 => State.setFld_steady (State.setCvch_steady h5)) h1))

theorem sinksLatch_steady {s} (h : Steady s0 s) : Steady s0 (sinksLatch s) := by
  unfold sinksLatch
  exact bstTick_steady (cvTick_steady (Only.each (fun _ _ _ h1 => outSend_steady h1) h))

theorem tickWork_steady {w s} (h : Steady s0 s) : Steady s0 (tickWork w s) := by
  unfold tickWork
  exact (Keeps.share (winAskAll_steady
          (qTickCheck_steady
            (bootTick_steady
              (nvmTick_steady
                (fcTick_steady
                  (timeTick_steady
                    (svcTick_steady
                      (Only.branch
                        (Only.when
                          (fun _ h2 => (pllRamped_steady h2))
                          (Only.when
                            (fun _ h3 => (pllRamped_steady h3))
                            (bstSense_steady
                              (spkTick_steady
                                (outReadbackLost_steady
                                  (outTick_steady (jackSend_steady (State.tell_steady (clockMuteDue_steady h)))))))))
                        (fun h1 => (sinksLatch_steady h1)))))))))) fun h4 =>
      (servoShow_steady
        (hbLatch_steady
          (pressCopy_steady
            (cvRefShow_steady
              (by
                split
                · exact (vMargin_steady h4)
                · exact h4))))))

theorem spnTaps_steady {s} (h : Steady s0 s) : Steady s0 (spnTaps s) := by
  unfold spnTaps
  exact Steady.own (Only.each (fun _ _ _ h1 => (Only.ite h1 (State.post_steady (Steady.own h1)))) h)

theorem spnErrors_steady {errs fixed old s} (h : Steady s0 s) : Steady s0 (spnErrors errs fixed old s) := by
  unfold spnErrors
  exact Steady.data (Only.eachOf (fun _ _ _ h1 => (State.raise_steady (State.report_steady (State.setFld_steady h1)))) (Only.eachOf (fun _ _ _ h2 =>
    State.raise_steady (State.report_steady h2)) (State.bumpBy_steady (State.bumpBy_steady h))))

theorem portsLog_steady {s} (h : Steady s0 s) : Steady s0 (portsLog s) := by
  unfold portsLog
  refine Steady.clocks ?_
  exact Only.eachOf (fun _ _ _ h1 => logReport_steady h1) (Only.eachOf (fun _ _ _ h2 => logReport_steady h2) h)

theorem fltTake_steady {s} (h : Steady s0 s) : Steady s0 (fltTake s) := by
  unfold fltTake
  exact Only.eachOf (fun _ _ _ h1 => logReport_steady h1) (Steady.data h)

theorem logGranted_steady {s} (h : Steady s0 s) : Steady s0 (logGranted s) := by
  unfold logGranted
  exact Only.ite (logShow_only allLog (Steady.data h)) h

theorem viewShow_steady {s} (h : Steady s0 s) : Steady s0 (viewShow s) := by
  unfold viewShow
  exact State.setFld_steady (State.setFld_steady h)

theorem viewTick_steady {s} (h : Steady s0 s) : Steady s0 (viewTick s) := by
  unfold viewTick
  exact Only.ite h (viewShow_steady (Only.eachOf (fun _ _ _ h2 => (Only.ite h2 (Only.when (fun _ h4 => State.setFld_steady h4) (Steady.data h2))))
    h))

theorem fnShow_steady {s} (h : Steady s0 s) : Steady s0 (fnShow s) := by
  unfold fnShow
  exact State.setOn_steady h

theorem fltTick_steady {s} (h : Steady s0 s) : Steady s0 (fltTick s) := by
  unfold fltTick
  exact fnShow_steady (viewTick_steady (logGranted_steady (fltTake_steady h)))

/-! The work up to the last cycle of a tick (R45). -/

theorem fchHistory_steady {u age fatal s} (h : Steady s0 s) : Steady s0 (fchHistory u age fatal s) := by
  unfold fchHistory
  exact Only.ite (State.bump_steady h) (Only.ite (State.report_steady (State.setAud_steady h)) (State.report_steady (State.setCtl_steady h)))

theorem srcProbe_steady {s} (h : Steady s0 s) : Steady s0 (srcProbe s) := by
  unfold srcProbe
  exact Only.ite h (Only.ite (State.post_steady h) (Only.ite h (State.post_steady h)))

theorem State.setMic_steady {k x s} (h : Steady s0 s) : Steady s0 (State.setMic k x s) := by
  unfold State.setMic
  exact Steady.data h

theorem micTake_steady {k lines s} (h : Steady s0 s) : Steady s0 (micTake k lines s) := by
  unfold micTake
  exact State.setMic_steady h

theorem State.setBit_steady {f k b s} (h : Steady s0 s) : Steady s0 (State.setBit f k b s) := by
  unfold State.setBit
  exact State.setFld_steady h

theorem micValue_steady {k tag wt s} (h : Steady s0 s) : Steady s0 (micValue k tag wt s) := by
  unfold micValue
  exact audValue_steady (audPush_steady h)

theorem micRun_steady {k s} (h : Steady s0 s) : Steady s0 (micRun k s) := by
  unfold micRun
  exact Keeps.share (micValue_steady h) fun h1 => (Only.ite (audFixed_steady h) (Only.ite (State.setMic_steady h1) (Only.ite (micValue_steady h)
    (Only.ite (State.setMic_steady h1) (Only.ite (audFixed_steady h) (State.setMic_steady (audFixed_steady h)))))))

theorem micTick_steady {lines s} (h : Steady s0 s) : Steady s0 (micTick lines s) := by
  unfold micTick
  exact Only.each (fun _ _ _ h1 => (Only.branch (State.setBit_steady h1) (fun h2 => (Only.when (fun _ h3 => micTake_steady h3) (micRun_steady
    h2))))) h

theorem qFlush_steady {q s} (h : Steady s0 s) : Steady s0 (qFlush q s) := by
  unfold qFlush
  exact Only.eachOf (fun _ _ _ h1 => qCancel_onlyQueue allQueue steady_qmg h1) (State.bumpBy_steady (qFree_onlyQueue allQueue steady_qmg
    (State.setQueue_onlyQueue steady_qmg h)))

theorem qTableError_steady {q both s} (h : Steady s0 s) : Steady s0 (qTableError q both s) := by
  unfold qTableError
  exact Only.ite (State.bump_steady h) (qSweepStart_steady (State.setFld_steady (qFlush_steady (State.report_steady h))))

theorem State.setSpdi_steady {n x s} (h : Steady s0 s) : Steady s0 (State.setSpdi n x s) := by
  unfold State.setSpdi
  exact Steady.data h

theorem spdiMiscount_steady {n s} (h : Steady s0 s) : Steady s0 (spdiMiscount n s) := by
  unfold spdiMiscount
  exact State.setSpdi_steady h

theorem qSlip_steady {s} (h : Steady s0 s) : Steady s0 (qSlip s) := by
  unfold qSlip
  exact Only.ite h (Steady.data h)

theorem State.setXing_steady {k x s} (h : Steady s0 s) : Steady s0 (State.setXing k x s) := by
  unfold State.setXing
  exact Steady.data h

theorem xingSlip_steady {k s} (h : Steady s0 s) : Steady s0 (xingSlip k s) := by
  unfold xingSlip
  exact Only.ite h (State.setXing_steady h)

theorem State.setZtx_steady {n x s} (h : Steady s0 s) : Steady s0 (State.setZtx n x s) := by
  unfold State.setZtx
  exact Steady.data h

theorem ztxRestart_steady {n s} (h : Steady s0 s) : Steady s0 (ztxRestart n s) := by
  unfold ztxRestart
  exact State.setZtx_steady h

theorem State.setZrx_steady {r x s} (h : Steady s0 s) : Steady s0 (State.setZrx r x s) := by
  unfold State.setZrx
  exact Steady.data h

theorem zrxRestart_steady {r s} (h : Steady s0 s) : Steady s0 (zrxRestart r s) := by
  unfold zrxRestart
  exact Only.when (fun _ h1 => State.setFld_steady h1) (State.setZrx_steady h)

theorem zklConserve_steady {inst s} (h : Steady s0 s) : Steady s0 (zklConserve inst s) := by
  unfold zklConserve
  exact Keeps.share (State.raise_steady (State.report_steady h)) fun h1 => (Only.ite (zrxRestart_steady h1) (ztxRestart_steady h1))

theorem State.setPort_steady {p x s} (h : Steady s0 s) : Steady s0 (State.setPort p x s) := by
  unfold State.setPort
  exact Steady.data h

theorem sapMiscount_steady {p s} (h : Steady s0 s) : Steady s0 (sapMiscount p s) := by
  unfold sapMiscount
  exact State.setPort_steady h

theorem tickCounts_steady {l s} (h : Steady s0 s) : Steady s0 (tickCounts l s) := by
  unfold tickCounts
  exact Only.eachOf (fun _ _ _ h1 => (Only.ite (xingSlip_steady h1) (Only.ite (sapMiscount_steady h1) (Only.ite (spdiMiscount_steady h1) (Only.ite
    (zklConserve_steady h1) (Only.ite (qSlip_steady h1) (State.raise_steady (State.report_steady h1)))))))) h

theorem srcSlew_steady {s} (h : Steady s0 s) : Steady s0 (srcSlew s) := by
  unfold srcSlew
  exact Only.ite h (Only.each (fun _ _ _ h2 => (Only.when (fun _ h3 => State.setXing_steady h3) h2)) h)

theorem srcTick_steady {s} (h : Steady s0 s) : Steady s0 (srcTick s) := by
  unfold srcTick
  exact Steady.data (srcSlew_steady h)

theorem mixScrub_steady {s} (h : Steady s0 s) : Steady s0 (mixScrub s) := by
  unfold mixScrub
  exact Steady.data h

theorem fxEcc_steady {delay q fatal s} (h : Steady s0 s) : Steady s0 (fxEcc delay q fatal s) := by
  unfold fxEcc
  exact Only.ite (State.bump_steady h) (Only.ite (State.report_steady (Steady.data h)) (State.report_steady (Steady.data h)))

theorem scrubPool_steady {k s} (h : Steady s0 s) : Steady s0 (scrubPool k s) := by
  unfold scrubPool
  exact Only.eachOf (fun _ _ _ h1 => fxEcc_steady h1) (Steady.data h)

theorem tickScrub_steady {s} (h : Steady s0 s) : Steady s0 (tickScrub s) := by
  unfold tickScrub
  exact mixScrub_steady (Only.each (fun _ _ _ h1 => scrubPool_steady h1) h)

theorem tickQuires_steady {l s} (h : Steady s0 s) : Steady s0 (tickQuires l s) := by
  unfold tickQuires
  exact (Only.eachOf
      (fun _ _ _ h1 =>
        (Keeps.share (Only.ite h1 (Steady.data h1)) fun h3 =>
          (Only.ite
            (Only.ite
              (State.bump_steady h3)
              (State.report_steady
                (State.raise_steady
                  (State.bump_steady
                    (by
                      split
                      · exact (State.setQueue_onlyQueue steady_qmg h3)
                      · exact h3)))))
            (fxEcc_steady h3))))
      h)

theorem evFlush_steady {s} (h : Steady s0 s) : Steady s0 (evFlush s) := by
  unfold evFlush
  exact Keeps.share (qWriteSig_onlyQueue allQueue steady_qmg steady_backs (Steady.data h)) fun h1 => (Only.ite (Steady.data h) (Only.ite
    (State.bumpBy_steady h1) (State.raise_steady (State.bump_steady h1))))

theorem spdoOut_steady {n ws s} (h : Steady s0 s) : Steady s0 (spdoOut n ws s) := by
  unfold spdoOut
  exact Steady.data h

theorem srcEngine_steady {kind id w prev s} (h : Steady s0 s) : Steady s0 (srcEngine kind id w prev s).2 := by
  unfold srcEngine
  exact Only.ite_2 h (Only.ite_2 (Steady.data h) (Steady.data h))

theorem xingMake_steady {m ins k s} (h : Steady s0 s) : Steady s0 (xingMake m ins k s).2 := by
  unfold xingMake
  exact Only.foldl_2 (fun _ _ h1 => (Only.foldl_2 (fun _ _ h2 => (Keeps.share h2 fun h3 => (Only.ite_2 h3 (Only.ite_2 h3 (srcEngine_steady h3)))))
    h1)) (State.setXing_steady h)

theorem spdoRun_steady {n s} (h : Steady s0 s) : Steady s0 (spdoRun n s).2 := by
  unfold spdoRun
  dsimp only
  exact (Keeps.share (xingMake_steady h) fun h1 =>
      (Only.ite_2
        (spdoOut_steady h)
        (by
          split
          · exact (spdoOut_steady h1)
          · exact h1)))

theorem spdoTick_steady {s} (h : Steady s0 s) : Steady s0 (spdoTick s) := by
  unfold spdoTick
  dsimp only
  exact Only.ite (Steady.data h) (Steady.data (Only.foldl_2 (fun _ _ h3 => Only.ite_2 h3 (spdoRun_steady h3)) h))

theorem sapSetPs_steady {p v s} (h : Steady s0 s) : Steady s0 (sapSetPs p v s) := by
  unfold sapSetPs
  exact State.setFld_steady h

theorem sapShow_steady {p s} (h : Steady s0 s) : Steady s0 (sapShow p s) := by
  unfold sapShow
  exact Only.branch (State.setOn_steady (State.setOn_steady h)) (fun h1 => (Only.when (fun _ h2 => State.raise_steady h2) (sapSetPs_steady h1)))

theorem sapEvent_steady {p tx log s} (h : Steady s0 s) : Steady s0 (sapEvent p tx log s) := by
  unfold sapEvent
  exact sapShow_steady (Only.when (fun _ h1 => State.report_steady h1) (State.raise_steady (State.setPort_steady h)))

theorem sapConserve_steady {p log s} (h : Steady s0 s) : Steady s0 (sapConserve p log s) := by
  unfold sapConserve
  exact Keeps.share (State.setPort_steady (Only.when (fun _ h1 => State.report_steady h1) h)) fun h2 => (Only.ite (sapSetPs_steady h2)
    (sapEvent_steady (sapEvent_steady h2)))

theorem spdiSetPs_steady {n v s} (h : Steady s0 s) : Steady s0 (spdiSetPs n v s) := by
  unfold spdiSetPs
  exact State.setFld_steady h

theorem spdiConserve_steady {n log s} (h : Steady s0 s) : Steady s0 (spdiConserve n log s) := by
  unfold spdiConserve
  exact Only.ite h (Only.when (fun _ h2 => State.report_steady h2) (spdiSetPs_steady h))

theorem achShow_steady {k s} (h : Steady s0 s) : Steady s0 (achShow k s) := by
  unfold achShow
  exact Only.each (fun _ _ _ h1 => (Only.ite (State.setInt_steady (State.setFld_steady h1)) h1)) h

theorem srcConserve_steady {k s} (h : Steady s0 s) : Steady s0 (srcConserve k s) := by
  unfold srcConserve
  exact State.raise_steady (State.report_steady (State.bump_steady (achShow_steady (State.setXing_steady h))))

theorem srcChecks_steady {s} (h : Steady s0 s) : Steady s0 (srcChecks s) := by
  unfold srcChecks
  exact Only.eachOf (fun _ _ _ h1 => (Keeps.share (srcConserve_steady h1) fun h2 => (Only.ite h1 (Only.ite (sapConserve_steady h2) (Only.ite
    (sapConserve_steady h2) (Only.ite (spdiConserve_steady h2) h2)))))) h

theorem spdiSearch_steady {n s} (h : Steady s0 s) : Steady s0 (spdiSearch n s) := by
  unfold spdiSearch
  exact achShow_steady (State.setXing_steady (State.setFld_steady (spdiSetPs_steady (State.setSpdi_steady h))))

theorem spdiEvent_steady {n lost s} (h : Steady s0 s) : Steady s0 (spdiEvent n lost s) := by
  unfold spdiEvent
  exact Only.ite (spdiSetPs_steady (State.setSpdi_steady h)) (Only.ite (State.setSpdi_steady h) h)

theorem spdiHeld_steady {n k holds w s} (h : Steady s0 s) : Steady s0 (spdiHeld n k holds w s).2 := by
  unfold spdiHeld
  exact Only.ite_2 h (State.setSpdi_steady h)

theorem State.skipFree_steady {n s} (h : Steady s0 s) : Steady s0 (State.skipFree n s) := by
  unfold State.skipFree
  exact Steady.data h

theorem freeSample_steady {tag s} (h : Steady s0 s) : Steady s0 (freeSample tag s).2 := by
  unfold freeSample
  exact State.skipFree_steady h

theorem xingValue_steady {x slot id fs s} (h : Steady s0 s) : Steady s0 (xingValue x slot id fs s).2 := by
  unfold xingValue
  exact (Only.ite_2
      (by
        split
        · exact h
        · exact (freeSample_steady h)) (Only.ite_2 h (srcEngine_steady h)))

theorem spdiValues_steady {n fs c s} (h : Steady s0 s) : Steady s0 (spdiValues n fs c s) := by
  unfold spdiValues
  exact Only.when (fun _ h1 => State.setSpdi_steady h1) (Only.each (fun _ _ _ h2 => (Only.ite (State.produce_steady (spdiHeld_steady
    (xingValue_steady h2))) (State.produce_steady h2))) h)

theorem spdiRate_steady {n s} (h : Steady s0 s) : Steady s0 (spdiRate n s) := by
  unfold spdiRate
  exact Only.ite h (State.post_steady (State.setSpdi_steady (Only.when (fun _ h2 => State.skipFree_steady h2) h)))

theorem spdiRamp_steady {n fade s} (h : Steady s0 s) : Steady s0 (spdiRamp n fade s) := by
  unfold spdiRamp
  exact Keeps.share (State.setSpdi_steady h) fun h1 => (Only.ite (State.raise_steady (spdiSetPs_steady h1)) (spdiSetPs_steady h1))

theorem spdiAdvance_steady {n s} (h : Steady s0 s) : Steady s0 (spdiAdvance n s) := by
  unfold spdiAdvance
  exact Keeps.share (spdiSearch_steady (Only.when (fun _ h1 => State.setFld_steady h1) h)) fun h2 => (Keeps.share (spdiRamp_steady (Only.when (fun _
    h3 => State.setFld_steady h3) h)) fun h4 => (Keeps.share (Only.when (fun _ h5 => State.setFld_steady h5) h) fun h6 => (Only.ite (Only.ite
    (Only.ite h4 (spdiSetPs_steady h6)) h6) (Only.ite (Only.ite h4 h6) (Only.ite (Only.ite (Only.ite h4 (spdiSetPs_steady h6)) h6) (Only.ite
    (Only.ite (State.raise_steady (spdiSetPs_steady (State.setSpdi_steady h6))) h6) (Only.ite (Only.ite h6 (Only.ite h2 (State.setSpdi_steady
    (spdiSetPs_steady h6)))) (Only.ite (Only.ite h2 (Only.ite (spdiRamp_steady (State.setXing_steady h6)) h6)) h6))))))))

theorem spdiRun_steady {n s} (h : Steady s0 s) : Steady s0 (spdiRun n s) := by
  unfold spdiRun
  exact Only.when (fun _ h1 => spdiConserve_steady h1) (spdiRate_steady (spdiAdvance_steady (State.setXing_steady (spdiValues_steady
    (State.setSpdi_steady (Only.when (fun _ h2 => spdiEvent_steady h2) (State.setXing_steady h)))))))

theorem spdiOff_steady {n s} (h : Steady s0 s) : Steady s0 (spdiOff n s) := by
  unfold spdiOff
  exact State.setXing_steady (State.setFld_steady (State.setFld_steady (spdiSetPs_steady (State.setSpdi_steady h))))

theorem spdiTick_steady {s} (h : Steady s0 s) : Steady s0 (spdiTick s) := by
  unfold spdiTick
  exact Only.each (fun _ _ _ h1 => (Only.ite h1 (Only.ite (Only.ite h1 (spdiOff_steady h1)) (Only.ite (spdiSearch_steady h1) (spdiRun_steady h1)))))
    h

theorem ctlRamp_steady {s} (h : Steady s0 s) : Steady s0 (ctlRamp s) := by
  unfold ctlRamp
  exact Only.each (fun _ _ _ h1 => (Only.when (fun _ h2 => fchPut_steady h2) h1)) h

theorem sapWait_steady {p s} (h : Steady s0 s) : Steady s0 (sapWait p s) := by
  unfold sapWait
  exact Only.eachOf (fun _ _ _ h1 => State.produce_steady h1) h

theorem sapCross_steady {p s} (h : Steady s0 s) : Steady s0 (sapCross p s) := by
  unfold sapCross
  exact achShow_steady (achShow_steady (State.setXing_steady (State.setXing_steady h)))

theorem sapDrive_steady {p s} (h : Steady s0 s) : Steady s0 (sapDrive p s) := by
  unfold sapDrive
  exact sapShow_steady (sapSetPs_steady (State.setPort_steady (sapCross_steady (State.setFld_steady h))))

theorem sapDriveFrom_steady {p m s} (h : Steady s0 s) : Steady s0 (sapDriveFrom p m s) := by
  unfold sapDriveFrom
  exact Only.ite (sapDrive_steady h) (State.setPort_steady h)

theorem sapSend_steady {p live s} (h : Steady s0 s) : Steady s0 (sapSend p live s) := by
  unfold sapSend
  exact State.setPort_steady h

theorem sapSendZero_steady {p s} (h : Steady s0 s) : Steady s0 (sapSendZero p s) := by
  unfold sapSendZero
  exact State.setPort_steady h

theorem sapTxTick_steady {p s} (h : Steady s0 s) : Steady s0 (sapTxTick p s) := by
  unfold sapTxTick
  exact Keeps.share (xingMake_steady h) fun h1 => (Only.ite (Only.when (fun _ h4 => sapSendZero_steady h4) h) (Only.ite h (Only.ite (Only.eachOf
    (fun _ _ _ h8 => sapSend_steady h8) h1) (Only.eachOf (fun _ _ _ h9 => (Only.ite (sapEvent_steady (State.bump_steady (State.setXing_steady h9)))
    (State.setXing_steady h9))) h1))))

theorem sapReturn_steady {p s} (h : Steady s0 s) : Steady s0 (sapReturn p s) := by
  unfold sapReturn
  exact Only.ite h (Only.ite (Only.ite (sapShow_steady (sapSetPs_steady (State.setPort_steady h))) h) (Only.ite h (sapShow_steady
    (State.setPort_steady (Only.when (fun _ h6 => State.setXing_steady h6) (Only.when (fun _ h7 => State.setXing_steady h7) h))))))

theorem sapRate_steady {p s} (h : Steady s0 s) : Steady s0 (sapRate p s) := by
  unfold sapRate
  exact Only.ite h (State.post_steady (State.setPort_steady (Only.when (fun _ h2 => State.skipFree_steady h2) h)))

theorem sapDivider_steady {p m s} (h : Steady s0 s) : Steady s0 (sapDivider p m s) := by
  unfold sapDivider
  exact Only.when (fun _ h1 => Steady.data h1) h

theorem sapHeld_steady {p k holds w s} (h : Steady s0 s) : Steady s0 (sapHeld p k holds w s).2 := by
  unfold sapHeld
  exact Only.ite_2 h (State.setPort_steady h)

theorem sapRxTick_steady {p s} (h : Steady s0 s) : Steady s0 (sapRxTick p s) := by
  unfold sapRxTick
  exact Only.ite (Only.eachOf (fun _ _ _ h3 => State.produce_steady h3) (Only.when (fun _ h4 => State.setXing_steady h4) h)) (State.setXing_steady
    (State.setPort_steady (Only.eachOf (fun _ _ _ h5 => (State.produce_steady (sapHeld_steady (xingValue_steady h5)))) (State.setPort_steady
    (Only.branchR (State.setXing_steady (Only.ite_2 (State.skipFree_steady h) h)) (fun h7 => sapEvent_steady (State.bump_steady h7)))))))

theorem sapRun_steady {p s} (h : Steady s0 s) : Steady s0 (sapRun p s) := by
  unfold sapRun
  exact sapDivider_steady (Only.when (fun _ h1 => sapDriveFrom_steady h1) (Only.when (fun _ h2 => sapConserve_steady h2) (sapRate_steady
    (sapReturn_steady (State.setXing_steady (State.setXing_steady (sapTxTick_steady (sapRxTick_steady h))))))))

theorem sapStart_steady {p sense s} (h : Steady s0 s) : Steady s0 (sapStart p sense s) := by
  unfold sapStart
  exact State.setFld_steady (State.setFld_steady (State.setFld_steady (sapSetPs_steady (State.setXing_steady (State.setXing_steady
    (State.setPort_steady h))))))

theorem sapStop_steady {p s} (h : Steady s0 s) : Steady s0 (sapStop p s) := by
  unfold sapStop
  exact State.setFld_steady (State.setFld_steady (State.setFld_steady (sapSetPs_steady (State.setXing_steady (State.setXing_steady
    (State.setPort_steady h))))))

theorem sapTick_steady {s} (h : Steady s0 s) : Steady s0 (sapTick s) := by
  unfold sapTick
  exact Only.each (fun _ _ _ h1 => (Only.ite h1 (Only.ite (Only.ite h1 (sapStop_steady h1)) (Only.ite (Only.ite (sapWait_steady h1) (sapStart_steady
    h1)) (sapRun_steady h1))))) h

theorem srcBufEcc_steady {chan age fatal s} (h : Steady s0 s) : Steady s0 (srcBufEcc chan age fatal s) := by
  unfold srcBufEcc
  exact Only.ite (State.bump_steady h) (State.report_steady (Only.when (fun _ h3 => State.setXing_steady h3) h))

theorem State.setBus_steady {b x s} (h : Steady s0 s) : Steady s0 (State.setBus b x s) := by
  unfold State.setBus
  exact Steady.data h

theorem mixLate_steady {s} (h : Steady s0 s) : Steady s0 (mixLate s) := by
  unfold mixLate
  exact (Only.eachOf
      (fun _ _ _ h1 =>
        (by
          split
          · exact h1
          · exact (State.setFld_steady (State.setBus_steady h1))))
      (Steady.data h))

theorem glideHold_steady {s} (h : Steady s0 s) : Steady s0 (glideHold s) := by
  unfold glideHold
  exact Steady.data (mixLate_steady h)

theorem tapHold_steady {t s} (h : Steady s0 s) : Steady s0 (tapHold t s) := by
  unfold tapHold
  exact Only.when (fun _ h1 => Steady.data h1) h

theorem fxHold_steady {s} (h : Steady s0 s) : Steady s0 (fxHold s) := by
  unfold fxHold
  exact Steady.data (Only.eachOf (fun _ _ _ h1 => tapHold_steady h1) h)

theorem netPurge_steady {p q s} (h : Steady s0 s) : Steady s0 (netPurge p q s) := by
  unfold netPurge
  exact Only.ite h (qPass_steady (State.setPrt_only steady_net h))

theorem portDrain_steady {p s} (h : Steady s0 s) : Steady s0 (portDrain p s) := by
  unfold portDrain
  exact Only.each (fun _ _ _ h1 => (Only.ite h1 (State.bumpBy_steady (Only.each (fun _ _ _ h3 => qPass_steady h3) (netPurge_steady h1))))) h

theorem portSetTok_steady {p c v s} (h : Steady s0 s) : Steady s0 (portSetTok p c v s) := by
  unfold portSetTok
  exact State.setPrt_only steady_net h

theorem portFill_steady {p s} (h : Steady s0 s) : Steady s0 (portFill p s) := by
  unfold portFill
  exact Only.each (fun _ _ _ h1 => Only.ite h1 (portSetTok_steady h1)) h

theorem netRelease_steady {p s} (h : Steady s0 s) : Steady s0 (netRelease p s) := by
  unfold netRelease
  exact Only.ite h (State.setFld_steady h)

theorem netAbort_steady {p q express s} (h : Steady s0 s) : Steady s0 (netAbort p q express s) := by
  unfold netAbort
  exact qCancel_onlyQueue allQueue steady_qmg (Steady.data (State.setPrt_only steady_net h))

theorem netGiveUp_steady {p q express s} (h : Steady s0 s) : Steady s0 (netGiveUp p q express s) := by
  unfold netGiveUp
  exact State.bump_steady (netAbort_steady h)

theorem netCopy_steady {p c s} (h : Steady s0 s) : Steady s0 (netCopy p c s) := by
  unfold netCopy
  exact Only.ite (State.setPrt_only steady_net h) (Only.branch (qSubmit_onlyQueue allQueue steady_qmg steady_backs h) (fun h3 => Only.ite
    (netGiveUp_steady h3) (State.setPrt_only steady_net h3)))

theorem netRetry_steady {p s} (h : Steady s0 s) : Steady s0 (netRetry p s) := by
  unfold netRetry
  exact Only.eachOf (fun _ _ _ h1 => (Only.ite h1 (Only.ite h1 (State.setPrt_only steady_net (netCopy_steady (State.setPrt_only steady_net h1))))))
    (State.setPrt_only steady_net h)

theorem netTick_steady {s} (h : Steady s0 s) : Steady s0 (netTick s) := by
  unfold netTick
  exact Only.each (fun _ _ _ h1 => (Only.branch (netRelease_steady (netRetry_steady (portFill_steady (Only.when (fun _ h3 => portLinkDown_only
    allNet steady_net h3) h1)))) (fun h2 => portDrain_steady (portLose_only allNet steady_net h2)))) h

theorem jackStart_steady {j s} (h : Steady s0 s) : Steady s0 (jackStart j s) := by
  unfold jackStart
  exact jackSetThr_steady (State.setFld_steady (State.setFld_steady (State.setFld_steady (State.setJk_steady (jackUndecide_steady h)))))

theorem jackTick_steady {s} (h : Steady s0 s) : Steady s0 (jackTick s) := by
  unfold jackTick
  exact jackFollowAll_steady (Only.each (fun _ _ _ h1 => State.setBind_steady h1) (Only.branchR (Steady.data (Only.branch (Steady.data h) (fun h4 =>
    (Only.when (fun _ h5 => State.raise_steady (State.bump_steady h5)) (qWriteSig_onlyQueue allQueue steady_qmg steady_backs h4))))) (fun h3 =>
    (Only.each (fun _ _ _ h6 => (Only.when (fun _ h7 => jackStart_steady h7) h6)) h3))))

theorem ctrlTake_steady {n k acc s} (h : Steady s0 s) : Steady s0 (ctrlTake n k acc s).2 := by
  induction k generalizing acc s with
  | zero => exact h
  | succ k ih =>
    unfold ctrlTake
    dsimp only
    split
    · exact h
    · exact .ite_2 h (.ite_2 (ih (State.bump_steady (qPass_steady h))) (.ite_2 h (ih (qPass_steady h))))

theorem zklLink_steady {n s} (h : Steady s0 s) : Steady s0 (zklLink n s) := by
  unfold zklLink
  dsimp only
  split
  · exact h
  · exact (State.setZtx_steady
        (Only.when (fun _ h1 => (State.bump_steady h1)) (Only.eachOf (fun _ _ _ h2 => (State.bump_steady (qClose_onlyQueue allQueue steady_qmg h2)))
          h)))

theorem zklPut_steady {n p frame s} (h : Steady s0 s) : Steady s0 (zklPut n p frame s).1 := by
  unfold zklPut
  exact Only.ite_1 h (qWrite_onlyQueue allQueue steady_qmg steady_backs h)

theorem zklAssemble_steady {n d0 vals s} (h : Steady s0 s) : Steady s0 (zklAssemble n d0 vals s) := by
  unfold zklAssemble
  exact Keeps.share (State.setFld_steady (zklLink_steady h)) fun h1 => (State.setZtx_steady (Only.foldl_1 (fun _ _ h2 => (Keeps.share (zklPut_steady
    h2) fun h3 => Only.ite_1 h3 (State.bump_steady h3))) (Only.ite_2 (ctrlTake_steady h1) h1)))

theorem ztxTick_steady {n s} (h : Steady s0 s) : Steady s0 (ztxTick n s) := by
  unfold ztxTick
  exact Only.ite h (Only.ite h (Only.branchR (State.setZtx_steady h) (fun h4 => zklAssemble_steady h4)))

theorem zrxValues_steady {r k bad s} (h : Steady s0 s) : Steady s0 (zrxValues r k bad s) := by
  unfold zrxValues
  exact Only.when (fun _ h1 => State.report_steady h1) (Only.each (fun _ _ _ h2 => State.produce_steady h2) (State.setZrx_steady h))

theorem zrxBegin_steady {r d0 s} (h : Steady s0 s) : Steady s0 (zrxBegin r d0 s) := by
  unfold zrxBegin
  dsimp only
  split
  · exact State.setFld_steady (State.setZrx_steady h)
  · exact (Only.ite
        h
        (Only.branch
          (State.bump_steady h)
          (fun h2 =>
            (Only.ite
              (State.setFld_steady h2)
              (Only.ite (State.raise_steady (State.report_steady (State.setFld_steady (State.setZrx_steady h2)))) h2)))))

theorem zrxTick_steady {bad r s} (h : Steady s0 s) : Steady s0 (zrxTick bad r s) := by
  unfold zrxTick
  exact (Only.ite
      h
      (by
        split
        · exact (Only.ite h (zrxValues_steady h))
        · exact (Only.branch (Only.ite (zrxBegin_steady h) h) (fun h3 => (zrxValues_steady h3)))))

theorem zklTick_steady {bad s} (h : Steady s0 s) : Steady s0 (zklTick bad s) := by
  unfold zklTick
  exact Only.each (fun _ _ _ h1 => zrxTick_steady h1) (Only.each (fun _ _ _ h2 => ztxTick_steady h2) h)

theorem dlWrite_steady {k x s} (h : Steady s0 s) : Steady s0 (dlWrite k x s) := by
  unfold dlWrite
  exact Only.ite h (State.dropBack_steady (Steady.data h))

theorem State.setFxEng_steady {e x s} (h : Steady s0 s) : Steady s0 (State.setFxEng e x s) := by
  unfold State.setFxEng
  exact Steady.data h

theorem fxPut_steady {e src w s} (h : Steady s0 s) : Steady s0 (fxPut e src w s) := by
  unfold fxPut
  exact State.produce_steady (State.setFxEng_steady h)

theorem dlTick_steady {k s} (h : Steady s0 s) : Steady s0 (dlTick k s) := by
  unfold dlTick
  exact dlWrite_steady (Only.each (fun _ _ _ h1 => (Only.ite (fxPut_steady (State.setFld_steady (Steady.data (Only.when (fun _ h3 => tapHold_steady
    h3) h1)))) h1)) (fxPut_steady h))

theorem sectSave_steady {l s} (h : Steady s0 s) : Steady s0 (sectSave l s) := by
  unfold sectSave
  exact Steady.data h

theorem bqTick_steady {n s} (h : Steady s0 s) : Steady s0 (bqTick n s) := by
  unfold bqTick
  exact fxPut_steady (Steady.data (Only.branch (Only.when (fun _ h2 => State.bump_steady h2) h) (fun h1 => sectSave_steady h1)))

theorem State.setDyn_steady {p x s} (h : Steady s0 s) : Steady s0 (State.setDyn p x s) := by
  unfold State.setDyn
  exact Steady.data h

theorem dynTick_steady {p s} (h : Steady s0 s) : Steady s0 (dynTick p s) := by
  unfold dynTick
  exact Only.eachOf (fun _ _ _ h1 => (Only.branch (fxPut_steady (Only.ite h1 (State.setDyn_steady h1))) (fun h2 => State.setDyn_steady
    (State.post_steady h2)))) h

theorem convPart_steady {c w s} (h : Steady s0 s) : Steady s0 (convPart c w s).2 := by
  unfold convPart
  exact Only.ite_2 (State.setFxEng_steady h) h

theorem State.setConv_steady {c x s} (h : Steady s0 s) : Steady s0 (State.setConv c x s) := by
  unfold State.setConv
  exact Steady.data h

theorem convTick_steady {c s} (h : Steady s0 s) : Steady s0 (convTick c s) := by
  unfold convTick
  exact fxPut_steady (State.setConv_steady (convPart_steady h))

theorem glideMend_steady {s} (h : Steady s0 s) : Steady s0 (glideMend s) := by
  unfold glideMend
  exact (Only.eachOf
      (fun _ _ _ h1 =>
        (by
          split
          · exact (Only.when (fun _ h2 => (Steady.data h2)) h1)
          · exact h1))
      h)

theorem busTick_steady {b s} (h : Steady s0 s) : Steady s0 (busTick b s) := by
  unfold busTick
  exact State.setFld_steady (State.setBus_steady (State.produce_steady (Steady.data (Only.when (fun _ h1 => State.raise_steady (State.bump_steady
    h1)) h))))

theorem glideSteps_steady {s} (h : Steady s0 s) : Steady s0 (glideSteps s) := by
  unfold glideSteps
  exact (Only.eachOf
      (fun _ _ _ h1 =>
        (by
          split
          · exact h1
          · exact (Only.ite h1 (State.setFld_steady (Steady.data h1)))))
      h)

theorem mixTick_steady {s} (h : Steady s0 s) : Steady s0 (mixTick s) := by
  unfold mixTick
  exact mixLate_steady (Steady.data (glideMend_steady (Only.eachOf (fun _ _ _ h1 => busTick_steady h1) (glideSteps_steady h))))

theorem State.setShaper_steady {x0 x s} (h : Steady s0 s) : Steady s0 (State.setShaper x0 x s) := by
  unfold State.setShaper
  exact Steady.data h

theorem shTick_steady {x0 s} (h : Steady s0 s) : Steady s0 (shTick x0 s) := by
  unfold shTick
  exact fxPut_steady (State.setShaper_steady h)

theorem fxNode_steady {src s} (h : Steady s0 s) : Steady s0 (fxNode src s) := by
  unfold fxNode
  exact Only.ite (mixTick_steady h) (Only.ite (Only.ite (bqTick_steady h) h) (Only.ite (Only.ite (dynTick_steady h) h) (Only.ite (Only.ite
    (dlTick_steady h) h) (Only.ite (Only.ite (convTick_steady h) h) (Only.ite (shTick_steady h) h)))))

theorem lfoTick_steady {s} (h : Steady s0 s) : Steady s0 (lfoTick s) := by
  unfold lfoTick
  exact Only.each (fun _ _ _ h1 => (Only.ite (State.produce_steady h1) (State.produce_steady (Steady.data h1)))) h

theorem dynFeed_steady {s} (h : Steady s0 s) : Steady s0 (dynFeed s) := by
  unfold dynFeed
  exact Only.each (fun _ _ _ h1 => Only.ite (State.setDyn_steady h1) h1) h

theorem nodesTick_steady {s} (h : Steady s0 s) : Steady s0 (nodesTick s) := by
  unfold nodesTick
  exact Steady.own (Only.when (fun _ h1 => State.bump_steady h1) (dynFeed_steady (Only.eachOf (fun _ _ _ h2 => fxNode_steady h2) (lfoTick_steady
    h))))

theorem mixErrors_steady {bad fixed s} (h : Steady s0 s) : Steady s0 (mixErrors bad fixed s) := by
  unfold mixErrors
  exact Only.eachOf (fun _ _ _ h1 => (Only.ite (State.raise_steady (State.report_steady (State.post_steady h1))) h1)) (Steady.data
    (State.bumpBy_steady h))

theorem State.setQst_steady {k x s} (h : Steady s0 s) : Steady s0 (State.setQst k x s) := by
  unfold State.setQst
  exact Steady.data h

theorem qsFrameOut_steady {k f s} (h : Steady s0 s) : Steady s0 (qsFrameOut k f s) := by
  unfold qsFrameOut
  exact Only.branch (State.setQst_steady (Only.ite_1 (Only.when (fun _ h4 => qClose_onlyQueue allQueue steady_qmg h4) h) (qWrite_onlyQueue allQueue
    steady_qmg steady_backs h))) (fun h1 => (Only.when (fun _ h5 => State.report_steady h5) (State.raise_steady (State.bump_steady h1))))

theorem qsOutward_steady {k s} (h : Steady s0 s) : Steady s0 (qsOutward k s) := by
  unfold qsOutward
  exact Only.eachOf (fun _ _ _ h1 => qsFrameOut_steady h1) (xingMake_steady h)

theorem qReadWords_steady {q n s} (h : Steady s0 s) : Steady s0 (qReadWords q n s).2 := by
  induction n generalizing s with
  | zero => exact h
  | succ n ih =>
    unfold qReadWords
    split
    · exact h
    · exact .ite_2 h (ih (qAdvance_steady h))

theorem qsIn_steady {k s} (h : Steady s0 s) : Steady s0 (qsIn k s) := by
  unfold qsIn
  exact Keeps.share (Only.when (fun _ h1 => (State.report_steady (State.raise_steady (State.bump_steady h1)))) h) fun h2 => (Only.each (fun _ _ _ h3
    => (Only.ite (State.produce_steady h3) (State.setQst_steady (State.produce_steady (xingValue_steady h3))))) (State.setQst_steady
    (State.setXing_steady (Only.ite_2_2 (qReadWords_steady h2) h2))))

theorem qsTick_steady {s} (h : Steady s0 s) : Steady s0 (qsTick s) := by
  unfold qsTick
  exact Only.each (fun _ _ _ h1 => (Only.ite h1 (Only.ite (qsOutward_steady h1) (qsIn_steady h1)))) h

theorem micbTick_steady {s} (h : Steady s0 s) : Steady s0 (micbTick s) := by
  unfold micbTick
  exact Only.each (fun _ _ _ h1 => Steady.data h1) h

theorem tickFinish_steady {w s} (h : Steady s0 s) : Steady s0 (tickFinish w s) := by
  unfold tickFinish
  exact Keeps.share (spdoTick_steady (spdiTick_steady (sapTick_steady (tickCounts_steady (Only.eachOf (fun _ _ _ h1 => srcBufEcc_steady h1)
    (Only.eachOf (fun _ _ _ h2 => qTableError_steady h2) (Only.eachOf (fun _ _ _ h3 => fchHistory_steady h3) (mixErrors_steady (tickQuires_steady
    h))))))))) fun h4 => (tickScrub_steady (zklTick_steady (netTick_steady (jackTick_steady (evFlush_steady (Steady.data (Only.when (fun _ h5 =>
    ctlRamp_steady h5) (srcTick_steady (srcProbe_steady (micbTick_steady (Only.when (fun _ h6 => micTick_steady h6) (Only.ite (nodesTick_steady
    (srcChecks_steady (qsTick_steady h4))) (fxHold_steady (glideHold_steady h4))))))))))))))

theorem linkTick_steady {s} (h : Steady s0 s) : Steady s0 (linkTick s) := by
  unfold linkTick
  exact Only.each (fun _ _ _ h1 => Steady.data h1) h

end

end Sys2Proof.Machine

/-!
A tick boundary and a take point (R44, R45, R20, R22-R24, R479).
-/

namespace Sys2Proof.Machine

section

variable {s : State}

/-! The boundary of a tick. -/

/-- The cycle count and the tick from which the ports answer. -/
def clockOf (s : State) : Nat × Nat := (s.cyc, s.clk.portsTick)

theorem Steady.clock {s0 : State} (h : Steady s0 s) : Only (fun _ => True) clockOf s0 s :=
  ⟨h.word, congrArg (fun x => (x.1, x.2.2.1)) h.rest⟩

theorem Steady.eq {s0 : State} (h : Steady s0 s) : steady s = steady s0 := h.same fun _ => rfl

theorem Steady.cyc {s0 : State} (h : Steady s0 s) : s.cyc = s0.cyc := congrArg (·.1) h.eq
theorem Steady.spine {s0 : State} (h : Steady s0 s) : s.spine = s0.spine := congrArg (·.2.1) h.eq
theorem Steady.portsTick {s0 : State} (h : Steady s0 s) : s.clk.portsTick = s0.clk.portsTick := congrArg (·.2.2.1) h.eq

theorem spnMiss_clock {src block : Nat} {old s0 : State} (h : Only (fun _ => True) clockOf s0 s) :
    Only (fun _ => True) clockOf s0 (spnMiss src block old s) := by
  unfold spnMiss
  exact State.raise_only trivial (State.report_only (fun _ _ => rfl) (State.setFld_only trivial (State.bump_only trivial trivial
    (h.update rfl rfl))))

theorem tickMisses_clock (w : TickIn) (old s : State) : clockOf (tickMisses w old s) = clockOf s := by
  have hmiss : Only (fun _ => True) clockOf s (s.eachOf w.missed (fun n s => spnMiss n (srcBlock n) old s)) :=
    .eachOf (fun _ _ _ h => spnMiss_clock h) (.refl s)
  have herr := hmiss.trans (spnErrors_steady (errs := w.slots) (fixed := w.slotsFixed) (old := old) (.refl _)).clock
  refine Only.same (s0 := s) (ws := fun _ => True) ?_ fun _ => rfl
  unfold tickMisses
  exact .when (fun _ h => h.trans (spnTaps_steady (.refl _)).clock) herr

theorem tickMisses_cyc (w : TickIn) (old s : State) : (tickMisses w old s).cyc = s.cyc := congrArg Prod.fst (tickMisses_clock w old s)

theorem tickMisses_portsTick (w : TickIn) (old s : State) : (tickMisses w old s).clk.portsTick = s.clk.portsTick :=
  congrArg Prod.snd (tickMisses_clock w old s)

theorem tickMisses_tick (w : TickIn) (old s : State) : (tickMisses w old s).tick = s.tick :=
  congrArg Shell.tick (tickMisses_keeps (w := w) (old := old) (Keeps.refl s)).shell

theorem tickMisses_ports (w : TickIn) (old s : State) : (tickMisses w old s).ports = s.ports :=
  congrArg Shell.ports (tickMisses_keeps (w := w) (old := old) (Keeps.refl s)).shell

/-- With no producer late and no slot damaged the values stand as they were promoted. -/
theorem tickMisses_steady {w : TickIn} (old : State) (h : w.missed = []) : Steady s (tickMisses w old s) := by
  unfold tickMisses
  rw [h]
  exact .when (fun _ h => spnTaps_steady h) (spnErrors_steady (.refl s))

theorem tickStart_steady (w : TickIn) (s : State) : Steady s (tickStart w s) := by
  have hports {u : State} (h : Steady s u) : Steady s (tickPorts u) := by
    unfold tickPorts
    exact .ite h (portsLog_steady (h.update rfl rfl))
  unfold tickStart
  exact fltTick_steady (hports (tickWork_steady (.refl s)))

/-- The ports answer from their tick on (R479). -/
theorem tickStart_ports (w : TickIn) (s : State) : (tickStart w s).ports = (s.ports || decide (s.clk.portsTick ≤ s.tick)) := by
  have hwork := tickWork_keeps (w := w) (Keeps.refl s)
  have hshell := congrArg Shell.ports (tickPorts_shell (tickWork w s))
  have hfrom : (tickWork w s).clk.portsTick = s.clk.portsTick := (tickWork_steady (w := w) (.refl s)).portsTick
  refine (congrArg Shell.ports (fltTick_keeps (Keeps.refl (tickPorts (tickWork w s)))).shell).trans (hshell.trans ?_)
  rw [hfrom, show (tickWork w s).tick = s.tick from congrArg Shell.tick hwork.shell]
  change ((tickWork w s).ports || _) = _
  rw [show (tickWork w s).ports = s.ports from congrArg Shell.ports hwork.shell]

theorem tickStart_tick (w : TickIn) (s : State) : (tickStart w s).tick = s.tick :=
  (congrArg Shell.tick (fltTick_keeps (Keeps.refl _)).shell).trans ((congrArg Shell.tick (tickPorts_shell _)).trans
    (congrArg Shell.tick (tickWork_keeps (w := w) (Keeps.refl s)).shell))

/-- The state as the new tick begins, its values promoted. -/
def tickBegin (w : TickIn) (s : State) : State := { tickPromote (linkTick (tickFinish w s)) with tick := s.tick + 1, cyc := 0 }

theorem completes_tickBoundary {w : TickIn} {P : State → Prop} (hr : s.phase = .running) :
    Completes (execTickBoundary w s) P ↔ P (tickStart w (tickMisses w (tickFinish w s) (tickBegin w s))) := by
  unfold execTickBoundary
  rw [State.when_of (by rw [hr]; rfl), completes_next]
  rfl

theorem tickBegin_cyc (w : TickIn) (s : State) : (tickBegin w s).cyc = 0 := rfl
theorem tickBegin_tick (w : TickIn) (s : State) : (tickBegin w s).tick = s.tick + 1 := rfl

theorem tickBegin_ports (w : TickIn) (s : State) : (tickBegin w s).ports = s.ports :=
  congrArg Shell.ports (tickPromote_keeps (linkTick_keeps (tickFinish_keeps (w := w) (Keeps.refl s)))).shell

theorem tickBegin_from (w : TickIn) (s : State) : (tickBegin w s).clk.portsTick = s.clk.portsTick :=
  (linkTick_steady (tickFinish_steady (w := w) (.refl s))).portsTick

/-- The dies' counts change nothing else. -/
theorem linkTick_next (s : State) : (linkTick s).next = s.next := rfl
theorem linkTick_on (f : Fld) (s : State) : (linkTick s).on f = s.on f := rfl
theorem linkTick_lostC (s : State) : (linkTick s).clk.lostC = s.clk.lostC := rfl

theorem linkTick_realigned (s : State) :
    SMap.get (fun _ => false) (linkTick s).link.realigned 0 = SMap.get (fun _ => false) s.link.adopt 0 :=
  (SMap.get_set_other _ _ _ (by decide)).trans (SMap.get_set_same ..)

theorem tickPromote_spine (hp : s.on F.FLT_STAT_PARTWIDE = false) (hl : s.clk.lostC = false)
    (hr : SMap.get (fun _ => false) s.link.realigned 0 = false) : (tickPromote s).spine = s.next := by
  unfold tickPromote
  dsimp only
  rw [hp, hl, hr]
  rfl

theorem tickBegin_spine {w : TickIn} (hp : (tickFinish w s).on F.FLT_STAT_PARTWIDE = false) (hl : (tickFinish w s).clk.lostC = false)
    (ha : SMap.get (fun _ => false) (tickFinish w s).link.adopt 0 = false) : (tickBegin w s).spine = (tickFinish w s).next := by
  change (tickPromote (linkTick (tickFinish w s))).spine = _
  generalize tickFinish w s = u at *
  rw [tickPromote_spine (by rw [linkTick_on, hp]) (by rw [linkTick_lostC, hl]) (by rw [linkTick_realigned, ha]), linkTick_next]

/-! The take point. -/

/-- The cycle count, and what direction `e` last took. -/
def tookOf (e : Nat) (s : State) : Nat × List Quire × Nat × Nat := (s.cyc, (s.dir e).data, (s.dir e).subst, (s.dir e).applied)

theorem Steady.took {s0 : State} (h : Steady s0 s) (e : Nat) : tookOf e s = tookOf e s0 := by
  have hd : ((s.dir e).data, (s.dir e).subst, (s.dir e).applied) = ((s0.dir e).data, (s0.dir e).subst, (s0.dir e).applied) :=
    congrFun (congrArg (·.2.2.2) h.eq) e
  rw [tookOf, tookOf, h.cyc, hd]

/-- A direction whose link runs takes its bursts of the tick before: what it took, and what is counted (R22-R24). -/
theorem linkTake_took {d : Nat} (hr : linkRuns (d / 2) s = true) (hs : linkSupplied (d / 2) s = true) (hd : (s.dir d).due ≤ s.tick) :
    ∃ y : LinkDir, Steady (s.setDir d y) (linkTake d s).2 ∧
      (∀ b, (s.dir d).got.find? (fun b => b.ctl == false && b.tick + 1 == s.tick) = some b → y.data = b.quires) ∧
      ((s.dir d).got.find? (fun b => b.ctl == false && b.tick + 1 == s.tick) = none →
        y.data = (s.dir d).data ∧ y.subst = (s.dir d).subst + 1) ∧
      (∀ b, (s.dir d).got.find? (fun b => b.ctl == true && b.tick + 1 == s.tick) = some b →
        y.applied = (s.dir d).applied + (linkNew (s.dir d) b).length) := by
  unfold linkTake
  dsimp only
  rw [if_neg (by rw [hr, hs, decide_eq_false (by omega)]; decide)]
  have hput {c : Bool} {y : LinkDir} : Steady (s.setDir d y) ((s.setDir d y).when c (State.bump (F.FLT_LINK_A_LINK_SUBST d) (F.FLT_LINK_A_SB_SAT d))) :=
    .when (fun _ h => State.bump_steady h) (.refl _)
  refine ⟨_, .ite (linkDown_steady hput) (.ite (linkDown_steady hput) hput), fun b hb => ?_, fun hb => ?_, fun b hb => ?_⟩
  · rw [hb]
  · rw [hb]; exact ⟨rfl, rfl⟩
  · rw [hb]
    split <;> rfl

/-- A direction that takes its bursts leaves what the others took. -/
theorem linkTake_other {d e : Nat} (h : e ≠ d) (s : State) : tookOf e (linkTake d s).2 = tookOf e s := by
  have hset (y : LinkDir) : tookOf e (s.setDir d y) = tookOf e s := by
    rw [tookOf, State.dir_setDir, if_neg h]
    rfl
  by_cases hr : linkRuns (d / 2) s = true ∧ linkSupplied (d / 2) s = true ∧ (s.dir d).due ≤ s.tick
  · obtain ⟨y, hy, -⟩ := linkTake_took hr.1 hr.2.1 hr.2.2
    exact (hy.took e).trans (hset y)
  · have hno : (!linkRuns (d / 2) s || !linkSupplied (d / 2) s || decide (s.tick < (s.dir d).due)) = true := by
      refine Decidable.byContradiction fun hc => ?_
      simp only [Bool.or_eq_true, Bool.not_eq_true', decide_eq_true_eq, not_or, Bool.not_eq_false, Nat.not_lt] at hc
      exact hr ⟨hc.1.1, hc.1.2, hc.2⟩
    unfold linkTake
    dsimp only
    rw [if_pos hno]

/-- A link that goes down leaves the directions of the other one. -/
theorem linkDown_dir {d e code : Nat} (h : e / 2 ≠ d / 2) (s : State) : (linkDown d code s).dir e = s.dir e := by
  have hset {u : State} {k : Nat} {x : LinkDir} (hk : k ≠ e) (hu : Only (fun _ => True) (fun u => u.dir e) s u) :
      Only (fun _ => True) (fun u => u.dir e) s (u.setDir k x) :=
    hu.update rfl ((State.dir_setDir k e x { u with regs := [] }).trans (if_neg (Ne.symm hk)))
  have hlink {u : State} {w : SMap Bool} (hu : Only (fun _ => True) (fun u => u.dir e) s u) :
      Only (fun _ => True) (fun u => u.dir e) s { u with link := { u.link with wasDown := w } } := hu.update rfl rfl
  have hsvc {u : State} {v : SvcSt} (hu : Only (fun _ => True) (fun u => u.dir e) s u) :
      Only (fun _ => True) (fun u => u.dir e) s { u with svc := v } := hu.update rfl rfl
  refine Only.same (ws := fun _ => True) (E := fun u => u.dir e) ?_ fun _ => rfl
  unfold linkDown
  dsimp only
  refine .ite (.refl s) (logReport_only allLog (fun _ _ => rfl) (State.bump_only trivial trivial (.branchR (hlink (hset (by omega) (hset (by omega)
    (setLstate_only trivial trivial (.refl s))))) fun hu => hsvc hu)))

/-- What direction 2 holds and the state of link 1 stay. -/
def KeepsLinkOne (s u : State) : Prop := u.dir 2 = s.dir 2 ∧ Only (· ≠ Adr.FLT_LINK_B 2) (fun _ => ()) s u

theorem KeepsLinkOne.ite {P : Prop} [Decidable P] {a b : State} (ha : KeepsLinkOne s a) (hb : KeepsLinkOne s b) :
    KeepsLinkOne s (if P then a else b) := by split <;> assumption

/-- A direction of link 0 that takes its bursts leaves link 1 as it is. -/
theorem linkTake_apart {d : Nat} (hd : d < 2) (s : State) : (linkTake d s).2.dir 2 = s.dir 2 ∧ linkRuns 1 (linkTake d s).2 = linkRuns 1 s := by
  have hlog : LogRegs (· ≠ Adr.FLT_LINK_B 2) := ⟨by decide, by decide, by decide, by decide, by decide, by decide, by decide,
    fun p => by simp only [Adr.FLT_LINK_B]; omega⟩
  have hb : ∀ e < 2, Adr.FLT_LINK_B e ≠ Adr.FLT_LINK_B 2 := by decide
  have ha : Adr.FLT_LINK_A d ≠ Adr.FLT_LINK_B 2 := by simp only [Adr.FLT_LINK_A, Adr.FLT_LINK_B]; omega
  have hdown {u : State} {code : Nat} (h : KeepsLinkOne s u) : KeepsLinkOne s (linkDown d code u) :=
    ⟨(linkDown_dir (by omega) u).trans h.1, linkDown_only hlog (fun _ _ _ _ => rfl) (hb _ (by omega)) (hb _ (by omega)) h.2⟩
  have hput (y : LinkDir) (c : Bool) :
      KeepsLinkOne s ((s.setDir d y).when c (State.bump (F.FLT_LINK_A_LINK_SUBST d) (F.FLT_LINK_A_SB_SAT d))) := by
    refine ⟨?_, .when (fun _ h => State.bump_only ha ha h) (.update (.refl s) rfl rfl)⟩
    rw [State.when_keeps (fun u => u.dir 2) (f := State.bump (F.FLT_LINK_A_LINK_SUBST d) (F.FLT_LINK_A_SB_SAT d)) (State.bumpBy_dir ..),
      State.dir_setDir, if_neg (by omega)]
  have hall : KeepsLinkOne s (linkTake d s).2 := by
    unfold linkTake
    dsimp only
    split
    · exact ⟨rfl, .refl s⟩
    · exact .ite (hdown (hput ..)) (.ite (hdown (hput ..)) (hput ..))
  refine ⟨hall.1, ?_⟩
  rw [linkRuns, lstate, hall.2.fld (by simp [F.FLT_LINK_B_LSTATE]), linkRuns, lstate]

/-- The state with the bursts of every direction taken. -/
def takenAll (s : State) : State := (linkTake 3 (linkTake 2 (linkTake 1 (linkTake 0 s).2).2).2).2

/-- What a direction from the core die to a die holds once every direction has taken its bursts. -/
def TakenAs (d : Nat) (s : State) (y : LinkDir) : Prop :=
  (∀ b, (s.dir d).got.find? (fun b => b.ctl == false && b.tick + 1 == s.tick) = some b → y.data = b.quires) ∧
  ((s.dir d).got.find? (fun b => b.ctl == false && b.tick + 1 == s.tick) = none → y.data = (s.dir d).data ∧ y.subst = (s.dir d).subst + 1) ∧
  (∀ b, (s.dir d).got.find? (fun b => b.ctl == true && b.tick + 1 == s.tick) = some b →
    y.applied = (s.dir d).applied + (linkNew (s.dir d) b).length)

theorem TakenAs.congr {d : Nat} {u : State} {y : LinkDir} (hd : u.dir d = s.dir d) (ht : u.tick = s.tick) (h : TakenAs d u y) : TakenAs d s y := by
  rw [TakenAs, hd, ht] at h
  exact h

theorem tookOf_setDir (d : Nat) (y : LinkDir) (s : State) : tookOf d (s.setDir d y) = (s.cyc, y.data, y.subst, y.applied) := by
  rw [tookOf, State.dir_setDir, if_pos rfl]
  rfl

theorem linkTake_tick (d : Nat) (s : State) : (linkTake d s).2.tick = s.tick := congrArg Shell.tick (linkTake_keeps (Keeps.refl s)).shell

theorem linkTake_supplied (d l : Nat) (s : State) : linkSupplied l (linkTake d s).2 = linkSupplied l s := by
  rw [linkSupplied, show (linkTake d s).2.supplied = s.supplied from congrArg Shell.supplied (linkTake_keeps (Keeps.refl s)).shell, linkSupplied]

theorem takenAll_took {l : Nat} (hl : l < 2) (hr : linkRuns l s = true) (hs : linkSupplied l s = true) (hd : (s.dir (2 * l)).due ≤ s.tick) :
    ∃ y : LinkDir, TakenAs (2 * l) s y ∧ tookOf (2 * l) (takenAll s) = (s.cyc, y.data, y.subst, y.applied) := by
  obtain rfl | rfl : l = 0 ∨ l = 1 := by omega
  · obtain ⟨y, hy, hfacts⟩ := linkTake_took (d := 0) hr hs hd
    refine ⟨y, hfacts, ?_⟩
    rw [takenAll, linkTake_other (by decide), linkTake_other (by decide), linkTake_other (by decide), hy.took, tookOf_setDir]
  · obtain ⟨hd1, hr1⟩ := linkTake_apart (d := 0) (by decide) s
    obtain ⟨hd2, hr2⟩ := linkTake_apart (d := 1) (by decide) (linkTake 0 s).2
    have htick : (linkTake 1 (linkTake 0 s).2).2.tick = s.tick := by rw [linkTake_tick, linkTake_tick]
    have hcyc : (linkTake 1 (linkTake 0 s).2).2.cyc = s.cyc :=
      (congrArg Prod.fst (linkTake_other (d := 1) (e := 2) (by decide) _)).trans (congrArg Prod.fst (linkTake_other (d := 0) (e := 2) (by decide) s))
    have hdir := hd2.trans hd1
    obtain ⟨y, hy, hfacts⟩ := linkTake_took (d := 2) (s := (linkTake 1 (linkTake 0 s).2).2) ((hr2.trans hr1).trans hr)
      (by rw [linkTake_supplied, linkTake_supplied]; exact hs) (by rw [hdir, htick]; exact hd)
    refine ⟨y, TakenAs.congr hdir htick hfacts, ?_⟩
    rw [takenAll, linkTake_other (by decide), hy.took, tookOf_setDir, hcyc]

/-- What the consumers do with what was brought leaves it as it is. -/
theorem takePoint_steady {cyc : Fin 5120} {P : State → Prop} (hr : s.phase = .running)
    (h : ∀ t, Steady (takenAll (s.land (max 2048 cyc.val))) t → t.tick = s.tick → P t) : Completes (execTakePoint cyc s) P := by
  have htick (t : State) (e : execTakePoint cyc s = .next t) : t.tick = s.tick :=
    congrArg Shell.tick ((execTakePoint_keeps (cyc := cyc) (Keeps.refl s)).out t e).shell
  unfold execTakePoint at htick ⊢
  rw [State.when_of (by rw [hr]; rfl)] at htick ⊢
  rw [completes_next]
  refine h _ ?_ (htick _ rfl)
  dsimp only
  exact jackForces_steady (.each (fun _ _ _ h => thrForces_steady h) (.eachOf (fun _ _ _ h => coreTake_steady h) (takeConv_steady
    (.when (fun _ h => bstTake_steady (spkTake_steady h)) (.when (fun _ h => bstTakePower_steady h) (dieTake_steady (dieTake_steady (.refl _))))))))

/-- A take point of a direction from the core die, whose link runs. -/
theorem takePoint_took {cyc : Fin 5120} {l : Fin 2} {P : State → Prop} (hr : s.phase = .running) (hl : linkRuns l s = true)
    (hs : linkSupplied l s = true) (hd : (s.dir (2 * l)).due ≤ s.tick)
    (h : ∀ t y, TakenAs (2 * l) s y → t.tick = s.tick → tookOf (2 * l) t = (max s.cyc (max 2048 cyc), y.data, y.subst, y.applied) → P t) :
    Completes (execTakePoint cyc s) P := by
  refine takePoint_steady hr fun t ht htick => ?_
  obtain ⟨y, hy, htook⟩ := takenAll_took (s := s.land (max 2048 cyc.val)) l.isLt hl hs hd
  exact h t y hy htick ((ht.took _).trans htook)

end

end Sys2Proof.Machine

namespace Sys2Proof

open Machine


/-- Settles O17: a boundary's work leaves the cycle count and the tick from which the ports answer, and a take point's consumers leave what a
direction took; the values presented are those promoted where no producer is late. -/
theorem tickCommandsComplete : Obligations.TickCommandsComplete := by
  intro s hr
  refine ⟨?_, ?_, ?_, ?_, ?_⟩
  · intro w
    rw [exec, completes_tickBoundary hr]
    refine ⟨?_, ?_, ?_⟩
    · rw [tickStart_tick, tickMisses_tick, tickBegin_tick]
    · rw [(tickStart_steady w _).cyc, tickMisses_cyc, tickBegin_cyc]
    · rw [tickStart_ports, tickMisses_portsTick, tickMisses_ports, tickMisses_tick, tickBegin_from, tickBegin_ports, tickBegin_tick]
  · intro w hm _ hp hl ha
    rw [exec, completes_tickBoundary hr]
    refine (tickStart_steady w _).spine.trans ((tickMisses_steady (tickFinish w s) hm).spine.trans ?_)
    exact tickBegin_spine hp hl ha
  · intro cyc l b hl hs hd hb
    rw [exec]
    refine takePoint_took hr hl hs hd fun t y hy htick htook => ?_
    obtain ⟨hdata, -, -⟩ := hy
    rw [tookOf, Prod.mk.injEq, Prod.mk.injEq] at htook
    obtain ⟨hcyc, hq, -⟩ := htook
    exact ⟨htick, hcyc, hq.trans (hdata b hb)⟩
  · intro cyc l hl hs hd hb
    rw [exec]
    refine takePoint_took hr hl hs hd fun t y hy htick htook => ?_
    obtain ⟨-, hstale, -⟩ := hy
    obtain ⟨hdata, hsubst⟩ := hstale hb
    rw [tookOf, Prod.mk.injEq, Prod.mk.injEq, Prod.mk.injEq] at htook
    obtain ⟨-, hq, hn, -⟩ := htook
    exact ⟨hq.trans hdata, hn.trans hsubst⟩
  · intro cyc l b hl hs hd hb
    rw [exec]
    refine takePoint_took hr hl hs hd fun t y hy htick htook => ?_
    obtain ⟨-, -, happ⟩ := hy
    rw [tookOf, Prod.mk.injEq, Prod.mk.injEq, Prod.mk.injEq] at htook
    obtain ⟨-, -, -, ha⟩ := htook
    exact ha.trans (happ b hb)

end Sys2Proof
